-- ==== Sys2Proof/Word.lean ====
section
/-! DEFINITION. Sys2Proof/Word.lean: bytes, and the small types that the operands of commands and the state share. -/

namespace Sys2Proof

/-- A byte of a frame, a buffer or an object value. -/
abbrev Byte := BitVec 8

/-- Who performs an object access (R119, R124): a POA session, an object window, or a steward thread.
Steward threads hold the ADMIN role; a session or a window has a role of its own. -/
inductive Origin where
  /-- The POA session with this SESSION_ID. -/
  | session (id : Nat)
  /-- Object window 0 to 7. -/
  | window (w : Nat)
  /-- Steward thread 0 to 191. -/
  | steward (t : Nat)
  deriving DecidableEq, Repr

/-- The status codes of R151, and no others. -/
inductive Status where
  | ok | noObject | noSubindex | readOnly | writeOnly | typeMismatch | range | mode
  | staleHandle | busy | batchConflict | noResource | pairUnavailable | denied | schema | internal
  deriving DecidableEq, Repr

/-- The eight modes of R36 and R72. -/
inductive Mode where
  | dormant | bringup | proportional | spring | catchup | shadow | drain | diagnostic
  deriving DecidableEq, Repr

/-- What the device reads of one HBM stack over IEEE 1500 (R113): whether it answers, its wrapper data register, and the fields that
the register holds. -/
structure StackId where
  answers : Bool
  deviceId : List Byte
  manufacturer : Nat
  height : Nat
  capacityMib : Nat
  serial : List Byte
  deriving DecidableEq, Repr

/-- A write that REGISTER_WRITE carries (R117, R444, R445): a whole value for an object, or the bytes of one PCIe write at an offset
of a BAR. -/
inductive RegWrite where
  | object (o : Origin) (i j : Nat) (v : List Byte)
  | bar (bar off : Nat) (bytes : List Byte)
  deriving DecidableEq, Repr

end Sys2Proof
end

