-- ==== Sys2Proof/Syntax.lean ====
section
/-! DEFINITION. Sys2Proof/Syntax.lean: the commands of the block, one constructor for each row of spec/opcode_table.json, with the
operands that the row's rule gives the command. -/

namespace Sys2Proof

/-- A command: what happens to the block from outside, or a moment that its own engines come to. -/
inductive Instr where
  /-- The MAC takes a whole received frame, checks it, stamps its arrival time and writes it to the tide pool or drops and
  counts it (R421). -/
  | frameReceive (p : Nat) (frame : List Byte) (uncorrectable : Bool)
  /-- A waiting wake request is granted one of the die's six switching slots once a slot frees (R83). -/
  | switchingSlotGrant
  /-- A slice wake completes: its domains read ON, the ingress lane takes the first tide-pool packet, and a late wake counts
  WAKE_LATE_SLICE (R83). -/
  | sliceWakeDone (n : Nat)
  /-- A slice that has been idle for SLICE_IDLE_NS puts its FE domains, and then its TM domains, into RETAIN (R80). -/
  | sliceIdleExpiry (n : Nat)
  /-- A lane takes one packet from the tide pool, recirculation, injection or the TM, stamps its epoch and starts a
  1,536-cycle pass (R155). -/
  | laneTake (n : Nat) (egress : Bool)
  /-- At the end of its 1,536 cycles a pass dispatches the packet to the TM, the MAC, the slow path or recirculation, or drops
  it (R157). -/
  | passDispatch (n : Nat) (egress full : Bool)
  /-- The hold at the end of a slice's ingress lane clears when DGn has room, and the lane takes packets again (R21). -/
  | dgHoldClear (n : Nat)
  /-- A Breakwater judges a waiting packet or copy through its eleven checks and admits it or refuses it (R274). -/
  | breakwaterVerdict (n : Nat)
  /-- A replication engine makes one copy of a group packet and sends it to the Breakwater of the member queue (R294). -/
  | replicateCopy (n : Nat)
  /-- The spill engine takes the queue with the most spillable cells and starts writing one segment of it to HBM (R281). -/
  | spillSegmentStart
  /-- The HBM write of a segment completes, and its on-die cells and descriptors are freed (R281). -/
  | spillWriteDone (seg : Nat)
  /-- A segment read-back completes, and its packets are decoded and become on-die, with any uncorrectable packets lost
  (R282). -/
  | readbackDone (seg : Nat) (corrected bad lost : List Nat) (descr : Bool)
  /-- A TM slice makes one egress release decision, descending the tree of a port by priority and DRR to release a packet to
  its egress lane (R305). -/
  | schedDecision (n : Nat)
  /-- A TM slice releases one eligible VOQ packet toward the fabric, assigns its SEQ and cuts it into cells (R339). -/
  | voqRelease (n : Nat)
  /-- The last byte of a frame leaves the MAC, and the handover ends the packet's custody (R422). -/
  | frameTransmitDone (p : Nat)
  /-- The MAC of a port that is bound to a gate list is free, and it starts the head frame of the highest candidate gate or
  holds the frame (R320). -/
  | txFrameStart (p : Nat)
  /-- A gate-list interval ends, and the gates change to the states of the next entry (R319). -/
  | gateEvent (k : Nat)
  /-- At the configuration change time the pending gate list becomes the operational list (R319). -/
  | configChangeTime (k : Nat)
  /-- A port's down cause has held for LINK_DOWN_HOLD_US, and the port goes down (R424). -/
  | linkDownHoldExpiry (p : Nat)
  /-- A lane or PCS cause of port down, such as signal loss, appears and starts the hold (R424). -/
  | linkFaultOnset (p cause lane : Nat)
  /-- No packet of a downed port remains, so FLUSH_DONE is raised and the port condition reads DOWN, or UP once link is up
  (R292). -/
  | flushDone (p : Nat)
  /-- Every lane of a port has been locked and aligned for the up hold, and the port comes up (R425). -/
  | linkUp (p : Nat)
  /-- A write names a target mode, and the transition begins or is refused (R74). -/
  | modeRequest (o : Origin) (v : List Byte)
  /-- A timed transition completes, and MODE reads the new value (R73). -/
  | modeTransitionDone
  /-- In DRAIN with a pending target, every queue is empty or has ended, and the device moves on to the target (R73). -/
  | drainQueuesEmpty
  /-- DRAIN has lasted DRAIN_TIMEOUT_MS with a pending target and queues remaining, and MODE_REQUEST reads DRAIN_TIMEOUT
  (R76). -/
  | drainTimeout
  /-- WAKE_AFTER_S seconds pass in DORMANT, and the device starts the boot path (R73). -/
  | wakeAfterSExpiry
  /-- A wake from DORMANT runs the boot path of PLL lock, domains, steward images, P objects, HBM and clears until MODE reads
  BRINGUP (R102). -/
  | bootPath (images half0 half1 : Bool) (stackIds : List StackId) (spares : List (Nat × Nat)) (failed : List (List Byte))
  /-- A filtered low on PORESET_N resets the whole device (R89). -/
  | poresetNLow
  /-- PORESET_N rises or a cold reset completes, and the boot ROM raises PWR_EN_MAIN and starts TWPLL (R99). -/
  | powerOnStart
  /-- PWR_GOOD_MAIN is read high, and the boot ROM reads the boot record, chooses a slot, verifies the bundle and starts
  Tidewatch (R104). -/
  | pwrGoodMainRise (bad0 bad1 : Bool) (board : List Byte)
  /-- PWR_GOOD_MAIN is still low 100 ms after PWR_EN_MAIN rose, so the device lowers PWR_EN_MAIN and stays in DORMANT (R51).
  -/
  | supplyTimeout
  /-- PWR_GOOD_MAIN reads low in two successive samples, so the device stops every lane, lowers PWR_EN_MAIN and enters DORMANT
  (R54). -/
  | supplyLoss
  /-- Tidewatch samples every sensor once per millisecond and drives THERM_ALERT_N (R70). -/
  | sensorSample (temps : List Int)
  /-- A hardware comparator finds a die or stack sensor at its trip point, and the device shuts down as on a supply loss
  (R61). -/
  | thermalTrip (sensor : Nat)
  /-- No TWCLK_IN edge arrives for 1 µs, and the device shuts down and runs Tidewatch from the ring oscillator (R68). -/
  | twclkLoss
  /-- A core, steward or HBM PLL loses lock, and the device shuts down to DORMANT (R68). -/
  | pllUnlock (pll : Nat)
  /-- TWCLK_IN has run for 10 ms without a gap, and Tidewatch restarts TWPLL and management port 0 (R68). -/
  | twclkRestored
  /-- A SerDes reference clock is lost, and the lanes that it serves are dropped (R69). -/
  | refclkLoss (k : Nat)
  /-- A lost SerDes reference clock returns, and its lanes retrain (R69). -/
  | refclkReturn (k : Nat) (ppb : Int)
  /-- Every millisecond the device re-evaluates the adaptive rail target and may write a new one (R55). -/
  | avsEvaluate (rail target : Nat)
  /-- An AVSBus write completes, is retried on fault, or after three failures stops adaptation of that rail (R56). -/
  | avsWriteDone (rail : Nat) (ok : Bool) (read : Nat)
  /-- WARMRESET_N has been low for 1 µs, and a warm restart begins or starts again (R92). -/
  | warmresetNLow
  /-- The stewards serve objects again after a warm restart (R92). -/
  | warmRestartDone
  /-- A RESET_REQUEST of WARM starts a warm restart 1 ms later, or draws MODE (R95). -/
  | resetRequestWarm (o : Origin)
  /-- A RESET_REQUEST of COLD resets the device as PORESET_N does, or draws MODE (R95). -/
  | resetRequestCold (o : Origin)
  /-- Tidewatch firmware has not serviced its watchdog for 500 ms, and the device resets as on PORESET_N (R89). -/
  | tidewatchWatchdogExpiry
  /-- PCIE_PERST_N goes low, so fetching stops, configuration space and MSI-X are reset and host claims and locks end (R93).
  -/
  | pciePerstNLow
  /-- PCIE_PERST_N rises, and link training begins with every ring pair disabled (R93). -/
  | pciePerstNHigh
  /-- TRST_N goes low, and the JTAG TAP is reset (R89). -/
  | trstNLow
  /-- MOD_PRS_N of a fitted cage has been low for 10 ms, so the device counts an insertion and holds the module in reset for
  25 ms (R108). -/
  | moduleInsertion (n : Nat)
  /-- The 25 ms reset hold of a new module ends, and MOD_RESET_N is released (R108). -/
  | moduleResetRelease (n : Nat)
  /-- Every 20 ms the device polls the module state, and once the module is ready it reads and checks the pages and derives
  the offers (R108). -/
  | moduleStatePoll (n : Nat) (ack : Bool) (image : List Byte)
  /-- A module gives no acknowledgement within 2,000 ms, or a page read fails three times, and the module state becomes
  UNREADABLE (R109). -/
  | moduleReadTimeout (n : Nat)
  /-- A module is removed, so any read is abandoned and a port on it goes down (R109). -/
  | moduleRemoval (n : Nat)
  /-- A module interrupt causes a module in a failed state to be read again (R109). -/
  | modIntNAssert (n : Nat)
  /-- A write of REREAD starts the module read at step 2 (R111). -/
  | reread (o : Origin) (n : Nat) (v : List Byte)
  /-- A raw page read or write to a module is performed (R112). -/
  | cmisPassthrough (o : Origin) (n : Nat) (v : List Byte)
  /-- An OPEN message is authenticated, and a session is opened and answered with ACCEPT, or the OPEN is dropped (R142). -/
  | poaOpen (p : Nat) (frame : List Byte)
  /-- A CLOSE message ends a session (R144). -/
  | poaClose (p : Nat) (frame : List Byte)
  /-- An authenticated REQUEST is checked and applied by its sequence number, or answered from the stored response, held or
  dropped (R146). -/
  | poaRequest (p : Nat) (frame : List Byte)
  /-- A held request has waited 50 ms with a gap below it, and it is dropped (R146). -/
  | seqGapTimeout (session seq : Nat)
  /-- A session has had no valid request for SESSION_IDLE_S, and it ends (R144). -/
  | sessionIdleExpiry (session : Nat)
  /-- A write of GO submits a window request, or rewrites the stored response for a repeated SEQ (R149). -/
  | winGo (w : Nat)
  /-- The READ operation returns an object's value (R141). -/
  | read (o : Origin) (i j ty : Nat)
  /-- The WRITE operation applies a value to an object, or to an epoch-versioned object as a batch of one (R124). -/
  | write (o : Origin) (i j ty : Nat) (v : List Byte)
  /-- The READ_SEGMENT operation returns a segment of a BLOB copy, and a read at offset 0 takes a new copy (R127). -/
  | readSegment (o : Origin) (i j off count : Nat)
  /-- The WRITE_SEGMENT operation appends a segment to a BLOB value, which takes effect at LAST (R127). -/
  | writeSegment (o : Origin) (i j flags off : Nat) (bytes : List Byte)
  /-- A partial BLOB value not completed within 10 s is discarded (R127). -/
  | blobSegmentTimeout (o : Origin) (i j : Nat)
  /-- A BLOB read copy has had no read for 10 s, and it is dropped (R127). -/
  | blobCopyExpiry (o : Origin) (i j : Nat)
  /-- The DESCRIBE operation returns an object's type, access, attributes and default (R141). -/
  | describe (o : Origin) (i j : Nat)
  /-- The NEXT operation names the first existing object after a starting point (R141). -/
  | next (o : Origin) (i j : Nat)
  /-- The DESTROY operation checks a handle and destroys its channel, advancing the generation, or refuses it (R129). -/
  | destroy (o : Origin) (h : Nat)
  /-- The destruction of a queue completes, and the DESTROY is answered OK (R289). -/
  | queueDestroyDone (i : Nat)
  /-- The BATCH_OPEN operation opens a batch in the lowest free slot (R132). -/
  | batchOpen (o : Origin)
  /-- The BATCH_WRITE operation checks one write and adds it to an open batch (R132). -/
  | batchWrite (o : Origin) (id i j ty : Nat) (v : List Byte)
  /-- The BATCH_COMMIT operation queues a batch for commit at the next epoch (R136). -/
  | batchCommit (o : Origin) (id : Nat)
  /-- The BATCH_ABORT operation discards an open batch (R132). -/
  | batchAbort (o : Origin) (id : Nat)
  /-- An open batch has had no operation for BATCH_IDLE_S, and it is discarded (R135). -/
  | batchIdleExpiry (k : Nat)
  /-- INFLIGHT_OLDER reaches zero, so the previous commit settles and the waiting commit installs and stages its changes
  (R177). -/
  | epochDrainDone
  /-- Every lane begins to stamp CURRENT + 1 in one cycle, and the commit returns OK (R177). -/
  | epochAdvance
  /-- A PROGRAM_INSTALL write names a valid staging slot whose image is installed at the commit (R188). -/
  | programInstall (o : Origin) (id slot : Nat)
  /-- A GRAPH_RESTORE write in a batch restores the default parse graph and start nodes (R204). -/
  | graphRestore (o : Origin) (id v : Nat)
  /-- An exact-match region is created on a contiguous range of buckets (R211). -/
  | emRegionCreate (o : Origin) (v : List Byte)
  /-- An LPM region is created with its buckets and length filter (R212). -/
  | lpmRegionCreate (o : Origin) (v : List Byte)
  /-- A table command INSERT is checked into a batch and staged at the commit by placement (R226). -/
  | tableInsert (o : Origin) (id flags len region : Nat) (key data : List Byte)
  /-- A table command DELETE is checked into a batch and marks the entry DYING at the commit (R226). -/
  | tableDelete (o : Origin) (id flags len region : Nat) (key : List Byte)
  /-- At LEARN_COMMIT_US or LEARN_COMMIT_RECORDS the learn service takes the FIFOs and commits learned changes and due ageing
  removals (R234). -/
  | learnServiceCommit
  /-- An ageing sweep visits a region's entries and marks removal candidates (R237). -/
  | ageSweep (ri : Nat)
  /-- A SEARCH query looks up one key at CURRENT (R239). -/
  | search (o : Origin) (region len : Nat) (key : List Byte)
  /-- An ITER_OPEN query opens an iteration over a region (R240). -/
  | iterOpen (o : Origin) (region : Nat)
  /-- A NEXT query returns the next entries of an iteration in position order (R240). -/
  | iterNext (o : Origin) (region iter count : Nat)
  /-- An ITER_CLOSE query closes an iteration (R240). -/
  | iterClose (o : Origin) (region iter : Nat)
  /-- An iteration has had no NEXT for 60 s, and it is closed (R240). -/
  | iterTimeout (slot : Nat)
  /-- A flush request records the ports pending removal in a region's FLUSH_PENDING (R243). -/
  | flushRequest (o : Origin) (v : List Byte)
  /-- A region's flush scan returns to the position at which a port joined, and that port's pending bit clears (R244). -/
  | flushScanDone (ri port : Nat)
  /-- A rule set is created on a contiguous run of TCAM blocks (R248). -/
  | ruleSetCreate (o : Origin) (v : List Byte)
  /-- A rule command WRITE stages a rule's rows and action at a position (R265). -/
  | ruleWrite (o : Origin) (id set pos : Nat) (action value mask : List Byte)
  /-- A rule command DELETE clears the visibility of a position at the next epoch (R265). -/
  | ruleDelete (o : Origin) (id set pos : Nat)
  /-- A rule command SET_ACTION replaces the action word of a visible rule (R265). -/
  | ruleSetAction (o : Origin) (id set pos : Nat) (action : List Byte)
  /-- A READ_RULE query returns a rule's header, action, value and mask at CURRENT (R269). -/
  | readRule (o : Origin) (set pos : Nat)
  /-- A READ_BLOCK query returns a TCAM block's state, rule count and pre-filters (R269). -/
  | readBlock (o : Origin) (set block : Nat)
  /-- A queue is created with its limits, pool and parent (R287). -/
  | queueCreate (o : Origin) (v : List Byte)
  /-- A QUEUE_SET ENABLE sets a queue's administrative state to ENABLED (R288). -/
  | enable (o : Origin) (h : Nat)
  /-- A QUEUE_SET DISABLE stops admission to a queue while it keeps releasing (R288). -/
  | disable (o : Origin) (h : Nat)
  /-- A QUEUE_SET SET_LIMITS replaces a queue's pool, alpha, reservation, maximum, profiles and flags (R288). -/
  | setLimits (o : Origin) (h : Nat) (limits : List Byte)
  /-- A queue query fills QUEUE_RESULT with the queue's state at one instant (R290). -/
  | queueQuery (o : Origin) (v : List Byte)
  /-- An MCAST_SET write replaces a multicast group's member list (R293). -/
  | mcastSet (o : Origin) (v : List Byte)
  /-- A multicast query fills MCAST_RESULT with a group's members (R297). -/
  | mcastQuery (o : Origin) (v : List Byte)
  /-- A scheduler node is created in a port's tree (R300). -/
  | nodeCreate (o : Origin) (v : List Byte)
  /-- A SCHED_SET write sets how a queue or node is served by its parent, including its shaper (R302). -/
  | schedSet (o : Origin) (v : List Byte)
  /-- A scheduler query fills SCHED_RESULT for a queue or node (R324). -/
  | schedQuery (o : Origin) (v : List Byte)
  /-- A meter is created on its home slice with full buckets (R312). -/
  | meterCreate (o : Origin) (v : List Byte)
  /-- A METER_SET write changes a meter's mode, rates and buckets (R316). -/
  | meterSet (o : Origin) (v : List Byte)
  /-- A meter query fills METER_RESULT with a meter's parameters and bucket levels (R316). -/
  | meterQuery (o : Origin) (v : List Byte)
  /-- The last segment of an administrative gate list arrives, and the list becomes pending when enabled (R318). -/
  | windowAdmin (o : Origin) (k : Nat) (v : List Byte)
  /-- A write of WINDOW_ENABLE makes the administrative list pending, or opens every gate and discards the lists (R319). -/
  | windowEnable (o : Origin) (k : Nat) (v : List Byte)
  /-- A write of WINDOW_PORT binds a gate list to a port or unbinds it (R317). -/
  | windowPort (o : Origin) (k : Nat) (v : List Byte)
  /-- A write of WATCH_QUEUE sets or empties a watch-list entry and clears its histogram (R323). -/
  | watchQueue (o : Origin) (w : Nat) (v : List Byte)
  /-- A watch interval ends, and the entry's WATCH_RECORD is replaced (R323). -/
  | watchIntervalEnd (w : Nat)
  /-- A DATA cell arrives on a fabric link and is acknowledged or NAKed and reassembled, with a completed packet resequenced
  (R342). -/
  | dataCell (l : Nat) (cell : List Byte)
  /-- An IDLE cell delivers its acknowledgement and link credits (R328). -/
  | idleCell (l : Nat) (cell : List Byte)
  /-- No advance of ACK_SEQ for REPLAY_TIMEOUT_NS makes the sender go back and resend (R342). -/
  | replayTimeout (l : Nat)
  /-- A reassembly context open for REASSEMBLY_TIMEOUT_US without a new cell is discarded (R333). -/
  | reassemblyTimeout (l unit srcLink : Nat)
  /-- A context's oldest held packet has waited RESEQ_TIMEOUT_US, and its gap is skipped (R346). -/
  | reseqTimeout (unit cls : Nat)
  /-- A REQUEST message from a sender resynchronises the receiving context if needed and replaces its demand (R337). -/
  | request (l : Nat) (cell : List Byte)
  /-- A GRANT message adds credit to a sending context or forces it to resynchronise (R338). -/
  | grant (l : Nat) (cell : List Byte)
  /-- The receiving unit grants credit to a context with demand, within the grant rate (R337). -/
  | grantIssue
  /-- 2 µs have passed since the last REQUEST of a context with demand, and a REQUEST is sent (R336). -/
  | requestRefresh (unit cls : Nat)
  /-- A HELLO message from the far end brings a link from HELLO to UP and sets the far-end identity (R329). -/
  | hello (l : Nat) (cell : List Byte)
  /-- A QUIET message asks this end to stop sending sequenced cells on a link (R349). -/
  | quiet (l : Nat) (cell : List Byte)
  /-- A QUIET_DONE message completes the quieting of a link, so the quad saves its state and turns OFF (R349). -/
  | quietDone (l : Nat) (cell : List Byte)
  /-- A quieting link has not reached QUIET_DONE within 100 µs, and it is treated as failed (R349). -/
  | quietTimeout (l : Nat)
  /-- A FAULT message from the far end fails the link (R343). -/
  | fault (l : Nat) (cell : List Byte)
  /-- A fabric link fails, so its buckets are re-dealt and its unacknowledged packets are resent on other links (R343). -/
  | linkFail (l cause : Nat)
  /-- A loss of signal, lock or alignment has lasted 1 µs, and the link fails (R343). -/
  | signalLossHoldExpiry (l : Nat)
  /-- Every 10 ms a failed link retrains (R329). -/
  | linkRetrain (l : Nat)
  /-- A returned link has stayed UP for LINK_UP_HOLD_MS and joins its flow group's pin table (R340). -/
  | linkUpHoldExpiry (l : Nat)
  /-- A fenced bucket's old-link cells are acknowledged and FENCE_HOLD_NS has passed, and the bucket is repinned (R341). -/
  | fenceHoldExpiry (g b : Nat)
  /-- Every 10 µs the TM measures fabric demand and wakes quads, or quiets one after FABRIC_QUIET_DELAY_US (R85). -/
  | fabricMeasure
  /-- A waking fabric quad is ready for cells, with a late wake counted (R86). -/
  | quadWakeDone (q elapsed : Nat)
  /-- A stack has had no access for HBM_IDLE_US with its conditions met, and self-refresh is begun (R87). -/
  | hbmIdleExpiry (h : Nat)
  /-- The controller's queue empties, and the stack enters self-refresh with its PHY in RETAIN (R402). -/
  | selfRefreshEnter (h : Nat)
  /-- A waking stack passes its check and is released to its ports (R402). -/
  | hbmWakeDone (h elapsed : Nat) (bad : List Nat)
  /-- A stack not released within 50 µs of its wake request is taken out of service (R402). -/
  | hbmWakeFailed (h : Nat)
  /-- Every BOUNDARY_INTERVAL_US a pseudo-channel receives an all-bank refresh, and staged delays take effect (R400). -/
  | refreshBoundary (cc : Nat)
  /-- A bank falls due for its per-bank refresh (R400). -/
  | bankRefresh (cc : Nat)
  /-- A command-address parity alert makes the controller repeat the command (R411). -/
  | caParityAlert (cc : Nat)
  /-- Every CAL_PERIOD_MS a calibration round of a pseudo-channel begins (R406). -/
  | calRound (cc : Nat)
  /-- A calibration probe finishes its comparisons, moves the lane's edges and may stage a delay change (R405). -/
  | calProbeDone (cc : Nat) (left right : List Nat)
  /-- A write of HBM_DELAYS stages new delays for a pseudo-channel (R399). -/
  | hbmDelays (o : Origin) (cc : Nat) (v : List Byte)
  /-- Once per hour the delays in force are recorded in the persistent copy of HBM_DELAYS (R398). -/
  | delaySave
  /-- Every SCRUB_HOURS the TEST port reads the statistics region and writes back corrected bursts (R410). -/
  | scrub (corrected bad : List Nat)
  /-- A write of PORT_MODE places a port on lanes or removes it (R418). -/
  | portMode (o : Origin) (p : Nat) (v : List Byte)
  /-- A write of PORT_SLICE maps a port to a slice within the slice rate limit (R416). -/
  | portSlice (o : Origin) (p : Nat) (v : List Byte)
  /-- A write of PORT_ADMIN 1 starts the module data path for the port (R419). -/
  | portAdminEnable (o : Origin) (p : Nat)
  /-- A write of PORT_ADMIN 0 takes the port down with cause ADMIN and deinitialises its module lanes (R418). -/
  | portAdminDisable (o : Origin) (p : Nat)
  /-- A module reaches the state that a step of port enabling waits for, and the next step is taken (R419). -/
  | moduleActivationStep (p : Nat)
  /-- A step of port enabling overruns its time, and the port stays in MODULE_WAIT with cause MODULE_FAULT (R419). -/
  | moduleActivationTimeout (p : Nat)
  /-- A write of PTP_STEP_NS steps the IEEE 1588 clock (R426). -/
  | ptpStepNs (o : Origin) (v : List Byte)
  /-- A write of TX_STAMP_POP removes the oldest transmit stamp records and returns them (R428). -/
  | txStampPop (o : Origin) (p : Nat) (v : List Byte)
  /-- A rising edge on PPS_IN captures the clock (R429). -/
  | ppsInEdge
  /-- At each whole second of the clock PPS_OUT rises for 100 ms (R429). -/
  | ppsOutSecond
  /-- Every 1 µs a locked lane may step one equaliser coefficient (R431). -/
  | adaptStep (lane coef : Nat) (up : Bool) (before : Nat)
  /-- 1 ms after a step the corrected symbols are compared, and the step is reverted if worse (R431). -/
  | adaptEvaluate (lane after : Nat)
  /-- Every 100 ms a lane's spare sampler measures its inner eye (R433). -/
  | marginMeasure (lane height width snr ber corrected uncorrected symbols : Nat)
  /-- An uncorrectable die-to-die flit drops packets toward the TM, or loses a packet toward the FE and fences an active unit
  (R438). -/
  | dgUncorrectableFlit (g : Nat) (toTm : Bool) (hits : List Nat)
  /-- A die-to-die group fails, and the ports of its slice go down (R439). -/
  | dgFail (g : Nat)
  /-- Every 10 ms a failed die-to-die group retrains (R439). -/
  | dgRetrain (g : Nat) (good : Bool)
  /-- Every DG_CAL_PERIOD_MS steward firmware tracks the die-to-die wires and stages delay changes (R437). -/
  | dgCalRound (g : Nat) (margin : List Byte) (corrected : Nat)
  /-- A write of SUB_DOORBELL starts or extends a scan of a submission ring (R451). -/
  | subDoorbell (i : Nat) (slots : List (List Byte))
  /-- Room frees among fetched descriptors, and a paused scan continues (R451). -/
  | scanResume (i : Nat) (slots : List (List Byte))
  /-- An INJECT descriptor's buffer is read into its slice's injection queue (R460). -/
  | inject (n : Nat) (ok : Bool) (buffer : List Byte)
  /-- A RECEIVE_BUFFER descriptor is fetched as room for punts (R455). -/
  | receiveBuffer (i : Nat) (slot : List Byte)
  /-- Every 1 µs or on a doorbell the blocking completion slot is reread and staged completions are written (R462). -/
  | stagedRetry (i free : Nat)
  /-- COALESCE_NS pass since the first unsignalled completion, and the channel's vector is raised (R465). -/
  | coalesceExpiry (i : Nat)
  /-- An ENABLE of RING_ENABLE resets a channel's positions and phases and enables fetching (R463). -/
  | ringEnable (o : Origin) (h : Nat)
  /-- A DISABLE of RING_ENABLE stops fetching and discards fetched descriptors (R463). -/
  | ringDisable (o : Origin) (h : Nat)
  /-- A host channel is created, DISABLED and IDLE (R447). -/
  | channelCreate (o : Origin) (v : List Byte)
  /-- A write of CHANNEL_SET changes a channel's vector and coalescing (R465). -/
  | channelSet (o : Origin) (v : List Byte)
  /-- A channel query fills CHANNEL_RESULT (R476). -/
  | channelQuery (o : Origin) (v : List Byte)
  /-- A write of DB_STATUS clears doorbell bits and may signal again (R467). -/
  | dbStatus (k v : Nat)
  /-- A write of DB_MASK changes a doorbell set's mask and may signal (R467). -/
  | dbMask (k v : Nat)
  /-- A write of DB_RING sets software bits of a doorbell set and may signal (R466). -/
  | dbRing (k v : Nat)
  /-- A write of TX_DATA takes a mailbox header or payload word, or is rejected (R469). -/
  | txData (master m d w : Nat)
  /-- A read of RX_DATA consumes one word of the oldest complete message (R471). -/
  | rxData (master m d : Nat)
  /-- A write of ABANDON discards a partial mailbox message and ends the claim (R472). -/
  | abandon (master m d : Nat)
  /-- Both directions of a mailbox have held unread messages for 1 ms, and MB_STALEMATE is raised (R473). -/
  | mbStalemate (m : Nat)
  /-- A read of LOCK acquires a free lock, or reports its holder (R474). -/
  | lockAcquire (m l : Nat)
  /-- A write of LOCK by its owner releases it (R474). -/
  | lockRelease (m l : Nat)
  /-- A write of LOCK_FORCE releases a lock whoever holds it (R474). -/
  | lockForce (o : Origin) (l : Nat) (v : List Byte)
  /-- A TSTART instruction starts a stopped or faulted thread (R483). -/
  | tstart (t rd target addr : Nat)
  /-- A TSTOP instruction stops a thread of which the caller is master (R484). -/
  | tstop (t rd target : Nat)
  /-- A TSIG instruction sets software event bits of a target thread (R482). -/
  | tsig (t rd target bits : Nat)
  /-- A TWFE instruction waits until a masked event bit is pending (R480). -/
  | twfe (t rd mask : Nat)
  /-- A TPOLL instruction returns and clears the pending masked event bits at once (R480). -/
  | tpoll (t rd mask : Nat)
  /-- A TYIELD instruction gives the rest of the slot to the next ready thread (R480). -/
  | tyield (t : Nat)
  /-- A TSTAT instruction returns a thread's state, master and fault cause (R480). -/
  | tstat (t rd target : Nat)
  /-- A masked event bit becomes pending and a waiting thread wakes or takes an interrupt (R482). -/
  | threadWake (t : Nat)
  /-- TTIME reaches an armed TCMP, and TIMER becomes pending (R482). -/
  | tcmpExpiry (t : Nat)
  /-- A thread's watchdog reaches zero, and its master receives CHILD_WATCHDOG (R495). -/
  | twdogExpiry (t : Nat)
  /-- A thread's double exception, or an integrator exception, makes it FAULTED and signals its master (R490). -/
  | threadFault (t cause : Nat)
  /-- Thread 0 faults or its watchdog expires, and Tidewatch starts a warm restart (R496). -/
  | thread0Failure (die : Nat)
  /-- The slack-water condition has held on a die for 1,024 steward cycles, and thread 0 takes the non-maskable handler
  (R494). -/
  | slackWater (die : Nat)
  /-- All threads of a core have been STOPPED for 10 µs, and the core enters RETAIN (R478). -/
  | coreRetainExpiry (c : Nat)
  /-- The debugger halts a set of steward threads (R497). -/
  | debugHalt (ts : List Nat)
  /-- The debugger resumes halted threads (R497). -/
  | debugResume (ts : List Nat)
  /-- A weight write rebuilds a core's slot table (R486). -/
  | threadWeight (o : Origin) (tm : Bool) (n : Nat) (v : List Byte)
  /-- A write of PUNT_QUEUE sets a thread's punt queue and resets its slots (R488). -/
  | puntQueue (o : Origin) (tm : Bool) (n : Nat) (v : List Byte)
  /-- A write of INTEGRATOR_RESTART makes thread 0 restart a faulted integrator thread (R492). -/
  | integratorRestart (o : Origin) (v : List Byte)
  /-- A COUNTER_CLEAR of scope OBJECT clears one V object (R502). -/
  | clearObject (o : Origin) (idx sub : Nat)
  /-- A COUNTER_CLEAR of scope INDEX clears every V sub-object of an index (R502). -/
  | clearIndex (o : Origin) (idx : Nat)
  /-- A COUNTER_CLEAR of scope ALL_OBJECTS clears every V object (R502). -/
  | clearAllObjects (o : Origin)
  /-- A COUNTER_CLEAR of scope COUNTER_SET clears one counter set (R502). -/
  | clearCounterSet (o : Origin) (h : Nat)
  /-- A COUNTER_CLEAR of scope QUEUE_STATS clears a queue's statistics entry (R502). -/
  | clearQueueStats (o : Origin) (h : Nat)
  /-- A COUNTER_CLEAR of scope CHANNEL_STATS clears a host channel's statistics entry (R502). -/
  | clearChannelStats (o : Origin) (h : Nat)
  /-- A COUNTER_CLEAR of scope HISTOGRAM clears a watch entry's latency histogram (R502). -/
  | clearHistogram (o : Origin) (entry : Nat)
  /-- A COUNTER_CLEAR of scope EVERYTHING clears scopes 2 to 6 for everything (R502). -/
  | clearEverything (o : Origin)
  /-- A counter set is created, reading zero (R503). -/
  | counterSetCreate (o : Origin) (v : List Byte)
  /-- An on-die delta is flushed into its HBM entry because it is full, evicted or due (R506). -/
  | statsFlush (kind i err : Nat)
  /-- A write of SNAPSHOT freezes every counter at one cycle and starts building the image (R509). -/
  | snapshot (o : Origin) (v : List Byte)
  /-- The snapshot image is complete and SNAPSHOT reads READY (R509). -/
  | snapshotReady
  /-- A snapshot query returns a value as it was at T (R510). -/
  | snapshotQuery (o : Origin) (v : List Byte)
  /-- A wrap query returns the WRAPPED bit of a V sub-object (R501). -/
  | wrapQuery (o : Origin) (v : List Byte)
  /-- A counter set query returns consecutive counter set entries (R507). -/
  | counterSetQuery (o : Origin) (v : List Byte)
  /-- A histogram query returns a watch entry's latency bins (R518). -/
  | histogramQuery (o : Origin) (v : List Byte)
  /-- A trace read returns records of a ring from a sequence number (R519). -/
  | traceRead (o : Origin) (v : List Byte)
  /-- A write of RING_RESET empties all four rings and restarts their numbering (R519). -/
  | ringReset (o : Origin) (v : List Byte)
  /-- A write of STAGE_OPEN begins, resumes or discards a bundle delivery (R527). -/
  | stageOpen (o : Origin) (v : List Byte)
  /-- The staging erase completes, and delivery reads RECEIVING (R527). -/
  | stageEraseDone
  /-- A block of bundle bytes is programmed into the staging area and checked for its piece (R528). -/
  | stageData (o : Origin) (offset : Nat) (last : Bool) (data : List Byte)
  /-- The erase of a piece that failed its CRC completes, and the piece reads MISSING (R529). -/
  | pieceEraseDone (p : Nat)
  /-- The SHA-384 of the complete staged bundle is compared with BUNDLE_ID, giving COMPLETE or MISMATCH (R531). -/
  | stageHashDone
  /-- ACTIVATE AT_NEXT_START sets STAGED_PENDING for install at the next power-on start (R532). -/
  | atNextStart (o : Origin)
  /-- ACTIVATE WARM_NOW verifies and installs the staged bundle in service (R535). -/
  | warmNow (o : Origin)
  /-- The in-service install completes, and a warm restart from the trial slot begins (R535). -/
  | activateInstallDone (good : Bool)
  /-- A write of CONFIRM confirms a healthy trial (R537). -/
  | confirm (o : Origin) (v : List Byte)
  /-- A write of REVERT fails the trial and falls back (R538). -/
  | revert (o : Origin) (v : List Byte)
  /-- A trial in AUTO mode has been healthy for CONFIRM_DELAY_S, and it is confirmed (R537). -/
  | confirmDelayExpiry
  /-- CONFIRM_DEADLINE_S passes without confirmation, and the trial fails (R538). -/
  | confirmDeadlineExpiry
  /-- A write of PATTERN_START starts a pattern test on a target (R545). -/
  | patternStart (o : Origin) (v : List Byte)
  /-- A write of PATTERN_STOP ends a running test as STOPPED (R545). -/
  | patternStop (o : Origin) (v : List Byte)
  /-- A test's DURATION_MS elapses, and it ends DONE (R545). -/
  | patternDurationEnd (k : Nat)
  /-- A write of BIST_START runs memory self-test on the named scopes (R551). -/
  | bistStart (o : Origin) (v : List Byte)
  /-- BIST completes and reports failing units (R552). -/
  | bistDone (failed : List (List Byte))
  /-- A background test of a free resource completes or is ended, and the resource is handed back (R553). -/
  | backgroundTestDone (kind number : Nat) (ended good holds last : Bool)
  /-- A write of HEALTH_CLEAR clears the area states and HEALTH_LOG (R556). -/
  | healthClear (o : Origin) (v : List Byte)
  /-- An instruction is loaded into the TAP and takes effect, or acts as BYPASS (R554). -/
  | jtagInstruction (op : Nat)
  /-- An IDENTITY record from the mate sets mate identity and decides compatibility (R361). -/
  | identity (rec : List Byte)
  /-- A verdict block's entries are matched to the standby's frames and let them in or refuse them (R366). -/
  | verdictBlock (rec : List Byte)
  /-- An EPOCH_MARK gives the standby the epoch of each source position (R370). -/
  | epochMark (rec : List Byte)
  /-- An OBJECT record stages a pair-coherent change on the standby under its ticket (R368). -/
  | object (rec : List Byte)
  /-- A LEARN record stages an internal commit of the active on the standby (R368). -/
  | learnRecord (rec : List Byte)
  /-- A DEPARTURE_MARK frees the standby's held packets before DONE_SEQ (R375). -/
  | departureMark (rec : List Byte)
  /-- A FABRIC_VERDICT admits or refuses the standby's fabric packets of one context (R376). -/
  | fabricVerdict (rec : List Byte)
  /-- A COPY_VERDICT admits or refuses the copies of a group packet on the standby (R366). -/
  | copyVerdict (rec : List Byte)
  /-- A HOST_WORK record makes the standby inject the active's injected packet (R461). -/
  | hostWork (rec : List Byte)
  /-- A QUEUE_END entry announces a foreign, lost or destroyed VOQ admission to the standby's SEQ count (R374). -/
  | queueEnd (rec : List Byte)
  /-- A DIGEST is compared with the standby's own, and a mismatch makes it stale (R382). -/
  | digest (rec : List Byte)
  /-- A START record sets the base SEQ of each context and the standby enters SHADOW (R378). -/
  | start (rec : List Byte)
  /-- A HANDOFF record is the standby's indication for a planned switch-over (R388). -/
  | handoff
  /-- A COPY record carries image bytes of the active's state to a joining standby (R378). -/
  | copy (rec : List Byte)
  /-- A STATUS record from the standby reports its staged ticket, drain and requests (R359). -/
  | status (rec : List Byte)
  /-- A valid HEARTBEAT cell from the mate ends silence and may fence an active that sees another active (R360). -/
  | heartbeat (lane : Nat) (cell : List Byte)
  /-- Every 1,000 ns a unit sends a HEARTBEAT on every UP mate lane (R360). -/
  | heartbeatSend
  /-- No valid heartbeat arrives for the silence time, so an active fences or reports MATE_LOST and a standby turns (R381). -/
  | heartbeatSilence
  /-- PAIR_FAULT_IN_N falls, so a standby in step turns and an active records the mate's fault (R385). -/
  | pairFaultInFall
  /-- A write of FAULT_REQUEST fences an active unit (R380). -/
  | faultRequest (o : Origin) (v : List Byte)
  /-- A write of SWITCHOVER swaps the roles of a pair in step without a fault (R388). -/
  | switchover (o : Origin) (v : List Byte)
  /-- VERDICT_FLUSH_NS after its first entry, an open verdict block becomes eligible to close (R363). -/
  | verdictFlush (source : Nat)
  /-- An entry or frame waits VERDICT_WAIT_US unmatched, and it becomes a leg miss or a leg extra (R365). -/
  | verdictWaitExpiry (kind n k : Nat)
  /-- A slice's digest closes after 4,096 entries or 1 ms and is sent or compared (R382). -/
  | digestClose (n : Nat)
  /-- DEPARTURE_INTERVAL_US passes, and contexts are marked in round robin (R375). -/
  | departureInterval
  /-- FABRIC_VERDICT_FLUSH_US after its first packet, a context's fabric verdict record is sent (R376). -/
  | fabricVerdictFlush (unit cls : Nat)
  /-- Every SELFTEST_INTERVAL_S a standby runs its background tests (R384). -/
  | selftestInterval
  /-- A mate lane sees no acknowledgement advance for MATE_REPLAY_TIMEOUT_NS and goes back (R357). -/
  | mateReplayTimeout (k : Nat)
  /-- A mate lane fails, and its unacknowledged cells are resent on the surviving lanes (R357). -/
  | mateLaneFail (k : Nat)
  /-- A write to an object or BAR register without a row of its own is checked and applied (R117). -/
  | registerWrite (w : RegWrite)
  /-- VDD_TW or VDDIO_TW is lost while the main rails are up, and the device then behaves as after a power-on reset (R50). -/
  | alwaysOnRailLoss
  /-- Every 10 ms a failed mate lane retrains (R357). -/
  | mateLaneRetrain (k : Nat)
  /-- A mate lane reaches UP, and the unit sends IDENTITY on it before any other record and brings the mate link up (R361). -/
  | mateLinkUp (k : Nat)
  /-- A RECORDS cell arrives on a mate lane and is checked, acknowledged or NAKed, reordered by BUNDLE_SEQ and fed into the
  record stream (R357). -/
  | mateRecordsCell (k : Nat) (cell : List Byte)
  /-- An IDLE cell arrives on a mate lane and delivers its BUNDLE_ACK, ACK_SEQ and lane credits (R356). -/
  | mateIdleCell (k : Nat) (cell : List Byte)
  /-- PHY and FEC alignment of a training fabric link completes, and the link passes from TRAINING to HELLO and sends its
  HELLO (R329). -/
  | fabLinkAligned (l : Nat)
  /-- A network lane becomes LOCKED again with FEC and PCS aligned, so it ends a pending down cause and starts the up hold,
  and a squelched recovered clock resumes (R425). -/
  | laneReacquired (lane : Nat)
  /-- PPS_OUT falls 100 ms after it rose (R429). -/
  | ppsOutFall
  /-- A management port's link comes up, after auto-negotiation where it is enabled, and MGMT_LINK reads UP (R435). -/
  | mgmtLinkUp (p : Nat)
  /-- A management port's link is lost, and MGMT_LINK reads DOWN (R435). -/
  | mgmtLinkDown (p : Nat)
  /-- PCIe link training completes, and the endpoint reports its width and rate and answers configuration requests (R93). -/
  | pcieLinkTrained (lanes rate : Nat)
  /-- The flash record of a P object write completes, and the device acknowledges the write (R120). -/
  | pObjectRecorded (i j : Nat)
  /-- A flow group has had no usable link for 10 µs while FAULT_ON_GROUP_DOWN is set, and the active unit fences itself
  (R380). -/
  | groupDownTimeout (g : Nat)
  /-- An uncorrectable error arises in the TM crossbar or in on-die SRAM, and it is recorded in the health report and fences
  an active unit (R380). -/
  | ondieUncorrectableError (crossbar : Bool) (detail : List Byte)
  /-- PAIR_FAULT_IN_N rises, so the unit updates its record of the mate and heartbeat silence becomes a fence cause again
  (R379). -/
  | pairFaultInRise
  /-- A pattern checker sees 1,024 bits without error, locks and begins counting, and the result reads LOCKED (R547). -/
  | checkerLocked (k : Nat)
  /-- A pattern checker sees more than 1,024 errors in 4,096 bits, loses lock and counts LOCK_LOSSES (R547). -/
  | checkerLockLost (k bits errors injected seconds : Nat)
  /-- A raw module page access ends, so its status reads done or no acknowledgement and the device's own waiting reads of the
  cage resume (R112). -/
  | cmisPassthroughDone (n : Nat) (ack : Bool) (data : List Byte)
  /-- A die-to-die alignment marker passes once per 4,096 flits, and staged wire delay changes take effect (R437). -/
  | dgAlignmentMarker (g : Nat)
  deriving DecidableEq, Repr

end Sys2Proof
end

