-- ==== Sys2Proof/Decode.lean ====
section
/-! DEFINITION. Sys2Proof/Decode.lean: the byte-order and bit-field helpers that read every encoding of the spec, and the
decoder over the opcode table. The table gives none of its rows any bits, so no word spells a command. -/

namespace Sys2Proof

/-- The value of a byte string sent most significant byte first (R3). -/
def beNat (bs : List Byte) : Nat := bs.foldl (fun acc b => acc * 256 + b.toNat) 0

/-- The value of a byte string held least significant byte first (R3). -/
def leNat : List Byte → Nat
  | [] => 0
  | b :: bs => b.toNat + 256 * leNat bs

/-- A number as `len` bytes, most significant first. -/
def natBe (n : Nat) : Nat → List Byte
  | 0 => []
  | k + 1 => BitVec.ofNat 8 (n >>> (8 * k)) :: natBe n k

/-- A number as `len` bytes, least significant first. -/
def natLe (n : Nat) : Nat → List Byte
  | 0 => []
  | k + 1 => BitVec.ofNat 8 n :: natLe (n >>> 8) k

/-- The field [hi:lo] of a number, both ends included (R2). -/
def fld (n hi lo : Nat) : Nat := (n >>> lo) % 2 ^ (hi + 1 - lo)

/-- Bit k of a number. -/
def bitAt (n k : Nat) : Bool := n.testBit k

/-- Byte k of a byte string; zero past its end. -/
def byteAt (bs : List Byte) (k : Nat) : Nat := (bs.getD k 0).toNat

/-- `len` bytes from offset `off`, with zeros past the end. -/
def slice (bs : List Byte) (off len : Nat) : List Byte :=
  let t := (bs.drop off).take len
  t ++ List.replicate (len - t.length) 0

/-- The big-endian number in `len` bytes from `off`. -/
def beAt (bs : List Byte) (off len : Nat) : Nat := beNat (slice bs off len)

/-- The little-endian number in `len` bytes from `off`. -/
def leAt (bs : List Byte) (off len : Nat) : Nat := leNat (slice bs off len)

/-- The number in `len` bytes from `off`, most significant byte first or last as the path carries it (R3). -/
def numAt (be : Bool) (bs : List Byte) (off len : Nat) : Nat :=
  if be then beAt bs off len else leAt bs off len

/-- A number as `len` bytes in the byte order of a path (R3). -/
def numBytes (be : Bool) (n len : Nat) : List Byte :=
  if be then natBe n len else natLe n len

/-- A byte string with the bytes from `off` on replaced by `new`, as far as the string reaches. -/
def patch (bs : List Byte) (off : Nat) (new : List Byte) : List Byte :=
  bs.take off ++ (new.take (bs.length - off) ++ bs.drop (off + new.length))

/-- `width` bits counted from the most significant bit of the first byte (R165, R191), bits past the end reading zero. -/
def bitsAt (bs : List Byte) (bitOff width : Nat) : Nat :=
  let first := bitOff / 8
  let lead := bitOff % 8
  let n := (lead + width + 7) / 8
  (beAt bs first n >>> (8 * n - lead - width)) % 2 ^ width

/-- Two's complement reading of a `w`-bit number. -/
def toSigned (w n : Nat) : Int := if 2 ^ (w - 1) ≤ n then (n : Int) - (2 ^ w : Nat) else n

/-- Two's complement encoding of an integer in `w` bits. -/
def ofSigned (w : Nat) (i : Int) : Nat := (i % (2 ^ w : Nat)).toNat

/-- Bit-reversed order of the low `w` bits. -/
def bitReverse (w n : Nat) : Nat :=
  (List.range w).foldl (fun acc k => acc * 2 + (if bitAt n k then 1 else 0)) 0

/-- How many bits of a number are set, among the low `w`. -/
def popcount (w n : Nat) : Nat := ((List.range w).filter (bitAt n)).length

/-- The value of MODE as an object reports it (R36). -/
def Mode.code : Mode → Nat
  | .dormant => 0 | .bringup => 1 | .proportional => 2 | .spring => 3 | .catchup => 4 | .shadow => 5 | .drain => 6
  | .diagnostic => 7

/-- The value of a status code (R151). -/
def Status.code : Status → Nat
  | .ok => 0 | .noObject => 1 | .noSubindex => 2 | .readOnly => 3 | .writeOnly => 4 | .typeMismatch => 5 | .range => 6 | .mode => 7
  | .staleHandle => 8 | .busy => 9 | .batchConflict => 10 | .noResource => 11 | .pairUnavailable => 12 | .denied => 13
  | .schema => 14 | .internal => 15

/-- Multi-byte values of a POA session are big-endian, those of a window or of a steward's object port little-endian (R3,
R148). -/
def Origin.be : Origin → Bool
  | .session _ => true
  | _ => false

/-- The command that a word spells by the bits of the opcode table: none, because the table gives no row any bits. -/
def decodeTableWord (_nbits _w : Nat) : Option Instr := none

end Sys2Proof
end

