-- ==== Sys2Proof/Machine/Crc.lean ====
section
/-! DEFINITION. Sys2Proof/Machine/Crc.lean: the CRCs of the spec, and the linear-feedback generator of R576. -/

namespace Sys2Proof.Machine

/-- One bit step of a reflected CRC register. -/
def crcBit (poly reg : Nat) : Nat := if reg % 2 = 1 then (reg >>> 1) ^^^ poly else reg >>> 1

/-- One byte enters a reflected CRC register, least significant bit first (R573). -/
def crcByte (poly reg : Nat) (b : Byte) : Nat :=
  let r := reg ^^^ b.toNat
  crcBit poly (crcBit poly (crcBit poly (crcBit poly (crcBit poly (crcBit poly (crcBit poly (crcBit poly r)))))))

/-- A reflected CRC register over a byte string. -/
def crcRun (poly reg : Nat) (bs : List Byte) : Nat := bs.foldl (crcByte poly) reg

/-- CRC-32C with an initial register value (R573): reflected polynomial 0x82F63B78, the register XORed with all ones at the
end. -/
def crc32c (init : Nat) (bs : List Byte) : Nat := crcRun 0x82F63B78 init bs ^^^ 0xFFFFFFFF

/-- CRC-32C where no initial value is given: preset to all ones (R573). -/
def crc32cStd (bs : List Byte) : Nat := crc32c 0xFFFFFFFF bs

/-- CRC-32 of IEEE 802.3 (R97, R105, R186): the reflected polynomial 0xEDB88320 with the standard preset and final XOR.
PRESUMED, log entry 3. -/
def crc32 (bs : List Byte) : Nat := crcRun 0xEDB88320 0xFFFFFFFF bs ^^^ 0xFFFFFFFF

end Sys2Proof.Machine
end

