-- ==== Sys2Proof/Config.lean ====
section
/-! DEFINITION. Sys2Proof/Config.lean: what one unit fixes and the manual leaves open, as constants with no body: nothing in
Lean can evaluate them, and a statement that mentions one holds whatever it is. -/

namespace Sys2Proof.Config

/-- A value that the manual leaves open, drawn for the nth time (log entry 1). -/
opaque freeValue : Nat → Nat
/-- A byte string of a length that the manual leaves open, drawn for the nth time (log entry 1). -/
opaque freeBytes : Nat → Nat → List Byte
/-- HMAC-SHA-256 of a key and a message (R143), an uninterpreted function (log entry 10). -/
opaque hmacSha256 : List Byte → List Byte → List Byte
/-- SHA-384 of a message (R523, R524, R531), an uninterpreted function (log entry 10). -/
opaque sha384 : List Byte → List Byte
/-- ECDSA P-384 verification of a signature over a message under a public key (R524), uninterpreted (log entry 10). -/
opaque ecdsaVerify : List Byte → List Byte → List Byte → Bool
/-- The factory key of slot 0, fixed at manufacture in the FE die (R147). -/
opaque factoryKey : List Byte
/-- SHA-384 digests of the four Falqua keys in the boot ROM (R524). -/
opaque romKeyDigest : Nat → List Byte
/-- FE_DIE_ID and TM_DIE_ID, 16 bytes each (R94). -/
opaque feDieId : List Byte
opaque tmDieId : List Byte
/-- STEPPING_CODE (R523). -/
opaque steppingCode : Nat
/-- STEPPING, the text (R94). -/
opaque stepping : List Byte
/-- The text that MATE_BUNDLE_VERSION gives of a bundle version (R114), a form that the manual does not state. -/
opaque versionText : Nat → List Byte
/-- PCIE_VENDOR_ID (R442). -/
opaque vendorId : Nat
/-- Falqua's manufacturer identity in IDCODE (R554). -/
opaque jtagManufacturer : Nat
/-- Banks per pseudo-channel that a stack's DEVICE_ID reports (R395). -/
opaque hbmBanks : Nat

/-- The OFFER bit of the host electrical interface that a code names in SFF-8024, if R110 lists it: the codes are that standard's. -/
opaque hostInterface : Nat → Option Nat
/-- Whether SFF-8024 assigns an identifier to a CMIS-managed module (R109). -/
opaque cmisIdentifier : Nat → Bool

end Sys2Proof.Config
end

