-- ==== Sys2Proof/Machine/Dictionary.lean ====
section
/-! DEFINITION. Sys2Proof/Machine/Dictionary.lean: the object dictionary of R115 to R122, one row for each row of the
spec's object tables: index range, sub-index range, type (R116), access right (R117), attributes, default and the values a
write may carry. -/

namespace Sys2Proof.Machine

/-- The fourteen types of R116. -/
inductive ObjType where
  | bool | u8 | u16 | u32 | u64 | i32 | i64 | enum8 | bits32 | octets | text | handle | time64 | blob
  deriving DecidableEq, Repr

/-- The five access rights of R117. -/
inductive Access where
  | ro | rw | wo | rwb | cmd
  deriving DecidableEq, Repr

/-- The default of an object: a number, a byte string, or a run of zero bytes. -/
inductive Dflt where
  | num (n : Nat)
  | bytes (bs : List Byte)
  | zeros (n : Nat)
  deriving DecidableEq, Repr

/-- The values that a write of an object may carry, where the object's own table row states them; `any` leaves the test to
the type of R116 or to the rule that the row names. -/
inductive Limits where
  | any
  | span (lo hi : Nat)
  | spanOr (lo hi other : Nat)
  | mask (m : Nat)
  | len (n : Nat)
  | maxLen (n : Nat)
  | etherType
  deriving DecidableEq, Repr

/-- One row of an object table. A default of none is the dash of R122: the device sets the value. -/
structure ObjDef where
  idxLo : Nat
  idxHi : Nat
  subLo : Nat
  subHi : Nat
  ty : ObjType
  access : Access
  /-- Attribute P (R120). -/
  p : Bool
  /-- Attribute M (R137). -/
  m : Bool
  /-- Attribute V (R121). -/
  v : Bool
  dflt : Option Dflt
  limits : Limits
  deriving DecidableEq, Repr

/-- The code of a type (R116). -/
def ObjType.code : ObjType → Nat
  | .bool => 1 | .u8 => 2 | .u16 => 3 | .u32 => 4 | .u64 => 5 | .i32 => 6 | .i64 => 7 | .enum8 => 8
  | .bits32 => 9 | .octets => 10 | .text => 11 | .handle => 12 | .time64 => 13 | .blob => 14

/-- The fixed length of a type in bytes, if it has one (R116). -/
def ObjType.fixedLen : ObjType → Option Nat
  | .bool => some 1 | .u8 => some 1 | .u16 => some 2 | .u32 => some 4 | .u64 => some 8 | .i32 => some 4 | .i64 => some 8
  | .enum8 => some 1 | .bits32 => some 4 | .octets => none | .text => none | .handle => some 4 | .time64 => some 8
  | .blob => none

/-- The longest value of a type in bytes (R116). -/
def ObjType.maxLen : ObjType → Nat
  | .octets => 1024
  | .text => 255
  | .blob => 4294967295
  | t => (t.fixedLen).getD 0

/-- The code of an access right (R117). -/
def Access.code : Access → Nat
  | .ro => 0 | .rw => 1 | .wo => 2 | .rwb => 3 | .cmd => 4

/-- Rows 1 of the dictionary, in index order. -/
def dictionary1 : List ObjDef := [
  ⟨0x1000, 0x1000, 0x1, 0x1, .text, .ro, false, false, false, (some (.bytes [0x46, 0x61, 0x6c, 0x71, 0x75, 0x61])), .any⟩, -- VENDOR_NAME (R94)
  ⟨0x1000, 0x1000, 0x2, 0x2, .text, .ro, false, false, false, (some (.bytes [0x56, 0x52, 0x4c, 0x2d, 0x38, 0x32, 0x35, 0x36])), .any⟩, -- PART_NAME (R94)
  ⟨0x1000, 0x1000, 0x3, 0x3, .octets, .ro, false, false, false, none, .any⟩, -- FE_DIE_ID (R94)
  ⟨0x1000, 0x1000, 0x4, 0x4, .octets, .ro, false, false, false, none, .any⟩, -- TM_DIE_ID (R94)
  ⟨0x1000, 0x1000, 0x5, 0x5, .text, .ro, false, false, false, none, .any⟩, -- STEPPING (R94)
  ⟨0x1000, 0x1000, 0x6, 0x6, .u32, .ro, true, false, false, (some (.num 0)), .any⟩, -- BOOT_COUNT (R94)
  ⟨0x1000, 0x1000, 0x7, 0x7, .u32, .ro, false, false, true, (some (.num 0)), .any⟩, -- WARM_COUNT (R94)
  ⟨0x1000, 0x1000, 0x8, 0x8, .enum8, .ro, false, false, false, none, .any⟩, -- RESET_CAUSE (R94)
  ⟨0x1000, 0x1000, 0x9, 0x9, .enum8, .ro, false, false, false, none, .any⟩, -- BOOT_SLOT (R94)
  ⟨0x1000, 0x1000, 0xa, 0xa, .bits32, .ro, false, false, false, none, .any⟩, -- BOOT_FAULTS (R94)
  ⟨0x1000, 0x1000, 0xb, 0xb, .u32, .ro, false, false, true, (some (.num 0)), .any⟩, -- DORMANT_COUNT (R94)
  ⟨0x1010, 0x1010, 0x1, 0x1, .enum8, .cmd, false, false, false, none, (.span 1 2)⟩, -- RESET_REQUEST (R94)
  ⟨0x1010, 0x1010, 0x2, 0x2, .enum8, .rw, true, false, false, (some (.num 1)), (.span 0 1)⟩, -- POWER_ON_TARGET (R94)
  ⟨0x1020, 0x1020, 0x1, 0x1, .enum8, .ro, false, false, false, none, .any⟩, -- BOARD_RECORD_STATE (R107)
  ⟨0x1020, 0x1020, 0x2, 0x2, .u16, .ro, false, false, false, (some (.num 0)), .any⟩, -- BOARD_TYPE (R107)
  ⟨0x1020, 0x1020, 0x3, 0x3, .text, .ro, false, false, false, (some (.bytes [])), .any⟩, -- BOARD_SERIAL (R107)
  ⟨0x1020, 0x1020, 0x4, 0x4, .octets, .rwb, true, false, false, (some (.zeros 6)), (.len 6)⟩, -- MGMT_MAC_BASE (R107)
  ⟨0x1020, 0x1020, 0x5, 0x5, .blob, .ro, false, false, false, none, .any⟩, -- BOARD_RECORD (R107)
  ⟨0x1021, 0x1021, 0x0, 0x1f, .u16, .rwb, true, false, false, (some (.num 0)), .any⟩, -- CAGE_MAP (R107)
  ⟨0x1040, 0x1040, 0x1, 0x1, .u16, .rw, true, false, false, (some (.num 0x88b5)), .etherType⟩, -- POA_ETHERTYPE (R147)
  ⟨0x1040, 0x1040, 0x2, 0x2, .u16, .rw, true, false, false, (some (.num 0)), (.span 0 4094)⟩, -- POA_VLAN (R147)
  ⟨0x1040, 0x1040, 0x3, 0x3, .u16, .ro, false, false, false, none, .any⟩, -- SCHEMA_VERSION (R147)
  ⟨0x1040, 0x1040, 0x4, 0x4, .u32, .rw, true, false, false, (some (.num 60)), (.span 10 3600)⟩, -- SESSION_IDLE_S (R147)
  ⟨0x1040, 0x1040, 0x5, 0x5, .u8, .ro, false, false, false, (some (.num 0)), .any⟩, -- SESSIONS_OPEN (R147)
  ⟨0x1040, 0x1040, 0x6, 0x6, .u32, .ro, false, false, true, (some (.num 0)), .any⟩, -- AUTH_FAILURES (R147)
  ⟨0x1040, 0x1040, 0x7, 0x7, .u32, .ro, false, false, true, (some (.num 0)), .any⟩, -- STALE_SEQ_DROPS (R147)
  ⟨0x1041, 0x1041, 0x1, 0x8, .octets, .wo, true, false, false, none, (.len 32)⟩, -- KEY (R147)
  ⟨0x1042, 0x1042, 0x0, 0x0, .enum8, .rw, true, false, false, (some (.num 3)), (.span 0 3)⟩, -- KEY_ROLE (R147)
  ⟨0x1042, 0x1042, 0x1, 0x8, .enum8, .rw, true, false, false, (some (.num 0)), (.span 0 3)⟩, -- KEY_ROLE (R147)
  ⟨0x1043, 0x1043, 0x0, 0x0, .enum8, .rwb, true, false, false, (some (.num 3)), (.span 0 3)⟩, -- WINDOW_ROLE (R147)
  ⟨0x1043, 0x1043, 0x1, 0x7, .enum8, .rwb, true, false, false, (some (.num 2)), (.span 0 3)⟩, -- WINDOW_ROLE (R147)
  ⟨0x1100, 0x111f, 0x1, 0x1, .enum8, .ro, false, false, false, (some (.num 1)), .any⟩, -- MODULE_STATE (R111)
  ⟨0x1100, 0x111f, 0x2, 0x2, .u8, .ro, false, false, false, none, .any⟩, -- IDENTIFIER (R111)
  ⟨0x1100, 0x111f, 0x3, 0x3, .u8, .ro, false, false, false, none, .any⟩, -- CMIS_REVISION (R111)
  ⟨0x1100, 0x111f, 0x4, 0x4, .text, .ro, false, false, false, none, .any⟩, -- VENDOR_NAME (R111)
  ⟨0x1100, 0x111f, 0x5, 0x5, .octets, .ro, false, false, false, none, .any⟩, -- VENDOR_OUI (R111)
  ⟨0x1100, 0x111f, 0x6, 0x6, .text, .ro, false, false, false, none, .any⟩, -- PART_NUMBER (R111)
  ⟨0x1100, 0x111f, 0x7, 0x7, .text, .ro, false, false, false, none, .any⟩, -- VENDOR_REVISION (R111)
  ⟨0x1100, 0x111f, 0x8, 0x8, .text, .ro, false, false, false, none, .any⟩, -- SERIAL_NUMBER (R111)
  ⟨0x1100, 0x111f, 0x9, 0x9, .text, .ro, false, false, false, none, .any⟩, -- DATE_CODE (R111)
  ⟨0x1100, 0x111f, 0xa, 0xa, .u8, .ro, false, false, false, none, .any⟩, -- MEDIA_TYPE (R111)
  ⟨0x1100, 0x111f, 0xb, 0xb, .octets, .ro, false, false, false, none, .any⟩, -- APPLICATIONS (R111)
  ⟨0x1100, 0x111f, 0xc, 0xc, .octets, .ro, false, false, false, none, .any⟩, -- OFFER_MAP (R111)
  ⟨0x1100, 0x111f, 0xd, 0xd, .u32, .ro, false, false, true, (some (.num 0)), .any⟩, -- INSERTIONS (R111)
  ⟨0x1100, 0x111f, 0xe, 0xe, .u32, .ro, false, false, true, (some (.num 0)), .any⟩, -- READ_FAILURES (R111)
  ⟨0x1100, 0x111f, 0xf, 0xf, .blob, .ro, false, false, false, none, .any⟩, -- PAGE_IMAGE (R111)
  ⟨0x1100, 0x111f, 0x10, 0x10, .blob, .cmd, false, false, false, none, .any⟩, -- CMIS_PASSTHROUGH (R111)
  ⟨0x1100, 0x111f, 0x11, 0x11, .bool, .cmd, false, false, false, none, .any⟩ -- REREAD (R111)
]

/-- Rows 2 of the dictionary, in index order. -/
def dictionary2 : List ObjDef := [
  ⟨0x1200, 0x1203, 0x1, 0x1, .enum8, .ro, false, false, false, none, .any⟩, -- STACK_STATE (R113)
  ⟨0x1200, 0x1203, 0x2, 0x2, .octets, .ro, false, false, false, none, .any⟩, -- DEVICE_ID (R113)
  ⟨0x1200, 0x1203, 0x3, 0x3, .u8, .ro, false, false, false, none, .any⟩, -- MANUFACTURER_ID (R113)
  ⟨0x1200, 0x1203, 0x4, 0x4, .u8, .ro, false, false, false, none, .any⟩, -- STACK_HEIGHT (R113)
  ⟨0x1200, 0x1203, 0x5, 0x5, .u32, .ro, false, false, false, none, .any⟩, -- CAPACITY_MIB (R113)
  ⟨0x1200, 0x1203, 0x6, 0x6, .octets, .ro, false, false, false, none, .any⟩, -- SERIAL (R113)
  ⟨0x1300, 0x1300, 0x1, 0x1, .enum8, .ro, false, false, false, (some (.num 0)), .any⟩, -- MATE_STATE (R114)
  ⟨0x1300, 0x1300, 0x2, 0x2, .octets, .ro, false, false, false, none, .any⟩, -- MATE_FE_DIE_ID (R114)
  ⟨0x1300, 0x1300, 0x3, 0x3, .octets, .ro, false, false, false, none, .any⟩, -- MATE_TM_DIE_ID (R114)
  ⟨0x1300, 0x1300, 0x4, 0x4, .text, .ro, false, false, false, none, .any⟩, -- MATE_BUNDLE_VERSION (R114)
  ⟨0x1300, 0x1300, 0x5, 0x5, .u16, .ro, false, false, false, none, .any⟩, -- MATE_SCHEMA_VERSION (R114)
  ⟨0x1300, 0x1300, 0x6, 0x6, .text, .ro, false, false, false, none, .any⟩, -- MATE_BOARD_SERIAL (R114)
  ⟨0x1300, 0x1300, 0x7, 0x7, .bool, .ro, false, false, false, none, .any⟩, -- MATE_PAIR_ROLE (R114)
  ⟨0x1300, 0x1300, 0x8, 0x8, .time64, .ro, false, false, false, (some (.num 0)), .any⟩, -- MATE_IDENTIFIED_AT (R114)
  ⟨0x2000, 0x2000, 0x1, 0x1, .enum8, .ro, false, false, false, (some (.num 0)), .any⟩, -- MODE (R72)
  ⟨0x2000, 0x2000, 0x2, 0x2, .enum8, .cmd, false, false, false, none, (.span 0 7)⟩, -- MODE_REQUEST (R72)
  ⟨0x2000, 0x2000, 0x3, 0x3, .enum8, .ro, false, false, false, (some (.num 0)), .any⟩, -- MODE_PREVIOUS (R72)
  ⟨0x2000, 0x2000, 0x4, 0x4, .u32, .ro, false, false, true, (some (.num 0)), .any⟩, -- MODE_TRANSITIONS (R72)
  ⟨0x2000, 0x2000, 0x5, 0x5, .u32, .rw, true, false, false, (some (.num 1000)), (.span 10 600000)⟩, -- DRAIN_TIMEOUT_MS (R72)
  ⟨0x2000, 0x2000, 0x6, 0x6, .enum8, .rw, true, true, false, (some (.num 2)), (.span 2 3)⟩, -- TURN_MODE (R72)
  ⟨0x2000, 0x2000, 0x7, 0x7, .u32, .rw, false, false, false, (some (.num 0)), .any⟩, -- WAKE_AFTER_S (R72)
  ⟨0x2000, 0x2000, 0x8, 0x8, .bool, .rw, true, false, false, (some (.num 0)), .any⟩, -- WAKE_ON_MODULE (R72)
  ⟨0x2000, 0x2000, 0x9, 0x9, .u32, .ro, false, false, false, (some (.num 0)), .any⟩, -- DRAIN_QUEUES_LEFT (R72)
  ⟨0x2010, 0x2010, 0x1, 0x1, .bool, .rw, true, false, false, (some (.num 1)), .any⟩, -- SLICE_SLEEP_ENABLE (R79)
  ⟨0x2010, 0x2010, 0x2, 0x2, .u32, .rw, true, false, false, (some (.num 20000)), (.span 2000 10000000)⟩, -- SLICE_IDLE_NS (R79)
  ⟨0x2010, 0x2010, 0x3, 0x3, .u8, .rw, true, false, false, (some (.num 6)), (.span 0 16)⟩, -- MAX_SLEEP_SLICES (R79)
  ⟨0x2010, 0x2010, 0x4, 0x4, .bits32, .rw, true, false, false, (some (.num 0x0)), (.mask 0xffff)⟩, -- SLICE_PINNED (R79)
  ⟨0x2011, 0x2011, 0x1, 0x1, .bool, .rw, true, false, false, (some (.num 1)), .any⟩, -- FABRIC_QUIET_ENABLE (R79)
  ⟨0x2011, 0x2011, 0x2, 0x2, .u8, .rw, true, false, false, (some (.num 10)), (.span 1 40)⟩, -- FABRIC_MIN_QUADS (R79)
  ⟨0x2011, 0x2011, 0x3, 0x3, .u16, .rw, true, false, false, (some (.num 150)), (.span 110 400)⟩, -- FABRIC_HEADROOM_PCT (R79)
  ⟨0x2011, 0x2011, 0x4, 0x4, .u32, .rw, true, false, false, (some (.num 1000)), (.span 100 1000000)⟩, -- FABRIC_QUIET_DELAY_US (R79)
  ⟨0x2012, 0x2012, 0x1, 0x1, .bool, .rw, true, false, false, (some (.num 1)), .any⟩, -- HBM_SLEEP_ENABLE (R79)
  ⟨0x2012, 0x2012, 0x2, 0x2, .u32, .rw, true, false, false, (some (.num 1000)), (.span 100 1000000)⟩, -- HBM_IDLE_US (R79)
  ⟨0x2012, 0x2012, 0x3, 0x3, .u32, .rw, true, false, false, (some (.num 36864)), (.span 36864 147456)⟩, -- HBM_WAKE_MARGIN_KIB (R79)
  ⟨0x2013, 0x2013, 0x1, 0x1, .u32, .ro, false, false, true, (some (.num 0)), .any⟩, -- WAKE_LATE_SLICE (R79)
  ⟨0x2013, 0x2013, 0x2, 0x2, .u32, .ro, false, false, true, (some (.num 0)), .any⟩, -- WAKE_LATE_FABRIC (R79)
  ⟨0x2013, 0x2013, 0x3, 0x3, .u32, .ro, false, false, true, (some (.num 0)), .any⟩, -- WAKE_LATE_HBM (R79)
  ⟨0x2013, 0x2013, 0x4, 0x4, .time64, .ro, false, false, false, (some (.num 0)), .any⟩, -- WAKE_LATE_LAST (R79)
  ⟨0x2100, 0x2100, 0x1, 0x1, .u16, .ro, false, false, false, (some (.num 212)), .any⟩, -- DOMAIN_COUNT (R58)
  ⟨0x2101, 0x2101, 0x0, 0xd3, .enum8, .ro, false, false, false, none, .any⟩, -- DOMAIN_STATE (R58)
  ⟨0x2102, 0x2102, 0x0, 0xd3, .u32, .ro, false, false, true, none, .any⟩, -- DOMAIN_POWER_MW (R58)
  ⟨0x2103, 0x2103, 0x0, 0xd3, .u32, .ro, false, false, true, (some (.num 0)), .any⟩, -- DOMAIN_WAKES (R58)
  ⟨0x2200, 0x2200, 0x1, 0x1, .bool, .ro, false, false, false, none, .any⟩, -- TWCLK_OK (R69)
  ⟨0x2200, 0x2200, 0x2, 0x2, .bits32, .ro, false, false, false, none, .any⟩, -- PLL_LOCK (R69)
  ⟨0x2201, 0x2201, 0x0, 0x13, .i32, .ro, false, false, false, none, .any⟩, -- REFCLK_PPB (R69)
  ⟨0x2203, 0x2203, 0x1, 0x1, .enum8, .ro, true, false, false, (some (.num 0)), .any⟩, -- CLOCK_FAULT_CAUSE (R69)
  ⟨0x2203, 0x2203, 0x2, 0x2, .u32, .ro, false, false, true, (some (.num 0)), .any⟩, -- REFCLK_LOSSES (R69)
  ⟨0x2280, 0x2280, 0x1, 0x1, .enum8, .rw, true, false, false, (some (.num 1)), (.span 0 2)⟩ -- EDGE_FLASH (R62)
]

/-- Rows 3 of the dictionary, in index order. -/
def dictionary3 : List ObjDef := [
  ⟨0x2280, 0x2280, 0x2, 0x2, .enum8, .rw, true, false, false, (some (.num 2)), (.span 0 2)⟩, -- EDGE_MOD_TWI (R62)
  ⟨0x2280, 0x2280, 0x3, 0x3, .enum8, .rw, true, false, false, (some (.num 2)), (.span 0 2)⟩, -- EDGE_BOARD_TWI (R62)
  ⟨0x2280, 0x2280, 0x4, 0x4, .enum8, .rw, true, false, false, (some (.num 1)), (.span 0 2)⟩, -- EDGE_AVS (R62)
  ⟨0x2280, 0x2280, 0x5, 0x5, .enum8, .rw, true, false, false, (some (.num 1)), (.span 0 2)⟩, -- EDGE_MISC (R62)
  ⟨0x2281, 0x2281, 0x1, 0x1, .u16, .rwb, true, false, false, (some (.num 50)), (.span 0 50)⟩, -- SPREAD_CORE (R62)
  ⟨0x2281, 0x2281, 0x2, 0x2, .u16, .rwb, true, false, false, (some (.num 50)), (.span 0 50)⟩, -- SPREAD_STEWARD (R62)
  ⟨0x2281, 0x2281, 0x3, 0x3, .u16, .rwb, true, false, false, (some (.num 50)), (.span 0 50)⟩, -- SPREAD_HBMC (R62)
  ⟨0x2281, 0x2281, 0x4, 0x4, .u32, .rwb, true, false, false, (some (.num 31500)), (.span 30000 33000)⟩, -- SPREAD_RATE_HZ (R62)
  ⟨0x2300, 0x2300, 0x1, 0x1, .u16, .ro, false, false, false, (some (.num 800)), .any⟩, -- VDD_FE_TARGET_MV (R61)
  ⟨0x2300, 0x2300, 0x2, 0x2, .u16, .ro, false, false, false, (some (.num 800)), .any⟩, -- VDD_TM_TARGET_MV (R61)
  ⟨0x2300, 0x2300, 0x3, 0x3, .u16, .ro, false, false, false, none, .any⟩, -- VDD_FE_READ_MV (R61)
  ⟨0x2300, 0x2300, 0x4, 0x4, .u16, .ro, false, false, false, none, .any⟩, -- VDD_TM_READ_MV (R61)
  ⟨0x2300, 0x2300, 0x5, 0x5, .u32, .ro, false, false, true, (some (.num 0)), .any⟩, -- AVS_FAULTS (R61)
  ⟨0x2300, 0x2300, 0x6, 0x6, .enum8, .rwb, true, false, false, (some (.num 0)), (.span 0 1)⟩, -- AVS_MODE (R61)
  ⟨0x2301, 0x2301, 0x1, 0x1a, .i32, .ro, false, false, false, none, .any⟩, -- TEMP_MC (R61)
  ⟨0x2302, 0x2302, 0x1, 0x1, .i32, .rw, true, false, false, (some (.num 100000)), (.span 70000 104000)⟩, -- THERM_ALERT_MC (R61)
  ⟨0x2302, 0x2302, 0x2, 0x2, .i32, .ro, false, false, false, (some (.num 110000)), .any⟩, -- THERM_TRIP_MC (R61)
  ⟨0x2302, 0x2302, 0x3, 0x3, .i32, .rw, true, false, false, (some (.num 90000)), (.span 70000 94000)⟩, -- HBM_ALERT_MC (R61)
  ⟨0x2302, 0x2302, 0x4, 0x4, .i32, .ro, false, false, false, (some (.num 100000)), .any⟩, -- HBM_TRIP_MC (R61)
  ⟨0x2302, 0x2302, 0x6, 0x6, .enum8, .ro, true, false, false, (some (.num 0)), .any⟩, -- TRIP_CAUSE (R61)
  ⟨0x3000, 0x3000, 0x0, 0x7f, .enum8, .rw, true, true, false, (some (.num 0)), (.span 0 5)⟩, -- PORT_MODE (R441)
  ⟨0x3001, 0x3001, 0x0, 0x7f, .u8, .rwb, true, true, false, (some (.num 0xff)), (.spanOr 0 15 255)⟩, -- PORT_SLICE (R441)
  ⟨0x3002, 0x3002, 0x0, 0x7f, .bool, .rw, true, false, false, (some (.num 0)), .any⟩, -- PORT_ADMIN (R441)
  ⟨0x3003, 0x3003, 0x0, 0x7f, .enum8, .ro, false, false, false, (some (.num 0)), .any⟩, -- PORT_STATE (R441)
  ⟨0x3004, 0x3004, 0x0, 0x7f, .u16, .rw, true, true, false, (some (.num 9216)), (.span 1518 16000)⟩, -- MAX_FRAME (R441)
  ⟨0x3005, 0x3005, 0x0, 0x7f, .u32, .rw, true, false, false, (some (.num 0)), (.span 0 100000)⟩, -- LINK_DOWN_HOLD_US (R441)
  ⟨0x3006, 0x3006, 0x0, 0x7f, .u32, .rw, true, false, false, (some (.num 0)), (.span 0 10000)⟩, -- LINK_UP_HOLD_MS (R441)
  ⟨0x3007, 0x3007, 0x0, 0x7f, .enum8, .rw, true, false, false, none, .any⟩, -- LANE_PROFILE (R441)
  ⟨0x3008, 0x3008, 0x0, 0x7f, .u32, .ro, false, false, true, (some (.num 0)), .any⟩, -- LINK_UPS (R441)
  ⟨0x3009, 0x3009, 0x0, 0x7f, .u32, .ro, false, false, true, (some (.num 0)), .any⟩, -- LINK_DOWNS (R441)
  ⟨0x300a, 0x300a, 0x0, 0x7f, .time64, .ro, false, false, false, (some (.num 0)), .any⟩, -- LAST_CHANGE (R441)
  ⟨0x300b, 0x300b, 0x0, 0x7f, .enum8, .ro, false, false, false, (some (.num 0)), .any⟩, -- LAST_DOWN_CAUSE (R441)
  ⟨0x3010, 0x3017, 0x0, 0x7f, .u64, .ro, false, false, true, (some (.num 0)), .any⟩, -- RX_FRAMES to RX_MAC_CONTROL (R441)
  ⟨0x3020, 0x3020, 0x0, 0x7f, .i32, .rw, true, false, false, (some (.num 0)), .any⟩, -- RX_DELAY_PS (R441)
  ⟨0x3021, 0x3021, 0x0, 0x7f, .i32, .rw, true, false, false, (some (.num 0)), .any⟩, -- TX_DELAY_PS (R441)
  ⟨0x3022, 0x3022, 0x0, 0x7f, .handle, .rw, false, false, false, (some (.num 0x0)), .any⟩, -- TS_QUEUE (R441)
  ⟨0x3023, 0x3023, 0x0, 0x7f, .octets, .cmd, false, false, false, none, .any⟩, -- TX_STAMP_POP (R441)
  ⟨0x3024, 0x3024, 0x0, 0x7f, .u32, .ro, false, false, true, (some (.num 0)), .any⟩, -- TX_STAMP_OVERFLOWS (R441)
  ⟨0x3100, 0x3100, 0x1, 0x1, .time64, .ro, false, false, false, (some (.num 0)), .any⟩, -- PTP_TIME (R441)
  ⟨0x3100, 0x3100, 0x2, 0x2, .i64, .cmd, false, false, false, none, .any⟩, -- PTP_STEP_NS (R441)
  ⟨0x3100, 0x3100, 0x3, 0x3, .i32, .rw, false, false, false, (some (.num 0)), .any⟩, -- PTP_FREQ_PPT (R441)
  ⟨0x3100, 0x3100, 0x4, 0x4, .time64, .ro, false, false, false, (some (.num 0)), .any⟩, -- PPS_IN_TIME (R441)
  ⟨0x3100, 0x3100, 0x5, 0x5, .u32, .ro, false, false, true, (some (.num 0)), .any⟩, -- PPS_IN_COUNT (R441)
  ⟨0x3100, 0x3100, 0x6, 0x6, .bool, .rw, true, false, false, (some (.num 0)), .any⟩, -- PPS_OUT_ENABLE (R441)
  ⟨0x3110, 0x3110, 0x0, 0x0, .u8, .rw, true, false, false, (some (.num 0xff)), (.spanOr 0 127 255)⟩, -- RECCLK_SOURCE (R441)
  ⟨0x3110, 0x3110, 0x1, 0x1, .u8, .rw, true, false, false, (some (.num 0xff)), (.spanOr 0 127 255)⟩, -- RECCLK_SOURCE (R441)
  ⟨0x3111, 0x3111, 0x0, 0x0, .enum8, .rw, true, false, false, (some (.num 0)), (.span 0 1)⟩, -- RECCLK_FREQ (R441)
  ⟨0x3111, 0x3111, 0x1, 0x1, .enum8, .rw, true, false, false, (some (.num 0)), (.span 0 1)⟩ -- RECCLK_FREQ (R441)
]

/-- Rows 4 of the dictionary, in index order. -/
def dictionary4 : List ObjDef := [
  ⟨0x3112, 0x3112, 0x0, 0x0, .bool, .ro, false, false, false, (some (.num 1)), .any⟩, -- RECCLK_SQUELCHED (R441)
  ⟨0x3112, 0x3112, 0x1, 0x1, .bool, .ro, false, false, false, (some (.num 1)), .any⟩, -- RECCLK_SQUELCHED (R441)
  ⟨0x3180, 0x3180, 0x0, 0x0, .enum8, .rw, true, false, false, (some (.num 0)), .any⟩, -- MGMT_MODE (R441)
  ⟨0x3180, 0x3180, 0x1, 0x1, .enum8, .rw, true, false, false, (some (.num 0)), .any⟩, -- MGMT_MODE (R441)
  ⟨0x3181, 0x3181, 0x0, 0x0, .enum8, .ro, false, false, false, (some (.num 0)), .any⟩, -- MGMT_LINK (R441)
  ⟨0x3181, 0x3181, 0x1, 0x1, .enum8, .ro, false, false, false, (some (.num 0)), .any⟩, -- MGMT_LINK (R441)
  ⟨0x3182, 0x3182, 0x0, 0x0, .bool, .rw, true, false, false, (some (.num 1)), .any⟩, -- MGMT_AUTONEG (R441)
  ⟨0x3182, 0x3182, 0x1, 0x1, .bool, .rw, true, false, false, (some (.num 1)), .any⟩, -- MGMT_AUTONEG (R441)
  ⟨0x3183, 0x3183, 0x0, 0x0, .u32, .ro, false, false, true, (some (.num 0)), .any⟩, -- MGMT_RX_DROPS (R441)
  ⟨0x3183, 0x3183, 0x1, 0x1, .u32, .ro, false, false, true, (some (.num 0)), .any⟩, -- MGMT_RX_DROPS (R441)
  ⟨0x3200, 0x3200, 0x0, 0x7f, .enum8, .ro, false, false, false, (some (.num 0)), .any⟩, -- LANE_STATE (R433)
  ⟨0x3201, 0x3201, 0x0, 0x7f, .u8, .ro, false, false, false, (some (.num 0xff)), .any⟩, -- LANE_PORT (R433)
  ⟨0x3210, 0x3210, 0x0, 0x7f, .octets, .rw, true, false, false, none, (.len 4)⟩, -- TX_FIR (R433)
  ⟨0x3211, 0x3211, 0x0, 0x7f, .u8, .rwb, true, false, false, (some (.num 0)), (.mask 0x3)⟩, -- POLARITY (R433)
  ⟨0x3212, 0x3212, 0x0, 0x7f, .enum8, .rw, false, false, false, (some (.num 0)), (.span 0 1)⟩, -- ADAPT_CONTROL (R433)
  ⟨0x3213, 0x3213, 0x0, 0x7f, .octets, .ro, false, false, false, none, .any⟩, -- MARGIN (R433)
  ⟨0x3214, 0x3214, 0x0, 0x7f, .u64, .ro, false, false, true, (some (.num 0)), .any⟩, -- FEC_CORRECTED_CW (R433)
  ⟨0x3215, 0x3215, 0x0, 0x7f, .u64, .ro, false, false, true, (some (.num 0)), .any⟩, -- FEC_UNCORRECTED_CW (R433)
  ⟨0x3216, 0x3216, 0x0, 0x7f, .u64, .ro, false, false, true, (some (.num 0)), .any⟩, -- FEC_SYMBOL_ERRORS (R433)
  ⟨0x3217, 0x3217, 0x0, 0x7f, .u32, .ro, false, false, false, (some (.num 0)), .any⟩, -- PRE_FEC_BER (R433)
  ⟨0x3218, 0x3218, 0x0, 0x7f, .u32, .ro, false, false, true, (some (.num 0)), .any⟩, -- ADAPT_STEPS (R433)
  ⟨0x3219, 0x3219, 0x0, 0x7f, .u32, .ro, false, false, true, (some (.num 0)), .any⟩, -- ADAPT_REVERTS (R433)
  ⟨0x3400, 0x3400, 0x0, 0x9f, .enum8, .ro, false, false, false, (some (.num 0)), .any⟩, -- FAB_LINK_STATE (R350)
  ⟨0x3401, 0x3401, 0x0, 0x9f, .bool, .rwb, true, false, false, (some (.num 1)), .any⟩, -- FAB_LINK_ADMIN (R350)
  ⟨0x3402, 0x3402, 0x0, 0x9f, .u16, .ro, false, false, false, none, .any⟩, -- FAR_END_ID (R350)
  ⟨0x3403, 0x3403, 0x0, 0x9f, .u8, .ro, false, false, false, none, .any⟩, -- FAR_END_PORT (R350)
  ⟨0x3404, 0x3404, 0x0, 0x9f, .u32, .ro, false, false, true, (some (.num 0)), .any⟩, -- REPLAYS (R350)
  ⟨0x3405, 0x3405, 0x0, 0x9f, .u32, .ro, false, false, true, (some (.num 0)), .any⟩, -- CRC_DISCARDS (R350)
  ⟨0x3406, 0x3406, 0x0, 0x9f, .u32, .ro, false, false, true, (some (.num 0)), .any⟩, -- LINK_FAULT_COUNT (R350)
  ⟨0x3407, 0x3407, 0x0, 0x9f, .enum8, .ro, false, false, false, (some (.num 0)), .any⟩, -- LAST_FAULT_CAUSE (R350)
  ⟨0x3410, 0x3410, 0x0, 0x9f, .octets, .rw, true, false, false, none, (.len 4)⟩, -- TX_FIR (R433)
  ⟨0x3411, 0x3411, 0x0, 0x9f, .u8, .rwb, true, false, false, (some (.num 0)), (.mask 0x3)⟩, -- POLARITY (R433)
  ⟨0x3412, 0x3412, 0x0, 0x9f, .enum8, .rw, false, false, false, (some (.num 0)), (.span 0 1)⟩, -- ADAPT_CONTROL (R433)
  ⟨0x3413, 0x3413, 0x0, 0x9f, .octets, .ro, false, false, false, none, .any⟩, -- MARGIN (R433)
  ⟨0x3414, 0x3414, 0x0, 0x9f, .u64, .ro, false, false, true, (some (.num 0)), .any⟩, -- FEC_CORRECTED_CW (R433)
  ⟨0x3415, 0x3415, 0x0, 0x9f, .u64, .ro, false, false, true, (some (.num 0)), .any⟩, -- FEC_UNCORRECTED_CW (R433)
  ⟨0x3416, 0x3416, 0x0, 0x9f, .u64, .ro, false, false, true, (some (.num 0)), .any⟩, -- FEC_SYMBOL_ERRORS (R433)
  ⟨0x3417, 0x3417, 0x0, 0x9f, .u32, .ro, false, false, false, (some (.num 0)), .any⟩, -- PRE_FEC_BER (R433)
  ⟨0x3418, 0x3418, 0x0, 0x9f, .u32, .ro, false, false, true, (some (.num 0)), .any⟩, -- ADAPT_STEPS (R433)
  ⟨0x3419, 0x3419, 0x0, 0x9f, .u32, .ro, false, false, true, (some (.num 0)), .any⟩, -- ADAPT_REVERTS (R433)
  ⟨0x3600, 0x3600, 0x0, 0x7, .enum8, .ro, false, false, false, (some (.num 0)), .any⟩, -- MATE_LANE_STATE (R393)
  ⟨0x3601, 0x3601, 0x0, 0x7, .bool, .rwb, true, false, false, (some (.num 1)), .any⟩, -- MATE_LANE_ADMIN (R393)
  ⟨0x3602, 0x3602, 0x0, 0x7, .u32, .ro, false, false, true, (some (.num 0)), .any⟩, -- MATE_REPLAYS (R393)
  ⟨0x3603, 0x3603, 0x0, 0x7, .u32, .ro, false, false, true, (some (.num 0)), .any⟩, -- MATE_CRC_DISCARDS (R393)
  ⟨0x3604, 0x3604, 0x0, 0x7, .u32, .ro, false, false, true, (some (.num 0)), .any⟩, -- MATE_LANE_FAULTS (R393)
  ⟨0x3605, 0x3605, 0x1, 0x1, .u8, .ro, false, false, false, (some (.num 0)), .any⟩, -- MATE_LANES_UP (R393)
  ⟨0x3605, 0x3605, 0x2, 0x2, .u32, .rw, true, false, false, (some (.num 1000)), (.span 500 100000)⟩, -- MATE_REPLAY_TIMEOUT_NS (R393)
  ⟨0x3610, 0x3610, 0x0, 0x7, .octets, .rw, true, false, false, none, (.len 4)⟩, -- TX_FIR (R433)
  ⟨0x3611, 0x3611, 0x0, 0x7, .u8, .rwb, true, false, false, (some (.num 0)), (.mask 0x3)⟩, -- POLARITY (R433)
  ⟨0x3612, 0x3612, 0x0, 0x7, .enum8, .rw, false, false, false, (some (.num 0)), (.span 0 1)⟩ -- ADAPT_CONTROL (R433)
]

/-- Rows 5 of the dictionary, in index order. -/
def dictionary5 : List ObjDef := [
  ⟨0x3613, 0x3613, 0x0, 0x7, .octets, .ro, false, false, false, none, .any⟩, -- MARGIN (R433)
  ⟨0x3614, 0x3614, 0x0, 0x7, .u64, .ro, false, false, true, (some (.num 0)), .any⟩, -- FEC_CORRECTED_CW (R433)
  ⟨0x3615, 0x3615, 0x0, 0x7, .u64, .ro, false, false, true, (some (.num 0)), .any⟩, -- FEC_UNCORRECTED_CW (R433)
  ⟨0x3616, 0x3616, 0x0, 0x7, .u64, .ro, false, false, true, (some (.num 0)), .any⟩, -- FEC_SYMBOL_ERRORS (R433)
  ⟨0x3617, 0x3617, 0x0, 0x7, .u32, .ro, false, false, false, (some (.num 0)), .any⟩, -- PRE_FEC_BER (R433)
  ⟨0x3618, 0x3618, 0x0, 0x7, .u32, .ro, false, false, true, (some (.num 0)), .any⟩, -- ADAPT_STEPS (R433)
  ⟨0x3619, 0x3619, 0x0, 0x7, .u32, .ro, false, false, true, (some (.num 0)), .any⟩, -- ADAPT_REVERTS (R433)
  ⟨0x3700, 0x3700, 0x0, 0xf, .enum8, .ro, false, false, false, (some (.num 0)), .any⟩, -- DG_STATE (R440)
  ⟨0x3701, 0x3701, 0x0, 0xf, .u8, .ro, false, false, false, (some (.num 0)), .any⟩, -- DG_SPARES_USED (R440)
  ⟨0x3702, 0x3702, 0x0, 0xf, .u64, .ro, false, false, true, (some (.num 0)), .any⟩, -- DG_CORRECTED (R440)
  ⟨0x3703, 0x3703, 0x0, 0xf, .u32, .ro, false, false, true, (some (.num 0)), .any⟩, -- DG_UNCORRECTABLE (R440)
  ⟨0x3704, 0x3704, 0x0, 0xf, .octets, .ro, false, false, false, none, .any⟩, -- DG_MARGIN (R440)
  ⟨0x3705, 0x3705, 0x0, 0xf, .u32, .ro, false, false, true, (some (.num 0)), .any⟩, -- DG_CAL_UPDATES (R440)
  ⟨0x3706, 0x3706, 0x1, 0x1, .u32, .rw, true, false, false, (some (.num 100)), (.span 10 10000)⟩, -- DG_CAL_PERIOD_MS (R440)
  ⟨0x4000, 0x4000, 0x1, 0x1, .u16, .ro, false, false, false, (some (.num 0x0)), .any⟩, -- EPOCH_CURRENT (R181)
  ⟨0x4000, 0x4000, 0x2, 0x2, .u16, .ro, false, false, false, (some (.num 0xffff)), .any⟩, -- EPOCH_OLDER (R181)
  ⟨0x4000, 0x4000, 0x3, 0x3, .u32, .ro, false, false, false, (some (.num 0)), .any⟩, -- INFLIGHT_CURRENT (R181)
  ⟨0x4000, 0x4000, 0x4, 0x4, .u32, .ro, false, false, false, (some (.num 0)), .any⟩, -- INFLIGHT_OLDER (R181)
  ⟨0x4000, 0x4000, 0x5, 0x5, .bool, .ro, false, false, false, (some (.num 0)), .any⟩, -- COMMIT_WAITING (R181)
  ⟨0x4000, 0x4000, 0x6, 0x6, .u32, .ro, false, false, false, (some (.num 0)), .any⟩, -- LAST_DRAIN_NS (R181)
  ⟨0x4000, 0x4000, 0x7, 0x7, .u32, .ro, false, false, false, (some (.num 0)), .any⟩, -- MAX_DRAIN_NS (R181)
  ⟨0x4001, 0x4001, 0x1, 0x1, .u32, .ro, false, false, false, (some (.num 0)), .any⟩, -- PROGRAM_ID_CURRENT (R181)
  ⟨0x4001, 0x4001, 0x2, 0x2, .u32, .ro, false, false, false, (some (.num 0)), .any⟩, -- PROGRAM_ID_OLDER (R181)
  ⟨0x4001, 0x4001, 0x3, 0x3, .enum8, .ro, false, false, false, (some (.num 0)), .any⟩, -- BANK_CURRENT (R181)
  ⟨0x4002, 0x4002, 0x1, 0x1, .u16, .ro, false, false, false, (some (.num 1536)), .any⟩, -- PASS_CYCLES (R181)
  ⟨0x4002, 0x4002, 0x2, 0x2, .u8, .ro, false, false, false, (some (.num 32)), .any⟩, -- STEP_BUDGET (R181)
  ⟨0x4002, 0x4002, 0x3, 0x3, .u8, .ro, false, false, false, (some (.num 16)), .any⟩, -- ACCESS_BUDGET (R181)
  ⟨0x4002, 0x4002, 0x4, 0x4, .u8, .ro, false, false, false, (some (.num 2)), .any⟩, -- TCAM_BUDGET (R181)
  ⟨0x4002, 0x4002, 0x5, 0x5, .u8, .ro, false, false, false, (some (.num 2)), .any⟩, -- METER_BUDGET (R181)
  ⟨0x4002, 0x4002, 0x6, 0x6, .u8, .ro, false, false, false, (some (.num 4)), .any⟩, -- MAX_PASSES (R181)
  ⟨0x4002, 0x4002, 0x7, 0x7, .u16, .ro, false, false, false, (some (.num 256)), .any⟩, -- RECIRC_DEPTH (R181)
  ⟨0x4010, 0x4010, 0x0, 0x7f, .enum8, .rw, false, false, false, (some (.num 0)), (.span 0 2)⟩, -- PUNT_TARGET (R185)
  ⟨0x4011, 0x4011, 0x0, 0x7f, .handle, .rw, false, false, false, (some (.num 0x0)), .any⟩, -- PUNT_CHANNEL (R185)
  ⟨0x4012, 0x4012, 0x0, 0x7f, .u16, .rw, false, false, false, (some (.num 0x0)), .any⟩, -- PUNT_THREAD (R185)
  ⟨0x4020, 0x4020, 0x0, 0x7f, .u16, .rw, false, false, false, (some (.num 0x3ff)), .any⟩, -- INGRESS_START (R188)
  ⟨0x4021, 0x4021, 0x0, 0x7f, .u16, .rw, false, false, false, (some (.num 0x3ff)), .any⟩, -- EGRESS_START (R188)
  ⟨0x4022, 0x4022, 0x0, 0x0, .u16, .rw, false, false, false, (some (.num 0x3ff)), .any⟩, -- ORPHAN_START (R188)
  ⟨0x4030, 0x4030, 0x0, 0xff, .octets, .rw, false, false, false, (some (.zeros 32)), (.len 32)⟩, -- KEY_PROFILE (R188)
  ⟨0x4040, 0x4040, 0x1, 0x1, .u32, .rw, false, false, false, (some (.num 0)), .any⟩, -- SAMPLE_SEED (R181)
  ⟨0x4100, 0x4102, 0x0, 0xff, .octets, .rw, false, false, false, (some (.zeros 32)), (.len 32)⟩, -- INGRESS_STEP (R188)
  ⟨0x4103, 0x4103, 0x0, 0xfe, .octets, .rw, false, false, false, (some (.zeros 32)), (.len 32)⟩, -- INGRESS_STEP (R188)
  ⟨0x4108, 0x410a, 0x0, 0xff, .octets, .rw, false, false, false, (some (.zeros 32)), (.len 32)⟩, -- EGRESS_STEP (R188)
  ⟨0x410b, 0x410b, 0x0, 0xfe, .octets, .rw, false, false, false, (some (.zeros 32)), (.len 32)⟩, -- EGRESS_STEP (R188)
  ⟨0x4110, 0x4110, 0x0, 0xff, .octets, .rw, false, false, false, (some (.bytes [])), (.maxLen 64)⟩, -- EDIT_TEMPLATE (R188)
  ⟨0x4200, 0x4200, 0x1, 0x1, .blob, .rw, false, false, false, (some (.bytes [])), (.maxLen 262144)⟩, -- IMAGE_STAGE (R188)
  ⟨0x4200, 0x4200, 0x2, 0x2, .blob, .rw, false, false, false, (some (.bytes [])), (.maxLen 262144)⟩, -- IMAGE_STAGE (R188)
  ⟨0x4201, 0x4201, 0x1, 0x1, .enum8, .ro, false, false, false, (some (.num 0)), .any⟩, -- STAGE_STATE (R188)
  ⟨0x4201, 0x4201, 0x2, 0x2, .enum8, .ro, false, false, false, (some (.num 0)), .any⟩ -- STAGE_STATE (R188)
]

/-- Rows 6 of the dictionary, in index order. -/
def dictionary6 : List ObjDef := [
  ⟨0x4201, 0x4201, 0x3, 0x3, .u32, .ro, false, false, false, (some (.num 0xffffffff)), .any⟩, -- STAGE_ERROR_OFFSET (R188)
  ⟨0x4201, 0x4201, 0x4, 0x4, .u32, .ro, false, false, false, (some (.num 0xffffffff)), .any⟩, -- STAGE_ERROR_OFFSET (R188)
  ⟨0x4201, 0x4201, 0x5, 0x5, .u16, .ro, false, false, false, (some (.num 0)), .any⟩, -- LONGEST_PATH (R188)
  ⟨0x4201, 0x4201, 0x6, 0x6, .u16, .ro, false, false, false, (some (.num 0)), .any⟩, -- LONGEST_PATH (R188)
  ⟨0x4202, 0x4202, 0x1, 0x1, .u8, .cmd, false, false, false, none, (.span 0 1)⟩, -- PROGRAM_INSTALL (R188)
  ⟨0x4300, 0x4300, 0x1, 0x1, .u32, .ro, false, false, true, (some (.num 0)), .any⟩, -- NO_DEST_DROPS (R185)
  ⟨0x4300, 0x4300, 0x2, 0x2, .u32, .ro, false, false, true, (some (.num 0)), .any⟩, -- RECIRC_DROPS (R185)
  ⟨0x4301, 0x4301, 0x0, 0x7f, .u32, .ro, false, false, true, (some (.num 0)), .any⟩, -- PUNTS (R185)
  ⟨0x4302, 0x4302, 0x0, 0x7f, .u32, .ro, false, false, true, (some (.num 0)), .any⟩, -- PUNT_DROPS (R185)
  ⟨0x4303, 0x4303, 0x0, 0xff, .u32, .ro, false, false, true, (some (.num 0)), .any⟩, -- DROPS_BY_CAUSE (R185)
  ⟨0x4304, 0x4304, 0x1, 0x1, .u32, .ro, false, false, true, (some (.num 0)), .any⟩, -- PARSE_TRUNCATED_DROPS (R205)
  ⟨0x4304, 0x4304, 0x2, 0x2, .u32, .ro, false, false, true, (some (.num 0)), .any⟩, -- LEN_CONFLICT_DROPS (R205)
  ⟨0x4304, 0x4304, 0x3, 0x3, .u32, .ro, false, false, true, (some (.num 0)), .any⟩, -- PARSE_UNKNOWN_ENDS (R205)
  ⟨0x4304, 0x4304, 0x4, 0x4, .u32, .ro, false, false, true, (some (.num 0)), .any⟩, -- IPV4_CSUM_BAD (R205)
  ⟨0x4305, 0x4305, 0x0, 0xff, .u32, .ro, false, false, true, (some (.num 0)), .any⟩, -- PARSE_FAULTS_BY_NODE (R205)
  ⟨0x4400, 0x4400, 0x1, 0x1, .u16, .rw, false, false, false, (some (.num 0x0)), (.span 0 256)⟩, -- ORPHAN_START_NODE (R205)
  ⟨0x4400, 0x4400, 0x2, 0x2, .bool, .cmd, false, false, false, none, .any⟩, -- GRAPH_RESTORE (R205)
  ⟨0x4401, 0x4401, 0x0, 0x7f, .u16, .rw, false, false, false, (some (.num 0x0)), (.span 0 256)⟩, -- INGRESS_START_NODE (R205)
  ⟨0x4402, 0x4402, 0x0, 0x7f, .u16, .rw, false, false, false, (some (.num 0x0)), (.span 0 256)⟩, -- EGRESS_START_NODE (R205)
  ⟨0x4410, 0x4410, 0x0, 0xff, .octets, .rw, false, false, false, (some (.zeros 128)), (.len 128)⟩, -- NODE (R205)
  ⟨0x5000, 0x5000, 0x1, 0x1, .u32, .ro, false, false, false, (some (.num 1048576)), .any⟩, -- EM_BUCKETS (R245)
  ⟨0x5000, 0x5000, 0x2, 0x2, .u32, .ro, false, false, false, (some (.num 1048576)), .any⟩, -- EM_BUCKETS_FREE (R245)
  ⟨0x5000, 0x5000, 0x3, 0x3, .u16, .ro, false, false, false, (some (.num 16384)), .any⟩, -- OVF_CAPACITY (R245)
  ⟨0x5000, 0x5000, 0x4, 0x4, .u16, .ro, false, false, false, (some (.num 0)), .any⟩, -- OVF_USED (R245)
  ⟨0x5001, 0x5001, 0x0, 0x0, .octets, .cmd, false, false, false, none, (.len 32)⟩, -- EM_REGION_CREATE (R245)
  ⟨0x5002, 0x5002, 0x0, 0x3f, .octets, .ro, false, false, false, none, .any⟩, -- EM_REGION_PARAMS (R245)
  ⟨0x5003, 0x5003, 0x0, 0x3f, .u32, .ro, false, false, false, (some (.num 0)), .any⟩, -- EM_REGION_ENTRIES (R245)
  ⟨0x5004, 0x5004, 0x0, 0x3f, .u16, .ro, false, false, false, (some (.num 0)), .any⟩, -- EM_REGION_OVF_USED (R245)
  ⟨0x5005, 0x5005, 0x0, 0x3f, .u32, .rw, false, false, false, (some (.num 0)), .any⟩, -- LEARN_LIMIT (R245)
  ⟨0x5400, 0x5400, 0x1, 0x1, .u32, .ro, false, false, false, (some (.num 1572864)), .any⟩, -- LPM_BUCKETS (R245)
  ⟨0x5400, 0x5400, 0x2, 0x2, .u32, .ro, false, false, false, (some (.num 1572864)), .any⟩, -- LPM_BUCKETS_FREE (R245)
  ⟨0x5400, 0x5400, 0x3, 0x3, .u32, .ro, false, false, false, (some (.num 1048576)), .any⟩, -- FILTER_ENTRIES_FREE (R245)
  ⟨0x5401, 0x5401, 0x0, 0x0, .octets, .cmd, false, false, false, none, (.len 80)⟩, -- LPM_REGION_CREATE (R245)
  ⟨0x5402, 0x5402, 0x0, 0x3f, .octets, .ro, false, false, false, none, .any⟩, -- LPM_REGION_PARAMS (R245)
  ⟨0x5403, 0x5403, 0x0, 0x3f, .u32, .ro, false, false, false, (some (.num 0)), .any⟩, -- LPM_REGION_ENTRIES (R245)
  ⟨0x5404, 0x5404, 0x0, 0x3f, .octets, .rw, false, false, false, (some (.bytes [])), .any⟩, -- LPM_DEFAULT (R245)
  ⟨0x5800, 0x5800, 0x1, 0x1, .u32, .rw, true, true, false, (some (.num 100)), (.span 20 10000)⟩, -- LEARN_COMMIT_US (R245)
  ⟨0x5800, 0x5800, 0x2, 0x2, .u32, .rw, true, true, false, (some (.num 4096)), (.span 64 65536)⟩, -- LEARN_COMMIT_RECORDS (R245)
  ⟨0x5800, 0x5800, 0x3, 0x3, .bool, .ro, false, false, false, none, .any⟩, -- LEARN_SERVICE (R245)
  ⟨0x5801, 0x5801, 0x0, 0xf, .u32, .ro, false, false, true, (some (.num 0)), .any⟩, -- LEARN_FIFO_DROPS (R245)
  ⟨0x5803, 0x5803, 0x0, 0x3f, .u32, .rw, false, true, false, (some (.num 300)), (.span 1 86400)⟩, -- AGE_TIME_S (R245)
  ⟨0x5804, 0x5804, 0x0, 0x3f, .octets, .ro, false, false, false, (some (.zeros 32)), .any⟩, -- FLUSH_PENDING (R245)
  ⟨0x5805, 0x5805, 0x1, 0x1, .u32, .ro, false, false, true, (some (.num 0)), .any⟩, -- LEARN_INSERTS (R245)
  ⟨0x5805, 0x5805, 0x2, 0x2, .u32, .ro, false, false, true, (some (.num 0)), .any⟩, -- LEARN_MOVES (R245)
  ⟨0x5805, 0x5805, 0x3, 0x3, .u32, .ro, false, false, true, (some (.num 0)), .any⟩, -- LEARN_DISCARDS (R245)
  ⟨0x5805, 0x5805, 0x4, 0x4, .u32, .ro, false, false, true, (some (.num 0)), .any⟩, -- AGE_REMOVALS (R245)
  ⟨0x5805, 0x5805, 0x5, 0x5, .u32, .ro, false, false, true, (some (.num 0)), .any⟩, -- FLUSH_REMOVALS (R245)
  ⟨0x5805, 0x5805, 0x6, 0x6, .u32, .ro, false, false, true, (some (.num 0)), .any⟩ -- INTERNAL_COMMITS (R245)
]

/-- Rows 7 of the dictionary, in index order. -/
def dictionary7 : List ObjDef := [
  ⟨0x5805, 0x5805, 0x7, 0x7, .u32, .ro, false, false, true, (some (.num 0)), .any⟩, -- LAYOUT_COMMITS (R245)
  ⟨0x5805, 0x5805, 0x8, 0x8, .u32, .ro, false, false, true, (some (.num 0)), .any⟩, -- ITER_LOST (R245)
  ⟨0x5880, 0x5880, 0x1, 0x1, .octets, .cmd, false, false, false, none, .any⟩, -- QUERY (R245)
  ⟨0x5880, 0x5880, 0x2, 0x2, .octets, .ro, false, false, false, (some (.bytes [])), .any⟩, -- QUERY_RESULT (R245)
  ⟨0x5880, 0x5880, 0x3, 0x3, .u8, .ro, false, false, false, (some (.num 0)), .any⟩, -- ITERATIONS_OPEN (R245)
  ⟨0x5890, 0x5890, 0x1, 0x1, .octets, .cmd, false, false, false, none, .any⟩, -- FLUSH_REQUEST (R245)
  ⟨0x5c00, 0x5c00, 0x1, 0x1, .u8, .ro, false, false, false, (some (.num 0)), .any⟩, -- BATCHES_OPEN (R136)
  ⟨0x5c00, 0x5c00, 0x2, 0x2, .u32, .ro, false, false, false, (some (.num 0)), .any⟩, -- BATCH_OPS_STAGED (R136)
  ⟨0x5c00, 0x5c00, 0x3, 0x3, .u32, .rw, true, true, false, (some (.num 300)), (.span 10 86400)⟩, -- BATCH_IDLE_S (R136)
  ⟨0x5c00, 0x5c00, 0x4, 0x4, .u32, .ro, false, false, true, (some (.num 0)), .any⟩, -- BATCHES_DISCARDED (R136)
  ⟨0x5c00, 0x5c00, 0x5, 0x5, .u32, .ro, false, false, true, (some (.num 0)), .any⟩, -- COMMITS_REFUSED (R136)
  ⟨0x5c00, 0x5c00, 0x6, 0x6, .u32, .ro, false, false, true, (some (.num 0)), .any⟩, -- COMMITS (R136)
  ⟨0x5c10, 0x5c10, 0x0, 0x0, .octets, .wo, false, false, false, none, .any⟩, -- TABLE_COMMAND (R245)
  ⟨0x6000, 0x6000, 0x1, 0x1, .u32, .ro, false, false, false, (some (.num 262144)), .any⟩, -- TCAM_ROWS (R268)
  ⟨0x6000, 0x6000, 0x2, 0x2, .u16, .ro, false, false, false, (some (.num 256)), .any⟩, -- TCAM_BLOCKS (R268)
  ⟨0x6000, 0x6000, 0x3, 0x3, .u16, .ro, false, false, false, (some (.num 256)), .any⟩, -- BLOCKS_FREE (R268)
  ⟨0x6000, 0x6000, 0x4, 0x4, .u16, .ro, false, false, false, (some (.num 0)), .any⟩, -- BLOCKS_ON (R268)
  ⟨0x6000, 0x6000, 0x5, 0x5, .u64, .ro, false, false, true, (some (.num 0)), .any⟩, -- SEARCHES (R268)
  ⟨0x6000, 0x6000, 0x6, 0x6, .u64, .ro, false, false, true, (some (.num 0)), .any⟩, -- BLOCK_SEARCHES (R268)
  ⟨0x6000, 0x6000, 0x7, 0x7, .u64, .ro, false, false, true, (some (.num 0)), .any⟩, -- PF_SKIPS (R268)
  ⟨0x6001, 0x6001, 0x0, 0x0, .octets, .cmd, false, false, false, none, (.len 16)⟩, -- RULE_SET_CREATE (R268)
  ⟨0x6002, 0x6002, 0x0, 0xff, .octets, .ro, false, false, false, none, .any⟩, -- RULE_SET_PARAMS (R268)
  ⟨0x6003, 0x6003, 0x0, 0xff, .u32, .ro, false, false, false, (some (.num 0)), .any⟩, -- RULE_SET_RULES (R268)
  ⟨0x6004, 0x6004, 0x0, 0xff, .u64, .ro, false, false, true, (some (.num 0)), .any⟩, -- RULE_SET_HITS (R268)
  ⟨0x6005, 0x6005, 0x0, 0xff, .u64, .ro, false, false, true, (some (.num 0)), .any⟩, -- RULE_SET_MISSES (R268)
  ⟨0x6010, 0x6010, 0x0, 0x0, .octets, .wo, false, false, false, none, .any⟩, -- RULE_COMMAND (R268)
  ⟨0x6020, 0x6020, 0x1, 0x1, .octets, .cmd, false, false, false, none, .any⟩, -- RULE_QUERY (R268)
  ⟨0x6020, 0x6020, 0x2, 0x2, .octets, .ro, false, false, false, (some (.bytes [])), .any⟩, -- RULE_RESULT (R268)
  ⟨0x6400, 0x6400, 0x0, 0xff, .octets, .rw, false, false, false, (some (.zeros 8)), (.len 8)⟩, -- RANGE_COMPARATOR (R268)
  ⟨0x6401, 0x6401, 0x1, 0x1, .u16, .ro, false, false, false, (some (.num 0)), .any⟩, -- RANGE_IN_USE (R268)
  ⟨0x7000, 0x7000, 0x1, 0x1, .u32, .ro, false, false, false, (some (.num 1179648)), .any⟩, -- BUFFER_CELLS (R297)
  ⟨0x7000, 0x7000, 0x2, 0x2, .u16, .ro, false, false, false, (some (.num 256)), .any⟩, -- CELL_BYTES (R297)
  ⟨0x7000, 0x7000, 0x3, 0x3, .u32, .ro, false, false, false, (some (.num 0)), .any⟩, -- ONDIE_USED_CELLS (R297)
  ⟨0x7000, 0x7000, 0x4, 0x4, .u32, .ro, false, false, false, (some (.num 0)), .any⟩, -- HBM_USED_SEGMENTS (R297)
  ⟨0x7000, 0x7000, 0x5, 0x5, .u32, .rw, true, true, false, (some (.num 245760)), (.span 163840 278528)⟩, -- SPILL_THRESHOLD_KIB (R297)
  ⟨0x7000, 0x7000, 0x6, 0x6, .u32, .rw, true, true, false, (some (.num 8192)), (.span 1024 65536)⟩, -- SPILL_HYSTERESIS_KIB (R297)
  ⟨0x7000, 0x7000, 0x7, 0x7, .u8, .rwb, true, false, false, (some (.num 88)), (.span 0 88)⟩, -- HBM_PACKET_GIB (R297)
  ⟨0x7000, 0x7000, 0x8, 0x8, .u32, .rwb, true, true, false, (some (.num 131072)), (.span 0 524288)⟩, -- RESERVED_LIMIT_CELLS (R297)
  ⟨0x7000, 0x7000, 0x9, 0x9, .u32, .ro, false, false, false, (some (.num 0)), .any⟩, -- RESERVED_COMMITTED_CELLS (R297)
  ⟨0x7000, 0x7000, 0xa, 0xa, .u32, .rw, true, false, false, (some (.num 16384)), (.span 16384 65536)⟩, -- BANK_WAKE_FREE_KIB (R297)
  ⟨0x7000, 0x7000, 0xb, 0xb, .u32, .ro, false, false, false, (some (.num 2359296)), .any⟩, -- DESCRIPTORS_FREE (R297)
  ⟨0x7000, 0x7000, 0xc, 0xc, .u32, .ro, false, false, false, (some (.num 0)), .any⟩, -- UNUSED_RESERVATION_CELLS (R297)
  ⟨0x7000, 0x7000, 0xd, 0xd, .u32, .rw, false, false, false, (some (.num 0x1)), .any⟩, -- WRED_SEED (R297)
  ⟨0x7010, 0x7010, 0x0, 0x0, .u32, .rw, true, true, false, (some (.num 369098752)), .any⟩, -- POOL_LIMIT_CELLS (R297)
  ⟨0x7010, 0x7010, 0x1, 0x7, .u32, .rw, true, true, false, (some (.num 0)), .any⟩, -- POOL_LIMIT_CELLS (R297)
  ⟨0x7011, 0x7011, 0x0, 0x7, .u32, .ro, false, false, false, (some (.num 0)), .any⟩, -- POOL_USED_CELLS (R297)
  ⟨0x7020, 0x7020, 0x0, 0x3f, .octets, .rw, true, true, false, (some (.zeros 12)), (.len 12)⟩, -- WRED_PROFILE (R297)
  ⟨0x7030, 0x7030, 0x0, 0xb, .u64, .ro, false, false, true, (some (.num 0)), .any⟩ -- REFUSED_INGRESS (R297)
]

/-- Rows 8 of the dictionary, in index order. -/
def dictionary8 : List ObjDef := [
  ⟨0x7031, 0x7031, 0x0, 0xb, .u64, .ro, false, false, true, (some (.num 0)), .any⟩, -- REFUSED_EGRESS (R297)
  ⟨0x7040, 0x7040, 0x0, 0x7f, .u64, .ro, false, false, true, (some (.num 0)), .any⟩, -- PORT_DOWN_DROPS (R297)
  ⟨0x7041, 0x7041, 0x0, 0x7f, .u64, .ro, false, false, true, (some (.num 0)), .any⟩, -- MCAST_COPY_DROPS (R297)
  ⟨0x7042, 0x7042, 0x0, 0x7f, .u64, .ro, false, false, true, (some (.num 0)), .any⟩, -- FLUSHED_PACKETS (R297)
  ⟨0x7043, 0x7043, 0x0, 0x7f, .enum8, .ro, false, false, false, (some (.num 0)), .any⟩, -- PORT_FLUSH_STATE (R297)
  ⟨0x7044, 0x7044, 0x0, 0x7f, .time64, .ro, false, false, false, (some (.num 0)), .any⟩, -- LAST_FLUSH_DONE (R297)
  ⟨0x7050, 0x7050, 0x1, 0x1, .u64, .ro, false, false, true, (some (.num 0)), .any⟩, -- SPILLED_SEGMENTS (R297)
  ⟨0x7050, 0x7050, 0x2, 0x2, .u64, .ro, false, false, true, (some (.num 0)), .any⟩, -- READBACK_SEGMENTS (R297)
  ⟨0x7050, 0x7050, 0x3, 0x3, .u32, .ro, false, false, true, (some (.num 0)), .any⟩, -- SPILL_ABANDONED (R297)
  ⟨0x7050, 0x7050, 0x4, 0x4, .u32, .ro, false, false, true, (some (.num 0)), .any⟩, -- HBM_READ_LOSSES (R297)
  ⟨0x7050, 0x7050, 0x5, 0x5, .u64, .ro, false, false, true, (some (.num 0)), .any⟩, -- DESTROYED_PACKETS (R297)
  ⟨0x7100, 0x7100, 0x1, 0x1, .u8, .ro, false, false, false, none, .any⟩, -- STACKS_IN_SERVICE (R414)
  ⟨0x7100, 0x7100, 0x2, 0x2, .u32, .ro, false, false, false, (some (.num 9200)), .any⟩, -- LANE_RATE_MBPS (R414)
  ⟨0x7100, 0x7100, 0x3, 0x3, .u64, .ro, false, false, false, none, .any⟩, -- STATS_REGION_BYTES (R414)
  ⟨0x7100, 0x7100, 0x4, 0x4, .u32, .rw, true, false, false, (some (.num 100)), (.span 20 1000)⟩, -- BOUNDARY_INTERVAL_US (R414)
  ⟨0x7100, 0x7100, 0x5, 0x5, .u8, .rw, true, false, false, (some (.num 9)), (.span 4 16)⟩, -- NEIGHBOUR_LOG2 (R414)
  ⟨0x7100, 0x7100, 0x6, 0x6, .bool, .rw, true, false, false, (some (.num 1)), .any⟩, -- CAL_ENABLE (R414)
  ⟨0x7100, 0x7100, 0x7, 0x7, .u32, .rw, true, false, false, (some (.num 1000)), (.span 400 60000)⟩, -- CAL_PERIOD_MS (R414)
  ⟨0x7100, 0x7100, 0x8, 0x8, .u16, .rw, true, false, false, (some (.num 2)), (.span 1 1024)⟩, -- CAL_FAIL_COUNT (R414)
  ⟨0x7100, 0x7100, 0x9, 0x9, .u16, .rw, true, false, false, (some (.num 24)), (.span 1 720)⟩, -- SCRUB_HOURS (R414)
  ⟨0x7100, 0x7100, 0xa, 0xa, .u16, .rw, true, false, false, (some (.num 16)), (.span 1 1024)⟩, -- UE_LIMIT_PER_S (R414)
  ⟨0x7101, 0x7101, 0x0, 0x3, .enum8, .ro, false, false, false, none, .any⟩, -- STACK_SERVICE (R414)
  ⟨0x7102, 0x7102, 0x0, 0x3, .enum8, .ro, false, false, false, (some (.num 0)), .any⟩, -- OUT_OF_SERVICE_CAUSE (R414)
  ⟨0x7110, 0x7110, 0x0, 0x7f, .u32, .ro, false, false, true, (some (.num 0)), .any⟩, -- CE_COUNT (R414)
  ⟨0x7111, 0x7111, 0x0, 0x7f, .u32, .ro, false, false, true, (some (.num 0)), .any⟩, -- UE_COUNT (R414)
  ⟨0x7112, 0x7112, 0x0, 0x7f, .u32, .ro, false, false, true, (some (.num 0)), .any⟩, -- CA_PARITY_ERRORS (R414)
  ⟨0x7113, 0x7113, 0x0, 0x7f, .u32, .ro, false, false, true, (some (.num 0)), .any⟩, -- NEIGHBOUR_REFRESHES (R414)
  ⟨0x7120, 0x7120, 0x0, 0x4, .u64, .ro, false, false, true, (some (.num 0)), .any⟩, -- PORT_BURSTS (R414)
  ⟨0x7140, 0x7140, 0x0, 0x7f, .octets, .rwb, true, false, false, none, (.len 96)⟩, -- HBM_DELAYS (R414)
  ⟨0x7141, 0x7141, 0x0, 0x7f, .octets, .ro, false, false, false, none, .any⟩, -- EYE_MARGIN (R414)
  ⟨0x7142, 0x7142, 0x0, 0x7f, .u32, .ro, false, false, true, (some (.num 0)), .any⟩, -- CAL_UPDATES (R414)
  ⟨0x7400, 0x7400, 0x1, 0x1, .u32, .ro, false, false, false, (some (.num 524288)), .any⟩, -- QUEUE_CAPACITY (R297)
  ⟨0x7400, 0x7400, 0x2, 0x2, .u32, .ro, false, false, false, (some (.num 0)), .any⟩, -- QUEUES_LIVE (R297)
  ⟨0x7401, 0x7401, 0x0, 0x0, .octets, .cmd, false, false, false, none, (.len 32)⟩, -- QUEUE_CREATE (R297)
  ⟨0x7402, 0x7402, 0x1, 0x1, .octets, .cmd, false, false, false, none, .any⟩, -- QUEUE_SET (R297)
  ⟨0x7402, 0x7402, 0x2, 0x2, .octets, .cmd, false, false, false, none, .any⟩, -- QUEUE_QUERY (R297)
  ⟨0x7402, 0x7402, 0x3, 0x3, .octets, .ro, false, false, false, (some (.bytes [])), .any⟩, -- QUEUE_RESULT (R297)
  ⟨0x7600, 0x7600, 0x1, 0x1, .u32, .ro, false, false, false, (some (.num 65536)), .any⟩, -- MCAST_GROUPS (R297)
  ⟨0x7600, 0x7600, 0x2, 0x2, .u32, .ro, false, false, false, (some (.num 524288)), .any⟩, -- MCAST_MEMBERS_FREE (R297)
  ⟨0x7600, 0x7600, 0x3, 0x3, .u32, .rw, true, true, false, (some (.num 16384)), (.span 1024 262144)⟩, -- REPL_MAX_CELLS (R297)
  ⟨0x7601, 0x7601, 0x1, 0x1, .octets, .cmd, false, true, false, none, .any⟩, -- MCAST_SET (R297)
  ⟨0x7601, 0x7601, 0x2, 0x2, .octets, .cmd, false, false, false, none, .any⟩, -- MCAST_QUERY (R297)
  ⟨0x7601, 0x7601, 0x3, 0x3, .octets, .ro, false, false, false, (some (.bytes [])), .any⟩, -- MCAST_RESULT (R297)
  ⟨0x7800, 0x7800, 0x1, 0x1, .u32, .ro, false, false, false, (some (.num 131072)), .any⟩, -- NODE_CAPACITY (R324)
  ⟨0x7800, 0x7800, 0x2, 0x2, .u32, .ro, false, false, false, (some (.num 0)), .any⟩, -- NODES_LIVE (R324)
  ⟨0x7801, 0x7801, 0x0, 0x0, .octets, .cmd, false, false, false, none, (.len 16)⟩, -- NODE_CREATE (R324)
  ⟨0x7802, 0x7802, 0x1, 0x1, .octets, .cmd, false, false, false, none, .any⟩, -- SCHED_SET (R324)
  ⟨0x7802, 0x7802, 0x2, 0x2, .octets, .cmd, false, false, false, none, .any⟩ -- SCHED_QUERY (R324)
]

/-- Rows 9 of the dictionary, in index order. -/
def dictionary9 : List ObjDef := [
  ⟨0x7802, 0x7802, 0x3, 0x3, .octets, .ro, false, false, false, (some (.bytes [])), .any⟩, -- SCHED_RESULT (R324)
  ⟨0x7803, 0x7803, 0x0, 0x7f, .handle, .ro, false, false, false, (some (.num 0x0)), .any⟩, -- PORT_NODE (R324)
  ⟨0x7880, 0x788f, 0x0, 0xff, .handle, .rw, false, false, false, (some (.num 0x0)), .any⟩, -- WATCH_QUEUE (R324)
  ⟨0x7890, 0x789f, 0x0, 0xff, .octets, .ro, false, false, false, none, .any⟩, -- WATCH_RECORD (R324)
  ⟨0x78a0, 0x78a0, 0x1, 0x1, .u32, .rw, true, false, false, (some (.num 1000)), (.span 1 1000000)⟩, -- WATCH_INTERVAL_US (R324)
  ⟨0x7c00, 0x7c00, 0x1, 0x1, .u32, .ro, false, false, false, (some (.num 1048576)), .any⟩, -- METER_CAPACITY (R324)
  ⟨0x7c00, 0x7c00, 0x2, 0x2, .u32, .ro, false, false, false, (some (.num 0)), .any⟩, -- METERS_LIVE (R324)
  ⟨0x7c01, 0x7c01, 0x0, 0x0, .octets, .cmd, false, false, false, none, (.len 32)⟩, -- METER_CREATE (R324)
  ⟨0x7c02, 0x7c02, 0x1, 0x1, .octets, .cmd, false, false, false, none, .any⟩, -- METER_SET (R324)
  ⟨0x7c02, 0x7c02, 0x2, 0x2, .octets, .cmd, false, false, false, none, .any⟩, -- METER_QUERY (R324)
  ⟨0x7c02, 0x7c02, 0x3, 0x3, .octets, .ro, false, false, false, (some (.bytes [])), .any⟩, -- METER_RESULT (R324)
  ⟨0x7c03, 0x7c03, 0x0, 0xf, .u32, .ro, false, false, false, (some (.num 65536)), .any⟩, -- METERS_FREE (R324)
  ⟨0x7e00, 0x7e00, 0x1, 0x1, .u8, .ro, false, false, false, (some (.num 32)), .any⟩, -- WINDOW_LISTS (R324)
  ⟨0x7e01, 0x7e01, 0x0, 0x1f, .u8, .rw, true, true, false, (some (.num 0xff)), .any⟩, -- WINDOW_PORT (R324)
  ⟨0x7e02, 0x7e02, 0x0, 0x1f, .blob, .rw, true, true, false, (some (.bytes [])), .any⟩, -- WINDOW_ADMIN (R324)
  ⟨0x7e03, 0x7e03, 0x0, 0x1f, .blob, .ro, false, false, false, (some (.bytes [])), .any⟩, -- WINDOW_OPER (R324)
  ⟨0x7e04, 0x7e04, 0x0, 0x1f, .enum8, .ro, false, false, false, (some (.num 0)), .any⟩, -- WINDOW_STATE (R324)
  ⟨0x7e05, 0x7e05, 0x0, 0x1f, .bool, .rw, true, true, false, (some (.num 0)), .any⟩, -- WINDOW_ENABLE (R324)
  ⟨0x7e06, 0x7e06, 0x0, 0x1f, .u64, .ro, false, false, true, (some (.num 0)), .any⟩, -- WINDOW_OVERSIZE (R324)
  ⟨0x7e07, 0x7e07, 0x0, 0x1f, .u64, .ro, false, false, true, (some (.num 0)), .any⟩, -- WINDOW_HELD (R324)
  ⟨0x7e08, 0x7e08, 0x0, 0x1f, .time64, .ro, false, false, false, (some (.num 0)), .any⟩, -- CONFIG_CHANGE_TIME (R324)
  ⟨0x8000, 0x8000, 0x1, 0x1, .u16, .rwb, true, true, false, (some (.num 0x0)), (.span 0 4094)⟩, -- UNIT_ID (R350)
  ⟨0x8000, 0x8000, 0x2, 0x2, .u32, .rw, true, true, false, (some (.num 1000)), (.span 100 100000)⟩, -- FENCE_HOLD_NS (R350)
  ⟨0x8000, 0x8000, 0x3, 0x3, .u32, .rw, true, false, false, (some (.num 2000)), (.span 500 100000)⟩, -- REPLAY_TIMEOUT_NS (R350)
  ⟨0x8000, 0x8000, 0x4, 0x4, .u8, .rw, true, false, false, (some (.num 4)), (.span 1 16)⟩, -- LINK_RETRY_LIMIT (R350)
  ⟨0x8000, 0x8000, 0x5, 0x5, .u32, .rw, true, false, false, (some (.num 20)), (.span 5 1000)⟩, -- REASSEMBLY_TIMEOUT_US (R350)
  ⟨0x8000, 0x8000, 0x6, 0x6, .u32, .rw, true, true, false, (some (.num 50)), (.span 5 100)⟩, -- RESEQ_TIMEOUT_US (R350)
  ⟨0x8000, 0x8000, 0x7, 0x7, .u32, .rwb, true, false, false, (some (.num 16384)), (.span 4096 65536)⟩, -- RESEQ_LIMIT_KIB (R350)
  ⟨0x8000, 0x8000, 0x8, 0x8, .u32, .rw, true, true, false, (some (.num 26880)), (.span 100 32000)⟩, -- GRANT_RATE_GBPS (R350)
  ⟨0x8000, 0x8000, 0x9, 0x9, .u32, .rw, true, true, false, (some (.num 64)), (.span 1 65536)⟩, -- REQUEST_DELTA_CELLS (R350)
  ⟨0x8000, 0x8000, 0xa, 0xa, .u32, .rw, true, true, false, (some (.num 4096)), (.span 256 65536)⟩, -- CREDIT_CAP_CELLS (R350)
  ⟨0x8000, 0x8000, 0xb, 0xb, .u32, .rw, true, false, false, (some (.num 100)), (.span 0 10000)⟩, -- LINK_UP_HOLD_MS (R350)
  ⟨0x8001, 0x8001, 0x1, 0x1, .u64, .ro, false, false, true, (some (.num 0)), .any⟩, -- RESENT_PACKETS (R350)
  ⟨0x8001, 0x8001, 0x2, 0x2, .u64, .ro, false, false, true, (some (.num 0)), .any⟩, -- DUP_DISCARDS (R350)
  ⟨0x8001, 0x8001, 0x3, 0x3, .u32, .ro, false, false, true, (some (.num 0)), .any⟩, -- RESEQ_GAPS (R350)
  ⟨0x8001, 0x8001, 0x4, 0x4, .u32, .ro, false, false, true, (some (.num 0)), .any⟩, -- RESEQ_FORCED (R350)
  ⟨0x8001, 0x8001, 0x5, 0x5, .u32, .ro, false, false, true, (some (.num 0)), .any⟩, -- RESEQ_OUT_OF_WINDOW (R350)
  ⟨0x8001, 0x8001, 0x6, 0x6, .u32, .ro, false, false, true, (some (.num 0)), .any⟩, -- ERA_DISCARDS (R350)
  ⟨0x8001, 0x8001, 0x7, 0x7, .u32, .ro, false, false, true, (some (.num 0)), .any⟩, -- REASSEMBLY_ERRORS (R350)
  ⟨0x8001, 0x8001, 0x8, 0x8, .u32, .ro, false, false, true, (some (.num 0)), .any⟩, -- REASSEMBLY_TIMEOUTS (R350)
  ⟨0x8001, 0x8001, 0x9, 0x9, .u32, .ro, false, false, true, (some (.num 0)), .any⟩, -- REASSEMBLY_FULL (R350)
  ⟨0x8001, 0x8001, 0xa, 0xa, .u64, .ro, false, false, true, (some (.num 0)), .any⟩, -- FENCES (R350)
  ⟨0x8001, 0x8001, 0xb, 0xb, .u32, .ro, false, false, true, (some (.num 0)), .any⟩, -- GROUP_DOWN_EVENTS (R350)
  ⟨0x8010, 0x8010, 0x0, 0x9f, .u8, .rwb, true, true, false, (some (.num 0xff)), (.spanOr 0 7 255)⟩, -- LINK_GROUP (R350)
  ⟨0x8011, 0x8011, 0x0, 0x7, .u8, .rw, true, true, false, (some (.num 1)), (.span 1 40)⟩, -- GROUP_MIN_LINKS (R350)
  ⟨0x8012, 0x8012, 0x0, 0x7, .u8, .ro, false, false, false, (some (.num 0)), .any⟩, -- GROUP_LINKS_UP (R350)
  ⟨0x8013, 0x8013, 0x0, 0x7, .octets, .ro, false, false, false, none, .any⟩, -- PIN_TABLE (R350)
  ⟨0x8020, 0x802f, 0x0, 0xff, .u8, .rw, true, true, false, (some (.num 0xff)), (.spanOr 0 7 255)⟩ -- DEST_GROUP (R350)
]

/-- Rows 10 of the dictionary, in index order. -/
def dictionary10 : List ObjDef := [
  ⟨0x8030, 0x8033, 0x0, 0xff, .handle, .rw, false, true, false, (some (.num 0x0)), .any⟩, -- FABRIC_EGRESS_MAP (R350)
  ⟨0x9000, 0x9000, 0x1, 0x1, .bool, .rwb, true, false, false, (some (.num 0)), .any⟩, -- PAIR_ENABLE (R393)
  ⟨0x9000, 0x9000, 0x2, 0x2, .enum8, .rwb, true, false, false, (some (.num 0)), (.span 0 1)⟩, -- PAIR_INTENT (R393)
  ⟨0x9000, 0x9000, 0x3, 0x3, .enum8, .ro, false, false, false, (some (.num 0)), .any⟩, -- PAIR_ROLE_STATE (R393)
  ⟨0x9000, 0x9000, 0x4, 0x4, .enum8, .ro, false, false, false, (some (.num 0)), .any⟩, -- PAIR_STATE (R393)
  ⟨0x9000, 0x9000, 0x5, 0x5, .enum8, .ro, false, false, false, (some (.num 0)), .any⟩, -- REFUSE_CAUSE (R393)
  ⟨0x9000, 0x9000, 0x6, 0x6, .bool, .rw, true, false, false, (some (.num 0)), .any⟩, -- AUTO_REJOIN (R393)
  ⟨0x9000, 0x9000, 0x7, 0x7, .bool, .cmd, false, false, false, none, .any⟩, -- SWITCHOVER (R393)
  ⟨0x9000, 0x9000, 0x8, 0x8, .bool, .cmd, false, false, false, none, .any⟩, -- FAULT_REQUEST (R393)
  ⟨0x9000, 0x9000, 0x9, 0x9, .bool, .rw, true, true, false, (some (.num 1)), .any⟩, -- FAULT_ON_GROUP_DOWN (R393)
  ⟨0x9000, 0x9000, 0xa, 0xa, .u32, .rw, true, true, false, (some (.num 200)), (.span 50 2000)⟩, -- VERDICT_FLUSH_NS (R393)
  ⟨0x9000, 0x9000, 0xb, 0xb, .u32, .rw, true, true, false, (some (.num 20)), (.span 5 100)⟩, -- VERDICT_WAIT_US (R393)
  ⟨0x9000, 0x9000, 0xc, 0xc, .u32, .rwb, true, false, false, (some (.num 32768)), (.span 8192 65536)⟩, -- PENDING_LIMIT_KIB (R393)
  ⟨0x9000, 0x9000, 0xd, 0xd, .u32, .rw, true, true, false, (some (.num 20)), (.span 1 1000)⟩, -- DEPARTURE_INTERVAL_US (R393)
  ⟨0x9000, 0x9000, 0xe, 0xe, .u32, .rw, true, true, false, (some (.num 20)), (.span 1 100)⟩, -- FABRIC_VERDICT_FLUSH_US (R393)
  ⟨0x9000, 0x9000, 0xf, 0xf, .u32, .rw, true, true, false, (some (.num 60)), (.span 10 86400)⟩, -- SELFTEST_INTERVAL_S (R393)
  ⟨0x9001, 0x9001, 0x1, 0x1, .u32, .ro, false, false, true, (some (.num 0)), .any⟩, -- TURN_POINTS (R393)
  ⟨0x9001, 0x9001, 0x2, 0x2, .time64, .ro, false, false, false, (some (.num 0)), .any⟩, -- LAST_TURN_TIME (R393)
  ⟨0x9001, 0x9001, 0x3, 0x3, .enum8, .ro, false, false, false, (some (.num 0)), .any⟩, -- LAST_TURN_CAUSE (R393)
  ⟨0x9001, 0x9001, 0x4, 0x4, .u32, .ro, false, false, true, (some (.num 0)), .any⟩, -- STALE_EVENTS (R393)
  ⟨0x9001, 0x9001, 0x5, 0x5, .enum8, .ro, false, false, false, (some (.num 0)), .any⟩, -- LAST_STALE_CAUSE (R393)
  ⟨0x9001, 0x9001, 0x6, 0x6, .u64, .ro, false, false, true, (some (.num 0)), .any⟩, -- LEG_MISSES (R393)
  ⟨0x9001, 0x9001, 0x7, 0x7, .u64, .ro, false, false, true, (some (.num 0)), .any⟩, -- LEG_EXTRAS (R393)
  ⟨0x9001, 0x9001, 0x8, 0x8, .u64, .ro, false, false, true, (some (.num 0)), .any⟩, -- RESTAMPS (R393)
  ⟨0x9001, 0x9001, 0x9, 0x9, .u32, .ro, false, false, true, (some (.num 0)), .any⟩, -- TURN_REFUSALS (R393)
  ⟨0x9001, 0x9001, 0xa, 0xa, .u64, .ro, false, false, false, (some (.num 0)), .any⟩, -- HELD_PACKETS (R393)
  ⟨0x9001, 0x9001, 0xb, 0xb, .u64, .ro, false, false, true, (some (.num 0)), .any⟩, -- HELD_DISCARDS (R393)
  ⟨0x9001, 0x9001, 0xc, 0xc, .u64, .ro, false, false, true, (some (.num 0)), .any⟩, -- DIGESTS_COMPARED (R393)
  ⟨0x9001, 0x9001, 0xd, 0xd, .u32, .ro, false, false, false, (some (.num 0)), .any⟩, -- MATE_LAG_NS (R393)
  ⟨0x9001, 0x9001, 0xe, 0xe, .u32, .ro, false, false, false, (some (.num 0)), .any⟩, -- PENDING_KIB (R393)
  ⟨0x9001, 0x9001, 0xf, 0xf, .u32, .ro, false, false, false, (some (.num 0)), .any⟩, -- GATE_WAIT_NS (R393)
  ⟨0x9001, 0x9001, 0x10, 0x10, .u32, .ro, false, false, true, (some (.num 0)), .any⟩, -- STREAM_ERRORS (R393)
  ⟨0xa000, 0xa000, 0x1, 0x1, .u16, .ro, false, false, false, (some (.num 4096)), .any⟩, -- CHANNEL_CAPACITY (R476)
  ⟨0xa000, 0xa000, 0x2, 0x2, .u16, .ro, false, false, false, (some (.num 0)), .any⟩, -- CHANNELS_LIVE (R476)
  ⟨0xa000, 0xa000, 0x3, 0x3, .u16, .ro, false, false, false, none, .any⟩, -- PCIE_LINK (R476)
  ⟨0xa000, 0xa000, 0x4, 0x4, .u16, .ro, false, false, false, (some (.num 0x8256)), .any⟩, -- PCIE_DEVICE_ID (R476)
  ⟨0xa000, 0xa000, 0x5, 0x5, .u32, .ro, false, false, true, (some (.num 0)), .any⟩, -- BAR_ACCESS_ERRORS (R476)
  ⟨0xa000, 0xa000, 0x6, 0x6, .u16, .ro, false, false, false, none, .any⟩, -- PCIE_VENDOR_ID (R476)
  ⟨0xa001, 0xa001, 0x0, 0x0, .octets, .cmd, false, false, false, none, (.len 32)⟩, -- CHANNEL_CREATE (R476)
  ⟨0xa010, 0xa010, 0x1, 0x1, .octets, .cmd, false, false, false, none, .any⟩, -- CHANNEL_SET (R476)
  ⟨0xa010, 0xa010, 0x2, 0x2, .octets, .cmd, false, false, false, none, .any⟩, -- CHANNEL_QUERY (R476)
  ⟨0xa010, 0xa010, 0x3, 0x3, .octets, .cmd, false, true, false, none, .any⟩, -- RING_ENABLE (R476)
  ⟨0xa010, 0xa010, 0x4, 0x4, .octets, .ro, false, false, false, (some (.bytes [])), .any⟩, -- CHANNEL_RESULT (R476)
  ⟨0xa020, 0xa020, 0x1, 0x1, .u64, .ro, false, false, true, (some (.num 0)), .any⟩, -- MALFORMED_DESCRIPTORS (R476)
  ⟨0xa020, 0xa020, 0x2, 0x2, .u32, .ro, false, false, true, (some (.num 0)), .any⟩, -- DMA_ERRORS (R476)
  ⟨0xa020, 0xa020, 0x3, 0x3, .u32, .ro, false, false, true, (some (.num 0)), .any⟩, -- PHASE_MISMATCHES (R476)
  ⟨0xa020, 0xa020, 0x4, 0x4, .u32, .ro, false, false, true, (some (.num 0)), .any⟩, -- COMPLETION_STALLS (R476)
  ⟨0xa020, 0xa020, 0x5, 0x5, .u32, .ro, false, false, true, (some (.num 0)), .any⟩ -- PUNT_TOO_LONG (R476)
]

/-- Rows 11 of the dictionary, in index order. -/
def dictionary11 : List ObjDef := [
  ⟨0xa800, 0xa800, 0x1, 0x1, .u8, .ro, false, false, false, (some (.num 64)), .any⟩, -- MAILBOX_COUNT (R476)
  ⟨0xa801, 0xa801, 0x0, 0x3f, .octets, .rw, false, false, false, (some (.bytes [0xFF, 0, 0, 0xFF, 0, 0])), (.len 6)⟩, -- MAILBOX_ENDS (R476)
  ⟨0xa802, 0xa802, 0x0, 0x3f, .u32, .ro, false, false, true, (some (.num 0)), .any⟩, -- MB_ABANDONED (R476)
  ⟨0xa803, 0xa803, 0x0, 0x3f, .u32, .ro, false, false, true, (some (.num 0)), .any⟩, -- MB_REJECTS (R476)
  ⟨0xa804, 0xa804, 0x0, 0x3f, .u32, .ro, false, false, true, (some (.num 0)), .any⟩, -- MB_STALEMATES (R476)
  ⟨0xa900, 0xa900, 0x1, 0x1, .u8, .ro, false, false, false, (some (.num 64)), .any⟩, -- DOORBELL_SETS (R476)
  ⟨0xa901, 0xa901, 0x0, 0x3f, .u32, .rw, false, false, false, (some (.num 0x0)), .any⟩, -- DOORBELL_DEST (R476)
  ⟨0xa902, 0xa902, 0x0, 0x7, .octets, .rw, false, false, false, (some (.zeros 8)), (.len 8)⟩, -- EVENT_ROUTE (R476)
  ⟨0xa910, 0xa910, 0x0, 0xff, .u16, .ro, false, false, false, (some (.num 0x0)), .any⟩, -- LOCK_OWNER (R476)
  ⟨0xa911, 0xa911, 0x0, 0xff, .bool, .cmd, false, false, false, none, .any⟩, -- LOCK_FORCE (R476)
  ⟨0xa912, 0xa912, 0x1, 0x1, .u32, .ro, false, false, true, (some (.num 0)), .any⟩, -- LOCK_FORCED (R476)
  ⟨0xa912, 0xa912, 0x2, 0x2, .u32, .ro, false, false, true, (some (.num 0)), .any⟩, -- LOCK_FOREIGN_RELEASES (R476)
  ⟨0xb000, 0xb000, 0x1, 0x1, .u8, .ro, false, false, false, (some (.num 16)), .any⟩, -- STEWARD_CORES (R499)
  ⟨0xb000, 0xb000, 0x2, 0x2, .u16, .ro, false, false, false, (some (.num 192)), .any⟩, -- STEWARD_THREADS (R499)
  ⟨0xb000, 0xb000, 0x3, 0x3, .u32, .ro, false, false, false, (some (.num 2000)), .any⟩, -- STEWARD_MHZ (R499)
  ⟨0xb001, 0xb001, 0x0, 0x7f, .enum8, .ro, false, false, false, (some (.num 0)), .any⟩, -- FE_THREAD_STATE (R499)
  ⟨0xb002, 0xb002, 0x0, 0x3f, .enum8, .ro, false, false, false, (some (.num 0)), .any⟩, -- TM_THREAD_STATE (R499)
  ⟨0xb003, 0xb003, 0x0, 0x7f, .u8, .rw, true, false, false, (some (.num 4)), (.span 0 64)⟩, -- FE_THREAD_WEIGHT (R499)
  ⟨0xb004, 0xb004, 0x0, 0x3f, .u8, .rw, true, false, false, (some (.num 8)), (.span 0 64)⟩, -- TM_THREAD_WEIGHT (R499)
  ⟨0xb005, 0xb005, 0x0, 0x7f, .u8, .ro, false, false, false, (some (.num 0)), .any⟩, -- FE_FAULT_CAUSE (R499)
  ⟨0xb006, 0xb006, 0x0, 0x3f, .u8, .ro, false, false, false, (some (.num 0)), .any⟩, -- TM_FAULT_CAUSE (R499)
  ⟨0xb010, 0xb010, 0x1, 0x1, .u32, .ro, false, false, true, (some (.num 0)), .any⟩, -- FE_SLACK_WATER_EVENTS (R499)
  ⟨0xb010, 0xb010, 0x2, 0x2, .u32, .ro, false, false, true, (some (.num 0)), .any⟩, -- TM_SLACK_WATER_EVENTS (R499)
  ⟨0xb010, 0xb010, 0x3, 0x3, .time64, .ro, false, false, false, (some (.num 0)), .any⟩, -- LAST_SLACK_WATER (R499)
  ⟨0xb011, 0xb011, 0x1, 0x1, .u32, .ro, false, false, true, (some (.num 0)), .any⟩, -- WATCHDOG_EXPIRIES (R499)
  ⟨0xb011, 0xb011, 0x2, 0x2, .u32, .ro, false, false, true, (some (.num 0)), .any⟩, -- WATCHDOG_RESTARTS (R499)
  ⟨0xb012, 0xb012, 0x1, 0x1, .u8, .rw, true, false, false, (some (.num 0x20)), (.span 0 95)⟩, -- LEARN_THREAD (R499)
  ⟨0xb020, 0xb020, 0x0, 0x7f, .octets, .rw, false, false, false, (some (.zeros 12)), (.len 12)⟩, -- FE_PUNT_QUEUE (R499)
  ⟨0xb021, 0xb021, 0x0, 0x3f, .octets, .rw, false, false, false, (some (.zeros 12)), (.len 12)⟩, -- TM_PUNT_QUEUE (R499)
  ⟨0xb030, 0xb030, 0x1, 0x1, .bool, .rwb, true, false, false, (some (.num 0)), .any⟩, -- INTEGRATOR_ENABLE (R499)
  ⟨0xb030, 0xb030, 0x2, 0x2, .enum8, .rwb, true, false, false, (some (.num 1)), (.span 1 3)⟩, -- INTEGRATOR_ROLE (R499)
  ⟨0xb030, 0xb030, 0x3, 0x3, .octets, .cmd, false, false, false, none, (.len 1)⟩, -- INTEGRATOR_RESTART (R499)
  ⟨0xb031, 0xb031, 0x0, 0x2f, .octets, .rw, true, false, false, (some (.zeros 28)), (.len 28)⟩, -- INTEGRATOR_WINDOW (R499)
  ⟨0xc000, 0xc000, 0x2, 0x2, .u32, .ro, false, false, false, (some (.num 0)), .any⟩, -- WRAPPED_COUNT (R520)
  ⟨0xc000, 0xc000, 0x3, 0x3, .octets, .cmd, false, false, false, none, .any⟩, -- COUNTER_CLEAR (R520)
  ⟨0xc001, 0xc001, 0x1, 0x1, .enum8, .cmd, false, false, false, none, .any⟩, -- SNAPSHOT (R520)
  ⟨0xc001, 0xc001, 0x2, 0x2, .time64, .ro, false, false, false, (some (.num 0)), .any⟩, -- SNAPSHOT_TIME (R520)
  ⟨0xc001, 0xc001, 0x3, 0x3, .octets, .cmd, false, false, false, none, .any⟩, -- SNAPSHOT_QUERY (R520)
  ⟨0xc001, 0xc001, 0x4, 0x4, .octets, .ro, false, false, false, (some (.bytes [])), .any⟩, -- SNAPSHOT_RESULT (R520)
  ⟨0xc003, 0xc003, 0x1, 0x1, .octets, .cmd, false, false, false, none, .any⟩, -- WRAP_QUERY (R520)
  ⟨0xc003, 0xc003, 0x2, 0x2, .octets, .ro, false, false, false, (some (.bytes [])), .any⟩, -- WRAP_RESULT (R520)
  ⟨0xc020, 0xc020, 0x0, 0x7, .u64, .ro, false, false, true, (some (.num 0)), .any⟩, -- EVENT_COUNT (R520)
  ⟨0xc021, 0xc021, 0x0, 0x7, .time64, .ro, false, false, false, (some (.num 0)), .any⟩, -- EVENT_LAST (R520)
  ⟨0xc022, 0xc022, 0x0, 0x7, .octets, .ro, false, false, false, (some (.zeros 8)), .any⟩, -- EVENT_DETAIL (R520)
  ⟨0xc100, 0xc100, 0x1, 0x1, .u32, .rw, true, false, false, (some (.num 1000)), (.span 10 60000)⟩, -- STATS_FLUSH_MS (R520)
  ⟨0xc100, 0xc100, 0x2, 0x2, .u64, .ro, false, false, true, (some (.num 0)), .any⟩, -- STATS_FLUSHES (R520)
  ⟨0xc100, 0xc100, 0x3, 0x3, .u64, .ro, false, false, true, (some (.num 0)), .any⟩, -- STATS_DISCARDS (R520)
  ⟨0xc101, 0xc101, 0x0, 0x0, .octets, .cmd, false, false, false, none, (.len 8)⟩ -- COUNTER_SET_CREATE (R520)
]

/-- Rows 12 of the dictionary, in index order. -/
def dictionary12 : List ObjDef := [
  ⟨0xc101, 0xc101, 0x1, 0x1, .u32, .ro, false, false, false, (some (.num 0)), .any⟩, -- COUNTER_SETS_LIVE (R520)
  ⟨0xc102, 0xc102, 0x1, 0x1, .octets, .cmd, false, false, false, none, .any⟩, -- COUNTER_SET_QUERY (R520)
  ⟨0xc102, 0xc102, 0x2, 0x2, .octets, .ro, false, false, false, (some (.bytes [])), .any⟩, -- COUNTER_SET_RESULT (R520)
  ⟨0xc800, 0xc800, 0x1, 0x1, .octets, .rw, true, false, false, (some (.zeros 16)), (.len 16)⟩, -- TRACE_PORTS (R520)
  ⟨0xc800, 0xc800, 0x2, 0x2, .u8, .rw, true, false, false, (some (.num 0xff)), (.spanOr 0 31 255)⟩, -- TRACE_RATE_LOG2 (R520)
  ⟨0xc800, 0xc800, 0x3, 0x3, .u32, .rw, true, false, false, (some (.num 0)), .any⟩, -- TRACE_SEED (R520)
  ⟨0xc800, 0xc800, 0x4, 0x4, .enum8, .rw, true, false, false, (some (.num 0)), (.span 0 1)⟩, -- TRACE_MODE (R520)
  ⟨0xc800, 0xc800, 0x5, 0x5, .u64, .ro, false, false, true, (some (.num 0)), .any⟩, -- TRACE_DROPS (R520)
  ⟨0xc801, 0xc801, 0x1, 0x1, .octets, .rw, false, false, false, (some (.zeros 24)), (.len 24)⟩, -- STEWARD_TRACE_THREADS (R520)
  ⟨0xc801, 0xc801, 0x2, 0x2, .u8, .rw, false, false, false, (some (.num 0xff)), (.spanOr 0 31 255)⟩, -- STEWARD_TRACE_LOG2 (R520)
  ⟨0xc801, 0xc801, 0x3, 0x3, .u64, .ro, false, false, true, (some (.num 0)), .any⟩, -- STEWARD_TRACE_DROPS (R520)
  ⟨0xc802, 0xc802, 0x1, 0x1, .u8, .rw, true, false, false, (some (.num 0xff)), (.spanOr 0 31 255)⟩, -- LAT_SAMPLE_LOG2 (R520)
  ⟨0xc810, 0xc810, 0x1, 0x1, .octets, .cmd, false, false, false, none, .any⟩, -- TRACE_READ (R520)
  ⟨0xc810, 0xc810, 0x2, 0x2, .octets, .ro, false, false, false, (some (.bytes [])), .any⟩, -- TRACE_RESULT (R520)
  ⟨0xc810, 0xc810, 0x3, 0x3, .bool, .cmd, false, false, false, none, .any⟩, -- RING_RESET (R520)
  ⟨0xc840, 0xc840, 0x1, 0x1, .octets, .cmd, false, false, false, none, .any⟩, -- HISTOGRAM_QUERY (R520)
  ⟨0xc840, 0xc840, 0x2, 0x2, .octets, .ro, false, false, false, (some (.bytes [])), .any⟩, -- HISTOGRAM_RESULT (R520)
  ⟨0xd000, 0xd000, 0x1, 0x1, .octets, .cmd, false, false, false, none, (.len 24)⟩, -- PATTERN_START (R558)
  ⟨0xd000, 0xd000, 0x2, 0x2, .octets, .cmd, false, false, false, none, (.len 2)⟩, -- PATTERN_STOP (R558)
  ⟨0xd000, 0xd000, 0x3, 0x3, .u16, .ro, false, false, false, (some (.num 0)), .any⟩, -- TESTS_RUNNING (R558)
  ⟨0xd020, 0xd020, 0x1, 0x1, .bits32, .cmd, false, false, false, none, .any⟩, -- BIST_START (R558)
  ⟨0xd020, 0xd020, 0x2, 0x2, .bits32, .ro, false, false, false, (some (.num 0x0)), .any⟩, -- BIST_FAILED_SCOPES (R558)
  ⟨0xd020, 0xd020, 0x3, 0x3, .u32, .ro, false, false, false, (some (.num 0)), .any⟩, -- BIST_FAILURES (R558)
  ⟨0xd020, 0xd020, 0x4, 0x4, .blob, .ro, false, false, false, none, .any⟩, -- BIST_DETAIL (R558)
  ⟨0xd030, 0xd030, 0x1, 0x1, .bool, .rw, true, false, false, (some (.num 0)), .any⟩, -- BACKGROUND_ON_ACTIVE (R558)
  ⟨0xd030, 0xd030, 0x2, 0x2, .u64, .ro, false, false, true, (some (.num 0)), .any⟩, -- BACKGROUND_PASSES (R558)
  ⟨0xd040, 0xd040, 0x1, 0x1, .bits32, .ro, false, false, false, (some (.num 0x0)), .any⟩, -- HEALTH_SUMMARY (R558)
  ⟨0xd040, 0xd040, 0x2, 0x2, .enum8, .ro, false, false, false, (some (.num 0)), .any⟩, -- HEALTH_WORST (R558)
  ⟨0xd040, 0xd040, 0x3, 0x3, .blob, .ro, false, false, false, none, .any⟩, -- HEALTH_LOG (R558)
  ⟨0xd040, 0xd040, 0x4, 0x4, .bool, .cmd, false, false, false, none, .any⟩, -- HEALTH_CLEAR (R558)
  ⟨0xd040, 0xd040, 0x5, 0x5, .blob, .ro, true, false, false, none, .any⟩, -- FAULT_LOG (R558)
  ⟨0xd041, 0xd041, 0x0, 0xc, .enum8, .ro, false, false, false, (some (.num 0)), .any⟩, -- AREA_STATE (R558)
  ⟨0xd042, 0xd042, 0x1, 0x1, .u16, .rw, true, false, false, (some (.num 100)), (.span 10 1000)⟩, -- EYE_MIN_TENTHS_MV (R558)
  ⟨0xd042, 0xd042, 0x2, 0x2, .u32, .rw, true, false, false, (some (.num 10000000)), (.span 1 1000000000)⟩, -- BER_DEGRADED_E12 (R558)
  ⟨0xd060, 0xd060, 0x1, 0x1, .u32, .ro, false, false, false, none, .any⟩, -- JTAG_IDCODE (R558)
  ⟨0xd100, 0xd100, 0x0, 0x7f, .octets, .ro, false, false, false, none, .any⟩, -- NET_PATTERN_RESULT (R558)
  ⟨0xd101, 0xd101, 0x0, 0x9f, .octets, .ro, false, false, false, none, .any⟩, -- FAB_PATTERN_RESULT (R558)
  ⟨0xd102, 0xd102, 0x0, 0x7, .octets, .ro, false, false, false, none, .any⟩, -- MATE_PATTERN_RESULT (R558)
  ⟨0xd103, 0xd103, 0x0, 0x0, .octets, .ro, false, false, false, none, .any⟩, -- MGMT_PATTERN_RESULT (R558)
  ⟨0xd103, 0xd103, 0x1, 0x1, .octets, .ro, false, false, false, none, .any⟩, -- MGMT_PATTERN_RESULT (R558)
  ⟨0xd104, 0xd104, 0x0, 0x1f, .octets, .ro, false, false, false, none, .any⟩, -- DG_PATTERN_RESULT (R558)
  ⟨0xd105, 0xd105, 0x0, 0x7f, .octets, .ro, false, false, false, none, .any⟩, -- HBM_PATTERN_RESULT (R558)
  ⟨0xe000, 0xe000, 0x1, 0x1, .u32, .ro, false, false, false, none, .any⟩, -- RUNNING_VERSION (R541)
  ⟨0xe000, 0xe000, 0x2, 0x2, .enum8, .ro, false, false, false, none, .any⟩, -- RUNNING_SLOT (R541)
  ⟨0xe000, 0xe000, 0x3, 0x3, .u8, .ro, false, false, false, none, .any⟩, -- STEPPING_CODE (R541)
  ⟨0xe000, 0xe000, 0x4, 0x4, .u8, .ro, false, false, false, (some (.num 0)), .any⟩, -- SECURITY_FLOOR (R541)
  ⟨0xe000, 0xe000, 0x5, 0x5, .bits32, .ro, false, false, false, (some (.num 0x0)), .any⟩, -- KEY_REVOKED (R541)
  ⟨0xe000, 0xe000, 0x6, 0x6, .octets, .rwb, true, false, false, (some (.zeros 48)), (.len 48)⟩ -- INTEGRATOR_KEY_DIGEST (R541)
]

/-- Rows 13 of the dictionary, in index order. -/
def dictionary13 : List ObjDef := [
  ⟨0xe001, 0xe001, 0x0, 0x0, .u32, .ro, false, false, false, (some (.num 0)), .any⟩, -- SLOT_VERSION (R541)
  ⟨0xe001, 0xe001, 0x1, 0x1, .u32, .ro, false, false, false, (some (.num 0)), .any⟩, -- SLOT_VERSION (R541)
  ⟨0xe002, 0xe002, 0x0, 0x0, .enum8, .ro, false, false, false, none, .any⟩, -- SLOT_STATE (R541)
  ⟨0xe002, 0xe002, 0x1, 0x1, .enum8, .ro, false, false, false, none, .any⟩, -- SLOT_STATE (R541)
  ⟨0xe003, 0xe003, 0x0, 0x0, .enum8, .ro, false, false, false, (some (.num 0)), .any⟩, -- SLOT_CAUSE (R541)
  ⟨0xe003, 0xe003, 0x1, 0x1, .enum8, .ro, false, false, false, (some (.num 0)), .any⟩, -- SLOT_CAUSE (R541)
  ⟨0xe010, 0xe010, 0x1, 0x1, .octets, .cmd, false, false, false, none, (.len 56)⟩, -- STAGE_OPEN (R541)
  ⟨0xe010, 0xe010, 0x2, 0x2, .blob, .wo, false, false, false, none, .any⟩, -- STAGE_DATA (R541)
  ⟨0xe010, 0xe010, 0x3, 0x3, .blob, .ro, false, false, false, none, .any⟩, -- STAGE_MAP (R541)
  ⟨0xe010, 0xe010, 0x4, 0x4, .enum8, .ro, false, false, false, (some (.num 0)), .any⟩, -- STAGE_STATE (R541)
  ⟨0xe010, 0xe010, 0x5, 0x5, .u32, .ro, false, false, false, (some (.num 0)), .any⟩, -- STAGE_VERSION (R541)
  ⟨0xe010, 0xe010, 0x6, 0x6, .octets, .ro, false, false, false, (some (.zeros 48)), .any⟩, -- STAGE_ID (R541)
  ⟨0xe010, 0xe010, 0x7, 0x7, .u32, .ro, false, false, true, (some (.num 0)), .any⟩, -- PIECES_BAD (R541)
  ⟨0xe010, 0xe010, 0x8, 0x8, .u32, .ro, false, false, true, (some (.num 0)), .any⟩, -- SEGMENTS_DIFFERING (R541)
  ⟨0xe020, 0xe020, 0x1, 0x1, .enum8, .cmd, false, false, false, none, .any⟩, -- ACTIVATE (R541)
  ⟨0xe020, 0xe020, 0x2, 0x2, .enum8, .ro, false, false, false, (some (.num 0)), .any⟩, -- ACTIVATE_CAUSE (R541)
  ⟨0xe020, 0xe020, 0x3, 0x3, .bool, .cmd, false, false, false, none, .any⟩, -- CONFIRM (R541)
  ⟨0xe020, 0xe020, 0x4, 0x4, .bool, .cmd, false, false, false, none, .any⟩, -- REVERT (R541)
  ⟨0xe020, 0xe020, 0x5, 0x5, .enum8, .rw, true, false, false, (some (.num 0)), (.span 0 1)⟩, -- CONFIRM_MODE (R541)
  ⟨0xe020, 0xe020, 0x6, 0x6, .u32, .rw, true, false, false, (some (.num 600)), (.span 60 86400)⟩, -- CONFIRM_DELAY_S (R541)
  ⟨0xe020, 0xe020, 0x7, 0x7, .u32, .rw, true, false, false, (some (.num 3600)), (.span 600 604800)⟩, -- CONFIRM_DEADLINE_S (R541)
  ⟨0xe020, 0xe020, 0x8, 0x8, .enum8, .ro, false, false, false, (some (.num 0)), .any⟩, -- TRIAL_STATE (R541)
  ⟨0xe020, 0xe020, 0x9, 0x9, .u32, .ro, true, false, false, (some (.num 0)), .any⟩, -- FALLBACKS (R541)
  ⟨0xe020, 0xe020, 0xa, 0xa, .enum8, .ro, true, false, false, (some (.num 0)), .any⟩ -- LAST_FALLBACK_CAUSE (R541)
]

/-- The whole dictionary. -/
def dictionary : List ObjDef :=
  dictionary1 ++ dictionary2 ++ dictionary3 ++ dictionary4 ++ dictionary5 ++ dictionary6 ++ dictionary7 ++ dictionary8 ++ dictionary9 ++ dictionary10 ++ dictionary11 ++ dictionary12 ++ dictionary13

/-- The row of an object, if the dictionary defines it (R115). -/
def dictRow (i j : Nat) : Option ObjDef :=
  dictionary.find? (fun d => decide (d.idxLo ≤ i ∧ i ≤ d.idxHi ∧ d.subLo ≤ j ∧ j ≤ d.subHi))

/-- Whether any row of the dictionary has this index (R115: otherwise NO_OBJECT). -/
def dictHasIndex (i : Nat) : Bool :=
  dictionary.any (fun d => decide (d.idxLo ≤ i ∧ i ≤ d.idxHi))

/-- The default of a numeric object; zero where the device sets the value (R122, log entry 2). -/
def dictDefault (i j : Nat) : Nat :=
  match (dictRow i j).bind (·.dflt) with
  | some (.num n) => n
  | _ => 0

/-- The default of a byte-string object; where the device sets the value (R122): zero bytes of its
fixed length, or empty (log entry 2). -/
def dictDefaultBytes (i j : Nat) : List Byte :=
  match (dictRow i j).bind (·.dflt) with
  | some (.bytes bs) => bs
  | some (.zeros n) => List.replicate n 0
  | _ => match (dictRow i j).map ObjDef.limits with
    | some (.len n) => List.replicate n 0
    | _ => []

/-- The create object of each kind, reached only by CREATE (R128, R574). -/
def isCreateObject (i j : Nat) : Bool :=
  decide (j = 0) && [0x5001, 0x5401, 0x6001, 0x7401, 0x7801, 0x7C01, 0xA001, 0xC101].contains i

end Sys2Proof.Machine
end

