-- ==== Sys2Proof/Machine/Assoc.lean ====
section
/-! DEFINITION. Sys2Proof/Machine/Assoc.lean: sparse stores, lists of keys and values with the keys strictly rising. -/

namespace Sys2Proof.Machine

/-- The value at a key, if one is listed. -/
def mget {α : Type} : List (Nat × α) → Nat → Option α
  | [], _ => none
  | (k', v) :: m, k => if k' = k then some v else mget m k

/-- The value at a key, or the value that an unlisted key has. -/
def mgetD {α : Type} (d : α) (m : List (Nat × α)) (k : Nat) : α := (mget m k).getD d

/-- A store with one key set, its keys kept rising. -/
def mput {α : Type} : List (Nat × α) → Nat → α → List (Nat × α)
  | [], k, v => [(k, v)]
  | (k', v') :: m, k, v =>
    if k < k' then (k, v) :: (k', v') :: m
    else if k' = k then (k, v) :: m
    else (k', v') :: mput m k v

/-- A store with one key taken out. -/
def mdel {α : Type} : List (Nat × α) → Nat → List (Nat × α)
  | [], _ => []
  | (k', v) :: m, k => if k' = k then m else (k', v) :: mdel m k

/-- A store with one key set, or taken out where the value is what an unlisted key has: the canonical form. -/
def mset {α : Type} [DecidableEq α] (d : α) (m : List (Nat × α)) (k : Nat) (v : α) : List (Nat × α) :=
  if v = d then mdel m k else mput m k v

/-- Every listed key exceeds a bound, and the keys rise strictly. -/
def keysAbove {α : Type} (lo : Option Nat) : List (Nat × α) → Bool
  | [] => true
  | (k, _) :: m => (match lo with | none => true | some l => decide (l < k)) && keysAbove (some k) m

/-- The keys of a store rise strictly. -/
def rising {α : Type} (m : List (Nat × α)) : Bool := keysAbove none m

/-- A store changed at one key by a function of the value there. -/
def mmod {α : Type} (d : α) (m : List (Nat × α)) (k : Nat) (f : α → α) : List (Nat × α) :=
  mput m k (f (mgetD d m k))

/-- A store with a function applied to every listed value. -/
def mmap {α : Type} (m : List (Nat × α)) (f : Nat → α → α) : List (Nat × α) := m.map fun (k, v) => (k, f k v)

/-- A store with only the values that pass a test. -/
def mkeep {α : Type} (m : List (Nat × α)) (p : Nat → α → Bool) : List (Nat × α) := m.filter fun (k, v) => p k v

/-- The lowest number below a bound that is not a key. -/
def lowestFree {α : Type} (m : List (Nat × α)) (cap : Nat) : Option Nat :=
  (List.range (min cap (m.length + 1))).find? (fun k => (mget m k).isNone)

/-- Element k of a list replaced. -/
def lset {α : Type} (l : List α) (k : Nat) (v : α) : List α := l.set k v

end Sys2Proof.Machine
end

