-- ==== Sys2Proof/Machine/Parts/Access.lean ====
section
/-! DEFINITION. Sys2Proof/Machine/Parts/Access.lean: the state of object access: requests being served, POA sessions,
object windows, batches and the epoch machinery (R115 to R153, R174 to R178). -/

namespace Sys2Proof.Machine

/-- One operation of a request (R140), its DATA in the byte order of the path that carries it. -/
structure OpReq where
  opcode : Nat
  flags : Nat
  index : Nat
  sub : Nat
  ty : Nat
  data : List Byte
  deriving DecidableEq, Repr

/-- One operation of a response (R140): byte 1 carries the status. -/
structure OpAns where
  opcode : Nat
  status : Status
  index : Nat
  sub : Nat
  ty : Nat
  data : List Byte
  deriving DecidableEq, Repr

/-- Where the answer of a request goes. -/
inductive ReplyTo where
  /-- A POA RESPONSE on a management port, to this MAC address, with this 802.1Q tag, under the EtherType of
  the request (R147), for this SEQ, tagged with the session's key even where the request itself ended the session (R138, R144, R146;
  log entry 45). -/
  | poa (port : Nat) (mac : List Byte) (tag : Option Nat) (etherType : Nat) (session : Nat) (seq : Nat) (schema : Nat) (key : List Byte)
  /-- The response buffer of an object window, for this SEQ (R149). -/
  | window (w : Nat) (seq : Nat)
  /-- A bare operation: its answer is recorded in the answer log. -/
  | direct
  deriving DecidableEq, Repr

/-- A request being served: what is answered so far, what remains, and whether it waits for the end of a flash record, a
commit or a queue's destruction (R32, R125, R136, R289). -/
structure Job where
  id : Nat
  origin : Origin
  reply : ReplyTo
  requirePair : Bool
  answered : List OpAns
  rest : List OpReq
  /-- Body bytes the response may hold (R126). -/
  limit : Nat
  /-- The operation that the job waited for has been answered; the rest goes on. -/
  ready : Bool
  deriving DecidableEq, Repr

/-- A request held until every lower SEQ has been applied (R146). -/
structure HeldReq where
  seq : Nat
  since : Nat
  port : Nat
  mac : List Byte
  tag : Option Nat
  frame : List Byte
  deriving DecidableEq, Repr

/-- A POA session (R142 to R146). -/
structure Session where
  id : Nat
  slot : Nat
  port : Nat
  key : List Byte
  schema : Nat
  /-- H of R146, zero before the first request. -/
  high : Nat
  /-- A request with SEQ H is being served and not yet answered. -/
  serving : Bool
  stored : List (Nat × List Byte)
  held : List HeldReq
  lastValid : Nat
  deriving DecidableEq, Repr

/-- An ACCEPT sent: the key slot and nonce of its OPEN, when, the POA message, and the session that it opened, or 0 (R142). -/
structure AcceptHold where
  slot : Nat
  nonce : List Byte
  since : Nat
  message : List Byte
  session : Nat
  deriving DecidableEq, Repr

/-- An object window (R148 to R150). -/
structure Window where
  irqEn : Bool
  busy : Bool
  done : Bool
  overrun : Bool
  result : Status
  seq : Nat
  schema : Nat
  reqLength : Nat
  rspLength : Nat
  msix : Nat
  req : List Byte
  rsp : List Byte
  /-- The SEQ last answered, with its stored response and result (R150). -/
  answered : Option (Nat × Status × List Byte)
  deriving DecidableEq, Repr

/-- A window after reset: its registers at the reset values of R148. -/
def Window.reset : Window :=
  { irqEn := false, busy := false, done := false, overrun := false, result := .ok, seq := 0, schema := 0, reqLength := 0,
    rspLength := 0, msix := 0, req := [], rsp := [], answered := none }

/-- One write held in a batch (R132), its value in canonical form. -/
structure BatchOp where
  origin : Origin
  index : Nat
  sub : Nat
  data : List Byte
  deriving DecidableEq, Repr

/-- A batch slot (R131, R132): GEN, and while a batch is open its writes, the change count at its opening (R134) and the
time of its last operation (R135). -/
structure Batch where
  gen : Nat
  isOpen : Bool
  ops : List BatchOp
  openedAt : Nat
  lastOp : Nat
  committing : Bool
  deriving DecidableEq, Repr

/-- A batch slot that has never been used: GEN reads 0x01 (R131). -/
def Batch.reset : Batch :=
  { gen := 1, isOpen := false, ops := [], openedAt := 0, lastOp := 0, committing := false }

/-- What a change of R134 names. -/
inductive Target where
  | obj (index sub : Nat)
  | entry (region : Nat) (key : List Byte)
  | rule (set pos : Nat)
  | program
  | graph
  | group (g : Nat)
  deriving DecidableEq, Repr

/-- Why the table engine changes an entry of its own (R234, R237, R244). -/
inductive Cause where
  | learned | aged | flushed
  deriving DecidableEq, Repr

/-- A change that the table engine makes in an internal commit: an insert of a learned entry, or a removal. -/
structure OwnChange where
  cause : Cause
  region : Nat
  key : List Byte
  data : List Byte
  deriving DecidableEq, Repr

/-- Who waits for a commit. -/
inductive Committer where
  /-- BATCH_COMMIT of this slot, by this job. -/
  | batch (slot : Nat) (job : Nat)
  /-- A direct write of an epoch-versioned object, as a batch of one, by this job (R132). -/
  | one (op : BatchOp) (job : Nat)
  /-- An internal commit of learning, ageing and flushes (R234, R244). -/
  | internal (ops : List OwnChange)
  deriving DecidableEq, Repr

/-- A change that the active staged on a standby (R368): the ticket of its record, the epoch that it belongs to, its operations, whether
it is an internal commit, and whether its last record has come. -/
structure MateChange where
  ticket : Nat
  epoch : Nat
  ops : List BatchOp
  own : Bool
  closed : Bool
  deriving DecidableEq, Repr

/-- A partial BLOB value, or a BLOB read copy, of one requester (R127): `last` is when the value began, or when the copy was last
read. -/
structure BlobHold where
  origin : Origin
  index : Nat
  sub : Nat
  bytes : List Byte
  last : Nat
  deriving DecidableEq, Repr

/-- The outcome of the last write of a CMD object by one requester (R118). -/
structure CmdOutcome where
  origin : Origin
  index : Nat
  sub : Nat
  status : Status
  deriving DecidableEq, Repr

/-- A result object that each session or window has for itself (R239, R290, R316 and others). -/
structure ResultHold where
  origin : Origin
  index : Nat
  sub : Nat
  bytes : List Byte
  deriving DecidableEq, Repr

/-- A write that is applied and not yet answered: its flash record is in progress (R32, R120), or the mate has not staged it
(R137, R368). -/
structure Unanswered where
  opcode : Nat
  index : Nat
  sub : Nat
  ty : Nat
  data : List Byte
  job : Nat
  flash : Bool
  ticket : Option Nat
  deriving DecidableEq, Repr

/-- An answer to an operation that no session or window carried: who asked, and its outcome (log entry 6). -/
structure Answer where
  origin : Origin
  ans : OpAns
  deriving DecidableEq, Repr

/-- Object access. -/
structure Serving where
  jobs : List (Nat × Job)
  nextJob : Nat
  sessions : List (Nat × Session)
  windows : List (Nat × Window)
  batches : List (Nat × Batch)
  partials : List BlobHold
  copies : List BlobHold
  outcomes : List CmdOutcome
  results : List ResultHold
  waiting : List Unanswered
  /-- Answers to OPENs of the last 10 s (R142). -/
  accepts : List AcceptHold
  answers : List Answer
  /-- A RESET_REQUEST that its request's answer must precede (R92, R95): 0 none, 1 WARM, 2 COLD. -/
  resetDue : Nat
  deriving DecidableEq, Repr

end Sys2Proof.Machine
end

