-- ==== Sys2Proof/Machine/Parts/Forward.lean ====
section
/-! DEFINITION. Sys2Proof/Machine/Parts/Forward.lean: the state of the forwarding engine: versioned objects, table regions
and their entries, learning, iterations, flushes, rule sets, and the packets in lanes (R80 to R84, R154 to R269). -/

namespace Sys2Proof.Machine

/-- The epoch-versioned objects of one live epoch (R130, R174), and the program bank and identity it uses (R188). -/
structure Version where
  objs : List (Nat × Nat)
  octs : List (Nat × List Byte)
  programId : Nat
  bank : Nat
  /-- A program has been installed (R73). -/
  loaded : Bool
  deriving DecidableEq, Repr

/-- STATE of a slot header (R214). A FREE place is one that holds no entry. -/
inductive EntryState where
  | live | born | dying
  deriving DecidableEq, Repr

/-- An entry of a table region, with the fields of its header (R214, R215, R217). `second` is WHERE; `len` is LENGTH of an
LPM entry and 0 for an exact-match entry. -/
structure Entry where
  state : EntryState
  epoch : Nat
  second : Bool
  hit : Bool
  aged : Bool
  static : Bool
  learned : Bool
  region : Nat
  len : Nat
  key : List Byte
  data : List Byte
  lastHit : Nat
  deriving DecidableEq, Repr

/-- A table region (R209, R211, R212). `params` are the bytes of its CREATE. -/
structure Region where
  em : Bool
  params : List Byte
  base : Nat
  deriving DecidableEq, Repr

/-- Where an entry stands: slot 4b + s of the exact-match array, unit 8b + u of the LPM array, or a position of the overflow
store (R208). -/
inductive Place where
  | em (slot : Nat) | lpm (unit : Nat) | ovf (pos : Nat)
  deriving DecidableEq, Repr

/-- A learn record (R233). -/
structure LearnRec where
  region : Nat
  key : List Byte
  data : List Byte
  slice : Nat
  arrival : Nat
  epoch : Nat
  deriving DecidableEq, Repr

/-- A key that a slice entered into its learn FIFO, and when (R233). -/
structure LearnSeen where
  region : Nat
  key : List Byte
  seenAt : Nat
  deriving DecidableEq, Repr

/-- The learn FIFO of a slice, oldest first, and the keys it entered, newest first (R233). -/
structure LearnFifo where
  recs : List LearnRec
  seen : List LearnSeen
  deriving DecidableEq, Repr

/-- An iteration slot (R240 to R242). The cursor counts positions already passed: array places, then the overflow store or
the default. -/
structure Iteration where
  gen : Nat
  isOpen : Bool
  region : Nat
  cursor : Nat
  pending : List (List Byte × Nat)
  skip : List (List Byte × Nat)
  last : Nat
  deriving DecidableEq, Repr

/-- A port that joined a flush scan, the position at which it joined, and whether the scan has moved on since (R244). -/
structure FlushJoin where
  port : Nat
  static : Bool
  pos : Nat
  deriving DecidableEq, Repr

/-- The flush scan of a region (R243, R244): its position and the ports pending. -/
structure FlushScan where
  pos : Nat
  ports : List FlushJoin
  deriving DecidableEq, Repr

/-- A meter (R311 to R316): its 32 parameter bytes, the two bucket levels in bytes with 16 fraction bits, and the meter time of
the last update in ns. -/
structure Meter where
  params : List Byte
  tc : Nat
  t2 : Nat
  last : Nat
  deriving DecidableEq, Repr

/-- A counter set (R503): its tag, and packets and bytes counted. -/
structure CounterSet where
  tag : Nat
  packets : Nat
  bytes : Nat
  deriving DecidableEq, Repr

/-- A rule set (R248). -/
structure RuleSet where
  params : List Byte
  baseBlock : Nat
  deriving DecidableEq, Repr

/-- A rule at a position: its visibility bits, its VALUE and MASK, and the two action words (R249 to R252). -/
structure Rule where
  vEven : Bool
  vOdd : Bool
  value : List Byte
  mask : List Byte
  actEven : List Byte
  actOdd : List Byte
  deriving DecidableEq, Repr

/-- The forwarding tables. -/
structure Tables where
  regions : List (Nat × Region)
  em : List (Nat × Entry)
  lpm : List (Nat × Entry)
  ovf : List (Nat × Entry)
  fifos : List (Nat × LearnFifo)
  iters : List (Nat × Iteration)
  flush : List (Nat × FlushScan)
  /-- Regions and keys that a sweep found due for removal (R237). -/
  agedOut : List (Nat × List Byte × Nat)
  ruleSets : List (Nat × RuleSet)
  /-- Rules, keyed by 65,536 × rule set + position. -/
  rules : List (Nat × Rule)
  deriving DecidableEq, Repr

/-- Where a packet in a lane came from. -/
inductive Source where
  /-- Port arrival. -/
  | arrival (port : Nat)
  /-- Host injection: channel, submission position and completion position of the descriptor. -/
  | inject (channel pos : Nat)
  /-- The slice's recirculation path. -/
  | recirc
  /-- Released by the TM for this egress port, from this queue index. -/
  | tm (queue : Nat)
  /-- From the fabric: SRC_UNIT, CLASS and SEQ. -/
  | fabric (unit cls seq : Nat)
  deriving DecidableEq, Repr

/-- What a packet released by the TM still holds there until its handover or a deliberate end (R279): its queue, its on-die
cells (0 for a copy), the charged length (R304), the gate of its queue, and for a copy the stored packet. -/
structure Custody where
  queue : Nat
  cells : Nat
  charged : Nat
  gate : Nat
  stored : Option Nat
  deriving DecidableEq, Repr

/-- A packet: its frame with the FCS, and its 512-byte record (R168). -/
structure Packet where
  frame : List Byte
  record : List Byte
  source : Source
  /-- The host descriptor whose completion waits for Breakwater's verdict (R32): channel and position. -/
  inject : Option (Nat × Nat)
  /-- Place of a port arrival in its source's order, for a pair (R362). -/
  ordinal : Nat
  custody : Option Custody
  /-- TRACE_ID, once the packet is traced (R514). -/
  traceId : Option Nat
  deriving DecidableEq, Repr

/-- How a pass ends (R157, R196). -/
inductive PassEnd where
  | forward
  | drop (cause : Nat)
  | punt (reason : Nat)
  | recirc
  | parseDrop
  deriving DecidableEq, Repr

/-- A pass in progress: the packet as it stood at the start, the frame and record that the program made, and the end the
pass comes to 1,536 cycles after the lane took the packet (R155). -/
structure Pass where
  packet : Packet
  frame : List Byte
  record : List Byte
  ending : PassEnd
  /-- Copies that PUNT_COPY steps asked for: reason, and the record at the step (R183). -/
  copies : List (Nat × List Byte)
  epoch : Nat
  start : Nat
  /-- Egress pass of OUT_PORT, or ingress pass. -/
  egress : Bool
  deriving DecidableEq, Repr

/-- A frame in a tide pool (R82). -/
structure PoolFrame where
  frame : List Byte
  port : Nat
  arrival : Nat
  ordinal : Nat
  deriving DecidableEq, Repr

/-- A packet waiting in a slice's injection queue (R456, R460). -/
structure Injection where
  frame : List Byte
  channel : Nat
  pos : Nat
  port : Nat
  portValid : Bool
  /-- A continuation: epoch, pass, start step, and the record bytes it supplies (R179). -/
  cont : Option (Nat × Nat × Nat)
  segments : List Byte
  segMask : Nat
  /-- Its place in its source's order, where a standby runs it again (R370). -/
  ordinal : Option Nat
  deriving DecidableEq, Repr

/-- One slice's lanes and stores. -/
structure Slice where
  pool : List PoolFrame
  inject : List Injection
  recirc : List Packet
  /-- Packets the TM released to the egress lane, not yet taken. -/
  egressQ : List Packet
  ingress : List Pass
  egress : List Pass
  /-- Finished packets held at the end of the ingress lane (R21). -/
  held : List Pass
  hold : Bool
  /-- Position 0 to 15 in the rotation of R22. -/
  rotation : Nat
  feAsleep : Bool
  tmAsleep : Bool
  /-- The slice has been idle since this time (R80). -/
  idleSince : Nat
  /-- A wake request not yet complete, and its grant (R83). -/
  wakeReq : Option Nat
  wakeGrant : Option Nat
  deriving DecidableEq, Repr

/-- A slice with nothing in it, awake. -/
def Slice.reset : Slice :=
  { pool := [], inject := [], recirc := [], egressQ := [], ingress := [], egress := [], held := [], hold := false,
    rotation := 0, feAsleep := false, tmAsleep := false, idleSince := 0, wakeReq := none, wakeGrant := none }

/-- What step 3 of R177 has staged: the version of CURRENT + 1, the writes of objects that are not versioned with their operation
numbers, whether this is a layout commit (R229), whether the program changes, the ticket that the mate must reach (R368), and of an
internal commit the counters to move and the entries changed (R234, R235). -/
structure Staging where
  version : Version
  later : List (Nat × BatchOp)
  layout : Bool
  program : Bool
  ticket : Option Nat
  counts : List Nat
  touched : List Target
  deriving DecidableEq, Repr

/-- The commit machinery (R136, R177). -/
structure Epochs where
  current : Nat
  cur : Version
  old : Version
  /-- Commits in the order received; the first is the one in progress. -/
  queue : List Committer
  /-- When the first commit began to wait at step 1. -/
  waitingSince : Nat
  /-- Step 3 has staged the first commit; the lanes advance next. -/
  staged : Option Staging
  /-- Number of changes so far, and the last change of each target (R134). -/
  changes : Nat
  changed : List (Target × Nat)
  deriving DecidableEq, Repr

end Sys2Proof.Machine
end

