-- ==== Sys2Proof/Machine/Parts/Traffic.lean ====
section
/-! DEFINITION. Sys2Proof/Machine/Parts/Traffic.lean: the state of the traffic manager: queues, buffers, spill, multicast,
scheduler, MAC queues, gate lists and the watch list (R270 to R324). -/

namespace Sys2Proof.Machine

/-- Where an admitted packet lies (R279 to R283). Segments are numbered as they are written. -/
inductive Location where
  | onDie
  /-- On-die, and in a segment whose HBM write is in progress. -/
  | writing (seg : Nat)
  | hbm (seg : Nat)
  /-- In a segment being read back. -/
  | reading (seg : Nat)
  deriving DecidableEq, Repr

/-- A packet or copy admitted to a queue (R275, R279). -/
structure Held where
  frame : List Byte
  record : List Byte
  cells : Nat
  colour : Nat
  cls : Nat
  /-- Time of the verdict (R290). -/
  verdict : Nat
  location : Location
  /-- For a multicast copy: the stored packet it belongs to (R294). -/
  stored : Option Nat
  /-- Reassembly completion time for a packet from the fabric (R156). -/
  arrival : Nat
  /-- TRACE_ID of a traced packet (R514). -/
  traceId : Option Nat
  /-- In a pair, the ordinal of the admission into its VOQ's context (R374). -/
  ordinal : Nat
  /-- BUNDLE_SEQ that the mate must cover before the release (R373). -/
  gate : Option Nat
  /-- The SEQ that the packet must take, fixed at the turn point (R374, R386). -/
  seq : Option Nat
  deriving DecidableEq, Repr

/-- Administrative state of a queue (R290). -/
inductive Admin where
  | enabled | disabled | destroying
  deriving DecidableEq, Repr

/-- How a parent serves a queue or node: the 24 bytes of R302 from PRIORITY on, and the running state of R305 and R307. Tokens
are bytes with 16 fraction bits. -/
structure Attach where
  priority : Nat
  gate : Nat
  lenAdjust : Int
  quantum : Nat
  rate : Nat
  burst : Nat
  deficit : Nat
  fresh : Bool
  tokens : Int
  last : Nat
  releasedPackets : Nat
  releasedBytes : Nat
  deriving DecidableEq, Repr

/-- A queue (R286 to R290). -/
structure Queue where
  params : List Byte
  admin : Admin
  packets : List Held
  /-- A_q with 8 fraction bits (R276). -/
  avg : Nat
  /-- When the queue last became empty, and the whole microseconds of emptiness already applied. -/
  emptySince : Nat
  emptyApplied : Nat
  admitted : Nat
  refused : Nat
  ended : Nat
  att : Attach
  /-- The job that waits for its destruction (R289). -/
  destroyer : Option Nat
  deriving DecidableEq, Repr

/-- A child of a scheduler node. -/
inductive Child where
  | queue (i : Nat) | node (i : Nat)
  deriving DecidableEq, Repr

/-- A scheduler node (R299 to R305). The round list holds the backlogged children of every priority in list order. -/
structure SchedNode where
  level : Nat
  port : Nat
  parent : Option Nat
  att : Attach
  round : List Child
  deriving DecidableEq, Repr

/-- A packet waiting for a verdict at a Breakwater, with its source 0 to 32 (R271). -/
structure Waiting where
  src : Nat
  packet : Packet
  fromFabric : Bool
  /-- For a copy made by a replication engine: its member queue handle and its stored packet. -/
  copy : Option (Nat × Nat)
  deriving DecidableEq, Repr

/-- A packet in a replication queue, with the members its copies still have to go to (R293, R294). -/
structure Repl where
  id : Nat
  packet : Packet
  cells : Nat
  group : Nat
  /-- The member list as taken when the engine began the packet. -/
  members : Option (List Nat)
  deriving DecidableEq, Repr

/-- A stored multicast packet: its cells, its copies not yet ended, and whether copies are still to be made (R295). -/
structure StoredMc where
  cells : Nat
  copies : Nat
  making : Bool
  deriving DecidableEq, Repr

/-- The TM side of one slice. -/
structure TmSlice where
  waiting : List Waiting
  /-- The source at which the next verdict begins (R271). -/
  nextSrc : Nat
  /-- WRED generator (R276). -/
  lfsr : Nat
  replFe : List Repl
  replFabric : List Repl
  /-- The replication queue served next: true is the queue of the FE slice. -/
  replTurn : Bool
  /-- Port number after the last level-0 node served (R306). -/
  nextPort : Nat
  deriving DecidableEq, Repr

/-- A TM slice with nothing in it. -/
def TmSlice.reset : TmSlice :=
  { waiting := [], nextSrc := 0, lfsr := 1, replFe := [], replFabric := [], replTurn := true, nextPort := 0 }

/-- The transmit side of a port's MAC (R304, R317, R320). -/
structure Mac where
  fifo : List Packet
  /-- Holding queues of a bound port: gate and packet, oldest first. -/
  holding : List (Nat × Packet)
  /-- The frame that a bound port has started. -/
  sending : Option Packet
  /-- Charged bytes of packets released to the port and not yet ended (R304). -/
  charged : Nat
  /-- Gates whose head frame has been counted in WINDOW_HELD. -/
  heldGates : List Nat
  deriving DecidableEq, Repr

/-- A MAC with nothing to send. -/
def Mac.reset : Mac := { fifo := [], holding := [], sending := none, charged := 0, heldGates := [] }

/-- A gate list's running state (R319): the pending list with its change time, and the operational list with its start. -/
structure GateList where
  pending : Option (List Byte × Nat)
  oper : Option (List Byte × Nat)
  /-- Gate states in force, bit g. -/
  gates : Nat
  deriving DecidableEq, Repr

/-- A gate list that is off: every gate is open. -/
def GateList.reset : GateList := { pending := none, oper := none, gates := 0xFF }

/-- A watch-list entry's interval in progress (R323) and its latency histogram (R518). -/
structure Watch where
  since : Nat
  /-- Whole microseconds of the interval that have been sampled. -/
  sampled : Nat
  depthMax : Nat
  released : Nat
  delayMin : Nat
  delayMax : Nat
  delaySum : Nat
  stale : Bool
  bins : List (Nat × Nat)
  deriving DecidableEq, Repr

/-- A watch entry at the start of an interval. -/
def Watch.reset : Watch :=
  { since := 0, sampled := 0, depthMax := 0, released := 0, delayMin := 0, delayMax := 0, delaySum := 0, stale := false, bins := [] }

/-- The traffic manager. -/
structure Traffic where
  queues : List (Nat × Queue)
  nodes : List (Nat × SchedNode)
  slices : List (Nat × TmSlice)
  groups : List (Nat × List Nat)
  stored : List (Nat × StoredMc)
  nextStored : Nat
  macs : List (Nat × Mac)
  gateLists : List (Nat × GateList)
  watches : List (Nat × Watch)
  /-- Allocated on-die cells and descriptors (R279). -/
  cells : Nat
  descriptors : Nat
  spilling : Bool
  nextSeg : Nat
  deriving DecidableEq, Repr

end Sys2Proof.Machine
end

