-- ==== Sys2Proof/Machine/Parts/Fabric.lean ====
section
/-! DEFINITION. Sys2Proof/Machine/Parts/Fabric.lean: the state of the Delora interface: links, replay, contexts, reassembly,
resequencing, pin tables and quieting (R85, R86, R325 to R350). -/

namespace Sys2Proof.Machine

/-- A cell to send, or sent and not acknowledged (R327, R342). The header's acknowledgement fields are filled in when it goes
out. `packet` names the sent packet that a DATA cell belongs to. -/
structure TxCell where
  control : Bool
  first : Bool
  last : Bool
  dest : Nat
  cls : Nat
  payload : List Byte
  packet : Option Nat
  /-- LINK_SEQ once sent. -/
  seq : Option Nat
  deriving DecidableEq, Repr

/-- A fabric link (R329, R342, R343). Its state stands in 0x3400:ll. -/
structure Link where
  /-- LINK_SEQ of the next new cell, and of the next cell expected. -/
  txNext : Nat
  rxExpect : Nat
  /-- A NAK has been sent and no cell accepted since. -/
  nakSent : Bool
  /-- Link credits held, and cells whose credit is to be returned. -/
  credits : Nat
  owed : Nat
  unacked : List TxCell
  /-- Cells waiting for a credit: those to resend, and those not yet sent, in order. -/
  resend : List TxCell
  fresh : List TxCell
  /-- Consecutive go-backs without an advance, and the time from which REPLAY_TIMEOUT_NS counts. -/
  goBacks : Nat
  lastAdvance : Nat
  helloSent : Bool
  helloRcvd : Bool
  /-- The link joined its flow group's pin table. -/
  joined : Bool
  upSince : Nat
  /-- Signal, lock or alignment lost since this time. -/
  lostSince : Option Nat
  failedSince : Nat
  /-- The link returns from FAILED and has not joined since. -/
  fromFailed : Bool
  /-- QUIET sent. -/
  quietSent : Bool
  /-- QUIET received, and answered; QUIET_DONE received. -/
  quietAsked : Bool
  quietAnswered : Bool
  quietDone : Bool
  deriving DecidableEq, Repr

/-- A link at power-on. -/
def Link.reset : Link :=
  { txNext := 0, rxExpect := 0, nakSent := false, credits := 0, owed := 0, unacked := [], resend := [], fresh := [],
    goBacks := 0, lastAdvance := 0, helloSent := false, helloRcvd := false, joined := false, upSince := 0, lostSince := none,
    failedSince := 0, fromFailed := false, quietSent := false, quietAsked := false, quietAnswered := false, quietDone := false }

/-- A packet released toward the fabric and not yet handed over (R33, R342). -/
structure SentPacket where
  held : Held
  queue : Nat
  dest : Nat
  cls : Nat
  seq : Nat
  era : Nat
  bucket : Nat
  group : Nat
  /-- The link that carries it, if a link of its group was usable. -/
  link : Option Nat
  deriving DecidableEq, Repr

/-- A bucket under the ordering fence (R341): the link it moves to, and since when its old cells are acknowledged. -/
structure Fence where
  bucket : Nat
  target : Nat
  acked : Option Nat
  deriving DecidableEq, Repr

/-- A flow group (R340, R341): the link each bucket is pinned to, and the buckets being moved. -/
structure FlowGroup where
  pins : List (Option Nat)
  fences : List Fence
  /-- Moves that wait for one of the 8 fences: bucket and target. -/
  moves : List (Nat × Nat)
  /-- The group has had no usable link since this time. -/
  downSince : Option Nat
  deriving DecidableEq, Repr

/-- A flow group whose links have never been usable. -/
def FlowGroup.reset : FlowGroup := { pins := List.replicate 256 none, fences := [], moves := [], downSince := none }

/-- A sending context (R334, R336). -/
structure SendCtx where
  nextSeq : Nat
  era : Nat
  balance : Int
  synced : Bool
  /-- BUNDLE_SEQ that the mate must cover before a SYNC REQUEST (R375). -/
  syncGate : Option Nat
  /-- DEMAND last reported, and when the last REQUEST went out. -/
  reported : Nat
  requestedAt : Nat
  deriving DecidableEq, Repr

/-- A packet held by resequencing (R346). -/
structure ReseqPacket where
  seq : Nat
  packet : Packet
  bytes : Nat
  since : Nat
  /-- DEST_KIND GROUP and its group number, or PORT and its port. -/
  group : Option Nat
  port : Nat
  colour : Nat
  cls : Nat
  deriving DecidableEq, Repr

/-- A receiving context (R334, R337, R346). -/
structure RecvCtx where
  expect : Nat
  era : Nat
  synced : Bool
  demand : Nat
  held : List ReseqPacket
  deriving DecidableEq, Repr

/-- A receiving context never synchronised. -/
def RecvCtx.reset : RecvCtx := { expect := 0, era := 0, synced := false, demand := 0, held := [] }

/-- A reassembly context (R333): its receive link, SRC_UNIT and SRC_LINK, the bytes so far, and the time of its last cell. -/
structure Reassembly where
  link : Nat
  unit : Nat
  srcLink : Nat
  cls : Nat
  bytes : List Byte
  lastCell : Nat
  deriving DecidableEq, Repr

/-- Where the quieting or waking of a fabric quad stands (R86, R349). -/
inductive QuadState where
  | awake
  /-- Steps 1 to 3 of R86 since this time. -/
  | quieting (since : Nat)
  | off
  /-- Waking since this time. -/
  | waking (since : Nat)
  deriving DecidableEq, Repr

/-- The fabric interface. -/
structure Fabric where
  links : List (Nat × Link)
  sent : List (Nat × SentPacket)
  nextSent : Nat
  groups : List (Nat × FlowGroup)
  /-- Sending contexts, keyed by 8 × destination + CLASS. -/
  send : List (Nat × SendCtx)
  /-- ERA of a sending context that has sent nothing yet (R347). -/
  bootEra : Nat
  /-- Receiving contexts, keyed by 8 × SRC_UNIT + CLASS. -/
  recv : List (Nat × RecvCtx)
  reasm : List Reassembly
  /-- Contexts whose packet found no free place: the rest of it is discarded (R333): receive link, SRC_UNIT, SRC_LINK. -/
  dropping : List (Nat × Nat × Nat)
  /-- Grants go out no earlier than this, in ps (R337). -/
  grantFree : Nat
  /-- Bits of packet data sent since the last measurement, and when that was (R85). -/
  sentBits : Nat
  lastMeasure : Nat
  quads : List (Nat × QuadState)
  /-- The quieting condition of R85 has held since this time. -/
  surplusSince : Option Nat
  /-- Per class, the receiving unit served last (R337). -/
  grantTurn : List (Nat × Nat)
  /-- The VOQ served last in each slice and class (R339): keyed by 8 × slice + class. -/
  voqTurn : List (Nat × Nat)
  deriving DecidableEq, Repr

end Sys2Proof.Machine
end

