-- ==== Sys2Proof/Machine/Parts/Power.lean ====
section
/-! DEFINITION. Sys2Proof/Machine/Parts/Power.lean: pins, mode machine, clocks, adaptive voltage, start-up and modules
(R42, R48 to R114). Values that an object reports live in the object registers; here stands what no object holds. -/

namespace Sys2Proof.Machine

/-- The low-speed balls of R42 that carry state: inputs as last seen by the device, outputs as driven.
PAIR_FAULT_OUT_N is a function of the state (R379): State.faultOutHigh. -/
structure Pins where
  poresetN : Bool
  warmresetN : Bool
  pwrGoodMain : Bool
  pciePerstN : Bool
  trstN : Bool
  pairRole : Bool
  pairFaultInN : Bool
  testMode : Bool
  ppsIn : Bool
  modPrsN : BitVec 32
  modIntN : BitVec 32
  pwrEnMain : Bool
  /-- THERM_ALERT_N is open-drain: true is released (R60). -/
  thermAlertN : Bool
  ppsOut : Bool
  modResetN : BitVec 32
  modLpMode : BitVec 32
  deriving DecidableEq, Repr

/-- What a read of MODE_REQUEST returns (R72). -/
inductive ModeStatus where
  | done | inProgress | aborted | drainTimeout
  deriving DecidableEq, Repr

/-- The mode machine (R72 to R78). -/
structure ModeState where
  /-- 0x2000:01 MODE. -/
  mode : Mode
  /-- 0x2000:02 MODE_REQUEST as read. -/
  status : ModeStatus
  /-- The mode of a transition that has begun and not completed. -/
  target : Option Mode
  /-- The target of BRINGUP, DORMANT or DIAGNOSTIC pending beyond DRAIN (R74). -/
  pending : Option Mode
  /-- The mode from which DRAIN was entered, and when. -/
  drainFrom : Mode
  drainSince : Nat
  /-- When DORMANT was entered (WAKE_AFTER_S). -/
  dormantSince : Nat
  /-- DORMANT was entered by a trip: a wake needs every sensor below its alert threshold (R61). -/
  afterTrip : Bool
  /-- The running slot's steward images were refused: a wake draws MODE until the next power-on start (R103). -/
  wakeRefused : Bool
  deriving DecidableEq, Repr

/-- Where a power-on start or a wake stands (R99, R102, R104). -/
inductive StartPhase where
  | idle
  /-- PWR_EN_MAIN raised at this time, PWR_GOOD_MAIN not yet high; true for a power-on start, false for a wake. -/
  | waitPower (since : Nat) (powerOn : Bool)
  /-- The boot path of R102 is in progress. -/
  | bootPath
  deriving DecidableEq, Repr

/-- The AVSBus master of one rail (R55, R56). -/
structure AvsRail where
  /-- The target of the write in progress, if any. -/
  writing : Option Nat
  /-- Failed attempts of that write (R56). -/
  retries : Nat
  stopped : Bool
  lastWrite : Nat
  /-- The last voltage read lies within 10 mV of the target. -/
  settled : Bool
  deriving DecidableEq, Repr

/-- Where the reading of one module stands (R108). -/
inductive ModuleStep where
  | none
  /-- Presence counted; MOD_RESET_N held low since this time. -/
  | resetHold (since : Nat)
  /-- Polling lower page byte 3 since this time. -/
  | poll (since : Nat)
  deriving DecidableEq, Repr

/-- One cage's two-wire master (R108 to R112). -/
structure Cage where
  step : ModuleStep
  /-- The serial number last read in this cage (R109). -/
  lastSerial : List Byte
  /-- The serial number of a first read whose checksum was wrong (R109: two successive reads). -/
  suspect : Option (List Byte)
  /-- CMIS_PASSTHROUGH: an access in progress, its status byte and the data of the last read (R112). -/
  passBusy : Bool
  /-- Bytes that the access in progress reads; 0 for a write. -/
  passLen : Nat
  passStatus : Nat
  passData : List Byte
  /-- DataPathDeinit, page 10h byte 128, as last written (R419). -/
  deinit : Nat
  deriving DecidableEq, Repr

/-- A cage at power-on. -/
def Cage.reset : Cage :=
  { step := .none, lastSerial := [], suspect := none, passBusy := false, passLen := 0, passStatus := 0, passData := [], deinit := 0 }

/-- A boot record copy that is valid under R97. -/
structure BootRec where
  flashMhz : Nat
  seq : Nat
  lastGood : Nat
  trialSlot : Option Nat
  trialLeft : Nat
  stagedPending : Bool
  refusedA : Bool
  refusedB : Bool
  deriving DecidableEq, Repr

/-- Tidewatch, clocks and start-up. -/
structure Power where
  pins : Pins
  ms : ModeState
  start : StartPhase
  fe : AvsRail
  tm : AvsRail
  /-- TWCLK_IN has stopped and not yet run for 10 ms (R68). -/
  twclkLost : Bool
  /-- SerDes reference clocks lost, by sub-index of REFCLK_PPB (R69). -/
  refclkLost : List Nat
  /-- A warm restart in progress since this time (R92), and whether by pin. -/
  warmSince : Option Nat
  /-- Tidewatch firmware runs and serves management port 0. -/
  tidewatchUp : Bool
  /-- The boot ROM's recovery service is running (R101). -/
  recovery : Bool
  cages : List (Nat × Cage)
  /-- The 128 bytes of the board EEPROM, or none when nothing acknowledges (R105). -/
  eeprom : Option (List Byte)
  /-- CRC of the board record under which the persistent CAGE_MAP and MGMT_MAC_BASE writes stand (R107). -/
  recordCrc : Nat
  /-- Both, one or no half of the store of P objects is readable (R103). -/
  storeHalf0 : Bool
  storeHalf1 : Bool
  deriving DecidableEq, Repr

end Sys2Proof.Machine
end

