-- ==== Sys2Proof/Machine/Parts/Firmware.lean ====
section
/-! DEFINITION. Sys2Proof/Machine/Parts/Firmware.lean: the state of the flash, the staged delivery, activation, trial and fuses
(R96 to R100, R521 to R541). -/

namespace Sys2Proof.Machine

/-- What the chain of checks of R525 needs of a bundle, read from its bytes (R521 to R524). -/
structure Bundle where
  bytes : List Byte
  deriving DecidableEq, Repr

/-- The open delivery (R527 to R531). Its STAGE_STATE stands in 0xE010:04. -/
structure Delivery where
  total : Nat
  bundleId : List Byte
  /-- Blocks received: number and bytes. -/
  blocks : List (Nat × List Byte)
  /-- Pieces COMPLETE, and pieces whose sector is being erased. -/
  complete : List Nat
  erasing : List Nat
  deriving DecidableEq, Repr

/-- The Tidewatch trial (R535 to R538). -/
structure Trial where
  warm : Bool
  /-- The trial slot. -/
  slot : Nat
  /-- When its time began to count (R535, R536). -/
  since : Option Nat
  healthy : Bool
  deriving DecidableEq, Repr

/-- Where an activation in service stands (R532, R535). -/
inductive ActState where
  | idle | installing | done | refused
  deriving DecidableEq, Repr

/-- Flash, boot record and update. -/
structure Firmware where
  slotA : Option Bundle
  slotB : Option Bundle
  /-- The two copies of the boot record in flash; none where a copy is not valid (R97, R98). -/
  boot0 : Option BootRec
  boot1 : Option BootRec
  delivery : Option Delivery
  /-- An install in service is in progress; the bundle it installs. -/
  installing : Option Bundle
  act : ActState
  trial : Option Trial
  /-- The Tidewatch image that runs since the last power-on start. -/
  tidewatchImage : List Byte
  runningSlot : Nat
  /-- The values of P objects in flash. -/
  store : List (Nat × Nat)
  storeOcts : List (Nat × List Byte)
  /-- Fuses of the FE die (R537): SECURITY_FLOOR and KEY_REVOKED. -/
  floor : Nat
  revoked : Nat
  /-- The fault log in flash (R556), oldest first, and records kept in PD000 until the flash is powered. -/
  faultLog : List (List Byte)
  pendingFaults : List (List Byte)
  /-- A warm restart for the activation is due, 1 ms after the install. -/
  restartDue : Bool
  deriving DecidableEq, Repr

end Sys2Proof.Machine
end

