-- ==== Sys2Proof/Machine/Parts/HostSide.lean ====
section
/-! DEFINITION. Sys2Proof/Machine/Parts/HostSide.lean: the state of the PCIe endpoint, host channels, doorbell sets, mailboxes
and locks (R442 to R476). -/

namespace Sys2Proof.Machine

/-- A descriptor fetched from a submission ring (R453): its slot, its position since ENABLE, its 64 bytes as they lie in host
memory. -/
structure Descriptor where
  slot : Nat
  pos : Nat
  bytes : List Byte
  deriving DecidableEq, Repr

/-- A started descriptor and its completion once known (R453, R458): completions go out in descriptor order. -/
structure Started where
  slot : Nat
  /-- Position of the descriptor since ENABLE, which names it elsewhere. -/
  pos : Nat
  bytes : List Byte
  /-- The completion's 32 bytes without OWN and PHASE, then the submission control word to write before it. -/
  completion : Option (List Byte)
  /-- BUNDLE_SEQ that the mate must cover before an ACCEPTED completion (R373). -/
  gate : Option Nat
  deriving DecidableEq, Repr

/-- State of a ring pair (R463). -/
inductive RingState where
  | disabled | enabled | disabling
  deriving DecidableEq, Repr

/-- A host channel (R447 to R465). -/
structure HostChannel where
  params : List Byte
  ring : RingState
  fetchPos : Nat
  fetchPhase : Bool
  writePos : Nat
  writePhase : Bool
  /-- Descriptors taken since ENABLE. -/
  taken : Nat
  fetched : List Descriptor
  started : List Started
  /-- The staging area (R462), in the same form. -/
  staged : List (List Byte)
  /-- A scan is in progress or paused, and a doorbell came since its last read began. -/
  scanning : Bool
  /-- Completions since the last interrupt, and when the first of them was written (R465). -/
  unsignalled : Nat
  firstUnsignalled : Nat
  malformed : Nat
  dmaErrors : Nat
  stalls : Nat
  deriving DecidableEq, Repr

/-- A direction of a mailbox (R468 to R473). -/
structure MbDir where
  /-- Words of complete messages, oldest first, and how many of them belong to a message already begun to be read. -/
  words : List Nat
  unread : Nat
  /-- Master that holds the claim. -/
  claim : Option Nat
  partialWords : List Nat
  /-- Payload words still to come. -/
  expect : Nat
  rejected : Bool
  underrun : Bool
  deriving DecidableEq, Repr

/-- An empty direction. -/
def MbDir.reset : MbDir := { words := [], unread := 0, claim := none, partialWords := [], expect := 0, rejected := false, underrun := false }

/-- A mailbox: direction 0 from end A to end B, and direction 1 back; the time since which both directions have held complete
messages with no word read, and whether a stalemate has been signalled since the last read (R473). -/
structure Mailbox where
  d0 : MbDir
  d1 : MbDir
  stuckSince : Option Nat
  signalled : Bool
  deriving DecidableEq, Repr

/-- An empty mailbox. -/
def Mailbox.reset : Mailbox := { d0 := .reset, d1 := .reset, stuckSince := none, signalled := false }

/-- A doorbell set (R466, R467). -/
structure DoorbellSet where
  status : Nat
  mask : Nat
  deriving DecidableEq, Repr

/-- A doorbell set after reset: DB_MASK reads 0xFFFF_FFFF (R444). -/
def DoorbellSet.reset : DoorbellSet := { status := 0, mask := 0xFFFFFFFF }

/-- The host side. -/
structure HostSide where
  channels : List (Nat × HostChannel)
  doorbells : List (Nat × DoorbellSet)
  mailboxes : List (Nat × Mailbox)
  /-- Locks held: lock and master ID (R474). -/
  locks : List (Nat × Nat)
  /-- The PCIe link answers configuration requests (R93). -/
  linkUp : Bool
  /-- MSI-X table entries written, and pending vectors (R443). -/
  msixTable : List (Nat × List Byte)
  msixPending : List Nat
  /-- Channel served last in each slice's injection queue (R460). -/
  injectTurn : List (Nat × Nat)
  /-- Value returned by the last read of a BAR register, newest first: master and value. -/
  reads : List (Nat × Nat)
  deriving DecidableEq, Repr

end Sys2Proof.Machine
end

