-- ==== Sys2Proof/Machine/Parts/Memory.lean ====
section
/-! DEFINITION. Sys2Proof/Machine/Parts/Memory.lean: the state of the HBM subsystem: stacks, delays, refresh and live
calibration (R394 to R414). Segment contents lie with the packets of the traffic manager; statistics with the counters. -/

namespace Sys2Proof.Machine

/-- A pseudo-channel (R397 to R406). -/
structure PseudoChannel where
  /-- The 96 bytes in force, and those staged for the next refresh boundary. -/
  delays : List Byte
  staged : Option (List Byte)
  /-- EL and ER of the 72 lanes, as signed steps. -/
  edges : List (Int × Int)
  /-- The lane that the round has reached, or none between rounds; the first round after a wake searches outward. -/
  round : Option Nat
  searchOut : Bool
  /-- Neighbour-refresh generator (R401, R576). -/
  lfsr : Nat
  /-- The rows of the last consecutive uncorrectable reads, all different (R412). -/
  ueRows : List Nat
  /-- Parity alerts within the last 1 ms: when each came (R412). -/
  alerts : List Nat
  /-- Banks refreshed since the last boundary (R400). -/
  bankRefreshes : Nat
  lastBoundary : Nat
  deriving DecidableEq, Repr

/-- A pseudo-channel at power-on. -/
def PseudoChannel.reset : PseudoChannel :=
  { delays := List.replicate 96 0, staged := none, edges := List.replicate 72 (0, 0), round := none, searchOut := true, lfsr := 1,
    ueRows := [], alerts := [], bankRefreshes := 0, lastBoundary := 0 }

/-- A stack (R402, R412). Its service state stands in 0x7101:0h. -/
structure Stack where
  /-- R87 asked for self-refresh and the queue has not emptied. -/
  entering : Bool
  wakeSince : Option Nat
  lastAccess : Nat
  /-- Times of uncorrectable bursts within the last second (R412). -/
  uncorrectable : List Nat
  deriving DecidableEq, Repr

/-- A stack at power-on. -/
def Stack.reset : Stack := { entering := false, wakeSince := none, lastAccess := 0, uncorrectable := [] }

/-- The HBM subsystem. -/
structure Hbm where
  channels : List (Nat × PseudoChannel)
  stackIds : List (Nat × Stack)
  /-- The persistent copy of HBM_DELAYS, by pseudo-channel, and the stack serials recorded with it (R398). -/
  saved : List (Nat × List Byte)
  savedSerials : List (Nat × Nat)
  lastSave : Nat
  lastScrub : Nat
  deriving DecidableEq, Repr

end Sys2Proof.Machine
end

