-- ==== Sys2Proof/Machine/Parts/Output.lean ====
section
/-! DEFINITION. Sys2Proof/Machine/Parts/Output.lean: what the device sends out of the package, in a log, newest first. -/

namespace Sys2Proof.Machine

/-- One thing sent out: the model keeps the log because nothing else in the state would show it (log entry 6). -/
inductive Output where
  /-- An Ethernet frame on management port 0 or 1 (R138, R435). -/
  | mgmt (port : Nat) (frame : List Byte)
  /-- A frame on a network port (R422). -/
  | net (port : Nat) (frame : List Byte)
  /-- A 256-byte cell on a fabric link (R327). -/
  | fabric (link : Nat) (cell : List Byte)
  /-- A cell on a mate lane (R356). -/
  | mate (lane : Nat) (cell : List Byte)
  /-- A write into host memory (R446). -/
  | dma (addr : Nat) (bytes : List Byte)
  /-- An MSI-X vector raised (R443). -/
  | msix (vector : Nat)
  /-- A two-wire write to the module of a cage: bank, page, offset, bytes (R112, R419). -/
  | twoWire (cage bank page offset : Nat) (bytes : List Byte)
  /-- An AVSBus voltage write on rail 0 (VDD_FE) or 1 (VDD_TM), in mV (R55). -/
  | avs (rail mv : Nat)
  deriving DecidableEq, Repr

end Sys2Proof.Machine
end

