-- ==== Sys2Proof/Machine/Parts/Pair.lean ====
section
/-! DEFINITION. Sys2Proof/Machine/Parts/Pair.lean: the state of the protected pair: mate lanes, the record stream, verdict
blocks and their matching, tickets, digests and the turn (R351 to R393, R575). -/

namespace Sys2Proof.Machine

/-- A RECORDS cell of a mate lane, sent and not acknowledged, or waiting for a lane or a credit (R356, R357). -/
structure MateCell where
  bundle : Nat
  payload : List Byte
  seq : Option Nat
  deriving DecidableEq, Repr

/-- A mate lane. Its state stands in 0x3600:0n. -/
structure MateLane where
  txNext : Nat
  rxExpect : Nat
  nakSent : Bool
  credits : Nat
  owed : Nat
  unacked : List MateCell
  resend : List MateCell
  goBacks : Nat
  lastAdvance : Nat
  lostSince : Option Nat
  failedSince : Nat
  deriving DecidableEq, Repr

/-- A mate lane at power-on. A lane starts with 127 credits, the most one cell can return (log entry 31). -/
def MateLane.reset : MateLane :=
  { txNext := 0, rxExpect := 0, nakSent := false, credits := 127, owed := 0, unacked := [], resend := [], goBacks := 0,
    lastAdvance := 0, lostSince := none, failedSince := 0 }

/-- How far a pair has come (R378, R575). -/
inductive PairPhase where
  | apart | copying | trial | inStep
  deriving DecidableEq, Repr

/-- An entry of a verdict block under construction on the active (R362, R363). -/
structure OpenEntry where
  ordinal : Nat
  tag : Nat
  /-- ADMIT and COLOUR once decided; a packet bound for a VOQ is decided when it reaches Breakwater, and takes its verdict as the
  block closes. -/
  decided : Option (Bool × Nat)
  /-- The packet waits at Breakwater for its block. -/
  atBreakwater : Bool
  /-- The 16 bytes that the entry adds to its slice's digest (R382), once its packet has crossed to the TM. -/
  decision : List Byte
  deriving DecidableEq, Repr

/-- An open verdict block of a source (R363). -/
structure OpenBlock where
  source : Nat
  first : Nat
  flushed : Bool
  entries : List OpenEntry
  deriving DecidableEq, Repr

/-- What a run from the first pass begins with (R370): a frame as it arrived, an injected packet, or nothing where the tide pool had no
room for the frame. -/
inductive Again where
  | frame (f : PoolFrame)
  | inject (x : Injection)
  | lost
  deriving DecidableEq, Repr

/-- A frame of the standby's own that no entry has matched (R365), with what a run from its first pass begins with (R370). -/
structure OwnFrame where
  source : Nat
  ordinal : Nat
  tag : Nat
  again : Again
  since : Nat
  deriving DecidableEq, Repr

/-- An entry that the standby received and has not applied, in stream order (R365, R366): its position in its source, and the frame
that it was matched with. -/
structure MateEntry where
  source : Nat
  position : Nat
  tag : Nat
  admits : Bool
  colour : Nat
  since : Nat
  own : Option OwnFrame
  deriving DecidableEq, Repr

/-- A verdict on a fabric packet that the standby has received (R376). -/
structure FabricBit where
  unit : Nat
  cls : Nat
  seq : Nat
  admits : Bool
  since : Nat
  deriving DecidableEq, Repr

/-- The verdicts on the copies of a group packet (R359 0x47). -/
structure CopyBits where
  fabric : Bool
  source : Nat
  unit : Nat
  position : Nat
  admits : List Bool
  since : Nat
  deriving DecidableEq, Repr

/-- The copies of a group packet that the active has begun to judge (R359 0x47): the stored packet, whether it came from the fabric,
its source number or class, its SRC_UNIT, its position or SEQ, and the verdict of each member so far. -/
structure OpenCopies where
  stored : Nat
  fabric : Bool
  source : Nat
  unit : Nat
  position : Nat
  members : List Nat
  verdicts : List (Option Bool)
  deriving DecidableEq, Repr

/-- A context's SEQ accounting since START (R364, R374, R375). -/
structure PairCtx where
  baseSeq : Nat
  era : Nat
  /-- Ordinals given so far, and those LOST. -/
  count : Nat
  lost : List Nat
  /-- Ordinals that FOREIGN admissions of the active took (R374). -/
  foreign : List Nat
  /-- DONE_SEQ last marked, and ERA of the last mark. -/
  done : Nat
  doneEra : Nat
  deriving DecidableEq, Repr

/-- A fabric verdict record being built for a receiving context (R376). -/
structure OpenFabric where
  unit : Nat
  cls : Nat
  firstSeq : Nat
  bits : List Bool
  since : Nat
  deriving DecidableEq, Repr

/-- A slice's digest in progress (R382): the CRC-64 register, its entries, its number and when it began; and digests of the
standby that no DIGEST has matched. -/
structure Digest where
  crc : Nat
  entries : Nat
  number : Nat
  since : Nat
  own : List (Nat × Nat)
  /-- Digests of the mate that wait for the standby's own: NUMBER, ENTRIES and VALUE. -/
  mate : List (Nat × Nat × Nat)
  matched : Bool
  deriving DecidableEq, Repr

/-- A digest with no entry: the CRC register preset to all ones. -/
def Digest.reset : Digest := { crc := 2 ^ 64 - 1, entries := 0, number := 0, since := 0, own := [], mate := [], matched := false }

/-- What a heartbeat or an identity last said of the mate (R360, R361). -/
structure Mate where
  identity : Option (List Byte)
  role : Nat
  pairState : Nat
  flags : Nat
  lastBeat : Nat
  heard : Bool
  deriving DecidableEq, Repr

/-- The pair. -/
structure Pair where
  phase : PairPhase
  fenced : Bool
  /-- The mate was lost while the phase was copying, trial or in step (R575). -/
  mateLost : Bool
  lanes : List (Nat × MateLane)
  /-- BUNDLE_SEQ of the next cell, the next one to be received, and the highest that the mate has acknowledged, plus one. -/
  bundleNext : Nat
  bundleExpect : Nat
  bundleAcked : Nat
  /-- Cells that no lane has taken. -/
  waiting : List MateCell
  reorder : List (Nat × List Byte)
  stream : List Byte
  mate : Mate
  hbSeq : Nat
  /-- The body of the IDENTITY last sent. -/
  sentIdentity : List Byte
  /-- A copy asked for and not sent yet. -/
  copyAsked : Bool
  /-- What a joining standby has received: image, offset, bytes. -/
  copied : List (Nat × Nat × List Byte)
  readySent : Bool
  /-- TICKET of the last record sent; STAGED_TICKET and DRAINED_EPOCH that the mate reported; TICKET last staged here. -/
  ticket : Nat
  mateTicket : Nat
  mateDrained : Nat
  stagedTicket : Nat
  /-- Changes staged on the standby. -/
  staged : List MateChange
  blocks : List OpenBlock
  /-- Ordinal of the next frame of each source. -/
  ordinals : List (Nat × Nat)
  entries : List MateEntry
  frames : List OwnFrame
  /-- Leg extras, and frames that ended before Breakwater on the active: source and ordinal. -/
  extras : List (Nat × Nat)
  /-- On a standby, entries of each source received since START; on an active, the ordinal of the first entry after START. -/
  positions : List (Nat × Nat)
  fabricBits : List FabricBit
  copyBits : List CopyBits
  openFabric : List OpenFabric
  openCopies : List OpenCopies
  /-- SEQ accounting, keyed by 8 × destination + CLASS. -/
  ctxs : List (Nat × PairCtx)
  /-- Context marked last (R375). -/
  markTurn : Nat
  digests : List (Nat × Digest)
  /-- EPOCH and position of each source, from EPOCH_MARK. -/
  marks : List (Nat × List (Nat × Nat))
  /-- The turn is latched; only received entries still govern (R386). -/
  turned : Bool
  /-- A planned switch-over in progress (R388). -/
  switching : Bool
  lastSelfTest : Nat
  lastMark : Nat
  deriving DecidableEq, Repr

end Sys2Proof.Machine
end

