-- ==== Sys2Proof/Machine/Parts/Ports.lean ====
section
/-! DEFINITION. Sys2Proof/Machine/Parts/Ports.lean: the state of ports, lanes, the IEEE 1588 clock, recovered clocks and the
die-to-die groups (R415 to R441). Values that an object reports live in the object registers. -/

namespace Sys2Proof.Machine

/-- A network port (R419, R424, R425, R428). -/
structure Port where
  /-- A down cause of R424 that is being held, and since when. -/
  cause : Option (Nat × Nat)
  /-- Every lane locked and aligned with no fault since this time. -/
  cleanSince : Option Nat
  /-- The step of R419 in progress, 2 to 6, and since when; 0 when none. -/
  activation : Nat
  activationSince : Nat
  /-- Packets flushed since the last down indication (R511), and when the flush began. -/
  flushed : Nat
  flushSince : Nat
  /-- The transmit stamps held, oldest first, 12 bytes each (R428). -/
  stamps : List (List Byte)
  /-- Frames dropped at a full tide pool, counted against the port (R21); no object reports the count. -/
  poolDrops : Nat
  deriving DecidableEq, Repr

/-- A port with nothing in it. -/
def Port.reset : Port :=
  { cause := none, cleanSince := none, activation := 0, activationSince := 0, flushed := 0, flushSince := 0, stamps := [],
    poolDrops := 0 }

/-- The adaptation engine of a lane (R431, R432): the step in progress (coefficient, when it was made, and the corrected symbols
of the millisecond before it) and the coefficients held after a reversion, with the end of each hold. The coefficient values
themselves are not given by the spec; the steps made on each are counted. -/
structure LaneAdapt where
  step : Option (Nat × Int × Nat × Nat)
  holds : List (Nat × Nat)
  coeffs : List (Nat × Int)
  /-- The eye or the error rate has been poor since this time (R555), and whether that has been recorded. -/
  poorSince : Option Nat
  poorNoted : Bool
  /-- The state saved as the lane's domain went OFF (R432). -/
  saved : Option (List (Nat × Int))
  deriving DecidableEq, Repr

/-- A lane in its default adaptation state. -/
def LaneAdapt.reset : LaneAdapt := { step := none, holds := [], coeffs := [], poorSince := none, poorNoted := false, saved := none }

/-- A die-to-die group (R437 to R439). -/
structure DgGroup where
  /-- Uncorrectable flits in the last 1 ms. -/
  uncorrectable : List Nat
  failedSince : Nat
  /-- Delay changes staged for the next alignment marker: wire and signed step; and the delay of each wire changed so far. -/
  staged : List (Nat × Int)
  delays : List (Nat × Int)
  deriving DecidableEq, Repr

/-- A group at power-on. -/
def DgGroup.reset : DgGroup := { uncorrectable := [], failedSince := 0, staged := [], delays := [] }

/-- Ports, lanes, time and die-to-die groups. -/
structure Ports where
  ports : List (Nat × Port)
  /-- Lane adaptation: network lanes 0 to 127, fabric lanes 1,000 + n, mate lanes 2,000 + n. -/
  adapt : List (Nat × LaneAdapt)
  groups : List (Nat × DgGroup)
  /-- The IEEE 1588 clock at `clockAt`, in units of 2^-32 ns (R426). -/
  clock : Nat
  clockAt : Nat
  /-- PPS_OUT rose at this time (R429). -/
  ppsRose : Option Nat
  deriving DecidableEq, Repr

end Sys2Proof.Machine
end

