-- ==== Sys2Proof/Machine/Parts/Stats.lean ====
section
/-! DEFINITION. Sys2Proof/Machine/Parts/Stats.lean: the state of counters, statistics, snapshots, the event log and the trace
rings (R500 to R520). V objects live in the object registers. -/

namespace Sys2Proof.Machine

/-- The statistics entry of a queue (R505), its two wrap flags and LOST. -/
structure QueueStats where
  admitted : Nat
  refused : Nat
  ended : Nat
  releasedPackets : Nat
  releasedBytes : Nat
  wrap1 : Bool
  wrap2 : Bool
  lost : Bool
  deriving DecidableEq, Repr

/-- An entry that has counted nothing. -/
def QueueStats.reset : QueueStats :=
  { admitted := 0, refused := 0, ended := 0, releasedPackets := 0, releasedBytes := 0, wrap1 := false, wrap2 := false, lost := false }

/-- The statistics entry of a host channel (R505). -/
structure ChannelStats where
  completed : Nat
  accepted : Nat
  refused : Nat
  delivered : Nat
  bytes : Nat
  wrap1 : Bool
  wrap2 : Bool
  lost : Bool
  deriving DecidableEq, Repr

/-- An entry that has counted nothing. -/
def ChannelStats.reset : ChannelStats :=
  { completed := 0, accepted := 0, refused := 0, delivered := 0, bytes := 0, wrap1 := false, wrap2 := false, lost := false }

/-- An on-die delta of a counter set (R506): packets and bytes not yet folded into the HBM entry. -/
structure Delta where
  packets : Nat
  bytes : Nat
  deriving DecidableEq, Repr

/-- A trace ring (R519): records held, oldest first, and the sequence number of the next. -/
structure Ring where
  recs : List (List Byte)
  next : Nat
  deriving DecidableEq, Repr

/-- An empty ring. -/
def Ring.reset : Ring := { recs := [], next := 0 }

/-- A frozen image of every counter (R509). -/
structure Image where
  objs : List (Nat × Nat)
  sets : List (Nat × List Byte)
  queues : List (Nat × List Byte)
  channels : List (Nat × List Byte)
  /-- Handles live at T: KIND × 2^20 + index, and GEN. -/
  live : List (Nat × Nat)
  deriving DecidableEq, Repr

/-- Counters, statistics and traces. -/
structure Stats where
  /-- Keys of V sub-objects whose WRAPPED bit is set (R501). -/
  wrapped : List (Nat × Bool)
  /-- HBM entries of counter sets, with their wrap flags and LOST in FLAGS form (R505). -/
  sets : List (Nat × CounterSet)
  setFlags : List (Nat × Nat)
  queues : List (Nat × QueueStats)
  channels : List (Nat × ChannelStats)
  /-- On-die deltas (R506). -/
  setDeltas : List (Nat × Delta)
  queueDeltas : List (Nat × QueueStats)
  channelDeltas : List (Nat × ChannelStats)
  /-- When a delta was flushed last, keyed KIND × 2^20 + index. -/
  flushedAt : List (Nat × Nat)
  snapshot : Nat
  ready : Option Image
  building : Option Image
  /-- The rings: 0 packet, 1 steward, 2 latency, 3 event log. -/
  rings : List (Nat × Ring)
  /-- Per-lane TRACE_ID counts: 2 × slice + direction (R514). -/
  traceIds : List (Nat × Nat)
  /-- Latency sample generators, one per TM slice (R517, R576). -/
  latLfsr : List (Nat × Nat)
  deriving DecidableEq, Repr

end Sys2Proof.Machine
end

