-- ==== Sys2Proof/Machine/Parts/Steward.lean ====
section
/-! DEFINITION. Sys2Proof/Machine/Parts/Steward.lean: the state of the steward threads that the device's own rules read and
write (R477 to R499). -/

namespace Sys2Proof.Machine

/-- STATE of a thread (R480). -/
inductive ThreadState where
  | stopped | running | waiting | halted | faulted
  deriving DecidableEq, Repr

/-- A steward thread. Threads are numbered by master ID, 0x00 to 0xBF. -/
structure Thread where
  state : ThreadState
  /-- Master ID of its master; 0xFF for a thread 0. -/
  master : Nat
  pc : Nat
  /-- Machine mode. -/
  machine : Bool
  /-- MIE and MPIE of mstatus, and mtvec. -/
  mie : Bool
  mpie : Bool
  mtvec : Nat
  mcause : Nat
  mepc : Nat
  inHandler : Bool
  /-- Integer registers x1 to x31 that are not zero. -/
  regs : List (Nat × Nat)
  tevent : Nat
  tie : Nat
  /-- TCMP: none is disarmed. -/
  tcmp : Option Nat
  /-- The time at which TWDOG reaches zero, if armed; while halted, the count left. -/
  twdog : Option Nat
  twdogLeft : Option Nat
  /-- The mask and destination register of the TWFE that the thread is in. -/
  waitMask : Option (Nat × Nat)
  faultCause : Nat
  /-- It has given up the rest of its slot (R480 TYIELD). -/
  yielded : Bool
  /-- Punt queue (R488): write position and phase, and the slots whose OWN reads 0. -/
  puntPos : Nat
  puntPhase : Bool
  puntFull : List (Nat × List Byte)
  deriving DecidableEq, Repr

/-- A stopped thread (R483). -/
def Thread.reset : Thread :=
  { state := .stopped, master := 0xFF, pc := 0, machine := true, mie := false, mpie := false, mtvec := 0, mcause := 0, mepc := 0, inHandler := false,
    regs := [], tevent := 0, tie := 0, tcmp := none, twdog := none, twdogLeft := none, waitMask := none, faultCause := 0,
    yielded := false, puntPos := 0, puntPhase := true, puntFull := [] }

/-- A steward core (R478, R486, R516). Cores are numbered 0 to 7 on the FE die and 8 to 15 on the TM die. -/
structure Core where
  /-- All its threads have been STOPPED since this time. -/
  idleSince : Option Nat
  retained : Bool
  /-- The slot table: the hart that owns each of 64 entries, or none for a free entry. -/
  slots : List (Option Nat)
  lfsr : Nat
  deriving DecidableEq, Repr

/-- The non-maskable registers of thread 0 of a die (R481, R494). -/
structure Nmi where
  vec : Nat
  epc : Nat
  active : Bool
  /-- Slack water was raised and no thread of the die has run since. -/
  raised : Bool
  deriving DecidableEq, Repr

/-- The registers after a power-on start. -/
def Nmi.reset : Nmi := { vec := 0, epc := 0, active := false, raised := false }

/-- The stewards. -/
structure Stewards where
  threads : List (Nat × Thread)
  cores : List (Nat × Core)
  fe : Nmi
  tm : Nmi
  /-- An integrator image is in the running bundle (R491), and its entry points by INTEGRATOR_WINDOW entry. -/
  integratorImage : Bool
  integratorEntry : List (Nat × Nat)
  deriving DecidableEq, Repr

end Sys2Proof.Machine
end

