-- ==== Sys2Proof/Machine/Parts/Testing.lean ====
section
/-! DEFINITION. Sys2Proof/Machine/Parts/Testing.lean: the state of pattern tests, self-test, background tests, the TAP and the
health report (R542 to R558). -/

namespace Sys2Proof.Machine

/-- A pattern test (R545, R550), keyed by 256 × TARGET_KIND + TARGET. `state` is STATE of R550. -/
structure PatternTest where
  state : Nat
  params : List Byte
  started : Nat
  ended : Nat
  bits : Nat
  errors : Nat
  injected : Nat
  lockLosses : Nat
  erroredSeconds : Nat
  deriving DecidableEq, Repr

/-- Tests and health. -/
structure Testing where
  tests : List (Nat × PatternTest)
  /-- Scope mask of a BIST in progress; 0 IDLE, 1 RUNNING, 2 DONE; its records. -/
  bistScopes : Nat
  bistState : Nat
  bistDetail : List (List Byte)
  /-- TCAM blocks that a BIST found failing (R552). -/
  badBlocks : List Nat
  /-- A standby's round of background tests has begun and not ended (R384). -/
  selfTesting : Bool
  /-- The instruction loaded into the TAP (R554). -/
  tapLoaded : Nat
  health : List (List Byte)
  healthSeq : Nat
  deriving DecidableEq, Repr

end Sys2Proof.Machine
end

