-- ==== Sys2Proof/Machine/State.lean ====
section
/-! DEFINITION. Sys2Proof/Machine/State.lean: the state of the block, its reasons to stop, and the state after reset. -/

namespace Sys2Proof.Machine

/-- The reasons of a fault. The block has none: every command of the table has an effect or is turned away with a status, a drop
or no change at all, as the spec says. -/
inductive Fault where
  deriving DecidableEq, Repr

/-- The reasons of a refusal. -/
inductive Refusal where
  /-- Raised by Dispatch for a command that has no meaning in the model yet. Safe: the machine stops. -/
  | notModelled (mnemonic : String)
  deriving DecidableEq, Repr

/-- The state of the block. -/
structure State where
  /-- Commands waiting, first in, first out. -/
  pending : List Instr
  /-- Time in ns since the model's start; it never falls (log entry 4). -/
  now : Nat
  /-- Numeric objects that differ from their defaults, keyed by 256 × index + sub-index (R115). -/
  objs : List (Nat × Nat)
  /-- Byte-string objects that differ from their defaults, keyed in the same way. -/
  octs : List (Nat × List Byte)
  /-- GEN of channel indices that differ from 0, keyed by KIND × 2^20 + index (R5). -/
  gens : List (Nat × Nat)
  acc : Serving
  power : Power
  fw : Firmware
  epochs : Epochs
  tables : Tables
  slices : List (Nat × Slice)
  meters : List (Nat × Meter)
  tm : Traffic
  fab : Fabric
  pair : Pair
  hbm : Hbm
  ports : Ports
  host : HostSide
  stewards : Stewards
  stats : Stats
  test : Testing
  /-- The MODEL's own counter: how many free values steps have drawn (log entry 1). -/
  draws : Nat
  /-- What left the package, newest first (log entry 6). -/
  out : List Output
  deriving DecidableEq, Repr

/-- Balls at the levels of R42 while PORESET_N is low; inputs without a pull at their inactive level (log entry 5). -/
def Pins.reset : Pins :=
  { poresetN := false, warmresetN := true, pwrGoodMain := false, pciePerstN := false, trstN := false, pairRole := false,
    pairFaultInN := true, testMode := false, ppsIn := false, modPrsN := BitVec.allOnes 32, modIntN := BitVec.allOnes 32,
    pwrEnMain := false, thermAlertN := true, ppsOut := false, modResetN := 0,
    modLpMode := BitVec.allOnes 32 }

/-- The AVSBus master of a rail at reset. -/
def AvsRail.reset : AvsRail := { writing := none, retries := 0, stopped := false, lastWrite := 0, settled := true }

/-- Tidewatch at reset: DORMANT (R36), nothing started. -/
def Power.reset : Power :=
  { pins := .reset,
    ms := { mode := .dormant, status := .done, target := none, pending := none, drainFrom := .dormant, drainSince := 0,
            dormantSince := 0, afterTrip := false, wakeRefused := false },
    start := .idle, fe := .reset, tm := .reset, twclkLost := false, refclkLost := [], warmSince := none,
    tidewatchUp := false, recovery := false, cages := [], eeprom := none, recordCrc := 0, storeHalf0 := true, storeHalf1 := true }

/-- Flash and fuses as manufactured: no bundle, no boot record, an empty store (log entry 7). -/
def Firmware.reset : Firmware :=
  { slotA := none, slotB := none, boot0 := none, boot1 := none, delivery := none, installing := none, act := .idle, trial := none,
    tidewatchImage := [], runningSlot := 0, store := [], storeOcts := [], floor := 0, revoked := 0, faultLog := [],
    pendingFaults := [], restartDue := false }

/-- Object access with no session, window or batch in use. -/
def Serving.reset : Serving :=
  { jobs := [], nextJob := 0, sessions := [], windows := [], batches := [], partials := [], copies := [], outcomes := [],
    results := [], waiting := [], accepts := [], answers := [], resetDue := 0 }

/-- Versioned objects at their defaults. -/
def Version.reset : Version := { objs := [], octs := [], programId := 0, bank := 0, loaded := false }

/-- CURRENT 0 (R181), nothing staged. -/
def Epochs.reset : Epochs :=
  { current := 0, cur := .reset, old := .reset, queue := [], waitingSince := 0, staged := none, changes := 0, changed := [] }

/-- Empty tables. -/
def Tables.reset : Tables :=
  { regions := [], em := [], lpm := [], ovf := [], fifos := [], iters := [], flush := [], agedOut := [], ruleSets := [], rules := [] }

/-- An empty traffic manager. -/
def Traffic.reset : Traffic :=
  { queues := [], nodes := [], slices := [], groups := [], stored := [], nextStored := 0, macs := [], gateLists := [], watches := [],
    cells := 0, descriptors := 0, spilling := false, nextSeg := 0 }

/-- The fabric interface at power-on. -/
def Fabric.reset : Fabric :=
  { links := [], sent := [], nextSent := 0, groups := [], send := [], bootEra := 0, recv := [], reasm := [], dropping := [],
    grantFree := 0, sentBits := 0, lastMeasure := 0, quads := [], surplusSince := none, grantTurn := [], voqTurn := [] }

/-- A unit that has heard nothing from a mate. -/
def Mate.reset : Mate := { identity := none, role := 0, pairState := 0, flags := 0, lastBeat := 0, heard := false }

/-- A unit alone. -/
def Pair.reset : Pair :=
  { phase := .apart, fenced := false, mateLost := false, lanes := [], bundleNext := 0, bundleExpect := 0, bundleAcked := 0,
    waiting := [], reorder := [], stream := [], mate := .reset, hbSeq := 0, sentIdentity := [], copyAsked := false, copied := [], readySent := false, ticket := 0, mateTicket := 0, mateDrained := 0, stagedTicket := 0,
    staged := [], blocks := [], ordinals := [], entries := [], frames := [], extras := [], positions := [],
    fabricBits := [], copyBits := [], openFabric := [], openCopies := [], ctxs := [], markTurn := 0, digests := [], marks := [], turned := false,
    switching := false, lastSelfTest := 0, lastMark := 0 }

/-- The memory subsystem at power-on. -/
def Hbm.reset : Hbm := { channels := [], stackIds := [], saved := [], savedSerials := [], lastSave := 0, lastScrub := 0 }

/-- Ports at power-on; the IEEE 1588 clock starts at 0 (R426). -/
def Ports.reset : Ports :=
  { ports := [], adapt := [], groups := [], clock := 0, clockAt := 0, ppsRose := none }

/-- The host side at power-on. -/
def HostSide.reset : HostSide :=
  { channels := [], doorbells := [], mailboxes := [], locks := [], linkUp := false, msixTable := [], msixPending := [],
    injectTurn := [], reads := [] }

/-- The stewards at power-on: every thread STOPPED (R483). -/
def Stewards.reset : Stewards :=
  { threads := [], cores := [], fe := .reset, tm := .reset, integratorImage := false, integratorEntry := [] }

/-- Counters at power-on. -/
def Stats.reset : Stats :=
  { wrapped := [], sets := [], setFlags := [], queues := [], channels := [], setDeltas := [], queueDeltas := [],
    channelDeltas := [], flushedAt := [], snapshot := 0, ready := none,
    building := none, rings := [], traceIds := [], latLfsr := [] }

/-- Tests and health at power-on; the TAP holds IDCODE, as IEEE 1149.1 resets it (log entry 8). -/
def Testing.reset : Testing :=
  { tests := [], bistScopes := 0, bistState := 0, bistDetail := [], badBlocks := [], selfTesting := false, tapLoaded := 0x01,
    health := [], healthSeq := 0 }

/-- The block right after reset: PORESET_N low, DORMANT, every object at its default, PD000 ON, nothing stored or queued (R36, R42, R57,
R89, R122). -/
def State.reset : State :=
  { pending := [], now := 0, objs := [(0x210100, 2)], octs := [], gens := [], acc := .reset, power := .reset, fw := .reset, epochs := .reset,
    tables := .reset, slices := [], meters := [], tm := .reset, fab := .reset, pair := .reset, hbm := .reset, ports := .reset,
    host := .reset, stewards := .reset, stats := .reset, test := .reset, draws := 0, out := [] }

end Sys2Proof.Machine
end

