-- ==== Sys2Proof/Machine/Ops.lean ====
section
/-! DEFINITION. Sys2Proof/Machine/Ops.lean: the named operations that the meanings share: registers, counters, time, outputs,
handles, doorbells, events and the health report. -/

namespace Sys2Proof.Machine

/-- The key of an object; a sub-index is a byte (R115). -/
def okey (i j : Nat) : Nat := 256 * i + j % 256

/-- The value of a numeric object (R116, R122). -/
def State.reg (s : State) (i j : Nat) : Nat := mgetD (dictDefault i j) s.objs (okey i j)

/-- A numeric object set. -/
def State.setReg (s : State) (i j v : Nat) : State := { s with objs := mset (dictDefault i j) s.objs (okey i j) v }

/-- The value of a byte-string object. -/
def State.oct (s : State) (i j : Nat) : List Byte := mgetD (dictDefaultBytes i j) s.octs (okey i j)

/-- A byte-string object set. -/
def State.setOct (s : State) (i j : Nat) (v : List Byte) : State :=
  { s with octs := mset (dictDefaultBytes i j) s.octs (okey i j) v }

/-- The range of an object's counter: 2^32, or 2^64 for a U64 (R121, R500). -/
def counterSpan (i j : Nat) : Nat :=
  match (dictRow i j).map ObjDef.ty with
  | some .u64 => 2 ^ 64
  | some .u16 => 2 ^ 16
  | some .u8 => 2 ^ 8
  | _ => 2 ^ 32

/-- A V object counts n occurrences; it wraps at its width and keeps a sticky WRAPPED bit (R121, R501). -/
def State.count (s : State) (i j n : Nat) : State :=
  let v := s.reg i j + n
  let s1 := s.setReg i j (v % counterSpan i j)
  if v < counterSpan i j then s1
  else { s1 with stats := { s1.stats with wrapped := mput s1.stats.wrapped (okey i j) true } }

/-- A V object counts one occurrence. -/
def State.bump (s : State) (i j : Nat) : State := s.count i j 1

/-- A numeric object that is no counter rises by one, within its width. -/
def State.incReg (s : State) (i j : Nat) : State := s.setReg i j ((s.reg i j + 1) % counterSpan i j)

/-- Time reaches a moment; it never falls (log entry 4). -/
def State.reach (s : State) (t : Nat) : State := { s with now := max s.now t }

/-- Something leaves the package (log entry 6). -/
def State.emit (s : State) (o : Output) : State := { s with out := o :: s.out }

/-- A free value drawn (log entry 1). -/
def State.draw (s : State) : Nat × State := (Config.freeValue s.draws, { s with draws := s.draws + 1 })

/-- Free bytes drawn (log entry 1). -/
def State.drawBytes (s : State) (n : Nat) : List Byte × State :=
  (slice (Config.freeBytes s.draws n) 0 n, { s with draws := s.draws + 1 })

/-- 0x2000:01 MODE. -/
def State.mode (s : State) : Mode := s.power.ms.mode

/-- The IEEE 1588 clock in units of 2^-32 ns (R426): paced with the correction of PTP_FREQ_PPT, stopped in DORMANT. -/
def State.clockFine (s : State) : Nat :=
  if s.mode = .dormant then s.ports.clock
  else
    let dt := s.now - s.ports.clockAt
    let ppt := toSigned 32 (s.reg 0x3100 3)
    ((s.ports.clock : Int) + (dt : Int) * 2 ^ 32 + (dt : Int) * ppt * 2 ^ 32 / 1000000000000).toNat

/-- The IEEE 1588 time as a TIME64 (R116, R426). -/
def State.ptp (s : State) : Nat := s.clockFine / 2 ^ 32 % 2 ^ 64

/-- The clock set to a fine value from now on. -/
def State.setClock (s : State) (v : Nat) : State := { s with ports := { s.ports with clock := v, clockAt := s.now } }

/-! ### Handles (R5 to R9) -/

/-- KIND of a handle. -/
def handleKind (h : Nat) : Nat := fld h 31 28
/-- GEN of a handle. -/
def handleGen (h : Nat) : Nat := fld h 27 20
/-- INDEX of a handle. -/
def handleIndex (h : Nat) : Nat := fld h 19 0
/-- The key of a channel index in the stores of generations and deltas. -/
def chanKey (kind idx : Nat) : Nat := kind * 2 ^ 20 + idx

/-- GEN of an index (R5). -/
def State.gen (s : State) (kind idx : Nat) : Nat := mgetD 0 s.gens (chanKey kind idx)

/-- The handle that names an index now. -/
def State.handle (s : State) (kind idx : Nat) : Nat := kind * 2 ^ 28 + s.gen kind idx * 2 ^ 20 + idx

/-- The generation of an index goes up, as every destroy makes it (R5, R129). -/
def State.nextGen (s : State) (kind idx : Nat) : State :=
  { s with gens := mset 0 s.gens (chanKey kind idx) ((s.gen kind idx + 1) % 256) }

/-- The number of channels of a kind: queue 524,288 (R287), host channel 4,096 (R447), meter 1,048,576 (R311), counter set
1,048,576 (R503), scheduler node 131,072 (R300), rule set 256 (R248), table region 64 (R209). -/
def kindCapacity : Nat → Nat
  | 1 => 524288 | 2 => 4096 | 3 => 1048576 | 4 => 1048576 | 5 => 131072 | 6 => 256 | 7 => 64 | _ => 0

/-- Whether a channel of this kind and index exists. -/
def State.live (s : State) (kind idx : Nat) : Bool :=
  match kind with
  | 1 => (mget s.tm.queues idx).isSome
  | 2 => (mget s.host.channels idx).isSome
  | 3 => (mget s.meters idx).isSome
  | 4 => (mget s.stats.sets idx).isSome
  | 5 => (mget s.tm.nodes idx).isSome
  | 6 => (mget s.tables.ruleSets idx).isSome
  | 7 => (mget s.tables.regions idx).isSome
  | _ => false

/-- The handle checks of R7 for the kind that an object expects. -/
def State.checkHandle (s : State) (kind h : Nat) : Status :=
  if handleKind h ≠ kind then .typeMismatch
  else if kindCapacity kind ≤ handleIndex h then .range
  else if !s.live kind (handleIndex h) || decide (handleGen h ≠ s.gen kind (handleIndex h)) then .staleHandle
  else .ok

/-- The handle checks of R7 where any reserved KIND fails and any defined one is allowed (R129). -/
def State.checkAnyHandle (s : State) (h : Nat) : Status :=
  if handleKind h = 0 ∨ 8 ≤ handleKind h then .typeMismatch else s.checkHandle (handleKind h) h

/-! ### Trace rings and the event log (R512, R519) -/

/-- Records that a ring holds (R504, R512). -/
def ringCap : Nat → Nat
  | 0 => 2097152 | 1 => 1048576 | 2 => 524288 | _ => 1024

/-- A ring's state. -/
def State.ring (s : State) (k : Nat) : Ring := mgetD .reset s.stats.rings k

/-- A record enters a ring: WRAP overwrites the oldest when full, STOP drops the record and counts it (R519). The counter is
STEWARD_TRACE_DROPS for the steward ring, TRACE_DROPS for the others. -/
def State.pushRing (s : State) (k : Nat) (rec : List Byte) : State :=
  let r := s.ring k
  if ringCap k ≤ r.recs.length ∧ s.reg 0xC800 4 = 1 then
    if k = 1 then s.bump 0xC801 3 else s.bump 0xC800 5
  else
    let recs := (if ringCap k ≤ r.recs.length then r.recs.drop 1 else r.recs) ++ [rec]
    { s with stats := { s.stats with rings := mput s.stats.rings k { recs := recs, next := (r.next + 1) % 2 ^ 64 } } }

/-! ### Steward threads: pending events (R482) -/

/-- A thread by master ID. -/
def State.thread (s : State) (t : Nat) : Thread := mgetD .reset s.stewards.threads t

/-- A thread replaced. -/
def State.setThread (s : State) (t : Nat) (x : Thread) : State :=
  { s with stewards := { s.stewards with threads := mput s.stewards.threads t x } }

/-- Event bits of a thread become pending (R482); a bit already pending stays pending. -/
def State.signalThread (s : State) (t bits : Nat) : State :=
  if t < 192 then let x := s.thread t; s.setThread t { x with tevent := x.tevent ||| bits } else s

/-! ### Doorbell sets (R466, R467) -/

/-- An MSI-X vector is raised: it goes out unless its table entry masks it, where it becomes pending (R443, R465; masked after
reset as PCI Express resets the table, log entry 11). -/
def State.raiseVector (s : State) (v : Nat) : State :=
  if 2048 ≤ v then s
  else match mget s.host.msixTable v with
    | some e =>
      if bitAt (byteAt e 12) 0 then { s with host := { s.host with msixPending := v :: s.host.msixPending.filter (· ≠ v) } }
      else s.emit (.msix v)
    | none => { s with host := { s.host with msixPending := v :: s.host.msixPending.filter (· ≠ v) } }

/-- A doorbell set. -/
def State.doorbell (s : State) (k : Nat) : DoorbellSet := mgetD .reset s.host.doorbells k

/-- A doorbell set signals to its DOORBELL_DEST (R467). -/
def State.signalSet (s : State) (k : Nat) : State :=
  let d := s.reg 0xA901 k
  match fld d 31 30 with
  | 1 => s.raiseVector (fld d 10 0)
  | 2 => if fld d 10 0 < 128 then s.signalThread (fld d 10 0) 2 else s
  | 3 => if fld d 10 0 < 64 then s.signalThread (128 + fld d 10 0) 2 else s
  | _ => s

/-- Doorbell set k stored. -/
def State.setDoorbell (s : State) (k : Nat) (d : DoorbellSet) : State :=
  { s with host := { s.host with doorbells := mput s.host.doorbells k d } }

/-- Bits of a doorbell set become set; the set signals when its unmasked value leaves zero (R467). -/
def State.ringSet (s : State) (k bits : Nat) : State :=
  if 64 ≤ k then s
  else
    let d := s.doorbell k
    let d' := { d with status := d.status ||| bits }
    let s1 := s.setDoorbell k d'
    if d.status &&& (d.mask ^^^ 0xFFFFFFFF) = 0 ∧ d'.status &&& (d.mask ^^^ 0xFFFFFFFF) ≠ 0 then s1.signalSet k else s1

/-- Event e sets bit e of every set that EVENT_ROUTE names (R466). -/
def State.routeEvent (s : State) (e : Nat) : State :=
  let route := beNat (s.oct 0xA902 e)
  (List.range 64).foldl (fun s k => if bitAt route k then s.ringSet k (2 ^ e) else s) s

/-- An event is raised: counted, timed, detailed, logged except in DORMANT, and routed (R511, R512). MB_STALEMATE is routed by its
own rule (R466). -/
def State.raiseEvent (s : State) (e d0 d1 : Nat) : State :=
  let detail := natBe d0 4 ++ natBe d1 4
  let s1 := ((s.bump 0xC020 e).setReg 0xC021 e s.ptp).setOct 0xC022 e detail
  let s2 := if s.mode = .dormant then s1
    else s1.pushRing 3 (natBe s.ptp 8 ++ natBe e 1 ++ [0, 0, 0] ++ detail ++ List.replicate 12 0)
  if e = 3 then s2 else s2.routeEvent e

/-! ### The health report (R555, R556) -/

/-- The flash is powered from a main rail: it can be written in every mode but DORMANT (R53, R556). -/
def State.flashPowered (s : State) : Bool := s.mode != .dormant

/-- The health log and its next sequence number. -/
def State.setHealth (s : State) (log : List (List Byte)) (seq : Nat) : State :=
  { s with test := { s.test with health := log, healthSeq := seq } }

/-- A record enters the health log, which keeps the newest 512 (R556). -/
def State.logHealth (s : State) (rec : List Byte) : State :=
  let log := s.test.health ++ [rec]
  s.setHealth (log.drop (log.length - 512)) ((s.test.healthSeq + 1) % 2 ^ 32)

/-- The fault log in flash, and the records that wait for the flash. -/
def State.setFaults (s : State) (log waiting : List (List Byte)) : State :=
  { s with fw := { s.fw with faultLog := log, pendingFaults := waiting } }

/-- A record goes to the fault log in flash, or is kept in PD000 until the flash can be written (R556). -/
def State.logFault (s : State) (rec : List Byte) : State :=
  if s.flashPowered then
    let fl := s.fw.faultLog ++ [rec]
    s.setFaults (fl.drop (fl.length - 32768)) s.fw.pendingFaults
  else s.setFaults s.fw.faultLog (s.fw.pendingFaults ++ [rec])

/-- A record enters the health report; an area keeps its worst severity; a FAILED record also goes to the fault log (R556). -/
def State.health (s : State) (area severity code : Nat) (detail : List Byte) : State :=
  let t := if s.mode = .dormant then 0 else s.ptp
  let rec_ := natBe t 8 ++ natBe s.test.healthSeq 4 ++ natBe area 1 ++ natBe severity 1 ++ natBe code 2 ++ slice detail 0 16
  let s1 := s.logHealth rec_
  let s2 := if severity = 2 then s1.logFault rec_ else s1
  let s3 := s2.setReg 0xD041 area (max (s2.reg 0xD041 area) severity)
  if severity = 0 then s3
  else (s3.setReg 0xD040 1 (s3.reg 0xD040 1 ||| 2 ^ area)).setReg 0xD040 2 (max (s3.reg 0xD040 2) severity)

/-- A record whose severity the manual does not state: a free value (log entry 1). -/
def State.healthFree (s : State) (area code : Nat) (detail : List Byte) : State :=
  let (d, s1) := s.draw
  s1.health area (d % 3) code detail

/-! ### Answers, outcomes and results -/

/-- The answer to an operation that no request carried (log entry 6). -/
def State.answer (s : State) (o : Origin) (a : OpAns) : State :=
  { s with acc := { s.acc with answers := { origin := o, ans := a } :: s.acc.answers } }

/-- The outcome of the last write of a CMD object, or CREATE of a create object, by this requester (R118, R574). -/
def State.noteOutcome (s : State) (o : Origin) (i j : Nat) (st : Status) : State :=
  let rest := s.acc.outcomes.filter fun c => !(decide (c.origin = o) && decide (c.index = i) && decide (c.sub = j))
  { s with acc := { s.acc with outcomes := { origin := o, index := i, sub := j, status := st } :: rest } }

/-- The outcome of R118: OK when there has been none. -/
def State.outcomeOf (s : State) (o : Origin) (i j : Nat) : Status :=
  match s.acc.outcomes.find? (fun c => decide (c.origin = o) && decide (c.index = i) && decide (c.sub = j)) with
  | some c => c.status
  | none => .ok

/-- A result object that this session or window has for itself (R239). -/
def State.setResult (s : State) (o : Origin) (i j : Nat) (bs : List Byte) : State :=
  let rest := s.acc.results.filter fun c => !(decide (c.origin = o) && decide (c.index = i) && decide (c.sub = j))
  { s with acc := { s.acc with results := { origin := o, index := i, sub := j, bytes := bs } :: rest } }

/-- The value of a result object of this requester; empty before the first query. -/
def State.resultOf (s : State) (o : Origin) (i j : Nat) : List Byte :=
  match s.acc.results.find? (fun c => decide (c.origin = o) && decide (c.index = i) && decide (c.sub = j)) with
  | some c => c.bytes
  | none => []

end Sys2Proof.Machine
end

