-- ==== Sys2Proof/Machine/MateLink.lean ====
section
/-! DEFINITION. Sys2Proof/Machine/MateLink.lean: sending on the mate link: cells, lanes, credits and the ordered record stream
(R355 to R359). -/

namespace Sys2Proof.Machine

/-- A mate lane. -/
def State.lane (s : State) (k : Nat) : MateLane := mgetD .reset s.pair.lanes k

/-- A mate lane replaced. -/
def State.setLane (s : State) (k : Nat) (l : MateLane) : State :=
  { s with pair := { s.pair with lanes := mput s.pair.lanes k l } }

/-- MATE_LANE_STATE reads UP (R329, R393). -/
def State.laneUp (s : State) (k : Nat) : Bool := decide (s.reg 0x3600 k = 3)

/-- The lanes that are UP. -/
def State.lanesUp (s : State) : List Nat := (List.range 8).filter s.laneUp

/-- The mate link is up while a lane is UP (R361). -/
def State.mateLinkUp (s : State) : Bool := !s.lanesUp.isEmpty

/-- A whole mate cell (R356): the 20-byte header, the payload, and zeros to the next 32-byte boundary. -/
def mateCell (kind lane bundle bundleAck seq ackSeq credits : Nat) (nak : Bool) (payload : List Byte) : List Byte :=
  let hi := natBe (kind * 2 ^ 14 + lane * 2 ^ 11 + payload.length * 2 ^ 2) 2
    ++ natBe bundle 4 ++ natBe bundleAck 4 ++ natBe seq 2 ++ natBe ackSeq 2
    ++ natBe ((if nak then 2 ^ 15 else 0) + credits * 2 ^ 8) 2
  let cell := hi ++ natBe (crc32cStd (hi ++ payload)) 4 ++ payload
  cell ++ List.replicate ((32 - cell.length % 32) % 32) 0

/-- Highest BUNDLE_SEQ received without a gap (R356). -/
def State.bundleAck (s : State) : Nat := (s.pair.bundleExpect + 2 ^ 32 - 1) % 2 ^ 32

/-- A cell of a lane goes out with the lane's latest acknowledgement and credits (R328, R357). -/
def State.sendMate (s : State) (k kind bundle seq : Nat) (nak : Bool) (payload : List Byte) : State :=
  let l := s.lane k
  let c := min 127 l.owed
  (s.setLane k { l with owed := l.owed - c }).emit
    (.mate k (mateCell kind k bundle s.bundleAck seq ((l.rxExpect + 65535) % 65536) c nak payload))

/-- One RECORDS cell leaves on a lane that holds a credit: cells to resend first, then cells that no lane has taken (R357). -/
def State.sendNextRecord (s : State) (k : Nat) : State :=
  let l := s.lane k
  if l.credits = 0 ∨ !s.laneUp k then s else
  match l.resend, s.pair.waiting with
  | c :: rest, _ =>
    (s.setLane k { l with resend := rest, credits := l.credits - 1, unacked := l.unacked ++ [c] }).sendMate k 1 c.bundle
      (c.seq.getD 0) false c.payload
  | [], c :: rest =>
    let c' := { c with seq := some l.txNext }
    let l' := { l with credits := l.credits - 1, txNext := (l.txNext + 1) % 65536, unacked := l.unacked ++ [c'],
                       lastAdvance := if l.unacked.isEmpty then s.now else l.lastAdvance }
    (({ s with pair := { s.pair with waiting := rest } }).setLane k l').sendMate k 1 c.bundle l.txNext false c.payload
  | [], [] => s

/-- Every cell that lanes and credits allow leaves (log entry 31: the lowest lane that can take a cell takes it). -/
def State.pumpMate (s : State) : State :=
  (List.range 8).foldl (fun s k =>
    (List.range ((s.lane k).resend.length + s.pair.waiting.length)).foldl (fun s _ => s.sendNextRecord k) s) s

/-- The payloads that carry a record: at most 492 bytes each (R356). -/
def chunks : Nat → List Byte → List (List Byte)
  | 0, _ => []
  | fuel + 1, bs => if bs = [] then [] else bs.take 492 :: chunks fuel (bs.drop 492)

/-- A record enters the ordered stream (R358, R359): it is cut into cells, which leave as lanes and credits allow. The result
carries the BUNDLE_SEQ of the cell with the record's last byte (R373). Each record starts a cell of its own; the rest of its
last cell is PAD (log entry 31). -/
def State.sendRecord (s : State) (rec : List Byte) : State × Nat :=
  let cs := chunks (rec.length + 1) rec
  let s1 := cs.foldl (fun s p =>
    { s with pair := { s.pair with
        bundleNext := (s.pair.bundleNext + 1) % 2 ^ 32
        waiting := s.pair.waiting ++ [{ bundle := s.pair.bundleNext, payload := p, seq := none }] } }) s
  (s1.pumpMate, (s1.pair.bundleNext + 2 ^ 32 - 1) % 2 ^ 32)

/-- A typed record: TYPE, LENGTH, body (R359). -/
def typedRecord (ty : Nat) (body : List Byte) : List Byte := natBe ty 1 ++ natBe (body.length + 3) 2 ++ body

/-- An operation in the layout of R140. -/
def opBytes (opcode flags i j ty : Nat) (data : List Byte) : List Byte :=
  natBe opcode 1 ++ natBe flags 1 ++ natBe i 2 ++ natBe j 1 ++ natBe ty 1 ++ natBe data.length 2 ++ data

/-- An OBJECT record with a new TICKET (R359, R368). -/
def State.sendObject (s : State) (ops : List Byte) : State × Nat :=
  let t := (s.pair.ticket + 1) % 2 ^ 32
  let (s1, _) := ({ s with pair := { s.pair with ticket := t } }).sendRecord (typedRecord 0x43 (natBe t 4 ++ ops))
  (s1, t)

end Sys2Proof.Machine
end

