-- ==== Sys2Proof/Machine/Flags.lean ====
section
/-! DEFINITION. Sys2Proof/Machine/Flags.lean: the values that the device computes from its state when they are read: the pair's
role, state and cause (R351, R353, R575), in-flight counts (R176), and the status registers of the host side (R148, R452, R471,
R474). -/

namespace Sys2Proof.Machine

/-! ### The pair -/

/-- PAIR_ENABLE. -/
def State.pairEnabled (s : State) : Bool := decide (s.reg 0x9000 1 = 1)
/-- PAIR_INTENT STANDBY. -/
def State.intentStandby (s : State) : Bool := decide (s.reg 0x9000 2 = 1)

/-- DRAIN entered from SHADOW (R351). -/
def State.drainFromShadow (s : State) : Bool := decide (s.mode = .drain) && decide (s.power.ms.drainFrom = .shadow)

/-- PAIR_ROLE_STATE (R351). -/
def State.role (s : State) : Nat :=
  if !s.pairEnabled then 0
  else match s.mode with
    | .dormant | .bringup | .diagnostic => 0
    | .catchup | .shadow => 2
    | .proportional | .spring => if s.pair.fenced then 3 else 1
    | .drain => if s.drainFromShadow then 2 else if s.pair.fenced then 3 else 1

/-- The fields of an IDENTITY body (R361): bundle version, WINDOW_BACK, WINDOW_FORWARD, position, intent and role. -/
def identVersion (b : List Byte) : Nat := beAt b 36 4
/-- WINDOW_BACK of an IDENTITY body. -/
def identBack (b : List Byte) : Nat := byteAt b 40
/-- WINDOW_FORWARD of an IDENTITY body. -/
def identForward (b : List Byte) : Nat := byteAt b 41
/-- POSITION of an IDENTITY body. -/
def identPosition (b : List Byte) : Nat := byteAt b 1
/-- PAIR_INTENT of an IDENTITY body. -/
def identIntent (b : List Byte) : Nat := byteAt b 2
/-- ROLE of an IDENTITY body. -/
def identRole (b : List Byte) : Nat := byteAt b 3

/-- Whether one bundle lies within the window of the other (R361). -/
def withinWindow (own other back fwd : Nat) : Bool :=
  decide (own / 65536 = other / 65536)
    && decide (own % 65536 ≤ other % 65536 + back) && decide (other % 65536 ≤ own % 65536 + fwd)

/-- Two IDENTITY bodies name bundles within each other's windows (R361). -/
def compatible (a b : List Byte) : Bool :=
  withinWindow (identVersion a) (identVersion b) (identBack a) (identForward a)
    && withinWindow (identVersion b) (identVersion a) (identBack b) (identForward b)

/-- The running bundle's descriptor field, read from the slot that runs (R523). The descriptor is the section of TYPE 0x01. -/
def bundleSection (bs : List Byte) (ty : Nat) : Option (List Byte) :=
  (List.range (byteAt bs 5)).findSome? fun k =>
    let e := slice bs (32 + 16 * k) 16
    if byteAt e 0 = ty then some (slice bs (beAt e 4 4) (beAt e 8 4)) else none

/-- The bundle in the slot that runs. -/
def State.runningBundle (s : State) : List Byte :=
  match (if s.fw.runningSlot = 0 then s.fw.slotA else s.fw.slotB) with
  | some b => b.bytes
  | none => []

/-- The DESCRIPTOR of the running bundle. -/
def State.descriptor (s : State) : List Byte := (bundleSection s.runningBundle 0x01).getD []

/-- The unit's own IDENTITY body (R361). -/
def State.identity (s : State) : List Byte :=
  let d := s.descriptor
  natBe 1 1 ++ natBe (if s.power.pins.pairRole then 1 else 0) 1 ++ natBe (s.reg 0x9000 2) 1 ++ natBe s.role 1
    ++ slice Config.feDieId 0 16 ++ slice Config.tmDieId 0 16 ++ slice d 0 4 ++ slice d 6 2 ++ slice d 4 2
    ++ natBe (s.reg 0x8000 1) 2 ++ [0, 0] ++ slice (s.power.eeprom.getD []) 8 24

/-- Two VOQs share FABRIC_DEST and CLASS (R286, R354). -/
def State.voqsShare (s : State) : Bool :=
  let voqs := s.tm.queues.filterMap fun (_, q) =>
    if byteAt q.params 0 = 0 then some (beAt q.params 4 2 * 8 + byteAt q.params 3 % 8) else none
  !(decide voqs.Nodup)

/-- REFUSE_CAUSE (R353, R575): the first condition that fails. -/
def State.refuseCause (s : State) : Nat :=
  if !s.pairEnabled then 0
  else match (if s.mateLinkUp then s.pair.mate.identity else none) with
    | none => 1
    | some m =>
      if !compatible s.identity m then 2
      else if (identPosition m = 1) = s.power.pins.pairRole then 3
      else if s.role = 1 ∧ identRole m = 1 then 4
      else if s.role ≠ 1 ∧ (!s.intentStandby ∨ identRole m ≠ 1) then 5
      else if s.role = 1 ∧ s.voqsShare then 6
      else 0

/-- PAIR_STATE (R575). -/
def State.pairState (s : State) : Nat :=
  if s.pair.fenced then 7
  else if !s.pairEnabled then 0
  else if s.pair.mateLost then 6
  else match s.pair.phase with
    | .copying => 3
    | .trial => 4
    | .inStep => 5
    | .apart =>
      match (if s.mateLinkUp then s.pair.mate.identity else none) with
      | some m => if compatible s.identity m then 1 else 2
      | none => 1

/-- The active of a pair in TRIAL or IN_STEP (R363, R368). -/
def State.activeInPair (s : State) : Bool :=
  decide (s.role = 1) && (decide (s.pair.phase = .trial) || decide (s.pair.phase = .inStep))

/-- The active with its mate in SHADOW (R137). -/
def State.mateInShadow (s : State) : Bool := decide (s.role = 1) && decide (s.pair.phase = .inStep)

/-- The unit is a standby that judges by the stream (R272, R366). -/
def State.standby (s : State) : Bool := decide (s.mode = .shadow) || s.drainFromShadow

/-- PAIR_FAULT_OUT_N (R379). -/
def State.faultOutHigh (s : State) : Bool :=
  decide (s.role = 1) || (decide (s.mode = .shadow) && decide (s.pair.phase = .inStep))

/-! ### The TAP (R554) -/

/-- The instruction that acts in the TAP: one for PORESET_N low only acts as BYPASS while PORESET_N is high, DEBUG acts in every mode
but DORMANT, and a value of no instruction is BYPASS (R554). -/
def State.tapInForce (s : State) : Nat :=
  match s.test.tapLoaded with
  | 0x01 => 0x01
  | 0x02 => 0x02
  | 0x20 => if s.mode = .dormant then 0xFF else 0x20
  | n => if 3 ≤ n ∧ n ≤ 7 ∧ s.power.pins.poresetN = false then n else 0xFF

/-- JTAG_IDCODE (R554). -/
def jtagIdcode : Nat := Config.steppingCode % 16 * 2 ^ 28 + 0x8256 * 2 ^ 12 + Config.jtagManufacturer % 2048 * 2 + 1

/-! ### Status registers of the host side -/

/-- RING_STATUS (R452). -/
def HostChannel.status (c : HostChannel) : Nat :=
  let idle := c.fetched.isEmpty && c.started.isEmpty && c.staged.isEmpty
  (if c.ring = .enabled then 2 ^ 31 else 0) + (if idle then 2 ^ 30 else 0) + (if c.staged.isEmpty then 0 else 2 ^ 29)
    + (if c.ring = .disabling then 2 ^ 28 else 0) + c.fetchPos % 65536

/-- A channel with no descriptor fetched, started or staged (R452). -/
def HostChannel.idle (c : HostChannel) : Bool := c.fetched.isEmpty && c.started.isEmpty && c.staged.isEmpty

/-- MB_STATUS (R471). -/
def MbDir.status (d : MbDir) : Nat :=
  let free := 256 - d.words.length - d.partialWords.length
  (if d.claim.isSome then 2 ^ 31 else 0) + (if d.rejected then 2 ^ 30 else 0) + (if d.underrun then 2 ^ 29 else 0)
    + free * 2 ^ 18 + d.words.length * 2 ^ 9 + d.claim.getD 0

/-- LOCK_OWNER (R474, R476): [8] HELD, [7:0] OWNER. -/
def State.lockOwner (s : State) (l : Nat) : Nat :=
  match mget s.host.locks l with
  | some m => 256 + m
  | none => 0

/-- WIN_STATUS (R148). -/
def Window.status (w : Window) : Nat :=
  w.result.code * 256 + (if w.overrun then 4 else 0) + (if w.done then 2 else 0) + (if w.busy then 1 else 0)

/-! ### Packets in flight (R176) -/

/-- Packets of an epoch in the lanes and recirculation paths. -/
def State.inflight (s : State) (e : Nat) : Nat :=
  (s.slices.map fun (_, x) =>
    ((x.ingress ++ x.egress ++ x.held).filter (fun p => decide (p.epoch = e))).length
      + (x.recirc.filter (fun p => decide (beAt p.record 0 2 = e))).length).foldl (· + ·) 0

end Sys2Proof.Machine
end

