-- ==== Sys2Proof/Machine/Operands.lean ====
section
/-! DEFINITION. Sys2Proof/Machine/Operands.lean: the operands of object writes and reads: roles, the checks of R152, the values
of R116, and the ends of a write that a row of the table carries (R115 to R122, R130, R137, R151, R152, R574). -/

namespace Sys2Proof.Machine

/-- The integrator threads: FE threads 96 to 127 and TM threads 48 to 63 (R491). -/
def integratorThread (t : Nat) : Bool := decide (96 ≤ t ∧ t < 128) || decide (176 ≤ t ∧ t < 192)

/-- The role of a requester (R119, R491). -/
def State.roleOf (s : State) : Origin → Nat
  | .session k => match mget s.acc.sessions k with
    | some x => s.reg 0x1042 x.slot
    | none => 0
  | .window w => s.reg 0x1043 w
  | .steward t => if integratorThread t then s.reg 0xB030 2 else 3

/-- Objects whose writes R119 keeps for ADMIN besides RWB objects. -/
def adminOnly (i j : Nat) : Bool :=
  decide (0xE000 ≤ i ∧ i ≤ 0xEFFF) || decide (i = 0x1010 ∧ j = 1) || decide (0x1040 ≤ i ∧ i ≤ 0x1043)

/-- Whether a role may write an object (R119). OPERATOR may also write WO objects that ADMIN does not keep (log entry 12). -/
def mayWrite (role : Nat) (d : ObjDef) (i j : Nat) : Bool :=
  decide (role = 3) || (decide (role = 2) && decide (d.access ≠ .rwb) && !adminOnly i j)

/-- The epoch-versioned objects (R130, R174, R245, R268). -/
def versioned (i j : Nat) : Bool :=
  decide (0x4010 ≤ i ∧ i ≤ 0x4012) || decide (0x4020 ≤ i ∧ i ≤ 0x4022) || decide (i = 0x4030) || decide (i = 0x4040)
    || decide (0x4100 ≤ i ∧ i ≤ 0x410B) || decide (i = 0x4110) || decide (i = 0x4202 ∧ j = 1)
    || decide (0x4400 ≤ i ∧ i ≤ 0x44FF) || decide (i = 0x5005) || decide (i = 0x5404) || decide (i = 0x5C10)
    || decide (i = 0x6010) || decide (0x6400 ≤ i ∧ i ≤ 0x64FF ∧ i ≠ 0x6401)

/-- Objects that set the state of a channel: pair-coherent whether or not a table shows M (R137): QUEUE_SET, MCAST_SET, SCHED_SET,
METER_SET, CHANNEL_SET and RING_ENABLE. -/
def channelSet (i j : Nat) : Bool :=
  decide (i = 0x7402 ∧ j = 1) || decide (i = 0x7601 ∧ j = 1) || decide (i = 0x7802 ∧ j = 1) || decide (i = 0x7C02 ∧ j = 1)
    || decide (i = 0xA010 ∧ (j = 1 ∨ j = 3))

/-- Pair-coherent objects (R137). -/
def coherent (i j : Nat) : Bool := (dictRow i j).any (·.m) || versioned i j || channelSet i j

/-- The index ranges served in DORMANT (R71). -/
def dormantServed (i : Nat) : Bool :=
  decide (0x1000 ≤ i ∧ i < 0x1200) || decide (0x2000 ≤ i ∧ i < 0x2400)

/-- The objects that the recovery service serves (R101, R541). -/
def recoveryServed (i j : Nat) : Bool :=
  decide (0x1000 ≤ i ∧ i < 0x1100) || decide (i = 0xE010 ∧ 1 ≤ j ∧ j ≤ 4) || decide (i = 0xE020 ∧ j = 1)

/-- Check 5 of R152: the mode or service forbids the operation (R71, R117, R137, R551). -/
def State.modeForbids (s : State) (i j : Nat) (write : Bool) : Bool :=
  (decide (s.mode = .dormant) && !dormantServed i && !(s.power.recovery && recoveryServed i j))
    || (s.power.recovery && !recoveryServed i j)
    || (write && (dictRow i j).any (fun d => decide (d.access = .rwb))
          && !(decide (s.mode = .bringup) || decide (s.mode = .diagnostic)))
    || (write && decide (i = 0xD020) && decide (s.mode ≠ .diagnostic))
    || (write && coherent i j && (decide (s.mode = .catchup) || decide (s.mode = .shadow)))

/-- A value in the canonical form of the model: numbers most significant byte first; byte strings as they are. -/
def canonical (be : Bool) (ty : ObjType) (v : List Byte) : List Byte :=
  match ty with
  | .octets | .text | .blob => v
  | _ => if be then v else v.reverse

/-- A value in the byte order of a path: the same turn of a number's bytes. -/
def wireValue (be : Bool) (ty : ObjType) (v : List Byte) : List Byte := canonical be ty v

/-- Whether bytes are well-formed UTF-8, as TEXT must be (R116). -/
def utf8Ok : Nat → List Byte → Bool
  | 0, bs => bs.isEmpty
  | _ + 1, [] => true
  | fuel + 1, b :: bs =>
    let n := b.toNat
    let cont (k : Nat) : Bool := decide (k ≤ bs.length) && (bs.take k).all (fun c => decide (0x80 ≤ c.toNat ∧ c.toNat < 0xC0))
    let c0 := byteAt bs 0
    if n < 0x80 then utf8Ok fuel bs
    else if 0xC2 ≤ n ∧ n < 0xE0 then cont 1 && utf8Ok fuel (bs.drop 1)
    else if 0xE0 ≤ n ∧ n < 0xF0 then
      cont 2 && (decide (n ≠ 0xE0) || decide (0xA0 ≤ c0)) && (decide (n ≠ 0xED) || decide (c0 < 0xA0)) && utf8Ok fuel (bs.drop 2)
    else if 0xF0 ≤ n ∧ n < 0xF5 then
      cont 3 && (decide (n ≠ 0xF0) || decide (0x90 ≤ c0)) && (decide (n ≠ 0xF4) || decide (c0 < 0x90)) && utf8Ok fuel (bs.drop 3)
    else false

/-- The reserved EtherTypes of POA_ETHERTYPE (R147). -/
def etherTypeOk (n : Nat) : Bool :=
  decide (0x600 ≤ n ∧ n ≤ 0xFFFF) && !([0x0800, 0x0806, 0x8100, 0x86DD, 0x88A8].contains n)

/-- The values that a row's own limits allow, for a canonical value (R116, R4). -/
def limitsOk (d : ObjDef) (v : List Byte) : Bool :=
  let n := beNat v
  (match d.ty with
    | .bool => decide (n ≤ 1)
    | .text => utf8Ok v.length v && decide (v.length ≤ 255)
    | .octets => decide (v.length ≤ 1024)
    | _ => true) &&
  (match d.limits with
    | .any => true
    | .span lo hi =>
      match d.ty with
      | .i32 => decide ((lo : Int) ≤ toSigned 32 n ∧ toSigned 32 n ≤ hi)
      | _ => decide (lo ≤ n ∧ n ≤ hi)
    | .spanOr lo hi other => decide (lo ≤ n ∧ n ≤ hi) || decide (n = other)
    | .mask m => decide (n &&& m = n)
    | .len k => decide (v.length = k)
    | .maxLen k => decide (v.length ≤ k)
    | .etherType => etherTypeOk n)

/-- The KIND that a HANDLE object expects: PUNT_CHANNEL names a host channel; WATCH_QUEUE, FABRIC_EGRESS_MAP and TS_QUEUE name a
queue; in each of them 0x0000_0000 means none (R7). -/
def handleKindOf (i : Nat) : Nat := if i = 0x4011 then 2 else 1

/-- Sub-indices that exist only while a state holds: those of a module (R111), and those of a table region (R245). -/
def State.exists (s : State) (i j : Nat) : Bool :=
  if 0x1100 ≤ i ∧ i < 0x1120 ∧ ((2 ≤ j ∧ j ≤ 0x0C) ∨ j = 0x0F) then
    decide (s.reg i 1 = 3) || decide (s.reg i 1 = 5) || decide (s.reg i 1 = 6) || decide (s.reg i 1 = 7)
  else if (0x5002 ≤ i ∧ i ≤ 0x5005) ∨ i = 0x5803 ∨ i = 0x5804 then (mget s.tables.regions j).any (·.em)
  else if 0x5402 ≤ i ∧ i ≤ 0x5404 then (mget s.tables.regions j).any fun r => !r.em
  else true

/-- Checks 1 to 6 of R152 for a write by a role, before the value is looked at; `blob` for a WRITE_SEGMENT, which takes BLOB objects and
no others (R574). -/
def State.checkTargetFor (s : State) (blob : Bool) (role i j len : Nat) : Status :=
  if !dictHasIndex i then .noObject
  else match dictRow i j with
    | none => .noSubindex
    | some d =>
      if !s.exists i j then .noSubindex
      else if !mayWrite role d i j then .denied
      else if isCreateObject i j ∨ (d.ty = .blob) ≠ (blob = true) then .typeMismatch
      else if d.access = .ro then .readOnly
      else if s.modeForbids i j true then .mode
      else if d.ty.fixedLen.any (fun n => decide (n ≠ len)) then .typeMismatch
      else .ok

/-- While a warm restart goes on, only the ranges of R71 are served (R92). -/
def State.restarting (s : State) (i : Nat) : Bool := s.power.warmSince.isSome && !dormantServed i

/-- Checks 1 to 8 of R152 for a write by a role of a value in canonical form, and BUSY of a warm restart; the rule of the object goes
on from there. -/
def State.checkCanonical (s : State) (role i j : Nat) (c : List Byte) : Status :=
  match s.checkTargetFor false role i j c.length with
  | .ok =>
    match dictRow i j with
    | none => .noSubindex
    | some d =>
      let h := if d.ty = .handle ∧ beNat c ≠ 0 then s.checkHandle (handleKindOf i) (beNat c) else .ok
      if h ≠ .ok then h else if !limitsOk d c then .range else if s.restarting i then .busy else .ok
  | st => st

/-- The type of an object; U8 where the dictionary has none. -/
def typeOf (i j : Nat) : ObjType := ((dictRow i j).map ObjDef.ty).getD .u8

/-- The same checks for a write of raw bytes by a requester. -/
def State.checkWrite (s : State) (o : Origin) (i j : Nat) (v : List Byte) : Status :=
  s.checkCanonical (s.roleOf o) i j (canonical o.be (typeOf i j) v)

/-- A canonical value stored in the object's home in the registers. -/
def State.storeValue (s : State) (i j : Nat) (c : List Byte) : State :=
  match typeOf i j with
  | .octets | .text | .blob => s.setOct i j c
  | _ => s.setReg i j (beNat c)

/-- A change of an object that is not epoch-versioned, for R134. -/
def State.noteChange (s : State) (t : Target) : State :=
  let n := s.epochs.changes + 1
  { s with epochs := { s.epochs with changes := n, changed := (t, n) :: s.epochs.changed.filter (fun e => e.1 ≠ t) } }

/-- What a write of an object changes, for R134: the entry or rule of a table or rule command, what a command's chapter says it
replaces, nothing for any other CMD object, and the object itself otherwise. The key of a prefix entry goes with its length. -/
def State.writeTargets (s : State) (i j : Nat) (c : List Byte) : List Target :=
  if i = 0x5C10 then
    let r := handleIndex (beAt c 4 4)
    let k := ((mget s.tables.regions r).map fun x => (beAt x.params 0 2 + 7) / 8).getD 0
    [.entry r (slice c 2 1 ++ slice c 12 k)]
  else if i = 0x6010 then [.rule (handleIndex (beAt c 4 4)) (beAt c 8 4)]
  else if i = 0x4202 then [.program]
  else if i = 0x4400 ∧ j = 2 then (if beNat c = 1 then [.graph] else [])
  else if i = 0x7601 ∧ j = 1 then [.group (beAt c 0 2)]
  else if (dictRow i j).any (fun d => decide (d.access = .cmd)) then []
  else [.obj i j]

/-- A request of one bare operation, for an answer that comes later. -/
def State.directJob (s : State) (o : Origin) : State × Nat :=
  let id := s.acc.nextJob
  let job : Job := { id := id, origin := o, reply := .direct, requirePair := false, answered := [], rest := [], limit := 4096, ready := false }
  ({ s with acc := { s.acc with nextJob := id + 1, jobs := mput s.acc.jobs id job } }, id)

/-- The answer of an operation with no data. -/
def bareAns (opcode : Nat) (st : Status) (i j : Nat) : OpAns :=
  { opcode := opcode, status := st, index := i, sub := j, ty := 0, data := [] }

/-- What a write that was applied still needs before it is answered: the flash record of a P object (R120), and the staging of a
pair-coherent change by a mate in SHADOW (R137). -/
def State.needsWait (s : State) (i j : Nat) : Bool × Bool :=
  ((dictRow i j).any (fun d => d.p && decide (d.access ≠ .ro)), s.mateInShadow && coherent i j && !versioned i j)

/-- A BLOB as WRITE_SEGMENT operations of at most 1,024 bytes, the last with LAST set (R127, R140). -/
def blobOps (i j : Nat) (b : List Byte) : List (List Byte) :=
  let n := max 1 ((b.length + 1023) / 1024)
  (List.range n).map fun k =>
    opBytes 0x04 (if k + 1 = n then 1 else 0) i j 10 (natBe (1024 * k) 4 ++ slice b (1024 * k) (Nat.min 1024 (b.length - 1024 * k)))

/-- Operations gathered into bodies of at most 65,528 bytes. -/
def packOps : List (List Byte) → List Byte → List (List Byte)
  | [], acc => [acc]
  | o :: rest, acc => if acc ≠ [] ∧ 65528 < acc.length + o.length then acc :: packOps rest o else packOps rest (acc ++ o)

/-- Operations go to the mate in OBJECT records; the ticket of the last. -/
def State.sendObjects (s : State) (ops : List (List Byte)) : State × Option Nat :=
  (packOps ops []).foldl (fun a body => let (s1, t) := a.1.sendObject body; (s1, some t)) (s, none)

/-- A write applied is announced to the mate where the pair must hold it on both units (R137, R359 OBJECT). -/
def State.announce (s : State) (i j : Nat) (c : List Byte) : State × Option Nat :=
  if (s.needsWait i j).2 then
    s.sendObjects (if typeOf i j = .blob then blobOps i j c else [opBytes 0x02 0 i j (typeOf i j).code c])
  else (s, none)

/-- An applied operation of a job is answered at once, or when what it waits for has come: a flash record, the mate's staging of its
ticket. -/
def State.holdAnswer (s : State) (job : Nat) (a : OpAns) (flash : Bool) (ticket : Option Nat) : Option OpAns × State :=
  if flash ∨ ticket.isSome then
    (none, { s with acc := { s.acc with waiting := s.acc.waiting ++
      [{ opcode := a.opcode, index := a.index, sub := a.sub, ty := a.ty, data := a.data, job := job, flash := flash, ticket := ticket }] } })
  else (some a, s)

/-- A bare operation that was applied: its answer is recorded, now or when what it waits for has come. -/
def State.answerHeld (s : State) (o : Origin) (a : OpAns) (flash : Bool) (ticket : Option Nat) : State :=
  if flash ∨ ticket.isSome then let (s1, job) := s.directJob o; (s1.holdAnswer job a flash ticket).2
  else s.answer o a

/-- A write that its rule applied, answered at once or when what it waits for has come. -/
def State.waitOrAnswer (s : State) (o : Origin) (i j : Nat) (c : List Byte) : State :=
  let (s1, ticket) := ((s.writeTargets i j c).foldl State.noteChange s).announce i j c
  s1.answerHeld o (bareAns 0x02 .ok i j) (s.needsWait i j).1 ticket

/-- The end of a write by a row of the table: its outcome is noted for a CMD object (R118), and it is answered. -/
def State.endWrite (s : State) (o : Origin) (i j : Nat) (c : List Byte) (st : Status) : State :=
  let s1 := if (dictRow i j).any (fun d => decide (d.access = .cmd)) then s.noteOutcome o i j st else s
  match st with
  | .ok => s1.waitOrAnswer o i j c
  | _ => s1.answer o (bareAns 0x02 st i j)

/-- A write of an object that is not epoch-versioned, by a row of its own: the checks of R152, then the effect of the object's
rule on the canonical value. -/
def State.runWrite (s : State) (o : Origin) (i j : Nat) (v : List Byte) (f : List Byte → State → Status × State) : State :=
  match s.checkWrite o i j v with
  | .ok =>
    let c := canonical o.be (typeOf i j) v
    let (st, s1) := f c s
    s1.endWrite o i j c st
  | st => s.endWrite o i j v st

/-- A write of a BLOB by a row of its own, whole (R127): the checks of R152, then the effect of the object's rule. -/
def State.runBlob (s : State) (o : Origin) (i j : Nat) (v : List Byte) (f : List Byte → State → Status × State) : State :=
  match s.checkTargetFor true (s.roleOf o) i j v.length with
  | .ok =>
    let (st, s1) := f v s
    s1.endWrite o i j v st
  | st => s.endWrite o i j v st

/-- A CREATE (R128): the create object, the role, the mode and the length are checked, then the kind's rule makes the channel and
returns its handle, or a status. -/
def State.runCreate (s : State) (o : Origin) (i : Nat) (v : List Byte) (f : List Byte → State → Except Status (Nat × State)) :
    Status × Nat × State :=
  match dictRow i 0 with
  | none => (.noObject, 0, s)
  | some d =>
    if !(decide (2 ≤ s.roleOf o)) then (.denied, 0, s)
    else if s.modeForbids i 0 true ∨ s.mode = .catchup ∨ s.mode = .shadow then (.mode, 0, s)
    else if !limitsOk d v then (.range, 0, s)
    else match f v s with
      | .error st => (st, 0, s)
      | .ok (h, s1) => (.ok, h, s1)

/-- The end of a CREATE by a row of the table: outcome, the mate's copy of it (R137) and the answer. -/
def State.endCreate (o : Origin) (i : Nat) (v : List Byte) (r : Status × Nat × State) : State :=
  let (st, h, s) := r
  let s1 := s.noteOutcome o i 0 st
  match st with
  | .ok =>
    let (s2, ticket) := if s1.mateInShadow then s1.sendObjects [opBytes 0x10 0 i 0 10 v] else (s1, none)
    s2.answerHeld o { opcode := 0x10, status := .ok, index := i, sub := 0, ty := 12, data := numBytes o.be h 4 } false ticket
  | _ => s1.answer o (bareAns 0x10 st i 0)

/-- A status code that a query's own answer carries in STATUS is drawn by its write too (R7, R152), but NO_OBJECT and NO_SUBINDEX of an
object that the query names in its value (R510; log entry 13). -/
def drawnBy (code : Nat) : Status :=
  match code with
  | 5 => .typeMismatch | 6 => .range | 8 => .staleHandle | 9 => .busy | 11 => .noResource | _ => .ok

/-- A query's answer goes to the requester's result object. A query whose own fields are out of range draws that status and fills
nothing; one that fails otherwise draws what STATUS of its answer names (log entry 13). -/
def State.answerInto (o : Origin) (i j : Nat) (r : Status × List Byte × State) : Status × State :=
  match r.1 with
  | .ok => (drawnBy (byteAt r.2.1 0), r.2.2.setResult o i j r.2.1)
  | st => (st, r.2.2)

/-- A query object (R239): the checks of a write, then the answer is filled into the requester's result object. -/
def State.runQuery (s : State) (o : Origin) (i j resI resJ : Nat) (v : List Byte)
    (f : List Byte → State → Status × List Byte × State) : State :=
  s.runWrite o i j v fun c s => State.answerInto o resI resJ (f c s)

end Sys2Proof.Machine
end

