-- ==== Sys2Proof/Machine/Counting.lean ====
section
/-! DEFINITION. Sys2Proof/Machine/Counting.lean: statistics in HBM and their on-die deltas, the linear-feedback draws, and the
clears and images of every counter (R500 to R510, R576). -/

namespace Sys2Proof.Machine

/-! ### The generator of R576 -/

/-- One step of a 32-bit LFSR (R576). -/
def lfsrStep (r : Nat) : Nat :=
  let x := r * 2
  (if 2 ^ 32 ≤ x then (x - 2 ^ 32) ^^^ 0x00400007 else x) % 2 ^ 32

/-- A draw of k bits: k steps, then bits [k − 1:0] of the register, and the register (R576). -/
def lfsrDraw (r k : Nat) : Nat × Nat :=
  let r' := (List.range k).foldl (fun r _ => lfsrStep r) (if r = 0 then 1 else r)
  (r' % 2 ^ k, r')

/-! ### Service of the stacks -/

/-- STACK_SERVICE of every stack is other than OUT_OF_SERVICE (R413). -/
def State.stacksGood (s : State) : Bool := (List.range 4).all (fun h => decide (s.reg 0x7101 h ≠ 3))

/-! ### Deltas (R505, R506) -/

/-- The least of two sums of a counter and whether it carried past 2^64. -/
def addWrap (a b : Nat) : Nat × Bool := ((a + b) % 2 ^ 64, decide (2 ^ 64 ≤ a + b))

/-- A counter set's delta flushed into its HBM entry, with the wrap flags of the carry (R505, R506). -/
def State.flushSet (s : State) (i : Nat) : State :=
  match mget s.stats.sets i, mget s.stats.setDeltas i with
  | some e, some d =>
    let (p, w1) := addWrap e.packets d.packets
    let (b, w2) := addWrap e.bytes d.bytes
    let fl := mgetD 0 s.stats.setFlags i ||| (if w1 then 2 else 0) ||| (if w2 then 4 else 0)
    let st := { s.stats with
      sets := mput s.stats.sets i { e with packets := p, bytes := b }
      setFlags := mset 0 s.stats.setFlags i fl
      setDeltas := mdel s.stats.setDeltas i
      flushedAt := mput s.stats.flushedAt (chanKey 4 i) s.now }
    ({ s with stats := st }).bump 0xC100 2
  | _, _ => s

/-- Sum of two queue entries. -/
def QueueStats.add (a b : QueueStats) : QueueStats :=
  let (x1, w1) := addWrap a.admitted b.admitted
  let (x2, w2) := addWrap a.refused b.refused
  { admitted := x1, refused := x2, ended := (a.ended + b.ended) % 2 ^ 64,
    releasedPackets := (a.releasedPackets + b.releasedPackets) % 2 ^ 64,
    releasedBytes := (a.releasedBytes + b.releasedBytes) % 2 ^ 64,
    wrap1 := a.wrap1 || b.wrap1 || w1, wrap2 := a.wrap2 || b.wrap2 || w2, lost := a.lost || b.lost }

/-- A queue's delta flushed. -/
def State.flushQueue (s : State) (i : Nat) : State :=
  match mget s.stats.queueDeltas i with
  | some d =>
    let st := { s.stats with
      queues := mput s.stats.queues i ((mgetD .reset s.stats.queues i).add d)
      queueDeltas := mdel s.stats.queueDeltas i
      flushedAt := mput s.stats.flushedAt (chanKey 1 i) s.now }
    ({ s with stats := st }).bump 0xC100 2
  | none => s

/-- Sum of two host channel entries. -/
def ChannelStats.add (a b : ChannelStats) : ChannelStats :=
  let (x1, w1) := addWrap a.completed b.completed
  let (x2, w2) := addWrap a.accepted b.accepted
  { completed := x1, accepted := x2, refused := (a.refused + b.refused) % 2 ^ 64,
    delivered := (a.delivered + b.delivered) % 2 ^ 64, bytes := (a.bytes + b.bytes) % 2 ^ 64,
    wrap1 := a.wrap1 || b.wrap1 || w1, wrap2 := a.wrap2 || b.wrap2 || w2, lost := a.lost || b.lost }

/-- A host channel's delta flushed. -/
def State.flushChannel (s : State) (i : Nat) : State :=
  match mget s.stats.channelDeltas i with
  | some d =>
    let st := { s.stats with
      channels := mput s.stats.channels i ((mgetD .reset s.stats.channels i).add d)
      channelDeltas := mdel s.stats.channelDeltas i
      flushedAt := mput s.stats.flushedAt (chanKey 2 i) s.now }
    ({ s with stats := st }).bump 0xC100 2
  | none => s

/-- A delta flushed, by KIND (R506); no flush is made while a stack is out of service (R508). -/
def State.flushDelta (s : State) (kind i : Nat) : State :=
  if !s.stacksGood then s
  else match kind with
    | 4 => s.flushSet i
    | 1 => s.flushQueue i
    | 2 => s.flushChannel i
    | _ => s

/-- Every delta flushed, as on entry to DORMANT and before a warm restart ends (R506). -/
def State.flushAll (s : State) : State :=
  let s1 := (s.stats.setDeltas.map (·.1)).foldl (fun s i => s.flushDelta 4 i) s
  let s2 := (s1.stats.queueDeltas.map (·.1)).foldl (fun s i => s.flushDelta 1 i) s1
  (s2.stats.channelDeltas.map (·.1)).foldl (fun s i => s.flushDelta 2 i) s2

/-- Entries that an on-die cache holds (R506). -/
def deltaCacheEntries : Nat := 262144

/-- A full cache gives up the delta flushed longest ago before it takes a new entry (R506). -/
def State.roomForDelta (s : State) (kind i : Nat) : State :=
  let keys := if kind = 4 then (s.stats.setDeltas.map (chanKey 4 ·.1))
    else (s.stats.queueDeltas.map (chanKey 1 ·.1)) ++ (s.stats.channelDeltas.map (chanKey 2 ·.1))
  if keys.length < deltaCacheEntries ∨ keys.contains (chanKey kind i) then s
  else
    let age (k : Nat) := mgetD 0 s.stats.flushedAt k
    match keys.foldl (fun (b : Option Nat) k => match b with
        | none => some k
        | some x => if age k < age x then some k else some x) none with
    | some k => s.flushDelta (k / 2 ^ 20) (k % 2 ^ 20)
    | none => s

/-- A COUNT step's packet is added to a set's delta (R503, R506); past the delta's width it is flushed first, or discarded and
counted while a stack is out of service (R508). -/
def State.countSet (s : State) (i bytes : Nat) : State :=
  let s := s.roomForDelta 4 i
  let d := mgetD { packets := 0, bytes := 0 } s.stats.setDeltas i
  let full := decide (2 ^ 32 ≤ d.packets + 1) || decide (2 ^ 48 ≤ d.bytes + bytes)
  if full && !s.stacksGood then s.bump 0xC100 3
  else
    let s := if full || decide (2 ^ 31 ≤ d.packets + 1) || decide (2 ^ 47 ≤ d.bytes + bytes) then s.flushDelta 4 i else s
    let d := mgetD { packets := 0, bytes := 0 } s.stats.setDeltas i
    { s with stats := { s.stats with
        setDeltas := mput s.stats.setDeltas i { packets := d.packets + 1, bytes := d.bytes + bytes } } }

/-- An occurrence added to a queue's delta. -/
def State.countQueue (s : State) (i : Nat) (f : QueueStats → QueueStats) : State :=
  let s := s.roomForDelta 1 i
  let d := f (mgetD .reset s.stats.queueDeltas i)
  let wide := decide (2 ^ 32 ≤ d.admitted) || decide (2 ^ 32 ≤ d.refused) || decide (2 ^ 32 ≤ d.ended)
    || decide (2 ^ 32 ≤ d.releasedPackets) || decide (2 ^ 48 ≤ d.releasedBytes)
  let due := decide (2 ^ 31 ≤ d.admitted) || decide (2 ^ 31 ≤ d.refused) || decide (2 ^ 31 ≤ d.ended)
    || decide (2 ^ 31 ≤ d.releasedPackets) || decide (2 ^ 47 ≤ d.releasedBytes)
  if wide && !s.stacksGood then s.bump 0xC100 3
  else
    let s1 := { s with stats := { s.stats with queueDeltas := mput s.stats.queueDeltas i d } }
    if due then s1.flushDelta 1 i else s1

/-- An occurrence added to a host channel's delta. -/
def State.countChannel (s : State) (i : Nat) (f : ChannelStats → ChannelStats) : State :=
  let s := s.roomForDelta 2 i
  let d := f (mgetD .reset s.stats.channelDeltas i)
  let wide := decide (2 ^ 32 ≤ d.completed) || decide (2 ^ 48 ≤ d.bytes)
  let due := decide (2 ^ 31 ≤ d.completed) || decide (2 ^ 47 ≤ d.bytes)
  if wide && !s.stacksGood then s.bump 0xC100 3
  else
    let s1 := { s with stats := { s.stats with channelDeltas := mput s.stats.channelDeltas i d } }
    if due then s1.flushDelta 2 i else s1

/-- The statistics of a queue as a read gives them: HBM entry plus delta, or the delta alone with a stack out (R507, R508). -/
def State.queueStats (s : State) (i : Nat) : QueueStats :=
  let d := mgetD .reset s.stats.queueDeltas i
  if s.stacksGood then (mgetD .reset s.stats.queues i).add d else d

/-- The statistics of a host channel as a read gives them. -/
def State.channelStats (s : State) (i : Nat) : ChannelStats :=
  let d := mgetD .reset s.stats.channelDeltas i
  if s.stacksGood then (mgetD .reset s.stats.channels i).add d else d

/-- FLAGS of R505. -/
def statFlags (lost w1 w2 live stopped : Bool) : Nat :=
  (if lost then 1 else 0) + (if w1 then 2 else 0) + (if w2 then 4 else 0) + (if live then 8 else 0) + (if stopped then 16 else 0)

/-- The 32 bytes of a counter set entry (R505, R507). -/
def State.setEntry (s : State) (i : Nat) : List Byte :=
  match mget s.stats.sets i with
  | none => List.replicate 32 0
  | some e =>
    let d := mgetD { packets := 0, bytes := 0 } s.stats.setDeltas i
    let good := s.stacksGood
    let (p, w1) := addWrap (if good then e.packets else 0) d.packets
    let (b, w2) := addWrap (if good then e.bytes else 0) d.bytes
    let f := mgetD 0 s.stats.setFlags i
    natBe p 8 ++ natBe b 8 ++ natBe e.tag 4
      ++ natBe (statFlags (bitAt f 0) (bitAt f 1 || w1) (bitAt f 2 || w2) true (!good)) 1 ++ natBe (s.gen 4 i) 1
      ++ List.replicate 10 0

/-- The 64 bytes of a queue entry (R505). -/
def State.queueEntry (s : State) (i : Nat) : List Byte :=
  let q := s.queueStats i
  natBe q.admitted 8 ++ natBe q.refused 8 ++ natBe q.ended 8 ++ natBe q.releasedPackets 8 ++ natBe q.releasedBytes 8
    ++ natBe (statFlags q.lost q.wrap1 q.wrap2 (s.live 1 i) (!s.stacksGood)) 1 ++ List.replicate 23 0

/-- The 64 bytes of a host channel entry (R505). -/
def State.channelEntry (s : State) (i : Nat) : List Byte :=
  let c := s.channelStats i
  natBe c.completed 8 ++ natBe c.accepted 8 ++ natBe c.refused 8 ++ natBe c.delivered 8 ++ natBe c.bytes 8
    ++ natBe (statFlags c.lost c.wrap1 c.wrap2 (s.live 2 i) (!s.stacksGood)) 1 ++ List.replicate 23 0

/-! ### Clears (R502) -/

/-- Whether an object is a V sub-object. -/
def isV (i j : Nat) : Bool := (dictRow i j).any (·.v)

/-- One V object cleared, with its WRAPPED bit. -/
def State.clearV (s : State) (i j : Nat) : State :=
  let s1 := s.setReg i j (dictDefault i j)
  { s1 with stats := { s1.stats with wrapped := mdel s1.stats.wrapped (okey i j) } }

/-- Every listed V object whose key passes a test cleared, with its WRAPPED bit. -/
def State.clearVs (s : State) (p : Nat → Bool) : State :=
  let isVKey (k : Nat) : Bool := isV (k / 256) (k % 256)
  { s with
    objs := s.objs.filter (fun (k, _) => !(p k && isVKey k))
    stats := { s.stats with wrapped := s.stats.wrapped.filter (fun (k, _) => !(p k)) } }

/-- A counter set cleared: HBM entry, flags and delta. -/
def State.clearSet (s : State) (i : Nat) : State :=
  match mget s.stats.sets i with
  | none => s
  | some e =>
    { s with stats := { s.stats with
        sets := mput s.stats.sets i { e with packets := 0, bytes := 0 }
        setFlags := mdel s.stats.setFlags i
        setDeltas := mdel s.stats.setDeltas i } }

/-- A queue's statistics cleared. -/
def State.clearQueueStats (s : State) (i : Nat) : State :=
  { s with stats := { s.stats with queues := mdel s.stats.queues i, queueDeltas := mdel s.stats.queueDeltas i } }

/-- A host channel's statistics cleared. -/
def State.clearChannelStats (s : State) (i : Nat) : State :=
  { s with stats := { s.stats with channels := mdel s.stats.channels i, channelDeltas := mdel s.stats.channelDeltas i } }

/-- A watch entry's histogram cleared. -/
def State.clearHistogram (s : State) (w : Nat) : State :=
  match mget s.tm.watches w with
  | none => s
  | some x => { s with tm := { s.tm with watches := mput s.tm.watches w { x with bins := [] } } }

/-- The image of every counter at this instant (R509). -/
def State.imageNow (s : State) : Image :=
  let handles (k : Nat) (l : List Nat) : List (Nat × Nat) := l.map fun i => (chanKey k i, s.gen k i)
  { objs := s.objs.filter (fun (k, _) => isV (k / 256) (k % 256)),
    sets := s.stats.sets.map (fun (i, _) => (i, s.setEntry i)),
    queues := s.tm.queues.map (fun (i, _) => (i, s.queueEntry i)),
    channels := s.host.channels.map (fun (i, _) => (i, s.channelEntry i)),
    live := handles 4 (s.stats.sets.map (·.1)) ++ handles 1 (s.tm.queues.map (·.1)) ++ handles 2 (s.host.channels.map (·.1)) }

/-! ### Access to the stacks (R87, R402) -/

/-- A stack. -/
def State.stack (s : State) (h : Nat) : Stack := mgetD .reset s.hbm.stackIds h
/-- A stack replaced. -/
def State.setStack (s : State) (h : Nat) (x : Stack) : State := { s with hbm := { s.hbm with stackIds := mput s.hbm.stackIds h x } }
/-- Every stack is ACTIVE. -/
def State.stacksActive (s : State) : Bool := (List.range 4).all (fun h => decide (s.reg 0x7101 h = 0))

/-- A sleeping stack gets a wake request (R87, R402); with a stack out of service the others stay asleep (R413). -/
def State.wakeStack (s : State) (h : Nat) : State :=
  if s.reg 0x7101 h = 1 ∧ s.stacksGood then (s.setStack h { s.stack h with wakeSince := some s.now }).setReg 0x7101 h 2 else s

/-- Every sleeping stack gets a wake request. -/
def State.wakeStacks (s : State) : State := (List.range 4).foldl State.wakeStack s

/-- A request for the memory (R87, R402): an ACTIVE stack is accessed, and an entry to self-refresh not completed is abandoned; a
sleeping stack gets a wake request. -/
def State.touchHbm (s : State) : State :=
  (List.range 4).foldl (fun s h =>
    let s1 := s.setStack h { s.stack h with entering := false, lastAccess := s.now }
    s1.wakeStack h) s

/-! ### Row activations (R395, R396, R401) -/

/-- Pseudo-channel cc. -/
def State.pc (s : State) (cc : Nat) : PseudoChannel := mgetD .reset s.hbm.channels cc
/-- Pseudo-channel cc stored. -/
def State.setPc (s : State) (cc : Nat) (x : PseudoChannel) : State :=
  { s with hbm := { s.hbm with channels := mput s.hbm.channels cc x } }

/-- A row activation: a 16-bit draw may refresh the rows beside it (R401). -/
def State.activateRow (s : State) (cc : Nat) : State :=
  let x := s.pc cc
  let (r, g) := lfsrDraw x.lfsr 16
  let s1 := s.setPc cc { x with lfsr := g }
  if r * 2 ^ s.reg 0x7100 5 < 65536 then s1.bump 0x7113 cc else s1

/-- A segment is written or read: 8 bursts in one row of every pseudo-channel (R396, R403; each access counts as an activation, log
entry 18). Port 0 is READBACK, port 1 SPILL_WRITE. -/
def State.segmentAccess (s : State) (port : Nat) : State :=
  (List.range 128).foldl State.activateRow (s.count 0x7120 port 1024)

/-- The pseudo-channel in which a device address lies (R395). -/
def channelOf (a : Nat) : Nat := a / 256 % 128

/-- The device address of a statistics entry by KIND and index (R504). -/
def State.statAddress (s : State) (kind i : Nat) : Nat :=
  s.reg 0x7000 7 * 2 ^ 30 + (if kind = 4 then 32 * i else if kind = 1 then 0x2000000 + 64 * i else 0x4000000 + 64 * i)

/-- What puts a statistics entry at an offset of the region: KIND and index of the entry that lies there (R504). -/
def statEntryAt (off : Nat) : Option (Nat × Nat) :=
  if off < 0x2000000 then some (4, off / 32)
  else if off < 0x4000000 then some (1, (off - 0x2000000) / 64)
  else if off < 0x4040000 then some (2, (off - 0x4000000) / 64)
  else none

/-- An uncorrectable burst makes an entry zero with LOST set (R508). -/
def State.loseStat (s : State) (kind i : Nat) : State :=
  match kind with
  | 4 => match mget s.stats.sets i with
    | some e => { s with stats := { s.stats with
        sets := mput s.stats.sets i { e with packets := 0, bytes := 0 }
        setFlags := mset 0 s.stats.setFlags i 1 } }
    | none => s
  | 1 => { s with stats := { s.stats with queues := mput s.stats.queues i { QueueStats.reset with lost := true } } }
  | 2 => { s with stats := { s.stats with channels := mput s.stats.channels i { ChannelStats.reset with lost := true } } }
  | _ => s

/-! ### Pattern tests (R545 to R550) -/

/-- A pattern test is RUNNING (R545): UNLOCKED or LOCKED. -/
def PatternTest.running (t : PatternTest) : Bool := decide (t.state = 1) || decide (t.state = 2)

/-- A pattern test stored by its key 256 × TARGET_KIND + TARGET. -/
def State.setTest (s : State) (k : Nat) (t : PatternTest) : State := { s with test := { s.test with tests := mput s.test.tests k t } }

/-- Whole milliseconds from a test's start to its end, or to now while it runs. -/
def State.testMs (s : State) (t : PatternTest) : Nat := ((if t.running then s.now else t.ended) - t.started) / 1000000

/-- What a locked checker has counted, added to its test (R547): bits, errors, injected errors and errored seconds. Nothing is
injected with INJECT_LOG2 0, and no more seconds are errored than have passed. -/
def State.addCounts (s : State) (t : PatternTest) (bits errors injected seconds : Nat) : PatternTest :=
  { t with
    bits := t.bits + bits
    errors := t.errors + errors
    injected := t.injected + (if byteAt t.params 5 = 0 then 0 else injected)
    erroredSeconds := min (t.erroredSeconds + seconds) (s.testMs t / 1000) }

/-- The counts of a test that runs and is LOCKED, up to now: what its checker has seen is a free value (log entry 1). -/
def State.sampleTest (s : State) (k : Nat) : State :=
  match mget s.test.tests k with
  | some t =>
    if t.state ≠ 2 then s
    else
      let (a, s1) := s.draw
      let (b, s2) := s1.draw
      let (c, s3) := s2.draw
      let (d, s4) := s3.draw
      s4.setTest k (s.addCounts t a b c d)
  | none => s

/-- An HBM test with INCLUDE_STATS ends: every statistics entry of its pseudo-channel is zero with LOST set (R548). -/
def State.loseChannelStats (s : State) (cc : Nat) : State :=
  let pick (kind : Nat) (l : List Nat) : List Nat := l.filter fun i => decide (channelOf (s.statAddress kind i) = cc)
  let s1 := (pick 4 (s.stats.sets.map (·.1))).foldl (fun s i => s.loseStat 4 i) s
  let s2 := (pick 1 (s.tm.queues.map (·.1))).foldl (fun s i => s.loseStat 1 i) s1
  (pick 2 (s.host.channels.map (·.1))).foldl (fun s i => s.loseStat 2 i) s2

/-- A recovered clock output is squelched while its source lane is not LOCKED, and low with no source (R430). -/
def State.refreshRecclk (s : State) : State :=
  (List.range 2).foldl (fun s k =>
    let l := s.reg 0x3110 k
    s.setReg 0x3112 k (if l < 128 ∧ s.reg 0x3200 l = 3 then 0 else 1)) s

/-- Lanes take a state (R433): 0 OFF, 1 NO_SIGNAL, 2 ACQUIRING, 3 LOCKED. -/
def State.setLanes (s : State) (ls : List Nat) (st : Nat) : State :=
  (ls.foldl (fun s l => s.setReg 0x3200 l st) s).refreshRecclk

/-- A running test ends in a state of R550: 3 DONE, 4 STOPPED or 5 ABORTED; a test that does not run stays as it is. One that saw
errors it did not inject is a failure in area LANES (R555, log entry 36). -/
def State.endTest (s : State) (st k : Nat) : State :=
  let s1 := s.sampleTest k
  match mget s1.test.tests k with
  | some t =>
    if !t.running then s1
    else
      let s1 := s1.setTest k { t with state := st, ended := s1.now }
      let s1 := if k < 128 then s1.setLanes [k] 0 else s1
      let s2 := if t.injected < t.errors then s1.healthFree 5 0 (natBe (k / 256) 1 ++ natBe (k % 256) 1) else s1
      if k / 256 = 5 ∧ bitAt (byteAt t.params 3) 3 then s2.loseChannelStats (k % 256) else s2
  | none => s1

/-- The tests that a condition picks end ABORTED (R542, R550). -/
def State.abortTests (s : State) (pick : Nat → Bool) : State :=
  ((s.test.tests.map (·.1)).filter pick).foldl (State.endTest · 5 ·) s

/-- Something woke late (R84, R86, R87, R88): kind 0 slice, 1 fabric quad, 2 stack; its number, and the wake time in ns. -/
def State.wakeLate (s : State) (kind n ns : Nat) : State :=
  ((s.bump 0x2013 (kind + 1)).setReg 0x2013 4 s.ptp).raiseEvent 7 (kind * 256 + n) ns

/-- Sleep is allowed (R79): PROPORTIONAL, and SHADOW with TURN_MODE PROPORTIONAL. -/
def State.sleepMode (s : State) : Bool :=
  decide (s.mode = .proportional) || (decide (s.mode = .shadow) && decide (s.reg 0x2000 6 = 2))

end Sys2Proof.Machine
end

