-- ==== Sys2Proof/Machine/QueueOps.lean ====
section
/-! DEFINITION. Sys2Proof/Machine/QueueOps.lean: queues, buffer cells, the round lists of the schedulers, watches and traces, and
the ways in which an admitted packet leaves its queue (R273 to R296, R303 to R309, R323, R514, R517, R518). -/

namespace Sys2Proof.Machine

/-! ### Parameters of a queue (R286) -/

/-- TYPE VOQ. -/
def Queue.voq (q : Queue) : Bool := decide (byteAt q.params 0 = 0)
/-- OWNER_SLICE, as resolved at creation (R287). -/
def Queue.owner (q : Queue) : Nat := byteAt q.params 1
/-- PORT of an egress queue. -/
def Queue.port (q : Queue) : Nat := byteAt q.params 2 % 128
/-- CLASS of a VOQ. -/
def Queue.cls (q : Queue) : Nat := byteAt q.params 3 % 8
/-- FABRIC_DEST of a VOQ. -/
def Queue.dest (q : Queue) : Nat := beAt q.params 4 2
/-- POOL. -/
def Queue.pool (q : Queue) : Nat := byteAt q.params 6
/-- ALPHA_LOG2, signed. -/
def Queue.alpha (q : Queue) : Int := toSigned 8 (byteAt q.params 7)
/-- RES_q. -/
def Queue.res (q : Queue) : Nat := beAt q.params 8 4
/-- MAX_q. -/
def Queue.max (q : Queue) : Nat := beAt q.params 12 4
/-- WRED profile of a colour: 0 green, 1 yellow, 2 red. -/
def Queue.profile (q : Queue) (colour : Nat) : Nat := byteAt q.params (16 + colour)
/-- FLAGS RED_DROP. -/
def Queue.redDrop (q : Queue) : Bool := bitAt (byteAt q.params 19) 0
/-- FLAGS SPILL_ENABLE. -/
def Queue.spillEnable (q : Queue) : Bool := bitAt (byteAt q.params 19) 1
/-- HEAD_RESERVE_CELLS. -/
def Queue.headReserve (q : Queue) : Nat := beAt q.params 20 2
/-- PARENT of an egress queue, as a node index. -/
def Queue.parentNode (q : Queue) : Nat := handleIndex (beAt q.params 24 4)

/-- D_q (R273). -/
def Queue.depth (q : Queue) : Nat := (q.packets.map (·.cells)).foldl (· + ·) 0
/-- S_q (R273). -/
def Queue.shared (q : Queue) : Nat := q.depth - q.res
/-- DEPTH_BYTES (R290). -/
def Queue.depthBytes (q : Queue) : Nat := (q.packets.map (·.frame.length)).foldl (· + ·) 0

/-- U_p (R273). -/
def State.poolUsed (s : State) (p : Nat) : Nat :=
  (s.tm.queues.map fun (_, q) => if q.pool = p then q.shared else 0).foldl (· + ·) 0
/-- R_u (R273). -/
def State.unusedRes (s : State) : Nat := (s.tm.queues.map fun (_, q) => q.res - q.depth).foldl (· + ·) 0
/-- Sum of every RES_q (R287). -/
def State.committedRes (s : State) : Nat := (s.tm.queues.map fun (_, q) => q.res).foldl (· + ·) 0

/-- On-die cells and descriptors (R279). -/
def bufferCells : Nat := 1179648
/-- Packet descriptors (R279). -/
def bufferDescriptors : Nat := 2359296

/-- A queue stored. -/
def State.setQueue (s : State) (i : Nat) (q : Queue) : State := { s with tm := { s.tm with queues := mput s.tm.queues i q } }
/-- A node stored. -/
def State.setNode (s : State) (i : Nat) (n : SchedNode) : State := { s with tm := { s.tm with nodes := mput s.tm.nodes i n } }
/-- TM slice n. -/
def State.tmSlice (s : State) (n : Nat) : TmSlice := mgetD .reset s.tm.slices n
/-- TM slice n stored. -/
def State.setTmSlice (s : State) (n : Nat) (x : TmSlice) : State := { s with tm := { s.tm with slices := mput s.tm.slices n x } }
/-- FE slice n. -/
def State.sliceAt (s : State) (n : Nat) : Slice := mgetD .reset s.slices n
/-- FE slice n stored. -/
def State.setSlice (s : State) (n : Nat) (x : Slice) : State := { s with slices := mput s.slices n x }
/-- The MAC of a port. -/
def State.mac (s : State) (p : Nat) : Mac := mgetD .reset s.tm.macs p
/-- The MAC of a port stored. -/
def State.setMac (s : State) (p : Nat) (m : Mac) : State := { s with tm := { s.tm with macs := mput s.tm.macs p m } }
/-- A port. -/
def State.port (s : State) (p : Nat) : Port := mgetD .reset s.ports.ports p
/-- A port stored. -/
def State.setPort (s : State) (p : Nat) (x : Port) : State := { s with ports := { s.ports with ports := mput s.ports.ports p x } }

/-- PORT_COND of an egress queue's port (R290, R292): 0 UP, 1 DOWN, 2 FLUSHING. -/
def State.portCond (s : State) (p : Nat) : Nat :=
  if s.reg 0x7043 p = 1 then 2 else if s.reg 0x3003 p = 5 then 0 else 1

/-! ### Traces and watches (R514, R517, R518, R323) -/

/-- A packet trace record (R514). -/
def State.trace (s : State) (id : Option Nat) (passInfo epoch point : Nat) (detail : List Byte) : State :=
  match id with
  | none => s
  | some t =>
    s.pushRing 0 (natBe s.ptp 8 ++ natBe t 4 ++ natBe point 1 ++ natBe passInfo 1 ++ natBe epoch 2 ++ slice detail 0 16)

/-- Watch entries that name a queue (R323). -/
def State.watchers (s : State) (i : Nat) : List Nat :=
  s.objs.filterMap fun (k, v) =>
    if 0x788000 ≤ k ∧ k < 0x789000 ∧ v = s.handle 1 i then some (k - 0x788000) else none

/-- The depth of a watched queue is sampled at every whole microsecond of its interval that has passed (R323); called before the
depth changes. -/
def State.watchSample (s : State) (i : Nat) : State :=
  match mget s.tm.queues i with
  | none => s
  | some q =>
    (s.watchers i).foldl (fun s w =>
      let x := mgetD .reset s.tm.watches w
      let n := (s.now - x.since) / 1000
      if n ≤ x.sampled then s
      else
        let x' := { x with sampled := n, depthMax := Nat.max x.depthMax q.depth }
        { s with tm := { s.tm with watches := mput s.tm.watches w x' } }) s

/-- The bin of a delay (R518). -/
def latencyBin (d : Nat) : Nat := if d < 2 then 0 else Nat.min 31 (Nat.log2 d)

/-- A release of a watched queue (R323, R517, R518). -/
def State.watchRelease (s : State) (i delay : Nat) (h : Held) (q : Queue) : State :=
  (s.watchers i).foldl (fun s w =>
    let x := mgetD .reset s.tm.watches w
    let b := latencyBin delay
    let x' := { x with
      released := x.released + 1
      delayMin := if x.released = 0 then delay else Nat.min x.delayMin delay
      delayMax := Nat.max x.delayMax delay
      delaySum := x.delaySum + delay
      bins := mput x.bins b ((mgetD 0 x.bins b + 1) % 2 ^ 64) }
    let (r, g) := lfsrDraw (mgetD 1 s.stats.latLfsr q.owner) 32
    let lg := s.reg 0xC802 1
    let s1 := { s with
      tm := { s.tm with watches := mput s.tm.watches w x' }
      stats := { s.stats with latLfsr := mput s.stats.latLfsr q.owner g } }
    if lg ≠ 0xFF ∧ r % 2 ^ lg = 0 then
      s1.pushRing 2 (natBe s.ptp 8 ++ natBe (s.handle 1 i) 4 ++ natBe delay 4 ++ natBe q.depth 4 ++ natBe h.frame.length 2
        ++ natBe h.cls 1 ++ natBe h.colour 1 ++ natBe w 2 ++ List.replicate 6 0)
    else s1) s

/-! ### Round lists (R305) -/

/-- The attachment of a child. -/
def State.attach (s : State) : Child → Option Attach
  | .queue i => (mget s.tm.queues i).map (·.att)
  | .node i => (mget s.tm.nodes i).map (·.att)

/-- The attachment of a child changed. -/
def State.setAttach (s : State) (c : Child) (f : Attach → Attach) : State :=
  match c with
  | .queue i => match mget s.tm.queues i with
    | some q => s.setQueue i { q with att := f q.att }
    | none => s
  | .node i => match mget s.tm.nodes i with
    | some n => s.setNode i { n with att := f n.att }
    | none => s

/-- The parent node of a child; a VOQ has none. -/
def State.parentOf (s : State) : Child → Option Nat
  | .queue i => (mget s.tm.queues i).bind fun q => if q.voq then none else some q.parentNode
  | .node i => (mget s.tm.nodes i).bind (·.parent)

/-- A child becomes backlogged: it joins the tail of its parent's round list with no deficit, marked fresh, and so does every
node above that was not backlogged. Trees have three levels of nodes. -/
def State.joinRound : Nat → State → Child → State
  | 0, s, _ => s
  | fuel + 1, s, c =>
    match s.parentOf c with
    | none => s
    | some p =>
      match mget s.tm.nodes p with
      | none => s
      | some n =>
        if n.round.contains c then s
        else
          let s1 := (s.setAttach c fun a => { a with deficit := 0, fresh := true })
          match mget s1.tm.nodes p with
          | none => s1
          | some n => State.joinRound fuel (s1.setNode p { n with round := n.round ++ [c] }) (.node p)

/-- A child stops being backlogged: it leaves its parent's round list with its deficit set to zero, and so does every node above
that holds nothing more. -/
def State.leaveRound : Nat → State → Child → State
  | 0, s, _ => s
  | fuel + 1, s, c =>
    match s.parentOf c with
    | none => s
    | some p =>
      let s1 := s.setAttach c fun a => { a with deficit := 0 }
      match mget s1.tm.nodes p with
      | none => s1
      | some n =>
        let r := n.round.filter (· ≠ c)
        let s2 := s1.setNode p { n with round := r }
        if r.isEmpty then State.leaveRound fuel s2 (.node p) else s2

/-! ### Cells, descriptors and segments (R279 to R283) -/

/-- Cells that a packet holds on-die: a copy of a multicast packet holds none (R294). -/
def Held.ownCells (h : Held) : Nat := if h.stored.isSome then 0 else h.cells

/-- A packet that is on-die, wherever its copy in HBM stands. -/
def Held.onDie (h : Held) : Bool :=
  match h.location with
  | .onDie | .writing _ => true
  | _ => false

/-- A packet that takes on-die cells: it is on-die, or on its way back (R282). -/
def Held.takesCells (h : Held) : Bool :=
  match h.location with
  | .hbm _ => false
  | _ => true

/-- Cells and one descriptor given back. -/
def State.giveBack (s : State) (cells descriptors : Nat) : State :=
  { s with tm := { s.tm with cells := s.tm.cells - cells, descriptors := s.tm.descriptors - descriptors } }

/-- A copy of a stored multicast packet has ended or been handed over; the last one frees the stored packet (R295). -/
def State.endCopy (s : State) (id : Option Nat) : State :=
  match id with
  | none => s
  | some k =>
    match mget s.tm.stored k with
    | none => s
    | some m =>
      if m.copies ≤ 1 ∧ !m.making then
        ({ s with tm := { s.tm with stored := mdel s.tm.stored k } }).giveBack m.cells 1
      else { s with tm := { s.tm with stored := mput s.tm.stored k { m with copies := m.copies - 1 } } }

/-- What a packet holds in the buffer is freed. -/
def State.freeHeld (s : State) (h : Held) : State :=
  let s1 := if h.takesCells then s.giveBack h.ownCells 1 else s
  s1.endCopy h.stored

/-- The number of the first segment of a queue that lies in HBM and is not being read. -/
def Queue.firstHbm (q : Queue) : Option Nat :=
  q.packets.findSome? fun h => match h.location with | .hbm g => some g | _ => none

/-- Segments of a queue being read back. -/
def Queue.reading (q : Queue) : List Nat :=
  (q.packets.filterMap fun h => match h.location with | .reading g => some g | _ => none).eraseDups

/-- On-die cells ahead of the first packet that is in HBM or in flight back (R282). -/
def Queue.headCells (q : Queue) : Nat :=
  ((q.packets.takeWhile Held.onDie).map (·.cells)).foldl (· + ·) 0

/-- On-die cells ahead of the first packet of a segment whose write is in progress (R283). -/
def Queue.aheadOfWrite (q : Queue) (g : Nat) : Nat :=
  ((q.packets.takeWhile fun h => decide (h.location ≠ .writing g)).map (·.cells)).foldl (· + ·) 0

/-- Read-backs begin while the on-die head of a queue is short, at most four at once, as free cells allow (R282). -/
def State.startReadback : Nat → State → Nat → State
  | 0, s, _ => s
  | fuel + 1, s, i =>
    match mget s.tm.queues i with
    | none => s
    | some q =>
      match q.firstHbm with
      | none => s
      | some g =>
        let mine := q.packets.filter fun h => decide (h.location = .hbm g)
        let cells := (mine.map Held.ownCells).foldl (· + ·) 0
        if q.headReserve ≤ q.headCells ∨ 4 ≤ q.reading.length ∨ bufferCells < s.tm.cells + cells
            ∨ bufferDescriptors < s.tm.descriptors + mine.length then s
        else
          let ps := q.packets.map fun h => if h.location = .hbm g then { h with location := .reading g } else h
          let s1 := s.setQueue i { q with packets := ps }
          State.startReadback fuel
            (({ s1 with tm := { s1.tm with cells := s1.tm.cells + cells, descriptors := s1.tm.descriptors + mine.length } }).segmentAccess 0) i

/-- Spills whose head part has become short are abandoned: the packets stay on-die (R283). -/
def State.abandonSpills (s : State) (i : Nat) : State :=
  match mget s.tm.queues i with
  | none => s
  | some q =>
    let writing := (q.packets.filterMap fun h => match h.location with | .writing g => some g | _ => none).eraseDups
    writing.foldl (fun s g =>
      match mget s.tm.queues i with
      | none => s
      | some q =>
        if q.headReserve ≤ q.aheadOfWrite g then s
        else
          let ps := q.packets.map fun h => if h.location = .writing g then { h with location := .onDie } else h
          (s.setQueue i { q with packets := ps }).bump 0x7050 3) s

/-- What follows when packets have left a queue: an empty queue starts its count of empty microseconds (R276) and leaves its
round list (R305); otherwise spills are abandoned and read-backs begun as the head part needs. -/
def State.afterLeave (s : State) (i : Nat) : State :=
  match mget s.tm.queues i with
  | none => s
  | some q =>
    if q.packets.isEmpty then
      (s.setQueue i { q with emptySince := s.now, emptyApplied := 0 }).leaveRound 4 (.queue i)
    else State.startReadback 4 (s.abandonSpills i) i

/-! ### Ends (R33) -/

/-- Packets of a queue that a test picks reach a deliberate end: they leave, what they hold is freed, and the queue counts them
(R290, R505). The result carries how many. -/
def State.endPackets (s : State) (i : Nat) (pick : Held → Bool) : State × Nat :=
  match mget s.tm.queues i with
  | none => (s, 0)
  | some q =>
    let gone := q.packets.filter pick
    if gone.isEmpty then (s, 0)
    else
      let n := gone.length
      let s1 := s.watchSample i
      let s2 := s1.setQueue i { q with packets := q.packets.filter (fun h => !pick h), ended := (q.ended + n) % 2 ^ 64 }
      let s3 := gone.foldl State.freeHeld s2
      let s4 := s3.countQueue i fun e => { e with ended := e.ended + n }
      (s4.afterLeave i, n)

/-- A packet that a standby no longer holds, or that was lost, leaves without counting as ended. -/
def State.dropPackets (s : State) (i : Nat) (pick : Held → Bool) : State × Nat :=
  match mget s.tm.queues i with
  | none => (s, 0)
  | some q =>
    let gone := q.packets.filter pick
    if gone.isEmpty then (s, 0)
    else
      let s2 := (s.watchSample i).setQueue i { q with packets := q.packets.filter (fun h => !pick h) }
      (((gone.foldl State.freeHeld s2).afterLeave i), gone.length)

/-- A released packet's custody ends, at its handover or at a deliberate end: its cells, its descriptor and its charge are given
back (R279, R304). -/
def State.endCustody (s : State) (port : Nat) (c : Option Custody) : State :=
  match c with
  | none => s
  | some c =>
    let m := s.mac port
    let s1 := s.setMac port { m with charged := m.charged - c.charged }
    (s1.giveBack c.cells 1).endCopy c.stored

/-- A deliberate end of a released packet, counted by its queue where that still exists. -/
def State.endReleased (s : State) (port : Nat) (c : Option Custody) : State :=
  let s1 := s.endCustody port c
  match c with
  | none => s1
  | some c =>
    match mget s1.tm.queues c.queue with
    | none => s1
    | some q =>
      (s1.setQueue c.queue { q with ended := (q.ended + 1) % 2 ^ 64 }).countQueue c.queue fun e => { e with ended := e.ended + 1 }

/-! ### Release -/

/-- QUEUE_DELAY_NS of a packet released now (R290), saturated to 32 bits (R169). -/
def State.delayOf (s : State) (h : Held) : Nat := Nat.min (s.now - h.verdict) (2 ^ 32 - 1)

/-- The oldest packet of a queue, if it is on-die (R282). -/
def Queue.head (q : Queue) : Option Held :=
  match q.packets with
  | h :: _ => if h.onDie then some h else none
  | [] => none

/-- A queue releases its oldest packet: it leaves the queue with its buffer cells still allocated, and statistics, watches and
traces record it. The result carries the packet, its delay and the bytes in the queue at departure (R156). -/
def State.release (s : State) (i : Nat) : Option (Held × Nat × Nat × State) :=
  match mget s.tm.queues i with
  | none => none
  | some q =>
    match q.head with
    | none => none
    | some h =>
      let delay := s.delayOf h
      let bytes := Nat.min q.depthBytes (2 ^ 32 - 1)
      let s1 := s.watchSample i
      let s2 := s1.setQueue i { q with packets := q.packets.drop 1 }
      let s3 := s2.countQueue i fun e =>
        { e with releasedPackets := e.releasedPackets + 1, releasedBytes := e.releasedBytes + h.frame.length }
      let s4 := s3.watchRelease i delay h { q with packets := q.packets.drop 1 }
      let s5 := s4.trace h.traceId (byteAt h.record 2) (beAt h.record 0 2) 6
        (natBe (s.handle 1 i) 4 ++ natBe delay 4 ++ natBe bytes 4)
      some (h, delay, bytes, s5.afterLeave i)

/-! ### Port flush (R243, R291, R292) -/

/-- A port joins the flush scan of a region at the scan's position; its bit clears once the scan has come back there (R244). -/
def State.joinFlush (s : State) (r port : Nat) (static : Bool) : State :=
  let f := mgetD { pos := 0, ports := [] } s.tables.flush r
  let old := f.ports.any fun j => decide (j.port = port) && j.static
  let ports := f.ports.filter (fun j => decide (j.port ≠ port)) ++ [{ port := port, static := static || old, pos := f.pos }]
  { s with tables := { s.tables with flush := mput s.tables.flush r { f with ports := ports } } }

/-- A region flushes on a port's going down: FLUSH_ON_DOWN, with a PORT_BYTE to match (R211, R243). -/
def Region.flushes (r : Region) : Bool := r.em && bitAt (byteAt r.params 14) 0 && decide (byteAt r.params 13 ≠ 0xFF)

/-- Every frame of a port's MAC that is not handed over is discarded, as a deliberate end of the first kind (R291, R322). -/
def State.emptyMac (s : State) (p : Nat) : State × Nat :=
  let m := s.mac p
  let ps := m.fifo ++ m.holding.map (·.2) ++ m.sending.toList
  let s1 := s.setMac p { m with fifo := [], holding := [], sending := none, heldGates := [] }
  (ps.foldl (fun s x => s.endReleased p x.custody) s1, ps.length)

/-- Steps 2 and 3 of R291: the port's queues and its MAC are emptied, and the flush is in progress. A second indication before
FLUSH_DONE changes nothing (R292). -/
def State.startFlush (s : State) (p : Nat) : State :=
  if s.reg 0x7043 p = 1 then s
  else
    let s1 := s.setReg 0x7043 p 1
    let mine := s1.tm.queues.filterMap fun (i, q) => if !q.voq ∧ q.port = p then some i else none
    let (s2, n) := mine.foldl (fun (s, n) i => let (s', k) := s.endPackets i (fun _ => true); (s', n + k)) (s1, 0)
    let (s3, m) := s2.emptyMac p
    let x := s3.port p
    (s3.setPort p { x with flushed := n + m, flushSince := s.now }).count 0x7042 p (n + m)

/-- A port that was up goes down for a cause (R424, R425, R291, R243). `state` is what PORT_STATE reads then. -/
def State.portDown (s : State) (p cause state : Nat) : State :=
  let was := s.reg 0x3003 p
  let x := s.port p
  let s0 := s.setPort p { x with cause := none, cleanSince := none }
  if was ≠ 4 ∧ was ≠ 5 then s0
  else
    let s1 := (((s0.setReg 0x3003 p state).bump 0x3009 p).setReg 0x300A p s.ptp).setReg 0x300B p cause
    let regions := s1.tables.regions.filterMap fun (r, x) => if x.flushes then some r else none
    let s2 := regions.foldl (fun s r => s.joinFlush r p false) s1
    s2.startFlush p

end Sys2Proof.Machine
end

