-- ==== Sys2Proof/Machine/PairOps.lean ====
section
/-! DEFINITION. Sys2Proof/Machine/PairOps.lean: what the pair does to the unit as a whole: identity, status, the fence, the loss
of the mate and a standby's going stale (R351, R361, R369, R379 to R383, R575). -/

namespace Sys2Proof.Machine

/-- IDENTITY is sent again whenever its content changes while the mate link is up (R361). -/
def State.refreshIdentity (s : State) : State :=
  let b := s.identity
  if !s.mateLinkUp ∨ !s.pairEnabled ∨ b = s.pair.sentIdentity then s
  else (({ s with pair := { s.pair with sentIdentity := b } }).sendRecord (typedRecord 0x41 b)).1

/-- DRAINED_EPOCH of a STATUS record (R359, R368): the last epoch that no packet carries any longer. -/
def State.drainedEpoch (s : State) : Nat :=
  let older := (s.epochs.current + 65535) % 65536
  if s.inflight older = 0 then older else (older + 65535) % 65536

/-- A STATUS record of the standby (R359). -/
def State.sendStatus (s : State) (flags : Nat) : State :=
  (s.sendRecord (typedRecord 0x4E (natBe s.pair.stagedTicket 4 ++ natBe s.drainedEpoch 2 ++ natBe flags 2))).1

/-- What both units forget when a pair breaks or begins anew: blocks, entries, marks, digests and staged changes. -/
def Pair.clear (p : Pair) : Pair :=
  { p with blocks := [], ordinals := [], entries := [], frames := [], extras := [], positions := [], fabricBits := [], copyBits := [],
           openFabric := [], openCopies := [], ctxs := [], digests := [], marks := [], staged := [], readySent := false }

/-- The pair breaks on this unit: its phase ends and what belonged to it is forgotten (R369, R575). -/
def State.breakPair (s : State) (lost : Bool) : State :=
  let held := decide (s.pair.phase ≠ .apart)
  { s with pair := { s.pair.clear with
      phase := .apart, mateLost := s.pair.mateLost || (lost && held), copyAsked := false, copied := []
      switching := false } }

/-- An active unit fences itself (R380): it has role FENCED and PAIR_INTENT STANDBY, and keeps its mode. -/
def State.fence (s : State) : State :=
  if s.role ≠ 1 then s
  else
    let s1 := s.breakPair false
    (({ s1 with pair := { s1.pair with fenced := true } }).setReg 0x9000 2 1).refreshIdentity

/-- The active loses its standby and keeps forwarding (R369, R381). -/
def State.loseMate (s : State) : State := s.breakPair true

/-- A standby becomes stale with a cause (R383): in SHADOW it leaves for CATCHUP with everything it holds discarded, and begins
again; in CATCHUP the trial begins again. -/
def State.goStale (s : State) (cause number : Nat) : State :=
  if s.role ≠ 2 then s
  else
    let s1 := (((s.raiseEvent 5 cause number).bump 0x9001 4).setReg 0x9001 5 cause).healthFree 10 cause []
    if s.mode = .shadow then
      let (s2, n) := (s1.tm.queues.map (·.1)).foldl
        (fun (s, n) i => let (s', k) := s.dropPackets i (fun _ => true); (s', n + k)) (s1, 0)
      let s3 := s2.count 0x9001 0x0B n
      let ms := s3.power.ms
      let aborted := decide (ms.status = .inProgress) || decide (ms.status = .drainTimeout)
      let s4 := { s3 with
        power := { s3.power with ms := { ms with
          mode := .catchup, target := none, pending := none, status := if aborted then .aborted else ms.status } }
        pair := { s3.pair.clear with phase := .copying, copied := [] } }
      let s5 := ((s4.setReg 0x2000 3 Mode.shadow.code).bump 0x2000 4)
      (s5.sendStatus 9).refreshIdentity
    else
      ({ s1 with pair := { s1.pair.clear with phase := s1.pair.phase, staged := s1.pair.staged } }).sendStatus 8

/-- An entry of a QUEUE_END record (R359): KIND 0 DESTROYED, 1 LOST, 2 FOREIGN. -/
def queueEndEntry (dest cls kind value : Nat) : List Byte :=
  natBe (dest % 4096 * 2 ^ 52 + cls % 8 * 2 ^ 49 + kind * 2 ^ 47 + value % 2 ^ 24) 8

/-- A QUEUE_END of one entry is placed in the ordered stream (R364); the result carries its BUNDLE_SEQ. -/
def State.sendQueueEnd (s : State) (dest cls kind value : Nat) : State × Nat :=
  s.sendRecord (typedRecord 0x49 (queueEndEntry dest cls kind value))

/-- A context of the pair's SEQ accounting. -/
def State.pairCtx (s : State) (k : Nat) : PairCtx :=
  mgetD { baseSeq := 0, era := 0, count := 0, lost := [], foreign := [], done := 0, doneEra := 0 } s.pair.ctxs k
/-- A context of the pair's SEQ accounting stored. -/
def State.setPairCtx (s : State) (k : Nat) (c : PairCtx) : State := { s with pair := { s.pair with ctxs := mput s.pair.ctxs k c } }

/-- The mate's BUNDLE_ACK covers a cell; no gate holds outside IN_STEP (R373). A gate of 2^32 or more stands for a record not sent
yet: a block not closed, or, with 2^33 and the number of the stored packet, a COPY_VERDICT. -/
def State.covered (s : State) (gate : Option Nat) : Bool :=
  match gate with
  | none => true
  | some g => !(s.mateInShadow) || decide (g < 2 ^ 32) && decide ((s.pair.bundleAcked + 2 ^ 32 - 1 + (2 ^ 32 - g)) % 2 ^ 32 < 2 ^ 31)

/-- Packets of a queue are lost to a memory error (R285): each is counted and recorded, and one that an active holds in a VOQ is
announced (R364). -/
def State.losePackets (s : State) (i : Nat) (pick : Held → Bool) : State :=
  match mget s.tm.queues i with
  | none => s
  | some q =>
    let gone := q.packets.filter pick
    let s1 := (s.dropPackets i pick).1
    gone.foldl (fun s h =>
      let s1 := (s.bump 0x7050 4).healthFree 7 4 (natBe (s.handle 1 i) 4)
      if q.voq && s1.activeInPair then (s1.sendQueueEnd q.dest q.cls 1 h.ordinal).1 else s1) s1

/-- An answer to the operation that a job waits for; the rest of the job goes on when the step settles its jobs. -/
def State.replyJob (s : State) (id : Nat) (a : OpAns) : State :=
  match mget s.acc.jobs id with
  | none => s
  | some j =>
    { s with acc := { s.acc with jobs := mput s.acc.jobs id { j with answered := j.answered ++ [a], ready := true } } }

end Sys2Proof.Machine
end

