-- ==== Sys2Proof/Machine/Parse.lean ====
section
/-! DEFINITION. Sys2Proof/Machine/Parse.lean: parse-graph nodes, the walk over a frame, the parse result of segment 1, the
checks of a node write, and the default graph (R189 to R207). -/

namespace Sys2Proof.Machine

/-- The value that ends a walk COMPLETE (R191). -/
def nodeEnd : Nat := 0x100
/-- The value that ends a walk UNKNOWN (R191). -/
def nodeUnknown : Nat := 0x101

/-- A transition of R192. -/
structure Trans where
  mask : Nat
  value : Nat
  next : Nat
  deriving DecidableEq, Repr

/-- A node of R191, field by field. -/
structure Node where
  valid : Bool
  layerSlot : Nat
  layerTag : Nat
  selOffset : Nat
  selWidth : Nat
  advField : Bool
  advMin : Nat
  alenOffset : Nat
  alenWidth : Nat
  alenShift : Nat
  alenAdd : Nat
  clenOffset : Nat
  clenWidth : Nat
  clenAdd : Nat
  fragKind : Nat
  flags : Nat
  setFlags : Nat
  longFlags : Nat
  defaultNext : Nat
  trans : List Trans
  deriving DecidableEq, Repr

/-- Transition k of a node held as a number. -/
def transAt (n k : Nat) : Trans :=
  let t := fld n (831 - 80 * k) (752 - 80 * k)
  { mask := fld t 79 48, value := fld t 47 16, next := fld t 8 0 }

/-- The fields of a node's 128 bytes, bits [1023:1016] in byte 0 (R191). -/
def decodeNode (bs : List Byte) : Node :=
  let n := beNat bs
  { valid := bitAt n 1023, layerSlot := fld n 1022 1019, layerTag := fld n 1018 1011, selOffset := fld n 1010 999,
    selWidth := fld n 998 994 + 1, advField := bitAt n 993, advMin := fld n 992 984, alenOffset := fld n 983 972,
    alenWidth := fld n 971 968 + 1, alenShift := fld n 967 964, alenAdd := fld n 963 955, clenOffset := fld n 954 943,
    clenWidth := fld n 942 939 + 1, clenAdd := fld n 938 930, fragKind := fld n 929 928, flags := fld n 927 920,
    setFlags := fld n 919 904, longFlags := fld n 903 888, defaultNext := fld n 887 879,
    trans := (List.range 10).map (transAt n) }

/-- NODE_FLAGS bits (R193). -/
def Node.clenPresent (n : Node) : Bool := bitAt n.flags 7
/-- EXACT_LEN (R193). -/
def Node.exactLen (n : Node) : Bool := bitAt n.flags 6
/-- LEN_PUNT (R193). -/
def Node.lenPunt (n : Node) : Bool := bitAt n.flags 5
/-- KEEP_SLOT (R193). -/
def Node.keepSlot (n : Node) : Bool := bitAt n.flags 4
/-- NO_SLOT (R193). -/
def Node.noSlot (n : Node) : Bool := bitAt n.flags 3
/-- PASS_FIRST_FRAG (R193). -/
def Node.passFirstFrag (n : Node) : Bool := bitAt n.flags 2
/-- IPV4_CSUM (R193). -/
def Node.ipv4Csum (n : Node) : Bool := bitAt n.flags 1

/-- The byte count that holds the last bit of a field. -/
def lastByteOf (offset width : Nat) : Nat := (offset + width + 7) / 8

/-- The read extent of a node (R194). -/
def Node.readExtent (n : Node) : Nat :=
  let a := max n.advMin (lastByteOf n.selOffset n.selWidth)
  let a := if n.advField then max a (lastByteOf n.alenOffset n.alenWidth) else a
  let a := if n.clenPresent then max a (lastByteOf n.clenOffset n.clenWidth) else a
  if n.fragKind = 1 then max a 8 else if n.fragKind = 2 then max a 4 else a

/-- The header length of a node whose layer starts at `start` (R194). -/
def Node.advance (n : Node) (layer : List Byte) : Nat :=
  if n.advField then bitsAt layer n.alenOffset n.alenWidth * 2 ^ n.alenShift + n.alenAdd else n.advMin

/-- How a walk ends (R203). -/
inductive ParseEnd where
  | complete | unknown | puntDepth | puntConflict | puntFragment | dropTruncated | dropConflict
  deriving DecidableEq, Repr

/-- A walk in progress, and at its end the parse result (R196, R201). -/
structure Walk where
  node : Nat
  start : Nat
  enclosing : Nat
  visits : Nat
  lastNode : Nat
  firstClaim : Bool
  /-- Layer slots recorded: slot, tag, offset. -/
  slots : List (Nat × Nat × Nat)
  userFlags : Nat
  devFlags : Nat
  /-- Nodes at which the header checksum was bad (R200). -/
  badSums : Nat
  deriving DecidableEq, Repr

/-- The one's-complement sum of the 16-bit words of a byte string, an odd last byte padded with zero. -/
def onesSum (bs : List Byte) : Nat :=
  let raw := (List.range ((bs.length + 1) / 2)).foldl (fun acc k => acc + beAt bs (2 * k) 2) 0
  let r1 := raw % 65536 + raw / 65536
  r1 % 65536 + r1 / 65536

/-- The layer recorded in a slot: its tag and offset. -/
def slotOf (slots : List (Nat × Nat × Nat)) (k : Nat) : Option (Nat × Nat) :=
  (slots.find? (fun e => decide (e.1 = k))).map (·.2)

/-- Records the layer of a node (R202): NO_SLOT records none, KEEP_SLOT only into an empty slot. -/
def recordSlot (n : Node) (start : Nat) (slots : List (Nat × Nat × Nat)) : List (Nat × Nat × Nat) :=
  if n.noSlot then slots
  else if n.keepSlot && (slotOf slots n.layerSlot).isSome then slots
  else (n.layerSlot, n.layerTag, start) :: slots.filter (fun e => decide (e.1 ≠ n.layerSlot))

/-- The next node (R192): the first used transition that matches, else DEFAULT_NEXT. -/
def Node.nextNode (n : Node) (sel : Nat) : Nat :=
  match n.trans.find? (fun t => decide (t.mask ≠ 0) && decide (sel &&& t.mask = t.value)) with
  | some t => t.next
  | none => n.defaultNext

/-- Fragment fields of R199: whether the layer is a fragment, and whether its offset is zero. -/
def fragState (kind : Nat) (layer : List Byte) : Bool × Bool :=
  let off := if kind = 1 then bitsAt layer 51 13 else bitsAt layer 16 13
  let more := if kind = 1 then bitsAt layer 50 1 else bitsAt layer 31 1
  (decide (more = 1 ∨ off ≠ 0), decide (off = 0))

/-- What a node's visit gives: the walk goes on, or it stops. -/
inductive Visit where
  | go (w : Walk)
  | stop (w : Walk) (e : ParseEnd)
  deriving DecidableEq, Repr

/-- One node visit with the checks of R196 in their order; `avail` is the frame without its FCS. -/
def visitNode (getNode : Nat → Node) (frame : List Byte) (avail : Nat) (w0 : Walk) : Visit :=
  let w := { w0 with visits := w0.visits + 1, lastNode := w0.node }
  if 24 < w.visits then .stop w .puntDepth else
  let n := getNode w.node
  let layer := frame.drop w.start
  let conflict : ParseEnd := if n.lenPunt then .puntConflict else .dropConflict
  if avail < w.start + n.readExtent then .stop w .dropTruncated else
  if 384 < w.start + n.readExtent then .stop w .puntDepth else
  let adv := n.advance layer
  if adv < n.advMin then .stop w conflict else
  if avail < w.start + adv then .stop w .dropTruncated else
  if 384 < w.start + adv then .stop w .puntDepth else
  if w.enclosing < w.start + adv then .stop w conflict else
  let claimed := w.start + bitsAt layer n.clenOffset n.clenWidth + n.clenAdd
  let bad := n.clenPresent &&
    (decide (w.enclosing < claimed) || decide (claimed < w.start + adv) || (n.exactLen && decide (claimed ≠ w.enclosing)))
  if bad then .stop w conflict else
  let pad := n.clenPresent && w.firstClaim && decide (claimed < avail)
  let csumBad := n.ipv4Csum && decide (onesSum (layer.take adv) ≠ 0xFFFF)
  let w := { w with
    enclosing := if n.clenPresent then claimed else w.enclosing
    firstClaim := w.firstClaim && !n.clenPresent
    slots := recordSlot n w.start w.slots
    userFlags := w.userFlags ||| n.setFlags ||| (if n.advMin < adv then n.longFlags else 0)
    devFlags := w.devFlags ||| (if pad then 16 else 0) ||| (if csumBad then 8 else 0)
    badSums := w.badSums + (if csumBad then 1 else 0) }
  let next := n.nextNode (bitsAt layer n.selOffset n.selWidth)
  if n.fragKind = 0 then .go { w with start := w.start + adv, node := next } else
  let (isFrag, isFirst) := fragState n.fragKind layer
  if isFrag then
    let w := { w with devFlags := w.devFlags ||| 1 ||| (if isFirst then 2 else 0) }
    if isFirst && n.passFirstFrag then .go { w with start := w.start + adv, node := next } else .stop w .puntFragment
  else
    let w := if n.fragKind = 2 then { w with devFlags := w.devFlags ||| 4 } else w
    .go { w with start := w.start + adv, node := next }

/-- The walk of R196. Every visit counts, so 25 visits bound it. -/
def walkGraph (getNode : Nat → Node) (frame : List Byte) (avail : Nat) : Nat → Walk → Walk × ParseEnd
  | 0, w => (w, .puntDepth)
  | fuel + 1, w =>
    if w.node = nodeUnknown then (w, .unknown)
    else if 0x100 ≤ w.node then (w, .complete)
    else match visitNode getNode frame avail w with
      | .go w' => walkGraph getNode frame avail fuel w'
      | .stop w' e => (w', e)

/-- The parse of a frame of FRAME_LENGTH bytes, FCS included, from a start node (R190, R196). -/
def parseFrame (getNode : Nat → Node) (frame : List Byte) (startNode : Nat) : Walk × ParseEnd :=
  let avail := frame.length - 4
  walkGraph getNode frame avail 26
    { node := startNode, start := 0, enclosing := avail, visits := 0, lastNode := 0, firstClaim := true, slots := [],
      userFlags := 0, devFlags := 0, badSums := 0 }

/-- OUTCOME of segment 1 (R201). A parser drop leaves the values of a punt in the segment that tracing reports (R196). -/
def ParseEnd.outcome : ParseEnd → Nat
  | .complete => 0
  | .unknown => 1
  | _ => 2

/-- The three bytes of layer slot k (R202): VALID [23], TAG [22:15], OFFSET [14:6]. -/
def slotBytes (slots : List (Nat × Nat × Nat)) (k : Nat) : List Byte :=
  match slotOf slots k with
  | none => [0, 0, 0]
  | some (tag, off) => natBe (2 ^ 23 + tag * 2 ^ 15 + off * 2 ^ 6) 3

/-- Segment 1 of the record (R201). A start node of END parses nothing and leaves it zero (R190). -/
def segment1 (w : Walk) (e : ParseEnd) : List Byte :=
  if w.visits = 0 then List.replicate 64 0
  else
    ((List.range 16).map (slotBytes w.slots)).flatten ++ natBe w.visits 1 ++ natBe w.lastNode 1 ++ natBe w.start 2
      ++ natBe e.outcome 1 ++ [0] ++ natBe w.userFlags 2 ++ natBe w.devFlags 2 ++ natBe w.enclosing 2 ++ [0, 0, 0, 0]

/-- Start and end of the layer in a slot (R202): it ends at the lowest greater OFFSET of a valid slot, or at HEADER_END. -/
def layerSpan (slots : List (Nat × Nat × Nat)) (headerEnd k : Nat) : Option (Nat × Nat) :=
  (slotOf slots k).map fun (_, off) =>
    let later := (slots.map (·.2.2)).filter (fun o => decide (off < o))
    (off, later.foldl min headerEnd)

/-- The layer slots that segment 1 of a record holds, read back. -/
def slotsOfRecord (rec : List Byte) : List (Nat × Nat × Nat) :=
  (List.range 16).filterMap fun k =>
    let v := beAt rec (64 + 3 * k) 3
    if bitAt v 23 then some (k, fld v 22 15, fld v 14 6) else none

/-- A reserved node reference is 0x102 or above (R191). -/
def refReserved (r : Nat) : Bool := decide (0x102 ≤ r)

/-- Whether a transition breaks R195 for a selector of this width. -/
def badTrans (selWidth : Nat) (t : Trans) : Bool :=
  (decide (t.mask = 0) && decide (t.value ≠ 0)) || decide (2 ^ selWidth ≤ t.mask) || decide (2 ^ selWidth ≤ t.value)
    || decide (t.value &&& t.mask ≠ t.value) || refReserved t.next

/-- Whether the bytes of a node pass the write checks of R195 and R4. -/
def nodeWriteOk (bs : List Byte) : Bool :=
  let v := beNat bs
  let n := decodeNode bs
  decide (bs.length = 128) && decide (fld v 878 832 = 0) && decide (fld v 31 0 = 0)
    && (List.range 10).all (fun k => decide (fld v (831 - 80 * k - 64) (831 - 80 * k - 70) = 0))
    && decide (n.fragKind ≠ 3) && !bitAt n.flags 0 && decide (n.advMin ≤ 384) && !(n.keepSlot && n.noSlot)
    && decide (n.readExtent ≤ 384) && (n.advField || decide (fld v 983 955 = 0))
    && (n.clenPresent || (decide (fld v 954 930 = 0) && !n.exactLen && !n.lenPunt))
    && !(n.trans.any (badTrans n.selWidth)) && !refReserved n.defaultNext

/-- The nodes that a node refers to: DEFAULT_NEXT, and the NEXT of each used transition (R195). -/
def Node.refs (n : Node) : List Nat :=
  n.defaultNext :: (n.trans.filter (fun t => decide (t.mask ≠ 0))).map (·.next)

/-- The number of a node from its fields, for the default graph. -/
def encodeNode (n : Node) : Nat :=
  let t := (List.range 10).foldl (fun acc k =>
    match n.trans[k]? with
    | some t => acc + (t.mask * 2 ^ 48 + t.value * 2 ^ 16 + t.next) * 2 ^ (752 - 80 * k)
    | none => acc) 0
  (if n.valid then 2 ^ 1023 else 0) + n.layerSlot * 2 ^ 1019 + n.layerTag * 2 ^ 1011 + n.selOffset * 2 ^ 999
    + (n.selWidth - 1) * 2 ^ 994 + (if n.advField then 2 ^ 993 else 0) + n.advMin * 2 ^ 984 + n.alenOffset * 2 ^ 972
    + (n.alenWidth - 1) * 2 ^ 968 + n.alenShift * 2 ^ 964 + n.alenAdd * 2 ^ 955 + n.clenOffset * 2 ^ 943
    + (n.clenWidth - 1) * 2 ^ 939 + n.clenAdd * 2 ^ 930 + n.fragKind * 2 ^ 928 + n.flags * 2 ^ 920
    + n.setFlags * 2 ^ 904 + n.longFlags * 2 ^ 888 + n.defaultNext * 2 ^ 879 + t

/-- A valid node with a FIXED advance and no claimed length. -/
def fixedNode (slot tag adv selOff selWidth : Nat) (trans : List Trans) (dflt flags setFlags : Nat) : Node :=
  { valid := true, layerSlot := slot, layerTag := tag, selOffset := selOff, selWidth := selWidth, advField := false,
    advMin := adv, alenOffset := 0, alenWidth := 1, alenShift := 0, alenAdd := 0, clenOffset := 0, clenWidth := 1,
    clenAdd := 0, fragKind := 0, flags := flags, setFlags := setFlags, longFlags := 0, defaultNext := dflt, trans := trans }

/-- Transitions with a MASK of all ones of the selector width. -/
def full (w : Nat) (l : List (Nat × Nat)) : List Trans := l.map fun (v, n) => { mask := 2 ^ w - 1, value := v, next := n }

/-- A node with a 16-bit claimed length at a bit offset. -/
def withClen (n : Node) (off add : Nat) : Node :=
  { n with clenOffset := off, clenWidth := 16, clenAdd := add, flags := n.flags ||| 0x80 }

/-- A node whose advance is a field of this width at this bit offset. -/
def withField (n : Node) (w off shift add minLen : Nat) : Node :=
  { n with advField := true, alenOffset := off, alenWidth := w, alenShift := shift, alenAdd := add, advMin := minLen }

/-- The default graph of R206, node by node from 0x00. -/
def defaultGraph : List Node :=
  [ fixedNode 0 0x01 14 96 16
      (full 16 [(0x8100, 1), (0x88A8, 1), (0x0800, 3), (0x86DD, 4), (0x8847, 2), (0x8848, 2)]) nodeUnknown 0 0,
    fixedNode 1 0x02 4 16 16
      (full 16 [(0x8100, 1), (0x0800, 3), (0x86DD, 4), (0x8847, 2), (0x8848, 2)]) nodeUnknown 0x10 (2 ^ 0),
    fixedNode 3 0x03 4 23 1 (full 1 [(0, 2)]) 5 0x10 (2 ^ 1),
    { withClen (withField (fixedNode 2 0x04 20 72 8 (full 8 [(17, 8), (6, 9), (4, 0x0D), (41, 0x0E)]) nodeEnd 0x02 (2 ^ 2))
        4 4 2 0 20) 16 0 with fragKind := 1, longFlags := 2 ^ 6 },
    withClen (fixedNode 2 0x05 40 48 8
      (full 8 [(17, 8), (6, 9), (43, 6), (44, 7), (0, 0x0A), (60, 0x0A), (41, 0x0E), (4, 0x0D)]) nodeEnd 0 (2 ^ 3)) 32 40,
    fixedNode 0 0 0 0 4 (full 4 [(4, 3), (6, 4)]) nodeUnknown 0x08 0,
    withField (fixedNode 4 0x06 8 0 24
      [⟨0xFF00FF, 0x110004, 8⟩, ⟨0xFF00FF, 0x060004, 9⟩, ⟨0xFF00FF, 0x290004, 0x0E⟩, ⟨0xFF00FF, 0x040004, 0x0D⟩]
      nodeEnd 0 (2 ^ 4 + 2 ^ 5)) 8 8 3 8 8,
    { fixedNode 0 0 8 0 8 (full 8 [(17, 8), (6, 9)]) nodeEnd 0x08 (2 ^ 4) with fragKind := 2 },
    withClen (fixedNode 5 0x07 8 16 16 (full 16 [(4789, 0x0B)]) nodeEnd 0x40 (2 ^ 10)) 32 0,
    { withField (fixedNode 5 0x08 20 0 1 [] nodeEnd 0 (2 ^ 11)) 4 96 2 0 20 with longFlags := 2 ^ 14 },
    withField (fixedNode 0 0 8 0 8 (full 8 [(17, 8), (6, 9), (43, 6), (44, 7), (60, 0x0A), (41, 0x0E), (4, 0x0D)])
      nodeEnd 0x08 (2 ^ 4)) 8 8 3 8 8,
    fixedNode 6 0x09 8 0 8 [⟨0x08, 0x08, 0x0C⟩] nodeUnknown 0 (2 ^ 7),
    fixedNode 7 0x01 14 96 16 (full 16 [(0x8100, 0x0F), (0x0800, 0x0D), (0x86DD, 0x0E)]) nodeUnknown 0 0,
    { withClen (withField (fixedNode 9 0x04 20 72 8 (full 8 [(17, 0x10), (6, 0x11)]) nodeEnd 0x02 (2 ^ 8)) 4 4 2 0 20) 16 0
        with fragKind := 1, longFlags := 2 ^ 6 },
    withClen (fixedNode 9 0x05 40 48 8 (full 8 [(17, 0x10), (6, 0x11)]) nodeEnd 0 (2 ^ 9)) 32 40,
    fixedNode 8 0x02 4 16 16 (full 16 [(0x8100, 0x0F), (0x0800, 0x0D), (0x86DD, 0x0E)]) nodeUnknown 0x10 0,
    withClen (fixedNode 10 0x07 8 0 1 [] nodeEnd 0x40 (2 ^ 12)) 32 0,
    { withField (fixedNode 10 0x08 20 0 1 [] nodeEnd 0 (2 ^ 13)) 4 96 2 0 20 with longFlags := 2 ^ 14 } ]

/-- Node k of the default graph as its 128 bytes: nodes 0x00 to 0x11 of R206, and 128 zero bytes for every other. -/
def defaultNode (k : Nat) : List Byte :=
  match defaultGraph[k]? with
  | some n => natBe (encodeNode n) 128
  | none => List.replicate 128 0

end Sys2Proof.Machine
end

