-- ==== Sys2Proof/Machine/HostOps.lean ====
section
/-! DEFINITION. Sys2Proof/Machine/HostOps.lean: completions and their staging, punts to host channels and to steward threads, and the
versions of objects that an epoch sees (R174, R182, R183, R446 to R465, R488, R489). -/

namespace Sys2Proof.Machine

/-! ### Versions (R130, R174) -/

/-- The version of the versioned objects that an epoch sees. -/
def State.version (s : State) (e : Nat) : Version := if e = s.epochs.current then s.epochs.cur else s.epochs.old
/-- A numeric object of a version. -/
def Version.reg (x : Version) (i j : Nat) : Nat := mgetD (dictDefault i j) x.objs (okey i j)
/-- A byte-string object of a version; the nodes of the parse graph start as the default graph (R206). -/
def Version.oct (x : Version) (i j : Nat) : List Byte :=
  mgetD (if i = 0x4410 then defaultNode j else dictDefaultBytes i j) x.octs (okey i j)

/-! ### Channels (R447 to R453) -/

/-- A host channel. -/
def State.chan (s : State) (i : Nat) : Option HostChannel := mget s.host.channels i
/-- A host channel stored. -/
def State.setChan (s : State) (i : Nat) (c : HostChannel) : State := { s with host := { s.host with channels := mput s.host.channels i c } }

/-- PURPOSE RECEIVE. -/
def HostChannel.receive (c : HostChannel) : Bool := decide (byteAt c.params 0 = 1)
/-- Entries of the submission ring. -/
def HostChannel.subSize (c : HostChannel) : Nat := 2 ^ byteAt c.params 1
/-- Entries of the completion ring. -/
def HostChannel.cplSize (c : HostChannel) : Nat := 2 ^ byteAt c.params 2
/-- SUB_BASE. -/
def HostChannel.subBase (c : HostChannel) : Nat := beAt c.params 4 8
/-- CPL_BASE. -/
def HostChannel.cplBase (c : HostChannel) : Nat := beAt c.params 12 8
/-- MSIX_VECTOR. -/
def HostChannel.vector (c : HostChannel) : Nat := beAt c.params 20 2
/-- COALESCE_COUNT. -/
def HostChannel.coalesce (c : HostChannel) : Nat := beAt c.params 22 2

/-- The submission control word of a descriptor. -/
def subControl (d : List Byte) : Nat := leAt d 0 4
/-- OPCODE of a descriptor. -/
def subOpcode (d : List Byte) : Nat := fld (subControl d) 23 16
/-- SEG_MASK of a descriptor. -/
def subSegMask (d : List Byte) : Nat := fld (subControl d) 15 8
/-- CONTINUATION of a descriptor. -/
def subContinuation (d : List Byte) : Bool := bitAt (subControl d) 7

/-- A completion without OWN and PHASE, and the submission control word with OWN 0 that goes before it (R448, R458). -/
def completionBytes (desc : List Byte) (slot status info length time epoch : Nat) : List Byte :=
  natLe (subOpcode desc * 2 ^ 16 + status * 2 ^ 8) 4 ++ slice desc 4 4 ++ natLe info 4 ++ natLe length 4 ++ natLe time 8 ++ natLe slot 2
    ++ natLe epoch 2 ++ [0, 0, 0, 0] ++ natLe (subControl desc % 2 ^ 31) 4

/-- STATUS of a completion. -/
def completionStatus (c : List Byte) : Nat := byteAt c 1

/-- A descriptor is malformed (R457). -/
def malformed (receive : Bool) (d : List Byte) : Bool :=
  let c := subControl d
  let bad := decide (fld c 29 24 ≠ 0) || decide (fld c 6 0 ≠ 0)
  let zero (off len : Nat) : Bool := (slice d off len).all (· == 0)
  if receive then
    let n := leAt d 16 4
    bad || decide (subOpcode d ≠ 2) || decide (subSegMask d ≠ 0) || subContinuation d || decide (leAt d 8 8 % 64 ≠ 0)
      || decide (n < 1024 ∨ 65536 < n ∨ n % 64 ≠ 0) || !zero 20 44
  else
    let cont := subContinuation d
    let m := subSegMask d
    let n := leAt d 16 2
    bad || decide (subOpcode d ≠ 1) || (if cont then bitAt m 1 else decide (m &&& 0x40 ≠ m)) || decide (n < 60 ∨ 16379 < n)
      || decide (16 ≤ byteAt d 18) || !bitAt (byteAt d 19) 7
      || (if cont then decide (3 < byteAt d 22) || decide (0x3FE < leAt d 24 2) else !zero 20 2 || !zero 22 1 || !zero 24 2)
      || !zero 23 1 || !zero 26 38

/-- The channel's vector is raised, and counting of unsignalled completions begins anew (R465). -/
def State.signalChannel (s : State) (i : Nat) : State :=
  match s.chan i with
  | none => s
  | some c => (s.setChan i { c with unsignalled := 0 }).raiseVector c.vector

/-- A completion is written into the slot at the write position (R446, R450, R465). -/
def State.writeCompletion (s : State) (i : Nat) (e : List Byte) : State :=
  match s.chan i with
  | none => s
  | some c =>
    let slot := leAt e 24 2
    let ctl := leAt e 0 4 + (if c.writePhase then 2 ^ 30 else 0)
    let s1 := (s.emit (.dma (c.subBase + 64 * slot) (slice e 32 4))).emit (.dma (c.cplBase + 32 * c.writePos) (natLe ctl 4 ++ slice e 4 28))
    let wrap := decide (c.writePos + 1 = c.cplSize)
    let c1 := { c with
      writePos := if wrap then 0 else c.writePos + 1, writePhase := if wrap then !c.writePhase else c.writePhase
      unsignalled := c.unsignalled + 1, firstUnsignalled := if c.unsignalled = 0 then s.now else c.firstUnsignalled }
    let s2 := s1.setChan i c1
    if c.coalesce ≤ c1.unsignalled then s2.signalChannel i else s2

/-- Whether the completion slot at the write position reads OWN 1 in host memory: a free value, drawn at each read (log entry 27). -/
def State.slotReturned (s : State) : Bool × State := let (d, s1) := s.draw; (decide (d % 2 = 1), s1)

/-- A DISABLE ends when nothing more is in processing or staged (R463). -/
def State.settleRing (s : State) (i : Nat) : State :=
  match s.chan i with
  | none => s
  | some c => if c.ring = .disabling ∧ c.idle then s.setChan i { c with ring := .disabled, scanning := false } else s

/-- A completion leaves processing (R450, R462): it is written, or staged where its slot is not returned or others are staged
already. On a ring pair that PCIE_PERST_N disabled it is lost (R93, R464). -/
def State.pushCompletion (s : State) (i : Nat) (e : List Byte) : State :=
  match s.chan i with
  | none => s
  | some c =>
    let st := completionStatus e
    let s0 := s.countChannel i fun x => { x with
      completed := x.completed + 1, accepted := x.accepted + (if st = 0 then 1 else 0), refused := x.refused + (if st = 2 then 1 else 0)
      delivered := x.delivered + (if st = 1 then 1 else 0), bytes := x.bytes + leAt e 12 4 }
    if c.ring = .disabled ∨ !s.power.pins.pciePerstN then s
    else if !c.staged.isEmpty then s0.setChan i { c with staged := c.staged ++ [e] }
    else
      let (free, s1) := s0.slotReturned
      if free then s1.writeCompletion i e
      else
        ((s1.setChan i { c with staged := [e], stalls := (c.stalls + 1) % 2 ^ 32 }).bump 0xA020 4).raiseEvent 0 (s1.handle 2 i) (leAt e 24 2)

/-- The completions at the head of a channel's processing leave it in descriptor order; one with status ACCEPTED waits for its gate
(R373, R458, R459). -/
def State.drainStarted : Nat → State → Nat → State
  | 0, s, _ => s
  | fuel + 1, s, i =>
    match s.chan i with
    | none => s
    | some c =>
      match c.started with
      | [] => s.settleRing i
      | d :: rest =>
        match d.completion with
        | none => s
        | some e =>
          if c.fetched.any (fun f => decide (f.pos < d.pos)) ∨ (completionStatus e = 0 ∧ !s.covered d.gate) then s
          else State.drainStarted fuel ((s.setChan i { c with started := rest }).pushCompletion i e) i

/-- A started descriptor enters processing in descriptor order. -/
def insertStarted (d : Started) : List Started → List Started
  | [] => [d]
  | x :: xs => if d.pos < x.pos then d :: x :: xs else x :: insertStarted d xs

/-- The fate of a started descriptor is known (R458). -/
def State.finish (s : State) (i pos status info length time epoch : Nat) : State :=
  match s.chan i with
  | none => s
  | some c =>
    let started := c.started.map fun d =>
      if d.pos = pos ∧ d.completion.isNone then
        { d with completion := some (completionBytes d.bytes d.slot status info length time epoch) } else d
    State.drainStarted 65 (s.setChan i { c with started := started }) i

/-- The fate of an injected packet (R32, R458): its time and epoch are those of its record. -/
def State.finishInject (s : State) (p : Packet) (status info : Nat) : State :=
  match p.inject with
  | none => s
  | some (i, pos) =>
    match (s.chan i).bind fun c => c.started.find? fun d => decide (d.pos = pos) with
    | none => s
    | some d => s.finish i pos status info (leAt d.bytes 16 2 + 4) (beAt p.record 20 8) (beAt p.record 0 2)

/-- Completions that waited for BUNDLE_ACK are looked at again (R373). -/
def State.flushGated (s : State) : State := (s.host.channels.map (·.1)).foldl (fun s i => State.drainStarted 65 s i) s

/-! ### Punts (R182, R183, R460, R489) -/

/-- What a punt delivers: segment 0 with FRAME_LENGTH and PUNT_REASON, segment 1, the marked segments, the frame without its FCS
(R183, R460). -/
def puntBytes (reason : Nat) (frame record : List Byte) : List Byte :=
  let r := patch (patch record 3 (natBe reason 1)) 6 (natBe frame.length 2)
  let mask := byteAt record 15
  slice r 0 128 ++ ((List.range 6).map fun k => if bitAt mask (k + 2) then slice r (64 * (k + 2)) 64 else []).flatten
    ++ frame.take (frame.length - 4)

/-- INFO of a punt (R460). -/
def puntInfo (reason slice : Nat) (record : List Byte) (egress copy : Bool) : Nat :=
  reason * 2 ^ 24 + ((byteAt record 15 &&& 0xFC) + 3) * 2 ^ 16 + slice * 2 ^ 8 + (if egress then 2 ^ 7 else 0) + (if copy then 2 ^ 6 else 0)

/-- A punt to a host channel; whether it had room, and whether it was too long for the buffer. -/
def State.puntHost (s : State) (i info time epoch : Nat) (body : List Byte) : Bool × State :=
  match s.chan i with
  | none => (false, s)
  | some c =>
    match c.fetched with
    | [] => (false, s)
    | d :: rest =>
      if !c.receive ∨ c.ring ≠ .enabled ∨ !c.staged.isEmpty ∨ 32 ≤ c.started.length then (false, s)
      else if leAt d.bytes 16 4 < body.length then (false, s.bump 0xA020 5)
      else
        let st : Started := { slot := d.slot, pos := d.pos, bytes := d.bytes, completion := none, gate := none }
        let s1 := (s.setChan i { c with fetched := rest, started := insertStarted st c.started }).emit (.dma (leAt d.bytes 8 8) body)
        (true, s1.finish i d.pos 1 info body.length time epoch)

/-- A punt to a steward thread's punt queue (R488, R489): a slot written before reads OWN 1 only once firmware has returned it, a
free value (log entry 27). -/
def State.puntSteward (s : State) (t info time epoch : Nat) (body : List Byte) : Bool × State :=
  let cfg := s.oct (if t < 128 then 0xB020 else 0xB021) (if t < 128 then t else t - 128)
  let slots := beAt cfg 4 2
  let bytes := beAt cfg 6 2
  let x := s.thread t
  let used := (mget x.puntFull x.puntPos).isSome
  let (back, s1) := if used then s.slotReturned else (true, s)
  if slots = 0 ∨ bytes - 32 < body.length ∨ !back then (false, s1)
  else
    let ctl := natLe ((if x.puntPhase then 2 ^ 30 else 0) + 2 * 2 ^ 16 + 2 ^ 8) 4
    let entry := ctl ++ [0, 0, 0, 0] ++ natLe info 4 ++ natLe body.length 4 ++ natLe time 8 ++ natLe x.puntPos 2 ++ natLe epoch 2 ++ [0, 0, 0, 0]
    let wrap := decide (x.puntPos + 1 = slots)
    let x1 := { s1.thread t with
      puntFull := mput x.puntFull x.puntPos (entry ++ body), puntPos := if wrap then 0 else x.puntPos + 1
      puntPhase := if wrap then !x.puntPhase else x.puntPhase }
    (true, (s1.setThread t x1).signalThread t 4)

/-- The thread that PUNT_THREAD names, as a master ID. -/
def puntThread (v : Nat) : Nat := if bitAt v 15 then 128 + v % 64 else v % 128

/-- A packet is punted (R182): it reaches the destination of its reason in its epoch's version, or is dropped and counted. -/
def State.punt (s : State) (slice reason : Nat) (egress copy : Bool) (frame record : List Byte) : State :=
  let e := beAt record 0 2
  let v := s.version e
  let body := puntBytes reason frame record
  let info := puntInfo reason slice record egress copy
  let (ok, s1) := match v.reg 0x4010 reason with
    | 1 =>
      let h := v.reg 0x4011 reason
      if s.checkHandle 2 h = Status.ok then s.puntHost (handleIndex h) info (beAt record 20 8) e body else (false, s)
    | 2 => s.puntSteward (puntThread (v.reg 0x4012 reason)) info (beAt record 20 8) e body
    | _ => (false, s)
  if ok then s1.bump 0x4301 reason else s1.bump 0x4302 reason

end Sys2Proof.Machine
end

