-- ==== Sys2Proof/Machine/Host.lean ====
section
/-! DEFINITION. Sys2Proof/Machine/Host.lean: the meanings of the commands on host channels, doorbell sets and locks (R447 to R467, R474,
R476). -/

namespace Sys2Proof.Machine

/-! ### Scans (R450, R451, R455, R457) -/

/-- One slot that a scan reads; the result says whether the scan goes on to the next. A scan pauses with 32 descriptors fetched, and
takes no descriptor while completions are staged (R451, R462). -/
def State.scanSlot (s : State) (i : Nat) (bytes : List Byte) : Bool × State :=
  match s.chan i with
  | none => (false, s)
  | some c =>
    let d := slice bytes 0 64
    if c.ring ≠ .enabled ∨ !c.scanning ∨ !c.staged.isEmpty ∨ 32 ≤ c.fetched.length then (false, s)
    else if !bitAt (subControl d) 31 then (false, s.setChan i { c with scanning := false })
    else if bitAt (subControl d) 30 ≠ c.fetchPhase then (false, (s.setChan i { c with scanning := false }).bump 0xA020 3)
    else
      let wrap := decide (c.fetchPos + 1 = c.subSize)
      let c1 := { c with
        fetchPos := if wrap then 0 else c.fetchPos + 1, fetchPhase := if wrap then !c.fetchPhase else c.fetchPhase, taken := c.taken + 1 }
      if malformed c.receive d then
        let e := completionBytes d c.fetchPos 5 0 (if c.receive then 0 else leAt d 16 2 + 4) 0 0
        let x : Started := { slot := c.fetchPos, pos := c.taken, bytes := d, completion := some e, gate := none }
        let s1 := s.setChan i { c1 with started := insertStarted x c1.started, malformed := (c1.malformed + 1) % 2 ^ 32 }
        (true, State.drainStarted 65 (s1.bump 0xA020 1) i)
      else (true, s.setChan i { c1 with fetched := c1.fetched ++ [{ slot := c.fetchPos, pos := c.taken, bytes := d }] })

/-- The slots that a scan reads, in ring order from the fetch position. -/
def State.scanSlots (s : State) (i : Nat) : List (List Byte) → State
  | [] => s
  | d :: rest =>
    let (more, s1) := s.scanSlot i d
    if more then s1.scanSlots i rest else s1

/-- Staged completions are written in order as their slots are returned (R462): `free` of them read OWN 1 now. -/
def State.writeStaged : Nat → State → Nat → State
  | 0, s, _ => s
  | free + 1, s, i =>
    match s.chan i with
    | none => s
    | some c =>
      match c.staged with
      | [] => s
      | e :: rest => State.writeStaged free (((s.setChan i { c with staged := rest }).writeCompletion i e).settleRing i) i

/-- SUB_DOORBELL (R451): a scan starts or goes on, reading these slots from the fetch position on. -/
def execSubDoorbell (i : Nat) (slots : List (List Byte)) (s : State) : Host.Outcome State Fault Refusal :=
  .next (match s.chan i with
    | none => s
    | some c =>
      if c.ring ≠ .enabled ∨ !s.power.pins.pciePerstN then s
      else (s.setChan i { c with scanning := true }).scanSlots i slots)

/-- SCAN_RESUME (R451): a paused scan reads on. -/
def execScanResume (i : Nat) (slots : List (List Byte)) (s : State) : Host.Outcome State Fault Refusal := .next (s.scanSlots i slots)

/-- RECEIVE_BUFFER (R455): a scan of a RECEIVE channel takes one descriptor. -/
def execReceiveBuffer (i : Nat) (slot : List Byte) (s : State) : Host.Outcome State Fault Refusal :=
  .next (if (s.chan i).any (·.receive) then (s.scanSlot i slot).2 else s)

/-! ### Injection (R456, R459 to R461) -/

/-- The channel that is served next for a slice: round robin by channel index among the enabled INJECT channels with a fetched
descriptor for it and room in processing. -/
def State.injectNext (s : State) (n : Nat) : Option Nat :=
  let cs := s.host.channels.filterMap fun (i, c) =>
    if c.ring = .enabled ∧ !c.receive ∧ c.started.length < 32 ∧ c.fetched.any (fun d => decide (byteAt d.bytes 18 = n)) then some i else none
  match mget s.host.injectTurn n with
  | none => cs.head?
  | some last => (cs.find? fun i => decide (last < i)).orElse fun _ => cs.head?

/-- What an INJECT descriptor and its buffer make (R456). -/
def injectionOf (channel pos : Nat) (d buffer : List Byte) : Injection :=
  let m := subSegMask d
  let n := popcount 8 m
  let body := slice buffer (64 * n) (leAt d 16 2)
  { frame := body ++ natLe (crc32 body) 4, channel := channel, pos := pos, port := byteAt d 19 % 128, portValid := true
    cont := if subContinuation d then some (leAt d 20 2, byteAt d 22, leAt d 24 2) else none, segments := slice buffer 0 (64 * n), segMask := m, ordinal := none }

/-- A packet enters an injection queue, and a sleeping slice is asked to wake (R81, R460). -/
def State.enqueueInjection (s : State) (n : Nat) (x : Injection) : State :=
  let k := s.sliceAt n
  s.setSlice n { k with inject := k.inject ++ [x], wakeReq := if k.feAsleep ∧ k.wakeReq.isNone then some s.now else k.wakeReq }

/-- INJECT (R460): the next descriptor for a slice starts. Its buffer is read into the slice's injection queue, and in a pair its
HOST_WORK record goes first (R461); a failed read ends it with DMA_ERROR (R446), and outside PROPORTIONAL and SPRING it is refused
with cause MODE (R459). -/
def execInject (n : Nat) (ok : Bool) (buffer : List Byte) (s : State) : Host.Outcome State Fault Refusal :=
  .next (match s.injectNext n with
    | none => s
    | some i =>
      match s.chan i with
      | none => s
      | some c =>
        match c.fetched.find? (fun d => decide (byteAt d.bytes 18 = n)) with
        | none => s
        | some d =>
          let x : Started := { slot := d.slot, pos := d.pos, bytes := d.bytes, completion := none, gate := none }
          let c1 := { c with fetched := c.fetched.filter (fun f => decide (f.pos ≠ d.pos)), started := insertStarted x c.started }
          let s1 := { s.setChan i c1 with host := { (s.setChan i c1).host with injectTurn := mput s.host.injectTurn n i } }
          let len := leAt d.bytes 16 2 + 4
          if s.mode ≠ .proportional ∧ s.mode ≠ .spring then s1.finish i d.pos 2 1 len 0 0
          else if 16 ≤ (s.sliceAt n).inject.length ∨ 16 ≤ n then s
          else if !ok then
            (({ s1 with host := { s1.host with channels := mput s1.host.channels i { c1 with dmaErrors := (c1.dmaErrors + 1) % 2 ^ 32 } } }).bump
              0xA020 2).finish i d.pos 6 0 len 0 0
          else
            let s2 : State := if s1.activeInPair then
                let need := 64 * popcount 8 (subSegMask d.bytes) + leAt d.bytes 16 2
                let (s2, b) := s1.sendRecord (typedRecord 0x48 (natBe (0x80 + n) 1 ++ [0, 0, 0] ++ d.bytes ++ slice buffer 0 need))
                s2.setChan i { c1 with started := c1.started.map fun y => if y.pos = d.pos then { y with gate := some b } else y }
              else s1
            s2.enqueueInjection n (injectionOf i d.pos d.bytes buffer))

/-! ### Staging and interrupts (R462, R465) -/

/-- STAGED_RETRY (R462): the blocking slot is read again, and `free` completions are written. -/
def execStagedRetry (i free : Nat) (s : State) : Host.Outcome State Fault Refusal :=
  .next (if !s.power.pins.pciePerstN then s else State.writeStaged (Nat.min 64 free) s i)

/-- COALESCE_EXPIRY (R465). -/
def execCoalesceExpiry (i : Nat) (s : State) : Host.Outcome State Fault Refusal :=
  .next (match s.chan i with
    | none => s
    | some c => if c.unsignalled = 0 then s else (s.reach (c.firstUnsignalled + beAt c.params 24 4)).signalChannel i)

/-! ### Channels (R447, R463, R465, R476) -/

/-- The effect of a RING_ENABLE write (R463). -/
def ringEnableEffect (c : List Byte) (s : State) : Status × State :=
  let op := byteAt c 0
  let h := beAt c 4 4
  if c.length ≠ 8 ∨ (op ≠ 1 ∧ op ≠ 2) ∨ beAt c 1 3 ≠ 0 then (.range, s)
  else match s.checkHandle 2 h with
    | .ok =>
      let i := handleIndex h
      match s.chan i with
      | none => (.staleHandle, s)
      | some x =>
        match op, x.ring with
        | 1, .enabled => (.ok, s)
        | 1, .disabling => (.busy, s)
        | 1, .disabled =>
          if !x.idle then (.busy, s)
          else (.ok, s.setChan i { x with
            ring := .enabled, fetchPos := 0, fetchPhase := true, writePos := 0, writePhase := true, taken := 0, scanning := false })
        | _, .enabled => (.ok, State.drainStarted 65 (s.setChan i { x with ring := .disabling, fetched := [], scanning := false }) i)
        | _, _ => (.ok, s)
    | st => (st, s)

/-- RING_ENABLE with OP ENABLE (R463). -/
def execRingEnable (o : Origin) (h : Nat) (s : State) : Host.Outcome State Fault Refusal :=
  .next (s.runWrite o 0xA010 3 ([1, 0, 0, 0] ++ natBe h 4) ringEnableEffect)

/-- RING_ENABLE with OP DISABLE (R463). -/
def execRingDisable (o : Origin) (h : Nat) (s : State) : Host.Outcome State Fault Refusal :=
  .next (s.runWrite o 0xA010 3 ([2, 0, 0, 0] ++ natBe h 4) ringEnableEffect)

/-- The interrupt fields of a channel are in range (R447): bytes 20 to 27 of the create layout. -/
def coalesceOk (v : List Byte) : Bool :=
  (decide (beAt v 0 2 < 2048) || decide (beAt v 0 2 = 0xFFFF)) && decide (1 ≤ beAt v 2 2 ∧ beAt v 2 2 ≤ 1024) && decide (beAt v 4 4 ≤ 1000000)

/-- Creation of a host channel (R447). -/
def createChannel (v : List Byte) (s : State) : Except Status (Nat × State) :=
  let lg (k : Nat) : Bool := decide (6 ≤ byteAt v k ∧ byteAt v k ≤ 16)
  if v.length ≠ 32 ∨ 1 < byteAt v 0 ∨ !lg 1 ∨ !lg 2 ∨ byteAt v 3 ≠ 0 ∨ beAt v 4 8 % 4096 ≠ 0 ∨ beAt v 12 8 % 4096 ≠ 0
      ∨ !coalesceOk (slice v 20 8) ∨ beAt v 28 4 ≠ 0 then .error .range
  else match lowestFree s.host.channels 4096 with
    | none => .error .noResource
    | some i =>
      let c : HostChannel :=
        { params := v, ring := .disabled, fetchPos := 0, fetchPhase := true, writePos := 0, writePhase := true,
          taken := 0, fetched := [], started := [], staged := [], scanning := false, unsignalled := 0, firstUnsignalled := 0, malformed := 0,
          dmaErrors := 0, stalls := 0 }
      .ok (s.handle 2 i, s.setChan i c)

/-- CHANNEL_CREATE (R447). -/
def execChannelCreate (o : Origin) (v : List Byte) (s : State) : Host.Outcome State Fault Refusal :=
  .next (State.endCreate o 0xA001 v (s.runCreate o 0xA001 v createChannel))

/-- The effect of a CHANNEL_SET write (R465). -/
def channelSetEffect (c : List Byte) (s : State) : Status × State :=
  if c.length ≠ 12 then (.range, s)
  else match s.checkHandle 2 (beAt c 0 4) with
    | .ok =>
      let i := handleIndex (beAt c 0 4)
      if !coalesceOk (slice c 4 8) then (.range, s)
      else match s.chan i with
        | some x => (.ok, s.setChan i { x with params := patch x.params 20 (slice c 4 8) })
        | none => (.staleHandle, s)
    | st => (st, s)

/-- CHANNEL_SET (R465). -/
def execChannelSet (o : Origin) (v : List Byte) (s : State) : Host.Outcome State Fault Refusal :=
  .next (s.runWrite o 0xA010 1 v channelSetEffect)

/-- The answer to a CHANNEL_QUERY (R476). -/
def channelAnswer (c : List Byte) (s : State) : Status × List Byte × State :=
  if c.length ≠ 4 then (.range, [], s)
  else match s.checkHandle 2 (beAt c 0 4), s.chan (handleIndex (beAt c 0 4)) with
    | .ok, some x =>
      let st := match x.ring with | .disabled => 0 | .enabled => 1 | .disabling => 2
      let i := handleIndex (beAt c 0 4)
      (.ok, natBe 0 1 ++ natBe st 1 ++ natBe x.staged.length 1 ++ natBe x.fetched.length 1 ++ natBe x.started.length 1 ++ [0, 0, 0] ++ x.params
        ++ natBe (s.channelStats i).completed 8 ++ natBe x.malformed 4 ++ natBe x.dmaErrors 4 ++ natBe x.stalls 4, s)
    | st, _ => (.ok, natBe st.code 1 ++ List.replicate 59 0, s)

/-- CHANNEL_QUERY (R476). -/
def execChannelQuery (o : Origin) (v : List Byte) (s : State) : Host.Outcome State Fault Refusal :=
  .next (s.runQuery o 0xA010 2 0xA010 4 v channelAnswer)

/-! ### Doorbell sets (R444, R466, R467) -/

/-- After a write of DB_STATUS or DB_MASK a set signals again while its unmasked value is not zero (R467). -/
def State.signalAgain (s : State) (k : Nat) : State :=
  let d := s.doorbell k
  if d.status &&& (d.mask ^^^ 0xFFFFFFFF) ≠ 0 then s.signalSet k else s

/-- DB_STATUS (R467): bits written with one are cleared. -/
def execDbStatus (k v : Nat) (s : State) : Host.Outcome State Fault Refusal :=
  .next (if 64 ≤ k ∨ s.mode = .dormant then s
    else
      let d := s.doorbell k
      (s.setDoorbell k { d with status := d.status &&& (v % 2 ^ 32 ^^^ 0xFFFFFFFF) }).signalAgain k)

/-- DB_MASK (R467). -/
def execDbMask (k v : Nat) (s : State) : Host.Outcome State Fault Refusal :=
  .next (if 64 ≤ k ∨ s.mode = .dormant then s else (s.setDoorbell k { s.doorbell k with mask := v % 2 ^ 32 }).signalAgain k)

/-- DB_RING (R444, R466): bits 31 to 8 of the write are set. -/
def execDbRing (k v : Nat) (s : State) : Host.Outcome State Fault Refusal := 
  .next (if s.mode = .dormant then s else s.ringSet k (v % 2 ^ 32 / 256 * 256))

/-! ### Locks (R474, R475) -/

/-- The value that a read of a BAR register or of a steward's register returns, in the read log. -/
def State.noteRead (s : State) (m v : Nat) : State := { s with host := { s.host with reads := (m, v) :: s.host.reads } }

/-- LOCK_ACQUIRE (R474): a read of LOCK by a master. -/
def execLockAcquire (m l : Nat) (s : State) : Host.Outcome State Fault Refusal :=
  .next (if 256 ≤ l ∨ 256 ≤ m ∨ s.mode = .dormant then s
    else match mget s.host.locks l with
      | none => ({ s with host := { s.host with locks := mput s.host.locks l m } }).noteRead m (2 ^ 31 + 2 ^ 30 + m)
      | some h => s.noteRead m ((if h = m then 2 ^ 31 else 0) + 2 ^ 30 + h))

/-- LOCK_RELEASE (R474): a write of LOCK. -/
def execLockRelease (m l : Nat) (s : State) : Host.Outcome State Fault Refusal :=
  .next (if 256 ≤ l ∨ s.mode = .dormant then s
    else if mget s.host.locks l = some m then { s with host := { s.host with locks := mdel s.host.locks l } }
    else s.bump 0xA912 2)

/-- The effect of a LOCK_FORCE write of 1 (R474). -/
def lockForceEffect (l : Nat) (c : List Byte) (s : State) : Status × State :=
  if beNat c = 0 ∨ 256 ≤ l then (.ok, s)
  else (.ok, ({ s with host := { s.host with locks := mdel s.host.locks l } }).bump 0xA912 1)

/-- LOCK_FORCE (R474). -/
def execLockForce (o : Origin) (l : Nat) (v : List Byte) (s : State) : Host.Outcome State Fault Refusal :=
  .next (s.runWrite o 0xA911 l v (lockForceEffect l))

end Sys2Proof.Machine
end

