-- ==== Sys2Proof/Machine/PortOps.lean ====
section
/-! DEFINITION. Sys2Proof/Machine/PortOps.lean: port modes and lanes, the cage map and the offers, recovered clocks, and the steps of
putting a port into service and out of it (R106, R110, R415 to R420, R424, R425, R430, R433). -/

namespace Sys2Proof.Machine

/-! ### Modes and lanes (R415, R416) -/

/-- Lanes that a port mode takes. -/
def modeLanes : Nat → Nat
  | 1 => 1 | 2 => 1 | 3 => 2 | 4 => 4 | 5 => 8 | _ => 0
/-- Rate of a port mode in Gb/s. -/
def modeRate : Nat → Nat
  | 1 => 100 | 2 => 200 | 3 => 400 | 4 => 800 | 5 => 1600 | _ => 0

/-- The lanes of a port with a mode. -/
def lanesOf (p m : Nat) : List Nat := (List.range (modeLanes m)).map (p + ·)

/-- The lanes of a port as it is placed. -/
def State.portLanes (s : State) (p : Nat) : List Nat := lanesOf p (s.reg 0x3000 p)

/-- The port that holds a lane, 0xFF for none (R433 LANE_PORT). -/
def State.lanePort (s : State) (l : Nat) : Nat :=
  ((List.range 128).find? fun p => (s.portLanes p).contains l).getD 0xFF

/-- The rates of the ports of a slice, with one port's mode and slice taken as given. -/
def State.sliceRate (s : State) (n port mode slice : Nat) : Nat :=
  ((List.range 128).map fun p =>
    let m := if p = port then mode else s.reg 0x3000 p
    let k := if p = port then slice else s.reg 0x3001 p
    if k = n then modeRate m else 0).foldl (· + ·) 0

/-! ### Cages (R106, R110) -/

/-- LANE_COUNT of a cage. -/
def State.cageLanes (s : State) (n : Nat) : Nat := fld (s.reg 0x1021 n) 11 8
/-- FIRST_LANE of a cage. -/
def State.cageFirst (s : State) (n : Nat) : Nat := fld (s.reg 0x1021 n) 6 0
/-- A cage's state. -/
def State.cage (s : State) (n : Nat) : Cage := mgetD .reset s.power.cages n
/-- A cage's state stored. -/
def State.setCage (s : State) (n : Nat) (c : Cage) : State := { s with power := { s.power with cages := mput s.power.cages n c } }

/-- The fitted cage that holds a lane. -/
def State.cageOf (s : State) (l : Nat) : Option Nat :=
  (List.range 32).find? fun n => decide (s.cageFirst n ≤ l ∧ l < s.cageFirst n + s.cageLanes n)

/-- A cage map entry is well formed (R107). -/
def cageEntryGood (e : Nat) : Bool :=
  let n := fld e 11 8
  let f := fld e 6 0
  decide (e < 0x1000) && !bitAt e 7 && (decide (n = 0 ∧ f = 0) || ([1, 2, 4, 8].contains n && decide (f % n = 0) && decide (f + n ≤ 128)))

/-- Two entries share no lane. -/
def cagesApart (a b : Nat) : Bool :=
  decide (fld a 6 0 + fld a 11 8 ≤ fld b 6 0) || decide (fld b 6 0 + fld b 11 8 ≤ fld a 6 0) || decide (fld a 11 8 = 0) || decide (fld b 11 8 = 0)

/-- A whole cage map is accepted (R107). -/
def cageMapGood (m : List Nat) : Bool :=
  m.all cageEntryGood && (List.range m.length).all fun i => (List.range m.length).all fun j =>
    decide (i = j) || cagesApart (m.getD i 0) (m.getD j 0)

/-- MODULE_STATE. -/
def State.moduleState (s : State) (n : Nat) : Nat := s.reg (0x1100 + n) 1

/-- The byte of OFFER_MAP of a host lane; zero unless the module is READY (R110). -/
def State.offer (s : State) (n i : Nat) : Nat := if s.moduleState n = 3 then byteAt (s.oct (0x1100 + n) 0x0C) i else 0

/-- A port with a mode may sit on its lanes: aligned, whole within its cage and offered there, or in no fitted cage (R415, R417). -/
def State.modePlaces (s : State) (p m : Nat) : Bool :=
  let n := modeLanes m
  decide (p % n = 0) && decide (p + n ≤ 128)
    && (List.range 128).all (fun q => decide (q = p) || (lanesOf p m).all fun l => !((s.portLanes q).contains l))
    && (match (lanesOf p m).findSome? s.cageOf with
      | none => true
      | some c => decide (s.cageFirst c ≤ p ∧ p + n ≤ s.cageFirst c + s.cageLanes c) && bitAt (s.offer c (p - s.cageFirst c)) (m - 1))

/-- LANE_PROFILE takes its default where no write of it is recorded: C2M in a fitted cage, C2C elsewhere (R420). -/
def State.applyProfiles (s : State) : State :=
  (List.range 128).foldl (fun s p =>
    if (mget s.fw.store (okey 0x3007 p)).isSome then s else s.setReg 0x3007 p (if (s.cageOf p).isSome then 0 else 1)) s

/-! ### Lane states and recovered clocks (R430, R433) -/

/-- A pattern test on a target that is given to traffic ends ABORTED (R543). -/
def State.abortTestOn (s : State) (kind n : Nat) : State :=
  s.endTest 5 (256 * kind + n)

/-- The lanes of a port are used: they report their receivers, which start with no signal, and a test on them has ended. In
DIAGNOSTIC they stay OFF (R433). -/
def State.lanesOn (s : State) (p : Nat) : State :=
  if s.mode = .diagnostic then s
  else ((s.portLanes p).foldl (fun s l => s.abortTestOn 0 l) s).setLanes (s.portLanes p) 1

/-- A lane's adaptation. -/
def State.adapt (s : State) (k : Nat) : LaneAdapt := mgetD .reset s.ports.adapt k
/-- A lane's adaptation stored. -/
def State.setAdapt (s : State) (k : Nat) (x : LaneAdapt) : State := { s with ports := { s.ports with adapt := mput s.ports.adapt k x } }

/-- Every lane of a port is LOCKED. -/
def State.lanesLocked (s : State) (p : Nat) : Bool := (s.portLanes p).all fun l => decide (s.reg 0x3200 l = 3)

/-! ### Enabling a port (R418, R419) -/

/-- Ports of a cage. -/
def State.cagePorts (s : State) (n : Nat) : List Nat :=
  (List.range 128).filter fun p => decide (s.reg 0x3000 p ≠ 0) && decide (s.cageOf p = some n)

/-- MOD_LPMODE of a cage. -/
def State.setLpMode (s : State) (n : Nat) (v : Bool) : State :=
  let m := s.power.pins.modLpMode
  let bit := BitVec.ofNat 32 (2 ^ n)
  { s with power := { s.power with pins := { s.power.pins with modLpMode := if v then m ||| bit else m &&& ~~~bit } } }

/-- MOD_RESET_N of a cage. -/
def State.setModReset (s : State) (n : Nat) (v : Bool) : State :=
  let m := s.power.pins.modResetN
  let bit := BitVec.ofNat 32 (2 ^ n)
  { s with power := { s.power with pins := { s.power.pins with modResetN := if v then m ||| bit else m &&& ~~~bit } } }

/-- The application descriptors that a module advertises, with their numbers: 1 to 8 in page 00h bytes 86 to 117, 9 to 15 in page
01h bytes 223 to 250, up to the first with host interface 0xFF (R110, R111). The page image is the 384 bytes of PAGE_IMAGE. -/
def applications (image : List Byte) : List (Nat × List Byte) :=
  let all := (List.range 15).map fun k => (k + 1, slice image (if k < 8 then 86 + 4 * k else 256 + 95 + 4 * (k - 8)) 4)
  all.takeWhile fun (_, d) => decide (byteAt d 0 ≠ 0xFF)

/-- Host lane count of a descriptor. -/
def appLanes (d : List Byte) : Nat := fld (byteAt d 2) 7 4

/-- A descriptor satisfies R110 for an OFFER bit at host lane i of a cage. -/
def State.appFits (s : State) (n i bit : Nat) (d : List Byte) : Bool :=
  let lanes := modeLanes (bit + 1)
  decide (Config.hostInterface (byteAt d 0) = some bit) && decide (appLanes d = lanes) && bitAt (byteAt d 3) i
    && decide (i + lanes ≤ s.cageLanes n) && decide ((s.cageFirst n + i) % lanes = 0)

/-- The byte of OFFER_MAP that a page image gives a host lane. -/
def State.offerByte (s : State) (n i : Nat) (image : List Byte) : Nat :=
  ((List.range 5).map fun b => if (applications image).any (fun a => s.appFits n i b a.2) then 2 ^ b else 0).foldl (· + ·) 0

/-- ApplSel for a port's mode: the lowest-numbered advertised application that satisfies R110 (R419). -/
def State.applSel (s : State) (n p : Nat) : Nat :=
  let i := p - s.cageFirst n
  (((applications (s.oct (0x1100 + n) 0x0F)).find? fun a => s.appFits n i (s.reg 0x3000 p - 1) a.2).map (·.1)).getD 0

/-- The host lane mask of a port in its cage. -/
def State.hostMask (s : State) (n p : Nat) : Nat :=
  ((s.portLanes p).map fun l => 2 ^ (l - s.cageFirst n)).foldl (· + ·) 0

/-- DataPathDeinit of a cage written anew (R419). -/
def State.writeDeinit (s : State) (n v : Nat) : State :=
  (s.setCage n { s.cage n with deinit := v }).emit (.twoWire n 0 0x10 128 [BitVec.ofNat 8 v])

/-- A port's transmitters are enabled, and it waits for its link (R419 step 6). -/
def State.portOn (s : State) (p : Nat) : State :=
  let x := s.port p
  ((s.setPort p { x with activation := 0, cleanSince := none }).setReg 0x3003 p 3).lanesOn p

/-- Steps 1 and 2 of R419 for an enabled port, and the whole of it for a port in no fitted cage. Step 2 is skipped while another
port of the cage is enabled. -/
def State.startPort (s : State) (p : Nat) : State :=
  if s.reg 0x3000 p = 0 ∨ s.reg 0x3002 p = 0 then s
  else match s.cageOf p with
    | none => s.portOn p
    | some n =>
      let x := s.port p
      let s1 := s.setReg 0x3003 p 2
      if s.moduleState n ≠ 3 then s1.setPort p { x with activation := 0 }
      else
        let other := (s.cagePorts n).any fun q => decide (q ≠ p) && decide (s.reg 0x3002 q = 1)
        let s2 := s1.setPort p { x with activation := 3, activationSince := s.now }
        if other then s2 else (s2.emit (.twoWire n 0 0 26 [0x40])).setLpMode n false

/-- Ports of a cage that wait in MODULE_WAIT are tried again (R419). -/
def State.retryPorts (s : State) (n : Nat) : State :=
  (s.cagePorts n).foldl (fun s p => if s.reg 0x3003 p = 2 ∧ (s.port p).activation = 0 then s.startPort p else s) s

/-- A port goes out of service on its module: its lanes are deinitialised, and the module returns to low power once no port of the
cage is enabled (R419). -/
def State.releaseModule (s : State) (p : Nat) : State :=
  match s.cageOf p with
  | none => s
  | some n =>
    let s1 := s.writeDeinit n ((s.cage n).deinit ||| s.hostMask n p)
    if (s.cagePorts n).any (fun q => decide (s.reg 0x3002 q = 1)) then s1 else s1.setLpMode n true

/-- A cause of port down appears on a port that is up (R424): it takes the port down at once where no hold is set. -/
def State.causeOnset (s : State) (p cause : Nat) : State :=
  let x := s.port p
  if s.reg 0x3003 p ≠ 4 ∧ s.reg 0x3003 p ≠ 5 then s.setPort p { x with cleanSince := none }
  else if s.reg 0x3005 p = 0 then s.portDown p cause 3
  else if x.cause.isSome then s
  else s.setPort p { x with cause := some (cause, s.now), cleanSince := none }

/-- The lanes and ports as BRINGUP gives them, after the port objects have been restored or DIAGNOSTIC has ended (R433, R542). -/
def State.portsReset (s : State) : State :=
  (List.range 128).foldl (fun s p =>
    if s.reg 0x3000 p = 0 then s.setReg 0x3003 p 0
    else if s.reg 0x3002 p = 0 then s.setReg 0x3003 p 1
    else s.startPort p) (s.setLanes (List.range 128) 0)

end Sys2Proof.Machine
end

