-- ==== Sys2Proof/Machine/FabricOps.lean ====
section
/-! DEFINITION. Sys2Proof/Machine/FabricOps.lean: cells and packets on the fabric, acknowledgement and replay, requests and grants, pin
tables and fences, link failure, resequencing (R325 to R349). -/

namespace Sys2Proof.Machine

/-! ### Links and groups -/

/-- A fabric link. -/
def State.link (s : State) (l : Nat) : Link := mgetD .reset s.fab.links l
/-- A fabric link stored. -/
def State.setLink (s : State) (l : Nat) (x : Link) : State := { s with fab := { s.fab with links := mput s.fab.links l x } }
/-- FAB_LINK_STATE. -/
def State.linkState (s : State) (l : Nat) : Nat := s.reg 0x3400 l
/-- A flow group. -/
def State.fabGroup (s : State) (g : Nat) : FlowGroup := mgetD .reset s.fab.groups g
/-- A flow group stored. -/
def State.setGroup (s : State) (g : Nat) (x : FlowGroup) : State := { s with fab := { s.fab with groups := mput s.fab.groups g x } }
/-- LINK_GROUP. -/
def State.linkGroup (s : State) (l : Nat) : Nat := s.reg 0x8010 l
/-- The links of a group in lane order. -/
def State.groupLinks (s : State) (g : Nat) : List Nat := (List.range 160).filter fun l => decide (s.linkGroup l = g)
/-- The usable links of a group (R330). -/
def State.usableLinks (s : State) (g : Nat) : List Nat := (s.groupLinks g).filter fun l => decide (s.linkState l = 3)
/-- The usable links that have joined the pin table. -/
def State.joinedLinks (s : State) (g : Nat) : List Nat := (s.usableLinks g).filter fun l => (s.link l).joined
/-- The group of a destination unit. -/
def State.destGroup (s : State) (unit : Nat) : Nat := s.reg (0x8020 + unit / 256) (unit % 256)
/-- The state of a fabric quad. -/
def State.quad (s : State) (q : Nat) : QuadState := mgetD .awake s.fab.quads q
/-- The state of a fabric quad stored. -/
def State.setQuad (s : State) (q : Nat) (x : QuadState) : State := { s with fab := { s.fab with quads := mput s.fab.quads q x } }

/-- A link may be in service (R329): administratively on, in a group, and the mode does not keep the lanes down. -/
def State.linkAllowed (s : State) (l : Nat) : Bool :=
  decide (s.reg 0x3401 l = 1) && decide (s.linkGroup l ≠ 0xFF) && decide (s.mode ≠ .dormant) && decide (s.mode ≠ .diagnostic)

/-- Cells for units may go out (R329, R372, R380): in a forwarding mode or DRAIN, by a unit that is neither fenced nor a standby. -/
def State.mayCarry (s : State) : Bool :=
  (decide (s.mode = .proportional) || decide (s.mode = .spring) || decide (s.mode = .drain)) && !s.pair.fenced && !s.standby

/-- Cells from units are taken: in those modes and in SHADOW. -/
def State.mayTake (s : State) : Bool :=
  decide (s.mode = .proportional) || decide (s.mode = .spring) || decide (s.mode = .drain) || decide (s.mode = .shadow)

/-! ### Cells (R326 to R328) -/

/-- The first 12 header bytes of a cell (R327). -/
def fabHeader (kind : Nat) (first last : Bool) (dest unit link cls len seq ack : Nat) (nak : Bool) (credits : Nat) : List Byte :=
  natBe (kind * 2 ^ 94 + (if first then 2 ^ 93 else 0) + (if last then 2 ^ 92 else 0) + dest % 4096 * 2 ^ 80 + unit % 4096 * 2 ^ 67
    + link % 256 * 2 ^ 59 + cls % 8 * 2 ^ 56 + len % 256 * 2 ^ 48 + seq % 65536 * 2 ^ 32 + ack % 65536 * 2 ^ 16
    + (if nak then 2 ^ 15 else 0) + credits % 128 * 2 ^ 8) 12

/-- A whole cell: header with CELL_CRC, payload, zeros to the next 32-byte boundary (R326, R327). -/
def wholeCell (hdr payload : List Byte) : List Byte :=
  let cell := hdr ++ natBe (crc32cStd (hdr ++ payload)) 4 ++ payload
  cell ++ List.replicate ((32 - cell.length % 32) % 32) 0

/-- A cell goes out on a link with the latest acknowledgement and link credits (R328). -/
def State.sendFab (s : State) (l kind : Nat) (first last : Bool) (dest cls seq : Nat) (nak : Bool) (payload : List Byte) : State :=
  let x := s.link l
  let c := Nat.min 127 x.owed
  (s.setLink l { x with owed := x.owed - c }).emit
    (.fabric l (wholeCell (fabHeader kind first last dest (s.reg 0x8000 1) l cls payload.length seq ((x.rxExpect + 65535) % 65536) nak c) payload))

/-- An IDLE cell carries an acknowledgement and credits; `nak` makes it a NAK. -/
def State.sendIdle (s : State) (l : Nat) (nak : Bool) : State := s.sendFab l 0 false false 0xFFF 0 0 nak []

/-- A sequenced cell goes out. -/
def State.sendTx (s : State) (l : Nat) (c : TxCell) : State :=
  s.sendFab l (if c.control then 2 else 1) c.first c.last c.dest c.cls (c.seq.getD 0) false c.payload

/-- A cell may leave now: link-local cells always, cells for units as the mode and role allow. -/
def State.maySend (s : State) (c : TxCell) : Bool := (c.control && decide (c.dest = 0xFFF)) || s.mayCarry

/-- One sequenced cell leaves a link that holds a credit: cells to resend first, in order, then new cells (R342). -/
def State.sendNextCell (s : State) (l : Nat) : State :=
  let x := s.link l
  if x.credits = 0 ∨ !(decide (s.linkState l = 3) || decide (s.linkState l = 4)) then s
  else match x.resend with
    | c :: rest =>
      if s.maySend c then (s.setLink l { x with resend := rest, credits := x.credits - 1, unacked := x.unacked ++ [c] }).sendTx l c else s
    | [] =>
      match x.fresh.find? s.maySend with
      | none => s
      | some c =>
        let c' := { c with seq := some x.txNext }
        let bits := if c.control then 0 else 8 * c.payload.length
        let s1 := s.setLink l { x with
          fresh := x.fresh.erase c, credits := x.credits - 1, txNext := (x.txNext + 1) % 65536, unacked := x.unacked ++ [c']
          lastAdvance := if x.unacked.isEmpty then s.now else x.lastAdvance }
        ({ s1 with fab := { s1.fab with sentBits := s1.fab.sentBits + bits } }).sendTx l c'

/-- Every cell that credits allow leaves a link. -/
def State.pumpLink (s : State) (l : Nat) : State :=
  let x := s.link l
  (List.range (x.resend.length + x.fresh.length)).foldl (fun s _ => s.sendNextCell l) s

/-! ### Packets and their cells (R331, R332) -/

/-- N: the cells of a packet of frame length L (R332). -/
def cellsFor (len : Nat) : Nat := (len + 12 + 239) / 240

/-- The packet header (R331). -/
def packetHeader (seq era : Nat) (h : Held) : List Byte :=
  let group := decide (byteAt h.record 12 = 2)
  let dest := if group then beAt h.record 10 2 else byteAt h.record 5 % 128
  natBe (seq % 2 ^ 24 * 2 ^ 40 + era % 16 * 2 ^ 36 + (if group then 2 ^ 35 else 0) + dest * 2 ^ 19 + h.colour % 4 * 2 ^ 17
    + h.frame.length % 2 ^ 14 * 2 ^ 3) 8 ++ slice h.record 32 8

/-- A payload cut into pieces of 240 bytes. -/
def cellPieces : Nat → List Byte → List (List Byte)
  | 0, _ => []
  | fuel + 1, bs => if bs.length ≤ 240 then [bs] else bs.take 240 :: cellPieces fuel (bs.drop 240)

/-- The DATA cells of a sent packet. -/
def SentPacket.cells (p : SentPacket) (id : Nat) : List TxCell :=
  let body := packetHeader p.seq p.era p.held ++ p.held.frame.take (p.held.frame.length - 4)
  let ps := cellPieces (body.length + 1) body
  ps.mapIdx fun k b =>
    { control := false, first := decide (k = 0), last := decide (k + 1 = ps.length), dest := p.dest, cls := p.cls, payload := b,
      packet := some id, seq := none }

/-! ### Sending contexts (R334 to R336) -/

/-- The key of a context. -/
def ctxKey (unit cls : Nat) : Nat := 8 * unit + cls % 8

/-- A sending context. -/
def State.sendCtx (s : State) (k : Nat) : SendCtx :=
  mgetD { nextSeq := 0, era := s.fab.bootEra, balance := 0, synced := false, syncGate := none, reported := 0, requestedAt := 0 } s.fab.send k
/-- A sending context stored. -/
def State.setSendCtx (s : State) (k : Nat) (c : SendCtx) : State := { s with fab := { s.fab with send := mput s.fab.send k c } }

/-- BACKLOG. -/
def State.backlog (s : State) (k : Nat) : Nat :=
  (s.tm.queues.map fun (_, q) =>
    if q.voq ∧ ctxKey (q.dest % 4096) q.cls = k then (q.packets.map fun h => cellsFor h.frame.length).foldl (· + ·) 0 else 0).foldl (· + ·) 0

/-- DEMAND. -/
def State.demand (s : State) (k : Nat) : Nat := ((s.backlog k : Int) - (s.sendCtx k).balance).toNat

/-- A control message for a unit leaves on the lowest usable link of its group (log entry 23); with none it is not sent. -/
def State.sendControl (s : State) (unit : Nat) (msg : List Byte) : State :=
  match (s.usableLinks (s.destGroup unit)).find? (fun l => !(s.link l).quietAsked) with
  | none => s
  | some l =>
    let x := s.link l
    let c : TxCell := { control := true, first := false, last := false, dest := unit, cls := 0, payload := msg, packet := none, seq := none }
    (s.setLink l { x with fresh := x.fresh ++ [c] }).pumpLink l

/-- A link-local message. -/
def State.sendLocal (s : State) (l : Nat) (msg : List Byte) : State :=
  let x := s.link l
  let c : TxCell := { control := true, first := false, last := false, dest := 0xFFF, cls := 0, payload := msg, packet := none, seq := none }
  (s.setLink l { x with fresh := x.fresh ++ [c] }).pumpLink l

/-- A REQUEST for a context (R335, R336). -/
def State.sendRequest (s : State) (k : Nat) : State :=
  let c := s.sendCtx k
  if !s.mayCarry ∨ (s.usableLinks (s.destGroup (k / 8))).isEmpty ∨ !s.covered c.syncGate then s
  else
    let d := Nat.min (s.demand k) (2 ^ 24 - 1)
    let msg := natBe (2 ^ 56 + k % 8 * 2 ^ 53 + (if c.synced then 0 else 2 ^ 52) + c.era % 16 * 2 ^ 48 + d * 2 ^ 24
      + (if c.synced then 0 else c.nextSeq)) 8
    (s.setSendCtx k { c with reported := d, requestedAt := s.now, syncGate := none }).sendControl (k / 8) msg

/-- A REQUEST goes out where DEMAND has moved far enough, or has fallen to zero (R336). -/
def State.requestCheck (s : State) (k : Nat) : State :=
  let d := Nat.min (s.demand k) (2 ^ 24 - 1)
  let r := (s.sendCtx k).reported
  let far := decide (s.reg 0x8000 9 ≤ (d - r) + (r - d))
  if far || (decide (d = 0) && decide (r ≠ 0)) then s.sendRequest k else s

/-! ### Departure (R375) -/

/-- DONE_SEQ: the lowest SEQ of a context not yet handed over. -/
def State.doneSeq (s : State) (k : Nat) : Nat :=
  let c := s.sendCtx k
  let mine := s.fab.sent.filterMap fun (_, p) => if ctxKey p.dest p.cls = k then some p.seq else none
  mine.foldl (fun a b => if (b + 2 ^ 24 - a) % 2 ^ 24 < 2 ^ 23 then a else b) c.nextSeq

/-- A DEPARTURE_MARK of one context; the result carries its BUNDLE_SEQ. -/
def State.sendMark (s : State) (k : Nat) : State × Nat :=
  let c := s.sendCtx k
  let done := s.doneSeq k
  let entry := natBe (k / 8 % 4096 * 2 ^ 52 + k % 8 * 2 ^ 49 + c.era % 16 * 2 ^ 45 + done) 8
  let s1 := s.setPairCtx k { s.pairCtx k with done := done, doneEra := c.era }
  s1.sendRecord (typedRecord 0x45 entry)

/-! ### Pin tables and fences (R340, R341) -/

/-- Where each bucket is pinned once the moves begun and waiting are done. -/
def FlowGroup.planned (x : FlowGroup) : List (Option Nat) :=
  let p1 := x.fences.foldl (fun p f => lset p f.bucket (some f.target)) x.pins
  x.moves.foldl (fun p (b, t) => lset p b (some t)) p1

/-- Buckets planned on a link. -/
def bucketsOf (p : List (Option Nat)) (l : Nat) : Nat := (p.filter (· == some l)).length

/-- The link with the fewest buckets, the lowest lane number winning a tie. -/
def fewest (p : List (Option Nat)) : List Nat → Option Nat
  | [] => none
  | l :: ls => match fewest p ls with
    | none => some l
    | some m => if bucketsOf p m < bucketsOf p l then some m else some l

/-- The link with the most buckets, the highest lane number winning a tie. -/
def most (p : List (Option Nat)) : List Nat → Option Nat
  | [] => none
  | l :: ls => match most p ls with
    | none => some l
    | some m => if bucketsOf p m < bucketsOf p l then some l else some m

/-- A bucket has a cell that its old link has not acknowledged. -/
def State.bucketBusy (s : State) (g b : Nat) : Bool :=
  s.fab.sent.any fun (_, p) => decide (p.group = g) && decide (p.bucket = b) && p.link.isSome

/-- Waiting moves become fences, at most 8 at once; a bucket whose old link is no longer up is pinned at once (R341). -/
def State.startFences : Nat → State → Nat → State
  | 0, s, _ => s
  | fuel + 1, s, g =>
    let x := s.fabGroup g
    match x.moves with
    | [] => s
    | (b, t) :: rest =>
      let old := (x.pins.getD b none)
      let up := old.any fun l => decide (s.linkState l = 3) || decide (s.linkState l = 4)
      if !up ∨ old = some t then
        State.startFences fuel (s.setGroup g { x with moves := rest, pins := lset x.pins b (some t) }) g
      else if 8 ≤ x.fences.length then s
      else
        let f : Fence := { bucket := b, target := t, acked := if s.bucketBusy g b then none else some s.now }
        State.startFences fuel ((s.setGroup g { x with moves := rest, fences := x.fences ++ [f] }).bump 0x8001 0x0A) g

/-- The cells of a sent packet enter a link ahead of every packet not yet started there, behind one that is part-sent (R344). -/
def insertResent (fresh cells : List TxCell) : List TxCell :=
  let part := match fresh.find? (fun c => !c.control) with
    | some c => !c.first
    | none => false
  if part then
    let head := fresh.takeWhile fun c => !(!c.control && c.last)
    let rest := fresh.drop head.length
    head ++ rest.take 1 ++ cells ++ rest.drop 1
  else cells ++ fresh

/-- Sent packets that no link carries are given to the links to which their buckets are pinned, in the order in which they were
first sent (R344, R345). -/
def State.resendPackets (s : State) (g : Nat) : State :=
  let waiting := (s.fab.sent.filter fun (_, p) => decide (p.group = g) && p.link.isNone).reverse
  let s1 := waiting.foldl (fun s (id, p) =>
    match (s.fabGroup g).pins.getD p.bucket none with
    | none => s
    | some l =>
      let x := s.link l
      let s1 := s.setLink l { x with fresh := insertResent x.fresh (p.cells id) }
      { s1 with fab := { s1.fab with sent := mput s1.fab.sent id { p with link := some l } } }) s
  (s1.joinedLinks g).foldl State.pumpLink s1

/-- A link joins its group's pin table (R340): the first one takes every bucket, a later one takes buckets from the fullest. -/
def State.joinLink (s : State) (l : Nat) : State :=
  let g := s.linkGroup l
  let x := s.link l
  let s1 := s.setLink l { x with joined := true, fromFailed := false }
  let others := (s1.joinedLinks g).filter (· ≠ l)
  let y := s1.fabGroup g
  if others.isEmpty then
    let y1 := { y with pins := List.replicate 256 (some l), fences := [], moves := [], downSince := none }
    (s1.setGroup g y1).resendPackets g
  else
    let (_, moves) := (List.range 256).foldl (fun (p, ms) _ =>
      match most p others with
      | none => (p, ms)
      | some m =>
        if bucketsOf p m ≤ bucketsOf p l + 1 then (p, ms)
        else
          let b := ((List.range 256).reverse.find? fun b => p.getD b none == some m).getD 0
          (lset p b (some l), ms ++ [(b, l)])) (y.planned, ([] : List (Nat × Nat)))
    let kept := y.moves.filter fun (b, _) => !(moves.any fun (c, _) => decide (c = b))
    State.startFences 264 (s1.setGroup g { y with moves := kept ++ moves, downSince := none }) g

/-- A link leaves its group's pin table: by failure, or to be quieted while it is still up (R340, R341). -/
def State.leaveLink (s : State) (l : Nat) (failed : Bool) : State :=
  let g := s.linkGroup l
  if !(s.link l).joined ∨ 8 ≤ g then s
  else
    let s1 := s.setLink l { s.link l with joined := false }
    let left := (s1.joinedLinks g).filter (· ≠ l)
    let y := s1.fabGroup g
    let y1 := { y with fences := y.fences.filter (fun f => decide (f.target ≠ l)), moves := y.moves.filter (fun m => decide (m.2 ≠ l)) }
    if failed then
      let settle (p : List (Option Nat)) (b t : Nat) : List (Option Nat) := if p.getD b none == some l then lset p b (some t) else p
      let pins := y1.moves.foldl (fun p (b, t) => settle p b t) (y1.fences.foldl (fun p f => settle p f.bucket f.target) y1.pins)
      let gone (b : Nat) : Bool := y1.pins.getD b none == some l
      let y2 := { y1 with pins := pins, fences := y1.fences.filter (fun f => !gone f.bucket), moves := y1.moves.filter (fun m => !gone m.1) }
      let dealt := (List.range 256).foldl (fun p b =>
        if p.getD b none == some l then lset p b (fewest (FlowGroup.planned { y2 with pins := p }) left) else p) y2.pins
      let y3 := { y2 with pins := dealt, downSince := if left.isEmpty then some s.now else none }
      let s2 := s1.setGroup g y3
      let s3 := if left.isEmpty then s2.bump 0x8001 0x0B else s2
      State.startFences 264 s3 g
    else
      let (_, moves) := (List.range 256).foldl (fun (p, ms) b =>
        if p.getD b none == some l then
          match fewest p left with
          | some t => (lset p b (some t), ms ++ [(b, t)])
          | none => (p, ms)
        else (p, ms)) (y1.planned, ([] : List (Nat × Nat)))
      State.startFences 264 (s1.setGroup g { y1 with moves := y1.moves ++ moves }) g

/-! ### Quads (R85, R86, R349) -/

/-- The links of a quad. -/
def quadLinks (q : Nat) : List Nat := (List.range 4).map (4 * q + ·)

/-- A quieted quad wakes: its lanes restore their adaptation and train (R349, R432); one that is being quieted stays awake (R86). -/
def State.wakeQuad (s : State) (q : Nat) : State :=
  match s.quad q with
  | .off =>
    (quadLinks q).foldl (fun s l =>
      let a := s.adapt (1000 + l)
      let s1 := s.setAdapt (1000 + l) { a with coeffs := a.saved.getD a.coeffs, saved := none }
      if s1.linkState l = 5 then s1.setReg 0x3400 l (if s1.linkAllowed l then 1 else 0) else s1)
      ((s.setQuad q (.waking s.now)).setReg 0x2101 (145 + q) 3)
  | .quieting _ =>
    let s1 := s.setQuad q .awake
    (quadLinks q).foldl (fun s l =>
      if s.linkState l = 4 then
        ((s.setLink l { s.link l with quietSent := false, quietDone := false }).setReg 0x3400 l 3).joinLink l
      else s) s1
  | _ => s

/-- The quieted quads with a link of a group wake at once (R345). -/
def State.wakeGroup (s : State) (g : Nat) : State :=
  (List.range 40).foldl (fun s q => if (quadLinks q).any (fun l => decide (s.linkGroup l = g)) then s.wakeQuad q else s) s

/-- Nothing of a link's own is left to send or to be acknowledged, and no bucket is pinned to it (R86 steps 1 and 2). -/
def State.linkDrained (s : State) (l : Nat) : Bool :=
  let x := s.link l
  let y := s.fabGroup (s.linkGroup l)
  x.unacked.isEmpty && x.resend.isEmpty && x.fresh.isEmpty && decide (bucketsOf y.pins l = 0)

/-- A quad whose four steps are complete turns OFF: its lanes save their adaptation (R86 step 4, R432). -/
def State.quadOff (s : State) (q : Nat) : State :=
  (quadLinks q).foldl (fun s l =>
    let a := s.adapt (1000 + l)
    let s1 := (s.setAdapt (1000 + l) { a with saved := some a.coeffs }).setLink l .reset
    if s1.linkState l = 0 then s1 else s1.setReg 0x3400 l 5) ((s.setQuad q .off).setReg 0x2101 (145 + q) 0)

/-- A message of one type byte and seven zero bytes. -/
def plainMessage (ty : Nat) : List Byte := natBe ty 1 ++ List.replicate 7 0

/-- Step 3 of R86 for a quad being quieted: once every link is drained, QUIET goes out on each; with no link left to ask, the quad
turns OFF. An end that the far end asked to be quiet answers QUIET_DONE once it is drained (R349). -/
def State.quietCheck (s : State) (q : Nat) : State :=
  let mine := (quadLinks q).filter fun l => decide (s.linkState l = 4)
  let s1 := match s.quad q with
    | .quieting _ =>
      if mine.all (fun l => (s.link l).quietDone) then s.quadOff q
      else if mine.all (fun l => (s.link l).quietSent || s.linkDrained l) then
        mine.foldl (fun s l =>
          if (s.link l).quietSent then s else (s.setLink l { s.link l with quietSent := true }).sendLocal l (plainMessage 0x11)) s
      else s
    | _ => s
  (quadLinks q).foldl (fun s l =>
    let x := s.link l
    if x.quietAsked && !x.quietAnswered && x.unacked.isEmpty && x.resend.isEmpty && x.fresh.isEmpty then
      (s.setLink l { x with quietAnswered := true }).sendLocal l (plainMessage 0x12)
    else s) s1

/-! ### Failure (R343 to R345) -/

/-- A link fails with a cause of R343; cause 0 leaves LAST_FAULT_CAUSE as it is. -/
def State.failLink (s : State) (l cause : Nat) : State :=
  let st := s.linkState l
  if 160 ≤ l ∨ st = 0 ∨ st = 5 ∨ st = 6 then s
  else
    let x := s.link l
    let g := s.linkGroup l
    let sentIds := (x.unacked ++ x.resend).filterMap (·.packet)
    let partIds := x.fresh.filterMap fun c => if c.first then none else c.packet
    let wholeIds := x.fresh.filterMap fun c => if c.first then c.packet else none
    let started (id : Nat) : Bool := sentIds.contains id || (partIds.contains id && !wholeIds.contains id)
    let s1 := (((s.setReg 0x3400 l 6).bump 0x3406 l).setReg 0x3407 l (if cause = 0 then s.reg 0x3407 l else cause))
    let open_ := s1.fab.reasm.filter fun r => decide (r.link = l)
    let s2 := ({ s1 with fab := { s1.fab with
        reasm := s1.fab.reasm.filter (fun r => decide (r.link ≠ l)), dropping := s1.fab.dropping.filter (fun d => decide (d.1 ≠ l)) } }).count
      0x8001 8 open_.length
    let mine := s2.fab.sent.filter fun (_, p) => decide (p.link = some l)
    let n := (mine.filter fun (id, _) => started id).length
    let sent := mmap s2.fab.sent fun _ p => if p.link = some l then { p with link := none } else p
    let s3 := ({ s2 with fab := { s2.fab with sent := sent } }).count 0x8001 1 n
    let s4 := (s3.leaveLink l true)
    let s5 := s4.setLink l { Link.reset with failedSince := s.now, fromFailed := true }
    let s6 : State := if g < 8 then s5.resendPackets g else s5
    if g < 8 ∧ (s6.usableLinks g).length < s6.reg 0x8011 g then s6.wakeGroup g else s6

/-- Every link stops, as the mode or a loss of power makes it: packets sent and not handed over wait for a link (R329, R542). -/
def State.stopLinks (s : State) : State :=
  let s1 := (List.range 160).foldl (fun s l => s.setReg 0x3400 l 0) s
  { s1 with fab := { s1.fab with
      links := [], reasm := [], dropping := [], groups := []
      sent := mmap s1.fab.sent fun _ p => { p with link := none } } }

/-- Every link that may be in service trains (R329). -/
def State.startLinks (s : State) : State :=
  (List.range 160).foldl (fun s l =>
    if s.linkAllowed l ∧ s.linkState l = 0 ∧ s.quad (l / 4) = .awake then s.setReg 0x3400 l 1 else s) s

/-! ### Acknowledgement and replay (R342) -/

/-- The last cell of a packet is acknowledged: the packet is handed over, and its cells are freed (R33, R279, R342). -/
def State.handOver (s : State) (id : Nat) : State :=
  match mget s.fab.sent id with
  | none => s
  | some p =>
    let s0 := s.trace p.held.traceId (byteAt p.held.record 2) (beAt p.held.record 0 2) 7 [0, BitVec.ofNat 8 (p.link.getD 0)]
    let s1 := ({ s0 with fab := { s0.fab with sent := mdel s0.fab.sent id } }).freeHeld p.held
    let y := s1.fabGroup p.group
    if y.fences.any (fun f => decide (f.bucket = p.bucket) && f.acked.isNone) && !s1.bucketBusy p.group p.bucket then
      s1.setGroup p.group { y with
        fences := y.fences.map fun f => if f.bucket = p.bucket ∧ f.acked.isNone then { f with acked := some s.now } else f }
    else s1

/-- The sender goes back: every unacknowledged cell is to be sent again, in its first order. -/
def State.goBack (s : State) (l : Nat) : State :=
  let x := s.link l
  if x.unacked.isEmpty then s
  else
    let s1 := (s.setLink l { x with
      resend := x.unacked ++ x.resend, unacked := [], goBacks := x.goBacks + 1, lastAdvance := s.now }).bump 0x3404 l
    if s.reg 0x8000 4 ≤ x.goBacks + 1 then s1.failLink l 2 else s1.pumpLink l

/-- The acknowledgement fields of a cell arrive. -/
def State.takeAck (s : State) (l ack : Nat) (nak : Bool) (credits : Nat) : State :=
  let x := s.link l
  let acked (c : TxCell) : Bool := c.seq.any fun q => decide ((ack + 65536 - q) % 65536 < 32768)
  let done := (x.unacked ++ x.resend).filter acked
  let s1 := s.setLink l { x with
    unacked := x.unacked.filter (fun c => !acked c), resend := x.resend.filter (fun c => !acked c), credits := x.credits + credits
    goBacks := if done.isEmpty then x.goBacks else 0, lastAdvance := if done.isEmpty then x.lastAdvance else s.now }
  let s2 := (done.filterMap fun c => if c.last then c.packet else none).foldl State.handOver s1
  let s3 := if nak then s2.goBack l else s2
  s3.pumpLink l

/-! ### Breakwater's waiting packets (R270, R271) -/

/-- A packet waits for its verdict at the Breakwater that owns its queue, or at that of its arrival slice. -/
def State.offerBreakwater (s : State) (arrival : Nat) (fabric : Bool) (p : Packet) : State :=
  let h := beAt p.record 8 4
  let owner := if byteAt p.record 12 = 1 ∧ s.checkHandle 1 h = .ok then ((mget s.tm.queues (handleIndex h)).map Queue.owner).getD arrival else arrival
  let t := s.tmSlice owner
  s.setTmSlice owner { t with
    waiting := t.waiting ++ [{ src := 2 * arrival + (if fabric then 1 else 0), packet := p, fromFabric := fabric, copy := none }] }

/-! ### Resequencing (R333, R337, R346, R348) -/

/-- A receiving context. -/
def State.recvCtx (s : State) (k : Nat) : RecvCtx := mgetD .reset s.fab.recv k
/-- A receiving context stored. -/
def State.setRecvCtx (s : State) (k : Nat) (c : RecvCtx) : State := { s with fab := { s.fab with recv := mput s.fab.recv k c } }

/-- Packets pass to Breakwater. The arrival slice of a packet is given by its receive link, ten links to a slice (log entry 25);
`ReseqPacket.packet` holds it as the ordinal. -/
def State.passFabric (s : State) (p : ReseqPacket) : State := s.offerBreakwater (p.packet.ordinal / 10) true p.packet

/-- Held packets that follow in order pass, and NEXT_EXPECTED advances past them. -/
def State.drainReseq : Nat → State → Nat → State
  | 0, s, _ => s
  | fuel + 1, s, k =>
    let c := s.recvCtx k
    match c.held.find? (fun p => decide (p.seq = c.expect)) with
    | none => s
    | some p =>
      State.drainReseq fuel
        ((s.setRecvCtx k { c with expect := (c.expect + 1) % 2 ^ 24, held := c.held.filter (fun q => decide (q.seq ≠ p.seq)) }).passFabric p) k

/-- The oldest held packet of a context. -/
def RecvCtx.oldest (c : RecvCtx) : Option ReseqPacket :=
  c.held.foldl (fun b p => match b with
    | none => some p
    | some x => if p.since < x.since then some p else some x) none

/-- A context's gap is skipped up to its oldest held packet; held packets before it pass in SEQ order (log entry 26). -/
def State.skipGap (s : State) (k : Nat) : State :=
  let c := s.recvCtx k
  match c.oldest with
  | none => s
  | some o =>
    let d (p : ReseqPacket) : Nat := (p.seq + 2 ^ 24 - c.expect) % 2 ^ 24
    let before := (c.held.filter fun p => decide (d p < d o)).mergeSort fun a b => decide (d a ≤ d b)
    let s1 := s.setRecvCtx k { c with expect := o.seq, held := c.held.filter (fun p => decide (d o ≤ d p)) }
    let s2 := before.foldl State.passFabric s1
    State.drainReseq (c.held.length + 1) s2 k

/-- Bytes in the resequencing store. -/
def State.reseqBytes (s : State) : Nat := (s.fab.recv.map fun (_, c) => (c.held.map (·.bytes)).foldl (· + ·) 0).foldl (· + ·) 0

/-- The context whose oldest held packet is oldest. -/
def State.oldestCtx (s : State) : Option Nat :=
  (s.fab.recv.foldl (fun (b : Option (Nat × Nat)) (k, c) =>
    match c.oldest, b with
    | none, _ => b
    | some p, none => some (k, p.since)
    | some p, some (_, t) => if p.since < t then some (k, p.since) else b) none).map (·.1)

/-- Room for more bytes is made by skipping gaps (R346). -/
def State.makeRoom : Nat → State → Nat → State
  | 0, s, _ => s
  | fuel + 1, s, n =>
    if s.reseqBytes + n ≤ s.reg 0x8000 7 * 1024 then s
    else match s.oldestCtx with
      | none => s
      | some k => State.makeRoom fuel ((s.skipGap k).bump 0x8001 4) n

/-- A completed packet is judged against its receiving context (R337, R346). -/
def State.resequence (s : State) (k era : Nat) (p : ReseqPacket) : State :=
  let c := s.recvCtx k
  if !c.synced ∨ c.era ≠ era then
    let s1 := s.bump 0x8001 6
    if s1.mayCarry then s1.sendControl (k / 8) (natBe (2 * 2 ^ 56 + k % 8 * 2 ^ 53 + 2 ^ 52 + era % 16 * 2 ^ 48) 8) else s1
  else
    let d := (p.seq + 2 ^ 24 - c.expect) % 2 ^ 24
    if d = 0 then
      State.drainReseq (c.held.length + 1) ((s.setRecvCtx k { c with expect := (c.expect + 1) % 2 ^ 24 }).passFabric p) k
    else if 2 ^ 23 ≤ d then s.bump 0x8001 2
    else if 65536 ≤ d then s.bump 0x8001 5
    else if c.held.any (fun q => decide (q.seq = p.seq)) then s.bump 0x8001 2
    else
      let s1 := State.makeRoom 65536 s p.bytes
      let c1 := s1.recvCtx k
      let d1 := (p.seq + 2 ^ 24 - c1.expect) % 2 ^ 24
      if d1 = 0 then State.drainReseq (c1.held.length + 1) ((s1.setRecvCtx k { c1 with expect := (c1.expect + 1) % 2 ^ 24 }).passFabric p) k
      else if 2 ^ 23 ≤ d1 then s1.bump 0x8001 2
      else s1.setRecvCtx k { c1 with held := c1.held ++ [p] }

/-- The record of a packet from the fabric (R156, R348), with the queue of FABRIC_EGRESS_MAP or the group as its destination. -/
def State.fabricRecord (s : State) (group : Bool) (dest cls colour len : Nat) (meta_ : List Byte) : List Byte :=
  let queue := s.reg (0x8030 + dest % 128 / 32) (dest % 32 * 8 + cls)
  let r0 := List.replicate 512 0
  let r1 := patch r0 6 (natBe len 2 ++ natBe (if group then dest else queue) 4 ++ natBe (if group then 2 else 1) 1 ++ natBe cls 1 ++ natBe colour 1 ++ [1])
  patch (patch r1 20 (natBe s.ptp 8)) 32 meta_

/-- A packet whose bytes are whole completes (R333): its header is read, and it passes to resequencing. -/
def State.completePacket (s : State) (r : Reassembly) : State :=
  let h := beAt r.bytes 0 8
  let len := h / 2 ^ 3 % 2 ^ 14
  if r.bytes.length ≠ len - 4 + 16 then s.bump 0x8001 7
  else
    let group := bitAt h 35
    let dest := h / 2 ^ 19 % 65536
    let colour := h / 2 ^ 17 % 4
    let seq := h / 2 ^ 40 % 2 ^ 24
    let body := r.bytes.drop 16
    let frame := body ++ natLe (crc32 body) 4
    let p : Packet := { frame := frame, record := s.fabricRecord group dest r.cls colour len (slice r.bytes 8 8), source := .fabric r.unit r.cls seq,
                        inject := none, ordinal := r.link, custody := none, traceId := none }
    s.resequence (ctxKey r.unit r.cls) (h / 2 ^ 36 % 16)
      { seq := seq, packet := p, bytes := len, since := s.now, group := if group then some dest else none, port := dest % 128, colour := colour, cls := r.cls }

/-- The packet header holds a reserved value or a reserved bit (R331, R333). -/
def headerBad (payload : List Byte) : Bool :=
  let h := beAt payload 0 8
  decide (payload.length < 16) || decide (h % 8 ≠ 0) || decide (h / 2 ^ 17 % 4 = 3) || decide (h / 2 ^ 3 % 2 ^ 14 < 64)
    || (!bitAt h 35 && decide (128 ≤ h / 2 ^ 19 % 65536))

/-- Open reassembly contexts that the receiving TM holds (R333). -/
def reasmCap : Nat := 65536

/-- The payload of an accepted DATA cell is reassembled (R333). -/
def State.reassemble (s : State) (l unit srcLink cls : Nat) (first last : Bool) (payload : List Byte) : State :=
  let me (r : Reassembly) : Bool := decide (r.link = l) && decide (r.unit = unit) && decide (r.srcLink = srcLink)
  let key := (l, unit, srcLink)
  let undrop (s : State) : State := { s with fab := { s.fab with dropping := s.fab.dropping.filter (fun d => decide (d ≠ key)) } }
  let drop (s : State) : State := { s with fab := { s.fab with reasm := s.fab.reasm.filter (fun r => !me r) } }
  match s.fab.reasm.find? me, first with
  | none, false =>
    if s.fab.dropping.contains key then (if last then undrop s else s) else s.bump 0x8001 7
  | some r, false =>
    let r' := { r with bytes := r.bytes ++ payload, lastCell := s.now }
    if last then (drop s).completePacket r'
    else { s with fab := { s.fab with reasm := s.fab.reasm.map fun x => if me x then r' else x } }
  | old, true =>
    let s1 := undrop (if old.isSome then (drop s).bump 0x8001 7 else s)
    if headerBad payload then s1.bump 0x8001 7
    else
      let r : Reassembly := { link := l, unit := unit, srcLink := srcLink, cls := cls, bytes := payload, lastCell := s.now }
      if reasmCap ≤ s1.fab.reasm.length then
        let s2 := s1.bump 0x8001 9
        if last then s2 else { s2 with fab := { s2.fab with dropping := key :: s2.fab.dropping } }
      else if last then s1.completePacket r
      else { s1 with fab := { s1.fab with reasm := s1.fab.reasm ++ [r] } }

end Sys2Proof.Machine
end

