-- ==== Sys2Proof/Machine/HbmOps.lean ====
section
/-! DEFINITION. Sys2Proof/Machine/HbmOps.lean: the errors of the HBM, refresh boundaries, and stacks taken out of service (R399, R400,
R402, R410 to R413). -/

namespace Sys2Proof.Machine

/-- The PHY domain of a stack, PD203 to PD206. -/
def State.setPhy (s : State) (h st : Nat) : State :=
  let s1 := if st = 2 ∧ s.reg 0x2101 (203 + h) ≠ 2 then s.bump 0x2103 (203 + h) else s
  s1.setReg 0x2101 (203 + h) st

/-- What an active or a standby does when a stack is out of service (R380, R413): the active fences itself, and the standby becomes
stale with cause MEMORY. -/
def State.pairMemoryLost (s : State) : State := if s.role = 2 then s.goStale 5 0 else s.fence

/-- Every segment write in progress is abandoned, and its packets stay on-die (R283, R413). -/
def State.abandonAllSpills (s : State) : State :=
  s.tm.queues.foldl (fun s (i, q) =>
    let segs := (q.packets.filterMap fun h => match h.location with | .writing g => some g | _ => none).eraseDups
    if segs.isEmpty then s
    else
      let ps := q.packets.map fun h => match h.location with | .writing _ => { h with location := .onDie } | _ => h
      (s.setQueue i { q with packets := ps }).count 0x7050 3 segs.length) s

/-- A stack is taken out of service with a cause of R412 (R413): every packet with cells in HBM is lost, the other stacks enter
self-refresh, and what reached it as test ends. -/
def State.stackOut (s : State) (h cause : Nat) : State :=
  if s.reg 0x7101 h = 3 then s
  else
    let s1 := ((s.setReg 0x7101 h 3).setReg 0x7102 h cause).healthFree 7 cause (natBe h 1)
    let s2 := (List.range 4).foldl (fun s k =>
      let s := s.setPhy k 1
      if s.reg 0x7101 k = 3 then s else s.setReg 0x7101 k 1) s1
    let s3 := s2.abandonAllSpills
    let inHbm (x : Held) : Bool := match x.location with | .hbm _ | .reading _ => true | _ => false
    let s4 := (s3.tm.queues.map (·.1)).foldl (fun s i => s.losePackets i inHbm) s3
    let s5 := { s4 with tm := { s4.tm with spilling := false } }
    (s5.abortTests fun k => decide (k / 256 = 5 ∧ k % 256 / 32 = h)).pairMemoryLost

/-- A corrected burst (R410). -/
def State.correctedBurst (s : State) (cc : Nat) : State := if 128 ≤ cc then s else s.bump 0x7110 cc

/-- An uncorrectable burst in a row (R410), which may complete cause UE_RATE or UE_RUN of R412. -/
def State.badBurst (s : State) (cc row : Nat) : State :=
  if 128 ≤ cc then s
  else
    let h := cc / 32
    let s1 := (s.bump 0x7111 cc).healthFree 7 cc (natBe cc 1)
    let x := s1.pc cc
    let rows := if x.ueRows.contains row then [row] else row :: x.ueRows
    let s2 := s1.setPc cc { x with ueRows := rows }
    let st := s2.stack h
    let times := st.uncorrectable.filter (fun t => decide (s.now < t + 1000000000)) ++ [s.now]
    let s3 := s2.setStack h { st with uncorrectable := times }
    if s3.reg 0x7100 0x0A < times.length then s3.stackOut h 4
    else if 4 ≤ rows.length then s3.stackOut h 5
    else s3

/-- A read without an uncorrectable burst ends a run (R412). -/
def State.cleanRead (s : State) (cc : Nat) : State :=
  let x := s.pc cc
  if x.ueRows.isEmpty then s else s.setPc cc { x with ueRows := [] }

/-- The row of a segment (R395, R396), up to the constant factor of the banks: four segments share it. -/
def segmentRow (seg : Nat) : Nat := seg / 4

/-- What a read of one segment finds: pseudo-channels with corrected and with uncorrectable bursts (R409, R410). -/
def State.readErrors (s : State) (seg : Nat) (corrected bad : List Nat) : State :=
  let s1 := (List.range 128).foldl (fun s cc => if bad.contains cc then s else s.cleanRead cc) s
  let s2 := corrected.foldl State.correctedBurst s1
  bad.foldl (fun s cc => s.badBurst cc (segmentRow seg)) s2

/-- A refresh boundary of a pseudo-channel: staged delays take effect (R399, R400). -/
def State.boundary (s : State) (cc : Nat) : State :=
  let x := s.pc cc
  s.setPc cc { x with delays := x.staged.getD x.delays, staged := none, bankRefreshes := 0, lastBoundary := s.now }

/-- A boundary on every pseudo-channel of a stack (R402). -/
def State.stackBoundary (s : State) (h : Nat) : State := (List.range 32).foldl (fun s k => s.boundary (32 * h + k)) s

/-- The delays in force are recorded into the persistent copy of HBM_DELAYS, with the stack serials (R398). -/
def State.saveDelays (s : State) : State :=
  { s with hbm := { s.hbm with
      saved := (List.range 128).map fun cc => (cc, (s.pc cc).delays)
      savedSerials := (List.range 4).map fun h => (h, beNat (s.oct (0x1200 + h) 6))
      lastSave := s.now } }

end Sys2Proof.Machine
end

