-- ==== Sys2Proof/Machine/StewardOps.lean ====
section
/-! DEFINITION. Sys2Proof/Machine/StewardOps.lean: starting and restarting the stewards, the warm restart, and what a restart does
to mailboxes, locks and iterations (R91, R92, R240, R472, R483). -/

namespace Sys2Proof.Machine

/-- Messages in the words of a mailbox direction: a header with LENGTH in [7:0], then LENGTH words (R469). -/
def messageCount : Nat → List Nat → Nat
  | 0, _ => 0
  | _ + 1, [] => 0
  | fuel + 1, w :: ws => 1 + messageCount fuel (ws.drop (w % 256))

/-- Messages of a direction, a message being read and a partial one among them. -/
def MbDir.messages (d : MbDir) (unread : Nat) : Nat :=
  (if unread = 0 then 0 else 1) + messageCount d.words.length (d.words.drop unread) + (if d.claim.isSome then 1 else 0)

/-- Thread 0 of a die starts at address 0 in machine mode (R483). -/
def State.startThread0 (s : State) (t : Nat) : State :=
  s.setThread t { Thread.reset with state := .running, master := 0xFF }

/-- Every thread is STOPPED (R483). -/
def State.stopStewards (s : State) : State :=
  { s with stewards := { s.stewards with threads := [], cores := [] } }

/-- The stewards serve again: thread 0 of each die runs, and starts each integrator thread that has an entry (R483, R491). -/
def State.startStewards (s : State) : State :=
  let s1 := (s.startThread0 0).startThread0 128
  let on := s1.stewards.integratorImage && decide (s1.reg 0xB030 1 = 1)
  if !on then s1
  else s1.stewards.integratorEntry.foldl (fun s (nn, pc) =>
    if pc = 0 then s
    else
      let t := if nn < 32 then 96 + nn else 176 + (nn - 32)
      let m := if nn < 32 then 0 else 128
      let th := { Thread.reset with state := .running, master := m, pc := pc, machine := false, regs := if m = 0 then [] else [(10, m)] }
      s.setThread t th) s1

/-- Mailboxes emptied and claims ended, each message counted as abandoned (R91, R472). -/
def State.emptyMailboxes (s : State) : State :=
  let s1 := s.host.mailboxes.foldl (fun s (m, b) =>
    s.count 0xA802 m (b.d0.messages b.d0.unread + b.d1.messages b.d1.unread)) s
  { s1 with host := { s1.host with mailboxes := [] } }

/-- A warm restart begins (R91): the stewards stop, their mailboxes are emptied and their locks released, BLOB read copies are dropped
(R127), iterations close (R240), CATCHUP returns to BRINGUP, and everything else runs on. -/
def State.warmRestart (s : State) (cause : Nat) (pin : Bool) : State :=
  let again := s.power.warmSince.isSome
  let s1 := (s.stopStewards).emptyMailboxes
  let s2 := { s1 with
    acc := { s1.acc with copies := [] }
    host := { s1.host with locks := s1.host.locks.filter (fun (_, m) => decide (0xC0 ≤ m)) }
    tables := { s1.tables with iters := s1.tables.iters.map (fun (k, x) => (k, { x with isOpen := false })) }
    power := { s1.power with warmSince := some s1.now }
    hbm := { s1.hbm with channels := mmap s1.hbm.channels fun _ x => { x with round := none, searchOut := true } } }
  let s3 := if again then s2 else s2.bump 0x1000 7
  let s4 := if again && !pin then s3 else s3.setReg 0x1000 8 cause
  if s4.mode = .catchup then
    let s5 := s4.breakPair false
    let s6 := { s5 with power := { s5.power with ms := { s5.power.ms with mode := .bringup } } }
    ((s6.setReg 0x2000 3 Mode.catchup.code).bump 0x2000 4).refreshIdentity
  else s4

end Sys2Proof.Machine
end

