-- ==== Sys2Proof/Machine/FirmwareOps.lean ====
section
/-! DEFINITION. Sys2Proof/Machine/FirmwareOps.lean: bundles and their verification, the boot record, slot choice, installs and
the trial (R97 to R100, R103, R521 to R526, R532 to R538). -/

namespace Sys2Proof.Machine

/-- Every byte of a list is zero. -/
def allZero (bs : List Byte) : Bool := bs.all (· == 0)

/-! ### The bundle (R521 to R524) -/

/-- The directory of a bundle: TYPE, OFFSET, LENGTH of each entry. -/
def bundleDir (b : List Byte) : List (Nat × Nat × Nat) :=
  (List.range (byteAt b 5)).map fun k => (byteAt b (32 + 16 * k), beAt b (36 + 16 * k) 4, beAt b (40 + 16 * k) 4)

/-- The lengths that a section type allows (R522), none for a reserved type. -/
def sectionSpan : Nat → Option (Nat × Nat)
  | 0x01 => some (512, 512) | 0x02 => some (1, 458752) | 0x03 => some (1, 3145728) | 0x04 => some (1, 3145728)
  | 0x05 => some (1, 65536) | 0x06 => some (1, 2097152) | 0x08 => some (200, 200) | 0x10 => some (128, 1048576)
  | 0x11 => some (64, 1048576) | 0x12 => some (200, 200) | _ => none

/-- Sections that every bundle has (R522). -/
def requiredSections : List Nat := [0x01, 0x02, 0x03, 0x04, 0x05, 0x06, 0x08]

/-- PIECE_COUNT (R521). -/
def pieceCount (total : Nat) : Nat := (total + 65535) / 65536

/-- Where the piece table of a bundle begins. -/
def pieceTable (b : List Byte) : Nat := 32 + 16 * byteAt b 5

/-- The bytes of piece p, with its own table entry taken as zero in piece 0 (R521). -/
def pieceBytes (b : List Byte) (total p : Nat) : List Byte :=
  let raw := slice b (65536 * p) (min 65536 (total - 65536 * p))
  if p = 0 then patch raw (pieceTable b) [0, 0, 0, 0] else raw

/-- Whether piece p agrees with the piece table of the bundle's piece 0 (R521, R529). -/
def pieceGood (b : List Byte) (total p : Nat) : Bool :=
  decide (crc32 (pieceBytes b total p) = beAt b (pieceTable b + 4 * p) 4)

/-- Two spans of bytes that do not overlap. -/
def apart (a b : Nat × Nat × Nat) : Bool := decide (a.2.1 + a.2.2 ≤ b.2.1) || decide (b.2.1 + b.2.2 ≤ a.2.1)

/-- Reserved fields of the DESCRIPTOR are zero, and its fields lie in their ranges (R523). -/
def descriptorGood (d : List Byte) : Bool :=
  let flags := byteAt d 14
  decide (byteAt d 6 ≤ 1) && decide (byteAt d 7 ≤ 1) && decide (flags < 4)
    && (bitAt flags 0 || allZero (slice d 16 32)) && decide (byteAt d 48 < 16) && allZero (slice d 49 15)
    && (List.range 8).all (fun k => allZero (slice d (64 + 56 * k + 1) 3) && (byteAt d (64 + 56 * k) != 0 || allZero (slice d (64 + 56 * k) 56)))

/-- Check STRUCTURE of R525: R521 and R522 hold, reserved fields are zero, and REVOKE_KEYS does not name the signing key. -/
def structureGood (b : List Byte) : Bool :=
  let dir := bundleDir b
  let n := byteAt b 5
  let total := beAt b 8 4
  let d := (bundleSection b 0x01).getD []
  let sig := (bundleSection b 0x08).getD []
  decide (b.length ≤ 12582912) && decide (beAt b 0 4 = 0x46424E44) && decide (byteAt b 4 = 1) && decide (8 ≤ n ∧ n ≤ 11)
    && allZero (slice b 6 2) && decide (total = b.length) && allZero (slice b 12 20)
    && (List.range n).all (fun k => allZero (slice b (33 + 16 * k) 3) && allZero (slice b (44 + 16 * k) 4))
    && decide (pieceTable b + 4 * pieceCount total ≤ 1024)
    && (List.range (pieceCount total)).all (pieceGood b total)
    && dir.all (fun (t, off, len) => (match sectionSpan t with | some (lo, hi) => decide (lo ≤ len ∧ len ≤ hi) | none => false)
        && decide (off % 1024 = 0) && decide (1024 ≤ off) && decide (off + len ≤ total))
    && decide (dir.map (·.1)).Nodup && requiredSections.all (fun t => (dir.map (·.1)).contains t)
    && (!((dir.map (·.1)).contains 0x10 || (dir.map (·.1)).contains 0x11) || (dir.map (·.1)).contains 0x12)
    && (List.range n).all (fun i => (List.range n).all (fun j => decide (i = j) || apart (dir.getD i (0, 0, 0)) (dir.getD j (0, 0, 0))))
    && dir.any (fun (_, off, len) => decide (off + len = total))
    && descriptorGood d && allZero (slice sig 1 2) && allZero (slice sig 196 4) && !bitAt (byteAt d 48) (byteAt sig 0)

/-- The checks 1 to 7 of R525 in order: the cause of the first that fails, 0 when all pass. -/
def State.verify (s : State) (b : List Byte) : Nat :=
  let d := (bundleSection b 0x01).getD []
  let sig := (bundleSection b 0x08).getD []
  let key := slice sig 3 97
  let digest (t : Nat) : Bool := match bundleSection b t with
    | none => false
    | some x => (List.range 8).any fun k =>
        decide (byteAt d (64 + 56 * k) = t) && decide (beAt d (68 + 56 * k) 4 = x.length)
          && decide (slice d (72 + 56 * k) 48 = Config.sha384 x)
  if !structureGood b then 1
  else if !(decide (byteAt sig 0 ≤ 3) && decide (Config.sha384 key = Config.romKeyDigest (byteAt sig 0))
      && !bitAt s.fw.revoked (byteAt sig 0)) then 2
  else if !Config.ecdsaVerify key d (slice sig 100 96) then 3
  else if !([2, 3, 4, 5, 6].all digest) then 4
  else if beAt d 8 2 ≠ 0x8256 ∨ !bitAt (beAt d 10 2) Config.steppingCode then 5
  else if bitAt (byteAt d 14) 0 ∧ !(decide (slice d 16 16 = slice Config.feDieId 0 16) && decide (slice d 32 16 = slice Config.tmDieId 0 16))
    then 6
  else if byteAt d 15 < s.fw.floor then 7
  else 0

/-- The entry table of an integrator section meets R522. -/
def entriesGood (x : List Byte) (n : Nat) : Bool :=
  (List.range n).all fun k =>
    let e := beAt x (4 * k) 4
    decide (e = 0) || decide (0x01300000 ≤ e ∧ e ≤ 0x013FFFFF)

/-- Whether the integrator sections of a bundle are loaded (R524, R525). -/
def State.integratorGood (s : State) (b : List Byte) : Bool :=
  let d := (bundleSection b 0x01).getD []
  let sig := (bundleSection b 0x12).getD []
  let dig (t : Nat) : List Byte := match bundleSection b t with | some x => Config.sha384 x | none => List.replicate 48 0
  let own := slice (s.oct 0xE000 6) 0 48
  !allZero own && decide (byteAt sig 0 = 0) && decide (Config.sha384 (slice sig 3 97) = own)
    && Config.ecdsaVerify (slice sig 3 97) (Config.sha384 d ++ dig 0x10 ++ dig 0x11) (slice sig 100 96)
    && (match bundleSection b 0x10 with | some x => entriesGood x 32 | none => true)
    && (match bundleSection b 0x11 with | some x => entriesGood x 16 | none => true)

/-! ### Slots and the boot record (R97 to R99) -/

/-- The bundle in slot 0 (A) or 1 (B). -/
def Firmware.slot (f : Firmware) (k : Nat) : Option Bundle := if k = 0 then f.slotA else f.slotB

/-- A slot's contents replaced. -/
def State.setSlot (s : State) (k : Nat) (b : Option Bundle) : State :=
  if k = 0 then { s with fw := { s.fw with slotA := b } } else { s with fw := { s.fw with slotB := b } }

/-- SEQ a is ahead of SEQ b in modulo-2^32 order. -/
def seqAhead (a b : Nat) : Bool := decide ((a + 2 ^ 32 - b) % 2 ^ 32 < 2 ^ 31) && decide (a ≠ b)

/-- The current boot record and the copy that holds it (R97). -/
def Firmware.bootCurrent (f : Firmware) : Option (Nat × BootRec) :=
  match f.boot0, f.boot1 with
  | some a, some b => if seqAhead b.seq a.seq then some (1, b) else some (0, a)
  | some a, none => some (0, a)
  | none, some b => some (1, b)
  | none, none => none

/-- A boot record with nothing set, as the first one written. -/
def BootRec.blank : BootRec :=
  { flashMhz := 100, seq := 0, lastGood := 0, trialSlot := none, trialLeft := 0, stagedPending := false, refusedA := false,
    refusedB := false }

/-- A changed boot record is written to the copy that is not current, with SEQ increased by one (R98). -/
def State.writeBoot (s : State) (f : BootRec → BootRec) : State :=
  match s.fw.bootCurrent with
  | some (0, r) => { s with fw := { s.fw with boot1 := some { f r with seq := (r.seq + 1) % 2 ^ 32 } } }
  | some (_, r) => { s with fw := { s.fw with boot0 := some { f r with seq := (r.seq + 1) % 2 ^ 32 } } }
  | none => { s with fw := { s.fw with boot0 := some (f .blank) } }

/-- The bit of a slot in SLOT_REFUSED. -/
def BootRec.refused (r : BootRec) (k : Nat) : Bool := if k = 0 then r.refusedA else r.refusedB
/-- The bit of a slot in SLOT_REFUSED set or cleared. -/
def BootRec.setRefused (r : BootRec) (k : Nat) (v : Bool) : BootRec := if k = 0 then { r with refusedA := v } else { r with refusedB := v }

/-- A bit of BOOT_FAULTS set (R94), and recorded in area BOOT of the health report (R555). -/
def State.bootFault (s : State) (b : Nat) : State := (s.setReg 0x1000 0x0A (s.reg 0x1000 0x0A ||| 2 ^ b)).healthFree 2 b []

/-- The result of a slot's verification is reported (R541). -/
def State.noteSlot (s : State) (k cause : Nat) : State :=
  let v := match s.fw.slot k with | some b => beAt ((bundleSection b.bytes 0x01).getD []) 0 4 | none => 0
  let st := if (s.fw.slot k).isNone then 0 else if cause ≠ 0 then 3
    else if (s.fw.bootCurrent.bind (·.2.trialSlot)) = some k then 2 else 1
  ((s.setReg 0xE001 k v).setReg 0xE002 k st).setReg 0xE003 k cause

/-- A slot verified; an empty slot fails as STRUCTURE. -/
def State.verifySlot (s : State) (k : Nat) : Bool × State :=
  match s.fw.slot k with
  | none => (false, s.noteSlot k 1)
  | some b => let c := s.verify b.bytes; (decide (c = 0), s.noteSlot k c)

/-- STAGE_STATE (R541). -/
def State.stageState (s : State) : Nat := s.reg 0xE010 4

/-- The bytes of the staged bundle. -/
def Delivery.bytes (d : Delivery) : List Byte :=
  ((List.range ((d.total + 1023) / 1024)).map fun k =>
    slice (mgetD [] d.blocks k) 0 (min 1024 (d.total - 1024 * k))).flatten

/-- An install of verified bytes into a slot: erased, programmed and read back, and the boot record written (R100). -/
def State.install (s : State) (k : Nat) (b : List Byte) : State :=
  let s1 := s.setSlot k (some { bytes := b })
  let s2 := s1.writeBoot fun r => ({ r with stagedPending := false, trialSlot := some k, trialLeft := 3 }).setRefused k false
  (s2.noteSlot k 0).setReg 0xE010 4 6

/-- The install of a pending staged bundle at a power-on start (R99, R100). -/
def State.installPending (s : State) : State :=
  match s.fw.bootCurrent with
  | none => s
  | some (_, r) =>
    if !r.stagedPending then s
    else match s.fw.delivery with
      | none => (s.writeBoot fun r => { r with stagedPending := false }).bootFault 4
      | some d =>
        if s.verify d.bytes = 0 then s.install (1 - r.lastGood) d.bytes
        else (s.writeBoot fun r => { r with stagedPending := false }).bootFault 4

/-- The failure of a trial as it is counted and recorded (R538): the boot record names no trial. -/
def State.noteTrialFailed (s : State) (cause : Nat) : State :=
  let s1 := (s.incReg 0xE020 9).setReg 0xE020 0x0A cause
  let s2 := (s1.healthFree 3 cause []).writeBoot fun r => { r with trialSlot := none, trialLeft := 0 }
  State.setReg { s2 with fw := { s2.fw with trial := none } } 0xE020 8 0

/-- The slots in the order in which a power-on start tries them (R99), with TRIAL_LEFT counted down before the read. A trial slot
with no starts left has failed with cause TRIAL_STARTS (R538). -/
def State.slotOrder (s : State) : List Nat × State :=
  match s.fw.bootCurrent with
  | none => ([0, 1], s)
  | some (_, r) =>
    match r.trialSlot with
    | some k =>
      if r.trialLeft = 0 then ([r.lastGood, 1 - r.lastGood], s.noteTrialFailed 5)
      else ([k, r.lastGood], s.writeBoot fun r => { r with trialLeft := r.trialLeft - 1 })
    | none => ([r.lastGood, 1 - r.lastGood], s)

/-- The first slot of an order that is not refused and verifies (R99). -/
def State.chooseSlot : State → List Nat → Option Nat × State
  | s, [] => (none, s)
  | s, k :: rest =>
    if (s.fw.bootCurrent.any fun x => x.2.refused k) then State.chooseSlot (s.bootFault (2 + k)) rest
    else
      let (ok, s1) := s.verifySlot k
      if ok then (some k, s1) else State.chooseSlot (s1.bootFault (2 + k)) rest

/-- The running bundle's integrator images are loaded, or the fact that they are not is recorded (R525). -/
def State.loadIntegrator (s : State) : State :=
  let b := s.runningBundle
  let fe := bundleSection b 0x10
  let tm := bundleSection b 0x11
  if fe.isNone && tm.isNone then
    { s with stewards := { s.stewards with integratorImage := false, integratorEntry := [] } }
  else if s.integratorGood b then
    let e1 := match fe with | some x => (List.range 32).map (fun k => (k, beAt x (4 * k) 4)) | none => []
    let e2 := match tm with | some x => (List.range 16).map (fun k => (32 + k, beAt x (4 * k) 4)) | none => []
    { s with stewards := { s.stewards with integratorImage := true, integratorEntry := e1 ++ e2 } }
  else
    ({ s with stewards := { s.stewards with integratorImage := false, integratorEntry := [] } }).healthFree 3 0 []

/-- The slot that runs, as reported (R541). -/
def State.setRunning (s : State) (k : Nat) : State :=
  let s1 := { s with fw := { s.fw with runningSlot := k } }
  let s2 := (s1.setReg 0xE000 2 k).setReg 0xE000 1 (beAt s1.descriptor 0 4)
  (s2.setReg 0x1040 3 (beAt s1.descriptor 4 2)).loadIntegrator

/-- The time in ns that a trial has run (R536). -/
def State.trialAge (s : State) (t : Trial) : Nat :=
  match t.since with
  | some t0 => s.now - t0
  | none => 0

/-- Something that makes a trial unhealthy has occurred (R536). -/
def State.trialUnhealthy (s : State) : State :=
  { s with fw := { s.fw with trial := s.fw.trial.map fun t => { t with healthy := false } } }

end Sys2Proof.Machine
end

