-- ==== Sys2Proof/Machine/Gates.lean ====
section
/-! DEFINITION. Sys2Proof/Machine/Gates.lean: gate lists: their form, the change time and the pending list (R317 to R319, R324). -/

namespace Sys2Proof.Machine

/-! ### Gate lists (R317 to R319) -/

/-- A gate list. -/
def State.gateList (s : State) (k : Nat) : GateList := mgetD .reset s.tm.gateLists k

/-- WINDOW_STATE of a gate list (R324). -/
def GateList.state (g : GateList) : Nat := (if g.oper.isSome then 2 else 0) + (if g.pending.isSome then 1 else 0)

/-- A gate list stored, with the objects that show it. -/
def State.setGateList (s : State) (k : Nat) (g : GateList) : State :=
  (({ s with tm := { s.tm with gateLists := mput s.tm.gateLists k g } }).setReg 0x7E04 k g.state).setOct 0x7E03 k ((g.oper.map Prod.fst).getD [])

/-- The entries of a list: gate states and interval (R318). -/
def gateEntries (b : List Byte) : List (Nat × Nat) :=
  (List.range (beAt b 12 2)).map fun k => (byteAt b (16 + 8 * k), beAt b (20 + 8 * k) 4)

/-- CYCLE_TIME_NS. -/
def cycleOf (b : List Byte) : Nat := beAt b 8 4

/-- A list that keeps the table of R318. -/
def gateListGood (b : List Byte) : Bool :=
  let es := gateEntries b
  decide (1 ≤ beAt b 12 2 ∧ beAt b 12 2 ≤ 256) && decide (b.length = 16 + 8 * beAt b 12 2) && decide (beAt b 14 2 = 0)
    && decide (1000 ≤ cycleOf b ∧ cycleOf b ≤ 1000000000)
    && (List.range (beAt b 12 2)).all (fun k => decide (beAt b (17 + 8 * k) 3 = 0))
    && es.all (fun e => decide (64 ≤ e.2 ∧ e.2 ≤ 1000000000)) && decide ((es.map (·.2)).foldl (· + ·) 0 = cycleOf b)

/-- The configuration change time (R319): the smallest k ≥ 0 that lies at least 10 µs after the event. -/
def changeTime (b : List Byte) (now : Nat) : Nat :=
  let base := beAt b 0 8
  let c := cycleOf b
  if now + 10000 ≤ base ∨ c = 0 then base else base + (now + 10000 - base + c - 1) / c * c

/-- The administrative list becomes pending (R319). -/
def State.pendList (s : State) (k : Nat) : State :=
  let b := s.oct 0x7E02 k
  if !gateListGood b then s
  else
    let t := changeTime b s.ptp
    (s.setGateList k { s.gateList k with pending := some (b, t) }).setReg 0x7E08 k t

/-- A list enabled from flash becomes pending on entry to PROPORTIONAL or SPRING (R319, R324); one that is in force or pending already
stays as it is. -/
def State.restartWindows (s : State) : State :=
  (List.range 32).foldl (fun (s : State) k =>
    let g := s.gateList k
    if s.reg 0x7E05 k = 1 ∧ g.oper.isNone ∧ g.pending.isNone then s.pendList k else s) s

end Sys2Proof.Machine
end

