-- ==== Sys2Proof/Machine/PowerOps.lean ====
section
/-! DEFINITION. Sys2Proof/Machine/PowerOps.lean: power domains, the entry into each mode, the shutdown of a trip or a lost supply,
the power-on reset, and the end of a failed trial (R36, R54, R57, R68, R72 to R79, R89, R102, R538, R542). -/

namespace Sys2Proof.Machine

/-- State of a domain (R58); a transition to ON counts in DOMAIN_WAKES. -/
def State.setDomain (s : State) (n st : Nat) : State :=
  let s1 := if st = 2 ∧ s.reg 0x2101 n ≠ 2 then s.bump 0x2103 n else s
  s1.setReg 0x2101 n st

/-- The mode machine changed. -/
def State.setMs (s : State) (f : ModeState → ModeState) : State :=
  { s with power := { s.power with ms := f s.power.ms } }

/-- A requested transition in progress ends ABORTED (R75). -/
def State.abortRequest (s : State) : State :=
  let ms := s.power.ms
  if ms.status = .inProgress ∨ ms.status = .drainTimeout then
    s.setMs fun m => { m with status := .aborted, target := none, pending := none }
  else s.setMs fun m => { m with target := none, pending := none }

/-- Objects that DORMANT keeps: those of the ranges of R71, of the update range that Tidewatch serves, the health areas, and
every persistent object (R71, R78). -/
def keptInDormant (k : Nat) : Bool :=
  let i := k / 256
  dormantServed i || decide (0xE000 ≤ i ∧ i ≤ 0xEFFF) || decide (0xD040 ≤ i ∧ i ≤ 0xD041)
    || (dictRow i (k % 256)).any (·.p)

/-- Open batches are discarded and counted; a later commit of one draws STALE_HANDLE (R77, R131). -/
def State.discardBatches (s : State) : State :=
  let n := (s.acc.batches.filter fun (_, b) => b.isOpen).length
  let bs := s.acc.batches.map fun (k, b) =>
    if b.isOpen then (k, { Batch.reset with gen := if b.gen = 255 then 1 else b.gen + 1 }) else (k, b)
  ({ s with acc := { s.acc with batches := bs } }).count 0x5C00 4 n

/-- Ports that carry traffic go down with cause MODE_CHANGE as the device leaves forwarding (R37, R424). -/
def State.allPortsDown (s : State) : State :=
  (List.range 128).foldl (fun s p => s.portDown p 2 3) s

/-- Everything that PD001 to PD211 and the stacks hold is lost (R78). -/
def State.losePower (s : State) : State :=
  let s1 := s.discardBatches;
  { State.reset with
    pending := s1.pending, now := s1.now, draws := s1.draws, out := s1.out
    objs := s1.objs.filter (fun (k, _) => keptInDormant k)
    octs := s1.octs.filter (fun (k, _) => keptInDormant k)
    acc := { Serving.reset with
      sessions := mmap s1.acc.sessions (fun _ x => { x with serving := false }), accepts := s1.acc.accepts, batches := s1.acc.batches, answers := s1.acc.answers, nextJob := s1.acc.nextJob }
    power := s1.power
    fw := s1.fw
    hbm := { Hbm.reset with saved := s1.hbm.saved, savedSerials := s1.hbm.savedSerials },
    stats := { Stats.reset with wrapped := s1.stats.wrapped.filter (fun (k, _) => keptInDormant k) }
    test := { Testing.reset with tapLoaded := s1.test.tapLoaded, health := s1.test.health, healthSeq := s1.test.healthSeq } }

/-- Domains in DORMANT: PD000 alone is ON (R57). -/
def State.domainsOff (s : State) : State :=
  { s with objs := s.objs.filter fun (k, _) => decide (k / 256 ≠ 0x2101) || decide (k % 256 = 0) }

/-- The device is in DORMANT (R53, R78): the state of the switched domains is lost, DORMANT_COUNT counts, and PWR_EN_MAIN
falls. Management port 0 runs on, port 1 is off (R70, R435). -/
def State.sinkDormant (s : State) : State :=
  let s1 := (s.losePower.domainsOff).setReg 0x2101 0 2
  let s2 := s1.setMs fun m => { m with mode := .dormant, dormantSince := s1.now, target := none, pending := none }
  let pins := { s2.power.pins with pwrEnMain := false, ppsOut := false }
  let s3 := { s2 with power := { s2.power with pins := pins, start := .idle, fe := .reset, tm := .reset, warmSince := none } }
  (s3.bump 0x1000 0x0B).setReg 0x3181 1 0

/-- The device enters DORMANT from another mode. -/
def State.enterDormant (s : State) : State :=
  ((s.sinkDormant).setReg 0x2000 3 s.mode.code).bump 0x2000 4

/-- Mate lanes held in service by MATE_LANE_ADMIN begin to train (R355, R357), but not in DIAGNOSTIC. -/
def State.startLanes (s : State) : State :=
  (List.range 8).foldl (fun (s : State) k =>
    if s.reg 0x3601 k = 1 ∧ s.reg 0x3600 k = 0 ∧ s.mode ≠ .diagnostic then (s.setLane k .reset).setReg 0x3600 k 1 else s) s

/-- The mate quads are ON while PAIR_ENABLE is 1 (R355), and OFF, with their lanes DISABLED, while it is 0. -/
def State.powerPair (s : State) : State :=
  if s.pairEnabled then ((s.setDomain 185 2).setDomain 186 2).startLanes
  else (List.range 8).foldl (fun (s : State) k => (s.setLane k .reset).setReg 0x3600 k 0) ((s.setDomain 185 0).setDomain 186 0)

/-- What the entry into BRINGUP, a forwarding mode, DRAIN or DIAGNOSTIC does beside the mode itself. -/
def State.onEnter (s : State) (prev m : Mode) : State :=
  match m with
  | .bringup =>
    let s1 := if prev = .drain then s.allPortsDown else s
    let s2 := if prev = .diagnostic then
        let a := s1.abortTests (fun _ => true)
        (if a.pairEnabled then a.startLanes else a).startLinks.portsReset
      else s1
    let slept := if prev = .dormant then s2.now - s2.power.ms.dormantSince else 0
    let t := s2.fw.trial.map fun t => { t with since := some ((t.since.map (· + slept)).getD s2.now) }
    let s3 := s2.breakPair false
    { s3 with pair := { s3.pair with fenced := false }, fw := { s3.fw with trial := t } }
  | .proportional | .spring =>
    let seed := if s.reg 0x7000 0x0D = 0 then 1 else s.reg 0x7000 0x0D
    (List.range 16).foldl (fun s n => s.setTmSlice n { s.tmSlice n with lfsr := seed }) s.restartWindows
  | .diagnostic =>
    let s1 := s.allPortsDown.discardBatches.setLanes (List.range 128) 0
    let s2 := s1.stopLinks
    let s3 := (List.range 8).foldl (fun s l => s.setReg 0x3600 l 0) s2
    (List.range 4).foldl (fun s h => if s.reg 0x7101 h = 3 then s else s.setReg 0x7101 h 0) s3
  | _ => s

/-- Wakes every domain that sleep rules may have put to sleep (R79). -/
def State.wakeAll (s : State) : State :=
  let s1 := (List.range 16).foldl (fun s n =>
    s.setSlice n { s.sliceAt n with feAsleep := false, tmAsleep := false, wakeReq := none, wakeGrant := none, idleSince := s.now }) s
  let s2 := (List.range 212).foldl (fun s n => if s.reg 0x2101 n = 1 ∧ !(decide (187 ≤ n ∧ n < 207)) then s.setDomain n 2 else s) s1
  ((List.range 40).foldl State.wakeQuad s2).wakeStacks

/-- A transition completes: MODE reads the new value (R72, R73). -/
def State.completeMode (s : State) (m : Mode) : State :=
  let prev := s.mode
  if m = .dormant then s.saveDelays.enterDormant
  else
    let s1 := s.setMs fun x => { x with mode := m, target := none }
    let s2 := (s1.setReg 0x2000 3 prev.code).bump 0x2000 4
    let s3 := if m = .proportional then s2 else s2.wakeAll
    (s3.onEnter prev m).refreshIdentity

/-- An automatic transition: a requested one in progress ends ABORTED (R75). -/
def State.autoMode (s : State) (m : Mode) : State := s.abortRequest.completeMode m

/-- A standby that is not in step loses its mate: it reports MATE_LOST, and CATCHUP returns to BRINGUP (R73, R385). -/
def State.standbyAlone (s : State) : State :=
  let s1 := s.breakPair true
  if s1.mode = .catchup then s1.autoMode .bringup else s1

/-- An install in service is abandoned: the staging area still holds the bundle (R533). -/
def State.abandonInstall (s : State) : State :=
  match s.fw.installing with
  | none => s
  | some _ => ({ s with fw := { s.fw with installing := none, act := .idle, restartDue := false } }).setReg 0xE010 4 3

/-- The steps of R54, for a loss of supply, a trip (R61) or the loss of a clock (R68): the unit fences itself, stops, and enters
DORMANT. -/
def State.shutDown (s : State) (trip : Bool) : State :=
  let s1 := s.fence.abortRequest.abandonInstall
  (if s1.mode = .dormant then s1.sinkDormant else s1.enterDormant).setMs fun m => { m with afterTrip := trip }

/-- The whole device is reset (R89): persistent objects, BOOT_COUNT, TRIP_CAUSE and CLOCK_FAULT_CAUSE stay, with what flash and
fuses hold. -/
def State.powerOnReset (s : State) (cause : Nat) : State :=
  let s1 := s.fence.abandonInstall
  let flashObj (k : Nat) : Bool := decide (0xE000 ≤ k / 256 ∧ k / 256 ≤ 0xE010) && !(dictRow (k / 256) (k % 256)).any (·.v)
  let keep (k : Nat) : Bool := (dictRow (k / 256) (k % 256)).any (·.p) || flashObj k
  let s2 := { State.reset with
    pending := s1.pending, now := s1.now, draws := s1.draws, out := s1.out
    objs := s1.objs.filter (fun (k, _) => keep k)
    octs := s1.octs.filter (fun (k, _) => keep k)
    acc := { Serving.reset with answers := s1.acc.answers, nextJob := s1.acc.nextJob }
    power := { Power.reset with
      pins := { s1.power.pins with pwrEnMain := false, ppsOut := false, thermAlertN := true, modResetN := 0, modLpMode := BitVec.allOnes 32 }
      ms := { Power.reset.ms with dormantSince := s1.now }
      twclkLost := s1.power.twclkLost, refclkLost := s1.power.refclkLost, eeprom := s1.power.eeprom, recordCrc := s1.power.recordCrc
      storeHalf0 := s1.power.storeHalf0, storeHalf1 := s1.power.storeHalf1 }
    fw := { s1.fw with act := .idle, trial := none, restartDue := false }
    hbm := { Hbm.reset with saved := s1.hbm.saved, savedSerials := s1.hbm.savedSerials }
    test := { Testing.reset with tapLoaded := s1.test.tapLoaded } }
  (s2.setReg 0x1000 8 cause).setReg 0x2101 0 2

/-- A trial fails (R538): it is counted and recorded, the boot record names no trial, and the unit falls back by a warm restart
from LAST_GOOD where the Tidewatch image is that of the last good bundle, by a cold reset otherwise; at a power-on start the
start under way falls back. -/
def State.failTrial (s : State) (cause : Nat) : State :=
  if s.fw.trial.isNone then s
  else
    let s1 := s.noteTrialFailed cause
    let good := (s1.fw.bootCurrent.map (·.2.lastGood)).getD 0
    let image := ((s1.fw.slot good).bind fun b => bundleSection b.bytes 2).getD []
    if 4 ≤ cause then s1
    else if image = s1.fw.tidewatchImage then (s1.warmRestart 5 false).setRunning good
    else s1.powerOnReset 2

end Sys2Proof.Machine
end

