-- ==== Sys2Proof/Machine/Stewards.lean ====
section
/-! DEFINITION. Sys2Proof/Machine/Stewards.lean: the meanings of the thread-control instructions and of the commands on steward threads
and cores (R477 to R497, R516). -/

namespace Sys2Proof.Machine

/-! ### Threads, dies and cores (R477) -/

/-- The die of a thread: 0 FE, 1 TM. -/
def dieOf (t : Nat) : Nat := if t < 128 then 0 else 1
/-- Thread 0 of a die. -/
def threadZero (die : Nat) : Nat := 128 * die
/-- The core of a thread: 0 to 7 on FE, 8 to 15 on TM. -/
def coreOf (t : Nat) : Nat := if t < 128 then t / 16 else 8 + (t - 128) / 8
/-- The threads of a core. -/
def coreThreads (c : Nat) : List Nat :=
  if c < 8 then (List.range 16).map (16 * c + ·) else (List.range 8).map (128 + 8 * (c - 8) + ·)
/-- The threads of a die. -/
def dieThreads (die : Nat) : List Nat := if die = 0 then List.range 128 else (List.range 64).map (128 + ·)
/-- A steward core. -/
def State.core (s : State) (c : Nat) : Core := mgetD { idleSince := none, retained := false, slots := [], lfsr := 1 } s.stewards.cores c
/-- A steward core stored. -/
def State.setCore (s : State) (c : Nat) (x : Core) : State := { s with stewards := { s.stewards with cores := mput s.stewards.cores c x } }
/-- The registers of thread 0 of a die. -/
def State.nmi (s : State) (die : Nat) : Nmi := if die = 0 then s.stewards.fe else s.stewards.tm
/-- The registers of thread 0 of a die stored. -/
def State.setNmi (s : State) (die : Nat) (x : Nmi) : State :=
  if die = 0 then { s with stewards := { s.stewards with fe := x } } else { s with stewards := { s.stewards with tm := x } }

/-- An integrator thread (R491). -/
def State.integrator (s : State) (t : Nat) : Bool :=
  integratorThread t && decide (s.reg 0xB030 1 = 1) && s.stewards.integratorImage

/-- A register of a thread; x0 reads zero. -/
def Thread.get (x : Thread) (r : Nat) : Nat := if r = 0 then 0 else mgetD 0 x.regs r
/-- A register of a thread written; a write of x0 is discarded. -/
def Thread.put (x : Thread) (r v : Nat) : Thread := if r = 0 ∨ 32 ≤ r then x else { x with regs := mset 0 x.regs r (v % 2 ^ 64) }

/-- A thread runs: slack water may be raised again (R494), and its core is ON (R478). -/
def State.runThread (s : State) (t : Nat) (x : Thread) : State :=
  let c := coreOf t
  let d := if c < 8 then 187 + c else 195 + (c - 8)
  let s1 := (s.setThread t { x with state := .running }).setNmi (dieOf t) { s.nmi (dieOf t) with raised := false }
  (s1.setCore c { s1.core c with idleSince := none, retained := false }).setDomain d 2

/-- A core whose threads have all stopped counts its idle time (R478). -/
def State.noteIdle (s : State) (t : Nat) : State :=
  let c := coreOf t
  if (coreThreads c).all (fun u => decide ((s.thread u).state = .stopped)) then s.setCore c { s.core c with idleSince := some s.now } else s

/-! ### Retirement and exceptions (R490, R492, R516) -/

/-- The tag of a retired instruction (R516). -/
def State.retireTrace (s : State) (t word value : Nat) (exception : Bool) : State :=
  let bit := if t < 128 then t else t
  let lg := s.reg 0xC801 2
  if !bitAt (byteAt (s.oct 0xC801 1) (bit / 8)) (bit % 8) then s
  else
    let x := s.thread t
    let c := s.core (coreOf t)
    let (r, g) := lfsrDraw c.lfsr 32
    let s1 := s.setCore (coreOf t) { c with lfsr := g }
    if !exception ∧ (lg = 0xFF ∨ r % 2 ^ lg ≠ 0) then s1
    else s1.pushRing 1 (natBe s.now 8 ++ natBe t 1 ++ natBe ((if x.machine then 1 else 0) + (if exception then 8 else 0)) 1 ++ [0, 0]
      ++ natBe word 4 ++ natBe x.pc 8 ++ natBe value 8)

/-- The word of a thread-control instruction (R480): custom-0, funct7 zero. -/
def threadWord (funct3 rd rs1 rs2 : Nat) : Nat := rs2 % 32 * 2 ^ 20 + rs1 % 32 * 2 ^ 15 + funct3 * 2 ^ 12 + rd % 32 * 2 ^ 7 + 0x0B

/-- An instruction retires: it is tagged, rd is written, and the pc moves past it. -/
def State.retire (s : State) (t rd word value : Nat) : State :=
  let s1 := s.retireTrace t word value false
  let x := s1.thread t
  s1.setThread t { x.put rd value with pc := x.pc + 4, yielded := false }

/-- A thread becomes FAULTED (R490, R492): its timers are disarmed, and its master, or thread 0 for an integrator thread, receives
CHILD_FAULT. -/
def State.faultThread (s : State) (t cause : Nat) : State :=
  let x := s.thread t
  let s1 := (s.setThread t { x with state := .faulted, faultCause := cause, tcmp := none, twdog := none, twdogLeft := none, waitMask := none }).setReg
    (if t < 128 then 0xB005 else 0xB006) (if t < 128 then t else t - 128) cause
  let area := if s.integrator t then 12 else 4
  let s2 := s1.healthFree area cause (natBe t 1)
  let s3 := if s.integrator t then s2 else s2.trialUnhealthy
  if t = 0 ∨ t = 128 then s3 else s3.signalThread (if s.integrator t then threadZero (dieOf t) else x.master) 16

/-- An exception in a thread: an integrator thread, or a Falqua thread already in a handler, becomes FAULTED; another goes to its
handler. -/
def State.trapThread (s : State) (t cause : Nat) : State :=
  let x := s.thread t
  let s1 := s.retireTrace t 0 cause true
  if s.integrator t ∨ x.inHandler then s1.faultThread t cause
  else s1.setThread t { x with
    mepc := x.pc, mcause := cause, mpie := x.mie, mie := false, pc := x.mtvec / 4 * 4, inHandler := true, machine := true, waitMask := none }

/-- The thread takes a machine external interrupt (R482): enabled, not masked, and pending. -/
def State.interrupted (s : State) (t : Nat) : Bool :=
  let x := s.thread t
  !s.integrator t && x.mie && decide (x.tevent &&& x.tie ≠ 0)

/-- The interrupt is taken: mcause is 11 with the interrupt bit set; a vectored mtvec adds four times the cause (RISC-V, log entry
28). -/
def State.takeInterrupt (s : State) (t : Nat) : State :=
  let x := s.thread t
  let v := x.mtvec / 4 * 4 + (if x.mtvec % 4 = 1 then 44 else 0)
  s.setThread t { x with mepc := x.pc, mcause := 2 ^ 63 + 11, mpie := x.mie, mie := false, pc := v, machine := true }

/-- A TWFE completes: rd receives the pending bits of its mask, which are cleared. -/
def State.endWait (s : State) (t rd mask : Nat) : State :=
  let x := s.thread t
  let got := x.tevent &&& mask
  let s1 := s.setThread t { x with tevent := x.tevent ^^^ got, waitMask := none }
  let s2 := s1.retire t rd (threadWord 3 rd 0 0) got
  s2.runThread t (s2.thread t)

/-! ### Thread-control instructions (R480 to R485) -/

/-- A thread may issue. -/
def State.issues (s : State) (t : Nat) : Bool := decide (t < 192) && decide ((s.thread t).state = .running)

/-- The start address lies in the code window of its thread (R480, R498). -/
def State.codeWindow (s : State) (t pc : Nat) : Bool :=
  if s.integrator t then decide (0x01300000 ≤ pc ∧ pc < 0x01400000) else decide (0x01000000 ≤ pc ∧ pc < 0x01300000)

/-- What TSTART makes of its target (R483). -/
def State.startThread (s : State) (master t pc : Nat) : State :=
  let x := s.thread t
  s.runThread t { x with
    master := master, pc := pc, machine := !s.integrator t, regs := mset 0 [] 10 master, tevent := 0, tie := 0, tcmp := none, twdog := none
    twdogLeft := none, mie := false, mpie := false, inHandler := false, waitMask := none, yielded := false }

/-- TSTART (R480, R483): thread t runs it with rd, and with the values that rs1 and rs2 hold. -/
def execTstart (t rd target addr : Nat) (s : State) : Host.Outcome State Fault Refusal :=
  .next (if !s.issues t then s
    else
      let st := (s.thread target).state
      let r :=
        if s.integrator t then 4
        else if 192 ≤ target ∨ dieOf target ≠ dieOf t then 3
        else if (st ≠ .stopped ∧ st ≠ .faulted) ∨ (integratorThread target ∧ !s.integrator target) then 2
        else if addr % 2 = 1 ∨ !s.codeWindow target addr then 5
        else 0
      let s1 := if r = 0 then s.startThread t target addr else s
      s1.retire t rd (threadWord 0 rd 0 0) r)

/-- A thread stops, with its timers disarmed (R484). -/
def State.stopThread (s : State) (t : Nat) : State :=
  (s.setThread t { s.thread t with
    state := .stopped, tcmp := none, twdog := none, twdogLeft := none, waitMask := none }).noteIdle t

/-- TSTOP (R480, R484). -/
def execTstop (t rd target : Nat) (s : State) : Host.Outcome State Fault Refusal :=
  .next (if !s.issues t then s
    else
      let x := s.thread target
      let r :=
        if s.integrator t then 4
        else if 192 ≤ target then 3
        else if target = 0 ∨ target = 128 then 4
        else if x.master ≠ t then 1
        else if x.state = .halted then 2
        else 0
      let s1 := s.retire t rd (threadWord 1 rd 0 0) r
      if r ≠ 0 ∨ x.state = .stopped ∨ x.state = .faulted then s1 else s1.stopThread target)

/-- TSIG (R480, R482). -/
def execTsig (t rd target bits : Nat) (s : State) : Host.Outcome State Fault Refusal :=
  .next (if !s.issues t then s
    else
      let same := decide (dieOf target = dieOf t)
      let r :=
        if s.integrator t ∧ !(same ∧ target < 192 ∧ s.integrator target) then 4
        else if 192 ≤ target then 3
        else if bits % 2 ^ 64 ≠ fld bits 23 16 * 2 ^ 16 then 2
        else 0
      let s1 := if r = 0 then s.signalThread target (fld bits 23 16 * (if same then 2 ^ 16 else 2 ^ 24)) else s
      s1.retire t rd (threadWord 2 rd 0 0) r)

/-- TWFE (R480): the thread waits with its pc held until a masked bit is pending. -/
def execTwfe (t rd mask : Nat) (s : State) : Host.Outcome State Fault Refusal :=
  .next (if !s.issues t then s
    else if (s.thread t).tevent &&& mask ≠ 0 then s.endWait t rd mask
    else s.setThread t { s.thread t with state := .waiting, waitMask := some (mask % 2 ^ 32, rd) })

/-- TPOLL (R480). -/
def execTpoll (t rd mask : Nat) (s : State) : Host.Outcome State Fault Refusal :=
  .next (if !s.issues t then s
    else
      let x := s.thread t
      let got := x.tevent &&& mask
      (s.setThread t { x with tevent := x.tevent ^^^ got }).retire t rd (threadWord 4 rd 0 0) got)

/-- TYIELD (R480): the rest of the slot goes to the next ready thread. -/
def execTyield (t : Nat) (s : State) : Host.Outcome State Fault Refusal :=
  .next (if !s.issues t then s
    else
      let s1 := s.retire t 0 (threadWord 5 0 0 0) 0
      s1.setThread t { s1.thread t with yielded := true })

/-- STATE of a thread (R480). -/
def ThreadState.code : ThreadState → Nat
  | .stopped => 0 | .running => 1 | .waiting => 2 | .halted => 3 | .faulted => 4

/-- TSTAT (R480). -/
def execTstat (t rd target : Nat) (s : State) : Host.Outcome State Fault Refusal :=
  .next (if !s.issues t then s
    else
      let x := s.thread target
      let v := if s.integrator t then 4 else if 192 ≤ target then 3
        else x.state.code + x.master * 2 ^ 8 + x.faultCause * 2 ^ 16 + (if s.integrator target then 2 ^ 24 else 0)
      s.retire t rd (threadWord 6 rd 0 0) v)

/-! ### Events (R482, R490, R492, R495, R496) -/

/-- THREAD_WAKE (R482): a waiting thread with a masked bit pending completes its TWFE; an interrupt completes it with rd zero, and is
taken. -/
def execThreadWake (t : Nat) (s : State) : Host.Outcome State Fault Refusal :=
  .next (let x := s.thread t
    if 192 ≤ t then s
    else match x.state, x.waitMask with
      | .waiting, some (mask, rd) =>
        if x.tevent &&& mask ≠ 0 then s.endWait t rd mask
        else if s.interrupted t then (s.endWait t rd 0).takeInterrupt t
        else s
      | .running, _ => if s.interrupted t then s.takeInterrupt t else s
      | _, _ => s)

/-- TCMP_EXPIRY (R482): TTIME reaches TCMP, which disarms. -/
def execTcmpExpiry (t : Nat) (s : State) : Host.Outcome State Fault Refusal :=
  .next (match (s.thread t).tcmp with
    | none => s
    | some v => ((s.reach v).setThread t { s.thread t with tcmp := none }).signalThread t 1)

/-- TWDOG_EXPIRY (R495, R496): the watchdog disarms and is counted, and the master receives CHILD_WATCHDOG; thread 0 faults with
cause 0x80. -/
def execTwdogExpiry (t : Nat) (s : State) : Host.Outcome State Fault Refusal :=
  .next (match (s.thread t).twdog with
    | none => s
    | some v =>
      let s1 := (((s.reach v).setThread t { s.thread t with twdog := none }).bump 0xB011 1).healthFree 4 1 (natBe t 1)
      if t = 0 ∨ t = 128 then s1.faultThread t 0x80 else s1.signalThread (s.thread t).master 32)

/-- THREAD_FAULT (R490, R492): a thread takes an exception with this code. -/
def execThreadFault (t cause : Nat) (s : State) : Host.Outcome State Fault Refusal :=
  .next (if !s.issues t then s else s.trapThread t (cause % 64))

/-- THREAD0_FAILURE (R496, R538): thread 0 of a die has faulted, and a warm restart begins; a trial fails with cause WATCHDOG. -/
def execThread0Failure (die : Nat) (s : State) : Host.Outcome State Fault Refusal :=
  .next (if 2 ≤ die ∨ (s.thread (threadZero die)).state ≠ .faulted then s
    else
      let s1 := ((s.bump 0xB011 2).trialUnhealthy).healthFree 4 2 (natBe die 1)
      if s1.fw.trial.isSome then s1.failTrial 1 else s1.warmRestart 5 false)

/-! ### Slack water (R494) -/

/-- Something other than a thread of its die can set a bit of a waiting thread's mask. -/
def State.canWake (s : State) (t mask : Nat) : Bool :=
  let x := s.thread t
  let n := if t < 128 then t else t - 128
  let dest (d : Nat) : Bool :=
    decide (fld d 31 30 = (if t < 128 then 2 else 3)) && decide (fld d 10 0 = n)
  (bitAt mask 0 && x.tcmp.isSome)
    || (bitAt mask 1 && (List.range 64).any fun k => dest (s.reg 0xA901 k))
    || (bitAt mask 2 && decide (beAt (s.oct (if t < 128 then 0xB020 else 0xB021) n) 4 2 ≠ 0))
    || (bitAt mask 3 && decide (s.reg 0xB012 1 = t))
    || (bitAt mask 5 && (List.range 192).any fun u => decide ((s.thread u).master = t) && (s.thread u).twdog.isSome)
    || (bitAt mask 6 && s.acc.jobs.any fun (_, j) => decide (j.origin = .steward t))
    || (decide (fld mask 31 24 ≠ 0) && (dieThreads (1 - dieOf t)).any fun u =>
        match (s.thread u).state with | .running | .waiting | .halted => true | _ => false)

/-- The slack-water condition of a die. -/
def State.slack (s : State) (die : Nat) : Bool :=
  let ts := dieThreads die
  ts.all (fun t => match (s.thread t).state with | .running | .halted => false | _ => true)
    && ts.any (fun t => decide ((s.thread t).state = .waiting))
    && ts.all (fun t => match (s.thread t).state, (s.thread t).waitMask with
      | .waiting, some (m, _) => !s.canWake t m
      | _, _ => true)

/-- SLACK_WATER (R494): the condition has held for 512 ns; it is counted, recorded and raised, and thread 0 goes to its handler
unless it is already there. -/
def execSlackWater (die : Nat) (s : State) : Host.Outcome State Fault Refusal :=
  .next (let x := s.nmi die
    if 2 ≤ die ∨ !s.slack die ∨ x.raised then s
    else
      let waiting := (dieThreads die).filter fun t => decide ((s.thread t).state = .waiting)
      let masks := (waiting.map fun t => natBe (((s.thread t).waitMask.map (·.1)).getD 0) 4).flatten
      let s1 := ((s.bump 0xB010 (die + 1)).setReg 0xB010 3 s.ptp).setNmi die { x with raised := true }
      let s2 := ((s1.healthFree 4 4 (natBe die 1 ++ masks)).trialUnhealthy).raiseEvent 4 die waiting.length
      if x.active then s2
      else
        let z := threadZero die
        let th := s2.thread z
        let s3 := s2.setNmi die { x with raised := true, active := true, epc := th.pc }
        s3.setThread z { th with state := .running, pc := x.vec, machine := true, waitMask := none })

/-! ### Cores and the debugger (R478, R497) -/

/-- CORE_RETAIN_EXPIRY (R478): all threads of a core have been STOPPED for 10 µs; core 0 of a die never leaves ON. -/
def execCoreRetainExpiry (c : Nat) (s : State) : Host.Outcome State Fault Refusal :=
  .next (let x := s.core c
    if 16 ≤ c ∨ c % 8 = 0 ∨ s.mode = .dormant ∨ x.retained ∨ !(coreThreads c).all (fun t => decide ((s.thread t).state = .stopped)) then s
    else
      let s1 := match x.idleSince with | some t => s.reach (t + 10000) | none => s
      (s1.setCore c { x with retained := true }).setDomain (if c < 8 then 187 + c else 195 + (c - 8)) 1)

/-- DEBUG_HALT (R497): with DEBUG in force in the TAP, running and waiting threads of the set halt, and their watchdogs are held. -/
def execDebugHalt (ts : List Nat) (s : State) : Host.Outcome State Fault Refusal :=
  .next ((if s.tapInForce = 0x20 then ts else []).foldl (fun s t =>
    let x := s.thread t
    if t < 192 ∧ (x.state = .running ∨ x.state = .waiting) then
      s.setThread t { x with state := .halted, twdogLeft := x.twdog.map (· - s.now), twdog := none }
    else s) s)

/-- DEBUG_RESUME (R497): with DEBUG in force in the TAP, a halted thread returns to its TWFE when it halted in one with nothing pending,
and runs otherwise. -/
def execDebugResume (ts : List Nat) (s : State) : Host.Outcome State Fault Refusal :=
  .next ((if s.tapInForce = 0x20 then ts else []).foldl (fun s t =>
    let x := s.thread t
    if 192 ≤ t ∨ x.state ≠ .halted then s
    else
      let x1 := { x with twdog := x.twdogLeft.map (s.now + ·), twdogLeft := none }
      match x.waitMask with
      | some (m, rd) =>
        if x.tevent &&& m = 0 then s.setThread t { x1 with state := .waiting } else (s.setThread t { x1 with state := .running }).endWait t rd m
      | none => s.runThread t x1) s)

/-! ### Weights, punt queues and integrator threads (R486, R488, R492, R493) -/

/-- One entry of the slot table (R486): the weights as hart and weight, the current values beside them. -/
def slotStep (ws : List (Option Nat × Nat)) (cur : List Int) : Option Nat × List Int :=
  let up := (ws.zip cur).map fun (w, c) => c + (w.2 : Int)
  let best := (List.range up.length).foldl (fun b k => if up.getD b 0 < up.getD k 0 then k else b) 0
  ((ws.getD best (none, 0)).1, lset up best (up.getD best 0 - 64))

/-- The slot table that a core's weights give (R486). -/
def slotTable (ws : List (Option Nat × Nat)) : List (Option Nat) :=
  ((List.range 64).foldl (fun (p : List (Option Nat) × List Int) _ =>
    let (x, cur) := slotStep ws p.2
    (p.1 ++ [x], cur)) (([] : List (Option Nat)), ws.map fun _ => (0 : Int))).1

/-- THREAD_WEIGHT of a thread. -/
def State.weight (s : State) (t : Nat) : Nat := if t < 128 then s.reg 0xB003 t else s.reg 0xB004 (t - 128)

/-- The table of a core rebuilt. -/
def State.rebuildSlots (s : State) (c : Nat) : State :=
  let ts := coreThreads c
  let free := 64 - (ts.map s.weight).foldl (· + ·) 0
  s.setCore c { s.core c with slots := slotTable (ts.map (fun t => (some t, s.weight t)) ++ [(none, free)]) }

/-- The effect of a THREAD_WEIGHT write (R486). -/
def threadWeightEffect (t : Nat) (c : List Byte) (s : State) : Status × State :=
  let ts := (coreThreads (coreOf t)).filter (· ≠ t)
  if 64 < beNat c + (ts.map s.weight).foldl (· + ·) 0 then (.range, s)
  else
    let s1 := if t < 128 then s.setReg 0xB003 t (beNat c) else s.setReg 0xB004 (t - 128) (beNat c)
    (.ok, s1.rebuildSlots (coreOf t))

/-- THREAD_WEIGHT (R486): of FE thread n, or TM thread n. -/
def execThreadWeight (o : Origin) (tm : Bool) (n : Nat) (v : List Byte) (s : State) : Host.Outcome State Fault Refusal :=
  .next (s.runWrite o (if tm then 0xB004 else 0xB003) n v (threadWeightEffect (if tm then 128 + n else n)))

/-- Bytes of the SRAM of a die (R498). -/
def sramBytes (tm : Bool) : Nat := if tm then 0x800000 else 0x1000000

/-- The span of a punt queue in its die's SRAM. -/
def queueSpan (v : List Byte) : Nat × Nat := (beAt v 0 4, beAt v 4 2 * beAt v 6 2)

/-- The span of an integrator data window (R493). -/
def windowSpan (v : List Byte) : Nat × Nat := (beAt v 0 4, beAt v 4 4)

/-- Two spans of SRAM share a byte. -/
def spansMeet (a b : Nat × Nat) : Bool := decide (a.2 ≠ 0 ∧ b.2 ≠ 0 ∧ a.1 < b.1 + b.2 ∧ b.1 < a.1 + a.2)

/-- A thread that is neither STOPPED nor FAULTED. -/
def State.threadBusy (s : State) (t : Nat) : Bool := match (s.thread t).state with | .stopped | .faulted => false | _ => true

/-- The effect of a PUNT_QUEUE write (R488). -/
def puntQueueEffect (tm : Bool) (n : Nat) (c : List Byte) (s : State) : Status × State :=
  let i := if tm then 0xB021 else 0xB020
  let slots := beAt c 4 2
  let size := beAt c 6 2
  let span := queueSpan c
  let others := ((List.range (if tm then 64 else 128)).filter (· ≠ n)).any fun k => spansMeet span (queueSpan (s.oct i k))
  let windows := (List.range (if tm then 16 else 32)).any fun k => spansMeet span (windowSpan (s.oct 0xB031 (if tm then 32 + k else k)))
  let shape := decide (slots = 0) || ([2, 4, 8, 16, 32, 64, 128, 256, 512, 1024, 2048, 4096].contains slots
    && decide (size % 64 = 0 ∧ 1024 ≤ size ∧ size ≤ 17408))
  if c.length ≠ 12 ∨ beAt c 8 4 ≠ 0 ∨ span.1 % 64 ≠ 0 ∨ !shape ∨ sramBytes tm < span.1 + span.2 ∨ others ∨ windows then (.range, s)
  else
    let t := if tm then 128 + n else n
    if s.threadBusy t then (.busy, s)
    else (.ok, (s.setOct (if tm then 0xB021 else 0xB020) n c).setThread t { s.thread t with puntPos := 0, puntPhase := true, puntFull := [] })

/-- PUNT_QUEUE (R488): of FE thread n, or TM thread n. -/
def execPuntQueue (o : Origin) (tm : Bool) (n : Nat) (v : List Byte) (s : State) : Host.Outcome State Fault Refusal :=
  .next (s.runWrite o (if tm then 0xB021 else 0xB020) n v (puntQueueEffect tm n))

/-- The thread of an INTEGRATOR_WINDOW entry (R493). -/
def entryThread (nn : Nat) : Nat := if nn < 32 then 96 + nn else 176 + (nn - 32)

/-- The effect of an INTEGRATOR_WINDOW write (R493). -/
def integratorWindowEffect (nn : Nat) (c : List Byte) (s : State) : Status × State :=
  let span := windowSpan c
  if c.length ≠ 28 ∨ span.1 % 4096 ≠ 0 ∨ span.2 % 4096 ≠ 0 ∨ sramBytes (decide (32 ≤ nn)) < span.1 + span.2
      ∨ 256 < byteAt c 24 + byteAt c 25 ∨ beAt c 26 2 ≠ 0 then (.range, s)
  else if s.threadBusy (entryThread nn) then (.busy, s)
  else (.ok, s.setOct 0xB031 nn c)

/-- The effect of an INTEGRATOR_RESTART write (R492): a faulted integrator thread starts again at its image's entry. -/
def integratorRestartEffect (c : List Byte) (s : State) : Status × State :=
  let nn := byteAt c 0
  let t := entryThread nn
  let pc := mgetD 0 s.stewards.integratorEntry nn
  if c.length ≠ 1 ∨ 48 ≤ nn then (.range, s)
  else if !s.integrator t ∨ (s.thread t).state ≠ .faulted ∨ pc = 0 then (.ok, s)
  else (.ok, s.startThread (threadZero (dieOf t)) t pc)

/-- INTEGRATOR_RESTART (R492). -/
def execIntegratorRestart (o : Origin) (v : List Byte) (s : State) : Host.Outcome State Fault Refusal :=
  .next (s.runWrite o 0xB030 3 v integratorRestartEffect)

end Sys2Proof.Machine
end

