-- ==== Sys2Proof/Machine/Mailbox.lean ====
section
/-! DEFINITION. Sys2Proof/Machine/Mailbox.lean: the meanings of the commands on mailboxes (R468 to R473, R485, R491). -/

namespace Sys2Proof.Machine

/-- A mailbox. -/
def State.mailbox (s : State) (m : Nat) : Mailbox := mgetD .reset s.host.mailboxes m
/-- A mailbox stored. -/
def State.setMailbox (s : State) (m : Nat) (b : Mailbox) : State := { s with host := { s.host with mailboxes := mput s.host.mailboxes m b } }
/-- A direction of a mailbox. -/
def Mailbox.dir (b : Mailbox) (d : Nat) : MbDir := if d = 0 then b.d0 else b.d1
/-- A direction of a mailbox replaced. -/
def Mailbox.setDir (b : Mailbox) (d : Nat) (x : MbDir) : Mailbox := if d = 0 then { b with d0 := x } else { b with d1 := x }

/-- Both directions hold complete messages: the time of R473 runs. -/
def Mailbox.stuck (b : Mailbox) : Bool := !b.d0.words.isEmpty && !b.d1.words.isEmpty

/-- A mailbox changed: the time of R473 starts as both directions come to hold a message. -/
def State.putMailbox (s : State) (m : Nat) (b : Mailbox) : State :=
  s.setMailbox m { b with stuckSince := if b.stuck then some (b.stuckSince.getD s.now) else none }

/-- The doorbell set and bit of an end: 0 A, 1 B; its NONEMPTY bit, or its EMPTY bit (R471). -/
def State.ringEnd (s : State) (m side : Nat) (empty : Bool) : State :=
  let v := s.oct 0xA801 m
  let k := byteAt v (3 * side)
  let bit := byteAt v (3 * side + (if empty then 2 else 1))
  if 64 ≤ k then s else s.ringSet k (2 ^ bit)

/-- The master may reach the mailbox: an integrator thread only one that its window allows (R491, R493). -/
def State.mayUseMailbox (s : State) (master m : Nat) : Bool :=
  !(decide (master < 192) && s.integrator master)
    || bitAt (beAt (s.oct 0xB031 (if master < 128 then master - 96 else 32 + (master - 176))) 8 8) m

/-- A rejected write (R470): discarded and flagged from PCIe, a store access fault in a steward thread; counted either way. -/
def State.rejectWrite (s : State) (master m d : Nat) : State :=
  let s1 := s.bump 0xA803 m
  if master < 192 then s1.trapThread master 7
  else
    let b := s1.mailbox m
    s1.setMailbox m (b.setDir d { b.dir d with rejected := true })

/-- A message becomes visible, and the claim ends; the receiving end's NONEMPTY bit is set where the direction held none (R469,
R471). -/
def State.deliver (s : State) (m d : Nat) (x : MbDir) : State :=
  let was := x.words.isEmpty
  let b := s.mailbox m
  let x1 := { x with words := x.words ++ x.partialWords, partialWords := [], claim := none, expect := 0 }
  let s1 := s.putMailbox m (b.setDir d x1)
  if was then s1.ringEnd m (1 - d) false else s1

/-- TX_DATA (R469, R470): a master writes a word into direction d of mailbox m. -/
def execTxData (master m d w : Nat) (s : State) : Host.Outcome State Fault Refusal :=
  .next (if 64 ≤ m ∨ 2 ≤ d ∨ s.mode = .dormant ∨ (master < 192 ∧ !s.issues master) then s
    else if !s.mayUseMailbox master m then s.trapThread master 7
    else
      let b := s.mailbox m
      let x := b.dir d
      let free := 256 - x.words.length - x.partialWords.length
      let len := w % 256
      match x.claim with
      | none =>
        if fld w 15 8 ≠ 0 ∨ free < 1 + len then s.rejectWrite master m d
        else
          let x1 := { x with partialWords := [w % 2 ^ 32], claim := some master, expect := len }
          if len = 0 then s.deliver m d x1 else s.setMailbox m (b.setDir d x1)
      | some c =>
        if c ≠ master then s.rejectWrite master m d
        else
          let x1 := { x with partialWords := x.partialWords ++ [w % 2 ^ 32], expect := x.expect - 1 }
          if x1.expect = 0 then s.deliver m d x1 else s.setMailbox m (b.setDir d x1))

/-- RX_DATA (R471, R473): a read consumes one word; the value stands in the read log. -/
def execRxData (master m d : Nat) (s : State) : Host.Outcome State Fault Refusal :=
  .next (if 64 ≤ m ∨ 2 ≤ d ∨ s.mode = .dormant ∨ (master < 192 ∧ !s.issues master) then s
    else if !s.mayUseMailbox master m then s.trapThread master 5
    else
      let b := s.mailbox m
      let x := b.dir d
      match x.words with
      | [] => (s.setMailbox m (b.setDir d { x with underrun := true })).noteRead master 0
      | w :: rest =>
        let unread := if x.unread = 0 then w % 256 else x.unread - 1
        let b1 := b.setDir d { x with words := rest, unread := unread }
        let b2 := { b1 with signalled := false, stuckSince := if b1.stuck then some s.now else none }
        let s1 := (s.setMailbox m b2).noteRead master w
        if rest.isEmpty then s1.ringEnd m d true else s1)

/-- The partial message of a direction is discarded and its claim ends (R472). -/
def State.abandon (s : State) (m d : Nat) : State :=
  let b := s.mailbox m
  let x := b.dir d
  if x.claim.isNone then s
  else (s.setMailbox m (b.setDir d { x with claim := none, partialWords := [], expect := 0 })).bump 0xA802 m

/-- A master may abandon a claim (R472, R485): its holder, the debugger, thread 0 of either die, or the master of the steward thread
that holds it. -/
def State.mayAbandon (s : State) (master holder : Nat) : Bool :=
  decide (master = holder) || decide (master = 0xE0) || decide (master = 0) || decide (master = 128)
    || (decide (holder < 192) && decide ((s.thread holder).master = master))

/-- ABANDON (R472): a write of MB_CONTROL. -/
def execAbandon (master m d : Nat) (s : State) : Host.Outcome State Fault Refusal :=
  .next (if 64 ≤ m ∨ 2 ≤ d ∨ s.mode = .dormant ∨ (master < 192 ∧ !s.issues master) then s
    else if !s.mayUseMailbox master m then s.trapThread master 7
    else match ((s.mailbox m).dir d).claim with
      | some h => if s.mayAbandon master h then s.abandon m d else s.rejectWrite master m d
      | none => s)

/-- MB_STALEMATE (R473): both directions have held complete messages for 1 ms with no word read. -/
def execMbStalemate (m : Nat) (s : State) : Host.Outcome State Fault Refusal :=
  .next (let b := s.mailbox m
    match b.stuckSince with
    | none => s
    | some t =>
      if 64 ≤ m ∨ b.signalled ∨ !b.stuck then s
      else
        let s1 := (((s.reach (t + 1000000)).setMailbox m { b with signalled := true }).bump 0xA804 m).raiseEvent 3 m 0
        let v := s1.oct 0xA801 m
        [byteAt v 0, byteAt v 3].foldl (fun s k => if k < 64 then s.ringSet k 8 else s) s1)

/-- Every claim that the PCIe host holds ends (R472). -/
def State.abandonHost (s : State) : State :=
  (List.range 64).foldl (fun s m =>
    [0, 1].foldl (fun s d => if ((s.mailbox m).dir d).claim = some 0xD0 then s.abandon m d else s) s) s

end Sys2Proof.Machine
end

