-- ==== Sys2Proof/Machine/Admission.lean ====
section
/-! DEFINITION. Sys2Proof/Machine/Admission.lean: Breakwater's checks, admission and refusal, replication, and in a pair the verdict
blocks of the active and the standby's matching of them (R270 to R278, R293 to R295, R362 to R367, R373, R376, R382). -/

namespace Sys2Proof.Machine

/-! ### The verdict (R273 to R278) -/

/-- C: the cells of a frame (R273). -/
def chargeOf (len : Nat) : Nat := (len + 255) / 256

/-- COLOUR as the verdict reads it: the reserved value is red (R275). -/
def verdictColour (record : List Byte) : Nat := Nat.min 2 (byteAt record 14 % 4)

/-- The average depth at a verdict that reaches check 7 (R276). -/
def Queue.averaged (q : Queue) (now weight : Nat) : Queue :=
  let d := q.depth
  let n := (now - q.emptySince) / 1000 - q.emptyApplied
  let q1 := if d = 0 then { q with avg := q.avg >>> Nat.min 31 n, emptyApplied := q.emptyApplied + n } else q
  { q1 with avg := ((q1.avg : Int) + ((d * 256 : Int) - q1.avg) / 2 ^ weight).toNat }

/-- Check 9 with a profile's 12 bytes and a 16-bit draw; none where no draw is made (R276). -/
def wredPasses (profile : List Byte) (avg : Nat) (r : Nat) : Option Bool :=
  let lo := beAt profile 0 4 * 256
  let hi := beAt profile 4 4 * 256
  if hi = 0 ∨ avg < lo then none
  else if hi ≤ avg then some false
  else some (!(decide (r < beAt profile 8 2 * (avg - lo) / (hi - lo))))

/-- α_q × the free part of the pool (R274). -/
def Queue.alphaOf (q : Queue) (free : Nat) : Nat :=
  if 0 ≤ q.alpha then free * 2 ^ q.alpha.toNat else free >>> (-q.alpha).toNat

/-- Check 10 (R274). -/
def State.poolPasses (s : State) (q : Queue) (cells : Nat) : Bool :=
  let l := s.reg 0x7010 q.pool
  let u := s.poolUsed q.pool
  let sh := q.depth + cells - q.res
  decide (u + (sh - q.shared) ≤ l) && decide (sh ≤ q.alphaOf (l - u))

/-- Check 11 (R274): a copy needs a descriptor but no cells (R294). -/
def State.bufferPasses (s : State) (cells : Nat) (reserved copy : Bool) : Bool :=
  decide (s.tm.descriptors < bufferDescriptors)
    && (copy || decide (s.tm.cells + cells + (if reserved then 0 else s.unusedRes) ≤ bufferCells))

/-- Checks 4 to 11 for a queue at the Breakwater of a slice: the cause, 0 when admitted, and the state after the average and the
draw (R274, R276). -/
def State.checkQueue (s : State) (n i : Nat) (q : Queue) (cells colour : Nat) (copy : Bool) : Nat × State :=
  if q.admin ≠ .enabled then (4, s)
  else if !q.voq ∧ s.portCond q.port ≠ 0 then (5, s)
  else if colour = 2 ∧ q.redDrop then (6, s)
  else
    let q1 := q.averaged s.now (byteAt (s.oct 0x7020 (q.profile 0)) 10)
    let s1 := s.setQueue i q1
    if q1.max < q1.depth + cells then (7, s1)
    else if q1.depth + cells ≤ q1.res then (if s1.bufferPasses cells true copy then 0 else 10, s1)
    else
      let t := s1.tmSlice n
      let (r, g) := lfsrDraw t.lfsr 16
      let w := wredPasses (s.oct 0x7020 (q.profile colour)) q1.avg r
      let drew := w.isSome && decide (q1.avg < beAt (s.oct 0x7020 (q.profile colour)) 4 4 * 256)
      let s2 := if drew then s1.setTmSlice n { t with lfsr := g } else s1
      if w = some false then (8, s2)
      else if !s2.poolPasses q1 cells then (9, s2)
      else (if s2.bufferPasses cells false copy then 0 else 10, s2)

/-- A refusal is counted by its cause (R278, R295). -/
def State.countRefusal (s : State) (fabric copy : Bool) (queue : Option Nat) (cause : Nat) : State :=
  let q := queue.bind (mget s.tm.queues ·)
  let voq := q.all Queue.voq
  let egressSide := if copy then !voq else fabric
  let s1 := s.bump (if egressSide then 0x7031 else 0x7030) cause
  let s2 := match q with
    | some x => if cause = 5 then s1.bump 0x7040 x.port else s1
    | none => s1
  let s3 := match q with
    | some x => if copy ∧ !x.voq then s2.bump 0x7041 x.port else s2
    | none => s2
  if cause < 4 ∨ cause = 11 then s3
  else match queue, q with
    | some i, some _ =>
      match mget s3.tm.queues i with
      | some x => (s3.setQueue i { x with refused := (x.refused + 1) % 2 ^ 64 }).countQueue i fun e => { e with refused := e.refused + 1 }
      | none => s3
    | _, _ => s3

/-- Cells of one buffer bank: 18 MiB (R279). -/
def bankCells : Nat := 73728

/-- Free cells in the buffer banks that are ON, with what is stored compacted to the lowest banks (R280; log entry 19). -/
def State.onBankFree (s : State) : Nat :=
  ((List.range 16).map fun n =>
    if s.reg 0x2101 (66 + 3 * n) = 2 then bankCells - (s.tm.cells - n * bankCells) else 0).foldl (· + ·) 0

/-- The lowest sleeping bank wakes when the banks that are ON run short (R280). -/
def State.wakeBank (s : State) : State :=
  if s.mode ≠ .proportional ∨ s.reg 0x7000 0x0A * 4 ≤ s.onBankFree then s
  else match (List.range 16).find? (fun n => decide (s.reg 0x2101 (66 + 3 * n) = 1)) with
    | some n => (s.setReg 0x2101 (66 + 3 * n) 2).bump 0x2103 (66 + 3 * n)
    | none => s

/-- The stacks wake a margin below the spill threshold (R87, R281). -/
def State.wakeForSpill (s : State) : State :=
  if (s.reg 0x7000 5 - s.reg 0x2012 3) * 4 ≤ s.tm.cells then s.wakeStacks else s

/-- Cells and descriptors are taken. -/
def State.take (s : State) (cells : Nat) : State :=
  (({ s with tm := { s.tm with cells := s.tm.cells + cells, descriptors := s.tm.descriptors + 1 } }).wakeBank).wakeForSpill

/-- DEST of a record. -/
def destOf (record : List Byte) : Nat := beAt record 8 4
/-- DEST_TYPE of a record. -/
def destType (record : List Byte) : Nat := byteAt record 12

/-- The queue that a handle names, if it is live (R7). -/
def State.queueOf (s : State) (h : Nat) : Option Nat := if s.checkHandle 1 h = Status.ok then some (handleIndex h) else none

/-- The handle a waiting packet or copy is judged for. -/
def Waiting.handle (w : Waiting) : Nat := match w.copy with
  | some (h, _) => h
  | none => destOf w.packet.record

/-- What a packet's admission to a queue puts there (R279, R290). -/
def State.heldOf (s : State) (w : Waiting) (colour ordinal : Nat) (gate : Option Nat) : Held :=
  let r := w.packet.record
  { frame := w.packet.frame, record := patch r 14 (natBe (byteAt r 14 / 4 * 4 + colour) 1), cells := chargeOf w.packet.frame.length
    colour := colour, cls := byteAt r 13 % 8, verdict := s.now, location := .onDie, stored := w.copy.map (·.2)
    arrival := beAt r 20 8, traceId := w.packet.traceId, ordinal := ordinal, gate := gate, seq := none }

/-- The next ordinal from a number on that no FOREIGN admission took. -/
def skipForeign (foreign : List Nat) : Nat → Nat → Nat
  | 0, n => n
  | fuel + 1, n => if foreign.contains (n % 2 ^ 24) then skipForeign foreign fuel (n + 1) else n

/-- A VOQ admission takes its ordinal in its context since START (R364, R374). -/
def State.takeOrdinal (s : State) (q : Queue) : Nat × State :=
  let k := ctxKey (q.dest % 4096) q.cls
  if q.voq ∧ s.pair.phase = .inStep then
    let c := s.pairCtx k
    let n := skipForeign c.foreign c.foreign.length c.count
    (n % 2 ^ 24, s.setPairCtx k { c with count := n + 1 })
  else (0, s)

/-- Where an entry of the active stands in its source since START. -/
def State.entryPosition (s : State) (source ordinal : Nat) : Nat := (ordinal + 2 ^ 32 - mgetD 0 s.pair.positions source) % 2 ^ 32

/-- A packet or copy enters a queue (R279, R296): what it takes, its place, its counts, and the queue's scheduling. A gate with no
block to wait for is a FOREIGN announcement (R364, R373). -/
def State.enterQueue (s : State) (i : Nat) (w : Waiting) (colour : Nat) (gate : Option Nat) : State :=
  match mget s.tm.queues i with
  | none => s
  | some q0 =>
    let s0 := s.watchSample i
    let (ord, s1) := s0.takeOrdinal q0
    let (gate1, s2) := if q0.voq && s1.mateInShadow && gate.isNone then
        let (s2, b) := s1.sendQueueEnd q0.dest q0.cls 2 ord
        (some b, s2)
      else (gate, s1)
    let h := s2.heldOf w colour ord (if q0.voq then gate1 else none)
    let s3 := s2.take (if w.copy.isSome then 0 else h.cells)
    match mget s3.tm.queues i with
    | none => s3
    | some q =>
      let s4 := s3.setQueue i { q with packets := q.packets ++ [h], admitted := (q.admitted + 1) % 2 ^ 64 }
      let s5 := s4.countQueue i fun e => { e with admitted := e.admitted + 1 }
      let s6 := if q.packets.isEmpty then s5.joinRound 4 (.queue i) else s5
      if q.voq then s6.requestCheck (ctxKey (q.dest % 4096) q.cls) else s6

/-- The verdict's trace record (R514 point 5). -/
def State.traceVerdict (s : State) (w : Waiting) (cause : Nat) : State :=
  let r := w.packet.record
  let d := ((s.queueOf w.handle).bind fun i => (mget s.tm.queues i).map Queue.depth).getD 0
  s.trace w.packet.traceId (byteAt r 2) (beAt r 0 2) 5 (natBe cause 1 ++ natBe w.handle 4 ++ natBe d 4)

/-! ### Fabric verdicts and copy verdicts of an active (R359, R373, R376) -/

/-- A FABRIC_VERDICT record goes out. -/
def State.sendFabricVerdict (s : State) (x : OpenFabric) : State :=
  let bits := (x.bits.mapIdx fun k b => if b then 2 ^ (63 - k) else 0).foldl (· + ·) 0
  (s.sendRecord (typedRecord 0x46 (natBe x.unit 2 ++ natBe x.cls 1 ++ natBe x.bits.length 1 ++ natBe x.firstSeq 4 ++ natBe bits 8))).1

/-- A judged fabric packet is reported (R376): records hold SEQs in order, up to 64. -/
def State.noteFabric (s : State) (p : Packet) (admits : Bool) : State :=
  match p.source with
  | .fabric unit cls seq =>
    if !s.mateInShadow then s
    else
      let mine (x : OpenFabric) : Bool := decide (x.unit = unit) && decide (x.cls = cls)
      let fresh : OpenFabric := { unit := unit, cls := cls, firstSeq := seq, bits := [admits], since := s.now }
      let rest := s.pair.openFabric.filter fun x => !mine x
      let put (s : State) (l : List OpenFabric) : State := { s with pair := { s.pair with openFabric := l } }
      match s.pair.openFabric.find? mine with
      | none => put s (rest ++ [fresh])
      | some x =>
        if (x.firstSeq + x.bits.length) % 2 ^ 24 ≠ seq then (put s (rest ++ [fresh])).sendFabricVerdict x
        else
          let x1 := { x with bits := x.bits ++ [admits] }
          if 64 ≤ x1.bits.length then (put s rest).sendFabricVerdict x1 else put s (rest ++ [x1])
  | _ => s

/-- A gate marker takes the BUNDLE_SEQ of the record it stood for. -/
def State.patchGates (s : State) (marker bundle : Nat) : State :=
  let put (h : Held) : Held := if h.gate = some marker then { h with gate := some bundle } else h
  let change (q : Queue) : Queue :=
    if q.packets.any (fun h => decide (h.gate = some marker)) then { q with packets := q.packets.map put } else q
  { s with tm := { s.tm with queues := mmap s.tm.queues (fun _ q => change q) } }

/-- The gate of a block that has not closed. -/
def blockGate : Nat := 2 ^ 32
/-- The gate of a COPY_VERDICT that has not gone out. -/
def copyGate (stored : Nat) : Nat := 2 ^ 33 + stored

/-- A copy of a group packet has its verdict; with the last one the COPY_VERDICT goes out (R359 0x47). -/
def State.noteCopy (s : State) (stored handle : Nat) (admits : Bool) : State :=
  match s.pair.openCopies.find? (fun x => decide (x.stored = stored)) with
  | none => s
  | some x =>
    let k := x.members.idxOf handle
    let x1 := { x with verdicts := lset x.verdicts k (some admits) }
    let rest := s.pair.openCopies.filter fun y => decide (y.stored ≠ stored)
    if x1.verdicts.all Option.isSome then
      let bits := (x1.verdicts.mapIdx fun k v => if v = some true then 2 ^ (63 - k) else 0).foldl (· + ·) 0
      let body := natBe (if x.fabric then 1 else 0) 1 ++ natBe x.source 1 ++ natBe x.unit 2 ++ natBe x.position 4
        ++ natBe x.members.length 1 ++ [0, 0, 0] ++ natBe bits 8
      let (s1, b) := ({ s with pair := { s.pair with openCopies := rest } }).sendRecord (typedRecord 0x47 body)
      s1.patchGates (copyGate stored) b
    else { s with pair := { s.pair with openCopies := rest ++ [x1] } }

/-! ### Judging one packet or copy -/

/-- A packet enters the replication queue of its arrival slice (R294). -/
def State.enterReplication (s : State) (n : Nat) (w : Waiting) : State :=
  let c := chargeOf w.packet.frame.length
  let id := s.tm.nextStored
  let x : Repl := { id := id, packet := w.packet, cells := c, group := destOf w.packet.record % 65536, members := none }
  let t := s.tmSlice n
  let s1 := s.setTmSlice n (if w.fromFabric then { t with replFabric := t.replFabric ++ [x] } else { t with replFe := t.replFe ++ [x] })
  ({ s1 with tm := { s1.tm with stored := mput s1.tm.stored id { cells := c, copies := 0, making := true }, nextStored := id + 1 } }).take c

/-- Cells that a replication queue holds. -/
def replCells (l : List Repl) : Nat := (l.map (·.cells)).foldl (· + ·) 0

/-- The cause for a group packet (R294): checks 1, 3, 6 and 11, then the limit of the replication queue. -/
def State.checkGroup (s : State) (n : Nat) (w : Waiting) : Nat :=
  let c := chargeOf w.packet.frame.length
  let d := destOf w.packet.record
  let t := s.tmSlice n
  if d / 65536 ≠ 0 ∨ (mgetD [] s.tm.groups (d % 65536)).isEmpty then 3
  else if !s.bufferPasses c false false then 10
  else if s.reg 0x7600 3 < replCells (if w.fromFabric then t.replFabric else t.replFe) + c then 11
  else 0

/-- What the pair or a turn lays down for a packet: no rule, or check 11 alone with a colour, or a refusal with a cause. -/
inductive VerdictRule where
  /-- Every check applies. -/
  | full
  /-- The stream admits it with this colour: check 11 alone (R272). -/
  | admitted (colour : Nat)
  /-- Checks 3 and 11 alone (R386). -/
  | turn
  /-- Refused with a cause. -/
  | refused (cause : Nat)
  deriving DecidableEq, Repr

/-- The cause of a verdict, 0 for an admission, and the state after the queue's average and draw (R274). -/
def State.causeOf (s : State) (n : Nat) (w : Waiting) (rule : VerdictRule) : Nat × State :=
  let c := chargeOf w.packet.frame.length
  let group := decide (destType w.packet.record = 2) && w.copy.isNone
  match rule with
  | .refused k => (k, s)
  | .full =>
    if s.mode ≠ .proportional ∧ s.mode ≠ .spring ∧ s.mode ≠ .shadow then (1, s)
    else if group then (s.checkGroup n w, s)
    else match s.queueOf w.handle with
      | none => (3, s)
      | some i => match mget s.tm.queues i with
        | none => (3, s)
        | some q => s.checkQueue n i q c (verdictColour w.packet.record) w.copy.isSome
  | .admitted _ =>
    if group then (if s.bufferPasses c false false then 0 else 10, s)
    else match s.queueOf w.handle with
      | none => (3, s)
      | some i => (if s.bufferPasses c (((mget s.tm.queues i).map fun q => decide (q.depth + c ≤ q.res)).getD false) w.copy.isSome then 0 else 10, s)
  | .turn =>
    if group then (let k := s.checkGroup n w; if k = 11 then 0 else k, s)
    else match s.queueOf w.handle with
      | none => (3, s)
      | some _ => (if s.bufferPasses c false w.copy.isSome then 0 else 10, s)

/-- A waiting packet or copy leaves its Breakwater's sources. -/
def State.unwait (s : State) (n : Nat) (w : Waiting) : State :=
  let t := s.tmSlice n
  s.setTmSlice n { t with waiting := t.waiting.erase w }

/-- The gate that an admission waits for: a copy's COPY_VERDICT, a block not closed, or none of them (R373). -/
def State.gateFor (s : State) (w : Waiting) (inBlock : Bool) : Option Nat :=
  if !s.mateInShadow then none
  else match w.copy with
    | some (_, id) => some (copyGate id)
    | none => if inBlock then some blockGate else none

/-- A packet or copy is judged at the Breakwater of slice n (R274 to R278, R295): its cause and the state. -/
def State.judge (s : State) (n : Nat) (w : Waiting) (rule : VerdictRule) (inBlock : Bool) : Nat × State :=
  let (cause, s1) := s.causeOf n w rule
  let s2 := (s1.unwait n w).traceVerdict w cause
  let colour := match rule with
    | .admitted c => c
    | _ => verdictColour w.packet.record
  let group := decide (destType w.packet.record = 2) && w.copy.isNone
  let s3 := if cause = 0 then
      (if group then s2.enterReplication n w
       else match s2.queueOf w.handle with
        | some i => s2.enterQueue i w colour (s2.gateFor w inBlock)
        | none => s2)
    else
      let s3 := s2.countRefusal w.fromFabric w.copy.isSome (if group then none else s2.queueOf w.handle) cause
      match w.copy with
      | some (_, id) => s3.endCopy (some id)
      | none => s3
  let s4 := match w.copy with
    | some (h, id) => s3.noteCopy id h (decide (cause = 0))
    | none => if w.fromFabric then s3.noteFabric w.packet (decide (cause = 0)) else s3
  let s5 := if w.copy.isSome then s4
    else if cause = 0 then s4.finishInject w.packet 0 0 else s4.finishInject w.packet 2 cause
  (cause, s5)

/-! ### Digests (R382) -/

/-- One byte into the CRC-64 register, most significant bit first. -/
def crc64Byte (r : Nat) (b : Byte) : Nat :=
  (List.range 8).foldl (fun r _ => if r.testBit 63 then (r * 2 % 2 ^ 64) ^^^ 0x42F0E1EBA9EA3693 else r * 2 % 2 ^ 64) (r ^^^ (b.toNat * 2 ^ 56))

/-- VALUE of a digest. -/
def Digest.value (d : Digest) : Nat := d.crc ^^^ (2 ^ 64 - 1)

/-- A slice's digest. -/
def State.digest (s : State) (n : Nat) : Digest := mgetD .reset s.pair.digests n
/-- A slice's digest stored. -/
def State.setDigest (s : State) (n : Nat) (d : Digest) : State := { s with pair := { s.pair with digests := mput s.pair.digests n d } }

/-- Every slice's first digest has matched, and READY has not gone out: it goes (R378 step 4). -/
def State.checkReady (s : State) : State :=
  if s.pair.phase = .trial ∧ s.role = 2 ∧ !s.pair.readySent ∧ (List.range 16).all (fun n => (s.digest n).matched) then
    ({ s with pair := { s.pair with readySent := true } }).sendStatus 4
  else s

/-- The standby compares a digest of its own with the mate's of the same number (R382). -/
def State.compareDigest (s : State) (n number own mate : Nat) : State :=
  let s1 := s.bump 0x9001 0x0C
  if own = mate then (s1.setDigest n { s1.digest n with matched := true }).checkReady else s1.goStale 1 number

/-- A slice's digest ends, and its next begins: the active sends it, the standby compares it (R382). -/
def State.closeDigest (s : State) (n : Nat) : State :=
  let d := s.digest n
  let s1 := s.setDigest n { Digest.reset with number := (d.number + 1) % 2 ^ 32, since := s.now, own := d.own, mate := d.mate, matched := d.matched }
  if s.role = 1 then
    (s1.sendRecord (typedRecord 0x4A (natBe n 1 ++ [0] ++ natBe d.entries 2 ++ natBe d.number 4 ++ natBe d.value 8))).1
  else match d.mate.find? (fun m => decide (m.1 = d.number)) with
    | some m =>
      (s1.setDigest n { s1.digest n with mate := d.mate.filter (fun m => decide (m.1 ≠ d.number)) }).compareDigest n d.number d.value m.2.2
    | none => s1.setDigest n { s1.digest n with own := d.own ++ [(d.number, d.value)] }

/-- An entry enters its slice's digest; one that ended before Breakwater only counts. The digest closes at 4,096 entries, and on the
standby where the mate's of that number closed. -/
def State.digestEntry (s : State) (n : Nat) (counts : Bool) (decision : List Byte) : State :=
  let d := s.digest n
  let d1 := { d with entries := d.entries + 1, crc := if counts then decision.foldl crc64Byte d.crc else d.crc
                     since := if d.entries = 0 then s.now else d.since }
  let s1 := s.setDigest n d1
  if 4096 ≤ d1.entries ∨ (s.role = 2 ∧ d.mate.any (fun m => decide (m.1 = d.number ∧ m.2.1 = d1.entries))) then s1.closeDigest n else s1

/-- The decision record of a packet as it crosses DGn (R382). -/
def decisionOf (tag : Nat) (record : List Byte) : List Byte :=
  natBe tag 2 ++ natBe (byteAt record 2 / 64) 1 ++ slice record 12 2 ++ [0] ++ slice record 6 2 ++ slice record 8 4 ++ slice record 16 4

/-- TAG of a frame as it arrived (R362): CRC-16, most significant bit first. -/
def frameTag (frame : List Byte) : Nat :=
  (frame.take (Nat.min (frame.length - 4) 64)).foldl (fun r b =>
    (List.range 8).foldl (fun r _ => if r.testBit 15 then (r * 2 % 65536) ^^^ 0x1021 else r * 2 % 65536) (r ^^^ (b.toNat * 256))) 0xFFFF

/-- The slice of a source: that of a port, or that of an injection source. -/
def State.sourceSlice (s : State) (source : Nat) : Nat := if source < 128 then s.reg 0x3001 source else source % 16

/-! ### Verdict blocks of the active (R362 to R364) -/

/-- Sources are judged by blocks: the active in TRIAL or IN_STEP, by the source of a packet from its own ports or rings. -/
def Waiting.source (w : Waiting) : Option Nat :=
  match w.packet.source with
  | .arrival p => some p
  | .inject _ _ => some (0x80 + w.src / 2 % 16)
  | _ => none

/-- The next ordinal of a source. -/
def State.nextOrdinal (s : State) (source : Nat) : Nat × State :=
  let n := mgetD 0 s.pair.ordinals source
  (n, { s with pair := { s.pair with ordinals := mput s.pair.ordinals source ((n + 1) % 2 ^ 32) } })

/-- A frame or injected packet of a source has an entry in its open block. -/
def State.noteEntry (s : State) (source ordinal tag : Nat) : State :=
  if !s.activeInPair then s
  else
    let e : OpenEntry := { ordinal := ordinal, tag := tag, decided := none, atBreakwater := false, decision := [] }
    let fits (b : OpenBlock) : Bool := decide (b.source = source) && decide (b.entries.length < 32)
    let blocks := match s.pair.blocks.find? fits with
      | some _ => s.pair.blocks.map fun b => if fits b then { b with entries := b.entries ++ [e] } else b
      | none => s.pair.blocks ++ [{ source := source, first := s.now, flushed := false, entries := [e] }]
    { s with pair := { s.pair with blocks := blocks } }

/-- An entry of an open block changed. -/
def State.setOpenEntry (s : State) (source ordinal : Nat) (f : OpenEntry → OpenEntry) : State :=
  let entry (e : OpenEntry) : OpenEntry := if e.ordinal = ordinal then f e else e
  let block (b : OpenBlock) : OpenBlock := if b.source = source then { b with entries := b.entries.map entry } else b
  { s with pair := { s.pair with blocks := s.pair.blocks.map block } }

/-- A source's ordinal is in an open block. -/
def State.inOpenBlock (s : State) (source : Option Nat) (ordinal : Nat) : Bool :=
  source.any fun k => s.pair.blocks.any fun b => decide (b.source = k) && b.entries.any (fun e => decide (e.ordinal = ordinal))

/-- Whether a waiting packet or copy waits for its block to close: it is bound for a VOQ (R363). -/
def State.waitsForBlock (s : State) (w : Waiting) : Bool :=
  s.activeInPair && s.inOpenBlock w.source w.packet.ordinal
    && (((s.queueOf w.handle).bind (mget s.tm.queues ·)).any Queue.voq && (w.copy.isSome || decide (destType w.packet.record = 1)))

/-- The waiting packet of a source and ordinal, and its Breakwater. -/
def State.waitingOf (s : State) (source ordinal : Nat) : Option (Nat × Waiting) :=
  (List.range 16).findSome? fun n =>
    ((s.tmSlice n).waiting.find? fun w => decide (w.source = some source) && decide (w.packet.ordinal = ordinal) && w.copy.isNone
      && !w.fromFabric).map fun w => (n, w)

/-- The packed entries of a block: 19 bits each, most significant bit first. -/
def packEntries (es : List (Nat × Bool × Nat)) : List Byte :=
  let v := es.foldl (fun a (tag, admits, colour) => a * 2 ^ 19 + tag * 8 + (if admits then 4 else 0) + colour) 0
  let bits := 19 * es.length
  let len := (bits + 7) / 8
  natBe (v * 2 ^ (8 * len - bits)) len

/-- A block closes: its packets for VOQs are judged in entry order, it enters the stream, and its entries enter the digest. -/
def State.closeBlock (s : State) (b : OpenBlock) : State :=
  let s0 := { s with pair := { s.pair with blocks := s.pair.blocks.erase b } }
  let (s1, es) := b.entries.foldl (fun (s, out) e =>
    match e.decided with
    | some d => (s, out ++ [(e, d)])
    | none => match s.waitingOf b.source e.ordinal with
      | none => (s, out ++ [(e, (false, 3))])
      | some (n, w) =>
        let (cause, s1) := s.judge n w .full true
        (s1, out ++ [(e, (decide (cause = 0), verdictColour w.packet.record))])) (s0, ([] : List (OpenEntry × Bool × Nat)))
  let rec_ := natBe (0x20 + es.length - 1) 1 ++ natBe b.source 1 ++ packEntries (es.map fun (e, a, c) => (e.tag, a, c))
  let (s2, g) := s1.sendRecord rec_
  let s3 := s2.patchGates blockGate g
  es.foldl (fun s (e, a, c) => s.digestEntry (s.sourceSlice b.source) (a || decide (c ≠ 3)) e.decision) s3

/-- Every block that may close closes, in order (R363). -/
def State.closeBlocks : Nat → State → State
  | 0, s => s
  | fuel + 1, s =>
    let ripe (b : OpenBlock) : Bool := (decide (32 ≤ b.entries.length) || b.flushed) && b.entries.all fun e => e.decided.isSome || e.atBreakwater
    let first (b : OpenBlock) : Bool := decide (s.pair.blocks.find? (fun c => decide (c.source = b.source)) = some b)
    match s.pair.blocks.find? (fun b => first b && ripe b) with
    | none => s
    | some b => State.closeBlocks fuel (s.closeBlock b)

/-- An entry is decided, and blocks that may close do. -/
def State.decideEntry (s : State) (source : Option Nat) (ordinal : Nat) (admits : Bool) (colour : Nat) : State :=
  match source with
  | none => s
  | some k =>
    if !s.activeInPair then s
    else (s.setOpenEntry k ordinal fun e => { e with decided := some (admits, colour) }).closeBlocks 161

/-- A packet reaches Breakwater from its slice (R270): it waits as a packet of its source; in a pair its entry takes its decision
record, and a packet for a VOQ waits for its block. -/
def State.crossToTm (s : State) (n : Nat) (p : Packet) : State :=
  let s1 := s.offerBreakwater n false p
  let w : Waiting := { src := 2 * n, packet := p, fromFabric := false, copy := none }
  match w.source with
  | none => s1
  | some k =>
    if !s1.activeInPair ∨ !s1.inOpenBlock (some k) p.ordinal then s1
    else
      let held := s1.waitsForBlock w
      (s1.setOpenEntry k p.ordinal fun e => { e with
        decision := decisionOf e.tag p.record, atBreakwater := held }).closeBlocks 161

/-! ### The standby's matching (R365 to R367, R376) -/

/-- A pending packet is refused by the stream (R366). -/
def State.refuseShadow (s : State) (n : Nat) (w : Waiting) : State := (s.judge n w (.refused 2) false).2

/-- The standby's rule for an admission bit: in SHADOW check 11 alone, in CATCHUP check 1 refuses (R272, R378). After a turn the entries
received still govern. -/
def State.streamRule (s : State) (admits : Bool) (colour : Nat) : VerdictRule :=
  if s.mode = .catchup then .refused 1 else if admits then .admitted colour else .refused 2

/-- A leg miss (R365, R367). -/
def State.legMiss (s : State) (admits : Bool) : State :=
  let s1 := s.bump 0x9001 6
  if admits then s1.goStale 2 0 else s1

/-- A leg extra: its packet is refused, now or when it reaches Breakwater (R365). -/
def State.legExtra (s : State) (f : OwnFrame) : State :=
  let s1 := s.bump 0x9001 7
  let s2 := { s1 with pair := { s1.pair with frames := s1.pair.frames.filter (fun g => decide (g ≠ f)) } }
  match s2.waitingOf f.source f.ordinal with
  | some (n, w) => s2.refuseShadow n w
  | none => { s2 with pair := { s2.pair with extras := s2.pair.extras ++ [(f.source, f.ordinal)] } }

/-- What one comparison of R365 finds for a source: the entries and frames passed over, and the frame matched. None while neither
the tags nor the windows decide. -/
def matchStep (es : List MateEntry) (fs : List OwnFrame) : Option (List MateEntry × List OwnFrame × Option (MateEntry × OwnFrame)) :=
  match es, fs with
  | e :: es', f :: fs' =>
    if e.tag = f.tag then some ([], [], some (e, f))
    else
      let j := (es'.take 7).findIdx? fun x => decide (x.tag = f.tag)
      let k := (fs'.take 7).findIdx? fun x => decide (x.tag = e.tag)
      match j, k with
      | some j, _ => (es'[j]?).map fun x => (e :: es'.take j, [], some (x, f))
      | none, some k => (fs'[k]?).map fun x => ([], f :: fs'.take k, some (e, x))
      | none, none => if 7 ≤ es'.length ∧ 7 ≤ fs'.length then some ([e], [f], none) else none
  | _, _ => none

/-- Entries and frames of a source are matched as far as they go. -/
def State.matchSource : Nat → State → Nat → State
  | 0, s, _ => s
  | fuel + 1, s, k =>
    let es := s.pair.entries.filter fun e => decide (e.source = k) && e.own.isNone
    let fs := s.pair.frames.filter fun f => decide (f.source = k)
    match matchStep es fs with
    | none => s
    | some (missed, extra, hit) =>
      let s1 := { s with pair := { s.pair with entries := s.pair.entries.filter fun e => !missed.contains e } }
      let s2 := match hit with
        | none => s1
        | some (e, f) => { s1 with pair := { s1.pair with
            entries := s1.pair.entries.map (fun x => if x = e then { x with own := some f } else x)
            frames := s1.pair.frames.filter (fun g => decide (g ≠ f)) } }
      let s3 := extra.foldl State.legExtra s2
      State.matchSource fuel (missed.foldl (fun s e => s.legMiss e.admits) s3) k

/-- The stream's entries are applied in order as far as their packets have crossed (R366). A packet for a group keeps the entry's
position, by which its COPY_VERDICT names it. -/
def State.applyEntries : Nat → State → State
  | 0, s => s
  | fuel + 1, s =>
    match s.pair.entries with
    | [] => s
    | e :: rest =>
      match e.own with
      | none => s
      | some f =>
        let s1 := { s with pair := { s.pair with entries := rest } }
        let n := s.sourceSlice e.source
        if !e.admits ∧ e.colour = 3 then
          let s2 := s1.digestEntry n false []
          State.applyEntries fuel (match s2.waitingOf f.source f.ordinal with
            | some (m, w) => s2.refuseShadow m w
            | none => { s2 with pair := { s2.pair with extras := s2.pair.extras ++ [(f.source, f.ordinal)] } })
        else match s.waitingOf f.source f.ordinal with
          | none => s
          | some (m, w) =>
            let w1 := { w with packet := { w.packet with ordinal := e.position } }
            let (cause, s2) := (s1.unwait m w).judge m w1 (s1.streamRule e.admits e.colour) false
            let s3 := s2.digestEntry n true (decisionOf e.tag w.packet.record)
            let s4 := if e.admits ∧ cause ≠ 0 ∧ s3.mode = .shadow then s3.goStale 3 0 else s3
            State.applyEntries fuel s4

/-- A fabric packet with a received bit, and that bit (R376). -/
def State.fabricReady (s : State) (w : Waiting) : Option FabricBit :=
  match w.packet.source with
  | .fabric unit cls seq => s.pair.fabricBits.find? fun b => decide (b.unit = unit) && decide (b.cls = cls) && decide (b.seq = seq)
  | _ => none

/-- The verdict that a COPY_VERDICT gives a copy: by its group packet's source and place (R366). -/
def State.copyReady (s : State) (w : Waiting) : Option (CopyBits × Bool) :=
  match w.copy with
  | none => none
  | some (h, _) =>
    let group := destOf w.packet.record % 65536
    let k := (mgetD [] s.tm.groups group).idxOf h
    let mine (c : CopyBits) : Bool :=
      match w.packet.source with
      | .fabric unit cls seq => c.fabric && decide (c.unit = unit) && decide (c.source = cls) && decide (c.position = seq)
      | _ => !c.fabric && decide (some c.source = w.source) && decide (c.position = w.packet.ordinal)
    (s.pair.copyBits.find? mine).map fun c => (c, c.admits.getD k false)

/-- The rule that the stream has laid down for a waiting packet or copy of a standby, if its verdict has come. -/
def State.streamVerdict (s : State) (w : Waiting) : Option (Bool × Nat) :=
  if w.copy.isSome then (s.copyReady w).map fun c => (c.2, verdictColour w.packet.record)
  else if w.fromFabric then (s.fabricReady w).map fun b => (b.admits, verdictColour w.packet.record)
  else if w.source.any (fun k => s.pair.extras.contains (k, w.packet.ordinal)) then some (false, 0)
  else none

/-- A verdict received is used up. -/
def State.useVerdict (s : State) (w : Waiting) : State :=
  match s.fabricReady w with
  | some b => if w.copy.isNone then { s with pair := { s.pair with fabricBits := s.pair.fabricBits.erase b } } else s
  | none => { s with pair := { s.pair with extras := s.pair.extras.filter fun x => !(w.source.any fun k => decide (x = (k, w.packet.ordinal))) } }

/-- Pending packets that take on-die cells outside Breakwater's accounting, in KiB (R366). -/
def State.pendingKib (s : State) : Nat :=
  (s.tm.slices.map fun (_, t) => (t.waiting.map fun w => chargeOf w.packet.frame.length).foldl (· + ·) 0).foldl (· + ·) 0 / 4

/-- A standby works off what the stream has decided at one Breakwater: entries in stream order, then fabric packets, copies and
extras (R366, R376). -/
def State.standbyVerdicts (s : State) (n : Nat) : State :=
  let s1 := State.applyEntries (s.pair.entries.length + 1) s
  (s1.tmSlice n).waiting.foldl (fun s w =>
    match s.streamVerdict w with
    | none => s
    | some (admits, colour) =>
      let (cause, s2) := (s.useVerdict w).judge n w (s.streamRule admits colour) false
      if admits ∧ cause ≠ 0 ∧ s2.mode = .shadow then s2.goStale 3 0 else s2) s1

end Sys2Proof.Machine
end

