-- ==== Sys2Proof/Machine/MateOps.lean ====
section
/-! DEFINITION. Sys2Proof/Machine/MateOps.lean: the mate lanes on their receiving side, and the turn point (R355 to R357, R374 to R388). -/

namespace Sys2Proof.Machine

/-! ### Lanes (R356, R357) -/

/-- The 160 header bits of a mate cell (R356). -/
def mateHead (c : List Byte) : Nat := beAt c 0 20
/-- KIND. -/
def mateKind (c : List Byte) : Nat := fld (mateHead c) 159 158
/-- DATA_LEN. -/
def mateLen (c : List Byte) : Nat := fld (mateHead c) 154 146
/-- The payload. -/
def matePayload (c : List Byte) : List Byte := slice c 20 (mateLen c)
/-- A mate cell whose CELL_CRC passes and whose fields are legal. -/
def mateGood (c : List Byte) : Bool :=
  let len := mateLen c
  (match mateKind c with
    | 0 => decide (len = 0)
    | 1 => decide (1 ≤ len ∧ len ≤ 492)
    | 2 => decide (len = 12)
    | _ => false)
    && decide (20 + len ≤ c.length) && decide (fld (mateHead c) 145 144 = 0) && decide (fld (mateHead c) 39 32 = 0)
    && decide (crc32cStd (slice c 0 16 ++ matePayload c) = beAt c 16 4)

/-- A mate lane fails (R357): its cells not acknowledged go to the surviving lanes ahead of new cells, and it trains again 10 ms
later. -/
def State.failLane (s : State) (k : Nat) : State :=
  let st := s.reg 0x3600 k
  if 8 ≤ k ∨ st = 0 ∨ st = 6 then s
  else
    let l := s.lane k
    let again := (l.unacked ++ l.resend).map fun c => { c with seq := none }
    let s1 := (s.setReg 0x3600 k 6).bump 0x3604 k
    let s2 := s1.setLane k { MateLane.reset with failedSince := s.now }
    (({ s2 with pair := { s2.pair with waiting := again ++ s2.pair.waiting } }).abortTestOn 2 k).pumpMate

/-- A mate lane goes back (R342, R357). -/
def State.goBackLane (s : State) (k : Nat) : State :=
  let l := s.lane k
  if l.unacked.isEmpty then s
  else
    let s1 := (s.setLane k { l with resend := l.unacked ++ l.resend, unacked := [], goBacks := l.goBacks + 1, lastAdvance := s.now }).bump 0x3602 k
    if s.reg 0x8000 4 ≤ l.goBacks + 1 then s1.failLane k else s1.pumpMate

/-- BUNDLE_ACK advances (R373): GATE_WAIT_NS reads the last wait, completions that waited go out, and so do SYNC REQUESTs (R375). -/
def State.takeBundleAck (s : State) (ack : Nat) : State :=
  let d := (ack + 1 + 2 ^ 32 - s.pair.bundleAcked) % 2 ^ 32
  if d = 0 ∨ 2 ^ 31 ≤ d then s
  else
    let s1 := { s with pair := { s.pair with bundleAcked := (ack + 1) % 2 ^ 32 } }
    let freed := s1.tm.queues.findSome? fun (_, q) => q.packets.find? fun h => h.gate.isSome && s1.covered h.gate && !s.covered h.gate
    let s2 := match freed with
      | some h => s1.setReg 0x9001 0x0F (Nat.min (s.now - h.verdict) (2 ^ 32 - 1))
      | none => s1
    let waiting := s2.fab.send.filterMap fun (k, c) => if c.syncGate.isSome ∧ s2.covered c.syncGate then some k else none
    (waiting.foldl State.sendRequest s2).flushGated

/-- The acknowledgement fields of a good cell (R356, R357). -/
def State.takeMateAck (s : State) (k : Nat) (c : List Byte) : State :=
  let h := mateHead c
  let l := s.lane k
  let ack := fld h 63 48
  let acked (x : MateCell) : Bool := x.seq.any fun q => decide ((ack + 65536 - q) % 65536 < 32768)
  let done := (l.unacked ++ l.resend).any acked
  let l1 := { l with
    unacked := l.unacked.filter (fun x => !acked x), resend := l.resend.filter (fun x => !acked x), credits := l.credits + fld h 46 40
    goBacks := if done then 0 else l.goBacks, lastAdvance := if done then s.now else l.lastAdvance }
  let s1 := (s.setLane k l1).takeBundleAck (fld h 111 80)
  (if bitAt h 47 then s1.goBackLane k else s1).pumpMate

/-- A cell that is not accepted (R342). -/
def State.rejectMate (s : State) (k kind : Nat) : State :=
  let l := s.lane k
  let s1 := s.setLane k { l with owed := if kind = 1 then l.owed + 1 else l.owed, nakSent := true }
  if l.nakSent then s1 else s1.sendMate k 0 0 0 true []

/-- Cells that follow in BUNDLE_SEQ order are taken out of the store (R357); their payloads, in order. -/
def State.drainBundle : Nat → State → State × List (List Byte)
  | 0, s => (s, [])
  | fuel + 1, s =>
    match mget s.pair.reorder s.pair.bundleExpect with
    | none => (s, [])
    | some b =>
      let (s1, bs) := State.drainBundle fuel { s with pair := { s.pair with
        reorder := mdel s.pair.reorder s.pair.bundleExpect, bundleExpect := (s.pair.bundleExpect + 1) % 2 ^ 32 } }
      (s1, b :: bs)

/-- The payload of an accepted RECORDS cell enters the reordering store of 4,096 cells; one received before is discarded. -/
def State.reorderCell (s : State) (b : Nat) (payload : List Byte) : State × List (List Byte) :=
  let ahead := (b + (2 ^ 32 - s.pair.bundleExpect)) % 2 ^ 32
  if ahead < 4096 then
    let m := mput s.pair.reorder b payload
    State.drainBundle (m.length + 1) { s with pair := { s.pair with reorder := m } }
  else (s, [])

/-- A RECORDS or IDLE cell arrives (R356, R357). A RECORDS cell accepted on its lane is reordered by BUNDLE_SEQ in a store of 4,096
cells; one received before is discarded. No RECORDS cell is accepted once the turn is latched (R386). The payloads that join the record
stream come with the state. -/
def State.recvMate (s : State) (k : Nat) (c : List Byte) : State × List (List Byte) :=
  if 8 ≤ k ∨ !s.laneUp k then (s, [])
  else if !mateGood c then ((s.bump 0x3603 k).rejectMate k (mateKind c), [])
  else
    let h := mateHead c
    let s1 := s.takeMateAck k c
    if mateKind c ≠ 1 ∨ !s1.laneUp k ∨ s1.pair.turned then (s1, [])
    else if fld h 79 64 ≠ (s1.lane k).rxExpect then (s1.rejectMate k 1, [])
    else
      let l := s1.lane k
      let b := fld h 143 112
      let s2 := s1.setLane k { l with rxExpect := (l.rxExpect + 1) % 65536, nakSent := false, owed := l.owed + 1 }
      let (s3, bs) := s2.reorderCell b (matePayload c)
      (s3.sendMate k 0 0 0 false [], bs)

/-! ### SEQ accounting of a standby (R374, R375) -/

/-- The SEQ that a held VOQ packet takes. -/
def State.seqOf (s : State) (q : Queue) (h : Held) : Nat :=
  h.seq.getD (
    let c := s.pairCtx (ctxKey (q.dest % 4096) q.cls)
    (c.baseSeq + h.ordinal + 2 ^ 24 - (c.lost.filter fun o => decide (o < h.ordinal)).length) % 2 ^ 24)

/-- The VOQs of a context. -/
def State.ctxQueues (s : State) (k : Nat) : List Nat :=
  s.tm.queues.filterMap fun (i, q) => if q.voq ∧ ctxKey (q.dest % 4096) q.cls = k then some i else none

/-- One entry of a DEPARTURE_MARK: held packets before DONE_SEQ are freed, which is no deliberate end (R375). -/
def State.takeMark (s : State) (k era done : Nat) : State :=
  let s1 := s.setPairCtx k { s.pairCtx k with done := done, doneEra := era }
  (s1.ctxQueues k).foldl (fun s i =>
    match mget s.tm.queues i with
    | none => s
    | some q => (s.dropPackets i fun h =>
        let d := (done + 2 ^ 24 - s.seqOf q h) % 2 ^ 24
        decide (0 < d ∧ d ≤ 2 ^ 23)).1) s1

/-- Held packets of a context that a test picks are discarded and counted (R374). -/
def State.discardHeld (s : State) (k : Nat) (pick : Held → Bool) : State :=
  (s.ctxQueues k).foldl (fun s i => let (s1, n) := s.dropPackets i pick; s1.count 0x9001 0x0B n) s

/-- One entry of a QUEUE_END (R374). -/
def State.takeQueueEnd (s : State) (k kind v : Nat) : State :=
  let c := s.pairCtx k
  match kind with
  | 0 => (s.discardHeld k fun _ => true).setPairCtx k { c with baseSeq := v, count := 0, lost := [], foreign := [] }
  | 1 => (s.setPairCtx k { c with lost := v :: c.lost }).discardHeld k fun h => decide (h.ordinal = v) && h.seq.isNone
  | _ => s.setPairCtx k { c with foreign := v :: c.foreign }

/-! ### START (R378, R388) -/

/-- The entry of START for a context: DEST, CLASS, ERA and BASE_SEQ. -/
def startEntry (k era base : Nat) : List Byte := natBe (k / 8 % 4096 * 2 ^ 52 + k % 8 * 2 ^ 49 + era % 16 * 2 ^ 45 + base % 2 ^ 24) 8

/-- Every context that a VOQ serves. -/
def State.voqCtxs (s : State) : List Nat :=
  (s.tm.queues.filterMap fun (_, q) => if q.voq then some (ctxKey (q.dest % 4096) q.cls) else none).eraseDups

/-- The entries of START records, 8,000 to a record. -/
def startRecords : Nat → List (List Byte) → List (List Byte)
  | 0, _ => []
  | fuel + 1, es =>
    let last := decide (es.length ≤ 8000)
    typedRecord 0x4B (natBe (if last then 1 else 0) 1 ++ [0, 0, 0] ++ (es.take 8000).flatten)
      :: (if last then [] else startRecords fuel (es.drop 8000))

/-- The active sends START: BASE_SEQ of each context is the SEQ that its first admission after START takes, and the pair is in
step. -/
def State.sendStart (s : State) : State :=
  let s1 := s.voqCtxs.foldl (fun s k =>
    let c := s.sendCtx k
    let queued := (s.ctxQueues k).map fun i => ((mget s.tm.queues i).map fun q => (q.packets.filter (·.seq.isNone)).length).getD 0
    s.setPairCtx k { baseSeq := (c.nextSeq + queued.foldl (· + ·) 0) % 2 ^ 24, era := c.era, count := 0, lost := [], foreign := []
                     done := c.nextSeq, doneEra := c.era }) s
  let es := s1.voqCtxs.map fun k => startEntry k (s1.pairCtx k).era (s1.pairCtx k).baseSeq
  let firstOf (src next : Nat) : Nat := ((s1.pair.blocks.find? fun b => decide (b.source = src)).bind fun b => b.entries.head?.map (·.ordinal)).getD next
  let starts := s1.pair.ordinals.map fun (src, next) => (src, firstOf src next)
  let s2 := (startRecords (es.length + 1) es).foldl (fun s r => (s.sendRecord r).1) s1
  ({ s2 with pair := { s2.pair with phase := .inStep, positions := starts, openFabric := [] } }).refreshIdentity

/-! ### The turn point (R386, R388) -/

/-- The packets of a VOQ take the SEQs of R374 for good. -/
def State.fixSeqs (s : State) : State :=
  { s with tm := { s.tm with queues := mmap s.tm.queues fun _ q =>
      (if q.voq then { q with packets := q.packets.map fun h => { h with seq := some (s.seqOf q h), gate := none } } else q) } }

/-- A sending context at the turn: ERA of its last mark, NEXT_SEQ the SEQ of the next ordinal, BALANCE 0, synchronised. -/
def State.turnCtx (s : State) (k : Nat) : State :=
  let p := s.pairCtx k
  let c := s.sendCtx k
  s.setSendCtx k { c with
    nextSeq := (p.baseSeq + p.count + 2 ^ 24 - p.lost.length) % 2 ^ 24, era := p.doneEra, balance := 0, synced := true, syncGate := none, reported := 0 }

/-- Pending packets with no received entry or bit are judged by checks 3 and 11 alone, in the order in which they reached Breakwater
(R386 step 5). -/
def State.judgePending (s : State) : State :=
  (List.range 16).foldl (fun s n =>
    (s.tmSlice n).waiting.foldl (fun s w =>
      let matched := s.pair.entries.any fun e => e.own.any fun f => decide (some f.source = w.source) && decide (f.ordinal = w.packet.ordinal)
      if (matched && w.copy.isNone && !w.fromFabric) || (s.streamVerdict w).isSome then s
      else
        let (cause, s1) := s.judge n w .turn false
        if cause = 0 then s1 else s1.bump 0x9001 9) s) s

/-- Every host channel is DISABLED and IDLE after a turn (R461). -/
def State.channelsIdle (s : State) : State :=
  { s with host := { s.host with channels := mmap s.host.channels fun _ c =>
      { c with ring := .disabled, fetched := [], started := [], staged := [], scanning := false } } }

/-- The turn point (R386): cause 1 FAULT_WIRE, 2 HEARTBEAT, 3 SWITCHOVER. What records lie wholly in received cells is applied; the
unit becomes an active that sends what it held with its own SEQs. The cycles taken are not given: a free value within the bound. -/
def State.turn (s : State) (cause : Nat) : State :=
  if s.mode ≠ .shadow ∨ s.pair.phase ≠ .inStep then s
  else
    let ctxs := (s.voqCtxs ++ s.pair.ctxs.map (·.1)).eraseDups
    let s1 := s.fixSeqs
    let s2 := ctxs.foldl State.turnCtx s1
    let s3 := (State.applyEntries (s2.pair.entries.length + 1) s2).judgePending
    let sources := (s3.pair.entries.filter fun e => e.own.isNone).map (·.source)
    let p := s3.pair
    let s4 := { s3 with pair := { p with
      phase := .apart, mateLost := decide (cause ≠ 3), turned := true, blocks := [], ordinals := p.ordinals, staged := []
      frames := p.frames.filter (fun f => sources.contains f.source), digests := [], marks := [], readySent := false
      copyAsked := false, copied := [], switching := false } }
    let s5 := (s4.setReg 0x9000 2 0).autoMode (if s4.reg 0x2000 6 = 2 then .proportional else .spring)
    let s6 := s5.channelsIdle
    let s7 := ctxs.foldl (fun s k => if 0 < s.demand k then s.sendRequest k else s) s6
    let (d, s8) := s7.draw
    let s9 := ((((s8.bump 0x9001 1).setReg 0x9001 2 s8.ptp).setReg 0x9001 3 cause).raiseEvent 6 cause (d % 6145)).refreshIdentity
    if cause = 3 then ({ s9 with pair := { s9.pair with turned := false } }).sendStart else s9

/-- A planned switch-over ends on the old active (R388 steps 1 to 3): its blocks are closed and its cells acknowledged; marks, fabric
verdicts and HANDOFF go out, and it enters SHADOW as the standby, holding the same queues. -/
def State.finishSwitch (s : State) : State :=
  if !s.pair.switching ∨ !s.fab.sent.isEmpty ∨ s.role ≠ 1 then s
  else
    let s1 := State.closeBlocks 161 { s with pair := { s.pair with blocks := s.pair.blocks.map fun b => { b with flushed := true } } }
    if !s1.pair.blocks.isEmpty then s1
    else
      let s2 := s1.voqCtxs.foldl (fun s k => (s.sendMark k).1) s1
      let s3 := s2.pair.openFabric.foldl State.sendFabricVerdict s2
      let s4 := (s3.sendRecord (typedRecord 0x4C [])).1
      let fixed (q : Queue) : Queue :=
        if q.voq then
          let next := (s4.sendCtx (ctxKey (q.dest % 4096) q.cls)).nextSeq
          let unset := fun (a : List Held × Nat) (h : Held) => match h.seq with
            | some _ => (a.1 ++ [h], a.2)
            | none => (a.1 ++ [{ h with seq := some (a.2 % 2 ^ 24), gate := none }], a.2 + 1)
          { q with packets := (q.packets.foldl unset (([] : List Held), next)).1 }
        else q
      let s5 := { s4 with tm := { s4.tm with queues := mmap s4.tm.queues (fun _ q => fixed q) } }
      let s6 := (s5.setReg 0x9000 2 1).autoMode .shadow
      ({ s6 with pair := { s6.pair.clear with phase := .inStep, switching := false } }).refreshIdentity

end Sys2Proof.Machine
end

