-- ==== Sys2Proof/Machine/Modules.lean ====
section
/-! DEFINITION. Sys2Proof/Machine/Modules.lean: the meanings of the commands on modules and cages (R108 to R112, R419). -/

namespace Sys2Proof.Machine

/-- A cage is fitted and Tidewatch watches it. -/
def State.fitted (s : State) (n : Nat) : Bool := decide (n < 32) && decide (s.cageLanes n ≠ 0) && s.power.tidewatchUp

/-- MODULE_STATE set, with an OFFER_MAP of zeros in every state but READY (R110). -/
def State.setModule (s : State) (n st : Nat) : State := s.setReg (0x1100 + n) 1 st

/-- Levels of MOD_PRS_N and MOD_INT_N. -/
def State.setModPin (s : State) (n : Nat) (prs : Option Bool) (int : Option Bool) : State :=
  let bit := BitVec.ofNat 32 (2 ^ n)
  let put (m : BitVec 32) : Option Bool → BitVec 32
    | none => m
    | some true => m ||| bit
    | some false => m &&& ~~~bit
  { s with power := { s.power with pins := { s.power.pins with
      modPrsN := put s.power.pins.modPrsN prs, modIntN := put s.power.pins.modIntN int } } }

/-- Step 1 of R108: an insertion is counted, and the module is held in reset and in low power. -/
def State.insertModule (s : State) (n : Nat) : State :=
  let c := s.cage n
  let s1 := (s.bump (0x1100 + n) 0x0D).setModule n 2
  ((s1.setCage n { c with step := .resetHold s.now, suspect := none, deinit := 0 }).setModReset n false).setLpMode n true

/-- A module is gone (R109): a read of it is abandoned, and ports on it go down. -/
def State.removeModule (s : State) (n : Nat) : State :=
  let c := s.cage n
  let s1 := (s.setCage n { c with step := .none, suspect := none, lastSerial := [], passBusy := false, deinit := 0,
                                   passStatus := if c.passBusy then 2 else c.passStatus }).setModule n 1
  let s2 := (s1.setModReset n false).setLpMode n true
  (s2.cagePorts n).foldl (fun s p =>
    let s1 := s.portDown p 8 2
    if s1.reg 0x3002 p = 1 then ((s1.setPort p { s1.port p with activation := 0 }).setReg 0x3003 p 2).setLanes (s1.portLanes p) 0 else s1) s2

/-- MODULE_INSERTION (R108): MOD_PRS_N of a fitted cage has been low for 10 ms. -/
def execModuleInsertion (n : Nat) (s : State) : Host.Outcome State Fault Refusal :=
  .next (if s.fitted n ∧ s.power.pins.modPrsN.getLsbD n then (s.setModPin n (some false) none).insertModule n
    else if n < 32 then s.setModPin n (some false) none
    else s)

/-- MODULE_RESET_RELEASE (R108): the reset hold of 25 ms ends, and polling begins. -/
def execModuleResetRelease (n : Nat) (s : State) : Host.Outcome State Fault Refusal :=
  .next (match (s.cage n).step with
    | .resetHold t =>
      if !s.fitted n then s
      else
        let s1 := s.reach (t + 25000000)
        (s1.setCage n { s1.cage n with step := .poll s1.now }).setModReset n true
    | _ => s)

/-- A sum over bytes, modulo 256: the checksum of CMIS pages (PRESUMED from CMIS, log entry 20). -/
def byteSum (bs : List Byte) : Nat := (bs.map (·.toNat)).foldl (· + ·) 0 % 256

/-- Checksums of page 00h byte 222 over bytes 128 to 221, and of page 01h byte 255 over bytes 130 to 254 unless memory is flat. -/
def pageSumsGood (image : List Byte) : Bool :=
  decide (byteSum (slice image 128 94) = byteAt image 222)
    && (bitAt (byteAt image 2) 7 || decide (byteSum (slice image 258 125) = byteAt image 383))

/-- An application descriptor is malformed: it names no host lane, or more than 8 (log entry 20). -/
def appBad (d : List Byte) : Bool := decide (appLanes d = 0) || decide (8 < appLanes d)

/-- A module is read again from step 2 of R108. -/
def State.rereadModule (s : State) (n : Nat) : State :=
  (s.setCage n { s.cage n with step := .poll s.now, suspect := none }).setModule n 2

/-- A read of a module ends in a state. -/
def State.endRead (s : State) (n st : Nat) : State :=
  let s1 := (s.setCage n { s.cage n with step := .none, suspect := none }).setModule n st
  if st = 4 ∨ st = 5 then s1.bump (0x1100 + n) 0x0E else s1

/-- The objects that a page image gives (R111). -/
def State.setPages (s : State) (n : Nat) (image : List Byte) : State :=
  let i := 0x1100 + n
  let s1 := ((s.setReg i 2 (byteAt image 0)).setReg i 3 (byteAt image 1)).setReg i 0x0A (byteAt image 85)
  let s2 := (((s1.setOct i 4 (slice image 129 16)).setOct i 5 (slice image 145 3)).setOct i 6 (slice image 148 16)).setOct i 7 (slice image 164 2)
  let s3 := ((s2.setOct i 8 (slice image 166 16)).setOct i 9 (slice image 182 8)).setOct i 0x0B ((applications image).map (·.2)).flatten
  (s3.setOct i 0x0F image).setOct i 0x0C
    ((List.range 8).map fun k => BitVec.ofNat 8 (s3.offerByte n k image))

/-- Steps 3 and 4 of R108 for pages that were read: consistency first, then support, then the offers. A serial number that differs
from the last one read in the cage is a removal followed by an insertion (R109). -/
def State.judgeModule (s : State) (n : Nat) (image : List Byte) : State :=
  let c := s.cage n
  let serial := slice image 166 16
  if !pageSumsGood image then
    match c.suspect with
    | none => s.setCage n { c with suspect := some serial }
    | some _ => (s.setPages n image).endRead n 5
  else if c.suspect.any (fun x => decide (x ≠ serial)) then (s.setPages n image).endRead n 5
  else if !c.lastSerial.isEmpty ∧ c.lastSerial ≠ serial then (s.removeModule n).insertModule n
  else
    let s1 := s.setCage n { c with lastSerial := serial }
    let s2 := s1.setPages n image
    if (applications image).any (fun a => appBad a.2) then s2.endRead n 5
    else if !Config.cmisIdentifier (byteAt image 0) ∨ byteAt image 1 < 0x40 ∨ allZeroMap (s2.oct (0x1100 + n) 0x0C) then s2.endRead n 6
    else (s2.endRead n 3).retryPorts n
where
  /-- No mode is offered. -/
  allZeroMap (m : List Byte) : Bool := m.all (· == 0)

/-- MODULE_STATE_POLL (R108): lower page byte 3 is read, and once it shows ModuleLowPwr or ModuleReady the pages are read. `ack` is
false while nothing acknowledges; `image` holds the lower page, page 00h and page 01h. Module states are those of CMIS: 1 low
power, 3 ready, 5 fault in bits [3:1] (log entry 20). The device's own reads wait during a raw access (R112). -/
def execModuleStatePoll (n : Nat) (ack : Bool) (image : List Byte) (s : State) : Host.Outcome State Fault Refusal :=
  .next (match (s.cage n).step with
    | .poll _ =>
      if !s.fitted n ∨ !ack ∨ (s.cage n).passBusy then s
      else
        let img := slice image 0 384
        let img := if bitAt (byteAt img 2) 7 then slice img 0 256 ++ List.replicate 128 0 else img
        match fld (byteAt img 3) 3 1 with
        | 1 | 3 => s.judgeModule n img
        | 5 =>
          let s1 := (s.setPages n img).endRead n 7
          (s1.cagePorts n).foldl (fun s p => s.causeOnset p 9) s1
        | _ => s
    | _ => s)

/-- MODULE_READ_TIMEOUT (R109): no acknowledgement within 2,000 ms, or three failed reads of a page. -/
def execModuleReadTimeout (n : Nat) (s : State) : Host.Outcome State Fault Refusal :=
  .next (match (s.cage n).step with
    | .poll _ => if s.fitted n then s.endRead n 4 else s
    | _ => s)

/-- MODULE_REMOVAL (R109). -/
def execModuleRemoval (n : Nat) (s : State) : Host.Outcome State Fault Refusal :=
  .next (let s1 := if n < 32 then s.setModPin n (some true) none else s
         if s.fitted n ∧ !s.power.pins.modPrsN.getLsbD n then s1.removeModule n else s1)

/-- MOD_INT_N_ASSERT (R109, R419): a module in a failed state is read again, and ports that wait on the module are tried again. -/
def execModIntNAssert (n : Nat) (s : State) : Host.Outcome State Fault Refusal :=
  .next (let s1 := if n < 32 then s.setModPin n none (some false) else s
         if !s.fitted n then s1
         else if 4 ≤ s.moduleState n then s1.rereadModule n
         else s1.retryPorts n)

/-- The effect of a REREAD write of 1 (R111): R108 from step 2, for a module that is present. -/
def rereadEffect (n : Nat) (c : List Byte) (s : State) : Status × State :=
  if beNat c ≠ 1 ∨ !s.fitted n ∨ s.moduleState n ≤ 1 then (.ok, s)
  else
    let s1 := (s.cagePorts n).foldl (fun s p => if s.reg 0x3003 p = 2 then s.setPort p { s.port p with activation := 0 } else s) s
    (.ok, s1.rereadModule n)

/-- REREAD (R111). -/
def execReread (o : Origin) (n : Nat) (v : List Byte) (s : State) : Host.Outcome State Fault Refusal :=
  .next (s.runWrite o (0x1100 + n) 0x11 v (rereadEffect n))

/-- The effect of a CMIS_PASSTHROUGH write (R112): operation, bank, page, offset, length, and the data of a write. -/
def passEffect (n : Nat) (c : List Byte) (s : State) : Status × State :=
  let len := byteAt c 4
  let x := s.cage n
  if c.length < 5 ∨ 1 < byteAt c 0 ∨ len = 0 ∨ 128 < len ∨ 256 < byteAt c 3 + len ∨ c.length ≠ 5 + (if byteAt c 0 = 1 then len else 0) then (.range, s)
  else if x.passBusy then (.busy, s)
  else
    let s1 := s.setCage n { x with passBusy := true, passStatus := 1, passLen := if byteAt c 0 = 0 then len else 0 }
    (.ok, if byteAt c 0 = 1 then s1.emit (.twoWire n (byteAt c 1) (byteAt c 2) (byteAt c 3) (c.drop 5)) else s1)

/-- CMIS_PASSTHROUGH (R112): the object is a BLOB, written whole. -/
def execCmisPassthrough (o : Origin) (n : Nat) (v : List Byte) (s : State) : Host.Outcome State Fault Refusal :=
  .next (s.runBlob o (0x1100 + n) 0x10 v (passEffect n))

/-- CMIS_PASSTHROUGH_DONE (R112): a raw access ends, with the bytes that a read returned. -/
def execCmisPassthroughDone (n : Nat) (ack : Bool) (data : List Byte) (s : State) : Host.Outcome State Fault Refusal :=
  .next (let c := s.cage n
         if !c.passBusy then s
         else s.setCage n { c with
           passBusy := false
           passStatus := if ack then 0 else 2
           passData := if ack ∧ c.passLen ≠ 0 then slice data 0 c.passLen else c.passData })

end Sys2Proof.Machine
end

