-- ==== Sys2Proof/Machine/Power.lean ====
section
/-! DEFINITION. Sys2Proof/Machine/Power.lean: the meanings of the commands on modes, resets, supplies, clocks, sensors and adaptive
voltage (R50 to R61, R68, R72 to R79, R89 to R95). -/

namespace Sys2Proof.Machine

/-! ### Requests for a mode (R72 to R74) -/

/-- The mode that a value of MODE names. -/
def modeOf : Nat → Option Mode
  | 0 => some .dormant | 1 => some .bringup | 2 => some .proportional | 3 => some .spring | 4 => some .catchup | 5 => some .shadow
  | 6 => some .drain | 7 => some .diagnostic | _ => none

/-- The alert threshold of a sensor in m°C: sensors 1 to 22 are on the dies, 23 to 26 in the stacks (R60, R61). -/
def State.alertOf (s : State) (k : Nat) : Int := if k ≤ 22 then toSigned 32 (s.reg 0x2302 1) else toSigned 32 (s.reg 0x2302 3)

/-- Every sensor is below its alert threshold (R61). -/
def State.allCool (s : State) : Bool :=
  (List.range 26).all fun k => decide (toSigned 32 (s.reg 0x2301 (k + 1)) < s.alertOf (k + 1))

/-- A wake is allowed (R61, R73, R103). -/
def State.mayWake (s : State) : Bool :=
  !s.power.ms.wakeRefused && !s.power.recovery && (!s.power.ms.afterTrip || s.allCool)

/-- A wake begins: PWR_EN_MAIN rises, and the device goes on from step 5 of R51 when PWR_GOOD_MAIN is already high (R53). -/
def State.beginWake (s : State) : State :=
  let s1 := { s with power := { s.power with pins := { s.power.pins with pwrEnMain := true } } }
  let start := if s.power.pins.pwrGoodMain then StartPhase.bootPath else .waitPower s.now false
  ({ s1 with power := { s1.power with start := start } }).setMs fun m => { m with target := some .bringup }

/-- Every port with a mode has a slice, and a program is loaded (R73, R416). -/
def State.mayForward (s : State) : Bool :=
  (List.range 128).all (fun p => decide (s.reg 0x3000 p = 0) || decide (s.reg 0x3001 p ≠ 0xFF)) && s.epochs.cur.loaded

/-- The pair's conditions on a request from BRINGUP to PROPORTIONAL or SPRING (R352). -/
def State.pairAllows (s : State) : Bool :=
  !s.pairEnabled || (!s.intentStandby &&
    !(s.mateLinkUp && (decide (s.pair.mate.role = 1) || decide (s.pair.mate.role = 3)
        || (s.power.pins.pairRole && (s.pair.mate.identity.any fun b => decide (identIntent b = 0))))))

/-- Queues that hold a packet (0x2000:09). -/
def State.queuesLeft (s : State) : Nat := (s.tm.queues.filter fun (_, q) => !q.packets.isEmpty).length

/-- A request accepted: the transition has begun (R74). -/
def State.beginMode (s : State) (m : Mode) : State :=
  s.setMs fun x => { x with target := some m, status := .inProgress }

/-- A request beyond DRAIN: the target is pending, and DRAIN comes first (R37, R74). -/
def State.beginDrain (s : State) (m : Mode) : State :=
  s.setMs fun x => { x with target := some .drain, pending := if m = .drain then none else some m, status := .inProgress }

/-- The effect of a MODE_REQUEST write (R73, R74). -/
def modeRequestEffect (c : List Byte) (s : State) : Status × State :=
  let busy := decide (s.power.ms.status = .inProgress) || decide (s.power.ms.status = .drainTimeout)
  let go (s' : State) : Status × State := if busy then (.busy, s) else (.ok, s')
  let beyond (m : Mode) : Bool := decide (m = .bringup) || decide (m = .dormant) || decide (m = .diagnostic)
  match modeOf (beNat c) with
  | none => (.range, s)
  | some m =>
    if m = s.mode then (.ok, s)
    else if m = .dormant ∧ s.fw.installing.isSome ∧ s.mode ≠ .catchup then (.busy, s)
    else match s.mode, m with
      | .dormant, .bringup => if s.mayWake then go ((s.beginWake).setMs fun x => { x with status := .inProgress }) else (.mode, s)
      | .bringup, .proportional | .bringup, .spring => if s.mayForward && s.pairAllows then go (s.beginMode m) else (.mode, s)
      | .proportional, .spring | .spring, .proportional => go (s.beginMode m)
      | .bringup, .diagnostic | .diagnostic, .bringup | .bringup, .dormant | .diagnostic, .dormant => go (s.beginMode m)
      | .bringup, .catchup =>
        if !s.pairEnabled ∨ !s.intentStandby then (.mode, s)
        else if s.refuseCause ≠ 0 ∨ !s.stacksGood then (.pairUnavailable, s)
        else go (s.beginMode m)
      | .catchup, .bringup => go (s.beginMode m)
      | .proportional, _ | .spring, _ | .shadow, _ => if m = .drain ∨ beyond m then go (s.beginDrain m) else (.mode, s)
      | .drain, _ =>
        if beyond m then
          if s.power.ms.pending.isSome ∨ busy then (.busy, s)
          else
            let late := decide (s.power.ms.drainSince + s.reg 0x2000 5 * 1000000 ≤ s.now) && decide (0 < s.queuesLeft)
            (.ok, s.setMs fun x => { x with pending := some m, status := if late then .drainTimeout else .inProgress })
        else if (m = .proportional ∨ m = .spring) ∧ s.power.ms.drainFrom ≠ .shadow then
          (.ok, s.setMs fun x => { x with target := some m, pending := none, status := .inProgress })
        else (.mode, s)
      | _, _ => (.mode, s)

/-- MODE_REQUEST (R72 to R74). -/
def execModeRequest (o : Origin) (v : List Byte) (s : State) : Host.Outcome State Fault Refusal :=
  .next (s.runWrite o 0x2000 2 v modeRequestEffect)

/-- With AUTO_REJOIN, steward firmware writes the MODE_REQUEST for CATCHUP when the unit is in BRINGUP and its mate reports role
ACTIVE (R389). -/
def State.tryRejoin (s : State) : State :=
  if s.mode = .bringup ∧ s.reg 0x9000 6 = 1 ∧ s.mateLinkUp ∧ s.pair.mate.role = 1 then (modeRequestEffect [4] s).2 else s

/-- What the completion of a transition leaves: the request is DONE unless a target lies beyond DRAIN (R74); CATCHUP asks the
active for its copy (R378). -/
def State.settleMode (s : State) (m : Mode) : State :=
  let from_ := s.mode
  let s1 := s.completeMode m
  let s2 := s1.setMs fun x =>
    { x with
      status := if m = .drain ∧ x.pending.isSome then x.status else .done
      drainFrom := if m = .drain then from_ else x.drainFrom
      drainSince := if m = .drain then s1.now else x.drainSince }
  if m = .catchup then
    ({ s2 with pair := { s2.pair.clear with phase := .copying, copied := [] } }).sendStatus 1
  else s2.tryRejoin

/-- MODE_TRANSITION_DONE (R73): the transition that is under way completes. A wake completes by the boot path; an entry to DORMANT
or DIAGNOSTIC waits for a commit in progress (R77). -/
def execModeTransitionDone (s : State) : Host.Outcome State Fault Refusal :=
  .next (match s.power.ms.target with
    | none => s
    | some m =>
      if s.mode = .dormant ∨ ((m = .dormant ∨ m = .diagnostic) ∧ !s.epochs.queue.isEmpty) then s
      else s.settleMode m)

/-- DRAIN_QUEUES_EMPTY (R37, R73): every queue is empty, and the device moves on to the pending target. -/
def execDrainQueuesEmpty (s : State) : Host.Outcome State Fault Refusal :=
  .next (match s.power.ms.pending with
    | none => s
    | some m =>
      if s.mode ≠ .drain ∨ s.queuesLeft ≠ 0 ∨ ((m = .dormant ∨ m = .diagnostic) ∧ !s.epochs.queue.isEmpty) then s
      else (s.setMs fun x => { x with pending := none }).settleMode m)

/-- DRAIN_TIMEOUT (R76): DRAIN has lasted DRAIN_TIMEOUT_MS with a target pending and queues remaining. -/
def execDrainTimeout (s : State) : Host.Outcome State Fault Refusal :=
  .next (if s.mode = .drain ∧ s.power.ms.pending.isSome ∧ 0 < s.queuesLeft then
      (s.reach (s.power.ms.drainSince + s.reg 0x2000 5 * 1000000)).setMs fun x => { x with status := .drainTimeout }
    else s)

/-- WAKE_AFTER_S_EXPIRY (R72, R73): the device wakes itself. -/
def execWakeAfterSExpiry (s : State) : Host.Outcome State Fault Refusal :=
  .next (if s.mode = .dormant ∧ s.reg 0x2000 7 ≠ 0 ∧ s.power.start = .idle ∧ s.power.tidewatchUp ∧ s.mayWake then
      (s.reach (s.power.ms.dormantSince + s.reg 0x2000 7 * 1000000000)).beginWake
    else s)

/-! ### Resets (R89 to R95) -/

/-- PORESET_N_LOW (R89, R90). -/
def execPoresetNLow (s : State) : Host.Outcome State Fault Refusal :=
  .next (let s1 := s.powerOnReset 1
         { s1 with power := { s1.power with pins := { s1.power.pins with poresetN := false } } })

/-- POWER_ON_START (R99): PORESET_N is high, the boot ROM starts TWPLL and raises PWR_EN_MAIN. -/
def execPowerOnStart (s : State) : Host.Outcome State Fault Refusal :=
  .next (if s.mode = .dormant ∧ s.power.start = .idle ∧ !s.power.tidewatchUp ∧ !s.power.recovery then
      let pins := { s.power.pins with poresetN := true, pwrEnMain := true }
      { s with power := { s.power with pins := pins, start := .waitPower s.now true } }
    else s)

/-- SUPPLY_TIMEOUT (R51): PWR_GOOD_MAIN is still low after 100 ms. The wake that waited for it ends ABORTED (log entry 16). -/
def execSupplyTimeout (s : State) : Host.Outcome State Fault Refusal :=
  .next (match s.power.start with
    | .waitPower t _ =>
      if s.power.pins.pwrGoodMain then s
      else
        let s1 := (s.reach (t + 100000000)).abortRequest.setReg 0x2302 6 4
        { s1 with power := { s1.power with pins := { s1.power.pins with pwrEnMain := false }, start := .idle } }
    | _ => s)

/-- SUPPLY_LOSS (R54): PWR_GOOD_MAIN reads low while PWR_EN_MAIN is high. -/
def execSupplyLoss (s : State) : Host.Outcome State Fault Refusal :=
  .next (let s0 := { s with power := { s.power with pins := { s.power.pins with pwrGoodMain := false } } }
         match s.power.pins.pwrEnMain, s.power.start with
         | false, _ => s0
         | true, .waitPower _ _ => s0
         | true, _ => ((s0.shutDown false).setReg 0x2302 6 3).health 0 2 3 [])

/-- SENSOR_SAMPLE (R60, R70): 26 readings in m°C enter TEMP_MC, and THERM_ALERT_N follows them. -/
def execSensorSample (temps : List Int) (s : State) : Host.Outcome State Fault Refusal :=
  .next (if temps.length ≠ 26 ∨ !s.power.tidewatchUp then s
    else
      let s1 := (List.range 26).foldl (fun s k => s.setReg 0x2301 (k + 1) (ofSigned 32 (temps.getD k 0))) s
      let reading (k : Nat) : Int := temps.getD k 0
      let hot := (List.range 26).filter fun k => decide (s.alertOf (k + 1) ≤ reading k)
      let cool := (List.range 26).all fun k => decide (reading k + 2000 ≤ s.alertOf (k + 1))
      let level := if !hot.isEmpty then false else if cool then true else s.power.pins.thermAlertN
      let s2 := { s1 with power := { s1.power with pins := { s1.power.pins with thermAlertN := level } } }
      if s.power.pins.thermAlertN && !level then s2.health 1 1 0 (natBe (hot.headD 0 + 1) 1) else s2)

/-- THERMAL_TRIP (R61): sensor 1 to 22 of a die, 23 to 26 of a stack. -/
def execThermalTrip (sensor : Nat) (s : State) : Host.Outcome State Fault Refusal :=
  .next (if sensor = 0 ∨ 26 < sensor then s
    else
      let cause := if sensor ≤ 22 then 1 else 2
      let s1 := if s.power.pins.pwrEnMain then s.shutDown true else s.setMs fun m => { m with afterTrip := true }
      ((s1.setReg 0x2302 6 cause).health 0 2 cause (natBe sensor 1)).health 1 2 cause (natBe sensor 1))

/-- The loss of a clock (R68): the steps of R54, the cause in CLOCK_FAULT_CAUSE, and management port 0 down. -/
def State.clockLost (s : State) (cause locks : Nat) : State :=
  let s1 := if s.power.pins.pwrEnMain then s.shutDown false else s
  let s2 := (((s1.setReg 0x2203 1 cause).setReg 0x2200 2 locks).setReg 0x3181 0 0).health 0 2 cause []
  { s2 with power := { s2.power with twclkLost := true } }

/-- TWCLK_LOSS (R68). -/
def execTwclkLoss (s : State) : Host.Outcome State Fault Refusal :=
  .next ((s.clockLost 1 0).setReg 0x2200 1 0)

/-- PLL_UNLOCK (R68, R69): PLL 1 CPLL_FE, 2 CPLL_TM, 3 SPLL_FE, 4 SPLL_TM, 5 HPLL. They run outside DORMANT. -/
def execPllUnlock (pll : Nat) (s : State) : Host.Outcome State Fault Refusal :=
  .next (if pll = 0 ∨ 5 < pll ∨ s.mode = .dormant then s
    else s.clockLost (if pll ≤ 2 then 2 else if pll ≤ 4 then 3 else 4) 1)

/-- TWCLK_RESTORED (R68): TWPLL and management port 0 are restarted; the port's link comes up by its own event. -/
def execTwclkRestored (s : State) : Host.Outcome State Fault Refusal :=
  .next (if !s.power.twclkLost then s
    else (({ s with power := { s.power with twclkLost := false } }).setReg 0x2200 1 1).setReg 0x2200 2 1)

/-! ### Adaptive voltage (R55, R56) -/

/-- The AVSBus master of rail 0 (VDD_FE) or 1 (VDD_TM). -/
def State.rail (s : State) (k : Nat) : AvsRail := if k = 0 then s.power.fe else s.power.tm
/-- The AVSBus master of a rail stored. -/
def State.setRail (s : State) (k : Nat) (r : AvsRail) : State :=
  if k = 0 then { s with power := { s.power with fe := r } } else { s with power := { s.power with tm := r } }

/-- A voltage write goes out. -/
def State.avsWrite (s : State) (k mv : Nat) : State :=
  let r := s.rail k
  (s.setRail k { r with writing := some mv, lastWrite := s.now }).emit (.avs k mv)

/-- AVS_EVALUATE (R55): the target is evaluated anew, and a new one is written in steps of at most 10 mV once the last has
settled or 100 µs have passed. -/
def execAvsEvaluate (rail target : Nat) (s : State) : Host.Outcome State Fault Refusal :=
  .next (let r := s.rail rail
         let now := s.reg 0x2300 (rail + 1)
         if 1 < rail ∨ s.mode = .dormant ∨ target < 650 ∨ 800 < target ∨ target % 5 ≠ 0 ∨ target = now ∨ s.reg 0x2300 6 = 1
            ∨ r.stopped ∨ r.writing.isSome ∨ (!r.settled ∧ s.now < r.lastWrite + 100000) then s
         else s.avsWrite rail (if target < now then max target (now - 10) else min target (now + 10)))

/-- AVS_WRITE_DONE (R55, R56): a write was acknowledged, with the voltage read after it, or failed. A write is tried three times
in all (log entry 17). -/
def execAvsWriteDone (rail : Nat) (ok : Bool) (read : Nat) (s : State) : Host.Outcome State Fault Refusal :=
  .next (if 1 < rail then s
    else match (s.rail rail).writing with
      | none => s
      | some mv =>
        let r := s.rail rail
        if ok then
          let near := decide (read ≤ mv + 10 ∧ mv ≤ read + 10)
          ((s.setRail rail { r with writing := none, retries := 0, settled := near }).setReg 0x2300 (rail + 1) mv).setReg 0x2300 (rail + 3)
            (read % 65536)
        else if r.retries + 1 < 3 then (s.setRail rail { r with retries := r.retries + 1 }).avsWrite rail mv
        else ((s.setRail rail { r with writing := none, retries := 0, stopped := true }).bump 0x2300 5).healthFree 0 5 (natBe rail 1))

/-! ### Warm restarts and the other resets -/

/-- WARMRESET_N_LOW (R90 to R92): ignored while PORESET_N is low, during a power-on start and in DORMANT. -/
def execWarmresetNLow (s : State) : Host.Outcome State Fault Refusal :=
  .next (let s0 := { s with power := { s.power with pins := { s.power.pins with warmresetN := false } } }
         if !s.power.pins.poresetN ∨ s.power.start ≠ .idle ∨ s.mode = .dormant then s0
         else s0.warmRestart 4 true)

/-- WARM_RESTART_DONE (R92, R506, R535): statistics are flushed and the stewards serve objects again; a bundle activated in
service begins its trial. -/
def execWarmRestartDone (s : State) : Host.Outcome State Fault Refusal :=
  .next (match s.power.warmSince with
    | none => s
    | some _ =>
      let s1 := s.flushAll.startStewards
      let pins := { s1.power.pins with warmresetN := true }
      let s2 := { s1 with power := { s1.power with pins := pins, warmSince := none } }
      let s3 := if s2.fw.restartDue then
          ({ s2 with fw := { s2.fw with restartDue := false, act := .done
                                        trial := some { warm := true, slot := s2.fw.runningSlot, since := some s2.now, healthy := true } } }).setReg
            0xE020 8 2
        else s2
      s3.refreshIdentity)

/-- RESET_REQUEST_WARM (R92, R95): the write is answered, and 1 ms later the restart begins. -/
def execResetRequestWarm (o : Origin) (s : State) : Host.Outcome State Fault Refusal :=
  .next (s.runWrite o 0x1010 1 [1] fun _ s =>
    if s.mode = .dormant then (.mode, s) else (.ok, (s.reach (s.now + 1000000)).warmRestart 5 false))

/-- RESET_REQUEST_COLD (R89, R95): the write is answered, and the device resets. -/
def execResetRequestCold (o : Origin) (s : State) : Host.Outcome State Fault Refusal :=
  .next (let allowed := decide (s.mode = .dormant) || decide (s.mode = .bringup) || decide (s.mode = .diagnostic)
         let s1 := s.runWrite o 0x1010 1 [2] fun _ s => (if allowed then .ok else .mode, s)
         if s.checkWrite o 0x1010 1 [2] = .ok ∧ allowed then s1.powerOnReset 2 else s1)

/-- TIDEWATCH_WATCHDOG_EXPIRY (R89). -/
def execTidewatchWatchdogExpiry (s : State) : Host.Outcome State Fault Refusal :=
  .next (if s.power.tidewatchUp then s.powerOnReset 3 else s)

/-- TRST_N_LOW (R89, R554): the TAP is reset, and IDCODE is its instruction (log entry 8). -/
def execTrstNLow (s : State) : Host.Outcome State Fault Refusal :=
  .next { s with
    power := { s.power with pins := { s.power.pins with trstN := false } }
    test := { s.test with tapLoaded := 0x01 } }

/-- ALWAYS_ON_RAIL_LOSS (R50): the device behaves as after a power-on reset; what the always-on SRAM kept is gone. -/
def execAlwaysOnRailLoss (s : State) : Host.Outcome State Fault Refusal :=
  .next (let s1 := s.powerOnReset 1
         { s1 with fw := { s1.fw with pendingFaults := [] } })

end Sys2Proof.Machine
end

