-- ==== Sys2Proof/Machine/Lookup.lean ====
section
/-! DEFINITION. Sys2Proof/Machine/Lookup.lean: hashing, visibility, exact-match and longest-prefix lookup, placement,
relocation, settling and the derived counts and filters of the table engine (R208 to R231). -/

namespace Sys2Proof.Machine

/-- KEY_BITS of a region (R211, R212). -/
def Region.keyBits (r : Region) : Nat := beAt r.params 0 2
/-- K, the key bytes (R210). -/
def Region.keyBytes (r : Region) : Nat := (r.keyBits + 7) / 8
/-- DATA_BYTES (R211, R212). -/
def Region.dataBytes (r : Region) : Nat := byteAt r.params 2
/-- ENTRY_SIZE DOUBLE of an exact-match region (R211). -/
def Region.double (r : Region) : Bool := r.em && decide (byteAt r.params 3 = 1)
/-- N, the buckets of the region (R211, R212). -/
def Region.buckets (r : Region) : Nat := beAt r.params 4 4
/-- SEED (R211, R212). -/
def Region.seed (r : Region) : Nat := beAt r.params 8 4
/-- AGE_MODE (R211): 0 NONE, 1 HIT_BIT, 2 TIMESTAMP. -/
def Region.ageMode (r : Region) : Nat := if r.em then byteAt r.params 12 else 0
/-- PORT_BYTE (R211). -/
def Region.portByte (r : Region) : Option Nat :=
  if r.em && decide (byteAt r.params 13 ≠ 0xFF) then some (byteAt r.params 13) else none
/-- FLAGS: byte 14 of an exact-match region (R211), byte 3 of an LPM region (R212). -/
def Region.flags (r : Region) : Nat := if r.em then byteAt r.params 14 else byteAt r.params 3
/-- FLUSH_ON_DOWN (R211). -/
def Region.flushOnDown (r : Region) : Bool := r.em && bitAt r.flags 0
/-- LEARN_ENABLE (R211). -/
def Region.learnEnable (r : Region) : Bool := r.em && bitAt r.flags 1
/-- USER_FLAGS (R211, R212). -/
def Region.userFlags (r : Region) : Bool := bitAt r.flags 2
/-- RELOC_DEPTH (R211); LPM regions use 3 (R228). -/
def Region.relocDepth (r : Region) : Nat := if r.em then byteAt r.params 15 else 3
/-- OVF_QUOTA (R211); an LPM region uses no overflow store. -/
def Region.ovfQuota (r : Region) : Nat := if r.em then beAt r.params 16 2 else 0
/-- AGE_TICK_MS (R211). -/
def Region.ageTick (r : Region) : Nat := beAt r.params 18 2
/-- FILTER_OFFSET (R212). -/
def Region.filterOffset (r : Region) : Nat := byteAt r.params 12
/-- FILTER_BITS (R212). -/
def Region.filterBits (r : Region) : Nat := byteAt r.params 13
/-- MAX_LENGTHS (R212). -/
def Region.maxLengths (r : Region) : Nat := byteAt r.params 14
/-- LENGTHS (R212), strictly descending. -/
def Region.lengths (r : Region) : List Nat :=
  if r.em then [] else (List.range (byteAt r.params 15)).map (fun k => byteAt r.params (16 + k))
/-- Filter entries that a region takes (R212). -/
def Region.filterEntries (r : Region) : Nat := if r.em then 0 else 2 ^ r.filterBits
/-- An entry takes two slots, or two units (R211, R212). -/
def Region.wide (r : Region) : Bool :=
  if r.em then r.double else decide (11 < r.keyBytes + r.dataBytes)
/-- Slots of a bucket in which an entry may start (R214, R215, R217). -/
def Region.starts (r : Region) : List Nat :=
  match r.em, r.wide with
  | true, false => [0, 1, 2, 3]
  | true, true => [0, 2]
  | false, false => [0, 1, 2, 3, 4, 5, 6, 7]
  | false, true => [0, 2, 4, 6]

/-- A key of `bits` bits left-aligned in its bytes, padding bits zero (R210). -/
def keyMasked (bs : List Byte) (bits : Nat) : List Byte :=
  let k := bs.length
  natBe ((beNat bs >>> (8 * k - bits)) <<< (8 * k - bits)) k

/-- SEED of a hash: of the region, and in an LPM region of the prefix length (R210). -/
def Region.hashSeed (r : Region) (len : Nat) : Nat :=
  if r.em then r.seed else r.seed ^^^ (len * 0x01010101 % 2 ^ 32)

/-- The primary bucket of a key (R210). -/
def Region.primary (r : Region) (len : Nat) (key : List Byte) : Nat :=
  r.base + ((crc32c (r.hashSeed len) key * r.buckets) >>> 32)

/-- The secondary bucket of a key (R210). -/
def Region.secondary (r : Region) (len : Nat) (key : List Byte) : Nat :=
  let p := r.primary len key
  let s := r.base + ((crc32c (r.hashSeed len ^^^ 0xFFFFFFFF) key * r.buckets) >>> 32)
  if s = p then r.base + ((p - r.base + 1) % r.buckets) else s

/-- Whether a packet of epoch e sees an entry (R222). -/
def Entry.visible (x : Entry) (e : Nat) : Bool :=
  match x.state with
  | .live => true
  | .born => decide (x.epoch = e)
  | .dying => decide (x.epoch ≠ e)

/-- An entry of this region with this length and key (R216, R219). -/
def Entry.holds (x : Entry) (region len : Nat) (key : List Byte) : Bool :=
  decide (x.region = region) && decide (x.len = len) && decide (x.key = key)

/-- The array of a region, and how many slots or units a bucket of it has. -/
def Tables.array (t : Tables) (r : Region) : List (Nat × Entry) := if r.em then t.em else t.lpm
/-- Slots or units of a bucket (R208). -/
def Region.width (r : Region) : Nat := if r.em then 4 else 8
/-- A place of a region's array. -/
def Region.place (r : Region) (n : Nat) : Place := if r.em then .em n else .lpm n

/-- The entry at a place. -/
def Tables.at (t : Tables) : Place → Option Entry
  | .em n => mget t.em n
  | .lpm n => mget t.lpm n
  | .ovf n => mget t.ovf n

/-- The tables with an entry written at a place. -/
def Tables.write (t : Tables) (p : Place) (x : Entry) : Tables :=
  match p with
  | .em n => { t with em := mput t.em n x }
  | .lpm n => { t with lpm := mput t.lpm n x }
  | .ovf n => { t with ovf := mput t.ovf n x }

/-- The tables with a place freed. -/
def Tables.free (t : Tables) (p : Place) : Tables :=
  match p with
  | .em n => { t with em := mdel t.em n }
  | .lpm n => { t with lpm := mdel t.lpm n }
  | .ovf n => { t with ovf := mdel t.ovf n }

/-- The visible entry with a key in one bucket, and its place. -/
def Tables.inBucket (t : Tables) (r : Region) (ri bucket e len : Nat) (key : List Byte) : Option (Place × Entry) :=
  (r.starts.filterMap fun s =>
    (mget (t.array r) (bucket * r.width + s)).bind fun x =>
      if x.holds ri len key && x.visible e then some (r.place (bucket * r.width + s), x) else none).head?

/-- The visible entry with a key in the overflow store, and its place. -/
def Tables.inOverflow (t : Tables) (ri e : Nat) (key : List Byte) : Option (Place × Entry) :=
  (t.ovf.filterMap fun (n, x) =>
    if x.holds ri 0 key && x.visible e then some (Place.ovf n, x) else none).head?

/-- SPILL of a bucket at epoch e (R214): entries whose primary is that bucket, visible in their secondary bucket. -/
def Tables.spill (t : Tables) (r : Region) (ri bucket e : Nat) : Nat :=
  ((t.array r).filter fun (_, x) =>
    decide (x.region = ri) && x.second && x.visible e && decide (r.primary x.len x.key = bucket)).length

/-- OVF of a bucket at epoch e (R214): entries whose primary is that bucket, visible in the overflow store. -/
def Tables.ovfCount (t : Tables) (r : Region) (ri bucket e : Nat) : Nat :=
  (t.ovf.filter fun (_, x) =>
    decide (x.region = ri) && x.visible e && decide (r.primary 0 x.key = bucket)).length

/-- What a lookup finds: the place and entry of a hit, whether it is the default, the accesses made, and whether the overflow
store was read (R216, R219). -/
structure Found where
  hit : Option (Place × Entry)
  dflt : Option (List Byte)
  accesses : Nat
  overflow : Bool
  deriving DecidableEq, Repr

/-- The EXACT lookup of R216. -/
def Tables.exact (t : Tables) (r : Region) (ri e : Nat) (key : List Byte) : Found :=
  let p := r.primary 0 key
  match t.inBucket r ri p e 0 key with
  | some h => { hit := some h, dflt := none, accesses := 1, overflow := false }
  | none =>
    let sp := decide (0 < t.spill r ri p e)
    let second := if sp then t.inBucket r ri (r.secondary 0 key) e 0 key else none
    let a := if sp then 2 else 1
    match second with
    | some h => { hit := some h, dflt := none, accesses := a, overflow := false }
    | none =>
      if 0 < t.ovfCount r ri p e then
        { hit := t.inOverflow ri e key, dflt := none, accesses := a + 1, overflow := true }
      else { hit := none, dflt := none, accesses := a, overflow := false }

/-- The filter index of a key (R218). -/
def Region.filterIndex (r : Region) (key : List Byte) : Nat :=
  if r.filterBits = 0 then 0 else bitsAt key r.filterOffset r.filterBits

/-- Whether a prefix covers a filter index (R218): the index bits within its first `len` bits agree. -/
def Region.covers (r : Region) (len : Nat) (key : List Byte) (idx : Nat) : Bool :=
  if r.filterBits = 0 then true
  else
    let known := min r.filterBits (len - r.filterOffset)
    decide (r.filterIndex key >>> (r.filterBits - known) = idx >>> (r.filterBits - known))

/-- Bit i of the filter bitmap of an index at epoch e (R218). -/
def Tables.filterBit (t : Tables) (r : Region) (ri e idx len : Nat) : Bool :=
  t.lpm.any fun (_, x) =>
    decide (x.region = ri) && decide (x.len = len) && x.visible e && r.covers len x.key idx

/-- The lengths that the filter entry of an index marks at epoch e, longest first (R218, R219). -/
def Tables.filterLengths (t : Tables) (r : Region) (ri e idx : Nat) : List Nat :=
  r.lengths.filter (t.filterBit r ri e idx)

/-- The probes of an LPM lookup, longest marked length first (R219). -/
def Tables.probe (t : Tables) (r : Region) (ri e : Nat) (key : List Byte) (acc : Nat) :
    List Nat → Option (Place × Entry) × Nat
  | [] => (none, acc)
  | l :: ls =>
    let k := keyMasked key l
    let p := r.primary l k
    match t.inBucket r ri p e l k with
    | some h => (some h, acc + 1)
    | none =>
      if 0 < t.spill r ri p e then
        match t.inBucket r ri (r.secondary l k) e l k with
        | some h => (some h, acc + 2)
        | none => t.probe r ri e key (acc + 2) ls
      else t.probe r ri e key (acc + 1) ls

/-- The LPM lookup of R219; `dflt` is LPM_DEFAULT of the epoch, empty for none. -/
def Tables.longest (t : Tables) (r : Region) (ri e : Nat) (key dflt : List Byte) : Found :=
  let (h, a) := t.probe r ri e key 0 (t.filterLengths r ri e (r.filterIndex key))
  match h with
  | some x => { hit := some x, dflt := none, accesses := a, overflow := false }
  | none => { hit := none, dflt := if dflt = [] then none else some dflt, accesses := a, overflow := false }

/-- The most accesses that an EXACT step may make (R220). -/
def Region.exactMax (r : Region) : Nat := if r.ovfQuota = 0 then 2 else 3
/-- The most accesses that an LPM step may make for a key at epoch e (R220). -/
def Tables.lpmMax (t : Tables) (r : Region) (ri e : Nat) (key : List Byte) : Nat :=
  min 16 (2 * (t.filterLengths r ri e (r.filterIndex key)).length)

/-- The 16-bit tick of LAST_HIT at a time in ns (R211). -/
def Region.tick (r : Region) (now : Nat) : Nat :=
  if r.ageTick = 0 then 0 else now / (r.ageTick * 1000000) % 65536

/-- A hit sets HIT and, in TIMESTAMP mode, LAST_HIT (R216). -/
def Tables.markHit (t : Tables) (r : Region) (p : Place) (now : Nat) : Tables :=
  match t.at p with
  | none => t
  | some x => t.write p { x with hit := true, lastHit := if r.ageMode = 2 then r.tick now else x.lastHit }

/-! ### Staging at epoch c + 1 (R221, R227, R228) -/

/-- The lowest free start in a bucket: a place that holds no entry, whatever its state (R227). -/
def Tables.freeStart (t : Tables) (r : Region) (bucket : Nat) : Option Nat :=
  (r.starts.map (fun s => bucket * r.width + s)).find? (fun n => (mget (t.array r) n).isNone)

/-- The other candidate bucket of an entry (R228). -/
def Region.otherBucket (r : Region) (x : Entry) : Nat :=
  if x.second then r.primary x.len x.key else r.secondary x.len x.key

/-- A move into an entry's secondary bucket needs room in SPILL of its primary (R214). -/
def Tables.canSpill (t : Tables) (r : Region) (ri e : Nat) (len : Nat) (key : List Byte) : Bool :=
  decide (t.spill r ri (r.primary len key) e < 255)

/-- One level of the search of R228: the frontier is a list of buckets with the moves that lead to them, deepest first. -/
def Tables.searchLevel (t : Tables) (r : Region) (ri e : Nat) :
    List (Nat × List Nat) → List (Nat × List Nat) → (List Nat × Nat) ⊕ List (Nat × List Nat)
  | [], next => .inr next.reverse
  | (bucket, moves) :: rest, next =>
    let cands := (r.starts.map (fun s => bucket * r.width + s)).filterMap fun n =>
      (mget (t.array r) n).bind fun x =>
        if x.visible e && !(moves.contains n) && (x.second || t.canSpill r ri e x.len x.key) then some (n, x) else none
    match cands.filterMap (fun (n, x) => (t.freeStart r (r.otherBucket x)).map fun f => (n :: moves, f)) with
    | hit :: _ => .inl hit
    | [] =>
      let more := cands.map fun (n, x) => (r.otherBucket x, n :: moves)
      t.searchLevel r ri e rest (more.reverse ++ next)

/-- The breadth-first search of a relocation path of at most `depth` moves (R228): the places to move, deepest first, and the
free place of the deepest. -/
def Tables.searchPath (t : Tables) (r : Region) (ri e : Nat) : Nat → List (Nat × List Nat) → Option (List Nat × Nat)
  | 0, _ => none
  | depth + 1, frontier =>
    match t.searchLevel r ri e frontier [] with
    | .inl hit => some hit
    | .inr next => t.searchPath r ri e depth next

/-- Whether an entry was staged by the commit in progress: no packet of CURRENT can see it (R228). -/
def Entry.staged (x : Entry) (c1 : Nat) : Bool := decide (x.state = .born) && decide (x.epoch = c1)

/-- One move of an entry to a free place (R228): a LIVE entry is copied BORN and marked DYING, a staged one moves at once. -/
def Tables.moveEntry (t : Tables) (r : Region) (c1 : Nat) (fromN toN : Nat) : Tables :=
  match mget (t.array r) fromN with
  | none => t
  | some x =>
    if x.staged c1 then (t.free (r.place fromN)).write (r.place toN) { x with second := !x.second }
    else
      (t.write (r.place fromN) { x with state := .dying, epoch := c1 }).write (r.place toN)
        { x with state := .born, epoch := c1, second := !x.second, hit := false }

/-- What placing an entry needs. -/
inductive Placement where
  /-- A place free now, and whether it lies in the secondary bucket. -/
  | at (p : Place) (second : Bool)
  /-- Moves of entries staged by the batch, deepest first with their targets; then the place they free. -/
  | after (moves : List (Nat × Nat)) (p : Place) (second : Bool)
  /-- A LIVE entry must first move by a layout commit (R229). -/
  | layout (fromN toN : Nat)
  | none
  deriving DecidableEq, Repr

/-- The moves of a path with their targets, deepest first. -/
def pathMoves : List Nat → Nat → List (Nat × Nat)
  | [], _ => []
  | n :: ns, target => (n, target) :: pathMoves ns n

/-- Where a new entry goes (R227), against the layout as staged for epoch c1. -/
def Tables.placeFor (t : Tables) (r : Region) (ri c1 len : Nat) (key : List Byte) : Placement :=
  let p := r.primary len key
  let s := r.secondary len key
  match t.freeStart r p with
  | some n => .at (r.place n) false
  | none =>
    match (if t.canSpill r ri c1 len key then t.freeStart r s else Option.none) with
    | some n => .at (r.place n) true
    | none =>
      match t.searchPath r ri c1 r.relocDepth [(p, []), (s, [])] with
      | some (path, target) =>
        let moves := pathMoves path target
        let top := path.getLastD 0
        let second := decide (top / r.width ≠ p)
        match moves.find? (fun (n, _) => match mget (t.array r) n with
            | some x => !(x.staged c1)
            | Option.none => false) with
        | some (n, m) => .layout n m
        | Option.none => .after moves (r.place top) second
      | Option.none =>
        let used := (t.ovf.filter fun (_, x) => decide (x.region = ri) && x.visible c1).length
        if used < r.ovfQuota ∧ t.ovfCount r ri p c1 < 255 then
          match lowestFree t.ovf 16384 with
          | some n => .at (.ovf n) false
          | Option.none => .none
        else .none

/-- The entry with a key that epoch e sees, wherever it stands. -/
def Tables.findKey (t : Tables) (r : Region) (ri e len : Nat) (key : List Byte) : Option (Place × Entry) :=
  match t.inBucket r ri (r.primary len key) e len key with
  | some h => some h
  | none =>
    match t.inBucket r ri (r.secondary len key) e len key with
    | some h => some h
    | none => if r.em then t.inOverflow ri e key else none

/-- An entry's removal at c1 (R221): a staged entry is freed at once, an older one is marked DYING. -/
def Tables.remove (t : Tables) (p : Place) (c1 : Nat) : Tables :=
  match t.at p with
  | none => t
  | some x => if x.staged c1 then t.free p else t.write p { x with state := .dying, epoch := c1 }

/-- The outcome of staging one insert. -/
inductive Staged where
  | ok (t : Tables)
  | layout (fromN toN : Nat)
  | full
  deriving DecidableEq, Repr

/-- An INSERT staged for c1 (R221, R226, R227). A key that c1 already holds is replaced. -/
def Tables.insert (t : Tables) (r : Region) (ri c1 len : Nat) (key data : List Byte) (static learned : Bool)
    (lastHit : Nat) : Staged :=
  let t0 := match t.findKey r ri c1 len key with
    | some (p, _) => t.remove p c1
    | none => t
  let x (second : Bool) : Entry :=
    { state := .born, epoch := c1, second := second, hit := false, aged := false, static := static, learned := learned,
      region := ri, len := len, key := key, data := data, lastHit := lastHit }
  match t0.placeFor r ri c1 len key with
  | .at p second => .ok (t0.write p (x second))
  | .after moves p second => .ok ((moves.foldl (fun t (m : Nat × Nat) => t.moveEntry r c1 m.1 m.2) t0).write p (x second))
  | .layout a b => .layout a b
  | .none => .full

/-- A DELETE staged for c1 (R226): an absent key changes nothing. -/
def Tables.delete (t : Tables) (r : Region) (ri c1 len : Nat) (key : List Byte) : Tables :=
  match t.findKey r ri c1 len key with
  | some (p, _) => t.remove p c1
  | none => t

/-- The entry of the same region that holds the same key and is not DYING, for the HIT of a settled entry (R223). -/
def Tables.heir (t : Tables) (x : Entry) : Option (Place × Entry) :=
  let pick (mk : Nat → Place) (m : List (Nat × Entry)) : List (Place × Entry) :=
    m.filterMap fun (n, y) =>
      if y.holds x.region x.len x.key && decide (y.state ≠ .dying) then some (mk n, y) else none
  (pick .em t.em ++ pick .lpm t.lpm ++ pick .ovf t.ovf).head?

/-- Step 2 of R223 for one DYING entry: its HIT and LAST_HIT pass to the entry that replaces it, and its place is freed. -/
def Tables.settleDying (t : Tables) (p : Place) (x : Entry) : Tables :=
  let t' := match t.heir x with
    | none => t
    | some (q, y) => t.write q { y with hit := y.hit || x.hit, lastHit := max y.lastHit x.lastHit }
  t'.free p

/-- Step 1 of R223: every BORN entry becomes LIVE with EPOCH zero. -/
def Entry.settleBorn (x : Entry) : Entry :=
  match x.state with
  | .born => { x with state := .live, epoch := 0 }
  | _ => x

/-- The settling of R223. -/
def Tables.settle (t : Tables) : Tables :=
  let dying : List (Place × Entry) :=
    (t.em.filterMap fun (n, x) => if x.state = .dying then some (Place.em n, x) else none)
    ++ (t.lpm.filterMap fun (n, x) => if x.state = .dying then some (Place.lpm n, x) else none)
    ++ (t.ovf.filterMap fun (n, x) => if x.state = .dying then some (Place.ovf n, x) else none)
  let t1 := { t with
    em := mmap t.em (fun _ x => x.settleBorn)
    lpm := mmap t.lpm (fun _ x => x.settleBorn)
    ovf := mmap t.ovf (fun _ x => x.settleBorn) }
  dying.foldl (fun t (d : Place × Entry) => t.settleDying d.1 d.2) t1

/-- The move back of R230 for one overflow position: to a free place of the entry's primary or secondary bucket. -/
def Tables.moveBack (t : Tables) (c1 n : Nat) : Option Tables :=
  (mget t.ovf n).bind fun x =>
    if !(x.visible c1) then none else
    (mget t.regions x.region).bind fun r =>
      let go (dest : Nat) (second : Bool) : Tables :=
        let moved := { x with second := second, state := EntryState.born, epoch := c1 }
        if x.staged c1 then (t.free (.ovf n)).write (r.place dest) moved
        else (t.write (.ovf n) { x with state := .dying, epoch := c1 }).write (r.place dest) { moved with hit := false }
      match t.freeStart r (r.primary 0 x.key) with
      | some d => some (go d false)
      | none =>
        if t.canSpill r x.region c1 0 x.key then (t.freeStart r (r.secondary 0 x.key)).map (go · true) else none

/-- Up to 64 overflow entries move back, in store order (R230). -/
def Tables.moveBackAll (t : Tables) (c1 : Nat) : Tables :=
  ((t.ovf.map (·.1)).foldl (fun (acc : Tables × Nat) n =>
    if acc.2 = 0 then acc
    else match acc.1.moveBack c1 n with
      | some t' => (t', acc.2 - 1)
      | none => acc) (t, 64)).1

/-- Whether some filter entry of an LPM region would mark more than MAX_LENGTHS lengths at c1 (R218). -/
def Tables.filterOverflows (t : Tables) (r : Region) (ri c1 : Nat) : Bool :=
  (List.range r.filterEntries).any (fun idx => decide (r.maxLengths < (t.filterLengths r ri c1 idx).length))

/-- Entries of a region that epoch e sees. -/
def Tables.visibleEntries (t : Tables) (ri e : Nat) : List (Place × Entry) :=
  let pick (mk : Nat → Place) (m : List (Nat × Entry)) : List (Place × Entry) :=
    m.filterMap fun (n, x) => if x.region = ri ∧ x.visible e then some (mk n, x) else none
  pick .em t.em ++ pick .lpm t.lpm ++ pick .ovf t.ovf

/-- Learned entries of a region that epoch e sees (R232). -/
def Tables.learnedCount (t : Tables) (ri e : Nat) : Nat :=
  ((t.visibleEntries ri e).filter (fun (_, x) => x.learned)).length

end Sys2Proof.Machine
end

