-- ==== Sys2Proof/Machine/Meters.lean ====
section
/-! DEFINITION. Sys2Proof/Machine/Meters.lean: the token-bucket algorithms of R313 and R314, and the checks of a meter's
parameters (R312). -/

namespace Sys2Proof.Machine

/-- MODE TRTCM (R312). -/
def Meter.trtcm (m : Meter) : Bool := decide (byteAt m.params 0 = 1)
/-- COLOUR_AWARE (R312). -/
def Meter.aware (m : Meter) : Bool := bitAt (byteAt m.params 1) 0
/-- ADD_20 (R312). -/
def Meter.add20 (m : Meter) : Bool := bitAt (byteAt m.params 1) 1
/-- CIR_KBPS (R312). -/
def Meter.cir (m : Meter) : Nat := beAt m.params 4 4
/-- PIR_KBPS (R312). -/
def Meter.pir (m : Meter) : Nat := beAt m.params 8 4
/-- CBS_BYTES with 16 fraction bits. -/
def Meter.cbs (m : Meter) : Nat := beAt m.params 12 4 * 65536
/-- EBS_BYTES or PBS_BYTES with 16 fraction bits. -/
def Meter.bs2 (m : Meter) : Nat := beAt m.params 16 4 * 65536

/-- Tokens of a rate in kb/s over an interval in ns, in bytes with 16 fraction bits (R314), rounded down (log entry 9). -/
def tokensOver (kbps dt : Nat) : Nat := kbps * dt * 65536 / 8000000

/-- The refill of R313 for the time since the last update. -/
def Meter.refill (m : Meter) (now : Nat) : Meter :=
  let dt := now - m.last
  let c := m.tc + tokensOver m.cir dt
  if m.trtcm then
    { m with tc := min c m.cbs, t2 := min (m.t2 + tokensOver m.pir dt) m.bs2, last := max now m.last }
  else
    { m with tc := min c m.cbs, t2 := min (m.t2 + (c - m.cbs)) m.bs2, last := max now m.last }

/-- The colouring of R313 for B bytes: 0 green, 1 yellow, 2 red. A pre-colour of 3 reads as red. -/
def Meter.colour (m : Meter) (preColour frameLength : Nat) : Meter × Nat :=
  let pre := if m.aware then min preColour 2 else 0
  let b := (frameLength + (if m.add20 then 20 else 0)) * 65536
  if m.trtcm then
    if pre = 2 ∨ m.t2 < b then (m, 2)
    else if pre = 1 ∨ m.tc < b then ({ m with t2 := m.t2 - b }, 1)
    else ({ m with t2 := m.t2 - b, tc := m.tc - b }, 0)
  else
    if pre = 0 ∧ b ≤ m.tc then ({ m with tc := m.tc - b }, 0)
    else if pre ≠ 2 ∧ b ≤ m.t2 then ({ m with t2 := m.t2 - b }, 1)
    else (m, 2)

/-- A meter with every bucket full (R312, R316). -/
def Meter.full (params : List Byte) (now : Nat) : Meter :=
  let m : Meter := { params := params, tc := 0, t2 := 0, last := now }
  { m with tc := m.cbs, t2 := m.bs2 }

/-- Whether the 32 bytes of R312 are in range. -/
def meterParamsOk (p : List Byte) : Bool :=
  let mode := byteAt p 0
  let cir := beAt p 4 4
  let pir := beAt p 8 4
  let bs2 := beAt p 16 4
  decide (p.length = 32) && decide (mode ≤ 1) && decide (byteAt p 1 < 4)
    && (decide (byteAt p 2 < 16) || decide (byteAt p 2 = 0xFF)) && decide (byteAt p 3 = 0)
    && decide (8 ≤ cir ∧ cir ≤ 1600000000)
    && (if mode = 1 then decide (cir ≤ pir ∧ pir ≤ 1600000000) else decide (pir = 0))
    && decide (64 ≤ beAt p 12 4 ∧ beAt p 12 4 ≤ 268435455)
    && decide ((if mode = 1 then 64 else 0) ≤ bs2 ∧ bs2 ≤ 268435455) && decide (beAt p 20 12 = 0)

end Sys2Proof.Machine
end

