-- ==== Sys2Proof/Machine/Tcam.lean ====
section
/-! DEFINITION. Sys2Proof/Machine/Tcam.lean: rule sets, rule visibility, pre-filters, the search of R254, range comparators
and the merge of actions (R246 to R269). -/

namespace Sys2Proof.Machine

/-- WIDTH of a rule set in bits (R248). -/
def RuleSet.width (s : RuleSet) : Nat :=
  match byteAt s.params 0 with
  | 0 => 160
  | 1 => 320
  | _ => 640
/-- BLOCKS (R248). -/
def RuleSet.blocks (s : RuleSet) : Nat := byteAt s.params 1
/-- Rows of a rule (R249). -/
def RuleSet.rowsPerRule (s : RuleSet) : Nat := s.width / 160
/-- Positions in one block (R249). -/
def RuleSet.perBlock (s : RuleSet) : Nat := 1024 / s.rowsPerRule
/-- Positions of the set (R249). -/
def RuleSet.capacity (s : RuleSet) : Nat := s.blocks * s.perBlock
/-- PF_OFFSET (R248). -/
def RuleSet.pfOffset (s : RuleSet) : Nat := beAt s.params 2 2
/-- PF_ENABLE (R248). -/
def RuleSet.pfEnable (s : RuleSet) : Bool := bitAt (byteAt s.params 4) 0
/-- First row of a position (R249). -/
def RuleSet.firstRow (s : RuleSet) (p : Nat) : Nat := 1024 * s.baseBlock + s.rowsPerRule * p

/-- Key of a position in the store of rules. -/
def ruleKey (set pos : Nat) : Nat := 65536 * set + pos

/-- V bit of the parity of an epoch (R252). -/
def Rule.vis (r : Rule) (e : Nat) : Bool := if e % 2 = 0 then r.vEven else r.vOdd
/-- Action word of the parity of an epoch (R252). -/
def Rule.action (r : Rule) (e : Nat) : List Byte := if e % 2 = 0 then r.actEven else r.actOdd
/-- V bit of the parity of an epoch written. -/
def Rule.setVis (r : Rule) (e : Nat) (v : Bool) : Rule := if e % 2 = 0 then { r with vEven := v } else { r with vOdd := v }
/-- Action word of the parity of an epoch written. -/
def Rule.setAction (r : Rule) (e : Nat) (a : List Byte) : Rule :=
  if e % 2 = 0 then { r with actEven := a } else { r with actOdd := a }

/-- Every key bit whose MASK bit is 1 equals the VALUE bit (R253). -/
def Rule.matches (r : Rule) (key : List Byte) : Bool :=
  decide (beNat key &&& beNat r.mask = beNat r.value &&& beNat r.mask)

/-- The rules of a set that epoch e sees, in position order: position and rule. -/
def Tables.visibleRules (t : Tables) (set e : Nat) : List (Nat × Rule) :=
  t.rules.filterMap fun (k, r) => if k / 65536 = set ∧ r.vis e then some (k % 65536, r) else none

/-- Those of one block. -/
def Tables.blockRules (t : Tables) (s : RuleSet) (set b e : Nat) : List (Nat × Rule) :=
  (t.visibleRules set e).filter (fun (p, _) => decide (p / s.perBlock = b))

/-- PF_MASK and PF_VALUE of a block for rules given (R255): the bits of the 16-bit field on which all of them are exact and
agree. -/
def prefilter (s : RuleSet) (rules : List Rule) : Nat × Nat :=
  match rules with
  | [] => (0, 0)
  | r0 :: _ =>
    let v0 := bitsAt r0.value s.pfOffset 16
    let agree := rules.foldl (fun acc r =>
      acc &&& bitsAt r.mask s.pfOffset 16 &&& (0xFFFF ^^^ (bitsAt r.value s.pfOffset 16 ^^^ v0))) 0xFFFF
    (agree, v0 &&& agree)

/-- What a search finds: the winning position and rule, the blocks enabled, and those that the pre-filter removed. -/
structure Search where
  best : Option (Nat × Rule)
  enabled : Nat
  skipped : Nat
  deriving DecidableEq, Repr

/-- The search of R254 for a key of the set's width. -/
def Tables.search (t : Tables) (s : RuleSet) (set e : Nat) (key : List Byte) : Search :=
  let pf := bitsAt key s.pfOffset 16
  (List.range s.blocks).foldl (fun acc b =>
    let rules := t.blockRules s set b e
    if rules.isEmpty then acc else
    let (m, v) := prefilter s (rules.map (·.2))
    if s.pfEnable && decide (pf &&& m ≠ v) then { acc with skipped := acc.skipped + 1 } else
    let won := match acc.best with
      | some w => some w
      | none => rules.find? (fun (_, r) => r.matches key)
    { acc with enabled := acc.enabled + 1, best := won }) { best := none, enabled := 0, skipped := 0 }

/-- Whether a block is ON (R247): some row of it is visible at a live epoch. -/
def Tables.blockOn (t : Tables) (s : RuleSet) (set b : Nat) : Bool :=
  t.rules.any fun (k, r) =>
    decide (k / 65536 = set) && decide (k % 65536 / s.perBlock = b) && (r.vEven || r.vOdd)

/-- The settling of R252: V bit and action word of CURRENT's parity are copied into the other; a rule that no live epoch sees
is gone. -/
def Tables.settleRules (t : Tables) (c : Nat) : Tables :=
  { t with rules := (t.rules.filter fun (_, r) => r.vis c).map fun (k, r) =>
      (k, (r.setVis (c + 1) true).setAction (c + 1) (r.action c)) }

/-- The first row header of a rule (R251). -/
def ruleHeader (s : RuleSet) (set : Nat) (r : Rule) : Nat :=
  (if r.vEven then 2 ^ 31 else 0) + (if r.vOdd then 2 ^ 30 else 0) + 2 ^ 29 + byteAt s.params 0 * 2 ^ 27 + set * 2 ^ 19

/-! ### Range comparators (R257, R258) -/

/-- Whether the bytes of a comparator pass the write checks of R257 and R4. -/
def comparatorOk (bs : List Byte) : Bool :=
  let v := beNat bs
  decide (bs.length = 8) && decide (fld v 44 32 = 0) && decide (fld v 31 16 ≤ fld v 15 0)
    && !(bitAt v 62 && decide (4080 < fld v 57 46))

/-- The result bit of one comparator over a frame, its layers and a record (R258). -/
def comparatorBit (bs frame record : List Byte) (slots : List (Nat × Nat)) : Bool :=
  let v := beNat bs
  let off := fld v 57 46
  let field : Option Nat :=
    if bitAt v 62 then some (bitsAt record off 16)
    else match slots.find? (fun e => decide (e.1 = fld v 61 58)) with
      | none => none
      | some (_, start) => if 8 * start + off + 16 ≤ 8 * frame.length then some (bitsAt frame (8 * start + off) 16) else none
  match field with
  | none => false
  | some x => bitAt v 63 && (decide (fld v 31 16 ≤ x ∧ x ≤ fld v 15 0) != bitAt v 45)

/-! ### Actions (R259 to R262) -/

/-- Whether an action word has no reserved bit set and no reserved colour (R259, R264). -/
def actionOk (a : List Byte) : Bool :=
  decide (byteAt a 0 &&& 0x78 = 0) && decide (byteAt a 1 &&& 0x08 = 0) && decide (byteAt a 2 &&& 0xFC = 0)
    && decide (byteAt a 2 ≠ 3) && decide (byteAt a 3 = 0) && (bitAt (byteAt a 0) 2 || decide (beAt a 4 4 = 0))

/-- The merge of a hit's action into the record (R261). -/
def mergeAction (record action : List Byte) : List Byte :=
  let fl := byteAt action 0
  let mf := byteAt record 272
  let lock := bitAt fl 7
  let cls := bitAt fl 0 && !bitAt mf 4
  let col := bitAt fl 1 && !bitAt mf 5
  let que := bitAt fl 2 && !bitAt mf 6
  let bits (b : Bool) (set lk : Nat) : Nat := if b then 2 ^ set + (if lock then 2 ^ lk else 0) else 0
  let mf' := mf ||| bits cls 0 4 ||| bits col 1 5 ||| bits que 2 6
  let r := patch record 272 (natBe mf' 1)
  let r := if cls then patch r 273 (natBe (byteAt action 1 % 8) 1) else r
  let r := if col then patch r 274 (natBe (byteAt action 2 % 4) 1) else r
  let r := if que then patch r 276 (slice action 4 4) else r
  let r := patch r 275 (natBe (byteAt r 275 ||| byteAt action 1 / 16) 1)
  patch r 280 (slice action 12 4)

/-- The classification that FORWARD with OPERAND[0] set applies to segment 0 (R262). -/
def applyClassification (record : List Byte) (egress : Bool) : List Byte :=
  let mf := byteAt record 272
  let r := if bitAt mf 2 && !egress then patch (patch record 8 (slice record 276 4)) 12 [1] else record
  let r := if bitAt mf 0 then patch r 13 (natBe (byteAt record 273 % 8) 1) else r
  if bitAt mf 1 then
    let c := byteAt record 14
    let merged := byteAt record 274 % 4
    let colour := if bitAt c 2 then max (c % 4) merged else merged
    patch r 14 (natBe (c / 4 * 4 + colour) 1)
  else r

end Sys2Proof.Machine
end

