-- ==== Sys2Proof/Machine/Sequencer.lean ====
section
/-! DEFINITION. Sys2Proof/Machine/Sequencer.lean: step entries and their checks, keys, engines, edits and the walk of a
program over a packet's record (R158 to R173, R184). -/

namespace Sys2Proof.Machine

/-- Index 0x3FF names no entry (R154). -/
def stepEnd : Nat := 0x3FF

/-- A branch of a step entry (R158). -/
structure Branch where
  mask : Nat
  value : Nat
  next : Nat
  deriving DecidableEq, Repr

/-- A step entry (R158). -/
structure StepEntry where
  kind : Nat
  profile : Nat
  target : Nat
  resOff : Nat
  resBytes : Nat
  operand : Nat
  branches : List Branch
  dfltNext : Nat
  imm : Nat
  deriving DecidableEq, Repr

/-- A 26-bit branch field (R158). -/
def decodeBranch (b : Nat) : Branch := { mask := fld b 25 18, value := fld b 17 10, next := fld b 9 0 }

/-- The fields of a step entry's 32 bytes (R158). -/
def decodeStep (bs : List Byte) : StepEntry :=
  let n := beNat bs
  { kind := fld n 255 250, profile := fld n 247 240, target := fld n 239 216, resOff := fld n 215 207,
    resBytes := fld n 206 200, operand := fld n 199 184,
    branches := [decodeBranch (fld n 183 158), decodeBranch (fld n 157 132), decodeBranch (fld n 131 106),
      decodeBranch (fld n 105 80)],
    dfltNext := fld n 79 70, imm := fld n 63 0 }

/-- The terminal kinds FORWARD, DROP, PUNT and RECIRC (R161). -/
def StepEntry.terminal (s : StepEntry) : Bool := decide (0x0D ≤ s.kind ∧ s.kind ≤ 0x10)

/-- Bytes of the record that are protected (R170). -/
def protectedByte (k : Nat) : Bool :=
  decide (k ≤ 7) || decide (20 ≤ k ∧ k ≤ 27) || decide (29 ≤ k ∧ k ≤ 31) || decide (40 ≤ k ∧ k ≤ 63)

/-- Whether a write of `len` record bytes from `off` covers a protected byte (R170). -/
def coversProtected (off len : Nat) : Bool := (List.range len).any (fun k => protectedByte (off + k))

/-- The record bytes that a kind reads from OPERAND[8:0] end within the record (R158). -/
def StepEntry.readsOk (s : StepEntry) : Bool :=
  let src := fld s.operand 8 0
  match s.kind with
  | 0x06 => decide (src + s.resBytes ≤ 512)
  | 0x07 => if fld s.target 23 20 = 10 then decide (src + s.resBytes ≤ 512) else true
  | 0x09 => if fld s.target 23 16 = 0x02 then decide (src + fld s.operand 15 10 + 1 ≤ 512) else true
  | _ => true

/-- The checks of a branch (R161). -/
def Branch.bad (b : Branch) (self : Nat) : Bool :=
  (decide (b.mask = 0) && decide (b.value ≠ 0)) || decide (b.value &&& b.mask ≠ b.value)
    || (decide (b.mask ≠ 0) && !(decide (b.next = stepEnd) || decide (self < b.next)))

/-- The kinds whose result goes to the record: EXACT, LPM, HASH, MOVE and STORE (R159, R162); the result of a LOAD is a register. -/
def StepEntry.writesRecord (s : StepEntry) : Bool :=
  decide (s.kind = 0x01) || decide (s.kind = 0x02) || decide (s.kind = 0x05) || decide (s.kind = 0x06)
    || (decide (s.kind = 0x07) && decide (fld s.target 23 20 = 11))

/-- Whether a step entry passes the checks at load and at BATCH_WRITE: R158, R159, R161 to R163, R170, R184, R256, R262. -/
def stepWriteOk (self : Nat) (bs : List Byte) : Bool :=
  let n := beNat bs
  let s := decodeStep bs
  let alu := fld s.target 23 20
  let edit := fld s.target 23 16
  let zeroTarget := decide (s.kind = 0x00 ∨ s.kind = 0x05 ∨ s.kind = 0x06 ∨ s.kind = 0x08 ∨ s.kind = 0x0B
    ∨ (0x0D ≤ s.kind ∧ s.kind ≤ 0x11))
  decide (bs.length = 32) && decide (s.kind ≤ 0x11) && decide (fld n 249 248 = 0) && decide (fld n 69 64 = 0)
    && decide (s.resBytes ≤ 64) && decide (s.resOff + s.resBytes ≤ 512) && s.readsOk
    && (!s.writesRecord || !(coversProtected s.resOff s.resBytes))
    && (!zeroTarget || decide (s.target = 0))
    && (decide (s.kind ≠ 0x05) || decide (s.resBytes = 4))
    && (decide (s.kind ≠ 0x03) || (decide (s.resOff = 0) && decide (s.resBytes = 0)))
    && (decide (s.kind ≠ 0x07) || (decide (alu ≤ 11) && decide (fld s.target 11 0 = 0)
          && (decide (alu < 10) || decide (1 ≤ s.resBytes ∧ s.resBytes ≤ 4))))
    && (decide (s.kind ≠ 0x09) || (decide (1 ≤ edit ∧ edit ≤ 7) && (decide (edit ≤ 2) || decide (fld s.target 11 0 = 0))
          && (decide (edit ≠ 1) || decide (fld s.operand 3 0 ≤ 7))))
    && (!(decide (s.kind = 0x0F) || decide (s.kind = 0x11)) ||
          (decide (1 ≤ fld s.operand 7 0 ∧ fld s.operand 7 0 ≤ 0x0F)
            || decide (0x40 ≤ fld s.operand 7 0 ∧ fld s.operand 7 0 ≤ 0x7F)))
    && (decide (s.kind ≠ 0x0D) || decide (fld s.operand 15 1 = 0))
    && (s.terminal || (!(s.branches.any (·.bad self)) && (decide (s.dfltNext = stepEnd) || decide (self < s.dfltNext))))

/-- A key selector (R165). -/
structure Selector where
  src : Nat
  layer : Nat
  bitOffset : Nat
  width : Nat
  deriving DecidableEq, Repr

/-- The eight selectors of a key profile (R165, R166). -/
def decodeProfile (bs : List Byte) : List Selector :=
  (List.range 8).map fun k =>
    let v := beAt bs (4 * k) 4
    { src := fld v 31 29, layer := fld v 28 25, bitOffset := fld v 24 13, width := fld v 12 4 + 1 }

/-- Bits of the key that a profile builds (R166). -/
def profileWidth (bs : List Byte) : Nat :=
  (((decodeProfile bs).filter (fun s => decide (s.src ≠ 0))).map (·.width)).foldl (· + ·) 0

/-- Whether a key profile passes its checks (R165, R166, R258). -/
def profileWriteOk (bs : List Byte) : Bool :=
  let sel := decodeProfile bs
  let used := sel.takeWhile (fun s => decide (s.src ≠ 0))
  decide (bs.length = 32) && sel.all (fun s => decide (s.src ≤ 4))
    && (List.range 8).all (fun k => decide (fld (beAt bs (4 * k) 4) 3 0 = 0))
    && (sel.drop used.length).all (fun s => decide (s.src = 0)) && decide (profileWidth bs ≤ 640)
    && sel.all (fun s => decide (s.src ≠ 3) || decide (s.bitOffset + s.width ≤ 256))

/-- What a pass reads and does not change: the frame as it stood at the start, its layers, the epoch and the range result
vector (R163, R167, R258). -/
structure PassCtx where
  frame : List Byte
  slots : List (Nat × Nat × Nat)
  headerEnd : Nat
  egress : Bool
  epoch : Nat
  ranges : List Byte
  now : Nat
  slice : Nat

/-- The program of an epoch: step entries of the direction, key profiles, edit templates, table defaults and limits. -/
structure Program where
  step : Nat → List Byte
  profile : Nat → List Byte
  template : Nat → List Byte
  lpmDefault : Nat → List Byte
  learnLimit : Nat → Nat
  sampleSeed : Nat

/-- The frame under edit (R163): the bytes at their places of the start of the pass, spans removed, and templates inserted. -/
structure EditBuf where
  bytes : List Byte
  gone : List (Nat × Nat)
  ins : List (Nat × List Byte)
  deriving DecidableEq, Repr

/-- The frame that leaves the pass (R163). -/
def EditBuf.render (b : EditBuf) : List Byte :=
  ((List.range (b.bytes.length + 1)).map fun i =>
    ((b.ins.filter (fun (p, _) => decide (p = i))).map (·.2)).flatten
      ++ (if i < b.bytes.length ∧ !(b.gone.any fun (lo, hi) => decide (lo ≤ i ∧ i < hi)) then [b.bytes.getD i 0] else [])).flatten

/-- A key as built: its bits right-aligned, its width, and whether a layer or its bits were missing (R166). -/
structure Key where
  val : Nat
  width : Nat
  absent : Bool
  deriving DecidableEq, Repr

/-- The bits of one selector (R165, R166). -/
def selectorBits (c : PassCtx) (record : List Byte) (s : Selector) : Nat × Bool :=
  match s.src with
  | 1 => (bitsAt record s.bitOffset s.width, false)
  | 2 =>
    match slotOf c.slots s.layer with
    | none => (0, true)
    | some (_, off) =>
      let b := 8 * off + s.bitOffset
      (bitsAt c.frame b s.width, decide (8 * c.frame.length < b + s.width))
  | 3 => (bitsAt c.ranges s.bitOffset s.width, false)
  | _ => (0, false)

/-- The key of a profile (R166): selectors in order, selector 0 most significant. -/
def buildKey (c : PassCtx) (record profile : List Byte) : Key :=
  ((decodeProfile profile).filter (fun s => decide (s.src ≠ 0))).foldl (fun k s =>
    let (v, a) := selectorBits c record s
    { val := k.val * 2 ^ s.width + v, width := k.width + s.width, absent := k.absent || a })
    { val := 0, width := 0, absent := false }

/-- A key left-aligned in `bits` bits and held in whole bytes, zeros at its least significant end (R166, R210). -/
def Key.bytesFor (k : Key) (bits : Nat) : List Byte :=
  let n := (bits + 7) / 8
  natBe (if k.width ≤ bits then k.val * 2 ^ (8 * n - k.width) else (k.val >>> (k.width - bits)) * 2 ^ (8 * n - bits)) n

/-- A record write (R168, R170): bit 0 of CARRY_MASK always reads 1. -/
def recWrite (rec : List Byte) (off : Nat) (bs : List Byte) : List Byte :=
  let r := patch rec off bs
  patch r 15 (natBe (byteAt r 15 ||| 1) 1)

/-- The sequencer's state in a pass. -/
structure Seq where
  record : List Byte
  buf : EditBuf
  steps : Nat
  accesses : Nat
  searches : Nat
  meterSteps : Nat
  copies : List (Nat × List Byte)
  tables : Tables
  meters : List (Nat × Meter)
  sets : List (Nat × CounterSet)
  /-- What COUNT steps add: counter set, and bytes of the packet (R503). -/
  adds : List (Nat × Nat)
  /-- A STEP record of each step made while TRACED was set: bytes 16 to 31 (R514). -/
  trail : List (List Byte)
  /-- Learn records offered, and V objects to count: index, sub-index, amount. -/
  offers : List LearnRec
  counts : List (Nat × Nat × Nat)

/-- Gk (R168). -/
def Seq.g (q : Seq) (k : Nat) : Nat := beAt q.record (320 + 4 * k) 4
/-- Gk written. -/
def Seq.setG (q : Seq) (k v : Nat) : Seq := { q with record := recWrite q.record (320 + 4 * k) (natBe v 4) }
/-- FRAME_LENGTH of segment 0 (R169). -/
def Seq.frameLength (q : Seq) : Nat := beAt q.record 6 2

/-- A result of RESULT_BYTES: data cut to that length or filled with zeros (R216). -/
def Seq.result (q : Seq) (s : StepEntry) (data : List Byte) : Seq :=
  { q with record := recWrite q.record s.resOff (slice data 0 s.resBytes) }

/-- F[7:4] of an entry with USER_FLAGS: bits [7:4] of DATA byte 0 (R216). -/
def entryUserFlags (r : Region) (data : List Byte) : Nat := if r.userFlags then byteAt data 0 / 16 * 16 else 0

/-- KEY_ABSENT as F3. -/
def Key.f3 (k : Key) : Nat := if k.absent then 8 else 0

/-- An EXACT step (R159, R216). -/
def stepExact (c : PassCtx) (p : Program) (q : Seq) (s : StepEntry) : Seq × Nat :=
  let k := buildKey c q.record (p.profile s.profile)
  match mget q.tables.regions s.target with
  | none => (q.result s [], k.f3)
  | some r =>
    let f := q.tables.exact r s.target c.epoch (k.bytesFor r.keyBits)
    let q := { q with accesses := q.accesses + f.accesses }
    let ov := if f.overflow then 2 else 0
    match f.hit with
    | none => (q.result s [], k.f3 + ov)
    | some (pl, x) =>
      ({ q with tables := q.tables.markHit r pl c.now }.result s x.data, 1 + ov + k.f3 + entryUserFlags r x.data)

/-- An LPM step (R159, R219). -/
def stepLpm (c : PassCtx) (p : Program) (q : Seq) (s : StepEntry) : Seq × Nat :=
  let k := buildKey c q.record (p.profile s.profile)
  match mget q.tables.regions s.target with
  | none => (q.result s [], k.f3)
  | some r =>
    let f := q.tables.longest r s.target c.epoch (k.bytesFor r.keyBits) (p.lpmDefault s.target)
    let q := { q with accesses := q.accesses + f.accesses }
    match f.hit, f.dflt with
    | some (pl, x), _ =>
      ({ q with tables := q.tables.markHit r pl c.now }.result s x.data, 1 + k.f3 + entryUserFlags r x.data)
    | none, some d => (q.result s d, 3 + k.f3 + entryUserFlags r d)
    | none, none => (q.result s [], k.f3)

/-- A TCAM step (R159, R254, R260, R261). -/
def stepTcam (c : PassCtx) (p : Program) (q : Seq) (s : StepEntry) : Seq × Nat :=
  let k := buildKey c q.record (p.profile s.profile)
  match mget q.tables.ruleSets s.target with
  | none => (q, k.f3)
  | some rs =>
    let f := q.tables.search rs s.target c.epoch (k.bytesFor rs.width)
    let n := q.searches
    let counts := q.counts ++ [(0x6000, 5, 1), (0x6000, 6, f.enabled), (0x6000, 7, f.skipped)]
    let word (hit row : Nat) := natBe (2 ^ 31 + hit * 2 ^ 30 + s.target * 2 ^ 18 + row) 4
    match f.best with
    | none =>
      let r := recWrite (recWrite q.record (256 + 4 * n) (word 0 0)) (264 + 4 * n) [0, 0, 0, 0]
      ({ q with record := r, searches := n + 1, counts := counts ++ [(0x6005, s.target, 1)] }, k.f3)
    | some (pos, rule) =>
      let a := rule.action c.epoch
      let r := recWrite (recWrite q.record (256 + 4 * n) (word 1 (rs.firstRow pos))) (264 + 4 * n) (slice a 8 4)
      ({ q with record := mergeAction r a, searches := n + 1, counts := counts ++ [(0x6004, s.target, 1)] },
        1 + k.f3 + byteAt a 1 / 16 * 16)

/-- A METER step (R159, R313, R315). -/
def stepMeter (c : PassCtx) (q : Seq) (s : StepEntry) : Seq × Nat :=
  let idx := if s.target / 16 = 0xF0000 then q.g (s.target % 16) else s.target
  let q := { q with meterSteps := q.meterSteps + 1 }
  match mget q.meters idx with
  | none => (q, 8)
  | some m =>
    let col := byteAt q.record 14
    let (m', colour) := (m.refill c.now).colour (col % 4) q.frameLength
    ({ q with meters := mput q.meters idx m', record := recWrite q.record 14 (natBe (col / 8 * 8 + 4 + colour) 1) },
      if colour = 1 then 2 else if colour = 2 then 4 else 0)

/-- A HASH step (R159, R164). -/
def stepHash (c : PassCtx) (p : Program) (q : Seq) (s : StepEntry) : Seq × Nat :=
  let k := buildKey c q.record (p.profile s.profile)
  (q.result s (natBe (crc32c (s.operand * 65537) (k.bytesFor k.width)) 4), k.f3)

/-- A MOVE step (R159). -/
def stepMove (q : Seq) (s : StepEntry) : Seq × Nat :=
  let bs := slice q.record (fld s.operand 8 0) s.resBytes
  (q.result s bs, if beNat bs = 0 then 0 else 1)

/-- Flags of an ALU result (R162). -/
def aluFlags (v : Nat) (carry : Bool) : Nat :=
  (if v = 0 then 1 else 0) + (if carry then 2 else 0) + (if 2 ^ 31 ≤ v then 4 else 0)

/-- An ALU step (R162). -/
def stepAlu (q : Seq) (s : StepEntry) : Seq × Nat :=
  let d := fld s.target 19 16
  let src := q.g (fld s.target 15 12)
  let imm := fld s.imm 31 0
  let sh := fld s.imm 4 0
  let w := 2 ^ 32
  let put (v : Nat) (carry : Bool) : Seq × Nat := (q.setG d (v % w), aluFlags (v % w) carry)
  match fld s.target 23 20 with
  | 0 => put imm false
  | 1 => put (src + imm) (decide (w ≤ src + imm))
  | 2 => put (src + w - imm) (decide (src < imm))
  | 3 => put (q.g d + src) (decide (w ≤ q.g d + src))
  | 4 => put (q.g d + w - src) (decide (q.g d < src))
  | 5 => put (src &&& imm) false
  | 6 => put (src ||| imm) false
  | 7 => put (src ^^^ imm) false
  | 8 => put (src <<< sh) false
  | 9 => put (src >>> sh) false
  | 10 => put (beAt q.record (fld s.operand 8 0) s.resBytes) false
  | _ => (q.result s (natBe src s.resBytes), aluFlags src false)

/-- A CHECK step (R159, R166). -/
def stepCheck (c : PassCtx) (p : Program) (q : Seq) (s : StepEntry) : Seq × Nat :=
  let k := buildKey c q.record (p.profile s.profile)
  let other := if bitAt s.operand 15 then q.g (fld s.operand 3 0) else s.imm
  (q, k.f3 + (if k.val = other then 1 else if k.val < other then 2 else 4))

/-- The working frame after an edit that PUSH or POP made: FRAME_LENGTH follows (R163). -/
def Seq.resized (q : Seq) (b : EditBuf) : Seq :=
  { q with buf := b, record := recWrite q.record 6 (natBe b.render.length 2) }

/-- Incremental update of an IPv4 header checksum for one 16-bit word changed (R163, RFC 1624: HC' = ~(~HC + ~m + m')). -/
def csumUpdate (hc m m' : Nat) : Nat :=
  let x := (0xFFFF - hc) + (0xFFFF - m) + m'
  let x := x % 65536 + x / 65536
  let x := x % 65536 + x / 65536
  0xFFFF - x

/-- DEC_HOP (R163). -/
def editDecHop (q : Seq) (off len : Nat) : Seq × Nat :=
  let nib := byteAt q.buf.bytes off / 16
  if nib = 4 ∧ 12 ≤ len then
    let ttl := byteAt q.buf.bytes (off + 8)
    if ttl = 0 then (q, 2) else
    let m := beAt q.buf.bytes (off + 8) 2
    let bs := patch q.buf.bytes (off + 8) (natBe (ttl - 1) 1)
    let bs := patch bs (off + 10) (natBe (csumUpdate (beAt q.buf.bytes (off + 10) 2) m (m - 256)) 2)
    ({ q with buf := { q.buf with bytes := bs } }, if ttl = 1 then 2 else 0)
  else if nib = 6 ∧ 8 ≤ len then
    let hop := byteAt q.buf.bytes (off + 7)
    if hop = 0 then (q, 2) else
    ({ q with buf := { q.buf with bytes := patch q.buf.bytes (off + 7) (natBe (hop - 1) 1) } }, if hop = 1 then 2 else 0)
  else (q, 4)

/-- CSUM4 (R163): the header checksum computed anew over IHL × 4 bytes. -/
def editCsum4 (q : Seq) (off len : Nat) : Seq × Nat :=
  let b0 := byteAt q.buf.bytes off
  let n := b0 % 16 * 4
  if b0 / 16 ≠ 4 ∨ n < 20 ∨ len < n then (q, 4) else
  let hdr := patch (slice q.buf.bytes off n) 10 [0, 0]
  ({ q with buf := { q.buf with bytes := patch q.buf.bytes (off + 10) (natBe (0xFFFF - onesSum hdr) 2) } }, 0)

/-- An EDIT step (R163). An edit not applied sets FAULT, F2. -/
def stepEdit (c : PassCtx) (p : Program) (q : Seq) (s : StepEntry) : Seq × Nat :=
  match layerSpan c.slots c.headerEnd (fld s.target 15 12) with
  | none => (q, 4)
  | some (off, stop) =>
    let len := stop - off
    let at0 := fld s.target 11 0
    let write (bs : List Byte) : Seq × Nat :=
      if len < at0 + bs.length then (q, 4)
      else ({ q with buf := { q.buf with bytes := patch q.buf.bytes (off + at0) bs } }, 0)
    match fld s.target 23 16 with
    | 0x01 => write (natBe s.imm (fld s.operand 3 0 + 1))
    | 0x02 => write (slice q.record (fld s.operand 8 0) (fld s.operand 15 10 + 1))
    | 0x03 => editDecHop q off len
    | 0x04 =>
      let t := p.template (fld s.operand 7 0)
      let b := { q.buf with ins := q.buf.ins ++ [(off, t)] }
      if t = [] ∨ c.frame.length + 128 < b.render.length then (q, 4) else (q.resized b, 0)
    | 0x05 =>
      match slotOf c.slots (fld s.operand 3 0) with
      | none => (q, 4)
      | some (_, off') =>
        if off' ≤ off then (q, 4) else (q.resized { q.buf with gone := q.buf.gone ++ [(off, off')] }, 0)
    | 0x06 => editCsum4 q off len
    | _ => if len < 8 then (q, 4) else ({ q with buf := { q.buf with bytes := patch q.buf.bytes (off + 6) [0, 0] } }, 0)

/-- A COUNT step (R159). -/
def stepCount (q : Seq) (s : StepEntry) : Seq × Nat :=
  match mget q.sets s.target with
  | none => (q, 0)
  | some _ => ({ q with adds := q.adds ++ [(s.target, q.frameLength)] }, 0)

/-- A SAMPLE step (R164). -/
def stepSample (c : PassCtx) (p : Program) (q : Seq) (s : StepEntry) : Seq × Nat :=
  let crc := crc32c p.sampleSeed (c.frame.take 128 ++ natBe c.epoch 2)
  if crc % 2 ^ fld s.operand 4 0 = 0 then
    ({ q with record := recWrite q.record 28 (natBe (byteAt q.record 28 ||| 1) 1) }, 1)
  else (q, 0)

/-- A LEARN step (R232). -/
def stepLearn (c : PassCtx) (p : Program) (q : Seq) (s : StepEntry) : Seq × Nat :=
  let k := buildKey c q.record (p.profile s.profile)
  let q := { q with accesses := q.accesses + 1 }
  match mget q.tables.regions s.target with
  | none => (q, 0)
  | some r =>
    if k.absent then (q, 8) else
    let key := k.bytesFor r.keyBits
    let data := slice q.record (fld s.operand 8 0) r.dataBytes
    let offer : Seq × Nat :=
      let lim := p.learnLimit s.target
      if lim = 0 ∨ q.tables.learnedCount s.target c.epoch < lim then
        let o : LearnRec := { region := s.target, key := key, data := data, slice := c.slice,
                              arrival := beAt q.record 20 8, epoch := c.epoch }
        ({ q with offers := q.offers ++ [o] }, 1)
      else (q, 5)
    match q.tables.inBucket r s.target (r.primary 0 key) c.epoch 0 key with
    | some (pl, x) => if x.static ∨ x.data = data then ({ q with tables := q.tables.markHit r pl c.now }, 0) else offer
    | none => offer

/-- A PUNT_COPY step (R159, R183). -/
def stepPuntCopy (q : Seq) (s : StepEntry) : Seq × Nat :=
  ({ q with copies := q.copies ++ [(fld s.operand 7 0, q.record)] }, 1)

/-- One non-terminal step. -/
def execStep (c : PassCtx) (p : Program) (q : Seq) (s : StepEntry) : Seq × Nat :=
  match s.kind with
  | 0x01 => stepExact c p q s
  | 0x02 => stepLpm c p q s
  | 0x03 => stepTcam c p q s
  | 0x04 => stepMeter c q s
  | 0x05 => stepHash c p q s
  | 0x06 => stepMove q s
  | 0x07 => stepAlu q s
  | 0x08 => stepCheck c p q s
  | 0x09 => stepEdit c p q s
  | 0x0A => stepCount q s
  | 0x0B => stepSample c p q s
  | 0x0C => stepLearn c p q s
  | 0x11 => stepPuntCopy q s
  | _ => (q, 0)

/-- The punt that a step would draw by exceeding a budget (R171, R220). -/
def budgetPunt (c : PassCtx) (p : Program) (q : Seq) (s : StepEntry) : Option Nat :=
  let most : Nat := match s.kind, mget q.tables.regions s.target with
    | 0x01, some r => r.exactMax
    | 0x02, some r => q.tables.lpmMax r s.target c.epoch ((buildKey c q.record (p.profile s.profile)).bytesFor r.keyBits)
    | 0x0C, _ => 1
    | _, _ => 0
  if 32 < q.steps + 1 then some 0x0E
  else if 16 < q.accesses + most then some 0x0F
  else if s.kind = 0x03 ∧ 2 ≤ q.searches then some 0x0F
  else if s.kind = 0x04 ∧ 2 ≤ q.meterSteps then some 0x0F
  else if s.kind = 0x11 ∧ 1 ≤ q.copies.length then some 0x0E
  else none

/-- The next step (R161). -/
def StepEntry.next (s : StepEntry) (f : Nat) : Nat :=
  match s.branches.find? (fun b => decide (b.mask ≠ 0) && decide (f &&& b.mask = b.value)) with
  | some b => b.next
  | none => s.dfltNext

/-- The end that a terminal step gives (R157, R159, R173). -/
def terminalEnd (q : Seq) (s : StepEntry) (egress : Bool) : Seq × PassEnd :=
  match s.kind with
  | 0x0D => (if bitAt s.operand 0 then { q with record := applyClassification q.record egress } else q, .forward)
  | 0x0E => (q, .drop (fld s.operand 7 0))
  | 0x0F => (q, .punt (fld s.operand 7 0))
  | _ => (q, if fld (byteAt q.record 2) 7 6 = 3 then .punt 0x0A else .recirc)

/-- The sequencer's work of a pass (R161, R171): 32 steps at most, so the fuel of 33 is never what stops it. -/
def runProgram (c : PassCtx) (p : Program) : Nat → Nat → Seq → Seq × PassEnd
  | 0, _, q => (q, .punt 0x0E)
  | fuel + 1, step, q =>
    if step = stepEnd then (q, .forward) else
    let s := decodeStep (p.step step)
    match budgetPunt c p q s with
    | some reason => (q, .punt reason)
    | none =>
      let q := { q with steps := q.steps + 1 }
      if s.terminal then terminalEnd q s c.egress
      else
        let (q', f) := execStep c p q s
        let next := s.next f
        let mark := natBe step 2 ++ natBe s.kind 1 ++ natBe f 1 ++ natBe next 2 ++ natBe q'.steps 1 ++ natBe q'.accesses 1
          ++ slice (slice q'.record s.resOff s.resBytes) 0 8
        let q' := if bitAt (byteAt q.record 28) 1 then { q' with trail := q'.trail ++ [mark] } else q'
        runProgram c p fuel next q'

end Sys2Proof.Machine
end

