-- ==== Sys2Proof/Machine/Queues.lean ====
section
/-! DEFINITION. Sys2Proof/Machine/Queues.lean: the meanings of the commands of Breakwater, replication, queues, multicast groups and
port flushes (R271, R274, R286 to R297). -/

namespace Sys2Proof.Machine

/-! ### Verdicts -/

/-- A packet that entries received before a turn still govern (R386 step 5). -/
def State.governed (s : State) (w : Waiting) : Bool :=
  w.copy.isNone && !w.fromFabric && s.pair.entries.any fun e =>
    e.own.any fun f => decide (some f.source = w.source) && decide (f.ordinal = w.packet.ordinal)

/-- The packet or copy judged next: round robin over the 33 sources, the oldest of the source (R271). -/
def State.nextWaiting (s : State) (n : Nat) : Option Waiting :=
  let t := s.tmSlice n
  let free := t.waiting.filter fun w => !s.waitsForBlock w && !s.governed w
  (List.range 33).findSome? fun k => free.find? fun w => decide (w.src = (t.nextSrc + k) % 33)

/-- BREAKWATER_VERDICT (R271, R272, R274): the Breakwater of slice n judges one waiting packet or copy; on a standby it applies what
the active's stream has decided. -/
def execBreakwaterVerdict (n : Nat) (s : State) : Host.Outcome State Fault Refusal :=
  .next (if 16 ≤ n then s
    else
      let follows := decide (s.mode = .shadow) || (decide (s.mode = .catchup) && decide (s.pair.phase = .trial))
      let s1 : State := if follows ∨ s.pair.turned then s.standbyVerdicts n else s
      if follows then s1
      else match s1.nextWaiting n with
        | none => s1
        | some w =>
          let t := s1.tmSlice n
          let s2 := s1.setTmSlice n { t with nextSrc := (w.src + 1) % 33 }
          let (cause, s3) := s2.judge n w .full false
          if w.copy.isNone ∧ !w.fromFabric then
            s3.decideEntry w.source w.packet.ordinal (decide (cause = 0)) (verdictColour w.packet.record)
          else s3)

/-- The engine begins the next packet of its queues, taking its member list as it stands (R293, R294). -/
def State.beginReplication (s : State) (n : Nat) : State :=
  let t := s.tmSlice n
  let begun := (t.replFe.head?).any (·.members.isSome) || (t.replFabric.head?).any (·.members.isSome)
  if begun then s
  else
    let fe := if t.replTurn then !t.replFe.isEmpty else t.replFabric.isEmpty && !t.replFe.isEmpty
    match (if fe then t.replFe else t.replFabric) with
    | [] => s
    | x :: rest =>
      let ms := mgetD [] s.tm.groups x.group
      let x1 := { x with members := some ms }
      let s1 := s.setTmSlice n (if fe then { t with replFe := x1 :: rest, replTurn := false } else { t with replFabric := x1 :: rest, replTurn := true })
      if !s1.activeInPair ∨ ms.isEmpty then s1
      else
        let w : Waiting := { src := 2 * n, packet := x.packet, fromFabric := !fe, copy := none }
        let (fabric, src, unit, pos) := match x.packet.source with
          | .fabric u c q => (true, c, u, q)
          | _ => (false, w.source.getD 0, 0, s1.entryPosition (w.source.getD 0) x.packet.ordinal)
        let o : OpenCopies := { stored := x.id, fabric := fabric, source := src, unit := unit, position := pos, members := ms
                                verdicts := List.replicate ms.length none }
        { s1 with pair := { s1.pair with openCopies := s1.pair.openCopies ++ [o] } }

/-- REPLICATE_COPY (R294, R295): the engine of slice n makes one copy, in member order. -/
def execReplicateCopy (n : Nat) (s : State) : Host.Outcome State Fault Refusal :=
  .next (if 16 ≤ n then s
    else
      let s1 := s.beginReplication n
      let t := s1.tmSlice n
      let fe := (t.replFe.head?).any (·.members.isSome)
      match (if fe then t.replFe else t.replFabric) with
      | [] => s1
      | x :: rest =>
        let put (l : List Repl) : State := s1.setTmSlice n (if fe then { t with replFe := l } else { t with replFabric := l })
        let close (s : State) : State :=
          match mget s.tm.stored x.id with
          | none => s
          | some m =>
            if m.copies = 0 then ({ s with tm := { s.tm with stored := mdel s.tm.stored x.id } }).giveBack m.cells 1
            else { s with tm := { s.tm with stored := mput s.tm.stored x.id { m with making := false } } }
        match x.members with
        | none => s1
        | some [] => close (put rest)
        | some (h :: more) =>
          let s2 := if more.isEmpty then put rest else put ({ x with members := some more } :: rest)
          let m := mgetD { cells := x.cells, copies := 0, making := true } s2.tm.stored x.id
          let s3 := { s2 with tm := { s2.tm with stored := mput s2.tm.stored x.id { m with copies := m.copies + 1 } } }
          let owner := (((s3.queueOf h).bind (mget s3.tm.queues ·)).map Queue.owner).getD n
          let o := s3.tmSlice owner
          let s4 := s3.setTmSlice owner { o with
            waiting := o.waiting ++ [{ src := 32, packet := x.packet, fromFabric := !fe, copy := some (h, x.id) }] }
          if more.isEmpty then close s4 else s4)

/-! ### Queues as channels (R288 to R290) -/

/-- Bytes 6 to 23 of the create layout: the limits of a queue, with the FLAGS allowed (R286). -/
def limitsGood (l : List Byte) (flags : Nat) : Bool :=
  decide (l.length = 18) && decide (byteAt l 0 < 8) && decide (-6 ≤ toSigned 8 (byteAt l 1) ∧ toSigned 8 (byteAt l 1) ≤ 3)
    && decide (1 ≤ beAt l 6 4 ∧ beAt l 6 4 ≤ 370278400 ∧ beAt l 2 4 ≤ beAt l 6 4)
    && decide (byteAt l 10 < 64 ∧ byteAt l 11 < 64 ∧ byteAt l 12 < 64) && decide (byteAt l 13 ≤ flags)
    && decide (32 ≤ beAt l 14 2) && decide (beAt l 16 2 = 0)

/-- QUEUE_SET (R288). -/
def queueSetEffect (c : List Byte) (s : State) : Status × State :=
  let op := byteAt c 0
  let h := beAt c 4 4
  let hs := s.checkHandle 1 h
  if c.length < 8 then (.range, s)
  else if hs ≠ .ok then (hs, s)
  else if beAt c 1 3 ≠ 0 ∨ c.length ≠ (if op = 4 then 26 else 8) ∨ !([1, 2, 4].contains op) then (.range, s)
  else
    let i := handleIndex h
    match mget s.tm.queues i with
    | none => (.staleHandle, s)
    | some q =>
      let flushing := !q.voq && decide (s.portCond q.port = 2)
      match op with
      | 1 => if q.admin = .destroying ∨ flushing then (.busy, s) else (.ok, s.setQueue i { q with admin := .enabled })
      | 2 => if q.admin = .destroying then (.busy, s) else (.ok, s.setQueue i { q with admin := .disabled })
      | _ =>
        let l := c.drop 8
        if !limitsGood l 3 then (.range, s)
        else if byteAt l 0 ≠ q.pool ∧ 0 < q.depth then (.busy, s)
        else if s.reg 0x7000 8 < s.committedRes - q.res + beAt l 2 4 then (.noResource, s)
        else
          let s1 := s.setQueue i { q with params := q.params.take 6 ++ l ++ q.params.drop 24 }
          (.ok, State.startReadback 4 (s1.abandonSpills i) i)

/-- ENABLE (R288). -/
def execEnable (o : Origin) (h : Nat) (s : State) : Host.Outcome State Fault Refusal :=
  .next (s.runWrite o 0x7402 1 ([1, 0, 0, 0] ++ natBe h 4) queueSetEffect)

/-- DISABLE (R288). -/
def execDisable (o : Origin) (h : Nat) (s : State) : Host.Outcome State Fault Refusal :=
  .next (s.runWrite o 0x7402 1 ([2, 0, 0, 0] ++ natBe h 4) queueSetEffect)

/-- SET_LIMITS (R288). -/
def execSetLimits (o : Origin) (h : Nat) (limits : List Byte) (s : State) : Host.Outcome State Fault Refusal :=
  .next (s.runWrite o 0x7402 1 ([4, 0, 0, 0] ++ natBe h 4 ++ limits) queueSetEffect)

/-- QUEUE_RESULT of a queue (R290). -/
def State.queueResult (s : State) (q : Queue) : List Byte :=
  let admin := match q.admin with | .enabled => 0 | .disabled => 1 | .destroying => 2
  let inHbm := q.packets.any fun h => match h.location with | .hbm _ => true | .reading _ => true | _ => false
  let segs := (q.packets.filterMap fun h => match h.location with | .hbm g => some g | .reading g => some g | _ => none).eraseDups.length
  let ondie := ((q.packets.filter Held.onDie).map (·.cells)).foldl (· + ·) 0
  natBe 0 1 ++ natBe admin 1 ++ natBe (if q.voq then 3 else s.portCond q.port) 1
    ++ natBe ((if inHbm then 1 else 0) + (if q.reading.isEmpty then 0 else 2)) 1 ++ slice q.params 0 32
    ++ natBe q.depth 4 ++ natBe q.packets.length 4 ++ natBe q.depthBytes 8 ++ natBe ondie 4 ++ natBe segs 4 ++ natBe (q.avg / 256) 4
    ++ natBe q.admitted 8 ++ natBe q.refused 8 ++ natBe q.ended 8

/-- QUEUE_QUERY (R290). -/
def queueAnswer (c : List Byte) (s : State) : Status × List Byte × State :=
  let h := beAt c 4 4
  if c.length ≠ 8 then (.range, [], s)
  else match s.checkHandle 1 h with
    | .ok => match mget s.tm.queues (handleIndex h) with
      | some q => if byteAt c 0 ≠ 1 ∨ beAt c 1 3 ≠ 0 then (.range, [], s) else (.ok, s.queueResult q, s)
      | none => (.ok, natBe Status.staleHandle.code 1 ++ List.replicate 87 0, s)
    | st => (.ok, natBe st.code 1 ++ List.replicate 87 0, s)

/-- QUEUE_QUERY (R290). -/
def execQueueQuery (o : Origin) (v : List Byte) (s : State) : Host.Outcome State Fault Refusal :=
  .next (s.runQuery o 0x7402 2 0x7402 3 v queueAnswer)

/-- The steps of a queue's destruction that begin it: check 4 refuses, and its packets are discarded, counted and announced
(R289, R364). -/
def State.beginDestroy (s : State) (i : Nat) (job : Option Nat) : State :=
  match mget s.tm.queues i with
  | none => s
  | some q =>
    let s1 := s.setQueue i { q with admin := .destroying, destroyer := job }
    let (s2, n) := s1.endPackets i fun _ => true
    let s3 := s2.count 0x7050 5 n
    if q.voq ∧ s3.activeInPair then
      let k := ctxKey (q.dest % 4096) q.cls
      let v := (s3.sendCtx k).nextSeq
      (s3.sendQueueEnd q.dest q.cls 0 v).1.setPairCtx k { s3.pairCtx k with baseSeq := v, count := 0, lost := [], foreign := [] }
    else s3

/-- A queue is gone: its reservation is returned and its generation goes up (R289). -/
def State.removeQueue (s : State) (i : Nat) : State :=
  let s1 := s.leaveRound 4 (.queue i)
  ({ s1 with
      tm := { s1.tm with queues := mdel s1.tm.queues i }
      stats := { s1.stats with queues := mdel s1.stats.queues i, queueDeltas := mdel s1.stats.queueDeltas i } }).nextGen 1 i

/-! ### Multicast groups (R293, R297) -/

/-- Handles of a list. -/
def handlesOf : Nat → List Byte → List Nat
  | 0, _ => []
  | n + 1, bs => beAt bs 0 4 :: handlesOf n (bs.drop 4)

/-- Member entries in use. -/
def State.memberCount (s : State) : Nat := (s.tm.groups.map fun (_, l) => l.length).foldl (· + ·) 0

/-- MCAST_SET (R293). -/
def mcastSetEffect (c : List Byte) (s : State) : Status × State :=
  let g := beAt c 0 2
  let n := byteAt c 2
  let hs := handlesOf n (c.drop 4)
  if c.length < 4 ∨ c.length ≠ 4 + 4 * n then (.range, s)
  else match hs.findSome? (fun h => if s.checkHandle 1 h = Status.ok then none else some (s.checkHandle 1 h)) with
    | some st => (st, s)
    | none =>
      if 64 < n ∨ byteAt c 3 ≠ 0 ∨ !(decide hs.Nodup) then (.range, s)
      else if 524288 < s.memberCount - (mgetD [] s.tm.groups g).length + n then (.noResource, s)
      else (.ok, { s with tm := { s.tm with groups := mset [] s.tm.groups g hs } })

/-- MCAST_SET (R293). -/
def execMcastSet (o : Origin) (v : List Byte) (s : State) : Host.Outcome State Fault Refusal :=
  .next (s.runWrite o 0x7601 1 v mcastSetEffect)

/-- MCAST_QUERY (R297): STATUS, COUNT, two reserved bytes, the handles. -/
def mcastAnswer (c : List Byte) (s : State) : Status × List Byte × State :=
  if c.length ≠ 2 then (.range, [], s)
  else
    let hs := mgetD [] s.tm.groups (beAt c 0 2)
    (.ok, natBe 0 1 ++ natBe hs.length 1 ++ [0, 0] ++ (hs.map fun h => natBe h 4).flatten, s)

/-- MCAST_QUERY (R297). -/
def execMcastQuery (o : Origin) (v : List Byte) (s : State) : Host.Outcome State Fault Refusal :=
  .next (s.runQuery o 0x7601 2 0x7601 3 v mcastAnswer)

/-! ### Flushes (R291, R292) -/

/-- No packet of a port is in an egress lane or on its way there. -/
def State.egressClear (s : State) (p : Nat) : Bool :=
  let mine (r : List Byte) : Bool := decide (byteAt r 5 % 128 = p)
  s.slices.all fun (_, x) => x.egress.all (fun y => !mine y.packet.record) && x.egressQ.all (fun y => !mine y.record)

/-- FLUSH_DONE (R292, R511): no packet of the port remains. -/
def execFlushDone (p : Nat) (s : State) : Host.Outcome State Fault Refusal :=
  .next (if 128 ≤ p ∨ s.reg 0x7043 p ≠ 1 ∨ !s.egressClear p then s
    else
      let s1 := (s.setReg 0x7043 p 0).setReg 0x7044 p s.ptp
      (if s1.reg 0x3003 p = 4 then s1.setReg 0x3003 p 5 else s1).raiseEvent 1 p (s.port p).flushed)

end Sys2Proof.Machine
end

