-- ==== Sys2Proof/Machine/Scheduler.lean ====
section
/-! DEFINITION. Sys2Proof/Machine/Scheduler.lean: the meanings of the commands that make queues, nodes and meters and set how they are
served, and the release decision (R286, R287, R298 to R316). -/

namespace Sys2Proof.Machine

/-! ### Creation -/

/-- The attachment of a new queue or node (R302, R309): the defaults, with a full bucket. -/
def Attach.new (level0 : Bool) (now : Nat) : Attach :=
  { priority := if level0 then 0 else 4, gate := 0, lenAdjust := if level0 then 20 else 0, quantum := if level0 then 0 else 2048, rate := 0
    burst := 16384, deficit := 0, fresh := false, tokens := 16384 * 65536, last := now, releasedPackets := 0, releasedBytes := 0 }

/-- The lowest index of a span that no channel of a kind uses. -/
def freeIndex {α : Type} (m : List (Nat × α)) (lo n : Nat) : Option Nat :=
  ((List.range (min n (m.length + 1))).map (lo + ·)).find? fun k => (mget m k).isNone

/-- The slice that owns the fewest queues, the lower number winning a tie (R287). -/
def State.fewestQueues (s : State) : Nat :=
  let count (n : Nat) : Nat := (s.tm.queues.filter fun (_, q) => decide (q.owner = n)).length
  (List.range 16).foldl (fun b n => if count n < count b then n else b) 0

/-- QUEUE_CREATE (R286, R287, R354). -/
def createQueue (v : List Byte) (s : State) : Except Status (Nat × State) :=
  let voq := decide (byteAt v 0 = 0)
  let port := byteAt v 2
  let hs := s.checkHandle 5 (beAt v 24 4)
  if v.length ≠ 32 then .error .range
  else if byteAt v 0 = 1 ∧ hs ≠ .ok then .error hs
  else
    let own := byteAt v 1
    let place : Bool :=
      if voq then
        (decide (own < 16) || decide (own = 0xFF)) && decide (port = 0) && decide (byteAt v 3 < 8) && decide (beAt v 4 2 < 0xFFF)
          && decide (beAt v 4 2 ≠ s.reg 0x8000 1) && decide (beAt v 24 4 = 0)
      else
        decide (byteAt v 0 = 1) && decide (port < 128) && (decide (own = 0xFF) || decide (own = s.reg 0x3001 port)) && decide (byteAt v 3 = 0)
          && decide (beAt v 4 2 = 0) && (mget s.tm.nodes (handleIndex (beAt v 24 4))).any (fun n => decide (n.port = port))
    let shares := s.pairEnabled && voq && s.tm.queues.any fun (_, q) => q.voq && decide (q.dest = beAt v 4 2) && decide (q.cls = byteAt v 3)
    if !place ∨ !limitsGood (slice v 6 18) 7 ∨ beAt v 28 4 ≠ 0 ∨ shares then .error .range
    else match freeIndex s.tm.queues 0 524288 with
      | none => .error .noResource
      | some i =>
        if s.reg 0x7000 8 < s.committedRes + beAt v 8 4 then .error .noResource
        else
          let slice := if own ≠ 0xFF then own else if voq then s.fewestQueues else s.reg 0x3001 port
          let flags := byteAt v 19
          let params := patch v 1 (natBe slice 1)
          let q : Queue := { params := params, admin := if bitAt flags 2 then .disabled else .enabled, packets := [], avg := 0, emptySince := s.now
                             emptyApplied := 0, admitted := 0, refused := 0, ended := 0, att := Attach.new false s.now, destroyer := none }
          .ok (s.handle 1 i, (s.setQueue i q).clearQueueStats i)

/-- QUEUE_CREATE (R287). -/
def execQueueCreate (o : Origin) (v : List Byte) (s : State) : Host.Outcome State Fault Refusal :=
  .next (State.endCreate o 0x7401 v (s.runCreate o 0x7401 v createQueue))

/-- The level-0 node of a port. -/
def State.portNode (s : State) (p : Nat) : Option Nat :=
  s.tm.nodes.findSome? fun (i, n) => if n.level = 0 ∧ n.port = p then some i else none

/-- NODE_CREATE (R299, R300). -/
def createNode (v : List Byte) (s : State) : Except Status (Nat × State) :=
  let level := byteAt v 0
  let hs := s.checkHandle 5 (beAt v 4 4)
  if v.length ≠ 16 then .error .range
  else if (level = 1 ∨ level = 2) ∧ hs ≠ .ok then .error hs
  else
    let parent := mget s.tm.nodes (handleIndex (beAt v 4 4))
    let port := if level = 0 then byteAt v 1 else (parent.map SchedNode.port).getD 0
    let slice := s.reg 0x3001 port
    let good : Bool := decide (level < 3) && decide (beAt v 2 2 = 0) && decide (beAt v 8 8 = 0) && decide (slice < 16) &&
      (if level = 0 then decide (port < 128) && decide (beAt v 4 4 = 0) && (s.portNode port).isNone
       else decide (byteAt v 1 = 0) && parent.any (fun p => decide (p.level < level)))
    if !good then .error .range
    else match freeIndex (s.tm.nodes.filter fun (i, _) => decide (i / 8192 = slice)) (8192 * slice) 8192 with
      | none => .error .noResource
      | some i =>
        let n : SchedNode := { level := level, port := port, parent := if level = 0 then none else some (handleIndex (beAt v 4 4))
                               att := Attach.new (decide (level = 0)) s.now, round := [] }
        let s1 := s.setNode i n
        .ok (s.handle 5 i, if level = 0 then s1.setReg 0x7803 port (s.handle 5 i) else s1)

/-- NODE_CREATE (R300). -/
def execNodeCreate (o : Origin) (v : List Byte) (s : State) : Host.Outcome State Fault Refusal :=
  .next (State.endCreate o 0x7801 v (s.runCreate o 0x7801 v createNode))

/-! ### Service by the parent (R302, R307 to R309, R324) -/

/-- The child that a TARGET names, if it is an egress queue or a node (R302). -/
def State.targetOf (s : State) (h : Nat) : Except Status Child :=
  match handleKind h with
  | 1 => match s.checkHandle 1 h with
    | .ok => if (mget s.tm.queues (handleIndex h)).any (fun q => !q.voq) then .ok (.queue (handleIndex h)) else .error .range
    | st => .error st
  | 5 => match s.checkHandle 5 h with
    | .ok => .ok (.node (handleIndex h))
    | st => .error st
  | _ => match s.checkAnyHandle h with
    | .ok => .error .range
    | st => .error st

/-- Tokens of a shaper at a time, in 2^-16 bytes (R307, R308; rounded down, log entry 9). An unshaped target is never refilled. -/
def Attach.tokensAt (a : Attach) (now : Nat) : Int :=
  if a.rate = 0 then a.tokens
  else min ((a.burst * 65536 : Nat) : Int) (a.tokens + ((a.rate * 125 * 65536 * (now - a.last) / 1000000000 : Nat) : Int))

/-- A shaper holds more than zero tokens (R307). -/
def Attach.open (a : Attach) (now : Nat) : Bool := decide (a.rate = 0) || decide (0 < a.tokensAt now)

/-- SCHED_SET (R302): a changed PRIORITY moves a backlogged child to the tail of its new list (R305). -/
def schedSetEffect (c : List Byte) (s : State) : Status × State :=
  if c.length ≠ 24 then (.range, s)
  else match s.targetOf (beAt c 0 4) with
    | .error st => (st, s)
    | .ok ch =>
      let level0 := match ch with | .node i => (mget s.tm.nodes i).any (fun n => decide (n.level = 0)) | .queue _ => false
      let isQueue := match ch with | .queue _ => true | _ => false
      let adj := toSigned 8 (byteAt c 6)
      let rate := beAt c 12 4
      let good : Bool := decide (byteAt c 4 < 8) && decide (byteAt c 5 < 8) && decide (byteAt c 7 = 0) && decide (beAt c 20 4 = 0)
        && (!level0 || decide (byteAt c 4 = 0)) && (isQueue || decide (byteAt c 5 = 0))
        && (if level0 then decide (-64 ≤ adj ∧ adj ≤ 63) else decide (adj = 0))
        && (if level0 then decide (beAt c 8 4 = 0) else decide (64 ≤ beAt c 8 4 ∧ beAt c 8 4 ≤ 1048575))
        && (decide (rate = 0) || decide (64 ≤ rate ∧ rate ≤ 1600000000)) && decide (2048 ≤ beAt c 16 4 ∧ beAt c 16 4 ≤ 16777215)
      if !good then (.range, s)
      else
        let moved := (s.attach ch).any fun a => decide (a.priority ≠ byteAt c 4)
        let s1 := s.setAttach ch fun a => { a with
          priority := byteAt c 4, gate := byteAt c 5, lenAdjust := adj, quantum := beAt c 8 4, rate := rate, burst := beAt c 16 4
          tokens := min ((beAt c 16 4 * 65536 : Nat) : Int) (a.tokensAt s.now), last := s.now }
        let s2 := match (if moved then s1.parentOf ch else none) with
          | none => s1
          | some p => match mget s1.tm.nodes p with
            | none => s1
            | some n => if n.round.contains ch then s1.setNode p { n with round := n.round.filter (· ≠ ch) ++ [ch] } else s1
        (.ok, s2)

/-- SCHED_SET (R302). -/
def execSchedSet (o : Origin) (v : List Byte) (s : State) : Host.Outcome State Fault Refusal :=
  .next (s.runWrite o 0x7802 1 v schedSetEffect)

/-- A child is backlogged (R305). -/
def State.backlogged (s : State) : Child → Bool
  | .queue i => (mget s.tm.queues i).any fun q => !q.packets.isEmpty
  | .node i => (mget s.tm.nodes i).any fun n => !n.round.isEmpty

/-- SCHED_QUERY (R324). -/
def schedAnswer (c : List Byte) (s : State) : Status × List Byte × State :=
  if c.length ≠ 4 then (.range, [], s)
  else match s.targetOf (beAt c 0 4) with
    | .error st => (.ok, natBe st.code 1 ++ List.replicate 55 0, s)
    | .ok ch => match s.attach ch with
      | none => (.ok, natBe Status.staleHandle.code 1 ++ List.replicate 55 0, s)
      | some a =>
        let t : Int := a.tokensAt s.now / 65536
        (.ok, natBe 0 1 ++ natBe (if s.backlogged ch then 1 else 0) 1 ++ [0, 0] ++ slice c 0 4 ++ natBe a.priority 1 ++ natBe a.gate 1
          ++ natBe (a.lenAdjust % 256).toNat 1 ++ [0] ++ natBe a.quantum 4 ++ natBe a.rate 4 ++ natBe a.burst 4 ++ [0, 0, 0, 0]
          ++ natBe a.deficit 4 ++ natBe (t % 2 ^ 64).toNat 8 ++ natBe a.releasedPackets 8 ++ natBe a.releasedBytes 8, s)

/-- SCHED_QUERY (R324). -/
def execSchedQuery (o : Origin) (v : List Byte) (s : State) : Host.Outcome State Fault Refusal :=
  .next (s.runQuery o 0x7802 2 0x7802 3 v schedAnswer)

/-! ### Meters (R312, R316) -/

/-- Free meters homed on a slice. -/
def State.metersFree (s : State) (n : Nat) : Nat := 65536 - (s.meters.filter fun (i, _) => decide (i / 65536 = n)).length

/-- METER_CREATE (R312). -/
def createMeter (v : List Byte) (s : State) : Except Status (Nat × State) :=
  if !meterParamsOk v then .error .range
  else
    let home := if byteAt v 2 = 0xFF then (List.range 16).foldl (fun b n => if s.metersFree b < s.metersFree n then n else b) 0 else byteAt v 2
    match freeIndex (s.meters.filter fun (i, _) => decide (i / 65536 = home)) (65536 * home) 65536 with
    | none => .error .noResource
    | some i => .ok (s.handle 3 i, { s with meters := mput s.meters i (Meter.full (patch v 2 (natBe home 1)) s.now) })

/-- METER_CREATE (R312). -/
def execMeterCreate (o : Origin) (v : List Byte) (s : State) : Host.Outcome State Fault Refusal :=
  .next (State.endCreate o 0x7C01 v (s.runCreate o 0x7C01 v createMeter))

/-- METER_SET (R316). -/
def meterSetEffect (c : List Byte) (s : State) : Status × State :=
  let h := beAt c 0 4
  let p := c.drop 4
  if c.length ≠ 36 then (.range, s)
  else if s.checkHandle 3 h ≠ .ok then (s.checkHandle 3 h, s)
  else if !meterParamsOk p ∨ byteAt p 2 ≠ 0 then (.range, s)
  else match mget s.meters (handleIndex h) with
    | none => (.staleHandle, s)
    | some m =>
      let p1 := patch p 2 (slice m.params 2 1)
      let m0 := m.refill s.now
      let m1 : Meter := if byteAt m.params 0 ≠ byteAt p 0 then Meter.full p1 s.now
        else { m0 with params := p1, tc := Nat.min m0.tc (beAt p 12 4 * 65536), t2 := Nat.min m0.t2 (beAt p 16 4 * 65536) }
      (.ok, { s with meters := mput s.meters (handleIndex h) m1 })

/-- METER_SET (R316). -/
def execMeterSet (o : Origin) (v : List Byte) (s : State) : Host.Outcome State Fault Refusal :=
  .next (s.runWrite o 0x7C02 1 v meterSetEffect)

/-- METER_QUERY (R316): the levels are those at the last update. -/
def meterAnswer (c : List Byte) (s : State) : Status × List Byte × State :=
  let h := beAt c 0 4
  if c.length ≠ 4 then (.range, [], s)
  else match s.checkHandle 3 h, mget s.meters (handleIndex h) with
    | .ok, some m =>
      (.ok, [0, 0, 0, 0] ++ slice m.params 0 32 ++ natBe (m.tc / 65536) 4 ++ natBe (m.t2 / 65536) 4 ++ natBe m.last 8, s)
    | st, _ => (.ok, natBe st.code 1 ++ List.replicate 51 0, s)

/-- METER_QUERY (R316). -/
def execMeterQuery (o : Origin) (v : List Byte) (s : State) : Host.Outcome State Fault Refusal :=
  .next (s.runQuery o 0x7C02 2 0x7C02 3 v meterAnswer)

/-! ### The release decision (R303 to R306) -/

/-- The gate list bound to a port (R317). -/
def State.listOf (s : State) (p : Nat) : Option Nat := (List.range 32).find? fun k => decide (s.reg 0x7E01 k = p)

/-- Bytes in a holding queue. -/
def Mac.held (m : Mac) (g : Nat) : Nat := ((m.holding.filter fun x => decide (x.1 = g)).map (·.2.frame.length)).foldl (· + ·) 0

/-- The charged length of a frame on a port (R303). -/
def State.chargedLen (s : State) (port len : Nat) : Nat :=
  let adj := ((s.portNode port).bind (mget s.tm.nodes ·)).elim (20 : Int) fun n => n.att.lenAdjust
  Nat.max 1 ((len : Int) + adj).toNat

/-- A queue is eligible (R304). -/
def State.queueEligible (s : State) (i : Nat) : Bool :=
  (mget s.tm.queues i).any fun q =>
    !q.voq && q.head.isSome && decide (q.admin ≠ .destroying) && decide (s.portCond q.port = 0) && q.att.open s.now
      && ((s.listOf q.port).isNone || decide ((s.mac q.port).held q.att.gate < 32768))

/-- A child is eligible (R304); trees have three levels of nodes. -/
def State.eligible : Nat → State → Child → Bool
  | _, s, .queue i => s.queueEligible i
  | 0, _, .node _ => false
  | fuel + 1, s, .node i => (mget s.tm.nodes i).any fun n => n.att.open s.now && n.round.any (fun c => State.eligible fuel s c)

/-- The loop of R305 at a node: `give` is what a child would give (a queue and its charged length) with the state that its own choice
leaves. -/
def drrLoop (give : State → Child → Option (Nat × Nat × State)) (ok : State → Child → Bool) : Nat → State → Nat → Option (Nat × Nat × State)
  | 0, _, _ => none
  | fuel + 1, s, k =>
    match mget s.tm.nodes k with
    | none => none
    | some n =>
      let cs := n.round.filter (ok s)
      let prio (c : Child) : Nat := ((s.attach c).map (·.priority)).getD 8
      let band := (cs.map prio).foldl Nat.min 8
      match cs.find? (fun c => decide (prio c = band)) with
      | none => none
      | some c =>
        match give s c, s.attach c with
        | some (q, len, s'), some a =>
          let d := a.deficit + (if a.fresh then a.quantum else 0)
          if len ≤ d then some (q, len, s'.setAttach c fun x => { x with deficit := d - len, fresh := false })
          else
            let s1 := s.setAttach c fun x => { x with deficit := d, fresh := true }
            drrLoop give ok fuel (s1.setNode k { n with round := n.round.filter (· ≠ c) ++ [c] }) k
        | _, _ => none

/-- What a child would give (R305). Each visit adds a quantum of at least 64 bytes, so a packet is given within 256 rounds. -/
def State.choose : Nat → State → Child → Option (Nat × Nat × State)
  | _, s, .queue i => match mget s.tm.queues i with
    | none => none
    | some q => q.head.map fun h => (i, s.chargedLen q.port h.frame.length, s)
  | 0, _, .node _ => none
  | fuel + 1, s, .node k =>
    drrLoop (State.choose fuel) (State.eligible fuel) (256 * (((mget s.tm.nodes k).map fun n => n.round.length).getD 0 + 1)) s k

/-- The window of a port's FIFO (R304). -/
def State.fifoWindow (s : State) (p : Nat) : Nat := Nat.max (modeRate (s.reg 0x3000 p) * 125) (2 * (s.reg 0x3004 p + 20))

/-- What a level-0 node gives now, with its FIFO's room (R304). -/
def State.rootGives (s : State) (p : Nat) : Option (Nat × Nat × State) :=
  match s.portNode p with
  | none => none
  | some k =>
    if !State.eligible 3 s (.node k) then none
    else (State.choose 3 s (.node k)).filter fun r =>
      (s.listOf p).isSome || decide ((s.mac p).charged + r.2.1 ≤ s.fifoWindow p)

/-- A release charges the shapers of a queue and of the nodes above it (R307), and counts there. -/
def State.chargePath : Nat → State → Child → Nat → Nat → State
  | 0, s, _, _, _ => s
  | fuel + 1, s, c, len, bytes =>
    let s1 := s.setAttach c fun a => { a with
      tokens := if a.rate = 0 then a.tokens else a.tokensAt s.now - ((len * 65536 : Nat) : Int), last := s.now
      releasedPackets := (a.releasedPackets + 1) % 2 ^ 64, releasedBytes := (a.releasedBytes + bytes) % 2 ^ 64 }
    match s1.parentOf c with
    | none => s1
    | some p => State.chargePath fuel s1 (.node p) len bytes

/-- A packet released to the egress lane (R156): segment 0 with OUT_PORT, QUEUE_DELAY_NS and QUEUE_DEPTH. -/
def egressPacket (h : Held) (queue port gate charged delay depth : Nat) : Packet :=
  let r := patch (patch (slice h.record 0 64 ++ List.replicate 448 0) 5 (natBe (128 + port) 1)) 40 (natBe delay 4 ++ natBe depth 4)
  { frame := h.frame, record := r, source := .tm queue, inject := none, ordinal := 0, traceId := h.traceId
    custody := some { queue := queue, cells := h.ownCells, charged := charged, gate := gate, stored := h.stored } }

/-- SCHED_DECISION (R306): the slice serves its eligible roots in round robin by port number. A choice for a sleeping slice wakes it. -/
def execSchedDecision (n : Nat) (s : State) : Host.Outcome State Fault Refusal :=
  .next (if 16 ≤ n then s
    else
      let t := s.tmSlice n
      let ports := ((List.range 128).map fun k => (t.nextPort + k) % 128).filter fun p => decide (s.reg 0x3001 p = n)
      match ports.findSome? (fun p => (s.rootGives p).map fun r => (p, r)) with
      | none => s
      | some (p, q, len, s1) =>
        let k := s.sliceAt n
        if k.feAsleep ∨ k.tmAsleep then
          s.setSlice n { k with wakeReq := if k.wakeReq.isNone then some s.now else k.wakeReq }
        else match s1.release q with
          | none => s
          | some (h, delay, depth, s2) =>
            let gate := ((mget s.tm.queues q).map fun x => x.att.gate).getD 0
            let s3 := State.chargePath 4 s2 (.queue q) len h.frame.length
            let m := s3.mac p
            let s4 := s3.setMac p { m with charged := m.charged + len }
            let x := s4.sliceAt n
            let s5 := s4.setSlice n { x with egressQ := x.egressQ ++ [egressPacket h q p gate len delay depth] }
            s5.setTmSlice n { s5.tmSlice n with nextPort := (p + 1) % 128 })

end Sys2Proof.Machine
end

