-- ==== Sys2Proof/Machine/Windows.lean ====
section
/-! DEFINITION. Sys2Proof/Machine/Windows.lean: the meanings of the commands of gate lists, the transmit side of the MAC and the
watch list (R317 to R323, R422, R428). -/

namespace Sys2Proof.Machine

/-! ### Gate lists (R317 to R319) -/

/-- WINDOW_ADMIN (R318, R319). -/
def windowAdminEffect (k : Nat) (c : List Byte) (s : State) : Status × State :=
  if !gateListGood c then (.range, s)
  else
    let s1 := s.setOct 0x7E02 k c
    (.ok, if s1.reg 0x7E05 k = 1 then s1.pendList k else s1)

/-- WINDOW_ADMIN (R318): its last segment arrives. -/
def execWindowAdmin (o : Origin) (k : Nat) (v : List Byte) (s : State) : Host.Outcome State Fault Refusal :=
  .next (s.runBlob o 0x7E02 k v (windowAdminEffect k))

/-- WINDOW_ENABLE (R319). -/
def windowEnableEffect (k : Nat) (c : List Byte) (s : State) : Status × State :=
  let v := beNat c
  if v = 0 then (.ok, (s.setReg 0x7E05 k 0).setGateList k .reset)
  else if s.reg 0x7E05 k = 1 then (.ok, s)
  else (.ok, (s.setReg 0x7E05 k 1).pendList k)

/-- WINDOW_ENABLE (R319). -/
def execWindowEnable (o : Origin) (k : Nat) (v : List Byte) (s : State) : Host.Outcome State Fault Refusal :=
  .next (s.runWrite o 0x7E05 k v (windowEnableEffect k))

/-- WINDOW_PORT (R317): the frames that the MAC of a port holds keep their order as its queues change form. -/
def windowPortEffect (k : Nat) (c : List Byte) (s : State) : Status × State :=
  let p := beNat c
  if (128 ≤ p ∧ p ≠ 0xFF) ∨ (p ≠ 0xFF ∧ (List.range 32).any fun j => decide (j ≠ k) && decide (s.reg 0x7E01 j = p)) then (.range, s)
  else if s.reg 0x7E05 k = 1 then (.busy, s)
  else
    let old := s.reg 0x7E01 k
    let s1 := s.setReg 0x7E01 k p
    let m := s1.mac old
    let s2 : State := if old < 128 ∧ old ≠ p then
        s1.setMac old { m with fifo := m.sending.toList ++ m.holding.map (·.2) ++ m.fifo, holding := [], sending := none, heldGates := [] } else s1
    let m2 := s2.mac p
    (.ok, if p < 128 ∧ old ≠ p then
        s2.setMac p { m2 with fifo := [], holding := m2.fifo.map fun x => ((x.custody.map (·.gate)).getD 0, x) } else s2)

/-- WINDOW_PORT (R317). -/
def execWindowPort (o : Origin) (k : Nat) (v : List Byte) (s : State) : Host.Outcome State Fault Refusal :=
  .next (s.runWrite o 0x7E01 k v (windowPortEffect k))

/-- Where a list stands `off` ns into its cycle: its entries from there on, the first with what is left of it. -/
def entriesFrom : Nat → List (Nat × Nat) → List (Nat × Nat)
  | _, [] => []
  | off, (g, d) :: rest => if off < d then (g, d - off) :: rest else entriesFrom (off - d) rest

/-- Gate states of a list at a time. -/
def gatesAt (b : List Byte) (start now : Nat) : Nat :=
  match entriesFrom ((now - start) % Nat.max 1 (cycleOf b)) (gateEntries b) with
  | (g, _) :: _ => g
  | [] => 0xFF

/-- How long gate g stays open from the start of a list of entries; none when it is open in all of them. -/
def openRun (g : Nat) : List (Nat × Nat) → Option Nat
  | [] => none
  | (st, d) :: rest => if bitAt st g then (openRun g rest).map (d + ·) else some 0

/-- close(g, t) − t of R320 for a list alone: none when the gate never closes. -/
def closesIn (b : List Byte) (start now g : Nat) : Option Nat :=
  let es := gateEntries b
  openRun g (entriesFrom ((now - start) % Nat.max 1 (cycleOf b)) es ++ es)

/-- close(g, t) − t under the operational list and a pending change (R320). -/
def GateList.closes (x : GateList) (now g : Nat) : Option Nat :=
  let r := match x.oper with
    | some (b, t) => closesIn b t now g
    | none => none
  match x.pending with
  | none => r
  | some (b, t) =>
    let toChange := t - now
    if r.any (fun d => decide (d < toChange)) then r
    else (openRun g (gateEntries b)).map (toChange + ·)

/-- Gate g is open now (R319): with no list in force every gate is open. -/
def GateList.isOpen (x : GateList) (now g : Nat) : Bool :=
  match x.oper with
  | some (b, t) => bitAt (gatesAt b t now) g
  | none => true

/-- The longest window of a gate in a list (R321): none for a gate open in every entry. -/
def longestWindow (b : List Byte) (g : Nat) : Option Nat :=
  let es := gateEntries b
  if es.all (fun e => bitAt e.1 g) then none
  else
    let runs := (es ++ es).foldl (fun (best, cur) e => if bitAt e.1 g then (Nat.max best (cur + e.2), cur + e.2) else (best, 0)) (0, 0)
    some runs.1

/-- Transmit time of a frame on a port in ps (R320). -/
def State.txPs (s : State) (p len : Nat) : Nat := (len + 20) * 8000 / Nat.max 1 (modeRate (s.reg 0x3000 p))

/-- Head frames that no window of their gate can take are dropped: a deliberate end of the second kind, counted, and raised as an
event (R321). -/
def State.dropOversize : Nat → State → Nat → Nat → State
  | 0, s, _, _ => s
  | fuel + 1, s, k, p =>
    match (s.gateList k).oper with
    | none => s
    | some (b, _) =>
      let m := s.mac p
      let heads := (List.range 8).filterMap fun g => (m.holding.find? fun x => decide (x.1 = g))
      match heads.find? (fun x => (longestWindow b x.1).any fun d => decide (1000 * d < s.txPs p x.2.frame.length)) with
      | none => s
      | some x =>
        let s1 := s.setMac p { m with holding := m.holding.erase x, heldGates := m.heldGates.filter (· ≠ x.1) }
        State.dropOversize fuel (((s1.endReleased p x.2.custody).bump 0x7E06 k).raiseEvent 2 (k * 256 + p) x.2.frame.length) k p

/-- Every oversize head frame of a list's port is dropped. -/
def State.dropAllOversize (s : State) (k : Nat) : State :=
  let p := s.reg 0x7E01 k
  if p < 128 then State.dropOversize ((s.mac p).holding.length) s k p else s

/-- TX_FRAME_START (R320, R321): the MAC of a bound port is free. -/
def execTxFrameStart (p : Nat) (s : State) : Host.Outcome State Fault Refusal :=
  .next (match s.listOf p with
    | none => s
    | some k =>
      if 128 ≤ p ∨ (s.mac p).sending.isSome then s
      else
        let s1 := s.dropAllOversize k
        let x := s1.gateList k
        let m := s1.mac p
        let heads := (List.range 8).filterMap fun g => (m.holding.find? fun y => decide (y.1 = g))
        let opened := heads.filter fun y => x.isOpen s1.ptp y.1
        let fits (y : Nat × Packet) : Bool := match x.closes s1.ptp y.1 with
          | none => true
          | some d => decide (s1.txPs p y.2.frame.length ≤ 1000 * d)
        match (opened.filter fits).getLast? with
        | some y => s1.setMac p { m with holding := m.holding.erase y, sending := some y.2, heldGates := m.heldGates.filter (· ≠ y.1) }
        | none =>
          let held := (opened.filter fun y => !fits y && !m.heldGates.contains y.1).map (·.1)
          (s1.setMac p { m with heldGates := m.heldGates ++ held }).count 0x7E07 k held.length)

/-- GATE_EVENT (R319): an interval ends, and the gates take the states of the entry in force. -/
def execGateEvent (k : Nat) (s : State) : Host.Outcome State Fault Refusal :=
  .next (match (s.gateList k).oper with
    | none => s
    | some (b, t) => s.setGateList k { s.gateList k with gates := gatesAt b t s.ptp })

/-- CONFIG_CHANGE_TIME (R319, R321): the pending list becomes operational, and head frames are held against it. -/
def execConfigChangeTime (k : Nat) (s : State) : Host.Outcome State Fault Refusal :=
  .next (match (s.gateList k).pending with
    | none => s
    | some (b, t) =>
      let s1 := s.reach (s.now + (t - s.ptp))
      (s1.setGateList k { pending := none, oper := some (b, t), gates := gatesAt b t (Nat.max t s1.ptp) }).dropAllOversize k)

/-! ### The MAC (R422, R428) -/

/-- The egress lane hands a frame to the MAC of its port: discarded while the port is not up (R291), else in its FIFO or holding
queue. -/
def State.toMac (s : State) (p : Nat) (x : Packet) : State :=
  if s.portCond p ≠ 0 then
    let s1 := (s.endReleased p x.custody).bump 0x7042 p
    s1.setPort p { s1.port p with flushed := (s1.port p).flushed + 1 }
  else
    let m := s.mac p
    match s.listOf p with
    | none => s.setMac p { m with fifo := m.fifo ++ [x] }
    | some k => (s.setMac p { m with holding := m.holding ++ [((x.custody.map (·.gate)).getD 0, x)] }).dropAllOversize k

/-- A frame as the MAC sends it (R422): padded to 64 bytes, with a new FCS. -/
def sentFrame (frame : List Byte) : List Byte :=
  let body := frame.take (frame.length - 4)
  let body1 := body ++ List.replicate (60 - body.length) 0
  body1 ++ natLe (crc32 body1) 4

/-- A transmit stamp is held: 64 at most, the oldest displaced (R428). -/
def State.stampTx (s : State) (p : Nat) (frame : List Byte) : State :=
  let x := s.port p
  let all := x.stamps ++ [natBe s.ptp 8 ++ natBe (frameTag frame) 2 ++ natBe frame.length 2]
  let s1 := s.setPort p { x with stamps := all.drop (all.length - 64) }
  if 64 < all.length then s1.bump 0x3024 p else s1

/-- FRAME_TRANSMIT_DONE (R422, R33, R304): the last byte of a frame leaves, and its custody ends. -/
def execFrameTransmitDone (p : Nat) (s : State) : Host.Outcome State Fault Refusal :=
  .next (if 128 ≤ p then s
    else
      let m := s.mac p
      let next : Option (Packet × Mac) := match m.sending, m.fifo with
        | some x, _ => some (x, { m with sending := none })
        | none, x :: rest => if (s.listOf p).isNone then some (x, { m with fifo := rest }) else none
        | none, [] => none
      match next with
      | none => s
      | some (x, m1) =>
        let f := sentFrame x.frame
        let s1 := (s.setMac p m1).emit (.net p f)
        let s2 := (s1.bump 0x3012 p).count 0x3013 p f.length
        let s3 := s2.trace x.traceId (byteAt x.record 2) (beAt x.record 0 2) 7 [1, BitVec.ofNat 8 p]
        let h := s3.reg 0x3022 p
        let s4 : State := if h ≠ 0 ∧ x.custody.any (fun c => decide (s3.handle 1 c.queue = h)) then s3.stampTx p f else s3
        s4.endCustody p x.custody)

/-! ### The watch list (R323) -/

/-- WATCH_QUEUE (R323): an entry is set or emptied, and its interval and histogram begin anew. -/
def watchQueueEffect (w : Nat) (c : List Byte) (s : State) : Status × State :=
  let s1 := s.setReg (0x7880 + w / 256) (w % 256) (beNat c)
  (.ok, { s1 with tm := { s1.tm with watches := mput s1.tm.watches w { Watch.reset with since := s1.now } } })

/-- WATCH_QUEUE (R323). -/
def execWatchQueue (o : Origin) (w : Nat) (v : List Byte) (s : State) : Host.Outcome State Fault Refusal :=
  .next (s.runWrite o (0x7880 + w / 256) (w % 256) v (watchQueueEffect w))

/-- A watch entry's interval ends (R323): its record is replaced. -/
def State.endInterval (s : State) (w : Nat) : State :=
  let h := s.reg (0x7880 + w / 256) (w % 256)
  let i := handleIndex h
  let s1 : State := if h ≠ 0 then s.watchSample i else s
  let x := mgetD .reset s1.tm.watches w
  let q := if h ≠ 0 ∧ s1.checkHandle 1 h = Status.ok then mget s1.tm.queues i else none
  let status := if h = 0 then 0x01 else if q.isSome then 0x00 else 0x08
  let d := (q.map Queue.depth).getD 0
  let body := match q with
    | some _ => natBe d 4 ++ natBe (Nat.max x.depthMax d) 4 ++ natBe x.released 4 ++ natBe x.delayMin 4 ++ natBe x.delayMax 4 ++ natBe x.delaySum 8
    | none => List.replicate 28 0
  let rec_ := natBe status 1 ++ [0, 0, 0] ++ natBe s1.ptp 8 ++ body ++ List.replicate 8 0
  let s2 := s1.setOct (0x7890 + w / 256) (w % 256) rec_
  { s2 with tm := { s2.tm with watches := mput s2.tm.watches w { Watch.reset with since := s2.now, bins := x.bins } } }

/-- WATCH_INTERVAL_END (R323). -/
def execWatchIntervalEnd (w : Nat) (s : State) : Host.Outcome State Fault Refusal :=
  .next (if 4096 ≤ w ∨ s.mode = .dormant then s
    else
      let x := mgetD .reset s.tm.watches w
      (s.reach (x.since + s.reg 0x78A0 1 * 1000)).endInterval w)

/-- A change of WATCH_INTERVAL_US ends every current interval (R323). -/
def watchUsEffect (c : List Byte) (s : State) : Status × State :=
  let s1 := (s.tm.watches.map (·.1)).foldl State.endInterval s
  (.ok, s1.setReg 0x78A0 1 (beNat c))

end Sys2Proof.Machine
end

