-- ==== Sys2Proof/Machine/Lanes.lean ====
section
/-! DEFINITION. Sys2Proof/Machine/Lanes.lean: frames received, the ingress and egress lanes and their passes, recirculation, and the
sleep and wake of slices (R18 to R27, R79 to R84, R155 to R183, R421, R513, R514). -/

namespace Sys2Proof.Machine

/-! ### Frames received (R421) -/

/-- Whether a frame's last four bytes are its FCS. -/
def fcsGood (frame : List Byte) : Bool :=
  decide (4 ≤ frame.length)
    && decide (frame.drop (frame.length - 4) = natLe (crc32 (frame.take (frame.length - 4))) 4)

/-- The row of R421 that drops a frame, if one does, counted from 0. -/
def State.macDrop (s : State) (p : Nat) (frame : List Byte) (uncorrectable : Bool) : Option Nat :=
  if uncorrectable || !fcsGood frame then some 0
  else if frame.length < 64 then some 1
  else if s.reg 0x3004 p < frame.length then some 2
  else if beAt frame 12 2 = 0x8808 then some 3
  else none

/-- The counter of a row of R421 counts. -/
def State.countDrop (s : State) (row p : Nat) : State :=
  match row with
  | 0 => s.bump 0x3014 p
  | 1 => s.bump 0x3015 p
  | 2 => s.bump 0x3016 p
  | _ => s.bump 0x3017 p

/-- A frame or injected packet takes its place in its source's order: on an active in the source's block, on a standby among the frames
to be matched (R362, R365). -/
def State.noteArrival (s : State) (source ordinal tag : Nat) (again : Again) : State :=
  if s.activeInPair then s.noteEntry source ordinal tag
  else if s.role = 2 ∧ (s.pair.phase = .trial ∨ s.pair.phase = .inStep) then
    let f : OwnFrame := { source := source, ordinal := ordinal, tag := tag, again := again, since := s.now }
    let s1 := { s with pair := { s.pair with frames := s.pair.frames ++ [f] } }
    State.matchSource (s1.pair.frames.length + s1.pair.entries.length + 1) s1 source
  else s

/-- Bytes of frames in a tide pool. -/
def poolBytes (l : List PoolFrame) : Nat := (l.map (·.frame.length)).foldl (· + ·) 0

/-- A request to wake slice n, unless one is under way (R81). -/
def State.askWake (s : State) (n : Nat) : State :=
  let x := s.sliceAt n
  if (x.feAsleep ∨ x.tmAsleep) ∧ x.wakeReq.isNone then s.setSlice n { x with wakeReq := some s.now } else s

/-- FRAME_RECEIVE (R421, R21, R81, R82): a frame with its FCS arrives at port p; whether a byte of it lay in an uncorrectable FEC
codeword. -/
def execFrameReceive (p : Nat) (frame : List Byte) (uncorrectable : Bool) (s : State) : Host.Outcome State Fault Refusal :=
  .next (let n := s.reg 0x3001 p
    if 128 ≤ p ∨ 16 ≤ n ∨ s.reg 0x3003 p < 4 then s
    else match s.macDrop p frame uncorrectable with
      | some row => s.countDrop row p
      | none =>
        let s1 := (s.bump 0x3010 p).count 0x3011 p frame.length
        let (ord, s2) := s1.nextOrdinal p
        let full := decide (524288 < poolBytes (s2.sliceAt n).pool + frame.length)
        let f : PoolFrame := { frame := frame, port := p, arrival := s2.ptp, ordinal := ord }
        let s3 := s2.noteArrival p ord (frameTag frame) (if full then .lost else .frame f)
        if full then
          let y := s3.port p
          (s3.setPort p { y with poolDrops := y.poolDrops + 1 }).decideEntry (some p) ord false 3
        else
          let x := s3.sliceAt n
          (s3.setSlice n { x with pool := x.pool ++ [f], idleSince := s3.now }).askWake n)

/-! ### What a lane takes (R22, R155, R156, R170, R173, R175, R179) -/

/-- A packet as a lane takes it: its record as the pass begins, the step that it starts from when a descriptor names one, a punt that
the take itself raises, and SOURCE of its TAKEN record. -/
structure Intake where
  packet : Packet
  start : Option Nat
  punt : Option Nat
  source : Nat
  first : Bool

/-- A record on the first pass (R170): everything zero but what the arguments give, and CARRY_MASK. -/
def freshRecord (epoch passInfo inPort len arrival : Nat) : List Byte :=
  natBe epoch 2 ++ natBe passInfo 1 ++ [0] ++ natBe inPort 1 ++ [0] ++ natBe len 2 ++ List.replicate 7 0 ++ [1]
    ++ List.replicate 4 0 ++ natBe arrival 8 ++ List.replicate 484 0

/-- Where a frame of the standby's own stands in its source since START: the position of its entry, or of the entry that is to come
for it (R181, R370). -/
def State.ownPosition (s : State) (source ordinal : Nat) : Nat :=
  match s.pair.entries.find? (fun e => e.own.any fun f => decide (f.source = source) && decide (f.ordinal = ordinal)) with
  | some e => e.position
  | none =>
    let unmatched := (s.pair.entries.filter fun e => decide (e.source = source) && e.own.isNone).length
    let k := (s.pair.frames.filter fun f => decide (f.source = source)).findIdx fun f => decide (f.ordinal = ordinal)
    mgetD 0 s.pair.positions source - unmatched + k

/-- The epoch that the marks give for a position of a source (R181): that of the last mark at or before it. -/
def State.markedEpoch (s : State) (source position : Nat) : Nat :=
  let marks := mgetD [] s.pair.marks source
  match (marks.filter fun m => decide (m.2 ≤ position)).getLast?, marks.head? with
  | some m, _ => m.1
  | none, some m => (m.1 + 65535) % 65536
  | none, none => s.epochs.current

/-- The epoch that an ingress lane stamps (R175, R181). -/
def State.stampFor (s : State) (source ordinal : Nat) : Nat :=
  if s.role = 2 ∧ (s.pair.phase = .trial ∨ s.pair.phase = .inStep) then s.markedEpoch source (s.ownPosition source ordinal)
  else s.epochs.current

/-- Record segments that a descriptor supplies (R456): of segment 0 bytes 8 to 19 and 32 to 39 only. -/
def supplySegments (record bytes : List Byte) (mask : Nat) : List Byte :=
  (((List.range 8).filter fun k => bitAt mask k).foldl (fun (a : List Byte × Nat) k =>
    let seg := slice bytes (64 * a.2) 64
    let r := if k = 0 then recWrite (recWrite a.1 8 (slice seg 8 12)) 32 (slice seg 32 8) else patch a.1 (64 * k) seg
    (r, a.2 + 1)) (record, 0)).1

/-- A commit waits (R179); while one is in progress no packet may join OLDER (log entry 33). -/
def State.commitWaits (s : State) : Bool := !s.epochs.queue.isEmpty

/-- A frame from the tide pool. -/
def State.takeArrival (s : State) (n : Nat) (f : PoolFrame) (rest : List PoolFrame) : Intake × State :=
  let r := freshRecord (s.stampFor f.port f.ordinal) 0 (128 + f.port) f.frame.length f.arrival
  let p : Packet := { frame := f.frame, record := r, source := .arrival f.port, inject := none, ordinal := f.ordinal, custody := none
                      traceId := none }
  ({ packet := p, start := none, punt := none, source := 0, first := true }, s.setSlice n { s.sliceAt n with pool := rest })

/-- A packet from the injection queue (R26, R170, R179, R456). -/
def State.takeInjection (s : State) (n : Nat) (x : Injection) (rest : List Injection) : Intake × State :=
  let s1 := s.setSlice n { s.sliceAt n with inject := rest }
  let (ord, s3) : Nat × State := match x.ordinal with
    | some k => (k, s1)
    | none =>
      let (k, s2) := s1.nextOrdinal (0x80 + n)
      (k, s2.noteArrival (0x80 + n) k (frameTag x.frame) (.inject { x with ordinal := some k }))
  let stamp := s3.stampFor (0x80 + n) ord
  let older := (s3.epochs.current + 65535) % 65536
  let usable (e : Nat) : Bool := decide (e = s3.epochs.current) || (decide (e = older) && !s3.commitWaits)
  let (epoch, info, punt, start) : Nat × Nat × Option Nat × Option Nat := match x.cont with
    | none => (stamp, 0x10, none, none)
    | some (e, p, step) =>
      if !usable e then (stamp, 0x18 + Nat.min 3 p * 64, some 0x0B, none)
      else if 3 ≤ p then (e, 0x18 + 3 * 64, some 0x0A, none)
      else (e, 0x18 + (p + 1) * 64, none, some step)
  let r := supplySegments (freshRecord epoch info ((if x.portValid then 128 else 0) + x.port) x.frame.length s3.ptp) x.segments x.segMask
  let p : Packet := { frame := x.frame, record := r, source := .inject x.channel x.pos, inject := some (x.channel, x.pos), ordinal := ord
                      custody := none, traceId := none }
  ({ packet := p, start := start, punt := punt, source := 2, first := true }, s3)

/-- A packet from the recirculation path (R173): PASS goes up, DIR is 0, the rest is kept. -/
def State.takeRecirc (s : State) (n : Nat) (p : Packet) (rest : List Packet) : Intake × State :=
  let info := byteAt p.record 2
  let r := patch p.record 2 (natBe (Nat.min 3 (info / 64 + 1) * 64 + info % 32) 1)
  ({ packet := { p with record := r }, start := none, punt := none, source := 1, first := false },
   s.setSlice n { s.sliceAt n with recirc := rest })

/-- A packet that the TM released to the egress lane (R156): its record is fresh but for what the TM writes. -/
def State.takeReleased (s : State) (n : Nat) (p : Packet) (rest : List Packet) : Intake × State :=
  let o := p.record
  let r := freshRecord s.epochs.current 0x20 0 p.frame.length (beAt o 20 8)
  let r1 := patch r 5 (slice o 5 1)
  let r2 := patch r1 12 ([3] ++ natBe (byteAt o 13 % 8) 1 ++ natBe (byteAt o 14 % 4) 1)
  let r3 := patch r2 32 (slice o 32 16)
  ({ packet := { p with record := r3 }, start := none, punt := none, source := 3, first := true },
   s.setSlice n { s.sliceAt n with egressQ := rest })

/-- The sources of an ingress lane in the order in which slot k of the rotation of 16 tries them (R22): 0 arrivals, 1 recirculation,
2 injection. The slots of a rotation are taken as 13 arrivals, then 2, then 1 (log entry 34). -/
def rotationOrder (k : Nat) : List Nat := if k < 13 then [0, 1, 2] else if k < 15 then [1, 0, 2] else [2, 0, 1]

/-- What the ingress lane of slice n takes next. -/
def State.takeIngress (s : State) (n : Nat) : Option (Intake × State) :=
  let x := s.sliceAt n
  let s1 := s.setSlice n { x with rotation := (x.rotation + 1) % 16 }
  (rotationOrder x.rotation).findSome? fun k =>
    match k, x.pool, x.recirc, x.inject with
    | 0, f :: rest, _, _ => some (s1.takeArrival n f rest)
    | 1, _, p :: rest, _ => some (s1.takeRecirc n p rest)
    | 2, _, _, i :: rest => some (s1.takeInjection n i rest)
    | _, _, _, _ => none

/-! ### Tracing (R513, R514) -/

/-- Whether a packet is chosen for tracing on its first pass (R513). -/
def State.traceChosen (s : State) (port : Option Nat) (frame : List Byte) : Bool :=
  let rate := s.reg 0xC800 2
  port.any (fun p => bitAt (beNat (s.oct 0xC800 1)) p) && decide (rate ≤ 31)
    && decide (crc32c (s.reg 0xC800 3) (frame.take 64) % 2 ^ rate = 0)

/-- A TRACE_ID for a packet chosen in a lane (R514). -/
def State.newTraceId (s : State) (n : Nat) (egress : Bool) : Nat × State :=
  let lane := 2 * n + (if egress then 1 else 0)
  let c := mgetD 0 s.stats.traceIds lane
  (n * 2 ^ 28 + (if egress then 2 ^ 27 else 0) + c,
   { s with stats := { s.stats with traceIds := mput s.stats.traceIds lane ((c + 1) % 2 ^ 27) } })

/-- The port of a packet in its lane: IN_PORT on ingress, OUT_PORT on egress, where VALID. -/
def recordPort (record : List Byte) (egress : Bool) : Option Nat :=
  let b := byteAt record (if egress then 5 else 4)
  if 128 ≤ b then some (b - 128) else none

/-- A packet is marked TRACED, and has its TRACE_ID, where the choice of R513 or its ingress pass says so. -/
def State.markTraced (s : State) (n : Nat) (egress : Bool) (i : Intake) : Packet × State :=
  let p := i.packet
  let flags := byteAt p.record 28
  if !i.first then (p, s)
  else if p.traceId.isSome then ({ p with record := patch p.record 28 (natBe (flags ||| 2) 1) }, s)
  else if s.traceChosen (recordPort p.record egress) p.frame then
    let (id, s1) := s.newTraceId n egress
    ({ p with record := patch p.record 28 (natBe (flags ||| 2) 1), traceId := some id }, s1)
  else (p, s)

/-! ### A pass (R155, R161, R167, R190, R203) -/

/-- The program of an epoch in one direction (R174, R188). -/
def State.program (s : State) (e : Nat) (egress : Bool) : Program :=
  let v := s.version e
  let base := if egress then 0x4108 else 0x4100
  { step := fun k => v.oct (base + k / 256) (k % 256), profile := fun k => v.oct 0x4030 k, template := fun k => v.oct 0x4110 k
    lpmDefault := fun k => v.oct 0x5404 k, learnLimit := fun k => v.reg 0x5005 k, sampleSeed := v.reg 0x4040 1 }

/-- Start node and start step of a pass by its direction and port (R155, R190). -/
def Version.starts (v : Version) (record : List Byte) (egress : Bool) : Nat × Nat :=
  match egress, recordPort record egress with
  | true, some p => (v.reg 0x4402 p, v.reg 0x4021 p)
  | true, none => (nodeEnd, stepEnd)
  | false, some p => (v.reg 0x4401 p, v.reg 0x4020 p)
  | false, none => (v.reg 0x4400 1, v.reg 0x4022 0)

/-- The range result vector of an epoch (R258). -/
def Version.rangeVector (v : Version) (frame record : List Byte) (slots : List (Nat × Nat × Nat)) : List Byte :=
  let places := slots.map fun (k, _, off) => (k, off)
  let bits := (v.octs.filter fun (k, _) => decide (k / 256 = 0x6400)).foldl (fun a (k, b) =>
    if comparatorBit b frame record places then a + 2 ^ (255 - k % 256) else a) 0
  natBe bits 32

/-- A walk is counted (R200, R203). -/
def State.countParse (s : State) (w : Walk) (e : ParseEnd) : State :=
  let s1 := s.count 0x4304 4 w.badSums
  let s2 := match e with
    | .dropTruncated => s1.bump 0x4304 1
    | .dropConflict => s1.bump 0x4304 2
    | .unknown => s1.bump 0x4304 3
    | _ => s1
  match e with
  | .complete | .unknown => s2
  | _ => s2.bump 0x4305 w.lastNode

/-- How a pass ends that its parse has ended (R203). -/
def ParseEnd.passEnd : ParseEnd → Option PassEnd
  | .complete | .unknown => none
  | .puntDepth => some (.punt 1)
  | .puntConflict => some (.punt 2)
  | .puntFragment => some (.punt 3)
  | .dropTruncated | .dropConflict => some .parseDrop

/-- The walk of a packet through its program. -/
def State.sequence (s : State) (n : Nat) (egress : Bool) (p : Packet) (record : List Byte) (w : Walk) (start : Nat) : Seq × PassEnd :=
  let e := beAt record 0 2
  let c : PassCtx := { frame := p.frame, slots := w.slots, headerEnd := w.start, egress := egress, epoch := e
                       ranges := (s.version e).rangeVector p.frame record w.slots, now := s.now, slice := n }
  let q : Seq := { record := record, buf := { bytes := p.frame, gone := [], ins := [] }, steps := 0, accesses := 0, searches := 0
                   meterSteps := 0, copies := [], tables := s.tables, meters := s.meters, sets := s.stats.sets, adds := [], trail := []
                   offers := [], counts := [] }
  runProgram c (s.program e egress) 33 start q

/-- The learn FIFO of a slice. -/
def State.fifo (s : State) (n : Nat) : LearnFifo := mgetD { recs := [], seen := [] } s.tables.fifos n

/-- A learn record is offered to its slice's FIFO (R233). -/
def State.offerLearn (s : State) (n : Nat) (r : LearnRec) : State :=
  let f := s.fifo n
  let mine := (f.seen.filter fun k => decide (k.region = r.region)).take 64
  let again := mine.any fun k => decide (k.key = r.key) && decide (s.now < k.seenAt + 1000000)
  let makes := (decide (s.mode = .proportional) || decide (s.mode = .spring) || decide (s.mode = .drain)) && decide (s.role ≠ 2)
  if !makes ∨ again then s
  else if 1024 ≤ f.recs.length then s.bump 0x5801 n
  else
    let others := f.seen.filter fun k => decide (k.region ≠ r.region)
    let f1 : LearnFifo := { recs := f.recs ++ [r], seen := { region := r.region, key := r.key, seenAt := s.now } :: mine.take 63 ++ others }
    { s with tables := { s.tables with fifos := mput s.tables.fifos n f1 } }

/-- What the engines changed in a pass takes effect, and traces are written. -/
def State.afterSequence (s : State) (n : Nat) (id : Option Nat) (record : List Byte) (q : Seq) : State :=
  let s1 := { s with tables := q.tables, meters := q.meters }
  let s2 := q.adds.foldl (fun s (i, b) => s.countSet i b) s1
  let s3 := q.counts.foldl (fun s (i, j, k) => s.count i j k) s2
  let s4 := q.offers.foldl (fun s r => s.offerLearn n r) s3
  q.trail.foldl (fun s d => s.trace id (byteAt record 2) (beAt record 0 2) 3 d) s4

/-- A lane runs a packet through one pass: the parse, the program and the end it comes to (R155). -/
def State.runPass (s : State) (n : Nat) (egress : Bool) (i : Intake) (p : Packet) : Pass × State :=
  let e := beAt p.record 0 2
  let pass (frame record : List Byte) (ending : PassEnd) (copies : List (Nat × List Byte)) (p : Packet) : Pass :=
    { packet := p, frame := frame, record := record, ending := ending, copies := copies, epoch := e, start := s.now, egress := egress }
  match i.punt with
  | some reason => (pass p.frame p.record (.punt reason) [] p, s)
  | none =>
    let (node, step) := (s.version e).starts p.record egress
    let (w, pe) := parseFrame (fun k => decodeNode ((s.version e).oct 0x4410 k)) p.frame node
    let record := patch p.record 64 (segment1 w pe)
    let s1 := (s.countParse w pe).trace p.traceId (byteAt record 2) e 2
      (natBe w.visits 1 ++ natBe w.lastNode 1 ++ natBe pe.outcome 1 ++ natBe w.start 2 ++ natBe w.userFlags 2)
    match pe.passEnd with
    | some x => (pass p.frame record x [] p, s1)
    | none =>
      let (q, x) := s1.sequence n egress p record w (i.start.getD step)
      let traced := bitAt (byteAt q.record 28) 1
      let (id, s2) : Option Nat × State := if traced ∧ p.traceId.isNone then
          let (k, s2) := s1.newTraceId n egress
          (some k, s2)
        else (p.traceId, s1)
      (pass q.buf.render q.record x q.copies { p with traceId := id }, s2.afterSequence n id q.record q)

/-- LANE_TAKE (R22, R155, R156, R175): the ingress or egress lane of slice n takes one packet and starts its pass. A held ingress lane
(R21) and a sleeping slice take none. -/
def execLaneTake (n : Nat) (egress : Bool) (s : State) : Host.Outcome State Fault Refusal :=
  .next (let x := s.sliceAt n
    let got : Option (Intake × State) :=
      if 16 ≤ n ∨ x.feAsleep then none
      else if egress then match x.egressQ with
        | [] => none
        | p :: rest => some (s.takeReleased n p rest)
      else if x.hold then none else s.takeIngress n
    match got with
    | none => s
    | some (i, s1) =>
      let (p, s2) := s1.markTraced n egress i
      let s3 := s2.trace p.traceId (byteAt p.record 2) (beAt p.record 0 2) 1
        (natBe ((recordPort p.record egress).getD 0) 1 ++ natBe i.source 1 ++ natBe p.frame.length 2)
      let (pass, s4) := s3.runPass n egress i p
      let y := s4.sliceAt n
      let y1 := { y with idleSince := s4.now }
      s4.setSlice n (if egress then { y1 with egress := y1.egress ++ [pass] } else { y1 with ingress := y1.ingress ++ [pass] }))

/-! ### The end of a pass (R20, R24, R157, R173, R182) -/

/-- The source whose order a packet keeps in a pair (R362). -/
def entrySource (n : Nat) (p : Packet) : Option Nat :=
  match p.source with
  | .arrival k => some k
  | .inject _ _ => some (0x80 + n)
  | _ => none

/-- A packet ends before Breakwater, or on egress (R33, R362, R458): its entry says so, its descriptor completes with a status, and the
custody of a released packet ends. -/
def State.endPacket (s : State) (n : Nat) (x : Pass) (status info : Nat) : State :=
  let p := { x.packet with record := x.record }
  let s1 := (s.finishInject p status info).decideEntry (entrySource n p) p.ordinal false 3
  if x.egress then s1.endReleased ((recordPort x.record true).getD 0) p.custody else s1

/-- A record as it crosses to the TM (R20): segments that are not carried read as zero there. -/
def carriedRecord (r : List Byte) : List Byte :=
  ((List.range 8).map fun k => if k = 0 ∨ bitAt (byteAt r 15) k then slice r (64 * k) 64 else List.replicate 64 0).flatten

/-- DISPATCH's record (R514). -/
def State.traceDispatch (s : State) (x : Pass) (code reason : Nat) : State :=
  let r := x.record
  s.trace x.packet.traceId (byteAt r 2) x.epoch 4
    (natBe code 1 ++ slice r 8 4 ++ slice r 12 1 ++ natBe reason 1 ++ slice r 13 2)

/-- Frame bytes in a recirculation path. -/
def pathBytes (l : List Packet) : Nat := (l.map (·.frame.length)).foldl (· + ·) 0

/-- A packet enters the recirculation path of its slice, or finds it full (R24, R173). From an egress pass it is a new arrival whose
earlier custody ends here, by handover. -/
def State.recirculate (s : State) (n : Nat) (x : Pass) : State :=
  let y := s.sliceAt n
  if 256 ≤ y.recirc.length ∨ 262144 < pathBytes y.recirc + x.frame.length then (s.bump 0x4300 2).endPacket n x 3 4
  else
    let p := { x.packet with frame := x.frame, record := x.record }
    if x.egress then
      let s1 := s.trace p.traceId (byteAt x.record 2) x.epoch 7 [2, BitVec.ofNat 8 n]
      let s2 := s1.setSlice n { y with recirc := y.recirc ++ [{ p with source := .recirc, custody := none, inject := none }] }
      s2.endCustody ((recordPort x.record true).getD 0) p.custody
    else s.setSlice n { y with recirc := y.recirc ++ [p] }

/-- A finished pass goes where its end sends it (R157), its copies first (R183). -/
def State.dispatchPass (s : State) (n : Nat) (x : Pass) : State :=
  let s1 := x.copies.foldl (fun s (reason, r) => s.punt n reason x.egress true x.packet.frame r) s
  let ty := byteAt x.record 12
  match x.ending with
  | .drop cause => ((s1.traceDispatch x 3 0).bump 0x4303 cause).endPacket n x 3 (1 + 256 * cause)
  | .parseDrop => (s1.traceDispatch x 3 0).endPacket n x 3 3
  | .punt reason =>
    ((s1.traceDispatch x 4 reason).punt n reason x.egress false x.packet.frame x.record).endPacket n x 4 reason
  | .recirc => (s1.traceDispatch x 5 0).recirculate n x
  | .forward =>
    let p := { x.packet with frame := x.frame, record := x.record }
    if !x.egress ∧ (ty = 1 ∨ ty = 2) then
      (s1.traceDispatch x 0 0).crossToTm n { p with record := carriedRecord x.record }
    else match x.egress && decide (ty = 3), recordPort x.record true with
      | true, some k => (s1.traceDispatch x 1 0).toMac k p
      | _, _ => ((s1.traceDispatch x 2 0).bump 0x4300 1).endPacket n x 3 2

/-- Whether a pass crosses DGn to the TM. -/
def Pass.crosses (x : Pass) : Bool :=
  !x.egress && decide (x.ending = .forward) && (decide (byteAt x.record 12 = 1) || decide (byteAt x.record 12 = 2))

/-- PASS_DISPATCH (R21, R155, R157): the oldest pass of a lane ends, 1,536 cycles (512 ns) after it began. `full` says that DGn cannot
carry its packet now: the packet is held and the ingress lane stops. Nothing passes a held packet. -/
def execPassDispatch (n : Nat) (egress full : Bool) (s : State) : Host.Outcome State Fault Refusal :=
  .next (let y := s.sliceAt n
    match (if egress then y.egress else y.ingress) with
    | [] => s
    | x :: rest =>
      let s1 := s.reach (x.start + 512)
      let y1 : Slice := if egress then { y with egress := rest, idleSince := s1.now } else { y with ingress := rest, idleSince := s1.now }
      if !egress ∧ ((full ∧ x.crosses = true) ∨ !y.held.isEmpty ∨ s.reg 0x3700 n = 3 ∧ x.crosses = true) then
        s1.setSlice n { y1 with held := y1.held ++ [x], hold := true }
      else (s1.setSlice n y1).dispatchPass n x)

/-- DG_HOLD_CLEAR (R21, R439): DGn has room, the held packets cross in order, and the ingress lane takes packets again. A failed group
keeps the hold. -/
def execDgHoldClear (n : Nat) (s : State) : Host.Outcome State Fault Refusal :=
  .next (let y := s.sliceAt n
    if !y.hold ∨ s.reg 0x3700 n = 3 then s
    else y.held.foldl (fun s x => s.dispatchPass n x) (s.setSlice n { y with held := [], hold := false, idleSince := s.now }))

/-! ### Sleep and wake of slices (R79 to R84) -/

/-- The FE part of slice n has nothing to do (R80). -/
def State.feIdle (s : State) (n : Nat) : Bool :=
  let x := s.sliceAt n
  x.ingress.isEmpty && x.egress.isEmpty && x.held.isEmpty && x.pool.isEmpty && x.inject.isEmpty && x.recirc.isEmpty && x.egressQ.isEmpty
    && s.tm.queues.all (fun (_, q) => q.voq || decide (s.reg 0x3001 q.port ≠ n) || q.packets.isEmpty)
    && s.host.channels.all (fun (_, c) => c.fetched.all fun d => c.receive || decide (byteAt d.bytes 18 ≠ n))

/-- Slices asleep. -/
def State.asleepSlices (s : State) : Nat := ((List.range 16).filter fun n => (s.sliceAt n).feAsleep).length

/-- The FE part of slice n enters RETAIN (R80). -/
def State.sleepFe (s : State) (n : Nat) : State :=
  let s1 := s.setSlice n { s.sliceAt n with feAsleep := true, wakeReq := none, wakeGrant := none }
  ((s1.setDomain (1 + 4 * n) 1).setDomain (2 + 4 * n) 1).setDomain (3 + 4 * n) 1

/-- The TM part of slice n enters RETAIN where its queues are empty, and its bank where it holds no cell (R80; what is stored lies in
the lowest banks, log entry 19). -/
def State.sleepTm (s : State) (n : Nat) : State :=
  let s1 := if s.tm.queues.all (fun (_, q) => decide (q.owner ≠ n) || q.packets.isEmpty) then
      ((s.setSlice n { s.sliceAt n with tmAsleep := true }).setDomain (65 + 3 * n) 1).setDomain (67 + 3 * n) 1
    else s
  if s1.tm.cells ≤ n * bankCells then s1.setDomain (66 + 3 * n) 1 else s1

/-- SLICE_IDLE_EXPIRY (R79, R80): slice n has been idle for SLICE_IDLE_NS. -/
def execSliceIdleExpiry (n : Nat) (s : State) : Host.Outcome State Fault Refusal :=
  .next (let x := s.sliceAt n
    if 16 ≤ n ∨ !s.sleepMode ∨ s.reg 0x2010 1 = 0 then s
    else if x.feAsleep then (if x.wakeReq.isSome then s else s.sleepTm n)
    else if !s.feIdle n ∨ bitAt (s.reg 0x2010 4) n ∨ s.reg 0x2010 3 ≤ s.asleepSlices then s
    else ((s.reach (x.idleSince + s.reg 0x2010 2)).sleepFe n).sleepTm n)

/-- Slices whose wake request waits for a slot, as request time and number. -/
def State.wakeWaiting (s : State) : List (Nat × Nat) :=
  (List.range 16).filterMap fun n =>
    let x := s.sliceAt n
    match x.wakeReq, x.wakeGrant with
    | some t, none => some (t, n)
    | _, _ => none

/-- The earliest of requests; of equal ones the lowest slice. -/
def earliest : List (Nat × Nat) → Option (Nat × Nat)
  | [] => none
  | a :: rest => match earliest rest with
    | none => some a
    | some b => if b.1 < a.1 then some b else some a

/-- SWITCHING_SLOT_GRANT (R83): the oldest waiting request is granted one of the six slots of its die, each held for 800 ns from its
grant. -/
def execSwitchingSlotGrant (s : State) : Host.Outcome State Fault Refusal :=
  .next (match earliest s.wakeWaiting with
    | none => s
    | some (_, n) =>
      let held := (List.range 16).filterMap fun k => (s.sliceAt k).wakeGrant.filter fun g => decide (s.now < g + 800)
      let s1 := if held.length < 6 then s else s.reach (held.foldl Nat.min (held.headD 0) + 800)
      s1.setSlice n { s1.sliceAt n with wakeGrant := some s1.now })

/-- A slice's domains are ON again (R83 step 6). -/
def State.wakeSlice (s : State) (n : Nat) : State :=
  let s1 := s.setSlice n { s.sliceAt n with feAsleep := false, tmAsleep := false, wakeReq := none, wakeGrant := none, idleSince := s.now }
  [1 + 4 * n, 2 + 4 * n, 3 + 4 * n, 65 + 3 * n, 66 + 3 * n, 67 + 3 * n].foldl (fun s d =>
    if s.reg 0x2101 d = 1 then s.setDomain d 2 else s) s1

/-- SLICE_WAKE_DONE (R83, R84): slice n is awake 1,950 ns after its grant; more than 2,000 ns after the request counts as late. -/
def execSliceWakeDone (n : Nat) (s : State) : Host.Outcome State Fault Refusal :=
  .next (let x := s.sliceAt n
    match x.wakeReq, x.wakeGrant with
    | some t, some g =>
      let s1 := (s.reach (g + 1950)).wakeSlice n
      if t + 2000 < s1.now then s1.wakeLate 0 n (s1.now - t) else s1
    | _, _ => s)

end Sys2Proof.Machine
end

