-- ==== Sys2Proof/Machine/SelfTest.lean ====
section
/-! DEFINITION. Sys2Proof/Machine/SelfTest.lean: the meanings of the commands on pattern tests, built-in self-test, background tests,
the TAP and the health report (R380, R384, R542 to R558). -/

namespace Sys2Proof.Machine

/-! ### Pattern tests (R543 to R550) -/

/-- Targets of a TARGET_KIND: NETWORK, FABRIC, MATE, MGMT, DG and HBM. -/
def targetCount : Nat → Nat
  | 0 => 128 | 1 => 160 | 2 => 8 | 3 => 2 | 4 => 32 | 5 => 128 | _ => 0

/-- The number of a target from its byte (R545): a die-to-die direction is numbered direction × 16 + group, as R558 numbers its
result. None for a target that does not exist or has a reserved bit set. -/
def targetNumber (kind byte : Nat) : Option Nat :=
  if kind = 4 then if fld byte 6 4 = 0 then some (16 * (byte / 128) + byte % 16) else none
  else if byte < targetCount kind then some byte else none

/-- A target kind takes a pattern (R546). -/
def patternAllowed (kind pattern : Nat) : Bool :=
  match pattern with
  | 1 | 2 | 3 | 4 | 5 | 11 => decide (kind ≤ 4)
  | 6 => decide (kind ≤ 5)
  | 7 | 8 | 9 => decide (kind ≤ 2)
  | 10 => decide (kind ≤ 3)
  | 16 | 17 | 18 => decide (kind = 5)
  | _ => false

/-- A target kind takes a loopback (R549); FAR_SERIAL needs GENERATE clear. -/
def loopbackAllowed (kind loopback flags : Nat) : Bool :=
  match loopback with
  | 0 => true
  | 1 => decide (kind ≤ 3)
  | 2 => decide (kind ≤ 4) && !bitAt flags 0
  | _ => false

/-- The fields of a PATTERN_START lie in their ranges (R545). INCLUDE_STATS is for HBM only. -/
def patternFieldsGood (c : List Byte) : Bool :=
  let kind := byteAt c 0
  let flags := byteAt c 3
  let inject := byteAt c 5
  (targetNumber kind (byteAt c 1)).isSome && patternAllowed kind (byteAt c 2) && decide (flags < 16)
    && (!bitAt flags 3 || decide (kind = 5)) && loopbackAllowed kind (byteAt c 4) flags
    && (decide (inject = 0) || decide (10 ≤ inject ∧ inject ≤ 40)) && allZero (slice c 6 2) && decide (beAt c 8 4 ≤ 86400000)
    && allZero (slice c 20 4)

/-- The lane of a target is idle, as R543 asks outside DIAGNOSTIC and, for a network lane in a fitted cage, everywhere; a management
lane may not carry the requester's session. -/
def State.targetIdle (s : State) (o : Origin) (kind n : Nat) : Bool :=
  let diag := decide (s.mode = .diagnostic)
  match kind with
  | 0 =>
    let p := s.lanePort n
    (diag || decide (s.reg 0x3200 n = 0))
      && ((s.cageOf n).isNone || (decide (p < 128) && decide (s.reg 0x3002 p = 1) && decide (3 ≤ s.reg 0x3003 p)))
  | 1 => diag || decide (s.reg 0x3401 n = 0)
  | 2 => diag || decide (s.reg 0x3601 n = 0)
  | 3 => match o with
    | .session k => (mget s.acc.sessions k).all fun x => decide (x.port ≠ n)
    | _ => true
  | _ => true

/-- A test runs on a target. -/
def State.testRuns (s : State) (k : Nat) : Bool := (mget s.test.tests k).any PatternTest.running

/-- Die-to-die directions under test (R544). -/
def State.dgTests (s : State) : Nat := (s.test.tests.filter fun (k, t) => decide (k / 256 = 4) && t.running).length

/-- TESTS_RUNNING (R558). -/
def State.testsRunning (s : State) : Nat := (s.test.tests.filter fun (_, t) => t.running).length

/-- The effect of a PATTERN_START (R543 to R547): an HBM checker is locked from the start where CHECK is set. A network lane reports
its receiver while it is under test (R433), from NO_SIGNAL on. -/
def patternStartEffect (o : Origin) (c : List Byte) (s : State) : Status × State :=
  let kind := byteAt c 0
  let n := (targetNumber kind (byteAt c 1)).getD 0
  let k := 256 * kind + n
  if kind ≤ 5 ∧ 3 ≤ kind ∧ s.mode ≠ .diagnostic then (.mode, s)
  else if c.length ≠ 24 ∨ !patternFieldsGood c then (.range, s)
  else if s.testRuns k ∨ !s.targetIdle o kind n then (.busy, s)
  else if kind = 4 ∧ 8 ≤ s.dgTests then (.noResource, s)
  else
    let s1 := if kind = 0 then s.setLanes [n] 1 else s
    (.ok, s1.setTest k { state := if kind = 5 ∧ bitAt (byteAt c 3) 1 then 2 else 1, params := c, started := s.now, ended := s.now, bits := 0,
                         errors := 0, injected := 0, lockLosses := 0, erroredSeconds := 0 })

/-- PATTERN_START (R545). -/
def execPatternStart (o : Origin) (v : List Byte) (s : State) : Host.Outcome State Fault Refusal :=
  .next (s.runWrite o 0xD000 1 v (patternStartEffect o))

/-- The effect of a PATTERN_STOP (R545): TARGET_KIND and TARGET; a RUNNING test ends STOPPED, and any other stays. -/
def patternStopEffect (c : List Byte) (s : State) : Status × State :=
  match targetNumber (byteAt c 0) (byteAt c 1) with
  | none => (.range, s)
  | some n => (.ok, s.endTest 4 (256 * byteAt c 0 + n))

/-- PATTERN_STOP (R545). -/
def execPatternStop (o : Origin) (v : List Byte) (s : State) : Host.Outcome State Fault Refusal :=
  .next (s.runWrite o 0xD000 2 v patternStopEffect)

/-- PATTERN_DURATION_END (R545): DURATION_MS of the test of key k has passed, and it ends DONE. -/
def execPatternDurationEnd (k : Nat) (s : State) : Host.Outcome State Fault Refusal :=
  .next (match mget s.test.tests k with
    | some t =>
      let ms := beAt t.params 8 4
      if !t.running ∨ ms = 0 then s else (s.reach (t.started + ms * 1000000)).endTest 3 k
    | none => s)

/-- CHECKER_LOCKED (R547): the checker of a running test with CHECK set locks, and counts from here on; a network lane's receiver has
locked to give it bits. -/
def execCheckerLocked (k : Nat) (s : State) : Host.Outcome State Fault Refusal :=
  .next (match mget s.test.tests k with
    | some t => if t.state = 1 ∧ bitAt (byteAt t.params 3) 1 then
        (if k < 128 then s.setLanes [k] 3 else s).setTest k { t with state := 2 }
      else s
    | none => s)

/-- CHECKER_LOCK_LOST (R547): a locked checker of a lane or die-to-die direction loses lock, after these counts since it locked. -/
def execCheckerLockLost (k bits errors injected seconds : Nat) (s : State) : Host.Outcome State Fault Refusal :=
  .next (match mget s.test.tests k with
    | some t =>
      if t.state ≠ 2 ∨ k / 256 = 5 then s
      else s.setTest k { s.addCounts t bits errors injected seconds with state := 1, lockLosses := t.lockLosses + 1 }
    | none => s)

/-- The result record of a target (R550). BER_E15 is zero while no bit has been compared. -/
def State.testResult (s : State) (k : Nat) : List Byte :=
  match mget s.test.tests k with
  | none => List.replicate 48 0
  | some t =>
    let ber := if t.bits = 0 then 0 else min (2 ^ 32 - 1) ((t.errors - t.injected) * 10 ^ 15 / t.bits)
    natBe t.state 1 ++ slice t.params 2 3 ++ natBe (min (2 ^ 32 - 1) (s.testMs t)) 4 ++ natBe t.bits 8 ++ natBe t.errors 8
      ++ natBe t.injected 8 ++ natBe ber 4 ++ natBe t.lockLosses 4 ++ natBe t.erroredSeconds 4 ++ [0, 0, 0, 0]

/-! ### Built-in self-test (R551, R552) -/

/-- A named scope holds channels of the kind that its memory serves (R551). -/
def State.scopesBusy (s : State) (m : Nat) : Bool :=
  ((bitAt m 0 || bitAt m 1) && !s.tables.regions.isEmpty) || (bitAt m 2 && !s.tables.ruleSets.isEmpty)
    || (bitAt m 5 && !s.tm.queues.isEmpty) || (bitAt m 6 && s.tm.groups.any fun (_, l) => !l.isEmpty)

/-- The effect of a BIST_START (R551). -/
def bistStartEffect (c : List Byte) (s : State) : Status × State :=
  let m := beNat c
  if 0x80 ≤ m then (.range, s)
  else if s.test.bistState = 1 ∨ s.scopesBusy m then (.busy, s)
  else (.ok, { s with test := { s.test with bistScopes := m, bistState := 1 } })

/-- BIST_START (R551). -/
def execBistStart (o : Origin) (v : List Byte) (s : State) : Host.Outcome State Fault Refusal :=
  .next (s.runWrite o 0xD020 1 v bistStartEffect)

/-- The objects of the stage-table and parse graph banks with their port starts (R186, R188, R204). -/
def programObject (i : Nat) : Bool :=
  decide (0x4020 ≤ i ∧ i ≤ 0x4022) || decide (i = 0x4030) || decide (0x4100 ≤ i ∧ i ≤ 0x410B) || decide (i = 0x4110)
    || decide (0x4400 ≤ i ∧ i ≤ 0x44FF)

/-- Both banks of a version cleared, and the default graph in them, as after a power-on reset (R204, R551). -/
def Version.clearBanks (v : Version) : Version :=
  { v with
    objs := v.objs.filter fun (k, _) => !programObject (k / 256)
    octs := v.octs.filter fun (k, _) => !programObject (k / 256)
    programId := 0, loaded := false }

/-- A scope ends cleared (R551). -/
def State.clearScope (s : State) (k : Nat) : State :=
  match k with
  | 0 => { s with tables := { s.tables with em := [], lpm := [] } }
  | 1 => { s with tables := { s.tables with ovf := [] } }
  | 2 => { s with tables := { s.tables with rules := [] } }
  | 3 => { s with epochs := { s.epochs with cur := s.epochs.cur.clearBanks, old := s.epochs.old.clearBanks } }
  | 4 => { s with slices := mmap s.slices fun _ x => { x with pool := [], recirc := [] } }
  | 6 => { s with tm := { s.tm with slices := mmap s.tm.slices fun _ x => { x with replFe := [], replFabric := [] } } }
  | _ => s

/-- The outcome of a self-test of scopes, as 8-byte records of R552: reported, each failure in area MEMORY as FAILED; TCAM blocks that
failed are excluded, and those of an earlier test are not once scope 2 has been tested again. -/
def State.reportBist (s : State) (scopes : Nat) (failed : List (List Byte)) : State :=
  let recs := (failed.map fun r => slice r 0 8).filter fun r => bitAt scopes (byteAt r 0)
  let tcam := (recs.filter fun r => decide (byteAt r 0 = 2)).map fun r => beAt r 2 2
  let s1 := { s with test := { s.test with
    bistDetail := recs, badBlocks := if bitAt scopes 2 then tcam.eraseDups else s.test.badBlocks } }
  let mask := recs.foldl (fun m r => m ||| 2 ^ byteAt r 0) 0
  recs.foldl (fun s r => s.health 8 2 0 r) ((s1.setReg 0xD020 2 mask).setReg 0xD020 3 recs.length)

/-- BIST_DONE (R551, R552): the scopes of the running BIST end cleared, and the failing units are reported. -/
def execBistDone (failed : List (List Byte)) (s : State) : Host.Outcome State Fault Refusal :=
  .next (if s.test.bistState ≠ 1 then s
    else
      let m := s.test.bistScopes
      let s1 := ((List.range 7).filter (bitAt m)).foldl State.clearScope s
      ({ s1 with test := { s1.test with bistState := 2 } }).reportBist m failed)

/-! ### Background tests (R384, R553) -/

/-- Background tests may run: on a standby in SHADOW once its interval has come, and on a unit in PROPORTIONAL or SPRING while
BACKGROUND_ON_ACTIVE is 1. -/
def State.backgroundRuns (s : State) : Bool :=
  match s.mode with
  | .shadow => s.test.selfTesting
  | .proportional | .spring => decide (s.reg 0xD030 1 = 1)
  | _ => false

/-- SELFTEST_INTERVAL (R384): a standby in SHADOW begins a round of background tests. -/
def execSelftestInterval (s : State) : Host.Outcome State Fault Refusal :=
  .next (if s.mode ≠ .shadow then s
    else
      let s1 := s.reach (s.pair.lastSelfTest + s.reg 0x9000 0x0F * 1000000000)
      { s1 with pair := { s1.pair with lastSelfTest := s1.now }, test := { s1.test with selfTesting := true } })

/-- The health area of a resource under background test (R555): 0 TCAM block, 1 bucket and 2 on-die cell in MEMORY, 3 HBM row in HBM,
4 idle lane in LANES. -/
def backgroundArea (kind : Nat) : Nat := if kind = 3 then 7 else if kind = 4 then 5 else 8

/-- BACKGROUND_TEST_DONE (R384, R553): the test of a resource ends, and the resource is free again. `ended` says that an allocation
ended it, which is no failure; `holds` that the failing resource holds packets or tables, which makes a standby stale with cause
SELFTEST; `last` that it was the last of a standby's round. -/
def execBackgroundTestDone (kind number : Nat) (ended good holds last : Bool) (s : State) : Host.Outcome State Fault Refusal :=
  .next (if !s.backgroundRuns ∨ 4 < kind then s
    else
      let s1 := if last then { s with test := { s.test with selfTesting := false } } else s
      if ended then s1
      else if good then s1.bump 0xD030 2
      else
        let s2 := s1.healthFree (backgroundArea kind) 0 (natBe kind 1 ++ natBe number 4)
        if holds ∧ s.mode = .shadow then s2.goStale 7 0 else s2)

/-! ### Health and the TAP (R380, R554 to R556) -/

/-- The effect of a HEALTH_CLEAR (R556): a write of 1 clears the area states and HEALTH_LOG, and never the fault log. -/
def healthClearEffect (c : List Byte) (s : State) : Status × State :=
  if beNat c = 0 then (.ok, s)
  else
    let s1 := (List.range 13).foldl (fun s a => s.setReg 0xD041 a 0) s
    (.ok, { (s1.setReg 0xD040 1 0).setReg 0xD040 2 0 with test := { s1.test with health := [] } })

/-- HEALTH_CLEAR (R556). -/
def execHealthClear (o : Origin) (v : List Byte) (s : State) : Host.Outcome State Fault Refusal :=
  .next (s.runWrite o 0xD040 4 v healthClearEffect)

/-- ONDIE_UNCORRECTABLE_ERROR (R380, R555): an uncorrectable error in the TM crossbar or in on-die SRAM is recorded in area MEMORY, and
an active unit fences itself (log entry 37). -/
def execOndieUncorrectableError (crossbar : Bool) (detail : List Byte) (s : State) : Host.Outcome State Fault Refusal :=
  .next (if s.mode = .dormant then s else (s.healthFree 8 (if crossbar then 1 else 0) (slice detail 0 16)).fence)

/-- JTAG_INSTRUCTION (R554): an instruction is loaded into the TAP, which is out of reset. What it acts as is State.tapInForce. -/
def execJtagInstruction (op : Nat) (s : State) : Host.Outcome State Fault Refusal :=
  .next { s with
    power := { s.power with pins := { s.power.pins with trstN := true } }
    test := { s.test with tapLoaded := op % 256 } }

end Sys2Proof.Machine
end

