-- ==== Sys2Proof/Machine/Boot.lean ====
section
/-! DEFINITION. Sys2Proof/Machine/Boot.lean: the power-on start, the boot path, the board record, and the loss and return of reference
clocks and of the PCIe link (R69, R92, R93, R97 to R107, R113, R398, R437, R552). -/

namespace Sys2Proof.Machine

/-! ### The board record (R105 to R107) -/

/-- BOARD_RECORD_STATE of what the EEPROM gave, nothing standing for no acknowledgement: 0 ABSENT, 1 VALID, 2 BAD_CRC, 3 BAD_FORMAT. -/
def boardState (b : List Byte) : Nat :=
  let cages := (List.range 32).map fun k => beAt b (40 + 2 * k) 2
  if b.length < 128 then 0
  else if beAt b 0 2 ≠ 0x4642 ∨ byteAt b 2 ≠ 1 then 3
  else if crc32 (slice b 0 124) ≠ beAt b 124 4 then 2
  else if byteAt b 3 ≠ 0 ∨ !allZero (slice b 6 2) ∨ !allZero (slice b 38 2) ∨ !allZero (slice b 104 20) ∨ !cageMapGood cages then 3
  else 1

/-- A P object's value in flash (R120). -/
def State.storeP (s : State) (k v : Nat) : State := { s with fw := { s.fw with store := mput s.fw.store k v } }

/-- The board record is read and judged, and sets the cage map and the management MAC addresses; a persistent write stands over it until
the record's CRC changes (R107). -/
def State.readBoard (s : State) (b : List Byte) : State :=
  let st := boardState b
  let crc := if b.length < 128 then 2 ^ 32 else beAt b 124 4
  let mine (k : Nat) : Bool := decide (k / 256 = 0x1021) || decide (k = okey 0x1020 4)
  let fresh := decide (crc ≠ s.power.recordCrc)
  let s1 := { s with
    power := { s.power with eeprom := if b.length < 128 then none else some b, recordCrc := crc }
    fw := { s.fw with
      store := if fresh then s.fw.store.filter (fun (k, _) => !mine k) else s.fw.store
      storeOcts := if fresh then s.fw.storeOcts.filter (fun (k, _) => !mine k) else s.fw.storeOcts } }
  let s2 := (s1.setReg 0x1020 1 st).setOct 0x1020 5 (slice b 0 128)
  let s3 := (s2.setReg 0x1020 2 (if st = 1 then beAt b 4 2 else 0)).setOct 0x1020 3
    (if st = 1 then (slice b 8 24).takeWhile (fun x => x != 0) else [])
  let mac := if st = 1 then slice b 32 6 else List.replicate 6 0
  let s4 := s3.setOct 0x1020 4 (mgetD mac s3.fw.storeOcts (okey 0x1020 4))
  let s5 := (List.range 32).foldl (fun s n =>
    s.setReg 0x1021 n (mgetD (if st = 1 then beAt b (40 + 2 * n) 2 else 0) s.fw.store (okey 0x1021 n))) s4
  let s6 := if st = 1 then s5 else s5.bootFault 5
  ((List.range 32).foldl (fun s n =>
    s.setReg (0x1100 + n) 1 (if s.fitted n then 1 else 0)) s6).applyProfiles

/-! ### The power-on start (R99 to R101, R104) -/

/-- Records kept for the fault log are appended once the flash is powered (R556). -/
def State.flushFaults (s : State) : State :=
  let fl := s.fw.faultLog ++ s.fw.pendingFaults
  s.setFaults (fl.drop (fl.length - 32768)) []

/-- Whether a writable persistent object of a key is restored from flash at a power-on start, or only at a wake. -/
def restored (k : Nat) : Bool := (dictRow (k / 256) (k % 256)).any fun d => d.p && decide (d.access ≠ .ro)

/-- P objects take the values in flash (R102 step 8, R120), those that `pick` names. -/
def State.restoreP (s : State) (pick : Nat → Bool) : State :=
  let keep (k : Nat) : Bool := !(restored k && pick k)
  let s1 := { s with
    objs := s.objs.filter (fun (k, _) => keep k)
    octs := s.octs.filter (fun (k, _) => keep k) }
  let s2 := s1.fw.store.foldl (fun s (k, v) => if keep k then s else s.setReg (k / 256) (k % 256) v) s1
  s2.fw.storeOcts.foldl (fun s (k, v) => if keep k then s else s.setOct (k / 256) (k % 256) v) s2

/-- Objects that Tidewatch keeps and serves in every mode (R71): a wake finds them as DORMANT left them. -/
def tidewatchObject (k : Nat) : Bool := dormantServed (k / 256)

/-- Cage map and MAC addresses, which the board record sets. -/
def boardObject (k : Nat) : Bool := decide (k / 256 = 0x1021) || decide (k = okey 0x1020 4)

/-- Tidewatch takes the image of a slot; a trial slot begins its trial. -/
def State.loadTidewatch (s : State) (k : Nat) (trial : Bool) : State :=
  { s with
    power := { s.power with tidewatchUp := true, recovery := false }
    fw := { s.fw with
      tidewatchImage := (bundleSection (((s.fw.slot k).map (·.bytes)).getD []) 2).getD []
      trial := if trial then some { warm := false, slot := k, since := none, healthy := true } else none } }

/-- Tidewatch starts from the slot chosen (R99 step 4, R104 step 4): BOOT_COUNT counts, and a trial slot begins its trial. -/
def State.startTidewatch (s : State) (k : Nat) (board : List Byte) : State :=
  let trial := (s.fw.bootCurrent.bind (·.2.trialSlot)) == some k
  let s1 := s.loadTidewatch k trial
  let s2 := ((s1.setReg 0x1000 9 k).incReg 0x1000 6).setRunning k
  let s3 := s2.setReg 0xE020 8 (if trial then 1 else 0)
  let s4 := s3.restoreP fun k => tidewatchObject k && !boardObject k
  let s5 := ((s4.setReg 0x2200 1 1).setReg 0x2200 2 1).readBoard board
  let s6 := s5.setReg 0x3181 0 0
  if s5.reg 0x1010 2 = 1 then
    ({ s6 with power := { s6.power with start := .bootPath } }).setMs fun m => { m with target := some .bringup }
  else { s6 with power := { s6.power with start := .idle, pins := { s6.power.pins with pwrEnMain := false } } }

/-- No slot verifies: the recovery service (R101). -/
def State.enterRecovery (s : State) : State :=
  let s1 := s.setReg 0x1000 9 2
  { s1 with power := { s1.power with recovery := true, start := .idle, pins := { s1.power.pins with pwrEnMain := false } } }

/-- PWR_GOOD_MAIN_RISE (R51, R97 to R101, R104): the main rails are good. A wake goes on to the boot path. At a power-on start the boot
ROM reads the boot record copies, `bad0` and `bad1` telling those that fail R97, chooses a slot and starts Tidewatch, which reads the
board EEPROM, nothing standing for no acknowledgement. -/
def execPwrGoodMainRise (bad0 bad1 : Bool) (board : List Byte) (s : State) : Host.Outcome State Fault Refusal :=
  .next (let s0 := { s with power := { s.power with pins := { s.power.pins with pwrGoodMain := true } } }
    match s.power.start with
    | .waitPower _ false => { s0 with power := { s0.power with start := .bootPath } }
    | .waitPower _ true =>
      let s1 := { s0 with fw := { s0.fw with
        boot0 := if bad0 then none else s0.fw.boot0, boot1 := if bad1 then none else s0.fw.boot1 } }
      let s1a := s1.flushFaults.setReg 0x1000 0x0A 0
      let s1b := if s1a.fw.boot0.isNone then s1a.bootFault 0 else s1a
      let s2 := (if s1b.fw.boot1.isNone then s1b.bootFault 1 else s1b).installPending
      let (order, s3) := s2.slotOrder
      match s3.chooseSlot order with
      | (some k, s4) => s4.startTidewatch k board
      | (none, s4) => s4.enterRecovery
    | _ => s0)

/-! ### The boot path (R102, R103, R113, R398, R437) -/

/-- The steward images fail their check (R103): the slot is marked refused, a trial slot fails its trial, and the device is in DORMANT
again; a later wake draws MODE until the next power-on start. -/
def State.refuseImages (s : State) : State :=
  let k := s.fw.runningSlot
  let s1 := (s.bootFault 6).writeBoot fun r => r.setRefused k true
  let s2 := if (s.fw.bootCurrent.bind (·.2.trialSlot)) = some k then s1.failTrial 4 else s1
  s2.sinkDormant.setMs fun m => { m with status := .aborted, wakeRefused := true }

/-- Step 5 (R437): the groups train; each gives the wires it had to replace from FE to TM and from TM to FE. -/
def State.trainGroups (s : State) (spares : List (Nat × Nat)) : State :=
  (List.range 16).foldl (fun s g =>
    let (a, b) := spares.getD g (0, 0)
    let s1 := s.setReg 0x3701 g (Nat.min 2 a * 4 + Nat.min 2 b)
    if 2 < a ∨ 2 < b then
      let x := mgetD .reset s1.ports.groups g
      (({ s1 with ports := { s1.ports with groups := mput s1.ports.groups g { x with failedSince := s1.now } } }).setReg 0x3700 g 3).healthFree 6 0 (natBe g 1)
    else
      let s2 := s1.setReg 0x3700 g 2
      if a = 0 ∧ b = 0 then s2 else s2.health 6 1 0 (natBe g 1)) s

/-- Steps 4 to 11: the domains are ON; the mate quads come on with the pair. -/
def State.domainsOn (s : State) : State :=
  (List.range 211).foldl (fun s k =>
    let n := k + 1
    if n = 185 ∨ n = 186 then s else s.setDomain n 2) s

/-- Step 8: P objects restored from a readable half; with neither readable every P object takes its default, and the health report
records it (R103). -/
def State.restoreStore (s : State) (half0 half1 : Bool) : State :=
  let s1 := { s with power := { s.power with storeHalf0 := half0, storeHalf1 := half1 } }
  if half0 ∨ half1 then s1.restoreP fun k => !tidewatchObject k && !boardObject k
  else
    let isP (k : Nat) : Bool := (dictRow (k / 256) (k % 256)).any (·.p)
    ({ s1 with
      objs := s1.objs.filter (fun (k, _) => !isP k), octs := s1.octs.filter (fun (k, _) => !isP k)
      fw := { s1.fw with store := [], storeOcts := [] } }).healthFree 2 0 []

/-- Step 9 (R113): a stack's identity is read, and a stack that is not accepted is out of service. -/
def State.readStack (s : State) (h : Nat) (x : StackId) : State :=
  let good := decide (x.capacityMib = 24576) && (decide (x.height = 8) || decide (x.height = 12))
  let s1 := s.setReg (0x1200 + h) 1 (if !x.answers then 1 else if good then 0 else 2)
  if !x.answers then s1.stackOut h 1
  else
    let s2 := (s1.setOct (0x1200 + h) 2 x.deviceId).setReg (0x1200 + h) 3 x.manufacturer
    let s3 := ((s2.setReg (0x1200 + h) 4 x.height).setReg (0x1200 + h) 5 x.capacityMib).setOct (0x1200 + h) 6 x.serial
    if good then s3 else s3.stackOut h 2

/-- Step 10 (R398): the delays in force are those saved where every stack's serial is the one recorded with them. Otherwise the bundle's
factory values and a full sweep give them: free values (log entry 1). -/
def State.startDelays (s : State) (stackIds : List StackId) : State :=
  let same := (List.range 4).all fun h =>
    mget s.hbm.savedSerials h == some (beNat (stackIds.getD h ⟨false, [], 0, 0, 0, []⟩).serial)
  (List.range 128).foldl (fun s cc =>
    if same then s.setPc cc { s.pc cc with delays := mgetD (List.replicate 96 0) s.hbm.saved cc }
    else
      let (bs, s1) := s.drawBytes 96
      s1.setPc cc { s1.pc cc with delays := bs }) s

/-- BOOT_PATH (R102, R103): the boot path ends, in BRINGUP or, with steward images that fail their check, in DORMANT. The operands are
what the device finds on its way: the images' check, the readable halves of the store, the stacks, the wires replaced in each
die-to-die group, and the memory units that failed the clear of step 11, which reports as a test of scopes 0, 1, 2, 4 and 5 (R552). -/
def execBootPath (images half0 half1 : Bool) (stackIds : List StackId) (spares : List (Nat × Nat)) (failed : List (List Byte)) (s : State) :
    Host.Outcome State Fault Refusal :=
  .next (if s.power.start ≠ .bootPath then s
    else
      let s0 := (({ s with power := { s.power with start := .idle } }).flushFaults.setReg 0x2200 2 0x3F).setClock 0
      if !images then s0.refuseImages
      else
        let s1 := ((s0.domainsOn.trainGroups spares).loadIntegrator.startStewards).restoreStore half0 half1
        let s2 := (List.range 4).foldl (fun s h => (s.setReg 0x7101 h 0).setReg 0x7102 h 0) s1
        let s3 := (List.range 4).foldl (fun s h => s.readStack h (stackIds.getD h ⟨false, [], 0, 0, 0, []⟩)) s2
        let s4 := ((s3.startDelays stackIds).reportBist 0x37 failed).applyProfiles
        let s5 := s4.powerPair.startLinks.portsReset
        let s6 := (s5.completeMode .bringup).setMs fun m => { m with status := .done, afterTrip := false }
        s6.tryRejoin)

/-! ### Reference clocks (R65, R69) -/

/-- REFCLK_LOSS (R69): reference k of REFCLK_PPB is lost, and the lanes that it serves are dropped. -/
def execRefclkLoss (k : Nat) (s : State) : Host.Outcome State Fault Refusal :=
  .next (if 0x13 < k ∨ s.power.refclkLost.contains k then s
    else
      let s1 := ({ s with power := { s.power with refclkLost := k :: s.power.refclkLost } }).setReg 0x2201 k 0x80000000
      let s2 := s1.bump 0x2203 2
      if k < 8 then
        let lanes := (List.range 16).map (16 * k + ·)
        let ports := (lanes.map s2.lanePort).eraseDups.filter (· < 128)
        let s3 := s2.setLanes (lanes.filter fun l => decide (s2.reg 0x3200 l ≠ 0)) 1
        ports.foldl (fun s p => s.causeOnset p 10) (lanes.foldl (fun s l => s.abortTestOn 0 l) s3)
      else if k < 0x12 then
        let links := (List.range 16).map (16 * (k - 8) + ·)
        let s3 := links.foldl (fun s l => (s.failLink l 0).abortTestOn 1 l) s2
        if k = 0x11 then (List.range 8).foldl State.failLane s3 else s3
      else if k = 0x12 then { s2 with host := { s2.host with linkUp := false } }
      else
        let s3 := s2.setReg 0x3181 1 0
        if s3.reg 0x3180 0 = 1 ∧ s3.mode ≠ .dormant then s3.setReg 0x3181 0 0 else s3)

/-- REFCLK_RETURN (R69): reference k runs again with this offset in parts per 10^9; its lanes retrain by their own events. -/
def execRefclkReturn (k : Nat) (ppb : Int) (s : State) : Host.Outcome State Fault Refusal :=
  .next (if s.power.refclkLost.contains k then
      ({ s with power := { s.power with refclkLost := s.power.refclkLost.filter (· ≠ k) } }).setReg 0x2201 k (ofSigned 32 ppb)
    else s)

/-! ### The PCIe endpoint (R93, R454, R464) -/

/-- PCIE_PERST_N_LOW (R93, R464, R472, R474): fetching stops and fetched descriptors are discarded, completions that wait to be written
are lost, every ring pair is DISABLED, the MSI-X table is reset, and the host's claims and locks end. Started work runs on. -/
def execPciePerstNLow (s : State) : Host.Outcome State Fault Refusal :=
  .next (let stop (c : HostChannel) : HostChannel := { c with ring := .disabled, fetched := [], staged := [], scanning := false, unsignalled := 0 }
    let s1 := { s with
      power := { s.power with pins := { s.power.pins with pciePerstN := false } }
      host := { s.host with
        channels := mmap s.host.channels fun _ c => stop c
        msixTable := [], msixPending := [], linkUp := false
        locks := s.host.locks.filter fun (_, m) => decide (m ≠ 0xD0) } }
    s1.abandonHost)

/-- PCIE_PERST_N_HIGH (R93): the pin rises; the link trains, and every ring pair stays disabled. -/
def execPciePerstNHigh (s : State) : Host.Outcome State Fault Refusal :=
  .next { s with power := { s.power with pins := { s.power.pins with pciePerstN := true } } }

/-- PCIE_LINK_TRAINED (R93, R442): the link is up with this many lanes at this rate, 1 to 5 for 2.5 to 32 GT/s, and the endpoint
answers configuration requests. It lies in PD208, which is off in DORMANT. -/
def execPcieLinkTrained (lanes rate : Nat) (s : State) : Host.Outcome State Fault Refusal :=
  .next (if !s.power.pins.pciePerstN ∨ s.mode = .dormant ∨ s.power.refclkLost.contains 0x12 ∨ 16 < lanes ∨ lanes = 0 ∨ 5 < rate ∨ rate = 0
      then s
    else ({ s with host := { s.host with linkUp := true } }).setReg 0xA000 3 (lanes * 256 + rate))

end Sys2Proof.Machine
end

