-- ==== Sys2Proof/Machine/Counters.lean ====
section
/-! DEFINITION. Sys2Proof/Machine/Counters.lean: the meanings of the commands on counters, counter sets, statistics, snapshots and
trace rings (R500 to R520). -/

namespace Sys2Proof.Machine

/-- The effect of a COUNTER_CLEAR write of 8 bytes (R502). -/
def clearEffect (c : List Byte) (s : State) : Status × State :=
  let sub := byteAt c 1
  let idx := beAt c 2 2
  let h := beAt c 4 4
  let on (kind : Nat) (f : Nat → State) : Status × State :=
    match s.checkHandle kind h with
    | .ok => if sub = 0 ∧ idx = 0 then (.ok, f (handleIndex h)) else (.range, s)
    | st => (st, s)
  if c.length ≠ 8 then (.range, s) else
  match byteAt c 0 with
  | 0 => if h = 0 ∧ isV idx sub then (.ok, s.clearV idx sub) else (.range, s)
  | 1 =>
    if h = 0 ∧ sub = 0 ∧ (dictionary.any fun d => decide (d.idxLo ≤ idx ∧ idx ≤ d.idxHi) && d.v) then
      (.ok, s.clearVs (fun k => decide (k / 256 = idx)))
    else (.range, s)
  | 2 => if h = 0 ∧ sub = 0 ∧ idx = 0 then (.ok, s.clearVs (fun _ => true)) else (.range, s)
  | 3 => on 4 s.clearSet
  | 4 => on 1 s.clearQueueStats
  | 5 => on 2 s.clearChannelStats
  | 6 => if h = 0 ∧ sub = 0 ∧ idx ≤ 4095 then (.ok, s.clearHistogram idx) else (.range, s)
  | 7 =>
    if h = 0 ∧ sub = 0 ∧ idx = 0 then
      let s1 := s.clearVs (fun _ => true)
      let s2 := (s1.stats.sets.map (·.1)).foldl State.clearSet s1
      let s3 := { s2 with stats := { s2.stats with queues := [], queueDeltas := [], channels := [], channelDeltas := [] } }
      (.ok, (s3.tm.watches.map (·.1)).foldl State.clearHistogram s3)
    else (.range, s)
  | _ => (.range, s)

/-- The 8 bytes of a COUNTER_CLEAR (R502). -/
def clearBytes (scope sub idx h : Nat) : List Byte := natBe scope 1 ++ natBe sub 1 ++ natBe idx 2 ++ natBe h 4

/-- CLEAR_OBJECT (R502): scope OBJECT. -/
def execClearObject (o : Origin) (idx sub : Nat) (s : State) : Host.Outcome State Fault Refusal :=
  .next (s.runWrite o 0xC000 3 (clearBytes 0 sub idx 0) clearEffect)

/-- CLEAR_INDEX (R502): scope INDEX. -/
def execClearIndex (o : Origin) (idx : Nat) (s : State) : Host.Outcome State Fault Refusal :=
  .next (s.runWrite o 0xC000 3 (clearBytes 1 0 idx 0) clearEffect)

/-- CLEAR_ALL_OBJECTS (R502): scope ALL_OBJECTS. -/
def execClearAllObjects (o : Origin) (s : State) : Host.Outcome State Fault Refusal :=
  .next (s.runWrite o 0xC000 3 (clearBytes 2 0 0 0) clearEffect)

/-- CLEAR_COUNTER_SET (R502): scope COUNTER_SET. -/
def execClearCounterSet (o : Origin) (h : Nat) (s : State) : Host.Outcome State Fault Refusal :=
  .next (s.runWrite o 0xC000 3 (clearBytes 3 0 0 h) clearEffect)

/-- CLEAR_QUEUE_STATS (R502): scope QUEUE_STATS. -/
def execClearQueueStats (o : Origin) (h : Nat) (s : State) : Host.Outcome State Fault Refusal :=
  .next (s.runWrite o 0xC000 3 (clearBytes 4 0 0 h) clearEffect)

/-- CLEAR_CHANNEL_STATS (R502): scope CHANNEL_STATS. -/
def execClearChannelStats (o : Origin) (h : Nat) (s : State) : Host.Outcome State Fault Refusal :=
  .next (s.runWrite o 0xC000 3 (clearBytes 5 0 0 h) clearEffect)

/-- CLEAR_HISTOGRAM (R502): scope HISTOGRAM. -/
def execClearHistogram (o : Origin) (entry : Nat) (s : State) : Host.Outcome State Fault Refusal :=
  .next (s.runWrite o 0xC000 3 (clearBytes 6 0 entry 0) clearEffect)

/-- CLEAR_EVERYTHING (R502): scope EVERYTHING. -/
def execClearEverything (o : Origin) (s : State) : Host.Outcome State Fault Refusal :=
  .next (s.runWrite o 0xC000 3 (clearBytes 7 0 0 0) clearEffect)

/-- Creation of a counter set (R128, R503): 4 bytes of USER_TAG and 4 reserved bytes. -/
def createCounterSet (v : List Byte) (s : State) : Except Status (Nat × State) :=
  if v.length ≠ 8 ∨ beAt v 4 4 ≠ 0 then .error .range
  else match lowestFree s.stats.sets 1048576 with
    | none => .error .noResource
    | some i =>
      let e : CounterSet := { tag := beAt v 0 4, packets := 0, bytes := 0 }
      .ok (s.handle 4 i, { s with stats := { s.stats with sets := mput s.stats.sets i e } })

/-- COUNTER_SET_CREATE (R503). -/
def execCounterSetCreate (o : Origin) (v : List Byte) (s : State) : Host.Outcome State Fault Refusal :=
  .next (State.endCreate o 0xC101 v (s.runCreate o 0xC101 v createCounterSet))

/-- What the read of a flush finds in the entry's burst: 0 no error, 1 a corrected one, 2 an uncorrectable one, which makes the entry
zero with LOST set (R410, R508). -/
def State.flushError (s : State) (kind i err : Nat) : State :=
  let a := s.statAddress kind i
  match err with
  | 1 => s.correctedBurst (channelOf a)
  | 2 => (s.loseStat kind i).badBurst (channelOf a) (a / 131072)
  | _ => s

/-- STATS_FLUSH (R506): a delta of this KIND and index is flushed; a flush that falls due wakes sleeping stacks, and is made once
they are ACTIVE. The entry's row is activated (R401). -/
def execStatsFlush (kind i err : Nat) (s : State) : Host.Outcome State Fault Refusal :=
  let s1 := s.touchHbm
  .next (if !s1.stacksActive then s1
    else (((s1.count 0x7120 2 1).activateRow (channelOf (s1.statAddress kind i))).flushError kind i err).flushDelta kind i)

/-- The effect of a SNAPSHOT write (R509): 1 freezes an image, BUSY while one is being built. -/
def snapshotEffect (c : List Byte) (s : State) : Status × State :=
  if beNat c ≠ 1 then (.range, s)
  else if s.stats.snapshot = 1 then (.busy, s)
  else (.ok, ({ s with stats := { s.stats with snapshot := 1, building := some s.imageNow } }).setReg 0xC001 2 s.ptp)

/-- SNAPSHOT (R509). -/
def execSnapshot (o : Origin) (v : List Byte) (s : State) : Host.Outcome State Fault Refusal :=
  .next (s.runWrite o 0xC001 1 v snapshotEffect)

/-- SNAPSHOT_READY (R509): the image in building becomes the READY one. -/
def execSnapshotReady (s : State) : Host.Outcome State Fault Refusal :=
  .next (match s.stats.building with
    | some im => { s with stats := { s.stats with snapshot := 2, ready := some im, building := none } }
    | none => s)

/-- The answer to a SNAPSHOT_QUERY (R510), from the READY image. -/
def snapshotAnswer (c : List Byte) (s : State) : Status × List Byte × State :=
  let kind := byteAt c 0
  let sub := byteAt c 1
  let idx := beAt c 2 2
  let h := beAt c 4 4
  let bad (st : Status) : Status × List Byte × State := (.ok, natBe st.code 1 ++ [0, 0, 0], s)
  if c.length ≠ 8 ∨ 3 < kind ∨ (kind = 0 ∧ h ≠ 0) ∨ (kind ≠ 0 ∧ (sub ≠ 0 ∨ idx ≠ 0)) then (.range, [], s)
  else match s.stats.ready with
    | none => bad .noObject
    | some im =>
      if kind = 0 then
        if !dictHasIndex idx then bad .noObject
        else if (dictRow idx sub).isNone then bad .noSubindex
        else if !isV idx sub then bad .range
        else
          let n := if counterSpan idx sub = 2 ^ 64 then 8 else 4
          (.ok, [0, 0, 0, 0] ++ natBe (mgetD 0 im.objs (okey idx sub)) n, s)
      else
        let hk := if kind = 1 then 4 else if kind = 2 then 1 else 2
        if handleKind h ≠ hk then bad .typeMismatch
        else if kindCapacity hk ≤ handleIndex h then bad .range
        else if !(im.live.contains (chanKey hk (handleIndex h), handleGen h)) then bad .staleHandle
        else
          let entries := if kind = 1 then im.sets else if kind = 2 then im.queues else im.channels
          (.ok, [0, 0, 0, 0] ++ mgetD [] entries (handleIndex h), s)

/-- SNAPSHOT_QUERY (R510). -/
def execSnapshotQuery (o : Origin) (v : List Byte) (s : State) : Host.Outcome State Fault Refusal :=
  .next (s.runQuery o 0xC001 3 0xC001 4 v snapshotAnswer)

/-- The answer to a WRAP_QUERY (R501). -/
def wrapAnswer (c : List Byte) (s : State) : Status × List Byte × State :=
  let idx := beAt c 0 2
  let sub := byteAt c 2
  if c.length ≠ 3 then (.range, [], s)
  else if !dictHasIndex idx then (.ok, [natBe Status.noObject.code 1, [0]].flatten, s)
  else if (dictRow idx sub).isNone then (.ok, [natBe Status.noSubindex.code 1, [0]].flatten, s)
  else if !isV idx sub then (.ok, [natBe Status.range.code 1, [0]].flatten, s)
  else (.ok, [0, if mgetD false s.stats.wrapped (okey idx sub) then 1 else 0], s)

/-- WRAP_QUERY (R501). -/
def execWrapQuery (o : Origin) (v : List Byte) (s : State) : Host.Outcome State Fault Refusal :=
  .next (s.runQuery o 0xC003 1 0xC003 2 v wrapAnswer)

/-- The answer to a COUNTER_SET_QUERY (R507): entries of consecutive indices, up to the last index. -/
def counterSetAnswer (c : List Byte) (s : State) : Status × List Byte × State :=
  let h := beAt c 0 4
  let n := byteAt c 4
  if c.length ≠ 8 then (.range, [], s)
  else match s.checkHandle 4 h with
    | .ok =>
      if n = 0 ∨ 16 < n ∨ beAt c 5 3 ≠ 0 then (.range, [], s) else
      let i := handleIndex h
      let n := min n (1048576 - i)
      (.ok, [0] ++ natBe n 1 ++ [0, 0] ++ ((List.range n).map (fun k => s.setEntry (i + k))).flatten, s)
    | st => (.ok, natBe st.code 1 ++ [0, 0, 0], s)

/-- COUNTER_SET_QUERY (R507). -/
def execCounterSetQuery (o : Origin) (v : List Byte) (s : State) : Host.Outcome State Fault Refusal :=
  .next (s.runQuery o 0xC102 1 0xC102 2 v counterSetAnswer)

/-- The answer to a HISTOGRAM_QUERY (R518): 32 bins of a watch entry. -/
def histogramAnswer (c : List Byte) (s : State) : Status × List Byte × State :=
  let w := beAt c 0 2
  if c.length ≠ 2 ∨ 4095 < w then (.range, [], s)
  else
    let bins := ((mget s.tm.watches w).map (·.bins)).getD []
    (.ok, [0, 0, 0, 0] ++ ((List.range 32).map (fun b => natBe (mgetD 0 bins b) 8)).flatten, s)

/-- HISTOGRAM_QUERY (R518). -/
def execHistogramQuery (o : Origin) (v : List Byte) (s : State) : Host.Outcome State Fault Refusal :=
  .next (s.runQuery o 0xC840 1 0xC840 2 v histogramAnswer)

/-- The answer to a TRACE_READ (R519). -/
def traceAnswer (c : List Byte) (s : State) : Status × List Byte × State :=
  let k := byteAt c 0
  let n := byteAt c 1
  let first := beAt c 4 8
  if c.length ≠ 12 ∨ 3 < k ∨ n = 0 ∨ 16 < n ∨ beAt c 2 2 ≠ 0 then (.range, [], s)
  else if k ≠ 3 ∧ !s.stacksGood then (.ok, natBe Status.noResource.code 1 ++ List.replicate 19 0, s)
  else
    let r := s.ring k
    let oldest := r.next - r.recs.length
    let start := max first oldest
    let recs := (r.recs.drop (start - oldest)).take n
    (.ok, [0] ++ natBe recs.length 1 ++ natBe (if first < oldest then 1 else 0) 1 ++ [0] ++ natBe oldest 8 ++ natBe r.next 8
      ++ recs.flatten, s)

/-- TRACE_READ (R519). -/
def execTraceRead (o : Origin) (v : List Byte) (s : State) : Host.Outcome State Fault Refusal :=
  .next (s.runQuery o 0xC810 1 0xC810 2 v traceAnswer)

/-- The effect of a RING_RESET write (R519): a write of 0 empties the four rings and restarts their numbering; a write of 1
changes nothing (log entry 14). -/
def ringResetEffect (c : List Byte) (s : State) : Status × State :=
  (.ok, if beNat c = 0 then { s with stats := { s.stats with rings := [] } } else s)

/-- RING_RESET (R519). -/
def execRingReset (o : Origin) (v : List Byte) (s : State) : Host.Outcome State Fault Refusal :=
  .next (s.runWrite o 0xC810 3 v ringResetEffect)

end Sys2Proof.Machine
end

