-- ==== Sys2Proof/Machine/Ports.lean ====
section
/-! DEFINITION. Sys2Proof/Machine/Ports.lean: the meanings of the commands on ports, lanes, pins of time and management links (R415 to
R435). -/

namespace Sys2Proof.Machine

/-! ### Placing and enabling ports -/

/-- The effect of a PORT_MODE write (R415 to R418, R543). -/
def portModeEffect (p : Nat) (c : List Byte) (s : State) : Status × State :=
  let m := beNat c
  let k := s.reg 0x3001 p
  if m = s.reg 0x3000 p then (.ok, s)
  else if 5 < m ∨ (m ≠ 0 ∧ (!s.modePlaces p m ∨ (k < 16 ∧ 1600 < s.sliceRate k p m k)
      ∨ (k = 0xFF ∧ s.mode ≠ .bringup ∧ s.mode ≠ .diagnostic))) then (.range, s)
  else if s.reg 0x3002 p ≠ 0 ∨ s.reg 0x7043 p = 1 then (.busy, s)
  else
    let s1 := s.setLanes (s.portLanes p) 0
    let s2 := (lanesOf p m).foldl (fun s l => s.abortTestOn 0 l) s1
    (.ok, (s2.setReg 0x3000 p m).setReg 0x3003 p (if m = 0 then 0 else 1))

/-- PORT_MODE (R418). -/
def execPortMode (o : Origin) (p : Nat) (v : List Byte) (s : State) : Host.Outcome State Fault Refusal :=
  .next (s.runWrite o 0x3000 p v (portModeEffect p))

/-- The effect of a PORT_SLICE write (R416). -/
def portSliceEffect (p : Nat) (c : List Byte) (s : State) : Status × State :=
  let k := beNat c
  if k < 16 ∧ (1600 < s.sliceRate k p (s.reg 0x3000 p) k ∨ s.reg 0x3700 k = 3) then (.range, s)
  else (.ok, s.setReg 0x3001 p k)

/-- PORT_SLICE (R416). -/
def execPortSlice (o : Origin) (p : Nat) (v : List Byte) (s : State) : Host.Outcome State Fault Refusal :=
  .next (s.runWrite o 0x3001 p v (portSliceEffect p))

/-- The effect of a PORT_ADMIN write (R418, R419). -/
def portAdminEffect (p : Nat) (c : List Byte) (s : State) : Status × State :=
  let v := beNat c
  if v = s.reg 0x3002 p then (.ok, s)
  else if v = 1 then
    if s.reg 0x7043 p = 1 then (.busy, s) else (.ok, (s.setReg 0x3002 p 1).startPort p)
  else
    let s1 := ((s.setReg 0x3002 p 0).portDown p 1 1).setLanes (s.portLanes p) 0
    let s2 := s1.setPort p { s1.port p with activation := 0, cause := none, cleanSince := none }
    (.ok, if s.reg 0x3000 p = 0 then s2 else (s2.setReg 0x3003 p 1).releaseModule p)

/-- PORT_ADMIN_ENABLE (R419): a write of PORT_ADMIN 1. -/
def execPortAdminEnable (o : Origin) (p : Nat) (s : State) : Host.Outcome State Fault Refusal :=
  .next (s.runWrite o 0x3002 p [1] (portAdminEffect p))

/-- PORT_ADMIN_DISABLE (R418): a write of PORT_ADMIN 0. -/
def execPortAdminDisable (o : Origin) (p : Nat) (s : State) : Host.Outcome State Fault Refusal :=
  .next (s.runWrite o 0x3002 p [0] (portAdminEffect p))

/-- Step 4 of R419: the data path of the port's host lanes is set up and initialised. -/
def State.initDataPath (s : State) (p n : Nat) : State :=
  let i := p - s.cageFirst n
  let code := BitVec.ofNat 8 (s.applSel n p * 16 + i * 2)
  let s1 := s.emit (.twoWire n 0 0x10 (145 + i) ((s.portLanes p).map fun _ => code))
  let s2 := s1.emit (.twoWire n 0 0x10 143 [BitVec.ofNat 8 (s.hostMask n p)])
  s2.writeDeinit n ((s2.cage n).deinit &&& (255 - s.hostMask n p))

/-- MODULE_ACTIVATION_STEP (R419): the module has reached ModuleReady (step 3), or DPActivated on every host lane (step 5). -/
def execModuleActivationStep (p : Nat) (s : State) : Host.Outcome State Fault Refusal :=
  .next (let x := s.port p
         match s.cageOf p, x.activation with
         | some n, 3 =>
           if s.moduleState n ≠ 3 ∨ s.reg 0x3003 p ≠ 2 then s
           else (s.initDataPath p n).setPort p { x with activation := 5, activationSince := s.now }
         | some n, 5 => if s.moduleState n ≠ 3 ∨ s.reg 0x3003 p ≠ 2 then s else s.portOn p
         | _, _ => s)

/-- MODULE_ACTIVATION_TIMEOUT (R419): a step overran its time, and the port waits with cause MODULE_FAULT. -/
def execModuleActivationTimeout (p : Nat) (s : State) : Host.Outcome State Fault Refusal :=
  .next (let x := s.port p
         if x.activation = 0 ∨ s.reg 0x3003 p ≠ 2 then s
         else (s.setPort p { x with activation := 0 }).setReg 0x300B p 9)

/-! ### Link down and up -/

/-- LINK_FAULT_ONSET (R424, R430): SIGNAL_LOSS, FEC_ALIGN, PCS_ALIGN, LOCAL_FAULT or REMOTE_FAULT, causes 3 to 7, on a lane of a
port. A lane that loses its signal leaves LOCKED. -/
def execLinkFaultOnset (p cause lane : Nat) (s : State) : Host.Outcome State Fault Refusal :=
  .next (if 128 ≤ p ∨ cause < 3 ∨ 7 < cause ∨ s.reg 0x3003 p < 3 then s
    else
      let mine := (s.portLanes p).contains lane
      let s1 := if mine ∧ s.reg 0x3200 lane ≠ 0 ∧ cause ≤ 5 then s.setLanes [lane] (if cause = 3 then 1 else 2) else s
      s1.causeOnset p cause)

/-- LINK_DOWN_HOLD_EXPIRY (R424): a cause has held for LINK_DOWN_HOLD_US. -/
def execLinkDownHoldExpiry (p : Nat) (s : State) : Host.Outcome State Fault Refusal :=
  .next (match (s.port p).cause with
    | none => s
    | some (c, t) => (s.reach (t + s.reg 0x3005 p * 1000)).portDown p c 3)

/-- LANE_REACQUIRED (R424, R425, R430): a lane in use is LOCKED with FEC and PCS aligned; once every lane of its port is, a cause
that was held has ended and the up hold begins. -/
def execLaneReacquired (lane : Nat) (s : State) : Host.Outcome State Fault Refusal :=
  .next (if 128 ≤ lane ∨ s.reg 0x3200 lane = 0 ∨ s.power.refclkLost.contains (lane / 16) then s
    else
      let s1 := s.setLanes [lane] 3
      let p := s.lanePort lane
      if p = 0xFF ∨ !s1.lanesLocked p then s1
      else s1.setPort p { s1.port p with cause := none, cleanSince := some s.now })

/-- LINK_UP (R425): every lane has been clean for the longer of 100 µs and LINK_UP_HOLD_MS. -/
def execLinkUp (p : Nat) (s : State) : Host.Outcome State Fault Refusal :=
  .next (match (s.port p).cleanSince with
    | none => s
    | some t =>
      let k := s.reg 0x3001 p
      if 128 ≤ p ∨ s.reg 0x3003 p ≠ 3 ∨ !s.lanesLocked p ∨ s.reg 0x3000 p = 0 ∨ (k < 16 ∧ s.reg 0x3700 k = 3) then s
      else
        let s1 := s.reach (t + Nat.max 100000 (s.reg 0x3006 p * 1000000))
        ((s1.setReg 0x3003 p (if s1.reg 0x7043 p = 1 then 4 else 5)).bump 0x3008 p).setReg 0x300A p s1.ptp)

/-! ### Time (R428, R429) -/

/-- The effect of a TX_STAMP_POP write of 1 to 16 (R428). -/
def stampPopEffect (o : Origin) (p : Nat) (c : List Byte) (s : State) : Status × State :=
  let n := beNat c
  if c.length ≠ 1 ∨ n = 0 ∨ 16 < n then (.range, s)
  else
    let x := s.port p
    (.ok, (s.setPort p { x with stamps := x.stamps.drop n }).setResult o 0x3023 p (x.stamps.take n).flatten)

/-- TX_STAMP_POP (R428). -/
def execTxStampPop (o : Origin) (p : Nat) (v : List Byte) (s : State) : Host.Outcome State Fault Refusal :=
  .next (s.runWrite o 0x3023 p v (stampPopEffect o p))

/-- PPS_IN_EDGE (R429): a rising edge of PPS_IN; the clock stops in DORMANT. -/
def execPpsInEdge (s : State) : Host.Outcome State Fault Refusal :=
  .next (let s1 := { s with power := { s.power with pins := { s.power.pins with ppsIn := true } } }
         if s.mode = .dormant then s1 else (s1.setReg 0x3100 4 s.ptp).bump 0x3100 5)

/-- PPS_OUT_SECOND (R429): the clock comes to a whole second, and PPS_OUT rises. -/
def execPpsOutSecond (s : State) : Host.Outcome State Fault Refusal :=
  .next (if s.mode = .dormant ∨ s.reg 0x3100 6 = 0 then s
    else
      let fine := s.clockFine
      let second := 10 ^ 9 * 2 ^ 32
      let left := (second - fine % second) % second
      let s1 := s.reach (s.now + (left + 2 ^ 32 - 1) / 2 ^ 32)
      { s1 with
        power := { s1.power with pins := { s1.power.pins with ppsOut := true } }
        ports := { s1.ports with ppsRose := some s1.now } })

/-- PPS_OUT_FALL (R429). -/
def execPpsOutFall (s : State) : Host.Outcome State Fault Refusal :=
  .next (match s.ports.ppsRose with
    | none => s
    | some t =>
      let s1 := s.reach (t + 100000000)
      { s1 with
        power := { s1.power with pins := { s1.power.pins with ppsOut := false } }
        ports := { s1.ports with ppsRose := none } })

/-! ### Adaptation and margins (R431 to R433, R555) -/

/-- A lane by the model's number: its range base and its number there (0 to 127 network, 1,000 + n fabric, 2,000 + n mate). -/
def laneBase (k : Nat) : Option (Nat × Nat) :=
  if k < 128 then some (0x3200, k)
  else if 1000 ≤ k ∧ k < 1160 then some (0x3400, k - 1000)
  else if 2000 ≤ k ∧ k < 2008 then some (0x3600, k - 2000)
  else none

/-- A lane is LOCKED; fabric and mate lanes report it through their link's state (R433). -/
def State.laneLocked (s : State) (k : Nat) : Bool :=
  match laneBase k with
  | some (0x3200, l) => decide (s.reg 0x3200 l = 3)
  | some (0x3400, l) => decide (2 ≤ s.reg 0x3400 l ∧ s.reg 0x3400 l ≤ 4)
  | some (b, l) => decide (s.reg b l = 3)
  | none => false

/-- The adaptation of a lane may step (R431, R547): a LOCKED lane, and under test a lane whose checker is locked. -/
def State.laneAdapts (s : State) (k : Nat) : Bool :=
  match mget s.test.tests (256 * (k / 1000) + k % 1000) with
  | some t => if t.running then decide (t.state = 2) && bitAt (byteAt t.params 3) 1 else s.laneLocked k
  | none => s.laneLocked k

/-- ADAPT_STEP (R431): a coefficient changes by one step, up or down; `before` is the corrected symbols of the millisecond before. -/
def execAdaptStep (lane coef : Nat) (up : Bool) (before : Nat) (s : State) : Host.Outcome State Fault Refusal :=
  .next (match laneBase lane with
    | none => s
    | some (b, l) =>
      let x := s.adapt lane
      if !s.laneAdapts lane ∨ s.reg (b + 0x12) l = 1 ∨ x.step.isSome ∨ s.now < mgetD 0 x.holds coef then s
      else
        let d : Int := if up then 1 else -1
        let x1 := { x with
          step := some (coef, d, s.now, before)
          holds := mdel x.holds coef
          coeffs := mput x.coeffs coef (mgetD 0 x.coeffs coef + d) }
        (s.setAdapt lane x1).bump (b + 0x18) l)

/-- ADAPT_EVALUATE (R431): the corrected symbols of the millisecond after a step are compared with those before it. -/
def execAdaptEvaluate (lane after : Nat) (s : State) : Host.Outcome State Fault Refusal :=
  .next (match laneBase lane, (s.adapt lane).step with
    | some (b, l), some (coef, d, t, before) =>
      let s1 := s.reach (t + 1000000)
      let x := s1.adapt lane
      if 2 * before + 16 < after then
        let x1 := { x with
          step := none
          holds := mput x.holds coef (s1.now + 100000000)
          coeffs := mput x.coeffs coef (mgetD 0 x.coeffs coef - d) }
        (s1.setAdapt lane x1).bump (b + 0x19) l
      else s1.setAdapt lane { x with step := none }
    | _, _ => s)

/-- MARGIN_MEASURE (R433, R555): the spare sampler's measurement of a lane: eye height and width, signal-to-noise ratio, the error
rate of the last second, and the codewords and symbols that the FEC counted since the last one. A lane that has been poor for 10 s is
recorded once as DEGRADED. -/
def execMarginMeasure (lane height width snr ber corrected uncorrected symbols : Nat) (s : State) : Host.Outcome State Fault Refusal :=
  .next (match laneBase lane with
    | none => s
    | some (b, l) =>
      if !s.laneLocked lane then s
      else
        let s1 := (s.setOct (b + 0x13) l (natBe height 2 ++ natBe width 2 ++ natBe snr 2 ++ [0, 0])).setReg (b + 0x17) l (min ber (2 ^ 32 - 1))
        let s2 := ((s1.count (b + 0x14) l corrected).count (b + 0x15) l uncorrected).count (b + 0x16) l symbols
        let x := s2.adapt lane
        if s2.reg 0xD042 1 ≤ height ∧ ber ≤ s2.reg 0xD042 2 then s2.setAdapt lane { x with poorSince := none, poorNoted := false }
        else
          let t := x.poorSince.getD s.now
          if t + 10000000000 ≤ s.now ∧ !x.poorNoted then
            (s2.setAdapt lane { x with poorSince := some t, poorNoted := true }).health 5 1 (if height < s2.reg 0xD042 1 then 1 else 2) (natBe lane 2)
          else s2.setAdapt lane { x with poorSince := some t })

/-! ### Management links (R435) -/

/-- Management port p may have a link: port 1 is off in DORMANT, and port 0 needs TWPLL unless it runs 10GBASE-R from REFCLK_MGT. -/
def State.mgmtPossible (s : State) (p : Nat) : Bool :=
  let ten := decide (s.reg 0x3180 p = 1) && decide (s.mode ≠ .dormant)
  decide (p < 2) && !(decide (p = 1) && decide (s.mode = .dormant))
    && !(ten && s.power.refclkLost.contains 0x13) && !(!ten && decide (p = 0) && s.power.twclkLost)

/-- MGMT_LINK_UP (R435). -/
def execMgmtLinkUp (p : Nat) (s : State) : Host.Outcome State Fault Refusal :=
  .next (if s.mgmtPossible p then s.setReg 0x3181 p 1 else s)

/-- MGMT_LINK_DOWN (R435). -/
def execMgmtLinkDown (p : Nat) (s : State) : Host.Outcome State Fault Refusal :=
  .next (if p < 2 then s.setReg 0x3181 p 0 else s)

end Sys2Proof.Machine
end

