-- ==== Sys2Proof/Machine/DieToDie.lean ====
section
/-! DEFINITION. Sys2Proof/Machine/DieToDie.lean: the meanings of the commands on the die-to-die groups and of a step of the IEEE 1588
clock (R426, R436 to R440). -/

namespace Sys2Proof.Machine

/-- The effect of a PTP_STEP_NS write: a signed number of ns is added to the clock (R426). Gates follow the clock (R319). -/
def ptpStepEffect (c : List Byte) (s : State) : Status × State :=
  (.ok, s.setClock (((s.clockFine : Int) + toSigned 64 (beNat c) * 2 ^ 32) % (2 ^ 96 : Nat)).toNat)

/-- PTP_STEP_NS (R426). -/
def execPtpStepNs (o : Origin) (v : List Byte) (s : State) : Host.Outcome State Fault Refusal :=
  .next (s.runWrite o 0x3100 2 v ptpStepEffect)

/-- A die-to-die group. -/
def State.dg (s : State) (g : Nat) : DgGroup := mgetD .reset s.ports.groups g
/-- A die-to-die group stored. -/
def State.setDg (s : State) (g : Nat) (x : DgGroup) : State := { s with ports := { s.ports with groups := mput s.ports.groups g x } }

/-- A group fails (R439, R550): the ports of its slice go down with cause DG_FAILED, its ingress lane holds, and tests on its two
directions end ABORTED. -/
def State.dgFail (s : State) (g : Nat) : State :=
  if s.reg 0x3700 g = 0 ∨ s.reg 0x3700 g = 3 then s
  else
    let s1 := (s.setReg 0x3700 g 3).setDg g { s.dg g with failedSince := s.now }
    let ports := (List.range 128).filter fun p => decide (s.reg 0x3000 p ≠ 0) && decide (s.reg 0x3001 p = g)
    let s2 := ports.foldl (fun s p => s.portDown p 11 3) s1
    let s3 := s2.setSlice g { s2.sliceAt g with hold := true }
    ((s3.abortTestOn 4 g).abortTestOn 4 (16 + g)).healthFree 6 0 (natBe g 1)

/-- A packet that waited for Breakwater is dropped before it (R438): its entry and its descriptor say so. -/
def State.dropBeforeBreakwater (s : State) (w : Waiting) : State :=
  (s.finishInject w.packet 3 5).decideEntry (if w.copy.isSome then none else w.source) w.packet.ordinal false 3

/-- The elements of a list at the places named, and the rest. -/
def pickOut {α : Type} (l : List α) (places : List Nat) : List α × List α :=
  let tagged := (List.range l.length).zip l
  ((tagged.filter fun x => places.contains x.1).map (·.2), (tagged.filter fun x => !places.contains x.1).map (·.2))

/-- An uncorrectable flit from FE to TM in group g: packets with bytes in it are dropped before Breakwater (R438). -/
def State.flitToTm (s : State) (g : Nat) (hits : List Nat) : State :=
  let t := s.tmSlice g
  let mine := t.waiting.filter fun w => decide (w.src = 2 * g)
  let (lost, kept) := pickOut mine hits
  let others := t.waiting.filter fun w => !decide (w.src = 2 * g)
  lost.foldl State.dropBeforeBreakwater (s.setTmSlice g { t with waiting := others ++ kept })

/-- An uncorrectable flit from TM to FE in group g: the packet with bytes in it is lost after its release, and an active unit fences
itself (R35, R380, R438). -/
def State.flitToFe (s : State) (g : Nat) (hits : List Nat) : State :=
  let x := s.sliceAt g
  let (lost, kept) := pickOut x.egressQ hits
  (lost.foldl (fun s p => s.endCustody ((recordPort p.record true).getD 0) p.custody) (s.setSlice g { x with egressQ := kept })).fence

/-- DG_UNCORRECTABLE_FLIT (R438, R439): `hits` are the places of the packets with bytes in the flit, among those of slice g that wait
for Breakwater (`toTm`) or that the TM released to the egress lane. More than 16 flits in 1 ms fail the group. -/
def execDgUncorrectableFlit (g : Nat) (toTm : Bool) (hits : List Nat) (s : State) : Host.Outcome State Fault Refusal :=
  .next (if 16 ≤ g ∨ s.reg 0x3700 g ≠ 2 then s
    else
      let times := (s.dg g).uncorrectable.filter (fun t => decide (s.now < t + 1000000)) ++ [s.now]
      let s1 := ((s.bump 0x3703 g).healthFree 6 g (natBe g 1)).setDg g { s.dg g with uncorrectable := times }
      let s2 := if toTm then s1.flitToTm g hits else s1.flitToFe g hits
      if 16 < times.length then s2.dgFail g else s2)

/-- DG_FAIL (R439): the alignment markers of a group have been lost for 1 µs. -/
def execDgFail (g : Nat) (s : State) : Host.Outcome State Fault Refusal :=
  .next (if 16 ≤ g then s else s.dgFail g)

/-- DG_RETRAIN (R425, R439): 10 ms after its failure or its last attempt a failed group retrains; with success it is UP, and the ports
of its slice whose lanes are clean begin their up hold. -/
def execDgRetrain (g : Nat) (good : Bool) (s : State) : Host.Outcome State Fault Refusal :=
  .next (if 16 ≤ g ∨ s.reg 0x3700 g ≠ 3 then s
    else
      let s1 := s.reach ((s.dg g).failedSince + 10000000)
      if !good then s1.setDg g { s1.dg g with failedSince := s1.now }
      else
        let s2 := (s1.setReg 0x3700 g 2).setDg g { s1.dg g with uncorrectable := [] }
        (List.range 128).foldl (fun s p =>
          if s.reg 0x3000 p ≠ 0 ∧ s.reg 0x3001 p = g ∧ s.reg 0x3003 p = 3 ∧ s.lanesLocked p ∧ (s.port p).cause.isNone then
            s.setPort p { s.port p with cleanSince := some s.now }
          else s) s2)

/-- DG_CAL_ROUND (R437): the round's edges of every active wire, EL then ER as signed bytes; the delay of a wire whose eye is off
centre is staged a change of at most 4 steps, as R406 has it. Tracking pauses while its stewards restart. The flits that forward error
correction has corrected since the last round come as a count, for no row of the table says when one is corrected (log entry 46). -/
def execDgCalRound (g : Nat) (margin : List Byte) (corrected : Nat) (s : State) : Host.Outcome State Fault Refusal :=
  .next (if 16 ≤ g ∨ s.reg 0x3700 g ≠ 2 ∨ s.power.warmSince.isSome then s
    else
      let edge (k : Nat) : Int := toSigned 8 (byteAt margin k)
      let step (w : Nat) : Int := max (-4) (min 4 ((edge (2 * w) + edge (2 * w + 1)).tdiv 2))
      let moved := ((List.range 148).map fun w => (w, step w)).filter fun x => decide (x.2 ≠ 0)
      let after := (List.range 296).map fun k => BitVec.ofNat 8 (ofSigned 8 (edge k - step (k / 2)))
      let x := s.dg g
      let staged := moved.foldl (fun l (w, d) => mput l w d) x.staged
      (((s.setDg g { x with staged := staged }).setOct 0x3704 g after).count 0x3705 g moved.length).count 0x3702 g corrected)

/-- DG_ALIGNMENT_MARKER (R437): staged changes take effect. -/
def execDgAlignmentMarker (g : Nat) (s : State) : Host.Outcome State Fault Refusal :=
  .next (if 16 ≤ g ∨ s.reg 0x3700 g ≠ 2 then s
    else
      let x := s.dg g
      s.setDg g { x with staged := [], delays := x.staged.foldl (fun l (w, d) => mput l w (mgetD 0 l w + d)) x.delays })

end Sys2Proof.Machine
end

