-- ==== Sys2Proof/Machine/Fabric.lean ====
section
/-! DEFINITION. Sys2Proof/Machine/Fabric.lean: the meanings of the commands of the fabric interface (R85, R86, R325 to R349). -/

namespace Sys2Proof.Machine

/-! ### Cells that arrive (R327, R328, R342) -/

/-- The first 96 header bits of a cell. -/
def cellHead (c : List Byte) : Nat := beAt c 0 12
/-- KIND of a cell. -/
def cellKind (c : List Byte) : Nat := fld (cellHead c) 95 94
/-- DATA_LEN of a cell. -/
def cellLen (c : List Byte) : Nat := fld (cellHead c) 55 48
/-- The payload of a cell. -/
def cellPayload (c : List Byte) : List Byte := slice c 16 (cellLen c)
/-- Type of the first message of a control cell. -/
def firstMessage (c : List Byte) : Nat := byteAt c 16

/-- A cell passes the checks of R328; a DATA_LEN above 240 leaves no whole cell to check. -/
def cellGood (c : List Byte) : Bool :=
  let h := cellHead c
  decide (cellLen c ≤ 240) && decide (16 + cellLen c ≤ c.length) && decide (cellKind c ≠ 3) && !bitAt h 79 && decide (h % 256 = 0)
    && decide (crc32cStd (slice c 0 12 ++ cellPayload c) = beAt c 12 4)

/-- A cell that is not accepted: its credit is returned, and the first one after an accepted cell draws a NAK (R342). -/
def State.rejectCell (s : State) (l kind : Nat) : State :=
  let x := s.link l
  let s1 := s.setLink l { x with owed := if kind = 1 ∨ kind = 2 then x.owed + 1 else x.owed, nakSent := true }
  if x.nakSent then s1 else s1.sendIdle l true

/-- A REQUEST (R337): it resynchronises the context where it must, and replaces its demand. -/
def State.takeRequest (s : State) (unit m : Nat) : State :=
  let k := ctxKey unit (fld m 55 53)
  let c := s.recvCtx k
  let sync := bitAt m 52
  let era := fld m 51 48
  if !s.mayTake then s
  else
    let s1 := if sync ∧ (c.era ≠ era ∨ !c.synced) then
        (s.setRecvCtx k { c with expect := fld m 23 0, era := era, synced := true, held := [] }).count 0x8001 6 c.held.length
      else s
    s1.setRecvCtx k { s1.recvCtx k with demand := fld m 47 24 }

/-- A GRANT (R338); a standby ignores it (R372). -/
def State.takeGrant (s : State) (unit m : Nat) : State :=
  let k := ctxKey unit (fld m 55 53)
  let c := s.sendCtx k
  if s.standby ∨ fld m 51 48 ≠ c.era then s
  else if bitAt m 52 then
    let s1 := s.setSendCtx k { c with balance := 0, era := (c.era + 1) % 16, synced := false }
    let s2 : State := if s1.activeInPair then
        let (s2, b) := s1.sendMark k
        s2.setSendCtx k { s2.sendCtx k with syncGate := some b }
      else s1
    s2.requestCheck k
  else
    let b : Int := c.balance + fld m 47 32
    let cap : Int := s.reg 0x8000 0x0A
    (s.setSendCtx k { c with balance := if cap < b then max cap c.balance else b, synced := true }).requestCheck k

/-- A HELLO (R329): with VERSION 1 it brings the link UP, and the link joins its group unless it has to hold (R340). -/
def State.takeHello (s : State) (l m : Nat) : State :=
  if fld m 55 48 ≠ 1 ∨ s.linkState l ≠ 2 then s
  else
    let x := s.link l
    let s1 := ((s.setReg 0x3402 l (fld m 47 32)).setReg 0x3403 l (fld m 31 24)).setLink l
      { x with credits := x.credits + fld m 23 8, helloRcvd := true, upSince := s.now, lastAdvance := s.now }
    let s2 := s1.setReg 0x3400 l 3
    let g := s2.linkGroup l
    let hold := x.fromFailed && !(s2.joinedLinks g).isEmpty && decide (s2.reg 0x8000 0x0B ≠ 0)
    if 8 ≤ g ∨ hold then s2.pumpLink l else (s2.joinLink l).pumpLink l

/-- One message of a control cell (R335); a message of a reserved type or with a reserved bit set is discarded (log entry 24). -/
def State.takeMessage (s : State) (l unit dest : Nat) (msg : List Byte) : State :=
  let m := beAt msg 1 7
  match byteAt msg 0 with
  | 0x01 => if !bitAt m 52 ∧ fld m 23 0 ≠ 0 then s else s.takeRequest unit m
  | 0x02 => if fld m 31 0 ≠ 0 then s else s.takeGrant unit m
  | 0x10 => if dest ≠ 0xFFF ∨ fld m 7 0 ≠ 0 then s else s.takeHello l m
  | 0x11 =>
    if dest ≠ 0xFFF ∨ m ≠ 0 then s
    else
      let s1 := s.setLink l { s.link l with quietAsked := true }
      (s1.leaveLink l false).quietCheck (l / 4)
  | 0x12 =>
    if dest ≠ 0xFFF ∨ m ≠ 0 ∨ s.linkState l ≠ 4 ∨ !(s.link l).quietSent then s
    else (s.setLink l { s.link l with quietDone := true }).quietCheck (l / 4)
  | 0x13 => if dest ≠ 0xFFF ∨ fld m 47 0 ≠ 0 then s else s.failLink l 3
  | _ => s

/-- The messages of a control cell, up to one of type 0x00. -/
def State.takeMessages (s : State) (l unit dest : Nat) : Nat → List Byte → State
  | 0, _ => s
  | fuel + 1, bs =>
    if bs.length < 8 ∨ byteAt bs 0 = 0 then s
    else (s.takeMessage l unit dest (bs.take 8)).takeMessages l unit dest fuel (bs.drop 8)

/-- An accepted cell's contents (R333, R335). -/
def State.acceptCell (s : State) (l : Nat) (c : List Byte) : State :=
  let h := cellHead c
  let unit := fld h 78 67
  if cellKind c = 2 then s.takeMessages l unit (fld h 91 80) 30 (cellPayload c)
  else if !s.mayTake ∨ s.linkState l = 2 then s
  else s.reassemble l unit (fld h 66 59) (fld h 58 56) (bitAt h 93) (bitAt h 92) (cellPayload c)

/-- A cell arrives on a link that is aligned (R328, R342): a bad one is discarded, an acknowledgement is taken, and a sequenced cell is
accepted when its LINK_SEQ is the one expected. -/
def State.recvCell (s : State) (l : Nat) (c : List Byte) : State :=
  let st := s.linkState l
  if 160 ≤ l ∨ !(decide (st = 2) || decide (st = 3) || decide (st = 4)) then s
  else if !cellGood c then (s.bump 0x3405 l).rejectCell l (cellKind c)
  else
    let h := cellHead c
    let s1 := s.takeAck l (fld h 31 16) (bitAt h 15) (fld h 14 8)
    let s2 : State :=
      if cellKind c = 0 ∨ s1.linkState l = 6 then s1
      else if fld h 47 32 ≠ (s1.link l).rxExpect then s1.rejectCell l (cellKind c)
      else
        let x := s1.link l
        let s2 := s1.setLink l { x with rxExpect := (x.rxExpect + 1) % 65536, nakSent := false, owed := x.owed + 1 }
        let s3 := s2.acceptCell l c
        if (s3.link l).owed = 0 ∨ s3.linkState l = 6 then s3 else s3.sendIdle l false
    s2.quietCheck (l / 4)

/-- DATA_CELL (R333, R342, R346): a cell whose KIND is DATA or reserved. -/
def execDataCell (l : Nat) (cell : List Byte) (s : State) : Host.Outcome State Fault Refusal :=
  .next (if cellKind cell = 1 ∨ cellKind cell = 3 then s.recvCell l cell else s)

/-- IDLE_CELL (R328). -/
def execIdleCell (l : Nat) (cell : List Byte) (s : State) : Host.Outcome State Fault Refusal :=
  .next (if cellKind cell = 0 then s.recvCell l cell else s)

/-- A control cell whose first message has a type; every message of the cell is taken. -/
def State.controlCell (s : State) (ty l : Nat) (cell : List Byte) : State :=
  if cellKind cell = 2 ∧ firstMessage cell = ty then s.recvCell l cell else s

/-- REQUEST (R337). -/
def execRequest (l : Nat) (cell : List Byte) (s : State) : Host.Outcome State Fault Refusal := .next (s.controlCell 0x01 l cell)

/-- GRANT (R338). -/
def execGrant (l : Nat) (cell : List Byte) (s : State) : Host.Outcome State Fault Refusal := .next (s.controlCell 0x02 l cell)

/-- HELLO (R329). -/
def execHello (l : Nat) (cell : List Byte) (s : State) : Host.Outcome State Fault Refusal := .next (s.controlCell 0x10 l cell)

/-- QUIET (R349). -/
def execQuiet (l : Nat) (cell : List Byte) (s : State) : Host.Outcome State Fault Refusal := .next (s.controlCell 0x11 l cell)

/-- QUIET_DONE (R86, R349). -/
def execQuietDone (l : Nat) (cell : List Byte) (s : State) : Host.Outcome State Fault Refusal := .next (s.controlCell 0x12 l cell)

/-- FAULT (R343). -/
def execFault (l : Nat) (cell : List Byte) (s : State) : Host.Outcome State Fault Refusal := .next (s.controlCell 0x13 l cell)

/-! ### Times (R333, R336, R341 to R343, R346, R349) -/

/-- REPLAY_TIMEOUT (R342). -/
def execReplayTimeout (l : Nat) (s : State) : Host.Outcome State Fault Refusal :=
  .next (let x := s.link l
         if 160 ≤ l ∨ x.unacked.isEmpty then s else (s.reach (x.lastAdvance + s.reg 0x8000 3)).goBack l)

/-- REASSEMBLY_TIMEOUT (R333). -/
def execReassemblyTimeout (l unit srcLink : Nat) (s : State) : Host.Outcome State Fault Refusal :=
  .next (let me (r : Reassembly) : Bool := decide (r.link = l) && decide (r.unit = unit) && decide (r.srcLink = srcLink)
         match s.fab.reasm.find? me with
         | none => s
         | some r =>
           let s1 := s.reach (r.lastCell + s.reg 0x8000 5 * 1000)
           ({ s1 with fab := { s1.fab with reasm := s1.fab.reasm.filter (fun x => !me x) } }).bump 0x8001 8)

/-- RESEQ_TIMEOUT (R346). -/
def execReseqTimeout (unit cls : Nat) (s : State) : Host.Outcome State Fault Refusal :=
  .next (match (s.recvCtx (ctxKey unit cls)).oldest with
         | none => s
         | some p => ((s.reach (p.since + s.reg 0x8000 6 * 1000)).skipGap (ctxKey unit cls)).bump 0x8001 3)

/-- REQUEST_REFRESH (R336). -/
def execRequestRefresh (unit cls : Nat) (s : State) : Host.Outcome State Fault Refusal :=
  .next (let k := ctxKey unit cls
         if s.demand k = 0 then s else (s.reach ((s.sendCtx k).requestedAt + 2000)).sendRequest k)

/-- The context that is granted next (R337): the lowest class with demand, and in it the next SRC_UNIT in round robin. -/
def State.grantNext (s : State) : Option Nat :=
  (List.range 8).findSome? fun cls =>
    let ks := s.fab.recv.filterMap fun (k, c) => if k % 8 = cls ∧ c.demand ≠ 0 then some k else none
    let last := mgetD 4096 s.fab.grantTurn cls
    ((ks.find? fun k => decide (last < k / 8)).orElse fun _ => ks.head?)

/-- GRANT_ISSUE (R337): up to 16 cells of credit, each counting 2,048 bits, within GRANT_RATE_GBPS. -/
def execGrantIssue (s : State) : Host.Outcome State Fault Refusal :=
  .next (match s.grantNext with
    | none => s
    | some k =>
      if !s.mayCarry ∨ 3 * (s.reg 0x8000 7 * 1024) < 4 * s.reseqBytes ∨ (s.usableLinks (s.destGroup (k / 8))).isEmpty then s
      else
        let s1 := s.reach ((s.fab.grantFree + 999) / 1000)
        let c := s1.recvCtx k
        let n := Nat.min 16 c.demand
        let s2 := s1.setRecvCtx k { c with demand := c.demand - n }
        let s3 := { s2 with fab := { s2.fab with
          grantFree := Nat.max (s2.now * 1000) s2.fab.grantFree + n * 2048 * 1000 / s2.reg 0x8000 8
          grantTurn := mput s2.fab.grantTurn (k % 8) (k / 8) } }
        s3.sendControl (k / 8) (natBe (2 * 2 ^ 56 + k % 8 * 2 ^ 53 + c.era % 16 * 2 ^ 48 + n * 2 ^ 32) 8))

/-- QUIET_TIMEOUT (R349): a link that has not reached QUIET_DONE within 100 µs fails, and its quad stays awake. -/
def execQuietTimeout (l : Nat) (s : State) : Host.Outcome State Fault Refusal :=
  .next (match s.quad (l / 4) with
    | .quieting t =>
      if s.linkState l ≠ 4 ∨ (s.link l).quietDone then s
      else ((s.reach (t + 100000)).failLink l 0).wakeQuad (l / 4)
    | _ => s)

/-- LINK_FAIL (R343 to R345): a link fails with a cause of R343. -/
def execLinkFail (l cause : Nat) (s : State) : Host.Outcome State Fault Refusal :=
  .next (if cause = 0 ∨ 4 < cause then s else s.failLink l cause)

/-- SIGNAL_LOSS_HOLD_EXPIRY (R343): an aligned link has been without signal, lock or alignment for 1 µs. -/
def execSignalLossHoldExpiry (l : Nat) (s : State) : Host.Outcome State Fault Refusal :=
  .next (if s.linkState l = 2 ∨ s.linkState l = 3 ∨ s.linkState l = 4 then s.failLink l 1 else s)

/-- LINK_RETRAIN (R329): 10 ms after a failure the link trains again. -/
def execLinkRetrain (l : Nat) (s : State) : Host.Outcome State Fault Refusal :=
  .next (if 160 ≤ l ∨ s.linkState l ≠ 6 ∨ !s.linkAllowed l then s
    else (s.reach ((s.link l).failedSince + 10000000)).setReg 0x3400 l 1)

/-- FAB_LINK_ALIGNED (R329): the link passes to HELLO with its sequence numbers at zero, and sends its HELLO without a credit (log
entry 21). The initial credits that it offers are a free value. -/
def execFabLinkAligned (l : Nat) (s : State) : Host.Outcome State Fault Refusal :=
  .next (if 160 ≤ l ∨ s.linkState l ≠ 1 then s
    else
      let (d, s1) := s.draw
      let msg := natBe (0x10 * 2 ^ 56 + 2 ^ 48 + s.reg 0x8000 1 % 65536 * 2 ^ 32 + l % 256 * 2 ^ 24 + d % 65536 * 2 ^ 8) 8
      let c : TxCell := { control := true, first := false, last := false, dest := 0xFFF, cls := 0, payload := msg, packet := none, seq := some 0 }
      let x := { Link.reset with fromFailed := (s.link l).fromFailed, helloSent := true, txNext := 1, unacked := [c], lastAdvance := s.now }
      ((s1.setReg 0x3400 l 2).setLink l x).sendTx l c)

/-- LINK_UP_HOLD_EXPIRY (R340). -/
def execLinkUpHoldExpiry (l : Nat) (s : State) : Host.Outcome State Fault Refusal :=
  .next (let x := s.link l
         if 160 ≤ l ∨ s.linkState l ≠ 3 ∨ x.joined ∨ x.quietAsked ∨ 8 ≤ s.linkGroup l then s
         else ((s.reach (x.upSince + s.reg 0x8000 0x0B * 1000000)).joinLink l).pumpLink l)

/-- FENCE_HOLD_EXPIRY (R341): FENCE_HOLD_NS after its old cells were acknowledged, the bucket is pinned to its new link. -/
def execFenceHoldExpiry (g b : Nat) (s : State) : Host.Outcome State Fault Refusal :=
  .next (let y := s.fabGroup g
    match y.fences.find? (fun f => decide (f.bucket = b)) with
    | none => s
    | some f =>
      match f.acked with
      | none => s
      | some t =>
        let s1 := s.reach (t + s.reg 0x8000 2)
        let y1 := { y with pins := lset y.pins b (some f.target), fences := y.fences.filter (fun x => decide (x.bucket ≠ b)) }
        let s2 := State.startFences 264 (s1.setGroup g y1) g
        match y.pins.getD b none with
        | some l => s2.quietCheck (l / 4)
        | none => s2)

/-- GROUP_DOWN_TIMEOUT (R380): a flow group has had no usable link for 10 µs while FAULT_ON_GROUP_DOWN is set. -/
def execGroupDownTimeout (g : Nat) (s : State) : Host.Outcome State Fault Refusal :=
  .next (match (s.fabGroup g).downSince with
    | none => s
    | some t => if 8 ≤ g ∨ s.reg 0x9000 9 = 0 ∨ !(s.usableLinks g).isEmpty then s else (s.reach (t + 10000)).fence)

/-! ### Quieting (R85, R86, R349) -/

/-- Quads that carry or are about to carry cells. -/
def State.awakeQuads (s : State) : List Nat :=
  (List.range 40).filter fun q => match s.quad q with
    | .awake | .waking _ => true
    | _ => false

/-- A quad whose quieting leaves every flow group with links GROUP_MIN_LINKS usable links (R349). -/
def State.mayQuiet (s : State) (q : Nat) : Bool :=
  decide (s.quad q = .awake) && (List.range 8).all fun g =>
    (s.groupLinks g).isEmpty || decide (s.reg 0x8011 g ≤ ((s.usableLinks g).filter fun l => decide (l / 4 ≠ q)).length)

/-- A quad begins to quiet: its links leave their pin tables under the fence (R86 step 1). -/
def State.startQuiet (s : State) (q : Nat) : State :=
  let s1 := (quadLinks q).foldl (fun s l =>
    if s.linkState l = 3 then
      (s.setReg 0x3400 l 4).setLink l { s.link l with quietSent := false, quietDone := false }
    else s) (s.setQuad q (.quieting s.now))
  ((quadLinks q).foldl (fun s l => if s.linkState l = 4 then s.leaveLink l false else s) s1).quietCheck q

/-- The quads that the demand of the last 10 µs needs (R85). -/
def State.quadsNeeded (s : State) : Nat :=
  Nat.max (s.reg 0x2011 2) ((s.fab.sentBits * 115 * s.reg 0x2011 3 + 80000000000 - 1) / 80000000000)

/-- FABRIC_MEASURE (R85): quads wake at once as needed, and one is quieted after a surplus of FABRIC_QUIET_DELAY_US. -/
def execFabricMeasure (s : State) : Host.Outcome State Fault Refusal :=
  .next (let s0 := s.reach (s.fab.lastMeasure + 10000)
    let need := s0.quadsNeeded
    let s1 := { s0 with fab := { s0.fab with sentBits := 0, lastMeasure := s0.now } }
    if s1.mode ≠ .proportional ∨ s1.reg 0x2011 1 = 0 then
      let s2 := (List.range 40).foldl State.wakeQuad s1
      { s2 with fab := { s2.fab with surplusSince := none } }
    else
      let n := s1.awakeQuads.length
      if n < need then
        let asleep := (List.range 40).filter fun q => !s1.awakeQuads.contains q
        let s2 := (asleep.take (need - n)).foldl State.wakeQuad s1
        { s2 with fab := { s2.fab with surplusSince := none } }
      else if n = need then { s1 with fab := { s1.fab with surplusSince := none } }
      else
        let since := s1.fab.surplusSince.getD s1.now
        let s2 := { s1 with fab := { s1.fab with surplusSince := some since } }
        let busy := (List.range 40).any fun q => match s2.quad q with | .quieting _ => true | _ => false
        if s2.now < since + s2.reg 0x2011 4 * 1000 ∨ busy then s2
        else match (List.range 40).reverse.find? s2.mayQuiet with
          | some q => s2.startQuiet q
          | none => s2)

/-- QUAD_WAKE_DONE (R86): `elapsed` ns after its wake began the quad is ready for cells; beyond 20 µs the wake is late. -/
def execQuadWakeDone (q elapsed : Nat) (s : State) : Host.Outcome State Fault Refusal :=
  .next (match s.quad q with
    | .waking t =>
      let s1 := ((s.reach (t + elapsed)).setQuad q .awake).setReg 0x2101 (145 + q) 2
      let s2 := s1.bump 0x2103 (145 + q)
      if 20000 < elapsed then s2.wakeLate 1 q elapsed else s2
    | _ => s)

/-! ### Release toward the fabric (R339) -/

/-- The bucket of a packet (R340). -/
def Held.bucket (h : Held) : Nat := byteAt h.record 16

/-- The link on which the oldest packet of a VOQ may be released now, if the VOQ is eligible (R330, R339, R373). -/
def State.voqLink (s : State) (q : Queue) : Option Nat :=
  match q.head with
  | none => none
  | some h =>
    let g := s.destGroup (q.dest % 4096)
    let c := s.sendCtx (ctxKey (q.dest % 4096) q.cls)
    let y := s.fabGroup g
    if !q.voq ∨ 8 ≤ g ∨ (s.usableLinks g).isEmpty ∨ c.balance ≤ 0 ∨ !c.synced ∨ !s.covered h.gate
        ∨ y.fences.any (fun f => decide (f.bucket = h.bucket)) then none
    else match y.pins.getD h.bucket none with
      | none => none
      | some l =>
        let x := s.link l
        if (s.linkState l = 3 ∨ s.linkState l = 4) ∧ !x.quietAsked ∧ !x.quietSent ∧ x.unacked.length + x.resend.length < 2048 ∧ x.credits ≠ 0
        then some l else none

/-- The VOQ of a slice that is released next: the lowest class with an eligible VOQ, and in it round robin by queue index. -/
def State.voqNext (s : State) (n : Nat) : Option (Nat × Nat) :=
  (List.range 8).findSome? fun cls =>
    let vs := s.tm.queues.filterMap fun (i, q) =>
      if q.voq ∧ q.owner = n ∧ q.cls = cls then (s.voqLink q).map fun l => (i, l) else none
    match mget s.fab.voqTurn (8 * n + cls) with
    | none => vs.head?
    | some last => (vs.find? fun v => decide (last < v.1)).orElse fun _ => vs.head?

/-- VOQ_RELEASE (R339): the packet takes its SEQ, its cells wait on the link of its bucket, and BALANCE falls by N. -/
def execVoqRelease (n : Nat) (s : State) : Host.Outcome State Fault Refusal :=
  .next (if !s.mayCarry ∨ s.pair.switching ∨ 16 ≤ n then s
    else match s.voqNext n with
      | none => s
      | some (i, l) =>
        match mget s.tm.queues i, s.release i with
        | some q, some (h, _, _, s1) =>
          let unit := q.dest % 4096
          let k := ctxKey unit q.cls
          let c := s1.sendCtx k
          let seq := h.seq.getD c.nextSeq
          let cells := cellsFor h.frame.length
          let s2 := s1.setSendCtx k { c with
            nextSeq := if h.seq.isSome then c.nextSeq else (c.nextSeq + 1) % 2 ^ 24, balance := c.balance - cells }
          let p : SentPacket := { held := h, queue := i, dest := unit, cls := q.cls, seq := seq, era := c.era, bucket := h.bucket,
                                  group := s.destGroup unit, link := some l }
          let id := s2.fab.nextSent
          let x := s2.link l
          let s3 := { s2 with fab := { s2.fab with
            sent := mput s2.fab.sent id p, nextSent := id + 1, voqTurn := mput s2.fab.voqTurn (8 * n + q.cls) i } }
          ((s3.setLink l { x with fresh := x.fresh ++ p.cells id }).pumpLink l).requestCheck k
        | _, _ => s)

end Sys2Proof.Machine
end

