-- ==== Sys2Proof/Machine/Hbm.lean ====
section
/-! DEFINITION. Sys2Proof/Machine/Hbm.lean: the meanings of the commands on the HBM: self-refresh, refresh, calibration, delays, scrub
(R87, R397 to R412). -/

namespace Sys2Proof.Machine

/-- A stack holds packet data while any packet is in HBM, on its way there or on its way back: the packet region is striped over
all stacks (R281, R396). -/
def State.hbmHoldsPackets (s : State) : Bool :=
  s.tm.queues.any fun (_, q) => q.packets.any fun h => decide (h.location ≠ .onDie)

/-- HBM_IDLE_EXPIRY (R87): the conditions have held for HBM_IDLE_US, and the stack's controller is asked to enter self-refresh. -/
def execHbmIdleExpiry (h : Nat) (s : State) : Host.Outcome State Fault Refusal :=
  .next (if 4 ≤ h ∨ s.reg 0x2012 1 = 0 ∨ !s.sleepMode ∨ s.reg 0x7101 h ≠ 0 ∨ s.hbmHoldsPackets
        ∨ !(s.stats.setDeltas.isEmpty && s.stats.queueDeltas.isEmpty && s.stats.channelDeltas.isEmpty) then s
    else
      let x := s.stack h
      (s.reach (x.lastAccess + s.reg 0x2012 2 * 1000)).setStack h { x with entering := true })

/-- SELF_REFRESH_ENTER (R402): no request is queued; a boundary goes to every pseudo-channel, and the stack sleeps with its PHY in
RETAIN. -/
def execSelfRefreshEnter (h : Nat) (s : State) : Host.Outcome State Fault Refusal :=
  .next (let x := s.stack h
         if 4 ≤ h ∨ !x.entering ∨ s.reg 0x7101 h ≠ 0 then s
         else (((s.stackBoundary h).setStack h { x with entering := false }).setReg 0x7101 h 1).setPhy h 1)

/-- HBM_WAKE_DONE (R87, R402): `elapsed` ns after its wake request, at most 50 µs, the stack is released to its ports. `bad` lists
the pseudo-channels in whose check an uncorrectable burst was found: each was given a full read sweep, and the wake is late. -/
def execHbmWakeDone (h elapsed : Nat) (bad : List Nat) (s : State) : Host.Outcome State Fault Refusal :=
  .next (match (s.stack h).wakeSince with
    | none => s
    | some t =>
      if 4 ≤ h ∨ s.reg 0x7101 h ≠ 2 ∨ 50000 < elapsed then s
      else
        let s1 := ((s.reach (t + elapsed)).stackBoundary h).setPhy h 2
        let s2 := (s1.setStack h { s1.stack h with wakeSince := none, lastAccess := s1.now }).setReg 0x7101 h 0
        let s3 := s2.count 0x7120 3 256
        let s4 := (List.range 32).foldl (fun s k => s.setPc (32 * h + k) { s.pc (32 * h + k) with round := none, searchOut := true }) s3
        let late := decide (5000 < elapsed) || !bad.isEmpty
        let s5 := if late then s4.wakeLate 2 h elapsed else s4
        (bad.filter fun cc => decide (cc / 32 = h)).foldl (fun s cc => s.badBurst cc 0) s5)

/-- HBM_WAKE_FAILED (R402): a stack was not released within 50 µs. -/
def execHbmWakeFailed (h : Nat) (s : State) : Host.Outcome State Fault Refusal :=
  .next (match (s.stack h).wakeSince with
    | none => s
    | some t => if 4 ≤ h ∨ s.reg 0x7101 h ≠ 2 then s else (s.reach (t + 50000)).stackOut h 7)

/-- A stack runs: it is ACTIVE. -/
def State.stackRuns (s : State) (cc : Nat) : Bool := decide (cc < 128) && decide (s.reg 0x7101 (cc / 32) = 0) && decide (s.mode ≠ .dormant)

/-- REFRESH_BOUNDARY (R399, R400): an all-bank refresh of a pseudo-channel, at which staged delays take effect. -/
def execRefreshBoundary (cc : Nat) (s : State) : Host.Outcome State Fault Refusal :=
  .next (if s.stackRuns cc then (s.reach ((s.pc cc).lastBoundary + s.reg 0x7100 4 * 1000)).boundary cc else s)

/-- BANK_REFRESH (R400): a bank of a pseudo-channel falls due for its refresh. -/
def execBankRefresh (cc : Nat) (s : State) : Host.Outcome State Fault Refusal :=
  .next (if s.stackRuns cc then s.setPc cc { s.pc cc with bankRefreshes := (s.pc cc).bankRefreshes + 1 } else s)

/-- CA_PARITY_ALERT (R411, R412): the controller repeats the command; more than 8 alerts within 1 ms take the stack out. -/
def execCaParityAlert (cc : Nat) (s : State) : Host.Outcome State Fault Refusal :=
  .next (if !s.stackRuns cc then s
    else
      let x := s.pc cc
      let times := x.alerts.filter (fun t => decide (s.now < t + 1000000)) ++ [s.now]
      let s1 := (s.bump 0x7112 cc).setPc cc { x with alerts := times }
      if 8 < times.length then s1.stackOut (cc / 32) 6 else s1)

/-- CAL_ROUND (R406, R408): a calibration round of a pseudo-channel begins. -/
def execCalRound (cc : Nat) (s : State) : Host.Outcome State Fault Refusal :=
  .next (let x := s.pc cc
         if s.stackRuns cc ∧ s.reg 0x7100 6 = 1 ∧ s.power.warmSince.isNone ∧ x.round.isNone then s.setPc cc { x with round := some 0 } else s)

/-- The edges of a lane after its probes (R406): in an ordinary round `left` holds the mismatches at EL and EL − 2, `right` those at
ER and ER + 2; in the first round after a wake or a pause they hold the mismatches at 0, 2, 4, … steps outward up to the first
failing offset. -/
def State.probedEdges (s : State) (x : PseudoChannel) (lane : Nat) (left right : List Nat) : Int × Int :=
  let limit := s.reg 0x7100 8
  let clean (n : Nat) : Bool := decide (n < limit)
  if x.searchOut then
    let run (l : List Nat) : Int := 2 * ((l.takeWhile clean).length : Int) - 2
    (-(run left), run right)
  else
    let (el, er) := x.edges.getD lane (0, 0)
    let l := if !clean (left.getD 0 0) then el + 2 else if clean (left.getD 1 limit) then el - 2 else el
    let r := if !clean (right.getD 0 0) then er - 2 else if clean (right.getD 1 limit) then er + 2 else er
    (l, r)

/-- CAL_PROBE_DONE (R405, R406): the probes of the lane that the round has reached are done; its edges move, and a delay may be
staged. A stack whose lane has no eye is taken out of service. A delay beyond its 7 bits is a free value (log entry 1). -/
def execCalProbeDone (cc : Nat) (left right : List Nat) (s : State) : Host.Outcome State Fault Refusal :=
  .next (match (s.pc cc).round with
    | none => s
    | some lane =>
      if !s.stackRuns cc then s
      else
        let x := s.pc cc
        let (el, er) := s.probedEdges x lane left right
        if er - el < 8 then (s.setPc cc { x with edges := lset x.edges lane (el, er), round := none }).stackOut (cc / 32) 3
        else
          let c := (el + er).tdiv 2
          let step := max (-4) (min 4 c)
          let next := if lane = 71 then none else some (lane + 1)
          let base := x.staged.getD x.delays
          let d := (byteAt base lane : Int) + step
          let (free, s1) := if 0 ≤ d ∧ d < 128 then (d.toNat, s) else let (f, s') := s.draw; (f % 128, s')
          let x1 := { x with
            edges := lset x.edges lane (el - step, er - step)
            round := next
            searchOut := x.searchOut && next.isSome }
          if c = 0 then s.setPc cc { x1 with edges := lset x.edges lane (el, er) }
          else (s1.setPc cc { x1 with staged := some (patch base lane [BitVec.ofNat 8 free]) }).bump 0x7142 cc)

/-- The effect of a write of HBM_DELAYS (R397, R399). -/
def hbmDelaysEffect (cc : Nat) (c : List Byte) (s : State) : Status × State :=
  if c.length ≠ 96 ∨ !(c.all fun b => decide (b.toNat < 128)) ∨ !allZero (slice c 90 6) then (.range, s)
  else (.ok, s.setPc cc { s.pc cc with staged := some c })

/-- HBM_DELAYS (R399): new delays are staged for a pseudo-channel. -/
def execHbmDelays (o : Origin) (cc : Nat) (v : List Byte) (s : State) : Host.Outcome State Fault Refusal :=
  .next (s.runWrite o 0x7140 cc v (hbmDelaysEffect cc))

/-- DELAY_SAVE (R398): the hourly record of the delays in force. -/
def execDelaySave (s : State) : Host.Outcome State Fault Refusal :=
  .next (if s.mode = .dormant then s else (s.reach (s.hbm.lastSave + 3600000000000)).saveDelays)

/-- SCRUB (R410, R508): the statistics region is read; corrected bursts are written back, and an uncorrectable burst makes its entry
zero with LOST set. Bursts are given as offsets from the start of the region. -/
def execScrub (corrected bad : List Nat) (s : State) : Host.Outcome State Fault Refusal :=
  .next (if !s.stacksActive ∨ s.mode = .dormant then s
    else
      let base := s.reg 0x7000 7 * 2 ^ 30
      let size := 96 * 2 ^ 30 - base - 8 * 2 ^ 20
      let s1 := (s.reach (s.hbm.lastScrub + s.reg 0x7100 9 * 3600000000000)).count 0x7120 4 (size / 32)
      let s2 := { s1 with hbm := { s1.hbm with lastScrub := s1.now } }
      let s3 := (corrected.filter (fun a => decide (a < size))).foldl (fun s a => s.correctedBurst (channelOf (base + a))) s2
      (bad.filter (fun a => decide (a < size))).foldl (fun s a =>
        let s1 := match statEntryAt a with
          | some (k, i) => s.loseStat k i
          | none => s
        s1.badBurst (channelOf (base + a)) ((base + a) / 131072)) s3)

end Sys2Proof.Machine
end

