-- ==== Sys2Proof/Machine/Pair.lean ====
section
/-! DEFINITION. Sys2Proof/Machine/Pair.lean: the meanings of the commands of the protected pair, but for the records that change
objects (R355 to R389). A record is given as its whole bytes. -/

namespace Sys2Proof.Machine

/-! ### Records -/

/-- A stream error (R359): counted, and a standby becomes stale. -/
def State.streamError (s : State) : State := (s.bump 0x9001 0x10).goStale 6 0

/-- The 8-byte entries of a record's body. -/
def bodyEntries : Nat → List Byte → List Nat
  | 0, _ => []
  | fuel + 1, bs => if bs = [] then [] else beAt bs 0 8 :: bodyEntries fuel (bs.drop 8)

/-- The context that an entry of a record names. -/
def entryCtx (e : Nat) : Nat := ctxKey (fld e 63 52) (fld e 51 49)

/-- IDENTITY (R361): the mate's identity; a lost mate is identified again (R575), and AUTO_REJOIN may act (R389). -/
def State.takeIdentity (s : State) (body : List Byte) : State :=
  if body.length ≠ 72 ∨ byteAt body 0 ≠ 1 then s.streamError
  else
    let m := { s.pair.mate with identity := some body, role := identRole body }
    (({ s with pair := { s.pair with mate := m, mateLost := false } }).setReg 0x1300 8 s.ptp).tryRejoin

/-- IDENTITY (R361): an IDENTITY record from the mate. -/
def execIdentity (rec : List Byte) (s : State) : Host.Outcome State Fault Refusal := .next (s.takeIdentity (rec.drop 3))

/-- The entries of a VERDICT_BLOCK (R362): tag, ADMIT, COLOUR. -/
def blockEntries (rec : List Byte) : List (Nat × Bool × Nat) :=
  let n := byteAt rec 0 % 32 + 1
  (List.range n).map fun k => let v := bitsAt (rec.drop 2) (19 * k) 19; (v / 8, bitAt v 2, v % 4)

/-- A VERDICT_BLOCK on the standby (R365, R366): its entries join the stream, and are matched and applied as far as they go. -/
def State.takeBlock (s : State) (rec : List Byte) : State :=
  let src := byteAt rec 1
  let es := blockEntries rec
  if 0x90 ≤ src ∨ rec.length ≠ 2 + (19 * es.length + 7) / 8 ∨ es.any (fun e => e.2.1 && decide (e.2.2 = 3)) then s.streamError
  else if s.mode ≠ .shadow ∧ !(decide (s.mode = .catchup) && decide (s.pair.phase = .trial)) then s
  else
    let p0 := mgetD 0 s.pair.positions src
    let new := es.mapIdx fun k e => ({ source := src, position := (p0 + k) % 2 ^ 32, tag := e.1, admits := e.2.1, colour := e.2.2, since := s.now, own := none } : MateEntry)
    let s1 := { s with pair := { s.pair with
      entries := s.pair.entries ++ new, positions := mput s.pair.positions src ((p0 + es.length) % 2 ^ 32) } }
    let s2 := State.matchSource (new.length + s1.pair.frames.length + 1) s1 src
    State.applyEntries (s2.pair.entries.length + 1) s2

/-- VERDICT_BLOCK (R366). -/
def execVerdictBlock (rec : List Byte) (s : State) : Host.Outcome State Fault Refusal := .next (s.takeBlock rec)

/-- DEPARTURE_MARK (R375). -/
def State.takeMarks (s : State) (body : List Byte) : State :=
  if body.length % 8 ≠ 0 then s.streamError
  else if !s.standby then s
  else (bodyEntries body.length body).foldl (fun s e => s.takeMark (entryCtx e) (fld e 48 45) (fld e 23 0)) s

/-- DEPARTURE_MARK (R375). -/
def execDepartureMark (rec : List Byte) (s : State) : Host.Outcome State Fault Refusal := .next (s.takeMarks (rec.drop 3))

/-- FABRIC_VERDICT (R376): bits wait for their packets. -/
def State.takeFabricVerdict (s : State) (b : List Byte) : State :=
  let n := byteAt b 3
  if b.length ≠ 16 ∨ n = 0 ∨ 64 < n then s.streamError
  else if !s.standby then s
  else
    let bits := (List.range n).map fun k =>
      ({ unit := beAt b 0 2 % 4096, cls := byteAt b 2 % 8, seq := (beAt b 4 4 + k) % 2 ^ 24, admits := bitAt (beAt b 8 8) (63 - k), since := s.now } : FabricBit)
    { s with pair := { s.pair with fabricBits := s.pair.fabricBits ++ bits } }

/-- FABRIC_VERDICT (R376). -/
def execFabricVerdict (rec : List Byte) (s : State) : Host.Outcome State Fault Refusal := .next (s.takeFabricVerdict (rec.drop 3))

/-- COPY_VERDICT (R359, R366). -/
def State.takeCopyVerdict (s : State) (b : List Byte) : State :=
  let n := byteAt b 8
  if b.length ≠ 20 ∨ 1 < byteAt b 0 ∨ n = 0 ∨ 64 < n then s.streamError
  else if !s.standby then s
  else
    let c : CopyBits := { fabric := decide (byteAt b 0 = 1), source := byteAt b 1, unit := beAt b 2 2 % 4096, position := beAt b 4 4
                          admits := (List.range n).map fun k => bitAt (beAt b 12 8) (63 - k), since := s.now }
    { s with pair := { s.pair with copyBits := s.pair.copyBits ++ [c] } }

/-- COPY_VERDICT (R366). -/
def execCopyVerdict (rec : List Byte) (s : State) : Host.Outcome State Fault Refusal := .next (s.takeCopyVerdict (rec.drop 3))

/-- The channel that stands for the mate's rings in a packet injected from a HOST_WORK record: it has no descriptor here. -/
def mateChannel : Nat := 4096

/-- HOST_WORK (R461): the standby injects the packet into the injection source of the same slice. -/
def State.takeHostWork (s : State) (b : List Byte) : State :=
  let src := byteAt b 0
  let d := slice b 4 64
  if b.length < 68 ∨ src < 0x80 ∨ 0x90 ≤ src then s.streamError
  else if s.mode ≠ .shadow ∧ s.mode ≠ .catchup then s
  else s.enqueueInjection (src % 16) (injectionOf mateChannel 0 d (b.drop 68))

/-- HOST_WORK (R461). -/
def execHostWork (rec : List Byte) (s : State) : Host.Outcome State Fault Refusal := .next (s.takeHostWork (rec.drop 3))

/-- QUEUE_END (R364, R374). -/
def State.takeQueueEnds (s : State) (body : List Byte) : State :=
  if body.length % 8 ≠ 0 then s.streamError
  else if !s.standby then s
  else (bodyEntries body.length body).foldl (fun s e => s.takeQueueEnd (entryCtx e) (fld e 48 47) (fld e 23 0)) s

/-- QUEUE_END (R374). -/
def execQueueEnd (rec : List Byte) (s : State) : Host.Outcome State Fault Refusal := .next (s.takeQueueEnds (rec.drop 3))

/-- DIGEST (R382): it is compared with the standby's own of its NUMBER, or waits until the standby's entries have come. -/
def State.takeDigest (s : State) (b : List Byte) : State :=
  let n := byteAt b 0
  let number := beAt b 4 4
  let v := beAt b 8 8
  if b.length ≠ 16 ∨ 16 ≤ n then s.streamError
  else if s.role ≠ 2 then s
  else
    let d := s.digest n
    match d.own.find? (fun x => decide (x.1 = number)) with
    | some x => (s.setDigest n { d with own := d.own.erase x }).compareDigest n number x.2 v
    | none =>
      let s1 := s.setDigest n { d with mate := d.mate ++ [(number, beAt b 2 2, v)] }
      if d.number = number ∧ d.entries = beAt b 2 2 then s1.closeDigest n else s1

/-- DIGEST (R382). -/
def execDigest (rec : List Byte) (s : State) : Host.Outcome State Fault Refusal := .next (s.takeDigest (rec.drop 3))

/-- START (R378 steps 5 and 6, R388): BASE_SEQ and ERA of each context. With the last record the standby enters SHADOW in step; what
came before START is not admitted. -/
def State.takeStart (s : State) (b : List Byte) : State :=
  if b.length < 4 ∨ (b.length - 4) % 8 ≠ 0 then s.streamError
  else if s.mode ≠ .catchup ∧ s.mode ≠ .shadow then s
  else
    let s1 := (bodyEntries b.length (b.drop 4)).foldl (fun s e =>
      s.setPairCtx (entryCtx e) { baseSeq := fld e 23 0, era := fld e 48 45, count := 0, lost := [], foreign := [], done := fld e 23 0, doneEra := fld e 48 45 }) s
    if !bitAt (byteAt b 0) 0 then s1
    else
      let s2 : State := if s1.mode = .catchup then s1.completeMode .shadow else s1
      let before (e : MateEntry) : MateEntry := { e with admits := false }
      ({ s2 with pair := { s2.pair with
          phase := .inStep, positions := [], turned := false, entries := s2.pair.entries.map before } }).refreshIdentity

/-- START (R378). -/
def execStart (rec : List Byte) (s : State) : Host.Outcome State Fault Refusal := .next (s.takeStart (rec.drop 3))

/-- HANDOFF (R388 step 4): the standby's indication. -/
def execHandoff (s : State) : Host.Outcome State Fault Refusal := .next (s.turn 3)

/-! ### Heartbeats and fault wires (R360, R379 to R381, R385) -/

/-- What a valid heartbeat says of the mate is kept, and silence begins anew. -/
def State.noteBeat (s : State) (b : List Byte) : State :=
  let m := s.pair.mate
  let m1 : Mate := { m with role := byteAt b 0, pairState := byteAt b 1, flags := byteAt b 2, lastBeat := s.now, heard := true }
  { s with pair := { s.pair with mate := m1 } }

/-- An active of a pair that hears an active fences itself (R380; log entry 32). -/
def State.hearActive (s : State) : State :=
  if s.role = 1 ∧ (s.pair.phase ≠ .apart ∨ s.pair.mateLost = true) then s.fence else s

/-- A heartbeat cell on a lane that is UP. -/
def State.recvBeat (s : State) (lane : Nat) (cell : List Byte) : State :=
  let b := matePayload cell
  let s1 := (s.takeMateAck lane cell).noteBeat b
  if byteAt b 0 = 1 then s1.hearActive.tryRejoin else s1

/-- HEARTBEAT (R360, R380): a valid one ends silence. -/
def execHeartbeat (lane : Nat) (cell : List Byte) (s : State) : Host.Outcome State Fault Refusal :=
  .next (if 8 ≤ lane ∨ !s.laneUp lane then s
    else if mateGood cell && decide (mateKind cell = 2) then s.recvBeat lane cell else s.bump 0x3603 lane)

/-- HEARTBEAT_SILENCE (R380, R381, R385). -/
def execHeartbeatSilence (s : State) : Host.Outcome State Fault Refusal :=
  .next (if !s.pair.mate.heard ∨ !s.pairEnabled then s
    else
      let quiet (s : State) : State := { s with pair := { s.pair with mate := { s.pair.mate with heard := false } } }
      if s.role = 1 then
        let s1 := quiet (s.reach (s.pair.mate.lastBeat + 2500))
        if s1.power.pins.pairFaultInN then s1.fence else s1.loseMate
      else if s.role = 2 then
        let s1 := quiet (s.reach (s.pair.mate.lastBeat + 3000))
        if s1.mode = .shadow ∧ s1.pair.phase = .inStep then s1.turn 2 else s1.standbyAlone
      else s)

/-- PAIR_FAULT_IN_N at a level. -/
def State.faultIn (s : State) (v : Bool) : State := { s with power := { s.power with pins := { s.power.pins with pairFaultInN := v } } }

/-- PAIR_FAULT_IN_FALL (R369, R379, R385). -/
def execPairFaultInFall (s : State) : Host.Outcome State Fault Refusal :=
  .next (let s1 := s.faultIn false
         if s1.mode = .shadow ∧ s1.pair.phase = .inStep then s1.turn 1
         else if s1.role = 2 then s1.standbyAlone
         else if s1.role = 1 ∧ s1.pair.phase = .inStep then s1.breakPair false else s1)

/-- PAIR_FAULT_IN_RISE (R379, R380): heartbeat silence becomes a fence cause again. -/
def execPairFaultInRise (s : State) : Host.Outcome State Fault Refusal := .next (s.faultIn true)

/-- FAULT_REQUEST (R380, R393). -/
def faultRequestEffect (c : List Byte) (s : State) : Status × State :=
  if s.role ≠ 1 then (.mode, s) else if beNat c = 1 then (.ok, s.fence) else (.ok, s)

/-- FAULT_REQUEST (R380). -/
def execFaultRequest (o : Origin) (v : List Byte) (s : State) : Host.Outcome State Fault Refusal :=
  .next (s.runWrite o 0x9000 8 v faultRequestEffect)

/-- SWITCHOVER (R388): on the standby the write is passed to the active. -/
def switchoverEffect (c : List Byte) (s : State) : Status × State :=
  if s.pair.phase ≠ .inStep then (.pairUnavailable, s)
  else if beNat c ≠ 1 then (.ok, s)
  else if s.role = 2 then (.ok, s.sendStatus 16)
  else (.ok, ({ s with pair := { s.pair with switching := true } }).finishSwitch)

/-- SWITCHOVER (R388). -/
def execSwitchover (o : Origin) (v : List Byte) (s : State) : Host.Outcome State Fault Refusal :=
  .next (s.runWrite o 0x9000 7 v switchoverEffect)

/-! ### Times -/

/-- VERDICT_FLUSH (R363): the oldest open block of a source may close. -/
def execVerdictFlush (source : Nat) (s : State) : Host.Outcome State Fault Refusal :=
  .next (match s.pair.blocks.find? (fun b => decide (b.source = source) && !b.flushed) with
    | none => s
    | some b =>
      let s1 := s.reach (b.first + s.reg 0x9000 0x0A)
      State.closeBlocks 161 { s1 with pair := { s1.pair with blocks := s1.pair.blocks.map fun x => if x = b then { x with flushed := true } else x } })

/-- VERDICT_WAIT_EXPIRY (R365, R376): what has waited VERDICT_WAIT_US. `kind` 0 the k-th entry, 1 the k-th frame, 2 the k-th bit of a
fabric packet, 3 the k-th packet waiting at Breakwater n with no verdict, 4 the k-th COPY_VERDICT. -/
def execVerdictWaitExpiry (kind n k : Nat) (s : State) : Host.Outcome State Fault Refusal :=
  .next (let wait := s.reg 0x9000 0x0B * 1000
    match kind with
    | 0 => match s.pair.entries[k]? with
      | none => s
      | some e =>
        let s1 := s.reach (e.since + wait)
        let p := s1.pair
        let s2 := { s1 with pair := { p with
          entries := p.entries.erase e
          extras := p.extras ++ (e.own.toList.map fun (f : OwnFrame) => (f.source, f.ordinal)) } }
        let s3 := s2.legMiss e.admits
        State.applyEntries (s3.pair.entries.length + 1) s3
    | 1 => match s.pair.frames[k]? with
      | none => s
      | some f => (s.reach (f.since + wait)).legExtra f
    | 2 => match s.pair.fabricBits[k]? with
      | none => s
      | some b =>
        let s1 := s.reach (b.since + wait)
        ({ s1 with pair := { s1.pair with fabricBits := s1.pair.fabricBits.erase b } }).bump 0x9001 6
    | 3 => match (s.tmSlice n).waiting[k]? with
      | none => s
      | some w => if !s.standby ∨ (s.streamVerdict w).isSome ∨ (w.copy.isNone ∧ !w.fromFabric) then s
        else (s.bump 0x9001 7).refuseShadow n w
    | _ => match s.pair.copyBits[k]? with
      | none => s
      | some c =>
        let s1 := s.reach (c.since + wait)
        { s1 with pair := { s1.pair with copyBits := s1.pair.copyBits.erase c } })

/-- DIGEST_CLOSE (R382): 1 ms after its first entry the active's digest ends. The standby's ends where the active's did. -/
def execDigestClose (n : Nat) (s : State) : Host.Outcome State Fault Refusal :=
  .next (let d := s.digest n
         if 16 ≤ n ∨ d.entries = 0 ∨ !s.activeInPair then s else (s.reach (d.since + 1000000)).closeDigest n)

/-- DEPARTURE_INTERVAL (R375): contexts whose DONE_SEQ has advanced are marked in round robin. -/
def execDepartureInterval (s : State) : Host.Outcome State Fault Refusal :=
  .next (if !s.mateInShadow then s
    else
      let s1 := s.reach (s.pair.lastMark + s.reg 0x9000 0x0D * 1000)
      let ks := s1.pair.ctxs.map (·.1)
      let order := ks.filter (fun k => decide (s1.pair.markTurn < k)) ++ ks.filter (fun k => decide (k ≤ s1.pair.markTurn))
      let due := order.filter fun k => decide (s1.doneSeq k ≠ (s1.pairCtx k).done)
      let s2 := due.foldl (fun s k => (s.sendMark k).1) s1
      { s2 with pair := { s2.pair with lastMark := s2.now, markTurn := (due.getLast?).getD s2.pair.markTurn } })

/-- FABRIC_VERDICT_FLUSH (R376). -/
def execFabricVerdictFlush (unit cls : Nat) (s : State) : Host.Outcome State Fault Refusal :=
  .next (match s.pair.openFabric.find? (fun x => decide (x.unit = unit) && decide (x.cls = cls)) with
    | none => s
    | some x =>
      let s1 := s.reach (x.since + s.reg 0x9000 0x0E * 1000)
      ({ s1 with pair := { s1.pair with openFabric := s1.pair.openFabric.erase x } }).sendFabricVerdict x)

/-! ### Lanes (R357, R361) -/

/-- MATE_REPLAY_TIMEOUT (R357). -/
def execMateReplayTimeout (k : Nat) (s : State) : Host.Outcome State Fault Refusal :=
  .next (if 8 ≤ k ∨ (s.lane k).unacked.isEmpty then s else (s.reach ((s.lane k).lastAdvance + s.reg 0x3605 2)).goBackLane k)

/-- MATE_LANE_FAIL (R357). -/
def execMateLaneFail (k : Nat) (s : State) : Host.Outcome State Fault Refusal :=
  .next (let s1 := s.failLane k
         if s1.mateLinkUp ∨ s1.mode ≠ .catchup then s1 else s1.standbyAlone)

/-- MATE_LANE_RETRAIN (R357): 10 ms after its failure a lane trains again. -/
def execMateLaneRetrain (k : Nat) (s : State) : Host.Outcome State Fault Refusal :=
  .next (if 8 ≤ k ∨ s.reg 0x3600 k ≠ 6 then s else (s.reach ((s.lane k).failedSince + 10000000)).setReg 0x3600 k 1)

/-- MATE_LINK_UP (R361): a lane reaches UP, and IDENTITY goes out before any other record. -/
def execMateLinkUp (k : Nat) (s : State) : Host.Outcome State Fault Refusal :=
  .next (let st := s.reg 0x3600 k
    if 8 ≤ k ∨ !s.pairEnabled ∨ s.mode = .dormant ∨ s.reg 0x3601 k = 0 ∨ !(decide (st = 1) || decide (st = 2)) then s
    else
      let was := s.mateLinkUp
      let s1 := (s.setReg 0x3600 k 3).setLane k { s.lane k with lastAdvance := s.now }
      if was then s1.pumpMate
      else
        let b := s1.identity
        (({ s1 with pair := { s1.pair with sentIdentity := b } }).sendRecord (typedRecord 0x41 b)).1)

/-- MATE_IDLE_CELL (R356): acknowledgements and credits; any cell of KIND IDLE. -/
def execMateIdleCell (k : Nat) (cell : List Byte) (s : State) : Host.Outcome State Fault Refusal :=
  .next (if mateGood cell ∧ mateKind cell ≠ 0 then s else (s.recvMate k cell).1)

end Sys2Proof.Machine
end

