-- ==== Sys2Proof/Machine/Regions.lean ====
section
/-! DEFINITION. Sys2Proof/Machine/Regions.lean: the meanings of the commands that create table regions and rule sets, query them, sweep
them for age, and flush them by port (R209 to R213, R234 to R250, R269). -/

namespace Sys2Proof.Machine

/-! ### Creation -/

/-- The lowest start of a free run of `n` units below `cap`, beside the runs taken (log entry 40: the spec names no place). -/
def lowestRun (taken : List (Nat × Nat)) (n cap : Nat) : Option Nat :=
  let fits (b : Nat) : Bool :=
    decide (b + n ≤ cap) && taken.all fun x => decide (b + n ≤ x.1) || decide (x.1 + x.2 ≤ b)
  ((0 :: taken.map fun x => x.1 + x.2).filter fits).min?

/-- The buckets that regions of one array take. -/
def Tables.bucketRuns (t : Tables) (em : Bool) : List (Nat × Nat) :=
  t.regions.filterMap fun (_, r) => if r.em = em then some (r.base, r.buckets) else none

/-- Length filter entries that no region takes (R245). -/
def Tables.filterFree (t : Tables) : Nat := 1048576 - (t.regions.map fun (_, r) => r.filterEntries).foldl (· + ·) 0

/-- The conditions of R211 on the parameters of an exact-match region. -/
def emParamsOk (v : List Byte) : Bool :=
  let r : Region := { em := true, params := v, base := 0 }
  let size := r.keyBytes + r.dataBytes + (if r.ageMode = 2 then 2 else 0)
  decide (v.length = 32) && decide (1 ≤ r.keyBits ∧ r.keyBits ≤ 448) && decide (r.dataBytes ≤ 55)
    && decide (byteAt v 3 ≤ 1) && decide (size ≤ 28 * (byteAt v 3 + 1))
    && decide (r.buckets % 1024 = 0 ∧ 1024 ≤ r.buckets ∧ r.buckets ≤ 1048576)
    && decide (byteAt v 12 ≤ 2) && (decide (byteAt v 13 = 0xFF) || decide (byteAt v 13 < r.dataBytes))
    && decide (byteAt v 14 < 8) && decide (byteAt v 15 ≤ 3) && decide (r.ovfQuota ≤ 16384)
    && (if r.ageMode = 2 then decide (1 ≤ r.ageTick ∧ r.ageTick ≤ 60000) else decide (r.ageTick = 0))
    && (!r.flushOnDown || decide (byteAt v 13 ≠ 0xFF)) && (!r.learnEnable || decide (r.ageMode ≠ 0)) && allZero (v.drop 20)

/-- A list of numbers falls strictly. -/
def fallsStrictly : List Nat → Bool
  | a :: b :: l => decide (b < a) && fallsStrictly (b :: l)
  | _ => true

/-- The conditions of R212 on the parameters of an LPM region. -/
def lpmParamsOk (v : List Byte) : Bool :=
  let r : Region := { em := false, params := v, base := 0 }
  let n := byteAt v 15
  decide (v.length = 80) && decide (1 ≤ r.keyBits ∧ r.keyBits ≤ 208) && decide (r.dataBytes ≤ 26)
    && decide (r.keyBytes + r.dataBytes ≤ 27) && decide (byteAt v 3 &&& 4 = byteAt v 3)
    && decide (r.buckets % 1024 = 0 ∧ 1024 ≤ r.buckets ∧ r.buckets ≤ 1572864)
    && (decide (r.filterBits = 0) || decide (8 ≤ r.filterBits ∧ r.filterBits ≤ 20)) && decide (r.filterOffset + r.filterBits ≤ r.keyBits)
    && decide (1 ≤ r.maxLengths ∧ r.maxLengths ≤ 8) && decide (1 ≤ n ∧ n ≤ 64)
    && r.lengths.all (fun l => decide (1 ≤ l ∧ l ≤ r.keyBits)) && fallsStrictly r.lengths && allZero (v.drop (16 + n))

/-- A version with the objects of a region at their defaults (R245). -/
def Version.freshRegion (x : Version) (ri : Nat) : Version :=
  { x with objs := mdel x.objs (okey 0x5005 ri), octs := mdel x.octs (okey 0x5404 ri) }

/-- A new region: empty, its sub-indices at their defaults. -/
def State.addRegion (s : State) (ri : Nat) (r : Region) : State :=
  let e := s.epochs
  let e1 : Epochs := { e with
    cur := e.cur.freshRegion ri, old := e.old.freshRegion ri
    staged := e.staged.map fun g => { g with version := g.version.freshRegion ri } }
  let t : Tables := { s.tables with regions := mput s.tables.regions ri r, flush := mdel s.tables.flush ri }
  ({ s with tables := t, epochs := e1 }).setReg 0x5803 ri 300

/-- A region of checked parameters is placed on free buckets (R209). -/
def State.placeRegion (s : State) (em : Bool) (v : List Byte) : Except Status (Nat × State) :=
  let r : Region := { em := em, params := v, base := 0 }
  match lowestFree s.tables.regions 64, lowestRun (s.tables.bucketRuns em) r.buckets (if em then 1048576 else 1572864) with
  | some ri, some b =>
    if s.tables.filterFree < r.filterEntries then .error .noResource
    else .ok (s.handle 7 ri, s.addRegion ri { r with base := b })
  | _, _ => .error .noResource

/-- EM_REGION_CREATE (R209, R211). -/
def createEmRegion (v : List Byte) (s : State) : Except Status (Nat × State) :=
  if emParamsOk v then s.placeRegion true v else .error .range

/-- LPM_REGION_CREATE (R209, R212). -/
def createLpmRegion (v : List Byte) (s : State) : Except Status (Nat × State) :=
  if lpmParamsOk v then s.placeRegion false v else .error .range

/-- EM_REGION_CREATE (R211). -/
def execEmRegionCreate (o : Origin) (v : List Byte) (s : State) : Host.Outcome State Fault Refusal :=
  .next (State.endCreate o 0x5001 v (s.runCreate o 0x5001 v createEmRegion))

/-- LPM_REGION_CREATE (R212). -/
def execLpmRegionCreate (o : Origin) (v : List Byte) (s : State) : Host.Outcome State Fault Refusal :=
  .next (State.endCreate o 0x5401 v (s.runCreate o 0x5401 v createLpmRegion))

/-- A region is freed with its buckets, entries, filter, records and iterations (R213). -/
def State.removeRegion (s : State) (ri : Nat) : State :=
  let t := s.tables
  let mine (x : Entry) : Bool := decide (x.region ≠ ri)
  let t1 : Tables := { t with
    regions := mdel t.regions ri, flush := mdel t.flush ri
    em := mkeep t.em (fun _ x => mine x), lpm := mkeep t.lpm (fun _ x => mine x), ovf := mkeep t.ovf (fun _ x => mine x)
    agedOut := t.agedOut.filter (fun a => decide (a.1 ≠ ri))
    fifos := mmap t.fifos (fun _ f => { recs := f.recs.filter (fun r => decide (r.region ≠ ri)), seen := f.seen.filter (fun r => decide (r.region ≠ ri)) })
    iters := mmap t.iters (fun _ i => if i.region = ri then { i with isOpen := false } else i) }
  ({ s with tables := t1 }).nextGen 7 ri

/-- The conditions of R248 on the parameters of a rule set. -/
def ruleSetParamsOk (v : List Byte) : Bool :=
  let r : RuleSet := { params := v, baseBlock := 0 }
  decide (v.length = 16) && decide (byteAt v 0 ≤ 2) && decide (1 ≤ r.blocks ∧ r.blocks ≤ 64) && decide (r.pfOffset + 16 ≤ r.width)
    && decide (byteAt v 4 ≤ 1) && allZero (v.drop 5)

/-- Runs of TCAM blocks in use, and single blocks that a BIST found failing (R552). -/
def State.blockRuns (s : State) : List (Nat × Nat) :=
  (s.tables.ruleSets.map fun (_, r) => (r.baseBlock, r.blocks)) ++ s.test.badBlocks.map fun b => (b, 1)

/-- RULE_SET_CREATE (R248): the lowest run of free blocks. -/
def createRuleSet (v : List Byte) (s : State) : Except Status (Nat × State) :=
  let r : RuleSet := { params := v, baseBlock := 0 }
  if !ruleSetParamsOk v then .error .range
  else match lowestFree s.tables.ruleSets 256, lowestRun s.blockRuns r.blocks 256 with
    | some i, some b =>
      .ok (s.handle 6 i, { s with tables := { s.tables with ruleSets := mput s.tables.ruleSets i { r with baseBlock := b } } })
    | _, _ => .error .noResource

/-- RULE_SET_CREATE (R248). -/
def execRuleSetCreate (o : Origin) (v : List Byte) (s : State) : Host.Outcome State Fault Refusal :=
  .next (State.endCreate o 0x6001 v (s.runCreate o 0x6001 v createRuleSet))

/-- A rule set is freed with every rule of it (R250). -/
def State.removeRuleSet (s : State) (i : Nat) : State :=
  let t : Tables := { s.tables with ruleSets := mdel s.tables.ruleSets i, rules := mkeep s.tables.rules (fun k _ => decide (k / 65536 ≠ i)) }
  ({ s with tables := t }).nextGen 6 i

/-! ### Queries of regions (R239 to R242) -/

/-- AGE_S of a returned entry (R239): 0xFFFF outside TIMESTAMP mode. -/
def State.ageSeconds (s : State) (r : Region) (x : Entry) : Nat :=
  if r.ageMode = 2 then Nat.min 0xFFFF ((r.tick s.now + 65536 - x.lastHit) % 65536 * r.ageTick / 1000) else 0xFFFF

/-- An entry as a query returns it (R239). -/
def State.entryBytes (s : State) (r : Region) (p : Place) (x : Entry) : List Byte :=
  let inOvf := match p with | .ovf _ => true | _ => false
  let flags := (if x.hit then 1 else 0) + (if x.aged then 2 else 0) + (if x.static then 4 else 0) + (if x.learned then 8 else 0)
    + (if inOvf then 16 else 0) + (if x.second then 32 else 0)
  natBe flags 1 ++ natBe x.len 1 ++ natBe (s.ageSeconds r x) 2 ++ x.key ++ x.data

/-- The default of a region as a query returns it: its key is zero. -/
def defaultEntryBytes (r : Region) (dflt : List Byte) : List Byte :=
  natBe 64 1 ++ natBe 0 1 ++ natBe 0xFFFF 2 ++ List.replicate r.keyBytes 0 ++ dflt

/-- QUERY_RESULT (R239). An answer of more than 1,024 bytes is RANGE in its STATUS. -/
def State.queryResult (s : State) (st : Status) (done : Bool) (iter : Nat) (entries : List (List Byte)) : List Byte :=
  let head (st : Status) (n : Nat) (done : Bool) : List Byte :=
    natBe st.code 1 ++ natBe n 1 ++ natBe (if done then 1 else 0) 1 ++ [0] ++ natBe s.epochs.current 2 ++ [0, 0] ++ natBe iter 4
  head st entries.length done ++ entries.flatten

/-- LPM_DEFAULT of a region at CURRENT. -/
def State.lpmDefault (s : State) (ri : Nat) : List Byte := s.epochs.cur.oct 0x5404 ri

/-- Whether a key keeps its padding bits zero (R226). -/
def keyPadded (key : List Byte) (bits : Nat) : Bool := decide (keyMasked key bits = key)

/-- A SEARCH at CURRENT (R239): a key or length that breaks the rules of R226 is RANGE. -/
def State.searchRegion (s : State) (r : Region) (ri len : Nat) (key : List Byte) : List Byte :=
  let e := s.epochs.current
  let found (h : Option (Place × Entry)) : List (List Byte) := (h.map fun x => s.entryBytes r x.1 x.2).toList
  let answer (l : List (List Byte)) : List Byte :=
    if 1024 < 12 + l.flatten.length then s.queryResult .range false 0 [] else s.queryResult .ok false 0 l
  if key.length ≠ r.keyBytes ∨ !keyPadded key r.keyBits then s.queryResult .range false 0 []
  else if r.em then
    if len ≠ 0 then s.queryResult .range false 0 [] else answer (found (s.tables.findKey r ri e 0 key))
  else if len = 0xFF then
    let f := s.tables.longest r ri e key (s.lpmDefault ri)
    match f.hit, f.dflt with
    | some h, _ => answer (found (some h))
    | none, some d => answer [defaultEntryBytes r d]
    | none, none => answer []
  else if !r.lengths.contains len ∨ !keyPadded key len then s.queryResult .range false 0 []
  else answer (found (s.tables.findKey r ri e len key))

/-- The position of a place in the order of R240: buckets and their slots or units, then the overflow store. -/
def Place.position : Place → Nat
  | .em n => n
  | .lpm n => n
  | .ovf n => 2 ^ 24 + n

/-- The position of the default of an LPM region, after every entry. -/
def defaultPosition : Nat := 2 ^ 25

/-- What an iteration may return, in position order: position, key and length, and the bytes. -/
def State.iterItems (s : State) (r : Region) (ri : Nat) : List (Nat × (List Byte × Nat) × List Byte) :=
  (s.tables.visibleEntries ri s.epochs.current).map (fun (p, x) => (p.position, (x.key, x.len), s.entryBytes r p x))
    ++ (if r.em ∨ (s.lpmDefault ri).isEmpty then [] else [(defaultPosition, ([], 0), defaultEntryBytes r (s.lpmDefault ri))])

/-- One NEXT: entries past the cursor but for the skip list, then the pending keys that are still visible (R240 to R242). -/
def State.iterTake (s : State) (r : Region) (it : Iteration) : Nat → List (List Byte) → Iteration → List (List Byte) × Iteration
  | 0, acc, x => (acc.reverse, x)
  | n + 1, acc, x =>
    match (s.iterItems r it.region).find? (fun i => decide (x.cursor ≤ i.1) && !x.skip.contains i.2.1) with
    | some i => s.iterTake r it n (i.2.2 :: acc) { x with cursor := i.1 + 1 }
    | none =>
      let live (k : List Byte × Nat) : Option (List Byte) :=
        (s.tables.findKey r it.region s.epochs.current k.2 k.1).map fun h => s.entryBytes r h.1 h.2
      match x.pending.dropWhile (fun k => (live k).isNone) with
      | [] => (acc.reverse, { x with cursor := 2 ^ 26, pending := [] })
      | k :: rest => s.iterTake r it n ((live k).toList ++ acc) { x with cursor := 2 ^ 26, pending := rest }

/-- Nothing is left for an iteration to return. -/
def State.iterDone (s : State) (r : Region) (x : Iteration) : Bool := (s.iterTake r x 1 [] x).1.isEmpty

/-- The identifier of an iteration (R240). -/
def iterId (slot : Nat) (x : Iteration) : Nat := x.gen * 2 ^ 24 + slot

/-- The open iteration that an identifier names: RANGE for a reserved bit, STALE_HANDLE for a closed or unknown one, and RANGE where it
runs over another region (log entry 41). -/
def State.checkIter (s : State) (id ri : Nat) : Status :=
  if fld id 23 5 ≠ 0 then .range
  else match mget s.tables.iters (id % 32) with
    | some x => if !x.isOpen ∨ id / 2 ^ 24 ≠ x.gen then .staleHandle else if x.region ≠ ri then .range else .ok
    | none => .staleHandle

/-- An iteration slot stored. -/
def State.setIter (s : State) (k : Nat) (x : Iteration) : State := { s with tables := { s.tables with iters := mput s.tables.iters k x } }

/-- An iteration closes (R240). -/
def State.closeIter (s : State) (k : Nat) : State :=
  match mget s.tables.iters k with
  | some x => s.setIter k { x with isOpen := false, pending := [], skip := [] }
  | none => s

/-- ITER_OPEN (R240): the lowest slot with no open iteration. -/
def State.openIter (s : State) (ri : Nat) : List Byte × State :=
  let free (k : Nat) : Bool := !(mget s.tables.iters k).any (·.isOpen)
  match (List.range 32).find? free with
  | none => (s.queryResult .noResource false 0 [], s)
  | some k =>
    let gen := match mget s.tables.iters k with | some x => if x.gen = 255 then 1 else x.gen + 1 | none => 1
    let x : Iteration := { gen := gen, isOpen := true, region := ri, cursor := 0, pending := [], skip := [], last := s.now }
    (s.queryResult .ok false (iterId k x) [], s.setIter k x)

/-- NEXT of an iteration (R240): END closes it. -/
def State.nextIter (s : State) (r : Region) (k count : Nat) : List Byte × State :=
  match mget s.tables.iters k with
  | none => (s.queryResult .staleHandle false 0 [], s)
  | some x =>
    let (es, x1) := s.iterTake r x count [] x
    if 1024 < 12 + es.flatten.length then (s.queryResult .range false 0 [], s)
    else
      let done := s.iterDone r x1
      let s1 := s.setIter k { x1 with last := s.now }
      (s.queryResult .ok done 0 es, if done then s1.closeIter k else s1)

/-- Whether the fields of a QUERY are in range (R239). -/
def queryFieldsOk (c : List Byte) : Bool :=
  let op := byteAt c 0
  decide (12 ≤ c.length) && decide (0x10 ≤ op ∧ op ≤ 0x13) && decide (byteAt c 3 = 0)
    && (if op = 0x12 then decide (1 ≤ byteAt c 1 ∧ byteAt c 1 ≤ 16) else decide (byteAt c 1 = 0))
    && (decide (op = 0x10) || (decide (byteAt c 2 = 0) && decide (c.length = 12)))
    && (decide (0x12 ≤ op) || decide (beAt c 8 4 = 0))

/-- QUERY (R239). -/
def tableAnswer (c : List Byte) (s : State) : Status × List Byte × State :=
  if c.length < 12 then (.range, [], s)
  else
    let h := beAt c 4 4
    let ri := handleIndex h
    let hs := s.checkHandle 7 h
    match hs, mget s.tables.regions ri with
    | .ok, some r =>
      if !queryFieldsOk c then (.range, [], s)
      else match byteAt c 0 with
      | 0x10 => (.ok, s.searchRegion r ri (byteAt c 2) (c.drop 12), s)
      | 0x11 => let (a, s1) := s.openIter ri; (.ok, a, s1)
      | op =>
        let id := beAt c 8 4
        match s.checkIter id ri with
        | .ok =>
          if op = 0x12 then let (a, s1) := s.nextIter r (id % 32) (byteAt c 1); (.ok, a, s1)
          else (.ok, s.queryResult .ok false 0 [], s.closeIter (id % 32))
        | st => (.ok, s.queryResult st false 0 [], s)
    | .ok, none => (.ok, s.queryResult .staleHandle false 0 [], s)
    | st, _ => (.ok, s.queryResult st false 0 [], s)

/-- A QUERY record (R239). -/
def queryBytes (op count len region iter : Nat) (key : List Byte) : List Byte :=
  natBe op 1 ++ natBe count 1 ++ natBe len 1 ++ [0] ++ natBe region 4 ++ natBe iter 4 ++ key

/-- SEARCH (R239). -/
def execSearch (o : Origin) (region len : Nat) (key : List Byte) (s : State) : Host.Outcome State Fault Refusal :=
  .next (s.runQuery o 0x5880 1 0x5880 2 (queryBytes 0x10 0 len region 0 key) tableAnswer)

/-- ITER_OPEN (R240). -/
def execIterOpen (o : Origin) (region : Nat) (s : State) : Host.Outcome State Fault Refusal :=
  .next (s.runQuery o 0x5880 1 0x5880 2 (queryBytes 0x11 0 0 region 0 []) tableAnswer)

/-- NEXT (R240). -/
def execIterNext (o : Origin) (region iter count : Nat) (s : State) : Host.Outcome State Fault Refusal :=
  .next (s.runQuery o 0x5880 1 0x5880 2 (queryBytes 0x12 count 0 region iter []) tableAnswer)

/-- ITER_CLOSE (R240). -/
def execIterClose (o : Origin) (region iter : Nat) (s : State) : Host.Outcome State Fault Refusal :=
  .next (s.runQuery o 0x5880 1 0x5880 2 (queryBytes 0x13 0 0 region iter []) tableAnswer)

/-- ITER_TIMEOUT (R240): 60 s without a NEXT. -/
def execIterTimeout (slot : Nat) (s : State) : Host.Outcome State Fault Refusal :=
  .next (match mget s.tables.iters slot with
    | some x => if x.isOpen then (s.reach (x.last + 60000000000)).closeIter slot else s
    | none => s)

/-! ### Queries of rule sets (R269) -/

/-- The head of RULE_RESULT. -/
def State.ruleResult (s : State) (st : Status) (body : List Byte) : List Byte :=
  natBe st.code 1 ++ [0, 0, 0] ++ natBe s.epochs.current 2 ++ [0, 0] ++ body

/-- READ_RULE. A position that holds no rule has a zero header; its action, VALUE and MASK are not stated: free values (log entry 42). -/
def State.readRule (s : State) (r : RuleSet) (set pos : Nat) : List Byte × State :=
  match mget s.tables.rules (ruleKey set pos) with
  | some x => (s.ruleResult .ok (natBe (ruleHeader r set x) 4 ++ x.action s.epochs.current ++ x.value ++ x.mask), s)
  | none =>
    let (b, s1) := s.drawBytes (16 + r.width / 4)
    (s.ruleResult .ok ([0, 0, 0, 0] ++ b), s1)

/-- The pre-filter of a block at a parity; where no rule is visible the manual gives none, and it is a free value (log entry 42). -/
def State.blockFilter (s : State) (r : RuleSet) (set b parity : Nat) : List Byte × State :=
  let rules := s.tables.blockRules r set b parity
  if rules.isEmpty then s.drawBytes 4
  else let (m, v) := prefilter r (rules.map (·.2)); (natBe m 2 ++ natBe v 2, s)

/-- READ_BLOCK. -/
def State.readBlock (s : State) (r : RuleSet) (set b : Nat) : List Byte × State :=
  let on := if s.tables.blockOn r set b then 1 else 0
  let n := (s.tables.blockRules r set b s.epochs.current).length
  let (even, s1) := s.blockFilter r set b 0
  let (odd, s2) := s1.blockFilter r set b 1
  (s.ruleResult .ok (natBe on 1 ++ [0] ++ natBe n 2 ++ even ++ odd), s2)

/-- RULE_QUERY (R269). -/
def ruleAnswer (c : List Byte) (s : State) : Status × List Byte × State :=
  let op := byteAt c 0
  if c.length ≠ 12 then (.range, [], s)
  else
    let set := handleIndex (beAt c 4 4)
    let n := beAt c 8 4
    match s.checkHandle 6 (beAt c 4 4), mget s.tables.ruleSets set with
    | .ok, some r =>
      if !(decide (op = 0x20) || decide (op = 0x21)) ∨ beAt c 1 3 ≠ 0 then (.range, [], s)
      else if op = 0x20 then
        if r.capacity ≤ n then (.ok, s.ruleResult .range [], s) else let (a, s1) := s.readRule r set n; (.ok, a, s1)
      else
        if r.blocks ≤ n then (.ok, s.ruleResult .range [], s) else let (a, s1) := s.readBlock r set n; (.ok, a, s1)
    | .ok, none => (.ok, s.ruleResult .staleHandle [], s)
    | st, _ => (.ok, s.ruleResult st [], s)

/-- READ_RULE (R269). -/
def execReadRule (o : Origin) (set pos : Nat) (s : State) : Host.Outcome State Fault Refusal :=
  .next (s.runQuery o 0x6020 1 0x6020 2 ([0x20, 0, 0, 0] ++ natBe set 4 ++ natBe pos 4) ruleAnswer)

/-- READ_BLOCK (R269). -/
def execReadBlock (o : Origin) (set block : Nat) (s : State) : Host.Outcome State Fault Refusal :=
  .next (s.runQuery o 0x6020 1 0x6020 2 ([0x21, 0, 0, 0] ++ natBe set 4 ++ natBe block 4) ruleAnswer)

/-! ### Learning, ageing and flushes (R234 to R238, R243, R244) -/

/-- LEARN_SERVICE (R234, R236): the thread that serves learning is started, no warm restart goes on, and the unit is no standby (log
entry 43). -/
def State.learnServed (s : State) : Bool :=
  decide ((s.thread (s.reg 0xB012 1)).state ≠ .stopped) && s.power.warmSince.isNone && decide (s.mode ≠ .dormant) && decide (s.mode ≠ .catchup)
    && !s.standby

/-- An entry is a removal candidate by its age (R237): A is AGE_TIME_S of its region. -/
def State.tooOld (s : State) (r : Region) (ri : Nat) (x : Entry) : Bool :=
  if r.ageMode = 2 then decide (s.reg 0x5803 ri * 1000 ≤ (r.tick s.now + 65536 - x.lastHit) % 65536 * r.ageTick)
  else !x.hit && x.aged

/-- A visit of an ageing sweep in HIT_BIT mode (R237). -/
def Entry.visit (r : Region) (ri : Nat) (x : Entry) : Entry :=
  if x.region ≠ ri ∨ x.static ∨ r.ageMode ≠ 1 then x
  else if x.hit then { x with hit := false, aged := false } else { x with aged := true }

/-- AGE_SWEEP (R237): candidates wait for the next internal commit. -/
def execAgeSweep (ri : Nat) (s : State) : Host.Outcome State Fault Refusal :=
  .next (match mget s.tables.regions ri with
    | none => s
    | some r =>
      if r.ageMode = 0 ∨ !s.learnServed then s
      else
        let due := (s.tables.visibleEntries ri s.epochs.current).filterMap fun (_, x) =>
          if !x.static ∧ s.tooOld r ri x then some (ri, x.key, 0) else none
        let t := s.tables
        let new := due.filter fun d => !t.agedOut.contains d
        { s with tables := { t with
            em := mmap t.em (fun _ x => x.visit r ri), ovf := mmap t.ovf (fun _ x => x.visit r ri), agedOut := t.agedOut ++ new } })

/-- A commit enters the queue; the first begins to wait at step 1 of R177. -/
def State.enqueueCommit (s : State) (c : Committer) : State :=
  let e := s.epochs
  { s with epochs := { e with queue := e.queue ++ [c], waitingSince := if e.queue.isEmpty then s.now else e.waitingSince } }

/-- Among records of one key the one that stands: the latest ARRIVAL_TIME, and the lower slice on a tie (R234). -/
def standing (l : List LearnRec) : List LearnRec :=
  l.filter fun r => !(l.any fun q =>
    decide (q.region = r.region) && decide (q.key = r.key)
      && (decide (r.arrival < q.arrival) || (decide (r.arrival = q.arrival) && decide (q.slice < r.slice))))

/-- Records with the same region and key that came in the same slice at the same time count once. -/
def oncePerKey : List LearnRec → List LearnRec
  | [] => []
  | r :: rest => if rest.any (fun q => decide (q.region = r.region) && decide (q.key = r.key)) then oncePerKey rest else r :: oncePerKey rest

/-- LEARN_SERVICE_COMMIT (R234): the records of all FIFOs and the ageing removals due become one internal commit. -/
def execLearnServiceCommit (s : State) : Host.Outcome State Fault Refusal :=
  .next (if !s.learnServed then s
    else
      let recs := oncePerKey (standing (s.tables.fifos.map fun (_, f) => f.recs).flatten)
      let learned : List OwnChange := recs.map fun r => { cause := .learned, region := r.region, key := r.key, data := r.data }
      let aged : List OwnChange := s.tables.agedOut.map fun a => { cause := .aged, region := a.1, key := a.2.1, data := [] }
      let t : Tables := { s.tables with fifos := mmap s.tables.fifos (fun _ f => { f with recs := [] }), agedOut := [] }
      let s1 := { s with tables := t }
      if learned.isEmpty ∧ aged.isEmpty then s1 else s1.enqueueCommit (.internal (aged ++ learned)))

/-- A FLUSH_REQUEST (R243). -/
def flushEffect (c : List Byte) (s : State) : Status × State :=
  let ri := handleIndex (beAt c 0 4)
  let port := byteAt c 4
  if c.length ≠ 8 then (.range, s)
  else match s.checkHandle 7 (beAt c 0 4), mget s.tables.regions ri with
    | .ok, some r =>
      if r.portByte.isNone ∨ 1 < byteAt c 5 ∨ beAt c 6 2 ≠ 0 then (.range, s)
      else
        let ports := if bitAt port 7 then List.range 128 else [port]
        (.ok, ports.foldl (fun s p => s.joinFlush ri p (decide (byteAt c 5 = 1))) s)
    | .ok, none => (.staleHandle, s)
    | st, _ => (st, s)

/-- FLUSH_REQUEST (R243). -/
def execFlushRequest (o : Origin) (v : List Byte) (s : State) : Host.Outcome State Fault Refusal :=
  .next (s.runWrite o 0x5890 1 v flushEffect)

/-- FLUSH_SCAN_DONE (R244): the scan of a region has come back to where a port joined. Each matching entry visible since is removed in an
internal commit, and the port's bit clears. A standby makes no commits of its own: its bits stay (log entry 44). -/
def execFlushScanDone (ri port : Nat) (s : State) : Host.Outcome State Fault Refusal :=
  .next (match mget s.tables.regions ri, mget s.tables.flush ri with
    | some r, some f =>
      match f.ports.find? (fun j => decide (j.port = port)), r.portByte with
      | some j, some pb =>
        if s.standby ∨ s.mode = .catchup then s
        else
          let gone (x : Entry) : Bool := decide (byteAt x.data pb % 128 = port) && (j.static || !x.static)
          let ops : List OwnChange := (s.tables.visibleEntries ri s.epochs.current).filterMap fun (_, x) =>
            if gone x then some { cause := .flushed, region := ri, key := x.key, data := natBe port 1 ++ natBe (if j.static then 1 else 0) 1 }
            else none
          let left := f.ports.filter fun q => decide (q.port ≠ port)
          let flush := if left.isEmpty then mdel s.tables.flush ri else mput s.tables.flush ri { f with ports := left }
          let s1 := { s with tables := { s.tables with flush := flush } }
          if ops.isEmpty then s1 else s1.enqueueCommit (.internal ops)
      | _, _ => s
    | _, _ => s)

end Sys2Proof.Machine
end

