-- ==== Sys2Proof/Machine/Update.lean ====
section
/-! DEFINITION. Sys2Proof/Machine/Update.lean: the meanings of the commands on firmware: delivery of a bundle, activation, and the trial
(R521 to R541). -/

namespace Sys2Proof.Machine

/-! ### Delivery (R527 to R531) -/

/-- The open delivery changed. -/
def State.setDelivery (s : State) (d : Delivery) : State := { s with fw := { s.fw with delivery := some d } }

/-- The boot record names a staged bundle to install at the next power-on start. -/
def State.stagedPending (s : State) : Bool := s.fw.bootCurrent.any fun x => x.2.stagedPending

/-- A new delivery begins (R527): staging is erased, and a pending AT_NEXT_START is withdrawn. -/
def State.newDelivery (s : State) (total : Nat) (id : List Byte) : State :=
  let s1 := if s.stagedPending then s.writeBoot fun r => { r with stagedPending := false } else s
  ((s1.setDelivery { total := total, bundleId := id, blocks := [], complete := [], erasing := [] }).setOct 0xE010 6 id).setReg 0xE010 4 1

/-- The effect of a STAGE_OPEN (R527): TOTAL_LENGTH, FLAGS and BUNDLE_ID. While ERASING a delivery counts as RECEIVING (log entry 38). -/
def stageOpenEffect (c : List Byte) (s : State) : Status × State :=
  let total := beAt c 0 4
  let id := slice c 8 48
  let discard := bitAt (byteAt c 4) 0
  if c.length ≠ 56 ∨ 1 < byteAt c 4 ∨ !allZero (slice c 5 3) ∨ total < 1024 ∨ 12582912 < total then (.range, s)
  else if s.stageState = 5 then (.busy, s)
  else match s.stageState, s.fw.delivery with
    | 0, _ => (.ok, s.newDelivery total id)
    | 6, _ => (.ok, s.newDelivery total id)
    | _, none => (.ok, s.newDelivery total id)
    | _, some d =>
      if discard then (.ok, s.newDelivery total id)
      else if d.total = total ∧ d.bundleId = id then (.ok, s)
      else (.busy, s)

/-- STAGE_OPEN (R527). -/
def execStageOpen (o : Origin) (v : List Byte) (s : State) : Host.Outcome State Fault Refusal :=
  .next (s.runWrite o 0xE010 1 v stageOpenEffect)

/-- STAGE_ERASE_DONE (R527). -/
def execStageEraseDone (s : State) : Host.Outcome State Fault Refusal :=
  .next (if s.stageState = 1 then s.setReg 0xE010 4 2 else s)

/-- Blocks of piece p of a bundle of `total` bytes. -/
def pieceBlocks (total p : Nat) : List Nat := ((List.range 64).map (64 * p + ·)).filter fun k => decide (1024 * k < total)

/-- Every block of piece p has been received. -/
def Delivery.full (d : Delivery) (p : Nat) : Bool := (pieceBlocks d.total p).all fun k => (mget d.blocks k).isSome

/-- A piece that is full and not COMPLETE is checked against the piece table (R529): it becomes COMPLETE, or it is counted and its erase
begins. -/
def State.checkPiece (s : State) (p : Nat) : State :=
  match s.fw.delivery with
  | none => s
  | some d =>
    if d.complete.contains p ∨ !d.full p ∨ (p ≠ 0 ∧ !d.complete.contains 0) then s
    else if pieceGood d.bytes d.total p then s.setDelivery { d with complete := p :: d.complete }
    else
      let gone := pieceBlocks d.total p;
      (s.setDelivery { d with blocks := mkeep d.blocks fun k _ => !gone.contains k, erasing := p :: d.erasing }).bump 0xE010 7

/-- Checks after a block of piece p has been received: piece p, and after piece 0 those that waited for it (R529). -/
def State.checkPieces (s : State) (p : Nat) : State :=
  match s.fw.delivery with
  | none => s
  | some d => if p = 0 then (List.range (pieceCount d.total)).foldl State.checkPiece s else s.checkPiece p

/-- The effect of a segment of STAGE_DATA (R528): one whole block. A block of a piece whose sector is being erased draws BUSY. -/
def stageDataEffect (offset : Nat) (last : Bool) (data : List Byte) (s : State) : Status × State :=
  match s.fw.delivery with
  | none => (.range, s)
  | some d =>
    let st := s.stageState
    let k := offset / 1024
    if (st ≠ 1 ∧ st ≠ 2 ∧ st ≠ 5) ∨ last ∨ offset % 1024 ≠ 0 ∨ d.total ≤ offset ∨ data.length ≠ min 1024 (d.total - offset) then (.range, s)
    else if st ≠ 2 ∨ d.erasing.contains (k / 64) then (.busy, s)
    else match mget d.blocks k with
      | some b => if b = data then (.ok, s) else (.range, s.bump 0xE010 8)
      | none => (.ok, (s.setDelivery { d with blocks := mput d.blocks k data }).checkPieces (k / 64))

/-- STAGE_DATA (R528): a WRITE_SEGMENT of the object, with its offset and its LAST bit. -/
def execStageData (o : Origin) (offset : Nat) (last : Bool) (data : List Byte) (s : State) : Host.Outcome State Fault Refusal :=
  .next (s.runBlob o 0xE010 2 data (stageDataEffect offset last))

/-- PIECE_ERASE_DONE (R529). -/
def execPieceEraseDone (p : Nat) (s : State) : Host.Outcome State Fault Refusal :=
  .next (match s.fw.delivery with
    | some d => s.setDelivery { d with erasing := d.erasing.filter (· ≠ p) }
    | none => s)

/-- STAGE_HASH_DONE (R531): with every piece COMPLETE, the hash of the staged bytes is compared with BUNDLE_ID. -/
def execStageHashDone (s : State) : Host.Outcome State Fault Refusal :=
  .next (match s.fw.delivery with
    | none => s
    | some d =>
      if s.stageState ≠ 2 ∨ !((List.range (pieceCount d.total)).all d.complete.contains) then s
      else if Config.sha384 d.bytes = d.bundleId then
        (s.setReg 0xE010 4 3).setReg 0xE010 5 (beAt ((bundleSection d.bytes 0x01).getD []) 0 4)
      else s.setReg 0xE010 4 4)

/-- STATE of a piece (R530): 0 MISSING, 1 PARTIAL, 2 COMPLETE, 3 ERASING. -/
def Delivery.pieceState (d : Delivery) (p : Nat) : Nat :=
  if d.complete.contains p then 2 else if d.erasing.contains p then 3
  else if (pieceBlocks d.total p).any (fun k => (mget d.blocks k).isSome) then 1 else 0

/-- STAGE_MAP (R530); empty without a delivery. -/
def State.stageMap (s : State) : List Byte :=
  match s.fw.delivery with
  | none => []
  | some d =>
    let n := pieceCount d.total
    let bits (p : Nat) : Nat := ((pieceBlocks d.total p).map fun k => if (mget d.blocks k).isSome then 2 ^ (63 - k % 64) else 0).foldl (· + ·) 0
    natBe d.total 4 ++ natBe n 2 ++ natBe d.complete.length 2
      ++ ((List.range n).map fun p => natBe (d.pieceState p) 1 ++ natBe (bits p) 8).flatten

/-! ### Activation (R532 to R535, R539) -/

/-- MODE forbids an activation: AT_NEXT_START on a standby, and WARM_NOW outside the modes of R534 or with the recovery service (R539,
R541). -/
def State.activateForbidden (s : State) (warm : Bool) : Bool :=
  match s.mode with
  | .bringup | .diagnostic | .proportional | .spring => false
  | .catchup | .shadow => true
  | .drain => warm || s.drainFromShadow
  | .dormant => warm

/-- An install, a trial or a staged activation is pending (R532). -/
def State.activationPending (s : State) : Bool := s.fw.installing.isSome || s.fw.trial.isSome || s.stagedPending || s.fw.restartDue

/-- WARM_NOT_ALLOWED (R534): by line and step, the Tidewatch image, and the schema. -/
def State.warmForbidden (s : State) (b : List Byte) : Bool :=
  let d := (bundleSection b 0x01).getD []
  let r := s.descriptor
  !(decide (beAt d 0 2 = beAt r 0 2) && decide (beAt d 12 2 ≠ 0xFFFF) && decide (beAt d 12 2 ≤ beAt r 2 2)
    && decide (Config.sha384 ((bundleSection b 0x02).getD []) = Config.sha384 s.fw.tidewatchImage)
    && decide (byteAt d 4 = byteAt r 4) && decide (byteAt r 5 ≤ byteAt d 5))

/-- WINDOW (R539): the staged bundle would not pair with the mate's. -/
def State.windowForbidden (s : State) (b : List Byte) : Bool :=
  let d := (bundleSection b 0x01).getD []
  let st := s.pairState
  decide (3 ≤ st ∧ st ≤ 5) && match s.pair.mate.identity with
    | some m =>
      !(withinWindow (beAt d 0 4) (identVersion m) (byteAt d 6) (byteAt d 7)
        && withinWindow (identVersion m) (beAt d 0 4) (identBack m) (identForward m))
    | none => false

/-- The cause for which an activation in service is refused before its install, 0 when it is not (R525, R534, R539). -/
def State.warmCause (s : State) (b : List Byte) : Nat :=
  let c := s.verify b
  if c ≠ 0 then c else if s.warmForbidden b then 8 else if s.windowForbidden b then 9 else 0

/-- The slot that an install writes: the one other than LAST_GOOD (R535). -/
def State.installSlot (s : State) : Nat := 1 - ((s.fw.bootCurrent.map fun x => x.2.lastGood).getD 0)

/-- An activation in service is refused (R535): the running slot and the boot record are unchanged. -/
def State.refuseActivation (s : State) (cause : Nat) : State :=
  ({ s with fw := { s.fw with act := .refused, installing := none } }).setReg 0xE020 2 cause

/-- Step 2 of R535, taken at the write, and the erase that begins step 3 (log entry 39). -/
def State.beginInstall (s : State) (b : List Byte) : State :=
  let c := s.warmCause b
  if c ≠ 0 then s.refuseActivation c
  else
    let k := s.installSlot
    let s1 := (s.setSlot k none).noteSlot k 0
    (({ s1 with fw := { s1.fw with act := .installing, installing := some { bytes := b } } }).setReg 0xE020 2 0).setReg 0xE010 4 5

/-- The effect of an ACTIVATE write (R532). -/
def activateEffect (c : List Byte) (s : State) : Status × State :=
  let v := beNat c
  if (v = 1 ∨ v = 2) ∧ s.activateForbidden (decide (v = 2)) then (.mode, s)
  else if (v ≠ 1 ∧ v ≠ 2) ∨ s.stageState ≠ 3 then (.range, s)
  else if s.activationPending then (.busy, s)
  else if v = 1 then (.ok, s.writeBoot fun r => { r with stagedPending := true })
  else (.ok, s.beginInstall ((s.fw.delivery.map Delivery.bytes).getD []))

/-- AT_NEXT_START (R532): a write of 1 to ACTIVATE. -/
def execAtNextStart (o : Origin) (s : State) : Host.Outcome State Fault Refusal :=
  .next (s.runWrite o 0xE020 1 [1] activateEffect)

/-- WARM_NOW (R535): a write of 2 to ACTIVATE. -/
def execWarmNow (o : Origin) (s : State) : Host.Outcome State Fault Refusal :=
  .next (s.runWrite o 0xE020 1 [2] activateEffect)

/-- ACTIVATE_INSTALL_DONE (R535): the slot is programmed and read back, `good` unless the flash failed, and verified again. The boot
record then names the trial slot, and 1 ms later a warm restart begins with its steward images. -/
def execActivateInstallDone (good : Bool) (s : State) : Host.Outcome State Fault Refusal :=
  .next (match s.fw.installing with
    | none => s
    | some b =>
      let c := if good then s.verify b.bytes else 10
      if c ≠ 0 then (s.refuseActivation c).setReg 0xE010 4 3
      else
        let k := s.installSlot
        let s1 := s.install k b.bytes
        let s2 := { s1 with fw := { s1.fw with installing := none, restartDue := true } }
        ((s2.reach (s2.now + 1000000)).warmRestart 5 false).setRunning k)

/-! ### The trial (R536 to R538) -/

/-- A trial is confirmed (R537): the boot record, the floor and the revocations, in that order; the other slot reads REFUSED where they
now refuse its bundle. -/
def State.confirmTrial (s : State) : State :=
  match s.fw.trial with
  | none => s
  | some t =>
    let d := (bundleSection (((s.fw.slot t.slot).map fun x => x.bytes).getD []) 0x01).getD []
    let s1 := s.writeBoot fun r => { r with lastGood := t.slot, trialSlot := none, trialLeft := 0 }
    let floor := if bitAt (byteAt d 14) 1 then max s.fw.floor (byteAt d 15) else s.fw.floor
    let s2 := { s1 with fw := { s1.fw with floor := floor, revoked := s.fw.revoked ||| byteAt d 48 % 16, trial := none } }
    let s3 := (s2.setReg 0xE020 8 0).setReg 0xE002 t.slot 1
    let other := 1 - t.slot
    match s3.fw.slot other with
    | none => s3
    | some b => let c := s3.verify b.bytes; if c = 2 ∨ c = 7 then s3.noteSlot other c else s3

/-- The effect of a CONFIRM write (R537). -/
def confirmEffect (c : List Byte) (s : State) : Status × State :=
  if beNat c = 0 then (.ok, s)
  else match s.fw.trial with
    | none => (.ok, s)
    | some t => if t.healthy then (.ok, s.confirmTrial) else (.busy, s)

/-- CONFIRM (R537). -/
def execConfirm (o : Origin) (v : List Byte) (s : State) : Host.Outcome State Fault Refusal :=
  .next (s.runWrite o 0xE020 3 v confirmEffect)

/-- The effect of a REVERT write (R538). A cold reset follows within 1 ms, and so after the answer. -/
def revertEffect (c : List Byte) (s : State) : Status × State :=
  if beNat c = 0 then (.ok, s) else (.ok, s.failTrial 3)

/-- REVERT (R538). -/
def execRevert (o : Origin) (v : List Byte) (s : State) : Host.Outcome State Fault Refusal :=
  .next (s.runWrite o 0xE020 4 v revertEffect)

/-- CONFIRM_DELAY_EXPIRY (R537): a trial in mode AUTO has been healthy for CONFIRM_DELAY_S; its time does not run in DORMANT. -/
def execConfirmDelayExpiry (s : State) : Host.Outcome State Fault Refusal :=
  .next (match s.fw.trial with
    | some { since := some t, healthy := true, .. } =>
      if s.reg 0xE020 5 ≠ 0 ∨ s.mode = .dormant then s else (s.reach (t + s.reg 0xE020 6 * 1000000000)).confirmTrial
    | _ => s)

/-- CONFIRM_DEADLINE_EXPIRY (R538). -/
def execConfirmDeadlineExpiry (s : State) : Host.Outcome State Fault Refusal :=
  .next (match s.fw.trial with
    | some { since := some t, .. } =>
      if s.mode = .dormant then s else (s.reach (t + s.reg 0xE020 7 * 1000000000)).failTrial 2
    | _ => s)

end Sys2Proof.Machine
end

