-- ==== Sys2Proof/Machine/Effects.lean ====
section
/-! DEFINITION. Sys2Proof/Machine/Effects.lean: what a write of each object that is not epoch-versioned does, for every path that carries
one: an operation of a request, a batch, a record of the mate (R124, R130, R137). -/

namespace Sys2Proof.Machine

/-! ### Values that only the state can judge -/

/-- TX_FIR (R433): PRE2, PRE1, MAIN and POST1 in 1/64 of full swing. -/
def firOk (c : List Byte) : Bool :=
  decide (((c.map fun b => (toSigned 8 b.toNat).natAbs).foldl (· + ·) 0) ≤ 64) && decide (24 ≤ toSigned 8 (byteAt c 2))

/-- WRED_PROFILE (R276): bytes 0 to 3 MIN_CELLS, 4 to 7 MAX_CELLS, 8 and 9 the probability, 10 W, 11 reserved. -/
def wredOk (c : List Byte) : Bool :=
  !(decide (beAt c 4 4 ≠ 0) && decide (beAt c 4 4 ≤ beAt c 0 4)) && decide (byteAt c 10 ≤ 15) && decide (byteAt c 11 = 0)

/-- MAILBOX_ENDS (R471, R476): three bytes for each end, a set of 0xFF for none. -/
def endsOk (c : List Byte) : Bool :=
  let one (k : Nat) : Bool := decide (byteAt c k = 0xFF) ||
    (decide (byteAt c k < 64) && decide (8 ≤ byteAt c (k + 1) ∧ byteAt c (k + 1) ≤ 31) && decide (8 ≤ byteAt c (k + 2) ∧ byteAt c (k + 2) ≤ 31))
  one 0 && one 3

/-- DOORBELL_DEST (R467). -/
def destOk (d : Nat) : Bool :=
  decide (fld d 29 11 = 0) && (match fld d 31 30 with
    | 2 => decide (fld d 10 0 < 128)
    | 3 => decide (fld d 10 0 < 64)
    | _ => true)

/-- A handle names an egress queue of a port. -/
def State.egressQueueOf (s : State) (h p : Nat) : Bool :=
  (mget s.tm.queues (handleIndex h)).any fun q => !q.voq && decide (q.port = p)

/-- AGE_TIME_S of a TIMESTAMP region stays within 16,384 ticks (R237). -/
def State.ageOk (s : State) (ri v : Nat) : Bool :=
  match mget s.tables.regions ri with
  | some r => decide (r.ageMode ≠ 2) || decide (v * 1000 ≤ 16384 * r.ageTick)
  | none => true

/-- A VOQ leads to this unit number (R350). -/
def State.voqTo (s : State) (unit : Nat) : Bool := s.tm.queues.any fun (_, q) => q.voq && decide (q.dest % 4096 = unit)

/-- The cage map with one entry changed. -/
def State.cageMapWith (s : State) (n e : Nat) : List Nat := lset ((List.range 32).map fun k => s.reg 0x1021 k) n e

/-- Whether a value is in range where the object's own table row does not say so. -/
def State.valueOk (s : State) (i j : Nat) (c : List Byte) : Bool :=
  let v := beNat c
  if i = 0x1021 then cageMapGood (s.cageMapWith j v)
  else if i = 0x3007 ∨ i = 0x3180 then decide (v ≤ 1)
  else if i = 0x3210 ∨ i = 0x3410 ∨ i = 0x3610 then firOk c
  else if i = 0x3022 then decide (v = 0) || s.egressQueueOf v j
  else if 0x8030 ≤ i ∧ i ≤ 0x8033 then decide (v = 0) || s.egressQueueOf v (32 * (i - 0x8030) + j / 8)
  else if i = 0x3100 ∧ j = 3 then decide (-500000000 ≤ toSigned 32 v ∧ toSigned 32 v ≤ 500000000)
  else if i = 0x5803 then s.ageOk j v
  else if i = 0x7020 then wredOk c
  else if i = 0x8000 ∧ j = 1 then !s.voqTo v
  else if i = 0x9000 ∧ j = 1 then decide (v = 0) || !s.voqsShare
  else if i = 0xA801 then endsOk c
  else if i = 0xA901 then destOk v
  else if i = 0xE020 ∧ j = 6 then decide (v ≤ s.reg 0xE020 7)
  else if i = 0xE020 ∧ j = 7 then decide (s.reg 0xE020 6 ≤ v)
  else true

/-! ### What follows the new value of an object -/

/-- A session ends (R144): its BLOB copies and partial values with it. -/
def State.endSession (s : State) (k : Nat) : State :=
  { s with acc := { s.acc with
      sessions := mdel s.acc.sessions k
      accepts := s.acc.accepts.filter (fun h => decide (h.session ≠ k))
      partials := s.acc.partials.filter (fun h => decide (h.origin ≠ .session k))
      copies := s.acc.copies.filter (fun h => decide (h.origin ≠ .session k))
      outcomes := s.acc.outcomes.filter (fun h => decide (h.origin ≠ .session k))
      results := s.acc.results.filter (fun h => decide (h.origin ≠ .session k)) } }

/-- Every session opened with a key slot ends (R144, R147). -/
def State.endSlotSessions (s : State) (slot : Nat) : State :=
  (s.acc.sessions.filter fun (_, x) => decide (x.slot = slot)).foldl (fun s k => s.endSession k.1) s

/-- A cage map entry changed (R107): a cage that is no longer fitted reports so, and one newly fitted holds no module yet. -/
def State.refitCage (s : State) (n was : Nat) : State :=
  let s1 := s.applyProfiles
  if fld was 11 8 = 0 ∧ s.cageLanes n ≠ 0 then (s1.setCage n .reset).setModule n 1
  else if fld was 11 8 ≠ 0 ∧ s.cageLanes n = 0 then (((s1.setCage n .reset).setModule n 0).setModReset n false).setLpMode n true
  else s1

/-- A fabric link that is no longer in service is DISABLED, and its cells go to other links (R329, R344). -/
def State.disableLink (s : State) (l : Nat) : State := ((s.failLink l 0).setReg 0x3406 l (s.reg 0x3406 l)).setReg 0x3400 l 0

/-- FAB_LINK_ADMIN or LINK_GROUP of a link changed (R329): it trains where it may be in service, and a test on it ends (R543). -/
def State.restartLink (s : State) (l : Nat) : State :=
  if !s.linkAllowed l then s
  else if s.quad (l / 4) = .awake then (s.abortTestOn 1 l).setReg 0x3400 l 1 else (s.abortTestOn 1 l).setReg 0x3400 l 5

/-- MATE_LANE_ADMIN of a lane changed (R355, R357): a lane held DISABLED leaves its cells to the others. -/
def State.refitLane (s : State) (k : Nat) : State :=
  if s.reg 0x3601 k = 1 then
    if s.reg 0x3600 k = 0 ∧ s.pairEnabled = true ∧ s.mode ≠ .dormant ∧ s.mode ≠ .diagnostic then
      ((s.abortTestOn 2 k).setLane k .reset).setReg 0x3600 k 1
    else s
  else ((s.failLane k).setReg 0x3604 k (s.reg 0x3604 k)).setReg 0x3600 k 0

/-- Domains newly pinned or newly excluded by a policy wake at once (R79). -/
def State.policyWake (s : State) (i j was : Nat) : State :=
  let v := s.reg i j
  if i = 0x2010 ∧ j = 4 then
    (List.range 16).foldl (fun s n => if bitAt v n ∧ !bitAt was n then s.askWake n else s) s
  else if i = 0x2010 ∧ j = 1 ∧ v = 0 ∧ was = 1 then (List.range 16).foldl State.askWake s
  else if i = 0x2011 ∧ j = 1 ∧ v = 0 ∧ was = 1 then (List.range 40).foldl State.wakeQuad s
  else if i = 0x2012 ∧ j = 1 ∧ v = 0 ∧ was = 1 then s.wakeStacks
  else s

/-- What follows from the new value of an object; `was` is its old value. -/
def State.afterStore (s : State) (i j was : Nat) : State :=
  if i = 0x1021 then s.refitCage j was
  else if i = 0x1041 ∨ i = 0x1042 then s.endSlotSessions j
  else if 0x2010 ≤ i ∧ i ≤ 0x2012 then s.policyWake i j was
  else if i = 0x3110 then s.refreshRecclk
  else if i = 0x3180 then (if s.reg i j ≠ was then s.setReg 0x3181 j 0 else s)
  else if i = 0x3401 ∨ i = 0x8010 then
    (if s.reg i j = was then s else s.restartLink j)
  else if i = 0x3601 then (if s.reg i j = was then s else s.refitLane j)
  else if i = 0x9000 ∧ j = 1 then
    (if s.reg i j = was then s else ({ s with pair := { s.pair with mateLost := false } }).powerPair.refreshIdentity)
  else if (i = 0x9000 ∧ j = 2) ∨ (i = 0x8000 ∧ j = 1) then s.refreshIdentity
  else s

/-- What must be done before the new value is stored: the clock runs on at its new rate from now (R426), and a link leaves its group
or its service (R329). -/
def State.beforeStore (s : State) (i j : Nat) (c : List Byte) : State :=
  if i = 0x3100 ∧ j = 3 then s.setClock s.clockFine
  else if (i = 0x3401 ∨ i = 0x8010) ∧ s.reg i j ≠ beNat c then s.disableLink j
  else s

/-- A write of an object whose rule is only its value and what follows it. -/
def State.plainEffect (s : State) (i j : Nat) (c : List Byte) : Status × State :=
  if !s.valueOk i j c then (.range, s)
  else
    let was := s.reg i j
    (.ok, ((s.beforeStore i j c).storeValue i j c).afterStore i j was)

/-! ### Commands -/

/-- RESET_REQUEST (R89, R92, R95): the reset follows the answer. WARM is not served in DORMANT, and COLD is served only in DORMANT,
BRINGUP and DIAGNOSTIC. -/
def resetRequestEffect (c : List Byte) (s : State) : Status × State :=
  let due (n : Nat) : Status × State := (.ok, { s with acc := { s.acc with resetDue := n } })
  if beNat c = 1 then (if s.mode = .dormant then (.mode, s) else due 1)
  else if s.mode = .dormant ∨ s.mode = .bringup ∨ s.mode = .diagnostic then due 2
  else (.mode, s)

/-- Query objects: the writes that fill a result object of the requester. -/
def State.queryEffect (s : State) (o : Origin) (i j : Nat) (c : List Byte) : Option (Status × State) :=
  let fill (rj : Nat) (f : List Byte → State → Status × List Byte × State) : Option (Status × State) :=
    some (State.answerInto o i rj (f c s))
  match i, j with
  | 0x5880, 1 => fill 2 tableAnswer
  | 0x6020, 1 => fill 2 ruleAnswer
  | 0x7402, 2 => fill 3 queueAnswer
  | 0x7601, 2 => fill 3 mcastAnswer
  | 0x7802, 2 => fill 3 schedAnswer
  | 0x7C02, 2 => fill 3 meterAnswer
  | 0xA010, 2 => fill 4 channelAnswer
  | 0xC001, 3 => fill 4 snapshotAnswer
  | 0xC003, 1 => fill 2 wrapAnswer
  | 0xC102, 1 => fill 2 counterSetAnswer
  | 0xC810, 1 => fill 2 traceAnswer
  | 0xC840, 1 => fill 2 histogramAnswer
  | _, _ => none

/-- Commands of one object each. -/
def State.commandEffect (s : State) (o : Origin) (i j : Nat) (c : List Byte) : Option (Status × State) :=
  match i, j with
  | 0x1010, 1 => some (resetRequestEffect c s)
  | 0x2000, 2 => some (modeRequestEffect c s)
  | 0x3100, 2 => some (ptpStepEffect c s)
  | 0x5890, 1 => some (flushEffect c s)
  | 0x7402, 1 => some (queueSetEffect c s)
  | 0x7601, 1 => some (mcastSetEffect c s)
  | 0x7802, 1 => some (schedSetEffect c s)
  | 0x7C02, 1 => some (meterSetEffect c s)
  | 0x78A0, 1 => some (watchUsEffect c s)
  | 0x9000, 7 => some (switchoverEffect c s)
  | 0x9000, 8 => some (faultRequestEffect c s)
  | 0xA010, 1 => some (channelSetEffect c s)
  | 0xA010, 3 => some (ringEnableEffect c s)
  | 0xB030, 3 => some (integratorRestartEffect c s)
  | 0xC000, 3 => some (clearEffect c s)
  | 0xC001, 1 => some (snapshotEffect c s)
  | 0xC810, 3 => some (ringResetEffect c s)
  | 0xD000, 1 => some (patternStartEffect o c s)
  | 0xD000, 2 => some (patternStopEffect c s)
  | 0xD020, 1 => some (bistStartEffect c s)
  | 0xD040, 4 => some (healthClearEffect c s)
  | 0xE010, 1 => some (stageOpenEffect c s)
  | 0xE020, 1 => some (activateEffect c s)
  | 0xE020, 3 => some (confirmEffect c s)
  | 0xE020, 4 => some (revertEffect c s)
  | _, _ => none

/-- Objects with a rule of their own at every sub-index. -/
def State.rangeEffect (s : State) (o : Origin) (i j : Nat) (c : List Byte) : Option (Status × State) :=
  if 0x1100 ≤ i ∧ i < 0x1120 ∧ j = 0x11 then some (rereadEffect (i - 0x1100) c s)
  else if i = 0x3000 then some (portModeEffect j c s)
  else if i = 0x3001 then some (portSliceEffect j c s)
  else if i = 0x3002 then some (portAdminEffect j c s)
  else if i = 0x3023 then some (stampPopEffect o j c s)
  else if i = 0x7140 then some (hbmDelaysEffect j c s)
  else if 0x7880 ≤ i ∧ i ≤ 0x788F then some (watchQueueEffect (256 * (i - 0x7880) + j) c s)
  else if i = 0x7E01 then some (windowPortEffect j c s)
  else if i = 0x7E05 then some (windowEnableEffect j c s)
  else if i = 0xA911 then some (lockForceEffect j c s)
  else if i = 0xB003 then some (threadWeightEffect j c s)
  else if i = 0xB004 then some (threadWeightEffect (128 + j) c s)
  else if i = 0xB020 then some (puntQueueEffect false j c s)
  else if i = 0xB021 then some (puntQueueEffect true j c s)
  else if i = 0xB031 then some (integratorWindowEffect j c s)
  else none

/-- The effect of a write of an object that is not epoch-versioned and no BLOB, once the checks of R152 have passed. -/
def State.writeEffect (s : State) (o : Origin) (i j : Nat) (c : List Byte) : Status × State :=
  match s.queryEffect o i j c with
  | some r => r
  | none =>
    match s.commandEffect o i j c with
    | some r => r
    | none => (s.rangeEffect o i j c).getD (s.plainEffect i j c)

/-- The rule that makes a channel at a create object (R128). -/
def createRule (i : Nat) : Option (List Byte → State → Except Status (Nat × State)) :=
  match i with
  | 0x5001 => some createEmRegion
  | 0x5401 => some createLpmRegion
  | 0x6001 => some createRuleSet
  | 0x7401 => some createQueue
  | 0x7801 => some createNode
  | 0x7C01 => some createMeter
  | 0xA001 => some createChannel
  | 0xC101 => some createCounterSet
  | _ => none

end Sys2Proof.Machine
end

