-- ==== Sys2Proof/Machine/Reads.lean ====
section
/-! DEFINITION. Sys2Proof/Machine/Reads.lean: the value of every object as a read finds it, and the READ, DESCRIBE and NEXT operations
(R116 to R123, R141, R152, R574). -/

namespace Sys2Proof.Machine

/-! ### Numbers that the device computes -/

/-- Cells of a flow group's pin table (R340): a lane number, 0xFF for none. -/
def State.pinTable (s : State) (g : Nat) : List Byte :=
  (List.range 256).map fun b => BitVec.ofNat 8 (((s.fabGroup g).pins.getD b none).getD 0xFF)

/-- Segments of the packet region in use (R281, R282). -/
def State.hbmSegments (s : State) : Nat :=
  ((s.tm.queues.map fun (_, q) => q.packets.filterMap fun h => match h.location with
    | .onDie => none
    | .writing g => some g
    | .hbm g => some g
    | .reading g => some g).flatten).eraseDups.length

/-- TCAM blocks that are ON (R247). -/
def State.blocksOn (s : State) : Nat :=
  (s.tables.ruleSets.map fun (i, r) => ((List.range r.blocks).filter (s.tables.blockOn r i)).length).foldl (· + ·) 0

/-- Blocks in no rule set, but for those that a BIST found failing (R552). -/
def State.blocksFree (s : State) : Nat :=
  ((List.range 256).filter fun b => s.blockRuns.all fun x => decide (b < x.1) || decide (x.1 + x.2 ≤ b)).length

/-- MATE_STATE (R114). -/
def State.mateState (s : State) : Nat :=
  match (if s.mateLinkUp then s.pair.mate.identity else none) with
  | none => 0
  | some m => if compatible s.identity m then 1 else 2

/-- Packets that a standby holds toward the fabric. -/
def State.heldPackets (s : State) : Nat :=
  if s.standby then (s.tm.queues.map fun (_, q) => if q.voq then q.packets.length else 0).foldl (· + ·) 0 else 0

/-- MATE_LAG_NS: the age of the oldest unapplied entry on the standby. -/
def State.mateLag (s : State) : Nat :=
  match (s.pair.entries.map (·.since)).min? with
  | some t => min (2 ^ 32 - 1) (s.now - t)
  | none => 0

/-- MODE_REQUEST as read (R72). -/
def ModeStatus.code : ModeStatus → Nat
  | .done => 0 | .inProgress => 1 | .aborted => 2 | .drainTimeout => 3

/-- ACTIVATE as read (R532). -/
def ActState.code : ActState → Nat
  | .idle => 0 | .installing => 1 | .done => 2 | .refused => 3

/-- Entries of a region that CURRENT sees (R245). -/
def State.regionEntries (s : State) (ri : Nat) : List (Place × Entry) := s.tables.visibleEntries ri s.epochs.current

/-- Those of them in the overflow store. -/
def State.ovfEntries (s : State) (ri : Nat) : Nat :=
  ((s.regionEntries ri).filter fun x => match x.1 with | .ovf _ => true | _ => false).length

/-- Buckets of one array that no region takes. -/
def State.bucketsFree (s : State) (em : Bool) (n : Nat) : Nat := n - ((s.tables.bucketRuns em).map (·.2)).foldl (· + ·) 0

/-- STAGE_STATE of slot 1 or 2 (R188): LOADING while a value is being written, else what the check of its image left. -/
def State.imageState (s : State) (k : Nat) : Nat :=
  if s.acc.partials.any (fun h => decide (h.index = 0x4200) && decide (h.sub = k)) then 1 else s.reg 0x4201 k

/-- Numbers of identity, modes, time, and the sequencer. -/
def State.viewCore (s : State) (i j : Nat) : Option Nat :=
  let e := s.epochs
  let older := (e.current + 65535) % 65536
  match i, j with
  | 0x1010, 1 => some 0
  | 0x1040, 5 => some s.acc.sessions.length
  | 0x1300, 1 => some s.mateState
  | 0x1300, 5 => s.pair.mate.identity.map fun m => beAt m 42 2
  | 0x1300, 7 => s.pair.mate.identity.map identPosition
  | 0x2000, 1 => some s.mode.code
  | 0x2000, 2 => some s.power.ms.status.code
  | 0x2000, 9 => some (if s.mode = .drain then (s.tm.queues.filter fun (_, q) => !q.packets.isEmpty).length else 0)
  | 0x3100, 1 => some s.ptp
  | 0x3201, _ => some (s.lanePort j)
  | 0x3605, 1 => some s.lanesUp.length
  | 0x4000, 1 => some e.current
  | 0x4000, 2 => some older
  | 0x4000, 3 => some (s.inflight e.current)
  | 0x4000, 4 => some (s.inflight older)
  | 0x4000, 5 => some (if !e.queue.isEmpty ∧ e.staged.isNone then 1 else 0)
  | 0x4001, 1 => some e.cur.programId
  | 0x4001, 2 => some e.old.programId
  | 0x4001, 3 => some e.cur.bank
  | 0x4201, 1 => some (s.imageState 1)
  | 0x4201, 2 => some (s.imageState 2)
  | 0x4400, 2 => some 0
  | 0x5C00, 1 => some (s.acc.batches.filter fun (_, b) => b.isOpen).length
  | 0x5C00, 2 => some ((s.acc.batches.map fun (_, b) => if b.isOpen then b.ops.length else 0).foldl (· + ·) 0)
  | _, _ => none

/-- Numbers of the tables. -/
def State.viewTables (s : State) (i j : Nat) : Option Nat :=
  match i, j with
  | 0x5000, 2 => some (s.bucketsFree true 1048576)
  | 0x5000, 4 => some (s.tables.ovf.filter fun (_, x) => x.visible s.epochs.current).length
  | 0x5003, _ => some (s.regionEntries j).length
  | 0x5004, _ => some (s.ovfEntries j)
  | 0x5400, 2 => some (s.bucketsFree false 1572864)
  | 0x5400, 3 => some s.tables.filterFree
  | 0x5403, _ => some (s.regionEntries j).length
  | 0x5800, 3 => some (if s.learnServed then 1 else 0)
  | 0x5880, 3 => some (s.tables.iters.filter fun (_, x) => x.isOpen).length
  | 0x6000, 3 => some s.blocksFree
  | 0x6000, 4 => some s.blocksOn
  | 0x6003, _ => some (s.tables.visibleRules j s.epochs.current).length
  | 0x6401, 1 => some ((List.range 256).filter fun k => bitAt (beNat (s.epochs.cur.oct 0x6400 k)) 63).length
  | _, _ => none

/-- Numbers of the traffic manager, the HBM, the fabric and the pair. -/
def State.viewTraffic (s : State) (i j : Nat) : Option Nat :=
  match i, j with
  | 0x7000, 3 => some s.tm.cells
  | 0x7000, 4 => some s.hbmSegments
  | 0x7000, 9 => some s.committedRes
  | 0x7000, 0x0B => some (bufferDescriptors - s.tm.descriptors)
  | 0x7000, 0x0C => some s.unusedRes
  | 0x7011, _ => some (s.poolUsed j)
  | 0x7100, 1 => some ((List.range 4).filter fun h => decide (s.reg 0x7101 h ≠ 3)).length
  | 0x7100, 3 => some ((96 - s.reg 0x7000 7) * 2 ^ 30 - 8 * 2 ^ 20)
  | 0x7400, 2 => some s.tm.queues.length
  | 0x7600, 2 => some (524288 - s.memberCount)
  | 0x7800, 2 => some s.tm.nodes.length
  | 0x7C00, 2 => some s.meters.length
  | 0x7C03, _ => some (s.metersFree j)
  | 0x8012, _ => some (s.usableLinks j).length
  | 0x9000, 3 => some s.role
  | 0x9000, 4 => some s.pairState
  | 0x9000, 5 => some s.refuseCause
  | 0x9001, 0x0A => some s.heldPackets
  | 0x9001, 0x0D => some s.mateLag
  | 0x9001, 0x0E => some s.pendingKib
  | _, _ => none

/-- Numbers of the host side, the stewards, counters, tests and firmware. -/
def State.viewHost (s : State) (i j : Nat) : Option Nat :=
  match i, j with
  | 0xA000, 2 => some s.host.channels.length
  | 0xA000, 6 => some (Config.vendorId % 65536)
  | 0xA910, _ => some (s.lockOwner j)
  | 0xB001, _ => some (s.thread j).state.code
  | 0xB002, _ => some (s.thread (128 + j)).state.code
  | 0xB005, _ => some (s.thread j).faultCause
  | 0xB006, _ => some (s.thread (128 + j)).faultCause
  | 0xC000, 2 => some (s.stats.wrapped.filter fun (_, w) => w).length
  | 0xC001, 1 => some s.stats.snapshot
  | 0xC101, 1 => some s.stats.sets.length
  | 0xD000, 3 => some (s.test.tests.filter fun (_, t) => t.running).length
  | 0xD020, 1 => some s.test.bistState
  | 0xD060, 1 => some jtagIdcode
  | 0xE000, 3 => some (Config.steppingCode % 256)
  | 0xE000, 4 => some s.fw.floor
  | 0xE000, 5 => some s.fw.revoked
  | 0xE020, 1 => some s.fw.act.code
  | _, _ => none

/-- A number that the device computes when it is read. -/
def State.viewNat (s : State) (i j : Nat) : Option Nat :=
  if i < 0x5000 ∨ 0x5C00 ≤ i ∧ i < 0x5D00 then s.viewCore i j
  else if i < 0x7000 then s.viewTables i j
  else if i < 0xA000 then s.viewTraffic i j
  else s.viewHost i j

/-! ### Byte strings that the device computes -/

/-- The key of a pattern test in the store of tests, of each result object. -/
def testKey (i j : Nat) : Option Nat := if 0xD100 ≤ i ∧ i ≤ 0xD105 then some (256 * (i - 0xD100) + j) else none

/-- Result objects that each requester has for itself. -/
def isResult (i j : Nat) : Bool :=
  decide (i = 0x3023) || decide (i = 0x5880 ∧ j = 2) || decide (i = 0x6020 ∧ j = 2) || decide (i = 0x7402 ∧ j = 3)
    || decide (i = 0x7601 ∧ j = 3) || decide (i = 0x7802 ∧ j = 3) || decide (i = 0x7C02 ∧ j = 3) || decide (i = 0xA010 ∧ j = 4)
    || decide (i = 0xC001 ∧ j = 4) || decide (i = 0xC003 ∧ j = 2) || decide (i = 0xC102 ∧ j = 2) || decide (i = 0xC810 ∧ j = 2)
    || decide (i = 0xC840 ∧ j = 2)

/-- Ports in a flush scan as 16 bytes, port n in bit n mod 8 of byte 15 − n div 8 (R245). -/
def portBits (ports : List Nat) : List Byte := natBe (ports.foldl (fun m p => m ||| 2 ^ p) 0) 16

/-- FLUSH_PENDING of a region: the ports pending, then those of them with ALSO_STATIC. -/
def State.flushPending (s : State) (ri : Nat) : List Byte :=
  match mget s.tables.flush ri with
  | none => List.replicate 32 0
  | some f => portBits (f.ports.map (·.port)) ++ portBits ((f.ports.filter (·.static)).map (·.port))

/-- EYE_MARGIN of a pseudo-channel (R406): EL and ER of each lane. -/
def State.eyeMargin (s : State) (cc : Nat) : List Byte :=
  ((s.pc cc).edges.map fun (l, r) => [BitVec.ofNat 8 (ofSigned 8 l), BitVec.ofNat 8 (ofSigned 8 r)]).flatten

/-- Byte strings that have no home in the registers. -/
def State.viewBytes (s : State) (i j : Nat) : Option (List Byte) :=
  let mate (off len : Nat) : Option (List Byte) := s.pair.mate.identity.map fun m => slice m off len
  match i, j with
  | 0x1000, 3 => some (slice Config.feDieId 0 16)
  | 0x1000, 4 => some (slice Config.tmDieId 0 16)
  | 0x1000, 5 => some Config.stepping
  | 0x1300, 2 => mate 4 16
  | 0x1300, 3 => mate 20 16
  | 0x1300, 4 => s.pair.mate.identity.map fun m => Config.versionText (identVersion m)
  | 0x1300, 6 => (mate 48 24).map fun b => b.takeWhile (fun x => x != 0)
  | 0x5002, _ => (mget s.tables.regions j).map fun r => patch r.params 20 (natBe r.base 4)
  | 0x5402, _ => (mget s.tables.regions j).map fun r => r.params ++ natBe r.base 4
  | 0x5804, _ => some (s.flushPending j)
  | 0x5890, 1 => some (natBe s.tables.flush.length 1)
  | 0x6002, _ => (mget s.tables.ruleSets j).map fun r => r.params ++ natBe r.baseBlock 2 ++ [0, 0]
  | 0x7140, _ => some (s.pc j).delays
  | 0x7141, _ => some (s.eyeMargin j)
  | 0x8013, _ => some (s.pinTable j)
  | _, _ => none

/-- The value of a BLOB (R127). -/
def State.blobValue (s : State) (i j : Nat) : List Byte :=
  match i, j with
  | 0xD020, 4 => s.test.bistDetail.flatten
  | 0xD040, 3 => s.test.health.flatten
  | 0xD040, 5 => s.fw.faultLog.flatten
  | 0xE010, 3 => s.stageMap
  | _, _ =>
    if 0x1100 ≤ i ∧ i < 0x1120 ∧ j = 0x10 then
      let c := s.cage (i - 0x1100)
      natBe c.passStatus 1 ++ c.passData
    else s.oct i j

/-! ### READ -/

/-- A number in the canonical form of its type. -/
def numValue (ty : ObjType) (n : Nat) : List Byte := natBe n (ty.fixedLen.getD 1)

/-- The read of a CMD object by R118: the outcome of the requester's last write. -/
def outcomeValue (ty : ObjType) (st : Status) : List Byte :=
  match ty with
  | .octets | .text | .blob => natBe st.code 1
  | .bool => [if st = .ok then 0 else 1]
  | _ => numValue ty st.code

/-- Objects of a CMD right whose read their own table states (R118). -/
def ownRead (i j : Nat) : Bool :=
  decide (i = 0x1010 ∧ j = 1) || decide (i = 0x2000 ∧ j = 2) || decide (i = 0x4400 ∧ j = 2) || decide (i = 0x5890 ∧ j = 1)
    || decide (i = 0xC001 ∧ j = 1) || decide (i = 0xD020 ∧ j = 1) || decide (i = 0xE020 ∧ j = 1) || decide (i = 0x3023)

/-- Whether a value is a byte string. -/
def ObjType.stringy (t : ObjType) : Bool := t.fixedLen.isNone

/-- The stored value of an object in canonical form: at CURRENT for a versioned one (R130). -/
def State.storedValue (s : State) (i j : Nat) (ty : ObjType) : List Byte :=
  let v := s.epochs.cur
  match versioned i j, ty.stringy with
  | true, true => v.oct i j
  | true, false => numValue ty (v.reg i j)
  | false, true => s.oct i j
  | false, false => numValue ty (s.reg i j)

/-- The value of an object that is no BLOB, in canonical form, for a requester. What the device sets and the manual does not give is a
free value (log entry 1): the power of a domain, and the parameters of a rule set that does not exist. -/
def State.valueOf (s : State) (o : Origin) (i j : Nat) (d : ObjDef) : List Byte × State :=
  if isResult i j then (s.resultOf o i j, s)
  else if (d.access = .cmd ∧ !ownRead i j) ∨ isCreateObject i j then (outcomeValue d.ty (s.outcomeOf o i j), s)
  else match testKey i j with
    | some k => let s1 := s.sampleTest k; (s1.testResult k, s1)
    | none =>
      if i = 0x2102 then let (x, s1) := s.draw; (natBe x 4, s1)
      else match s.viewNat i j with
        | some n => (numValue d.ty n, s)
        | none => match s.viewBytes i j with
          | some b => (b, s)
          | none => if i = 0x6002 then s.drawBytes 20 else (s.storedValue i j d.ty, s)

/-- Checks 1 to 5 of R152 for a read of a BLOB or of another object, and BUSY of a warm restart last (R92). -/
def State.checkRead (s : State) (o : Origin) (blob : Bool) (i j : Nat) : Status :=
  if !dictHasIndex i then .noObject
  else match dictRow i j with
    | none => .noSubindex
    | some d =>
      if !s.exists i j then .noSubindex
      else if s.roleOf o = 0 then .denied
      else if (d.ty = .blob) ≠ (blob = true) then .typeMismatch
      else if d.access = .wo then .writeOnly
      else if s.modeForbids i j false then .mode
      else .ok

/-- The answer of an operation with data. -/
def dataAns (opcode i j ty : Nat) (data : List Byte) : OpAns :=
  { opcode := opcode, status := .ok, index := i, sub := j, ty := ty, data := data }

/-- READ (R141): TYPE 0x00 or the object's type, and no data. -/
def State.opRead (s : State) (o : Origin) (i j ty len : Nat) : OpAns × State :=
  match s.checkRead o false i j, dictRow i j with
  | .ok, some d =>
    if (ty ≠ 0 ∧ ty ≠ d.ty.code) ∨ len ≠ 0 then (bareAns 0x01 .typeMismatch i j, s)
    else if s.restarting i then (bareAns 0x01 .busy i j, s)
    else
      let (v, s1) := s.valueOf o i j d
      (dataAns 0x01 i j d.ty.code (wireValue o.be d.ty v), s1)
  | .ok, none => (bareAns 0x01 .noSubindex i j, s)
  | st, _ => (bareAns 0x01 st i j, s)

/-- READ (R141). -/
def execRead (o : Origin) (i j ty : Nat) (s : State) : Host.Outcome State Fault Refusal :=
  .next (let (a, s1) := s.opRead o i j ty 0
         s1.answer o a)

/-! ### DESCRIBE and NEXT -/

/-- MAX_LENGTH of an object: the length that its own row fixes or bounds, else that of its type. -/
def ObjDef.maxLength (d : ObjDef) : Nat :=
  match d.limits with
  | .len n => n
  | .maxLen n => n
  | _ => d.ty.maxLen

/-- DEFAULT as DESCRIBE gives it, in canonical form; empty where the device sets the value. -/
def ObjDef.defaultValue (d : ObjDef) (i j : Nat) : List Byte :=
  if i = 0x4410 then defaultNode j
  else match d.dflt with
  | none => []
  | some (.num n) => numValue d.ty n
  | some (.bytes b) => b
  | some (.zeros n) => List.replicate n 0

/-- The data of a DESCRIBE (R141). -/
def describeData (be : Bool) (d : ObjDef) (i j : Nat) : List Byte :=
  let attr := (if d.p then 1 else 0) + (if d.m then 2 else 0) + (if d.v then 4 else 0)
  natBe d.ty.code 1 ++ natBe d.access.code 1 ++ natBe attr 1 ++ [0] ++ numBytes be d.maxLength 4 ++ wireValue be d.ty (d.defaultValue i j)

/-- Checks of an operation that every role but DISABLED may do on every object. -/
def State.checkDescribe (s : State) (o : Origin) (i j : Nat) : Status :=
  if !dictHasIndex i then .noObject
  else if (dictRow i j).isNone ∨ !s.exists i j then .noSubindex
  else if s.roleOf o = 0 then .denied
  else if s.modeForbids i j false then .mode
  else .ok

/-- DESCRIBE (R141). -/
def State.opDescribe (s : State) (o : Origin) (i j ty len : Nat) : OpAns :=
  match s.checkDescribe o i j, dictRow i j with
  | .ok, some d =>
    if ty ≠ 0 ∨ len ≠ 0 then bareAns 0x05 .typeMismatch i j
    else if s.restarting i then bareAns 0x05 .busy i j
    else dataAns 0x05 i j 10 (describeData o.be d i j)
  | .ok, none => bareAns 0x05 .noSubindex i j
  | st, _ => bareAns 0x05 st i j

/-- DESCRIBE (R141). -/
def execDescribe (o : Origin) (i j : Nat) (s : State) : Host.Outcome State Fault Refusal :=
  .next (s.answer o (s.opDescribe o i j 0 0))

/-- The first sub-index of an index after a bound that exists now. -/
def State.nextSub (s : State) (i lo : Nat) : Option Nat :=
  (List.range (256 - lo)).findSome? fun k => if (dictRow i (lo + k)).isSome ∧ s.exists i (lo + k) then some (lo + k) else none

/-- The lowest index above a bound that the dictionary has. -/
def nextIndex (i : Nat) : Option Nat :=
  (dictionary.filterMap fun d => if i < d.idxHi then some (max d.idxLo (i + 1)) else none).min?

/-- The first object that exists after a starting point, in ascending order (R141). -/
def State.nextObject : Nat → State → Nat → Nat → Option (Nat × Nat)
  | 0, _, _, _ => none
  | fuel + 1, s, i, lo =>
    match s.nextSub i lo with
    | some j => some (i, j)
    | none => match nextIndex i with
      | some i' => State.nextObject fuel s i' 0
      | none => none

/-- NEXT (R141): the answer names the object found, or NO_OBJECT past the last. -/
def State.opNext (s : State) (o : Origin) (i j ty len : Nat) : OpAns :=
  if s.roleOf o = 0 then bareAns 0x06 .denied i j
  else if ty ≠ 0 ∨ len ≠ 0 then bareAns 0x06 .typeMismatch i j
  else match State.nextObject 65537 s i (j + 1) with
    | some (i', j') => bareAns 0x06 .ok i' j'
    | none => bareAns 0x06 .noObject i j

/-- NEXT (R141). -/
def execNext (o : Origin) (i j : Nat) (s : State) : Host.Outcome State Fault Refusal :=
  .next (s.answer o (s.opNext o i j 0 0))

end Sys2Proof.Machine
end

