-- ==== Sys2Proof/Machine/Drafts.lean ====
section
/-! DEFINITION. Sys2Proof/Machine/Drafts.lean: what a commit would make of its operations: their checks, their effect on the version
of CURRENT + 1 and on the tables, and the failures that refuse it (R132 to R134, R158 to R166, R186 to R188, R195, R204, R218, R221 to
R235, R257, R264, R265). -/

namespace Sys2Proof.Machine

/-! ### Versions -/

/-- A value of a versioned object stored in a version. -/
def Version.store (x : Version) (i j : Nat) (c : List Byte) : Version :=
  if (typeOf i j).stringy then
    { x with octs := mset (if i = 0x4410 then defaultNode j else dictDefaultBytes i j) x.octs (okey i j) c }
  else { x with objs := mset (dictDefault i j) x.objs (okey i j) (beNat c) }

/-- The objects of the parse graph (R205). -/
def graphObject (i : Nat) : Bool := decide (0x4400 ≤ i ∧ i ≤ 0x44FF)

/-- A version with the default graph and every start node at node 0 (R204). -/
def Version.defaultGraph (x : Version) : Version :=
  { x with objs := x.objs.filter fun (k, _) => !graphObject (k / 256)
           octs := x.octs.filter fun (k, _) => !graphObject (k / 256) }

/-! ### Stage-table images (R186, R187) -/

/-- An entry of an image's directory: TYPE, COUNT and OFFSET. -/
structure ImageSection where
  ty : Nat
  count : Nat
  off : Nat
  deriving DecidableEq, Repr

/-- The directory of an image. -/
def imageSections (b : List Byte) : List ImageSection :=
  (List.range (byteAt b 3)).map fun k => { ty := byteAt b (32 + 8 * k), count := beAt b (34 + 8 * k) 2, off := beAt b (36 + 8 * k) 4 }

/-- The section of a type. -/
def imageSection (b : List Byte) (ty : Nat) : Option ImageSection := (imageSections b).find? fun x => decide (x.ty = ty)

/-- Bytes of one entry of a section. -/
def sectionSize : Nat → Nat
  | 1 => 32 | 2 => 32 | 3 => 32 | 4 => 68 | 5 => 4 | _ => 0

/-- Entry k of a section of a type, where the image has it. -/
def imageEntry (b : List Byte) (ty k : Nat) : Option (List Byte) :=
  match imageSection b ty with
  | some x => if k < x.count then some (slice b (x.off + sectionSize ty * k) (sectionSize ty)) else none
  | none => none

/-- COUNT of a section; zero where the image has none. -/
def imageCount (b : List Byte) (ty : Nat) : Nat := ((imageSection b ty).map (·.count)).getD 0

/-- A section of entries stored as versioned byte strings, entry k at the k-th sub-index from an index on. -/
def Version.storeSection (x : Version) (b : List Byte) (ty base : Nat) (f : List Byte → List Byte) : Version :=
  (List.range (imageCount b ty)).foldl (fun x k =>
    match imageEntry b ty k with
    | some e => x.store (base + k / 256) (k % 256) (f e)
    | none => x) x

/-- A version with an image installed (R188): its step tables, key profiles and templates, what is beyond COUNT at zero, and its port
starts where it carries them. -/
def Version.install (x : Version) (b : List Byte) : Version :=
  let gone (k : Nat) : Bool := decide (0x4100 ≤ k / 256 ∧ k / 256 ≤ 0x410B) || decide (k / 256 = 0x4030) || decide (k / 256 = 0x4110)
  let x0 : Version := { x with octs := x.octs.filter (fun e => !gone e.1), programId := beAt b 4 4, loaded := true }
  let x1 := ((x0.storeSection b 1 0x4100 id).storeSection b 2 0x4108 id).storeSection b 3 0x4030 id
  let x2 := x1.storeSection b 4 0x4110 fun e => slice e 4 (byteAt e 0)
  (List.range (imageCount b 5)).foldl (fun x k =>
    match imageEntry b 5 k with
    | none => x
    | some e => if k < 128 then (x.store 0x4020 k (slice e 0 2)).store 0x4021 k (slice e 2 2) else x.store 0x4022 0 (slice e 0 2)) x2

/-- The header of an image: the first byte that fails (R186, R187). -/
def imageHeaderError (schema : Nat) (b : List Byte) : Option Nat :=
  if beAt b 0 2 ≠ 0x5354 then some 0
  else if byteAt b 2 ≠ 1 then some 2
  else if byteAt b 3 < 3 ∨ 5 < byteAt b 3 then some 3
  else if schema < beAt b 8 2 then some 8
  else if beAt b 10 2 ≠ 0 then some 10
  else if beAt b 12 4 ≠ b.length then some 12
  else if !allZero (slice b 16 16) then some 16
  else none

/-- Whether COUNT of a section is legal (R186). -/
def sectionCountOk (ty n : Nat) : Bool :=
  match ty with
  | 1 => decide (1 ≤ n ∧ n ≤ 1023)
  | 2 => decide (1 ≤ n ∧ n ≤ 1023)
  | 3 => decide (1 ≤ n ∧ n ≤ 256)
  | 4 => decide (1 ≤ n ∧ n ≤ 256)
  | 5 => decide (n = 128 ∨ n = 129)
  | _ => false

/-- The directory of an image: the first byte that fails. Sections 1 to 3 are required, and each type appears at most once. -/
def imageDirectoryError (b : List Byte) : Option Nat :=
  let secs := imageSections b
  let first := 32 + 8 * secs.length
  let bad := (List.range secs.length).findSome? fun k =>
    match secs[k]? with
    | none => none
    | some x =>
      let e := 32 + 8 * k
      if x.ty = 0 ∨ 5 < x.ty ∨ (secs.take k).any (fun y => decide (y.ty = x.ty)) then some e
      else if byteAt b (e + 1) ≠ 0 then some (e + 1)
      else if !sectionCountOk x.ty x.count then some (e + 2)
      else if x.off < first ∨ b.length < x.off + sectionSize x.ty * x.count + 4 then some (e + 4)
      else none
  match bad with
  | some o => some o
  | none => if [1, 2, 3].all fun t => secs.any fun x => decide (x.ty = t) then none else some 3

/-- A step entry of an image: its own checks, and what it names within COUNT (R187). -/
def imageStepOk (b : List Byte) (count self : Nat) (e : List Byte) : Bool :=
  let x := decodeStep e
  let named (n : Nat) : Bool := decide (n = stepEnd) || decide (n < count)
  let usesProfile := decide (1 ≤ x.kind ∧ x.kind ≤ 3) || decide (x.kind = 5) || decide (x.kind = 8) || decide (x.kind = 0x0C)
  let usesTemplate := decide (x.kind = 0x09 ∧ fld x.target 23 16 = 4)
  stepWriteOk self e && (!usesProfile || decide (x.profile < imageCount b 3)) && (!usesTemplate || decide (fld x.operand 7 0 < imageCount b 4))
    && (x.terminal || (named x.dfltNext && x.branches.all fun r => decide (r.mask = 0) || named r.next))

/-- Whether an entry of a section is legal. -/
def imageEntryOk (b : List Byte) (ty k : Nat) (e : List Byte) : Bool :=
  match ty with
  | 1 => imageStepOk b (imageCount b 1) k e
  | 2 => imageStepOk b (imageCount b 2) k e
  | 3 => profileWriteOk e
  | 4 => decide (1 ≤ byteAt e 0 ∧ byteAt e 0 ≤ 64) && allZero (slice e 1 3)
  | _ =>
    let start (n cnt : Nat) : Bool := decide (n = stepEnd) || decide (n < cnt)
    start (beAt e 0 2) (imageCount b 1) && (if k < 128 then start (beAt e 2 2) (imageCount b 2) else decide (beAt e 2 2 = 0))

/-- The entries of an image: the first byte of the first entry that fails, in the order of the image. -/
def imageEntryError (b : List Byte) : Option Nat :=
  ((imageSections b).filterMap fun x =>
    (List.range x.count).findSome? fun k =>
      let off := x.off + sectionSize x.ty * k
      if imageEntryOk b x.ty k (slice b off (sectionSize x.ty)) then none else some off).min?

/-- The byte at which the first failure of an image lies (R187). -/
def imageError (schema : Nat) (b : List Byte) : Option Nat :=
  match imageHeaderError schema b with
  | some o => some o
  | none => match imageDirectoryError b with
    | some o => some o
    | none =>
      if crc32 (b.take (b.length - 4)) ≠ beAt b (b.length - 4) 4 then some (b.length - 4) else imageEntryError b

/-- Steps of the longest path from each step entry on, from the last entry back: entries name only later ones. -/
def pathLengths (b : List Byte) (ty : Nat) : List (Nat × Nat) :=
  (List.range (imageCount b ty)).reverse.foldl (fun m k =>
    match imageEntry b ty k with
    | none => m
    | some e =>
      let x := decodeStep e
      let nexts := if x.terminal then [] else x.dfltNext :: (x.branches.filter fun r => decide (r.mask ≠ 0)).map (·.next)
      (k, 1 + ((nexts.map fun n => mgetD 0 m n).foldl max 0)) :: m) []

/-- LONGEST_PATH of an image (R187). -/
def longestPath (b : List Byte) : Nat :=
  ((pathLengths b 1 ++ pathLengths b 2).map (·.2)).foldl max 0

/-! ### Checks of one operation -/

/-- A TABLE_COMMAND's fields against its region (R226). -/
def tableCommandOk (r : Region) (c : List Byte) : Bool :=
  let len := byteAt c 2
  let key := slice c 12 r.keyBytes
  decide (byteAt c 1 &&& (if r.em then 1 else 0) = byteAt c 1) && decide (byteAt c 3 = 0) && decide (beAt c 8 4 = 0)
    && decide (c.length = 12 + r.keyBytes + (if byteAt c 0 = 1 then r.dataBytes else 0))
    && (if r.em then decide (len = 0) && keyPadded key r.keyBits else r.lengths.contains len && keyPadded key len)

/-- The checks of a TABLE_COMMAND (R226). -/
def State.tableCommandStatus (s : State) (c : List Byte) : Status :=
  if (byteAt c 0 ≠ 1 ∧ byteAt c 0 ≠ 2) ∨ c.length < 12 then .range
  else match s.checkHandle 7 (beAt c 4 4), mget s.tables.regions (handleIndex (beAt c 4 4)) with
    | .ok, some r => if tableCommandOk r c then .ok else .range
    | .ok, none => .staleHandle
    | st, _ => st

/-- The bytes of VALUE and MASK of a rule. -/
def ruleBytes (r : RuleSet) : Nat := r.width / 8

/-- A RULE_COMMAND's fields against its rule set (R264). -/
def ruleCommandOk (r : RuleSet) (c : List Byte) : Bool :=
  let op := byteAt c 0
  let n := ruleBytes r
  let len := if op = 1 then 28 + 2 * n else if op = 2 then 12 else 28
  decide (beAt c 1 3 = 0) && decide (c.length = len) && decide (beAt c 8 4 < r.capacity)
    && (decide (op = 2) || actionOk (slice c 12 16))
    && (decide (op ≠ 1) || decide (beNat (slice c 28 n) &&& beNat (slice c (28 + n) n) = beNat (slice c 28 n)))

/-- The checks of a RULE_COMMAND (R264). -/
def State.ruleCommandStatus (s : State) (c : List Byte) : Status :=
  let op := byteAt c 0
  if op = 0 ∨ 3 < op ∨ c.length < (if op = 2 then 8 else 28) then .range
  else match s.checkHandle 6 (beAt c 4 4), mget s.tables.ruleSets (handleIndex (beAt c 4 4)) with
    | .ok, some r =>
      let q := if op ≠ 2 ∧ bitAt (byteAt c 12) 2 = true then s.checkHandle 1 (beAt c 16 4) else .ok
      if q ≠ .ok then q else if ruleCommandOk r c then .ok else .range
    | .ok, none => .staleHandle
    | st, _ => st

/-- The value checks of an epoch-versioned object that its table row does not show. -/
def State.versionedOk (s : State) (i j : Nat) (c : List Byte) : Bool :=
  let v := beNat c
  if i = 0x4010 then decide (v ≤ 2)
  else if i = 0x4012 then decide (fld v 14 8 = 0) && (bitAt v 15 == false || decide (fld v 7 0 ≤ 63)) && decide (fld v 7 0 ≤ 127)
  else if 0x4020 ≤ i ∧ i ≤ 0x4022 then decide (v ≤ stepEnd)
  else if i = 0x4030 then profileWriteOk c
  else if 0x4100 ≤ i ∧ i ≤ 0x4103 then stepWriteOk (256 * (i - 0x4100) + j) c
  else if 0x4108 ≤ i ∧ i ≤ 0x410B then stepWriteOk (256 * (i - 0x4108) + j) c
  else if i = 0x4110 then decide (c.length ≤ 64)
  else if i = 0x4202 then decide (v ≤ 1) && decide (s.imageState (1 + v) = 2)
  else if i = 0x4400 ∧ j = 2 then decide (v ≤ 1)
  else if 0x4400 ≤ i ∧ i ≤ 0x4402 then decide (v ≤ nodeEnd)
  else if i = 0x4410 then nodeWriteOk c
  else if i = 0x5404 then decide (c.length = 0) || (mget s.tables.regions j).any fun r => decide (c.length = r.dataBytes)
  else if i = 0x6400 then comparatorOk c
  else true

/-- The rule checks of an epoch-versioned object. -/
def State.versionedStatus (s : State) (i j : Nat) (c : List Byte) : Status :=
  if i = 0x5C10 then s.tableCommandStatus c
  else if i = 0x6010 then s.ruleCommandStatus c
  else if s.versionedOk i j c then .ok else .range

/-- The checks of one write, versioned or not, before its effect: BUSY of a warm restart comes after every other. -/
def State.opStatus (s : State) (role i j : Nat) (c : List Byte) : Status :=
  let b := s.checkCanonical role i j c
  if !versioned i j ∨ (b ≠ .ok ∧ b ≠ .busy) then b
  else
    let v := s.versionedStatus i j c
    if v = .ok then b else v

/-! ### Drafts -/

/-- A commit worked out: the tables and the version of CURRENT + 1, a state in which the writes of other objects were tried, those
writes with their numbers, a move that must go first as a layout commit with the number of the operation that needs it, the failures, the
counters that an internal commit moves and the entries that it changes. -/
structure Draft where
  tables : Tables
  v : Version
  probe : State
  later : List (Nat × BatchOp)
  layout : Option (Nat × Nat × Nat × Nat)
  failures : List (Nat × Status)
  counts : List Nat
  touched : List Target

/-- An operation of the draft fails. -/
def Draft.fail (d : Draft) (n : Nat) (st : Status) : Draft := { d with failures := d.failures ++ [(n, st)] }

/-- A table change of the draft that staged an insert; a move that must go first is noted for the first operation that needs one. -/
def Draft.place (d : Draft) (n ri : Nat) (full : Draft) : Staged → Draft
  | .ok t => { d with tables := t }
  | .layout a b => if d.layout.isSome then d else { d with layout := some (n, ri, a, b) }
  | .full => full

/-- LAST_HIT of an entry that nothing has hit: not stated, a free value where the region keeps one (log entry 47). -/
def Draft.lastHit (d : Draft) (r : Region) : Nat × Draft :=
  if r.ageMode = 2 then
    let (x, p) := d.probe.draw
    (x % 65536, { d with probe := p })
  else (0, d)

/-- A TABLE_COMMAND of a batch (R221, R226, R227). -/
def Draft.tableOp (d : Draft) (c1 n : Nat) (c : List Byte) : Draft :=
  let ri := handleIndex (beAt c 4 4)
  match mget d.tables.regions ri with
  | none => d.fail n .staleHandle
  | some r =>
    let key := slice c 12 r.keyBytes
    if byteAt c 0 = 2 then { d with tables := d.tables.delete r ri c1 (byteAt c 2) key }
    else
      let (h, d1) := d.lastHit r
      d1.place n ri (d1.fail n .noResource)
        (d1.tables.insert r ri c1 (byteAt c 2) key (slice c (12 + r.keyBytes) r.dataBytes) (bitAt (byteAt c 1) 0) false h)

/-- A position of a rule set replaced in the draft; one that no live epoch sees is gone. -/
def Draft.setRule (d : Draft) (k : Nat) (r : Rule) : Draft :=
  { d with tables := { d.tables with rules := if r.vEven || r.vOdd then mput d.tables.rules k r else mdel d.tables.rules k } }

/-- A rule with nothing visible. -/
def Rule.blank (value mask : List Byte) : Rule :=
  { vEven := false, vOdd := false, value := value, mask := mask, actEven := List.replicate 16 0, actOdd := List.replicate 16 0 }

/-- A RULE_COMMAND of a batch (R265): parity p is that of c + 1, and CURRENT has the other. -/
def Draft.ruleOp (d : Draft) (c1 n : Nat) (c : List Byte) : Draft :=
  let set := handleIndex (beAt c 4 4)
  let k := ruleKey set (beAt c 8 4)
  let act := slice c 12 16
  match mget d.tables.ruleSets set with
  | none => d.fail n .staleHandle
  | some rs =>
    let value := slice c 28 (ruleBytes rs)
    let mask := slice c (28 + ruleBytes rs) (ruleBytes rs)
    match byteAt c 0, mget d.tables.rules k with
    | 1, none => d.setRule k (((Rule.blank value mask).setAction c1 act).setVis c1 true)
    | 1, some r =>
      if !r.vis (c1 + 1) then d.setRule k (((Rule.blank value mask).setAction c1 act).setVis c1 true)
      else if r.value = value ∧ r.mask = mask then d.setRule k ((r.setAction c1 act).setVis c1 true)
      else d.fail n .busy
    | 2, none => d
    | 2, some r => d.setRule k (r.setVis c1 false)
    | _, some r => if r.vis c1 then d.setRule k (r.setAction c1 act) else d.fail n .range
    | _, none => d.fail n .range

/-- A write of an epoch-versioned object in a batch; PROGRAM_INSTALL acts before every other operation (R188). -/
def Draft.versionedOp (d : Draft) (c1 n : Nat) (op : BatchOp) : Draft :=
  if op.index = 0x5C10 then d.tableOp c1 n op.data
  else if op.index = 0x6010 then d.ruleOp c1 n op.data
  else if op.index = 0x4202 then d
  else if op.index = 0x4400 ∧ op.sub = 2 then (if beNat op.data = 1 then { d with v := d.v.defaultGraph } else d)
  else
    let steps := decide (0x4100 ≤ op.index ∧ op.index ≤ 0x410B)
    { d with v := { d.v.store op.index op.sub op.data with loaded := d.v.loaded || steps } }

/-- A write of another object in a batch: it is tried now and applied at the commit instant (R130). -/
def Draft.laterOp (d : Draft) (n : Nat) (op : BatchOp) : Draft :=
  let (st, p) := d.probe.writeEffect op.origin op.index op.sub op.data
  match st with
  | .ok => { d with probe := p, later := d.later ++ [(n, op)] }
  | st => d.fail n st

/-- One operation of a batch, checked again as it was when it was added (R134): the role that added it was judged then. A trusted
operation was checked by the mate. -/
def Draft.step (trusted : Bool) (c1 : Nat) (d : Draft) (x : Nat × BatchOp) : Draft :=
  let op := x.2
  let st := if trusted then .ok else d.probe.opStatus 3 op.index op.sub op.data
  if st ≠ .ok ∧ st ≠ .busy then d.fail x.1 st
  else if versioned op.index op.sub then d.versionedOp c1 x.1 op else d.laterOp x.1 op

/-- CURRENT + 1. -/
def State.nextEpoch (s : State) : Nat := (s.epochs.current + 1) % 65536

/-- CURRENT − 1. -/
def State.olderEpoch (s : State) : Nat := (s.epochs.current + 65535) % 65536

/-- The draft of nothing. -/
def State.emptyDraft (s : State) : Draft :=
  { tables := s.tables, v := s.epochs.cur, probe := s, later := [], layout := none, failures := [], counts := [], touched := [] }

/-- The images that a batch installs, in order. -/
def installs (ops : List BatchOp) : List Nat := ops.filterMap fun op => if op.index = 0x4202 then some (beNat op.data) else none

/-- A batch worked out as far as its operations go. -/
def State.draftOps (s : State) (trusted : Bool) (ops : List BatchOp) : Draft :=
  let d0 := s.emptyDraft
  let v := (installs ops).foldl (fun v k => v.install (s.oct 0x4200 (1 + k))) d0.v
  ((List.range ops.length).zip ops).foldl (Draft.step trusted s.nextEpoch) { d0 with v := v }

/-! ### Failures of the staged state (R134) -/

/-- The highest-numbered operation that passes a test, or 0xFFFF_FFFF. -/
def lastOp (ops : List BatchOp) (p : BatchOp → Bool) : Nat :=
  match ((List.range ops.length).zip ops).filter (fun x => p x.2) |>.getLast? with
  | some x => x.1
  | none => 0xFFFFFFFF

/-- What a step entry breaks against the channels and key widths as staged: a status, and whether its key profile takes part (R159,
R166, R232). -/
def Draft.stepFault (d : Draft) (bs : List Byte) : Option (Status × Bool) :=
  let x := decodeStep bs
  let wide := profileWidth (d.v.oct 0x4030 x.profile)
  let region (ok : Region → Bool) : Option (Status × Bool) :=
    match mget d.tables.regions x.target with
    | none => some (.staleHandle, false)
    | some r => if !ok r then some (.range, false) else if r.keyBits < wide then some (.range, true) else none
  match x.kind with
  | 0x01 => region fun r => r.em
  | 0x02 => region fun r => !r.em
  | 0x03 => match mget d.tables.ruleSets x.target with
    | none => some (.staleHandle, false)
    | some r => if r.width < wide then some (.range, true) else none
  | 0x04 => if x.target / 16 = 0xF0000 ∨ d.probe.live 3 x.target = true then none else some (.staleHandle, false)
  | 0x08 => if 64 < wide then some (.range, true) else none
  | 0x0A => if d.probe.live 4 x.target then none else some (.staleHandle, false)
  | 0x0C => region fun r => r.em && r.learnEnable && decide (fld x.operand 8 0 + r.dataBytes ≤ 512)
  | _ => none

/-- The failures of the step entries of a draft. -/
def Draft.stepFaults (d : Draft) (ops : List BatchOp) : List (Nat × Status) :=
  d.v.octs.filterMap fun (k, bs) =>
    if 0x4100 ≤ k / 256 ∧ k / 256 ≤ 0x410B then
      match d.stepFault bs with
      | none => none
      | some (st, prof) =>
        let p := (decodeStep bs).profile
        some (lastOp ops fun op => decide (okey op.index op.sub = k) || decide (op.index = 0x4202)
          || (prof && decide (op.index = 0x4030 ∧ op.sub = p)), st)
    else none

/-- A node of the staged graph has VALID 0. -/
def Draft.nodeInvalid (d : Draft) (n : Nat) : Bool := decide (n < nodeEnd) && !(decodeNode (d.v.oct 0x4410 n)).valid

/-- Whether an operation writes a node of the graph, or restores them all. -/
def writesNode (n : Nat) (op : BatchOp) : Bool :=
  decide (op.index = 0x4410 ∧ op.sub = n) || decide (op.index = 0x4400 ∧ op.sub = 2 ∧ beNat op.data = 1)

/-- The failures of the graph of a draft (R195). -/
def Draft.graphFaults (d : Draft) (ops : List BatchOp) : List (Nat × Status) :=
  if !ops.any (fun op => graphObject op.index) then []
  else
    let nodes := (List.range 256).flatMap fun k =>
      let n := decodeNode (d.v.oct 0x4410 k)
      if !n.valid then []
      else (n.refs.filter d.nodeInvalid).map fun m => (lastOp ops fun op => writesNode k op || writesNode m op, Status.range)
    let starts := ((0x4400, 1) :: (List.range 128).flatMap fun p => [(0x4401, p), (0x4402, p)]).filterMap fun (i, j) =>
      let m := d.v.reg i j
      if d.nodeInvalid m then some (lastOp ops fun op => decide (op.index = i ∧ op.sub = j) || writesNode m op, Status.range) else none
    nodes ++ starts

/-- Regions that the table commands of a batch name. -/
def namedRegions (ops : List BatchOp) : List Nat :=
  (ops.filterMap fun op => if op.index = 0x5C10 then some (handleIndex (beAt op.data 4 4)) else none).eraseDups

/-- The failures of the length filters of a draft (R218). -/
def Draft.filterFaults (d : Draft) (c1 : Nat) (ops : List BatchOp) : List (Nat × Status) :=
  (namedRegions ops).flatMap fun ri =>
    match mget d.tables.regions ri with
    | none => []
    | some r => (List.range r.filterEntries).filterMap fun idx =>
      if r.maxLengths < (d.tables.filterLengths r ri c1 idx).length then
        some (lastOp ops fun op => decide (op.index = 0x5C10 ∧ handleIndex (beAt op.data 4 4) = ri)
          && r.covers (byteAt op.data 2) (slice op.data 12 r.keyBytes) idx, .noResource)
      else none

/-- The failures of the punt targets of a draft: a target HOST needs a live host channel (R185), and PUNT_CHANNEL may name no INJECT
channel (R447). -/
def Draft.puntFaults (d : Draft) (ops : List BatchOp) : List (Nat × Status) :=
  (List.range 128).filterMap fun r =>
    let h := d.v.reg 0x4011 r
    let host := decide (d.v.reg 0x4010 r = 1)
    if h = 0 ∧ host = false then none
    else
      let st := d.probe.checkHandle 2 h
      let writer := lastOp ops fun op => decide (op.index = 0x4011 ∧ op.sub = r) || (host && decide (op.index = 0x4010 ∧ op.sub = r))
      if st ≠ .ok then (if host then some (writer, .staleHandle) else none)
      else if (d.probe.chan (handleIndex h)).any (fun c => !c.receive) then
        some (lastOp ops fun op => decide (op.index = 0x4011 ∧ op.sub = r), .range)
      else none

/-- A batch worked out with the failures of the state that it would stage. -/
def State.draftBatch (s : State) (trusted : Bool) (ops : List BatchOp) : Draft :=
  let d := s.draftOps trusted ops
  if trusted then d
  else { d with failures := d.failures ++ d.stepFaults ops ++ d.graphFaults ops ++ d.filterFaults s.nextEpoch ops ++ d.puntFaults ops }

/-- The failure with the lowest FAIL_INDEX; of several of one operation the first. -/
def lowestFailure : List (Nat × Status) → Option (Nat × Status)
  | [] => none
  | f :: rest => match lowestFailure rest with
    | some g => if g.1 < f.1 then some g else some f
    | none => some f

/-! ### Internal commits (R234 to R238, R244) -/

/-- A learn record against the version as staged (R234). -/
def Draft.learn (d : Draft) (c1 : Nat) (x : OwnChange) : Draft :=
  match mget d.tables.regions x.region with
  | none => d
  | some r =>
    let count (n : Nat) (d : Draft) : Draft := { d with counts := d.counts ++ [n] }
    let put (n : Nat) : Draft :=
      let (h, d1) := d.lastHit r
      match d1.tables.insert r x.region c1 0 x.key x.data false true h with
      | .ok t => { count n d1 with tables := t, touched := d1.touched ++ [.entry x.region (0 :: x.key)] }
      | .layout a b => if d1.layout.isSome then d1 else { d1 with layout := some (0, x.region, a, b) }
      | .full => count 3 d1
    match d.tables.findKey r x.region c1 0 x.key with
    | none =>
      let lim := d.v.reg 0x5005 x.region
      if lim ≠ 0 ∧ lim ≤ d.tables.learnedCount x.region c1 then count 3 d else put 1
    | some (p, y) =>
      if y.static then count 3 d
      else if y.data = x.data then { d with tables := d.tables.write p { y with hit := true } }
      else put 2

/-- A removal by age or by a flush, where its condition still holds (R238, R244). -/
def Draft.removeOwn (d : Draft) (c1 : Nat) (x : OwnChange) : Draft :=
  match mget d.tables.regions x.region with
  | none => d
  | some r =>
    match d.tables.findKey r x.region c1 0 x.key with
    | none => d
    | some (p, y) =>
      let due := match x.cause with
        | .aged => !y.static && d.probe.tooOld r x.region y
        | _ => (r.portByte.any fun b => decide (byteAt y.data b % 128 = byteAt x.data 0)) && (decide (byteAt x.data 1 = 1) || !y.static)
      if !due then d
      else { d with tables := d.tables.remove p c1, touched := d.touched ++ [.entry x.region (0 :: x.key)]
                    counts := d.counts ++ [if x.cause = .aged then 4 else 5] }

/-- An internal commit worked out. -/
def State.draftOwn (s : State) (ops : List OwnChange) : Draft :=
  ops.foldl (fun d x => match x.cause with
    | .learned => d.learn s.nextEpoch x
    | _ => d.removeOwn s.nextEpoch x) s.emptyDraft

end Sys2Proof.Machine
end

