-- ==== Sys2Proof/Machine/Commits.lean ====
section
/-! DEFINITION. Sys2Proof/Machine/Commits.lean: the commits of batches, of single writes and of the table engine, step by step, on one
unit and in a pair (R132 to R137, R177, R188, R223, R229, R230, R234 to R244, R359, R368, R369). -/

namespace Sys2Proof.Machine

/-! ### Batches and their answers -/

/-- A batch slot. -/
def State.batch (s : State) (k : Nat) : Batch := mgetD .reset s.acc.batches k
/-- A batch slot stored. -/
def State.setBatch (s : State) (k : Nat) (b : Batch) : State := { s with acc := { s.acc with batches := mput s.acc.batches k b } }
/-- A batch closes: GEN goes up, and takes 0x01 in place of 0x00 (R131). -/
def State.closeBatch (s : State) (k : Nat) : State :=
  let g := (s.batch k).gen
  s.setBatch k { Batch.reset with gen := if g = 255 then 1 else g + 1 }

/-- The operations of a commit that a host asked for. -/
def State.commitOps (s : State) : Committer → List BatchOp
  | .batch k _ => (s.batch k).ops
  | .one op _ => [op]
  | .internal _ => []

/-- The job that waits for a commit. -/
def Committer.job : Committer → Option Nat
  | .batch _ j => some j
  | .one _ j => some j
  | .internal _ => none

/-- The origin of a job's requester. -/
def State.jobOrigin (s : State) (j : Nat) : Origin := ((mget s.acc.jobs j).map (·.origin)).getD (.window 0)

/-- The data of a BATCH_COMMIT's answer (R141). -/
def commitData (be : Bool) (epoch fail : Nat) : List Byte := numBytes be epoch 2 ++ [0, 0] ++ numBytes be fail 4

/-- The answer to a commit. -/
def State.commitAns (s : State) (c : Committer) (st : Status) (epoch fail : Nat) : OpAns :=
  match c with
  | .one op _ => bareAns 0x02 st op.index op.sub
  | .batch _ j => { opcode := 0x22, status := st, index := 0, sub := 0, ty := 10, data := commitData (s.jobOrigin j).be epoch fail }
  | .internal _ => bareAns 0x22 st 0 0

/-- The outcomes of the CMD objects that operations wrote (R118). -/
def State.noteOps (s : State) (ops : List BatchOp) (st : Status) : State :=
  ops.foldl (fun s op =>
    if (dictRow op.index op.sub).any (fun d => decide (d.access = .cmd)) then s.noteOutcome op.origin op.index op.sub st else s) s

/-- The first commit leaves the queue, and the next begins to wait. -/
def State.popCommit (s : State) : State :=
  let s1 := match s.epochs.queue with
    | .batch k _ :: _ => s.closeBatch k
    | _ => s
  { s1 with epochs := { s1.epochs with queue := s1.epochs.queue.tail, waitingSince := s1.now, staged := none } }

/-- The first commit is not made: it is answered with a status and FAIL_INDEX; EPOCH of such an answer is not stated, a free value (log
entry 49). -/
def State.failCommit (s : State) (fail : Nat × Status) : State :=
  match s.epochs.queue with
  | [] => s
  | c :: _ =>
    let (e, s1) := s.draw
    let s2 := (match c with
      | .one op _ => s1.noteOps [op] fail.2
      | _ => s1).popCommit
    match c.job with
    | some j => s2.replyJob j (s1.commitAns c fail.2 (e % 65536) fail.1)
    | none => s2

/-- The first commit is refused (R134). -/
def State.refuseCommit (s : State) (fail : Nat × Status) : State := (s.bump 0x5C00 5).failCommit fail

/-! ### BATCH_CONFLICT (R134) -/

/-- The objects that a PROGRAM_INSTALL replaces. -/
def installedObject (i : Nat) : Bool := programObject i && !graphObject i

/-- Whether two targets name a common object or entry. -/
def Target.meets : Target → Target → Bool
  | .program, .obj i _ => installedObject i
  | .obj i _, .program => installedObject i
  | .graph, .obj i _ => graphObject i
  | .obj i _, .graph => graphObject i
  | a, b => decide (a = b)

/-- The first operation of a batch that writes what was changed since the batch opened. -/
def State.conflict (s : State) (b : Batch) : Option (Nat × Status) :=
  let news := s.epochs.changed.filter fun e => decide (b.openedAt < e.2)
  (((List.range b.ops.length).zip b.ops).find? fun x =>
    (s.writeTargets x.2.index x.2.sub x.2.data).any fun t => news.any fun e => t.meets e.1).map fun x => (x.1, .batchConflict)

/-- The first commit of the queue worked out. -/
def State.draftOf (s : State) : Committer → Draft
  | .batch k _ =>
    let d := s.draftBatch false (s.batch k).ops
    { d with failures := (s.conflict (s.batch k)).toList ++ d.failures }
  | .one op _ => s.draftBatch false [op]
  | .internal ops => s.draftOwn ops

/-- Whether an operation changes the program (R177 step 2, R204). -/
def changesProgram (op : BatchOp) : Bool :=
  (programObject op.index || decide (op.index = 0x4202))
    && !(decide (op.index = 0x4400) && decide (op.sub = 2) && decide (beNat op.data = 0))

/-! ### Records to the mate (R359, R368) -/

/-- The operations of an OBJECT record for a commit: the images that it installs, then a WRITE, or its batch and the commit of it. -/
def State.commitRecord (s : State) : Committer → List (List Byte)
  | .one op _ =>
    (installs [op]).flatMap (fun k => blobOps 0x4200 (1 + k) (s.oct 0x4200 (1 + k)))
      ++ [opBytes 0x02 0 op.index op.sub (typeOf op.index op.sub).code op.data]
  | .batch k _ =>
    let ops := (s.batch k).ops
    (installs ops).flatMap (fun k => blobOps 0x4200 (1 + k) (s.oct 0x4200 (1 + k)))
      ++ ops.map (fun op => opBytes 0x21 0 op.index op.sub (typeOf op.index op.sub).code (natBe 0 4 ++ op.data))
      ++ [opBytes 0x22 0 0 0 4 (natBe 0 4)]
  | .internal _ => []

/-- The table commands that make an internal commit's changes (R225). -/
def Draft.ownCommands (d : Draft) (s : State) : List Byte :=
  (d.touched.filterMap fun t =>
    match t with
    | .entry ri lk => (mget d.tables.regions ri).map fun r =>
      match d.tables.findKey r ri s.nextEpoch 0 (lk.drop 1) with
      | some (_, x) => [1, 0, 0, 0] ++ natBe (s.handle 7 ri) 4 ++ natBe 0 4 ++ lk.drop 1 ++ x.data
      | none => [2, 0, 0, 0] ++ natBe (s.handle 7 ri) 4 ++ natBe 0 4 ++ lk.drop 1
    | _ => none).flatten

/-- A LEARN record with a new TICKET (R359). -/
def State.sendLearn (s : State) (epoch : Nat) (cmds : List Byte) : State × Nat :=
  let t := (s.pair.ticket + 1) % 2 ^ 32
  let (s1, _) := ({ s with pair := { s.pair with ticket := t } }).sendRecord (typedRecord 0x44 (natBe t 4 ++ natBe epoch 2 ++ [0, 0] ++ cmds))
  (s1, t)

/-- The content of the first commit goes to the mate of a pair; the ticket to wait for. -/
def State.sendCommit (s : State) (c : Committer) (d : Draft) : State × Option Nat :=
  if !s.activeInPair then (s, none)
  else match c with
    | .internal _ => let (s1, t) := s.sendLearn s.nextEpoch (d.ownCommands s); (s1, some t)
    | c => s.sendObjects (s.commitRecord c)

/-! ### Step 1 to step 3 of R177 -/

/-- Whether the first commit may begin: OLDER has drained here, and on the mate of a pair (R136, R368, R378). In BRINGUP nothing is in
flight. -/
def State.mayStage (s : State) : Bool :=
  !s.epochs.queue.isEmpty && s.epochs.staged.isNone && decide (s.mode ≠ .dormant) && decide (s.inflight s.olderEpoch = 0)
    && !(decide (s.role = 1) && decide (s.pair.phase = .copying))
    && (!s.activeInPair || decide (s.pair.mateDrained = s.olderEpoch))

/-- The wait of the first commit ends (R177 step 1). -/
def State.noteDrain (s : State) : State :=
  let w := Nat.min (s.now - s.epochs.waitingSince) 0xFFFFFFFF
  (s.setReg 0x4000 6 w).setReg 0x4000 7 (max (s.reg 0x4000 7) w)

/-- The previous commit settles (R223, R252). -/
def State.settleTables (s : State) : State :=
  { s with tables := (s.tables.settle).settleRules s.epochs.current }

/-- A version with the bank that no live epoch uses where the program changes (R177 step 2). -/
def Version.inBank (x : Version) (cur : Version) (program : Bool) : Version :=
  { x with bank := if program then 1 - cur.bank else cur.bank }

/-- Slices asleep wake to take a new program (R81, R177 step 2). -/
def State.wakeForProgram (s : State) (program : Bool) : State :=
  if program then (List.range 16).foldl State.askWake s else s

/-- A draft is staged as the version of CURRENT + 1 (R177 steps 2 and 3), its overflow moves with it (R230). -/
def State.stageDraft (s : State) (program : Bool) (d : Draft) (ticket : Option Nat) : State :=
  let g : Staging := { version := d.v.inBank s.epochs.cur program, later := d.later, layout := false, program := program, ticket := ticket
                       counts := d.counts, touched := d.touched }
  ({ s with tables := d.tables.moveBackAll s.nextEpoch, draws := d.probe.draws, epochs := { s.epochs with staged := some g } }).wakeForProgram program

/-- A layout commit is staged (R229): one move of a LIVE entry, and the overflow moves of R230. -/
def State.stageLayout (s : State) (ri a b : Nat) (ticket : Option Nat) : State :=
  match mget s.tables.regions ri with
  | none => s
  | some r =>
    let g : Staging := { version := s.epochs.cur, later := [], layout := true, program := false, ticket := ticket, counts := [], touched := [] }
    { s with tables := (s.tables.moveEntry r s.nextEpoch a b).moveBackAll s.nextEpoch, epochs := { s.epochs with staged := some g } }

/-- Steps 1 to 3 of R177 for the first commit: it settles the previous one, and stages its changes, a layout commit that must go before
them, or nothing where it is refused. A layout commit goes first only where no operation before the one that needs it fails. -/
def State.stageFirst (s : State) : State :=
  match s.epochs.queue with
  | [] => s
  | c :: _ =>
    let s1 := s.noteDrain.settleTables
    let d := s1.draftOf c
    let early (n : Nat) : Bool := d.failures.all fun f => decide (n ≤ f.1)
    match d.layout, lowestFailure d.failures with
    | some (_, ri, a, b), none => let (s2, t) := s1.sendCommit c d; s2.stageLayout ri a b t
    | some (n, ri, a, b), some f =>
      if early n then let (s2, t) := s1.sendCommit c d; s2.stageLayout ri a b t else s1.refuseCommit f
    | none, some f => s1.refuseCommit f
    | none, none => let (s2, t) := s1.sendCommit c d; s2.stageDraft ((s1.commitOps c).any changesProgram) d t

/-- The drain of OLDER completes (R177): the first commit goes on where it may. A standby reports its drain (R368). -/
def State.drainDone (s : State) : State :=
  if s.mayStage then s.stageFirst
  else if s.role = 2 ∧ (s.pair.phase = .trial ∨ s.pair.phase = .inStep) ∧ s.inflight s.olderEpoch = 0 then s.sendStatus 0
  else s

/-! ### Step 4 and step 5 of R177 -/

/-- The staging is undone: entries staged are gone, and entries marked for removal stay. -/
def State.unstage (s : State) : State :=
  let c1 := s.nextEpoch
  let undo (m : List (Nat × Entry)) : List (Nat × Entry) :=
    (m.filter fun e => !(decide (e.2.state = .born) && decide (e.2.epoch = c1))).map fun (k, x) =>
      if x.state = .dying ∧ x.epoch = c1 then (k, { x with state := EntryState.live, epoch := 0 }) else (k, x)
  let t := s.tables
  { s with tables := ({ t with em := undo t.em, lpm := undo t.lpm, ovf := undo t.ovf }).settleRules s.epochs.current
           epochs := { s.epochs with staged := none } }

/-- A key and length that a commit takes across the cursor of an iteration (R242). -/
def Iteration.cross (x : Iteration) (k : List Byte × Nat) (was is : Nat) : Iteration :=
  if x.cursor ≤ was ∧ is < x.cursor then
    (if x.skip.contains k then { x with skip := x.skip.erase k } else { x with pending := x.pending ++ [k] })
  else if was < x.cursor ∧ x.cursor ≤ is then
    (if x.pending.contains k then { x with pending := x.pending.erase k } else { x with skip := x.skip ++ [k] })
  else x

/-- What a commit does to one open iteration. -/
def State.crossIter (s : State) (k : Nat) (x : Iteration) : State :=
  if !x.isOpen then s
  else
    let after := s.tables.visibleEntries x.region s.nextEpoch
    let x1 := (s.tables.visibleEntries x.region s.epochs.current).foldl (fun (x : Iteration) (e : Place × Entry) =>
      match after.find? (fun f => decide (f.2.key = e.2.key) && decide (f.2.len = e.2.len)) with
      | some f => x.cross (e.2.key, e.2.len) e.1.position f.1.position
      | none => x) x
    if 1024 < x1.pending.length ∨ 1024 < x1.skip.length then (s.closeIter k).bump 0x5805 8 else s.setIter k x1

/-- What a commit does to every open iteration (R242). -/
def State.crossIters (s : State) : State := s.tables.iters.foldl (fun s e => s.crossIter e.1 e.2) s

/-- The writes of objects that are not versioned take effect, in order; the first that fails stops the commit. -/
def State.applyLater : List (Nat × BatchOp) → State → Except (Nat × Status) State
  | [], s => .ok s
  | (n, op) :: rest, s =>
    match s.writeEffect op.origin op.index op.sub op.data with
    | (.ok, s1) => State.applyLater rest s1
    | (st, _) => .error (n, st)

/-- The position of a source's first entry that the new epoch stamps (R359 EPOCH_MARK): frames that wait in a tide pool are stamped
later. -/
def State.markPosition (s : State) (src : Nat) : Nat :=
  let next := mgetD 0 s.pair.ordinals src
  let first := if src < 128 then ((s.sliceAt (s.reg 0x3001 src)).pool.find? fun f => decide (f.port = src)).map (·.ordinal) else none
  ((first.getD next) + 2 ^ 32 - mgetD 0 s.pair.positions src) % 2 ^ 32

/-- EPOCH_MARK goes to the standby of a pair (R368). -/
def State.sendMarkOf (s : State) (epoch : Nat) : State :=
  if !s.activeInPair then s
  else (s.sendRecord (typedRecord 0x42 (natBe epoch 2 ++ [0, 0] ++
    ((List.range 160).map fun k => natBe (if k < 0x90 then s.markPosition k else 0) 4).flatten))).1

/-- Every lane begins to stamp CURRENT + 1 (R177 step 4). -/
def State.flip (s : State) (g : Staging) : State :=
  let e := s.epochs
  { s with epochs := { e with current := s.nextEpoch, cur := g.version, old := e.cur, staged := none, waitingSince := s.now } }

/-- What a commit that returns OK counts, and what it changes for the purposes of R134. -/
def State.noteCommit (s : State) (c : Committer) (g : Staging) : State :=
  match c with
  | .internal _ =>
    let s1 := g.counts.foldl (fun s n => s.bump 0x5805 n) (s.bump 0x5805 6)
    g.touched.foldl State.noteChange s1
  | c =>
    let ops := s.commitOps c
    let s1 := ((s.bump 0x5C00 6).noteOps ops .ok)
    (ops.flatMap fun op => s.writeTargets op.index op.sub op.data).foldl State.noteChange s1

/-- P objects among the writes of a commit (R120): each is answered for when its flash record is complete. -/
def flashOps (g : Staging) : List (Nat × Nat) :=
  (g.later.filterMap fun (_, op) =>
    if (dictRow op.index op.sub).any (fun d => d.p && decide (d.access ≠ .ro)) then some (op.index, op.sub) else none).eraseDups

/-- The answer to a commit goes out at once, or when its flash records are complete. -/
def State.answerCommit (s : State) (job : Nat) (a : OpAns) (flash : List (Nat × Nat)) : State :=
  if flash = [] then s.replyJob job a
  else { s with acc := { s.acc with waiting := s.acc.waiting ++ flash.map fun (i, j) =>
    { opcode := a.opcode, index := i, sub := j, ty := a.ty, data := a.data, job := job, flash := true, ticket := none } } }

/-- Steps 4 and 5 of R177 for what is staged. -/
def State.finishStage (s : State) (c : Committer) (g : Staging) : State :=
  match State.applyLater g.later s with
  | .error f => s.unstage.refuseCommit f
  | .ok s1 =>
    let s2 := (s1.crossIters.flip g).sendMarkOf s.nextEpoch
    if g.layout then s2.bump 0x5805 7
    else
      let s3 := s2.noteCommit c g
      let a := s3.commitAns c .ok s.nextEpoch 0xFFFFFFFF
      let s4 := s3.popCommit
      match c.job with
      | some j => s4.answerCommit j a (flashOps g)
      | none => s4

/-- Whether the mate of a pair has staged a ticket (R368). -/
def State.mateStaged (s : State) (t : Nat) : Bool := decide ((s.pair.mateTicket + 2 ^ 32 - t) % 2 ^ 32 < 2 ^ 31)

/-- A commit whose mate is gone: one asked for with REQUIRE_PAIR is abandoned before step 4 (R369). -/
def State.abandons (s : State) (c : Committer) : Bool := (c.job.bind fun j => mget s.acc.jobs j).any (·.requirePair)

/-- The lanes advance (R177 step 4): every slice that the program needs is awake, and the mate of a pair has staged the content. -/
def State.advance (s : State) : State :=
  match s.epochs.queue, s.epochs.staged with
  | c :: _, some g =>
    if g.program ∧ (List.range 16).any (fun n => (s.sliceAt n).feAsleep) = true then s
    else match g.ticket with
      | none => s.finishStage c g
      | some t =>
        if s.activeInPair then (if s.mateStaged t then s.finishStage c g else s)
        else if s.abandons c then s.unstage.failCommit (0xFFFFFFFF, .pairUnavailable)
        else s.finishStage c g
  | _, _ => s

end Sys2Proof.Machine
end

