-- ==== Sys2Proof/Machine/Objects.lean ====
section
/-! DEFINITION. Sys2Proof/Machine/Objects.lean: the operations of R141 on objects, channels and batches, each for a job that waits for
its answer (R124 to R137, R141, R151 to R153, R187, R213, R250, R289, R301, R447, R503, R574). -/

namespace Sys2Proof.Machine

/-- What an operation comes to: its answer, or none where the answer must wait, and the state. -/
abbrev Served := Option OpAns × State

/-- The outcome of a write of a CMD object noted (R118). -/
def State.noteWrite (s : State) (o : Origin) (i j : Nat) (st : Status) : State :=
  if (dictRow i j).any (fun d => decide (d.access = .cmd)) ∧ !isCreateObject i j then s.noteOutcome o i j st else s

/-! ### WRITE -/

/-- An operation that fails. -/
def State.failOp (s : State) (r : OpReq) (st : Status) : Served := (some (bareAns r.opcode st r.index r.sub), s)

/-- A write that its rule applied: its change is noted (R134), announced to the mate (R137), and answered now or later (R32, R120). -/
def State.endApplied (s : State) (o : Origin) (job : Nat) (r : OpReq) (c : List Byte) : Served :=
  let (s1, ticket) := ((s.writeTargets r.index r.sub c).foldl State.noteChange (s.noteWrite o r.index r.sub .ok)).announce r.index r.sub c
  s1.holdAnswer job (bareAns r.opcode .ok r.index r.sub) (s.needsWait r.index r.sub).1 ticket

/-- WRITE (R124, R132, R152): a write of an epoch-versioned object is a batch of one, answered when it commits. -/
def State.opWrite (s : State) (o : Origin) (job : Nat) (r : OpReq) : Served :=
  let i := r.index
  let j := r.sub
  let c := canonical o.be (typeOf i j) r.data
  let role := s.roleOf o
  let pre := s.checkTargetFor false role i j r.data.length
  let st := if pre ≠ .ok then pre else if r.ty ≠ (typeOf i j).code then .typeMismatch else s.opStatus role i j c
  if st ≠ .ok then (s.noteWrite o i j st).failOp r st
  else if versioned i j then (none, s.enqueueCommit (.one { origin := o, index := i, sub := j, data := c } job))
  else match s.writeEffect o i j c with
    | (.ok, s1) => s1.endApplied o job r c
    | (e, s1) => (s1.noteWrite o i j e).failOp r e

/-! ### Segments of a BLOB (R127) -/

/-- Whether a held value is of this requester and object. -/
def BlobHold.isOf (h : BlobHold) (o : Origin) (i j : Nat) : Bool := decide (h.origin = o) && decide (h.index = i) && decide (h.sub = j)

/-- A held value that its 10 s have not ended. -/
def BlobHold.fresh (h : BlobHold) (now : Nat) : Bool := decide (now < h.last + 10000000000)

/-- READ_SEGMENT (R127, R141). -/
def State.opReadSegment (s : State) (o : Origin) (r : OpReq) : Served :=
  let i := r.index
  let j := r.sub
  let off := numAt o.be r.data 0 4
  let count := numAt o.be r.data 4 2
  match s.checkRead o true i j with
  | .ok =>
    if r.ty ≠ 10 ∨ r.data.length ≠ 6 then s.failOp r .typeMismatch
    else
      let held := (s.acc.copies.find? (·.isOf o i j)).filter (·.fresh s.now)
      let copy := if off = 0 then some (s.blobValue i j) else held.map (·.bytes)
      match copy with
      | none => s.failOp r .range
      | some b =>
        if count = 0 ∨ 1024 < count ∨ b.length < off then s.failOp r .range
        else if s.restarting i then s.failOp r .busy
        else
          let others := s.acc.copies.filter fun h => !h.isOf o i j
          let s1 := { s with acc := { s.acc with copies := { origin := o, index := i, sub := j, bytes := b, last := s.now } :: others } }
          (some (dataAns 0x03 i j 10 (numBytes o.be b.length 4 ++ slice b off (Nat.min count (b.length - off)))), s1)
  | st => s.failOp r st

/-- Whether an open batch names a staging slot (R188). -/
def State.slotNamed (s : State) (k : Nat) : Bool :=
  s.acc.batches.any fun (_, b) => b.isOpen && b.ops.any fun op => decide (op.index = 0x4202) && decide (beNat op.data = k)

/-- An image is complete in its slot, and is checked (R187). -/
def imageEffect (j : Nat) (b : List Byte) (s : State) : Status × State :=
  let s1 := s.setOct 0x4200 j b
  let err := imageError (s.reg 0x1040 3) b
  let state := if b = [] then 0 else if err.isNone then 2 else 3
  let off := if b = [] then 0xFFFFFFFF else err.getD 0xFFFFFFFF
  let path := if state = 2 then longestPath b else 0
  (.ok, ((s1.setReg 0x4201 j state).setReg 0x4201 (j + 2) off).setReg 0x4201 (j + 4) path)

/-- The effect of a complete BLOB value. -/
def State.blobEffect (s : State) (i j : Nat) (b : List Byte) : Status × State :=
  match dictRow i j with
  | none => (.noSubindex, s)
  | some d =>
    if !limitsOk d b then (.range, s)
    else if i = 0x4200 then imageEffect j b s
    else if i = 0x7E02 then windowAdminEffect j b s
    else if 0x1100 ≤ i ∧ i < 0x1120 then passEffect (i - 0x1100) b s
    else (.ok, s.setOct i j b)

/-- The partial value of a requester is dropped. -/
def State.dropPartial (s : State) (o : Origin) (i j : Nat) : State :=
  { s with acc := { s.acc with partials := s.acc.partials.filter fun h => !h.isOf o i j } }

/-- A segment that the checks of R152 let through joins the value (R127). -/
def State.addSegment (s : State) (o : Origin) (job : Nat) (r : OpReq) (off : Nat) (seg : List Byte) : Served :=
  let i := r.index
  let j := r.sub
  let held := (s.acc.partials.find? (·.isOf o i j)).filter (·.fresh s.now)
  let s0 := s.dropPartial o i j
  let before := if off = 0 then some [] else (held.filter fun h => decide (h.bytes.length = off)).map (·.bytes)
  match before with
  | none => s0.failOp r .range
  | some b =>
    let all := b ++ seg
    let tooLong := (dictRow i j).any fun d => match d.limits with | .maxLen n => decide (n < all.length) | _ => false
    if tooLong then s0.failOp r .range
    else if s.restarting i ∨ (i = 0x4200 ∧ s.slotNamed (j - 1) = true) then s.failOp r .busy
    else if r.flags % 2 = 0 then
      (some (bareAns r.opcode .ok i j),
        let since := if off = 0 then s.now else (held.map (·.last)).getD s.now
        { s0 with acc := { s0.acc with partials := { origin := o, index := i, sub := j, bytes := all, last := since } :: s0.acc.partials } })
    else match s0.blobEffect i j all with
      | (.ok, s1) => s1.endApplied o job r all
      | (e, s1) => (s1.noteWrite o i j e).failOp r e

/-- WRITE_SEGMENT (R127, R141); the range 0xE000 has the segment rules of R528 instead. -/
def State.opWriteSegment (s : State) (o : Origin) (job : Nat) (r : OpReq) : Served :=
  let i := r.index
  let j := r.sub
  match s.checkTargetFor true (s.roleOf o) i j r.data.length with
  | .ok =>
    let off := numAt o.be r.data 0 4
    let seg := r.data.drop 4
    if r.ty ≠ 10 ∨ r.data.length < 4 then s.failOp r .typeMismatch
    else if 1024 < seg.length ∨ 1 < r.flags then s.failOp r .range
    else if i = 0xE010 ∧ j = 2 then
      match stageDataEffect off (decide (r.flags = 1)) seg s with
      | (.ok, s1) => s1.endApplied o job r seg
      | (e, s1) => s1.failOp r e
    else s.addSegment o job r off seg
  | st => s.failOp r st

/-! ### CREATE and DESTROY (R128, R129) -/

/-- CREATE (R128): of the create object of a kind only (R574). -/
def State.opCreate (s : State) (o : Origin) (job : Nat) (r : OpReq) : Served :=
  let i := r.index
  let st :=
    if !dictHasIndex i then .noObject
    else match dictRow i r.sub with
      | none => .noSubindex
      | some d =>
        if !s.exists i r.sub then .noSubindex
        else if s.roleOf o < 2 then .denied
        else if !isCreateObject i r.sub then .typeMismatch
        else if s.modeForbids i r.sub true ∨ s.mode = .catchup ∨ s.mode = .shadow then .mode
        else if r.ty ≠ d.ty.code then .typeMismatch else Status.ok
  if st ≠ .ok then ((if isCreateObject i r.sub then s.noteOutcome o i 0 st else s)).failOp r st
  else match createRule i with
    | none => s.failOp r .typeMismatch
    | some f =>
      match s.runCreate o i r.data f with
      | (.ok, h, s1) =>
        if s.restarting i then (s.noteOutcome o i 0 .busy).failOp r .busy
        else
          let s2 := s1.noteOutcome o i 0 .ok
          let (s3, ticket) := if s2.mateInShadow then s2.sendObjects [opBytes 0x10 0 i 0 10 r.data] else (s2, none)
          s3.holdAnswer job (dataAns 0x10 i 0 12 (numBytes o.be h 4)) false ticket
      | (e, _, _) =>
        let e := if e = .noResource ∧ s.restarting i = true then .busy else e
        (s.noteOutcome o i 0 e).failOp r e

/-- The versions of the live epochs: OLDER while packets carry it, and what is staged. -/
def State.liveVersions (s : State) : List Version :=
  s.epochs.cur :: s.epochs.old :: (s.epochs.staged.map (·.version)).toList

/-- A step entry of a live epoch of one of these kinds names an index (R129, R159). -/
def State.stepNames (s : State) (kinds : List Nat) (idx : Nat) : Bool :=
  s.liveVersions.any fun v => v.octs.any fun (k, bs) =>
    decide (0x4100 ≤ k / 256 ∧ k / 256 ≤ 0x410B) && kinds.contains (decodeStep bs).kind && decide ((decodeStep bs).target = idx)

/-- A rule of a live epoch sets a queue (R264). -/
def State.ruleNames (s : State) (h : Nat) : Bool :=
  let sets (a : List Byte) : Bool := bitAt (byteAt a 0) 2 && decide (beAt a 4 4 = h)
  s.tables.rules.any fun (_, r) => (r.vEven && sets r.actEven) || (r.vOdd && sets r.actOdd)

/-- An object names a queue: TS_QUEUE of its port, or an entry of FABRIC_EGRESS_MAP (R129, R348, R428). -/
def State.objectNames (s : State) (h : Nat) : Bool :=
  s.objs.any fun (k, v) => decide (v = h) && (decide (k / 256 = 0x3022) || decide (0x8030 ≤ k / 256 ∧ k / 256 ≤ 0x8033))

/-- PUNT_CHANNEL of a live epoch names a channel (R185, R447). -/
def State.puntNames (s : State) (h : Nat) : Bool :=
  s.liveVersions.any fun v => (List.range 128).any fun r => decide (v.reg 0x4011 r = h)

/-- A multicast group lists a queue (R289). -/
def State.groupNames (s : State) (h : Nat) : Bool := s.tm.groups.any fun (_, l) => l.contains h

/-- The conditions under which a DESTROY draws BUSY (R129, R213, R250, R289, R301, R447). -/
def State.destroyBusy (s : State) (h : Nat) : Bool :=
  let idx := handleIndex h
  match handleKind h with
  | 1 => (mget s.tm.queues idx).any fun q =>
    decide (q.admin = .destroying) || (!q.voq && decide (s.portCond q.port = 2)) || s.ruleNames h || s.objectNames h || s.groupNames h
  | 2 => (s.chan idx).any fun c => decide (c.ring ≠ .disabled) || !c.idle || s.puntNames h
  | 3 => s.stepNames [0x04] idx
  | 4 => s.stepNames [0x0A] idx
  | 5 => s.tm.nodes.any (fun (_, n) => decide (n.parent = some idx))
      || s.tm.queues.any fun (_, q) => !q.voq && decide (q.parentNode = idx)
  | 6 => s.stepNames [0x03] idx
  | _ => s.stepNames [0x01, 0x02, 0x0C] idx || (mget s.tables.flush idx).any fun f => !f.ports.isEmpty

/-- A channel other than a queue is gone, and its generation goes up (R5, R129). -/
def State.removeChannel (s : State) (h : Nat) : State :=
  let idx := handleIndex h
  match handleKind h with
  | 2 => ({ s with host := { s.host with channels := mdel s.host.channels idx }
                   stats := { s.stats with channels := mdel s.stats.channels idx, channelDeltas := mdel s.stats.channelDeltas idx } }).nextGen 2 idx
  | 3 => ({ s with meters := mdel s.meters idx }).nextGen 3 idx
  | 4 => ({ s with stats := { s.stats with
      sets := mdel s.stats.sets idx, setFlags := mdel s.stats.setFlags idx, setDeltas := mdel s.stats.setDeltas idx } }).nextGen 4 idx
  | 5 =>
    let s0 := match mget s.tm.nodes idx with
      | some n => if n.level = 0 then s.setReg 0x7803 n.port 0 else s
      | none => s
    let s1 := s0.leaveRound 4 (.node idx)
    ({ s1 with tm := { s1.tm with nodes := mdel s1.tm.nodes idx } }).nextGen 5 idx
  | 6 => s.removeRuleSet idx
  | 7 => s.removeRegion idx
  | _ => s

/-- Checks 3 to 8 of R152 for an operation on no object: the role, the mode, TYPE and length, then the checks of its data, then
INDEX:SUB. -/
def State.checkPlain (s : State) (o : Origin) (r : OpReq) (ty len : Nat) (check : Status) : Status :=
  if s.roleOf o < 2 then .denied
  else if s.mode = .dormant ∨ s.power.recovery = true ∨ s.mode = .catchup ∨ s.mode = .shadow then .mode
  else if r.ty ≠ ty ∨ r.data.length ≠ len then .typeMismatch
  else if check ≠ .ok then check
  else if r.index ≠ 0 ∨ r.sub ≠ 0 then .range
  else if s.restarting 0 then .busy else .ok

/-- DESTROY (R129). A queue is answered when its destruction completes (R289), which it
waits for as other answers wait for a flash record. -/
def State.opDestroy (s : State) (o : Origin) (job : Nat) (r : OpReq) : Served :=
  let h := numAt o.be r.data 0 4
  let st := s.checkPlain o r 12 4 (s.checkAnyHandle h)
  if st ≠ .ok then s.failOp r st
  else if s.destroyBusy h then s.failOp r .busy
  else
    let (s1, ticket) := if s.mateInShadow then s.sendObjects [opBytes 0x11 0 0 0 12 (natBe h 4)] else (s, none)
    if handleKind h = 1 then (s1.beginDestroy (handleIndex h) (some job)).holdAnswer job (bareAns 0x11 .ok 0 0) true ticket
    else (s1.removeChannel h).holdAnswer job (bareAns 0x11 .ok 0 0) false ticket

/-! ### Batches (R131, R132) -/

/-- The identifier of a batch slot. -/
def State.batchId (s : State) (k : Nat) : Nat := (s.batch k).gen * 2 ^ 24 + k

/-- The check of a batch identifier (R131): STALE_HANDLE, then the reserved bits. -/
def State.checkBatch (s : State) (id : Nat) : Status :=
  let b := s.batch (id % 64)
  if !b.isOpen ∨ id / 2 ^ 24 % 256 ≠ b.gen then .staleHandle else if fld id 23 6 ≠ 0 then .range else .ok

/-- BATCH_OPEN (R132). -/
def State.opBatchOpen (s : State) (o : Origin) (r : OpReq) : Served :=
  let st := s.checkPlain o r 0 0 .ok
  if st ≠ .ok then s.failOp r st
  else match (List.range 64).find? fun k => !(s.batch k).isOpen with
    | none => s.failOp r .noResource
    | some k =>
      let s1 := s.setBatch k { s.batch k with isOpen := true, ops := [], openedAt := s.epochs.changes, lastOp := s.now, committing := false }
      (some (dataAns 0x20 0 0 4 (numBytes o.be (s1.batchId k) 4)), s1)

/-- Operations held in all open batches. -/
def State.batchOps (s : State) : Nat := (s.acc.batches.map fun (_, b) => b.ops.length).foldl (· + ·) 0

/-- The checks of a BATCH_WRITE after those of its target (R152): the identifier, the value, and what the object's rule would say
now. -/
def State.checkAdd (s : State) (role : Nat) (o : Origin) (id i j : Nat) (c : List Byte) : Status :=
  let b := s.checkBatch id
  if b ≠ .ok then b
  else
    let v := s.opStatus role i j c
    let e := if v = .ok ∧ versioned i j = false then (s.writeEffect o i j c).1 else v
    if e ≠ .ok then e
    else if (s.batch (id % 64)).committing then .busy
    else if 262144 ≤ (s.batch (id % 64)).ops.length ∨ 1048576 ≤ s.batchOps then .noResource else .ok

/-- BATCH_WRITE (R132): a write is checked and added to an open batch. -/
def State.opBatchWrite (s : State) (o : Origin) (r : OpReq) : Served :=
  let i := r.index
  let j := r.sub
  let id := numAt o.be r.data 0 4
  let v := r.data.drop 4
  let role := s.roleOf o
  let pre := s.checkTargetFor false role i j v.length
  let hard := decide (pre = .noObject) || decide (pre = .noSubindex) || decide (pre = .denied) || decide (pre = .readOnly)
    || (decide (pre = .typeMismatch) && (isCreateObject i j || decide (typeOf i j = .blob)))
  let st :=
    if hard then pre
    else if s.mode = .catchup ∨ s.mode = .shadow then .mode
    else if pre ≠ .ok then pre
    else if r.ty ≠ (typeOf i j).code ∨ r.data.length < 4 then .typeMismatch
    else s.checkAdd role o id i j (canonical o.be (typeOf i j) v)
  if st ≠ .ok then s.failOp r st
  else
    let k := id % 64
    let b := s.batch k
    let op : BatchOp := { origin := o, index := i, sub := j, data := canonical o.be (typeOf i j) v }
    (some (dataAns 0x21 i j 4 (numBytes o.be b.ops.length 4)), s.setBatch k { b with ops := b.ops ++ [op], lastOp := s.now })

/-- BATCH_COMMIT (R132, R136): the batch waits its turn, and is answered when it has committed or was refused. -/
def State.opBatchCommit (s : State) (o : Origin) (job : Nat) (r : OpReq) : Served :=
  let id := numAt o.be r.data 0 4
  let st := s.checkPlain o r 4 4 (s.checkBatch id)
  if st ≠ .ok then s.failOp r st
  else
    let b := s.batch (id % 64)
    if b.committing then s.failOp r .busy
    else (none, (s.setBatch (id % 64) { b with committing := true, lastOp := s.now }).enqueueCommit (.batch (id % 64) job))

/-- BATCH_ABORT (R132). -/
def State.opBatchAbort (s : State) (o : Origin) (r : OpReq) : Served :=
  let id := numAt o.be r.data 0 4
  let st := s.checkPlain o r 4 4 (s.checkBatch id)
  if st ≠ .ok then s.failOp r st
  else if (s.batch (id % 64)).committing then s.failOp r .busy
  else (some (bareAns 0x23 .ok 0 0), s.closeBatch (id % 64))

/-! ### One operation (R126, R137, R140, R141, R152) -/

/-- One operation of R141, its flags and the room for its answer left aside. -/
def State.serveOp (s : State) (o : Origin) (job : Nat) (r : OpReq) : Served :=
  match r.opcode with
  | 0x01 => let (a, s1) := s.opRead o r.index r.sub r.ty r.data.length; (some a, s1)
  | 0x02 => s.opWrite o job r
  | 0x03 => s.opReadSegment o r
  | 0x04 => s.opWriteSegment o job r
  | 0x05 => (some (s.opDescribe o r.index r.sub r.ty r.data.length), s)
  | 0x06 => (some (s.opNext o r.index r.sub r.ty r.data.length), s)
  | 0x10 => s.opCreate o job r
  | 0x11 => s.opDestroy o job r
  | 0x20 => s.opBatchOpen o r
  | 0x21 => s.opBatchWrite o r
  | 0x22 => s.opBatchCommit o job r
  | 0x23 => s.opBatchAbort o r
  | _ => s.failOp r .range

/-- An operation that a mate in SHADOW would have received (R137). -/
def State.pairBound (s : State) (o : Origin) (r : OpReq) : Bool :=
  match r.opcode with
  | 0x02 => coherent r.index r.sub
  | 0x04 => decide (r.flags = 1) && coherent r.index r.sub
  | 0x10 => true
  | 0x11 => true
  | 0x22 => (s.batch (numAt o.be r.data 0 4 % 64)).ops.any fun op => coherent op.index op.sub
  | _ => false

/-- The status of what an operation came to; one that waits has not failed. -/
def servedStatus (x : Served) : Status := (x.1.map (·.status)).getD .ok

/-- Bytes of data that the answer of an operation that waits may have. -/
def waitingRoom (r : OpReq) : Nat := if r.opcode = 0x22 then 8 else if r.opcode = 0x10 then 4 else 0

/-- The outcome of a WRITE or of a CREATE that was refused is kept for a READ of its object (R118, R574). -/
def State.noteRefused (s : State) (o : Origin) (r : OpReq) (st : Status) : State :=
  if r.opcode = 0x02 then s.noteWrite o r.index r.sub st
  else if r.opcode = 0x10 ∧ isCreateObject r.index r.sub then s.noteOutcome o r.index 0 st
  else s

/-- One operation of a request: a reserved OP_FLAGS bit draws RANGE (R4, R140), REQUIRE_PAIR without a mate PAIR_UNAVAILABLE (R137), and an
answer that leaves no room for the rest NO_RESOURCE (R126), each at its place in the order of R152; none of these applies anything. -/
def State.runOne (s : State) (o : Origin) (job : Nat) (requirePair : Bool) (room : Nat) (r : OpReq) : Served :=
  let x := s.serveOp o job r
  let st := servedStatus x
  let isLate := decide (st = .ok) || decide (st = .pairUnavailable) || decide (st = .busy) || decide (st = .noResource)
  let data := match x.1 with | some a => a.data.length | none => waitingRoom r
  if (isLate ∨ st = .range) ∧ r.flags ≠ 0 ∧ ¬(r.opcode = 0x04 ∧ r.flags = 1) then (s.noteRefused o r .range).failOp r .range
  else if isLate ∧ requirePair = true ∧ s.mateInShadow = false ∧ s.pairBound o r = true then (s.noteRefused o r .pairUnavailable).failOp r .pairUnavailable
  else if st = .ok ∧ room < data then (s.noteRefused o r .noResource).failOp r .noResource
  else x

end Sys2Proof.Machine
end

