-- ==== Sys2Proof/Machine/Requests.lean ====
section
/-! DEFINITION. Sys2Proof/Machine/Requests.lean: requests and their answers: jobs, POA sessions and frames, and object windows (R125,
R126, R138 to R150). -/

namespace Sys2Proof.Machine

/-! ### Requests and responses as bytes (R140, R145) -/

/-- The operations of a body; none where it cannot be parsed. -/
def parseOps (be : Bool) : Nat → List Byte → Option (List OpReq)
  | 0, b => if b.isEmpty then some [] else none
  | fuel + 1, b =>
    if b.isEmpty then some []
    else
      let n := numAt be b 6 2
      if b.length < 8 + n then none
      else (parseOps be fuel (b.drop (8 + n))).map fun rest =>
        { opcode := byteAt b 0, flags := byteAt b 1, index := numAt be b 2 2, sub := byteAt b 4, ty := byteAt b 5, data := slice b 8 n } :: rest

/-- An operation of a response. -/
def OpAns.bytes (a : OpAns) (be : Bool) : List Byte :=
  natBe a.opcode 1 ++ natBe a.status.code 1 ++ numBytes be a.index 2 ++ natBe a.sub 1 ++ natBe a.ty 1 ++ numBytes be a.data.length 2 ++ a.data

/-- The operations of a request body of at most 64, or none (R125, R145). -/
def requestOps (be : Bool) (b : List Byte) : Option (List OpReq) := parseOps be 64 b

/-! ### Frames on the management ports (R138, R139, R142, R143) -/

/-- The MAC address of a management port (R105, R138). -/
def State.mgmtMac (s : State) (p : Nat) : List Byte := natBe (beNat (slice (s.oct 0x1020 4) 0 6) + p) 6

/-- AUTH_TAG of a header and a body under a key (R143). -/
def authTag (key msg : List Byte) : List Byte := slice (Config.hmacSha256 key msg) 0 16

/-- A POA message: header, body and AUTH_TAG (R138, R139). -/
def poaMessage (key : List Byte) (msgType result session seq schema : Nat) (body : List Byte) : List Byte :=
  let m := natBe 1 1 ++ natBe msgType 1 ++ [0] ++ natBe result 1 ++ natBe session 4 ++ natBe seq 4 ++ natBe schema 2 ++ natBe body.length 2 ++ body
  m ++ authTag key m

/-- A frame out of a management port, padded to the least length of Ethernet, with its FCS. -/
def State.sendMgmt (s : State) (p : Nat) (mac : List Byte) (tag : Option Nat) (etherType : Nat) (msg : List Byte) : State :=
  let f := slice mac 0 6 ++ s.mgmtMac p ++ (match tag with | some t => natBe 0x8100 2 ++ natBe t 2 | none => []) ++ natBe etherType 2 ++ msg
  let g := f ++ List.replicate (60 - f.length) 0
  s.emit (.mgmt p (g ++ natLe (crc32 g) 4))

/-- A POA frame taken apart: source address, 802.1Q tag, header, body and AUTH_TAG. -/
structure PoaFrame where
  mac : List Byte
  tag : Option Nat
  header : List Byte
  body : List Byte
  auth : List Byte
  deriving DecidableEq, Repr

/-- MSG_TYPE. -/
def PoaFrame.msgType (f : PoaFrame) : Nat := byteAt f.header 1
/-- FLAGS. -/
def PoaFrame.flags (f : PoaFrame) : Nat := byteAt f.header 2
/-- RESULT. -/
def PoaFrame.result (f : PoaFrame) : Nat := byteAt f.header 3
/-- SESSION_ID. -/
def PoaFrame.session (f : PoaFrame) : Nat := beAt f.header 4 4
/-- SEQ. -/
def PoaFrame.seq (f : PoaFrame) : Nat := beAt f.header 8 4
/-- SCHEMA. -/
def PoaFrame.schema (f : PoaFrame) : Nat := beAt f.header 12 2
/-- Whether the AUTH_TAG verifies under a key (R143). -/
def PoaFrame.verifies (f : PoaFrame) (key : List Byte) : Bool := decide (f.auth = authTag key (f.header ++ f.body))

/-- A frame whose destination, tag, EtherType, VERSION and BODY_LENGTH pass (R138, R139). -/
def State.parsePoa (s : State) (p : Nat) (frame : List Byte) : Option PoaFrame :=
  let tagged := decide (beAt frame 12 2 = 0x8100)
  let off := if tagged then 18 else 14
  let vid := if tagged then beAt frame 14 2 % 4096 else 0
  let n := beAt frame (off + 14) 2
  if slice frame 0 6 ≠ s.mgmtMac p ∨ vid ≠ s.reg 0x1040 2 ∨ beAt frame (off - 2) 2 ≠ s.reg 0x1040 1 ∨ off + 1504 < frame.length
      ∨ byteAt frame off ≠ 1 ∨ frame.length < off + 36 + n then none
  else some { mac := slice frame 6 6, tag := if tagged then some (beAt frame 14 2) else none, header := slice frame off 16
              body := slice frame (off + 16) n, auth := slice frame (off + 16 + n) 16 }

/-- A management port serves POA (R101, R138, R435): port 1 not in DORMANT, and the recovery service on port 0 alone. -/
def State.mgmtServes (s : State) (p : Nat) : Bool :=
  decide (p < 2) && (s.power.tidewatchUp || (s.power.recovery && decide (p = 0))) && !(decide (p = 1) && decide (s.mode = .dormant))

/-- A frame dropped on a management port (R435). -/
def State.dropMgmt (s : State) (p : Nat) : State := s.bump 0x3183 p

/-- A frame dropped because it does not authenticate (R143). -/
def State.dropAuth (s : State) (p : Nat) : State := (s.bump 0x1040 6).dropMgmt p

/-- A frame dropped by its SEQ (R146). -/
def State.dropStale (s : State) (p : Nat) : State := (s.bump 0x1040 7).dropMgmt p

/-! ### Jobs (R124 to R126) -/

/-- A job stored. -/
def State.putJob (s : State) (j : Job) : State := { s with acc := { s.acc with jobs := mput s.acc.jobs j.id j } }

/-- A new job, ready to be served. -/
def State.newJob (s : State) (o : Origin) (reply : ReplyTo) (requirePair : Bool) (limit : Nat) (ops : List OpReq) : State :=
  let j : Job := { id := s.acc.nextJob, origin := o, reply := reply, requirePair := requirePair, answered := [], rest := ops, limit := limit
                   ready := true }
  ({ s with acc := { s.acc with nextJob := s.acc.nextJob + 1 } }).putJob j

/-- A session. -/
def State.session (s : State) (k : Nat) : Option Session := mget s.acc.sessions k
/-- A session stored. -/
def State.setSession (s : State) (x : Session) : State := { s with acc := { s.acc with sessions := mput s.acc.sessions x.id x } }
/-- A window. -/
def State.window (s : State) (w : Nat) : Window := mgetD .reset s.acc.windows w
/-- A window stored. -/
def State.setWindow (s : State) (w : Nat) (x : Window) : State := { s with acc := { s.acc with windows := mput s.acc.windows w x } }

/-- A response of a session goes out, and is stored for its SEQ with those of the 63 before it (R138, R146). -/
def State.respondPoa (s : State) (port : Nat) (mac : List Byte) (tag : Option Nat) (etherType session seq schema : Nat) (key : List Byte)
    (result : Status) (body : List Byte) : State :=
  let msg := poaMessage key 2 result.code session seq schema body
  let s1 := s.sendMgmt port mac tag etherType msg
  match s1.session session with
  | none => s1
  | some x => s1.setSession { x with serving := false, stored := (seq, msg) :: x.stored.take 63 }

/-- A window's response is complete (R149): DONE sets, and its vector is raised where IRQ_EN is 1. -/
def State.respondWindow (s : State) (w seq : Nat) (result : Status) (body : List Byte) : State :=
  let x := s.window w
  let x1 : Window := { x with
    busy := false, done := true, result := result, rsp := body ++ x.rsp.drop body.length, rspLength := body.length
    answered := some (seq, result, body) }
  let s1 := s.setWindow w x1
  if x.irqEn then s1.raiseVector x.msix else s1

/-- A RESET_REQUEST that was answered takes effect (R89, R92, R95). -/
def State.applyReset (s : State) : State :=
  let s1 : State := { s with acc := { s.acc with resetDue := 0 } }
  match s.acc.resetDue with
  | 0 => s
  | 1 => (s1.reach (s1.now + 1000000)).warmRestart 5 false
  | _ => s1.powerOnReset 2

/-- A job with no operation left is answered. -/
def State.finishJob (s : State) (j : Job) : State :=
  let s1 : State := { s with acc := { s.acc with jobs := mdel s.acc.jobs j.id } }
  let body := (j.answered.map fun a => a.bytes j.origin.be).flatten
  (match j.reply with
    | .direct => j.answered.foldl (fun (s : State) a => s.answer j.origin a) s1
    | .window w seq => s1.respondWindow w seq .ok body
    | .poa port mac tag et session seq schema key => s1.respondPoa port mac tag et session seq schema key .ok body).applyReset

/-- An answer joins its job. -/
def State.addAnswer (s : State) (id : Nat) (a : OpAns) : State :=
  match mget s.acc.jobs id with
  | none => s
  | some j => s.putJob { j with answered := j.answered ++ [a] }

/-- Bytes of the answers of a job so far. -/
def Job.used (j : Job) : Nat := (j.answered.map fun a => 8 + a.data.length).foldl (· + ·) 0

/-- A job goes on until an operation of it must wait, or all are answered. -/
def State.runJob : Nat → State → Nat → State
  | 0, s, _ => s
  | fuel + 1, s, id =>
    match mget s.acc.jobs id with
    | none => s
    | some j =>
      match j.rest with
      | [] => s.finishJob j
      | r :: rest =>
        let s1 := s.putJob { j with rest := rest, ready := false }
        match s1.runOne j.origin id j.requirePair (j.limit - j.used - 8 - 8 * rest.length) r with
        | (some a, s2) => State.runJob fuel (s2.addAnswer id a) id
        | (none, s2) => s2

/-! ### Sequence numbers (R144 to R146) -/

/-- A request of a session whose turn it is (R145): SCHEMA, then RANGE for its header or its body, then its operations. -/
def State.beginRequest (s : State) (x : Session) (h : HeldReq) (f : PoaFrame) : State :=
  let s1 := s.setSession { x with high := h.seq, serving := true, held := x.held.filter fun y => decide (y.seq ≠ h.seq) }
  let et := s.reg 0x1040 1
  let refuse (st : Status) : State := s1.respondPoa h.port h.mac h.tag et x.id h.seq x.schema x.key st []
  if f.schema ≠ x.schema then refuse .schema
  else if 1 < f.flags ∨ f.result ≠ 0 then refuse .range
  else match requestOps true f.body with
    | none => refuse .range
    | some ops => s1.newJob (.session x.id) (.poa h.port h.mac h.tag et x.id h.seq x.schema x.key) (decide (f.flags = 1)) 1468 ops

/-- The header and body of a held request. -/
def HeldReq.message (h : HeldReq) : PoaFrame :=
  { mac := h.mac, tag := h.tag, header := slice h.frame 0 16, body := h.frame.drop 16, auth := [] }

/-- A session whose next request is held and may begin. -/
def Session.next (x : Session) : Option HeldReq :=
  if x.serving then none else x.held.find? fun h => decide (h.seq = (x.high + 1) % 2 ^ 32)

/-- The first session with a request that may begin. -/
def State.nextRequest (s : State) : Option (Session × HeldReq) := s.acc.sessions.findSome? fun (_, x) => x.next.map fun h => (x, h)

/-- The answers whose flash record is complete and whose ticket the mate has staged, or that have no mate to wait for any longer (R32,
R137, R369). -/
def State.releaseWaiting (s : State) : State :=
  let due (w : Unanswered) : Bool := !w.flash && (!s.mateInShadow || w.ticket.all s.mateStaged)
  let left := s.acc.waiting.filter fun w => !due w
  let gone := s.acc.waiting.filter due
  let ids := (gone.map (·.job)).eraseDups.filter fun id => !left.any fun w => decide (w.job = id)
  ids.foldl (fun s id =>
    match gone.find? fun w => decide (w.job = id) with
    | none => s
    | some w =>
      let none_ := decide (w.opcode = 0x22)
      s.replyJob id { opcode := w.opcode, status := .ok, index := if none_ then 0 else w.index, sub := if none_ then 0 else w.sub, ty := w.ty
                      data := w.data })
    { s with acc := { s.acc with waiting := left } }

/-- Jobs that may go on do so, and sessions begin their next requests. -/
def State.settleLoop : Nat → State → State
  | 0, s => s
  | fuel + 1, s =>
    match s.acc.jobs.find? fun e => e.2.ready with
    | some (id, j) => State.settleLoop fuel (State.runJob (j.rest.length + 1) s id)
    | none => match s.nextRequest with
      | some (x, h) => State.settleLoop fuel (s.beginRequest x h h.message)
      | none => s

/-- What may be answered is answered. -/
def State.settle (s : State) : State :=
  let s1 := s.releaseWaiting
  let held := (s1.acc.sessions.map fun (_, x) => 2 * x.held.length).foldl (· + ·) 0
  State.settleLoop (s1.acc.jobs.length + held + 2) s1

/-- A bare operation by a row of the table. -/
def State.runDirect (s : State) (o : Origin) (r : OpReq) : State := (s.newJob o .direct false 65536 [r]).settle

/-! ### OPEN, CLOSE, REQUEST -/

/-- The key of a slot (R147): the factory key of slot 0, and none of a slot that was never given one. -/
def State.slotKey (s : State) (k : Nat) : Option (List Byte) :=
  if k = 0 then some Config.factoryKey
  else if 8 < k then none
  else
    let b := s.oct 0x1041 k
    if b.length = 32 then some b else none

/-- A session identifier (R142): a free value that no session has, and not zero. -/
def State.freshSession (s : State) : Nat × State :=
  let (d, s1) := s.draw
  let id := d % 2 ^ 32
  if id ≠ 0 ∧ (s.session id).isNone then (id, s1)
  else (((List.range 33).find? fun k => (s.session (k + 1)).isNone).getD 0 + 1, s1)

/-- STATUS of the ACCEPT (R142). -/
def State.acceptStatus (s : State) (f : PoaFrame) : Status :=
  let schema := s.reg 0x1040 3
  if f.flags ≠ 0 ∨ f.result ≠ 0 ∨ f.session ≠ 0 ∨ f.seq ≠ 0 ∨ f.body.length ≠ 20 ∨ beAt f.body 1 3 ≠ 0 then .range
  else if f.schema / 256 ≠ schema / 256 ∨ schema % 256 < f.schema % 256 then .schema
  else if 32 ≤ s.acc.sessions.length then .noResource else .ok

/-- An OPEN whose tag verifies (R142). -/
def State.acceptOpen (s : State) (p : Nat) (f : PoaFrame) (slot : Nat) (key : List Byte) : State :=
  let nonce := slice f.body 4 16
  let schema := s.reg 0x1040 3
  let recent := s.acc.accepts.filter fun a => decide (s.now < a.since + 10000000000)
  match recent.find? fun a => decide (a.slot = slot) && decide (a.nonce = nonce) with
  | some a => s.sendMgmt p f.mac f.tag (s.reg 0x1040 1) a.message
  | none =>
    let st := s.acceptStatus f
    let answer (id : Nat) (dn : List Byte) (s : State) : State :=
      let msg := poaMessage key 4 0 id 0 schema (natBe st.code 1 ++ [0, 0, 0] ++ dn ++ natBe schema 2 ++ [0, 0])
      let a : AcceptHold := { slot := slot, nonce := nonce, since := s.now, message := msg, session := id }
      ({ s with acc := { s.acc with accepts := a :: recent } }).sendMgmt p f.mac f.tag (s.reg 0x1040 1) msg
    if st ≠ .ok then answer 0 (List.replicate 16 0) s
    else
      let (id, s1) := s.freshSession
      let (dn, s2) := s1.drawBytes 16
      let skey := Config.hmacSha256 key ([0x50, 0x4F, 0x41, 0x2D, 0x53, 0x45, 0x53, 0x53, 0x49, 0x4F, 0x4E] ++ nonce ++ dn ++ natBe id 4)
      let x : Session := { id := id, slot := slot, port := p, key := skey, schema := f.schema, high := 0, serving := false, stored := [], held := []
                           lastValid := s.now }
      answer id dn (s2.setSession x)

/-- OPEN (R142): a slot above 8, without a key or with the role DISABLED, and a tag that does not verify, are not answered. -/
def State.takeOpen (s : State) (p : Nat) (f : PoaFrame) : State :=
  let slot := if f.body = [] then 9 else byteAt f.body 0
  match s.slotKey slot with
  | none => s.dropAuth p
  | some key => if !f.verifies key ∨ s.reg 0x1042 slot = 0 then s.dropAuth p else s.acceptOpen p f slot key

/-- The session of a message whose tag verifies (R143); a valid message begins its idle time anew (R144). -/
def State.validSession (s : State) (f : PoaFrame) : Option Session :=
  ((s.session f.session).filter fun x => f.verifies x.key).map fun x => { x with lastValid := s.now }

/-- CLOSE (R144). -/
def State.takeClose (s : State) (p : Nat) (f : PoaFrame) : State :=
  match s.validSession f with
  | none => s.dropAuth p
  | some x => s.endSession x.id

/-- A REQUEST by its SEQ (R146). -/
def State.takePoaRequest (s : State) (p : Nat) (f : PoaFrame) : State :=
  match s.validSession f with
  | none => s.dropAuth p
  | some x =>
    let s1 := s.setSession x
    let d := (f.seq + 2 ^ 32 - x.high) % 2 ^ 32
    if d = 0 ∨ 2 ^ 32 - 63 ≤ d then
      match x.stored.find? fun e => decide (e.1 = f.seq) with
      | some e => s1.sendMgmt p f.mac f.tag (s.reg 0x1040 1) e.2
      | none => if d = 0 ∧ x.serving = true then s1.dropMgmt p else s1.dropStale p
    else if 16 < d then s1.dropStale p
    else if x.held.any fun h => decide (h.seq = f.seq) then s1.dropMgmt p
    else
      let h : HeldReq := { seq := f.seq, since := s.now, port := p, mac := f.mac, tag := f.tag, frame := f.header ++ f.body }
      (s1.setSession { x with held := x.held ++ [h] }).settle

/-- A frame on a management port (R138): one that is no message of this type of the three is left to its own command; one of none is
dropped. -/
def State.takeFrame (s : State) (p : Nat) (frame : List Byte) (ty : Nat) (f : PoaFrame → State) : State :=
  if 2 ≤ p then s
  else if !s.mgmtServes p ∨ !fcsGood frame then s.dropMgmt p
  else match s.parsePoa p frame with
    | none => s.dropMgmt p
    | some m =>
      if m.msgType = ty then f m
      else if m.msgType = 1 ∨ m.msgType = 3 ∨ m.msgType = 5 then s else s.dropMgmt p

/-- POA_OPEN (R138, R142, R143): a frame with its FCS on management port p. -/
def execPoaOpen (p : Nat) (frame : List Byte) (s : State) : Host.Outcome State Fault Refusal :=
  .next (s.takeFrame p frame 3 (s.takeOpen p))

/-- POA_CLOSE (R144). -/
def execPoaClose (p : Nat) (frame : List Byte) (s : State) : Host.Outcome State Fault Refusal :=
  .next (s.takeFrame p frame 5 (s.takeClose p))

/-- POA_REQUEST (R144 to R146). -/
def execPoaRequest (p : Nat) (frame : List Byte) (s : State) : Host.Outcome State Fault Refusal :=
  .next (s.takeFrame p frame 1 (s.takePoaRequest p))

/-- SEQ_GAP_TIMEOUT (R146): 50 ms with a gap below it. -/
def execSeqGapTimeout (session seq : Nat) (s : State) : Host.Outcome State Fault Refusal :=
  .next (match s.session session with
    | none => s
    | some x =>
      match x.held.find? fun h => decide (h.seq = seq) with
      | none => s
      | some h =>
        let d := (seq + 2 ^ 32 - x.high) % 2 ^ 32
        let gap := (List.range (d - 1)).any fun k => !x.held.any fun y => decide (y.seq = (x.high + 1 + k) % 2 ^ 32)
        if !gap then s
        else ((s.reach (h.since + 50000000)).setSession { x with held := x.held.erase h }).dropMgmt h.port)

/-- SESSION_IDLE_EXPIRY (R144). -/
def execSessionIdleExpiry (session : Nat) (s : State) : Host.Outcome State Fault Refusal :=
  .next (match s.session session with
    | none => s
    | some x => (s.reach (x.lastValid + s.reg 0x1040 4 * 1000000000)).endSession session)

/-! ### Object windows (R148 to R150) -/

/-- GO of a window (R149, R150): while BUSY it is an overrun; a repeated SEQ draws the stored response; else the request is checked and
served. -/
def State.winGo (s : State) (w : Nat) : State :=
  let x := s.window w
  if 8 ≤ w ∨ s.mode = .dormant then s
  else if x.busy then s.setWindow w { x with overrun := true }
  else match x.answered.filter fun a => decide (a.1 = x.seq) with
    | some a => s.respondWindow w a.1 a.2.1 a.2.2
    | none =>
      let schema := s.reg 0x1040 3
      if x.schema / 65536 = 0 ∧ (x.schema / 256 ≠ schema / 256 ∨ schema % 256 < x.schema % 256) then s.respondWindow w x.seq .schema []
      else if x.schema / 65536 ≠ 0 ∨ 4096 < x.reqLength then s.respondWindow w x.seq .range []
      else match requestOps false (slice x.req 0 x.reqLength) with
        | none => s.respondWindow w x.seq .range []
        | some ops => ((s.setWindow w { x with busy := true }).newJob (.window w) (.window w x.seq) false 4096 ops).settle

/-- WIN_GO (R149). -/
def execWinGo (w : Nat) (s : State) : Host.Outcome State Fault Refusal := .next (s.winGo w)

end Sys2Proof.Machine
end

