-- ==== Sys2Proof/Machine/Operations.lean ====
section
/-! DEFINITION. Sys2Proof/Machine/Operations.lean: the meanings of the commands that are one operation of R141, of those that write a
table, rule, program or graph command into a batch, and of the times and records that end what operations began (R120, R124, R127, R129,
R132, R135, R136, R141, R188, R204, R226, R265, R289). -/

namespace Sys2Proof.Machine

/-- An operation with no flag set. -/
def plainReq (opcode i j ty : Nat) (data : List Byte) : OpReq := { opcode := opcode, flags := 0, index := i, sub := j, ty := ty, data := data }

/-! ### Objects (R124, R127) -/

/-- WRITE (R124): of a value in the byte order of the requester's path. -/
def execWrite (o : Origin) (i j ty : Nat) (v : List Byte) (s : State) : Host.Outcome State Fault Refusal :=
  .next (s.runDirect o (plainReq 0x02 i j ty v))

/-- READ_SEGMENT (R127). -/
def execReadSegment (o : Origin) (i j off count : Nat) (s : State) : Host.Outcome State Fault Refusal :=
  .next (s.runDirect o (plainReq 0x03 i j 10 (numBytes o.be off 4 ++ numBytes o.be count 2)))

/-- WRITE_SEGMENT (R127): `flags` is OP_FLAGS, in which bit 0 is LAST. -/
def execWriteSegment (o : Origin) (i j flags off : Nat) (bytes : List Byte) (s : State) : Host.Outcome State Fault Refusal :=
  .next (s.runDirect o { plainReq 0x04 i j 10 (numBytes o.be off 4 ++ bytes) with flags := flags })

/-- BLOB_SEGMENT_TIMEOUT (R127): 10 s after it began a value is not complete. -/
def execBlobSegmentTimeout (o : Origin) (i j : Nat) (s : State) : Host.Outcome State Fault Refusal :=
  .next (match s.acc.partials.find? (·.isOf o i j) with
    | none => s
    | some h => (s.reach (h.last + 10000000000)).dropPartial o i j)

/-- BLOB_COPY_EXPIRY (R127): 10 s without a read of the object. -/
def execBlobCopyExpiry (o : Origin) (i j : Nat) (s : State) : Host.Outcome State Fault Refusal :=
  .next (match s.acc.copies.find? (·.isOf o i j) with
    | none => s
    | some h =>
      let s1 := s.reach (h.last + 10000000000)
      { s1 with acc := { s1.acc with copies := s1.acc.copies.filter fun x => !x.isOf o i j } })

/-- What has been recorded of the delays of an HBM channel, with its stack's serial number (R398, R414). -/
def State.recordDelays (s : State) (cc : Nat) : State :=
  { s with hbm := { s.hbm with
      saved := mput s.hbm.saved cc (s.pc cc).delays
      savedSerials := mput s.hbm.savedSerials (cc / 32) (beNat (s.oct (0x1200 + cc / 32) 6)) } }

/-- The value of a P object goes into the current half of the store (R120). -/
def State.recordP (s : State) (i j : Nat) : State :=
  if i = 0x7140 then s.recordDelays j
  else if (typeOf i j).stringy then { s with fw := { s.fw with storeOcts := mput s.fw.storeOcts (okey i j) (s.oct i j) } }
  else s.storeP (okey i j) (s.reg i j)

/-- What waited for the completion of its own unit's work needs it no longer. -/
def State.localDone (s : State) (p : Unanswered → Bool) : State :=
  { s with acc := { s.acc with waiting := s.acc.waiting.map fun w => if p w then { w with flash := false } else w } }

/-- P_OBJECT_RECORDED (R120): the record of an object with attribute P is complete, and writes that waited for it are answered. -/
def execPObjectRecorded (i j : Nat) (s : State) : Host.Outcome State Fault Refusal :=
  .next (if !(dictRow i j).any (fun d => d.p && decide (d.access ≠ .ro)) then s
    else ((s.recordP i j).localDone fun w => decide (w.index = i ∧ w.sub = j ∧ w.opcode ≠ 0x11)).settle)

/-! ### Channels (R129, R289) -/

/-- DESTROY (R129). -/
def execDestroy (o : Origin) (h : Nat) (s : State) : Host.Outcome State Fault Refusal :=
  .next (s.runDirect o (plainReq 0x11 0 0 12 (numBytes o.be h 4)))

/-- QUEUE_DESTROY_DONE (R289): the reservation and the index of a queue in destruction are returned, and the DESTROY is answered. -/
def execQueueDestroyDone (i : Nat) (s : State) : Host.Outcome State Fault Refusal :=
  .next (match mget s.tm.queues i with
    | none => s
    | some q =>
      if q.admin ≠ .destroying then s
      else ((s.removeQueue i).localDone fun w => decide (some w.job = q.destroyer ∧ w.opcode = 0x11)).settle)

/-! ### Batches (R131 to R136) -/

/-- BATCH_OPEN (R132). -/
def execBatchOpen (o : Origin) (s : State) : Host.Outcome State Fault Refusal := .next (s.runDirect o (plainReq 0x20 0 0 0 []))

/-- A write added to an open batch: its value in the byte order of the requester's path. -/
def batchReq (o : Origin) (id i j ty : Nat) (v : List Byte) : OpReq := plainReq 0x21 i j ty (numBytes o.be id 4 ++ v)

/-- BATCH_WRITE (R132). -/
def execBatchWrite (o : Origin) (id i j ty : Nat) (v : List Byte) (s : State) : Host.Outcome State Fault Refusal :=
  .next (s.runDirect o (batchReq o id i j ty v))

/-- BATCH_COMMIT (R132, R136). -/
def execBatchCommit (o : Origin) (id : Nat) (s : State) : Host.Outcome State Fault Refusal :=
  .next (s.runDirect o (plainReq 0x22 0 0 4 (numBytes o.be id 4)))

/-- BATCH_ABORT (R132). -/
def execBatchAbort (o : Origin) (id : Nat) (s : State) : Host.Outcome State Fault Refusal :=
  .next (s.runDirect o (plainReq 0x23 0 0 4 (numBytes o.be id 4)))

/-- BATCH_IDLE_EXPIRY (R135): an open batch that no commit holds has had no operation for BATCH_IDLE_S. -/
def execBatchIdleExpiry (k : Nat) (s : State) : Host.Outcome State Fault Refusal :=
  .next (let b := s.batch k
    if 64 ≤ k ∨ !b.isOpen ∨ b.committing then s
    else ((s.reach (b.lastOp + s.reg 0x5C00 3 * 1000000000)).closeBatch k).bump 0x5C00 4)

/-! ### Commands in a batch (R188, R204, R225, R226, R264, R265) -/

/-- PROGRAM_INSTALL (R188). -/
def execProgramInstall (o : Origin) (id slot : Nat) (s : State) : Host.Outcome State Fault Refusal :=
  .next (s.runDirect o (batchReq o id 0x4202 1 (typeOf 0x4202 1).code (natBe slot 1)))

/-- GRAPH_RESTORE (R204). -/
def execGraphRestore (o : Origin) (id v : Nat) (s : State) : Host.Outcome State Fault Refusal :=
  .next (s.runDirect o (batchReq o id 0x4400 2 (typeOf 0x4400 2).code (natBe v 1)))

/-- A table command as R225 lays it out. -/
def tableCommand (op flags len region : Nat) (key data : List Byte) : List Byte :=
  natBe op 1 ++ natBe flags 1 ++ natBe len 1 ++ [0] ++ natBe region 4 ++ natBe 0 4 ++ key ++ data

/-- TABLE_INSERT (R226). -/
def execTableInsert (o : Origin) (id flags len region : Nat) (key data : List Byte) (s : State) : Host.Outcome State Fault Refusal :=
  .next (s.runDirect o (batchReq o id 0x5C10 0 (typeOf 0x5C10 0).code (tableCommand 1 flags len region key data)))

/-- TABLE_DELETE (R226). -/
def execTableDelete (o : Origin) (id flags len region : Nat) (key : List Byte) (s : State) : Host.Outcome State Fault Refusal :=
  .next (s.runDirect o (batchReq o id 0x5C10 0 (typeOf 0x5C10 0).code (tableCommand 2 flags len region key [])))

/-- A rule command as R264 lays it out. -/
def ruleCommand (op set pos : Nat) (rest : List Byte) : List Byte := natBe op 1 ++ [0, 0, 0] ++ natBe set 4 ++ natBe pos 4 ++ rest

/-- RULE_WRITE (R265). -/
def execRuleWrite (o : Origin) (id set pos : Nat) (action value mask : List Byte) (s : State) : Host.Outcome State Fault Refusal :=
  .next (s.runDirect o (batchReq o id 0x6010 0 (typeOf 0x6010 0).code (ruleCommand 1 set pos (action ++ value ++ mask))))

/-- RULE_DELETE (R265). -/
def execRuleDelete (o : Origin) (id set pos : Nat) (s : State) : Host.Outcome State Fault Refusal :=
  .next (s.runDirect o (batchReq o id 0x6010 0 (typeOf 0x6010 0).code (ruleCommand 2 set pos [])))

/-- RULE_SET_ACTION (R265). -/
def execRuleSetAction (o : Origin) (id set pos : Nat) (action : List Byte) (s : State) : Host.Outcome State Fault Refusal :=
  .next (s.runDirect o (batchReq o id 0x6010 0 (typeOf 0x6010 0).code (ruleCommand 3 set pos action)))

end Sys2Proof.Machine
end

