-- ==== Sys2Proof/Machine/Records.lean ====
section
/-! DEFINITION. Sys2Proof/Machine/Records.lean: the records that carry changes and copies between the units of a pair, the steps of a
commit, and the record stream itself (R177, R356 to R361, R368 to R370, R378, R388). A record is given as its whole bytes. -/

namespace Sys2Proof.Machine

/-! ### The copy for a joining standby (R378) -/

/-- What COPY carries: the live epochs and their versions, the tables, meters and channels with their generations, and the objects with
attribute P or M. -/
structure CopyImage where
  current : Nat
  cur : Version
  old : Version
  tables : Tables
  meters : List (Nat × Meter)
  queues : List (Nat × Queue)
  nodes : List (Nat × SchedNode)
  groups : List (Nat × List Nat)
  channels : List (Nat × HostChannel)
  sets : List (Nat × CounterSet)
  gens : List (Nat × Nat)
  /-- Keys of objects and their values in canonical form. -/
  objs : List (Nat × List Byte)
  deriving DecidableEq, Repr

/-- The images of a copy as records carry them, each with its IMAGE, OFFSET and bytes: the manual does not state their form (log entry
51). -/
opaque copyRecords : CopyImage → List (Nat × Nat × List Byte)
/-- The copy that records received hold, once they hold all of it (log entry 51). -/
opaque copyRead : List (Nat × Nat × List Byte) → Option CopyImage

/-- Objects that a copy sets: those with attribute M, and those with P that may be written in service (log entry 52). -/
def copiedObject (d : ObjDef) : Bool :=
  (d.m || (d.p && decide (d.access ≠ .rwb))) && decide (d.access ≠ .ro) && decide (d.access ≠ .cmd)

/-- The keys of the objects that a copy sets; versioned ones go with their version. -/
def copiedKeys : List Nat :=
  (dictionary.filter copiedObject).flatMap fun d =>
    ((List.range (d.idxHi + 1 - d.idxLo)).flatMap fun a =>
      (List.range (d.subHi + 1 - d.subLo)).map fun b => okey (d.idxLo + a) (d.subLo + b)).filter fun k => !versioned (k / 256) (k % 256)

/-- The state to be copied, as it stands on the active. -/
def State.copyImage (s : State) : CopyImage :=
  { current := s.epochs.current, cur := s.epochs.cur, old := s.epochs.old, tables := s.tables, meters := s.meters, queues := s.tm.queues
    nodes := s.tm.nodes, groups := s.tm.groups, channels := s.host.channels, sets := s.stats.sets, gens := s.gens
    objs := copiedKeys.map fun k => (k, s.storedValue (k / 256) (k % 256) (typeOf (k / 256) (k % 256))) }

/-- A store rebuilt with its keys rising. -/
def mfix {α : Type} (l : List (Nat × α)) : List (Nat × α) := l.foldl (fun m e => mput m e.1 e.2) []

/-- A queue as a joining standby takes it: empty, its counts its own. -/
def Queue.fresh (q : Queue) (now : Nat) : Queue :=
  { q with packets := [], avg := 0, emptySince := now, emptyApplied := 0, admitted := 0, refused := 0, ended := 0, destroyer := none
           att := { q.att with deficit := 0, fresh := true, last := now, releasedPackets := 0, releasedBytes := 0 } }

/-- A host channel as a joining standby takes it: DISABLED and IDLE (R461). -/
def HostChannel.fresh (c : HostChannel) : HostChannel :=
  { c with ring := .disabled, fetchPos := 0, fetchPhase := true, writePos := 0, writePhase := true, taken := 0, fetched := [], started := []
           staged := [], scanning := false, unsignalled := 0, firstUnsignalled := 0, malformed := 0, dmaErrors := 0, stalls := 0 }

/-- The origin of what the mate does here: no steward thread has this number. -/
def mateOrigin : Origin := .steward 192

/-- A value set by its object's rule; one that the rule refuses is stored as it is. -/
def State.copyObject (s : State) (e : Nat × List Byte) : State :=
  let i := e.1 / 256
  let j := e.1 % 256
  if !(dictRow i j).any copiedObject then s
  else match s.writeEffect mateOrigin i j e.2 with
    | (.ok, s1) => s1
    | _ => s.storeValue i j e.2

/-- The copy takes effect on the standby (R378 step 2). -/
def State.installCopy (s : State) (c : CopyImage) : State :=
  let t := c.tables
  let s1 : State := { s with
    epochs := { s.epochs with current := c.current % 65536, cur := c.cur, old := c.old, staged := none }
    tables := { s.tables with
      regions := mfix t.regions, em := mfix t.em, lpm := mfix t.lpm, ovf := mfix t.ovf, iters := [], flush := mfix t.flush, agedOut := []
      ruleSets := mfix t.ruleSets, rules := mfix t.rules }
    meters := mfix c.meters
    tm := { s.tm with
      queues := mmap (mfix c.queues) fun _ q => q.fresh s.now
      nodes := mmap (mfix c.nodes) fun _ n => { n with round := [], att := { n.att with deficit := 0, fresh := true, last := s.now } }
      groups := mfix c.groups }
    host := { s.host with channels := mmap (mfix c.channels) fun _ x => x.fresh }
    stats := { s.stats with sets := mmap (mfix c.sets) fun _ x => { x with packets := 0, bytes := 0 } }
    gens := c.gens.foldl (fun m e => mset 0 m e.1 (e.2 % 256)) [] }
  c.objs.foldl State.copyObject s1

/-- COPY begins once no commit is between its steps (R378 step 1). -/
def State.tryCopy (s : State) : State :=
  if s.role ≠ 1 ∨ s.pair.phase ≠ .copying ∨ !s.pair.copyAsked ∨ s.epochs.staged.isSome then s
  else
    (copyRecords s.copyImage).foldl (fun (s : State) x =>
      (s.sendRecord (typedRecord 0x4D (natBe x.1 1 ++ [0, 0, 0] ++ natBe x.2.1 4 ++ x.2.2.take 65524))).1)
      { s with pair := { s.pair with copyAsked := false } }

/-- COPY (R378 step 2): once the whole of the state has come, the standby takes it, says COPY_DONE, and PAIR_STATE reads TRIAL. -/
def State.takeCopy (s : State) (b : List Byte) : State :=
  if b.length < 8 then s.streamError
  else if s.mode ≠ .catchup ∨ s.pair.phase ≠ .copying then s
  else
    let parts := s.pair.copied ++ [(byteAt b 0, beAt b 4 4, b.drop 8)]
    match copyRead parts with
    | none => { s with pair := { s.pair with copied := parts } }
    | some c =>
      let s1 := s.installCopy c
      ({ s1 with pair := { s1.pair.clear with phase := .trial, copied := [] } }).sendStatus 2

/-- COPY (R378). -/
def execCopy (rec : List Byte) (s : State) : Host.Outcome State Fault Refusal := .next (s.takeCopy (rec.drop 3))

/-! ### STATUS (R359, R368, R369, R378, R388) -/

/-- STATUS with CATCHUP_REQUEST: the active holds new commits and begins COPY. -/
def State.beginCopy (s : State) : State :=
  if !s.pairEnabled ∨ s.refuseCause ≠ 0 then s
  else (({ s with pair := { s.pair.clear with phase := .copying, copyAsked := true } }).tryCopy).refreshIdentity

/-- STATUS with STALE (R369, R378 step 4): a pair in step breaks; a trial begins again at step 3. -/
def State.mateStale (s : State) : State :=
  match s.pair.phase with
  | .inStep => s.breakPair false
  | .trial => { s with pair := s.pair.clear }
  | _ => s

/-- One flag of a STATUS on the active. -/
def State.statusFlag (s : State) (flags k : Nat) : State :=
  if !bitAt flags k then s
  else match k with
    | 3 => s.mateStale
    | 0 => s.beginCopy
    | 1 => if s.pair.phase = .copying then { s with pair := { s.pair.clear with phase := .trial } } else s
    | 2 => if s.pair.phase = .trial then s.sendStart else s
    | _ => if s.pair.phase = .inStep then ({ s with pair := { s.pair with switching := true } }).finishSwitch else s

/-- STATUS on the active: what it reports is kept, then each flag acts. -/
def State.takeStatus (s : State) (b : List Byte) : State :=
  if b.length ≠ 8 then s.streamError
  else if s.role ≠ 1 then s
  else
    let s1 := { s with pair := { s.pair with mateTicket := beAt b 0 4, mateDrained := beAt b 4 2 } }
    [3, 0, 1, 2, 4].foldl (fun (s : State) k => s.statusFlag (beAt b 6 2) k) s1

/-- STATUS (R359). -/
def execStatus (rec : List Byte) (s : State) : Host.Outcome State Fault Refusal := .next ((s.takeStatus (rec.drop 3)).settle)

/-! ### OBJECT (R137, R359, R368) -/

/-- The unit follows the commits of an active. -/
def State.follows (s : State) : Bool := decide (s.role = 2) && (decide (s.pair.phase = .trial) || decide (s.pair.phase = .inStep))

/-- An operation joins the change of the next epoch that a ticket stages; one after a change already whole begins anew. -/
def State.stageOp (s : State) (ticket : Nat) (op : BatchOp) (own closed : Bool) : State :=
  let e := s.nextEpoch
  let before := (s.pair.staged.find? fun c => decide (c.epoch = e) && !c.closed).map (·.ops)
  let c : MateChange := { ticket := ticket, epoch := e, ops := before.getD [] ++ [op], own := own, closed := closed }
  { s with pair := { s.pair with staged := (s.pair.staged.filter fun c => decide (c.epoch ≠ e)) ++ [c] } }

/-- The change of the next epoch is whole. -/
def State.closeChange (s : State) : State :=
  { s with pair := { s.pair with staged := s.pair.staged.map fun c => if c.epoch = s.nextEpoch then { c with closed := true } else c } }

/-- A segment of a BLOB from the mate; the last makes the value take effect. -/
def State.mateSegment (s : State) (r : OpReq) : State :=
  let off := beAt r.data 0 4
  let before := if off = 0 then [] else ((s.acc.partials.find? (·.isOf mateOrigin r.index r.sub)).map (·.bytes)).getD []
  let all := before ++ r.data.drop 4
  let s0 := s.dropPartial mateOrigin r.index r.sub
  if r.flags % 2 = 0 then
    { s0 with acc := { s0.acc with partials := { origin := mateOrigin, index := r.index, sub := r.sub, bytes := all, last := s.now } :: s0.acc.partials } }
  else (s0.blobEffect r.index r.sub all).2

/-- A handle that the mate destroys. -/
def State.mateDestroy (s : State) (h : Nat) : State :=
  if s.checkAnyHandle h ≠ .ok then s
  else if handleKind h = 1 then s.beginDestroy (handleIndex h) none
  else s.removeChannel h

/-- One operation of an OBJECT record: versioned writes are staged, others applied; the mate has checked them. -/
def State.mateOp (ticket : Nat) (s : State) (r : OpReq) : State :=
  match r.opcode with
  | 0x02 =>
    if versioned r.index r.sub then s.stageOp ticket { origin := mateOrigin, index := r.index, sub := r.sub, data := r.data } false true
    else (s.writeEffect mateOrigin r.index r.sub r.data).2
  | 0x04 => s.mateSegment r
  | 0x10 => match createRule r.index with
    | some f => (match f r.data s with | .ok (_, s1) => s1 | .error _ => s)
    | none => s
  | 0x11 => s.mateDestroy (beAt r.data 0 4)
  | 0x21 => s.stageOp ticket { origin := mateOrigin, index := r.index, sub := r.sub, data := r.data.drop 4 } false false
  | 0x22 => s.closeChange
  | _ => s

/-- A ticket is staged, and the active hears of it (R368). -/
def State.ticketStaged (s : State) (t : Nat) : State := ({ s with pair := { s.pair with stagedTicket := t } }).sendStatus 0

/-- OBJECT (R359). -/
def State.takeObject (s : State) (b : List Byte) : State :=
  if b.length < 4 then s.streamError
  else match parseOps true b.length (b.drop 4) with
    | none => s.streamError
    | some ops => if !s.follows then s else (ops.foldl (State.mateOp (beAt b 0 4)) s).ticketStaged (beAt b 0 4)

/-- OBJECT (R368). -/
def execObject (rec : List Byte) (s : State) : Host.Outcome State Fault Refusal := .next (s.takeObject (rec.drop 3))

/-! ### LEARN (R234, R236, R359) -/

/-- The table commands of a LEARN record, cut by the key and data lengths of their regions; none where they do not fit. -/
def State.learnCommands (s : State) : Nat → List Byte → Option (List (List Byte))
  | 0, b => if b.isEmpty then some [] else none
  | fuel + 1, b =>
    if b.isEmpty then some []
    else match mget s.tables.regions (handleIndex (beAt b 4 4)) with
      | none => none
      | some r =>
        let n := 12 + r.keyBytes + (if byteAt b 0 = 1 then r.dataBytes else 0)
        if b.length < n then none else (s.learnCommands fuel (b.drop n)).map fun rest => b.take n :: rest

/-- LEARN (R359): one internal commit of the active is staged. -/
def State.takeLearn (s : State) (b : List Byte) : State :=
  if b.length < 8 then s.streamError
  else match s.learnCommands b.length (b.drop 8) with
    | none => s.streamError
    | some cs =>
      if !s.follows then s
      else
        let ops := cs.map fun c => ({ origin := mateOrigin, index := 0x5C10, sub := 0, data := c } : BatchOp)
        let e := beAt b 4 2
        let c : MateChange := { ticket := beAt b 0 4, epoch := e, ops := ops, own := true, closed := true }
        let s1 := { s with pair := { s.pair with staged := (s.pair.staged.filter fun (x : MateChange) => decide (x.epoch ≠ e)) ++ [c] } }
        s1.ticketStaged (beAt b 0 4)

/-- LEARN_RECORD (R368). -/
def execLearnRecord (rec : List Byte) (s : State) : Host.Outcome State Fault Refusal := .next (s.takeLearn (rec.drop 3))

/-! ### EPOCH_MARK (R177, R368, R370) -/

/-- A command of an internal commit of the active. -/
def Draft.ownOp (c1 : Nat) (d : Draft) (op : BatchOp) : Draft :=
  let c := op.data
  let ri := handleIndex (beAt c 4 4)
  match mget d.tables.regions ri with
  | none => d
  | some r =>
    let key := slice c 12 r.keyBytes
    if byteAt c 0 = 2 then { d with tables := d.tables.delete r ri c1 0 key }
    else
      let (h, d1) := d.lastHit r
      d1.place 0 ri d1 (d1.tables.insert r ri c1 0 key (slice c (12 + r.keyBytes) r.dataBytes) false true h)

/-- A change of the active worked out on the standby. -/
def State.mateDraft (s : State) (c : MateChange) : Draft :=
  if c.own then c.ops.foldl (Draft.ownOp s.nextEpoch) s.emptyDraft else s.draftBatch true c.ops

/-- The content of the active's commit takes effect at its epoch: a layout commit moves one entry, any other makes its changes. -/
def State.followCommit (s : State) (c : MateChange) : State :=
  let s0 := s.settleTables
  let d := s0.mateDraft c
  let s1 := match d.layout with
    | some (_, ri, a, b) => s0.stageLayout ri a b none
    | none => s0.stageDraft (c.ops.any changesProgram) d none
  match s1.epochs.staged with
  | none => s1
  | some g =>
    let s2 := match State.applyLater g.later s1 with
      | .ok x => x
      | .error _ => s1
    s2.crossIters.flip g

/-- The frames of a source from a position on that the standby has not admitted and that no longer wait to be taken. -/
def State.takenFrom (s : State) (k pos : Nat) : List OwnFrame :=
  let mine := (s.pair.entries.filterMap (·.own)) ++ s.pair.frames
  let x := s.sliceAt (s.sourceSlice k)
  mine.filter fun f =>
    decide (f.source = k) && decide (pos ≤ s.ownPosition k f.ordinal) && decide (f.again ≠ .lost)
      && !x.pool.any (fun p => decide (p.port = k) && decide (p.ordinal = f.ordinal))
      && !(decide (128 ≤ k) && x.inject.any fun i => decide (i.ordinal = some f.ordinal))

/-- What an earlier run of a frame made is discarded. -/
def State.discardRun (s : State) (k ordinal : Nat) : State :=
  let n := s.sourceSlice k
  let x := s.sliceAt n
  let other (p : Packet) : Bool := !(decide (entrySource n p = some k) && decide (p.ordinal = ordinal))
  let s1 := s.setSlice n { x with
    ingress := x.ingress.filter (fun y => other y.packet), held := x.held.filter (fun y => other y.packet), recirc := x.recirc.filter other }
  match s1.waitingOf k ordinal with
  | some (m, w) => s1.unwait m w
  | none => s1

/-- The frames of a source that were stamped before the mark of their position came run again from their first pass (R370). -/
def State.restamp (s : State) (k pos : Nat) : State :=
  let due := s.takenFrom k pos
  if due.isEmpty then s
  else
    let s1 := due.foldl (fun (s : State) f => s.discardRun k f.ordinal) (s.count 0x9001 8 due.length)
    let n := s.sourceSlice k
    let x := s1.sliceAt n
    let frames := due.filterMap fun f => match f.again with | .frame p => some p | _ => none
    let injected := due.filterMap fun f => match f.again with | .inject i => some i | _ => none
    s1.setSlice n { x with pool := frames ++ x.pool, inject := injected ++ x.inject }

/-- A source's mark is kept; four marks cover every packet that may still wait. -/
def State.noteMark (s : State) (e k pos : Nat) : State :=
  let l := mgetD [] s.pair.marks k ++ [(e, pos)]
  ({ s with pair := { s.pair with marks := mput s.pair.marks k (l.drop (l.length - 4)) } }).restamp k pos

/-- EPOCH_MARK (R368, R370): the standby makes the commit of that epoch, and each source's frames take the epoch from its position on. An
epoch that is not the next has no content that could be applied, and is a stream error. -/
def State.takeEpochMark (s : State) (b : List Byte) : State :=
  if b.length ≠ 644 then s.streamError
  else if !s.follows then s
  else
    let e := beAt b 0 2
    if e ≠ s.nextEpoch then s.streamError
    else match s.pair.staged.find? fun c => decide (c.epoch = e) && c.closed with
      | none => s.streamError
      | some c =>
        let s1 := s.followCommit c
        let s2 := { s1 with pair := { s1.pair with staged := s1.pair.staged.filter fun x => decide (x.epoch ≠ e) } }
        (List.range 0x90).foldl (fun (s : State) k => s.noteMark e k (beAt b (4 + 4 * k) 4)) s2

/-- EPOCH_MARK (R370). -/
def execEpochMark (rec : List Byte) (s : State) : Host.Outcome State Fault Refusal := .next (s.takeEpochMark (rec.drop 3))

/-! ### The steps of a commit (R177) -/

/-- EPOCH_DRAIN_DONE (R177 steps 1 to 3): no packet of OLDER is left, and the first commit goes on. -/
def execEpochDrainDone (s : State) : Host.Outcome State Fault Refusal := .next s.drainDone.settle

/-- EPOCH_ADVANCE (R177 steps 4 and 5): what is staged takes effect; a copy that waited for the commit begins. -/
def execEpochAdvance (s : State) : Host.Outcome State Fault Refusal := .next s.advance.tryCopy.settle

/-! ### Heartbeats (R360) -/

/-- HEARTBEAT_SEND (R360): one on every lane that is UP. TW_COUNT counts cycles of 8 ns. A switch-over whose cells are all
acknowledged goes on, and answers that waited for a mate now gone go out. -/
def execHeartbeatSend (s : State) : Host.Outcome State Fault Refusal :=
  .next (if !s.pairEnabled ∨ s.mode = .dormant then s
    else
      let flags := (if s.faultOutHigh then 1 else 0) + (if s.pair.fenced then 2 else 0)
      let body := natBe s.role 1 ++ natBe s.pairState 1 ++ natBe flags 1 ++ [0] ++ natBe s.pair.hbSeq 4 ++ natBe (s.now / 8) 4
      let s1 := s.lanesUp.foldl (fun (s : State) k => s.sendMate k 2 0 0 false body) s
      ({ s1 with pair := { s1.pair with hbSeq := (s1.pair.hbSeq + 1) % 2 ^ 32 } }).finishSwitch.settle)

/-! ### The record stream (R357, R359) -/

/-- A record by its TYPE. -/
def State.takeRecord (s : State) (rec : List Byte) : State :=
  let b := rec.drop 3
  match byteAt rec 0 with
  | 0x41 => s.takeIdentity b
  | 0x42 => s.takeEpochMark b
  | 0x43 => s.takeObject b
  | 0x44 => s.takeLearn b
  | 0x45 => s.takeMarks b
  | 0x46 => s.takeFabricVerdict b
  | 0x47 => s.takeCopyVerdict b
  | 0x48 => s.takeHostWork b
  | 0x49 => s.takeQueueEnds b
  | 0x4A => s.takeDigest b
  | 0x4B => s.takeStart b
  | 0x4C => if b = [] then s.turn 3 else s.streamError
  | 0x4D => s.takeCopy b
  | 0x4E => s.takeStatus b
  | _ => if 0x20 ≤ byteAt rec 0 ∧ byteAt rec 0 < 0x40 then s.takeBlock rec else s.streamError

/-- The length of the record that a stream begins with, once its first bytes show it; 0 where its first bytes are reserved. -/
def recordLength (b : List Byte) : Option Nat :=
  let k := byteAt b 0
  if 0x20 ≤ k ∧ k < 0x40 then some (2 + (19 * (k % 32 + 1) + 7) / 8)
  else if 0x40 ≤ k ∧ k < 0x60 then (if b.length < 3 then none else some (if beAt b 1 2 < 3 then 0 else beAt b 1 2))
  else some 0

/-- Whole records at the head of the stream are taken. PAD drops the rest of its cell, which is the rest of the stream; so does a stream
error whose record has no length. -/
def State.feed : Nat → State → State
  | 0, s => s
  | fuel + 1, s =>
    let b := s.pair.stream
    let rest (l : List Byte) : State := { s with pair := { s.pair with stream := l } }
    if b = [] then s
    else if byteAt b 0 = 0 then rest []
    else match recordLength b with
      | none => s
      | some 0 => (rest []).streamError
      | some n => if b.length < n then s else State.feed fuel ((rest (b.drop n)).takeRecord (b.take n))

/-- The payload of one cell joins the stream. -/
def State.feedCell (s : State) (payload : List Byte) : State :=
  let b := s.pair.stream ++ payload
  State.feed (b.length + 1) { s with pair := { s.pair with stream := b } }

/-- MATE_RECORDS_CELL (R357, R359). -/
def execMateRecordsCell (k : Nat) (cell : List Byte) (s : State) : Host.Outcome State Fault Refusal :=
  .next (if mateGood cell ∧ mateKind cell ≠ 1 then s
    else
      let (s1, payloads) := s.recvMate k cell
      (payloads.foldl State.feedCell s1).settle)

end Sys2Proof.Machine
end

