-- ==== Sys2Proof/Machine/Registers.lean ====
section
/-! DEFINITION. Sys2Proof/Machine/Registers.lean: writes of objects and of BAR registers that have no row of their own (R117, R148, R443
to R445, R470, R471). -/

namespace Sys2Proof.Machine

/-! ### BAR0: object windows (R148) -/

/-- A 4-byte write of a window's register. WIN_CONTROL's GO submits the request. -/
def State.writeWindowReg (s : State) (w off v : Nat) : State :=
  let x := s.window w
  match off with
  | 0x00 =>
    let s1 := s.setWindow w { x with irqEn := bitAt v 1 }
    if bitAt v 0 then s1.winGo w else s1
  | 0x04 => s.setWindow w { x with overrun := x.overrun && !bitAt v 2, done := x.done && !bitAt v 1 }
  | 0x08 => s.setWindow w { x with seq := v }
  | 0x0C => s.setWindow w { x with schema := v }
  | 0x10 => s.setWindow w { x with reqLength := v }
  | 0x18 => s.setWindow w { x with msix := v % 2048 }
  | _ => s

/-- A write inside the window region of BAR0: the request buffer also takes 8 bytes at a time (R445). -/
def State.writeWindow (s : State) (w off : Nat) (bytes : List Byte) : State :=
  if 0x1000 ≤ off ∧ off < 0x2000 then
    let x := s.window w
    let b := x.req ++ List.replicate (off - 0x1000 + bytes.length - x.req.length) 0
    s.setWindow w { x with req := patch b (off - 0x1000) bytes }
  else s.writeWindowReg w off (leNat bytes)

/-! ### BAR2: MB_STATUS (R444, R470, R471) -/

/-- A write of MB_STATUS: REJECTED and UNDERRUN are cleared by one. -/
def State.writeMbStatus (s : State) (m d v : Nat) : State :=
  let b := s.mailbox m
  let x := b.dir d
  s.setMailbox m (b.setDir d { x with rejected := x.rejected && !bitAt v 30, underrun := x.underrun && !bitAt v 29 })

/-! ### BAR4: the MSI-X table (R443) -/

/-- An entry of the MSI-X table; one that was never written is masked (log entry 11). -/
def State.msixEntry (s : State) (v : Nat) : List Byte := mgetD (List.replicate 12 0 ++ [1, 0, 0, 0]) s.host.msixTable v

/-- A write of the MSI-X table: a pending vector whose mask is cleared is sent. -/
def State.writeMsix (s : State) (off : Nat) (bytes : List Byte) : State :=
  let v := off / 16
  let e := patch (s.msixEntry v) (off % 16) bytes
  let s1 := { s with host := { s.host with msixTable := mput s.host.msixTable v e } }
  if !bitAt (byteAt e 12) 0 && s1.host.msixPending.contains v then
    ({ s1 with host := { s1.host with msixPending := s1.host.msixPending.filter (· ≠ v) } }).emit (.msix v)
  else s1

/-! ### REGISTER_WRITE -/

/-- Whether an offset lies in a buffer of an object window. -/
def windowBuffer (bar off : Nat) : Bool := decide (bar = 0) && decide (off < 0x20000) && decide (0x1000 ≤ off % 0x4000 ∧ off % 0x4000 < 0x3000)

/-- Sizes and alignments that R445 allows. -/
def barSizeOk (bar off n : Nat) : Bool := (decide (n = 4) && decide (off % 4 = 0)) || (decide (n = 8) && decide (off % 8 = 0) && windowBuffer bar off)

/-- Whether an offset of a BAR exists (R443). -/
def barHas (bar off : Nat) : Bool :=
  (decide (bar = 0) && decide (off < 0x100000)) || (decide (bar = 2) && decide (off < 0x40000)) || (decide (bar = 4) && decide (off < 0x10000))

/-- A PCIe write to a BAR. Read-only and reserved offsets take nothing; the registers of SUB_DOORBELL, DB_STATUS, DB_MASK, DB_RING, LOCK,
TX_DATA and MB_CONTROL have commands of their own. -/
def State.writeBar (s : State) (bar off : Nat) (bytes : List Byte) : State :=
  if s.mode = .dormant ∨ barHas bar off = false then s
  else if !barSizeOk bar off bytes.length then s.bump 0xA000 5
  else if bar = 0 ∧ off < 0x20000 then s.writeWindow (off / 0x4000) (off % 0x4000) bytes
  else if bar = 2 ∧ 0x20000 ≤ off ∧ off < 0x21000 ∧ off % 32 = 8 then s.writeMbStatus ((off - 0x20000) / 64) (off / 32 % 2) (leNat bytes)
  else if bar = 4 ∧ off < 0x8000 then s.writeMsix off bytes
  else s

/-- REGISTER_WRITE (R117): an object as an operation writes it (R124), or a BAR register. -/
def execRegisterWrite (w : RegWrite) (s : State) : Host.Outcome State Fault Refusal :=
  .next (match w with
    | .object o i j v => s.runDirect o (plainReq 0x02 i j (typeOf i j).code v)
    | .bar bar off bytes => s.writeBar bar off bytes)

end Sys2Proof.Machine
end

