-- ==== Sys2Proof/Machine/Spill.lean ====
section
/-! DEFINITION. Sys2Proof/Machine/Spill.lean: the meanings of the commands of the spill and read-back engines (R281 to R285). -/

namespace Sys2Proof.Machine

/-- Packets after the first `n` cells of a list. -/
def afterCells : Nat → List Held → List Held
  | _, [] => []
  | n, h :: rest => if n = 0 then h :: rest else afterCells (n - h.cells) rest

/-- The spillable packets of a queue, oldest first (R281): after its last packet in HBM or on its way there or back, or, with no
such packet, after its first HEAD_RESERVE_CELLS. -/
def Queue.spillable (q : Queue) : List Held :=
  if q.packets.all (fun h => decide (h.location = .onDie)) then afterCells q.headReserve q.packets
  else (q.packets.reverse.takeWhile fun h => decide (h.location = .onDie)).reverse

/-- The spillable cells of a queue. -/
def Queue.spillCells (q : Queue) : Nat := (q.spillable.map Held.ownCells).foldl (· + ·) 0

/-- How many of the oldest packets one segment takes: whole packets, up to 128 cells (R281). -/
def segmentCount : Nat → List Held → Nat
  | _, [] => 0
  | left, h :: rest => if h.cells ≤ left then 1 + segmentCount (left - h.cells) rest else 0

/-- Segments of the packet region in use. -/
def State.usedSegments (s : State) : Nat :=
  (s.tm.queues.map fun (_, q) =>
    (q.packets.filterMap fun h => match h.location with
      | .onDie => none | .writing g => some g | .hbm g => some g | .reading g => some g).eraseDups.length).foldl (· + ·) 0

/-- The queue that the engine takes: SPILL_ENABLE and the most spillable cells, the lower index winning a tie (R281). -/
def State.spillChoice (s : State) : Option (Nat × Queue) :=
  s.tm.queues.foldl (fun b (i, q) =>
    if !q.spillEnable ∨ q.spillCells = 0 then b
    else match b with
      | none => some (i, q)
      | some (_, p) => if p.spillCells < q.spillCells then some (i, q) else b) none

/-- Spilling goes on (R281): it starts at the threshold and stops below it by the hysteresis. -/
def State.spillOn (s : State) : Bool :=
  if s.tm.spilling then decide ((s.reg 0x7000 5 - s.reg 0x7000 6) * 4 < s.tm.cells)
  else decide (s.reg 0x7000 5 * 4 ≤ s.tm.cells)

/-- The first `n` packets of a queue among its spillable ones, marked as being written. -/
def markWriting (skip n seg : Nat) (ps : List Held) : List Held :=
  ps.take skip ++ (ps.drop skip).take n |>.mapIdx (fun k h => if skip ≤ k then { h with location := .writing seg } else h)
    |> (· ++ ps.drop (skip + n))

/-- SPILL_SEGMENT_START (R281, R285): the engine starts to write one segment. -/
def execSpillSegmentStart (s : State) : Host.Outcome State Fault Refusal :=
  .next (let on := s.spillOn
         let s1 := { s with tm := { s.tm with spilling := on } }
         if !on ∨ s.reg 0x7000 7 = 0 ∨ !s.stacksActive ∨ s.reg 0x7000 7 * 32768 ≤ s.usedSegments then s1
         else match s.spillChoice with
           | none => s1
           | some (i, q) =>
             let skip := q.packets.length - q.spillable.length
             let n := segmentCount 128 q.spillable
             let seg := s.tm.nextSeg
             let s2 := s1.setQueue i { q with packets := markWriting skip n seg q.packets }
             ({ s2 with tm := { s2.tm with nextSeg := seg + 1 } }.touchHbm).segmentAccess 1)

/-- The queue that a segment belongs to, by the place of its packets. -/
def State.queueOfSegment (s : State) (loc : Location) : Option (Nat × Queue) :=
  s.tm.queues.find? fun (_, q) => q.packets.any fun h => decide (h.location = loc)

/-- SPILL_WRITE_DONE (R281): the write of a segment completes, and its on-die cells and descriptors are freed. -/
def execSpillWriteDone (seg : Nat) (s : State) : Host.Outcome State Fault Refusal :=
  .next (match s.queueOfSegment (.writing seg) with
    | none => s
    | some (i, q) =>
      let mine := q.packets.filter fun h => decide (h.location = .writing seg)
      let ps := q.packets.map fun h => if h.location = .writing seg then { h with location := .hbm seg } else h
      let s1 := (s.setQueue i { q with packets := ps }).giveBack ((mine.map Held.ownCells).foldl (· + ·) 0) mine.length
      let s2 := s1.bump 0x7050 1
      State.startReadback 4 { s2 with tm := { s2.tm with spilling := s2.spillOn } } i)

/-- READBACK_DONE (R282, R285, R409, R410): a segment has been read and decoded. `corrected` and `bad` are the pseudo-channels with
corrected and uncorrectable bursts; `lost` the packets of the segment, counted from 0, that an uncorrectable error in the data
reaches; `descr` an uncorrectable error in the descriptor area, which loses them all. A standby that loses a held packet becomes
stale (R367). -/
def execReadbackDone (seg : Nat) (corrected bad lost : List Nat) (descr : Bool) (s : State) : Host.Outcome State Fault Refusal :=
  .next (match s.queueOfSegment (.reading seg) with
    | none => s
    | some (i, q) =>
      let first := (q.packets.findIdx? fun h => decide (h.location = .reading seg)).getD 0
      let hit (k : Nat) : Bool := descr || lost.contains (k - first)
      let marked := q.packets.mapIdx fun k h =>
        if h.location = .reading seg then { h with location := if hit k then .reading seg else .onDie } else h
      let s1 := (s.setQueue i { q with packets := marked }).bump 0x7050 2
      let s2 := s1.losePackets i fun h => decide (h.location = .reading seg)
      let anyLost := marked.any fun h => decide (h.location = .reading seg)
      let s3 := if anyLost && s2.standby then s2.goStale 5 0 else s2
      let s4 := s3.readErrors seg corrected bad
      State.startReadback 4 s4 i)

end Sys2Proof.Machine
end

