-- ==== Sys2Proof/Machine/Dispatch.lean ====
section
/-! DEFINITION. Sys2Proof/Machine/Dispatch.lean: which meaning each command has. -/

namespace Sys2Proof.Machine

def exec (i : Instr) (s : State) : Host.Outcome State Fault Refusal :=
  match i with
  | .frameReceive p frame uncorrectable => Sys2Proof.Machine.execFrameReceive p frame uncorrectable s
  | .switchingSlotGrant => Sys2Proof.Machine.execSwitchingSlotGrant s
  | .sliceWakeDone n => Sys2Proof.Machine.execSliceWakeDone n s
  | .sliceIdleExpiry n => Sys2Proof.Machine.execSliceIdleExpiry n s
  | .laneTake n egress => Sys2Proof.Machine.execLaneTake n egress s
  | .passDispatch n egress full => Sys2Proof.Machine.execPassDispatch n egress full s
  | .dgHoldClear n => Sys2Proof.Machine.execDgHoldClear n s
  | .breakwaterVerdict n => Sys2Proof.Machine.execBreakwaterVerdict n s
  | .replicateCopy n => Sys2Proof.Machine.execReplicateCopy n s
  | .spillSegmentStart => Sys2Proof.Machine.execSpillSegmentStart s
  | .spillWriteDone seg => Sys2Proof.Machine.execSpillWriteDone seg s
  | .readbackDone seg corrected bad lost descr => Sys2Proof.Machine.execReadbackDone seg corrected bad lost descr s
  | .schedDecision n => Sys2Proof.Machine.execSchedDecision n s
  | .voqRelease n => Sys2Proof.Machine.execVoqRelease n s
  | .frameTransmitDone p => Sys2Proof.Machine.execFrameTransmitDone p s
  | .txFrameStart p => Sys2Proof.Machine.execTxFrameStart p s
  | .gateEvent k => Sys2Proof.Machine.execGateEvent k s
  | .configChangeTime k => Sys2Proof.Machine.execConfigChangeTime k s
  | .linkDownHoldExpiry p => Sys2Proof.Machine.execLinkDownHoldExpiry p s
  | .linkFaultOnset p cause lane => Sys2Proof.Machine.execLinkFaultOnset p cause lane s
  | .flushDone p => Sys2Proof.Machine.execFlushDone p s
  | .linkUp p => Sys2Proof.Machine.execLinkUp p s
  | .modeRequest o v => Sys2Proof.Machine.execModeRequest o v s
  | .modeTransitionDone => Sys2Proof.Machine.execModeTransitionDone s
  | .drainQueuesEmpty => Sys2Proof.Machine.execDrainQueuesEmpty s
  | .drainTimeout => Sys2Proof.Machine.execDrainTimeout s
  | .wakeAfterSExpiry => Sys2Proof.Machine.execWakeAfterSExpiry s
  | .bootPath images half0 half1 stackIds spares failed => Sys2Proof.Machine.execBootPath images half0 half1 stackIds spares failed s
  | .poresetNLow => Sys2Proof.Machine.execPoresetNLow s
  | .powerOnStart => Sys2Proof.Machine.execPowerOnStart s
  | .pwrGoodMainRise bad0 bad1 board => Sys2Proof.Machine.execPwrGoodMainRise bad0 bad1 board s
  | .supplyTimeout => Sys2Proof.Machine.execSupplyTimeout s
  | .supplyLoss => Sys2Proof.Machine.execSupplyLoss s
  | .sensorSample temps => Sys2Proof.Machine.execSensorSample temps s
  | .thermalTrip sensor => Sys2Proof.Machine.execThermalTrip sensor s
  | .twclkLoss => Sys2Proof.Machine.execTwclkLoss s
  | .pllUnlock pll => Sys2Proof.Machine.execPllUnlock pll s
  | .twclkRestored => Sys2Proof.Machine.execTwclkRestored s
  | .refclkLoss k => Sys2Proof.Machine.execRefclkLoss k s
  | .refclkReturn k ppb => Sys2Proof.Machine.execRefclkReturn k ppb s
  | .avsEvaluate rail target => Sys2Proof.Machine.execAvsEvaluate rail target s
  | .avsWriteDone rail ok read => Sys2Proof.Machine.execAvsWriteDone rail ok read s
  | .warmresetNLow => Sys2Proof.Machine.execWarmresetNLow s
  | .warmRestartDone => Sys2Proof.Machine.execWarmRestartDone s
  | .resetRequestWarm o => Sys2Proof.Machine.execResetRequestWarm o s
  | .resetRequestCold o => Sys2Proof.Machine.execResetRequestCold o s
  | .tidewatchWatchdogExpiry => Sys2Proof.Machine.execTidewatchWatchdogExpiry s
  | .pciePerstNLow => Sys2Proof.Machine.execPciePerstNLow s
  | .pciePerstNHigh => Sys2Proof.Machine.execPciePerstNHigh s
  | .trstNLow => Sys2Proof.Machine.execTrstNLow s
  | .moduleInsertion n => Sys2Proof.Machine.execModuleInsertion n s
  | .moduleResetRelease n => Sys2Proof.Machine.execModuleResetRelease n s
  | .moduleStatePoll n ack image => Sys2Proof.Machine.execModuleStatePoll n ack image s
  | .moduleReadTimeout n => Sys2Proof.Machine.execModuleReadTimeout n s
  | .moduleRemoval n => Sys2Proof.Machine.execModuleRemoval n s
  | .modIntNAssert n => Sys2Proof.Machine.execModIntNAssert n s
  | .reread o n v => Sys2Proof.Machine.execReread o n v s
  | .cmisPassthrough o n v => Sys2Proof.Machine.execCmisPassthrough o n v s
  | .poaOpen p frame => Sys2Proof.Machine.execPoaOpen p frame s
  | .poaClose p frame => Sys2Proof.Machine.execPoaClose p frame s
  | .poaRequest p frame => Sys2Proof.Machine.execPoaRequest p frame s
  | .seqGapTimeout session seq => Sys2Proof.Machine.execSeqGapTimeout session seq s
  | .sessionIdleExpiry session => Sys2Proof.Machine.execSessionIdleExpiry session s
  | .winGo w => Sys2Proof.Machine.execWinGo w s
  | .read o ix j ty => Sys2Proof.Machine.execRead o ix j ty s
  | .write o ix j ty v => Sys2Proof.Machine.execWrite o ix j ty v s
  | .readSegment o ix j off count => Sys2Proof.Machine.execReadSegment o ix j off count s
  | .writeSegment o ix j flags off bytes => Sys2Proof.Machine.execWriteSegment o ix j flags off bytes s
  | .blobSegmentTimeout o ix j => Sys2Proof.Machine.execBlobSegmentTimeout o ix j s
  | .blobCopyExpiry o ix j => Sys2Proof.Machine.execBlobCopyExpiry o ix j s
  | .describe o ix j => Sys2Proof.Machine.execDescribe o ix j s
  | .next o ix j => Sys2Proof.Machine.execNext o ix j s
  | .destroy o h => Sys2Proof.Machine.execDestroy o h s
  | .queueDestroyDone ix => Sys2Proof.Machine.execQueueDestroyDone ix s
  | .batchOpen o => Sys2Proof.Machine.execBatchOpen o s
  | .batchWrite o id ix j ty v => Sys2Proof.Machine.execBatchWrite o id ix j ty v s
  | .batchCommit o id => Sys2Proof.Machine.execBatchCommit o id s
  | .batchAbort o id => Sys2Proof.Machine.execBatchAbort o id s
  | .batchIdleExpiry k => Sys2Proof.Machine.execBatchIdleExpiry k s
  | .epochDrainDone => Sys2Proof.Machine.execEpochDrainDone s
  | .epochAdvance => Sys2Proof.Machine.execEpochAdvance s
  | .programInstall o id slot => Sys2Proof.Machine.execProgramInstall o id slot s
  | .graphRestore o id v => Sys2Proof.Machine.execGraphRestore o id v s
  | .emRegionCreate o v => Sys2Proof.Machine.execEmRegionCreate o v s
  | .lpmRegionCreate o v => Sys2Proof.Machine.execLpmRegionCreate o v s
  | .tableInsert o id flags len region key data => Sys2Proof.Machine.execTableInsert o id flags len region key data s
  | .tableDelete o id flags len region key => Sys2Proof.Machine.execTableDelete o id flags len region key s
  | .learnServiceCommit => Sys2Proof.Machine.execLearnServiceCommit s
  | .ageSweep ri => Sys2Proof.Machine.execAgeSweep ri s
  | .search o region len key => Sys2Proof.Machine.execSearch o region len key s
  | .iterOpen o region => Sys2Proof.Machine.execIterOpen o region s
  | .iterNext o region iter count => Sys2Proof.Machine.execIterNext o region iter count s
  | .iterClose o region iter => Sys2Proof.Machine.execIterClose o region iter s
  | .iterTimeout slot => Sys2Proof.Machine.execIterTimeout slot s
  | .flushRequest o v => Sys2Proof.Machine.execFlushRequest o v s
  | .flushScanDone ri port => Sys2Proof.Machine.execFlushScanDone ri port s
  | .ruleSetCreate o v => Sys2Proof.Machine.execRuleSetCreate o v s
  | .ruleWrite o id set pos action value mask => Sys2Proof.Machine.execRuleWrite o id set pos action value mask s
  | .ruleDelete o id set pos => Sys2Proof.Machine.execRuleDelete o id set pos s
  | .ruleSetAction o id set pos action => Sys2Proof.Machine.execRuleSetAction o id set pos action s
  | .readRule o set pos => Sys2Proof.Machine.execReadRule o set pos s
  | .readBlock o set block => Sys2Proof.Machine.execReadBlock o set block s
  | .queueCreate o v => Sys2Proof.Machine.execQueueCreate o v s
  | .enable o h => Sys2Proof.Machine.execEnable o h s
  | .disable o h => Sys2Proof.Machine.execDisable o h s
  | .setLimits o h limits => Sys2Proof.Machine.execSetLimits o h limits s
  | .queueQuery o v => Sys2Proof.Machine.execQueueQuery o v s
  | .mcastSet o v => Sys2Proof.Machine.execMcastSet o v s
  | .mcastQuery o v => Sys2Proof.Machine.execMcastQuery o v s
  | .nodeCreate o v => Sys2Proof.Machine.execNodeCreate o v s
  | .schedSet o v => Sys2Proof.Machine.execSchedSet o v s
  | .schedQuery o v => Sys2Proof.Machine.execSchedQuery o v s
  | .meterCreate o v => Sys2Proof.Machine.execMeterCreate o v s
  | .meterSet o v => Sys2Proof.Machine.execMeterSet o v s
  | .meterQuery o v => Sys2Proof.Machine.execMeterQuery o v s
  | .windowAdmin o k v => Sys2Proof.Machine.execWindowAdmin o k v s
  | .windowEnable o k v => Sys2Proof.Machine.execWindowEnable o k v s
  | .windowPort o k v => Sys2Proof.Machine.execWindowPort o k v s
  | .watchQueue o w v => Sys2Proof.Machine.execWatchQueue o w v s
  | .watchIntervalEnd w => Sys2Proof.Machine.execWatchIntervalEnd w s
  | .dataCell l cell => Sys2Proof.Machine.execDataCell l cell s
  | .idleCell l cell => Sys2Proof.Machine.execIdleCell l cell s
  | .replayTimeout l => Sys2Proof.Machine.execReplayTimeout l s
  | .reassemblyTimeout l unit srcLink => Sys2Proof.Machine.execReassemblyTimeout l unit srcLink s
  | .reseqTimeout unit cls => Sys2Proof.Machine.execReseqTimeout unit cls s
  | .request l cell => Sys2Proof.Machine.execRequest l cell s
  | .grant l cell => Sys2Proof.Machine.execGrant l cell s
  | .grantIssue => Sys2Proof.Machine.execGrantIssue s
  | .requestRefresh unit cls => Sys2Proof.Machine.execRequestRefresh unit cls s
  | .hello l cell => Sys2Proof.Machine.execHello l cell s
  | .quiet l cell => Sys2Proof.Machine.execQuiet l cell s
  | .quietDone l cell => Sys2Proof.Machine.execQuietDone l cell s
  | .quietTimeout l => Sys2Proof.Machine.execQuietTimeout l s
  | .fault l cell => Sys2Proof.Machine.execFault l cell s
  | .linkFail l cause => Sys2Proof.Machine.execLinkFail l cause s
  | .signalLossHoldExpiry l => Sys2Proof.Machine.execSignalLossHoldExpiry l s
  | .linkRetrain l => Sys2Proof.Machine.execLinkRetrain l s
  | .linkUpHoldExpiry l => Sys2Proof.Machine.execLinkUpHoldExpiry l s
  | .fenceHoldExpiry g b => Sys2Proof.Machine.execFenceHoldExpiry g b s
  | .fabricMeasure => Sys2Proof.Machine.execFabricMeasure s
  | .quadWakeDone q elapsed => Sys2Proof.Machine.execQuadWakeDone q elapsed s
  | .hbmIdleExpiry h => Sys2Proof.Machine.execHbmIdleExpiry h s
  | .selfRefreshEnter h => Sys2Proof.Machine.execSelfRefreshEnter h s
  | .hbmWakeDone h elapsed bad => Sys2Proof.Machine.execHbmWakeDone h elapsed bad s
  | .hbmWakeFailed h => Sys2Proof.Machine.execHbmWakeFailed h s
  | .refreshBoundary cc => Sys2Proof.Machine.execRefreshBoundary cc s
  | .bankRefresh cc => Sys2Proof.Machine.execBankRefresh cc s
  | .caParityAlert cc => Sys2Proof.Machine.execCaParityAlert cc s
  | .calRound cc => Sys2Proof.Machine.execCalRound cc s
  | .calProbeDone cc left right => Sys2Proof.Machine.execCalProbeDone cc left right s
  | .hbmDelays o cc v => Sys2Proof.Machine.execHbmDelays o cc v s
  | .delaySave => Sys2Proof.Machine.execDelaySave s
  | .scrub corrected bad => Sys2Proof.Machine.execScrub corrected bad s
  | .portMode o p v => Sys2Proof.Machine.execPortMode o p v s
  | .portSlice o p v => Sys2Proof.Machine.execPortSlice o p v s
  | .portAdminEnable o p => Sys2Proof.Machine.execPortAdminEnable o p s
  | .portAdminDisable o p => Sys2Proof.Machine.execPortAdminDisable o p s
  | .moduleActivationStep p => Sys2Proof.Machine.execModuleActivationStep p s
  | .moduleActivationTimeout p => Sys2Proof.Machine.execModuleActivationTimeout p s
  | .ptpStepNs o v => Sys2Proof.Machine.execPtpStepNs o v s
  | .txStampPop o p v => Sys2Proof.Machine.execTxStampPop o p v s
  | .ppsInEdge => Sys2Proof.Machine.execPpsInEdge s
  | .ppsOutSecond => Sys2Proof.Machine.execPpsOutSecond s
  | .adaptStep lane coef up before => Sys2Proof.Machine.execAdaptStep lane coef up before s
  | .adaptEvaluate lane after => Sys2Proof.Machine.execAdaptEvaluate lane after s
  | .marginMeasure lane height width snr ber corrected uncorrected symbols => Sys2Proof.Machine.execMarginMeasure lane height width snr ber corrected uncorrected symbols s
  | .dgUncorrectableFlit g toTm hits => Sys2Proof.Machine.execDgUncorrectableFlit g toTm hits s
  | .dgFail g => Sys2Proof.Machine.execDgFail g s
  | .dgRetrain g good => Sys2Proof.Machine.execDgRetrain g good s
  | .dgCalRound g margin corrected => Sys2Proof.Machine.execDgCalRound g margin corrected s
  | .subDoorbell ix slots => Sys2Proof.Machine.execSubDoorbell ix slots s
  | .scanResume ix slots => Sys2Proof.Machine.execScanResume ix slots s
  | .inject n ok buffer => Sys2Proof.Machine.execInject n ok buffer s
  | .receiveBuffer ix slot => Sys2Proof.Machine.execReceiveBuffer ix slot s
  | .stagedRetry ix free => Sys2Proof.Machine.execStagedRetry ix free s
  | .coalesceExpiry ix => Sys2Proof.Machine.execCoalesceExpiry ix s
  | .ringEnable o h => Sys2Proof.Machine.execRingEnable o h s
  | .ringDisable o h => Sys2Proof.Machine.execRingDisable o h s
  | .channelCreate o v => Sys2Proof.Machine.execChannelCreate o v s
  | .channelSet o v => Sys2Proof.Machine.execChannelSet o v s
  | .channelQuery o v => Sys2Proof.Machine.execChannelQuery o v s
  | .dbStatus k v => Sys2Proof.Machine.execDbStatus k v s
  | .dbMask k v => Sys2Proof.Machine.execDbMask k v s
  | .dbRing k v => Sys2Proof.Machine.execDbRing k v s
  | .txData master m d w => Sys2Proof.Machine.execTxData master m d w s
  | .rxData master m d => Sys2Proof.Machine.execRxData master m d s
  | .abandon master m d => Sys2Proof.Machine.execAbandon master m d s
  | .mbStalemate m => Sys2Proof.Machine.execMbStalemate m s
  | .lockAcquire m l => Sys2Proof.Machine.execLockAcquire m l s
  | .lockRelease m l => Sys2Proof.Machine.execLockRelease m l s
  | .lockForce o l v => Sys2Proof.Machine.execLockForce o l v s
  | .tstart t rd target addr => Sys2Proof.Machine.execTstart t rd target addr s
  | .tstop t rd target => Sys2Proof.Machine.execTstop t rd target s
  | .tsig t rd target bits => Sys2Proof.Machine.execTsig t rd target bits s
  | .twfe t rd mask => Sys2Proof.Machine.execTwfe t rd mask s
  | .tpoll t rd mask => Sys2Proof.Machine.execTpoll t rd mask s
  | .tyield t => Sys2Proof.Machine.execTyield t s
  | .tstat t rd target => Sys2Proof.Machine.execTstat t rd target s
  | .threadWake t => Sys2Proof.Machine.execThreadWake t s
  | .tcmpExpiry t => Sys2Proof.Machine.execTcmpExpiry t s
  | .twdogExpiry t => Sys2Proof.Machine.execTwdogExpiry t s
  | .threadFault t cause => Sys2Proof.Machine.execThreadFault t cause s
  | .thread0Failure die => Sys2Proof.Machine.execThread0Failure die s
  | .slackWater die => Sys2Proof.Machine.execSlackWater die s
  | .coreRetainExpiry c => Sys2Proof.Machine.execCoreRetainExpiry c s
  | .debugHalt ts => Sys2Proof.Machine.execDebugHalt ts s
  | .debugResume ts => Sys2Proof.Machine.execDebugResume ts s
  | .threadWeight o tm n v => Sys2Proof.Machine.execThreadWeight o tm n v s
  | .puntQueue o tm n v => Sys2Proof.Machine.execPuntQueue o tm n v s
  | .integratorRestart o v => Sys2Proof.Machine.execIntegratorRestart o v s
  | .clearObject o idx sub => Sys2Proof.Machine.execClearObject o idx sub s
  | .clearIndex o idx => Sys2Proof.Machine.execClearIndex o idx s
  | .clearAllObjects o => Sys2Proof.Machine.execClearAllObjects o s
  | .clearCounterSet o h => Sys2Proof.Machine.execClearCounterSet o h s
  | .clearQueueStats o h => Sys2Proof.Machine.execClearQueueStats o h s
  | .clearChannelStats o h => Sys2Proof.Machine.execClearChannelStats o h s
  | .clearHistogram o entry => Sys2Proof.Machine.execClearHistogram o entry s
  | .clearEverything o => Sys2Proof.Machine.execClearEverything o s
  | .counterSetCreate o v => Sys2Proof.Machine.execCounterSetCreate o v s
  | .statsFlush kind ix err => Sys2Proof.Machine.execStatsFlush kind ix err s
  | .snapshot o v => Sys2Proof.Machine.execSnapshot o v s
  | .snapshotReady => Sys2Proof.Machine.execSnapshotReady s
  | .snapshotQuery o v => Sys2Proof.Machine.execSnapshotQuery o v s
  | .wrapQuery o v => Sys2Proof.Machine.execWrapQuery o v s
  | .counterSetQuery o v => Sys2Proof.Machine.execCounterSetQuery o v s
  | .histogramQuery o v => Sys2Proof.Machine.execHistogramQuery o v s
  | .traceRead o v => Sys2Proof.Machine.execTraceRead o v s
  | .ringReset o v => Sys2Proof.Machine.execRingReset o v s
  | .stageOpen o v => Sys2Proof.Machine.execStageOpen o v s
  | .stageEraseDone => Sys2Proof.Machine.execStageEraseDone s
  | .stageData o offset last data => Sys2Proof.Machine.execStageData o offset last data s
  | .pieceEraseDone p => Sys2Proof.Machine.execPieceEraseDone p s
  | .stageHashDone => Sys2Proof.Machine.execStageHashDone s
  | .atNextStart o => Sys2Proof.Machine.execAtNextStart o s
  | .warmNow o => Sys2Proof.Machine.execWarmNow o s
  | .activateInstallDone good => Sys2Proof.Machine.execActivateInstallDone good s
  | .confirm o v => Sys2Proof.Machine.execConfirm o v s
  | .revert o v => Sys2Proof.Machine.execRevert o v s
  | .confirmDelayExpiry => Sys2Proof.Machine.execConfirmDelayExpiry s
  | .confirmDeadlineExpiry => Sys2Proof.Machine.execConfirmDeadlineExpiry s
  | .patternStart o v => Sys2Proof.Machine.execPatternStart o v s
  | .patternStop o v => Sys2Proof.Machine.execPatternStop o v s
  | .patternDurationEnd k => Sys2Proof.Machine.execPatternDurationEnd k s
  | .bistStart o v => Sys2Proof.Machine.execBistStart o v s
  | .bistDone failed => Sys2Proof.Machine.execBistDone failed s
  | .backgroundTestDone kind number ended good holds last => Sys2Proof.Machine.execBackgroundTestDone kind number ended good holds last s
  | .healthClear o v => Sys2Proof.Machine.execHealthClear o v s
  | .jtagInstruction op => Sys2Proof.Machine.execJtagInstruction op s
  | .identity rec => Sys2Proof.Machine.execIdentity rec s
  | .verdictBlock rec => Sys2Proof.Machine.execVerdictBlock rec s
  | .epochMark rec => Sys2Proof.Machine.execEpochMark rec s
  | .object rec => Sys2Proof.Machine.execObject rec s
  | .learnRecord rec => Sys2Proof.Machine.execLearnRecord rec s
  | .departureMark rec => Sys2Proof.Machine.execDepartureMark rec s
  | .fabricVerdict rec => Sys2Proof.Machine.execFabricVerdict rec s
  | .copyVerdict rec => Sys2Proof.Machine.execCopyVerdict rec s
  | .hostWork rec => Sys2Proof.Machine.execHostWork rec s
  | .queueEnd rec => Sys2Proof.Machine.execQueueEnd rec s
  | .digest rec => Sys2Proof.Machine.execDigest rec s
  | .start rec => Sys2Proof.Machine.execStart rec s
  | .handoff => Sys2Proof.Machine.execHandoff s
  | .copy rec => Sys2Proof.Machine.execCopy rec s
  | .status rec => Sys2Proof.Machine.execStatus rec s
  | .heartbeat lane cell => Sys2Proof.Machine.execHeartbeat lane cell s
  | .heartbeatSend => Sys2Proof.Machine.execHeartbeatSend s
  | .heartbeatSilence => Sys2Proof.Machine.execHeartbeatSilence s
  | .pairFaultInFall => Sys2Proof.Machine.execPairFaultInFall s
  | .faultRequest o v => Sys2Proof.Machine.execFaultRequest o v s
  | .switchover o v => Sys2Proof.Machine.execSwitchover o v s
  | .verdictFlush source => Sys2Proof.Machine.execVerdictFlush source s
  | .verdictWaitExpiry kind n k => Sys2Proof.Machine.execVerdictWaitExpiry kind n k s
  | .digestClose n => Sys2Proof.Machine.execDigestClose n s
  | .departureInterval => Sys2Proof.Machine.execDepartureInterval s
  | .fabricVerdictFlush unit cls => Sys2Proof.Machine.execFabricVerdictFlush unit cls s
  | .selftestInterval => Sys2Proof.Machine.execSelftestInterval s
  | .mateReplayTimeout k => Sys2Proof.Machine.execMateReplayTimeout k s
  | .mateLaneFail k => Sys2Proof.Machine.execMateLaneFail k s
  | .registerWrite w => Sys2Proof.Machine.execRegisterWrite w s
  | .alwaysOnRailLoss => Sys2Proof.Machine.execAlwaysOnRailLoss s
  | .mateLaneRetrain k => Sys2Proof.Machine.execMateLaneRetrain k s
  | .mateLinkUp k => Sys2Proof.Machine.execMateLinkUp k s
  | .mateRecordsCell k cell => Sys2Proof.Machine.execMateRecordsCell k cell s
  | .mateIdleCell k cell => Sys2Proof.Machine.execMateIdleCell k cell s
  | .fabLinkAligned l => Sys2Proof.Machine.execFabLinkAligned l s
  | .laneReacquired lane => Sys2Proof.Machine.execLaneReacquired lane s
  | .ppsOutFall => Sys2Proof.Machine.execPpsOutFall s
  | .mgmtLinkUp p => Sys2Proof.Machine.execMgmtLinkUp p s
  | .mgmtLinkDown p => Sys2Proof.Machine.execMgmtLinkDown p s
  | .pcieLinkTrained lanes rate => Sys2Proof.Machine.execPcieLinkTrained lanes rate s
  | .pObjectRecorded ix j => Sys2Proof.Machine.execPObjectRecorded ix j s
  | .groupDownTimeout g => Sys2Proof.Machine.execGroupDownTimeout g s
  | .ondieUncorrectableError crossbar detail => Sys2Proof.Machine.execOndieUncorrectableError crossbar detail s
  | .pairFaultInRise => Sys2Proof.Machine.execPairFaultInRise s
  | .checkerLocked k => Sys2Proof.Machine.execCheckerLocked k s
  | .checkerLockLost k bits errors injected seconds => Sys2Proof.Machine.execCheckerLockLost k bits errors injected seconds s
  | .cmisPassthroughDone n ack data => Sys2Proof.Machine.execCmisPassthroughDone n ack data s
  | .dgAlignmentMarker g => Sys2Proof.Machine.execDgAlignmentMarker g s

end Sys2Proof.Machine
end

