-- ==== Sys2Proof/Safety.lean ====
section
/-! DEFINITION. Sys2Proof/Safety.lean: what a safe run is, in the terms the statements use: the form of the sparse stores, what no
command ever undoes, the parts of the state that a command may touch, and when a command completes. -/

namespace Sys2Proof.Machine

/-- The stores of objects and of generations list their keys strictly rising, so that equal contents are equal data. -/
structure State.StoresRise (s : State) : Prop where
  objs : rising s.objs = true
  octs : rising s.octs = true
  gens : rising s.gens = true

/-- What every command keeps, whatever it does: it leaves the queue of commands alone, time does not fall, what left the package
stays a record, the stores keep their form, and what is fused (the anti-rollback floor and the revoked keys, R537) stays fused. -/
structure Onward (s t : State) : Prop where
  queue : t.pending = s.pending
  time : s.now ≤ t.now
  out : s.out <:+ t.out
  objs : rising s.objs = true → rising t.objs = true
  octs : rising s.octs = true → rising t.octs = true
  gens : rising s.gens = true → rising t.gens = true
  floor : s.fw.floor ≤ t.fw.floor
  revoked : ∀ k, s.fw.revoked.testBit k = true → t.fw.revoked.testBit k = true

/-- The parts of the state, for statements of what a command leaves alone: the groups of the state, the registers of each page of
256 indices (R115), and inside the groups what many commands add to: the WRAPPED bits (R501), the trace rings (R519), the fault log
in flash and the health log (R556); and what few commands change: MODE (R36) and the fence of the pair (R380). -/
inductive Part where
  | access | power | firmware | epochs | tables | slices | meters | traffic | fabric | pair | memory | ports | host | stewards
  | statistics | testing | draws | output | time | generations | wrapped | rings | faults | health | mode | fence
  | registers (page : Nat)
  deriving DecidableEq, Repr

/-- Firmware without the fault log. -/
def Firmware.body (x : Firmware) : Firmware := { x with faultLog := [], pendingFaults := [] }
/-- Statistics without the WRAPPED bits and the rings. -/
def Stats.body (x : Stats) : Stats := { x with wrapped := [], rings := [] }
/-- Tests without the health log. -/
def Testing.body (x : Testing) : Testing := { x with health := [], healthSeq := 0 }

/-- A part of the state is the same in two states. -/
def Part.same (s t : State) : Part → Prop
  | .access => t.acc = s.acc
  | .power => t.power = s.power
  | .firmware => t.fw.body = s.fw.body
  | .epochs => t.epochs = s.epochs
  | .tables => t.tables = s.tables
  | .slices => t.slices = s.slices
  | .meters => t.meters = s.meters
  | .traffic => t.tm = s.tm
  | .fabric => t.fab = s.fab
  | .pair => t.pair = s.pair
  | .memory => t.hbm = s.hbm
  | .ports => t.ports = s.ports
  | .host => t.host = s.host
  | .stewards => t.stewards = s.stewards
  | .statistics => t.stats.body = s.stats.body
  | .testing => t.test.body = s.test.body
  | .draws => t.draws = s.draws
  | .output => t.out = s.out
  | .time => t.now = s.now
  | .generations => t.gens = s.gens
  | .wrapped => t.stats.wrapped = s.stats.wrapped
  | .rings => t.stats.rings = s.stats.rings
  | .faults => t.fw.faultLog = s.fw.faultLog ∧ t.fw.pendingFaults = s.fw.pendingFaults
  | .health => t.test.health = s.test.health ∧ t.test.healthSeq = s.test.healthSeq
  | .mode => t.mode = s.mode
  | .fence => t.pair.fenced = s.pair.fenced
  | .registers p => ∀ k, k / 65536 % 256 = p → mget t.objs k = mget s.objs k ∧ mget t.octs k = mget s.octs k

/-- From one state to the other nothing changed outside these parts. -/
def OnlyIn (ps : List Part) (s t : State) : Prop := ∀ p, p ∉ ps → p.same s t

/-- A command answers a next state, and something holds of it. -/
def Completes (c : Instr) (s : State) (P : State → Prop) : Prop := ∃ t, exec c s = .next t ∧ P t

/-- A step that answers a next state is safe: the block has no fault, and no command is turned away for want of a meaning. -/
def Safe (s : State) : Prop := ∃ t, step s = .next t

/-- No request waits: no job may go on, no answer is held, no session has a request whose turn it is, and no reset is due. -/
structure State.Quiet (s : State) : Prop where
  jobs : ∀ e ∈ s.acc.jobs, e.2.ready = false
  waiting : s.acc.waiting = []
  request : s.nextRequest = none
  reset : s.acc.resetDue = 0

/-- A write that passes every check of a BATCH_WRITE (R132, R152). -/
structure State.MayAdd (s : State) (o : Origin) (id i j : Nat) (v : List Byte) : Prop where
  ident : id < 2 ^ 32
  target : s.checkTargetFor false (s.roleOf o) i j v.length = .ok
  mode : s.mode ≠ .catchup ∧ s.mode ≠ .shadow
  add : s.checkAdd (s.roleOf o) o id i j (canonical o.be (typeOf i j) v) = .ok

/-- A command adds one write to an open batch wherever the write may be added. -/
def Adds (c : Instr) (o : Origin) (id i j : Nat) (v : List Byte) : Prop :=
  ∀ s : State, s.Quiet → s.MayAdd o id i j v → Completes c s fun t =>
    (t.batch (id % 64)).ops = (s.batch (id % 64)).ops ++ [{ origin := o, index := i, sub := j, data := canonical o.be (typeOf i j) v }] ∧
      (t.batch (id % 64)).lastOp = s.now

/-- A CREATE passes its checks of role, mode and length (R128, R152). -/
structure State.MayCreate (s : State) (o : Origin) (i : Nat) (v : List Byte) : Prop where
  role : 2 ≤ s.roleOf o
  mode : s.modeForbids i 0 true = false ∧ s.mode ≠ .catchup ∧ s.mode ≠ .shadow
  row : (dictRow i 0).any (fun d => limitsOk d v) = true

/-- A CREATE makes what its rule makes and nothing else, and answers with the handle where no mate must stage it first (R128, R137). -/
def Creates (c : Instr) (o : Origin) (i : Nat) (s : State) (h : Nat) (u : State) : Prop :=
  Completes c s fun t => OnlyIn [.access, .pair, .output] u t ∧
    (u.mateInShadow = false → ∃ rest,
      t.acc.answers = { origin := o, ans := dataAns 0x10 i 0 12 (numBytes o.be h 4) } :: rest)

/-- A query fills the result object of its requester with the answer of its rule, wherever its own fields are in range (R239). -/
def Fills (c : Instr) (o : Origin) (i j rj : Nat) (v : List Byte) (f : List Byte → State → Status × List Byte × State) : Prop :=
  ∀ s : State, s.checkWrite o i j v = .ok → (f v s).1 = .ok → Completes c s fun t => t.resultOf o i rj = (f v s).2.1

/-- A good cell of a kind arrives in its turn on a fabric link, and is no NAK (R328, R342). -/
structure State.Arrives (s : State) (l kind : Nat) (cell : List Byte) : Prop where
  link : l < 160
  good : cellGood cell = true
  kind : cellKind cell = kind
  turn : fld (cellHead cell) 47 32 = (s.link l).rxExpect
  nak : bitAt (cellHead cell) 15 = false

/-- A control cell of one message arrives, as `Arrives` says (R335). -/
structure State.Hears (s : State) (l ty unit dest m : Nat) (cell : List Byte) : Prop where
  arrives : s.Arrives l 2 cell
  one : cellLen cell = 8
  type : firstMessage cell = ty
  source : fld (cellHead cell) 78 67 = unit
  dest : fld (cellHead cell) 91 80 = dest
  message : beAt cell 17 7 = m

/-- A management port receives a POA message: the port serves, the FCS is good, and the frame parses (R138, R139). -/
structure State.Receives (s : State) (p : Nat) (frame : List Byte) (m : PoaFrame) : Prop where
  port : p < 2
  serves : s.mgmtServes p = true
  fcs : fcsGood frame = true
  parse : s.parsePoa p frame = some m

/-- What a command leaves alone: it changes nothing outside these parts. -/
def StaysIn (c : Instr) (ps : List Part) : Prop := ∀ s t, exec c s = .next t → OnlyIn ps s t

/-- The registers of every page. -/
def anyRegister : List Part := (List.range 256).map Part.registers

/-- A write that its checks refuse changes nothing but what its requester sees: it is answered with the status (R117, R118, R152). -/
def Refuses (c : Instr) (o : Origin) (i j : Nat) (v : List Byte) : Prop :=
  ∀ s : State, s.checkWrite o i j v ≠ .ok → Completes c s fun t => OnlyIn [.access] s t ∧
    ∃ rest, t.acc.answers = { origin := o, ans := bareAns 0x02 (s.checkWrite o i j v) i j } :: rest

/-- Commands that may change MODE: those of R72 to R76, resets, trips and losses, what may make a standby stale or turn it, and those that serve
waiting requests. -/
def mayMove : Instr → Bool
  | .frameReceive _ _ _ | .laneTake _ _ | .passDispatch _ _ _ | .dgHoldClear _ | .breakwaterVerdict _ | .readbackDone _ _ _ _ _
  | .modeTransitionDone | .drainQueuesEmpty | .bootPath _ _ _ _ _ _ | .poresetNLow | .supplyLoss | .thermalTrip _ | .twclkLoss
  | .pllUnlock _ | .warmresetNLow | .resetRequestWarm _ | .resetRequestCold _ | .tidewatchWatchdogExpiry | .poaRequest _ _
  | .winGo _ | .write _ _ _ _ _ | .readSegment _ _ _ _ _ | .writeSegment _ _ _ _ _ _ | .destroy _ _ | .queueDestroyDone _
  | .batchOpen _ | .batchWrite _ _ _ _ _ _ | .batchCommit _ _ | .batchAbort _ _ | .epochDrainDone | .epochAdvance
  | .programInstall _ _ _ | .graphRestore _ _ _ | .tableInsert _ _ _ _ _ _ _ | .tableDelete _ _ _ _ _ _ | .ruleWrite _ _ _ _ _ _ _
  | .ruleDelete _ _ _ _ | .ruleSetAction _ _ _ _ _ | .hbmWakeDone _ _ _ | .hbmWakeFailed _ | .caParityAlert _ | .calProbeDone _ _ _
  | .scrub _ _ | .dgUncorrectableFlit _ _ _ | .thread0Failure _ | .statsFlush _ _ _ | .activateInstallDone _ | .revert _ _
  | .confirmDeadlineExpiry | .backgroundTestDone _ _ _ _ _ _ | .identity _ | .verdictBlock _ | .epochMark _ | .object _
  | .learnRecord _ | .departureMark _ | .fabricVerdict _ | .copyVerdict _ | .hostWork _ | .queueEnd _ | .digest _ | .start _
  | .handoff | .copy _ | .status _ | .heartbeatSend | .heartbeatSilence | .pairFaultInFall | .switchover _ _ | .verdictFlush _
  | .verdictWaitExpiry _ _ _ | .digestClose _ | .mateLaneFail _ | .registerWrite _ | .alwaysOnRailLoss | .mateRecordsCell _ _
  | .pObjectRecorded _ _ => true
  | _ => false

/-- Commands after which the fence of the pair may stand otherwise (R380): those of the faults and of the pair, resets, and those that serve
waiting requests. -/
def mayFence : Instr → Bool
  | .readbackDone _ _ _ _ _ | .modeTransitionDone | .drainQueuesEmpty | .bootPath _ _ _ _ _ _ | .poresetNLow | .supplyLoss
  | .thermalTrip _ | .twclkLoss | .pllUnlock _ | .resetRequestCold _ | .tidewatchWatchdogExpiry | .poaRequest _ _ | .winGo _
  | .write _ _ _ _ _ | .readSegment _ _ _ _ _ | .writeSegment _ _ _ _ _ _ | .destroy _ _ | .queueDestroyDone _ | .batchOpen _
  | .batchWrite _ _ _ _ _ _ | .batchCommit _ _ | .batchAbort _ _ | .epochDrainDone | .epochAdvance | .programInstall _ _ _
  | .graphRestore _ _ _ | .tableInsert _ _ _ _ _ _ _ | .tableDelete _ _ _ _ _ _ | .ruleWrite _ _ _ _ _ _ _ | .ruleDelete _ _ _ _
  | .ruleSetAction _ _ _ _ _ | .hbmWakeDone _ _ _ | .hbmWakeFailed _ | .caParityAlert _ | .calProbeDone _ _ _ | .scrub _ _
  | .dgUncorrectableFlit _ _ _ | .thread0Failure _ | .statsFlush _ _ _ | .revert _ _ | .confirmDeadlineExpiry | .epochMark _
  | .object _ | .start _ | .handoff | .copy _ | .status _ | .heartbeat _ _ | .heartbeatSend | .heartbeatSilence | .pairFaultInFall
  | .faultRequest _ _ | .switchover _ _ | .mateLaneFail _ | .registerWrite _ | .alwaysOnRailLoss | .mateRecordsCell _ _
  | .pObjectRecorded _ _ | .groupDownTimeout _ | .ondieUncorrectableError _ _ => true
  | _ => false

end Sys2Proof.Machine
end

