-- ==== Sys2Proof/Certificates/Slice0/Obligations.lean ====
section
/-! DEFINITION. Sys2Proof/Certificates/Slice0/Obligations.lean: the statements for the provers. -/

section

open Sys2Proof Sys2Proof.Machine

/-- A write of MODE_REQUEST for a transition of R73 that needs no more than the mode sets the target and reports it in progress, and MODE
stays. A transition under way to DRAIN, PROPORTIONAL or SPRING completes with the new mode in MODE and the old one in LAST_MODE. DRAIN
with every queue empty and BRINGUP pending moves on to it. DRAIN past its time with queues left reports DRAIN_TIMEOUT and stays.
WAKE_AFTER_S raises PWR_EN_MAIN with BRINGUP as its target. The boot path with good images ends in BRINGUP with its request DONE, the
fence off. (R36; R37; R72; R73; R74; R76; R102.) -/
def Obligations.ModeChangesComplete : Prop :=
  (∀ o v s m, s.checkWrite o 0x2000 2 v = .ok → modeOf (beNat (canonical o.be (typeOf 0x2000 2) v)) = some m →
    (s.mode, m) ∈ [(Mode.bringup, Mode.diagnostic), (.diagnostic, .bringup), (.proportional, .spring), (.spring, .proportional),
      (.catchup, .bringup)] → s.power.ms.status ≠ .inProgress → s.power.ms.status ≠ .drainTimeout →
    Completes (.modeRequest o v) s fun t => t.power.ms = { s.power.ms with target := some m, status := .inProgress }) ∧
  (∀ s m, s.StoresRise → s.power.ms.target = some m → s.mode ≠ .dormant → m ∈ [Mode.drain, .proportional, .spring] →
    Completes .modeTransitionDone s fun t => t.mode = m ∧ t.reg 0x2000 3 = s.mode.code) ∧
  (∀ s, s.mode = .drain → s.power.ms.pending = some .bringup → s.queuesLeft = 0 →
    Completes .drainQueuesEmpty s fun t => t.mode = .bringup) ∧
  (∀ s m, s.mode = .drain → s.power.ms.pending = some m → 0 < s.queuesLeft →
    Completes .drainTimeout s fun t =>
      t.power.ms = { s.power.ms with status := .drainTimeout } ∧ s.power.ms.drainSince + s.reg 0x2000 5 * 1000000 ≤ t.now) ∧
  (∀ s, s.mode = .dormant → s.reg 0x2000 7 ≠ 0 → s.power.start = .idle → s.power.tidewatchUp = true → s.mayWake = true →
    Completes .wakeAfterSExpiry s fun t => t.power.pins.pwrEnMain = true ∧ t.power.ms.target = some .bringup ∧
      s.power.ms.dormantSince + s.reg 0x2000 7 * 1000000000 ≤ t.now) ∧
  (∀ half0 half1 ids spares failed s, s.power.start = .bootPath →
    Completes (.bootPath true half0 half1 ids spares failed) s fun t =>
      t.mode = .bringup ∧ t.pair.fenced = false)

/-- PORESET_N low, a RESET_REQUEST of COLD that is accepted, an expiry of the Tidewatch watchdog and the loss of the always-on rail leave
the device in DORMANT with their cause in RESET_CAUSE. WARMRESET_N low, or a RESET_REQUEST of WARM, begins a warm restart outside
DORMANT, with its cause, and MODE stays. At its end WARMRESET_N is high and the restart is over. PCIE_PERST_N low takes the link down
and leaves no claim of the host on a lock; a high level releases it. TRST_N low puts IDCODE into the TAP. (R50; R89; R90; R91; R92; R93;
R95.) -/
def Obligations.ResetsComplete : Prop :=
  (∀ s, s.StoresRise → Completes .poresetNLow s fun t =>
    t.mode = .dormant ∧ t.reg 0x1000 8 = 1 ∧ t.power.pins.poresetN = false ∧ t.tm.queues = [] ∧ t.slices = []) ∧
  (∀ s, s.StoresRise → Completes .alwaysOnRailLoss s fun t => t.mode = .dormant ∧ t.reg 0x1000 8 = 1 ∧ t.fw.pendingFaults = []) ∧
  (∀ s, s.StoresRise → s.power.tidewatchUp = true → Completes .tidewatchWatchdogExpiry s fun t =>
    t.mode = .dormant ∧ t.reg 0x1000 8 = 3) ∧
  (∀ o s, s.StoresRise → s.checkWrite o 0x1010 1 [2] = .ok → s.mode ∈ [Mode.dormant, .bringup, .diagnostic] →
    Completes (.resetRequestCold o) s fun t => t.mode = .dormant ∧ t.reg 0x1000 8 = 2) ∧
  (∀ o s, s.StoresRise → s.checkWrite o 0x1010 1 [1] = .ok → s.mode ∉ [Mode.dormant, .catchup] → s.power.warmSince = none →
    Completes (.resetRequestWarm o) s fun t =>
      t.mode = s.mode ∧ t.reg 0x1000 8 = 5 ∧ t.power.warmSince.isSome = true ∧ s.now + 1000000 ≤ t.now) ∧
  (∀ s, s.StoresRise → s.power.pins.poresetN = true → s.power.start = .idle → s.mode ∉ [Mode.dormant, .catchup] →
    Completes .warmresetNLow s fun t => t.mode = s.mode ∧ t.reg 0x1000 8 = 4 ∧ t.power.warmSince = some s.now ∧
      t.power.pins.warmresetN = false) ∧
  (∀ s u, s.power.warmSince = some u → Completes .warmRestartDone s fun t =>
    t.power.warmSince = none ∧ t.power.pins.warmresetN = true ∧ t.mode = s.mode) ∧
  (∀ s, Completes .pciePerstNLow s fun t =>
    t.host.linkUp = false ∧ t.power.pins.pciePerstN = false ∧ ∀ l m, (l, m) ∈ t.host.locks → m ≠ 0xD0) ∧
  (∀ s, Completes .pciePerstNHigh s fun t => t = { s with power := { s.power with pins := { s.power.pins with pciePerstN := true } } }) ∧
  (∀ s, Completes .trstNLow s fun t => t.tapInForce = 1 ∧ t.power.pins.trstN = false)

/-- A power-on start raises PWR_EN_MAIN; a good main supply takes a wake on to the boot path, and one that stays away for 100 ms ends it
with TRIP_CAUSE 4. A lost supply, a thermal trip, TWCLK lost and a PLL out of lock take the device to DORMANT with their cause. TWCLK
restored locks TWPLL. A lost reference shows in REFCLK_PPB until it returns. (R51; R53; R54; R61; R68; R69; R99.) -/
def Obligations.SupplyAndClockCommandsComplete : Prop :=
  (∀ s, s.mode = .dormant → s.power.start = .idle → s.power.tidewatchUp = false → s.power.recovery = false →
    Completes .powerOnStart s fun t => t.power.pins.pwrEnMain = true ∧ t.power.start = .waitPower s.now true) ∧
  (∀ bad0 bad1 board s u, s.power.start = .waitPower u false → Completes (.pwrGoodMainRise bad0 bad1 board) s fun t =>
    t.power.start = .bootPath ∧ t.power.pins.pwrGoodMain = true) ∧
  (∀ s u b, s.StoresRise → s.power.start = .waitPower u b → s.power.pins.pwrGoodMain = false → Completes .supplyTimeout s fun t =>
    t.power.pins.pwrEnMain = false ∧ t.power.start = .idle ∧ t.reg 0x2302 6 = 4 ∧ u + 100000000 ≤ t.now) ∧
  (∀ s, s.StoresRise → s.power.pins.pwrEnMain = true → s.power.start = .idle → Completes .supplyLoss s fun t =>
    t.mode = .dormant ∧ t.reg 0x2302 6 = 3 ∧ t.power.pins.pwrGoodMain = false ∧ t.power.pins.pwrEnMain = false) ∧
  (∀ sensor s, s.StoresRise → 1 ≤ sensor → sensor ≤ 26 → s.power.pins.pwrEnMain = true →
    Completes (.thermalTrip sensor) s fun t =>
      t.mode = .dormant ∧ t.reg 0x2302 6 = (if sensor ≤ 22 then 1 else 2) ∧ t.power.ms.afterTrip = true) ∧
  (∀ s, s.StoresRise → s.power.pins.pwrEnMain = true → Completes .twclkLoss s fun t =>
    t.mode = .dormant ∧ t.reg 0x2203 1 = 1 ∧ t.reg 0x2200 1 = 0 ∧ t.reg 0x3181 0 = 0 ∧ t.power.twclkLost = true) ∧
  (∀ pll s, s.StoresRise → 1 ≤ pll → pll ≤ 5 → s.mode ≠ .dormant → s.power.pins.pwrEnMain = true →
    Completes (.pllUnlock pll) s fun t =>
      t.mode = .dormant ∧ t.reg 0x2203 1 = (if pll ≤ 2 then 2 else if pll ≤ 4 then 3 else 4)) ∧
  (∀ s, s.StoresRise → s.power.twclkLost = true → Completes .twclkRestored s fun t =>
    t.power.twclkLost = false ∧ t.reg 0x2200 1 = 1 ∧ t.reg 0x2200 2 = 1) ∧
  (∀ k s, s.StoresRise → k ≤ 0x13 → s.power.refclkLost.contains k = false → Completes (.refclkLoss k) s fun t =>
    t.reg 0x2201 k = 0x80000000 ∧ (k = 0x12 → t.host.linkUp = false)) ∧
  (∀ k ppb s, s.StoresRise → s.power.refclkLost.contains k = true → Completes (.refclkReturn k ppb) s fun t =>
    t.power.refclkLost.contains k = false ∧ t.reg 0x2201 k = ofSigned 32 ppb)

/-- A sample enters TEMP_MC of all 26 sensors. A voltage target between 650 and 800 mV that differs from the last write goes out in one step
of at most 10 mV. A write acknowledged enters the set point and the measured value. A write that fails is tried again, and a third
failure stops the rail and counts. (R55; R56; R60; R70.) -/
def Obligations.SensorAndVoltageCommandsComplete : Prop :=
  (∀ temps s, s.StoresRise → temps.length = 26 → s.power.tidewatchUp = true → Completes (.sensorSample temps) s fun t =>
    ∀ k, k < 26 → t.reg 0x2301 (k + 1) = ofSigned 32 (temps.getD k 0)) ∧
  (∀ rail target s, rail ≤ 1 → s.mode ≠ .dormant → 650 ≤ target → target ≤ 800 → target % 5 = 0 → target ≠ s.reg 0x2300 (rail + 1) →
    s.reg 0x2300 6 ≠ 1 → (s.rail rail).stopped = false → (s.rail rail).writing = none → (s.rail rail).settled = true →
    Completes (.avsEvaluate rail target) s fun t => ∃ mv, (t.rail rail).writing = some mv ∧ t.out = .avs rail mv :: s.out ∧
      mv = if target < s.reg 0x2300 (rail + 1) then max target (s.reg 0x2300 (rail + 1) - 10)
        else min target (s.reg 0x2300 (rail + 1) + 10)) ∧
  (∀ rail mv v s, s.StoresRise → rail ≤ 1 → (s.rail rail).writing = some mv → Completes (.avsWriteDone rail true v) s fun t =>
    (t.rail rail).writing = none ∧ t.reg 0x2300 (rail + 1) = mv ∧ t.reg 0x2300 (rail + 3) = v % 65536) ∧
  (∀ rail mv v s, rail ≤ 1 → (s.rail rail).writing = some mv → (s.rail rail).retries < 2 →
    Completes (.avsWriteDone rail false v) s fun t =>
      (t.rail rail).writing = some mv ∧ (t.rail rail).retries = (s.rail rail).retries + 1 ∧ t.out = .avs rail mv :: s.out) ∧
  (∀ rail mv v s, s.StoresRise → rail ≤ 1 → (s.rail rail).writing = some mv → (s.rail rail).retries = 2 →
    Completes (.avsWriteDone rail false v) s fun t =>
      (t.rail rail).stopped = true ∧ t.reg 0x2300 5 = (s.reg 0x2300 5 + 1) % 2 ^ 32)

/-- A frame that no counter of the MAC turns away enters the pool of its port's slice where it fits. A waiting slice takes a switching slot,
is awake 1,950 ns after it, and falls asleep when idle for SLICE_IDLE_NS. A lane takes its next packet and its pass ends the lane's
list. A finished ingress pass that DG cannot carry is held, and the hold ends when the group has room. (R21; R22; R79; R81; R82; R83;
R84; R155; R157; R421.) -/
def Obligations.IngressCommandsComplete : Prop :=
  (∀ p frame bad s, p < 128 → s.reg 0x3001 p < 16 → 4 ≤ s.reg 0x3003 p → s.macDrop p frame bad = none →
    poolBytes (s.sliceAt (s.reg 0x3001 p)).pool + frame.length ≤ 524288 →
    Completes (.frameReceive p frame bad) s fun t => ∃ f : PoolFrame, f.frame = frame ∧ f.port = p ∧
      (t.sliceAt (s.reg 0x3001 p)).pool = (s.sliceAt (s.reg 0x3001 p)).pool ++ [f]) ∧
  (∀ u n s, earliest s.wakeWaiting = some (u, n) → Completes .switchingSlotGrant s fun t => (t.sliceAt n).wakeGrant = some t.now) ∧
  (∀ n u g s, (s.sliceAt n).wakeReq = some u → (s.sliceAt n).wakeGrant = some g → Completes (.sliceWakeDone n) s fun t =>
    (t.sliceAt n).feAsleep = false ∧ (t.sliceAt n).tmAsleep = false ∧ (t.sliceAt n).wakeReq = none ∧ g + 1950 ≤ t.now) ∧
  (∀ n s, n < 16 → s.sleepMode = true → s.reg 0x2010 1 ≠ 0 → (s.sliceAt n).feAsleep = false → s.feIdle n = true →
    bitAt (s.reg 0x2010 4) n = false → s.asleepSlices < s.reg 0x2010 3 → Completes (.sliceIdleExpiry n) s fun t =>
      (t.sliceAt n).feAsleep = true ∧ (s.sliceAt n).idleSince + s.reg 0x2010 2 ≤ t.now) ∧
  (∀ n p rest s, n < 16 → (s.sliceAt n).feAsleep = false → (s.sliceAt n).egressQ = p :: rest →
    Completes (.laneTake n true) s fun t => (t.sliceAt n).egressQ = rest ∧
      ∃ pass, (t.sliceAt n).egress = (s.sliceAt n).egress ++ [pass]) ∧
  (∀ n i u s, n < 16 → (s.sliceAt n).feAsleep = false → (s.sliceAt n).hold = false → s.takeIngress n = some (i, u) →
    Completes (.laneTake n false) s fun t => ∃ pass, (t.sliceAt n).ingress = (u.sliceAt n).ingress ++ [pass]) ∧
  (∀ n x rest s, (s.sliceAt n).ingress = x :: rest → x.crosses = true → Completes (.passDispatch n false true) s fun t =>
    (t.sliceAt n).hold = true ∧ (t.sliceAt n).held = (s.sliceAt n).held ++ [x] ∧ (t.sliceAt n).ingress = rest ∧ x.start + 512 ≤ t.now) ∧
  (∀ n s, (s.sliceAt n).hold = true → s.reg 0x3700 n ≠ 3 → Completes (.dgHoldClear n) s fun t =>
    (t.sliceAt n).hold = false ∧ (t.sliceAt n).held = [])

/-- Breakwater judges the packet that its round robin gives, in full. The replication engine makes the first copy of the packet that it has
begun, and keeps the other members. A segment starts, its write completes and is counted, and its read-back without an error is counted.
The scheduler takes what its node gives to the egress queue of the slice, and moves its round on. A VOQ releases its oldest packet.
(R271; R274; R281; R282; R294; R295; R306; R339.) -/
def Obligations.TrafficCommandsComplete : Prop :=
  (∀ n w s, n < 16 → s.mode = .proportional → s.pair.turned = false → s.nextWaiting n = some w → w.fromFabric = true →
    Completes (.breakwaterVerdict n) s fun t =>
      t = ((s.setTmSlice n { s.tmSlice n with nextSrc := (w.src + 1) % 33 }).judge n w .full false).2) ∧
  (∀ n x rest h h' more s, n < 16 → (s.tmSlice n).replFe = x :: rest → x.members = some (h :: h' :: more) →
    Completes (.replicateCopy n) s fun t =>
      (t.tmSlice n).replFe = { x with members := some (h' :: more) } :: rest ∧ (mget t.tm.stored x.id).isSome = true) ∧
  (∀ i q s, s.spillOn = true → s.stacksActive = true → s.usedSegments < s.reg 0x7000 7 * 32768 → s.spillChoice = some (i, q) →
    Completes .spillSegmentStart s fun t => t.tm.nextSeg = s.tm.nextSeg + 1 ∧ t.tm.spilling = true) ∧
  (∀ seg i q s, s.StoresRise → s.queueOfSegment (.writing seg) = some (i, q) → Completes (.spillWriteDone seg) s fun t =>
    t.reg 0x7050 1 = (s.reg 0x7050 1 + 1) % counterSpan 0x7050 1) ∧
  (∀ seg i q s, s.StoresRise → s.queueOfSegment (.reading seg) = some (i, q) → Completes (.readbackDone seg [] [] [] false) s fun t =>
    t.reg 0x7050 2 = (s.reg 0x7050 2 + 1) % counterSpan 0x7050 2 ∧ t.mode = s.mode) ∧
  (∀ n p q len u h delay depth v s, n < 16 → (s.sliceAt n).feAsleep = false → (s.sliceAt n).tmAsleep = false →
    ((((List.range 128).map fun k => ((s.tmSlice n).nextPort + k) % 128).filter fun p => decide (s.reg 0x3001 p = n)).findSome?
      fun p => (s.rootGives p).map fun r => (p, r)) = some (p, q, len, u) →
    u.release q = some (h, delay, depth, v) → Completes (.schedDecision n) s fun t =>
      (t.tmSlice n).nextPort = (p + 1) % 128 ∧ ∃ x, (t.sliceAt n).egressQ = (s.sliceAt n).egressQ ++ [x] ∧ x.frame = h.frame) ∧
  (∀ n i l q h delay depth u s, n < 16 → s.mayCarry = true → s.pair.switching = false → s.voqNext n = some (i, l) →
    mget s.tm.queues i = some q → s.release i = some (h, delay, depth, u) → Completes (.voqRelease n) s fun t => t.tm = u.tm)

/-- A frame that a MAC has started leaves the package. A bound port with one frame and no list in force starts it. The gates follow the
entry in force, and a pending list becomes operational at its change time. A fault that has lasted LINK_DOWN_HOLD_US takes the port down
with its cause, and one that begins starts that time. A flush ends when nothing of the port remains. A port whose lanes have been clean
for the up hold is UP, or FLUSHING while its flush goes on. (R291; R292; R319; R320; R422; R424; R425.) -/
def Obligations.TransmitAndLinkCommandsComplete : Prop :=
  (∀ p x s, p < 128 → (s.mac p).sending = some x → Completes (.frameTransmitDone p) s fun t =>
    t.out = .net p (sentFrame x.frame) :: s.out) ∧
  (∀ p k g x s, p < 128 → s.listOf p = some k → s.dropAllOversize k = s → g < 8 → (s.mac p).holding = [(g, x)] →
    (s.gateList k).oper = none → (s.gateList k).pending = none → (s.mac p).sending = none → Completes (.txFrameStart p) s fun t =>
      (t.mac p).sending = some x ∧ (t.mac p).holding = []) ∧
  (∀ k b u s, (s.gateList k).oper = some (b, u) → Completes (.gateEvent k) s fun t => (t.gateList k).gates = gatesAt b u s.ptp) ∧
  (∀ k b u s, (s.gateList k).pending = some (b, u) → (s.mac (s.reg 0x7E01 k)).holding = [] →
    Completes (.configChangeTime k) s fun t => (t.gateList k).pending = none ∧ (t.gateList k).oper = some (b, u)) ∧
  (∀ p c u s, s.StoresRise → (s.port p).cause = some (c, u) → s.reg 0x3003 p ∈ [4, 5] →
    Completes (.linkDownHoldExpiry p) s fun t => t.reg 0x3003 p = 3 ∧ t.reg 0x300B p = c ∧ u + s.reg 0x3005 p * 1000 ≤ t.now) ∧
  (∀ p c lane s, p < 128 → 3 ≤ c → c ≤ 7 → s.reg 0x3003 p ∈ [4, 5] → s.reg 0x3005 p ≠ 0 → (s.port p).cause = none →
    Completes (.linkFaultOnset p c lane) s fun t => (t.port p).cause = some (c, s.now)) ∧
  (∀ p s, s.StoresRise → p < 128 → s.reg 0x7043 p = 1 → s.egressClear p = true → Completes (.flushDone p) s fun t =>
    t.reg 0x7043 p = 0 ∧ (s.reg 0x3003 p = 4 → t.reg 0x3003 p = 5)) ∧
  (∀ p u s, s.StoresRise → p < 128 → (s.port p).cleanSince = some u → s.reg 0x3003 p = 3 → s.lanesLocked p = true → s.reg 0x3000 p ≠ 0 →
    (s.reg 0x3001 p < 16 → s.reg 0x3700 (s.reg 0x3001 p) ≠ 3) → Completes (.linkUp p) s fun t =>
      t.reg 0x3003 p = (if s.reg 0x7043 p = 1 then 4 else 5) ∧ u + Nat.max 100000 (s.reg 0x3006 p * 1000000) ≤ t.now)

/-- An insertion into a watched cage counts, sets MODULE_STATE 2 and begins the reset hold; its end begins the polling. A module that shows
a fault ends in state 7; one that shows low power or ready has its pages judged. A read that fails ends in state 4, a removal in state
1. A module in a failed state that asserts MOD_INT_N, and a REREAD of 1, begin the reading again. A raw access waits for its end, which
gives its status and the data of a read. (R108; R109; R111; R112; R419.) -/
def Obligations.ModuleCommandsComplete : Prop :=
  (∀ n s, s.StoresRise → s.fitted n = true → s.power.pins.modPrsN.getLsbD n = true → Completes (.moduleInsertion n) s fun t =>
    t.reg (0x1100 + n) 1 = 2 ∧ (t.cage n).step = .resetHold s.now ∧ t.power.pins.modPrsN.getLsbD n = false ∧
      t.reg (0x1100 + n) 0x0D = (s.reg (0x1100 + n) 0x0D + 1) % counterSpan (0x1100 + n) 0x0D) ∧
  (∀ n u s, s.fitted n = true → (s.cage n).step = .resetHold u → Completes (.moduleResetRelease n) s fun t =>
    (t.cage n).step = .poll t.now ∧ u + 25000000 ≤ t.now ∧ t.power.pins.modResetN.getLsbD n = true) ∧
  (∀ n u image s, s.StoresRise → s.fitted n = true → (s.cage n).step = .poll u → (s.cage n).passBusy = false → image.length = 384 →
    fld (byteAt image 3) 3 1 = 5 → Completes (.moduleStatePoll n true image) s fun t => t.reg (0x1100 + n) 1 = 7) ∧
  (∀ n u image s, s.fitted n = true → (s.cage n).step = .poll u → (s.cage n).passBusy = false → image.length = 384 →
    bitAt (byteAt image 2) 7 = false → fld (byteAt image 3) 3 1 ∈ [1, 3] →
    Completes (.moduleStatePoll n true image) s fun t => t = s.judgeModule n image) ∧
  (∀ n u s, s.StoresRise → s.fitted n = true → (s.cage n).step = .poll u → Completes (.moduleReadTimeout n) s fun t =>
    t.reg (0x1100 + n) 1 = 4 ∧ (t.cage n).step = .none) ∧
  (∀ n s, s.StoresRise → s.fitted n = true → s.power.pins.modPrsN.getLsbD n = false → Completes (.moduleRemoval n) s fun t =>
    t.reg (0x1100 + n) 1 = 1 ∧ (t.cage n).step = .none ∧ (t.cage n).passBusy = false) ∧
  (∀ n s, s.StoresRise → s.fitted n = true → 4 ≤ s.moduleState n → Completes (.modIntNAssert n) s fun t =>
    t.reg (0x1100 + n) 1 = 2 ∧ (t.cage n).step = .poll s.now) ∧
  (∀ o n s, s.StoresRise → s.checkWrite o (0x1100 + n) 0x11 [1] = .ok → s.fitted n = true → 2 ≤ s.moduleState n →
    Completes (.reread o n [1]) s fun t => t.reg (0x1100 + n) 1 = 2 ∧ (t.cage n).step = .poll s.now) ∧
  (∀ o n v s, s.checkTargetFor true (s.roleOf o) (0x1100 + n) 0x10 v.length = .ok → v.length = 5 → byteAt v 0 = 0 →
    1 ≤ byteAt v 4 → byteAt v 4 ≤ 128 → byteAt v 3 + byteAt v 4 ≤ 256 → (s.cage n).passBusy = false →
    Completes (.cmisPassthrough o n v) s fun t =>
      (t.cage n).passBusy = true ∧ (t.cage n).passStatus = 1 ∧ (t.cage n).passLen = byteAt v 4) ∧
  (∀ n data s, (s.cage n).passBusy = true → (s.cage n).passLen ≠ 0 → Completes (.cmisPassthroughDone n true data) s fun t =>
    (t.cage n).passBusy = false ∧ (t.cage n).passStatus = 0 ∧ (t.cage n).passData = slice data 0 (s.cage n).passLen)

/-- An OPEN that verifies, with an ACCEPT of OK and a nonce not seen in the last 10 s, opens a session. A valid CLOSE ends its session with
its copies and partial values. A valid request ahead of the last by at most 16 is held and what may be served is served. A held request
with a gap below it for 50 ms is dropped. A session idle for its time ends. GO with a good header and body makes the window busy and
serves its operations. (R142; R143; R144; R146; R149.) -/
def Obligations.ManagementFramesComplete : Prop :=
  (∀ p frame m slot key s, s.Receives p frame m → m.msgType = 3 → m.body ≠ [] → byteAt m.body 0 = slot → s.slotKey slot = some key →
    m.verifies key = true → s.reg 0x1042 slot ≠ 0 → s.acceptStatus m = .ok →
    (∀ a ∈ s.acc.accepts, a.slot = slot → a.nonce = slice m.body 4 16 → a.since + 10000000000 ≤ s.now) →
    Completes (.poaOpen p frame) s fun t => ∃ id x, t.session id = some x ∧ x.id = id ∧ x.slot = slot ∧ x.port = p ∧
      x.schema = m.schema ∧ x.high = 0 ∧ x.lastValid = s.now ∧ ∃ a rest, t.acc.accepts = a :: rest ∧ a.session = id) ∧
  (∀ p frame m x s, s.Receives p frame m → m.msgType = 5 → s.validSession m = some x →
    Completes (.poaClose p frame) s fun t => t = s.endSession x.id) ∧
  (∀ p frame m x s, s.Receives p frame m → m.msgType = 1 → s.validSession m = some x → x.high < m.seq → m.seq ≤ x.high + 16 →
    (∀ h ∈ x.held, h.seq ≠ m.seq) → Completes (.poaRequest p frame) s fun t =>
      t = ((s.setSession x).setSession { x with held := x.held ++
        [{ seq := m.seq, since := s.now, port := p, mac := m.mac, tag := m.tag, frame := m.header ++ m.body }] }).settle) ∧
  (∀ k seq x h s, s.session k = some x → x.id = k → (x.held.find? fun h => decide (h.seq = seq)) = some h → x.high + 1 < seq →
    seq < 2 ^ 32 → (∀ y ∈ x.held, y.seq ≠ x.high + 1) → Completes (.seqGapTimeout k seq) s fun t =>
      t.session k = some { x with held := x.held.erase h } ∧ h.since + 50000000 ≤ t.now) ∧
  (∀ k x s, s.session k = some x → Completes (.sessionIdleExpiry k) s fun t =>
    t.acc.sessions = mdel s.acc.sessions k ∧ x.lastValid + s.reg 0x1040 4 * 1000000000 ≤ t.now) ∧
  (∀ w ops s, w < 8 → s.mode ≠ .dormant → (s.window w).busy = false → ((s.window w).answered.all fun a => decide (a.1 ≠ (s.window w).seq)) = true →
    (s.window w).schema = s.reg 0x1040 3 → s.reg 0x1040 3 < 65536 → (s.window w).reqLength ≤ 4096 →
    requestOps false (slice (s.window w).req 0 (s.window w).reqLength) = some ops → Completes (.winGo w) s fun t =>
      t = ((s.setWindow w { s.window w with busy := true }).newJob (.window w) (.window w (s.window w).seq) false 4096 ops).settle)

/-- READ answers with the value, and of MODE with its code. WRITE stores a value, and one of an epoch-versioned object waits for its commit.
READ_SEGMENT at offset 0 takes a copy, a first WRITE_SEGMENT without LAST keeps a partial value, and both end after 10 s. DESCRIBE and
NEXT answer with the object's row and with the next object. DESTROY of a meter takes it away, and a queue in destruction goes when it is
done. A P object's record is stored in flash. (R118; R120; R124; R127; R129; R130; R141; R289.) -/
def Obligations.ObjectOperationsComplete : Prop :=
  (∀ o i j d s, s.checkRead o false i j = .ok → dictRow i j = some d → s.restarting i = false → Completes (.read o i j 0) s fun t =>
    t = ((s.valueOf o i j d).2).answer o (dataAns 0x01 i j d.ty.code (wireValue o.be d.ty (s.valueOf o i j d).1))) ∧
  (∀ o s, s.checkRead o false 0x2000 1 = .ok → s.restarting 0x2000 = false → Completes (.read o 0x2000 1 0) s fun t =>
    t = s.answer o (dataAns 0x01 0x2000 1 (typeOf 0x2000 1).code [BitVec.ofNat 8 s.mode.code])) ∧
  (∀ o i p v s, s.StoresRise → s.Quiet → i ∈ [0x3005, 0x3006] → s.checkWrite o i p v = .ok →
    Completes (.write o i p (typeOf i p).code v) s fun t => t.reg i p = beNat (canonical o.be (typeOf i p) v)) ∧
  (∀ o i j v s, s.Quiet → versioned i j = true → s.checkTargetFor false (s.roleOf o) i j v.length = .ok →
    s.opStatus (s.roleOf o) i j (canonical o.be (typeOf i j) v) = .ok → Completes (.write o i j (typeOf i j).code v) s fun t =>
      t.epochs.queue = s.epochs.queue ++ [.one { origin := o, index := i, sub := j, data := canonical o.be (typeOf i j) v } s.acc.nextJob]) ∧
  (∀ o i j count s, s.Quiet → s.checkRead o true i j = .ok → s.restarting i = false → 1 ≤ count → count ≤ 1024 →
    Completes (.readSegment o i j 0 count) s fun t =>
      ∃ rest, t.acc.copies = { origin := o, index := i, sub := j, bytes := s.blobValue i j, last := s.now } :: rest) ∧
  (∀ o i j bytes s, s.Quiet → s.checkTargetFor true (s.roleOf o) i j (bytes.length + 4) = .ok → i ≠ 0x4200 → i ≠ 0xE010 →
    s.restarting i = false → bytes.length ≤ 1024 → (∀ d n, dictRow i j = some d → d.limits = .maxLen n → bytes.length ≤ n) →
    Completes (.writeSegment o i j 0 0 bytes) s fun t =>
      ∃ rest, t.acc.partials = { origin := o, index := i, sub := j, bytes := bytes, last := s.now } :: rest) ∧
  (∀ o i j h s, s.acc.partials.find? (·.isOf o i j) = some h → Completes (.blobSegmentTimeout o i j) s fun t =>
    t.acc.partials.find? (·.isOf o i j) = none ∧ h.last + 10000000000 ≤ t.now) ∧
  (∀ o i j h s, s.acc.copies.find? (·.isOf o i j) = some h → Completes (.blobCopyExpiry o i j) s fun t =>
    t.acc.copies.find? (·.isOf o i j) = none ∧ h.last + 10000000000 ≤ t.now) ∧
  (∀ i j d s, s.Quiet → dictRow i j = some d → d.p = true → d.access ≠ .ro → Completes (.pObjectRecorded i j) s fun t => t = s.recordP i j) ∧
  (∀ o i j d s, s.checkDescribe o i j = .ok → dictRow i j = some d → s.restarting i = false → Completes (.describe o i j) s fun t =>
    t = s.answer o (dataAns 0x05 i j 10 (describeData o.be d i j))) ∧
  (∀ o i j i' j' s, s.roleOf o ≠ 0 → State.nextObject 65537 s i (j + 1) = some (i', j') → Completes (.next o i j) s fun t =>
    t = s.answer o (bareAns 0x06 .ok i' j')) ∧
  (∀ o h s, s.Quiet → h < 2 ^ 32 → s.checkPlain o (plainReq 0x11 0 0 12 (numBytes o.be h 4)) 12 4 (s.checkAnyHandle h) = .ok →
    handleKind h = 3 → s.destroyBusy h = false → Completes (.destroy o h) s fun t =>
      t.meters = mdel s.meters (handleIndex h) ∧ t.gens = (s.nextGen 3 (handleIndex h)).gens) ∧
  (∀ i q s, s.Quiet → mget s.tm.queues i = some q → q.admin = .destroying → Completes (.queueDestroyDone i) s fun t =>
    t = s.removeQueue i)

/-- BATCH_OPEN opens the lowest free slot, empty. BATCH_WRITE and the commands that are a write into a batch append it where its checks
pass. BATCH_COMMIT queues the batch. BATCH_ABORT and the idle expiry close it. When OLDER has drained, a first commit without failure
and without a layout commit is staged. The advance of the lanes makes what is staged CURRENT + 1. (R132; R135; R136; R177; R188; R204;
R226; R265.) -/
def Obligations.BatchOperationsComplete : Prop :=
  (∀ o k s, s.Quiet → s.checkPlain o (plainReq 0x20 0 0 0 []) 0 0 .ok = .ok → k < 64 → (s.batch k).isOpen = false →
    (∀ n, n < k → (s.batch n).isOpen = true) → Completes (.batchOpen o) s fun t =>
      (t.batch k).isOpen = true ∧ (t.batch k).ops = [] ∧ (t.batch k).lastOp = s.now ∧ (t.batch k).gen = (s.batch k).gen) ∧
  (∀ o id i j v, Adds (.batchWrite o id i j (typeOf i j).code v) o id i j v) ∧
  (∀ o id slot, Adds (.programInstall o id slot) o id 0x4202 1 (natBe slot 1)) ∧
  (∀ o id v, Adds (.graphRestore o id v) o id 0x4400 2 (natBe v 1)) ∧
  (∀ o id flags len region key data, Adds (.tableInsert o id flags len region key data) o id 0x5C10 0 (tableCommand 1 flags len region key data)) ∧
  (∀ o id flags len region key, Adds (.tableDelete o id flags len region key) o id 0x5C10 0 (tableCommand 2 flags len region key [])) ∧
  (∀ o id set pos action value mask, Adds (.ruleWrite o id set pos action value mask) o id 0x6010 0 (ruleCommand 1 set pos (action ++ value ++ mask))) ∧
  (∀ o id set pos, Adds (.ruleDelete o id set pos) o id 0x6010 0 (ruleCommand 2 set pos [])) ∧
  (∀ o id set pos action, Adds (.ruleSetAction o id set pos action) o id 0x6010 0 (ruleCommand 3 set pos action)) ∧
  (∀ o id s, s.Quiet → id < 2 ^ 32 → s.checkPlain o (plainReq 0x22 0 0 4 (numBytes o.be id 4)) 4 4 (s.checkBatch id) = .ok →
    (s.batch (id % 64)).committing = false → Completes (.batchCommit o id) s fun t =>
      (t.batch (id % 64)).committing = true ∧ t.epochs.queue = s.epochs.queue ++ [.batch (id % 64) s.acc.nextJob]) ∧
  (∀ o id s, s.Quiet → id < 2 ^ 32 → s.checkPlain o (plainReq 0x23 0 0 4 (numBytes o.be id 4)) 4 4 (s.checkBatch id) = .ok →
    (s.batch (id % 64)).committing = false → Completes (.batchAbort o id) s fun t =>
      (t.batch (id % 64)).isOpen = false ∧ (t.batch (id % 64)).ops = []) ∧
  (∀ k s, k < 64 → (s.batch k).isOpen = true → (s.batch k).committing = false → Completes (.batchIdleExpiry k) s fun t =>
    (t.batch k).isOpen = false ∧ (t.batch k).ops = [] ∧ (s.batch k).lastOp + s.reg 0x5C00 3 * 1000000000 ≤ t.now) ∧
  (∀ c rest s, s.Quiet → s.mayStage = true → s.epochs.queue = c :: rest → (s.noteDrain.settleTables.draftOf c).layout = none →
    lowestFailure (s.noteDrain.settleTables.draftOf c).failures = none → Completes .epochDrainDone s fun t =>
      (∃ g, t.epochs.staged = some g ∧ g.layout = false) ∧ t.epochs.queue = c :: rest ∧ t.epochs.current = s.epochs.current) ∧
  (∀ ops rest g s, s.Quiet → s.epochs.queue = .internal ops :: rest → s.epochs.staged = some g → g.program = false → g.later = [] →
    g.layout = false → g.ticket = none → Completes .epochAdvance s fun t =>
      t.epochs.current = (s.epochs.current + 1) % 65536 ∧ t.epochs.cur = g.version ∧ t.epochs.old = s.epochs.cur ∧
        t.epochs.staged = none ∧ t.epochs.queue = rest)

/-- A CREATE of checked parameters with room for it places a region on the lowest run of buckets and a rule set on the lowest run of blocks
(log entry 40), and makes a full meter on its slice, a host channel or a counter set at the lowest free index. A queue and a node are
made as their rules make them. The answer holds the handle, and nothing else changes but what announces the creation. (R5; R128; R137;
R209; R211; R212; R248; R287; R300; R312; R447; R503.) -/
def Obligations.ChannelsAreCreated : Prop :=
  (∀ o v ri b s, s.MayCreate o 0x5001 v → emParamsOk v = true → lowestFree s.tables.regions 64 = some ri →
    lowestRun (s.tables.bucketRuns true) (Region.buckets { em := true, params := v, base := 0 }) 1048576 = some b →
    Creates (.emRegionCreate o v) o 0x5001 s (s.handle 7 ri) (s.addRegion ri { em := true, params := v, base := b })) ∧
  (∀ o v ri b s, s.MayCreate o 0x5401 v → lpmParamsOk v = true → lowestFree s.tables.regions 64 = some ri →
    lowestRun (s.tables.bucketRuns false) (Region.buckets { em := false, params := v, base := 0 }) 1572864 = some b →
    Region.filterEntries { em := false, params := v, base := 0 } ≤ s.tables.filterFree →
    Creates (.lpmRegionCreate o v) o 0x5401 s (s.handle 7 ri) (s.addRegion ri { em := false, params := v, base := b })) ∧
  (∀ o v k b s, s.MayCreate o 0x6001 v → ruleSetParamsOk v = true → lowestFree s.tables.ruleSets 256 = some k →
    lowestRun s.blockRuns (RuleSet.blocks { params := v, baseBlock := 0 }) 256 = some b →
    Creates (.ruleSetCreate o v) o 0x6001 s (s.handle 6 k)
      { s with tables := { s.tables with ruleSets := mput s.tables.ruleSets k { params := v, baseBlock := b } } }) ∧
  (∀ o v h u s, s.MayCreate o 0x7401 v → createQueue v s = .ok (h, u) → Creates (.queueCreate o v) o 0x7401 s h u) ∧
  (∀ o v h u s, s.MayCreate o 0x7801 v → createNode v s = .ok (h, u) → Creates (.nodeCreate o v) o 0x7801 s h u) ∧
  (∀ o v n k s, s.MayCreate o 0x7C01 v → meterParamsOk v = true → byteAt v 2 = n → n ≠ 0xFF →
    freeIndex (s.meters.filter fun (i, _) => decide (i / 65536 = n)) (65536 * n) 65536 = some k →
    Creates (.meterCreate o v) o 0x7C01 s (s.handle 3 k)
      { s with meters := mput s.meters k (Meter.full (patch v 2 (natBe n 1)) s.now) }) ∧
  (∀ o v h u s, s.MayCreate o 0xA001 v → createChannel v s = .ok (h, u) → Creates (.channelCreate o v) o 0xA001 s h u) ∧
  (∀ o v k s, s.MayCreate o 0xC101 v → v.length = 8 → beAt v 4 4 = 0 → lowestFree s.stats.sets 1048576 = some k →
    Creates (.counterSetCreate o v) o 0xC101 s (s.handle 4 k)
      { s with stats := { s.stats with sets := mput s.stats.sets k { tag := beAt v 0 4, packets := 0, bytes := 0 } } })

/-- SEARCH, ITER_OPEN, NEXT and ITER_CLOSE, READ_RULE and READ_BLOCK, the queries of queues, multicast groups, schedulers, meters, host
channels, snapshots, WRAPPED bits, counter sets, trace rings and histograms each fill the result object of their own requester with the
answer that their rule gives. (R239; R240; R269; R290; R297; R316; R324; R447; R501; R507; R510; R518.) -/
def Obligations.QueriesFillTheirResults : Prop :=
  (∀ o region len key, Fills (.search o region len key) o 0x5880 1 2 (queryBytes 0x10 0 len region 0 key) tableAnswer) ∧
  (∀ o region, Fills (.iterOpen o region) o 0x5880 1 2 (queryBytes 0x11 0 0 region 0 []) tableAnswer) ∧
  (∀ o region iter count, Fills (.iterNext o region iter count) o 0x5880 1 2 (queryBytes 0x12 count 0 region iter []) tableAnswer) ∧
  (∀ o region iter, Fills (.iterClose o region iter) o 0x5880 1 2 (queryBytes 0x13 0 0 region iter []) tableAnswer) ∧
  (∀ o set pos, Fills (.readRule o set pos) o 0x6020 1 2 ([0x20, 0, 0, 0] ++ natBe set 4 ++ natBe pos 4) ruleAnswer) ∧
  (∀ o set block, Fills (.readBlock o set block) o 0x6020 1 2 ([0x21, 0, 0, 0] ++ natBe set 4 ++ natBe block 4) ruleAnswer) ∧
  (∀ o v, Fills (.queueQuery o v) o 0x7402 2 3 v queueAnswer) ∧
  (∀ o v, Fills (.mcastQuery o v) o 0x7601 2 3 v mcastAnswer) ∧
  (∀ o v, Fills (.schedQuery o v) o 0x7802 2 3 v schedAnswer) ∧
  (∀ o v, Fills (.meterQuery o v) o 0x7C02 2 3 v meterAnswer) ∧
  (∀ o v, Fills (.channelQuery o v) o 0xA010 2 4 v channelAnswer) ∧
  (∀ o v, Fills (.snapshotQuery o v) o 0xC001 3 4 v snapshotAnswer) ∧
  (∀ o v, Fills (.wrapQuery o v) o 0xC003 1 2 v wrapAnswer) ∧
  (∀ o v, Fills (.counterSetQuery o v) o 0xC102 1 2 v counterSetAnswer) ∧
  (∀ o v, Fills (.histogramQuery o v) o 0xC840 1 2 v histogramAnswer) ∧
  (∀ o v, Fills (.traceRead o v) o 0xC810 1 2 v traceAnswer)

/-- The learn service puts the ageing removals that wait into an internal commit. An age sweep visits each entry and makes the dynamic ones
that are too old candidates. An iteration without a NEXT for 60 s closes. A flush request for a port makes it join the scan of its
region; the end of its scan takes it out. (R234; R237; R240; R243; R244.) -/
def Obligations.TableUpkeepCommandsComplete : Prop :=
  (∀ s, s.learnServed = true → s.tables.agedOut ≠ [] → Completes .learnServiceCommit s fun t =>
    t.tables.agedOut = [] ∧ ∃ ops, ops ≠ [] ∧ t.epochs.queue = s.epochs.queue ++ [.internal ops]) ∧
  (∀ ri r s, mget s.tables.regions ri = some r → r.ageMode ≠ 0 → s.learnServed = true → Completes (.ageSweep ri) s fun t =>
    t.tables.em = mmap s.tables.em (fun _ x => x.visit r ri) ∧
      ∀ e ∈ s.tables.visibleEntries ri s.epochs.current, e.2.static = false → s.tooOld r ri e.2 = true → (ri, e.2.key, 0) ∈ t.tables.agedOut) ∧
  (∀ k x s, mget s.tables.iters k = some x → x.isOpen = true → Completes (.iterTimeout k) s fun t =>
    mget t.tables.iters k = some { x with isOpen := false, pending := [], skip := [] } ∧ x.last + 60000000000 ≤ t.now) ∧
  (∀ o v ri r s, s.checkWrite o 0x5890 1 v = .ok → v.length = 8 → handleIndex (beAt v 0 4) = ri → s.checkHandle 7 (beAt v 0 4) = .ok →
    mget s.tables.regions ri = some r → r.portByte.isSome = true → bitAt (byteAt v 4) 7 = false → byteAt v 5 ≤ 1 → beAt v 6 2 = 0 →
    Completes (.flushRequest o v) s fun t => ∃ f j, mget t.tables.flush ri = some f ∧ j ∈ f.ports ∧ j.port = byteAt v 4) ∧
  (∀ ri port r f pb s, mget s.tables.regions ri = some r → mget s.tables.flush ri = some f →
    (f.ports.any fun j => decide (j.port = port)) = true → r.portByte = some pb → s.standby = false → s.mode ≠ .catchup →
    (f.ports.any fun j => decide (j.port ≠ port)) = true → Completes (.flushScanDone ri port) s fun t =>
      mget t.tables.flush ri = some { f with ports := f.ports.filter fun q => decide (q.port ≠ port) })

/-- ENABLE and DISABLE set the state of a queue, SET_LIMITS its limits, MCAST_SET the members of a group. SCHED_SET sets the attachment of
its target, METER_SET the parameters of its meter. WINDOW_ADMIN stores a good list, WINDOW_ENABLE of 0 takes a list out of force and of
1 makes its administrative list pending, WINDOW_PORT binds a disabled list. WATCH_QUEUE sets an entry and begins its interval; the
interval's end begins the next. (R288; R293; R302; R316; R317; R318; R319; R323.) -/
def Obligations.QueueAndWindowCommandsComplete : Prop :=
  (∀ o h q s, h < 2 ^ 32 → s.checkWrite o 0x7402 1 ([1, 0, 0, 0] ++ natBe h 4) = .ok → s.checkHandle 1 h = .ok →
    mget s.tm.queues (handleIndex h) = some q → q.admin ≠ .destroying → (q.voq = true ∨ s.portCond q.port ≠ 2) →
    Completes (.enable o h) s fun t => mget t.tm.queues (handleIndex h) = some { q with admin := .enabled }) ∧
  (∀ o h q s, h < 2 ^ 32 → s.checkWrite o 0x7402 1 ([2, 0, 0, 0] ++ natBe h 4) = .ok → s.checkHandle 1 h = .ok →
    mget s.tm.queues (handleIndex h) = some q → q.admin ≠ .destroying →
    Completes (.disable o h) s fun t => mget t.tm.queues (handleIndex h) = some { q with admin := .disabled }) ∧
  (∀ o h l q s, h < 2 ^ 32 → s.checkWrite o 0x7402 1 ([4, 0, 0, 0] ++ natBe h 4 ++ l) = .ok → s.checkHandle 1 h = .ok →
    mget s.tm.queues (handleIndex h) = some q → limitsGood l 3 = true → (byteAt l 0 = q.pool ∨ q.depth = 0) →
    s.committedRes - q.res + beAt l 2 4 ≤ s.reg 0x7000 8 → Completes (.setLimits o h l) s fun t => t.tm =
      (State.startReadback 4 ((s.setQueue (handleIndex h) { q with params := q.params.take 6 ++ l ++ q.params.drop 24 }).abandonSpills (handleIndex h))
        (handleIndex h)).tm) ∧
  (∀ o v n hs s, s.checkWrite o 0x7601 1 v = .ok → byteAt v 2 = n → n ≤ 64 → v.length = 4 + 4 * n → byteAt v 3 = 0 →
    handlesOf n (v.drop 4) = hs → (∀ h ∈ hs, s.checkHandle 1 h = .ok) → hs.Nodup →
    s.memberCount - (mgetD [] s.tm.groups (beAt v 0 2)).length + n ≤ 524288 → Completes (.mcastSet o v) s fun t =>
      t.tm.groups = mset [] s.tm.groups (beAt v 0 2) hs) ∧
  (∀ o v u s, s.checkWrite o 0x7802 1 v = .ok → schedSetEffect v s = (.ok, u) → Completes (.schedSet o v) s fun t =>
    t.tm = u.tm ∧ ∀ ch, s.targetOf (beAt v 0 4) = .ok ch → (s.attach ch).isSome = true →
      (t.attach ch).any (fun a => decide (a.priority = byteAt v 4 ∧ a.gate = byteAt v 5 ∧ a.quantum = beAt v 8 4 ∧ a.rate = beAt v 12 4 ∧
        a.burst = beAt v 16 4 ∧ a.last = s.now)) = true) ∧
  (∀ o v m s, s.checkWrite o 0x7C02 1 v = .ok → v.length = 36 → s.checkHandle 3 (beAt v 0 4) = .ok → meterParamsOk (v.drop 4) = true →
    byteAt (v.drop 4) 2 = 0 → mget s.meters (handleIndex (beAt v 0 4)) = some m → Completes (.meterSet o v) s fun t =>
      ∃ x, mget t.meters (handleIndex (beAt v 0 4)) = some x ∧ x.params = patch (v.drop 4) 2 (slice m.params 2 1)) ∧
  (∀ o k v s, s.StoresRise → s.checkTargetFor true (s.roleOf o) 0x7E02 k v.length = .ok → gateListGood v = true → s.reg 0x7E05 k = 0 →
    Completes (.windowAdmin o k v) s fun t => t.oct 0x7E02 k = v) ∧
  (∀ o k s, s.StoresRise → s.checkWrite o 0x7E05 k [0] = .ok → Completes (.windowEnable o k [0]) s fun t =>
    t.reg 0x7E05 k = 0 ∧ t.gateList k = .reset) ∧
  (∀ o k s, s.StoresRise → s.checkWrite o 0x7E05 k [1] = .ok → s.reg 0x7E05 k = 0 → gateListGood (s.oct 0x7E02 k) = true →
    Completes (.windowEnable o k [1]) s fun t => t.reg 0x7E05 k = 1 ∧
      (t.gateList k).pending = some (s.oct 0x7E02 k, changeTime (s.oct 0x7E02 k) s.ptp)) ∧
  (∀ o k p s, s.StoresRise → s.checkWrite o 0x7E01 k [p] = .ok → p.toNat < 128 → s.reg 0x7E05 k = 0 →
    (∀ j, j < 32 → j ≠ k → s.reg 0x7E01 j ≠ p.toNat) → Completes (.windowPort o k [p]) s fun t => t.reg 0x7E01 k = p.toNat) ∧
  (∀ o w v s, s.StoresRise → s.checkWrite o (0x7880 + w / 256) (w % 256) v = .ok → w < 4096 → Completes (.watchQueue o w v) s fun t =>
    t.reg (0x7880 + w / 256) (w % 256) = beNat (canonical o.be (typeOf (0x7880 + w / 256) (w % 256)) v) ∧ (mgetD .reset t.tm.watches w).since = s.now) ∧
  (∀ w s, w < 4096 → s.mode ≠ .dormant → Completes (.watchIntervalEnd w) s fun t =>
    (mgetD .reset t.tm.watches w).since = t.now ∧ (mgetD .reset t.tm.watches w).bins = (mgetD .reset s.tm.watches w).bins ∧
      (mgetD .reset s.tm.watches w).since + s.reg 0x78A0 1 * 1000 ≤ t.now)

/-- COUNTER_CLEAR takes one V object, every one of an index, or every one there is to zero; a counter set, the statistics of a queue or of a
host channel, a histogram, or all of them. A due flush of a counter set adds its delta to its entry. SNAPSHOT of 1 builds an image,
which then becomes the READY one. RING_RESET of 0 empties the rings. (R502; R506; R509; R519.) -/
def Obligations.CounterCommandsComplete : Prop :=
  (∀ o i j s, s.StoresRise → i < 65536 → j < 256 → s.checkWrite o 0xC000 3 (clearBytes 0 j i 0) = .ok → isV i j = true →
    Completes (.clearObject o i j) s fun t => t.reg i j = 0) ∧
  (∀ o i s, i < 65536 → s.checkWrite o 0xC000 3 (clearBytes 1 0 i 0) = .ok →
    (dictionary.any fun d => decide (d.idxLo ≤ i ∧ i ≤ d.idxHi) && d.v) = true →
    Completes (.clearIndex o i) s fun t => ∀ j, j < 256 → isV i j = true → t.reg i j = 0) ∧
  (∀ o s, s.checkWrite o 0xC000 3 (clearBytes 2 0 0 0) = .ok →
    Completes (.clearAllObjects o) s fun t => ∀ i j, j < 256 → isV i j = true → t.reg i j = 0) ∧
  (∀ o h e s, h < 2 ^ 32 → s.checkWrite o 0xC000 3 (clearBytes 3 0 0 h) = .ok → s.checkHandle 4 h = .ok →
    mget s.stats.sets (handleIndex h) = some e → Completes (.clearCounterSet o h) s fun t =>
      mget t.stats.sets (handleIndex h) = some { e with packets := 0, bytes := 0 } ∧
        t.stats.setDeltas = mdel s.stats.setDeltas (handleIndex h)) ∧
  (∀ o h s, h < 2 ^ 32 → s.checkWrite o 0xC000 3 (clearBytes 4 0 0 h) = .ok → s.checkHandle 1 h = .ok →
    Completes (.clearQueueStats o h) s fun t => t.stats.queues = mdel s.stats.queues (handleIndex h) ∧
      t.stats.queueDeltas = mdel s.stats.queueDeltas (handleIndex h)) ∧
  (∀ o h s, h < 2 ^ 32 → s.checkWrite o 0xC000 3 (clearBytes 5 0 0 h) = .ok → s.checkHandle 2 h = .ok →
    Completes (.clearChannelStats o h) s fun t => t.stats.channels = mdel s.stats.channels (handleIndex h) ∧
      t.stats.channelDeltas = mdel s.stats.channelDeltas (handleIndex h)) ∧
  (∀ o w x s, w ≤ 4095 → s.checkWrite o 0xC000 3 (clearBytes 6 0 w 0) = .ok → mget s.tm.watches w = some x →
    Completes (.clearHistogram o w) s fun t => mget t.tm.watches w = some { x with bins := [] }) ∧
  (∀ o s, s.checkWrite o 0xC000 3 (clearBytes 7 0 0 0) = .ok → Completes (.clearEverything o) s fun t =>
    (∀ i j, j < 256 → isV i j = true → t.reg i j = 0) ∧ t.stats.queues = [] ∧ t.stats.channels = []) ∧
  (∀ i e d s, s.StoresRise → s.stacksActive = true → mget s.stats.sets i = some e → mget s.stats.setDeltas i = some d →
    Completes (.statsFlush 4 i 0) s fun t => t.stats.setDeltas = mdel s.stats.setDeltas i ∧
      mget t.stats.sets i = some { e with packets := (addWrap e.packets d.packets).1, bytes := (addWrap e.bytes d.bytes).1 }) ∧
  (∀ o s, s.StoresRise → s.checkWrite o 0xC001 1 [1] = .ok → s.stats.snapshot ≠ 1 → Completes (.snapshot o [1]) s fun t =>
    t.stats.snapshot = 1 ∧ t.stats.building = some s.imageNow ∧ t.reg 0xC001 2 = s.ptp) ∧
  (∀ im s, s.stats.building = some im → Completes .snapshotReady s fun t =>
    t.stats.snapshot = 2 ∧ t.stats.ready = some im ∧ t.stats.building = none) ∧
  (∀ o s, s.checkWrite o 0xC810 3 [0] = .ok → Completes (.ringReset o [0]) s fun t => t.stats.rings = [])

/-- STAGE_OPEN with staging empty begins a delivery and its erase, whose end opens it to blocks. A block is kept and its piece checked; the
erase of a piece ends. With every piece complete the hash decides between STAGED and HASH_BAD. ACTIVATE of 1 marks the staged bundle for
the next start, of 2 begins an install, which ends in a warm restart or refused. A healthy trial is confirmed by CONFIRM and by its
delay, and fails by REVERT and by its deadline. (R527; R528; R529; R531; R532; R535; R537; R538.) -/
def Obligations.FirmwareCommandsComplete : Prop :=
  (∀ o v s, s.StoresRise → s.checkWrite o 0xE010 1 v = .ok → v.length = 56 → byteAt v 4 ≤ 1 → allZero (slice v 5 3) = true →
    1024 ≤ beAt v 0 4 → beAt v 0 4 ≤ 12582912 → s.stageState = 0 → Completes (.stageOpen o v) s fun t => t.reg 0xE010 4 = 1 ∧
      t.fw.delivery = some { total := beAt v 0 4, bundleId := slice v 8 48, blocks := [], complete := [], erasing := [] }) ∧
  (∀ s, s.StoresRise → s.stageState = 1 → Completes .stageEraseDone s fun t => t.reg 0xE010 4 = 2) ∧
  (∀ o offset data d s, s.checkTargetFor true (s.roleOf o) 0xE010 2 data.length = .ok → s.fw.delivery = some d → s.stageState = 2 →
    offset % 1024 = 0 → offset < d.total → data.length = min 1024 (d.total - offset) → d.erasing.contains (offset / 1024 / 64) = false →
    mget d.blocks (offset / 1024) = none → Completes (.stageData o offset false data) s fun t =>
      t.fw = ((s.setDelivery { d with blocks := mput d.blocks (offset / 1024) data }).checkPieces (offset / 1024 / 64)).fw) ∧
  (∀ p d s, s.fw.delivery = some d → Completes (.pieceEraseDone p) s fun t =>
    t.fw.delivery = some { d with erasing := d.erasing.filter (· ≠ p) }) ∧
  (∀ d s, s.StoresRise → s.fw.delivery = some d → s.stageState = 2 → ((List.range (pieceCount d.total)).all d.complete.contains) = true →
    Completes .stageHashDone s fun t => t.reg 0xE010 4 = if Config.sha384 d.bytes = d.bundleId then 3 else 4) ∧
  (∀ o s, s.checkWrite o 0xE020 1 [1] = .ok → s.activateForbidden false = false → s.stageState = 3 → s.activationPending = false →
    Completes (.atNextStart o) s fun t => t.fw = (s.writeBoot fun r => { r with stagedPending := true }).fw) ∧
  (∀ o s, s.checkWrite o 0xE020 1 [2] = .ok → s.activateForbidden true = false → s.stageState = 3 → s.activationPending = false →
    Completes (.warmNow o) s fun t => t.fw = (s.beginInstall ((s.fw.delivery.map Delivery.bytes).getD [])).fw) ∧
  (∀ good b c s, s.StoresRise → s.fw.installing = some b → (if good then s.verify b.bytes else 10) = c →
    Completes (.activateInstallDone good) s fun t => t.fw.installing = none ∧
      (c = 0 → t.fw.restartDue = true ∧ t.power.warmSince.isSome = true) ∧ (c ≠ 0 → t.fw.act = .refused ∧ t.reg 0xE020 2 = c)) ∧
  (∀ o x s, s.StoresRise → s.checkWrite o 0xE020 3 [1] = .ok → s.fw.trial = some x → x.healthy = true →
    Completes (.confirm o [1]) s fun t => t.fw.trial = none ∧ t.reg 0xE020 8 = 0 ∧ s.fw.floor ≤ t.fw.floor) ∧
  (∀ o x s, s.checkWrite o 0xE020 4 [1] = .ok → s.fw.trial = some x → Completes (.revert o [1]) s fun t => t.fw.trial = none) ∧
  (∀ x u s, s.StoresRise → s.fw.trial = some x → x.since = some u → x.healthy = true → s.reg 0xE020 5 = 0 → s.mode ≠ .dormant →
    Completes .confirmDelayExpiry s fun t => t.fw.trial = none ∧ t.reg 0xE020 8 = 0 ∧ u + s.reg 0xE020 6 * 1000000000 ≤ t.now) ∧
  (∀ x u s, s.fw.trial = some x → x.since = some u → s.mode ≠ .dormant → Completes .confirmDeadlineExpiry s fun t =>
    t.fw.trial = none ∧ u + s.reg 0xE020 7 * 1000000000 ≤ t.now)

/-- PATTERN_START of good fields on an idle target begins a test; its checker locks and loses lock; PATTERN_STOP and its duration end it.
BIST_START begins a BIST, which ends with what failed reported. A good background test is counted. HEALTH_CLEAR of 1 clears the report,
and an instruction is loaded into the TAP. (R545; R547; R551; R552; R553; R554; R556.) -/
def Obligations.TestCommandsComplete : Prop :=
  (∀ o v kind n s, s.checkWrite o 0xD000 1 v = .ok → byteAt v 0 = kind → targetNumber kind (byteAt v 1) = some n → v.length = 24 →
    patternFieldsGood v = true → s.testRuns (256 * kind + n) = false → s.targetIdle o kind n = true → (3 ≤ kind → s.mode = .diagnostic) →
    (kind = 4 → s.dgTests < 8) → Completes (.patternStart o v) s fun t => ∃ x, mget t.test.tests (256 * kind + n) = some x ∧ x.params = v ∧
      x.started = s.now ∧ x.errors = 0 ∧ x.state = if kind = 5 ∧ bitAt (byteAt v 3) 1 = true then 2 else 1) ∧
  (∀ o v n s, s.checkWrite o 0xD000 2 v = .ok → targetNumber (byteAt v 0) (byteAt v 1) = some n → s.testRuns (256 * byteAt v 0 + n) = true →
    Completes (.patternStop o v) s fun t => ∃ x, mget t.test.tests (256 * byteAt v 0 + n) = some x ∧ x.state = 4) ∧
  (∀ k x s, mget s.test.tests k = some x → x.running = true → beAt x.params 8 4 ≠ 0 → Completes (.patternDurationEnd k) s fun t =>
    (∃ y, mget t.test.tests k = some y ∧ y.state = 3) ∧ x.started + beAt x.params 8 4 * 1000000 ≤ t.now) ∧
  (∀ k x s, mget s.test.tests k = some x → x.state = 1 → bitAt (byteAt x.params 3) 1 = true → Completes (.checkerLocked k) s fun t =>
    mget t.test.tests k = some { x with state := 2 }) ∧
  (∀ k bits errors injected seconds x s, mget s.test.tests k = some x → x.state = 2 → k / 256 ≠ 5 →
    Completes (.checkerLockLost k bits errors injected seconds) s fun t => ∃ y, mget t.test.tests k = some y ∧ y.state = 1 ∧
      y.lockLosses = x.lockLosses + 1 ∧ y.bits = x.bits + bits ∧ y.errors = x.errors + errors) ∧
  (∀ o v m s, s.checkWrite o 0xD020 1 v = .ok → beNat (canonical o.be (typeOf 0xD020 1) v) = m → m < 0x80 → s.test.bistState ≠ 1 →
    s.scopesBusy m = false → Completes (.bistStart o v) s fun t => t.test.bistState = 1 ∧ t.test.bistScopes = m) ∧
  (∀ failed recs s, s.StoresRise → s.test.bistState = 1 →
    recs = (failed.map fun r => slice r 0 8).filter (fun r => bitAt s.test.bistScopes (byteAt r 0)) → Completes (.bistDone failed) s fun t =>
      t.test.bistState = 2 ∧ t.test.bistDetail = recs ∧ t.reg 0xD020 3 = recs.length) ∧
  (∀ kind number holds s, s.StoresRise → s.backgroundRuns = true → kind ≤ 4 →
    Completes (.backgroundTestDone kind number false true holds false) s fun t =>
      t.reg 0xD030 2 = (s.reg 0xD030 2 + 1) % counterSpan 0xD030 2) ∧
  (∀ o s, s.StoresRise → s.checkWrite o 0xD040 4 [1] = .ok → Completes (.healthClear o [1]) s fun t =>
    t.test.health = [] ∧ t.reg 0xD040 1 = 0 ∧ ∀ a, a < 13 → t.reg 0xD041 a = 0) ∧
  (∀ op s, Completes (.jtagInstruction op) s fun t => t.test.tapLoaded = op % 256 ∧ t.power.pins.trstN = true) ∧
  (∀ crossbar detail s, s.mode ≠ .dormant → Completes (.ondieUncorrectableError crossbar detail) s fun t =>
    t = (s.healthFree 8 (if crossbar then 1 else 0) (slice detail 0 16)).fence)

/-- The first cell of a packet begins its reassembly and the link expects the next number. An IDLE returns its credits. A REQUEST sets the
demand of its context, a GRANT adds to its balance up to the cap. HELLO brings its link UP. QUIET is noted. QUIET_DONE on the last link
of a quad being quieted turns the quad OFF. FAULT fails its link with cause 3. (R328; R329; R333; R335; R337; R338; R342; R343; R349.) -/
def Obligations.FabricCellsComplete : Prop :=
  (∀ l cell s, s.Arrives l 1 cell → s.linkState l = 3 → s.mayTake = true → s.quad (l / 4) = .awake →
    bitAt (cellHead cell) 93 = true → bitAt (cellHead cell) 92 = false → headerBad (cellPayload cell) = false →
    (∀ r ∈ s.fab.reasm, ¬(r.link = l ∧ r.unit = fld (cellHead cell) 78 67 ∧ r.srcLink = fld (cellHead cell) 66 59)) →
    s.fab.reasm.length < reasmCap → Completes (.dataCell l cell) s fun t =>
      (t.link l).rxExpect = ((s.link l).rxExpect + 1) % 65536 ∧
      t.fab.reasm = s.fab.reasm ++ [{ link := l, unit := fld (cellHead cell) 78 67, srcLink := fld (cellHead cell) 66 59,
                                      cls := fld (cellHead cell) 58 56, bytes := cellPayload cell, lastCell := s.now }]) ∧
  (∀ l cell s, s.Arrives l 0 cell → s.linkState l = 3 → s.quad (l / 4) = .awake → (s.link l).resend = [] → (s.link l).fresh = [] →
    (s.link l).quietAsked = false → Completes (.idleCell l cell) s fun t =>
    (t.link l).credits = (s.link l).credits + fld (cellHead cell) 14 8 ∧ (t.link l).rxExpect = (s.link l).rxExpect) ∧
  (∀ l unit dest m cell s, s.Hears l 0x01 unit dest m cell → s.linkState l = 3 → s.mayTake = true → s.quad (l / 4) = .awake →
    bitAt m 52 = false → fld m 23 0 = 0 → Completes (.request l cell) s fun t =>
      (t.recvCtx (ctxKey unit (fld m 55 53))).demand = fld m 47 24) ∧
  (∀ l unit dest m cell s, s.Hears l 0x02 unit dest m cell → s.linkState l = 3 → s.standby = false → s.quad (l / 4) = .awake →
    fld m 31 0 = 0 → bitAt m 52 = false → fld m 51 48 = (s.sendCtx (ctxKey unit (fld m 55 53))).era → Completes (.grant l cell) s fun t =>
      (t.sendCtx (ctxKey unit (fld m 55 53))).synced = true ∧
      ((s.sendCtx (ctxKey unit (fld m 55 53))).balance + (fld m 47 32 : Int) ≤ (s.reg 0x8000 0x0A : Int) →
        (t.sendCtx (ctxKey unit (fld m 55 53))).balance = (s.sendCtx (ctxKey unit (fld m 55 53))).balance + (fld m 47 32 : Int))) ∧
  (∀ l unit m cell s, s.StoresRise → s.Hears l 0x10 unit 0xFFF m cell → s.linkState l = 2 → s.quad (l / 4) = .awake →
    fld m 7 0 = 0 → fld m 55 48 = 1 → Completes (.hello l cell) s fun t => t.reg 0x3400 l = 3 ∧ t.reg 0x3402 l = fld m 47 32) ∧
  (∀ l unit cell s, s.Hears l 0x11 unit 0xFFF 0 cell → s.linkState l = 3 → s.quad (l / 4) = .awake → Completes (.quiet l cell) s fun t =>
    (t.link l).quietAsked = true) ∧
  (∀ l unit u cell s, s.StoresRise → s.Hears l 0x12 unit 0xFFF 0 cell → s.linkState l = 4 → (s.link l).quietSent = true →
    s.quad (l / 4) = .quieting u → (∀ k ∈ quadLinks (l / 4), k ≠ l → s.linkState k ≠ 4) → Completes (.quietDone l cell) s fun t =>
      t.quad (l / 4) = .off ∧ t.reg 0x3400 l = 5) ∧
  (∀ l unit m cell s, s.StoresRise → s.Hears l 0x13 unit 0xFFF m cell → fld m 47 0 = 0 → s.linkState l = 3 → s.quad (l / 4) = .awake →
    Completes (.fault l cell) s fun t => t.reg 0x3400 l = 6 ∧ t.reg 0x3407 l = 3)

/-- A replay goes back once more. A reassembly that timed out is dropped. A resequencing gap is skipped. A grant lowers the demand it
serves, and a refresh reports the demand. A link that is not quiet in time fails and its quad stays awake. Failed links are in state 6
with their cause, and train again after 10 ms. An aligned link sends its HELLO. A link UP for its hold joins its group. A fence held for
its time pins its bucket. The measurement is repeated, a quad wakes, and a group down for its time fences. (R85; R86; R329; R333; R336;
R337; R340; R341; R342; R343; R346; R380.) -/
def Obligations.FabricTimesComplete : Prop :=
  (∀ l s, s.StoresRise → l < 160 → (s.link l).unacked ≠ [] → (s.link l).goBacks + 1 < s.reg 0x8000 4 → Completes (.replayTimeout l) s fun t =>
    (t.link l).goBacks = (s.link l).goBacks + 1 ∧ t.reg 0x3404 l = (s.reg 0x3404 l + 1) % counterSpan 0x3404 l ∧
      (s.link l).lastAdvance + s.reg 0x8000 3 ≤ t.now) ∧
  (∀ l unit srcLink r s, r ∈ s.fab.reasm → r.link = l → r.unit = unit → r.srcLink = srcLink → Completes (.reassemblyTimeout l unit srcLink) s fun t =>
    ∀ x ∈ t.fab.reasm, x ∈ s.fab.reasm ∧ ¬(x.link = l ∧ x.unit = unit ∧ x.srcLink = srcLink)) ∧
  (∀ unit cls p s, (s.recvCtx (ctxKey unit cls)).oldest = some p → Completes (.reseqTimeout unit cls) s fun t =>
    t = ((s.reach (p.since + s.reg 0x8000 6 * 1000)).skipGap (ctxKey unit cls)).bump 0x8001 3) ∧
  (∀ k s, s.grantNext = some k → s.mayCarry = true → 4 * s.reseqBytes ≤ 3 * (s.reg 0x8000 7 * 1024) → s.usableLinks (s.destGroup (k / 8)) ≠ [] →
    Completes .grantIssue s fun t => (t.recvCtx k).demand = (s.recvCtx k).demand - Nat.min 16 (s.recvCtx k).demand) ∧
  (∀ unit cls s, s.demand (ctxKey unit cls) ≠ 0 → s.mayCarry = true → s.usableLinks (s.destGroup (ctxKey unit cls / 8)) ≠ [] →
    s.covered (s.sendCtx (ctxKey unit cls)).syncGate = true → Completes (.requestRefresh unit cls) s fun t =>
      (t.sendCtx (ctxKey unit cls)).reported = Nat.min (s.demand (ctxKey unit cls)) (2 ^ 24 - 1) ∧
      (t.sendCtx (ctxKey unit cls)).requestedAt = t.now ∧ (s.sendCtx (ctxKey unit cls)).requestedAt + 2000 ≤ t.now) ∧
  (∀ l u s, s.StoresRise → l < 160 → s.quad (l / 4) = .quieting u → s.linkState l = 4 → (s.link l).quietDone = false →
    Completes (.quietTimeout l) s fun t => t.quad (l / 4) = .awake ∧ t.reg 0x3400 l = 6 ∧ u + 100000 ≤ t.now) ∧
  (∀ l cause s, s.StoresRise → l < 160 → 1 ≤ cause → cause ≤ 4 → s.linkState l ∈ [1, 2, 3, 4] → Completes (.linkFail l cause) s fun t =>
    t.reg 0x3400 l = 6 ∧ t.reg 0x3407 l = cause) ∧
  (∀ l s, s.StoresRise → l < 160 → s.linkState l ∈ [2, 3, 4] → Completes (.signalLossHoldExpiry l) s fun t =>
    t.reg 0x3400 l = 6 ∧ t.reg 0x3407 l = 1) ∧
  (∀ l s, s.StoresRise → l < 160 → s.linkState l = 6 → s.linkAllowed l = true → Completes (.linkRetrain l) s fun t =>
    t.reg 0x3400 l = 1 ∧ (s.link l).failedSince + 10000000 ≤ t.now) ∧
  (∀ l s, s.StoresRise → l < 160 → s.linkState l = 1 → Completes (.fabLinkAligned l) s fun t =>
    t.reg 0x3400 l = 2 ∧ (t.link l).helloSent = true ∧ (t.link l).txNext = 1 ∧ ∃ cell, t.out = .fabric l cell :: s.out) ∧
  (∀ l s, l < 160 → s.linkState l = 3 → (s.link l).joined = false → (s.link l).quietAsked = false → s.linkGroup l < 8 →
    Completes (.linkUpHoldExpiry l) s fun t => (t.link l).joined = true ∧ (s.link l).upSince + s.reg 0x8000 0x0B * 1000000 ≤ t.now) ∧
  (∀ g b f u s, (s.fabGroup g).fences.find? (fun f => decide (f.bucket = b)) = some f → f.acked = some u → (s.fabGroup g).moves = [] →
    b < (s.fabGroup g).pins.length → Completes (.fenceHoldExpiry g b) s fun t =>
      (t.fabGroup g).pins.getD b none = some f.target ∧ (∀ x ∈ (t.fabGroup g).fences, x.bucket ≠ b) ∧ u + s.reg 0x8000 2 ≤ t.now) ∧
  (∀ s, s.mode ≠ .proportional → Completes .fabricMeasure s fun t =>
    t.fab.lastMeasure = t.now ∧ t.fab.surplusSince = none ∧ s.fab.lastMeasure + 10000 ≤ t.now) ∧
  (∀ q elapsed u s, s.StoresRise → s.quad q = .waking u → Completes (.quadWakeDone q elapsed) s fun t =>
    t.quad q = .awake ∧ t.reg 0x2101 (145 + q) = 2 ∧ u + elapsed ≤ t.now) ∧
  (∀ g u s, g < 8 → (s.fabGroup g).downSince = some u → s.reg 0x9000 9 ≠ 0 → s.usableLinks g = [] → Completes (.groupDownTimeout g) s fun t =>
    t = (s.reach (u + 10000)).fence)

/-- An idle stack is asked to enter self-refresh, enters it, and is released by its wake, or is taken out where that fails. A refresh
boundary puts staged delays in force. A due bank refresh is counted, a parity alert noted. A calibration round begins and goes on to the
next lane while there is an eye. New delays are staged, and the delays in force are saved. A scrub without errors begins the next
interval. (R87; R398; R399; R400; R402; R405; R406; R408; R410; R411.) -/
def Obligations.MemoryCommandsComplete : Prop :=
  (∀ h s, h < 4 → s.reg 0x2012 1 ≠ 0 → s.sleepMode = true → s.reg 0x7101 h = 0 → s.hbmHoldsPackets = false → s.stats.setDeltas = [] →
    s.stats.queueDeltas = [] → s.stats.channelDeltas = [] → Completes (.hbmIdleExpiry h) s fun t =>
      (t.stack h).entering = true ∧ (s.stack h).lastAccess + s.reg 0x2012 2 * 1000 ≤ t.now) ∧
  (∀ h s, s.StoresRise → h < 4 → (s.stack h).entering = true → s.reg 0x7101 h = 0 → Completes (.selfRefreshEnter h) s fun t =>
    t.reg 0x7101 h = 1 ∧ (t.stack h).entering = false) ∧
  (∀ h elapsed u s, s.StoresRise → h < 4 → (s.stack h).wakeSince = some u → s.reg 0x7101 h = 2 → elapsed ≤ 50000 →
    Completes (.hbmWakeDone h elapsed []) s fun t => t.reg 0x7101 h = 0 ∧ (t.stack h).wakeSince = none ∧ u + elapsed ≤ t.now) ∧
  (∀ h u s, h < 4 → (s.stack h).wakeSince = some u → s.reg 0x7101 h = 2 → Completes (.hbmWakeFailed h) s fun t =>
    t = (s.reach (u + 50000)).stackOut h 7) ∧
  (∀ cc s, s.stackRuns cc = true → Completes (.refreshBoundary cc) s fun t => (t.pc cc).delays = (s.pc cc).staged.getD (s.pc cc).delays ∧
    (t.pc cc).staged = none ∧ (t.pc cc).lastBoundary = t.now ∧ (s.pc cc).lastBoundary + s.reg 0x7100 4 * 1000 ≤ t.now) ∧
  (∀ cc s, s.stackRuns cc = true → Completes (.bankRefresh cc) s fun t => (t.pc cc).bankRefreshes = (s.pc cc).bankRefreshes + 1) ∧
  (∀ cc s, s.stackRuns cc = true → ((s.pc cc).alerts.filter fun u => decide (s.now < u + 1000000)).length < 8 →
    Completes (.caParityAlert cc) s fun t =>
      (t.pc cc).alerts = ((s.pc cc).alerts.filter fun u => decide (s.now < u + 1000000)) ++ [s.now]) ∧
  (∀ cc s, s.stackRuns cc = true → s.reg 0x7100 6 = 1 → s.power.warmSince = none → (s.pc cc).round = none →
    Completes (.calRound cc) s fun t => (t.pc cc).round = some 0) ∧
  (∀ cc lane left right s, s.stackRuns cc = true → (s.pc cc).round = some lane →
    8 ≤ (s.probedEdges (s.pc cc) lane left right).2 - (s.probedEdges (s.pc cc) lane left right).1 →
    Completes (.calProbeDone cc left right) s fun t => (t.pc cc).round = if lane = 71 then none else some (lane + 1)) ∧
  (∀ o cc v s, s.checkWrite o 0x7140 cc v = .ok → v.length = 96 → (v.all fun b => decide (b.toNat < 128)) = true →
    allZero (slice v 90 6) = true → Completes (.hbmDelays o cc v) s fun t => (t.pc cc).staged = some v) ∧
  (∀ s, s.mode ≠ .dormant → Completes .delaySave s fun t => t.hbm.saved = ((List.range 128).map fun cc => (cc, (s.pc cc).delays)) ∧
    t.hbm.lastSave = t.now ∧ s.hbm.lastSave + 3600000000000 ≤ t.now) ∧
  (∀ s, s.stacksActive = true → s.mode ≠ .dormant → Completes (.scrub [] []) s fun t =>
    t.hbm.lastScrub = t.now ∧ s.hbm.lastScrub + s.reg 0x7100 9 * 3600000000000 ≤ t.now)

/-- PORT_MODE, PORT_SLICE and PORT_ADMIN take their values where their rules let them. Activation goes on by a step, and one that overruns
shows MODULE_FAULT. A step of the clock sets it. Stamps are popped into the requester's result. PPS_IN is stamped and counted, PPS_OUT
rises and falls. A coefficient steps, and the step is judged. A measurement enters the objects of its lane. A reacquired lane is LOCKED.
The management and PCIe links come up. (R416; R418; R419; R424; R426; R428; R429; R431; R433; R435; R442.) -/
def Obligations.PortCommandsComplete : Prop :=
  (∀ o p m s, s.StoresRise → s.checkWrite o 0x3000 p [m] = .ok → m.toNat ≠ s.reg 0x3000 p → m.toNat ≤ 5 →
    (m.toNat ≠ 0 → s.modePlaces p m.toNat = true ∧ (s.reg 0x3001 p < 16 → s.sliceRate (s.reg 0x3001 p) p m.toNat (s.reg 0x3001 p) ≤ 1600) ∧
      (s.reg 0x3001 p = 0xFF → s.mode = .bringup ∨ s.mode = .diagnostic)) →
    s.reg 0x3002 p = 0 → s.reg 0x7043 p ≠ 1 → Completes (.portMode o p [m]) s fun t =>
      t.reg 0x3000 p = m.toNat ∧ t.reg 0x3003 p = if m.toNat = 0 then 0 else 1) ∧
  (∀ o p k s, s.StoresRise → s.checkWrite o 0x3001 p [k] = .ok →
    (k.toNat < 16 → s.sliceRate k.toNat p (s.reg 0x3000 p) k.toNat ≤ 1600 ∧ s.reg 0x3700 k.toNat ≠ 3) →
    Completes (.portSlice o p [k]) s fun t => t.reg 0x3001 p = k.toNat) ∧
  (∀ o p s, s.StoresRise → s.checkWrite o 0x3002 p [1] = .ok → s.reg 0x7043 p ≠ 1 → Completes (.portAdminEnable o p) s fun t =>
    t.reg 0x3002 p = 1) ∧
  (∀ o p s, s.StoresRise → s.checkWrite o 0x3002 p [0] = .ok → s.reg 0x3002 p = 1 → s.reg 0x3000 p ≠ 0 →
    Completes (.portAdminDisable o p) s fun t => t.reg 0x3002 p = 0 ∧ t.reg 0x3003 p = 1) ∧
  (∀ p n s, s.cageOf p = some n → (s.port p).activation = 3 → s.moduleState n = 3 → s.reg 0x3003 p = 2 →
    Completes (.moduleActivationStep p) s fun t => (t.port p).activation = 5 ∧ (t.port p).activationSince = s.now) ∧
  (∀ p s, s.StoresRise → (s.port p).activation ≠ 0 → s.reg 0x3003 p = 2 → Completes (.moduleActivationTimeout p) s fun t =>
    (t.port p).activation = 0 ∧ t.reg 0x300B p = 9) ∧
  (∀ o v s, s.checkWrite o 0x3100 2 v = .ok → Completes (.ptpStepNs o v) s fun t => t.ports =
    (s.setClock (((s.clockFine : Int) + toSigned 64 (beNat (canonical o.be (typeOf 0x3100 2) v)) * 2 ^ 32) % (2 ^ 96 : Nat)).toNat).ports) ∧
  (∀ o p n s, s.checkWrite o 0x3023 p [n] = .ok → 1 ≤ n.toNat → n.toNat ≤ 16 → Completes (.txStampPop o p [n]) s fun t =>
    (t.port p).stamps = (s.port p).stamps.drop n.toNat ∧ t.resultOf o 0x3023 p = ((s.port p).stamps.take n.toNat).flatten) ∧
  (∀ s, s.StoresRise → s.mode ≠ .dormant → Completes .ppsInEdge s fun t => t.power.pins.ppsIn = true ∧ t.reg 0x3100 4 = s.ptp) ∧
  (∀ s, s.mode ≠ .dormant → s.reg 0x3100 6 ≠ 0 → Completes .ppsOutSecond s fun t =>
    t.power.pins.ppsOut = true ∧ t.ports.ppsRose = some t.now) ∧
  (∀ u s, s.ports.ppsRose = some u → Completes .ppsOutFall s fun t =>
    t.power.pins.ppsOut = false ∧ t.ports.ppsRose = none ∧ u + 100000000 ≤ t.now) ∧
  (∀ lane coef up before b l s, laneBase lane = some (b, l) → s.laneAdapts lane = true → s.reg (b + 0x12) l ≠ 1 →
    (s.adapt lane).step = none → mgetD 0 (s.adapt lane).holds coef ≤ s.now → Completes (.adaptStep lane coef up before) s fun t =>
      (t.adapt lane).step = some (coef, if up then 1 else -1, s.now, before) ∧
        mgetD 0 (t.adapt lane).coeffs coef = mgetD 0 (s.adapt lane).coeffs coef + if up then 1 else -1) ∧
  (∀ lane after b l coef d u before s, laneBase lane = some (b, l) → (s.adapt lane).step = some (coef, d, u, before) →
    Completes (.adaptEvaluate lane after) s fun t => (t.adapt lane).step = none ∧ u + 1000000 ≤ t.now ∧
      mgetD 0 (t.adapt lane).coeffs coef = mgetD 0 (s.adapt lane).coeffs coef - if 2 * before + 16 < after then d else 0) ∧
  (∀ lane height width snr ber corrected uncorrected symbols b l s, s.StoresRise → laneBase lane = some (b, l) → s.laneLocked lane = true →
    Completes (.marginMeasure lane height width snr ber corrected uncorrected symbols) s fun t =>
      t.oct (b + 0x13) l = natBe height 2 ++ natBe width 2 ++ natBe snr 2 ++ [0, 0] ∧ t.reg (b + 0x17) l = min ber (2 ^ 32 - 1)) ∧
  (∀ lane s, s.StoresRise → lane < 128 → s.reg 0x3200 lane ≠ 0 → s.power.refclkLost.contains (lane / 16) = false →
    Completes (.laneReacquired lane) s fun t => t.reg 0x3200 lane = 3) ∧
  (∀ p s, s.StoresRise → s.mgmtPossible p = true → Completes (.mgmtLinkUp p) s fun t => t.reg 0x3181 p = 1) ∧
  (∀ p s, s.StoresRise → p < 2 → Completes (.mgmtLinkDown p) s fun t => t.reg 0x3181 p = 0) ∧
  (∀ lanes rate s, s.StoresRise → s.power.pins.pciePerstN = true → s.mode ≠ .dormant → s.power.refclkLost.contains 0x12 = false →
    1 ≤ lanes → lanes ≤ 16 → 1 ≤ rate → rate ≤ 5 → Completes (.pcieLinkTrained lanes rate) s fun t =>
      t.host.linkUp = true ∧ t.reg 0xA000 3 = lanes * 256 + rate)

/-- An uncorrectable flit that is not the seventeenth within 1 ms is counted and noted. A group that fails holds the ingress lane of its
slice, and a good retraining puts it UP. A calibration round counts what was corrected. At an alignment marker the staged changes of
delay take effect. (R437; R438; R439.) -/
def Obligations.DieToDieCommandsComplete : Prop :=
  (∀ g toTm hits s, s.StoresRise → g < 16 → s.reg 0x3700 g = 2 → ((s.dg g).uncorrectable.filter fun u => decide (s.now < u + 1000000)).length < 16 →
    Completes (.dgUncorrectableFlit g toTm hits) s fun t => t.reg 0x3703 g = (s.reg 0x3703 g + 1) % counterSpan 0x3703 g ∧
      (t.dg g).uncorrectable = ((s.dg g).uncorrectable.filter fun u => decide (s.now < u + 1000000)) ++ [s.now]) ∧
  (∀ g s, s.StoresRise → g < 16 → s.reg 0x3700 g ≠ 0 → s.reg 0x3700 g ≠ 3 → Completes (.dgFail g) s fun t =>
    t.reg 0x3700 g = 3 ∧ (t.sliceAt g).hold = true) ∧
  (∀ g s, s.StoresRise → g < 16 → s.reg 0x3700 g = 3 → Completes (.dgRetrain g true) s fun t =>
    t.reg 0x3700 g = 2 ∧ (s.dg g).failedSince + 10000000 ≤ t.now) ∧
  (∀ g margin corrected s, s.StoresRise → g < 16 → s.reg 0x3700 g = 2 → s.power.warmSince = none →
    Completes (.dgCalRound g margin corrected) s fun t => t.reg 0x3702 g = (s.reg 0x3702 g + corrected) % counterSpan 0x3702 g) ∧
  (∀ g s, g < 16 → s.reg 0x3700 g = 2 → Completes (.dgAlignmentMarker g) s fun t => (t.dg g).staged = [] ∧
    (t.dg g).delays = (s.dg g).staged.foldl (fun l (w, d) => mput l w (mgetD 0 l w + d)) (s.dg g).delays)

/-- A scan of a good slot takes its descriptor; one of a slice is injected. A staged completion is written once its slot is free, and a
coalesced interrupt is signalled. Rings are enabled and disabled, and their coalescing is set. DB_STATUS clears, DB_MASK masks and
DB_RING sets bits. TX_DATA begins a message, RX_DATA takes its next word, ABANDON gives it up, and a stalemate is signalled. A free lock
is acquired, and its holder releases it. (R447; R451; R455; R456; R460; R462; R463; R465; R467; R469; R471; R474.) -/
def Obligations.HostCommandsComplete : Prop :=
  (∀ i d c s, s.chan i = some c → c.ring = .enabled → s.power.pins.pciePerstN = true → c.staged = [] → c.fetched.length < 32 →
    bitAt (subControl (slice d 0 64)) 31 = true → bitAt (subControl (slice d 0 64)) 30 = c.fetchPhase → malformed c.receive (slice d 0 64) = false →
    Completes (.subDoorbell i [d]) s fun t => ∃ x, t.chan i = some x ∧ x.scanning = true ∧
      x.fetched = c.fetched ++ [{ slot := c.fetchPos, pos := c.taken, bytes := slice d 0 64 }]) ∧
  (∀ i d c s, s.chan i = some c → c.ring = .enabled → c.scanning = true → c.staged = [] → c.fetched.length < 32 →
    bitAt (subControl (slice d 0 64)) 31 = true → bitAt (subControl (slice d 0 64)) 30 = c.fetchPhase → malformed c.receive (slice d 0 64) = false →
    Completes (.scanResume i [d]) s fun t => ∃ x, t.chan i = some x ∧
      x.fetched = c.fetched ++ [{ slot := c.fetchPos, pos := c.taken, bytes := slice d 0 64 }]) ∧
  (∀ n i c d buffer s, n < 16 → s.injectNext n = some i → s.chan i = some c →
    c.fetched.find? (fun d => decide (byteAt d.bytes 18 = n)) = some d → s.mode ∈ [Mode.proportional, .spring] →
    (s.sliceAt n).inject.length < 16 → s.activeInPair = false → Completes (.inject n true buffer) s fun t =>
      (t.sliceAt n).inject = (s.sliceAt n).inject ++ [injectionOf i d.pos d.bytes buffer]) ∧
  (∀ i d c s, s.chan i = some c → c.receive = true → c.ring = .enabled → c.scanning = true → c.staged = [] → c.fetched.length < 32 →
    bitAt (subControl (slice d 0 64)) 31 = true → bitAt (subControl (slice d 0 64)) 30 = c.fetchPhase → malformed true (slice d 0 64) = false →
    Completes (.receiveBuffer i d) s fun t => ∃ x, t.chan i = some x ∧
      x.fetched = c.fetched ++ [{ slot := c.fetchPos, pos := c.taken, bytes := slice d 0 64 }]) ∧
  (∀ i c e rest s, s.power.pins.pciePerstN = true → s.chan i = some c → c.staged = e :: rest → Completes (.stagedRetry i 1) s fun t =>
    t = ((s.setChan i { c with staged := rest }).writeCompletion i e).settleRing i) ∧
  (∀ i c s, s.chan i = some c → c.unsignalled ≠ 0 → Completes (.coalesceExpiry i) s fun t =>
    t.chan i = some { c with unsignalled := 0 } ∧ c.firstUnsignalled + beAt c.params 24 4 ≤ t.now) ∧
  (∀ o h x s, h < 2 ^ 32 → s.checkWrite o 0xA010 3 ([1, 0, 0, 0] ++ natBe h 4) = .ok → s.checkHandle 2 h = .ok →
    s.chan (handleIndex h) = some x → x.ring = .disabled → x.idle = true → Completes (.ringEnable o h) s fun t =>
      t.chan (handleIndex h) = some { x with
        ring := .enabled, fetchPos := 0, fetchPhase := true, writePos := 0, writePhase := true, taken := 0, scanning := false }) ∧
  (∀ o h x s, h < 2 ^ 32 → s.checkWrite o 0xA010 3 ([2, 0, 0, 0] ++ natBe h 4) = .ok → s.checkHandle 2 h = .ok →
    s.chan (handleIndex h) = some x → x.ring = .enabled → Completes (.ringDisable o h) s fun t => t.host =
      (State.drainStarted 65 (s.setChan (handleIndex h) { x with ring := .disabling, fetched := [], scanning := false }) (handleIndex h)).host) ∧
  (∀ o v x s, s.checkWrite o 0xA010 1 v = .ok → v.length = 12 → s.checkHandle 2 (beAt v 0 4) = .ok → coalesceOk (slice v 4 8) = true →
    s.chan (handleIndex (beAt v 0 4)) = some x → Completes (.channelSet o v) s fun t =>
      t.chan (handleIndex (beAt v 0 4)) = some { x with params := patch x.params 20 (slice v 4 8) }) ∧
  (∀ k v s, k < 64 → s.mode ≠ .dormant → Completes (.dbStatus k v) s fun t =>
    (t.doorbell k).status = (s.doorbell k).status &&& (v % 2 ^ 32 ^^^ 0xFFFFFFFF) ∧ (t.doorbell k).mask = (s.doorbell k).mask) ∧
  (∀ k v s, k < 64 → s.mode ≠ .dormant → Completes (.dbMask k v) s fun t =>
    (t.doorbell k).mask = v % 2 ^ 32 ∧ (t.doorbell k).status = (s.doorbell k).status) ∧
  (∀ k v s, k < 64 → s.mode ≠ .dormant → Completes (.dbRing k v) s fun t =>
    (t.doorbell k).status = (s.doorbell k).status ||| v % 2 ^ 32 / 256 * 256) ∧
  (∀ master m d w s, m < 64 → d < 2 → s.mode ≠ .dormant → (192 ≤ master ∨ s.issues master = true) → s.mayUseMailbox master m = true →
    ((s.mailbox m).dir d).claim = none → fld w 15 8 = 0 → 1 ≤ w % 256 →
    1 + w % 256 ≤ 256 - ((s.mailbox m).dir d).words.length - ((s.mailbox m).dir d).partialWords.length →
    Completes (.txData master m d w) s fun t => (t.mailbox m).dir d =
      { (s.mailbox m).dir d with partialWords := [w % 2 ^ 32], claim := some master, expect := w % 256 }) ∧
  (∀ master m d w w' rest s, m < 64 → d < 2 → s.mode ≠ .dormant → (192 ≤ master ∨ s.issues master = true) → s.mayUseMailbox master m = true →
    ((s.mailbox m).dir d).words = w :: w' :: rest → Completes (.rxData master m d) s fun t =>
      ((t.mailbox m).dir d).words = w' :: rest ∧ t.host.reads = (master, w) :: s.host.reads) ∧
  (∀ master m d h s, m < 64 → d < 2 → s.mode ≠ .dormant → (192 ≤ master ∨ s.issues master = true) → s.mayUseMailbox master m = true →
    ((s.mailbox m).dir d).claim = some h → s.mayAbandon master h = true → Completes (.abandon master m d) s fun t => t = s.abandon m d) ∧
  (∀ m u s, m < 64 → (s.mailbox m).stuckSince = some u → (s.mailbox m).signalled = false → (s.mailbox m).stuck = true →
    Completes (.mbStalemate m) s fun t => (t.mailbox m).signalled = true ∧ u + 1000000 ≤ t.now) ∧
  (∀ m l s, l < 256 → m < 256 → s.mode ≠ .dormant → mget s.host.locks l = none → Completes (.lockAcquire m l) s fun t =>
    mget t.host.locks l = some m ∧ t.host.reads = (m, 2 ^ 31 + 2 ^ 30 + m) :: s.host.reads) ∧
  (∀ m l s, l < 256 → s.mode ≠ .dormant → mget s.host.locks l = some m → Completes (.lockRelease m l) s fun t =>
    t.host.locks = mdel s.host.locks l) ∧
  (∀ o l s, l < 256 → s.checkWrite o 0xA911 l [1] = .ok → Completes (.lockForce o l [1]) s fun t => t.host.locks = mdel s.host.locks l)

/-- TSTART runs a stopped thread at its address with the starter as its master, TSTOP stops a running child, TSIG signals, TWFE waits, TPOLL
takes pending bits, TYIELD gives up the slot, TSTAT reads a state. A pending bit wakes a waiting thread. TCMP and TWDOG expire and
disarm. A fault traps. A failure of thread 0 restarts, slack water sends thread 0 to its handler, and an idle core is retained. DEBUG
halts and resumes. Weights, punt queues and integrator threads are set and started. (R478; R480; R482; R483; R484; R486; R488; R492;
R494; R495; R497.) -/
def Obligations.StewardCommandsComplete : Prop :=
  (∀ h rd target addr s, s.issues h = true → s.integrator h = false → target < 192 → dieOf target = dieOf h →
    (s.thread target).state ∈ [.stopped, .faulted] → (integratorThread target = true → s.integrator target = true) → addr % 2 = 0 →
    s.codeWindow target addr = true → Completes (.tstart h rd target addr) s fun t =>
      (t.thread target).state = .running ∧ (t.thread target).pc = addr ∧ (t.thread target).master = h ∧ (t.thread h).pc = (s.thread h).pc + 4) ∧
  (∀ h rd target s, s.issues h = true → s.integrator h = false → target < 192 → target ≠ 0 → target ≠ 128 → (s.thread target).master = h →
    (s.thread target).state ∈ [.running, .waiting] → target ≠ h → Completes (.tstop h rd target) s fun t =>
      (t.thread target).state = .stopped ∧ (t.thread target).tcmp = none ∧ (t.thread target).twdog = none) ∧
  (∀ h rd target bits s, s.issues h = true → s.integrator h = false → target < 192 → bits = fld bits 23 16 * 2 ^ 16 →
    Completes (.tsig h rd target bits) s fun t => t =
      (s.signalThread target (fld bits 23 16 * (if dieOf target = dieOf h then 2 ^ 16 else 2 ^ 24))).retire h rd (threadWord 2 rd 0 0) 0) ∧
  (∀ h rd mask s, s.issues h = true → (s.thread h).tevent &&& mask = 0 → Completes (.twfe h rd mask) s fun t =>
    (t.thread h).state = .waiting ∧ (t.thread h).waitMask = some (mask % 2 ^ 32, rd) ∧ (t.thread h).pc = (s.thread h).pc) ∧
  (∀ h rd mask s, s.issues h = true → Completes (.tpoll h rd mask) s fun t =>
    (t.thread h).tevent = (s.thread h).tevent ^^^ ((s.thread h).tevent &&& mask) ∧ (t.thread h).pc = (s.thread h).pc + 4) ∧
  (∀ h s, s.issues h = true → Completes (.tyield h) s fun t => (t.thread h).yielded = true ∧ (t.thread h).pc = (s.thread h).pc + 4) ∧
  (∀ h rd target s, s.issues h = true → s.integrator h = false → target < 192 → Completes (.tstat h rd target) s fun t => t =
    s.retire h rd (threadWord 6 rd 0 0) ((s.thread target).state.code + (s.thread target).master * 2 ^ 8 +
      (s.thread target).faultCause * 2 ^ 16 + (if s.integrator target then 2 ^ 24 else 0))) ∧
  (∀ h rd mask s, h < 192 → (s.thread h).state = .waiting → (s.thread h).waitMask = some (mask, rd) → (s.thread h).tevent &&& mask ≠ 0 →
    Completes (.threadWake h) s fun t => t = s.endWait h rd mask ∧ (t.thread h).state = .running) ∧
  (∀ h v s, h < 192 → (s.thread h).tcmp = some v → Completes (.tcmpExpiry h) s fun t =>
    (t.thread h).tcmp = none ∧ (t.thread h).tevent = (s.thread h).tevent ||| 1 ∧ v ≤ t.now) ∧
  (∀ h v s, h ≠ 0 → h ≠ 128 → (s.thread h).twdog = some v → Completes (.twdogExpiry h) s fun t => (t.thread h).twdog = none ∧ v ≤ t.now ∧
    ((s.thread h).master < 192 → (t.thread (s.thread h).master).tevent = (s.thread (s.thread h).master).tevent ||| 32)) ∧
  (∀ h cause s, s.issues h = true → Completes (.threadFault h cause) s fun t => t = s.trapThread h (cause % 64)) ∧
  (∀ die s, die < 2 → (s.thread (threadZero die)).state = .faulted → s.fw.trial = none → Completes (.thread0Failure die) s fun t =>
    t.power.warmSince.isSome = true) ∧
  (∀ die s, die < 2 → s.slack die = true → (s.nmi die).raised = false → (s.nmi die).active = false → Completes (.slackWater die) s fun t =>
    (t.nmi die).raised = true ∧ (t.nmi die).active = true ∧ (t.thread (threadZero die)).state = .running ∧
      (t.thread (threadZero die)).pc = (s.nmi die).vec) ∧
  (∀ c s, c < 16 → c % 8 ≠ 0 → s.mode ≠ .dormant → (s.core c).retained = false →
    ((coreThreads c).all fun h => decide ((s.thread h).state = .stopped)) = true → Completes (.coreRetainExpiry c) s fun t =>
      (t.core c).retained = true) ∧
  (∀ h s, s.tapInForce = 0x20 → h < 192 → (s.thread h).state = .running → Completes (.debugHalt [h]) s fun t =>
    (t.thread h).state = .halted ∧ (t.thread h).twdog = none) ∧
  (∀ h s, s.tapInForce = 0x20 → h < 192 → (s.thread h).state = .halted → (s.thread h).waitMask = none → Completes (.debugResume [h]) s fun t =>
    (t.thread h).state = .running ∧ (t.thread h).pc = (s.thread h).pc) ∧
  (∀ o tm n w s, s.StoresRise → (tm = false → n < 128) → s.checkWrite o (if tm then 0xB004 else 0xB003) n [w] = .ok →
    (threadWeightEffect (if tm then 128 + n else n) [w] s).1 = .ok → Completes (.threadWeight o tm n [w]) s fun t =>
      t.reg (if tm then 0xB004 else 0xB003) n = w.toNat) ∧
  (∀ o tm n v s, s.StoresRise → s.checkWrite o (if tm then 0xB021 else 0xB020) n v = .ok → (puntQueueEffect tm n v s).1 = .ok →
    Completes (.puntQueue o tm n v) s fun t => t.oct (if tm then 0xB021 else 0xB020) n = v) ∧
  (∀ o c s, s.checkWrite o 0xB030 3 [c] = .ok → c.toNat < 48 → s.integrator (entryThread c.toNat) = true →
    (s.thread (entryThread c.toNat)).state = .faulted → mgetD 0 s.stewards.integratorEntry c.toNat ≠ 0 →
    Completes (.integratorRestart o [c]) s fun t => (t.thread (entryThread c.toNat)).state = .running ∧
      (t.thread (entryThread c.toNat)).pc = mgetD 0 s.stewards.integratorEntry c.toNat)

/-- IDENTITY becomes the mate's identity. A verdict block's entries join the standby's, then match and apply. EPOCH_MARK makes the staged
commit of the next epoch and marks every source. OBJECT applies its operations and LEARN stages an internal commit, each with its
ticket. DEPARTURE_MARK, QUEUE_END take each entry. FABRIC_VERDICT and COPY_VERDICT keep their bits. HOST_WORK injects. A DIGEST waits
for its own or is compared. The last START puts the standby in step in SHADOW. COPY collects until it holds all. (R359; R361; R362;
R365; R366; R368; R370; R374; R375; R376; R378; R382.) -/
def Obligations.PairRecordsComplete : Prop :=
  (∀ rec s, (rec.drop 3).length = 72 → byteAt (rec.drop 3) 0 = 1 → Completes (.identity rec) s fun t =>
    t.pair.mate = { s.pair.mate with identity := some (rec.drop 3), role := identRole (rec.drop 3) } ∧ t.pair.mateLost = false) ∧
  (∀ rec s, byteAt rec 1 < 0x90 → rec.length = 2 + (19 * (blockEntries rec).length + 7) / 8 →
    (blockEntries rec).any (fun e => e.2.1 && decide (e.2.2 = 3)) = false → s.mode = .shadow → s.pair.entries = [] → s.pair.frames = [] →
    Completes (.verdictBlock rec) s fun t => t.pair.entries.map (fun e => (e.source, e.tag, e.admits, e.colour)) =
        (blockEntries rec).map (fun e => (byteAt rec 1, e.1, e.2.1, e.2.2)) ∧
      mget t.pair.positions (byteAt rec 1) =
        some ((mgetD 0 s.pair.positions (byteAt rec 1) + (blockEntries rec).length) % 2 ^ 32)) ∧
  (∀ rec c s, (rec.drop 3).length = 644 → s.follows = true → beAt (rec.drop 3) 0 2 = s.nextEpoch →
    s.pair.staged.find? (fun c => decide (c.epoch = s.nextEpoch) && c.closed) = some c → Completes (.epochMark rec) s fun t =>
      t.epochs = (s.followCommit c).epochs ∧
      t.pair.staged = (s.followCommit c).pair.staged.filter (fun x => decide (x.epoch ≠ s.nextEpoch)) ∧
      ∀ k < 0x90, (mgetD [] t.pair.marks k).getLast? = some (s.nextEpoch, beAt (rec.drop 3) (4 + 4 * k) 4)) ∧
  (∀ rec ops s, 4 ≤ (rec.drop 3).length → parseOps true (rec.drop 3).length ((rec.drop 3).drop 4) = some ops → s.follows = true →
    Completes (.object rec) s fun t =>
      t = (ops.foldl (State.mateOp (beAt (rec.drop 3) 0 4)) s).ticketStaged (beAt (rec.drop 3) 0 4) ∧
        t.pair.stagedTicket = beAt (rec.drop 3) 0 4) ∧
  (∀ rec cs s, 8 ≤ (rec.drop 3).length → s.learnCommands (rec.drop 3).length ((rec.drop 3).drop 8) = some cs → s.follows = true →
    Completes (.learnRecord rec) s fun t => t.pair.stagedTicket = beAt (rec.drop 3) 0 4 ∧
      t.pair.staged = (s.pair.staged.filter fun x => decide (x.epoch ≠ beAt (rec.drop 3) 4 2)) ++
        [{ ticket := beAt (rec.drop 3) 0 4, epoch := beAt (rec.drop 3) 4 2, own := true, closed := true
           ops := cs.map fun c => { origin := mateOrigin, index := 0x5C10, sub := 0, data := c } }]) ∧
  (∀ rec s, (rec.drop 3).length % 8 = 0 → s.standby = true → Completes (.departureMark rec) s fun t =>
    t = (bodyEntries (rec.drop 3).length (rec.drop 3)).foldl (fun s e => s.takeMark (entryCtx e) (fld e 48 45) (fld e 23 0)) s) ∧
  (∀ rec s, (rec.drop 3).length = 16 → 1 ≤ byteAt (rec.drop 3) 3 → byteAt (rec.drop 3) 3 ≤ 64 → s.standby = true →
    Completes (.fabricVerdict rec) s fun t => t.pair.fabricBits = s.pair.fabricBits ++
      (List.range (byteAt (rec.drop 3) 3)).map fun k =>
        { unit := beAt (rec.drop 3) 0 2 % 4096, cls := byteAt (rec.drop 3) 2 % 8, seq := (beAt (rec.drop 3) 4 4 + k) % 2 ^ 24
          admits := bitAt (beAt (rec.drop 3) 8 8) (63 - k), since := s.now }) ∧
  (∀ rec s, (rec.drop 3).length = 20 → byteAt (rec.drop 3) 0 ≤ 1 → 1 ≤ byteAt (rec.drop 3) 8 → byteAt (rec.drop 3) 8 ≤ 64 →
    s.standby = true → Completes (.copyVerdict rec) s fun t => t.pair.copyBits = s.pair.copyBits ++
      [{ fabric := decide (byteAt (rec.drop 3) 0 = 1), source := byteAt (rec.drop 3) 1, unit := beAt (rec.drop 3) 2 2 % 4096
         position := beAt (rec.drop 3) 4 4, since := s.now
         admits := (List.range (byteAt (rec.drop 3) 8)).map fun k => bitAt (beAt (rec.drop 3) 12 8) (63 - k) }]) ∧
  (∀ rec s, 68 ≤ (rec.drop 3).length → 0x80 ≤ byteAt (rec.drop 3) 0 → byteAt (rec.drop 3) 0 < 0x90 → s.mode ∈ [Mode.shadow, .catchup] →
    Completes (.hostWork rec) s fun t => (t.sliceAt (byteAt (rec.drop 3) 0 % 16)).inject =
      (s.sliceAt (byteAt (rec.drop 3) 0 % 16)).inject ++
        [injectionOf mateChannel 0 (slice (rec.drop 3) 4 64) ((rec.drop 3).drop 68)]) ∧
  (∀ rec s, (rec.drop 3).length % 8 = 0 → s.standby = true → Completes (.queueEnd rec) s fun t =>
    t = (bodyEntries (rec.drop 3).length (rec.drop 3)).foldl (fun s e => s.takeQueueEnd (entryCtx e) (fld e 48 47) (fld e 23 0)) s) ∧
  (∀ rec s, (rec.drop 3).length = 16 → byteAt (rec.drop 3) 0 < 16 → s.role = 2 →
    (s.digest (byteAt (rec.drop 3) 0)).own.find? (fun x => decide (x.1 = beAt (rec.drop 3) 4 4)) = none →
    ((s.digest (byteAt (rec.drop 3) 0)).number ≠ beAt (rec.drop 3) 4 4 ∨ (s.digest (byteAt (rec.drop 3) 0)).entries ≠ beAt (rec.drop 3) 2 2) →
    Completes (.digest rec) s fun t => (t.digest (byteAt (rec.drop 3) 0)).mate =
      (s.digest (byteAt (rec.drop 3) 0)).mate ++ [(beAt (rec.drop 3) 4 4, beAt (rec.drop 3) 2 2, beAt (rec.drop 3) 8 8)]) ∧
  (∀ rec x s, (rec.drop 3).length = 16 → byteAt (rec.drop 3) 0 < 16 → s.role = 2 →
    (s.digest (byteAt (rec.drop 3) 0)).own.find? (fun x => decide (x.1 = beAt (rec.drop 3) 4 4)) = some x → x.2 = beAt (rec.drop 3) 8 8 →
    Completes (.digest rec) s fun t => (t.digest (byteAt (rec.drop 3) 0)).matched = true) ∧
  (∀ rec s, 4 ≤ (rec.drop 3).length → ((rec.drop 3).length - 4) % 8 = 0 → bitAt (byteAt (rec.drop 3) 0) 0 = true →
    s.mode ∈ [Mode.catchup, .shadow] → Completes (.start rec) s fun t =>
      t.mode = .shadow ∧ t.pair.phase = .inStep ∧ t.pair.positions = [] ∧ t.pair.turned = false) ∧
  (∀ s, s.mode = .shadow → s.pair.phase = .inStep → Completes .handoff s fun t =>
    t = s.turn 3 ∧ t.mode ∈ [Mode.proportional, .spring] ∧ t.pair.phase = .inStep) ∧
  (∀ rec s, 8 ≤ (rec.drop 3).length → s.mode = .catchup → s.pair.phase = .copying → Completes (.copy rec) s fun t =>
    let parts := s.pair.copied ++ [(byteAt (rec.drop 3) 0, beAt (rec.drop 3) 4 4, (rec.drop 3).drop 8)]
    (copyRead parts = none → t.pair = { s.pair with copied := parts }) ∧
      ((copyRead parts).isSome = true → t.pair.phase = .trial ∧ t.pair.copied = []))

/-- STATUS is kept on the active, and its flags act. A good HEARTBEAT on an UP lane ends silence, and one is sent on every UP lane each
time. Silence fences an active whose fault wire is high, loses the mate of one whose wire is low, turns a standby in step and leaves any
other standby alone. The fall of the wire turns a standby in step, leaves another alone and breaks the pair on an active; its rise is
kept. FAULT_REQUEST fences an active. SWITCHOVER is passed on by a standby and begun by an active. A standby in SHADOW begins its
self-tests. (R359; R360; R361; R379; R380; R381; R384; R385; R388; R389; R393.) -/
def Obligations.PairStateCommandsComplete : Prop :=
  (∀ rec s, (rec.drop 3).length = 8 → s.role = 1 → Completes (.status rec) s fun t =>
    t = (([3, 0, 1, 2, 4] : List Nat).foldl (fun u k => State.statusFlag u (beAt (rec.drop 3) 6 2) k)
      { s with pair := { s.pair with mateTicket := beAt (rec.drop 3) 0 4, mateDrained := beAt (rec.drop 3) 4 2 } }).settle) ∧
  (∀ rec s, (rec.drop 3).length = 8 → s.role = 1 → beAt (rec.drop 3) 6 2 = 0 → s.Quiet → Completes (.status rec) s fun t =>
    t.pair = { s.pair with mateTicket := beAt (rec.drop 3) 0 4, mateDrained := beAt (rec.drop 3) 4 2 }) ∧
  (∀ lane cell s, lane < 8 → s.laneUp lane = true → mateGood cell = true → mateKind cell = 2 → Completes (.heartbeat lane cell) s fun t =>
    t.pair.mate.heard = true ∧ t.pair.mate.lastBeat = s.now ∧ t.pair.mate.role = byteAt (matePayload cell) 0 ∧
      t.pair.mate.pairState = byteAt (matePayload cell) 1 ∧ t.pair.mate.flags = byteAt (matePayload cell) 2) ∧
  (∀ s, s.pairEnabled = true → s.mode ≠ .dormant → Completes .heartbeatSend s fun t => ∃ u : State,
    u.pair.hbSeq = (s.pair.hbSeq + 1) % 2 ^ 32 ∧ u.out.length = s.out.length + s.lanesUp.length ∧ t = u.finishSwitch.settle) ∧
  (∀ s, s.StoresRise → s.pair.mate.heard = true → s.pairEnabled = true → s.role = 1 → s.power.pins.pairFaultInN = true →
    Completes .heartbeatSilence s fun t => t.pair.fenced = true ∧ t.pair.mate.heard = false ∧ t.reg 0x9000 2 = 1 ∧
      t.mode = s.mode ∧ s.pair.mate.lastBeat + 2500 ≤ t.now) ∧
  (∀ s, s.pair.mate.heard = true → s.pairEnabled = true → s.role = 1 → s.power.pins.pairFaultInN = false →
    Completes .heartbeatSilence s fun t => t.pair.fenced = s.pair.fenced ∧ t.pair.phase = .apart ∧ t.mode = s.mode ∧
      t.pair.mateLost = (s.pair.mateLost || decide (s.pair.phase ≠ .apart)) ∧ s.pair.mate.lastBeat + 2500 ≤ t.now) ∧
  (∀ s, s.pair.mate.heard = true → s.pairEnabled = true → s.mode = .shadow → s.pair.phase = .inStep →
    Completes .heartbeatSilence s fun t => t.mode ∈ [Mode.proportional, .spring] ∧ t.pair.phase = .apart ∧ t.pair.mateLost = true) ∧
  (∀ s, s.pair.mate.heard = true → s.pairEnabled = true → s.role = 2 → ¬(s.mode = .shadow ∧ s.pair.phase = .inStep) →
    Completes .heartbeatSilence s fun t => t.pair.phase = .apart ∧ (s.mode = .catchup → t.mode = .bringup)) ∧
  (∀ s, s.mode = .shadow → s.pair.phase = .inStep → Completes .pairFaultInFall s fun t =>
    t.mode ∈ [Mode.proportional, .spring] ∧ t.pair.phase = .apart ∧ t.pair.mateLost = true) ∧
  (∀ s, s.role = 2 → ¬(s.mode = .shadow ∧ s.pair.phase = .inStep) → Completes .pairFaultInFall s fun t =>
    t.pair.phase = .apart ∧ (s.mode = .catchup → t.mode = .bringup)) ∧
  (∀ s, s.role = 1 → Completes .pairFaultInFall s fun t => t.power.pins.pairFaultInN = false ∧ t.mode = s.mode ∧
    t.pair.fenced = s.pair.fenced ∧ t.pair.phase = (if s.pair.phase = .inStep then .apart else s.pair.phase)) ∧
  (∀ s, Completes .pairFaultInRise s fun t => t = s.faultIn true ∧ t.power.pins.pairFaultInN = true) ∧
  (∀ o v s, s.StoresRise → s.checkWrite o 0x9000 8 v = .ok → beNat (canonical o.be (typeOf 0x9000 8) v) = 1 → s.role = 1 →
    Completes (.faultRequest o v) s fun t => t.pair.fenced = true ∧ t.reg 0x9000 2 = 1 ∧ t.mode = s.mode) ∧
  (∀ o v s, s.checkWrite o 0x9000 7 v = .ok → beNat (canonical o.be (typeOf 0x9000 7) v) = 1 → s.pair.phase = .inStep → s.role = 2 →
    Completes (.switchover o v) s fun t => t = (s.sendStatus 16).endWrite o 0x9000 7 (canonical o.be (typeOf 0x9000 7) v) .ok) ∧
  (∀ o v s, s.checkWrite o 0x9000 7 v = .ok → beNat (canonical o.be (typeOf 0x9000 7) v) = 1 → s.pair.phase = .inStep → s.role ≠ 2 →
    Completes (.switchover o v) s fun t =>
      t = ({ s with pair := { s.pair with switching := true } }).finishSwitch.endWrite o 0x9000 7 (canonical o.be (typeOf 0x9000 7) v) .ok) ∧
  (∀ s, s.mode = .shadow → Completes .selftestInterval s fun t => t.test.selfTesting = true ∧ t.pair.lastSelfTest = t.now ∧
    s.pair.lastSelfTest + s.reg 0x9000 0x0F * 1000000000 ≤ t.now)

/-- A flushed verdict block closes where it may. What waited VERDICT_WAIT_US is passed over. A digest of the active closes, marks go out,
and a fabric verdict record is sent. A lane goes back at its timeout, fails, trains again after 10 ms and reaches UP; the first lane
sends IDENTITY. A RECORDS cell is received, and its payloads join the record stream. An IDLE cell delivers its acknowledgements. A
register without a row of its own takes the value written. (R117; R356; R357; R359; R361; R363; R365; R375; R376; R382; R443; R445.) -/
def Obligations.PairTimesAndLanesComplete : Prop :=
  (∀ source b s, s.pair.blocks.find? (fun b => decide (b.source = source) && !b.flushed) = some b → Completes (.verdictFlush source) s fun t =>
    ∃ u : State, u.now = max s.now (b.first + s.reg 0x9000 0x0A) ∧
      u.pair.blocks = s.pair.blocks.map (fun x => if x = b then { x with flushed := true } else x) ∧ t = State.closeBlocks 161 u) ∧
  (∀ n k e s, s.pair.entries[k]? = some e → Completes (.verdictWaitExpiry 0 n k) s fun t =>
    e.since + s.reg 0x9000 0x0B * 1000 ≤ t.now ∧ (s.pair.entries = [e] → e.admits = false → t.pair.entries = [])) ∧
  (∀ n k f s, s.pair.frames[k]? = some f → Completes (.verdictWaitExpiry 1 n k) s fun t =>
    t = (s.reach (f.since + s.reg 0x9000 0x0B * 1000)).legExtra f) ∧
  (∀ n k b s, s.pair.fabricBits[k]? = some b → Completes (.verdictWaitExpiry 2 n k) s fun t =>
    t.pair.fabricBits = s.pair.fabricBits.erase b ∧ b.since + s.reg 0x9000 0x0B * 1000 ≤ t.now) ∧
  (∀ n k w s, (s.tmSlice n).waiting[k]? = some w → s.standby = true → s.streamVerdict w = none → (w.copy.isSome = true ∨ w.fromFabric = true) →
    Completes (.verdictWaitExpiry 3 n k) s fun t => t = (s.bump 0x9001 7).refuseShadow n w) ∧
  (∀ n k c s, s.pair.copyBits[k]? = some c → Completes (.verdictWaitExpiry 4 n k) s fun t =>
    t.pair.copyBits = s.pair.copyBits.erase c ∧ c.since + s.reg 0x9000 0x0B * 1000 ≤ t.now) ∧
  (∀ n s, n < 16 → (s.digest n).entries ≠ 0 → s.activeInPair = true → Completes (.digestClose n) s fun t =>
    (t.digest n).entries = 0 ∧ (t.digest n).number = ((s.digest n).number + 1) % 2 ^ 32 ∧ (s.digest n).since + 1000000 ≤ t.now) ∧
  (∀ s, s.mateInShadow = true → Completes .departureInterval s fun t =>
    t.pair.lastMark = t.now ∧ s.pair.lastMark + s.reg 0x9000 0x0D * 1000 ≤ t.now ∧ OnlyIn [.pair, .output, .time] s t) ∧
  (∀ unit cls x s, s.pair.openFabric.find? (fun x => decide (x.unit = unit) && decide (x.cls = cls)) = some x →
    Completes (.fabricVerdictFlush unit cls) s fun t => t.pair.openFabric = s.pair.openFabric.erase x ∧
      x.since + s.reg 0x9000 0x0E * 1000 ≤ t.now) ∧
  (∀ k s, k < 8 → (s.lane k).unacked ≠ [] → Completes (.mateReplayTimeout k) s fun t =>
    t = (s.reach ((s.lane k).lastAdvance + s.reg 0x3605 2)).goBackLane k) ∧
  (∀ k s, s.StoresRise → k < 8 → s.reg 0x3600 k ≠ 0 → s.reg 0x3600 k ≠ 6 → Completes (.mateLaneFail k) s fun t => t.reg 0x3600 k = 6) ∧
  (∀ k s, s.StoresRise → k < 8 → s.reg 0x3600 k = 6 → Completes (.mateLaneRetrain k) s fun t =>
    t.reg 0x3600 k = 1 ∧ (s.lane k).failedSince + 10000000 ≤ t.now) ∧
  (∀ k s, s.StoresRise → k < 8 → s.pairEnabled = true → s.mode ≠ .dormant → s.reg 0x3601 k ≠ 0 → s.reg 0x3600 k ∈ [1, 2] →
    Completes (.mateLinkUp k) s fun t => t.reg 0x3600 k = 3 ∧ t.mateLinkUp = true ∧
      (s.mateLinkUp = false → t.pair.sentIdentity = ((s.setReg 0x3600 k 3).setLane k { s.lane k with lastAdvance := s.now }).identity)) ∧
  (∀ k cell s, k < 8 → s.laneUp k = true → mateGood cell = true → mateKind cell = 1 → Completes (.mateRecordsCell k cell) s fun t =>
    t = ((s.recvMate k cell).2.foldl State.feedCell (s.recvMate k cell).1).settle) ∧
  (∀ k cell s, k < 8 → s.laneUp k = true → mateGood cell = true → mateKind cell = 0 → Completes (.mateIdleCell k cell) s fun t =>
    t = s.takeMateAck k cell) ∧
  (∀ o i p v s, s.StoresRise → s.Quiet → i ∈ [0x3005, 0x3006] → s.checkWrite o i p v = .ok →
    Completes (.registerWrite (.object o i p v)) s fun t => t.reg i p = beNat (canonical o.be (typeOf i p) v)) ∧
  (∀ bar off bytes s, Completes (.registerWrite (.bar bar off bytes)) s fun t => t = s.writeBar bar off bytes)

/-- For every command c and every state whose queue begins with c, the step is the command's effect on that state with the queue's rest.
That commands wait in a queue is the form of this model (log entry 15). (R32; R124.) -/
def Obligations.StepRunsTheFrontCommand : Prop :=
  ∀ c rest s, s.pending = c :: rest → step s = exec c { s with pending := rest }

/-- With an empty queue a step answers the same state. That nothing happens then is the model's choice (log entry 15): what the clock does
comes as commands of the table. (R32; R124.) -/
def Obligations.EmptyQueueIdles : Prop :=
  ∀ s, s.pending = [] → step s = .next s

/-- Right after reset the mode is DORMANT, PORESET_N is low, every register with a default reads it but for the state of PD000, which reads
ON. No session, job or batch, no table entry, rule, queue, meter or counter set, no lock, no message and no record of the pair is held,
the role is NONE, nothing waits and nothing has left. The stores have their form. That PORESET_N is low then is the model's choice (log
entry 5). (R36; R42; R57; R89; R121; R122; R131; R351; R474.) -/
def Obligations.ResetStateHoldsTheSpecsValues : Prop :=
  State.reset.mode = .dormant ∧ State.reset.power.pins.poresetN = false ∧ State.reset.role = 0 ∧
  (∀ i j, okey i j ≠ okey 0x2101 0 → State.reset.reg i j = dictDefault i j) ∧ State.reset.reg 0x2101 0 = 2 ∧
  State.reset.acc.sessions = [] ∧ State.reset.acc.jobs = [] ∧ (∀ k, (State.reset.batch k).isOpen = false) ∧
  State.reset.tables.em = [] ∧ State.reset.tables.lpm = [] ∧ State.reset.tables.rules = [] ∧ State.reset.meters = [] ∧
  State.reset.tm.queues = [] ∧ State.reset.stats.sets = [] ∧ State.reset.host.locks = [] ∧
  (∀ m, State.reset.mailbox m = .reset) ∧ State.reset.pair.entries = [] ∧ State.reset.pair.fenced = false ∧
  State.reset.pending = [] ∧ State.reset.out = [] ∧ State.reset.StoresRise

/-- From every state a step answers a next state: the block has no stop, and every command of the table has its effect. (R117; R151; R153.) -/
def Obligations.EveryStepIsSafe : Prop :=
  ∀ s, Safe s

/-- From every state whose stores of objects, octets and generations list their keys strictly rising, a step that runs a command answers a
state with the same property whose queue is the rest of the queue, whose time is not earlier, whose output extends the old one, whose
anti-rollback floor is not lower, and in which every revoked key is still revoked. The stores' form and the record of output are the
model's own (log entries 4 and 6). (R4; R5; R121; R122; R501; R537; R539.) -/
def Obligations.StepsKeepTheFormOfTheState : Prop :=
  ∀ c rest s t, s.pending = c :: rest → s.StoresRise → step s = .next t → t.StoresRise ∧ Onward { s with pending := rest } t

/-- A command that is not among those that may move the mode (mode requests that are due, resets, trips, losses, what makes a standby stale
or turns it, and what serves waiting requests) leaves MODE as it was, whatever the state. One that is not among those that may move the
fence (the fence causes of the pair, resets, an entry into BRINGUP and what serves waiting requests) leaves the fence as it was. (R36;
R72; R73; R75; R76; R351; R380; R389.) -/
def Obligations.OnlySomeCommandsMoveModeAndFence : Prop :=
  (∀ c s t, mayMove c = false → exec c s = .next t → t.mode = s.mode) ∧
  (∀ c s t, mayFence c = false → exec c s = .next t → t.pair.fenced = s.pair.fenced)

/-- Whatever state it starts from, each command named, of the lanes, Breakwater, replication, spill and the scheduler, answers only states
that are the same outside the parts listed with it: every other group of the state, every register of every other page, and MODE, the
fence, memory of what left, and time unless listed. (R21; R82; R155; R274; R285; R294; R306; R337.) -/
def Obligations.DataPathFrames : Prop :=
  (∀ p frame uncorrectable, StaysIn (.frameReceive p frame uncorrectable) [.power, .slices, .traffic, .fabric, .pair, .memory,
    .ports, .host, .stewards, .statistics, .draws, .output, .wrapped, .rings, .faults, .health, .mode, .registers 0x20, .registers
    0x21, .registers 0x30, .registers 0x70, .registers 0x71, .registers 0x90, .registers 0xA0, .registers 0xC0, .registers 0xC1,
    .registers 0xC8, .registers 0xD0]) ∧
  (StaysIn .switchingSlotGrant [.slices, .time]) ∧
  (∀ n, StaysIn (.sliceWakeDone n) [.slices, .host, .stewards, .output, .time, .wrapped, .rings, .registers 0x20, .registers 0x21,
    .registers 0xC0, .registers 0xC8]) ∧
  (∀ n, StaysIn (.sliceIdleExpiry n) [.slices, .time, .wrapped, .registers 0x21]) ∧
  (∀ n egress, StaysIn (.laneTake n egress) ([.power, .tables, .slices, .meters, .traffic, .fabric, .pair, .memory, .host,
    .stewards, .statistics, .draws, .output, .wrapped, .rings, .faults, .health, .mode] ++ anyRegister)) ∧
  (∀ n egress full, StaysIn (.passDispatch n egress full) [.power, .slices, .traffic, .fabric, .pair, .memory, .ports, .host,
    .stewards, .statistics, .draws, .output, .time, .wrapped, .rings, .faults, .health, .mode, .registers 0x20, .registers 0x21,
    .registers 0x43, .registers 0x70, .registers 0x71, .registers 0x7E, .registers 0x90, .registers 0xA0, .registers 0xC0,
    .registers 0xC1, .registers 0xC8, .registers 0xD0]) ∧
  (∀ n, StaysIn (.dgHoldClear n) [.power, .slices, .traffic, .fabric, .pair, .memory, .ports, .host, .stewards, .statistics,
    .draws, .output, .wrapped, .rings, .faults, .health, .mode, .registers 0x20, .registers 0x21, .registers 0x43, .registers
    0x70, .registers 0x71, .registers 0x7E, .registers 0x90, .registers 0xA0, .registers 0xC0, .registers 0xC1, .registers 0xC8,
    .registers 0xD0]) ∧
  (∀ n, StaysIn (.breakwaterVerdict n) [.power, .traffic, .fabric, .pair, .memory, .host, .stewards, .statistics, .draws, .output,
    .wrapped, .rings, .faults, .health, .mode, .registers 0x20, .registers 0x21, .registers 0x70, .registers 0x71, .registers
    0x90, .registers 0xA0, .registers 0xC0, .registers 0xC1, .registers 0xC8, .registers 0xD0]) ∧
  (∀ n, StaysIn (.replicateCopy n) [.traffic, .pair]) ∧
  (StaysIn .spillSegmentStart [.traffic, .memory, .wrapped, .registers 0x71]) ∧
  (∀ seg, StaysIn (.spillWriteDone seg) [.traffic, .memory, .wrapped, .registers 0x70, .registers 0x71]) ∧
  (∀ seg corrected bad lost descr, StaysIn (.readbackDone seg corrected bad lost descr) [.power, .traffic, .pair, .memory, .host,
    .stewards, .statistics, .testing, .draws, .output, .wrapped, .rings, .faults, .health, .mode, .fence, .registers 0x20,
    .registers 0x21, .registers 0x31, .registers 0x32, .registers 0x70, .registers 0x71, .registers 0x90, .registers 0xC0,
    .registers 0xC8, .registers 0xD0]) ∧
  (∀ n, StaysIn (.schedDecision n) [.slices, .traffic, .memory, .statistics, .wrapped, .rings, .registers 0x70, .registers 0x71,
    .registers 0xC1, .registers 0xC8]) ∧
  (∀ n, StaysIn (.voqRelease n) [.traffic, .fabric, .memory, .statistics, .output, .wrapped, .rings, .registers 0x70, .registers
    0x71, .registers 0xC1, .registers 0xC8]) ∧
  (∀ p, StaysIn (.frameTransmitDone p) [.traffic, .ports, .output, .wrapped, .rings, .registers 0x30, .registers 0xC8]) ∧
  (∀ p, StaysIn (.txFrameStart p) [.traffic, .host, .stewards, .statistics, .output, .wrapped, .rings, .registers 0x7E, .registers
    0xC0, .registers 0xC1, .registers 0xC8]) ∧
  (∀ k, StaysIn (.gateEvent k) [.traffic, .registers 0x7E]) ∧
  (∀ k, StaysIn (.configChangeTime k) [.traffic, .host, .stewards, .statistics, .output, .time, .wrapped, .rings, .registers 0x7E,
    .registers 0xC0, .registers 0xC1, .registers 0xC8]) ∧
  (∀ p, StaysIn (.linkDownHoldExpiry p) [.tables, .traffic, .memory, .ports, .statistics, .time, .wrapped, .rings, .registers
    0x30, .registers 0x70, .registers 0x71, .registers 0xC1]) ∧
  (∀ p cause lane, StaysIn (.linkFaultOnset p cause lane) [.tables, .traffic, .memory, .ports, .statistics, .wrapped, .rings,
    .registers 0x30, .registers 0x31, .registers 0x32, .registers 0x70, .registers 0x71, .registers 0xC1]) ∧
  (∀ p, StaysIn (.flushDone p) [.host, .stewards, .output, .wrapped, .rings, .registers 0x30, .registers 0x70, .registers 0xC0,
    .registers 0xC8]) ∧
  (∀ p, StaysIn (.linkUp p) [.time, .wrapped, .registers 0x30])

/-- Whatever state it starts from, each command named, of power, clocks, sensors, AVS, warm restart, PCIe reset and modules, answers only
states that are the same outside the parts listed with it: every other group of the state, every register of every other page, and MODE,
the fence, memory of what left, and time unless listed. (R50; R72; R76; R91; R93; R97; R102; R111.) -/
def Obligations.PowerFrames : Prop :=
  (∀ o v, StaysIn (.modeRequest o v) [.access, .power, .epochs, .pair, .output]) ∧
  (StaysIn .drainTimeout [.power, .time]) ∧
  (StaysIn .wakeAfterSExpiry [.power, .time]) ∧
  (StaysIn .powerOnStart [.power]) ∧
  (∀ bad0 bad1 board, StaysIn (.pwrGoodMainRise bad0 bad1 board) ([.power, .firmware, .stewards, .draws, .faults, .health] ++
    anyRegister)) ∧
  (StaysIn .supplyTimeout [.power, .time, .registers 0x23]) ∧
  (∀ temps, StaysIn (.sensorSample temps) [.power, .faults, .health, .registers 0x23, .registers 0xD0]) ∧
  (StaysIn .twclkRestored [.power, .registers 0x22]) ∧
  (∀ k, StaysIn (.refclkLoss k) [.power, .tables, .traffic, .fabric, .pair, .memory, .ports, .host, .statistics, .testing, .draws,
    .output, .wrapped, .rings, .faults, .health, .registers 0x21, .registers 0x22, .registers 0x30, .registers 0x31, .registers
    0x32, .registers 0x34, .registers 0x36, .registers 0x70, .registers 0x71, .registers 0x80, .registers 0xC1, .registers 0xD0]) ∧
  (∀ k ppb, StaysIn (.refclkReturn k ppb) [.power, .registers 0x22]) ∧
  (∀ rail target, StaysIn (.avsEvaluate rail target) [.power, .output]) ∧
  (∀ rail ok read, StaysIn (.avsWriteDone rail ok read) [.power, .draws, .output, .wrapped, .faults, .health, .registers 0x23,
    .registers 0xD0]) ∧
  (StaysIn .warmresetNLow [.access, .power, .tables, .pair, .memory, .host, .stewards, .output, .wrapped, .mode, .registers 0x10,
    .registers 0x20, .registers 0xA8]) ∧
  (StaysIn .warmRestartDone [.power, .firmware, .pair, .stewards, .statistics, .output, .wrapped, .rings, .faults, .registers
    0xC1, .registers 0xE0]) ∧
  (∀ o, StaysIn (.resetRequestWarm o) [.access, .power, .epochs, .tables, .pair, .memory, .host, .stewards, .output, .time,
    .wrapped, .mode, .registers 0x10, .registers 0x20, .registers 0xA8]) ∧
  (StaysIn .pciePerstNLow [.power, .host, .wrapped, .registers 0xA8]) ∧
  (StaysIn .pciePerstNHigh [.power]) ∧
  (StaysIn .trstNLow [.power, .testing, .health]) ∧
  (∀ n, StaysIn (.moduleInsertion n) ([.power, .wrapped] ++ anyRegister)) ∧
  (∀ n, StaysIn (.moduleResetRelease n) [.power, .time]) ∧
  (∀ n ack image, StaysIn (.moduleStatePoll n ack image) ([.power, .tables, .traffic, .memory, .ports, .statistics, .testing,
    .draws, .output, .wrapped, .rings, .faults, .health] ++ anyRegister)) ∧
  (∀ n, StaysIn (.moduleReadTimeout n) ([.power, .wrapped] ++ anyRegister)) ∧
  (∀ n, StaysIn (.moduleRemoval n) ([.power, .tables, .traffic, .memory, .ports, .statistics, .wrapped, .rings] ++ anyRegister)) ∧
  (∀ n, StaysIn (.modIntNAssert n) ([.power, .ports, .statistics, .testing, .draws, .output, .wrapped, .rings, .faults, .health]
    ++ anyRegister)) ∧
  (∀ o n v, StaysIn (.reread o n v) ([.access, .power, .epochs, .pair, .ports, .output] ++ anyRegister)) ∧
  (∀ o n v, StaysIn (.cmisPassthrough o n v) [.access, .power, .epochs, .pair, .output])

/-- Whatever state it starts from, each command named, of POA sessions, objects, tables, iterators and rule sets, answers only states that
are the same outside the parts listed with it: every other group of the state, every register of every other page, and MODE, the fence,
memory of what left, and time unless listed. (R126; R130; R143; R144; R146; R226; R239; R265.) -/
def Obligations.AccessFrames : Prop :=
  (∀ p frame, StaysIn (.poaOpen p frame) [.access, .draws, .output, .wrapped, .registers 0x10, .registers 0x31]) ∧
  (∀ p frame, StaysIn (.poaClose p frame) [.access, .wrapped, .registers 0x10, .registers 0x31]) ∧
  (∀ session seq, StaysIn (.seqGapTimeout session seq) [.access, .time, .wrapped, .registers 0x31]) ∧
  (∀ session, StaysIn (.sessionIdleExpiry session) [.access, .time]) ∧
  (∀ o ix j ty, StaysIn (.read o ix j ty) [.access, .testing, .draws, .health]) ∧
  (∀ o ix j, StaysIn (.blobSegmentTimeout o ix j) [.access, .time]) ∧
  (∀ o ix j, StaysIn (.blobCopyExpiry o ix j) [.access, .time]) ∧
  (∀ o ix j, StaysIn (.describe o ix j) [.access]) ∧
  (∀ o ix j, StaysIn (.next o ix j) [.access]) ∧
  (∀ k, StaysIn (.batchIdleExpiry k) [.access, .time, .wrapped, .registers 0x5C]) ∧
  (∀ o v, StaysIn (.emRegionCreate o v) [.access, .epochs, .tables, .pair, .output, .registers 0x58]) ∧
  (∀ o v, StaysIn (.lpmRegionCreate o v) [.access, .epochs, .tables, .pair, .output, .registers 0x58]) ∧
  (StaysIn .learnServiceCommit [.epochs, .tables]) ∧
  (∀ ri, StaysIn (.ageSweep ri) [.tables]) ∧
  (∀ o region len key, StaysIn (.search o region len key) [.access, .epochs, .tables, .pair, .output]) ∧
  (∀ o region, StaysIn (.iterOpen o region) [.access, .epochs, .tables, .pair, .output]) ∧
  (∀ o region iter count, StaysIn (.iterNext o region iter count) [.access, .epochs, .tables, .pair, .output]) ∧
  (∀ o region iter, StaysIn (.iterClose o region iter) [.access, .epochs, .tables, .pair, .output]) ∧
  (∀ slot, StaysIn (.iterTimeout slot) [.tables, .time]) ∧
  (∀ o v, StaysIn (.flushRequest o v) [.access, .epochs, .tables, .pair, .output]) ∧
  (∀ ri port, StaysIn (.flushScanDone ri port) [.epochs, .tables]) ∧
  (∀ o v, StaysIn (.ruleSetCreate o v) [.access, .tables, .pair, .output]) ∧
  (∀ o set pos, StaysIn (.readRule o set pos) [.access, .epochs, .pair, .draws, .output]) ∧
  (∀ o set block, StaysIn (.readBlock o set block) [.access, .epochs, .pair, .draws, .output])

/-- Whatever state it starts from, each command named, of queues, replication groups, scheduling, meters and gate windows, answers only
states that are the same outside the parts listed with it: every other group of the state, every register of every other page, and MODE,
the fence, memory of what left, and time unless listed. (R287; R290; R294; R300; R302; R311; R315; R319.) -/
def Obligations.TrafficFrames : Prop :=
  (∀ o v, StaysIn (.queueCreate o v) [.access, .traffic, .pair, .statistics, .output, .wrapped, .rings]) ∧
  (∀ o h, StaysIn (.enable o h) [.access, .epochs, .traffic, .pair, .memory, .output, .wrapped, .registers 0x70, .registers 0x71]) ∧
  (∀ o h, StaysIn (.disable o h) [.access, .epochs, .traffic, .pair, .memory, .output, .wrapped, .registers 0x70, .registers 0x71]) ∧
  (∀ o h limits, StaysIn (.setLimits o h limits) [.access, .epochs, .traffic, .pair, .memory, .output, .wrapped, .registers 0x70,
    .registers 0x71]) ∧
  (∀ o v, StaysIn (.queueQuery o v) [.access, .epochs, .pair, .output]) ∧
  (∀ o v, StaysIn (.mcastSet o v) [.access, .epochs, .traffic, .pair, .output]) ∧
  (∀ o v, StaysIn (.mcastQuery o v) [.access, .epochs, .pair, .output]) ∧
  (∀ o v, StaysIn (.nodeCreate o v) [.access, .traffic, .pair, .output, .registers 0x78]) ∧
  (∀ o v, StaysIn (.schedSet o v) [.access, .epochs, .traffic, .pair, .output]) ∧
  (∀ o v, StaysIn (.schedQuery o v) [.access, .epochs, .pair, .output]) ∧
  (∀ o v, StaysIn (.meterCreate o v) [.access, .meters, .pair, .output]) ∧
  (∀ o v, StaysIn (.meterSet o v) [.access, .epochs, .meters, .pair, .output]) ∧
  (∀ o v, StaysIn (.meterQuery o v) [.access, .epochs, .pair, .output]) ∧
  (∀ o k v, StaysIn (.windowAdmin o k v) [.access, .epochs, .traffic, .pair, .output, .registers 0x7E]) ∧
  (∀ o k v, StaysIn (.windowEnable o k v) [.access, .epochs, .traffic, .pair, .output, .registers 0x7E]) ∧
  (∀ o k v, StaysIn (.windowPort o k v) [.access, .epochs, .traffic, .pair, .output, .registers 0x7E]) ∧
  (∀ o w v, StaysIn (.watchQueue o w v) ([.access, .epochs, .traffic, .pair, .output] ++ anyRegister)) ∧
  (∀ w, StaysIn (.watchIntervalEnd w) ([.traffic, .time] ++ anyRegister))

/-- Whatever state it starts from, each command named, of the fabric cells, their times and the link states, answers only states that are
the same outside the parts listed with it: every other group of the state, every register of every other page, and MODE, the fence,
memory of what left, and time unless listed. (R328; R329; R333; R335; R337; R341; R342; R346.) -/
def Obligations.FabricFrames : Prop :=
  (∀ l cell, StaysIn (.dataCell l cell) [.traffic, .fabric, .pair, .ports, .output, .wrapped, .rings, .registers 0x21, .registers
    0x34, .registers 0x80, .registers 0xC8]) ∧
  (∀ l cell, StaysIn (.idleCell l cell) [.traffic, .fabric, .pair, .ports, .output, .wrapped, .rings, .registers 0x21, .registers
    0x34, .registers 0x80, .registers 0xC8]) ∧
  (∀ l, StaysIn (.replayTimeout l) [.fabric, .ports, .output, .time, .wrapped, .registers 0x21, .registers 0x34, .registers 0x80]) ∧
  (∀ l unit srcLink, StaysIn (.reassemblyTimeout l unit srcLink) [.fabric, .time, .wrapped, .registers 0x80]) ∧
  (∀ unit cls, StaysIn (.reseqTimeout unit cls) [.traffic, .fabric, .time, .wrapped, .registers 0x80]) ∧
  (∀ l cell, StaysIn (.request l cell) [.traffic, .fabric, .pair, .ports, .output, .wrapped, .rings, .registers 0x21, .registers
    0x34, .registers 0x80, .registers 0xC8]) ∧
  (∀ l cell, StaysIn (.grant l cell) [.traffic, .fabric, .pair, .ports, .output, .wrapped, .rings, .registers 0x21, .registers
    0x34, .registers 0x80, .registers 0xC8]) ∧
  (StaysIn .grantIssue [.fabric, .output, .time]) ∧
  (∀ unit cls, StaysIn (.requestRefresh unit cls) [.fabric, .output, .time]) ∧
  (∀ l cell, StaysIn (.hello l cell) [.traffic, .fabric, .pair, .ports, .output, .wrapped, .rings, .registers 0x21, .registers
    0x34, .registers 0x80, .registers 0xC8]) ∧
  (∀ l cell, StaysIn (.quiet l cell) [.traffic, .fabric, .pair, .ports, .output, .wrapped, .rings, .registers 0x21, .registers
    0x34, .registers 0x80, .registers 0xC8]) ∧
  (∀ l cell, StaysIn (.quietDone l cell) [.traffic, .fabric, .pair, .ports, .output, .wrapped, .rings, .registers 0x21, .registers
    0x34, .registers 0x80, .registers 0xC8]) ∧
  (∀ l, StaysIn (.quietTimeout l) [.fabric, .ports, .output, .time, .wrapped, .registers 0x21, .registers 0x34, .registers 0x80]) ∧
  (∀ l cell, StaysIn (.fault l cell) [.traffic, .fabric, .pair, .ports, .output, .wrapped, .rings, .registers 0x21, .registers
    0x34, .registers 0x80, .registers 0xC8]) ∧
  (∀ l cause, StaysIn (.linkFail l cause) [.fabric, .ports, .output, .wrapped, .registers 0x21, .registers 0x34, .registers 0x80]) ∧
  (∀ l, StaysIn (.signalLossHoldExpiry l) [.fabric, .ports, .output, .wrapped, .registers 0x21, .registers 0x34, .registers 0x80]) ∧
  (∀ l, StaysIn (.linkRetrain l) [.time, .registers 0x34]) ∧
  (∀ l, StaysIn (.linkUpHoldExpiry l) [.fabric, .output, .time, .wrapped, .registers 0x80]) ∧
  (∀ g b, StaysIn (.fenceHoldExpiry g b) [.fabric, .ports, .output, .time, .wrapped, .registers 0x21, .registers 0x34, .registers
    0x80]) ∧
  (StaysIn .fabricMeasure [.fabric, .ports, .output, .time, .wrapped, .registers 0x21, .registers 0x34, .registers 0x80]) ∧
  (∀ q elapsed, StaysIn (.quadWakeDone q elapsed) [.fabric, .host, .stewards, .output, .time, .wrapped, .rings, .registers 0x20,
    .registers 0x21, .registers 0xC0, .registers 0xC8])

/-- Whatever state it starts from, each command named, of the stacks, the ports, timestamps, margins and the die-to-die groups, answers only
states that are the same outside the parts listed with it: every other group of the state, every register of every other page, and MODE,
the fence, memory of what left, and time unless listed. (R396; R398; R402; R408; R413; R421; R424; R435.) -/
def Obligations.MemoryAndPortFrames : Prop :=
  (∀ h, StaysIn (.hbmIdleExpiry h) [.memory, .time]) ∧
  (∀ h, StaysIn (.selfRefreshEnter h) [.memory, .wrapped, .registers 0x21, .registers 0x71]) ∧
  (∀ h elapsed bad, StaysIn (.hbmWakeDone h elapsed bad) [.power, .traffic, .pair, .memory, .host, .stewards, .statistics,
    .testing, .draws, .output, .time, .wrapped, .rings, .faults, .health, .mode, .fence, .registers 0x20, .registers 0x21,
    .registers 0x31, .registers 0x32, .registers 0x70, .registers 0x71, .registers 0x90, .registers 0xC0, .registers 0xC8,
    .registers 0xD0]) ∧
  (∀ h, StaysIn (.hbmWakeFailed h) [.power, .traffic, .pair, .memory, .host, .stewards, .statistics, .testing, .draws, .output,
    .time, .wrapped, .rings, .faults, .health, .mode, .fence, .registers 0x20, .registers 0x21, .registers 0x31, .registers 0x32,
    .registers 0x70, .registers 0x71, .registers 0x90, .registers 0xC0, .registers 0xC8, .registers 0xD0]) ∧
  (∀ cc, StaysIn (.refreshBoundary cc) [.memory, .time]) ∧
  (∀ cc, StaysIn (.bankRefresh cc) [.memory]) ∧
  (∀ cc, StaysIn (.caParityAlert cc) [.power, .traffic, .pair, .memory, .host, .stewards, .statistics, .testing, .draws, .output,
    .wrapped, .rings, .faults, .health, .mode, .fence, .registers 0x20, .registers 0x21, .registers 0x31, .registers 0x32,
    .registers 0x70, .registers 0x71, .registers 0x90, .registers 0xC0, .registers 0xC8, .registers 0xD0]) ∧
  (∀ cc, StaysIn (.calRound cc) [.memory]) ∧
  (∀ cc left right, StaysIn (.calProbeDone cc left right) [.power, .traffic, .pair, .memory, .host, .stewards, .statistics,
    .testing, .draws, .output, .wrapped, .rings, .faults, .health, .mode, .fence, .registers 0x20, .registers 0x21, .registers
    0x31, .registers 0x32, .registers 0x70, .registers 0x71, .registers 0x90, .registers 0xC0, .registers 0xC8, .registers 0xD0]) ∧
  (∀ o cc v, StaysIn (.hbmDelays o cc v) [.access, .epochs, .pair, .memory, .output]) ∧
  (StaysIn .delaySave [.memory, .time]) ∧
  (∀ corrected bad, StaysIn (.scrub corrected bad) [.power, .traffic, .pair, .memory, .host, .stewards, .statistics, .testing,
    .draws, .output, .time, .wrapped, .rings, .faults, .health, .mode, .fence, .registers 0x20, .registers 0x21, .registers 0x31,
    .registers 0x32, .registers 0x70, .registers 0x71, .registers 0x90, .registers 0xC0, .registers 0xC8, .registers 0xD0]) ∧
  (∀ o p v, StaysIn (.portMode o p v) [.access, .epochs, .pair, .statistics, .testing, .draws, .output, .wrapped, .rings, .faults,
    .health, .registers 0x30, .registers 0x31, .registers 0x32, .registers 0xD0]) ∧
  (∀ o p v, StaysIn (.portSlice o p v) [.access, .epochs, .pair, .output, .registers 0x30]) ∧
  (∀ o p, StaysIn (.portAdminEnable o p) [.access, .power, .epochs, .tables, .traffic, .pair, .memory, .ports, .statistics,
    .testing, .draws, .output, .wrapped, .rings, .faults, .health, .registers 0x30, .registers 0x31, .registers 0x32, .registers
    0x70, .registers 0x71, .registers 0xC1, .registers 0xD0]) ∧
  (∀ o p, StaysIn (.portAdminDisable o p) [.access, .power, .epochs, .tables, .traffic, .pair, .memory, .ports, .statistics,
    .testing, .draws, .output, .wrapped, .rings, .faults, .health, .registers 0x30, .registers 0x31, .registers 0x32, .registers
    0x70, .registers 0x71, .registers 0xC1, .registers 0xD0]) ∧
  (∀ p, StaysIn (.moduleActivationStep p) [.power, .ports, .statistics, .testing, .draws, .output, .wrapped, .rings, .faults,
    .health, .registers 0x30, .registers 0x31, .registers 0x32, .registers 0xD0]) ∧
  (∀ p, StaysIn (.moduleActivationTimeout p) [.ports, .registers 0x30]) ∧
  (∀ o v, StaysIn (.ptpStepNs o v) [.access, .epochs, .pair, .ports, .output]) ∧
  (∀ o p v, StaysIn (.txStampPop o p v) [.access, .epochs, .pair, .ports, .output]) ∧
  (StaysIn .ppsInEdge [.power, .wrapped, .registers 0x31]) ∧
  (StaysIn .ppsOutSecond [.power, .ports, .time]) ∧
  (∀ lane coef up before, StaysIn (.adaptStep lane coef up before) ([.ports, .wrapped] ++ anyRegister)) ∧
  (∀ lane after, StaysIn (.adaptEvaluate lane after) ([.ports, .time, .wrapped] ++ anyRegister)) ∧
  (∀ lane height width snr ber corrected uncorrected symbols, StaysIn (.marginMeasure lane height width snr ber corrected
    uncorrected symbols) ([.ports, .wrapped, .faults, .health] ++ anyRegister)) ∧
  (∀ g toTm hits, StaysIn (.dgUncorrectableFlit g toTm hits) [.power, .tables, .slices, .traffic, .fabric, .pair, .memory, .ports,
    .host, .stewards, .statistics, .testing, .draws, .output, .wrapped, .rings, .faults, .health, .mode, .fence, .registers 0x20,
    .registers 0x21, .registers 0x30, .registers 0x31, .registers 0x32, .registers 0x37, .registers 0x70, .registers 0x71,
    .registers 0x90, .registers 0xA0, .registers 0xC0, .registers 0xC1, .registers 0xC8, .registers 0xD0]) ∧
  (∀ g, StaysIn (.dgFail g) [.tables, .slices, .traffic, .memory, .ports, .statistics, .testing, .draws, .wrapped, .rings,
    .faults, .health, .registers 0x30, .registers 0x31, .registers 0x32, .registers 0x37, .registers 0x70, .registers 0x71,
    .registers 0xC1, .registers 0xD0]) ∧
  (∀ g good, StaysIn (.dgRetrain g good) [.ports, .time, .registers 0x37]) ∧
  (∀ g margin corrected, StaysIn (.dgCalRound g margin corrected) [.ports, .wrapped, .registers 0x37])

/-- Whatever state it starts from, each command named, of rings, doorbells, mailboxes, locks and steward threads, answers only states that
are the same outside the parts listed with it: every other group of the state, every register of every other page, and MODE, the fence,
memory of what left, and time unless listed. (R447; R454; R463; R466; R469; R474; R480; R485.) -/
def Obligations.HostAndStewardFrames : Prop :=
  (∀ ix slots, StaysIn (.subDoorbell ix slots) [.host, .stewards, .statistics, .draws, .output, .wrapped, .rings, .registers 0xA0,
    .registers 0xC0, .registers 0xC1, .registers 0xC8]) ∧
  (∀ ix slots, StaysIn (.scanResume ix slots) [.host, .stewards, .statistics, .draws, .output, .wrapped, .rings, .registers 0xA0,
    .registers 0xC0, .registers 0xC1, .registers 0xC8]) ∧
  (∀ n ok buffer, StaysIn (.inject n ok buffer) [.slices, .pair, .host, .stewards, .statistics, .draws, .output, .wrapped, .rings,
    .registers 0xA0, .registers 0xC0, .registers 0xC1, .registers 0xC8]) ∧
  (∀ ix slot, StaysIn (.receiveBuffer ix slot) [.host, .stewards, .statistics, .draws, .output, .wrapped, .rings, .registers 0xA0,
    .registers 0xC0, .registers 0xC1, .registers 0xC8]) ∧
  (∀ ix free, StaysIn (.stagedRetry ix free) [.host, .output]) ∧
  (∀ ix, StaysIn (.coalesceExpiry ix) [.host, .output, .time]) ∧
  (∀ o h, StaysIn (.ringEnable o h) [.access, .epochs, .pair, .host, .stewards, .statistics, .draws, .output, .wrapped, .rings,
    .registers 0xA0, .registers 0xC0, .registers 0xC1, .registers 0xC8]) ∧
  (∀ o h, StaysIn (.ringDisable o h) [.access, .epochs, .pair, .host, .stewards, .statistics, .draws, .output, .wrapped, .rings,
    .registers 0xA0, .registers 0xC0, .registers 0xC1, .registers 0xC8]) ∧
  (∀ o v, StaysIn (.channelCreate o v) [.access, .pair, .host, .output]) ∧
  (∀ o v, StaysIn (.channelSet o v) [.access, .epochs, .pair, .host, .output]) ∧
  (∀ o v, StaysIn (.channelQuery o v) [.access, .epochs, .pair, .output]) ∧
  (∀ k v, StaysIn (.dbStatus k v) [.host, .stewards, .output]) ∧
  (∀ k v, StaysIn (.dbMask k v) [.host, .stewards, .output]) ∧
  (∀ k v, StaysIn (.dbRing k v) [.host, .stewards, .output]) ∧
  (∀ master m d w, StaysIn (.txData master m d w) [.firmware, .host, .stewards, .draws, .output, .wrapped, .rings, .faults,
    .health, .registers 0xA8, .registers 0xB0, .registers 0xC8, .registers 0xD0]) ∧
  (∀ master m d, StaysIn (.rxData master m d) [.firmware, .host, .stewards, .draws, .output, .wrapped, .rings, .faults, .health,
    .registers 0xB0, .registers 0xC8, .registers 0xD0]) ∧
  (∀ master m d, StaysIn (.abandon master m d) [.firmware, .host, .stewards, .draws, .wrapped, .rings, .faults, .health,
    .registers 0xA8, .registers 0xB0, .registers 0xC8, .registers 0xD0]) ∧
  (∀ m, StaysIn (.mbStalemate m) [.host, .stewards, .output, .time, .wrapped, .rings, .registers 0xA8, .registers 0xC0, .registers
    0xC8]) ∧
  (∀ m l, StaysIn (.lockAcquire m l) [.host]) ∧
  (∀ m l, StaysIn (.lockRelease m l) [.host, .wrapped, .registers 0xA9]) ∧
  (∀ o l v, StaysIn (.lockForce o l v) [.access, .epochs, .pair, .host, .output, .wrapped, .registers 0xA9]) ∧
  (∀ t rd target addr, StaysIn (.tstart t rd target addr) [.stewards, .wrapped, .rings, .registers 0x21, .registers 0xC8]) ∧
  (∀ t rd target, StaysIn (.tstop t rd target) [.stewards, .wrapped, .rings, .registers 0xC8]) ∧
  (∀ t rd target bits, StaysIn (.tsig t rd target bits) [.stewards, .wrapped, .rings, .registers 0xC8]) ∧
  (∀ t rd mask, StaysIn (.twfe t rd mask) [.stewards, .wrapped, .rings, .registers 0x21, .registers 0xC8]) ∧
  (∀ t rd mask, StaysIn (.tpoll t rd mask) [.stewards, .wrapped, .rings, .registers 0xC8]) ∧
  (∀ t, StaysIn (.tyield t) [.stewards, .wrapped, .rings, .registers 0xC8]) ∧
  (∀ t rd target, StaysIn (.tstat t rd target) [.stewards, .wrapped, .rings, .registers 0xC8]) ∧
  (∀ t, StaysIn (.threadWake t) [.stewards, .wrapped, .rings, .registers 0x21, .registers 0xC8]) ∧
  (∀ t, StaysIn (.tcmpExpiry t) [.stewards, .time]) ∧
  (∀ t, StaysIn (.twdogExpiry t) [.firmware, .stewards, .draws, .time, .wrapped, .faults, .health, .registers 0xB0, .registers 0xD0]) ∧
  (∀ t cause, StaysIn (.threadFault t cause) [.firmware, .stewards, .draws, .wrapped, .rings, .faults, .health, .registers 0xB0,
    .registers 0xC8, .registers 0xD0]) ∧
  (∀ die, StaysIn (.slackWater die) [.firmware, .host, .stewards, .draws, .output, .wrapped, .rings, .faults, .health, .registers
    0xB0, .registers 0xC0, .registers 0xC8, .registers 0xD0]) ∧
  (∀ c, StaysIn (.coreRetainExpiry c) [.stewards, .time, .wrapped, .registers 0x21]) ∧
  (∀ ts, StaysIn (.debugHalt ts) [.stewards]) ∧
  (∀ ts, StaysIn (.debugResume ts) [.stewards, .wrapped, .rings, .registers 0x21, .registers 0xC8]) ∧
  (∀ o tm n v, StaysIn (.threadWeight o tm n v) [.access, .epochs, .pair, .stewards, .output, .registers 0xB0]) ∧
  (∀ o tm n v, StaysIn (.puntQueue o tm n v) [.access, .epochs, .pair, .stewards, .output, .registers 0xB0]) ∧
  (∀ o v, StaysIn (.integratorRestart o v) [.access, .epochs, .pair, .stewards, .output, .wrapped, .registers 0x21])

/-- Whatever state it starts from, each command named, of counters, snapshots, firmware stages, pattern tests and self-tests, answers only
states that are the same outside the parts listed with it: every other group of the state, every register of every other page, and MODE,
the fence, memory of what left, and time unless listed. (R500; R503; R505; R513; R525; R532; R543; R551.) -/
def Obligations.CounterFirmwareAndTestFrames : Prop :=
  (∀ o idx sub, StaysIn (.clearObject o idx sub) ([.access, .epochs, .traffic, .pair, .statistics, .output, .wrapped, .rings] ++
    anyRegister)) ∧
  (∀ o idx, StaysIn (.clearIndex o idx) ([.access, .epochs, .traffic, .pair, .statistics, .output, .wrapped, .rings] ++ anyRegister)) ∧
  (∀ o, StaysIn (.clearAllObjects o) ([.access, .epochs, .traffic, .pair, .statistics, .output, .wrapped, .rings] ++ anyRegister)) ∧
  (∀ o h, StaysIn (.clearCounterSet o h) ([.access, .epochs, .traffic, .pair, .statistics, .output, .wrapped, .rings] ++ anyRegister)) ∧
  (∀ o h, StaysIn (.clearQueueStats o h) ([.access, .epochs, .traffic, .pair, .statistics, .output, .wrapped, .rings] ++ anyRegister)) ∧
  (∀ o h, StaysIn (.clearChannelStats o h) ([.access, .epochs, .traffic, .pair, .statistics, .output, .wrapped, .rings] ++
    anyRegister)) ∧
  (∀ o entry, StaysIn (.clearHistogram o entry) ([.access, .epochs, .traffic, .pair, .statistics, .output, .wrapped, .rings] ++
    anyRegister)) ∧
  (∀ o, StaysIn (.clearEverything o) ([.access, .epochs, .traffic, .pair, .statistics, .output, .wrapped, .rings] ++ anyRegister)) ∧
  (∀ o v, StaysIn (.counterSetCreate o v) [.access, .pair, .statistics, .output, .wrapped, .rings]) ∧
  (∀ kind ix err, StaysIn (.statsFlush kind ix err) [.power, .traffic, .pair, .memory, .host, .stewards, .statistics, .testing,
    .draws, .output, .wrapped, .rings, .faults, .health, .mode, .fence, .registers 0x20, .registers 0x21, .registers 0x31,
    .registers 0x32, .registers 0x70, .registers 0x71, .registers 0x90, .registers 0xC0, .registers 0xC1, .registers 0xC8,
    .registers 0xD0]) ∧
  (∀ o v, StaysIn (.snapshot o v) [.access, .epochs, .pair, .statistics, .output, .wrapped, .rings, .registers 0xC0]) ∧
  (StaysIn .snapshotReady [.statistics, .wrapped, .rings]) ∧
  (∀ o v, StaysIn (.snapshotQuery o v) [.access, .epochs, .pair, .output]) ∧
  (∀ o v, StaysIn (.wrapQuery o v) [.access, .epochs, .pair, .output]) ∧
  (∀ o v, StaysIn (.counterSetQuery o v) [.access, .epochs, .pair, .output]) ∧
  (∀ o v, StaysIn (.histogramQuery o v) [.access, .epochs, .pair, .output]) ∧
  (∀ o v, StaysIn (.traceRead o v) [.access, .epochs, .pair, .output]) ∧
  (∀ o v, StaysIn (.ringReset o v) [.access, .epochs, .pair, .statistics, .output, .wrapped, .rings]) ∧
  (∀ o v, StaysIn (.stageOpen o v) [.access, .firmware, .epochs, .pair, .output, .faults, .registers 0xE0]) ∧
  (StaysIn .stageEraseDone [.registers 0xE0]) ∧
  (∀ o offset last data, StaysIn (.stageData o offset last data) [.access, .firmware, .epochs, .pair, .output, .wrapped, .faults,
    .registers 0xE0]) ∧
  (∀ p, StaysIn (.pieceEraseDone p) [.firmware, .faults]) ∧
  (StaysIn .stageHashDone [.registers 0xE0]) ∧
  (∀ o, StaysIn (.atNextStart o) [.access, .firmware, .epochs, .pair, .output, .faults, .registers 0xE0]) ∧
  (∀ o, StaysIn (.warmNow o) [.access, .firmware, .epochs, .pair, .output, .faults, .registers 0xE0]) ∧
  (∀ good, StaysIn (.activateInstallDone good) [.access, .power, .firmware, .tables, .pair, .memory, .host, .stewards, .draws,
    .output, .time, .wrapped, .faults, .health, .mode, .registers 0x10, .registers 0x20, .registers 0xA8, .registers 0xD0,
    .registers 0xE0]) ∧
  (∀ o v, StaysIn (.confirm o v) [.access, .firmware, .epochs, .pair, .output, .faults, .registers 0xE0]) ∧
  (StaysIn .confirmDelayExpiry [.firmware, .time, .faults, .registers 0xE0]) ∧
  (∀ o v, StaysIn (.patternStart o v) [.access, .epochs, .pair, .testing, .output, .health, .registers 0x31, .registers 0x32]) ∧
  (∀ o v, StaysIn (.patternStop o v) [.access, .epochs, .pair, .statistics, .testing, .draws, .output, .wrapped, .rings, .faults,
    .health, .registers 0x31, .registers 0x32, .registers 0xD0]) ∧
  (∀ k, StaysIn (.patternDurationEnd k) [.statistics, .testing, .draws, .time, .wrapped, .rings, .faults, .health, .registers
    0x31, .registers 0x32, .registers 0xD0]) ∧
  (∀ o v, StaysIn (.bistStart o v) [.access, .epochs, .pair, .testing, .output, .health]) ∧
  (∀ failed, StaysIn (.bistDone failed) [.epochs, .tables, .slices, .traffic, .testing, .faults, .health, .registers 0xD0]) ∧
  (∀ kind number ended good holds last, StaysIn (.backgroundTestDone kind number ended good holds last) [.power, .traffic, .pair,
    .memory, .host, .stewards, .testing, .draws, .output, .wrapped, .rings, .faults, .health, .mode, .registers 0x20, .registers
    0x70, .registers 0x71, .registers 0x90, .registers 0xC0, .registers 0xC8, .registers 0xD0]) ∧
  (∀ o v, StaysIn (.healthClear o v) [.access, .epochs, .pair, .testing, .output, .health, .registers 0xD0]) ∧
  (∀ op, StaysIn (.jtagInstruction op) [.power, .testing, .health])

/-- Whatever state it starts from, each command named, of the pair, the mate lanes, the link times and the tests of the last rows, answers
only states that are the same outside the parts listed with it: every other group of the state, every register of every other page, and
MODE, the fence, memory of what left, and time unless listed. (R356; R359; R361; R365; R374; R376; R380; R382.) -/
def Obligations.PairFrames : Prop :=
  (∀ rec, StaysIn (.identity rec) [.power, .traffic, .pair, .memory, .host, .stewards, .draws, .output, .wrapped, .rings, .faults,
    .health, .mode, .registers 0x13, .registers 0x20, .registers 0x70, .registers 0x71, .registers 0x90, .registers 0xC0,
    .registers 0xC8, .registers 0xD0]) ∧
  (∀ rec, StaysIn (.verdictBlock rec) [.power, .traffic, .fabric, .pair, .memory, .host, .stewards, .statistics, .draws, .output,
    .wrapped, .rings, .faults, .health, .mode, .registers 0x20, .registers 0x21, .registers 0x70, .registers 0x71, .registers
    0x90, .registers 0xA0, .registers 0xC0, .registers 0xC1, .registers 0xC8, .registers 0xD0]) ∧
  (∀ rec, StaysIn (.learnRecord rec) [.power, .traffic, .pair, .memory, .host, .stewards, .draws, .output, .wrapped, .rings,
    .faults, .health, .mode, .registers 0x20, .registers 0x70, .registers 0x71, .registers 0x90, .registers 0xC0, .registers 0xC8,
    .registers 0xD0]) ∧
  (∀ rec, StaysIn (.departureMark rec) [.power, .traffic, .pair, .memory, .host, .stewards, .draws, .output, .wrapped, .rings,
    .faults, .health, .mode, .registers 0x20, .registers 0x70, .registers 0x71, .registers 0x90, .registers 0xC0, .registers 0xC8,
    .registers 0xD0]) ∧
  (∀ rec, StaysIn (.fabricVerdict rec) [.power, .traffic, .pair, .memory, .host, .stewards, .draws, .output, .wrapped, .rings,
    .faults, .health, .mode, .registers 0x20, .registers 0x70, .registers 0x71, .registers 0x90, .registers 0xC0, .registers 0xC8,
    .registers 0xD0]) ∧
  (∀ rec, StaysIn (.copyVerdict rec) [.power, .traffic, .pair, .memory, .host, .stewards, .draws, .output, .wrapped, .rings,
    .faults, .health, .mode, .registers 0x20, .registers 0x70, .registers 0x71, .registers 0x90, .registers 0xC0, .registers 0xC8,
    .registers 0xD0]) ∧
  (∀ rec, StaysIn (.hostWork rec) [.power, .slices, .traffic, .pair, .memory, .host, .stewards, .draws, .output, .wrapped, .rings,
    .faults, .health, .mode, .registers 0x20, .registers 0x70, .registers 0x71, .registers 0x90, .registers 0xC0, .registers 0xC8,
    .registers 0xD0]) ∧
  (∀ rec, StaysIn (.queueEnd rec) [.power, .traffic, .pair, .memory, .host, .stewards, .draws, .output, .wrapped, .rings, .faults,
    .health, .mode, .registers 0x20, .registers 0x70, .registers 0x71, .registers 0x90, .registers 0xC0, .registers 0xC8,
    .registers 0xD0]) ∧
  (∀ rec, StaysIn (.digest rec) [.power, .traffic, .pair, .memory, .host, .stewards, .draws, .output, .wrapped, .rings, .faults,
    .health, .mode, .registers 0x20, .registers 0x70, .registers 0x71, .registers 0x90, .registers 0xC0, .registers 0xC8,
    .registers 0xD0]) ∧
  (∀ lane cell, StaysIn (.heartbeat lane cell) [.power, .fabric, .pair, .host, .stewards, .statistics, .testing, .draws, .output,
    .wrapped, .rings, .faults, .health, .fence, .registers 0x31, .registers 0x32, .registers 0x36, .registers 0x90, .registers
    0xA0, .registers 0xC0, .registers 0xC1, .registers 0xC8, .registers 0xD0]) ∧
  (∀ o v, StaysIn (.faultRequest o v) [.access, .epochs, .pair, .output, .fence, .registers 0x90]) ∧
  (∀ source, StaysIn (.verdictFlush source) [.power, .traffic, .fabric, .pair, .memory, .host, .stewards, .statistics, .draws,
    .output, .time, .wrapped, .rings, .faults, .health, .mode, .registers 0x20, .registers 0x21, .registers 0x70, .registers 0x71,
    .registers 0x90, .registers 0xA0, .registers 0xC0, .registers 0xC1, .registers 0xC8, .registers 0xD0]) ∧
  (∀ kind n k, StaysIn (.verdictWaitExpiry kind n k) [.power, .traffic, .fabric, .pair, .memory, .host, .stewards, .statistics,
    .draws, .output, .time, .wrapped, .rings, .faults, .health, .mode, .registers 0x20, .registers 0x21, .registers 0x70,
    .registers 0x71, .registers 0x90, .registers 0xA0, .registers 0xC0, .registers 0xC1, .registers 0xC8, .registers 0xD0]) ∧
  (∀ n, StaysIn (.digestClose n) [.power, .traffic, .pair, .memory, .host, .stewards, .draws, .output, .time, .wrapped, .rings,
    .faults, .health, .mode, .registers 0x20, .registers 0x70, .registers 0x71, .registers 0x90, .registers 0xC0, .registers 0xC8,
    .registers 0xD0]) ∧
  (StaysIn .departureInterval [.pair, .output, .time]) ∧
  (∀ unit cls, StaysIn (.fabricVerdictFlush unit cls) [.pair, .output, .time]) ∧
  (StaysIn .selftestInterval [.pair, .testing, .time, .health]) ∧
  (∀ k, StaysIn (.mateReplayTimeout k) [.pair, .statistics, .testing, .draws, .output, .time, .wrapped, .rings, .faults, .health,
    .registers 0x31, .registers 0x32, .registers 0x36, .registers 0xD0]) ∧
  (∀ k, StaysIn (.mateLaneRetrain k) [.time, .registers 0x36]) ∧
  (∀ k, StaysIn (.mateLinkUp k) [.pair, .output, .registers 0x36]) ∧
  (∀ k cell, StaysIn (.mateIdleCell k cell) [.fabric, .pair, .host, .stewards, .statistics, .testing, .draws, .output, .wrapped,
    .rings, .faults, .health, .registers 0x31, .registers 0x32, .registers 0x36, .registers 0x90, .registers 0xA0, .registers
    0xC0, .registers 0xC1, .registers 0xC8, .registers 0xD0]) ∧
  (∀ l, StaysIn (.fabLinkAligned l) [.fabric, .draws, .output, .registers 0x34]) ∧
  (∀ lane, StaysIn (.laneReacquired lane) [.ports, .registers 0x31, .registers 0x32]) ∧
  (StaysIn .ppsOutFall [.power, .ports, .time]) ∧
  (∀ p, StaysIn (.mgmtLinkUp p) [.registers 0x31]) ∧
  (∀ p, StaysIn (.mgmtLinkDown p) [.registers 0x31]) ∧
  (∀ lanes rate, StaysIn (.pcieLinkTrained lanes rate) [.host, .registers 0xA0]) ∧
  (∀ g, StaysIn (.groupDownTimeout g) [.pair, .output, .time, .fence, .registers 0x90]) ∧
  (∀ crossbar detail, StaysIn (.ondieUncorrectableError crossbar detail) [.pair, .draws, .output, .faults, .health, .fence,
    .registers 0x90, .registers 0xD0]) ∧
  (StaysIn .pairFaultInRise [.power]) ∧
  (∀ k, StaysIn (.checkerLocked k) [.testing, .health, .registers 0x31, .registers 0x32]) ∧
  (∀ k bits errors injected seconds, StaysIn (.checkerLockLost k bits errors injected seconds) [.testing, .health]) ∧
  (∀ n ack data, StaysIn (.cmisPassthroughDone n ack data) [.power]) ∧
  (∀ g, StaysIn (.dgAlignmentMarker g) [.ports])

/-- In a state where no request waits, BATCH_OPEN, BATCH_WRITE, BATCH_ABORT and the table and rule commands that are a write into a batch
change nothing outside the access part of the state, whatever they answer: no table, no rule, no object, no packet. (R130; R132; R133;
R226; R265.) -/
def Obligations.BatchCommandsWaitForTheirCommit : Prop :=
  ∀ c s t, s.Quiet →
    ((∃ o, c = .batchOpen o) ∨ (∃ o id i j ty v, c = .batchWrite o id i j ty v) ∨ (∃ o id, c = .batchAbort o id) ∨
      (∃ o id flags len region key data, c = .tableInsert o id flags len region key data) ∨
      (∃ o id flags len region key, c = .tableDelete o id flags len region key) ∨
      (∃ o id set pos action value mask, c = .ruleWrite o id set pos action value mask) ∨
      (∃ o id set pos, c = .ruleDelete o id set pos) ∨ (∃ o id set pos action, c = .ruleSetAction o id set pos action)) →
    exec c s = .next t → OnlyIn [.access] s t

/-- For the commands that are one write of an object: where the checks of R152 refuse the write, the command answers with that status, and
nothing but what its requester sees changes. So it is for mode requests, table, queue, multicast, scheduling and meter commands, port,
ring and channel commands, clears, snapshots and queries, firmware, tests, FAULT_REQUEST and SWITCHOVER. (R117; R118; R119; R151; R152;
R239.) -/
def Obligations.RefusedWritesChangeNothing : Prop :=
  (∀ o v, Refuses (.modeRequest o v) o 0x2000 2 v) ∧ (∀ o, Refuses (.resetRequestWarm o) o 0x1010 1 [1]) ∧
  (∀ o, Refuses (.resetRequestCold o) o 0x1010 1 [2]) ∧ (∀ o v, Refuses (.flushRequest o v) o 0x5890 1 v) ∧
  (∀ o region len key, Refuses (.search o region len key) o 0x5880 1 (queryBytes 0x10 0 len region 0 key)) ∧
  (∀ o h, Refuses (.enable o h) o 0x7402 1 ([1, 0, 0, 0] ++ natBe h 4)) ∧
  (∀ o h, Refuses (.disable o h) o 0x7402 1 ([2, 0, 0, 0] ++ natBe h 4)) ∧
  (∀ o h limits, Refuses (.setLimits o h limits) o 0x7402 1 ([4, 0, 0, 0] ++ natBe h 4 ++ limits)) ∧
  (∀ o v, Refuses (.queueQuery o v) o 0x7402 2 v) ∧ (∀ o v, Refuses (.mcastSet o v) o 0x7601 1 v) ∧
  (∀ o v, Refuses (.schedSet o v) o 0x7802 1 v) ∧ (∀ o v, Refuses (.meterSet o v) o 0x7C02 1 v) ∧
  (∀ o cc v, Refuses (.hbmDelays o cc v) o 0x7140 cc v) ∧ (∀ o p v, Refuses (.portMode o p v) o 0x3000 p v) ∧
  (∀ o p v, Refuses (.portSlice o p v) o 0x3001 p v) ∧ (∀ o p, Refuses (.portAdminEnable o p) o 0x3002 p [1]) ∧
  (∀ o p, Refuses (.portAdminDisable o p) o 0x3002 p [0]) ∧ (∀ o v, Refuses (.ptpStepNs o v) o 0x3100 2 v) ∧
  (∀ o h, Refuses (.ringEnable o h) o 0xA010 3 ([1, 0, 0, 0] ++ natBe h 4)) ∧
  (∀ o h, Refuses (.ringDisable o h) o 0xA010 3 ([2, 0, 0, 0] ++ natBe h 4)) ∧
  (∀ o v, Refuses (.channelSet o v) o 0xA010 1 v) ∧ (∀ o l v, Refuses (.lockForce o l v) o 0xA911 l v) ∧
  (∀ o, Refuses (.clearEverything o) o 0xC000 3 (clearBytes 7 0 0 0)) ∧ (∀ o v, Refuses (.snapshot o v) o 0xC001 1 v) ∧
  (∀ o v, Refuses (.wrapQuery o v) o 0xC003 1 v) ∧ (∀ o v, Refuses (.stageOpen o v) o 0xE010 1 v) ∧
  (∀ o, Refuses (.warmNow o) o 0xE020 1 [2]) ∧ (∀ o v, Refuses (.confirm o v) o 0xE020 3 v) ∧
  (∀ o v, Refuses (.revert o v) o 0xE020 4 v) ∧ (∀ o v, Refuses (.patternStart o v) o 0xD000 1 v) ∧
  (∀ o v, Refuses (.bistStart o v) o 0xD020 1 v) ∧ (∀ o v, Refuses (.healthClear o v) o 0xD040 4 v) ∧
  (∀ o v, Refuses (.faultRequest o v) o 0x9000 8 v) ∧ (∀ o v, Refuses (.switchover o v) o 0x9000 7 v)

/-- Where the write's own checks pass, RESET_REQUEST WARM in DORMANT is answered MODE. RESET_REQUEST COLD is answered MODE in every mode
except DORMANT, BRINGUP and DIAGNOSTIC. Neither changes anything but what the requester sees. (R95.) -/
def Obligations.ResetRequestsOutsideTheirModesDrawMode : Prop :=
  (∀ o s, s.checkWrite o 0x1010 1 [1] = .ok → s.mode = .dormant → Completes (.resetRequestWarm o) s fun t =>
    OnlyIn [.access] s t ∧ ∃ rest, t.acc.answers = { origin := o, ans := bareAns 0x02 .mode 0x1010 1 } :: rest) ∧
  (∀ o s, s.checkWrite o 0x1010 1 [2] = .ok → s.mode ∉ [Mode.dormant, .bringup, .diagnostic] → Completes (.resetRequestCold o) s fun t =>
    OnlyIn [.access] s t ∧ ∃ rest, t.acc.answers = { origin := o, ans := bareAns 0x02 .mode 0x1010 1 } :: rest)

/-- A PUNT or PUNT_COPY step entry that names a code outside 0x01 to 0x0F and 0x40 to 0x7F fails the rule of the step objects of both
programs with RANGE. The entry whose fields are zero but for its kind and its code passes exactly for the codes of those two ranges, in
every step. (R184.) -/
def Obligations.PuntCodesAreRefused : Prop :=
  (∀ s i j c, (0x4100 ≤ i ∧ i ≤ 0x4103 ∨ 0x4108 ≤ i ∧ i ≤ 0x410B) → (decodeStep c).kind ∈ [0x0F, 0x11] →
    ¬(1 ≤ (decodeStep c).operand % 256 ∧ (decodeStep c).operand % 256 ≤ 0x0F) →
    ¬(0x40 ≤ (decodeStep c).operand % 256 ∧ (decodeStep c).operand % 256 ≤ 0x7F) → State.versionedStatus s i j c = .range) ∧
  (∀ s i j kind code, (0x4100 ≤ i ∧ i ≤ 0x4103 ∨ 0x4108 ≤ i ∧ i ≤ 0x410B) → kind ∈ [0x0F, 0x11] → code < 256 →
    (State.versionedStatus s i j (natBe (kind * 2 ^ 250 + code * 2 ^ 184 + stepEnd * 2 ^ 70) 32) = .ok ↔
      (1 ≤ code ∧ code ≤ 0x0F ∨ 0x40 ≤ code ∧ code ≤ 0x7F)))

/-- PF_MASK bit i is one exactly when every rule of the block has MASK 1 at the key bit 15 - i bits after the first bit of the field and all
have the same VALUE there; PF_VALUE bit i is that value, and zero where the mask bit is zero. For rules stored in order whose VALUE and
MASK are as long as the key, the search finds the first rule in position order, of those that the epoch sees in the set's blocks, that
matches: what a search with no pre-filter finds. (R255.) -/
def Obligations.PrefilterNeverHidesAMatch : Prop :=
  (∀ (s : RuleSet) rules i, rules ≠ [] → i < 16 → ((prefilter s rules).1.testBit i = true ↔
    ∃ v, ∀ r ∈ rules, bitsAt r.mask (s.pfOffset + (15 - i)) 1 = 1 ∧ bitsAt r.value (s.pfOffset + (15 - i)) 1 = v)) ∧
  (∀ (s : RuleSet) rules i r, r ∈ rules → (prefilter s rules).1.testBit i = true → i < 16 ∧
    ((prefilter s rules).2.testBit i = true ↔ bitsAt r.value (s.pfOffset + (15 - i)) 1 = 1)) ∧
  (∀ (s : RuleSet) rules i, (prefilter s rules).1.testBit i = false → (prefilter s rules).2.testBit i = false) ∧
  (∀ (t : Tables) (s : RuleSet) set e key, rising t.rules = true →
    (∀ x ∈ t.rules, x.2.value.length = key.length ∧ x.2.mask.length = key.length) →
    (t.search s set e key).best =
      (t.visibleRules set e).find? fun x => decide (x.1 / s.perBlock < s.blocks) && x.2.matches key)

/-- A rule matches exactly when each key bit whose MASK bit is one equals the VALUE bit. A RULE_COMMAND that writes a rule with a VALUE bit
where the MASK bit is zero does not pass the checks of its value. (R253; R264.) -/
def Obligations.RowsMatchBitByBit : Prop :=
  (∀ (r : Rule) key, r.matches key = true ↔ ∀ b, (beNat r.mask).testBit b = true → (beNat key).testBit b = (beNat r.value).testBit b) ∧
  (∀ (s : State) set pos action value mask b, action.length = 16 → value.length = mask.length →
    (beNat value).testBit b = true → (beNat mask).testBit b = false →
    s.ruleCommandStatus (ruleCommand 1 set pos (action ++ value ++ mask)) ≠ .ok)

/-- While no request waits, a DESTROY whose own checks pass and whose handle names a node that is the parent of a node or of an egress queue
is answered BUSY, and nothing but what its requester sees changes. Once a queue's destruction has completed, it is gone, and with it the
parent's child. (R129; R301.) -/
def Obligations.NodesWithChildrenAreNotDestroyed : Prop :=
  (∀ o h s, s.Quiet → h < 2 ^ 32 → s.checkPlain o (plainReq 0x11 0 0 12 (numBytes o.be h 4)) 12 4 (s.checkAnyHandle h) = .ok → handleKind h = 5 →
    ((∃ e ∈ s.tm.nodes, e.2.parent = some (handleIndex h)) ∨ (∃ e ∈ s.tm.queues, e.2.voq = false ∧ e.2.parentNode = handleIndex h)) →
    Completes (.destroy o h) s fun t => OnlyIn [.access] s t ∧ ∃ rest, t.acc.answers = { origin := o, ans := bareAns 0x11 .busy 0 0 } :: rest) ∧
  (∀ i q s, s.Quiet → rising s.tm.queues = true → mget s.tm.queues i = some q → q.admin = .destroying →
    Completes (.queueDestroyDone i) s fun t => mget t.tm.queues i = none)

/-- A handle of a kind that is checked draws TYPE_MISMATCH, RANGE and STALE_HANDLE in the order of R7 and passes otherwise. A DESTROY of a
meter, counter set or node that is answered OK leaves the generation of the index one higher modulo 256, and the old handle fails the
checks of R7 with STALE_HANDLE. (R5; R7; R8; R129.) -/
def Obligations.DestroyedHandlesAreStale : Prop :=
  (∀ (s : State) k h, s.checkHandle k h = .typeMismatch ↔ handleKind h ≠ k) ∧
  (∀ (s : State) k h, s.checkHandle k h = .range ↔ handleKind h = k ∧ kindCapacity k ≤ handleIndex h) ∧
  (∀ (s : State) k h, s.checkHandle k h = .ok ↔ handleKind h = k ∧ handleIndex h < kindCapacity k ∧
    s.live k (handleIndex h) = true ∧ handleGen h = s.gen k (handleIndex h)) ∧
  (∀ (s : State) k h, s.checkHandle k h ∈ [Status.typeMismatch, .range, .staleHandle, .ok]) ∧
  (∀ o h s, s.Quiet → s.StoresRise → h < 2 ^ 32 → handleKind h ∈ [3, 4, 5] → s.destroyBusy h = false →
    s.checkPlain o (plainReq 0x11 0 0 12 (numBytes o.be h 4)) 12 4 (s.checkAnyHandle h) = .ok → Completes (.destroy o h) s fun t =>
      t.gen (handleKind h) (handleIndex h) = (s.gen (handleKind h) (handleIndex h) + 1) % 256 ∧
      t.checkHandle (handleKind h) h = .staleHandle)

/-- Counting n occurrences adds n to the counter modulo the range of its type and to no other register. Its WRAPPED bit is set exactly when
the sum leaves the range, and no WRAPPED bit is cleared. (R121; R500; R501.) -/
def Obligations.CountersWrapAtTheirWidth : Prop :=
  ∀ (s : State) i j n, s.StoresRise →
    (s.count i j n).reg i j = (s.reg i j + n) % counterSpan i j ∧
    (∀ i' j', okey i' j' ≠ okey i j → (s.count i j n).reg i' j' = s.reg i' j') ∧
    (mget (s.count i j n).stats.wrapped (okey i j) = some true ↔
      mget s.stats.wrapped (okey i j) = some true ∨ counterSpan i j ≤ s.reg i j + n) ∧
    (∀ k, mget s.stats.wrapped k = some true → mget (s.count i j n).stats.wrapped k = some true)

/-- A master that may use mailbox m writes a header of LENGTH n with no reserved bit into a direction that is free and has room, then its n
payload words. While fewer than n have been written, the words that a reader sees are those from before, and the claim is the master's.
After the last, the header and the words stand behind them, and the claim has ended. (R468; R469; R470; R471.) -/
def Obligations.MessagesAreDeliveredWhole : Prop :=
  ∀ master m d header ws s, m < 64 → d < 2 → s.mode ≠ .dormant → (192 ≤ master ∨ s.issues master = true) → s.mayUseMailbox master m = true →
    header < 2 ^ 32 → fld header 15 8 = 0 → (∀ w ∈ ws, w < 2 ^ 32) → header % 256 = ws.length → 0 < ws.length →
    ((s.mailbox m).dir d).claim = none → ((s.mailbox m).dir d).partialWords = [] → ((s.mailbox m).dir d).words.length + ws.length < 256 →
    ∀ k ≤ ws.length, ∃ t, (header :: ws.take k).foldl (fun u w => u.bind fun v => match exec (.txData master m d w) v with
        | .next x => some x
        | _ => none) (some s) = some t ∧
      (k < ws.length → ((t.mailbox m).dir d).words = ((s.mailbox m).dir d).words ∧ ((t.mailbox m).dir d).claim = some master ∧
        ((t.mailbox m).dir d).partialWords = header :: ws.take k) ∧
      (k = ws.length → ((t.mailbox m).dir d).words = ((s.mailbox m).dir d).words ++ header :: ws ∧ ((t.mailbox m).dir d).claim = none)

/-- A read of a lock that is held leaves every lock as it was and reads HELD with the holder as OWNER, with GRANTED only for the holder. A
release by a master that does not hold it changes no lock and counts one in LOCK_FOREIGN_RELEASES. A read of a free lock acquires it for
the reader and changes no other lock. (R474.) -/
def Obligations.LocksExcludeOtherMasters : Prop :=
  (∀ m l h s, l < 256 → m < 256 → s.mode ≠ .dormant → mget s.host.locks l = some h → Completes (.lockAcquire m l) s fun t =>
    t.host.locks = s.host.locks ∧ t.host.reads = (m, (if h = m then 2 ^ 31 else 0) + 2 ^ 30 + h) :: s.host.reads) ∧
  (∀ m l s, s.StoresRise → l < 256 → s.mode ≠ .dormant → mget s.host.locks l ≠ some m → Completes (.lockRelease m l) s fun t =>
    t.host.locks = s.host.locks ∧ t.reg 0xA912 2 = (s.reg 0xA912 2 + 1) % counterSpan 0xA912 2) ∧
  (∀ m l l' s t, l' ≠ l → exec (.lockAcquire m l) s = .next t → mget t.host.locks l' = mget s.host.locks l')

/-- DB_RING signals exactly when the status without the masked bits goes from zero to non-zero. A write of DB_STATUS or DB_MASK signals
exactly when it leaves that value non-zero. Other sets keep their status and mask. (R444; R466; R467.) -/
def Obligations.DoorbellSetsSignal : Prop :=
  (∀ k v s, k < 64 → s.mode ≠ .dormant → Completes (.dbRing k v) s fun t => ∃ d : DoorbellSet,
    d = { s.doorbell k with status := (s.doorbell k).status ||| v % 2 ^ 32 / 256 * 256 } ∧
    t = if (s.doorbell k).status &&& (d.mask ^^^ 0xFFFFFFFF) = 0 ∧ d.status &&& (d.mask ^^^ 0xFFFFFFFF) ≠ 0
      then (s.setDoorbell k d).signalSet k else s.setDoorbell k d) ∧
  (∀ k v s, k < 64 → s.mode ≠ .dormant → Completes (.dbMask k v) s fun t =>
    t = if (s.doorbell k).status &&& (v % 2 ^ 32 ^^^ 0xFFFFFFFF) ≠ 0
      then (s.setDoorbell k { s.doorbell k with mask := v % 2 ^ 32 }).signalSet k
      else s.setDoorbell k { s.doorbell k with mask := v % 2 ^ 32 }) ∧
  (∀ c k k' v s t, c ∈ [Instr.dbStatus k v, .dbMask k v, .dbRing k v] → k' ≠ k → exec c s = .next t → t.doorbell k' = s.doorbell k')

/-- A POA frame that arrives whole on a port that serves POA, with a REQUEST or CLOSE whose tag does not verify or whose session is not
open, changes nothing but the counters of dropped frames and AUTH_FAILURES: no answer leaves and no session changes. (R138; R143; R146.) -/
def Obligations.UnauthenticatedMessagesDoNothing : Prop :=
  (∀ p frame m s, s.StoresRise → s.Receives p frame m → m.msgType = 1 → s.validSession m = none → Completes (.poaRequest p frame) s fun t =>
    OnlyIn [.wrapped, .registers 0x10, .registers 0x31] s t ∧ t.reg 0x1040 6 = (s.reg 0x1040 6 + 1) % counterSpan 0x1040 6) ∧
  (∀ p frame m s, s.StoresRise → s.Receives p frame m → m.msgType = 5 → s.validSession m = none → Completes (.poaClose p frame) s fun t =>
    OnlyIn [.wrapped, .registers 0x10, .registers 0x31] s t ∧ t.reg 0x1040 6 = (s.reg 0x1040 6 + 1) % counterSpan 0x1040 6)

/-- A write by a role below OPERATOR passes no check. An OPERATOR passes no check for an RWB object. In DORMANT, outside recovery, a read or
a write of an index outside the six ranges 0x1000, 0x1100, 0x2000, 0x2100, 0x2200 and 0x2300 passes no check, and fails with MODE where
no earlier check fails. An RWB object is written only in BRINGUP or DIAGNOSTIC. (R36; R71; R117; R119; R152.) -/
def Obligations.RolesAndModesLimitAccess : Prop :=
  (∀ (s : State) role i j c, role < 2 → s.checkCanonical role i j c ∈ [Status.noObject, .noSubindex, .denied]) ∧
  (∀ (s : State) i j c d, dictRow i j = some d → d.access = .rwb → s.checkCanonical 2 i j c ∈ [Status.noObject, .noSubindex, .denied]) ∧
  (∀ (s : State) o i j v, s.mode = .dormant → s.power.recovery = false → i / 256 ∉ [0x10, 0x11, 0x20, 0x21, 0x22, 0x23] →
    s.checkWrite o i j v ∈ [Status.noObject, .noSubindex, .denied, .typeMismatch, .readOnly, .mode]) ∧
  (∀ (s : State) o blob i j, s.mode = .dormant → s.power.recovery = false → i / 256 ∉ [0x10, 0x11, 0x20, 0x21, 0x22, 0x23] →
    s.checkRead o blob i j ∈ [Status.noObject, .noSubindex, .denied, .typeMismatch, .writeOnly, .mode]) ∧
  (∀ (s : State) role i j c d, dictRow i j = some d → d.access = .rwb → s.mode ∉ [Mode.bringup, .diagnostic] → s.checkCanonical role i j c ≠ .ok)

/-- For every kind but the reserved one, every lane and every value of the other fields within its width, with a payload of the length its
kind allows, the cell is a whole number of 32-byte blocks, passes the checks of a received cell, and reads back kind, length, payload,
BUNDLE_SEQ, BUNDLE_ACK, LINK_SEQ, ACK_SEQ, ACK_KIND and LINK_CREDITS. (R356; R573.) -/
def Obligations.MateCellsReadBack : Prop :=
  ∀ kind lane bundle bundleAck seq ackSeq credits nak payload,
    (kind = 0 ∧ payload.length = 0 ∨ kind = 1 ∧ 1 ≤ payload.length ∧ payload.length ≤ 492 ∨ kind = 2 ∧ payload.length = 12) →
    lane < 8 → bundle < 2 ^ 32 → bundleAck < 2 ^ 32 → seq < 2 ^ 16 → ackSeq < 2 ^ 16 → credits < 2 ^ 7 →
    ∀ c, c = mateCell kind lane bundle bundleAck seq ackSeq credits nak payload →
      mateGood c = true ∧ mateKind c = kind ∧ mateLen c = payload.length ∧ matePayload c = payload ∧ c.length % 32 = 0 ∧
      fld (mateHead c) 157 155 = lane ∧ fld (mateHead c) 143 112 = bundle ∧ fld (mateHead c) 111 80 = bundleAck ∧
      fld (mateHead c) 79 64 = seq ∧ fld (mateHead c) 63 48 = ackSeq ∧ bitAt (mateHead c) 47 = nak ∧ fld (mateHead c) 46 40 = credits

/-- For every kind but the reserved one and every value of the other fields within its width, with a payload of at most 240 bytes, the cell
is a whole number of 32-byte blocks, passes the checks of a received cell, and reads back each field of R327 and its payload. (R326;
R327; R328.) -/
def Obligations.FabricCellsReadBack : Prop :=
  ∀ kind first last dest unit link cls seq ack nak credits payload, kind < 3 → payload.length ≤ 240 →
    dest < 2 ^ 12 → unit < 2 ^ 12 → link < 2 ^ 8 → cls < 2 ^ 3 → seq < 2 ^ 16 → ack < 2 ^ 16 → credits < 2 ^ 7 →
    ∀ c, c = wholeCell (fabHeader kind first last dest unit link cls payload.length seq ack nak credits) payload →
      cellGood c = true ∧ cellKind c = kind ∧ cellLen c = payload.length ∧ cellPayload c = payload ∧ c.length % 32 = 0 ∧
      bitAt (cellHead c) 93 = first ∧ bitAt (cellHead c) 92 = last ∧ fld (cellHead c) 91 80 = dest ∧ fld (cellHead c) 78 67 = unit ∧
      fld (cellHead c) 66 59 = link ∧ fld (cellHead c) 58 56 = cls ∧ fld (cellHead c) 47 32 = seq ∧ fld (cellHead c) 31 16 = ack ∧
      bitAt (cellHead c) 15 = nak ∧ fld (cellHead c) 14 8 = credits

/-- The entries of a verdict block of 1 to 32 entries read back. A typed record is as long as its LENGTH says and begins with its TYPE. A
list of operations written in the layout of R140 and sent most significant byte first parses to the same operations. (R140; R359; R362.) -/
def Obligations.RecordsAndOperationsReadBack : Prop :=
  (∀ source es, 1 ≤ es.length → es.length ≤ 32 → (∀ e ∈ es, e.1 < 2 ^ 16 ∧ e.2.2 < 4) →
    blockEntries (natBe (0x20 + es.length - 1) 1 ++ natBe source 1 ++ packEntries es) = es) ∧
  (∀ ty body rest, 0x40 ≤ ty → ty < 0x60 → body.length + 3 < 2 ^ 16 →
    recordLength (typedRecord ty body ++ rest) = some (typedRecord ty body).length ∧ byteAt (typedRecord ty body ++ rest) 0 = ty ∧
      (typedRecord ty body).drop 3 = body) ∧
  (∀ ops : List OpReq, (∀ r ∈ ops, r.opcode < 2 ^ 8 ∧ r.flags < 2 ^ 8 ∧ r.index < 2 ^ 16 ∧ r.sub < 2 ^ 8 ∧ r.ty < 2 ^ 8 ∧ r.data.length < 2 ^ 16) →
    parseOps true ops.length (ops.map fun r => opBytes r.opcode r.flags r.index r.sub r.ty r.data).flatten = some ops)

end
end

