-- ==== Sys2Proof/Laws/Keeps.lean ====
section
/-! SUPPORT. Sys2Proof/Laws/Keeps.lean: the calculus by which each shared operation is shown to keep what no command undoes, and to
leave alone the parts of the state that it does not touch: one lemma for each way of putting operations together. -/

namespace Sys2Proof.Machine

theorem Onward.refl (s : State) : Onward s s :=
  ⟨rfl, Nat.le_refl _, List.suffix_refl _, id, id, id, Nat.le_refl _, fun _ h => h⟩

theorem Onward.trans {s t u : State} (h : Onward s t) (k : Onward t u) : Onward s u :=
  ⟨k.queue.trans h.queue, Nat.le_trans h.time k.time, h.out.trans k.out, fun x => k.objs (h.objs x), fun x => k.octs (h.octs x),
   fun x => k.gens (h.gens x), Nat.le_trans h.floor k.floor, fun n x => k.revoked n (h.revoked n x)⟩

/-- States that agree in what the relation speaks of. -/
theorem Onward.same {s t : State} (e1 : t.pending = s.pending) (e2 : t.now = s.now) (e3 : t.out = s.out) (e4 : t.objs = s.objs)
    (e5 : t.octs = s.octs) (e6 : t.gens = s.gens) (e7 : t.fw.floor = s.fw.floor) (e8 : t.fw.revoked = s.fw.revoked := by rfl) :
    Onward s t :=
  ⟨e1, Nat.le_of_eq e2.symm, e3 ▸ List.suffix_refl _, fun x => e4 ▸ x, fun x => e5 ▸ x, fun x => e6 ▸ x, Nat.le_of_eq e7.symm,
    fun _ x => e8 ▸ x⟩

/-! ### Parts as bits of a mask -/

/-- The bit of a part in a mask. -/
def Part.bit : Part → Nat
  | .access => 0
  | .power => 1
  | .firmware => 2
  | .epochs => 3
  | .tables => 4
  | .slices => 5
  | .meters => 6
  | .traffic => 7
  | .fabric => 8
  | .pair => 9
  | .memory => 10
  | .ports => 11
  | .host => 12
  | .stewards => 13
  | .statistics => 14
  | .testing => 15
  | .draws => 16
  | .output => 17
  | .time => 18
  | .generations => 19
  | .wrapped => 20
  | .rings => 21
  | .faults => 22
  | .health => 23
  | .mode => 24
  | .fence => 25
  | .registers p => 32 + p

/-- The bits of every page of registers. -/
def allRegisters : Nat := (2 ^ 256 - 1) <<< 32

/-- The bit of the page of an index. -/
def pageMask (i : Nat) : Nat := 2 ^ (32 + i / 256 % 256)

/-- Every bit of m is set in ps. -/
def Covers (ps m : Nat) : Prop := ∀ n, m.testBit n = true → ps.testBit n = true

theorem Covers.sub {ps p m : Nat} (h : Covers ps p) (e : Nat.land p m = m) : Covers ps m := fun n hn => h n (by
  have : (p &&& m).testBit n = true := by rw [show p &&& m = m from e]; exact hn
  rw [Nat.testBit_and, Bool.and_eq_true] at this
  exact this.1)

theorem Covers.bit {ps n : Nat} (h : Covers ps (2 ^ n)) : ps.testBit n = true := h n (by rw [Nat.testBit_two_pow]; simp)

theorem Covers.all {ps n : Nat} (h : Covers ps allRegisters) (hn : n < 256) : ps.testBit (32 + n) = true := h _ (by
  unfold allRegisters
  rw [Nat.testBit_shiftLeft, Nat.testBit_two_pow_sub_one]
  simp [show 32 + n - 32 = n by omega, hn])

theorem Covers.page {ps i : Nat} (h : Covers ps allRegisters) : Covers ps (pageMask i) := fun n hn => by
  unfold pageMask at hn
  rw [Nat.testBit_two_pow, decide_eq_true_eq] at hn
  rw [← hn]
  exact h.all (Nat.mod_lt _ (by decide))

/-- The page of one of two indices. -/
theorem Covers.either {ps i j : Nat} {c : Prop} [Decidable c] (hi : Covers ps (pageMask i)) (hj : Covers ps (pageMask j)) :
    Covers ps (pageMask (if c then i else j)) := by
  split <;> assumption

/-- A key of a page that is not covered is no key of an index whose page is. -/
theorem Covers.notKey {ps i j p k : Nat} (h : Covers ps (pageMask i)) (hp : ps.testBit (Part.bit (.registers p)) = false)
    (hk : k / 65536 % 256 = p) : k ≠ okey i j := fun e => by
  have hb : ps.testBit (32 + i / 256 % 256) = true := h.bit
  have : p = i / 256 % 256 := by
    rw [← hk, e]
    unfold okey
    omega
  rw [show Part.bit (.registers p) = 32 + p from rfl, this, hb] at hp
  cases hp

/-- A bit that is covered is set. -/
theorem Covers.absurd {ps m n : Nat} {P : Prop} (h : Covers ps m) (hm : m.testBit n = true) (hn : ps.testBit n = false) : P := by
  rw [h n hm] at hn
  cases hn

/-- With every page covered, a page that is not covered is no page. -/
theorem Covers.noPage {ps p : Nat} {P : Nat → Prop} (h : Covers ps allRegisters) (hp : ps.testBit (Part.bit (.registers p)) = false) (k : Nat)
    (hk : k / 65536 % 256 = p) : P k := by
  have : ps.testBit (32 + p) = true := h.all (hk ▸ Nat.mod_lt _ (by decide))
  rw [show Part.bit (.registers p) = 32 + p from rfl, this] at hp
  cases hp

/-- From s to t what no command undoes is kept, and only the parts in the mask changed. -/
structure Keeps (ps : Nat) (s t : State) : Prop where
  onward : Onward s t
  only : ∀ p : Part, ps.testBit p.bit = false → p.same s t

theorem Part.same_refl (s : State) (p : Part) : p.same s s := by
  cases p <;> first | rfl | exact ⟨rfl, rfl⟩ | exact fun _ _ => ⟨rfl, rfl⟩

theorem Part.same_trans {s t u : State} {p : Part} (h : p.same s t) (k : p.same t u) : p.same s u := by
  cases p
  case registers => exact fun n hn => ⟨(k n hn).1.trans (h n hn).1, (k n hn).2.trans (h n hn).2⟩
  case faults => exact ⟨k.1.trans h.1, k.2.trans h.2⟩
  case health => exact ⟨k.1.trans h.1, k.2.trans h.2⟩
  all_goals exact Eq.trans k h

theorem Keeps.refl (ps : Nat) (s : State) : Keeps ps s s := ⟨.refl s, fun p _ => p.same_refl s⟩

theorem Keeps.trans {ps : Nat} {s t u : State} (h : Keeps ps s t) (k : Keeps ps t u) : Keeps ps s u :=
  ⟨h.onward.trans k.onward, fun p hp => Part.same_trans (h.only p hp) (k.only p hp)⟩

/-- A value of a group that is kept, or that may change. -/
inductive Change (ps m : Nat) {α : Type} (x : α) : α → Prop where
  | k : Change ps m x x
  | c {y : α} : Covers ps m → Change ps m x y

theorem Change.sameOf {ps m n : Nat} {α : Type} {x y : α} (h : Change ps m x y) (hm : m.testBit n = true) (hn : ps.testBit n = false) :
    y = x := by
  cases h with
  | k => rfl
  | c h => rw [h n hm] at hn; cases hn

theorem Change.same {ps m n : Nat} {α : Type} {x y : α} (h : Change ps m x y) (hm : m.testBit n = true) (hn : ps.testBit n = false) :
    y = x := h.sameOf hm hn

/-- A value of a group that is kept, that may change but in one of its fields, or that may change. -/
inductive PartChange (ps m n : Nat) {α β : Type} (f : α → β) (x : α) : α → Prop where
  | k : PartChange ps m n f x x
  | m {y : α} : Covers ps m → f y = f x → PartChange ps m n f x y
  | c {y : α} : Covers ps m → Covers ps n → PartChange ps m n f x y

theorem PartChange.same {ps m n b : Nat} {α β : Type} {f : α → β} {x y : α} (h : PartChange ps m n f x y) (hm : m.testBit b = true)
    (hn : ps.testBit b = false) : y = x := by
  cases h with
  | k => rfl
  | m h _ => exact h.absurd hm hn
  | c h _ => exact h.absurd hm hn

theorem PartChange.fine {ps m n b : Nat} {α β : Type} {f : α → β} {x y : α} (h : PartChange ps m n f x y) (hm : n.testBit b = true)
    (hn : ps.testBit b = false) : f y = f x := by
  cases h with
  | k => rfl
  | m _ h => exact h
  | c _ h => exact h.absurd hm hn

/-- Firmware that differs in no fuse. -/
structure SameFuses (a b : Firmware) : Prop where
  floor : b.floor = a.floor
  revoked : b.revoked = a.revoked

theorem SameFuses.keep {a : Firmware} {slotA slotB b0 b1 delivery installing act trial image slot store octs log faults due} :
    SameFuses a (Firmware.mk slotA slotB b0 b1 delivery installing act trial image slot store octs a.floor a.revoked log faults due) :=
  ⟨rfl, rfl⟩

/-- Firmware that is kept, or that may change but in its fuses. -/
inductive FwChange (ps : Nat) (x : Firmware) : Firmware → Prop where
  | k : FwChange ps x x
  | c {y : Firmware} : Covers ps 0x400004 → SameFuses x y → FwChange ps x y

theorem FwChange.fuses {ps : Nat} {x y : Firmware} (h : FwChange ps x y) : SameFuses x y := by
  cases h with
  | k => exact ⟨rfl, rfl⟩
  | c _ h => exact h

theorem FwChange.body {ps : Nat} {x y : Firmware} (h : FwChange ps x y) (hp : ps.testBit 2 = false) : y.body = x.body := by
  cases h with
  | k => rfl
  | c h _ => rw [h 2 rfl] at hp; cases hp

theorem FwChange.faults {ps : Nat} {x y : Firmware} (h : FwChange ps x y) (hp : ps.testBit 22 = false) :
    y.faultLog = x.faultLog ∧ y.pendingFaults = x.pendingFaults := by
  cases h with
  | k => exact ⟨rfl, rfl⟩
  | c h _ => rw [h 22 rfl] at hp; cases hp

/-! ### The sparse stores keep their keys rising -/

theorem keysAbove_lower {α : Type} {m : List (Nat × α)} {a b : Nat} (hab : a ≤ b) (h : keysAbove (some b) m = true) :
    keysAbove (some a) m = true := by
  cases m with
  | nil => rfl
  | cons e m =>
    simp only [keysAbove, Bool.and_eq_true, decide_eq_true_eq] at h ⊢
    exact ⟨by omega, h.2⟩

theorem keysAbove_none {α : Type} {m : List (Nat × α)} {a : Nat} (h : keysAbove (some a) m = true) : keysAbove none m = true := by
  cases m with
  | nil => rfl
  | cons e m =>
    simp only [keysAbove, Bool.and_eq_true, Bool.true_and] at h ⊢
    exact h.2

theorem keysAbove_mput {α : Type} {m : List (Nat × α)} {a k : Nat} {v : α} (hk : a < k) (h : keysAbove (some a) m = true) :
    keysAbove (some a) (mput m k v) = true := by
  induction m generalizing a with
  | nil => simp [mput, keysAbove, hk]
  | cons e m ih =>
    simp only [keysAbove, Bool.and_eq_true, decide_eq_true_eq] at h
    unfold mput
    split
    · simp only [keysAbove, Bool.and_eq_true, decide_eq_true_eq]; exact ⟨hk, ‹_›, h.2⟩
    · split
      · simp only [keysAbove, Bool.and_eq_true, decide_eq_true_eq]; exact ⟨hk, by subst_vars; exact h.2⟩
      · simp only [keysAbove, Bool.and_eq_true, decide_eq_true_eq]; exact ⟨h.1, ih (by omega) h.2⟩

/-- Setting a key keeps the keys rising. -/
theorem rising_mput {α : Type} {m : List (Nat × α)} {k : Nat} {v : α} (h : rising m = true) : rising (mput m k v) = true := by
  unfold rising at *
  cases m with
  | nil => rfl
  | cons e m =>
    simp only [keysAbove, Bool.true_and] at h
    unfold mput
    split
    · simp only [keysAbove, Bool.true_and, Bool.and_eq_true, decide_eq_true_eq]; exact ⟨‹_›, h⟩
    · split
      · simp only [keysAbove, Bool.true_and]; subst_vars; exact h
      · simp only [keysAbove, Bool.true_and]; exact keysAbove_mput (by omega) h

theorem keysAbove_filter {α : Type} {m : List (Nat × α)} {p : Nat × α → Bool} {a : Option Nat} (h : keysAbove a m = true) :
    keysAbove a (m.filter p) = true := by
  induction m generalizing a with
  | nil => cases a <;> rfl
  | cons e m ih =>
    simp only [keysAbove, Bool.and_eq_true] at h
    rw [List.filter_cons]
    split
    · simp only [keysAbove, Bool.and_eq_true]; exact ⟨h.1, ih h.2⟩
    · refine ih ?_
      cases a with
      | none => exact keysAbove_none h.2
      | some a => exact keysAbove_lower (by simpa using Nat.le_of_lt (of_decide_eq_true h.1)) h.2

/-- Leaving entries out keeps the keys rising. -/
theorem rising_filter {α : Type} {m : List (Nat × α)} {p : Nat × α → Bool} (h : rising m = true) : rising (m.filter p) = true :=
  keysAbove_filter h

/-- Leaving a key out keeps the keys rising. -/
theorem keysAbove_mdel {α : Type} {m : List (Nat × α)} {k : Nat} {a : Option Nat} (h : keysAbove a m = true) :
    keysAbove a (mdel m k) = true := by
  induction m generalizing a with
  | nil => cases a <;> rfl
  | cons e m ih =>
    simp only [keysAbove, Bool.and_eq_true] at h
    unfold mdel
    split
    · cases a with
      | none => exact keysAbove_none h.2
      | some a => exact keysAbove_lower (by simpa using Nat.le_of_lt (of_decide_eq_true h.1)) h.2
    · simp only [keysAbove, Bool.and_eq_true]; exact ⟨h.1, ih h.2⟩

/-- Setting a key, or taking it out at its default, keeps the keys rising. -/
theorem rising_mset {α : Type} [DecidableEq α] {d : α} {m : List (Nat × α)} {k : Nat} {v : α} (h : rising m = true) :
    rising (mset d m k v) = true := by
  unfold mset
  split
  · exact keysAbove_mdel h
  · exact rising_mput h

/-- Setting keys one after another keeps the keys rising. -/
theorem rising_foldl_mset {α β : Type} [DecidableEq α] {d : α} {l : List β} {f : β → Nat} {v : β → α} {m : List (Nat × α)}
    (h : rising m = true) : rising (l.foldl (fun m e => mset d m (f e) (v e)) m) = true := by
  induction l generalizing m with
  | nil => exact h
  | cons a l ih => exact ih (rising_mset h)

/-! ### Reading a store after a write -/

/-- What was set at a key is read there. -/
theorem mget_mput_same {α : Type} {m : List (Nat × α)} {k : Nat} {v : α} : mget (mput m k v) k = some v := by
  induction m with
  | nil => simp [mput, mget]
  | cons e m ih =>
    unfold mput
    split
    · simp [mget]
    · split
      · simp [mget]
      · rename_i h
        rw [mget, if_neg h]
        exact ih

/-- Setting a key leaves every other key alone. -/
theorem mget_mput_other {α : Type} {m : List (Nat × α)} {k n : Nat} {v : α} (h : n ≠ k) : mget (mput m k v) n = mget m n := by
  induction m with
  | nil => simp [mput, mget, Ne.symm h]
  | cons e m ih =>
    unfold mput
    split
    · rw [mget, if_neg (Ne.symm h)]
    · split
      · rename_i hk
        rw [mget, if_neg (Ne.symm h), mget, if_neg (fun hn : e.1 = n => h (hn.symm.trans hk))]
      · rw [mget, mget, ih]

/-- Taking a key out leaves every other key alone. -/
theorem mget_mdel_other {α : Type} {m : List (Nat × α)} {k n : Nat} (h : n ≠ k) : mget (mdel m k) n = mget m n := by
  induction m with
  | nil => rfl
  | cons e m ih =>
    unfold mdel
    split
    · rename_i hk
      rw [mget, if_neg (fun hn : e.1 = n => h (hn.symm.trans hk))]
    · rw [mget, mget, ih]

/-- No key below a bound is listed. -/
theorem mget_above {α : Type} {m : List (Nat × α)} {a k : Nat} (h : keysAbove (some a) m = true) (hk : k ≤ a) : mget m k = none := by
  induction m generalizing a with
  | nil => rfl
  | cons e m ih =>
    simp only [keysAbove, Bool.and_eq_true, decide_eq_true_eq] at h
    rw [mget, if_neg (by omega)]
    exact ih h.2 (by omega)

/-- A key taken out is not listed. -/
theorem mget_mdel_same {α : Type} {m : List (Nat × α)} {k : Nat} (h : rising m = true) : mget (mdel m k) k = none := by
  unfold rising at h
  induction m with
  | nil => rfl
  | cons e m ih =>
    simp only [keysAbove, Bool.true_and] at h
    unfold mdel
    split
    · rename_i hk
      exact mget_above h (by omega)
    · rename_i hk
      rw [mget, if_neg hk]
      exact ih (keysAbove_none h)

/-- A store set at a key, or taken out at the default, leaves every other key alone. -/
theorem mget_mset_other {α : Type} [DecidableEq α] {d : α} {m : List (Nat × α)} {k n : Nat} {v : α} (h : n ≠ k) :
    mget (mset d m k v) n = mget m n := by
  unfold mset
  split
  · exact mget_mdel_other h
  · exact mget_mput_other h

/-- The value set at a key is read there. -/
theorem mgetD_mset_same {α : Type} [DecidableEq α] {d : α} {m : List (Nat × α)} {k : Nat} {v : α} (h : rising m = true) :
    mgetD d (mset d m k v) k = v := by
  unfold mset mgetD
  split
  · rename_i e
    rw [mget_mdel_same h, e]
    rfl
  · rw [mget_mput_same]
    rfl

/-! ### Results that carry a state -/

/-- Whatever state a result carries is kept from s0 but for the parts in ps; get says where the result carries it. -/
def On {α : Type} (get : α → Option State) (ps : Nat) (s0 : State) (x : α) : Prop := ∀ t, get x = some t → Keeps ps s0 t

/-- A result that is a state. -/
def inS : State → Option State := some
/-- A pair that carries a state second. -/
def inSnd {α β : Type} (g : β → Option State) (x : α × β) : Option State := g x.2
/-- A pair that carries a state first. -/
def inFst {α β : Type} (g : α → Option State) (x : α × β) : Option State := g x.1
/-- An optional result. -/
def inSome {α : Type} (g : α → Option State) (x : Option α) : Option State := x.bind g
/-- A result that may be an error. -/
def inOk {ε α : Type} (g : α → Option State) : Except ε α → Option State
  | .ok x => g x
  | .error _ => none
/-- The outcome of a command. -/
def inNext {φ ρ : Type} : Host.Outcome State φ ρ → Option State
  | .next s => some s
  | _ => none

namespace On

variable {α β ε : Type} {g : α → Option State} {k : β → Option State} {ps : Nat} {s0 : State}

theorem start : On inS ps s0 s0 := fun _ h => by cases h; exact .refl _ _
theorem keeps {t : State} (h : On inS ps s0 t) : Keeps ps s0 t := h t rfl
theorem of_keeps {t : State} (h : Keeps ps s0 t) : On inS ps s0 t := fun _ e => by cases e; exact h
theorem of_eq {x e : α} (h : x = e) (he : On g ps s0 e) : On g ps s0 x := h ▸ he
theorem get {e p : α} {t : State} (h : e = p) (he : On g ps s0 e) (ht : g p = some t) : On inS ps s0 t :=
  of_keeps (he t (h ▸ ht))
theorem letIn {x e : α} {Q : Prop} (h : x = e) (he : On g ps s0 e) (hq : On g ps s0 x → Q) : Q := hq (of_eq h he)
theorem letS {x e : State} {Q : Prop} (h : x = e) (he : On inS ps s0 e) (hq : On inS ps s0 x → Q) : Q := hq (of_eq h he)
theorem haveIn {x : α} {Q : Prop} (h : On g ps s0 x) (hq : On g ps s0 x → Q) : Q := hq h
theorem fnIn {γ : Type} {P : γ → Prop} {z f : γ} {Q : Prop} (h : z = f) (hf : P f) (hq : P z → Q) : Q := hq (h ▸ hf)
theorem got {e p : α} {t : State} {Q : Prop} (h : e = p) (ht : g p = some t) (he : On g ps s0 e) (hq : On inS ps s0 t → Q) : Q :=
  hq (get h he ht)
theorem gotAs {e p : α} {t : β} {Q : Prop} (h : e = p) (ht : g p = k t) (he : On g ps s0 e) (hq : On k ps s0 t → Q) : Q :=
  hq fun u hu => he u (by rw [h, ht]; exact hu)
theorem ite {c : Prop} [Decidable c] {a b : α} (ha : On g ps s0 a) (hb : On g ps s0 b) : On g ps s0 (if c then a else b) := by
  split <;> assumption
theorem dite {c : Prop} [Decidable c] {a : c → α} {b : ¬c → α} (ha : ∀ h, On g ps s0 (a h)) (hb : ∀ h, On g ps s0 (b h)) :
    On g ps s0 (if h : c then a h else b h) := by
  split
  · exact ha _
  · exact hb _
theorem foldl {γ : Type} {f : α → γ → α} {x : α} {l : List γ} (hx : On g ps s0 x) (hf : ∀ x a, On g ps s0 x → On g ps s0 (f x a)) :
    On g ps s0 (l.foldl f x) := by
  induction l generalizing x with
  | nil => exact hx
  | cons a l ih => exact ih (hf x a hx)
theorem pair {a : α} {b : β} (hb : On k ps s0 b) : On (inSnd k) ps s0 (a, b) := hb
theorem pairFst {a : α} {b : β} (ha : On g ps s0 a) : On (inFst g) ps s0 (a, b) := ha
theorem snd {x : α × β} (h : On (inSnd k) ps s0 x) : On k ps s0 x.2 := h
theorem fst {x : α × β} (h : On (inFst g) ps s0 x) : On g ps s0 x.1 := h
theorem some {x : α} (h : On g ps s0 x) : On (inSome g) ps s0 (some x) := h
theorem none : On (inSome g) ps s0 none := fun _ h => by cases h
theorem ok {x : α} (h : On g ps s0 x) : On (inOk (ε := ε) g) ps s0 (.ok x) := h
theorem error {e : ε} : On (inOk g) ps s0 (.error e) := fun _ h => by cases h
theorem next {φ ρ : Type} {t : State} (h : On inS ps s0 t) : On (inNext (φ := φ) (ρ := ρ)) ps s0 (.next t) := h
theorem map {γ : Type} {x : Option γ} {f : γ → α} (h : ∀ y, x = Option.some y → On g ps s0 (f y)) : On (inSome g) ps s0 (x.map f) := by
  cases x with
  | none => exact none
  | some y => exact some (h y rfl)
theorem mapOf {x : Option α} {f : α → β} (hx : On (inSome g) ps s0 x) (h : ∀ y, On g ps s0 y → On k ps s0 (f y)) :
    On (inSome k) ps s0 (x.map f) := by
  cases x with
  | none => exact none
  | some y => exact some (h y hx)
theorem filter {x : Option α} {p : α → Bool} (hx : On (inSome g) ps s0 x) : On (inSome g) ps s0 (x.filter p) := by
  cases x with
  | none => exact none
  | some y =>
    rw [Option.filter_some]
    exact ite hx none
theorem findSome {γ : Type} {l : List γ} {f : γ → Option α} (h : ∀ a, On (inSome g) ps s0 (f a)) :
    On (inSome g) ps s0 (l.findSome? f) := by
  induction l with
  | nil => exact none
  | cons a l ih =>
    rw [List.findSome?_cons]
    split
    · rename_i b e
      exact e ▸ h a
    · exact ih
theorem getD {x : Option α} {d : α} (hx : On (inSome g) ps s0 x) (hd : On g ps s0 d) : On g ps s0 (x.getD d) := by
  cases x
  · exact hd
  · exact hx

/-- A state built from s, with the registers, the time and the record of s: what each other group becomes. -/
theorem mk {s : State} {acc : Serving}
    {power : Power}
    {fw : Firmware}
    {epochs : Epochs}
    {tables : Tables}
    {slices : List (Nat × Slice)}
    {meters : List (Nat × Meter)}
    {tm : Traffic}
    {fab : Fabric}
    {pair : Pair}
    {hbm : Hbm}
    {ports : Ports}
    {host : HostSide}
    {stewards : Stewards}
    {stats : Stats}
    {test : Testing}
    {draws : Nat}
    (h : On inS ps s0 s)
    (c_acc : Change ps 0x1 s.acc acc)
    (c_power : PartChange ps 0x2 0x1000000 (fun x => x.ms.mode) s.power power)
    (c_fw : FwChange ps s.fw fw)
    (c_epochs : Change ps 0x8 s.epochs epochs)
    (c_tables : Change ps 0x10 s.tables tables)
    (c_slices : Change ps 0x20 s.slices slices)
    (c_meters : Change ps 0x40 s.meters meters)
    (c_tm : Change ps 0x80 s.tm tm)
    (c_fab : Change ps 0x100 s.fab fab)
    (c_pair : PartChange ps 0x200 0x2000000 Pair.fenced s.pair pair)
    (c_hbm : Change ps 0x400 s.hbm hbm)
    (c_ports : Change ps 0x800 s.ports ports)
    (c_host : Change ps 0x1000 s.host host)
    (c_stewards : Change ps 0x2000 s.stewards stewards)
    (c_stats : Change ps 0x304000 s.stats stats)
    (c_test : Change ps 0x808000 s.test test)
    (c_draws : Change ps 0x10000 s.draws draws) :
    On inS ps s0 (State.mk s.pending s.now s.objs s.octs s.gens acc power fw epochs tables slices meters tm fab pair hbm ports host stewards stats test draws s.out) := by
  refine of_keeps (h.keeps.trans ⟨⟨rfl, Nat.le_refl _, List.suffix_refl _, id, id, id, Nat.le_of_eq c_fw.fuses.floor.symm, fun _ x => c_fw.fuses.revoked.symm ▸ x⟩, fun p hp => ?_⟩)
  cases p with
  | access => exact c_acc.same rfl hp
  | power => exact c_power.same rfl hp
  | firmware => exact c_fw.body hp
  | epochs => exact c_epochs.same rfl hp
  | tables => exact c_tables.same rfl hp
  | slices => exact c_slices.same rfl hp
  | meters => exact c_meters.same rfl hp
  | traffic => exact c_tm.same rfl hp
  | fabric => exact c_fab.same rfl hp
  | pair => exact c_pair.same rfl hp
  | memory => exact c_hbm.same rfl hp
  | ports => exact c_ports.same rfl hp
  | host => exact c_host.same rfl hp
  | stewards => exact c_stewards.same rfl hp
  | statistics => exact congrArg Stats.body (c_stats.sameOf (n := 14) rfl hp)
  | testing => exact congrArg Testing.body (c_test.sameOf (n := 15) rfl hp)
  | draws => exact c_draws.same rfl hp
  | output => rfl
  | time => rfl
  | generations => rfl
  | wrapped => exact congrArg Stats.wrapped (c_stats.sameOf (n := 20) rfl hp)
  | rings => exact congrArg Stats.rings (c_stats.sameOf (n := 21) rfl hp)
  | faults => exact c_fw.faults hp
  | health => exact ⟨congrArg Testing.health (c_test.sameOf (n := 23) rfl hp), congrArg Testing.healthSeq (c_test.sameOf (n := 23) rfl hp)⟩
  | mode => exact c_power.fine rfl hp
  | fence => exact c_pair.fine rfl hp
  | registers p => exact fun _ _ => ⟨rfl, rfl⟩

/-- A state built from s1 whose fuses hold at least what those of s hold. -/
theorem fuse {s s1 : State} {fw : Firmware} (hp : Covers ps 0x400004) (h : On inS ps s0 s) (h1 : On inS ps s0 s1)
    (hf : s.fw.floor ≤ fw.floor) (hr : ∀ n, s.fw.revoked.testBit n = true → fw.revoked.testBit n = true) :
    On inS ps s0 { s1 with fw := fw } := by
  have k1 := h1.keeps
  refine of_keeps ⟨⟨k1.onward.queue, k1.onward.time, k1.onward.out, k1.onward.objs, k1.onward.octs, k1.onward.gens,
    Nat.le_trans h.keeps.onward.floor hf, fun n x => hr n (h.keeps.onward.revoked n x)⟩, fun p hq => ?_⟩
  have := k1.only p hq
  cases p with
  | firmware => exact hp.absurd rfl hq
  | faults => exact hp.absurd rfl hq
  | _ => exact this

/-- The same with stores that keep their form; every register may change. -/
theorem mkStores {s : State} {objs : List (Nat × Nat)} {octs : List (Nat × List Byte)} {gens : List (Nat × Nat)} {acc : Serving}
    {power : Power}
    {fw : Firmware}
    {epochs : Epochs}
    {tables : Tables}
    {slices : List (Nat × Slice)}
    {meters : List (Nat × Meter)}
    {tm : Traffic}
    {fab : Fabric}
    {pair : Pair}
    {hbm : Hbm}
    {ports : Ports}
    {host : HostSide}
    {stewards : Stewards}
    {stats : Stats}
    {test : Testing}
    {draws : Nat}
    (h : On inS ps s0 s)
    (hr : Covers ps allRegisters) (ho : rising s.objs = true → rising objs = true)
    (hc : rising s.octs = true → rising octs = true) (hg : rising s.gens = true → rising gens = true) (c_gens : Change ps 0x80000 s.gens gens)
    (c_acc : Change ps 0x1 s.acc acc)
    (c_power : PartChange ps 0x2 0x1000000 (fun x => x.ms.mode) s.power power)
    (c_fw : FwChange ps s.fw fw)
    (c_epochs : Change ps 0x8 s.epochs epochs)
    (c_tables : Change ps 0x10 s.tables tables)
    (c_slices : Change ps 0x20 s.slices slices)
    (c_meters : Change ps 0x40 s.meters meters)
    (c_tm : Change ps 0x80 s.tm tm)
    (c_fab : Change ps 0x100 s.fab fab)
    (c_pair : PartChange ps 0x200 0x2000000 Pair.fenced s.pair pair)
    (c_hbm : Change ps 0x400 s.hbm hbm)
    (c_ports : Change ps 0x800 s.ports ports)
    (c_host : Change ps 0x1000 s.host host)
    (c_stewards : Change ps 0x2000 s.stewards stewards)
    (c_stats : Change ps 0x304000 s.stats stats)
    (c_test : Change ps 0x808000 s.test test)
    (c_draws : Change ps 0x10000 s.draws draws) :
    On inS ps s0 (State.mk s.pending s.now objs octs gens acc power fw epochs tables slices meters tm fab pair hbm ports host stewards stats test draws s.out) := by
  refine of_keeps (h.keeps.trans ⟨⟨rfl, Nat.le_refl _, List.suffix_refl _, ho, hc, hg, Nat.le_of_eq c_fw.fuses.floor.symm, fun _ x => c_fw.fuses.revoked.symm ▸ x⟩, fun p hp => ?_⟩)
  cases p with
  | access => exact c_acc.same rfl hp
  | power => exact c_power.same rfl hp
  | firmware => exact c_fw.body hp
  | epochs => exact c_epochs.same rfl hp
  | tables => exact c_tables.same rfl hp
  | slices => exact c_slices.same rfl hp
  | meters => exact c_meters.same rfl hp
  | traffic => exact c_tm.same rfl hp
  | fabric => exact c_fab.same rfl hp
  | pair => exact c_pair.same rfl hp
  | memory => exact c_hbm.same rfl hp
  | ports => exact c_ports.same rfl hp
  | host => exact c_host.same rfl hp
  | stewards => exact c_stewards.same rfl hp
  | statistics => exact congrArg Stats.body (c_stats.sameOf (n := 14) rfl hp)
  | testing => exact congrArg Testing.body (c_test.sameOf (n := 15) rfl hp)
  | draws => exact c_draws.same rfl hp
  | output => rfl
  | time => rfl
  | generations => exact c_gens.same rfl hp
  | wrapped => exact congrArg Stats.wrapped (c_stats.sameOf (n := 20) rfl hp)
  | rings => exact congrArg Stats.rings (c_stats.sameOf (n := 21) rfl hp)
  | faults => exact c_fw.faults hp
  | health => exact ⟨congrArg Testing.health (c_test.sameOf (n := 23) rfl hp), congrArg Testing.healthSeq (c_test.sameOf (n := 23) rfl hp)⟩
  | mode => exact c_power.fine rfl hp
  | fence => exact c_pair.fine rfl hp
  | registers p => exact hr.noPage hp

end On

end Sys2Proof.Machine
end

