-- ==== Sys2Proof/Laws/KeepsOps.lean ====
section
/-! SUPPORT. Sys2Proof/Laws/KeepsOps.lean: what the operations of Machine/Ops.lean keep, whatever they do. -/

namespace Sys2Proof.Machine

theorem State.setReg_keeps {s0 : State} {ps : Nat} {s : State} {i j v : Nat} (hp : Covers ps (pageMask i)) (hs : On inS ps s0 s) :
    On inS ps s0 (s.setReg i j v) :=
  On.of_keeps (hs.keeps.trans ⟨⟨rfl, Nat.le_refl _, List.suffix_refl _, rising_mset, id, id, Nat.le_refl _, fun _ h => h⟩, fun p hq => by
    cases p with
    | registers p => exact fun k hk => ⟨mget_mset_other (hp.notKey hq hk), rfl⟩
    | faults => exact ⟨rfl, rfl⟩
    | health => exact ⟨rfl, rfl⟩
    | _ => rfl⟩)

theorem State.setOct_keeps {s0 : State} {ps : Nat} {s : State} {i j : Nat} {v : List Byte} (hp : Covers ps (pageMask i))
    (hs : On inS ps s0 s) : On inS ps s0 (s.setOct i j v) :=
  On.of_keeps (hs.keeps.trans ⟨⟨rfl, Nat.le_refl _, List.suffix_refl _, id, rising_mset, id, Nat.le_refl _, fun _ h => h⟩, fun p hq => by
    cases p with
    | registers p => exact fun k hk => ⟨rfl, mget_mset_other (hp.notKey hq hk)⟩
    | faults => exact ⟨rfl, rfl⟩
    | health => exact ⟨rfl, rfl⟩
    | _ => rfl⟩)

theorem State.count_keeps {s0 : State} {ps : Nat} {s : State} {i j n : Nat} (hp : Covers ps (pageMask i)) (hw : Covers ps 0x100000)
    (hs : On inS ps s0 s) : On inS ps s0 (s.count i j n) := by
  have h := State.setReg_keeps (v := (s.reg i j + n) % counterSpan i j) (j := j) hp hs
  delta State.count
  refine On.ite h (On.of_keeps (h.keeps.trans ⟨.same rfl rfl rfl rfl rfl rfl rfl, fun p hq => ?_⟩))
  cases p with
  | registers p => exact fun k hk => ⟨rfl, rfl⟩
  | faults => exact ⟨rfl, rfl⟩
  | health => exact ⟨rfl, rfl⟩
  | wrapped => exact hw.absurd rfl hq
  | _ => rfl

theorem State.bump_keeps {s0 : State} {ps : Nat} {s : State} {i j : Nat} (hp : Covers ps (pageMask i)) (hw : Covers ps 0x100000)
    (hs : On inS ps s0 s) : On inS ps s0 (s.bump i j) := State.count_keeps hp hw hs

theorem State.incReg_keeps {s0 : State} {ps : Nat} {s : State} {i j : Nat} (hp : Covers ps (pageMask i)) (hs : On inS ps s0 s) :
    On inS ps s0 (s.incReg i j) := State.setReg_keeps hp hs

theorem State.reach_keeps {s0 : State} {ps : Nat} {s : State} {t : Nat} (hp : Covers ps 0x40000) (hs : On inS ps s0 s) :
    On inS ps s0 (s.reach t) :=
  On.of_keeps (hs.keeps.trans ⟨⟨rfl, Nat.le_max_left _ _, List.suffix_refl _, id, id, id, Nat.le_refl _, fun _ h => h⟩, fun p hq => by
    cases p with
    | registers p => exact fun k hk => ⟨rfl, rfl⟩
    | faults => exact ⟨rfl, rfl⟩
    | health => exact ⟨rfl, rfl⟩
    | time => exact hp.absurd rfl hq
    | _ => rfl⟩)

theorem State.emit_keeps {s0 : State} {ps : Nat} {s : State} {o : Output} (hp : Covers ps 0x20000) (hs : On inS ps s0 s) :
    On inS ps s0 (s.emit o) :=
  On.of_keeps (hs.keeps.trans ⟨⟨rfl, Nat.le_refl _, List.suffix_cons _ _, id, id, id, Nat.le_refl _, fun _ h => h⟩, fun p hq => by
    cases p with
    | registers p => exact fun k hk => ⟨rfl, rfl⟩
    | faults => exact ⟨rfl, rfl⟩
    | health => exact ⟨rfl, rfl⟩
    | output => exact hp.absurd rfl hq
    | _ => rfl⟩)

theorem State.draw_keeps {s0 : State} {ps : Nat} {s : State} (hp : Covers ps 0x10000) (hs : On inS ps s0 s) :
    On (inSnd inS) ps s0 (State.draw s) := by
  delta State.draw
  refine On.pair ?_
  refine On.mk (s := s) ?_ .k .k .k .k .k .k .k .k .k .k .k .k .k .k .k .k (.c (hp.sub rfl))
  exact hs

theorem State.drawBytes_keeps {s0 : State} {ps : Nat} {s : State} {n : Nat} (hp : Covers ps 0x10000) (hs : On inS ps s0 s) :
    On (inSnd inS) ps s0 (State.drawBytes s n) := by
  delta State.drawBytes
  refine On.pair ?_
  refine On.mk (s := s) ?_ .k .k .k .k .k .k .k .k .k .k .k .k .k .k .k .k (.c (hp.sub rfl))
  exact hs

theorem State.setClock_keeps {s0 : State} {ps : Nat} {s : State} {v : Nat} (hp : Covers ps 0x800) (hs : On inS ps s0 s) :
    On inS ps s0 (State.setClock s v) := by
  delta State.setClock
  refine On.mk (s := s) ?_ .k .k .k .k .k .k .k .k .k .k .k (.c (hp.sub rfl)) .k .k .k .k .k
  exact hs

theorem State.nextGen_keeps {s0 : State} {ps : Nat} {s : State} {kind idx : Nat} (hp : Covers ps 0x80000) (hs : On inS ps s0 s) :
    On inS ps s0 (s.nextGen kind idx) :=
  On.of_keeps (hs.keeps.trans ⟨⟨rfl, Nat.le_refl _, List.suffix_refl _, id, id, rising_mset, Nat.le_refl _, fun _ h => h⟩, fun p hq => by
    cases p with
    | registers p => exact fun k hk => ⟨rfl, rfl⟩
    | faults => exact ⟨rfl, rfl⟩
    | health => exact ⟨rfl, rfl⟩
    | generations => exact hp.absurd rfl hq
    | _ => rfl⟩)

theorem State.pushRing_keeps {s0 : State} {ps : Nat} {s : State} {k : Nat} {rec : List Byte}
    (hp : Covers ps 0x10000000000000000000000000000000000000000000000000000300000) (hs : On inS ps s0 s) :
    On inS ps s0 (s.pushRing k rec) := by
  delta State.pushRing
  extract_lets +onlyGivenNames r
  clear_value r
  refine On.ite (On.ite (State.bump_keeps (hp.sub rfl) (hp.sub rfl) hs) (State.bump_keeps (hp.sub rfl) (hp.sub rfl) hs)) ?_
  refine On.of_keeps (hs.keeps.trans ⟨.same rfl rfl rfl rfl rfl rfl rfl, fun p hq => ?_⟩)
  cases p with
  | registers p => exact fun k hk => ⟨rfl, rfl⟩
  | faults => exact ⟨rfl, rfl⟩
  | health => exact ⟨rfl, rfl⟩
  | rings => exact (hp.sub (m := 0x200000) rfl).absurd rfl hq
  | _ => rfl

theorem State.setThread_keeps {s0 : State} {ps : Nat} {s : State} {t : Nat} {x : Thread} (hp : Covers ps 0x2000) (hs : On inS ps s0 s) :
    On inS ps s0 (State.setThread s t x) := by
  delta State.setThread
  refine On.mk (s := s) ?_ .k .k .k .k .k .k .k .k .k .k .k .k .k (.c (hp.sub rfl)) .k .k .k
  exact hs

theorem State.signalThread_keeps {s0 : State} {ps : Nat} {s : State} {t : Nat} {bits : Nat} (hp : Covers ps 0x2000) (hs : On inS ps s0 s) :
    On inS ps s0 (State.signalThread s t bits) := by
  delta State.signalThread
  refine On.ite ?_ ?_
  · extract_lets +onlyGivenNames z1
    clear_value z1
    exact State.setThread_keeps (hp.sub rfl) hs
  · exact hs

theorem State.raiseVector_keeps {s0 : State} {ps : Nat} {s : State} {v : Nat} (hp : Covers ps 0x21000) (hs : On inS ps s0 s) :
    On inS ps s0 (State.raiseVector s v) := by
  delta State.raiseVector
  refine On.ite ?_ ?_
  · exact hs
  · split
    · rename_i x1 x2 e3
      refine On.ite ?_ ?_
      · refine On.mk (s := s) ?_ .k .k .k .k .k .k .k .k .k .k .k .k (.c (hp.sub rfl)) .k .k .k .k
        exact hs
      · exact State.emit_keeps (hp.sub rfl) hs
    · rename_i x4 e5
      refine On.mk (s := s) ?_ .k .k .k .k .k .k .k .k .k .k .k .k (.c (hp.sub rfl)) .k .k .k .k
      exact hs

theorem State.signalSet_keeps {s0 : State} {ps : Nat} {s : State} {k : Nat} (hp : Covers ps 0x23000) (hs : On inS ps s0 s) :
    On inS ps s0 (State.signalSet s k) := by
  delta State.signalSet
  extract_lets +onlyGivenNames z1
  clear_value z1
  split
  · rename_i x2 e3
    exact State.raiseVector_keeps (hp.sub rfl) hs
  · rename_i x4 e5
    refine On.ite ?_ ?_
    · exact State.signalThread_keeps (hp.sub rfl) hs
    · exact hs
  · rename_i x6 e7
    refine On.ite ?_ ?_
    · exact State.signalThread_keeps (hp.sub rfl) hs
    · exact hs
  · rename_i x8 e9 e10 e11
    exact hs

theorem State.setDoorbell_keeps {s0 : State} {ps : Nat} {s : State} {k : Nat} {d : DoorbellSet} (hp : Covers ps 0x1000) (hs : On inS ps s0 s) :
    On inS ps s0 (State.setDoorbell s k d) := by
  delta State.setDoorbell
  refine On.mk (s := s) ?_ .k .k .k .k .k .k .k .k .k .k .k .k (.c (hp.sub rfl)) .k .k .k .k
  exact hs

theorem State.ringSet_keeps {s0 : State} {ps : Nat} {s : State} {k : Nat} {bits : Nat} (hp : Covers ps 0x23000) (hs : On inS ps s0 s) :
    On inS ps s0 (State.ringSet s k bits) := by
  delta State.ringSet
  refine On.ite ?_ ?_
  · exact hs
  · extract_lets +onlyGivenNames z1 z2
    clear_value z1 z2
    extract_lets +onlyGivenNames z3
    clear_value (ez3 : z3 = _)
    refine On.letS (ps := ps) (s0 := s0) ez3 ?_ fun hz3 => ?_
    · exact State.setDoorbell_keeps (hp.sub rfl) hs
    refine On.ite ?_ ?_
    · exact State.signalSet_keeps (hp.sub rfl) hz3
    · exact hz3

theorem State.routeEvent_keeps {s0 : State} {ps : Nat} {s : State} {e : Nat} (hp : Covers ps 0x23000) (hs : On inS ps s0 s) :
    On inS ps s0 (State.routeEvent s e) := by
  delta State.routeEvent
  extract_lets +onlyGivenNames z1
  clear_value z1
  refine On.foldl ?_ ?_
  · exact hs
  · intro x2 x3 h4
    refine On.ite ?_ ?_
    · exact State.ringSet_keeps (hp.sub rfl) h4
    · exact h4

theorem State.raiseEvent_keeps {s0 : State} {ps : Nat} {s : State} {e : Nat} {d0 : Nat} {d1 : Nat} (hp : Covers ps 0x10100000000000000000000000000000000000000000000000000323000) (hs : On inS ps s0 s) :
    On inS ps s0 (State.raiseEvent s e d0 d1) := by
  delta State.raiseEvent
  extract_lets +onlyGivenNames z1
  clear_value z1
  extract_lets +onlyGivenNames z2
  clear_value (ez2 : z2 = _)
  refine On.letS (ps := ps) (s0 := s0) ez2 ?_ fun hz2 => ?_
  · exact State.setOct_keeps (hp.sub rfl) (State.setReg_keeps (hp.sub rfl) (State.bump_keeps (hp.sub rfl) (hp.sub rfl) hs))
  extract_lets +onlyGivenNames z3
  clear_value (ez3 : z3 = _)
  refine On.letS (ps := ps) (s0 := s0) ez3 ?_ fun hz3 => ?_
  · refine On.ite ?_ ?_
    · exact hz2
    · exact State.pushRing_keeps (hp.sub rfl) hz2
  refine On.ite ?_ ?_
  · exact hz3
  · exact State.routeEvent_keeps (hp.sub rfl) hz3

theorem State.setHealth_keeps {s0 : State} {ps : Nat} {s : State} {log : List (List Byte)} {seq : Nat} (hp : Covers ps 0x800000)
    (hs : On inS ps s0 s) : On inS ps s0 (s.setHealth log seq) := by
  delta State.setHealth
  refine On.of_keeps (hs.keeps.trans ⟨.same rfl rfl rfl rfl rfl rfl rfl, fun p hq => ?_⟩)
  cases p with
  | registers p => exact fun k hk => ⟨rfl, rfl⟩
  | faults => exact ⟨rfl, rfl⟩
  | health => exact hp.absurd rfl hq
  | _ => rfl

theorem State.logHealth_keeps {s0 : State} {ps : Nat} {s : State} {rec : List Byte} (hp : Covers ps 0x800000) (hs : On inS ps s0 s) :
    On inS ps s0 (State.logHealth s rec) := by
  delta State.logHealth
  extract_lets +onlyGivenNames z1
  clear_value z1
  exact State.setHealth_keeps (hp.sub rfl) hs

theorem State.setFaults_keeps {s0 : State} {ps : Nat} {s : State} {log waiting : List (List Byte)} (hp : Covers ps 0x400000)
    (hs : On inS ps s0 s) : On inS ps s0 (s.setFaults log waiting) := by
  delta State.setFaults
  refine On.of_keeps (hs.keeps.trans ⟨.same rfl rfl rfl rfl rfl rfl rfl, fun p hq => ?_⟩)
  cases p with
  | registers p => exact fun k hk => ⟨rfl, rfl⟩
  | faults => exact hp.absurd rfl hq
  | health => exact ⟨rfl, rfl⟩
  | _ => rfl

theorem State.logFault_keeps {s0 : State} {ps : Nat} {s : State} {rec : List Byte} (hp : Covers ps 0x400000) (hs : On inS ps s0 s) :
    On inS ps s0 (State.logFault s rec) := by
  delta State.logFault
  refine On.ite ?_ ?_
  · extract_lets +onlyGivenNames z1
    clear_value z1
    exact State.setFaults_keeps (hp.sub rfl) hs
  · exact State.setFaults_keeps (hp.sub rfl) hs

theorem State.health_keeps {s0 : State} {ps : Nat} {s : State} {area : Nat} {severity : Nat} {code : Nat} {detail : List Byte} (hp : Covers ps 0x1000000000000000000000000000000000000000000000000000000c00000) (hs : On inS ps s0 s) :
    On inS ps s0 (State.health s area severity code detail) := by
  delta State.health
  extract_lets +onlyGivenNames z1 z2
  clear_value z1 z2
  extract_lets +onlyGivenNames z3
  clear_value (ez3 : z3 = _)
  refine On.letS (ps := ps) (s0 := s0) ez3 ?_ fun hz3 => ?_
  · exact State.logHealth_keeps (hp.sub rfl) hs
  extract_lets +onlyGivenNames z4
  clear_value (ez4 : z4 = _)
  refine On.letS (ps := ps) (s0 := s0) ez4 ?_ fun hz4 => ?_
  · refine On.ite ?_ ?_
    · exact State.logFault_keeps (hp.sub rfl) hz3
    · exact hz3
  extract_lets +onlyGivenNames z5
  clear_value (ez5 : z5 = _)
  refine On.letS (ps := ps) (s0 := s0) ez5 ?_ fun hz5 => ?_
  · exact State.setReg_keeps (hp.sub rfl) hz4
  refine On.ite ?_ ?_
  · exact hz5
  · exact State.setReg_keeps (hp.sub rfl) (State.setReg_keeps (hp.sub rfl) hz5)

theorem State.healthFree_keeps {s0 : State} {ps : Nat} {s : State} {area : Nat} {code : Nat} {detail : List Byte} (hp : Covers ps 0x1000000000000000000000000000000000000000000000000000000c10000) (hs : On inS ps s0 s) :
    On inS ps s0 (State.healthFree s area code detail) := by
  delta State.healthFree
  split
  · rename_i x1 x2 x3 e4
    refine On.got (g := (inSnd inS)) (t := x3) (ps := ps) (s0 := s0) e4 rfl ?_ fun he4 => ?_
    · exact State.draw_keeps (hp.sub rfl) hs
    exact State.health_keeps (hp.sub rfl) he4

theorem State.answer_keeps {s0 : State} {ps : Nat} {s : State} {o : Origin} {a : OpAns} (hp : Covers ps 0x1) (hs : On inS ps s0 s) :
    On inS ps s0 (State.answer s o a) := by
  delta State.answer
  refine On.mk (s := s) ?_ (.c (hp.sub rfl)) .k .k .k .k .k .k .k .k .k .k .k .k .k .k .k .k
  exact hs

theorem State.noteOutcome_keeps {s0 : State} {ps : Nat} {s : State} {o : Origin} {i : Nat} {j : Nat} {st : Status} (hp : Covers ps 0x1) (hs : On inS ps s0 s) :
    On inS ps s0 (State.noteOutcome s o i j st) := by
  delta State.noteOutcome
  extract_lets +onlyGivenNames z1
  clear_value z1
  refine On.mk (s := s) ?_ (.c (hp.sub rfl)) .k .k .k .k .k .k .k .k .k .k .k .k .k .k .k .k
  exact hs

theorem State.setResult_keeps {s0 : State} {ps : Nat} {s : State} {o : Origin} {i : Nat} {j : Nat} {bs : List Byte} (hp : Covers ps 0x1) (hs : On inS ps s0 s) :
    On inS ps s0 (State.setResult s o i j bs) := by
  delta State.setResult
  extract_lets +onlyGivenNames z1
  clear_value z1
  refine On.mk (s := s) ?_ (.c (hp.sub rfl)) .k .k .k .k .k .k .k .k .k .k .k .k .k .k .k .k
  exact hs

end Sys2Proof.Machine
end

