-- ==== Sys2Proof/Laws/KeepsMateLink.lean ====
section
/-! SUPPORT. Sys2Proof/Laws/KeepsMateLink.lean: what the operations of Machine/MateLink.lean keep, whatever they do. -/

namespace Sys2Proof.Machine

theorem State.setLane_keeps {s0 : State} {ps : Nat} {s : State} {k : Nat} {l : MateLane} (hp : Covers ps 0x200) (hs : On inS ps s0 s) :
    On inS ps s0 (State.setLane s k l) := by
  delta State.setLane
  refine On.mk (s := s) ?_ .k .k .k .k .k .k .k .k .k (.m (hp.sub rfl) rfl) .k .k .k .k .k .k .k
  exact hs

theorem State.sendMate_keeps {s0 : State} {ps : Nat} {s : State} {k : Nat} {kind : Nat} {bundle : Nat} {seq : Nat} {nak : Bool} {payload : List Byte} (hp : Covers ps 0x20200) (hs : On inS ps s0 s) :
    On inS ps s0 (State.sendMate s k kind bundle seq nak payload) := by
  delta State.sendMate
  extract_lets +onlyGivenNames z1 z2
  clear_value z1 z2
  exact State.emit_keeps (hp.sub rfl) (State.setLane_keeps (hp.sub rfl) hs)

theorem State.sendNextRecord_keeps {s0 : State} {ps : Nat} {s : State} {k : Nat} (hp : Covers ps 0x20200) (hs : On inS ps s0 s) :
    On inS ps s0 (State.sendNextRecord s k) := by
  delta State.sendNextRecord
  extract_lets +onlyGivenNames z1
  clear_value z1
  refine On.ite ?_ ?_
  · exact hs
  · split
    · rename_i x2 x3 x4 x5 e6
      exact State.sendMate_keeps (hp.sub rfl) (State.setLane_keeps (hp.sub rfl) hs)
    · rename_i x7 x8 x9 x10 e11 e12
      extract_lets +onlyGivenNames z13 z14
      clear_value z13 z14
      refine State.sendMate_keeps (hp.sub rfl) ?_
      refine State.setLane_keeps (hp.sub rfl) ?_
      refine On.mk (s := s) ?_ .k .k .k .k .k .k .k .k .k (.m (hp.sub rfl) rfl) .k .k .k .k .k .k .k
      exact hs
    · rename_i x15 x16 e17 e18
      exact hs

theorem State.pumpMate_keeps {s0 : State} {ps : Nat} {s : State} (hp : Covers ps 0x20200) (hs : On inS ps s0 s) :
    On inS ps s0 (State.pumpMate s) := by
  delta State.pumpMate
  refine On.foldl ?_ ?_
  · exact hs
  · intro x1 x2 h3
    refine On.foldl ?_ ?_
    · exact h3
    · intro x4 x5 h6
      exact State.sendNextRecord_keeps (hp.sub rfl) h6

theorem State.sendRecord_keeps {s0 : State} {ps : Nat} {s : State} {rec : List Byte} (hp : Covers ps 0x20200) (hs : On inS ps s0 s) :
    On (inFst inS) ps s0 (State.sendRecord s rec) := by
  delta State.sendRecord
  extract_lets +onlyGivenNames z1
  clear_value z1
  extract_lets +onlyGivenNames z2
  clear_value (ez2 : z2 = _)
  refine On.letS (ps := ps) (s0 := s0) ez2 ?_ fun hz2 => ?_
  · refine On.foldl ?_ ?_
    · exact hs
    · intro x3 x4 h5
      refine On.mk (s := x3) ?_ .k .k .k .k .k .k .k .k .k (.m (hp.sub rfl) rfl) .k .k .k .k .k .k .k
      exact h5
  exact On.pairFst (State.pumpMate_keeps (hp.sub rfl) hz2)

theorem State.sendObject_keeps {s0 : State} {ps : Nat} {s : State} {ops : List Byte} (hp : Covers ps 0x20200) (hs : On inS ps s0 s) :
    On (inFst inS) ps s0 (State.sendObject s ops) := by
  delta State.sendObject
  extract_lets +onlyGivenNames z1
  clear_value z1
  split
  · rename_i x2 x3 x4 e5
    refine On.got (g := (inFst inS)) (t := x3) (ps := ps) (s0 := s0) e5 rfl ?_ fun he5 => ?_
    · refine State.sendRecord_keeps (hp.sub rfl) ?_
      refine On.mk (s := s) ?_ .k .k .k .k .k .k .k .k .k (.m (hp.sub rfl) rfl) .k .k .k .k .k .k .k
      exact hs
    exact On.pairFst he5

end Sys2Proof.Machine
end

