-- ==== Sys2Proof/Laws/KeepsOperands.lean ====
section
/-! SUPPORT. Sys2Proof/Laws/KeepsOperands.lean: what the operations of Machine/Operands.lean keep, whatever they do. -/

namespace Sys2Proof.Machine

theorem State.storeValue_keeps {s0 : State} {ps : Nat} {s : State} {i j : Nat} {c : List Byte} (hp : Covers ps (pageMask i))
    (hs : On inS ps s0 s) : On inS ps s0 (s.storeValue i j c) := by
  unfold State.storeValue
  split <;> first | exact State.setOct_keeps hp hs | exact State.setReg_keeps hp hs

theorem State.noteChange_keeps {s0 : State} {ps : Nat} {s : State} {t : Target} (hp : Covers ps 0x8) (hs : On inS ps s0 s) :
    On inS ps s0 (State.noteChange s t) := by
  delta State.noteChange
  extract_lets +onlyGivenNames z1
  clear_value z1
  refine On.mk (s := s) ?_ .k .k .k (.c (hp.sub rfl)) .k .k .k .k .k .k .k .k .k .k .k .k .k
  exact hs

theorem State.directJob_keeps {s0 : State} {ps : Nat} {s : State} {o : Origin} (hp : Covers ps 0x1) (hs : On inS ps s0 s) :
    On (inFst inS) ps s0 (State.directJob s o) := by
  delta State.directJob
  extract_lets +onlyGivenNames z1 z2
  clear_value z1 z2
  refine On.pairFst ?_
  refine On.mk (s := s) ?_ (.c (hp.sub rfl)) .k .k .k .k .k .k .k .k .k .k .k .k .k .k .k .k
  exact hs

theorem State.sendObjects_keeps {s0 : State} {ps : Nat} {s : State} {ops : List (List Byte)} (hp : Covers ps 0x20200) (hs : On inS ps s0 s) :
    On (inFst inS) ps s0 (State.sendObjects s ops) := by
  delta State.sendObjects
  refine On.foldl ?_ ?_
  · exact On.pairFst hs
  · intro x1 x2 h3
    split
    · rename_i x4 x5 x6 e7
      refine On.got (g := (inFst inS)) (t := x5) (ps := ps) (s0 := s0) e7 rfl ?_ fun he7 => ?_
      · exact State.sendObject_keeps (hp.sub rfl) (On.fst h3)
      exact On.pairFst he7

theorem State.announce_keeps {s0 : State} {ps : Nat} {s : State} {i : Nat} {j : Nat} {c : List Byte} (hp : Covers ps 0x20200) (hs : On inS ps s0 s) :
    On (inFst inS) ps s0 (State.announce s i j c) := by
  delta State.announce
  refine On.ite ?_ ?_
  · exact State.sendObjects_keeps (hp.sub rfl) hs
  · exact On.pairFst hs

theorem State.holdAnswer_keeps {s0 : State} {ps : Nat} {s : State} {job : Nat} {a : OpAns} {flash : Bool} {ticket : Option Nat} (hp : Covers ps 0x1) (hs : On inS ps s0 s) :
    On (inSnd inS) ps s0 (State.holdAnswer s job a flash ticket) := by
  delta State.holdAnswer
  refine On.ite ?_ ?_
  · refine On.pair ?_
    refine On.mk (s := s) ?_ (.c (hp.sub rfl)) .k .k .k .k .k .k .k .k .k .k .k .k .k .k .k .k
    exact hs
  · exact On.pair hs

theorem State.answerHeld_keeps {s0 : State} {ps : Nat} {s : State} {o : Origin} {a : OpAns} {flash : Bool} {ticket : Option Nat} (hp : Covers ps 0x1) (hs : On inS ps s0 s) :
    On inS ps s0 (State.answerHeld s o a flash ticket) := by
  delta State.answerHeld
  refine On.ite ?_ ?_
  · split
    · rename_i x1 x2 x3 e4
      refine On.got (g := (inFst inS)) (t := x2) (ps := ps) (s0 := s0) e4 rfl ?_ fun he4 => ?_
      · exact State.directJob_keeps (hp.sub rfl) hs
      exact On.snd (State.holdAnswer_keeps (hp.sub rfl) he4)
  · exact State.answer_keeps (hp.sub rfl) hs

theorem State.waitOrAnswer_keeps {s0 : State} {ps : Nat} {s : State} {o : Origin} {i : Nat} {j : Nat} {c : List Byte} (hp : Covers ps 0x20209) (hs : On inS ps s0 s) :
    On inS ps s0 (State.waitOrAnswer s o i j c) := by
  delta State.waitOrAnswer
  split
  · rename_i x1 x2 x3 e4
    refine On.got (g := (inFst inS)) (t := x2) (ps := ps) (s0 := s0) e4 rfl ?_ fun he4 => ?_
    · refine State.announce_keeps (hp.sub rfl) ?_
      refine On.foldl ?_ ?_
      · exact hs
      · intro x5 x6 h7
        exact State.noteChange_keeps (hp.sub rfl) h7
    exact State.answerHeld_keeps (hp.sub rfl) he4

theorem State.endWrite_keeps {s0 : State} {ps : Nat} {s : State} {o : Origin} {i : Nat} {j : Nat} {c : List Byte} {st : Status} (hp : Covers ps 0x20209) (hs : On inS ps s0 s) :
    On inS ps s0 (State.endWrite s o i j c st) := by
  delta State.endWrite
  extract_lets +onlyGivenNames z1
  clear_value (ez1 : z1 = _)
  refine On.letS (ps := ps) (s0 := s0) ez1 ?_ fun hz1 => ?_
  · refine On.ite ?_ ?_
    · exact State.noteOutcome_keeps (hp.sub rfl) hs
    · exact hs
  split
  · rename_i x2
    exact State.waitOrAnswer_keeps (hp.sub rfl) hz1
  · rename_i x3 e4
    exact State.answer_keeps (hp.sub rfl) hz1

theorem State.runWrite_keeps {s0 : State} {ps : Nat} {s : State} {o : Origin} {i : Nat} {j : Nat} {v : List Byte} {f : List Byte → State → Status × State} (hp : Covers ps 0x20209) (hs : On inS ps s0 s) (hf : ∀ v0 v1, On inS ps s0 v1 → On (inSnd inS) ps s0 (f v0 v1)) :
    On inS ps s0 (State.runWrite s o i j v f) := by
  delta State.runWrite
  split
  · rename_i x1 e2
    extract_lets +onlyGivenNames z3
    clear_value z3
    split
    · rename_i x4 x5 x6 e7
      refine On.got (g := (inSnd inS)) (t := x6) (ps := ps) (s0 := s0) e7 rfl ?_ fun he7 => ?_
      · exact hf _ _ hs
      exact State.endWrite_keeps (hp.sub rfl) he7
  · rename_i x8 e9
    exact State.endWrite_keeps (hp.sub rfl) hs

theorem State.runBlob_keeps {s0 : State} {ps : Nat} {s : State} {o : Origin} {i : Nat} {j : Nat} {v : List Byte} {f : List Byte → State → Status × State} (hp : Covers ps 0x20209) (hs : On inS ps s0 s) (hf : ∀ v0 v1, On inS ps s0 v1 → On (inSnd inS) ps s0 (f v0 v1)) :
    On inS ps s0 (State.runBlob s o i j v f) := by
  delta State.runBlob
  split
  · rename_i x1 e2
    split
    · rename_i x3 x4 x5 e6
      refine On.got (g := (inSnd inS)) (t := x5) (ps := ps) (s0 := s0) e6 rfl ?_ fun he6 => ?_
      · exact hf _ _ hs
      exact State.endWrite_keeps (hp.sub rfl) he6
  · rename_i x7 e8
    exact State.endWrite_keeps (hp.sub rfl) hs

theorem State.runCreate_keeps {s0 : State} {ps : Nat} {s : State} {o : Origin} {i : Nat} {v : List Byte} {f : List Byte → State → Except Status (Nat × State)} (_hp : Covers ps 0x0) (hs : On inS ps s0 s) (hf : ∀ v0 v1, On inS ps s0 v1 → On (inOk (inSnd inS)) ps s0 (f v0 v1)) :
    On (inSnd (inSnd inS)) ps s0 (State.runCreate s o i v f) := by
  delta State.runCreate
  split
  · rename_i x1 e2
    exact On.pair (On.pair hs)
  · rename_i x3 x4 e5
    refine On.ite ?_ ?_
    · exact On.pair (On.pair hs)
    · refine On.ite ?_ ?_
      · exact On.pair (On.pair hs)
      · refine On.ite ?_ ?_
        · exact On.pair (On.pair hs)
        · split
          · rename_i x6 x7 e8
            exact On.pair (On.pair hs)
          · rename_i x9 x10 x11 e12
            refine On.got (g := (inOk (inSnd inS))) (t := x11) (ps := ps) (s0 := s0) e12 rfl ?_ fun he12 => ?_
            · exact hf _ _ hs
            exact On.pair (On.pair he12)

theorem State.endCreate_keeps {s0 : State} {ps : Nat} {o : Origin} {i : Nat} {v : List Byte} {r : Status × Nat × State} (hp : Covers ps 0x20201) (hr : On (inSnd (inSnd inS)) ps s0 r) :
    On inS ps s0 (State.endCreate o i v r) := by
  delta State.endCreate
  split
  · rename_i x1 x2 x3 x4
    have hp5 : On inS ps s0 x4 := hr
    extract_lets +onlyGivenNames z6
    clear_value (ez6 : z6 = _)
    refine On.letS (ps := ps) (s0 := s0) ez6 ?_ fun hz6 => ?_
    · exact State.noteOutcome_keeps (hp.sub rfl) hp5
    split
    · rename_i x7
      have hp8 : On inS ps s0 x4 := hr
      split
      · rename_i x9 x10 x11 e12
        refine On.got (g := (inFst inS)) (t := x10) (ps := ps) (s0 := s0) e12 rfl ?_ fun he12 => ?_
        · refine On.ite ?_ ?_
          · exact State.sendObjects_keeps (hp.sub rfl) hz6
          · exact On.pairFst hz6
        exact State.answerHeld_keeps (hp.sub rfl) he12
    · rename_i x13 e14
      exact State.answer_keeps (hp.sub rfl) hz6

theorem State.answerInto_keeps {s0 : State} {ps : Nat} {o : Origin} {i : Nat} {j : Nat} {r : Status × List Byte × State} (hp : Covers ps 0x1) (hr : On (inSnd (inSnd inS)) ps s0 r) :
    On (inSnd inS) ps s0 (State.answerInto o i j r) := by
  delta State.answerInto
  split
  · rename_i x1 e2
    exact On.pair (State.setResult_keeps (hp.sub rfl) (On.snd (On.snd hr)))
  · rename_i x3 e4
    exact On.pair (On.snd (On.snd hr))

theorem State.runQuery_keeps {s0 : State} {ps : Nat} {s : State} {o : Origin} {i : Nat} {j : Nat} {resI : Nat} {resJ : Nat} {v : List Byte} {f : List Byte → State → Status × List Byte × State} (hp : Covers ps 0x20209) (hs : On inS ps s0 s) (hf : ∀ v0 v1, On inS ps s0 v1 → On (inSnd (inSnd inS)) ps s0 (f v0 v1)) :
    On inS ps s0 (State.runQuery s o i j resI resJ v f) := by
  delta State.runQuery
  refine State.runWrite_keeps (hp.sub rfl) ?_ ?_
  · exact hs
  · intro x1 x2 h3
    exact State.answerInto_keeps (hp.sub rfl) (hf _ _ h3)

end Sys2Proof.Machine
end

