-- ==== Sys2Proof/Laws/KeepsCounting.lean ====
section
/-! SUPPORT. Sys2Proof/Laws/KeepsCounting.lean: what the operations of Machine/Counting.lean keep, whatever they do. -/

namespace Sys2Proof.Machine

theorem State.flushSet_keeps {s0 : State} {ps : Nat} {s : State} {i : Nat} (hp : Covers ps 0x200000000000000000000000000000000000000000000000000304000) (hs : On inS ps s0 s) :
    On inS ps s0 (State.flushSet s i) := by
  delta State.flushSet
  split
  · rename_i x1 x2 x3 x4 e5 e6
    split
    · rename_i x7 x8 x9 e10
      split
      · rename_i x11 x12 x13 e14
        extract_lets +onlyGivenNames z15 z16 z17
        clear_value z15 z16 z17
        refine State.bump_keeps (hp.sub rfl) (hp.sub rfl) ?_
        refine On.mk (s := s) ?_ .k .k .k .k .k .k .k .k .k .k .k .k .k .k (.c (hp.sub rfl)) .k .k
        exact hs
  · rename_i x18 x19 e20
    exact hs

theorem State.flushQueue_keeps {s0 : State} {ps : Nat} {s : State} {i : Nat} (hp : Covers ps 0x200000000000000000000000000000000000000000000000000304000) (hs : On inS ps s0 s) :
    On inS ps s0 (State.flushQueue s i) := by
  delta State.flushQueue
  split
  · rename_i x1 x2 e3
    extract_lets +onlyGivenNames z4 z5
    clear_value z4 z5
    refine State.bump_keeps (hp.sub rfl) (hp.sub rfl) ?_
    refine On.mk (s := s) ?_ .k .k .k .k .k .k .k .k .k .k .k .k .k .k (.c (hp.sub rfl)) .k .k
    exact hs
  · rename_i x6 e7
    exact hs

theorem State.flushChannel_keeps {s0 : State} {ps : Nat} {s : State} {i : Nat} (hp : Covers ps 0x200000000000000000000000000000000000000000000000000304000) (hs : On inS ps s0 s) :
    On inS ps s0 (State.flushChannel s i) := by
  delta State.flushChannel
  split
  · rename_i x1 x2 e3
    extract_lets +onlyGivenNames z4 z5
    clear_value z4 z5
    refine State.bump_keeps (hp.sub rfl) (hp.sub rfl) ?_
    refine On.mk (s := s) ?_ .k .k .k .k .k .k .k .k .k .k .k .k .k .k (.c (hp.sub rfl)) .k .k
    exact hs
  · rename_i x6 e7
    exact hs

theorem State.flushDelta_keeps {s0 : State} {ps : Nat} {s : State} {kind : Nat} {i : Nat} (hp : Covers ps 0x200000000000000000000000000000000000000000000000000304000) (hs : On inS ps s0 s) :
    On inS ps s0 (State.flushDelta s kind i) := by
  delta State.flushDelta
  refine On.ite ?_ ?_
  · exact hs
  · split
    · rename_i x1
      exact State.flushSet_keeps (hp.sub rfl) hs
    · rename_i x2
      exact State.flushQueue_keeps (hp.sub rfl) hs
    · rename_i x3
      exact State.flushChannel_keeps (hp.sub rfl) hs
    · rename_i x4 e5 e6 e7
      exact hs

theorem State.flushAll_keeps {s0 : State} {ps : Nat} {s : State} (hp : Covers ps 0x200000000000000000000000000000000000000000000000000304000) (hs : On inS ps s0 s) :
    On inS ps s0 (State.flushAll s) := by
  delta State.flushAll
  extract_lets +onlyGivenNames z1
  clear_value (ez1 : z1 = _)
  refine On.letS (ps := ps) (s0 := s0) ez1 ?_ fun hz1 => ?_
  · refine On.foldl ?_ ?_
    · exact hs
    · intro x2 x3 h4
      exact State.flushDelta_keeps (hp.sub rfl) h4
  extract_lets +onlyGivenNames z5
  clear_value (ez5 : z5 = _)
  refine On.letS (ps := ps) (s0 := s0) ez5 ?_ fun hz5 => ?_
  · refine On.foldl ?_ ?_
    · exact hz1
    · intro x6 x7 h8
      exact State.flushDelta_keeps (hp.sub rfl) h8
  refine On.foldl ?_ ?_
  · exact hz5
  · intro x9 x10 h11
    exact State.flushDelta_keeps (hp.sub rfl) h11

theorem State.roomForDelta_keeps {s0 : State} {ps : Nat} {s : State} {kind : Nat} {i : Nat} (hp : Covers ps 0x200000000000000000000000000000000000000000000000000304000) (hs : On inS ps s0 s) :
    On inS ps s0 (State.roomForDelta s kind i) := by
  delta State.roomForDelta
  extract_lets +onlyGivenNames z1
  clear_value z1
  refine On.ite ?_ ?_
  · exact hs
  · extract_lets +onlyGivenNames z2
    clear_value z2
    split
    · rename_i x3 x4 e5
      exact State.flushDelta_keeps (hp.sub rfl) hs
    · rename_i x6 e7
      exact hs

theorem State.countSet_keeps {s0 : State} {ps : Nat} {s : State} {i : Nat} {bytes : Nat} (hp : Covers ps 0x200000000000000000000000000000000000000000000000000304000) (hs : On inS ps s0 s) :
    On inS ps s0 (State.countSet s i bytes) := by
  delta State.countSet
  extract_lets +onlyGivenNames z1
  clear_value (ez1 : z1 = _)
  refine On.letS (ps := ps) (s0 := s0) ez1 ?_ fun hz1 => ?_
  · exact State.roomForDelta_keeps (hp.sub rfl) hs
  extract_lets +onlyGivenNames z2 z3
  clear_value z2 z3
  refine On.ite ?_ ?_
  · exact State.bump_keeps (hp.sub rfl) (hp.sub rfl) hz1
  · extract_lets +onlyGivenNames z4
    clear_value (ez4 : z4 = _)
    refine On.letS (ps := ps) (s0 := s0) ez4 ?_ fun hz4 => ?_
    · refine On.ite ?_ ?_
      · exact State.flushDelta_keeps (hp.sub rfl) hz1
      · exact hz1
    extract_lets +onlyGivenNames z5
    clear_value z5
    refine On.mk (s := z4) ?_ .k .k .k .k .k .k .k .k .k .k .k .k .k .k (.c (hp.sub rfl)) .k .k
    exact hz4

theorem State.countQueue_keeps {s0 : State} {ps : Nat} {s : State} {i : Nat} {f : QueueStats → QueueStats} (hp : Covers ps 0x200000000000000000000000000000000000000000000000000304000) (hs : On inS ps s0 s) :
    On inS ps s0 (State.countQueue s i f) := by
  delta State.countQueue
  extract_lets +onlyGivenNames z1
  clear_value (ez1 : z1 = _)
  refine On.letS (ps := ps) (s0 := s0) ez1 ?_ fun hz1 => ?_
  · exact State.roomForDelta_keeps (hp.sub rfl) hs
  extract_lets +onlyGivenNames z2 z3 z4
  clear_value z2 z3 z4
  refine On.ite ?_ ?_
  · exact State.bump_keeps (hp.sub rfl) (hp.sub rfl) hz1
  · extract_lets +onlyGivenNames z5
    clear_value z5
    extract_lets +onlyGivenNames z6
    clear_value (ez6 : z6 = _)
    refine On.letS (ps := ps) (s0 := s0) ez6 ?_ fun hz6 => ?_
    · refine On.mk (s := z1) ?_ .k .k .k .k .k .k .k .k .k .k .k .k .k .k (.c (hp.sub rfl)) .k .k
      exact hz1
    refine On.ite ?_ ?_
    · exact State.flushDelta_keeps (hp.sub rfl) hz6
    · exact hz6

theorem State.countChannel_keeps {s0 : State} {ps : Nat} {s : State} {i : Nat} {f : ChannelStats → ChannelStats} (hp : Covers ps 0x200000000000000000000000000000000000000000000000000304000) (hs : On inS ps s0 s) :
    On inS ps s0 (State.countChannel s i f) := by
  delta State.countChannel
  extract_lets +onlyGivenNames z1
  clear_value (ez1 : z1 = _)
  refine On.letS (ps := ps) (s0 := s0) ez1 ?_ fun hz1 => ?_
  · exact State.roomForDelta_keeps (hp.sub rfl) hs
  extract_lets +onlyGivenNames z2 z3 z4
  clear_value z2 z3 z4
  refine On.ite ?_ ?_
  · exact State.bump_keeps (hp.sub rfl) (hp.sub rfl) hz1
  · extract_lets +onlyGivenNames z5
    clear_value z5
    extract_lets +onlyGivenNames z6
    clear_value (ez6 : z6 = _)
    refine On.letS (ps := ps) (s0 := s0) ez6 ?_ fun hz6 => ?_
    · refine On.mk (s := z1) ?_ .k .k .k .k .k .k .k .k .k .k .k .k .k .k (.c (hp.sub rfl)) .k .k
      exact hz1
    refine On.ite ?_ ?_
    · exact State.flushDelta_keeps (hp.sub rfl) hz6
    · exact hz6

theorem State.clearV_keeps {s0 : State} {ps : Nat} {s : State} {i : Nat} {j : Nat} (hp : Covers ps 0xffffffffffffffffffffffffffffffffffffffffffffffffffffffffffffffff00304000) (hs : On inS ps s0 s) :
    On inS ps s0 (State.clearV s i j) := by
  delta State.clearV
  extract_lets +onlyGivenNames z1
  clear_value (ez1 : z1 = _)
  refine On.letS (ps := ps) (s0 := s0) ez1 ?_ fun hz1 => ?_
  · exact State.setReg_keeps (hp.sub rfl).page hs
  refine On.mk (s := z1) ?_ .k .k .k .k .k .k .k .k .k .k .k .k .k .k (.c (hp.sub rfl)) .k .k
  exact hz1

theorem State.clearVs_keeps {s0 : State} {ps : Nat} {s : State} {p : Nat → Bool} (hp : Covers ps 0xffffffffffffffffffffffffffffffffffffffffffffffffffffffffffffffff00304000) (hs : On inS ps s0 s) :
    On inS ps s0 (State.clearVs s p) := by
  delta State.clearVs
  extract_lets +onlyGivenNames z1
  clear_value z1
  refine On.mkStores (s := s) ?_ (hp.sub rfl) rising_filter id id .k .k .k .k .k .k .k .k .k .k .k .k .k .k .k (.c (hp.sub rfl)) .k .k
  exact hs

theorem State.clearSet_keeps {s0 : State} {ps : Nat} {s : State} {i : Nat} (hp : Covers ps 0x304000) (hs : On inS ps s0 s) :
    On inS ps s0 (State.clearSet s i) := by
  delta State.clearSet
  split
  · rename_i x1 e2
    exact hs
  · rename_i x3 x4 e5
    refine On.mk (s := s) ?_ .k .k .k .k .k .k .k .k .k .k .k .k .k .k (.c (hp.sub rfl)) .k .k
    exact hs

theorem State.clearQueueStats_keeps {s0 : State} {ps : Nat} {s : State} {i : Nat} (hp : Covers ps 0x304000) (hs : On inS ps s0 s) :
    On inS ps s0 (State.clearQueueStats s i) := by
  delta State.clearQueueStats
  refine On.mk (s := s) ?_ .k .k .k .k .k .k .k .k .k .k .k .k .k .k (.c (hp.sub rfl)) .k .k
  exact hs

theorem State.clearChannelStats_keeps {s0 : State} {ps : Nat} {s : State} {i : Nat} (hp : Covers ps 0x304000) (hs : On inS ps s0 s) :
    On inS ps s0 (State.clearChannelStats s i) := by
  delta State.clearChannelStats
  refine On.mk (s := s) ?_ .k .k .k .k .k .k .k .k .k .k .k .k .k .k (.c (hp.sub rfl)) .k .k
  exact hs

theorem State.clearHistogram_keeps {s0 : State} {ps : Nat} {s : State} {w : Nat} (hp : Covers ps 0x80) (hs : On inS ps s0 s) :
    On inS ps s0 (State.clearHistogram s w) := by
  delta State.clearHistogram
  split
  · rename_i x1 e2
    exact hs
  · rename_i x3 x4 e5
    refine On.mk (s := s) ?_ .k .k .k .k .k .k .k (.c (hp.sub rfl)) .k .k .k .k .k .k .k .k .k
    exact hs

theorem State.setStack_keeps {s0 : State} {ps : Nat} {s : State} {h : Nat} {x : Stack} (hp : Covers ps 0x400) (hs : On inS ps s0 s) :
    On inS ps s0 (State.setStack s h x) := by
  delta State.setStack
  refine On.mk (s := s) ?_ .k .k .k .k .k .k .k .k .k .k (.c (hp.sub rfl)) .k .k .k .k .k .k
  exact hs

theorem State.wakeStack_keeps {s0 : State} {ps : Nat} {s : State} {h : Nat} (hp : Covers ps 0x2000000000000000000000000000000000400) (hs : On inS ps s0 s) :
    On inS ps s0 (State.wakeStack s h) := by
  delta State.wakeStack
  refine On.ite ?_ ?_
  · exact State.setReg_keeps (hp.sub rfl) (State.setStack_keeps (hp.sub rfl) hs)
  · exact hs

theorem State.wakeStacks_keeps {s0 : State} {ps : Nat} {s : State} (hp : Covers ps 0x2000000000000000000000000000000000400) (hs : On inS ps s0 s) :
    On inS ps s0 (State.wakeStacks s) := by
  delta State.wakeStacks
  refine On.foldl ?_ ?_
  · exact hs
  · intro x1 x2 h3
    exact State.wakeStack_keeps (hp.sub rfl) h3

theorem State.touchHbm_keeps {s0 : State} {ps : Nat} {s : State} (hp : Covers ps 0x2000000000000000000000000000000000400) (hs : On inS ps s0 s) :
    On inS ps s0 (State.touchHbm s) := by
  delta State.touchHbm
  refine On.foldl ?_ ?_
  · exact hs
  · intro x1 x2 h3
    extract_lets +onlyGivenNames z4
    clear_value z4
    extract_lets +onlyGivenNames z5
    clear_value (ez5 : z5 = _)
    refine On.letS (ps := ps) (s0 := s0) ez5 ?_ fun hz5 => ?_
    · exact State.setStack_keeps (hp.sub rfl) h3
    exact State.wakeStack_keeps (hp.sub rfl) hz5

theorem State.setPc_keeps {s0 : State} {ps : Nat} {s : State} {cc : Nat} {x : PseudoChannel} (hp : Covers ps 0x400) (hs : On inS ps s0 s) :
    On inS ps s0 (State.setPc s cc x) := by
  delta State.setPc
  refine On.mk (s := s) ?_ .k .k .k .k .k .k .k .k .k .k (.c (hp.sub rfl)) .k .k .k .k .k .k
  exact hs

theorem State.activateRow_keeps {s0 : State} {ps : Nat} {s : State} {cc : Nat} (hp : Covers ps 0x2000000000000000000000000000000100400) (hs : On inS ps s0 s) :
    On inS ps s0 (State.activateRow s cc) := by
  delta State.activateRow
  extract_lets +onlyGivenNames z1
  clear_value z1
  split
  · rename_i x2 x3 x4 e5
    extract_lets +onlyGivenNames z6
    clear_value (ez6 : z6 = _)
    refine On.letS (ps := ps) (s0 := s0) ez6 ?_ fun hz6 => ?_
    · exact State.setPc_keeps (hp.sub rfl) hs
    refine On.ite ?_ ?_
    · exact State.bump_keeps (hp.sub rfl) (hp.sub rfl) hz6
    · exact hz6

theorem State.segmentAccess_keeps {s0 : State} {ps : Nat} {s : State} {port : Nat} (hp : Covers ps 0x2000000000000000000000000000000100400) (hs : On inS ps s0 s) :
    On inS ps s0 (State.segmentAccess s port) := by
  delta State.segmentAccess
  refine On.foldl ?_ ?_
  · exact State.count_keeps (hp.sub rfl) (hp.sub rfl) hs
  · intro x1 x2 h3
    exact State.activateRow_keeps (hp.sub rfl) h3

theorem State.loseStat_keeps {s0 : State} {ps : Nat} {s : State} {kind : Nat} {i : Nat} (hp : Covers ps 0x304000) (hs : On inS ps s0 s) :
    On inS ps s0 (State.loseStat s kind i) := by
  delta State.loseStat
  split
  · rename_i x1
    split
    · rename_i x2 x3 e4
      refine On.mk (s := s) ?_ .k .k .k .k .k .k .k .k .k .k .k .k .k .k (.c (hp.sub rfl)) .k .k
      exact hs
    · rename_i x5 e6
      exact hs
  · rename_i x7
    refine On.mk (s := s) ?_ .k .k .k .k .k .k .k .k .k .k .k .k .k .k (.c (hp.sub rfl)) .k .k
    exact hs
  · rename_i x8
    refine On.mk (s := s) ?_ .k .k .k .k .k .k .k .k .k .k .k .k .k .k (.c (hp.sub rfl)) .k .k
    exact hs
  · rename_i x9 e10 e11 e12
    exact hs

theorem State.setTest_keeps {s0 : State} {ps : Nat} {s : State} {k : Nat} {t : PatternTest} (hp : Covers ps 0x808000) (hs : On inS ps s0 s) :
    On inS ps s0 (State.setTest s k t) := by
  delta State.setTest
  refine On.mk (s := s) ?_ .k .k .k .k .k .k .k .k .k .k .k .k .k .k .k (.c (hp.sub rfl)) .k
  exact hs

theorem State.sampleTest_keeps {s0 : State} {ps : Nat} {s : State} {k : Nat} (hp : Covers ps 0x818000) (hs : On inS ps s0 s) :
    On inS ps s0 (State.sampleTest s k) := by
  delta State.sampleTest
  split
  · rename_i x1 x2 e3
    refine On.ite ?_ ?_
    · exact hs
    · split
      · rename_i x4 x5 x6 e7
        refine On.got (g := (inSnd inS)) (t := x6) (ps := ps) (s0 := s0) e7 rfl ?_ fun he7 => ?_
        · exact State.draw_keeps (hp.sub rfl) hs
        split
        · rename_i x8 x9 x10 e11
          refine On.got (g := (inSnd inS)) (t := x10) (ps := ps) (s0 := s0) e11 rfl ?_ fun he11 => ?_
          · exact State.draw_keeps (hp.sub rfl) he7
          split
          · rename_i x12 x13 x14 e15
            refine On.got (g := (inSnd inS)) (t := x14) (ps := ps) (s0 := s0) e15 rfl ?_ fun he15 => ?_
            · exact State.draw_keeps (hp.sub rfl) he11
            split
            · rename_i x16 x17 x18 e19
              refine On.got (g := (inSnd inS)) (t := x18) (ps := ps) (s0 := s0) e19 rfl ?_ fun he19 => ?_
              · exact State.draw_keeps (hp.sub rfl) he15
              exact State.setTest_keeps (hp.sub rfl) he19
  · rename_i x20 e21
    exact hs

theorem State.loseChannelStats_keeps {s0 : State} {ps : Nat} {s : State} {cc : Nat} (hp : Covers ps 0x304000) (hs : On inS ps s0 s) :
    On inS ps s0 (State.loseChannelStats s cc) := by
  delta State.loseChannelStats
  extract_lets +onlyGivenNames z1
  clear_value z1
  extract_lets +onlyGivenNames z2
  clear_value (ez2 : z2 = _)
  refine On.letS (ps := ps) (s0 := s0) ez2 ?_ fun hz2 => ?_
  · refine On.foldl ?_ ?_
    · exact hs
    · intro x3 x4 h5
      exact State.loseStat_keeps (hp.sub rfl) h5
  extract_lets +onlyGivenNames z6
  clear_value (ez6 : z6 = _)
  refine On.letS (ps := ps) (s0 := s0) ez6 ?_ fun hz6 => ?_
  · refine On.foldl ?_ ?_
    · exact hz2
    · intro x7 x8 h9
      exact State.loseStat_keeps (hp.sub rfl) h9
  refine On.foldl ?_ ?_
  · exact hz6
  · intro x10 x11 h12
    exact State.loseStat_keeps (hp.sub rfl) h12

theorem State.refreshRecclk_keeps {s0 : State} {ps : Nat} {s : State} (hp : Covers ps 0x200000000000000000000) (hs : On inS ps s0 s) :
    On inS ps s0 (State.refreshRecclk s) := by
  delta State.refreshRecclk
  refine On.foldl ?_ ?_
  · exact hs
  · intro x1 x2 h3
    extract_lets +onlyGivenNames z4
    clear_value z4
    exact State.setReg_keeps (hp.sub rfl) h3

theorem State.setLanes_keeps {s0 : State} {ps : Nat} {s : State} {ls : List Nat} {st : Nat} (hp : Covers ps 0x600000000000000000000) (hs : On inS ps s0 s) :
    On inS ps s0 (State.setLanes s ls st) := by
  delta State.setLanes
  refine State.refreshRecclk_keeps (hp.sub rfl) ?_
  refine On.foldl ?_ ?_
  · exact hs
  · intro x1 x2 h3
    exact State.setReg_keeps (hp.sub rfl) h3

theorem State.endTest_keeps {s0 : State} {ps : Nat} {s : State} {st : Nat} {k : Nat} (hp : Covers ps 0x1000000000000000000000000000000000000000600000000000000f1c000) (hs : On inS ps s0 s) :
    On inS ps s0 (State.endTest s st k) := by
  delta State.endTest
  extract_lets +onlyGivenNames z1
  clear_value (ez1 : z1 = _)
  refine On.letS (ps := ps) (s0 := s0) ez1 ?_ fun hz1 => ?_
  · exact State.sampleTest_keeps (hp.sub rfl) hs
  split
  · rename_i x2 x3 e4
    refine On.ite ?_ ?_
    · exact hz1
    · extract_lets +onlyGivenNames z5
      clear_value (ez5 : z5 = _)
      refine On.letS (ps := ps) (s0 := s0) ez5 ?_ fun hz5 => ?_
      · exact State.setTest_keeps (hp.sub rfl) hz1
      extract_lets +onlyGivenNames z6
      clear_value (ez6 : z6 = _)
      refine On.letS (ps := ps) (s0 := s0) ez6 ?_ fun hz6 => ?_
      · refine On.ite ?_ ?_
        · exact State.setLanes_keeps (hp.sub rfl) hz5
        · exact hz5
      extract_lets +onlyGivenNames z7
      clear_value (ez7 : z7 = _)
      refine On.letS (ps := ps) (s0 := s0) ez7 ?_ fun hz7 => ?_
      · refine On.ite ?_ ?_
        · exact State.healthFree_keeps (hp.sub rfl) hz6
        · exact hz6
      refine On.ite ?_ ?_
      · exact State.loseChannelStats_keeps (hp.sub rfl) hz7
      · exact hz7
  · rename_i x8 e9
    exact hz1

theorem State.abortTests_keeps {s0 : State} {ps : Nat} {s : State} {pick : Nat → Bool} (hp : Covers ps 0x1000000000000000000000000000000000000000600000000000000f1c000) (hs : On inS ps s0 s) :
    On inS ps s0 (State.abortTests s pick) := by
  delta State.abortTests
  refine On.foldl ?_ ?_
  · exact hs
  · intro x1 x2 h3
    exact State.endTest_keeps (hp.sub rfl) h3

theorem State.wakeLate_keeps {s0 : State} {ps : Nat} {s : State} {kind : Nat} {n : Nat} {ns : Nat} (hp : Covers ps 0x10100000000000000000000000000000000000000010000000000323000) (hs : On inS ps s0 s) :
    On inS ps s0 (State.wakeLate s kind n ns) := by
  delta State.wakeLate
  exact State.raiseEvent_keeps (hp.sub rfl) (State.setReg_keeps (hp.sub rfl) (State.bump_keeps (hp.sub rfl) (hp.sub rfl) hs))

end Sys2Proof.Machine
end

