-- ==== Sys2Proof/Laws/KeepsQueueOps.lean ====
section
/-! SUPPORT. Sys2Proof/Laws/KeepsQueueOps.lean: what the operations of Machine/QueueOps.lean keep, whatever they do. -/

namespace Sys2Proof.Machine

theorem State.setQueue_keeps {s0 : State} {ps : Nat} {s : State} {i : Nat} {q : Queue} (hp : Covers ps 0x80) (hs : On inS ps s0 s) :
    On inS ps s0 (State.setQueue s i q) := by
  delta State.setQueue
  refine On.mk (s := s) ?_ .k .k .k .k .k .k .k (.c (hp.sub rfl)) .k .k .k .k .k .k .k .k .k
  exact hs

theorem State.setNode_keeps {s0 : State} {ps : Nat} {s : State} {i : Nat} {n : SchedNode} (hp : Covers ps 0x80) (hs : On inS ps s0 s) :
    On inS ps s0 (State.setNode s i n) := by
  delta State.setNode
  refine On.mk (s := s) ?_ .k .k .k .k .k .k .k (.c (hp.sub rfl)) .k .k .k .k .k .k .k .k .k
  exact hs

theorem State.setTmSlice_keeps {s0 : State} {ps : Nat} {s : State} {n : Nat} {x : TmSlice} (hp : Covers ps 0x80) (hs : On inS ps s0 s) :
    On inS ps s0 (State.setTmSlice s n x) := by
  delta State.setTmSlice
  refine On.mk (s := s) ?_ .k .k .k .k .k .k .k (.c (hp.sub rfl)) .k .k .k .k .k .k .k .k .k
  exact hs

theorem State.setSlice_keeps {s0 : State} {ps : Nat} {s : State} {n : Nat} {x : Slice} (hp : Covers ps 0x20) (hs : On inS ps s0 s) :
    On inS ps s0 (State.setSlice s n x) := by
  delta State.setSlice
  refine On.mk (s := s) ?_ .k .k .k .k .k (.c (hp.sub rfl)) .k .k .k .k .k .k .k .k .k .k .k
  exact hs

theorem State.setMac_keeps {s0 : State} {ps : Nat} {s : State} {p : Nat} {m : Mac} (hp : Covers ps 0x80) (hs : On inS ps s0 s) :
    On inS ps s0 (State.setMac s p m) := by
  delta State.setMac
  refine On.mk (s := s) ?_ .k .k .k .k .k .k .k (.c (hp.sub rfl)) .k .k .k .k .k .k .k .k .k
  exact hs

theorem State.setPort_keeps {s0 : State} {ps : Nat} {s : State} {p : Nat} {x : Port} (hp : Covers ps 0x800) (hs : On inS ps s0 s) :
    On inS ps s0 (State.setPort s p x) := by
  delta State.setPort
  refine On.mk (s := s) ?_ .k .k .k .k .k .k .k .k .k .k .k (.c (hp.sub rfl)) .k .k .k .k .k
  exact hs

theorem State.trace_keeps {s0 : State} {ps : Nat} {s : State} {id : Option Nat} {passInfo : Nat} {epoch : Nat} {point : Nat} {detail : List Byte} (hp : Covers ps 0x10000000000000000000000000000000000000000000000000000300000) (hs : On inS ps s0 s) :
    On inS ps s0 (State.trace s id passInfo epoch point detail) := by
  delta State.trace
  split
  · rename_i x1
    exact hs
  · rename_i x2 x3
    exact State.pushRing_keeps (hp.sub rfl) hs

theorem State.watchSample_keeps {s0 : State} {ps : Nat} {s : State} {i : Nat} (hp : Covers ps 0x80) (hs : On inS ps s0 s) :
    On inS ps s0 (State.watchSample s i) := by
  delta State.watchSample
  split
  · rename_i x1 e2
    exact hs
  · rename_i x3 x4 e5
    refine On.foldl ?_ ?_
    · exact hs
    · intro x6 x7 h8
      extract_lets +onlyGivenNames z9 z10
      clear_value z9 z10
      refine On.ite ?_ ?_
      · exact h8
      · extract_lets +onlyGivenNames z11
        clear_value z11
        refine On.mk (s := x6) ?_ .k .k .k .k .k .k .k (.c (hp.sub rfl)) .k .k .k .k .k .k .k .k .k
        exact h8

theorem State.watchRelease_keeps {s0 : State} {ps : Nat} {s : State} {i : Nat} {delay : Nat} {h : Held} {q : Queue} (hp : Covers ps 0x10000000000000000000000000000000000000000000000000000304080) (hs : On inS ps s0 s) :
    On inS ps s0 (State.watchRelease s i delay h q) := by
  delta State.watchRelease
  refine On.foldl ?_ ?_
  · exact hs
  · intro x1 x2 h3
    extract_lets +onlyGivenNames z4 z5 z6
    clear_value z4 z5 z6
    split
    · rename_i x7 x8 x9 e10
      extract_lets +onlyGivenNames z11 z12 z13
      clear_value z11 z12 z13
      extract_lets +onlyGivenNames z14
      clear_value (ez14 : z14 = _)
      refine On.letS (ps := ps) (s0 := s0) ez14 ?_ fun hz14 => ?_
      · refine On.mk (s := x1) ?_ .k .k .k .k .k .k .k (.c (hp.sub rfl)) .k .k .k .k .k .k (.c (hp.sub rfl)) .k .k
        exact h3
      refine On.ite ?_ ?_
      · exact State.pushRing_keeps (hp.sub rfl) hz14
      · exact hz14

theorem State.setAttach_keeps {s0 : State} {ps : Nat} {s : State} {c : Child} {f : Attach → Attach} (hp : Covers ps 0x80) (hs : On inS ps s0 s) :
    On inS ps s0 (State.setAttach s c f) := by
  delta State.setAttach
  split
  · rename_i x1 x2
    split
    · rename_i x3 x4 e5
      exact State.setQueue_keeps (hp.sub rfl) hs
    · rename_i x6 e7
      exact hs
  · rename_i x8 x9
    split
    · rename_i x10 x11 e12
      exact State.setNode_keeps (hp.sub rfl) hs
    · rename_i x13 e14
      exact hs

theorem State.joinRound_keeps {s0 : State} {ps : Nat} {u1 : Nat} {u2 : State} {u3 : Child} (hp : Covers ps 0x80) (hu2 : On inS ps s0 u2) :
    On inS ps s0 (State.joinRound u1 u2 u3) := by
  induction u1 generalizing u2 u3 with
  | zero =>
    rw [State.joinRound]
    exact hu2
  | succ v ih =>
    rw [State.joinRound]
    split
    · rename_i x1 e2
      exact hu2
    · rename_i x3 x4 e5
      split
      · rename_i x6 e7
        exact hu2
      · rename_i x8 x9 e10
        refine On.ite ?_ ?_
        · exact hu2
        · extract_lets +onlyGivenNames z11
          clear_value (ez11 : z11 = _)
          refine On.letS (ps := ps) (s0 := s0) ez11 ?_ fun hz11 => ?_
          · exact State.setAttach_keeps (hp.sub rfl) hu2
          split
          · rename_i x12 e13
            exact hz11
          · rename_i x14 x15 e16
            exact ih (State.setNode_keeps (hp.sub rfl) hz11)

theorem State.leaveRound_keeps {s0 : State} {ps : Nat} {u1 : Nat} {u2 : State} {u3 : Child} (hp : Covers ps 0x80) (hu2 : On inS ps s0 u2) :
    On inS ps s0 (State.leaveRound u1 u2 u3) := by
  induction u1 generalizing u2 u3 with
  | zero =>
    rw [State.leaveRound]
    exact hu2
  | succ v ih =>
    rw [State.leaveRound]
    split
    · rename_i x1 e2
      exact hu2
    · rename_i x3 x4 e5
      extract_lets +onlyGivenNames z6
      clear_value (ez6 : z6 = _)
      refine On.letS (ps := ps) (s0 := s0) ez6 ?_ fun hz6 => ?_
      · exact State.setAttach_keeps (hp.sub rfl) hu2
      split
      · rename_i x7 e8
        exact hz6
      · rename_i x9 x10 e11
        extract_lets +onlyGivenNames z12
        clear_value z12
        extract_lets +onlyGivenNames z13
        clear_value (ez13 : z13 = _)
        refine On.letS (ps := ps) (s0 := s0) ez13 ?_ fun hz13 => ?_
        · exact State.setNode_keeps (hp.sub rfl) hz6
        refine On.ite ?_ ?_
        · exact ih hz13
        · exact hz13

theorem State.giveBack_keeps {s0 : State} {ps : Nat} {s : State} {cells : Nat} {descriptors : Nat} (hp : Covers ps 0x80) (hs : On inS ps s0 s) :
    On inS ps s0 (State.giveBack s cells descriptors) := by
  delta State.giveBack
  refine On.mk (s := s) ?_ .k .k .k .k .k .k .k (.c (hp.sub rfl)) .k .k .k .k .k .k .k .k .k
  exact hs

theorem State.endCopy_keeps {s0 : State} {ps : Nat} {s : State} {id : Option Nat} (hp : Covers ps 0x80) (hs : On inS ps s0 s) :
    On inS ps s0 (State.endCopy s id) := by
  delta State.endCopy
  split
  · rename_i x1
    exact hs
  · rename_i x2 x3
    split
    · rename_i x4 e5
      exact hs
    · rename_i x6 x7 e8
      refine On.ite ?_ ?_
      · refine State.giveBack_keeps (hp.sub rfl) ?_
        refine On.mk (s := s) ?_ .k .k .k .k .k .k .k (.c (hp.sub rfl)) .k .k .k .k .k .k .k .k .k
        exact hs
      · refine On.mk (s := s) ?_ .k .k .k .k .k .k .k (.c (hp.sub rfl)) .k .k .k .k .k .k .k .k .k
        exact hs

theorem State.freeHeld_keeps {s0 : State} {ps : Nat} {s : State} {h : Held} (hp : Covers ps 0x80) (hs : On inS ps s0 s) :
    On inS ps s0 (State.freeHeld s h) := by
  delta State.freeHeld
  extract_lets +onlyGivenNames z1
  clear_value (ez1 : z1 = _)
  refine On.letS (ps := ps) (s0 := s0) ez1 ?_ fun hz1 => ?_
  · refine On.ite ?_ ?_
    · exact State.giveBack_keeps (hp.sub rfl) hs
    · exact hs
  exact State.endCopy_keeps (hp.sub rfl) hz1

theorem State.startReadback_keeps {s0 : State} {ps : Nat} {u1 : Nat} {u2 : State} {u3 : Nat} (hp : Covers ps 0x2000000000000000000000000000000100480) (hu2 : On inS ps s0 u2) :
    On inS ps s0 (State.startReadback u1 u2 u3) := by
  induction u1 generalizing u2 u3 with
  | zero =>
    rw [State.startReadback]
    exact hu2
  | succ v ih =>
    rw [State.startReadback]
    split
    · rename_i x1 e2
      exact hu2
    · rename_i x3 x4 e5
      split
      · rename_i x6 e7
        exact hu2
      · rename_i x8 x9 e10
        extract_lets +onlyGivenNames z11 z12
        clear_value z11 z12
        refine On.ite ?_ ?_
        · exact hu2
        · extract_lets +onlyGivenNames z13
          clear_value z13
          extract_lets +onlyGivenNames z14
          clear_value (ez14 : z14 = _)
          refine On.letS (ps := ps) (s0 := s0) ez14 ?_ fun hz14 => ?_
          · exact State.setQueue_keeps (hp.sub rfl) hu2
          refine ih ?_
          refine State.segmentAccess_keeps (hp.sub rfl) ?_
          refine On.mk (s := z14) ?_ .k .k .k .k .k .k .k (.c (hp.sub rfl)) .k .k .k .k .k .k .k .k .k
          exact hz14

theorem State.abandonSpills_keeps {s0 : State} {ps : Nat} {s : State} {i : Nat} (hp : Covers ps 0x1000000000000000000000000000000100080) (hs : On inS ps s0 s) :
    On inS ps s0 (State.abandonSpills s i) := by
  delta State.abandonSpills
  split
  · rename_i x1 e2
    exact hs
  · rename_i x3 x4 e5
    extract_lets +onlyGivenNames z6
    clear_value z6
    refine On.foldl ?_ ?_
    · exact hs
    · intro x7 x8 h9
      split
      · rename_i x10 e11
        exact h9
      · rename_i x12 x13 e14
        refine On.ite ?_ ?_
        · exact h9
        · extract_lets +onlyGivenNames z15
          clear_value z15
          exact State.bump_keeps (hp.sub rfl) (hp.sub rfl) (State.setQueue_keeps (hp.sub rfl) h9)

theorem State.afterLeave_keeps {s0 : State} {ps : Nat} {s : State} {i : Nat} (hp : Covers ps 0x3000000000000000000000000000000100480) (hs : On inS ps s0 s) :
    On inS ps s0 (State.afterLeave s i) := by
  delta State.afterLeave
  split
  · rename_i x1 e2
    exact hs
  · rename_i x3 x4 e5
    refine On.ite ?_ ?_
    · exact State.leaveRound_keeps (hp.sub rfl) (State.setQueue_keeps (hp.sub rfl) hs)
    · exact State.startReadback_keeps (hp.sub rfl) (State.abandonSpills_keeps (hp.sub rfl) hs)

theorem State.endPackets_keeps {s0 : State} {ps : Nat} {s : State} {i : Nat} {pick : Held → Bool} (hp : Covers ps 0x200000000000000000003000000000000000000000000000000304480) (hs : On inS ps s0 s) :
    On (inFst inS) ps s0 (State.endPackets s i pick) := by
  delta State.endPackets
  split
  · rename_i x1 e2
    exact On.pairFst hs
  · rename_i x3 x4 e5
    extract_lets +onlyGivenNames z6
    clear_value z6
    refine On.ite ?_ ?_
    · exact On.pairFst hs
    · extract_lets +onlyGivenNames z7
      clear_value z7
      extract_lets +onlyGivenNames z8
      clear_value (ez8 : z8 = _)
      refine On.letS (ps := ps) (s0 := s0) ez8 ?_ fun hz8 => ?_
      · exact State.watchSample_keeps (hp.sub rfl) hs
      extract_lets +onlyGivenNames z9
      clear_value (ez9 : z9 = _)
      refine On.letS (ps := ps) (s0 := s0) ez9 ?_ fun hz9 => ?_
      · exact State.setQueue_keeps (hp.sub rfl) hz8
      extract_lets +onlyGivenNames z10
      clear_value (ez10 : z10 = _)
      refine On.letS (ps := ps) (s0 := s0) ez10 ?_ fun hz10 => ?_
      · refine On.foldl ?_ ?_
        · exact hz9
        · intro x11 x12 h13
          exact State.freeHeld_keeps (hp.sub rfl) h13
      extract_lets +onlyGivenNames z14
      clear_value (ez14 : z14 = _)
      refine On.letS (ps := ps) (s0 := s0) ez14 ?_ fun hz14 => ?_
      · exact State.countQueue_keeps (hp.sub rfl) hz10
      exact On.pairFst (State.afterLeave_keeps (hp.sub rfl) hz14)

theorem State.dropPackets_keeps {s0 : State} {ps : Nat} {s : State} {i : Nat} {pick : Held → Bool} (hp : Covers ps 0x3000000000000000000000000000000100480) (hs : On inS ps s0 s) :
    On (inFst inS) ps s0 (State.dropPackets s i pick) := by
  delta State.dropPackets
  split
  · rename_i x1 e2
    exact On.pairFst hs
  · rename_i x3 x4 e5
    extract_lets +onlyGivenNames z6
    clear_value z6
    refine On.ite ?_ ?_
    · exact On.pairFst hs
    · extract_lets +onlyGivenNames z7
      clear_value (ez7 : z7 = _)
      refine On.letS (ps := ps) (s0 := s0) ez7 ?_ fun hz7 => ?_
      · exact State.setQueue_keeps (hp.sub rfl) (State.watchSample_keeps (hp.sub rfl) hs)
      refine On.pairFst ?_
      refine State.afterLeave_keeps (hp.sub rfl) ?_
      refine On.foldl ?_ ?_
      · exact hz7
      · intro x8 x9 h10
        exact State.freeHeld_keeps (hp.sub rfl) h10

theorem State.endCustody_keeps {s0 : State} {ps : Nat} {s : State} {port : Nat} {c : Option Custody} (hp : Covers ps 0x80) (hs : On inS ps s0 s) :
    On inS ps s0 (State.endCustody s port c) := by
  delta State.endCustody
  split
  · rename_i x1
    exact hs
  · rename_i x2 x3
    extract_lets +onlyGivenNames z4
    clear_value z4
    extract_lets +onlyGivenNames z5
    clear_value (ez5 : z5 = _)
    refine On.letS (ps := ps) (s0 := s0) ez5 ?_ fun hz5 => ?_
    · exact State.setMac_keeps (hp.sub rfl) hs
    exact State.endCopy_keeps (hp.sub rfl) (State.giveBack_keeps (hp.sub rfl) hz5)

theorem State.endReleased_keeps {s0 : State} {ps : Nat} {s : State} {port : Nat} {c : Option Custody} (hp : Covers ps 0x200000000000000000000000000000000000000000000000000304080) (hs : On inS ps s0 s) :
    On inS ps s0 (State.endReleased s port c) := by
  delta State.endReleased
  extract_lets +onlyGivenNames z1
  clear_value (ez1 : z1 = _)
  refine On.letS (ps := ps) (s0 := s0) ez1 ?_ fun hz1 => ?_
  · exact State.endCustody_keeps (hp.sub rfl) hs
  split
  · rename_i x2
    exact hz1
  · rename_i x3 x4
    split
    · rename_i x5 e6
      exact hz1
    · rename_i x7 x8 e9
      exact State.countQueue_keeps (hp.sub rfl) (State.setQueue_keeps (hp.sub rfl) hz1)

theorem State.release_keeps {s0 : State} {ps : Nat} {s : State} {i : Nat} (hp : Covers ps 0x10200000000000000000003000000000000000000000000000000304480) (hs : On inS ps s0 s) :
    On (inSome (inSnd (inSnd (inSnd inS)))) ps s0 (State.release s i) := by
  delta State.release
  split
  · rename_i x1 e2
    exact On.none
  · rename_i x3 x4 e5
    split
    · rename_i x6 e7
      exact On.none
    · rename_i x8 x9 e10
      extract_lets +onlyGivenNames z11 z12
      clear_value z11 z12
      extract_lets +onlyGivenNames z13
      clear_value (ez13 : z13 = _)
      refine On.letS (ps := ps) (s0 := s0) ez13 ?_ fun hz13 => ?_
      · exact State.watchSample_keeps (hp.sub rfl) hs
      extract_lets +onlyGivenNames z14
      clear_value (ez14 : z14 = _)
      refine On.letS (ps := ps) (s0 := s0) ez14 ?_ fun hz14 => ?_
      · exact State.setQueue_keeps (hp.sub rfl) hz13
      extract_lets +onlyGivenNames z15
      clear_value (ez15 : z15 = _)
      refine On.letS (ps := ps) (s0 := s0) ez15 ?_ fun hz15 => ?_
      · exact State.countQueue_keeps (hp.sub rfl) hz14
      extract_lets +onlyGivenNames z16
      clear_value (ez16 : z16 = _)
      refine On.letS (ps := ps) (s0 := s0) ez16 ?_ fun hz16 => ?_
      · exact State.watchRelease_keeps (hp.sub rfl) hz15
      extract_lets +onlyGivenNames z17
      clear_value (ez17 : z17 = _)
      refine On.letS (ps := ps) (s0 := s0) ez17 ?_ fun hz17 => ?_
      · exact State.trace_keeps (hp.sub rfl) hz16
      exact On.some (On.pair (On.pair (On.pair (State.afterLeave_keeps (hp.sub rfl) hz17))))

theorem State.joinFlush_keeps {s0 : State} {ps : Nat} {s : State} {r : Nat} {port : Nat} {static : Bool} (hp : Covers ps 0x10) (hs : On inS ps s0 s) :
    On inS ps s0 (State.joinFlush s r port static) := by
  delta State.joinFlush
  extract_lets +onlyGivenNames z1 z2 z3
  clear_value z1 z2 z3
  refine On.mk (s := s) ?_ .k .k .k .k (.c (hp.sub rfl)) .k .k .k .k .k .k .k .k .k .k .k .k
  exact hs

theorem State.emptyMac_keeps {s0 : State} {ps : Nat} {s : State} {p : Nat} (hp : Covers ps 0x200000000000000000000000000000000000000000000000000304080) (hs : On inS ps s0 s) :
    On (inFst inS) ps s0 (State.emptyMac s p) := by
  delta State.emptyMac
  extract_lets +onlyGivenNames z1 z2
  clear_value z1 z2
  extract_lets +onlyGivenNames z3
  clear_value (ez3 : z3 = _)
  refine On.letS (ps := ps) (s0 := s0) ez3 ?_ fun hz3 => ?_
  · exact State.setMac_keeps (hp.sub rfl) hs
  refine On.pairFst ?_
  refine On.foldl ?_ ?_
  · exact hz3
  · intro x4 x5 h6
    exact State.endReleased_keeps (hp.sub rfl) h6

theorem State.startFlush_keeps {s0 : State} {ps : Nat} {s : State} {p : Nat} (hp : Covers ps 0x200000000000000000003000000000000000000000000000000304c80) (hs : On inS ps s0 s) :
    On inS ps s0 (State.startFlush s p) := by
  delta State.startFlush
  refine On.ite ?_ ?_
  · exact hs
  · extract_lets +onlyGivenNames z1
    clear_value (ez1 : z1 = _)
    refine On.letS (ps := ps) (s0 := s0) ez1 ?_ fun hz1 => ?_
    · exact State.setReg_keeps (hp.sub rfl) hs
    extract_lets +onlyGivenNames z2
    clear_value z2
    split
    · rename_i x3 x4 x5 e6
      refine On.got (g := (inFst inS)) (t := x4) (ps := ps) (s0 := s0) e6 rfl ?_ fun he6 => ?_
      · refine On.foldl ?_ ?_
        · exact On.pairFst hz1
        · intro x7 x8 h9
          split
          · rename_i x10 x11 x12
            have hp13 : On inS ps s0 x11 := h9
            split
            · rename_i x14 x15 x16 e17
              refine On.got (g := (inFst inS)) (t := x15) (ps := ps) (s0 := s0) e17 rfl ?_ fun he17 => ?_
              · exact State.endPackets_keeps (hp.sub rfl) hp13
              exact On.pairFst he17
      split
      · rename_i x18 x19 x20 e21
        refine On.got (g := (inFst inS)) (t := x19) (ps := ps) (s0 := s0) e21 rfl ?_ fun he21 => ?_
        · exact State.emptyMac_keeps (hp.sub rfl) he6
        extract_lets +onlyGivenNames z22
        clear_value z22
        exact State.count_keeps (hp.sub rfl) (hp.sub rfl) (State.setPort_keeps (hp.sub rfl) he21)

theorem State.portDown_keeps {s0 : State} {ps : Nat} {s : State} {p : Nat} {cause : Nat} {state : Nat} (hp : Covers ps 0x200000000000000000003000000000000000100000000000000304c90) (hs : On inS ps s0 s) :
    On inS ps s0 (State.portDown s p cause state) := by
  delta State.portDown
  extract_lets +onlyGivenNames z1 z2
  clear_value z1 z2
  extract_lets +onlyGivenNames z3
  clear_value (ez3 : z3 = _)
  refine On.letS (ps := ps) (s0 := s0) ez3 ?_ fun hz3 => ?_
  · exact State.setPort_keeps (hp.sub rfl) hs
  refine On.ite ?_ ?_
  · exact hz3
  · extract_lets +onlyGivenNames z4
    clear_value (ez4 : z4 = _)
    refine On.letS (ps := ps) (s0 := s0) ez4 ?_ fun hz4 => ?_
    · exact State.setReg_keeps (hp.sub rfl) (State.setReg_keeps (hp.sub rfl) (State.bump_keeps (hp.sub rfl) (hp.sub rfl) (State.setReg_keeps (hp.sub rfl) hz3)))
    extract_lets +onlyGivenNames z5
    clear_value z5
    extract_lets +onlyGivenNames z6
    clear_value (ez6 : z6 = _)
    refine On.letS (ps := ps) (s0 := s0) ez6 ?_ fun hz6 => ?_
    · refine On.foldl ?_ ?_
      · exact hz4
      · intro x7 x8 h9
        exact State.joinFlush_keeps (hp.sub rfl) h9
    exact State.startFlush_keeps (hp.sub rfl) hz6

end Sys2Proof.Machine
end

