-- ==== Sys2Proof/Laws/KeepsPairOps.lean ====
section
/-! SUPPORT. Sys2Proof/Laws/KeepsPairOps.lean: what the operations of Machine/PairOps.lean keep, whatever they do. -/

namespace Sys2Proof.Machine

theorem State.refreshIdentity_keeps {s0 : State} {ps : Nat} {s : State} (hp : Covers ps 0x20200) (hs : On inS ps s0 s) :
    On inS ps s0 (State.refreshIdentity s) := by
  delta State.refreshIdentity
  extract_lets +onlyGivenNames z1
  clear_value z1
  refine On.ite ?_ ?_
  · exact hs
  · refine On.fst ?_
    refine State.sendRecord_keeps (hp.sub rfl) ?_
    refine On.mk (s := s) ?_ .k .k .k .k .k .k .k .k .k (.m (hp.sub rfl) rfl) .k .k .k .k .k .k .k
    exact hs

theorem State.sendStatus_keeps {s0 : State} {ps : Nat} {s : State} {flags : Nat} (hp : Covers ps 0x20200) (hs : On inS ps s0 s) :
    On inS ps s0 (State.sendStatus s flags) := by
  delta State.sendStatus
  exact On.fst (State.sendRecord_keeps (hp.sub rfl) hs)

theorem State.breakPair_keeps {s0 : State} {ps : Nat} {s : State} {lost : Bool} (hp : Covers ps 0x200) (hs : On inS ps s0 s) :
    On inS ps s0 (State.breakPair s lost) := by
  delta State.breakPair
  extract_lets +onlyGivenNames z1
  clear_value z1
  refine On.mk (s := s) ?_ .k .k .k .k .k .k .k .k .k (.m (hp.sub rfl) rfl) .k .k .k .k .k .k .k
  exact hs

theorem State.fence_keeps {s0 : State} {ps : Nat} {s : State} (hp : Covers ps 0x100000000000000000000000000000000000002020200) (hs : On inS ps s0 s) :
    On inS ps s0 (State.fence s) := by
  delta State.fence
  refine On.ite ?_ ?_
  · exact hs
  · extract_lets +onlyGivenNames z1
    clear_value (ez1 : z1 = _)
    refine On.letS (ps := ps) (s0 := s0) ez1 ?_ fun hz1 => ?_
    · exact State.breakPair_keeps (hp.sub rfl) hs
    refine State.refreshIdentity_keeps (hp.sub rfl) ?_
    refine State.setReg_keeps (hp.sub rfl) ?_
    refine On.mk (s := z1) ?_ .k .k .k .k .k .k .k .k .k (.c (hp.sub rfl) (hp.sub rfl)) .k .k .k .k .k .k .k
    exact hz1

theorem State.loseMate_keeps {s0 : State} {ps : Nat} {s : State} (hp : Covers ps 0x200) (hs : On inS ps s0 s) :
    On inS ps s0 (State.loseMate s) := by
  delta State.loseMate
  exact State.breakPair_keeps (hp.sub rfl) hs

theorem State.goStale_keeps {s0 : State} {ps : Nat} {s : State} {cause : Nat} {number : Nat} (hp : Covers ps 0x1010100000000000100000003000000000000000000010000000001f33682) (hs : On inS ps s0 s) :
    On inS ps s0 (State.goStale s cause number) := by
  delta State.goStale
  refine On.ite ?_ ?_
  · exact hs
  · extract_lets +onlyGivenNames z1
    clear_value (ez1 : z1 = _)
    refine On.letS (ps := ps) (s0 := s0) ez1 ?_ fun hz1 => ?_
    · exact State.healthFree_keeps (hp.sub rfl) (State.setReg_keeps (hp.sub rfl) (State.bump_keeps (hp.sub rfl) (hp.sub rfl) (State.raiseEvent_keeps (hp.sub rfl) hs)))
    refine On.ite ?_ ?_
    · split
      · rename_i x2 x3 x4 e5
        refine On.got (g := (inFst inS)) (t := x3) (ps := ps) (s0 := s0) e5 rfl ?_ fun he5 => ?_
        · refine On.foldl ?_ ?_
          · exact On.pairFst hz1
          · intro x6 x7 h8
            split
            · rename_i x9 x10 x11
              have hp12 : On inS ps s0 x10 := h8
              split
              · rename_i x13 x14 x15 e16
                refine On.got (g := (inFst inS)) (t := x14) (ps := ps) (s0 := s0) e16 rfl ?_ fun he16 => ?_
                · exact State.dropPackets_keeps (hp.sub rfl) hp12
                exact On.pairFst he16
        extract_lets +onlyGivenNames z17
        clear_value (ez17 : z17 = _)
        refine On.letS (ps := ps) (s0 := s0) ez17 ?_ fun hz17 => ?_
        · exact State.count_keeps (hp.sub rfl) (hp.sub rfl) he5
        extract_lets +onlyGivenNames z18
        extract_lets +onlyGivenNames z19
        clear_value z19
        extract_lets +onlyGivenNames z20
        extract_lets +onlyGivenNames z21
        extract_lets +onlyGivenNames z22
        clear_value (ez22 : z22 = _)
        refine On.letS (ps := ps) (s0 := s0) ez22 ?_ fun hz22 => ?_
        · refine On.mk (s := z17) ?_ .k (.c (hp.sub rfl) (hp.sub rfl)) .k .k .k .k .k .k .k (.m (hp.sub rfl) rfl) .k .k .k .k .k .k .k
          exact hz17
        extract_lets +onlyGivenNames z23
        clear_value (ez23 : z23 = _)
        refine On.letS (ps := ps) (s0 := s0) ez23 ?_ fun hz23 => ?_
        · exact State.bump_keeps (hp.sub rfl) (hp.sub rfl) (State.setReg_keeps (hp.sub rfl) hz22)
        exact State.refreshIdentity_keeps (hp.sub rfl) (State.sendStatus_keeps (hp.sub rfl) hz23)
    · refine State.sendStatus_keeps (hp.sub rfl) ?_
      refine On.mk (s := z1) ?_ .k .k .k .k .k .k .k .k .k (.m (hp.sub rfl) rfl) .k .k .k .k .k .k .k
      exact hz1

theorem State.sendQueueEnd_keeps {s0 : State} {ps : Nat} {s : State} {dest : Nat} {cls : Nat} {kind : Nat} {value : Nat} (hp : Covers ps 0x20200) (hs : On inS ps s0 s) :
    On (inFst inS) ps s0 (State.sendQueueEnd s dest cls kind value) := by
  delta State.sendQueueEnd
  exact State.sendRecord_keeps (hp.sub rfl) hs

theorem State.setPairCtx_keeps {s0 : State} {ps : Nat} {s : State} {k : Nat} {c : PairCtx} (hp : Covers ps 0x200) (hs : On inS ps s0 s) :
    On inS ps s0 (State.setPairCtx s k c) := by
  delta State.setPairCtx
  refine On.mk (s := s) ?_ .k .k .k .k .k .k .k .k .k (.m (hp.sub rfl) rfl) .k .k .k .k .k .k .k
  exact hs

theorem State.losePackets_keeps {s0 : State} {ps : Nat} {s : State} {i : Nat} {pick : Held → Bool} (hp : Covers ps 0x1000000000000000000000003000000000000000000000000000000d30680) (hs : On inS ps s0 s) :
    On inS ps s0 (State.losePackets s i pick) := by
  delta State.losePackets
  split
  · rename_i x1 e2
    exact hs
  · rename_i x3 x4 e5
    extract_lets +onlyGivenNames z6
    clear_value z6
    extract_lets +onlyGivenNames z7
    clear_value (ez7 : z7 = _)
    refine On.letS (ps := ps) (s0 := s0) ez7 ?_ fun hz7 => ?_
    · exact On.fst (State.dropPackets_keeps (hp.sub rfl) hs)
    refine On.foldl ?_ ?_
    · exact hz7
    · intro x8 x9 h10
      extract_lets +onlyGivenNames z11
      clear_value (ez11 : z11 = _)
      refine On.letS (ps := ps) (s0 := s0) ez11 ?_ fun hz11 => ?_
      · exact State.healthFree_keeps (hp.sub rfl) (State.bump_keeps (hp.sub rfl) (hp.sub rfl) h10)
      refine On.ite ?_ ?_
      · exact On.fst (State.sendQueueEnd_keeps (hp.sub rfl) hz11)
      · exact hz11

theorem State.replyJob_keeps {s0 : State} {ps : Nat} {s : State} {id : Nat} {a : OpAns} (hp : Covers ps 0x1) (hs : On inS ps s0 s) :
    On inS ps s0 (State.replyJob s id a) := by
  delta State.replyJob
  split
  · rename_i x1 e2
    exact hs
  · rename_i x3 x4 e5
    refine On.mk (s := s) ?_ (.c (hp.sub rfl)) .k .k .k .k .k .k .k .k .k .k .k .k .k .k .k .k
    exact hs

end Sys2Proof.Machine
end

