-- ==== Sys2Proof/Laws/KeepsPortOps.lean ====
section
/-! SUPPORT. Sys2Proof/Laws/KeepsPortOps.lean: what the operations of Machine/PortOps.lean keep, whatever they do. -/

namespace Sys2Proof.Machine

theorem State.setCage_keeps {s0 : State} {ps : Nat} {s : State} {n : Nat} {c : Cage} (hp : Covers ps 0x2) (hs : On inS ps s0 s) :
    On inS ps s0 (State.setCage s n c) := by
  delta State.setCage
  refine On.mk (s := s) ?_ .k (.m (hp.sub rfl) rfl) .k .k .k .k .k .k .k .k .k .k .k .k .k .k .k
  exact hs

theorem State.applyProfiles_keeps {s0 : State} {ps : Nat} {s : State} (hp : Covers ps 0x100000000000000000000) (hs : On inS ps s0 s) :
    On inS ps s0 (State.applyProfiles s) := by
  delta State.applyProfiles
  refine On.foldl ?_ ?_
  · exact hs
  · intro x1 x2 h3
    refine On.ite ?_ ?_
    · exact h3
    · exact State.setReg_keeps (hp.sub rfl) h3

theorem State.abortTestOn_keeps {s0 : State} {ps : Nat} {s : State} {kind : Nat} {n : Nat} (hp : Covers ps 0x1000000000000000000000000000000000000000600000000000000f1c000) (hs : On inS ps s0 s) :
    On inS ps s0 (State.abortTestOn s kind n) := by
  delta State.abortTestOn
  exact State.endTest_keeps (hp.sub rfl) hs

theorem State.lanesOn_keeps {s0 : State} {ps : Nat} {s : State} {p : Nat} (hp : Covers ps 0x1000000000000000000000000000000000000000600000000000000f1c000) (hs : On inS ps s0 s) :
    On inS ps s0 (State.lanesOn s p) := by
  delta State.lanesOn
  refine On.ite ?_ ?_
  · exact hs
  · refine State.setLanes_keeps (hp.sub rfl) ?_
    refine On.foldl ?_ ?_
    · exact hs
    · intro x1 x2 h3
      exact State.abortTestOn_keeps (hp.sub rfl) h3

theorem State.setAdapt_keeps {s0 : State} {ps : Nat} {s : State} {k : Nat} {x : LaneAdapt} (hp : Covers ps 0x800) (hs : On inS ps s0 s) :
    On inS ps s0 (State.setAdapt s k x) := by
  delta State.setAdapt
  refine On.mk (s := s) ?_ .k .k .k .k .k .k .k .k .k .k .k (.c (hp.sub rfl)) .k .k .k .k .k
  exact hs

theorem State.setLpMode_keeps {s0 : State} {ps : Nat} {s : State} {n : Nat} {v : Bool} (hp : Covers ps 0x2) (hs : On inS ps s0 s) :
    On inS ps s0 (State.setLpMode s n v) := by
  delta State.setLpMode
  extract_lets +onlyGivenNames z1 z2
  clear_value z1 z2
  refine On.mk (s := s) ?_ .k (.m (hp.sub rfl) rfl) .k .k .k .k .k .k .k .k .k .k .k .k .k .k .k
  exact hs

theorem State.setModReset_keeps {s0 : State} {ps : Nat} {s : State} {n : Nat} {v : Bool} (hp : Covers ps 0x2) (hs : On inS ps s0 s) :
    On inS ps s0 (State.setModReset s n v) := by
  delta State.setModReset
  extract_lets +onlyGivenNames z1 z2
  clear_value z1 z2
  refine On.mk (s := s) ?_ .k (.m (hp.sub rfl) rfl) .k .k .k .k .k .k .k .k .k .k .k .k .k .k .k
  exact hs

theorem State.writeDeinit_keeps {s0 : State} {ps : Nat} {s : State} {n : Nat} {v : Nat} (hp : Covers ps 0x20002) (hs : On inS ps s0 s) :
    On inS ps s0 (State.writeDeinit s n v) := by
  delta State.writeDeinit
  exact State.emit_keeps (hp.sub rfl) (State.setCage_keeps (hp.sub rfl) hs)

theorem State.portOn_keeps {s0 : State} {ps : Nat} {s : State} {p : Nat} (hp : Covers ps 0x1000000000000000000000000000000000000000700000000000000f1c800) (hs : On inS ps s0 s) :
    On inS ps s0 (State.portOn s p) := by
  delta State.portOn
  extract_lets +onlyGivenNames z1
  clear_value z1
  exact State.lanesOn_keeps (hp.sub rfl) (State.setReg_keeps (hp.sub rfl) (State.setPort_keeps (hp.sub rfl) hs))

theorem State.startPort_keeps {s0 : State} {ps : Nat} {s : State} {p : Nat} (hp : Covers ps 0x1000000000000000000000000000000000000000700000000000000f3c802) (hs : On inS ps s0 s) :
    On inS ps s0 (State.startPort s p) := by
  delta State.startPort
  refine On.ite ?_ ?_
  · exact hs
  · split
    · rename_i x1 e2
      exact State.portOn_keeps (hp.sub rfl) hs
    · rename_i x3 x4 e5
      extract_lets +onlyGivenNames z6
      clear_value z6
      extract_lets +onlyGivenNames z7
      clear_value (ez7 : z7 = _)
      refine On.letS (ps := ps) (s0 := s0) ez7 ?_ fun hz7 => ?_
      · exact State.setReg_keeps (hp.sub rfl) hs
      refine On.ite ?_ ?_
      · exact State.setPort_keeps (hp.sub rfl) hz7
      · extract_lets +onlyGivenNames z8
        clear_value z8
        extract_lets +onlyGivenNames z9
        clear_value (ez9 : z9 = _)
        refine On.letS (ps := ps) (s0 := s0) ez9 ?_ fun hz9 => ?_
        · exact State.setPort_keeps (hp.sub rfl) hz7
        refine On.ite ?_ ?_
        · exact hz9
        · exact State.setLpMode_keeps (hp.sub rfl) (State.emit_keeps (hp.sub rfl) hz9)

theorem State.retryPorts_keeps {s0 : State} {ps : Nat} {s : State} {n : Nat} (hp : Covers ps 0x1000000000000000000000000000000000000000700000000000000f3c802) (hs : On inS ps s0 s) :
    On inS ps s0 (State.retryPorts s n) := by
  delta State.retryPorts
  refine On.foldl ?_ ?_
  · exact hs
  · intro x1 x2 h3
    refine On.ite ?_ ?_
    · exact State.startPort_keeps (hp.sub rfl) h3
    · exact h3

theorem State.releaseModule_keeps {s0 : State} {ps : Nat} {s : State} {p : Nat} (hp : Covers ps 0x20002) (hs : On inS ps s0 s) :
    On inS ps s0 (State.releaseModule s p) := by
  delta State.releaseModule
  split
  · rename_i x1 e2
    exact hs
  · rename_i x3 x4 e5
    extract_lets +onlyGivenNames z6
    clear_value (ez6 : z6 = _)
    refine On.letS (ps := ps) (s0 := s0) ez6 ?_ fun hz6 => ?_
    · exact State.writeDeinit_keeps (hp.sub rfl) hs
    refine On.ite ?_ ?_
    · exact hz6
    · exact State.setLpMode_keeps (hp.sub rfl) hz6

theorem State.causeOnset_keeps {s0 : State} {ps : Nat} {s : State} {p : Nat} {cause : Nat} (hp : Covers ps 0x200000000000000000003000000000000000100000000000000304c90) (hs : On inS ps s0 s) :
    On inS ps s0 (State.causeOnset s p cause) := by
  delta State.causeOnset
  extract_lets +onlyGivenNames z1
  clear_value z1
  refine On.ite ?_ ?_
  · exact State.setPort_keeps (hp.sub rfl) hs
  · refine On.ite ?_ ?_
    · exact State.portDown_keeps (hp.sub rfl) hs
    · refine On.ite ?_ ?_
      · exact hs
      · exact State.setPort_keeps (hp.sub rfl) hs

theorem State.portsReset_keeps {s0 : State} {ps : Nat} {s : State} (hp : Covers ps 0x1000000000000000000000000000000000000000700000000000000f3c802) (hs : On inS ps s0 s) :
    On inS ps s0 (State.portsReset s) := by
  delta State.portsReset
  refine On.foldl ?_ ?_
  · exact State.setLanes_keeps (hp.sub rfl) hs
  · intro x1 x2 h3
    refine On.ite ?_ ?_
    · exact State.setReg_keeps (hp.sub rfl) h3
    · refine On.ite ?_ ?_
      · exact State.setReg_keeps (hp.sub rfl) h3
      · exact State.startPort_keeps (hp.sub rfl) h3

end Sys2Proof.Machine
end

