-- ==== Sys2Proof/Laws/KeepsFabricOps.lean ====
section
/-! SUPPORT. Sys2Proof/Laws/KeepsFabricOps.lean: what the operations of Machine/FabricOps.lean keep, whatever they do. -/

namespace Sys2Proof.Machine

theorem State.setLink_keeps {s0 : State} {ps : Nat} {s : State} {l : Nat} {x : Link} (hp : Covers ps 0x100) (hs : On inS ps s0 s) :
    On inS ps s0 (State.setLink s l x) := by
  delta State.setLink
  refine On.mk (s := s) ?_ .k .k .k .k .k .k .k .k (.c (hp.sub rfl)) .k .k .k .k .k .k .k .k
  exact hs

theorem State.setGroup_keeps {s0 : State} {ps : Nat} {s : State} {g : Nat} {x : FlowGroup} (hp : Covers ps 0x100) (hs : On inS ps s0 s) :
    On inS ps s0 (State.setGroup s g x) := by
  delta State.setGroup
  refine On.mk (s := s) ?_ .k .k .k .k .k .k .k .k (.c (hp.sub rfl)) .k .k .k .k .k .k .k .k
  exact hs

theorem State.setQuad_keeps {s0 : State} {ps : Nat} {s : State} {q : Nat} {x : QuadState} (hp : Covers ps 0x100) (hs : On inS ps s0 s) :
    On inS ps s0 (State.setQuad s q x) := by
  delta State.setQuad
  refine On.mk (s := s) ?_ .k .k .k .k .k .k .k .k (.c (hp.sub rfl)) .k .k .k .k .k .k .k .k
  exact hs

theorem State.sendFab_keeps {s0 : State} {ps : Nat} {s : State} {l : Nat} {kind : Nat} {first : Bool} {last : Bool} {dest : Nat} {cls : Nat} {seq : Nat} {nak : Bool} {payload : List Byte} (hp : Covers ps 0x20100) (hs : On inS ps s0 s) :
    On inS ps s0 (State.sendFab s l kind first last dest cls seq nak payload) := by
  delta State.sendFab
  extract_lets +onlyGivenNames z1 z2
  clear_value z1 z2
  exact State.emit_keeps (hp.sub rfl) (State.setLink_keeps (hp.sub rfl) hs)

theorem State.sendIdle_keeps {s0 : State} {ps : Nat} {s : State} {l : Nat} {nak : Bool} (hp : Covers ps 0x20100) (hs : On inS ps s0 s) :
    On inS ps s0 (State.sendIdle s l nak) := by
  delta State.sendIdle
  exact State.sendFab_keeps (hp.sub rfl) hs

theorem State.sendTx_keeps {s0 : State} {ps : Nat} {s : State} {l : Nat} {c : TxCell} (hp : Covers ps 0x20100) (hs : On inS ps s0 s) :
    On inS ps s0 (State.sendTx s l c) := by
  delta State.sendTx
  exact State.sendFab_keeps (hp.sub rfl) hs

theorem State.sendNextCell_keeps {s0 : State} {ps : Nat} {s : State} {l : Nat} (hp : Covers ps 0x20100) (hs : On inS ps s0 s) :
    On inS ps s0 (State.sendNextCell s l) := by
  delta State.sendNextCell
  extract_lets +onlyGivenNames z1
  clear_value z1
  refine On.ite ?_ ?_
  · exact hs
  · split
    · rename_i x2 x3 x4 e5
      refine On.ite ?_ ?_
      · exact State.sendTx_keeps (hp.sub rfl) (State.setLink_keeps (hp.sub rfl) hs)
      · exact hs
    · rename_i x6 e7
      split
      · rename_i x8 e9
        exact hs
      · rename_i x10 x11 e12
        extract_lets +onlyGivenNames z13 z14
        clear_value z13 z14
        extract_lets +onlyGivenNames z15
        clear_value (ez15 : z15 = _)
        refine On.letS (ps := ps) (s0 := s0) ez15 ?_ fun hz15 => ?_
        · exact State.setLink_keeps (hp.sub rfl) hs
        refine State.sendTx_keeps (hp.sub rfl) ?_
        refine On.mk (s := z15) ?_ .k .k .k .k .k .k .k .k (.c (hp.sub rfl)) .k .k .k .k .k .k .k .k
        exact hz15

theorem State.pumpLink_keeps {s0 : State} {ps : Nat} {s : State} {l : Nat} (hp : Covers ps 0x20100) (hs : On inS ps s0 s) :
    On inS ps s0 (State.pumpLink s l) := by
  delta State.pumpLink
  extract_lets +onlyGivenNames z1
  clear_value z1
  refine On.foldl ?_ ?_
  · exact hs
  · intro x2 x3 h4
    exact State.sendNextCell_keeps (hp.sub rfl) h4

theorem State.setSendCtx_keeps {s0 : State} {ps : Nat} {s : State} {k : Nat} {c : SendCtx} (hp : Covers ps 0x100) (hs : On inS ps s0 s) :
    On inS ps s0 (State.setSendCtx s k c) := by
  delta State.setSendCtx
  refine On.mk (s := s) ?_ .k .k .k .k .k .k .k .k (.c (hp.sub rfl)) .k .k .k .k .k .k .k .k
  exact hs

theorem State.sendControl_keeps {s0 : State} {ps : Nat} {s : State} {unit : Nat} {msg : List Byte} (hp : Covers ps 0x20100) (hs : On inS ps s0 s) :
    On inS ps s0 (State.sendControl s unit msg) := by
  delta State.sendControl
  split
  · rename_i x1 e2
    exact hs
  · rename_i x3 x4 e5
    extract_lets +onlyGivenNames z6 z7
    clear_value z6 z7
    exact State.pumpLink_keeps (hp.sub rfl) (State.setLink_keeps (hp.sub rfl) hs)

theorem State.sendLocal_keeps {s0 : State} {ps : Nat} {s : State} {l : Nat} {msg : List Byte} (hp : Covers ps 0x20100) (hs : On inS ps s0 s) :
    On inS ps s0 (State.sendLocal s l msg) := by
  delta State.sendLocal
  extract_lets +onlyGivenNames z1 z2
  clear_value z1 z2
  exact State.pumpLink_keeps (hp.sub rfl) (State.setLink_keeps (hp.sub rfl) hs)

theorem State.sendRequest_keeps {s0 : State} {ps : Nat} {s : State} {k : Nat} (hp : Covers ps 0x20100) (hs : On inS ps s0 s) :
    On inS ps s0 (State.sendRequest s k) := by
  delta State.sendRequest
  extract_lets +onlyGivenNames z1
  clear_value z1
  refine On.ite ?_ ?_
  · exact hs
  · extract_lets +onlyGivenNames z2 z3
    clear_value z2 z3
    exact State.sendControl_keeps (hp.sub rfl) (State.setSendCtx_keeps (hp.sub rfl) hs)

theorem State.requestCheck_keeps {s0 : State} {ps : Nat} {s : State} {k : Nat} (hp : Covers ps 0x20100) (hs : On inS ps s0 s) :
    On inS ps s0 (State.requestCheck s k) := by
  delta State.requestCheck
  extract_lets +onlyGivenNames z1 z2 z3
  clear_value z1 z2 z3
  refine On.ite ?_ ?_
  · exact State.sendRequest_keeps (hp.sub rfl) hs
  · exact hs

theorem State.sendMark_keeps {s0 : State} {ps : Nat} {s : State} {k : Nat} (hp : Covers ps 0x20200) (hs : On inS ps s0 s) :
    On (inFst inS) ps s0 (State.sendMark s k) := by
  delta State.sendMark
  extract_lets +onlyGivenNames z1 z2 z3 z4
  clear_value z1 z2 z3 z4
  extract_lets +onlyGivenNames z5
  clear_value (ez5 : z5 = _)
  refine On.letS (ps := ps) (s0 := s0) ez5 ?_ fun hz5 => ?_
  · exact State.setPairCtx_keeps (hp.sub rfl) hs
  exact State.sendRecord_keeps (hp.sub rfl) hz5

theorem State.startFences_keeps {s0 : State} {ps : Nat} {u1 : Nat} {u2 : State} {u3 : Nat} (hp : Covers ps 0x10000000000000000000000000000000000100100) (hu2 : On inS ps s0 u2) :
    On inS ps s0 (State.startFences u1 u2 u3) := by
  induction u1 generalizing u2 u3 with
  | zero =>
    rw [State.startFences]
    exact hu2
  | succ v ih =>
    rw [State.startFences]
    split
    · rename_i x1 e2
      exact hu2
    · rename_i x3 x4 x5 x6 e7
      extract_lets +onlyGivenNames z8 z9
      clear_value z8 z9
      refine On.ite ?_ ?_
      · exact ih (State.setGroup_keeps (hp.sub rfl) hu2)
      · refine On.ite ?_ ?_
        · exact hu2
        · extract_lets +onlyGivenNames z10
          clear_value z10
          exact ih (State.bump_keeps (hp.sub rfl) (hp.sub rfl) (State.setGroup_keeps (hp.sub rfl) hu2))

theorem State.resendPackets_keeps {s0 : State} {ps : Nat} {s : State} {g : Nat} (hp : Covers ps 0x20100) (hs : On inS ps s0 s) :
    On inS ps s0 (State.resendPackets s g) := by
  delta State.resendPackets
  extract_lets +onlyGivenNames z1
  clear_value z1
  extract_lets +onlyGivenNames z2
  clear_value (ez2 : z2 = _)
  refine On.letS (ps := ps) (s0 := s0) ez2 ?_ fun hz2 => ?_
  · refine On.foldl ?_ ?_
    · exact hs
    · intro x3 x4 h5
      split
      · rename_i x6 x7 x8
        split
        · rename_i x9 e10
          exact h5
        · rename_i x11 x12 e13
          extract_lets +onlyGivenNames z14
          clear_value z14
          extract_lets +onlyGivenNames z15
          clear_value (ez15 : z15 = _)
          refine On.letS (ps := ps) (s0 := s0) ez15 ?_ fun hz15 => ?_
          · exact State.setLink_keeps (hp.sub rfl) h5
          refine On.mk (s := z15) ?_ .k .k .k .k .k .k .k .k (.c (hp.sub rfl)) .k .k .k .k .k .k .k .k
          exact hz15
  refine On.foldl ?_ ?_
  · exact hz2
  · intro x16 x17 h18
    exact State.pumpLink_keeps (hp.sub rfl) h18

theorem State.joinLink_keeps {s0 : State} {ps : Nat} {s : State} {l : Nat} (hp : Covers ps 0x10000000000000000000000000000000000120100) (hs : On inS ps s0 s) :
    On inS ps s0 (State.joinLink s l) := by
  delta State.joinLink
  extract_lets +onlyGivenNames z1 z2
  clear_value z1 z2
  extract_lets +onlyGivenNames z3
  clear_value (ez3 : z3 = _)
  refine On.letS (ps := ps) (s0 := s0) ez3 ?_ fun hz3 => ?_
  · exact State.setLink_keeps (hp.sub rfl) hs
  extract_lets +onlyGivenNames z4 z5
  clear_value z4 z5
  refine On.ite ?_ ?_
  · extract_lets +onlyGivenNames z6
    clear_value z6
    exact State.resendPackets_keeps (hp.sub rfl) (State.setGroup_keeps (hp.sub rfl) hz3)
  · split
    · rename_i x7 x8 x9 e10
      extract_lets +onlyGivenNames z11
      clear_value z11
      exact State.startFences_keeps (hp.sub rfl) (State.setGroup_keeps (hp.sub rfl) hz3)

theorem State.leaveLink_keeps {s0 : State} {ps : Nat} {s : State} {l : Nat} {failed : Bool} (hp : Covers ps 0x10000000000000000000000000000000000100100) (hs : On inS ps s0 s) :
    On inS ps s0 (State.leaveLink s l failed) := by
  delta State.leaveLink
  extract_lets +onlyGivenNames z1
  clear_value z1
  refine On.ite ?_ ?_
  · exact hs
  · extract_lets +onlyGivenNames z2
    clear_value z2
    extract_lets +onlyGivenNames z3
    clear_value (ez3 : z3 = _)
    refine On.letS (ps := ps) (s0 := s0) ez3 ?_ fun hz3 => ?_
    · exact State.setLink_keeps (hp.sub rfl) hs
    extract_lets +onlyGivenNames z4 z5 z6
    clear_value z4 z5 z6
    refine On.ite ?_ ?_
    · extract_lets +onlyGivenNames z7 z8 z9 z10 z11 z12
      clear_value z7 z8 z9 z10 z11 z12
      extract_lets +onlyGivenNames z13
      clear_value (ez13 : z13 = _)
      refine On.letS (ps := ps) (s0 := s0) ez13 ?_ fun hz13 => ?_
      · exact State.setGroup_keeps (hp.sub rfl) hz3
      extract_lets +onlyGivenNames z14
      clear_value (ez14 : z14 = _)
      refine On.letS (ps := ps) (s0 := s0) ez14 ?_ fun hz14 => ?_
      · refine On.ite ?_ ?_
        · exact State.bump_keeps (hp.sub rfl) (hp.sub rfl) hz13
        · exact hz13
      exact State.startFences_keeps (hp.sub rfl) hz14
    · split
      · rename_i x15 x16 x17 e18
        exact State.startFences_keeps (hp.sub rfl) (State.setGroup_keeps (hp.sub rfl) hz3)

theorem State.wakeQuad_keeps {s0 : State} {ps : Nat} {s : State} {q : Nat} (hp : Covers ps 0x10000000000000000001000020000000000120900) (hs : On inS ps s0 s) :
    On inS ps s0 (State.wakeQuad s q) := by
  delta State.wakeQuad
  split
  · rename_i x1 e2
    refine On.foldl ?_ ?_
    · exact State.setReg_keeps (hp.sub rfl) (State.setQuad_keeps (hp.sub rfl) hs)
    · intro x3 x4 h5
      extract_lets +onlyGivenNames z6
      clear_value z6
      extract_lets +onlyGivenNames z7
      clear_value (ez7 : z7 = _)
      refine On.letS (ps := ps) (s0 := s0) ez7 ?_ fun hz7 => ?_
      · exact State.setAdapt_keeps (hp.sub rfl) h5
      refine On.ite ?_ ?_
      · exact State.setReg_keeps (hp.sub rfl) hz7
      · exact hz7
  · rename_i x8 x9 e10
    extract_lets +onlyGivenNames z11
    clear_value (ez11 : z11 = _)
    refine On.letS (ps := ps) (s0 := s0) ez11 ?_ fun hz11 => ?_
    · exact State.setQuad_keeps (hp.sub rfl) hs
    refine On.foldl ?_ ?_
    · exact hz11
    · intro x12 x13 h14
      refine On.ite ?_ ?_
      · exact State.joinLink_keeps (hp.sub rfl) (State.setReg_keeps (hp.sub rfl) (State.setLink_keeps (hp.sub rfl) h14))
      · exact h14
  · rename_i x15 e16 e17
    exact hs

theorem State.wakeGroup_keeps {s0 : State} {ps : Nat} {s : State} {g : Nat} (hp : Covers ps 0x10000000000000000001000020000000000120900) (hs : On inS ps s0 s) :
    On inS ps s0 (State.wakeGroup s g) := by
  delta State.wakeGroup
  refine On.foldl ?_ ?_
  · exact hs
  · intro x1 x2 h3
    refine On.ite ?_ ?_
    · exact State.wakeQuad_keeps (hp.sub rfl) h3
    · exact h3

theorem State.quadOff_keeps {s0 : State} {ps : Nat} {s : State} {q : Nat} (hp : Covers ps 0x1000020000000000000900) (hs : On inS ps s0 s) :
    On inS ps s0 (State.quadOff s q) := by
  delta State.quadOff
  refine On.foldl ?_ ?_
  · exact State.setReg_keeps (hp.sub rfl) (State.setQuad_keeps (hp.sub rfl) hs)
  · intro x1 x2 h3
    extract_lets +onlyGivenNames z4
    clear_value z4
    extract_lets +onlyGivenNames z5
    clear_value (ez5 : z5 = _)
    refine On.letS (ps := ps) (s0 := s0) ez5 ?_ fun hz5 => ?_
    · exact State.setLink_keeps (hp.sub rfl) (State.setAdapt_keeps (hp.sub rfl) h3)
    refine On.ite ?_ ?_
    · exact hz5
    · exact State.setReg_keeps (hp.sub rfl) hz5

theorem State.quietCheck_keeps {s0 : State} {ps : Nat} {s : State} {q : Nat} (hp : Covers ps 0x1000020000000000020900) (hs : On inS ps s0 s) :
    On inS ps s0 (State.quietCheck s q) := by
  delta State.quietCheck
  extract_lets +onlyGivenNames z1
  clear_value z1
  extract_lets +onlyGivenNames z2
  clear_value (ez2 : z2 = _)
  refine On.letS (ps := ps) (s0 := s0) ez2 ?_ fun hz2 => ?_
  · split
    · rename_i x3 x4 e5
      refine On.ite ?_ ?_
      · exact State.quadOff_keeps (hp.sub rfl) hs
      · refine On.ite ?_ ?_
        · refine On.foldl ?_ ?_
          · exact hs
          · intro x6 x7 h8
            refine On.ite ?_ ?_
            · exact h8
            · exact State.sendLocal_keeps (hp.sub rfl) (State.setLink_keeps (hp.sub rfl) h8)
        · exact hs
    · rename_i x9 e10
      exact hs
  refine On.foldl ?_ ?_
  · exact hz2
  · intro x11 x12 h13
    extract_lets +onlyGivenNames z14
    clear_value z14
    refine On.ite ?_ ?_
    · exact State.sendLocal_keeps (hp.sub rfl) (State.setLink_keeps (hp.sub rfl) h13)
    · exact h13

theorem State.failLink_keeps {s0 : State} {ps : Nat} {s : State} {l : Nat} {cause : Nat} (hp : Covers ps 0x10000000000000000001000020000000000120900) (hs : On inS ps s0 s) :
    On inS ps s0 (State.failLink s l cause) := by
  delta State.failLink
  extract_lets +onlyGivenNames z1
  clear_value z1
  refine On.ite ?_ ?_
  · exact hs
  · extract_lets +onlyGivenNames z2 z3 z4 z5 z6 z7
    clear_value z2 z3 z4 z5 z6 z7
    extract_lets +onlyGivenNames z8
    clear_value (ez8 : z8 = _)
    refine On.letS (ps := ps) (s0 := s0) ez8 ?_ fun hz8 => ?_
    · exact State.setReg_keeps (hp.sub rfl) (State.bump_keeps (hp.sub rfl) (hp.sub rfl) (State.setReg_keeps (hp.sub rfl) hs))
    extract_lets +onlyGivenNames z9 z10
    clear_value z9 z10
    extract_lets +onlyGivenNames z11
    clear_value (ez11 : z11 = _)
    refine On.letS (ps := ps) (s0 := s0) ez11 ?_ fun hz11 => ?_
    · refine State.count_keeps (hp.sub rfl) (hp.sub rfl) ?_
      refine On.mk (s := z8) ?_ .k .k .k .k .k .k .k .k (.c (hp.sub rfl)) .k .k .k .k .k .k .k .k
      exact hz8
    extract_lets +onlyGivenNames z12 z13 z14 z15
    clear_value z12 z13 z14 z15
    extract_lets +onlyGivenNames z16
    clear_value (ez16 : z16 = _)
    refine On.letS (ps := ps) (s0 := s0) ez16 ?_ fun hz16 => ?_
    · refine State.count_keeps (hp.sub rfl) (hp.sub rfl) ?_
      refine On.mk (s := z11) ?_ .k .k .k .k .k .k .k .k (.c (hp.sub rfl)) .k .k .k .k .k .k .k .k
      exact hz11
    extract_lets +onlyGivenNames z17
    clear_value (ez17 : z17 = _)
    refine On.letS (ps := ps) (s0 := s0) ez17 ?_ fun hz17 => ?_
    · exact State.leaveLink_keeps (hp.sub rfl) hz16
    extract_lets +onlyGivenNames z18
    clear_value z18
    extract_lets +onlyGivenNames z19
    clear_value (ez19 : z19 = _)
    refine On.letS (ps := ps) (s0 := s0) ez19 ?_ fun hz19 => ?_
    · exact State.setLink_keeps (hp.sub rfl) hz17
    extract_lets +onlyGivenNames z20
    clear_value (ez20 : z20 = _)
    refine On.letS (ps := ps) (s0 := s0) ez20 ?_ fun hz20 => ?_
    · refine On.ite ?_ ?_
      · exact State.resendPackets_keeps (hp.sub rfl) hz19
      · exact hz19
    refine On.ite ?_ ?_
    · exact State.wakeGroup_keeps (hp.sub rfl) hz20
    · exact hz20

theorem State.stopLinks_keeps {s0 : State} {ps : Nat} {s : State} (hp : Covers ps 0x1000000000000000000100) (hs : On inS ps s0 s) :
    On inS ps s0 (State.stopLinks s) := by
  delta State.stopLinks
  extract_lets +onlyGivenNames z1
  clear_value (ez1 : z1 = _)
  refine On.letS (ps := ps) (s0 := s0) ez1 ?_ fun hz1 => ?_
  · refine On.foldl ?_ ?_
    · exact hs
    · intro x2 x3 h4
      exact State.setReg_keeps (hp.sub rfl) h4
  refine On.mk (s := z1) ?_ .k .k .k .k .k .k .k .k (.c (hp.sub rfl)) .k .k .k .k .k .k .k .k
  exact hz1

theorem State.startLinks_keeps {s0 : State} {ps : Nat} {s : State} (hp : Covers ps 0x1000000000000000000000) (hs : On inS ps s0 s) :
    On inS ps s0 (State.startLinks s) := by
  delta State.startLinks
  refine On.foldl ?_ ?_
  · exact hs
  · intro x1 x2 h3
    refine On.ite ?_ ?_
    · exact State.setReg_keeps (hp.sub rfl) h3
    · exact h3

theorem State.handOver_keeps {s0 : State} {ps : Nat} {s : State} {id : Nat} (hp : Covers ps 0x10000000000000000000000000000000000000000000000000000300180) (hs : On inS ps s0 s) :
    On inS ps s0 (State.handOver s id) := by
  delta State.handOver
  split
  · rename_i x1 e2
    exact hs
  · rename_i x3 x4 e5
    extract_lets +onlyGivenNames z6
    clear_value (ez6 : z6 = _)
    refine On.letS (ps := ps) (s0 := s0) ez6 ?_ fun hz6 => ?_
    · exact State.trace_keeps (hp.sub rfl) hs
    extract_lets +onlyGivenNames z7
    clear_value z7
    extract_lets +onlyGivenNames z8
    clear_value (ez8 : z8 = _)
    refine On.letS (ps := ps) (s0 := s0) ez8 ?_ fun hz8 => ?_
    · refine State.freeHeld_keeps (hp.sub rfl) ?_
      refine On.mk (s := z6) ?_ .k .k .k .k .k .k .k .k (.c (hp.sub rfl)) .k .k .k .k .k .k .k .k
      exact hz6
    extract_lets +onlyGivenNames z9
    clear_value z9
    refine On.ite ?_ ?_
    · exact State.setGroup_keeps (hp.sub rfl) hz8
    · exact hz8

theorem State.goBack_keeps {s0 : State} {ps : Nat} {s : State} {l : Nat} (hp : Covers ps 0x10000000000000000001000020000000000120900) (hs : On inS ps s0 s) :
    On inS ps s0 (State.goBack s l) := by
  delta State.goBack
  extract_lets +onlyGivenNames z1
  clear_value z1
  refine On.ite ?_ ?_
  · exact hs
  · extract_lets +onlyGivenNames z2
    clear_value (ez2 : z2 = _)
    refine On.letS (ps := ps) (s0 := s0) ez2 ?_ fun hz2 => ?_
    · exact State.bump_keeps (hp.sub rfl) (hp.sub rfl) (State.setLink_keeps (hp.sub rfl) hs)
    refine On.ite ?_ ?_
    · exact State.failLink_keeps (hp.sub rfl) hz2
    · exact State.pumpLink_keeps (hp.sub rfl) hz2

theorem State.takeAck_keeps {s0 : State} {ps : Nat} {s : State} {l : Nat} {ack : Nat} {nak : Bool} {credits : Nat} (hp : Covers ps 0x10000000000000000010000000000000000001000020000000000320980) (hs : On inS ps s0 s) :
    On inS ps s0 (State.takeAck s l ack nak credits) := by
  delta State.takeAck
  extract_lets +onlyGivenNames z1 z2 z3
  clear_value z1 z2 z3
  extract_lets +onlyGivenNames z4
  clear_value (ez4 : z4 = _)
  refine On.letS (ps := ps) (s0 := s0) ez4 ?_ fun hz4 => ?_
  · exact State.setLink_keeps (hp.sub rfl) hs
  extract_lets +onlyGivenNames z5
  clear_value (ez5 : z5 = _)
  refine On.letS (ps := ps) (s0 := s0) ez5 ?_ fun hz5 => ?_
  · refine On.foldl ?_ ?_
    · exact hz4
    · intro x6 x7 h8
      exact State.handOver_keeps (hp.sub rfl) h8
  extract_lets +onlyGivenNames z9
  clear_value (ez9 : z9 = _)
  refine On.letS (ps := ps) (s0 := s0) ez9 ?_ fun hz9 => ?_
  · refine On.ite ?_ ?_
    · exact State.goBack_keeps (hp.sub rfl) hz5
    · exact hz5
  exact State.pumpLink_keeps (hp.sub rfl) hz9

theorem State.offerBreakwater_keeps {s0 : State} {ps : Nat} {s : State} {arrival : Nat} {fabric : Bool} {p : Packet} (hp : Covers ps 0x80) (hs : On inS ps s0 s) :
    On inS ps s0 (State.offerBreakwater s arrival fabric p) := by
  delta State.offerBreakwater
  extract_lets +onlyGivenNames z1 z2 z3
  clear_value z1 z2 z3
  exact State.setTmSlice_keeps (hp.sub rfl) hs

theorem State.setRecvCtx_keeps {s0 : State} {ps : Nat} {s : State} {k : Nat} {c : RecvCtx} (hp : Covers ps 0x100) (hs : On inS ps s0 s) :
    On inS ps s0 (State.setRecvCtx s k c) := by
  delta State.setRecvCtx
  refine On.mk (s := s) ?_ .k .k .k .k .k .k .k .k (.c (hp.sub rfl)) .k .k .k .k .k .k .k .k
  exact hs

theorem State.passFabric_keeps {s0 : State} {ps : Nat} {s : State} {p : ReseqPacket} (hp : Covers ps 0x80) (hs : On inS ps s0 s) :
    On inS ps s0 (State.passFabric s p) := by
  delta State.passFabric
  exact State.offerBreakwater_keeps (hp.sub rfl) hs

theorem State.drainReseq_keeps {s0 : State} {ps : Nat} {u1 : Nat} {u2 : State} {u3 : Nat} (hp : Covers ps 0x180) (hu2 : On inS ps s0 u2) :
    On inS ps s0 (State.drainReseq u1 u2 u3) := by
  induction u1 generalizing u2 u3 with
  | zero =>
    rw [State.drainReseq]
    exact hu2
  | succ v ih =>
    rw [State.drainReseq]
    split
    · rename_i x1 e2
      exact hu2
    · rename_i x3 x4 e5
      exact ih (State.passFabric_keeps (hp.sub rfl) (State.setRecvCtx_keeps (hp.sub rfl) hu2))

theorem State.skipGap_keeps {s0 : State} {ps : Nat} {s : State} {k : Nat} (hp : Covers ps 0x180) (hs : On inS ps s0 s) :
    On inS ps s0 (State.skipGap s k) := by
  delta State.skipGap
  extract_lets +onlyGivenNames z1
  clear_value z1
  split
  · rename_i x2 e3
    exact hs
  · rename_i x4 x5 e6
    extract_lets +onlyGivenNames z7 z8
    clear_value z7 z8
    extract_lets +onlyGivenNames z9
    clear_value (ez9 : z9 = _)
    refine On.letS (ps := ps) (s0 := s0) ez9 ?_ fun hz9 => ?_
    · exact State.setRecvCtx_keeps (hp.sub rfl) hs
    extract_lets +onlyGivenNames z10
    clear_value (ez10 : z10 = _)
    refine On.letS (ps := ps) (s0 := s0) ez10 ?_ fun hz10 => ?_
    · refine On.foldl ?_ ?_
      · exact hz9
      · intro x11 x12 h13
        exact State.passFabric_keeps (hp.sub rfl) h13
    exact State.drainReseq_keeps (hp.sub rfl) hz10

theorem State.makeRoom_keeps {s0 : State} {ps : Nat} {u1 : Nat} {u2 : State} {u3 : Nat} (hp : Covers ps 0x10000000000000000000000000000000000100180) (hu2 : On inS ps s0 u2) :
    On inS ps s0 (State.makeRoom u1 u2 u3) := by
  induction u1 generalizing u2 u3 with
  | zero =>
    rw [State.makeRoom]
    exact hu2
  | succ v ih =>
    rw [State.makeRoom]
    refine On.ite ?_ ?_
    · exact hu2
    · split
      · rename_i x1 e2
        exact hu2
      · rename_i x3 x4 e5
        exact ih (State.bump_keeps (hp.sub rfl) (hp.sub rfl) (State.skipGap_keeps (hp.sub rfl) hu2))

theorem State.resequence_keeps {s0 : State} {ps : Nat} {s : State} {k : Nat} {era : Nat} {p : ReseqPacket} (hp : Covers ps 0x10000000000000000000000000000000000120180)
    (hs : On inS ps s0 s) : On inS ps s0 (State.resequence s k era p) := by
  unfold State.resequence
  have hm := State.makeRoom_keeps (u1 := 65536) (u3 := p.bytes) (hp.sub rfl) hs
  refine On.ite (On.ite (State.sendControl_keeps (hp.sub rfl) (State.bump_keeps (hp.sub rfl) (hp.sub rfl) hs))
    (State.bump_keeps (hp.sub rfl) (hp.sub rfl) hs)) (On.ite ?_ (On.ite (State.bump_keeps (hp.sub rfl) (hp.sub rfl) hs)
    (On.ite (State.bump_keeps (hp.sub rfl) (hp.sub rfl) hs) (On.ite (State.bump_keeps (hp.sub rfl) (hp.sub rfl) hs) (On.ite ?_
      (On.ite (State.bump_keeps (hp.sub rfl) (hp.sub rfl) hm) ?_))))))
  · exact State.drainReseq_keeps (hp.sub rfl) (State.passFabric_keeps (hp.sub rfl) (State.setRecvCtx_keeps (hp.sub rfl) hs))
  · exact State.drainReseq_keeps (hp.sub rfl) (State.passFabric_keeps (hp.sub rfl) (State.setRecvCtx_keeps (hp.sub rfl) hm))
  · exact State.setRecvCtx_keeps (hp.sub rfl) hm

theorem State.completePacket_keeps {s0 : State} {ps : Nat} {s : State} {r : Reassembly} (hp : Covers ps 0x10000000000000000000000000000000000120180) (hs : On inS ps s0 s) :
    On inS ps s0 (State.completePacket s r) := by
  delta State.completePacket
  extract_lets +onlyGivenNames z1 z2
  clear_value z1 z2
  refine On.ite ?_ ?_
  · exact State.bump_keeps (hp.sub rfl) (hp.sub rfl) hs
  · extract_lets +onlyGivenNames z3 z4 z5 z6 z7 z8 z9
    clear_value z3 z4 z5 z6 z7 z8 z9
    exact State.resequence_keeps (hp.sub rfl) hs

theorem State.reassemble_keeps {s0 : State} {ps : Nat} {s : State} {l : Nat} {unit : Nat} {srcLink : Nat} {cls : Nat} {first : Bool} {last : Bool} {payload : List Byte} (hp : Covers ps 0x10000000000000000000000000000000000120180) (hs : On inS ps s0 s) :
    On inS ps s0 (State.reassemble s l unit srcLink cls first last payload) := by
  delta State.reassemble
  extract_lets +onlyGivenNames z1 z2
  clear_value z1 z2
  extract_lets +onlyGivenNames z3
  clear_value (ez3 : z3 = _)
  refine On.fnIn (P := fun f => ∀ v0, On inS ps s0 v0 → On inS ps s0 (f v0)) ez3 ?_ fun hz3 => ?_
  · intro x4 h5
    dsimp -zeta only
    refine On.mk (s := x4) ?_ .k .k .k .k .k .k .k .k (.c (hp.sub rfl)) .k .k .k .k .k .k .k .k
    exact h5
  extract_lets +onlyGivenNames z6
  clear_value (ez6 : z6 = _)
  refine On.fnIn (P := fun f => ∀ v0, On inS ps s0 v0 → On inS ps s0 (f v0)) ez6 ?_ fun hz6 => ?_
  · intro x7 h8
    dsimp -zeta only
    refine On.mk (s := x7) ?_ .k .k .k .k .k .k .k .k (.c (hp.sub rfl)) .k .k .k .k .k .k .k .k
    exact h8
  split
  · rename_i x9 x10 e11
    refine On.ite ?_ ?_
    · refine On.ite ?_ ?_
      · exact hz3 _ hs
      · exact hs
    · exact State.bump_keeps (hp.sub rfl) (hp.sub rfl) hs
  · rename_i x12 x13 x14 e15
    extract_lets +onlyGivenNames z16
    clear_value z16
    refine On.ite ?_ ?_
    · exact State.completePacket_keeps (hp.sub rfl) (hz6 _ hs)
    · refine On.mk (s := s) ?_ .k .k .k .k .k .k .k .k (.c (hp.sub rfl)) .k .k .k .k .k .k .k .k
      exact hs
  · rename_i x17 x18
    extract_lets +onlyGivenNames z19
    clear_value (ez19 : z19 = _)
    refine On.letS (ps := ps) (s0 := s0) ez19 ?_ fun hz19 => ?_
    · refine hz3 _ ?_
      refine On.ite ?_ ?_
      · exact State.bump_keeps (hp.sub rfl) (hp.sub rfl) (hz6 _ hs)
      · exact hs
    refine On.ite ?_ ?_
    · exact State.bump_keeps (hp.sub rfl) (hp.sub rfl) hz19
    · extract_lets +onlyGivenNames z20
      clear_value z20
      refine On.ite ?_ ?_
      · extract_lets +onlyGivenNames z21
        clear_value (ez21 : z21 = _)
        refine On.letS (ps := ps) (s0 := s0) ez21 ?_ fun hz21 => ?_
        · exact State.bump_keeps (hp.sub rfl) (hp.sub rfl) hz19
        refine On.ite ?_ ?_
        · exact hz21
        · refine On.mk (s := z21) ?_ .k .k .k .k .k .k .k .k (.c (hp.sub rfl)) .k .k .k .k .k .k .k .k
          exact hz21
      · refine On.ite ?_ ?_
        · exact State.completePacket_keeps (hp.sub rfl) hz19
        · refine On.mk (s := z19) ?_ .k .k .k .k .k .k .k .k (.c (hp.sub rfl)) .k .k .k .k .k .k .k .k
          exact hz19

end Sys2Proof.Machine
end

