-- ==== Sys2Proof/Laws/KeepsHbmOps.lean ====
section
/-! SUPPORT. Sys2Proof/Laws/KeepsHbmOps.lean: what the operations of Machine/HbmOps.lean keep, whatever they do. -/

namespace Sys2Proof.Machine

theorem State.setPhy_keeps {s0 : State} {ps : Nat} {s : State} {h : Nat} {st : Nat} (hp : Covers ps 0x20000000000100000) (hs : On inS ps s0 s) :
    On inS ps s0 (State.setPhy s h st) := by
  delta State.setPhy
  extract_lets +onlyGivenNames z1
  clear_value (ez1 : z1 = _)
  refine On.letS (ps := ps) (s0 := s0) ez1 ?_ fun hz1 => ?_
  · refine On.ite ?_ ?_
    · exact State.bump_keeps (hp.sub rfl) (hp.sub rfl) hs
    · exact hs
  exact State.setReg_keeps (hp.sub rfl) hz1

theorem State.pairMemoryLost_keeps {s0 : State} {ps : Nat} {s : State} (hp : Covers ps 0x1010100000000000100000003000000000000000000010000000003f33682) (hs : On inS ps s0 s) :
    On inS ps s0 (State.pairMemoryLost s) := by
  delta State.pairMemoryLost
  refine On.ite ?_ ?_
  · exact State.goStale_keeps (hp.sub rfl) hs
  · exact State.fence_keeps (hp.sub rfl) hs

theorem State.abandonAllSpills_keeps {s0 : State} {ps : Nat} {s : State} (hp : Covers ps 0x1000000000000000000000000000000100080) (hs : On inS ps s0 s) :
    On inS ps s0 (State.abandonAllSpills s) := by
  delta State.abandonAllSpills
  refine On.foldl ?_ ?_
  · exact hs
  · intro x1 x2 h3
    split
    · rename_i x4 x5 x6
      extract_lets +onlyGivenNames z7
      clear_value z7
      refine On.ite ?_ ?_
      · exact h3
      · extract_lets +onlyGivenNames z8
        clear_value z8
        exact State.count_keeps (hp.sub rfl) (hp.sub rfl) (State.setQueue_keeps (hp.sub rfl) h3)

theorem State.stackOut_keeps {s0 : State} {ps : Nat} {s : State} {h : Nat} {cause : Nat} (hp : Covers ps 0x1010100000000000100000003000000000000000600030000000003f3f682) (hs : On inS ps s0 s) :
    On inS ps s0 (State.stackOut s h cause) := by
  delta State.stackOut
  refine On.ite ?_ ?_
  · exact hs
  · extract_lets +onlyGivenNames z1
    clear_value (ez1 : z1 = _)
    refine On.letS (ps := ps) (s0 := s0) ez1 ?_ fun hz1 => ?_
    · exact State.healthFree_keeps (hp.sub rfl) (State.setReg_keeps (hp.sub rfl) (State.setReg_keeps (hp.sub rfl) hs))
    extract_lets +onlyGivenNames z2
    clear_value (ez2 : z2 = _)
    refine On.letS (ps := ps) (s0 := s0) ez2 ?_ fun hz2 => ?_
    · refine On.foldl ?_ ?_
      · exact hz1
      · intro x3 x4 h5
        extract_lets +onlyGivenNames z6
        refine On.haveIn (g := inS) (ps := ps) (s0 := s0) (x := z6) ?_ fun hz6 => ?_
        · unfold z6
          exact State.setPhy_keeps (hp.sub rfl) h5
        refine On.ite ?_ ?_
        · exact hz6
        · exact State.setReg_keeps (hp.sub rfl) hz6
    extract_lets +onlyGivenNames z7
    clear_value (ez7 : z7 = _)
    refine On.letS (ps := ps) (s0 := s0) ez7 ?_ fun hz7 => ?_
    · exact State.abandonAllSpills_keeps (hp.sub rfl) hz2
    extract_lets +onlyGivenNames z8
    clear_value z8
    extract_lets +onlyGivenNames z9
    clear_value (ez9 : z9 = _)
    refine On.letS (ps := ps) (s0 := s0) ez9 ?_ fun hz9 => ?_
    · refine On.foldl ?_ ?_
      · exact hz7
      · intro x10 x11 h12
        exact State.losePackets_keeps (hp.sub rfl) h12
    extract_lets +onlyGivenNames z13
    clear_value z13
    extract_lets +onlyGivenNames z14
    clear_value (ez14 : z14 = _)
    refine On.letS (ps := ps) (s0 := s0) ez14 ?_ fun hz14 => ?_
    · refine On.mk (s := z9) ?_ .k .k .k .k .k .k .k (.c (hp.sub rfl)) .k .k .k .k .k .k .k .k .k
      exact hz9
    exact State.pairMemoryLost_keeps (hp.sub rfl) (State.abortTests_keeps (hp.sub rfl) hz14)

theorem State.correctedBurst_keeps {s0 : State} {ps : Nat} {s : State} {cc : Nat} (hp : Covers ps 0x2000000000000000000000000000000100000) (hs : On inS ps s0 s) :
    On inS ps s0 (State.correctedBurst s cc) := by
  delta State.correctedBurst
  refine On.ite ?_ ?_
  · exact hs
  · exact State.bump_keeps (hp.sub rfl) (hp.sub rfl) hs

theorem State.badBurst_keeps {s0 : State} {ps : Nat} {s : State} {cc : Nat} {row : Nat} (hp : Covers ps 0x1010100000000000100000003000000000000000600030000000003f3f682) (hs : On inS ps s0 s) :
    On inS ps s0 (State.badBurst s cc row) := by
  delta State.badBurst
  refine On.ite ?_ ?_
  · exact hs
  · extract_lets +onlyGivenNames z1
    clear_value z1
    extract_lets +onlyGivenNames z2
    clear_value (ez2 : z2 = _)
    refine On.letS (ps := ps) (s0 := s0) ez2 ?_ fun hz2 => ?_
    · exact State.healthFree_keeps (hp.sub rfl) (State.bump_keeps (hp.sub rfl) (hp.sub rfl) hs)
    extract_lets +onlyGivenNames z3 z4
    clear_value z3 z4
    extract_lets +onlyGivenNames z5
    clear_value (ez5 : z5 = _)
    refine On.letS (ps := ps) (s0 := s0) ez5 ?_ fun hz5 => ?_
    · exact State.setPc_keeps (hp.sub rfl) hz2
    extract_lets +onlyGivenNames z6 z7
    clear_value z6 z7
    extract_lets +onlyGivenNames z8
    clear_value (ez8 : z8 = _)
    refine On.letS (ps := ps) (s0 := s0) ez8 ?_ fun hz8 => ?_
    · exact State.setStack_keeps (hp.sub rfl) hz5
    refine On.ite ?_ ?_
    · exact State.stackOut_keeps (hp.sub rfl) hz8
    · refine On.ite ?_ ?_
      · exact State.stackOut_keeps (hp.sub rfl) hz8
      · exact hz8

theorem State.cleanRead_keeps {s0 : State} {ps : Nat} {s : State} {cc : Nat} (hp : Covers ps 0x400) (hs : On inS ps s0 s) :
    On inS ps s0 (State.cleanRead s cc) := by
  delta State.cleanRead
  extract_lets +onlyGivenNames z1
  clear_value z1
  refine On.ite ?_ ?_
  · exact hs
  · exact State.setPc_keeps (hp.sub rfl) hs

theorem State.readErrors_keeps {s0 : State} {ps : Nat} {s : State} {seg : Nat} {corrected : List Nat} {bad : List Nat} (hp : Covers ps 0x1010100000000000100000003000000000000000600030000000003f3f682) (hs : On inS ps s0 s) :
    On inS ps s0 (State.readErrors s seg corrected bad) := by
  delta State.readErrors
  extract_lets +onlyGivenNames z1
  clear_value (ez1 : z1 = _)
  refine On.letS (ps := ps) (s0 := s0) ez1 ?_ fun hz1 => ?_
  · refine On.foldl ?_ ?_
    · exact hs
    · intro x2 x3 h4
      refine On.ite ?_ ?_
      · exact h4
      · exact State.cleanRead_keeps (hp.sub rfl) h4
  extract_lets +onlyGivenNames z5
  clear_value (ez5 : z5 = _)
  refine On.letS (ps := ps) (s0 := s0) ez5 ?_ fun hz5 => ?_
  · refine On.foldl ?_ ?_
    · exact hz1
    · intro x6 x7 h8
      exact State.correctedBurst_keeps (hp.sub rfl) h8
  refine On.foldl ?_ ?_
  · exact hz5
  · intro x9 x10 h11
    exact State.badBurst_keeps (hp.sub rfl) h11

theorem State.boundary_keeps {s0 : State} {ps : Nat} {s : State} {cc : Nat} (hp : Covers ps 0x400) (hs : On inS ps s0 s) :
    On inS ps s0 (State.boundary s cc) := by
  delta State.boundary
  extract_lets +onlyGivenNames z1
  clear_value z1
  exact State.setPc_keeps (hp.sub rfl) hs

theorem State.stackBoundary_keeps {s0 : State} {ps : Nat} {s : State} {h : Nat} (hp : Covers ps 0x400) (hs : On inS ps s0 s) :
    On inS ps s0 (State.stackBoundary s h) := by
  delta State.stackBoundary
  refine On.foldl ?_ ?_
  · exact hs
  · intro x1 x2 h3
    exact State.boundary_keeps (hp.sub rfl) h3

theorem State.saveDelays_keeps {s0 : State} {ps : Nat} {s : State} (hp : Covers ps 0x400) (hs : On inS ps s0 s) :
    On inS ps s0 (State.saveDelays s) := by
  delta State.saveDelays
  refine On.mk (s := s) ?_ .k .k .k .k .k .k .k .k .k .k (.c (hp.sub rfl)) .k .k .k .k .k .k
  exact hs

end Sys2Proof.Machine
end

