-- ==== Sys2Proof/Laws/KeepsHostOps.lean ====
section
/-! SUPPORT. Sys2Proof/Laws/KeepsHostOps.lean: what the operations of Machine/HostOps.lean keep, whatever they do. -/

namespace Sys2Proof.Machine

theorem State.setChan_keeps {s0 : State} {ps : Nat} {s : State} {i : Nat} {c : HostChannel} (hp : Covers ps 0x1000) (hs : On inS ps s0 s) :
    On inS ps s0 (State.setChan s i c) := by
  delta State.setChan
  refine On.mk (s := s) ?_ .k .k .k .k .k .k .k .k .k .k .k .k (.c (hp.sub rfl)) .k .k .k .k
  exact hs

theorem State.signalChannel_keeps {s0 : State} {ps : Nat} {s : State} {i : Nat} (hp : Covers ps 0x21000) (hs : On inS ps s0 s) :
    On inS ps s0 (State.signalChannel s i) := by
  delta State.signalChannel
  split
  · rename_i x1 e2
    exact hs
  · rename_i x3 x4 e5
    exact State.raiseVector_keeps (hp.sub rfl) (State.setChan_keeps (hp.sub rfl) hs)

theorem State.writeCompletion_keeps {s0 : State} {ps : Nat} {s : State} {i : Nat} {e : List Byte} (hp : Covers ps 0x21000) (hs : On inS ps s0 s) :
    On inS ps s0 (State.writeCompletion s i e) := by
  delta State.writeCompletion
  split
  · rename_i x1 e2
    exact hs
  · rename_i x3 x4 e5
    extract_lets +onlyGivenNames z6 z7
    clear_value z6 z7
    extract_lets +onlyGivenNames z8
    clear_value (ez8 : z8 = _)
    refine On.letS (ps := ps) (s0 := s0) ez8 ?_ fun hz8 => ?_
    · exact State.emit_keeps (hp.sub rfl) (State.emit_keeps (hp.sub rfl) hs)
    extract_lets +onlyGivenNames z9 z10
    clear_value z9 z10
    extract_lets +onlyGivenNames z11
    clear_value (ez11 : z11 = _)
    refine On.letS (ps := ps) (s0 := s0) ez11 ?_ fun hz11 => ?_
    · exact State.setChan_keeps (hp.sub rfl) hz8
    refine On.ite ?_ ?_
    · exact State.signalChannel_keeps (hp.sub rfl) hz11
    · exact hz11

theorem State.slotReturned_keeps {s0 : State} {ps : Nat} {s : State} (hp : Covers ps 0x10000) (hs : On inS ps s0 s) :
    On (inSnd inS) ps s0 (State.slotReturned s) := by
  delta State.slotReturned
  split
  · rename_i x1 x2 x3 e4
    refine On.got (g := (inSnd inS)) (t := x3) (ps := ps) (s0 := s0) e4 rfl ?_ fun he4 => ?_
    · exact State.draw_keeps (hp.sub rfl) hs
    exact On.pair he4

theorem State.settleRing_keeps {s0 : State} {ps : Nat} {s : State} {i : Nat} (hp : Covers ps 0x1000) (hs : On inS ps s0 s) :
    On inS ps s0 (State.settleRing s i) := by
  delta State.settleRing
  split
  · rename_i x1 e2
    exact hs
  · rename_i x3 x4 e5
    refine On.ite ?_ ?_
    · exact State.setChan_keeps (hp.sub rfl) hs
    · exact hs

theorem State.pushCompletion_keeps {s0 : State} {ps : Nat} {s : State} {i : Nat} {e : List Byte} (hp : Covers ps 0x10300000001000000000000000000000000000000000000000000337000) (hs : On inS ps s0 s) :
    On inS ps s0 (State.pushCompletion s i e) := by
  delta State.pushCompletion
  split
  · rename_i x1 e2
    exact hs
  · rename_i x3 x4 e5
    extract_lets +onlyGivenNames z6
    clear_value z6
    extract_lets +onlyGivenNames z7
    clear_value (ez7 : z7 = _)
    refine On.letS (ps := ps) (s0 := s0) ez7 ?_ fun hz7 => ?_
    · exact State.countChannel_keeps (hp.sub rfl) hs
    refine On.ite ?_ ?_
    · exact hs
    · refine On.ite ?_ ?_
      · exact State.setChan_keeps (hp.sub rfl) hz7
      · split
        · rename_i x8 x9 x10 e11
          refine On.got (g := (inSnd inS)) (t := x10) (ps := ps) (s0 := s0) e11 rfl ?_ fun he11 => ?_
          · exact State.slotReturned_keeps (hp.sub rfl) hz7
          refine On.ite ?_ ?_
          · exact State.writeCompletion_keeps (hp.sub rfl) he11
          · exact State.raiseEvent_keeps (hp.sub rfl) (State.bump_keeps (hp.sub rfl) (hp.sub rfl) (State.setChan_keeps (hp.sub rfl) he11))

theorem State.drainStarted_keeps {s0 : State} {ps : Nat} {u1 : Nat} {u2 : State} {u3 : Nat} (hp : Covers ps 0x10300000001000000000000000000000000000000000000000000337000) (hu2 : On inS ps s0 u2) :
    On inS ps s0 (State.drainStarted u1 u2 u3) := by
  induction u1 generalizing u2 u3 with
  | zero =>
    rw [State.drainStarted]
    exact hu2
  | succ v ih =>
    rw [State.drainStarted]
    split
    · rename_i x1 e2
      exact hu2
    · rename_i x3 x4 e5
      split
      · rename_i x6 e7
        exact State.settleRing_keeps (hp.sub rfl) hu2
      · rename_i x8 x9 x10 e11
        split
        · rename_i x12 e13
          exact hu2
        · rename_i x14 x15 e16
          refine On.ite ?_ ?_
          · exact hu2
          · exact ih (State.pushCompletion_keeps (hp.sub rfl) (State.setChan_keeps (hp.sub rfl) hu2))

theorem State.finish_keeps {s0 : State} {ps : Nat} {s : State} {i : Nat} {pos : Nat} {status : Nat} {info : Nat} {length : Nat} {time : Nat} {epoch : Nat} (hp : Covers ps 0x10300000001000000000000000000000000000000000000000000337000) (hs : On inS ps s0 s) :
    On inS ps s0 (State.finish s i pos status info length time epoch) := by
  delta State.finish
  split
  · rename_i x1 e2
    exact hs
  · rename_i x3 x4 e5
    extract_lets +onlyGivenNames z6
    clear_value z6
    exact State.drainStarted_keeps (hp.sub rfl) (State.setChan_keeps (hp.sub rfl) hs)

theorem State.finishInject_keeps {s0 : State} {ps : Nat} {s : State} {p : Packet} {status : Nat} {info : Nat} (hp : Covers ps 0x10300000001000000000000000000000000000000000000000000337000) (hs : On inS ps s0 s) :
    On inS ps s0 (State.finishInject s p status info) := by
  delta State.finishInject
  split
  · rename_i x1 e2
    exact hs
  · rename_i x3 x4 x5 e6
    split
    · rename_i x7 e8
      exact hs
    · rename_i x9 x10 e11
      exact State.finish_keeps (hp.sub rfl) hs

theorem State.flushGated_keeps {s0 : State} {ps : Nat} {s : State} (hp : Covers ps 0x10300000001000000000000000000000000000000000000000000337000) (hs : On inS ps s0 s) :
    On inS ps s0 (State.flushGated s) := by
  delta State.flushGated
  refine On.foldl ?_ ?_
  · exact hs
  · intro x1 x2 h3
    exact State.drainStarted_keeps (hp.sub rfl) h3

theorem State.puntHost_keeps {s0 : State} {ps : Nat} {s : State} {i : Nat} {info : Nat} {time : Nat} {epoch : Nat} {body : List Byte} (hp : Covers ps 0x10300000001000000000000000000000000000000000000000000337000) (hs : On inS ps s0 s) :
    On (inSnd inS) ps s0 (State.puntHost s i info time epoch body) := by
  delta State.puntHost
  split
  · rename_i x1 e2
    exact On.pair hs
  · rename_i x3 x4 e5
    split
    · rename_i x6 e7
      exact On.pair hs
    · rename_i x8 x9 x10 e11
      refine On.ite ?_ ?_
      · exact On.pair hs
      · refine On.ite ?_ ?_
        · exact On.pair (State.bump_keeps (hp.sub rfl) (hp.sub rfl) hs)
        · extract_lets +onlyGivenNames z12
          clear_value z12
          extract_lets +onlyGivenNames z13
          clear_value (ez13 : z13 = _)
          refine On.letS (ps := ps) (s0 := s0) ez13 ?_ fun hz13 => ?_
          · exact State.emit_keeps (hp.sub rfl) (State.setChan_keeps (hp.sub rfl) hs)
          exact On.pair (State.finish_keeps (hp.sub rfl) hz13)

theorem State.puntSteward_keeps {s0 : State} {ps : Nat} {s : State} {t : Nat} {info : Nat} {time : Nat} {epoch : Nat} {body : List Byte} (hp : Covers ps 0x12000) (hs : On inS ps s0 s) :
    On (inSnd inS) ps s0 (State.puntSteward s t info time epoch body) := by
  delta State.puntSteward
  extract_lets +onlyGivenNames z1 z2 z3 z4 z5
  clear_value z1 z2 z3 z4 z5
  split
  · rename_i x6 x7 x8 e9
    refine On.got (g := (inSnd inS)) (t := x8) (ps := ps) (s0 := s0) e9 rfl ?_ fun he9 => ?_
    · refine On.ite ?_ ?_
      · exact State.slotReturned_keeps (hp.sub rfl) hs
      · exact On.pair hs
    refine On.ite ?_ ?_
    · exact On.pair he9
    · extract_lets +onlyGivenNames z10 z11 z12 z13 z14
      clear_value z10 z11 z12 z13 z14
      exact On.pair (State.signalThread_keeps (hp.sub rfl) (State.setThread_keeps (hp.sub rfl) he9))

theorem State.punt_keeps {s0 : State} {ps : Nat} {s : State} {slice : Nat} {reason : Nat} {egress : Bool} {copy : Bool} {frame : List Byte} {record : List Byte} (hp : Covers ps 0x10300000001000000000000000000000008000000000000000000337000) (hs : On inS ps s0 s) :
    On inS ps s0 (State.punt s slice reason egress copy frame record) := by
  delta State.punt
  extract_lets +onlyGivenNames z1 z2 z3 z4
  clear_value z1 z2 z3 z4
  split
  · rename_i x5 x6 x7 e8
    refine On.got (g := (inSnd inS)) (t := x7) (ps := ps) (s0 := s0) e8 rfl ?_ fun he8 => ?_
    · split
      · rename_i x9 e10
        extract_lets +onlyGivenNames z11
        clear_value z11
        refine On.ite ?_ ?_
        · exact State.puntHost_keeps (hp.sub rfl) hs
        · exact On.pair hs
      · rename_i x12 e13
        exact State.puntSteward_keeps (hp.sub rfl) hs
      · rename_i x14 e15 e16
        exact On.pair hs
    refine On.ite ?_ ?_
    · exact State.bump_keeps (hp.sub rfl) (hp.sub rfl) he8
    · exact State.bump_keeps (hp.sub rfl) (hp.sub rfl) he8

end Sys2Proof.Machine
end

