-- ==== Sys2Proof/Laws/KeepsAdmission.lean ====
section
/-! SUPPORT. Sys2Proof/Laws/KeepsAdmission.lean: what the operations of Machine/Admission.lean keep, whatever they do. -/

namespace Sys2Proof.Machine

theorem State.checkQueue_keeps {s0 : State} {ps : Nat} {s : State} {n : Nat} {i : Nat} {q : Queue} {cells : Nat} {colour : Nat} {copy : Bool} (hp : Covers ps 0x80) (hs : On inS ps s0 s) :
    On (inSnd inS) ps s0 (State.checkQueue s n i q cells colour copy) := by
  delta State.checkQueue
  refine On.ite ?_ ?_
  · exact On.pair hs
  · refine On.ite ?_ ?_
    · exact On.pair hs
    · refine On.ite ?_ ?_
      · exact On.pair hs
      · extract_lets +onlyGivenNames z1
        clear_value z1
        extract_lets +onlyGivenNames z2
        clear_value (ez2 : z2 = _)
        refine On.letS (ps := ps) (s0 := s0) ez2 ?_ fun hz2 => ?_
        · exact State.setQueue_keeps (hp.sub rfl) hs
        refine On.ite ?_ ?_
        · exact On.pair hz2
        · refine On.ite ?_ ?_
          · exact On.pair hz2
          · extract_lets +onlyGivenNames z3
            clear_value z3
            split
            · rename_i x4 x5 x6 e7
              extract_lets +onlyGivenNames z8 z9
              clear_value z8 z9
              extract_lets +onlyGivenNames z10
              clear_value (ez10 : z10 = _)
              refine On.letS (ps := ps) (s0 := s0) ez10 ?_ fun hz10 => ?_
              · refine On.ite ?_ ?_
                · exact State.setTmSlice_keeps (hp.sub rfl) hz2
                · exact hz2
              refine On.ite ?_ ?_
              · exact On.pair hz10
              · refine On.ite ?_ ?_
                · exact On.pair hz10
                · exact On.pair hz10

theorem State.countRefusal_keeps {s0 : State} {ps : Nat} {s : State} {fabric : Bool} {copy : Bool} {queue : Option Nat} {cause : Nat} (hp : Covers ps 0x200000000000000000001000000000000000000000000000000304080) (hs : On inS ps s0 s) :
    On inS ps s0 (State.countRefusal s fabric copy queue cause) := by
  delta State.countRefusal
  extract_lets +onlyGivenNames z1 z2 z3
  clear_value z1 z2 z3
  extract_lets +onlyGivenNames z4
  clear_value (ez4 : z4 = _)
  refine On.letS (ps := ps) (s0 := s0) ez4 ?_ fun hz4 => ?_
  · exact State.bump_keeps (.either (hp.sub rfl) (hp.sub rfl)) (hp.sub rfl) hs
  extract_lets +onlyGivenNames z5
  clear_value (ez5 : z5 = _)
  refine On.letS (ps := ps) (s0 := s0) ez5 ?_ fun hz5 => ?_
  · split
    · rename_i x6 x7
      refine On.ite ?_ ?_
      · exact State.bump_keeps (hp.sub rfl) (hp.sub rfl) hz4
      · exact hz4
    · rename_i x8
      exact hz4
  extract_lets +onlyGivenNames z9
  clear_value (ez9 : z9 = _)
  refine On.letS (ps := ps) (s0 := s0) ez9 ?_ fun hz9 => ?_
  · split
    · rename_i x10 x11
      refine On.ite ?_ ?_
      · exact State.bump_keeps (hp.sub rfl) (hp.sub rfl) hz5
      · exact hz5
    · rename_i x12
      exact hz5
  refine On.ite ?_ ?_
  · exact hz9
  · split
    · rename_i x13 x14 x15 x16
      split
      · rename_i x17 x18 e19
        exact State.countQueue_keeps (hp.sub rfl) (State.setQueue_keeps (hp.sub rfl) hz9)
      · rename_i x20 e21
        exact hz9
    · rename_i x22 x23 e24
      exact hz9

theorem State.wakeBank_keeps {s0 : State} {ps : Nat} {s : State} (hp : Covers ps 0x20000000000100000) (hs : On inS ps s0 s) :
    On inS ps s0 (State.wakeBank s) := by
  delta State.wakeBank
  refine On.ite ?_ ?_
  · exact hs
  · split
    · rename_i x1 x2 e3
      exact State.bump_keeps (hp.sub rfl) (hp.sub rfl) (State.setReg_keeps (hp.sub rfl) hs)
    · rename_i x4 e5
      exact hs

theorem State.wakeForSpill_keeps {s0 : State} {ps : Nat} {s : State} (hp : Covers ps 0x2000000000000000000000000000000000400) (hs : On inS ps s0 s) :
    On inS ps s0 (State.wakeForSpill s) := by
  delta State.wakeForSpill
  refine On.ite ?_ ?_
  · exact State.wakeStacks_keeps (hp.sub rfl) hs
  · exact hs

theorem State.take_keeps {s0 : State} {ps : Nat} {s : State} {cells : Nat} (hp : Covers ps 0x2000000000000000000020000000000100480) (hs : On inS ps s0 s) :
    On inS ps s0 (State.take s cells) := by
  delta State.take
  refine State.wakeForSpill_keeps (hp.sub rfl) ?_
  refine State.wakeBank_keeps (hp.sub rfl) ?_
  refine On.mk (s := s) ?_ .k .k .k .k .k .k .k (.c (hp.sub rfl)) .k .k .k .k .k .k .k .k .k
  exact hs

theorem State.takeOrdinal_keeps {s0 : State} {ps : Nat} {s : State} {q : Queue} (hp : Covers ps 0x200) (hs : On inS ps s0 s) :
    On (inSnd inS) ps s0 (State.takeOrdinal s q) := by
  delta State.takeOrdinal
  extract_lets +onlyGivenNames z1
  clear_value z1
  refine On.ite ?_ ?_
  · extract_lets +onlyGivenNames z2 z3
    clear_value z2 z3
    exact On.pair (State.setPairCtx_keeps (hp.sub rfl) hs)
  · exact On.pair hs

theorem State.enterQueue_keeps {s0 : State} {ps : Nat} {s : State} {i : Nat} {w : Waiting} {colour : Nat} {gate : Option Nat} (hp : Covers ps 0x200000000000000000002000000000000000000020000000000324780) (hs : On inS ps s0 s) :
    On inS ps s0 (State.enterQueue s i w colour gate) := by
  delta State.enterQueue
  split
  · rename_i x1 e2
    exact hs
  · rename_i x3 x4 e5
    extract_lets +onlyGivenNames z6
    clear_value (ez6 : z6 = _)
    refine On.letS (ps := ps) (s0 := s0) ez6 ?_ fun hz6 => ?_
    · exact State.watchSample_keeps (hp.sub rfl) hs
    split
    · rename_i x7 x8 x9 e10
      refine On.got (g := (inSnd inS)) (t := x9) (ps := ps) (s0 := s0) e10 rfl ?_ fun he10 => ?_
      · exact State.takeOrdinal_keeps (hp.sub rfl) hz6
      split
      · rename_i x11 x12 x13 e14
        refine On.got (g := (inSnd inS)) (t := x13) (ps := ps) (s0 := s0) e14 rfl ?_ fun he14 => ?_
        · refine On.ite ?_ ?_
          · split
            · rename_i x15 x16 x17 e18
              refine On.got (g := (inFst inS)) (t := x16) (ps := ps) (s0 := s0) e18 rfl ?_ fun he18 => ?_
              · exact State.sendQueueEnd_keeps (hp.sub rfl) he10
              exact On.pair he18
          · exact On.pair he10
        extract_lets +onlyGivenNames z19
        clear_value z19
        extract_lets +onlyGivenNames z20
        clear_value (ez20 : z20 = _)
        refine On.letS (ps := ps) (s0 := s0) ez20 ?_ fun hz20 => ?_
        · exact State.take_keeps (hp.sub rfl) he14
        split
        · rename_i x21 e22
          exact hz20
        · rename_i x23 x24 e25
          extract_lets +onlyGivenNames z26
          clear_value (ez26 : z26 = _)
          refine On.letS (ps := ps) (s0 := s0) ez26 ?_ fun hz26 => ?_
          · exact State.setQueue_keeps (hp.sub rfl) hz20
          extract_lets +onlyGivenNames z27
          clear_value (ez27 : z27 = _)
          refine On.letS (ps := ps) (s0 := s0) ez27 ?_ fun hz27 => ?_
          · exact State.countQueue_keeps (hp.sub rfl) hz26
          extract_lets +onlyGivenNames z28
          clear_value (ez28 : z28 = _)
          refine On.letS (ps := ps) (s0 := s0) ez28 ?_ fun hz28 => ?_
          · refine On.ite ?_ ?_
            · exact State.joinRound_keeps (hp.sub rfl) hz27
            · exact hz27
          refine On.ite ?_ ?_
          · exact State.requestCheck_keeps (hp.sub rfl) hz28
          · exact hz28

theorem State.traceVerdict_keeps {s0 : State} {ps : Nat} {s : State} {w : Waiting} {cause : Nat} (hp : Covers ps 0x10000000000000000000000000000000000000000000000000000300000) (hs : On inS ps s0 s) :
    On inS ps s0 (State.traceVerdict s w cause) := by
  delta State.traceVerdict
  extract_lets +onlyGivenNames z1 z2
  clear_value z1 z2
  exact State.trace_keeps (hp.sub rfl) hs

theorem State.sendFabricVerdict_keeps {s0 : State} {ps : Nat} {s : State} {x : OpenFabric} (hp : Covers ps 0x20200) (hs : On inS ps s0 s) :
    On inS ps s0 (State.sendFabricVerdict s x) := by
  delta State.sendFabricVerdict
  extract_lets +onlyGivenNames z1
  clear_value z1
  exact On.fst (State.sendRecord_keeps (hp.sub rfl) hs)

theorem State.noteFabric_keeps {s0 : State} {ps : Nat} {s : State} {p : Packet} {admits : Bool} (hp : Covers ps 0x20200) (hs : On inS ps s0 s) :
    On inS ps s0 (State.noteFabric s p admits) := by
  delta State.noteFabric
  split
  · rename_i x1 x2 x3 x4 e5
    refine On.ite ?_ ?_
    · exact hs
    · extract_lets +onlyGivenNames z6 z7 z8
      clear_value z6 z7 z8
      extract_lets +onlyGivenNames z9
      clear_value (ez9 : z9 = _)
      refine On.fnIn (P := fun f => ∀ v0 v1, On inS ps s0 v0 → On inS ps s0 (f v0 v1)) ez9 ?_ fun hz9 => ?_
      · intro x10 x11 h12
        dsimp -zeta only
        refine On.mk (s := x10) ?_ .k .k .k .k .k .k .k .k .k (.m (hp.sub rfl) rfl) .k .k .k .k .k .k .k
        exact h12
      split
      · rename_i x13 e14
        exact hz9 _ _ hs
      · rename_i x15 x16 e17
        refine On.ite ?_ ?_
        · exact State.sendFabricVerdict_keeps (hp.sub rfl) (hz9 _ _ hs)
        · extract_lets +onlyGivenNames z18
          clear_value z18
          refine On.ite ?_ ?_
          · exact State.sendFabricVerdict_keeps (hp.sub rfl) (hz9 _ _ hs)
          · exact hz9 _ _ hs
  · rename_i x19 e20
    exact hs

theorem State.patchGates_keeps {s0 : State} {ps : Nat} {s : State} {marker : Nat} {bundle : Nat} (hp : Covers ps 0x80) (hs : On inS ps s0 s) :
    On inS ps s0 (State.patchGates s marker bundle) := by
  delta State.patchGates
  extract_lets +onlyGivenNames z1 z2
  clear_value z1 z2
  refine On.mk (s := s) ?_ .k .k .k .k .k .k .k (.c (hp.sub rfl)) .k .k .k .k .k .k .k .k .k
  exact hs

theorem State.noteCopy_keeps {s0 : State} {ps : Nat} {s : State} {stored : Nat} {handle : Nat} {admits : Bool} (hp : Covers ps 0x20280) (hs : On inS ps s0 s) :
    On inS ps s0 (State.noteCopy s stored handle admits) := by
  delta State.noteCopy
  split
  · rename_i x1 e2
    exact hs
  · rename_i x3 x4 e5
    extract_lets +onlyGivenNames z6 z7 z8
    clear_value z6 z7 z8
    refine On.ite ?_ ?_
    · extract_lets +onlyGivenNames z9 z10
      clear_value z9 z10
      split
      · rename_i x11 x12 x13 e14
        refine On.got (g := (inFst inS)) (t := x12) (ps := ps) (s0 := s0) e14 rfl ?_ fun he14 => ?_
        · refine State.sendRecord_keeps (hp.sub rfl) ?_
          refine On.mk (s := s) ?_ .k .k .k .k .k .k .k .k .k (.m (hp.sub rfl) rfl) .k .k .k .k .k .k .k
          exact hs
        exact State.patchGates_keeps (hp.sub rfl) he14
    · refine On.mk (s := s) ?_ .k .k .k .k .k .k .k .k .k (.m (hp.sub rfl) rfl) .k .k .k .k .k .k .k
      exact hs

theorem State.enterReplication_keeps {s0 : State} {ps : Nat} {s : State} {n : Nat} {w : Waiting} (hp : Covers ps 0x2000000000000000000020000000000100480) (hs : On inS ps s0 s) :
    On inS ps s0 (State.enterReplication s n w) := by
  delta State.enterReplication
  extract_lets +onlyGivenNames z1 z2 z3 z4
  clear_value z1 z2 z3 z4
  extract_lets +onlyGivenNames z5
  clear_value (ez5 : z5 = _)
  refine On.letS (ps := ps) (s0 := s0) ez5 ?_ fun hz5 => ?_
  · exact State.setTmSlice_keeps (hp.sub rfl) hs
  refine State.take_keeps (hp.sub rfl) ?_
  refine On.mk (s := z5) ?_ .k .k .k .k .k .k .k (.c (hp.sub rfl)) .k .k .k .k .k .k .k .k .k
  exact hz5

theorem State.causeOf_keeps {s0 : State} {ps : Nat} {s : State} {n : Nat} {w : Waiting} {rule : VerdictRule} (hp : Covers ps 0x80) (hs : On inS ps s0 s) :
    On (inSnd inS) ps s0 (State.causeOf s n w rule) := by
  delta State.causeOf
  extract_lets +onlyGivenNames z1 z2
  clear_value z1 z2
  split
  · rename_i x3 x4
    exact On.pair hs
  · rename_i x5
    refine On.ite ?_ ?_
    · exact On.pair hs
    · refine On.ite ?_ ?_
      · exact On.pair hs
      · split
        · rename_i x6 e7
          exact On.pair hs
        · rename_i x8 x9 e10
          split
          · rename_i x11 e12
            exact On.pair hs
          · rename_i x13 x14 e15
            exact State.checkQueue_keeps (hp.sub rfl) hs
  · rename_i x16 x17
    refine On.ite ?_ ?_
    · exact On.pair hs
    · split
      · rename_i x18 e19
        exact On.pair hs
      · rename_i x20 x21 e22
        exact On.pair hs
  · rename_i x23
    refine On.ite ?_ ?_
    · exact On.pair hs
    · split
      · rename_i x24 e25
        exact On.pair hs
      · rename_i x26 x27 e28
        exact On.pair hs

theorem State.unwait_keeps {s0 : State} {ps : Nat} {s : State} {n : Nat} {w : Waiting} (hp : Covers ps 0x80) (hs : On inS ps s0 s) :
    On inS ps s0 (State.unwait s n w) := by
  delta State.unwait
  extract_lets +onlyGivenNames z1
  clear_value z1
  exact State.setTmSlice_keeps (hp.sub rfl) hs

theorem State.judge_keeps {s0 : State} {ps : Nat} {s : State} {n : Nat} {w : Waiting} {rule : VerdictRule} {inBlock : Bool} (hp : Covers ps 0x10300000001000000000003000000000000000000020000000000337780) (hs : On inS ps s0 s) :
    On (inSnd inS) ps s0 (State.judge s n w rule inBlock) := by
  delta State.judge
  split
  · rename_i x1 x2 x3 e4
    refine On.got (g := (inSnd inS)) (t := x3) (ps := ps) (s0 := s0) e4 rfl ?_ fun he4 => ?_
    · exact State.causeOf_keeps (hp.sub rfl) hs
    extract_lets +onlyGivenNames z5
    clear_value (ez5 : z5 = _)
    refine On.letS (ps := ps) (s0 := s0) ez5 ?_ fun hz5 => ?_
    · exact State.traceVerdict_keeps (hp.sub rfl) (State.unwait_keeps (hp.sub rfl) he4)
    extract_lets +onlyGivenNames z6 z7
    clear_value z6 z7
    extract_lets +onlyGivenNames z8
    clear_value (ez8 : z8 = _)
    refine On.letS (ps := ps) (s0 := s0) ez8 ?_ fun hz8 => ?_
    · exact State.countRefusal_keeps (hp.sub rfl) hz5
    extract_lets +onlyGivenNames z9
    clear_value (ez9 : z9 = _)
    refine On.letS (ps := ps) (s0 := s0) ez9 ?_ fun hz9 => ?_
    · refine On.ite ?_ ?_
      · refine On.ite ?_ ?_
        · exact State.enterReplication_keeps (hp.sub rfl) hz5
        · split
          · rename_i x10 x11 e12
            exact State.enterQueue_keeps (hp.sub rfl) hz5
          · rename_i x13 e14
            exact hz5
      · split
        · rename_i x15 x16 x17 e18
          exact State.endCopy_keeps (hp.sub rfl) hz8
        · rename_i x19 e20
          exact hz8
    extract_lets +onlyGivenNames z21
    clear_value (ez21 : z21 = _)
    refine On.letS (ps := ps) (s0 := s0) ez21 ?_ fun hz21 => ?_
    · split
      · rename_i x22 x23 x24 e25
        exact State.noteCopy_keeps (hp.sub rfl) hz9
      · rename_i x26 e27
        refine On.ite ?_ ?_
        · exact State.noteFabric_keeps (hp.sub rfl) hz9
        · exact hz9
    extract_lets +onlyGivenNames z28
    clear_value (ez28 : z28 = _)
    refine On.letS (ps := ps) (s0 := s0) ez28 ?_ fun hz28 => ?_
    · refine On.ite ?_ ?_
      · exact hz21
      · refine On.ite ?_ ?_
        · exact State.finishInject_keeps (hp.sub rfl) hz21
        · exact State.finishInject_keeps (hp.sub rfl) hz21
    exact On.pair hz28

theorem State.setDigest_keeps {s0 : State} {ps : Nat} {s : State} {n : Nat} {d : Digest} (hp : Covers ps 0x200) (hs : On inS ps s0 s) :
    On inS ps s0 (State.setDigest s n d) := by
  delta State.setDigest
  refine On.mk (s := s) ?_ .k .k .k .k .k .k .k .k .k (.m (hp.sub rfl) rfl) .k .k .k .k .k .k .k
  exact hs

theorem State.checkReady_keeps {s0 : State} {ps : Nat} {s : State} (hp : Covers ps 0x20200) (hs : On inS ps s0 s) :
    On inS ps s0 (State.checkReady s) := by
  delta State.checkReady
  refine On.ite ?_ ?_
  · refine State.sendStatus_keeps (hp.sub rfl) ?_
    refine On.mk (s := s) ?_ .k .k .k .k .k .k .k .k .k (.m (hp.sub rfl) rfl) .k .k .k .k .k .k .k
    exact hs
  · exact hs

theorem State.compareDigest_keeps {s0 : State} {ps : Nat} {s : State} {n : Nat} {number : Nat} {own : Nat} {mate : Nat} (hp : Covers ps 0x1010100000000000100000003000000000000000000010000000001f33682) (hs : On inS ps s0 s) :
    On inS ps s0 (State.compareDigest s n number own mate) := by
  delta State.compareDigest
  extract_lets +onlyGivenNames z1
  clear_value (ez1 : z1 = _)
  refine On.letS (ps := ps) (s0 := s0) ez1 ?_ fun hz1 => ?_
  · exact State.bump_keeps (hp.sub rfl) (hp.sub rfl) hs
  refine On.ite ?_ ?_
  · exact State.checkReady_keeps (hp.sub rfl) (State.setDigest_keeps (hp.sub rfl) hz1)
  · exact State.goStale_keeps (hp.sub rfl) hz1

theorem State.closeDigest_keeps {s0 : State} {ps : Nat} {s : State} {n : Nat} (hp : Covers ps 0x1010100000000000100000003000000000000000000010000000001f33682) (hs : On inS ps s0 s) :
    On inS ps s0 (State.closeDigest s n) := by
  delta State.closeDigest
  extract_lets +onlyGivenNames z1 z2
  clear_value z1 z2
  extract_lets +onlyGivenNames z3
  clear_value (ez3 : z3 = _)
  refine On.letS (ps := ps) (s0 := s0) ez3 ?_ fun hz3 => ?_
  · exact State.setDigest_keeps (hp.sub rfl) hs
  refine On.ite ?_ ?_
  · exact On.fst (State.sendRecord_keeps (hp.sub rfl) hz3)
  · split
    · rename_i x4 x5 e6
      exact State.compareDigest_keeps (hp.sub rfl) (State.setDigest_keeps (hp.sub rfl) hz3)
    · rename_i x7 e8
      exact State.setDigest_keeps (hp.sub rfl) hz3

theorem State.digestEntry_keeps {s0 : State} {ps : Nat} {s : State} {n : Nat} {counts : Bool} {decision : List Byte} (hp : Covers ps 0x1010100000000000100000003000000000000000000010000000001f33682) (hs : On inS ps s0 s) :
    On inS ps s0 (State.digestEntry s n counts decision) := by
  delta State.digestEntry
  extract_lets +onlyGivenNames z1 z2
  clear_value z1 z2
  extract_lets +onlyGivenNames z3
  clear_value (ez3 : z3 = _)
  refine On.letS (ps := ps) (s0 := s0) ez3 ?_ fun hz3 => ?_
  · exact State.setDigest_keeps (hp.sub rfl) hs
  refine On.ite ?_ ?_
  · exact State.closeDigest_keeps (hp.sub rfl) hz3
  · exact hz3

theorem State.nextOrdinal_keeps {s0 : State} {ps : Nat} {s : State} {source : Nat} (hp : Covers ps 0x200) (hs : On inS ps s0 s) :
    On (inSnd inS) ps s0 (State.nextOrdinal s source) := by
  delta State.nextOrdinal
  extract_lets +onlyGivenNames z1
  clear_value z1
  refine On.pair ?_
  refine On.mk (s := s) ?_ .k .k .k .k .k .k .k .k .k (.m (hp.sub rfl) rfl) .k .k .k .k .k .k .k
  exact hs

theorem State.noteEntry_keeps {s0 : State} {ps : Nat} {s : State} {source : Nat} {ordinal : Nat} {tag : Nat} (hp : Covers ps 0x200) (hs : On inS ps s0 s) :
    On inS ps s0 (State.noteEntry s source ordinal tag) := by
  delta State.noteEntry
  refine On.ite ?_ ?_
  · exact hs
  · extract_lets +onlyGivenNames z1 z2 z3
    clear_value z1 z2 z3
    refine On.mk (s := s) ?_ .k .k .k .k .k .k .k .k .k (.m (hp.sub rfl) rfl) .k .k .k .k .k .k .k
    exact hs

theorem State.setOpenEntry_keeps {s0 : State} {ps : Nat} {s : State} {source : Nat} {ordinal : Nat} {f : OpenEntry → OpenEntry} (hp : Covers ps 0x200) (hs : On inS ps s0 s) :
    On inS ps s0 (State.setOpenEntry s source ordinal f) := by
  delta State.setOpenEntry
  extract_lets +onlyGivenNames z1 z2
  clear_value z1 z2
  refine On.mk (s := s) ?_ .k .k .k .k .k .k .k .k .k (.m (hp.sub rfl) rfl) .k .k .k .k .k .k .k
  exact hs

theorem State.closeBlock_keeps {s0 : State} {ps : Nat} {s : State} {b : OpenBlock} (hp : Covers ps 0x1010300000001000100000003000000000000000000030000000001f37782) (hs : On inS ps s0 s) :
    On inS ps s0 (State.closeBlock s b) := by
  delta State.closeBlock
  extract_lets +onlyGivenNames z1
  extract_lets +onlyGivenNames z2
  clear_value (ez2 : z2 = _)
  refine On.letS (ps := ps) (s0 := s0) ez2 ?_ fun hz2 => ?_
  · refine On.mk (s := s) ?_ .k .k .k .k .k .k .k .k .k (.m (hp.sub rfl) rfl) .k .k .k .k .k .k .k
    exact hs
  split
  · rename_i x3 x4 x5 e6
    refine On.got (g := (inFst inS)) (t := x4) (ps := ps) (s0 := s0) e6 rfl ?_ fun he6 => ?_
    · refine On.foldl ?_ ?_
      · exact On.pairFst hz2
      · intro x7 x8 h9
        split
        · rename_i x10 x11 x12
          have hp13 : On inS ps s0 x11 := h9
          split
          · rename_i x14 x15 e16
            exact On.pairFst hp13
          · rename_i x17 e18
            split
            · rename_i x19 e20
              exact On.pairFst hp13
            · rename_i x21 x22 x23 e24
              split
              · rename_i x25 x26 x27 e28
                refine On.got (g := (inSnd inS)) (t := x27) (ps := ps) (s0 := s0) e28 rfl ?_ fun he28 => ?_
                · exact State.judge_keeps (hp.sub rfl) hp13
                exact On.pairFst he28
    extract_lets +onlyGivenNames z29
    clear_value z29
    split
    · rename_i x30 x31 x32 e33
      refine On.got (g := (inFst inS)) (t := x31) (ps := ps) (s0 := s0) e33 rfl ?_ fun he33 => ?_
      · exact State.sendRecord_keeps (hp.sub rfl) he6
      extract_lets +onlyGivenNames z34
      clear_value (ez34 : z34 = _)
      refine On.letS (ps := ps) (s0 := s0) ez34 ?_ fun hz34 => ?_
      · exact State.patchGates_keeps (hp.sub rfl) he33
      refine On.foldl ?_ ?_
      · exact hz34
      · intro x35 x36 h37
        split
        · rename_i x38 x39 x40 x41
          exact State.digestEntry_keeps (hp.sub rfl) h37

theorem State.closeBlocks_keeps {s0 : State} {ps : Nat} {u1 : Nat} {u2 : State} (hp : Covers ps 0x1010300000001000100000003000000000000000000030000000001f37782) (hu2 : On inS ps s0 u2) :
    On inS ps s0 (State.closeBlocks u1 u2) := by
  induction u1 generalizing u2 with
  | zero =>
    rw [State.closeBlocks]
    exact hu2
  | succ v ih =>
    rw [State.closeBlocks]
    split
    · rename_i x1 e2
      exact hu2
    · rename_i x3 x4 e5
      exact ih (State.closeBlock_keeps (hp.sub rfl) hu2)

theorem State.decideEntry_keeps {s0 : State} {ps : Nat} {s : State} {source : Option Nat} {ordinal : Nat} {admits : Bool} {colour : Nat} (hp : Covers ps 0x1010300000001000100000003000000000000000000030000000001f37782) (hs : On inS ps s0 s) :
    On inS ps s0 (State.decideEntry s source ordinal admits colour) := by
  delta State.decideEntry
  split
  · rename_i x1
    exact hs
  · rename_i x2 x3
    refine On.ite ?_ ?_
    · exact hs
    · exact State.closeBlocks_keeps (hp.sub rfl) (State.setOpenEntry_keeps (hp.sub rfl) hs)

theorem State.crossToTm_keeps {s0 : State} {ps : Nat} {s : State} {n : Nat} {p : Packet} (hp : Covers ps 0x1010300000001000100000003000000000000000000030000000001f37782) (hs : On inS ps s0 s) :
    On inS ps s0 (State.crossToTm s n p) := by
  delta State.crossToTm
  extract_lets +onlyGivenNames z1
  clear_value (ez1 : z1 = _)
  refine On.letS (ps := ps) (s0 := s0) ez1 ?_ fun hz1 => ?_
  · exact State.offerBreakwater_keeps (hp.sub rfl) hs
  extract_lets +onlyGivenNames z2
  clear_value z2
  split
  · rename_i x3 e4
    exact hz1
  · rename_i x5 x6 e7
    refine On.ite ?_ ?_
    · exact hz1
    · extract_lets +onlyGivenNames z8
      clear_value z8
      exact State.closeBlocks_keeps (hp.sub rfl) (State.setOpenEntry_keeps (hp.sub rfl) hz1)

theorem State.refuseShadow_keeps {s0 : State} {ps : Nat} {s : State} {n : Nat} {w : Waiting} (hp : Covers ps 0x10300000001000000000003000000000000000000020000000000337780) (hs : On inS ps s0 s) :
    On inS ps s0 (State.refuseShadow s n w) := by
  delta State.refuseShadow
  exact On.snd (State.judge_keeps (hp.sub rfl) hs)

theorem State.legMiss_keeps {s0 : State} {ps : Nat} {s : State} {admits : Bool} (hp : Covers ps 0x1010100000000000100000003000000000000000000010000000001f33682) (hs : On inS ps s0 s) :
    On inS ps s0 (State.legMiss s admits) := by
  delta State.legMiss
  extract_lets +onlyGivenNames z1
  clear_value (ez1 : z1 = _)
  refine On.letS (ps := ps) (s0 := s0) ez1 ?_ fun hz1 => ?_
  · exact State.bump_keeps (hp.sub rfl) (hp.sub rfl) hs
  refine On.ite ?_ ?_
  · exact State.goStale_keeps (hp.sub rfl) hz1
  · exact hz1

theorem State.legExtra_keeps {s0 : State} {ps : Nat} {s : State} {f : OwnFrame} (hp : Covers ps 0x10300000001000100000003000000000000000000020000000000337780) (hs : On inS ps s0 s) :
    On inS ps s0 (State.legExtra s f) := by
  delta State.legExtra
  extract_lets +onlyGivenNames z1
  clear_value (ez1 : z1 = _)
  refine On.letS (ps := ps) (s0 := s0) ez1 ?_ fun hz1 => ?_
  · exact State.bump_keeps (hp.sub rfl) (hp.sub rfl) hs
  extract_lets +onlyGivenNames z2
  extract_lets +onlyGivenNames z3
  clear_value (ez3 : z3 = _)
  refine On.letS (ps := ps) (s0 := s0) ez3 ?_ fun hz3 => ?_
  · refine On.mk (s := z1) ?_ .k .k .k .k .k .k .k .k .k (.m (hp.sub rfl) rfl) .k .k .k .k .k .k .k
    exact hz1
  split
  · rename_i x4 x5 x6 e7
    exact State.refuseShadow_keeps (hp.sub rfl) hz3
  · rename_i x8 e9
    refine On.mk (s := z3) ?_ .k .k .k .k .k .k .k .k .k (.m (hp.sub rfl) rfl) .k .k .k .k .k .k .k
    exact hz3

theorem State.matchSource_keeps {s0 : State} {ps : Nat} {u1 : Nat} {u2 : State} {u3 : Nat} (hp : Covers ps 0x1010300000001000100000003000000000000000000030000000001f37782) (hu2 : On inS ps s0 u2) :
    On inS ps s0 (State.matchSource u1 u2 u3) := by
  induction u1 generalizing u2 u3 with
  | zero =>
    rw [State.matchSource]
    exact hu2
  | succ v ih =>
    rw [State.matchSource]
    split
    · rename_i x1 e2
      exact hu2
    · rename_i x3 x4 x5 x6 e7
      extract_lets +onlyGivenNames z8
      extract_lets +onlyGivenNames z9
      clear_value (ez9 : z9 = _)
      refine On.letS (ps := ps) (s0 := s0) ez9 ?_ fun hz9 => ?_
      · refine On.mk (s := u2) ?_ .k .k .k .k .k .k .k .k .k (.m (hp.sub rfl) rfl) .k .k .k .k .k .k .k
        exact hu2
      extract_lets +onlyGivenNames z10
      extract_lets +onlyGivenNames z11
      clear_value (ez11 : z11 = _)
      refine On.letS (ps := ps) (s0 := s0) ez11 ?_ fun hz11 => ?_
      · split
        · rename_i x12
          exact hz9
        · rename_i x13 x14 x15
          refine On.mk (s := z9) ?_ .k .k .k .k .k .k .k .k .k (.m (hp.sub rfl) rfl) .k .k .k .k .k .k .k
          exact hz9
      extract_lets +onlyGivenNames z16
      clear_value (ez16 : z16 = _)
      refine On.letS (ps := ps) (s0 := s0) ez16 ?_ fun hz16 => ?_
      · refine On.foldl ?_ ?_
        · exact hz11
        · intro x17 x18 h19
          exact State.legExtra_keeps (hp.sub rfl) h19
      refine ih ?_
      refine On.foldl ?_ ?_
      · exact hz16
      · intro x20 x21 h22
        exact State.legMiss_keeps (hp.sub rfl) h22

theorem State.applyEntries_keeps {s0 : State} {ps : Nat} {u1 : Nat} {u2 : State} (hp : Covers ps 0x1010300000001000100000003000000000000000000030000000001f37782) (hu2 : On inS ps s0 u2) :
    On inS ps s0 (State.applyEntries u1 u2) := by
  induction u1 generalizing u2 with
  | zero =>
    rw [State.applyEntries]
    exact hu2
  | succ v ih =>
    rw [State.applyEntries]
    split
    · rename_i x1 e2
      exact hu2
    · rename_i x3 x4 x5 e6
      split
      · rename_i x7 e8
        exact hu2
      · rename_i x9 x10 e11
        extract_lets +onlyGivenNames z12
        extract_lets +onlyGivenNames z13
        clear_value (ez13 : z13 = _)
        refine On.letS (ps := ps) (s0 := s0) ez13 ?_ fun hz13 => ?_
        · refine On.mk (s := u2) ?_ .k .k .k .k .k .k .k .k .k (.m (hp.sub rfl) rfl) .k .k .k .k .k .k .k
          exact hu2
        extract_lets +onlyGivenNames z14
        clear_value z14
        refine On.ite ?_ ?_
        · extract_lets +onlyGivenNames z15
          clear_value (ez15 : z15 = _)
          refine On.letS (ps := ps) (s0 := s0) ez15 ?_ fun hz15 => ?_
          · exact State.digestEntry_keeps (hp.sub rfl) hz13
          refine ih ?_
          split
          · rename_i x16 x17 x18 e19
            exact State.refuseShadow_keeps (hp.sub rfl) hz15
          · rename_i x20 e21
            refine On.mk (s := z15) ?_ .k .k .k .k .k .k .k .k .k (.m (hp.sub rfl) rfl) .k .k .k .k .k .k .k
            exact hz15
        · split
          · rename_i x22 e23
            exact hu2
          · rename_i x24 x25 x26 e27
            extract_lets +onlyGivenNames z28 z29
            clear_value z28 z29
            split
            · rename_i x30 x31 x32 e33
              refine On.got (g := (inSnd inS)) (t := x32) (ps := ps) (s0 := s0) e33 rfl ?_ fun he33 => ?_
              · exact State.judge_keeps (hp.sub rfl) (State.unwait_keeps (hp.sub rfl) hz13)
              extract_lets +onlyGivenNames z34
              clear_value (ez34 : z34 = _)
              refine On.letS (ps := ps) (s0 := s0) ez34 ?_ fun hz34 => ?_
              · exact State.digestEntry_keeps (hp.sub rfl) he33
              extract_lets +onlyGivenNames z35
              clear_value (ez35 : z35 = _)
              refine On.letS (ps := ps) (s0 := s0) ez35 ?_ fun hz35 => ?_
              · refine On.ite ?_ ?_
                · exact State.goStale_keeps (hp.sub rfl) hz34
                · exact hz34
              exact ih hz35

theorem State.useVerdict_keeps {s0 : State} {ps : Nat} {s : State} {w : Waiting} (hp : Covers ps 0x200) (hs : On inS ps s0 s) :
    On inS ps s0 (State.useVerdict s w) := by
  delta State.useVerdict
  split
  · rename_i x1 x2 e3
    refine On.ite ?_ ?_
    · refine On.mk (s := s) ?_ .k .k .k .k .k .k .k .k .k (.m (hp.sub rfl) rfl) .k .k .k .k .k .k .k
      exact hs
    · exact hs
  · rename_i x4 e5
    refine On.mk (s := s) ?_ .k .k .k .k .k .k .k .k .k (.m (hp.sub rfl) rfl) .k .k .k .k .k .k .k
    exact hs

theorem State.standbyVerdicts_keeps {s0 : State} {ps : Nat} {s : State} {n : Nat} (hp : Covers ps 0x1010300000001000100000003000000000000000000030000000001f37782) (hs : On inS ps s0 s) :
    On inS ps s0 (State.standbyVerdicts s n) := by
  delta State.standbyVerdicts
  extract_lets +onlyGivenNames z1
  clear_value (ez1 : z1 = _)
  refine On.letS (ps := ps) (s0 := s0) ez1 ?_ fun hz1 => ?_
  · exact State.applyEntries_keeps (hp.sub rfl) hs
  refine On.foldl ?_ ?_
  · exact hz1
  · intro x2 x3 h4
    split
    · rename_i x5 e6
      exact h4
    · rename_i x7 x8 x9 e10
      split
      · rename_i x11 x12 x13 e14
        refine On.got (g := (inSnd inS)) (t := x13) (ps := ps) (s0 := s0) e14 rfl ?_ fun he14 => ?_
        · exact State.judge_keeps (hp.sub rfl) (State.useVerdict_keeps (hp.sub rfl) h4)
        refine On.ite ?_ ?_
        · exact State.goStale_keeps (hp.sub rfl) he14
        · exact he14

end Sys2Proof.Machine
end

