-- ==== Sys2Proof/Laws/KeepsStewardOps.lean ====
section
/-! SUPPORT. Sys2Proof/Laws/KeepsStewardOps.lean: what the operations of Machine/StewardOps.lean keep, whatever they do. -/

namespace Sys2Proof.Machine

theorem State.startThread0_keeps {s0 : State} {ps : Nat} {s : State} {t : Nat} (hp : Covers ps 0x2000) (hs : On inS ps s0 s) :
    On inS ps s0 (State.startThread0 s t) := by
  delta State.startThread0
  exact State.setThread_keeps (hp.sub rfl) hs

theorem State.stopStewards_keeps {s0 : State} {ps : Nat} {s : State} (hp : Covers ps 0x2000) (hs : On inS ps s0 s) :
    On inS ps s0 (State.stopStewards s) := by
  delta State.stopStewards
  refine On.mk (s := s) ?_ .k .k .k .k .k .k .k .k .k .k .k .k .k (.c (hp.sub rfl)) .k .k .k
  exact hs

theorem State.startStewards_keeps {s0 : State} {ps : Nat} {s : State} (hp : Covers ps 0x2000) (hs : On inS ps s0 s) :
    On inS ps s0 (State.startStewards s) := by
  delta State.startStewards
  extract_lets +onlyGivenNames z1
  clear_value (ez1 : z1 = _)
  refine On.letS (ps := ps) (s0 := s0) ez1 ?_ fun hz1 => ?_
  · exact State.startThread0_keeps (hp.sub rfl) (State.startThread0_keeps (hp.sub rfl) hs)
  extract_lets +onlyGivenNames z2
  clear_value z2
  refine On.ite ?_ ?_
  · exact hz1
  · refine On.foldl ?_ ?_
    · exact hz1
    · intro x3 x4 h5
      split
      · rename_i x6 x7 x8
        refine On.ite ?_ ?_
        · exact h5
        · extract_lets +onlyGivenNames z9 z10 z11 z12
          clear_value z9 z10 z11 z12
          exact State.setThread_keeps (hp.sub rfl) h5

theorem State.emptyMailboxes_keeps {s0 : State} {ps : Nat} {s : State} (hp : Covers ps 0x100000000000000000000000000000000000000000000101000) (hs : On inS ps s0 s) :
    On inS ps s0 (State.emptyMailboxes s) := by
  delta State.emptyMailboxes
  extract_lets +onlyGivenNames z1
  clear_value (ez1 : z1 = _)
  refine On.letS (ps := ps) (s0 := s0) ez1 ?_ fun hz1 => ?_
  · refine On.foldl ?_ ?_
    · exact hs
    · intro x2 x3 h4
      split
      · rename_i x5 x6 x7
        exact State.count_keeps (hp.sub rfl) (hp.sub rfl) h4
  refine On.mk (s := z1) ?_ .k .k .k .k .k .k .k .k .k .k .k .k (.c (hp.sub rfl)) .k .k .k .k
  exact hz1

theorem State.warmRestart_keeps {s0 : State} {ps : Nat} {s : State} {cause : Nat} {pin : Bool} (hp : Covers ps 0x100000000000000000000000000000000010001000001123613) (hs : On inS ps s0 s) :
    On inS ps s0 (State.warmRestart s cause pin) := by
  delta State.warmRestart
  extract_lets +onlyGivenNames z1
  extract_lets +onlyGivenNames z2
  refine On.haveIn (g := inS) (ps := ps) (s0 := s0) (x := z2) ?_ fun hz2 => ?_
  · unfold z2
    exact State.emptyMailboxes_keeps (hp.sub rfl) (State.stopStewards_keeps (hp.sub rfl) hs)
  extract_lets +onlyGivenNames z3
  extract_lets +onlyGivenNames z4
  extract_lets +onlyGivenNames z5
  extract_lets +onlyGivenNames z6
  extract_lets +onlyGivenNames z7
  extract_lets +onlyGivenNames z8
  refine On.haveIn (g := inS) (ps := ps) (s0 := s0) (x := z8) ?_ fun hz8 => ?_
  · unfold z8
    refine On.mk (s := z2) ?_ (.c (hp.sub rfl)) (.m (hp.sub rfl) rfl) .k .k (.c (hp.sub rfl)) .k .k .k .k .k (.c (hp.sub rfl)) .k (.c (hp.sub rfl)) .k .k .k .k
    exact hz2
  extract_lets +onlyGivenNames z9
  refine On.haveIn (g := inS) (ps := ps) (s0 := s0) (x := z9) ?_ fun hz9 => ?_
  · unfold z9
    refine On.ite ?_ ?_
    · exact hz8
    · exact State.bump_keeps (hp.sub rfl) (hp.sub rfl) hz8
  extract_lets +onlyGivenNames z10
  refine On.haveIn (g := inS) (ps := ps) (s0 := s0) (x := z10) ?_ fun hz10 => ?_
  · unfold z10
    refine On.ite ?_ ?_
    · exact hz9
    · exact State.setReg_keeps (hp.sub rfl) hz9
  refine On.ite ?_ ?_
  · extract_lets +onlyGivenNames z11
    clear_value (ez11 : z11 = _)
    refine On.letS (ps := ps) (s0 := s0) ez11 ?_ fun hz11 => ?_
    · exact State.breakPair_keeps (hp.sub rfl) hz10
    extract_lets +onlyGivenNames z12
    extract_lets +onlyGivenNames z13
    extract_lets +onlyGivenNames z14
    clear_value (ez14 : z14 = _)
    refine On.letS (ps := ps) (s0 := s0) ez14 ?_ fun hz14 => ?_
    · refine On.mk (s := z11) ?_ .k (.c (hp.sub rfl) (hp.sub rfl)) .k .k .k .k .k .k .k .k .k .k .k .k .k .k .k
      exact hz11
    exact State.refreshIdentity_keeps (hp.sub rfl) (State.bump_keeps (hp.sub rfl) (hp.sub rfl) (State.setReg_keeps (hp.sub rfl) hz14))
  · exact hz10

end Sys2Proof.Machine
end

