-- ==== Sys2Proof/Laws/KeepsFirmwareOps.lean ====
section
/-! SUPPORT. Sys2Proof/Laws/KeepsFirmwareOps.lean: what the operations of Machine/FirmwareOps.lean keep, whatever they do. -/

namespace Sys2Proof.Machine

theorem State.setSlot_keeps {s0 : State} {ps : Nat} {s : State} {k : Nat} {b : Option Bundle} (hp : Covers ps 0x400004) (hs : On inS ps s0 s) :
    On inS ps s0 (State.setSlot s k b) := by
  delta State.setSlot
  refine On.ite ?_ ?_
  · refine On.mk (s := s) ?_ .k .k (.c (hp.sub rfl) .keep) .k .k .k .k .k .k .k .k .k .k .k .k .k .k
    exact hs
  · refine On.mk (s := s) ?_ .k .k (.c (hp.sub rfl) .keep) .k .k .k .k .k .k .k .k .k .k .k .k .k .k
    exact hs

theorem State.writeBoot_keeps {s0 : State} {ps : Nat} {s : State} {f : BootRec → BootRec} (hp : Covers ps 0x400004) (hs : On inS ps s0 s) :
    On inS ps s0 (State.writeBoot s f) := by
  delta State.writeBoot
  split
  · rename_i x1 x2 e3
    refine On.mk (s := s) ?_ .k .k (.c (hp.sub rfl) .keep) .k .k .k .k .k .k .k .k .k .k .k .k .k .k
    exact hs
  · rename_i x4 x5 x6 e7 e8
    refine On.mk (s := s) ?_ .k .k (.c (hp.sub rfl) .keep) .k .k .k .k .k .k .k .k .k .k .k .k .k .k
    exact hs
  · rename_i x9 e10
    refine On.mk (s := s) ?_ .k .k (.c (hp.sub rfl) .keep) .k .k .k .k .k .k .k .k .k .k .k .k .k .k
    exact hs

theorem State.bootFault_keeps {s0 : State} {ps : Nat} {s : State} {b : Nat} (hp : Covers ps 0x1000000000000000000000000000000000000000000000001000000c10000) (hs : On inS ps s0 s) :
    On inS ps s0 (State.bootFault s b) := by
  delta State.bootFault
  exact State.healthFree_keeps (hp.sub rfl) (State.setReg_keeps (hp.sub rfl) hs)

theorem State.noteSlot_keeps {s0 : State} {ps : Nat} {s : State} {k : Nat} {cause : Nat} (hp : Covers ps 0x10000000000000000000000000000000000000000000000000000000000000000) (hs : On inS ps s0 s) :
    On inS ps s0 (State.noteSlot s k cause) := by
  delta State.noteSlot
  extract_lets +onlyGivenNames z1 z2
  clear_value z1 z2
  exact State.setReg_keeps (hp.sub rfl) (State.setReg_keeps (hp.sub rfl) (State.setReg_keeps (hp.sub rfl) hs))

theorem State.verifySlot_keeps {s0 : State} {ps : Nat} {s : State} {k : Nat} (hp : Covers ps 0x10000000000000000000000000000000000000000000000000000000000000000) (hs : On inS ps s0 s) :
    On (inSnd inS) ps s0 (State.verifySlot s k) := by
  delta State.verifySlot
  split
  · rename_i x1 e2
    exact On.pair (State.noteSlot_keeps (hp.sub rfl) hs)
  · rename_i x3 x4 e5
    extract_lets +onlyGivenNames z6
    clear_value z6
    exact On.pair (State.noteSlot_keeps (hp.sub rfl) hs)

theorem State.install_keeps {s0 : State} {ps : Nat} {s : State} {k : Nat} {b : List Byte} (hp : Covers ps 0x10000000000000000000000000000000000000000000000000000000000400004) (hs : On inS ps s0 s) :
    On inS ps s0 (State.install s k b) := by
  delta State.install
  extract_lets +onlyGivenNames z1
  clear_value (ez1 : z1 = _)
  refine On.letS (ps := ps) (s0 := s0) ez1 ?_ fun hz1 => ?_
  · exact State.setSlot_keeps (hp.sub rfl) hs
  extract_lets +onlyGivenNames z2
  clear_value (ez2 : z2 = _)
  refine On.letS (ps := ps) (s0 := s0) ez2 ?_ fun hz2 => ?_
  · exact State.writeBoot_keeps (hp.sub rfl) hz1
  exact State.setReg_keeps (hp.sub rfl) (State.noteSlot_keeps (hp.sub rfl) hz2)

theorem State.installPending_keeps {s0 : State} {ps : Nat} {s : State} (hp : Covers ps 0x10001000000000000000000000000000000000000000000000001000000c10004) (hs : On inS ps s0 s) :
    On inS ps s0 (State.installPending s) := by
  delta State.installPending
  split
  · rename_i x1 e2
    exact hs
  · rename_i x3 x4 x5 e6
    refine On.ite ?_ ?_
    · exact hs
    · split
      · rename_i x7 e8
        exact State.bootFault_keeps (hp.sub rfl) (State.writeBoot_keeps (hp.sub rfl) hs)
      · rename_i x9 x10 e11
        refine On.ite ?_ ?_
        · exact State.install_keeps (hp.sub rfl) hs
        · exact State.bootFault_keeps (hp.sub rfl) (State.writeBoot_keeps (hp.sub rfl) hs)

theorem State.noteTrialFailed_keeps {s0 : State} {ps : Nat} {s : State} {cause : Nat} (hp : Covers ps 0x10001000000000000000000000000000000000000000000000000000000c10004) (hs : On inS ps s0 s) :
    On inS ps s0 (State.noteTrialFailed s cause) := by
  delta State.noteTrialFailed
  extract_lets +onlyGivenNames z1
  clear_value (ez1 : z1 = _)
  refine On.letS (ps := ps) (s0 := s0) ez1 ?_ fun hz1 => ?_
  · exact State.setReg_keeps (hp.sub rfl) (State.incReg_keeps (hp.sub rfl) hs)
  extract_lets +onlyGivenNames z2
  clear_value (ez2 : z2 = _)
  refine On.letS (ps := ps) (s0 := s0) ez2 ?_ fun hz2 => ?_
  · exact State.writeBoot_keeps (hp.sub rfl) (State.healthFree_keeps (hp.sub rfl) hz1)
  refine State.setReg_keeps (hp.sub rfl) ?_
  refine On.mk (s := z2) ?_ .k .k (.c (hp.sub rfl) .keep) .k .k .k .k .k .k .k .k .k .k .k .k .k .k
  exact hz2

theorem State.slotOrder_keeps {s0 : State} {ps : Nat} {s : State} (hp : Covers ps 0x10001000000000000000000000000000000000000000000000000000000c10004) (hs : On inS ps s0 s) :
    On (inSnd inS) ps s0 (State.slotOrder s) := by
  delta State.slotOrder
  split
  · rename_i x1 e2
    exact On.pair hs
  · rename_i x3 x4 x5 e6
    split
    · rename_i x7 x8 e9
      refine On.ite ?_ ?_
      · exact On.pair (State.noteTrialFailed_keeps (hp.sub rfl) hs)
      · exact On.pair (State.writeBoot_keeps (hp.sub rfl) hs)
    · rename_i x10 e11
      exact On.pair hs

theorem State.chooseSlot_keeps {s0 : State} {ps : Nat} {u1 : State} {u2 : List Nat} (hp : Covers ps 0x10001000000000000000000000000000000000000000000000001000000c10000) (hu1 : On inS ps s0 u1) :
    On (inSnd inS) ps s0 (State.chooseSlot u1 u2) := by
  induction u2 generalizing u1 with
  | nil =>
    rw [State.chooseSlot]
    exact On.pair hu1
  | cons w v ih =>
    rw [State.chooseSlot]
    refine On.ite ?_ ?_
    · exact ih (State.bootFault_keeps (hp.sub rfl) hu1)
    · split
      · rename_i x1 x2 x3 e4
        refine On.got (g := (inSnd inS)) (t := x3) (ps := ps) (s0 := s0) e4 rfl ?_ fun he4 => ?_
        · exact State.verifySlot_keeps (hp.sub rfl) hu1
        refine On.ite ?_ ?_
        · exact On.pair he4
        · exact ih (State.bootFault_keeps (hp.sub rfl) he4)

theorem State.loadIntegrator_keeps {s0 : State} {ps : Nat} {s : State} (hp : Covers ps 0x1000000000000000000000000000000000000000000000000000000c12000) (hs : On inS ps s0 s) :
    On inS ps s0 (State.loadIntegrator s) := by
  delta State.loadIntegrator
  extract_lets +onlyGivenNames z1 z2 z3
  clear_value z1 z2 z3
  refine On.ite ?_ ?_
  · refine On.mk (s := s) ?_ .k .k .k .k .k .k .k .k .k .k .k .k .k (.c (hp.sub rfl)) .k .k .k
    exact hs
  · refine On.ite ?_ ?_
    · extract_lets +onlyGivenNames z4 z5
      clear_value z4 z5
      refine On.mk (s := s) ?_ .k .k .k .k .k .k .k .k .k .k .k .k .k (.c (hp.sub rfl)) .k .k .k
      exact hs
    · refine State.healthFree_keeps (hp.sub rfl) ?_
      refine On.mk (s := s) ?_ .k .k .k .k .k .k .k .k .k .k .k .k .k (.c (hp.sub rfl)) .k .k .k
      exact hs

theorem State.setRunning_keeps {s0 : State} {ps : Nat} {s : State} {k : Nat} (hp : Covers ps 0x10001000000000000000000000000000000000000000000000001000000c12004) (hs : On inS ps s0 s) :
    On inS ps s0 (State.setRunning s k) := by
  delta State.setRunning
  extract_lets +onlyGivenNames z1
  extract_lets +onlyGivenNames z2
  clear_value (ez2 : z2 = _)
  refine On.letS (ps := ps) (s0 := s0) ez2 ?_ fun hz2 => ?_
  · refine On.mk (s := s) ?_ .k .k (.c (hp.sub rfl) .keep) .k .k .k .k .k .k .k .k .k .k .k .k .k .k
    exact hs
  extract_lets +onlyGivenNames z3
  clear_value (ez3 : z3 = _)
  refine On.letS (ps := ps) (s0 := s0) ez3 ?_ fun hz3 => ?_
  · exact State.setReg_keeps (hp.sub rfl) (State.setReg_keeps (hp.sub rfl) hz2)
  exact State.loadIntegrator_keeps (hp.sub rfl) (State.setReg_keeps (hp.sub rfl) hz3)

theorem State.trialUnhealthy_keeps {s0 : State} {ps : Nat} {s : State} (hp : Covers ps 0x400004) (hs : On inS ps s0 s) :
    On inS ps s0 (State.trialUnhealthy s) := by
  delta State.trialUnhealthy
  refine On.mk (s := s) ?_ .k .k (.c (hp.sub rfl) .keep) .k .k .k .k .k .k .k .k .k .k .k .k .k .k
  exact hs

end Sys2Proof.Machine
end

