-- ==== Sys2Proof/Laws/KeepsGates.lean ====
section
/-! SUPPORT. Sys2Proof/Laws/KeepsGates.lean: what the operations of Machine/Gates.lean keep, whatever they do. -/

namespace Sys2Proof.Machine

theorem State.setGateList_keeps {s0 : State} {ps : Nat} {s : State} {k : Nat} {g : GateList} (hp : Covers ps 0x4000000000000000000000000000000000000080) (hs : On inS ps s0 s) :
    On inS ps s0 (State.setGateList s k g) := by
  delta State.setGateList
  refine State.setOct_keeps (hp.sub rfl) ?_
  refine State.setReg_keeps (hp.sub rfl) ?_
  refine On.mk (s := s) ?_ .k .k .k .k .k .k .k (.c (hp.sub rfl)) .k .k .k .k .k .k .k .k .k
  exact hs

theorem State.pendList_keeps {s0 : State} {ps : Nat} {s : State} {k : Nat} (hp : Covers ps 0x4000000000000000000000000000000000000080) (hs : On inS ps s0 s) :
    On inS ps s0 (State.pendList s k) := by
  delta State.pendList
  extract_lets +onlyGivenNames z1
  clear_value z1
  refine On.ite ?_ ?_
  · exact hs
  · extract_lets +onlyGivenNames z2
    clear_value z2
    exact State.setReg_keeps (hp.sub rfl) (State.setGateList_keeps (hp.sub rfl) hs)

theorem State.restartWindows_keeps {s0 : State} {ps : Nat} {s : State} (hp : Covers ps 0x4000000000000000000000000000000000000080) (hs : On inS ps s0 s) :
    On inS ps s0 (State.restartWindows s) := by
  delta State.restartWindows
  refine On.foldl ?_ ?_
  · exact hs
  · intro x1 x2 h3
    extract_lets +onlyGivenNames z4
    clear_value z4
    refine On.ite ?_ ?_
    · exact State.pendList_keeps (hp.sub rfl) h3
    · exact h3

end Sys2Proof.Machine
end

