-- ==== Sys2Proof/Laws/KeepsHost.lean ====
section
/-! SUPPORT. Sys2Proof/Laws/KeepsHost.lean: what the operations of Machine/Host.lean keep, whatever they do. -/

namespace Sys2Proof.Machine

theorem State.scanSlot_keeps {s0 : State} {ps : Nat} {s : State} {i : Nat} {bytes : List Byte} (hp : Covers ps 0x10300000001000000000000000000000000000000000000000000337000) (hs : On inS ps s0 s) :
    On (inSnd inS) ps s0 (State.scanSlot s i bytes) := by
  delta State.scanSlot
  split
  · rename_i x1 e2
    exact On.pair hs
  · rename_i x3 x4 e5
    extract_lets +onlyGivenNames z6
    clear_value z6
    refine On.ite ?_ ?_
    · exact On.pair hs
    · refine On.ite ?_ ?_
      · exact On.pair (State.setChan_keeps (hp.sub rfl) hs)
      · refine On.ite ?_ ?_
        · exact On.pair (State.bump_keeps (hp.sub rfl) (hp.sub rfl) (State.setChan_keeps (hp.sub rfl) hs))
        · extract_lets +onlyGivenNames z7 z8
          clear_value z7 z8
          refine On.ite ?_ ?_
          · extract_lets +onlyGivenNames z9 z10
            clear_value z9 z10
            extract_lets +onlyGivenNames z11
            clear_value (ez11 : z11 = _)
            refine On.letS (ps := ps) (s0 := s0) ez11 ?_ fun hz11 => ?_
            · exact State.setChan_keeps (hp.sub rfl) hs
            exact On.pair (State.drainStarted_keeps (hp.sub rfl) (State.bump_keeps (hp.sub rfl) (hp.sub rfl) hz11))
          · exact On.pair (State.setChan_keeps (hp.sub rfl) hs)

theorem State.scanSlots_keeps {s0 : State} {ps : Nat} {s : State} {i : Nat} {u1 : List (List Byte)} (hp : Covers ps 0x10300000001000000000000000000000000000000000000000000337000) (hs : On inS ps s0 s) :
    On inS ps s0 (State.scanSlots s i u1) := by
  induction u1 generalizing s with
  | nil =>
    rw [State.scanSlots]
    exact hs
  | cons w v ih =>
    rw [State.scanSlots]
    split
    · rename_i x1 x2 x3 e4
      refine On.got (g := (inSnd inS)) (t := x3) (ps := ps) (s0 := s0) e4 rfl ?_ fun he4 => ?_
      · exact State.scanSlot_keeps (hp.sub rfl) hs
      refine On.ite ?_ ?_
      · exact ih he4
      · exact he4

theorem State.writeStaged_keeps {s0 : State} {ps : Nat} {u1 : Nat} {u2 : State} {u3 : Nat} (hp : Covers ps 0x21000) (hu2 : On inS ps s0 u2) :
    On inS ps s0 (State.writeStaged u1 u2 u3) := by
  induction u1 generalizing u2 u3 with
  | zero =>
    rw [State.writeStaged]
    exact hu2
  | succ v ih =>
    rw [State.writeStaged]
    split
    · rename_i x1 e2
      exact hu2
    · rename_i x3 x4 e5
      split
      · rename_i x6 e7
        exact hu2
      · rename_i x8 x9 x10 e11
        exact ih (State.settleRing_keeps (hp.sub rfl) (State.writeCompletion_keeps (hp.sub rfl) (State.setChan_keeps (hp.sub rfl) hu2)))

theorem execSubDoorbell_keeps {s0 : State} {ps : Nat} {i : Nat} {slots : List (List Byte)} {s : State} (hp : Covers ps 0x10300000001000000000000000000000000000000000000000000337000) (hs : On inS ps s0 s) :
    On inNext ps s0 (execSubDoorbell i slots s) := by
  delta execSubDoorbell
  refine On.next ?_
  split
  · rename_i x1 e2
    exact hs
  · rename_i x3 x4 e5
    refine On.ite ?_ ?_
    · exact hs
    · exact State.scanSlots_keeps (hp.sub rfl) (State.setChan_keeps (hp.sub rfl) hs)

theorem execScanResume_keeps {s0 : State} {ps : Nat} {i : Nat} {slots : List (List Byte)} {s : State} (hp : Covers ps 0x10300000001000000000000000000000000000000000000000000337000) (hs : On inS ps s0 s) :
    On inNext ps s0 (execScanResume i slots s) := by
  delta execScanResume
  exact On.next (State.scanSlots_keeps (hp.sub rfl) hs)

theorem execReceiveBuffer_keeps {s0 : State} {ps : Nat} {i : Nat} {slot : List Byte} {s : State} (hp : Covers ps 0x10300000001000000000000000000000000000000000000000000337000) (hs : On inS ps s0 s) :
    On inNext ps s0 (execReceiveBuffer i slot s) := by
  delta execReceiveBuffer
  refine On.next ?_
  refine On.ite ?_ ?_
  · exact On.snd (State.scanSlot_keeps (hp.sub rfl) hs)
  · exact hs

theorem State.enqueueInjection_keeps {s0 : State} {ps : Nat} {s : State} {n : Nat} {x : Injection} (hp : Covers ps 0x20) (hs : On inS ps s0 s) :
    On inS ps s0 (State.enqueueInjection s n x) := by
  delta State.enqueueInjection
  extract_lets +onlyGivenNames z1
  clear_value z1
  exact State.setSlice_keeps (hp.sub rfl) hs

theorem execInject_keeps {s0 : State} {ps : Nat} {n : Nat} {ok : Bool} {buffer : List Byte} {s : State} (hp : Covers ps 0x10300000001000000000000000000000000000000000000000000337220) (hs : On inS ps s0 s) :
    On inNext ps s0 (execInject n ok buffer s) := by
  delta execInject
  refine On.next ?_
  split
  · rename_i x1 e2
    exact hs
  · rename_i x3 x4 e5
    split
    · rename_i x6 e7
      exact hs
    · rename_i x8 x9 e10
      split
      · rename_i x11 e12
        exact hs
      · rename_i x13 x14 e15
        extract_lets +onlyGivenNames z16 z17
        clear_value z16 z17
        extract_lets +onlyGivenNames z18
        clear_value (ez18 : z18 = _)
        refine On.letS (ps := ps) (s0 := s0) ez18 ?_ fun hz18 => ?_
        · exact State.setChan_keeps (hp.sub rfl) hs
        extract_lets +onlyGivenNames z19
        clear_value z19
        extract_lets +onlyGivenNames z20
        clear_value (ez20 : z20 = _)
        refine On.letS (ps := ps) (s0 := s0) ez20 ?_ fun hz20 => ?_
        · refine On.mk (s := z18) ?_ .k .k .k .k .k .k .k .k .k .k .k .k (.c (hp.sub rfl)) .k .k .k .k
          exact hz18
        extract_lets +onlyGivenNames z21
        clear_value z21
        refine On.ite ?_ ?_
        · exact State.finish_keeps (hp.sub rfl) hz20
        · refine On.ite ?_ ?_
          · exact hs
          · refine On.ite ?_ ?_
            · refine State.finish_keeps (hp.sub rfl) ?_
              refine State.bump_keeps (hp.sub rfl) (hp.sub rfl) ?_
              refine On.mk (s := z20) ?_ .k .k .k .k .k .k .k .k .k .k .k .k (.c (hp.sub rfl)) .k .k .k .k
              exact hz20
            · extract_lets +onlyGivenNames z22
              clear_value z22
              extract_lets +onlyGivenNames z23
              clear_value (ez23 : z23 = _)
              refine On.letS (ps := ps) (s0 := s0) ez23 ?_ fun hz23 => ?_
              · refine On.ite ?_ ?_
                · split
                  · rename_i x24 x25 x26 e27
                    refine On.got (g := (inFst inS)) (t := x25) (ps := ps) (s0 := s0) e27 rfl ?_ fun he27 => ?_
                    · exact State.sendRecord_keeps (hp.sub rfl) hz20
                    exact State.setChan_keeps (hp.sub rfl) he27
                · exact hz20
              exact State.enqueueInjection_keeps (hp.sub rfl) hz23

theorem execStagedRetry_keeps {s0 : State} {ps : Nat} {i : Nat} {free : Nat} {s : State} (hp : Covers ps 0x21000) (hs : On inS ps s0 s) :
    On inNext ps s0 (execStagedRetry i free s) := by
  delta execStagedRetry
  refine On.next ?_
  refine On.ite ?_ ?_
  · exact hs
  · exact State.writeStaged_keeps (hp.sub rfl) hs

theorem execCoalesceExpiry_keeps {s0 : State} {ps : Nat} {i : Nat} {s : State} (hp : Covers ps 0x61000) (hs : On inS ps s0 s) :
    On inNext ps s0 (execCoalesceExpiry i s) := by
  delta execCoalesceExpiry
  refine On.next ?_
  split
  · rename_i x1 e2
    exact hs
  · rename_i x3 x4 e5
    refine On.ite ?_ ?_
    · exact hs
    · exact State.signalChannel_keeps (hp.sub rfl) (State.reach_keeps (hp.sub rfl) hs)

theorem ringEnableEffect_keeps {s0 : State} {ps : Nat} {c : List Byte} {s : State} (hp : Covers ps 0x10300000001000000000000000000000000000000000000000000337000) (hs : On inS ps s0 s) :
    On (inSnd inS) ps s0 (ringEnableEffect c s) := by
  delta ringEnableEffect
  extract_lets +onlyGivenNames z1 z2
  clear_value z1 z2
  refine On.ite ?_ ?_
  · exact On.pair hs
  · split
    · rename_i x3 e4
      extract_lets +onlyGivenNames z5
      clear_value z5
      split
      · rename_i x6 e7
        exact On.pair hs
      · rename_i x8 x9 e10
        split
        · rename_i x11 x12 e13
          exact On.pair hs
        · rename_i x14 x15 e16
          exact On.pair hs
        · rename_i x17 x18 e19
          refine On.ite ?_ ?_
          · exact On.pair hs
          · exact On.pair (State.setChan_keeps (hp.sub rfl) hs)
        · rename_i x20 x21 x22 e23 e24
          exact On.pair (State.drainStarted_keeps (hp.sub rfl) (State.setChan_keeps (hp.sub rfl) hs))
        · rename_i x25 x26 x27 e28 e29 e30 e31
          exact On.pair hs
    · rename_i x32 e33
      exact On.pair hs

theorem execRingEnable_keeps {s0 : State} {ps : Nat} {o : Origin} {h : Nat} {s : State} (hp : Covers ps 0x10300000001000000000000000000000000000000000000000000337209) (hs : On inS ps s0 s) :
    On inNext ps s0 (execRingEnable o h s) := by
  delta execRingEnable
  refine On.next ?_
  refine State.runWrite_keeps (hp.sub rfl) ?_ ?_
  · exact hs
  · intro x1 x2 h3
    exact ringEnableEffect_keeps (hp.sub rfl) h3

theorem execRingDisable_keeps {s0 : State} {ps : Nat} {o : Origin} {h : Nat} {s : State} (hp : Covers ps 0x10300000001000000000000000000000000000000000000000000337209) (hs : On inS ps s0 s) :
    On inNext ps s0 (execRingDisable o h s) := by
  delta execRingDisable
  refine On.next ?_
  refine State.runWrite_keeps (hp.sub rfl) ?_ ?_
  · exact hs
  · intro x1 x2 h3
    exact ringEnableEffect_keeps (hp.sub rfl) h3

theorem createChannel_keeps {s0 : State} {ps : Nat} {v : List Byte} {s : State} (hp : Covers ps 0x1000) (hs : On inS ps s0 s) :
    On (inOk (inSnd inS)) ps s0 (createChannel v s) := by
  delta createChannel
  extract_lets +onlyGivenNames z1
  clear_value z1
  refine On.ite ?_ ?_
  · exact On.error
  · split
    · rename_i x2 e3
      exact On.error
    · rename_i x4 x5 e6
      extract_lets +onlyGivenNames z7
      clear_value z7
      exact On.ok (On.pair (State.setChan_keeps (hp.sub rfl) hs))

theorem execChannelCreate_keeps {s0 : State} {ps : Nat} {o : Origin} {v : List Byte} {s : State} (hp : Covers ps 0x21201) (hs : On inS ps s0 s) :
    On inNext ps s0 (execChannelCreate o v s) := by
  delta execChannelCreate
  refine On.next ?_
  refine State.endCreate_keeps (hp.sub rfl) ?_
  refine State.runCreate_keeps (hp.sub rfl) ?_ ?_
  · exact hs
  · intro x1 x2 h3
    exact createChannel_keeps (hp.sub rfl) h3

theorem channelSetEffect_keeps {s0 : State} {ps : Nat} {c : List Byte} {s : State} (hp : Covers ps 0x1000) (hs : On inS ps s0 s) :
    On (inSnd inS) ps s0 (channelSetEffect c s) := by
  delta channelSetEffect
  refine On.ite ?_ ?_
  · exact On.pair hs
  · split
    · rename_i x1 e2
      extract_lets +onlyGivenNames z3
      clear_value z3
      refine On.ite ?_ ?_
      · exact On.pair hs
      · split
        · rename_i x4 x5 e6
          exact On.pair (State.setChan_keeps (hp.sub rfl) hs)
        · rename_i x7 e8
          exact On.pair hs
    · rename_i x9 e10
      exact On.pair hs

theorem execChannelSet_keeps {s0 : State} {ps : Nat} {o : Origin} {v : List Byte} {s : State} (hp : Covers ps 0x21209) (hs : On inS ps s0 s) :
    On inNext ps s0 (execChannelSet o v s) := by
  delta execChannelSet
  refine On.next ?_
  refine State.runWrite_keeps (hp.sub rfl) ?_ ?_
  · exact hs
  · intro x1 x2 h3
    exact channelSetEffect_keeps (hp.sub rfl) h3

theorem channelAnswer_keeps {s0 : State} {ps : Nat} {c : List Byte} {s : State} (_hp : Covers ps 0x0) (hs : On inS ps s0 s) :
    On (inSnd (inSnd inS)) ps s0 (channelAnswer c s) := by
  delta channelAnswer
  refine On.ite ?_ ?_
  · exact On.pair (On.pair hs)
  · split
    · rename_i x1 x2 x3 e4 e5
      extract_lets +onlyGivenNames z6 z7
      clear_value z6 z7
      exact On.pair (On.pair hs)
    · rename_i x8 x9 e10
      exact On.pair (On.pair hs)

theorem execChannelQuery_keeps {s0 : State} {ps : Nat} {o : Origin} {v : List Byte} {s : State} (hp : Covers ps 0x20209) (hs : On inS ps s0 s) :
    On inNext ps s0 (execChannelQuery o v s) := by
  delta execChannelQuery
  refine On.next ?_
  refine State.runQuery_keeps (hp.sub rfl) ?_ ?_
  · exact hs
  · intro x1 x2 h3
    exact channelAnswer_keeps (hp.sub rfl) h3

theorem State.signalAgain_keeps {s0 : State} {ps : Nat} {s : State} {k : Nat} (hp : Covers ps 0x23000) (hs : On inS ps s0 s) :
    On inS ps s0 (State.signalAgain s k) := by
  delta State.signalAgain
  extract_lets +onlyGivenNames z1
  clear_value z1
  refine On.ite ?_ ?_
  · exact State.signalSet_keeps (hp.sub rfl) hs
  · exact hs

theorem execDbStatus_keeps {s0 : State} {ps : Nat} {k : Nat} {v : Nat} {s : State} (hp : Covers ps 0x23000) (hs : On inS ps s0 s) :
    On inNext ps s0 (execDbStatus k v s) := by
  delta execDbStatus
  refine On.next ?_
  refine On.ite ?_ ?_
  · exact hs
  · extract_lets +onlyGivenNames z1
    clear_value z1
    exact State.signalAgain_keeps (hp.sub rfl) (State.setDoorbell_keeps (hp.sub rfl) hs)

theorem execDbMask_keeps {s0 : State} {ps : Nat} {k : Nat} {v : Nat} {s : State} (hp : Covers ps 0x23000) (hs : On inS ps s0 s) :
    On inNext ps s0 (execDbMask k v s) := by
  delta execDbMask
  refine On.next ?_
  refine On.ite ?_ ?_
  · exact hs
  · exact State.signalAgain_keeps (hp.sub rfl) (State.setDoorbell_keeps (hp.sub rfl) hs)

theorem execDbRing_keeps {s0 : State} {ps : Nat} {k : Nat} {v : Nat} {s : State} (hp : Covers ps 0x23000) (hs : On inS ps s0 s) :
    On inNext ps s0 (execDbRing k v s) := by
  delta execDbRing
  refine On.next ?_
  refine On.ite ?_ ?_
  · exact hs
  · exact State.ringSet_keeps (hp.sub rfl) hs

theorem State.noteRead_keeps {s0 : State} {ps : Nat} {s : State} {m : Nat} {v : Nat} (hp : Covers ps 0x1000) (hs : On inS ps s0 s) :
    On inS ps s0 (State.noteRead s m v) := by
  delta State.noteRead
  refine On.mk (s := s) ?_ .k .k .k .k .k .k .k .k .k .k .k .k (.c (hp.sub rfl)) .k .k .k .k
  exact hs

theorem execLockAcquire_keeps {s0 : State} {ps : Nat} {m : Nat} {l : Nat} {s : State} (hp : Covers ps 0x1000) (hs : On inS ps s0 s) :
    On inNext ps s0 (execLockAcquire m l s) := by
  delta execLockAcquire
  refine On.next ?_
  refine On.ite ?_ ?_
  · exact hs
  · split
    · rename_i x1 e2
      refine State.noteRead_keeps (hp.sub rfl) ?_
      refine On.mk (s := s) ?_ .k .k .k .k .k .k .k .k .k .k .k .k (.c (hp.sub rfl)) .k .k .k .k
      exact hs
    · rename_i x3 x4 e5
      exact State.noteRead_keeps (hp.sub rfl) hs

theorem execLockRelease_keeps {s0 : State} {ps : Nat} {m : Nat} {l : Nat} {s : State} (hp : Covers ps 0x200000000000000000000000000000000000000000000101000) (hs : On inS ps s0 s) :
    On inNext ps s0 (execLockRelease m l s) := by
  delta execLockRelease
  refine On.next ?_
  refine On.ite ?_ ?_
  · exact hs
  · refine On.ite ?_ ?_
    · refine On.mk (s := s) ?_ .k .k .k .k .k .k .k .k .k .k .k .k (.c (hp.sub rfl)) .k .k .k .k
      exact hs
    · exact State.bump_keeps (hp.sub rfl) (hp.sub rfl) hs

theorem lockForceEffect_keeps {s0 : State} {ps : Nat} {l : Nat} {c : List Byte} {s : State} (hp : Covers ps 0x200000000000000000000000000000000000000000000101000) (hs : On inS ps s0 s) :
    On (inSnd inS) ps s0 (lockForceEffect l c s) := by
  delta lockForceEffect
  refine On.ite ?_ ?_
  · exact On.pair hs
  · refine On.pair ?_
    refine State.bump_keeps (hp.sub rfl) (hp.sub rfl) ?_
    refine On.mk (s := s) ?_ .k .k .k .k .k .k .k .k .k .k .k .k (.c (hp.sub rfl)) .k .k .k .k
    exact hs

theorem execLockForce_keeps {s0 : State} {ps : Nat} {o : Origin} {l : Nat} {v : List Byte} {s : State} (hp : Covers ps 0x200000000000000000000000000000000000000000000121209) (hs : On inS ps s0 s) :
    On inNext ps s0 (execLockForce o l v s) := by
  delta execLockForce
  refine On.next ?_
  refine State.runWrite_keeps (hp.sub rfl) ?_ ?_
  · exact hs
  · intro x1 x2 h3
    exact lockForceEffect_keeps (hp.sub rfl) h3

end Sys2Proof.Machine
end

