-- ==== Sys2Proof/Laws/KeepsPowerOps.lean ====
section
/-! SUPPORT. Sys2Proof/Laws/KeepsPowerOps.lean: what the operations of Machine/PowerOps.lean keep, whatever they do. -/

namespace Sys2Proof.Machine

theorem State.setDomain_keeps {s0 : State} {ps : Nat} {s : State} {n : Nat} {st : Nat} (hp : Covers ps 0x20000000000100000) (hs : On inS ps s0 s) :
    On inS ps s0 (State.setDomain s n st) := by
  delta State.setDomain
  extract_lets +onlyGivenNames z1
  clear_value (ez1 : z1 = _)
  refine On.letS (ps := ps) (s0 := s0) ez1 ?_ fun hz1 => ?_
  · refine On.ite ?_ ?_
    · exact State.bump_keeps (hp.sub rfl) (hp.sub rfl) hs
    · exact hs
  exact State.setReg_keeps (hp.sub rfl) hz1

theorem State.setMs_keeps {s0 : State} {ps : Nat} {s : State} {f : ModeState → ModeState} (hp : Covers ps 0x2)
    (hm : (∀ x, (f x).mode = x.mode) ∨ Covers ps 0x1000000) (hs : On inS ps s0 s) : On inS ps s0 (s.setMs f) := by
  delta State.setMs
  refine On.mk (s := s) hs .k (hm.elim (fun h => .m hp (h _)) (fun h => .c hp h)) .k .k .k .k .k .k .k .k .k .k .k .k .k .k .k

theorem State.abortRequest_keeps {s0 : State} {ps : Nat} {s : State} (hp : Covers ps 0x2) (hs : On inS ps s0 s) :
    On inS ps s0 (State.abortRequest s) := by
  delta State.abortRequest
  extract_lets +onlyGivenNames z1
  refine On.ite ?_ ?_
  · refine State.setMs_keeps (hp.sub rfl) ?_ ?_
    · exact .inl fun _ => rfl
    · exact hs
  · refine State.setMs_keeps (hp.sub rfl) ?_ ?_
    · exact .inl fun _ => rfl
    · exact hs

theorem State.discardBatches_keeps {s0 : State} {ps : Nat} {s : State} (hp : Covers ps 0x10000000000000000000000000100001) (hs : On inS ps s0 s) :
    On inS ps s0 (State.discardBatches s) := by
  delta State.discardBatches
  extract_lets +onlyGivenNames z1 z2 z3
  clear_value z1 z2 z3
  refine State.count_keeps (hp.sub rfl) (hp.sub rfl) ?_
  refine On.mk (s := s) ?_ (.c (hp.sub rfl)) .k .k .k .k .k .k .k .k .k .k .k .k .k .k .k .k
  exact hs

theorem State.allPortsDown_keeps {s0 : State} {ps : Nat} {s : State} (hp : Covers ps 0x200000000000000000003000000000000000100000000000000304c90) (hs : On inS ps s0 s) :
    On inS ps s0 (State.allPortsDown s) := by
  delta State.allPortsDown
  refine On.foldl ?_ ?_
  · exact hs
  · intro x1 x2 h3
    exact State.portDown_keeps (hp.sub rfl) h3

theorem State.losePower_keeps {s0 : State} {ps : Nat} {s : State} (hp : Covers ps 0xffffffffffffffffffffffffffffffffffffffffffffffffffffffffffffffff02b8fff9) (hs : On inS ps s0 s) :
    On inS ps s0 (State.losePower s) := by
  delta State.losePower
  extract_lets +onlyGivenNames z1
  clear_value (ez1 : z1 = _)
  refine On.letS (ps := ps) (s0 := s0) ez1 ?_ fun hz1 => ?_
  · exact State.discardBatches_keeps (hp.sub rfl) hs
  extract_lets +onlyGivenNames z2
  refine On.mkStores (s := z1) ?_ (hp.sub rfl) rising_filter rising_filter (fun _ => rfl) (.c (hp.sub rfl)) (.c (hp.sub rfl)) .k .k (.c (hp.sub rfl)) (.c (hp.sub rfl)) (.c (hp.sub rfl)) (.c (hp.sub rfl)) (.c (hp.sub rfl)) (.c (hp.sub rfl)) (.c (hp.sub rfl) (hp.sub rfl)) (.c (hp.sub rfl)) (.c (hp.sub rfl)) (.c (hp.sub rfl)) (.c (hp.sub rfl)) (.c (hp.sub rfl)) (.c (hp.sub rfl)) .k
  exact hz1

theorem State.domainsOff_keeps {s0 : State} {ps : Nat} {s : State} (hp : Covers ps 0xffffffffffffffffffffffffffffffffffffffffffffffffffffffffffffffff00000000) (hs : On inS ps s0 s) :
    On inS ps s0 (State.domainsOff s) := by
  delta State.domainsOff
  refine On.mkStores (s := s) ?_ (hp.sub rfl) rising_filter id id .k .k .k .k .k .k .k .k .k .k .k .k .k .k .k .k .k .k
  exact hs

theorem State.sinkDormant_keeps {s0 : State} {ps : Nat} {s : State} (hp : Covers ps 0xffffffffffffffffffffffffffffffffffffffffffffffffffffffffffffffff03b8fffb) (hs : On inS ps s0 s) :
    On inS ps s0 (State.sinkDormant s) := by
  delta State.sinkDormant
  extract_lets +onlyGivenNames z1
  clear_value (ez1 : z1 = _)
  refine On.letS (ps := ps) (s0 := s0) ez1 ?_ fun hz1 => ?_
  · exact State.setReg_keeps (hp.sub rfl) (State.domainsOff_keeps (hp.sub rfl) (State.losePower_keeps (hp.sub rfl) hs))
  extract_lets +onlyGivenNames z2
  clear_value (ez2 : z2 = _)
  refine On.letS (ps := ps) (s0 := s0) ez2 ?_ fun hz2 => ?_
  · refine State.setMs_keeps (hp.sub rfl) ?_ ?_
    · exact .inr (hp.sub rfl)
    · exact hz1
  extract_lets +onlyGivenNames z3 z4
  clear_value z3 z4
  extract_lets +onlyGivenNames z5
  extract_lets +onlyGivenNames z6
  clear_value (ez6 : z6 = _)
  refine On.letS (ps := ps) (s0 := s0) ez6 ?_ fun hz6 => ?_
  · refine On.mk (s := z2) ?_ .k (.m (hp.sub rfl) rfl) .k .k .k .k .k .k .k .k .k .k .k .k .k .k .k
    exact hz2
  exact State.setReg_keeps (hp.sub rfl) (State.bump_keeps (hp.sub rfl) (hp.sub rfl) hz6)

theorem State.enterDormant_keeps {s0 : State} {ps : Nat} {s : State} (hp : Covers ps 0xffffffffffffffffffffffffffffffffffffffffffffffffffffffffffffffff03b8fffb) (hs : On inS ps s0 s) :
    On inS ps s0 (State.enterDormant s) := by
  delta State.enterDormant
  exact State.bump_keeps (hp.sub rfl) (hp.sub rfl) (State.setReg_keeps (hp.sub rfl) (State.sinkDormant_keeps (hp.sub rfl) hs))

theorem State.startLanes_keeps {s0 : State} {ps : Nat} {s : State} (hp : Covers ps 0x4000000000000000000200) (hs : On inS ps s0 s) :
    On inS ps s0 (State.startLanes s) := by
  delta State.startLanes
  refine On.foldl ?_ ?_
  · exact hs
  · intro x1 x2 h3
    refine On.ite ?_ ?_
    · exact State.setReg_keeps (hp.sub rfl) (State.setLane_keeps (hp.sub rfl) h3)
    · exact h3

theorem State.powerPair_keeps {s0 : State} {ps : Nat} {s : State} (hp : Covers ps 0x4000020000000000100200) (hs : On inS ps s0 s) :
    On inS ps s0 (State.powerPair s) := by
  delta State.powerPair
  refine On.ite ?_ ?_
  · exact State.startLanes_keeps (hp.sub rfl) (State.setDomain_keeps (hp.sub rfl) (State.setDomain_keeps (hp.sub rfl) hs))
  · refine On.foldl ?_ ?_
    · exact State.setDomain_keeps (hp.sub rfl) (State.setDomain_keeps (hp.sub rfl) hs)
    · intro x1 x2 h3
      exact State.setReg_keeps (hp.sub rfl) (State.setLane_keeps (hp.sub rfl) h3)

theorem State.onEnter_keeps {s0 : State} {ps : Nat} {s : State} {prev : Mode} {m : Mode} (hp : Covers ps 0x1000200000000000000004003000010000000005700000000000002f3cf97) (hs : On inS ps s0 s) :
    On inS ps s0 (State.onEnter s prev m) := by
  delta State.onEnter
  split
  · rename_i x1
    extract_lets +onlyGivenNames z2
    clear_value (ez2 : z2 = _)
    refine On.letS (ps := ps) (s0 := s0) ez2 ?_ fun hz2 => ?_
    · refine On.ite ?_ ?_
      · exact State.allPortsDown_keeps (hp.sub rfl) hs
      · exact hs
    extract_lets +onlyGivenNames z3
    clear_value (ez3 : z3 = _)
    refine On.letS (ps := ps) (s0 := s0) ez3 ?_ fun hz3 => ?_
    · exact State.abortTests_keeps (hp.sub rfl) hz2
    extract_lets +onlyGivenNames z4
    clear_value (ez4 : z4 = _)
    refine On.letS (ps := ps) (s0 := s0) ez4 ?_ fun hz4 => ?_
    · refine On.ite ?_ ?_
      · refine State.portsReset_keeps (hp.sub rfl) ?_
        refine State.startLinks_keeps (hp.sub rfl) ?_
        refine On.ite ?_ ?_
        · exact State.startLanes_keeps (hp.sub rfl) hz3
        · exact hz3
      · exact hz2
    extract_lets +onlyGivenNames z5 z6
    clear_value z5 z6
    extract_lets +onlyGivenNames z7
    clear_value (ez7 : z7 = _)
    refine On.letS (ps := ps) (s0 := s0) ez7 ?_ fun hz7 => ?_
    · exact State.breakPair_keeps (hp.sub rfl) hz4
    refine On.mk (s := z7) ?_ .k .k (.c (hp.sub rfl) .keep) .k .k .k .k .k .k (.c (hp.sub rfl) (hp.sub rfl)) .k .k .k .k .k .k .k
    exact hz7
  · rename_i x8
    extract_lets +onlyGivenNames z9
    clear_value z9
    refine On.foldl ?_ ?_
    · exact State.restartWindows_keeps (hp.sub rfl) hs
    · intro x10 x11 h12
      exact State.setTmSlice_keeps (hp.sub rfl) h12
  · rename_i x13
    extract_lets +onlyGivenNames z14
    clear_value z14
    refine On.foldl ?_ ?_
    · exact State.restartWindows_keeps (hp.sub rfl) hs
    · intro x15 x16 h17
      exact State.setTmSlice_keeps (hp.sub rfl) h17
  · rename_i x18
    extract_lets +onlyGivenNames z19
    clear_value (ez19 : z19 = _)
    refine On.letS (ps := ps) (s0 := s0) ez19 ?_ fun hz19 => ?_
    · exact State.setLanes_keeps (hp.sub rfl) (State.discardBatches_keeps (hp.sub rfl) (State.allPortsDown_keeps (hp.sub rfl) hs))
    extract_lets +onlyGivenNames z20
    clear_value (ez20 : z20 = _)
    refine On.letS (ps := ps) (s0 := s0) ez20 ?_ fun hz20 => ?_
    · exact State.stopLinks_keeps (hp.sub rfl) hz19
    extract_lets +onlyGivenNames z21
    clear_value (ez21 : z21 = _)
    refine On.letS (ps := ps) (s0 := s0) ez21 ?_ fun hz21 => ?_
    · refine On.foldl ?_ ?_
      · exact hz20
      · intro x22 x23 h24
        exact State.setReg_keeps (hp.sub rfl) h24
    refine On.foldl ?_ ?_
    · exact hz21
    · intro x25 x26 h27
      refine On.ite ?_ ?_
      · exact h27
      · exact State.setReg_keeps (hp.sub rfl) h27
  · rename_i x28 e29 e30 e31 e32
    exact hs

theorem State.wakeAll_keeps {s0 : State} {ps : Nat} {s : State} (hp : Covers ps 0x10002000000000000001000020000000000120d20) (hs : On inS ps s0 s) :
    On inS ps s0 (State.wakeAll s) := by
  delta State.wakeAll
  extract_lets +onlyGivenNames z1
  clear_value (ez1 : z1 = _)
  refine On.letS (ps := ps) (s0 := s0) ez1 ?_ fun hz1 => ?_
  · refine On.foldl ?_ ?_
    · exact hs
    · intro x2 x3 h4
      exact State.setSlice_keeps (hp.sub rfl) h4
  extract_lets +onlyGivenNames z5
  clear_value (ez5 : z5 = _)
  refine On.letS (ps := ps) (s0 := s0) ez5 ?_ fun hz5 => ?_
  · refine On.foldl ?_ ?_
    · exact hz1
    · intro x6 x7 h8
      refine On.ite ?_ ?_
      · exact State.setDomain_keeps (hp.sub rfl) h8
      · exact h8
  refine State.wakeStacks_keeps (hp.sub rfl) ?_
  refine On.foldl ?_ ?_
  · exact hz5
  · intro x9 x10 h11
    exact State.wakeQuad_keeps (hp.sub rfl) h11

theorem State.completeMode_keeps {s0 : State} {ps : Nat} {s : State} {m : Mode} (hp : Covers ps 0xffffffffffffffffffffffffffffffffffffffffffffffffffffffffffffffff03fbffff) (hs : On inS ps s0 s) :
    On inS ps s0 (State.completeMode s m) := by
  delta State.completeMode
  extract_lets +onlyGivenNames z1
  clear_value z1
  refine On.ite ?_ ?_
  · exact State.enterDormant_keeps (hp.sub rfl) (State.saveDelays_keeps (hp.sub rfl) hs)
  · extract_lets +onlyGivenNames z2
    clear_value (ez2 : z2 = _)
    refine On.letS (ps := ps) (s0 := s0) ez2 ?_ fun hz2 => ?_
    · refine State.setMs_keeps (hp.sub rfl) ?_ ?_
      · exact .inr (hp.sub rfl)
      · exact hs
    extract_lets +onlyGivenNames z3
    clear_value (ez3 : z3 = _)
    refine On.letS (ps := ps) (s0 := s0) ez3 ?_ fun hz3 => ?_
    · exact State.bump_keeps (hp.sub rfl) (hp.sub rfl) (State.setReg_keeps (hp.sub rfl) hz2)
    extract_lets +onlyGivenNames z4
    clear_value (ez4 : z4 = _)
    refine On.letS (ps := ps) (s0 := s0) ez4 ?_ fun hz4 => ?_
    · refine On.ite ?_ ?_
      · exact hz3
      · exact State.wakeAll_keeps (hp.sub rfl) hz3
    exact State.refreshIdentity_keeps (hp.sub rfl) (State.onEnter_keeps (hp.sub rfl) hz4)

theorem State.autoMode_keeps {s0 : State} {ps : Nat} {s : State} {m : Mode} (hp : Covers ps 0xffffffffffffffffffffffffffffffffffffffffffffffffffffffffffffffff03fbffff) (hs : On inS ps s0 s) :
    On inS ps s0 (State.autoMode s m) := by
  delta State.autoMode
  exact State.completeMode_keeps (hp.sub rfl) (State.abortRequest_keeps (hp.sub rfl) hs)

theorem State.standbyAlone_keeps {s0 : State} {ps : Nat} {s : State} (hp : Covers ps 0xffffffffffffffffffffffffffffffffffffffffffffffffffffffffffffffff03fbffff) (hs : On inS ps s0 s) :
    On inS ps s0 (State.standbyAlone s) := by
  delta State.standbyAlone
  extract_lets +onlyGivenNames z1
  clear_value (ez1 : z1 = _)
  refine On.letS (ps := ps) (s0 := s0) ez1 ?_ fun hz1 => ?_
  · exact State.breakPair_keeps (hp.sub rfl) hs
  refine On.ite ?_ ?_
  · exact State.autoMode_keeps (hp.sub rfl) hz1
  · exact hz1

theorem State.abandonInstall_keeps {s0 : State} {ps : Nat} {s : State} (hp : Covers ps 0x10000000000000000000000000000000000000000000000000000000000400004) (hs : On inS ps s0 s) :
    On inS ps s0 (State.abandonInstall s) := by
  delta State.abandonInstall
  split
  · rename_i x1 e2
    exact hs
  · rename_i x3 x4 e5
    refine State.setReg_keeps (hp.sub rfl) ?_
    refine On.mk (s := s) ?_ .k .k (.c (hp.sub rfl) .keep) .k .k .k .k .k .k .k .k .k .k .k .k .k .k
    exact hs

theorem State.shutDown_keeps {s0 : State} {ps : Nat} {s : State} {trip : Bool} (hp : Covers ps 0xffffffffffffffffffffffffffffffffffffffffffffffffffffffffffffffff03faffff) (hs : On inS ps s0 s) :
    On inS ps s0 (State.shutDown s trip) := by
  delta State.shutDown
  extract_lets +onlyGivenNames z1
  clear_value (ez1 : z1 = _)
  refine On.letS (ps := ps) (s0 := s0) ez1 ?_ fun hz1 => ?_
  · exact State.abandonInstall_keeps (hp.sub rfl) (State.abortRequest_keeps (hp.sub rfl) (State.fence_keeps (hp.sub rfl) hs))
  refine State.setMs_keeps (hp.sub rfl) ?_ ?_
  · exact .inl fun _ => rfl
  · refine On.ite ?_ ?_
    · exact State.sinkDormant_keeps (hp.sub rfl) hz1
    · exact State.enterDormant_keeps (hp.sub rfl) hz1

theorem State.powerOnReset_keeps {s0 : State} {ps : Nat} {s : State} {cause : Nat} (hp : Covers ps 0xffffffffffffffffffffffffffffffffffffffffffffffffffffffffffffffff03faffff) (hs : On inS ps s0 s) :
    On inS ps s0 (State.powerOnReset s cause) := by
  delta State.powerOnReset
  extract_lets +onlyGivenNames z1
  clear_value (ez1 : z1 = _)
  refine On.letS (ps := ps) (s0 := s0) ez1 ?_ fun hz1 => ?_
  · exact State.abandonInstall_keeps (hp.sub rfl) (State.fence_keeps (hp.sub rfl) hs)
  extract_lets +onlyGivenNames z2 z3
  clear_value z2 z3
  extract_lets +onlyGivenNames z4
  extract_lets +onlyGivenNames z5
  clear_value z5
  extract_lets +onlyGivenNames z6
  extract_lets +onlyGivenNames z7
  clear_value z7
  extract_lets +onlyGivenNames z8
  extract_lets +onlyGivenNames z9
  extract_lets +onlyGivenNames z10 z11
  clear_value z10 z11
  extract_lets +onlyGivenNames z12
  clear_value (ez12 : z12 = _)
  refine On.letS (ps := ps) (s0 := s0) ez12 ?_ fun hz12 => ?_
  · refine On.mkStores (s := z1) ?_ (hp.sub rfl) rising_filter rising_filter (fun _ => rfl) (.c (hp.sub rfl)) (.c (hp.sub rfl)) (.c (hp.sub rfl) (hp.sub rfl)) (.c (hp.sub rfl) .keep) (.c (hp.sub rfl)) (.c (hp.sub rfl)) (.c (hp.sub rfl)) (.c (hp.sub rfl)) (.c (hp.sub rfl)) (.c (hp.sub rfl)) (.c (hp.sub rfl) (hp.sub rfl)) (.c (hp.sub rfl)) (.c (hp.sub rfl)) (.c (hp.sub rfl)) (.c (hp.sub rfl)) (.c (hp.sub rfl)) (.c (hp.sub rfl)) .k
    exact hz1
  exact State.setReg_keeps (hp.sub rfl) (State.setReg_keeps (hp.sub rfl) hz12)

theorem State.failTrial_keeps {s0 : State} {ps : Nat} {s : State} {cause : Nat} (hp : Covers ps 0xffffffffffffffffffffffffffffffffffffffffffffffffffffffffffffffff03fbffff) (hs : On inS ps s0 s) :
    On inS ps s0 (State.failTrial s cause) := by
  delta State.failTrial
  refine On.ite ?_ ?_
  · exact hs
  · extract_lets +onlyGivenNames z1
    clear_value (ez1 : z1 = _)
    refine On.letS (ps := ps) (s0 := s0) ez1 ?_ fun hz1 => ?_
    · exact State.noteTrialFailed_keeps (hp.sub rfl) hs
    extract_lets +onlyGivenNames z2 z3
    clear_value z2 z3
    refine On.ite ?_ ?_
    · exact hz1
    · refine On.ite ?_ ?_
      · exact State.setRunning_keeps (hp.sub rfl) (State.warmRestart_keeps (hp.sub rfl) hz1)
      · exact State.powerOnReset_keeps (hp.sub rfl) hz1

end Sys2Proof.Machine
end

