-- ==== Sys2Proof/Laws/KeepsQueues.lean ====
section
/-! SUPPORT. Sys2Proof/Laws/KeepsQueues.lean: what the operations of Machine/Queues.lean keep, whatever they do. -/

namespace Sys2Proof.Machine

theorem execBreakwaterVerdict_keeps {s0 : State} {ps : Nat} {n : Nat} {s : State} (hp : Covers ps 0x1010300000001000100000003000000000000000000030000000001f37782) (hs : On inS ps s0 s) :
    On inNext ps s0 (execBreakwaterVerdict n s) := by
  delta execBreakwaterVerdict
  refine On.next ?_
  refine On.ite ?_ ?_
  · exact hs
  · extract_lets +onlyGivenNames z1
    clear_value z1
    extract_lets +onlyGivenNames z2
    clear_value (ez2 : z2 = _)
    refine On.letS (ps := ps) (s0 := s0) ez2 ?_ fun hz2 => ?_
    · refine On.ite ?_ ?_
      · exact State.standbyVerdicts_keeps (hp.sub rfl) hs
      · exact hs
    refine On.ite ?_ ?_
    · exact hz2
    · split
      · rename_i x3 e4
        exact hz2
      · rename_i x5 x6 e7
        extract_lets +onlyGivenNames z8
        clear_value z8
        extract_lets +onlyGivenNames z9
        clear_value (ez9 : z9 = _)
        refine On.letS (ps := ps) (s0 := s0) ez9 ?_ fun hz9 => ?_
        · exact State.setTmSlice_keeps (hp.sub rfl) hz2
        split
        · rename_i x10 x11 x12 e13
          refine On.got (g := (inSnd inS)) (t := x12) (ps := ps) (s0 := s0) e13 rfl ?_ fun he13 => ?_
          · exact State.judge_keeps (hp.sub rfl) hz9
          refine On.ite ?_ ?_
          · exact State.decideEntry_keeps (hp.sub rfl) he13
          · exact he13

theorem State.beginReplication_keeps {s0 : State} {ps : Nat} {s : State} {n : Nat} (hp : Covers ps 0x280) (hs : On inS ps s0 s) :
    On inS ps s0 (State.beginReplication s n) := by
  delta State.beginReplication
  extract_lets +onlyGivenNames z1 z2
  clear_value z1 z2
  refine On.ite ?_ ?_
  · exact hs
  · extract_lets +onlyGivenNames z3
    clear_value z3
    split
    · rename_i x4 e5
      exact hs
    · rename_i x6 x7 x8 e9
      extract_lets +onlyGivenNames z10 z11
      clear_value z10 z11
      extract_lets +onlyGivenNames z12
      clear_value (ez12 : z12 = _)
      refine On.letS (ps := ps) (s0 := s0) ez12 ?_ fun hz12 => ?_
      · exact State.setTmSlice_keeps (hp.sub rfl) hs
      refine On.ite ?_ ?_
      · exact hz12
      · extract_lets +onlyGivenNames z13
        clear_value z13
        split
        · rename_i x14 x15 x16 x17 x18 e19
          extract_lets +onlyGivenNames z20
          clear_value z20
          refine On.mk (s := z12) ?_ .k .k .k .k .k .k .k .k .k (.m (hp.sub rfl) rfl) .k .k .k .k .k .k .k
          exact hz12

theorem execReplicateCopy_keeps {s0 : State} {ps : Nat} {n : Nat} {s : State} (hp : Covers ps 0x280) (hs : On inS ps s0 s) :
    On inNext ps s0 (execReplicateCopy n s) := by
  delta execReplicateCopy
  refine On.next ?_
  refine On.ite ?_ ?_
  · exact hs
  · extract_lets +onlyGivenNames z1
    clear_value (ez1 : z1 = _)
    refine On.letS (ps := ps) (s0 := s0) ez1 ?_ fun hz1 => ?_
    · exact State.beginReplication_keeps (hp.sub rfl) hs
    extract_lets +onlyGivenNames z2 z3
    clear_value z2 z3
    split
    · rename_i x4 e5
      exact hz1
    · rename_i x6 x7 x8 e9
      extract_lets +onlyGivenNames z10
      clear_value (ez10 : z10 = _)
      refine On.fnIn (P := fun f => ∀ v0, On inS ps s0 (f v0)) ez10 ?_ fun hz10 => ?_
      · intro x11
        dsimp -zeta only
        exact State.setTmSlice_keeps (hp.sub rfl) hz1
      extract_lets +onlyGivenNames z12
      clear_value (ez12 : z12 = _)
      refine On.fnIn (P := fun f => ∀ v0, On inS ps s0 v0 → On inS ps s0 (f v0)) ez12 ?_ fun hz12 => ?_
      · intro x13 h14
        dsimp -zeta only
        split
        · rename_i x15 e16
          exact h14
        · rename_i x17 x18 e19
          refine On.ite ?_ ?_
          · refine State.giveBack_keeps (hp.sub rfl) ?_
            refine On.mk (s := x13) ?_ .k .k .k .k .k .k .k (.c (hp.sub rfl)) .k .k .k .k .k .k .k .k .k
            exact h14
          · refine On.mk (s := x13) ?_ .k .k .k .k .k .k .k (.c (hp.sub rfl)) .k .k .k .k .k .k .k .k .k
            exact h14
      split
      · rename_i x20 e21
        exact hz1
      · rename_i x22 e23
        refine hz12 _ ?_
        refine hz10 _
      · rename_i x24 x25 x26 e27
        extract_lets +onlyGivenNames z28
        clear_value (ez28 : z28 = _)
        refine On.letS (ps := ps) (s0 := s0) ez28 ?_ fun hz28 => ?_
        · refine On.ite ?_ ?_
          · refine hz10 _
          · refine hz10 _
        extract_lets +onlyGivenNames z29 z30
        clear_value z29 z30
        extract_lets +onlyGivenNames z31
        clear_value (ez31 : z31 = _)
        refine On.letS (ps := ps) (s0 := s0) ez31 ?_ fun hz31 => ?_
        · refine On.mk (s := z28) ?_ .k .k .k .k .k .k .k (.c (hp.sub rfl)) .k .k .k .k .k .k .k .k .k
          exact hz28
        extract_lets +onlyGivenNames z32 z33
        clear_value z32 z33
        extract_lets +onlyGivenNames z34
        clear_value (ez34 : z34 = _)
        refine On.letS (ps := ps) (s0 := s0) ez34 ?_ fun hz34 => ?_
        · exact State.setTmSlice_keeps (hp.sub rfl) hz31
        refine On.ite ?_ ?_
        · exact hz12 _ hz34
        · exact hz34

theorem queueSetEffect_keeps {s0 : State} {ps : Nat} {c : List Byte} {s : State} (hp : Covers ps 0x3000000000000000000000000000000100480) (hs : On inS ps s0 s) :
    On (inSnd inS) ps s0 (queueSetEffect c s) := by
  delta queueSetEffect
  extract_lets +onlyGivenNames z1 z2 z3
  clear_value z1 z2 z3
  refine On.ite ?_ ?_
  · exact On.pair hs
  · refine On.ite ?_ ?_
    · exact On.pair hs
    · refine On.ite ?_ ?_
      · exact On.pair hs
      · extract_lets +onlyGivenNames z4
        clear_value z4
        split
        · rename_i x5 e6
          exact On.pair hs
        · rename_i x7 x8 e9
          extract_lets +onlyGivenNames z10
          clear_value z10
          split
          · rename_i x11
            refine On.ite ?_ ?_
            · exact On.pair hs
            · exact On.pair (State.setQueue_keeps (hp.sub rfl) hs)
          · rename_i x12
            refine On.ite ?_ ?_
            · exact On.pair hs
            · exact On.pair (State.setQueue_keeps (hp.sub rfl) hs)
          · rename_i x13 e14 e15
            extract_lets +onlyGivenNames z16
            clear_value z16
            refine On.ite ?_ ?_
            · exact On.pair hs
            · refine On.ite ?_ ?_
              · exact On.pair hs
              · refine On.ite ?_ ?_
                · exact On.pair hs
                · extract_lets +onlyGivenNames z17
                  clear_value (ez17 : z17 = _)
                  refine On.letS (ps := ps) (s0 := s0) ez17 ?_ fun hz17 => ?_
                  · exact State.setQueue_keeps (hp.sub rfl) hs
                  exact On.pair (State.startReadback_keeps (hp.sub rfl) (State.abandonSpills_keeps (hp.sub rfl) hz17))

theorem execEnable_keeps {s0 : State} {ps : Nat} {o : Origin} {h : Nat} {s : State} (hp : Covers ps 0x3000000000000000000000000000000120689) (hs : On inS ps s0 s) :
    On inNext ps s0 (execEnable o h s) := by
  delta execEnable
  refine On.next ?_
  refine State.runWrite_keeps (hp.sub rfl) ?_ ?_
  · exact hs
  · intro x1 x2 h3
    exact queueSetEffect_keeps (hp.sub rfl) h3

theorem execDisable_keeps {s0 : State} {ps : Nat} {o : Origin} {h : Nat} {s : State} (hp : Covers ps 0x3000000000000000000000000000000120689) (hs : On inS ps s0 s) :
    On inNext ps s0 (execDisable o h s) := by
  delta execDisable
  refine On.next ?_
  refine State.runWrite_keeps (hp.sub rfl) ?_ ?_
  · exact hs
  · intro x1 x2 h3
    exact queueSetEffect_keeps (hp.sub rfl) h3

theorem execSetLimits_keeps {s0 : State} {ps : Nat} {o : Origin} {h : Nat} {limits : List Byte} {s : State} (hp : Covers ps 0x3000000000000000000000000000000120689) (hs : On inS ps s0 s) :
    On inNext ps s0 (execSetLimits o h limits s) := by
  delta execSetLimits
  refine On.next ?_
  refine State.runWrite_keeps (hp.sub rfl) ?_ ?_
  · exact hs
  · intro x1 x2 h3
    exact queueSetEffect_keeps (hp.sub rfl) h3

theorem queueAnswer_keeps {s0 : State} {ps : Nat} {c : List Byte} {s : State} (_hp : Covers ps 0x0) (hs : On inS ps s0 s) :
    On (inSnd (inSnd inS)) ps s0 (queueAnswer c s) := by
  delta queueAnswer
  extract_lets +onlyGivenNames z1
  clear_value z1
  refine On.ite ?_ ?_
  · exact On.pair (On.pair hs)
  · split
    · rename_i x2 e3
      split
      · rename_i x4 x5 e6
        refine On.ite ?_ ?_
        · exact On.pair (On.pair hs)
        · exact On.pair (On.pair hs)
      · rename_i x7 e8
        exact On.pair (On.pair hs)
    · rename_i x9 e10
      exact On.pair (On.pair hs)

theorem execQueueQuery_keeps {s0 : State} {ps : Nat} {o : Origin} {v : List Byte} {s : State} (hp : Covers ps 0x20209) (hs : On inS ps s0 s) :
    On inNext ps s0 (execQueueQuery o v s) := by
  delta execQueueQuery
  refine On.next ?_
  refine State.runQuery_keeps (hp.sub rfl) ?_ ?_
  · exact hs
  · intro x1 x2 h3
    exact queueAnswer_keeps (hp.sub rfl) h3

theorem State.beginDestroy_keeps {s0 : State} {ps : Nat} {s : State} {i : Nat} {job : Option Nat} (hp : Covers ps 0x200000000000000000003000000000000000000000000000000324680) (hs : On inS ps s0 s) :
    On inS ps s0 (State.beginDestroy s i job) := by
  delta State.beginDestroy
  split
  · rename_i x1 e2
    exact hs
  · rename_i x3 x4 e5
    extract_lets +onlyGivenNames z6
    clear_value (ez6 : z6 = _)
    refine On.letS (ps := ps) (s0 := s0) ez6 ?_ fun hz6 => ?_
    · exact State.setQueue_keeps (hp.sub rfl) hs
    split
    · rename_i x7 x8 x9 e10
      refine On.got (g := (inFst inS)) (t := x8) (ps := ps) (s0 := s0) e10 rfl ?_ fun he10 => ?_
      · exact State.endPackets_keeps (hp.sub rfl) hz6
      extract_lets +onlyGivenNames z11
      clear_value (ez11 : z11 = _)
      refine On.letS (ps := ps) (s0 := s0) ez11 ?_ fun hz11 => ?_
      · exact State.count_keeps (hp.sub rfl) (hp.sub rfl) he10
      refine On.ite ?_ ?_
      · extract_lets +onlyGivenNames z12 z13
        clear_value z12 z13
        exact State.setPairCtx_keeps (hp.sub rfl) (On.fst (State.sendQueueEnd_keeps (hp.sub rfl) hz11))
      · exact hz11

theorem State.removeQueue_keeps {s0 : State} {ps : Nat} {s : State} {i : Nat} (hp : Covers ps 0x384080) (hs : On inS ps s0 s) :
    On inS ps s0 (State.removeQueue s i) := by
  delta State.removeQueue
  extract_lets +onlyGivenNames z1
  clear_value (ez1 : z1 = _)
  refine On.letS (ps := ps) (s0 := s0) ez1 ?_ fun hz1 => ?_
  · exact State.leaveRound_keeps (hp.sub rfl) hs
  refine State.nextGen_keeps (hp.sub rfl) ?_
  refine On.mk (s := z1) ?_ .k .k .k .k .k .k .k (.c (hp.sub rfl)) .k .k .k .k .k .k (.c (hp.sub rfl)) .k .k
  exact hz1

theorem mcastSetEffect_keeps {s0 : State} {ps : Nat} {c : List Byte} {s : State} (hp : Covers ps 0x80) (hs : On inS ps s0 s) :
    On (inSnd inS) ps s0 (mcastSetEffect c s) := by
  delta mcastSetEffect
  extract_lets +onlyGivenNames z1 z2 z3
  clear_value z1 z2 z3
  refine On.ite ?_ ?_
  · exact On.pair hs
  · split
    · rename_i x4 x5 e6
      exact On.pair hs
    · rename_i x7 e8
      refine On.ite ?_ ?_
      · exact On.pair hs
      · refine On.ite ?_ ?_
        · exact On.pair hs
        · refine On.pair ?_
          refine On.mk (s := s) ?_ .k .k .k .k .k .k .k (.c (hp.sub rfl)) .k .k .k .k .k .k .k .k .k
          exact hs

theorem execMcastSet_keeps {s0 : State} {ps : Nat} {o : Origin} {v : List Byte} {s : State} (hp : Covers ps 0x20289) (hs : On inS ps s0 s) :
    On inNext ps s0 (execMcastSet o v s) := by
  delta execMcastSet
  refine On.next ?_
  refine State.runWrite_keeps (hp.sub rfl) ?_ ?_
  · exact hs
  · intro x1 x2 h3
    exact mcastSetEffect_keeps (hp.sub rfl) h3

theorem mcastAnswer_keeps {s0 : State} {ps : Nat} {c : List Byte} {s : State} (_hp : Covers ps 0x0) (hs : On inS ps s0 s) :
    On (inSnd (inSnd inS)) ps s0 (mcastAnswer c s) := by
  delta mcastAnswer
  refine On.ite ?_ ?_
  · exact On.pair (On.pair hs)
  · extract_lets +onlyGivenNames z1
    clear_value z1
    exact On.pair (On.pair hs)

theorem execMcastQuery_keeps {s0 : State} {ps : Nat} {o : Origin} {v : List Byte} {s : State} (hp : Covers ps 0x20209) (hs : On inS ps s0 s) :
    On inNext ps s0 (execMcastQuery o v s) := by
  delta execMcastQuery
  refine On.next ?_
  refine State.runQuery_keeps (hp.sub rfl) ?_ ?_
  · exact hs
  · intro x1 x2 h3
    exact mcastAnswer_keeps (hp.sub rfl) h3

theorem execFlushDone_keeps {s0 : State} {ps : Nat} {p : Nat} {s : State} (hp : Covers ps 0x10100000000000000000001000000000000000100000000000000323000) (hs : On inS ps s0 s) :
    On inNext ps s0 (execFlushDone p s) := by
  delta execFlushDone
  refine On.next ?_
  refine On.ite ?_ ?_
  · exact hs
  · extract_lets +onlyGivenNames z1
    clear_value (ez1 : z1 = _)
    refine On.letS (ps := ps) (s0 := s0) ez1 ?_ fun hz1 => ?_
    · exact State.setReg_keeps (hp.sub rfl) (State.setReg_keeps (hp.sub rfl) hs)
    refine State.raiseEvent_keeps (hp.sub rfl) ?_
    refine On.ite ?_ ?_
    · exact State.setReg_keeps (hp.sub rfl) hz1
    · exact hz1

end Sys2Proof.Machine
end

