-- ==== Sys2Proof/Laws/KeepsScheduler.lean ====
section
/-! SUPPORT. Sys2Proof/Laws/KeepsScheduler.lean: what the operations of Machine/Scheduler.lean keep, whatever they do. -/

namespace Sys2Proof.Machine

theorem createQueue_keeps {s0 : State} {ps : Nat} {v : List Byte} {s : State} (hp : Covers ps 0x304080) (hs : On inS ps s0 s) :
    On (inOk (inSnd inS)) ps s0 (createQueue v s) := by
  delta createQueue
  extract_lets +onlyGivenNames z1 z2 z3
  clear_value z1 z2 z3
  refine On.ite ?_ ?_
  · exact On.error
  · refine On.ite ?_ ?_
    · exact On.error
    · extract_lets +onlyGivenNames z4 z5 z6
      clear_value z4 z5 z6
      refine On.ite ?_ ?_
      · exact On.error
      · split
        · rename_i x7 e8
          exact On.error
        · rename_i x9 x10 e11
          refine On.ite ?_ ?_
          · exact On.error
          · extract_lets +onlyGivenNames z12 z13 z14 z15
            clear_value z12 z13 z14 z15
            exact On.ok (On.pair (State.clearQueueStats_keeps (hp.sub rfl) (State.setQueue_keeps (hp.sub rfl) hs)))

theorem execQueueCreate_keeps {s0 : State} {ps : Nat} {o : Origin} {v : List Byte} {s : State} (hp : Covers ps 0x324281) (hs : On inS ps s0 s) :
    On inNext ps s0 (execQueueCreate o v s) := by
  delta execQueueCreate
  refine On.next ?_
  refine State.endCreate_keeps (hp.sub rfl) ?_
  refine State.runCreate_keeps (hp.sub rfl) ?_ ?_
  · exact hs
  · intro x1 x2 h3
    exact createQueue_keeps (hp.sub rfl) h3

theorem createNode_keeps {s0 : State} {ps : Nat} {v : List Byte} {s : State} (hp : Covers ps 0x100000000000000000000000000000000000080) (hs : On inS ps s0 s) :
    On (inOk (inSnd inS)) ps s0 (createNode v s) := by
  delta createNode
  extract_lets +onlyGivenNames z1 z2
  clear_value z1 z2
  refine On.ite ?_ ?_
  · exact On.error
  · refine On.ite ?_ ?_
    · exact On.error
    · extract_lets +onlyGivenNames z3 z4 z5 z6
      clear_value z3 z4 z5 z6
      refine On.ite ?_ ?_
      · exact On.error
      · split
        · rename_i x7 e8
          exact On.error
        · rename_i x9 x10 e11
          extract_lets +onlyGivenNames z12
          clear_value z12
          extract_lets +onlyGivenNames z13
          clear_value (ez13 : z13 = _)
          refine On.letS (ps := ps) (s0 := s0) ez13 ?_ fun hz13 => ?_
          · exact State.setNode_keeps (hp.sub rfl) hs
          refine On.ok ?_
          refine On.pair ?_
          refine On.ite ?_ ?_
          · exact State.setReg_keeps (hp.sub rfl) hz13
          · exact hz13

theorem execNodeCreate_keeps {s0 : State} {ps : Nat} {o : Origin} {v : List Byte} {s : State} (hp : Covers ps 0x100000000000000000000000000000000020281) (hs : On inS ps s0 s) :
    On inNext ps s0 (execNodeCreate o v s) := by
  delta execNodeCreate
  refine On.next ?_
  refine State.endCreate_keeps (hp.sub rfl) ?_
  refine State.runCreate_keeps (hp.sub rfl) ?_ ?_
  · exact hs
  · intro x1 x2 h3
    exact createNode_keeps (hp.sub rfl) h3

theorem schedSetEffect_keeps {s0 : State} {ps : Nat} {c : List Byte} {s : State} (hp : Covers ps 0x80) (hs : On inS ps s0 s) :
    On (inSnd inS) ps s0 (schedSetEffect c s) := by
  delta schedSetEffect
  refine On.ite ?_ ?_
  · exact On.pair hs
  · split
    · rename_i x1 x2 e3
      exact On.pair hs
    · rename_i x4 x5 e6
      extract_lets +onlyGivenNames z7 z8 z9 z10 z11
      clear_value z7 z8 z9 z10 z11
      refine On.ite ?_ ?_
      · exact On.pair hs
      · extract_lets +onlyGivenNames z12
        clear_value z12
        extract_lets +onlyGivenNames z13
        clear_value (ez13 : z13 = _)
        refine On.letS (ps := ps) (s0 := s0) ez13 ?_ fun hz13 => ?_
        · exact State.setAttach_keeps (hp.sub rfl) hs
        extract_lets +onlyGivenNames z14
        clear_value (ez14 : z14 = _)
        refine On.letS (ps := ps) (s0 := s0) ez14 ?_ fun hz14 => ?_
        · split
          · rename_i x15 e16
            exact hz13
          · rename_i x17 x18 e19
            split
            · rename_i x20 e21
              exact hz13
            · rename_i x22 x23 e24
              refine On.ite ?_ ?_
              · exact State.setNode_keeps (hp.sub rfl) hz13
              · exact hz13
        exact On.pair hz14

theorem execSchedSet_keeps {s0 : State} {ps : Nat} {o : Origin} {v : List Byte} {s : State} (hp : Covers ps 0x20289) (hs : On inS ps s0 s) :
    On inNext ps s0 (execSchedSet o v s) := by
  delta execSchedSet
  refine On.next ?_
  refine State.runWrite_keeps (hp.sub rfl) ?_ ?_
  · exact hs
  · intro x1 x2 h3
    exact schedSetEffect_keeps (hp.sub rfl) h3

theorem schedAnswer_keeps {s0 : State} {ps : Nat} {c : List Byte} {s : State} (_hp : Covers ps 0x0) (hs : On inS ps s0 s) :
    On (inSnd (inSnd inS)) ps s0 (schedAnswer c s) := by
  delta schedAnswer
  refine On.ite ?_ ?_
  · exact On.pair (On.pair hs)
  · split
    · rename_i x1 x2 e3
      exact On.pair (On.pair hs)
    · rename_i x4 x5 e6
      split
      · rename_i x7 e8
        exact On.pair (On.pair hs)
      · rename_i x9 x10 e11
        extract_lets +onlyGivenNames z12
        clear_value z12
        exact On.pair (On.pair hs)

theorem execSchedQuery_keeps {s0 : State} {ps : Nat} {o : Origin} {v : List Byte} {s : State} (hp : Covers ps 0x20209) (hs : On inS ps s0 s) :
    On inNext ps s0 (execSchedQuery o v s) := by
  delta execSchedQuery
  refine On.next ?_
  refine State.runQuery_keeps (hp.sub rfl) ?_ ?_
  · exact hs
  · intro x1 x2 h3
    exact schedAnswer_keeps (hp.sub rfl) h3

theorem createMeter_keeps {s0 : State} {ps : Nat} {v : List Byte} {s : State} (hp : Covers ps 0x40) (hs : On inS ps s0 s) :
    On (inOk (inSnd inS)) ps s0 (createMeter v s) := by
  delta createMeter
  refine On.ite ?_ ?_
  · exact On.error
  · extract_lets +onlyGivenNames z1
    clear_value z1
    split
    · rename_i x2 e3
      exact On.error
    · rename_i x4 x5 e6
      refine On.ok ?_
      refine On.pair ?_
      refine On.mk (s := s) ?_ .k .k .k .k .k .k (.c (hp.sub rfl)) .k .k .k .k .k .k .k .k .k .k
      exact hs

theorem execMeterCreate_keeps {s0 : State} {ps : Nat} {o : Origin} {v : List Byte} {s : State} (hp : Covers ps 0x20241) (hs : On inS ps s0 s) :
    On inNext ps s0 (execMeterCreate o v s) := by
  delta execMeterCreate
  refine On.next ?_
  refine State.endCreate_keeps (hp.sub rfl) ?_
  refine State.runCreate_keeps (hp.sub rfl) ?_ ?_
  · exact hs
  · intro x1 x2 h3
    exact createMeter_keeps (hp.sub rfl) h3

theorem meterSetEffect_keeps {s0 : State} {ps : Nat} {c : List Byte} {s : State} (hp : Covers ps 0x40) (hs : On inS ps s0 s) :
    On (inSnd inS) ps s0 (meterSetEffect c s) := by
  delta meterSetEffect
  extract_lets +onlyGivenNames z1 z2
  clear_value z1 z2
  refine On.ite ?_ ?_
  · exact On.pair hs
  · refine On.ite ?_ ?_
    · exact On.pair hs
    · refine On.ite ?_ ?_
      · exact On.pair hs
      · split
        · rename_i x3 e4
          exact On.pair hs
        · rename_i x5 x6 e7
          extract_lets +onlyGivenNames z8 z9 z10
          clear_value z8 z9 z10
          refine On.pair ?_
          refine On.mk (s := s) ?_ .k .k .k .k .k .k (.c (hp.sub rfl)) .k .k .k .k .k .k .k .k .k .k
          exact hs

theorem execMeterSet_keeps {s0 : State} {ps : Nat} {o : Origin} {v : List Byte} {s : State} (hp : Covers ps 0x20249) (hs : On inS ps s0 s) :
    On inNext ps s0 (execMeterSet o v s) := by
  delta execMeterSet
  refine On.next ?_
  refine State.runWrite_keeps (hp.sub rfl) ?_ ?_
  · exact hs
  · intro x1 x2 h3
    exact meterSetEffect_keeps (hp.sub rfl) h3

theorem meterAnswer_keeps {s0 : State} {ps : Nat} {c : List Byte} {s : State} (_hp : Covers ps 0x0) (hs : On inS ps s0 s) :
    On (inSnd (inSnd inS)) ps s0 (meterAnswer c s) := by
  delta meterAnswer
  extract_lets +onlyGivenNames z1
  clear_value z1
  refine On.ite ?_ ?_
  · exact On.pair (On.pair hs)
  · split
    · rename_i x2 x3 x4 e5 e6
      exact On.pair (On.pair hs)
    · rename_i x7 x8 e9
      exact On.pair (On.pair hs)

theorem execMeterQuery_keeps {s0 : State} {ps : Nat} {o : Origin} {v : List Byte} {s : State} (hp : Covers ps 0x20209) (hs : On inS ps s0 s) :
    On inNext ps s0 (execMeterQuery o v s) := by
  delta execMeterQuery
  refine On.next ?_
  refine State.runQuery_keeps (hp.sub rfl) ?_ ?_
  · exact hs
  · intro x1 x2 h3
    exact meterAnswer_keeps (hp.sub rfl) h3

theorem drrLoop_keeps {s0 : State} {ps : Nat} {give : State → Child → Option (Nat × Nat × State)} {ok : State → Child → Bool} {u1 : Nat} {u2 : State} {u3 : Nat} (hp : Covers ps 0x80) (hgive : ∀ v0 v1, On inS ps s0 v0 → On (inSome (inSnd (inSnd inS))) ps s0 (give v0 v1)) (hu2 : On inS ps s0 u2) :
    On (inSome (inSnd (inSnd inS))) ps s0 (drrLoop give ok u1 u2 u3) := by
  induction u1 generalizing u2 u3 with
  | zero =>
    rw [drrLoop]
    exact On.none
  | succ v ih =>
    rw [drrLoop]
    split
    · rename_i x1 e2
      exact On.none
    · rename_i x3 x4 e5
      extract_lets +onlyGivenNames z6 z7 z8
      clear_value z6 z7 z8
      split
      · rename_i x9 e10
        exact On.none
      · rename_i x11 x12 e13
        split
        · rename_i x14 x15 x16 x17 x18 x19 e20 e21
          refine On.got (g := (inSome (inSnd (inSnd inS)))) (t := x18) (ps := ps) (s0 := s0) e20 rfl ?_ fun he20 => ?_
          · exact hgive _ _ hu2
          extract_lets +onlyGivenNames z22
          clear_value z22
          refine On.ite ?_ ?_
          · exact On.some (On.pair (On.pair (State.setAttach_keeps (hp.sub rfl) he20)))
          · extract_lets +onlyGivenNames z23
            clear_value (ez23 : z23 = _)
            refine On.letS (ps := ps) (s0 := s0) ez23 ?_ fun hz23 => ?_
            · exact State.setAttach_keeps (hp.sub rfl) hu2
            exact ih (State.setNode_keeps (hp.sub rfl) hz23)
        · rename_i x24 x25 e26
          exact On.none

theorem State.choose_keeps {s0 : State} {ps : Nat} {u1 : Nat} {u2 : State} {u3 : Child} (hp : Covers ps 0x80) (hu2 : On inS ps s0 u2) :
    On (inSome (inSnd (inSnd inS))) ps s0 (State.choose u1 u2 u3) := by
  induction u1 generalizing u2 u3 with
  | zero =>
    cases u3 with
    | node k =>
      rw [State.choose]
      exact On.none
    | queue i =>
      rw [State.choose]
      split
      · exact On.none
      · exact On.map fun _ _ => On.pair (On.pair hu2)
  | succ v ih =>
    cases u3 with
    | node k =>
      rw [State.choose]
      exact drrLoop_keeps (hp.sub rfl) (fun _ _ h => ih h) hu2
    | queue i =>
      rw [State.choose]
      split
      · exact On.none
      · exact On.map fun _ _ => On.pair (On.pair hu2)

theorem State.rootGives_keeps {s0 : State} {ps : Nat} {s : State} {p : Nat} (hp : Covers ps 0x80) (hs : On inS ps s0 s) :
    On (inSome (inSnd (inSnd inS))) ps s0 (State.rootGives s p) := by
  delta State.rootGives
  split
  · rename_i x1 e2
    exact On.none
  · rename_i x3 x4 e5
    refine On.ite ?_ ?_
    · exact On.none
    · exact On.filter (State.choose_keeps (hp.sub rfl) hs)

theorem State.chargePath_keeps {s0 : State} {ps : Nat} {u1 : Nat} {u2 : State} {u3 : Child} {u4 : Nat} {u5 : Nat} (hp : Covers ps 0x80) (hu2 : On inS ps s0 u2) :
    On inS ps s0 (State.chargePath u1 u2 u3 u4 u5) := by
  induction u1 generalizing u2 u3 u4 u5 with
  | zero =>
    rw [State.chargePath]
    exact hu2
  | succ v ih =>
    rw [State.chargePath]
    split
    · rename_i x1 e2
      exact State.setAttach_keeps (hp.sub rfl) hu2
    · rename_i x3 x4 e5
      exact ih (State.setAttach_keeps (hp.sub rfl) hu2)

theorem execSchedDecision_keeps {s0 : State} {ps : Nat} {n : Nat} {s : State} (hp : Covers ps 0x102000000000000000000030000000000000000000000000000003044a0) (hs : On inS ps s0 s) :
    On inNext ps s0 (execSchedDecision n s) := by
  delta execSchedDecision
  refine On.next ?_
  refine On.ite ?_ ?_
  · exact hs
  · extract_lets +onlyGivenNames z1 z2
    clear_value z1 z2
    split
    · rename_i x3 e4
      exact hs
    · rename_i x5 x6 x7 x8 x9 e10
      refine On.got (g := (inSome (inSnd (inSnd (inSnd inS))))) (t := x9) (ps := ps) (s0 := s0) e10 rfl ?_ fun he10 => ?_
      · refine On.findSome ?_
        intro x11
        refine On.mapOf (g := (inSnd (inSnd inS))) ?_ ?_
        · exact State.rootGives_keeps (hp.sub rfl) hs
        · intro x12 h13
          exact On.pair h13
      extract_lets +onlyGivenNames z14
      clear_value z14
      refine On.ite ?_ ?_
      · exact State.setSlice_keeps (hp.sub rfl) hs
      · split
        · rename_i x15 e16
          exact hs
        · rename_i x17 x18 x19 x20 x21 e22
          refine On.got (g := (inSome (inSnd (inSnd (inSnd inS))))) (t := x21) (ps := ps) (s0 := s0) e22 rfl ?_ fun he22 => ?_
          · exact State.release_keeps (hp.sub rfl) he10
          extract_lets +onlyGivenNames z23
          clear_value z23
          extract_lets +onlyGivenNames z24
          clear_value (ez24 : z24 = _)
          refine On.letS (ps := ps) (s0 := s0) ez24 ?_ fun hz24 => ?_
          · exact State.chargePath_keeps (hp.sub rfl) he22
          extract_lets +onlyGivenNames z25
          clear_value z25
          extract_lets +onlyGivenNames z26
          clear_value (ez26 : z26 = _)
          refine On.letS (ps := ps) (s0 := s0) ez26 ?_ fun hz26 => ?_
          · exact State.setMac_keeps (hp.sub rfl) hz24
          extract_lets +onlyGivenNames z27
          clear_value z27
          extract_lets +onlyGivenNames z28
          clear_value (ez28 : z28 = _)
          refine On.letS (ps := ps) (s0 := s0) ez28 ?_ fun hz28 => ?_
          · exact State.setSlice_keeps (hp.sub rfl) hz26
          exact State.setTmSlice_keeps (hp.sub rfl) hz28

end Sys2Proof.Machine
end

