-- ==== Sys2Proof/Laws/KeepsWindows.lean ====
section
/-! SUPPORT. Sys2Proof/Laws/KeepsWindows.lean: what the operations of Machine/Windows.lean keep, whatever they do. -/

namespace Sys2Proof.Machine

theorem windowAdminEffect_keeps {s0 : State} {ps : Nat} {k : Nat} {c : List Byte} {s : State} (hp : Covers ps 0x4000000000000000000000000000000000000080) (hs : On inS ps s0 s) :
    On (inSnd inS) ps s0 (windowAdminEffect k c s) := by
  delta windowAdminEffect
  refine On.ite ?_ ?_
  · exact On.pair hs
  · extract_lets +onlyGivenNames z1
    clear_value (ez1 : z1 = _)
    refine On.letS (ps := ps) (s0 := s0) ez1 ?_ fun hz1 => ?_
    · exact State.setOct_keeps (hp.sub rfl) hs
    refine On.pair ?_
    refine On.ite ?_ ?_
    · exact State.pendList_keeps (hp.sub rfl) hz1
    · exact hz1

theorem execWindowAdmin_keeps {s0 : State} {ps : Nat} {o : Origin} {k : Nat} {v : List Byte} {s : State} (hp : Covers ps 0x4000000000000000000000000000000000020289) (hs : On inS ps s0 s) :
    On inNext ps s0 (execWindowAdmin o k v s) := by
  delta execWindowAdmin
  refine On.next ?_
  refine State.runBlob_keeps (hp.sub rfl) ?_ ?_
  · exact hs
  · intro x1 x2 h3
    exact windowAdminEffect_keeps (hp.sub rfl) h3

theorem windowEnableEffect_keeps {s0 : State} {ps : Nat} {k : Nat} {c : List Byte} {s : State} (hp : Covers ps 0x4000000000000000000000000000000000000080) (hs : On inS ps s0 s) :
    On (inSnd inS) ps s0 (windowEnableEffect k c s) := by
  delta windowEnableEffect
  extract_lets +onlyGivenNames z1
  clear_value z1
  refine On.ite ?_ ?_
  · exact On.pair (State.setGateList_keeps (hp.sub rfl) (State.setReg_keeps (hp.sub rfl) hs))
  · refine On.ite ?_ ?_
    · exact On.pair hs
    · exact On.pair (State.pendList_keeps (hp.sub rfl) (State.setReg_keeps (hp.sub rfl) hs))

theorem execWindowEnable_keeps {s0 : State} {ps : Nat} {o : Origin} {k : Nat} {v : List Byte} {s : State} (hp : Covers ps 0x4000000000000000000000000000000000020289) (hs : On inS ps s0 s) :
    On inNext ps s0 (execWindowEnable o k v s) := by
  delta execWindowEnable
  refine On.next ?_
  refine State.runWrite_keeps (hp.sub rfl) ?_ ?_
  · exact hs
  · intro x1 x2 h3
    exact windowEnableEffect_keeps (hp.sub rfl) h3

theorem windowPortEffect_keeps {s0 : State} {ps : Nat} {k : Nat} {c : List Byte} {s : State} (hp : Covers ps 0x4000000000000000000000000000000000000080) (hs : On inS ps s0 s) :
    On (inSnd inS) ps s0 (windowPortEffect k c s) := by
  delta windowPortEffect
  extract_lets +onlyGivenNames z1
  clear_value z1
  refine On.ite ?_ ?_
  · exact On.pair hs
  · refine On.ite ?_ ?_
    · exact On.pair hs
    · extract_lets +onlyGivenNames z2
      clear_value z2
      extract_lets +onlyGivenNames z3
      clear_value (ez3 : z3 = _)
      refine On.letS (ps := ps) (s0 := s0) ez3 ?_ fun hz3 => ?_
      · exact State.setReg_keeps (hp.sub rfl) hs
      extract_lets +onlyGivenNames z4
      clear_value z4
      extract_lets +onlyGivenNames z5
      clear_value (ez5 : z5 = _)
      refine On.letS (ps := ps) (s0 := s0) ez5 ?_ fun hz5 => ?_
      · refine On.ite ?_ ?_
        · exact State.setMac_keeps (hp.sub rfl) hz3
        · exact hz3
      extract_lets +onlyGivenNames z6
      clear_value z6
      refine On.pair ?_
      refine On.ite ?_ ?_
      · exact State.setMac_keeps (hp.sub rfl) hz5
      · exact hz5

theorem execWindowPort_keeps {s0 : State} {ps : Nat} {o : Origin} {k : Nat} {v : List Byte} {s : State} (hp : Covers ps 0x4000000000000000000000000000000000020289) (hs : On inS ps s0 s) :
    On inNext ps s0 (execWindowPort o k v s) := by
  delta execWindowPort
  refine On.next ?_
  refine State.runWrite_keeps (hp.sub rfl) ?_ ?_
  · exact hs
  · intro x1 x2 h3
    exact windowPortEffect_keeps (hp.sub rfl) h3

theorem State.dropOversize_keeps {s0 : State} {ps : Nat} {u1 : Nat} {u2 : State} {u3 : Nat} {u4 : Nat} (hp : Covers ps 0x10300000000000000004000000000000000000000000000000000327080) (hu2 : On inS ps s0 u2) :
    On inS ps s0 (State.dropOversize u1 u2 u3 u4) := by
  induction u1 generalizing u2 u3 u4 with
  | zero =>
    rw [State.dropOversize]
    exact hu2
  | succ v ih =>
    rw [State.dropOversize]
    split
    · rename_i x1 e2
      exact hu2
    · rename_i x3 x4 x5 e6
      extract_lets +onlyGivenNames z7 z8
      clear_value z7 z8
      split
      · rename_i x9 e10
        exact hu2
      · rename_i x11 x12 e13
        extract_lets +onlyGivenNames z14
        clear_value (ez14 : z14 = _)
        refine On.letS (ps := ps) (s0 := s0) ez14 ?_ fun hz14 => ?_
        · exact State.setMac_keeps (hp.sub rfl) hu2
        exact ih (State.raiseEvent_keeps (hp.sub rfl) (State.bump_keeps (hp.sub rfl) (hp.sub rfl) (State.endReleased_keeps (hp.sub rfl) hz14)))

theorem State.dropAllOversize_keeps {s0 : State} {ps : Nat} {s : State} {k : Nat} (hp : Covers ps 0x10300000000000000004000000000000000000000000000000000327080) (hs : On inS ps s0 s) :
    On inS ps s0 (State.dropAllOversize s k) := by
  delta State.dropAllOversize
  extract_lets +onlyGivenNames z1
  clear_value z1
  refine On.ite ?_ ?_
  · exact State.dropOversize_keeps (hp.sub rfl) hs
  · exact hs

theorem execTxFrameStart_keeps {s0 : State} {ps : Nat} {p : Nat} {s : State} (hp : Covers ps 0x10300000000000000004000000000000000000000000000000000327080) (hs : On inS ps s0 s) :
    On inNext ps s0 (execTxFrameStart p s) := by
  delta execTxFrameStart
  refine On.next ?_
  split
  · rename_i x1 e2
    exact hs
  · rename_i x3 x4 e5
    refine On.ite ?_ ?_
    · exact hs
    · extract_lets +onlyGivenNames z6
      clear_value (ez6 : z6 = _)
      refine On.letS (ps := ps) (s0 := s0) ez6 ?_ fun hz6 => ?_
      · exact State.dropAllOversize_keeps (hp.sub rfl) hs
      extract_lets +onlyGivenNames z7 z8 z9 z10 z11
      clear_value z7 z8 z9 z10 z11
      split
      · rename_i x12 x13 e14
        exact State.setMac_keeps (hp.sub rfl) hz6
      · rename_i x15 e16
        extract_lets +onlyGivenNames z17
        clear_value z17
        exact State.count_keeps (hp.sub rfl) (hp.sub rfl) (State.setMac_keeps (hp.sub rfl) hz6)

theorem execGateEvent_keeps {s0 : State} {ps : Nat} {k : Nat} {s : State} (hp : Covers ps 0x4000000000000000000000000000000000000080) (hs : On inS ps s0 s) :
    On inNext ps s0 (execGateEvent k s) := by
  delta execGateEvent
  refine On.next ?_
  split
  · rename_i x1 e2
    exact hs
  · rename_i x3 x4 x5 e6
    exact State.setGateList_keeps (hp.sub rfl) hs

theorem execConfigChangeTime_keeps {s0 : State} {ps : Nat} {k : Nat} {s : State} (hp : Covers ps 0x10300000000000000004000000000000000000000000000000000367080) (hs : On inS ps s0 s) :
    On inNext ps s0 (execConfigChangeTime k s) := by
  delta execConfigChangeTime
  refine On.next ?_
  split
  · rename_i x1 e2
    exact hs
  · rename_i x3 x4 x5 e6
    extract_lets +onlyGivenNames z7
    clear_value (ez7 : z7 = _)
    refine On.letS (ps := ps) (s0 := s0) ez7 ?_ fun hz7 => ?_
    · exact State.reach_keeps (hp.sub rfl) hs
    exact State.dropAllOversize_keeps (hp.sub rfl) (State.setGateList_keeps (hp.sub rfl) hz7)

theorem State.toMac_keeps {s0 : State} {ps : Nat} {s : State} {p : Nat} {x : Packet} (hp : Covers ps 0x10300000000000000004001000000000000000000000000000000327880) (hs : On inS ps s0 s) :
    On inS ps s0 (State.toMac s p x) := by
  delta State.toMac
  refine On.ite ?_ ?_
  · extract_lets +onlyGivenNames z1
    clear_value (ez1 : z1 = _)
    refine On.letS (ps := ps) (s0 := s0) ez1 ?_ fun hz1 => ?_
    · exact State.bump_keeps (hp.sub rfl) (hp.sub rfl) (State.endReleased_keeps (hp.sub rfl) hs)
    exact State.setPort_keeps (hp.sub rfl) hz1
  · extract_lets +onlyGivenNames z2
    clear_value z2
    split
    · rename_i x3 e4
      exact State.setMac_keeps (hp.sub rfl) hs
    · rename_i x5 x6 e7
      exact State.dropAllOversize_keeps (hp.sub rfl) (State.setMac_keeps (hp.sub rfl) hs)

theorem State.stampTx_keeps {s0 : State} {ps : Nat} {s : State} {p : Nat} {frame : List Byte} (hp : Covers ps 0x100000000000000100800) (hs : On inS ps s0 s) :
    On inS ps s0 (State.stampTx s p frame) := by
  delta State.stampTx
  extract_lets +onlyGivenNames z1 z2
  clear_value z1 z2
  extract_lets +onlyGivenNames z3
  clear_value (ez3 : z3 = _)
  refine On.letS (ps := ps) (s0 := s0) ez3 ?_ fun hz3 => ?_
  · exact State.setPort_keeps (hp.sub rfl) hs
  refine On.ite ?_ ?_
  · exact State.bump_keeps (hp.sub rfl) (hp.sub rfl) hz3
  · exact hz3

theorem execFrameTransmitDone_keeps {s0 : State} {ps : Nat} {p : Nat} {s : State} (hp : Covers ps 0x10000000000000000000000000000000000000100000000000000320880) (hs : On inS ps s0 s) :
    On inNext ps s0 (execFrameTransmitDone p s) := by
  delta execFrameTransmitDone
  refine On.next ?_
  refine On.ite ?_ ?_
  · exact hs
  · extract_lets +onlyGivenNames z1 z2
    clear_value z1 z2
    split
    · rename_i x3
      exact hs
    · rename_i x4 x5 x6
      extract_lets +onlyGivenNames z7
      clear_value z7
      extract_lets +onlyGivenNames z8
      clear_value (ez8 : z8 = _)
      refine On.letS (ps := ps) (s0 := s0) ez8 ?_ fun hz8 => ?_
      · exact State.emit_keeps (hp.sub rfl) (State.setMac_keeps (hp.sub rfl) hs)
      extract_lets +onlyGivenNames z9
      clear_value (ez9 : z9 = _)
      refine On.letS (ps := ps) (s0 := s0) ez9 ?_ fun hz9 => ?_
      · exact State.count_keeps (hp.sub rfl) (hp.sub rfl) (State.bump_keeps (hp.sub rfl) (hp.sub rfl) hz8)
      extract_lets +onlyGivenNames z10
      clear_value (ez10 : z10 = _)
      refine On.letS (ps := ps) (s0 := s0) ez10 ?_ fun hz10 => ?_
      · exact State.trace_keeps (hp.sub rfl) hz9
      extract_lets +onlyGivenNames z11
      clear_value z11
      extract_lets +onlyGivenNames z12
      clear_value (ez12 : z12 = _)
      refine On.letS (ps := ps) (s0 := s0) ez12 ?_ fun hz12 => ?_
      · refine On.ite ?_ ?_
        · exact State.stampTx_keeps (hp.sub rfl) hz10
        · exact hz10
      exact State.endCustody_keeps (hp.sub rfl) hz12

theorem watchQueueEffect_keeps {s0 : State} {ps : Nat} {w : Nat} {c : List Byte} {s : State} (hp : Covers ps 0xffffffffffffffffffffffffffffffffffffffffffffffffffffffffffffffff00000080) (hs : On inS ps s0 s) :
    On (inSnd inS) ps s0 (watchQueueEffect w c s) := by
  delta watchQueueEffect
  extract_lets +onlyGivenNames z1
  clear_value (ez1 : z1 = _)
  refine On.letS (ps := ps) (s0 := s0) ez1 ?_ fun hz1 => ?_
  · exact State.setReg_keeps (hp.sub rfl).page hs
  refine On.pair ?_
  refine On.mk (s := z1) ?_ .k .k .k .k .k .k .k (.c (hp.sub rfl)) .k .k .k .k .k .k .k .k .k
  exact hz1

theorem execWatchQueue_keeps {s0 : State} {ps : Nat} {o : Origin} {w : Nat} {v : List Byte} {s : State} (hp : Covers ps 0xffffffffffffffffffffffffffffffffffffffffffffffffffffffffffffffff00020289) (hs : On inS ps s0 s) :
    On inNext ps s0 (execWatchQueue o w v s) := by
  delta execWatchQueue
  refine On.next ?_
  refine State.runWrite_keeps (hp.sub rfl) ?_ ?_
  · exact hs
  · intro x1 x2 h3
    exact watchQueueEffect_keeps (hp.sub rfl) h3

theorem State.endInterval_keeps {s0 : State} {ps : Nat} {s : State} {w : Nat} (hp : Covers ps 0xffffffffffffffffffffffffffffffffffffffffffffffffffffffffffffffff00000080) (hs : On inS ps s0 s) :
    On inS ps s0 (State.endInterval s w) := by
  delta State.endInterval
  extract_lets +onlyGivenNames z1 z2
  clear_value z1 z2
  extract_lets +onlyGivenNames z3
  clear_value (ez3 : z3 = _)
  refine On.letS (ps := ps) (s0 := s0) ez3 ?_ fun hz3 => ?_
  · refine On.ite ?_ ?_
    · exact State.watchSample_keeps (hp.sub rfl) hs
    · exact hs
  extract_lets +onlyGivenNames z4 z5 z6 z7 z8 z9
  clear_value z4 z5 z6 z7 z8 z9
  extract_lets +onlyGivenNames z10
  clear_value (ez10 : z10 = _)
  refine On.letS (ps := ps) (s0 := s0) ez10 ?_ fun hz10 => ?_
  · exact State.setOct_keeps (hp.sub rfl).page hz3
  refine On.mk (s := z10) ?_ .k .k .k .k .k .k .k (.c (hp.sub rfl)) .k .k .k .k .k .k .k .k .k
  exact hz10

theorem execWatchIntervalEnd_keeps {s0 : State} {ps : Nat} {w : Nat} {s : State} (hp : Covers ps 0xffffffffffffffffffffffffffffffffffffffffffffffffffffffffffffffff00040080) (hs : On inS ps s0 s) :
    On inNext ps s0 (execWatchIntervalEnd w s) := by
  delta execWatchIntervalEnd
  refine On.next ?_
  refine On.ite ?_ ?_
  · exact hs
  · extract_lets +onlyGivenNames z1
    clear_value z1
    exact State.endInterval_keeps (hp.sub rfl) (State.reach_keeps (hp.sub rfl) hs)

theorem watchUsEffect_keeps {s0 : State} {ps : Nat} {c : List Byte} {s : State} (hp : Covers ps 0xffffffffffffffffffffffffffffffffffffffffffffffffffffffffffffffff00000080) (hs : On inS ps s0 s) :
    On (inSnd inS) ps s0 (watchUsEffect c s) := by
  delta watchUsEffect
  extract_lets +onlyGivenNames z1
  clear_value (ez1 : z1 = _)
  refine On.letS (ps := ps) (s0 := s0) ez1 ?_ fun hz1 => ?_
  · refine On.foldl ?_ ?_
    · exact hs
    · intro x2 x3 h4
      exact State.endInterval_keeps (hp.sub rfl) h4
  exact On.pair (State.setReg_keeps (hp.sub rfl) hz1)

end Sys2Proof.Machine
end

