-- ==== Sys2Proof/Laws/KeepsLanes.lean ====
section
/-! SUPPORT. Sys2Proof/Laws/KeepsLanes.lean: what the operations of Machine/Lanes.lean keep, whatever they do. -/

namespace Sys2Proof.Machine

theorem State.countDrop_keeps {s0 : State} {ps : Nat} {s : State} {row : Nat} {p : Nat} (hp : Covers ps 0x100000000000000100000) (hs : On inS ps s0 s) :
    On inS ps s0 (State.countDrop s row p) := by
  delta State.countDrop
  split
  · rename_i x1
    exact State.bump_keeps (hp.sub rfl) (hp.sub rfl) hs
  · rename_i x2
    exact State.bump_keeps (hp.sub rfl) (hp.sub rfl) hs
  · rename_i x3
    exact State.bump_keeps (hp.sub rfl) (hp.sub rfl) hs
  · rename_i x4 e5 e6 e7
    exact State.bump_keeps (hp.sub rfl) (hp.sub rfl) hs

theorem State.noteArrival_keeps {s0 : State} {ps : Nat} {s : State} {source : Nat} {ordinal : Nat} {tag : Nat} {again : Again} (hp : Covers ps 0x1010300000001000100000003000000000000000000030000000001f37782) (hs : On inS ps s0 s) :
    On inS ps s0 (State.noteArrival s source ordinal tag again) := by
  delta State.noteArrival
  refine On.ite ?_ ?_
  · exact State.noteEntry_keeps (hp.sub rfl) hs
  · refine On.ite ?_ ?_
    · extract_lets +onlyGivenNames z1
      clear_value z1
      extract_lets +onlyGivenNames z2
      extract_lets +onlyGivenNames z3
      clear_value (ez3 : z3 = _)
      refine On.letS (ps := ps) (s0 := s0) ez3 ?_ fun hz3 => ?_
      · refine On.mk (s := s) ?_ .k .k .k .k .k .k .k .k .k (.m (hp.sub rfl) rfl) .k .k .k .k .k .k .k
        exact hs
      exact State.matchSource_keeps (hp.sub rfl) hz3
    · exact hs

theorem State.askWake_keeps {s0 : State} {ps : Nat} {s : State} {n : Nat} (hp : Covers ps 0x20) (hs : On inS ps s0 s) :
    On inS ps s0 (State.askWake s n) := by
  delta State.askWake
  extract_lets +onlyGivenNames z1
  clear_value z1
  refine On.ite ?_ ?_
  · exact State.setSlice_keeps (hp.sub rfl) hs
  · exact hs

theorem execFrameReceive_keeps {s0 : State} {ps : Nat} {p : Nat} {frame : List Byte} {uncorrectable : Bool} {s : State} (hp : Covers ps 0x1010300000001000100000003000000000000000100030000000001f37fa2) (hs : On inS ps s0 s) :
    On inNext ps s0 (execFrameReceive p frame uncorrectable s) := by
  delta execFrameReceive
  refine On.next ?_
  extract_lets +onlyGivenNames z1
  clear_value z1
  refine On.ite ?_ ?_
  · exact hs
  · split
    · rename_i x2 x3 e4
      exact State.countDrop_keeps (hp.sub rfl) hs
    · rename_i x5 e6
      extract_lets +onlyGivenNames z7
      clear_value (ez7 : z7 = _)
      refine On.letS (ps := ps) (s0 := s0) ez7 ?_ fun hz7 => ?_
      · exact State.count_keeps (hp.sub rfl) (hp.sub rfl) (State.bump_keeps (hp.sub rfl) (hp.sub rfl) hs)
      split
      · rename_i x8 x9 x10 e11
        refine On.got (g := (inSnd inS)) (t := x10) (ps := ps) (s0 := s0) e11 rfl ?_ fun he11 => ?_
        · exact State.nextOrdinal_keeps (hp.sub rfl) hz7
        extract_lets +onlyGivenNames z12 z13
        clear_value z12 z13
        extract_lets +onlyGivenNames z14
        clear_value (ez14 : z14 = _)
        refine On.letS (ps := ps) (s0 := s0) ez14 ?_ fun hz14 => ?_
        · exact State.noteArrival_keeps (hp.sub rfl) he11
        refine On.ite ?_ ?_
        · extract_lets +onlyGivenNames z15
          clear_value z15
          exact State.decideEntry_keeps (hp.sub rfl) (State.setPort_keeps (hp.sub rfl) hz14)
        · extract_lets +onlyGivenNames z16
          clear_value z16
          exact State.askWake_keeps (hp.sub rfl) (State.setSlice_keeps (hp.sub rfl) hz14)

theorem State.takeArrival_keeps {s0 : State} {ps : Nat} {s : State} {n : Nat} {f : PoolFrame} {rest : List PoolFrame} (hp : Covers ps 0x20) (hs : On inS ps s0 s) :
    On (inSnd inS) ps s0 (State.takeArrival s n f rest) := by
  delta State.takeArrival
  extract_lets +onlyGivenNames z1 z2
  clear_value z1 z2
  exact On.pair (State.setSlice_keeps (hp.sub rfl) hs)

theorem State.takeInjection_keeps {s0 : State} {ps : Nat} {s : State} {n : Nat} {x : Injection} {rest : List Injection} (hp : Covers ps 0x1010300000001000100000003000000000000000000030000000001f377a2) (hs : On inS ps s0 s) :
    On (inSnd inS) ps s0 (State.takeInjection s n x rest) := by
  delta State.takeInjection
  extract_lets +onlyGivenNames z1
  clear_value z1
  extract_lets +onlyGivenNames z2
  clear_value (ez2 : z2 = _)
  refine On.letS (ps := ps) (s0 := s0) ez2 ?_ fun hz2 => ?_
  · exact State.setSlice_keeps (hp.sub rfl) hs
  split
  · rename_i x3 x4 x5 e6
    refine On.got (g := (inSnd inS)) (t := x5) (ps := ps) (s0 := s0) e6 rfl ?_ fun he6 => ?_
    · split
      · rename_i x7 x8 e9
        exact On.pair hz2
      · rename_i x10 e11
        split
        · rename_i x12 x13 x14 e15
          refine On.got (g := (inSnd inS)) (t := x14) (ps := ps) (s0 := s0) e15 rfl ?_ fun he15 => ?_
          · exact State.nextOrdinal_keeps (hp.sub rfl) hz2
          exact On.pair (State.noteArrival_keeps (hp.sub rfl) he15)
    extract_lets +onlyGivenNames z16 z17 z18
    clear_value z16 z17 z18
    split
    · rename_i x19 x20 x21 x22 x23 e24
      extract_lets +onlyGivenNames z25 z26
      clear_value z25 z26
      exact On.pair he6

theorem State.takeRecirc_keeps {s0 : State} {ps : Nat} {s : State} {n : Nat} {p : Packet} {rest : List Packet} (hp : Covers ps 0x20) (hs : On inS ps s0 s) :
    On (inSnd inS) ps s0 (State.takeRecirc s n p rest) := by
  delta State.takeRecirc
  extract_lets +onlyGivenNames z1 z2
  clear_value z1 z2
  exact On.pair (State.setSlice_keeps (hp.sub rfl) hs)

theorem State.takeReleased_keeps {s0 : State} {ps : Nat} {s : State} {n : Nat} {p : Packet} {rest : List Packet} (hp : Covers ps 0x20) (hs : On inS ps s0 s) :
    On (inSnd inS) ps s0 (State.takeReleased s n p rest) := by
  delta State.takeReleased
  extract_lets +onlyGivenNames z1 z2 z3 z4 z5
  clear_value z1 z2 z3 z4 z5
  exact On.pair (State.setSlice_keeps (hp.sub rfl) hs)

theorem State.takeIngress_keeps {s0 : State} {ps : Nat} {s : State} {n : Nat} (hp : Covers ps 0x1010300000001000100000003000000000000000000030000000001f377a2) (hs : On inS ps s0 s) :
    On (inSome (inSnd inS)) ps s0 (State.takeIngress s n) := by
  delta State.takeIngress
  extract_lets +onlyGivenNames z1
  clear_value z1
  extract_lets +onlyGivenNames z2
  clear_value (ez2 : z2 = _)
  refine On.letS (ps := ps) (s0 := s0) ez2 ?_ fun hz2 => ?_
  · exact State.setSlice_keeps (hp.sub rfl) hs
  refine On.findSome ?_
  intro x3
  split
  · rename_i x4 x5 x6 x7 x8 x9 e10
    exact On.some (State.takeArrival_keeps (hp.sub rfl) hz2)
  · rename_i x11 x12 x13 x14 x15 x16 e17
    exact On.some (State.takeRecirc_keeps (hp.sub rfl) hz2)
  · rename_i x18 x19 x20 x21 x22 x23 e24
    exact On.some (State.takeInjection_keeps (hp.sub rfl) hz2)
  · rename_i x25 x26 x27 x28 x29 e30 e31 e32
    exact On.none

theorem State.newTraceId_keeps {s0 : State} {ps : Nat} {s : State} {n : Nat} {egress : Bool} (hp : Covers ps 0x304000) (hs : On inS ps s0 s) :
    On (inSnd inS) ps s0 (State.newTraceId s n egress) := by
  delta State.newTraceId
  extract_lets +onlyGivenNames z1 z2
  clear_value z1 z2
  refine On.pair ?_
  refine On.mk (s := s) ?_ .k .k .k .k .k .k .k .k .k .k .k .k .k .k (.c (hp.sub rfl)) .k .k
  exact hs

theorem State.markTraced_keeps {s0 : State} {ps : Nat} {s : State} {n : Nat} {egress : Bool} {i : Intake} (hp : Covers ps 0x304000) (hs : On inS ps s0 s) :
    On (inSnd inS) ps s0 (State.markTraced s n egress i) := by
  delta State.markTraced
  extract_lets +onlyGivenNames z1 z2
  clear_value z1 z2
  refine On.ite ?_ ?_
  · exact On.pair hs
  · refine On.ite ?_ ?_
    · exact On.pair hs
    · refine On.ite ?_ ?_
      · split
        · rename_i x3 x4 x5 e6
          refine On.got (g := (inSnd inS)) (t := x5) (ps := ps) (s0 := s0) e6 rfl ?_ fun he6 => ?_
          · exact State.newTraceId_keeps (hp.sub rfl) hs
          exact On.pair he6
      · exact On.pair hs

theorem State.countParse_keeps {s0 : State} {ps : Nat} {s : State} {w : Walk} {e : ParseEnd} (hp : Covers ps 0x8000000000000000000100000) (hs : On inS ps s0 s) :
    On inS ps s0 (State.countParse s w e) := by
  delta State.countParse
  extract_lets +onlyGivenNames z1
  clear_value (ez1 : z1 = _)
  refine On.letS (ps := ps) (s0 := s0) ez1 ?_ fun hz1 => ?_
  · exact State.count_keeps (hp.sub rfl) (hp.sub rfl) hs
  extract_lets +onlyGivenNames z2
  clear_value (ez2 : z2 = _)
  refine On.letS (ps := ps) (s0 := s0) ez2 ?_ fun hz2 => ?_
  · split
    · rename_i x3
      exact State.bump_keeps (hp.sub rfl) (hp.sub rfl) hz1
    · rename_i x4
      exact State.bump_keeps (hp.sub rfl) (hp.sub rfl) hz1
    · rename_i x5
      exact State.bump_keeps (hp.sub rfl) (hp.sub rfl) hz1
    · rename_i x6 e7 e8 e9
      exact hz1
  split
  · rename_i x10
    exact hz2
  · rename_i x11
    exact hz2
  · rename_i x12 e13 e14
    exact State.bump_keeps (hp.sub rfl) (hp.sub rfl) hz2

theorem State.offerLearn_keeps {s0 : State} {ps : Nat} {s : State} {n : Nat} {r : LearnRec} (hp : Covers ps 0x1000000000000000000000000100010) (hs : On inS ps s0 s) :
    On inS ps s0 (State.offerLearn s n r) := by
  delta State.offerLearn
  extract_lets +onlyGivenNames z1 z2 z3 z4
  clear_value z1 z2 z3 z4
  refine On.ite ?_ ?_
  · exact hs
  · refine On.ite ?_ ?_
    · exact State.bump_keeps (hp.sub rfl) (hp.sub rfl) hs
    · extract_lets +onlyGivenNames z5 z6
      clear_value z5 z6
      refine On.mk (s := s) ?_ .k .k .k .k (.c (hp.sub rfl)) .k .k .k .k .k .k .k .k .k .k .k .k
      exact hs

theorem State.afterSequence_keeps {s0 : State} {ps : Nat} {s : State} {n : Nat} {id : Option Nat} {record : List Byte} {q : Seq} (hp : Covers ps 0xffffffffffffffffffffffffffffffffffffffffffffffffffffffffffffffff00304050) (hs : On inS ps s0 s) :
    On inS ps s0 (State.afterSequence s n id record q) := by
  delta State.afterSequence
  extract_lets +onlyGivenNames z1
  clear_value (ez1 : z1 = _)
  refine On.letS (ps := ps) (s0 := s0) ez1 ?_ fun hz1 => ?_
  · refine On.mk (s := s) ?_ .k .k .k .k (.c (hp.sub rfl)) .k (.c (hp.sub rfl)) .k .k .k .k .k .k .k .k .k .k
    exact hs
  extract_lets +onlyGivenNames z2
  clear_value (ez2 : z2 = _)
  refine On.letS (ps := ps) (s0 := s0) ez2 ?_ fun hz2 => ?_
  · refine On.foldl ?_ ?_
    · exact hz1
    · intro x3 x4 h5
      split
      · rename_i x6 x7 x8
        exact State.countSet_keeps (hp.sub rfl) h5
  extract_lets +onlyGivenNames z9
  clear_value (ez9 : z9 = _)
  refine On.letS (ps := ps) (s0 := s0) ez9 ?_ fun hz9 => ?_
  · refine On.foldl ?_ ?_
    · exact hz2
    · intro x10 x11 h12
      split
      · rename_i x13 x14 x15 x16
        exact State.count_keeps (hp.sub rfl).page (hp.sub rfl) h12
  extract_lets +onlyGivenNames z17
  clear_value (ez17 : z17 = _)
  refine On.letS (ps := ps) (s0 := s0) ez17 ?_ fun hz17 => ?_
  · refine On.foldl ?_ ?_
    · exact hz9
    · intro x18 x19 h20
      exact State.offerLearn_keeps (hp.sub rfl) h20
  refine On.foldl ?_ ?_
  · exact hz17
  · intro x21 x22 h23
    exact State.trace_keeps (hp.sub rfl) h23

theorem State.runPass_keeps {s0 : State} {ps : Nat} {s : State} {n : Nat} {egress : Bool} {i : Intake} {p : Packet} (hp : Covers ps 0xffffffffffffffffffffffffffffffffffffffffffffffffffffffffffffffff00304050) (hs : On inS ps s0 s) :
    On (inSnd inS) ps s0 (State.runPass s n egress i p) := by
  delta State.runPass
  extract_lets +onlyGivenNames z1 z2
  clear_value z1 z2
  split
  · rename_i x3 x4 e5
    exact On.pair hs
  · rename_i x6 e7
    split
    · rename_i x8 x9 x10 e11
      split
      · rename_i x12 x13 x14 e15
        extract_lets +onlyGivenNames z16
        clear_value z16
        extract_lets +onlyGivenNames z17
        clear_value (ez17 : z17 = _)
        refine On.letS (ps := ps) (s0 := s0) ez17 ?_ fun hz17 => ?_
        · exact State.trace_keeps (hp.sub rfl) (State.countParse_keeps (hp.sub rfl) hs)
        split
        · rename_i x18 x19 e20
          exact On.pair hz17
        · rename_i x21 e22
          split
          · rename_i x23 x24 x25 e26
            extract_lets +onlyGivenNames z27
            clear_value z27
            split
            · rename_i x28 x29 x30 e31
              refine On.got (g := (inSnd inS)) (t := x30) (ps := ps) (s0 := s0) e31 rfl ?_ fun he31 => ?_
              · refine On.ite ?_ ?_
                · split
                  · rename_i x32 x33 x34 e35
                    refine On.got (g := (inSnd inS)) (t := x34) (ps := ps) (s0 := s0) e35 rfl ?_ fun he35 => ?_
                    · exact State.newTraceId_keeps (hp.sub rfl) hz17
                    exact On.pair he35
                · exact On.pair hz17
              exact On.pair (State.afterSequence_keeps (hp.sub rfl) he31)

theorem execLaneTake_keeps {s0 : State} {ps : Nat} {n : Nat} {egress : Bool} {s : State} (hp : Covers ps 0xffffffffffffffffffffffffffffffffffffffffffffffffffffffffffffffff01f377f2) (hs : On inS ps s0 s) :
    On inNext ps s0 (execLaneTake n egress s) := by
  delta execLaneTake
  refine On.next ?_
  extract_lets +onlyGivenNames z1
  clear_value z1
  extract_lets +onlyGivenNames z2
  clear_value (ez2 : z2 = _)
  refine On.letIn (g := (inSome (inSnd inS))) (ps := ps) (s0 := s0) ez2 ?_ fun hz2 => ?_
  · refine On.ite ?_ ?_
    · exact On.none
    · refine On.ite ?_ ?_
      · split
        · rename_i x3 e4
          exact On.none
        · rename_i x5 x6 x7 e8
          exact On.some (State.takeReleased_keeps (hp.sub rfl) hs)
      · refine On.ite ?_ ?_
        · exact On.none
        · exact State.takeIngress_keeps (hp.sub rfl) hs
  split
  · rename_i x9
    exact hs
  · rename_i x10 x11 x12
    have hp13 : On inS ps s0 x12 := hz2
    split
    · rename_i x14 x15 x16 e17
      refine On.got (g := (inSnd inS)) (t := x16) (ps := ps) (s0 := s0) e17 rfl ?_ fun he17 => ?_
      · exact State.markTraced_keeps (hp.sub rfl) hp13
      extract_lets +onlyGivenNames z18
      clear_value (ez18 : z18 = _)
      refine On.letS (ps := ps) (s0 := s0) ez18 ?_ fun hz18 => ?_
      · exact State.trace_keeps (hp.sub rfl) he17
      split
      · rename_i x19 x20 x21 e22
        refine On.got (g := (inSnd inS)) (t := x21) (ps := ps) (s0 := s0) e22 rfl ?_ fun he22 => ?_
        · exact State.runPass_keeps (hp.sub rfl) hz18
        extract_lets +onlyGivenNames z23 z24
        clear_value z23 z24
        exact State.setSlice_keeps (hp.sub rfl) he22

theorem State.endPacket_keeps {s0 : State} {ps : Nat} {s : State} {n : Nat} {x : Pass} {status : Nat} {info : Nat} (hp : Covers ps 0x1010300000001000100000003000000000000000000030000000001f37782) (hs : On inS ps s0 s) :
    On inS ps s0 (State.endPacket s n x status info) := by
  delta State.endPacket
  extract_lets +onlyGivenNames z1 z2
  clear_value z1 z2
  extract_lets +onlyGivenNames z3
  clear_value (ez3 : z3 = _)
  refine On.letS (ps := ps) (s0 := s0) ez3 ?_ fun hz3 => ?_
  · exact State.decideEntry_keeps (hp.sub rfl) (State.finishInject_keeps (hp.sub rfl) hs)
  refine On.ite ?_ ?_
  · exact State.endReleased_keeps (hp.sub rfl) hz3
  · exact hz3

theorem State.traceDispatch_keeps {s0 : State} {ps : Nat} {s : State} {x : Pass} {code : Nat} {reason : Nat} (hp : Covers ps 0x10000000000000000000000000000000000000000000000000000300000) (hs : On inS ps s0 s) :
    On inS ps s0 (State.traceDispatch s x code reason) := by
  delta State.traceDispatch
  extract_lets +onlyGivenNames z1
  clear_value z1
  exact State.trace_keeps (hp.sub rfl) hs

theorem State.recirculate_keeps {s0 : State} {ps : Nat} {s : State} {n : Nat} {x : Pass} (hp : Covers ps 0x1010300000001000100000003000000000008000000030000000001f377a2) (hs : On inS ps s0 s) :
    On inS ps s0 (State.recirculate s n x) := by
  delta State.recirculate
  extract_lets +onlyGivenNames z1
  clear_value z1
  refine On.ite ?_ ?_
  · exact State.endPacket_keeps (hp.sub rfl) (State.bump_keeps (hp.sub rfl) (hp.sub rfl) hs)
  · extract_lets +onlyGivenNames z2 z3
    clear_value z2 z3
    refine On.ite ?_ ?_
    · extract_lets +onlyGivenNames z4
      clear_value (ez4 : z4 = _)
      refine On.letS (ps := ps) (s0 := s0) ez4 ?_ fun hz4 => ?_
      · exact State.trace_keeps (hp.sub rfl) hs
      extract_lets +onlyGivenNames z5
      clear_value (ez5 : z5 = _)
      refine On.letS (ps := ps) (s0 := s0) ez5 ?_ fun hz5 => ?_
      · exact State.setSlice_keeps (hp.sub rfl) hz4
      exact State.endCustody_keeps (hp.sub rfl) hz5
    · exact State.setSlice_keeps (hp.sub rfl) hs

theorem State.dispatchPass_keeps {s0 : State} {ps : Nat} {s : State} {n : Nat} {x : Pass} (hp : Covers ps 0x1010300000001000100004003000000000008000000030000000001f37fa2) (hs : On inS ps s0 s) :
    On inS ps s0 (State.dispatchPass s n x) := by
  delta State.dispatchPass
  extract_lets +onlyGivenNames z1
  clear_value (ez1 : z1 = _)
  refine On.letS (ps := ps) (s0 := s0) ez1 ?_ fun hz1 => ?_
  · refine On.foldl ?_ ?_
    · exact hs
    · intro x2 x3 h4
      split
      · rename_i x5 x6 x7
        exact State.punt_keeps (hp.sub rfl) h4
  extract_lets +onlyGivenNames z8
  clear_value z8
  split
  · rename_i x9 x10 e11
    exact State.endPacket_keeps (hp.sub rfl) (State.bump_keeps (hp.sub rfl) (hp.sub rfl) (State.traceDispatch_keeps (hp.sub rfl) hz1))
  · rename_i x12 e13
    exact State.endPacket_keeps (hp.sub rfl) (State.traceDispatch_keeps (hp.sub rfl) hz1)
  · rename_i x14 x15 e16
    exact State.endPacket_keeps (hp.sub rfl) (State.punt_keeps (hp.sub rfl) (State.traceDispatch_keeps (hp.sub rfl) hz1))
  · rename_i x17 e18
    exact State.recirculate_keeps (hp.sub rfl) (State.traceDispatch_keeps (hp.sub rfl) hz1)
  · rename_i x19 e20
    extract_lets +onlyGivenNames z21 z22
    clear_value z21 z22
    refine On.ite ?_ ?_
    · exact State.crossToTm_keeps (hp.sub rfl) (State.traceDispatch_keeps (hp.sub rfl) hz1)
    · split
      · rename_i x23 x24 x25 e26 e27
        exact State.toMac_keeps (hp.sub rfl) (State.traceDispatch_keeps (hp.sub rfl) hz1)
      · rename_i x28 x29 e30
        exact State.endPacket_keeps (hp.sub rfl) (State.bump_keeps (hp.sub rfl) (hp.sub rfl) (State.traceDispatch_keeps (hp.sub rfl) hz1))

theorem execPassDispatch_keeps {s0 : State} {ps : Nat} {n : Nat} {egress : Bool} {full : Bool} {s : State} (hp : Covers ps 0x1010300000001000100004003000000000008000000030000000001f77fa2) (hs : On inS ps s0 s) :
    On inNext ps s0 (execPassDispatch n egress full s) := by
  delta execPassDispatch
  refine On.next ?_
  extract_lets +onlyGivenNames z1
  clear_value z1
  split
  · rename_i x2 e3
    exact hs
  · rename_i x4 x5 x6 e7
    extract_lets +onlyGivenNames z8
    clear_value (ez8 : z8 = _)
    refine On.letS (ps := ps) (s0 := s0) ez8 ?_ fun hz8 => ?_
    · exact State.reach_keeps (hp.sub rfl) hs
    extract_lets +onlyGivenNames z9
    clear_value z9
    refine On.ite ?_ ?_
    · exact State.setSlice_keeps (hp.sub rfl) hz8
    · exact State.dispatchPass_keeps (hp.sub rfl) (State.setSlice_keeps (hp.sub rfl) hz8)

theorem execDgHoldClear_keeps {s0 : State} {ps : Nat} {n : Nat} {s : State} (hp : Covers ps 0x1010300000001000100004003000000000008000000030000000001f37fa2) (hs : On inS ps s0 s) :
    On inNext ps s0 (execDgHoldClear n s) := by
  delta execDgHoldClear
  refine On.next ?_
  extract_lets +onlyGivenNames z1
  clear_value z1
  refine On.ite ?_ ?_
  · exact hs
  · refine On.foldl ?_ ?_
    · exact State.setSlice_keeps (hp.sub rfl) hs
    · intro x2 x3 h4
      exact State.dispatchPass_keeps (hp.sub rfl) h4

theorem State.sleepFe_keeps {s0 : State} {ps : Nat} {s : State} {n : Nat} (hp : Covers ps 0x20000000000100020) (hs : On inS ps s0 s) :
    On inS ps s0 (State.sleepFe s n) := by
  delta State.sleepFe
  extract_lets +onlyGivenNames z1
  clear_value z1
  extract_lets +onlyGivenNames z2
  clear_value (ez2 : z2 = _)
  refine On.letS (ps := ps) (s0 := s0) ez2 ?_ fun hz2 => ?_
  · exact State.setSlice_keeps (hp.sub rfl) hs
  exact State.setDomain_keeps (hp.sub rfl) (State.setDomain_keeps (hp.sub rfl) (State.setDomain_keeps (hp.sub rfl) hz2))

theorem State.sleepTm_keeps {s0 : State} {ps : Nat} {s : State} {n : Nat} (hp : Covers ps 0x20000000000100020) (hs : On inS ps s0 s) :
    On inS ps s0 (State.sleepTm s n) := by
  delta State.sleepTm
  extract_lets +onlyGivenNames z1
  clear_value z1
  extract_lets +onlyGivenNames z2
  clear_value (ez2 : z2 = _)
  refine On.letS (ps := ps) (s0 := s0) ez2 ?_ fun hz2 => ?_
  · refine On.ite ?_ ?_
    · exact State.setDomain_keeps (hp.sub rfl) (State.setDomain_keeps (hp.sub rfl) (State.setSlice_keeps (hp.sub rfl) hs))
    · exact hs
  refine On.ite ?_ ?_
  · exact State.setDomain_keeps (hp.sub rfl) hz2
  · exact hz2

theorem execSliceIdleExpiry_keeps {s0 : State} {ps : Nat} {n : Nat} {s : State} (hp : Covers ps 0x20000000000140020) (hs : On inS ps s0 s) :
    On inNext ps s0 (execSliceIdleExpiry n s) := by
  delta execSliceIdleExpiry
  refine On.next ?_
  extract_lets +onlyGivenNames z1
  clear_value z1
  refine On.ite ?_ ?_
  · exact hs
  · refine On.ite ?_ ?_
    · refine On.ite ?_ ?_
      · exact hs
      · exact State.sleepTm_keeps (hp.sub rfl) hs
    · refine On.ite ?_ ?_
      · exact hs
      · exact State.sleepTm_keeps (hp.sub rfl) (State.sleepFe_keeps (hp.sub rfl) (State.reach_keeps (hp.sub rfl) hs))

theorem execSwitchingSlotGrant_keeps {s0 : State} {ps : Nat} {s : State} (hp : Covers ps 0x40020) (hs : On inS ps s0 s) :
    On inNext ps s0 (execSwitchingSlotGrant s) := by
  delta execSwitchingSlotGrant
  refine On.next ?_
  split
  · rename_i x1 e2
    exact hs
  · rename_i x3 x4 x5 e6
    extract_lets +onlyGivenNames z7
    clear_value z7
    extract_lets +onlyGivenNames z8
    clear_value (ez8 : z8 = _)
    refine On.letS (ps := ps) (s0 := s0) ez8 ?_ fun hz8 => ?_
    · refine On.ite ?_ ?_
      · exact hs
      · exact State.reach_keeps (hp.sub rfl) hs
    exact State.setSlice_keeps (hp.sub rfl) hz8

theorem State.wakeSlice_keeps {s0 : State} {ps : Nat} {s : State} {n : Nat} (hp : Covers ps 0x20000000000100020) (hs : On inS ps s0 s) :
    On inS ps s0 (State.wakeSlice s n) := by
  delta State.wakeSlice
  extract_lets +onlyGivenNames z1
  clear_value z1
  extract_lets +onlyGivenNames z2
  clear_value (ez2 : z2 = _)
  refine On.letS (ps := ps) (s0 := s0) ez2 ?_ fun hz2 => ?_
  · exact State.setSlice_keeps (hp.sub rfl) hs
  refine On.foldl ?_ ?_
  · exact hz2
  · intro x3 x4 h5
    refine On.ite ?_ ?_
    · exact State.setDomain_keeps (hp.sub rfl) h5
    · exact h5

theorem execSliceWakeDone_keeps {s0 : State} {ps : Nat} {n : Nat} {s : State} (hp : Covers ps 0x10100000000000000000000000000000000000000030000000000363020) (hs : On inS ps s0 s) :
    On inNext ps s0 (execSliceWakeDone n s) := by
  delta execSliceWakeDone
  refine On.next ?_
  extract_lets +onlyGivenNames z1
  clear_value z1
  split
  · rename_i x2 x3 x4 x5 e6 e7
    extract_lets +onlyGivenNames z8
    clear_value (ez8 : z8 = _)
    refine On.letS (ps := ps) (s0 := s0) ez8 ?_ fun hz8 => ?_
    · exact State.wakeSlice_keeps (hp.sub rfl) (State.reach_keeps (hp.sub rfl) hs)
    refine On.ite ?_ ?_
    · exact State.wakeLate_keeps (hp.sub rfl) hz8
    · exact hz8
  · rename_i x9 x10 e11
    exact hs

end Sys2Proof.Machine
end

