-- ==== Sys2Proof/Laws/KeepsStewards.lean ====
section
/-! SUPPORT. Sys2Proof/Laws/KeepsStewards.lean: what the operations of Machine/Stewards.lean keep, whatever they do. -/

namespace Sys2Proof.Machine

theorem State.setCore_keeps {s0 : State} {ps : Nat} {s : State} {c : Nat} {x : Core} (hp : Covers ps 0x2000) (hs : On inS ps s0 s) :
    On inS ps s0 (State.setCore s c x) := by
  delta State.setCore
  refine On.mk (s := s) ?_ .k .k .k .k .k .k .k .k .k .k .k .k .k (.c (hp.sub rfl)) .k .k .k
  exact hs

theorem State.setNmi_keeps {s0 : State} {ps : Nat} {s : State} {die : Nat} {x : Nmi} (hp : Covers ps 0x2000) (hs : On inS ps s0 s) :
    On inS ps s0 (State.setNmi s die x) := by
  delta State.setNmi
  refine On.ite ?_ ?_
  · refine On.mk (s := s) ?_ .k .k .k .k .k .k .k .k .k .k .k .k .k (.c (hp.sub rfl)) .k .k .k
    exact hs
  · refine On.mk (s := s) ?_ .k .k .k .k .k .k .k .k .k .k .k .k .k (.c (hp.sub rfl)) .k .k .k
    exact hs

theorem State.runThread_keeps {s0 : State} {ps : Nat} {s : State} {t : Nat} {x : Thread} (hp : Covers ps 0x20000000000102000) (hs : On inS ps s0 s) :
    On inS ps s0 (State.runThread s t x) := by
  delta State.runThread
  extract_lets +onlyGivenNames z1 z2 z3
  clear_value z1 z2 z3
  extract_lets +onlyGivenNames z4
  clear_value (ez4 : z4 = _)
  refine On.letS (ps := ps) (s0 := s0) ez4 ?_ fun hz4 => ?_
  · exact State.setNmi_keeps (hp.sub rfl) (State.setThread_keeps (hp.sub rfl) hs)
  exact State.setDomain_keeps (hp.sub rfl) (State.setCore_keeps (hp.sub rfl) hz4)

theorem State.noteIdle_keeps {s0 : State} {ps : Nat} {s : State} {t : Nat} (hp : Covers ps 0x2000) (hs : On inS ps s0 s) :
    On inS ps s0 (State.noteIdle s t) := by
  delta State.noteIdle
  extract_lets +onlyGivenNames z1
  clear_value z1
  refine On.ite ?_ ?_
  · exact State.setCore_keeps (hp.sub rfl) hs
  · exact hs

theorem State.retireTrace_keeps {s0 : State} {ps : Nat} {s : State} {t : Nat} {word : Nat} {value : Nat} {exception : Bool} (hp : Covers ps 0x10000000000000000000000000000000000000000000000000000302000) (hs : On inS ps s0 s) :
    On inS ps s0 (State.retireTrace s t word value exception) := by
  delta State.retireTrace
  extract_lets +onlyGivenNames z1 z2
  clear_value z1 z2
  refine On.ite ?_ ?_
  · exact hs
  · extract_lets +onlyGivenNames z3 z4
    clear_value z3 z4
    split
    · rename_i x5 x6 x7 e8
      extract_lets +onlyGivenNames z9
      clear_value (ez9 : z9 = _)
      refine On.letS (ps := ps) (s0 := s0) ez9 ?_ fun hz9 => ?_
      · exact State.setCore_keeps (hp.sub rfl) hs
      refine On.ite ?_ ?_
      · exact hz9
      · exact State.pushRing_keeps (hp.sub rfl) hz9

theorem State.retire_keeps {s0 : State} {ps : Nat} {s : State} {t : Nat} {rd : Nat} {word : Nat} {value : Nat} (hp : Covers ps 0x10000000000000000000000000000000000000000000000000000302000) (hs : On inS ps s0 s) :
    On inS ps s0 (State.retire s t rd word value) := by
  delta State.retire
  extract_lets +onlyGivenNames z1
  clear_value (ez1 : z1 = _)
  refine On.letS (ps := ps) (s0 := s0) ez1 ?_ fun hz1 => ?_
  · exact State.retireTrace_keeps (hp.sub rfl) hs
  extract_lets +onlyGivenNames z2
  clear_value z2
  exact State.setThread_keeps (hp.sub rfl) hz1

theorem State.faultThread_keeps {s0 : State} {ps : Nat} {s : State} {t : Nat} {cause : Nat} (hp : Covers ps 0x1000000010000000000000000000000000000000000000000000000c12004) (hs : On inS ps s0 s) :
    On inS ps s0 (State.faultThread s t cause) := by
  delta State.faultThread
  extract_lets +onlyGivenNames z1
  clear_value z1
  extract_lets +onlyGivenNames z2
  clear_value (ez2 : z2 = _)
  refine On.letS (ps := ps) (s0 := s0) ez2 ?_ fun hz2 => ?_
  · exact State.setReg_keeps (.either (hp.sub rfl) (hp.sub rfl)) (State.setThread_keeps (hp.sub rfl) hs)
  extract_lets +onlyGivenNames z3
  clear_value z3
  extract_lets +onlyGivenNames z4
  clear_value (ez4 : z4 = _)
  refine On.letS (ps := ps) (s0 := s0) ez4 ?_ fun hz4 => ?_
  · exact State.healthFree_keeps (hp.sub rfl) hz2
  extract_lets +onlyGivenNames z5
  clear_value (ez5 : z5 = _)
  refine On.letS (ps := ps) (s0 := s0) ez5 ?_ fun hz5 => ?_
  · refine On.ite ?_ ?_
    · exact hz4
    · exact State.trialUnhealthy_keeps (hp.sub rfl) hz4
  refine On.ite ?_ ?_
  · exact hz5
  · exact State.signalThread_keeps (hp.sub rfl) hz5

theorem State.trapThread_keeps {s0 : State} {ps : Nat} {s : State} {t : Nat} {cause : Nat} (hp : Covers ps 0x1010000010000000000000000000000000000000000000000000000f12004) (hs : On inS ps s0 s) :
    On inS ps s0 (State.trapThread s t cause) := by
  delta State.trapThread
  extract_lets +onlyGivenNames z1
  clear_value z1
  extract_lets +onlyGivenNames z2
  clear_value (ez2 : z2 = _)
  refine On.letS (ps := ps) (s0 := s0) ez2 ?_ fun hz2 => ?_
  · exact State.retireTrace_keeps (hp.sub rfl) hs
  refine On.ite ?_ ?_
  · exact State.faultThread_keeps (hp.sub rfl) hz2
  · exact State.setThread_keeps (hp.sub rfl) hz2

theorem State.takeInterrupt_keeps {s0 : State} {ps : Nat} {s : State} {t : Nat} (hp : Covers ps 0x2000) (hs : On inS ps s0 s) :
    On inS ps s0 (State.takeInterrupt s t) := by
  delta State.takeInterrupt
  extract_lets +onlyGivenNames z1 z2
  clear_value z1 z2
  exact State.setThread_keeps (hp.sub rfl) hs

theorem State.endWait_keeps {s0 : State} {ps : Nat} {s : State} {t : Nat} {rd : Nat} {mask : Nat} (hp : Covers ps 0x10000000000000000000000000000000000000000020000000000302000) (hs : On inS ps s0 s) :
    On inS ps s0 (State.endWait s t rd mask) := by
  delta State.endWait
  extract_lets +onlyGivenNames z1 z2
  clear_value z1 z2
  extract_lets +onlyGivenNames z3
  clear_value (ez3 : z3 = _)
  refine On.letS (ps := ps) (s0 := s0) ez3 ?_ fun hz3 => ?_
  · exact State.setThread_keeps (hp.sub rfl) hs
  extract_lets +onlyGivenNames z4
  clear_value (ez4 : z4 = _)
  refine On.letS (ps := ps) (s0 := s0) ez4 ?_ fun hz4 => ?_
  · exact State.retire_keeps (hp.sub rfl) hz3
  exact State.runThread_keeps (hp.sub rfl) hz4

theorem State.startThread_keeps {s0 : State} {ps : Nat} {s : State} {master : Nat} {t : Nat} {pc : Nat} (hp : Covers ps 0x20000000000102000) (hs : On inS ps s0 s) :
    On inS ps s0 (State.startThread s master t pc) := by
  delta State.startThread
  extract_lets +onlyGivenNames z1
  clear_value z1
  exact State.runThread_keeps (hp.sub rfl) hs

theorem execTstart_keeps {s0 : State} {ps : Nat} {t : Nat} {rd : Nat} {target : Nat} {addr : Nat} {s : State} (hp : Covers ps 0x10000000000000000000000000000000000000000020000000000302000) (hs : On inS ps s0 s) :
    On inNext ps s0 (execTstart t rd target addr s) := by
  delta execTstart
  refine On.next ?_
  refine On.ite ?_ ?_
  · exact hs
  · extract_lets +onlyGivenNames z1
    extract_lets +onlyGivenNames z2
    extract_lets +onlyGivenNames z3
    clear_value (ez3 : z3 = _)
    refine On.letS (ps := ps) (s0 := s0) ez3 ?_ fun hz3 => ?_
    · refine On.ite ?_ ?_
      · exact State.startThread_keeps (hp.sub rfl) hs
      · exact hs
    exact State.retire_keeps (hp.sub rfl) hz3

theorem State.stopThread_keeps {s0 : State} {ps : Nat} {s : State} {t : Nat} (hp : Covers ps 0x2000) (hs : On inS ps s0 s) :
    On inS ps s0 (State.stopThread s t) := by
  delta State.stopThread
  exact State.noteIdle_keeps (hp.sub rfl) (State.setThread_keeps (hp.sub rfl) hs)

theorem execTstop_keeps {s0 : State} {ps : Nat} {t : Nat} {rd : Nat} {target : Nat} {s : State} (hp : Covers ps 0x10000000000000000000000000000000000000000000000000000302000) (hs : On inS ps s0 s) :
    On inNext ps s0 (execTstop t rd target s) := by
  delta execTstop
  refine On.next ?_
  refine On.ite ?_ ?_
  · exact hs
  · extract_lets +onlyGivenNames z1 z2
    clear_value z1 z2
    extract_lets +onlyGivenNames z3
    clear_value (ez3 : z3 = _)
    refine On.letS (ps := ps) (s0 := s0) ez3 ?_ fun hz3 => ?_
    · exact State.retire_keeps (hp.sub rfl) hs
    refine On.ite ?_ ?_
    · exact hz3
    · exact State.stopThread_keeps (hp.sub rfl) hz3

theorem execTsig_keeps {s0 : State} {ps : Nat} {t : Nat} {rd : Nat} {target : Nat} {bits : Nat} {s : State} (hp : Covers ps 0x10000000000000000000000000000000000000000000000000000302000) (hs : On inS ps s0 s) :
    On inNext ps s0 (execTsig t rd target bits s) := by
  delta execTsig
  refine On.next ?_
  refine On.ite ?_ ?_
  · exact hs
  · extract_lets +onlyGivenNames z1
    extract_lets +onlyGivenNames z2
    extract_lets +onlyGivenNames z3
    clear_value (ez3 : z3 = _)
    refine On.letS (ps := ps) (s0 := s0) ez3 ?_ fun hz3 => ?_
    · refine On.ite ?_ ?_
      · exact State.signalThread_keeps (hp.sub rfl) hs
      · exact hs
    exact State.retire_keeps (hp.sub rfl) hz3

theorem execTwfe_keeps {s0 : State} {ps : Nat} {t : Nat} {rd : Nat} {mask : Nat} {s : State} (hp : Covers ps 0x10000000000000000000000000000000000000000020000000000302000) (hs : On inS ps s0 s) :
    On inNext ps s0 (execTwfe t rd mask s) := by
  delta execTwfe
  refine On.next ?_
  refine On.ite ?_ ?_
  · exact hs
  · refine On.ite ?_ ?_
    · exact State.endWait_keeps (hp.sub rfl) hs
    · exact State.setThread_keeps (hp.sub rfl) hs

theorem execTpoll_keeps {s0 : State} {ps : Nat} {t : Nat} {rd : Nat} {mask : Nat} {s : State} (hp : Covers ps 0x10000000000000000000000000000000000000000000000000000302000) (hs : On inS ps s0 s) :
    On inNext ps s0 (execTpoll t rd mask s) := by
  delta execTpoll
  refine On.next ?_
  refine On.ite ?_ ?_
  · exact hs
  · extract_lets +onlyGivenNames z1 z2
    clear_value z1 z2
    exact State.retire_keeps (hp.sub rfl) (State.setThread_keeps (hp.sub rfl) hs)

theorem execTyield_keeps {s0 : State} {ps : Nat} {t : Nat} {s : State} (hp : Covers ps 0x10000000000000000000000000000000000000000000000000000302000) (hs : On inS ps s0 s) :
    On inNext ps s0 (execTyield t s) := by
  delta execTyield
  refine On.next ?_
  refine On.ite ?_ ?_
  · exact hs
  · extract_lets +onlyGivenNames z1
    clear_value (ez1 : z1 = _)
    refine On.letS (ps := ps) (s0 := s0) ez1 ?_ fun hz1 => ?_
    · exact State.retire_keeps (hp.sub rfl) hs
    exact State.setThread_keeps (hp.sub rfl) hz1

theorem execTstat_keeps {s0 : State} {ps : Nat} {t : Nat} {rd : Nat} {target : Nat} {s : State} (hp : Covers ps 0x10000000000000000000000000000000000000000000000000000302000) (hs : On inS ps s0 s) :
    On inNext ps s0 (execTstat t rd target s) := by
  delta execTstat
  refine On.next ?_
  refine On.ite ?_ ?_
  · exact hs
  · extract_lets +onlyGivenNames z1 z2
    clear_value z1 z2
    exact State.retire_keeps (hp.sub rfl) hs

theorem execThreadWake_keeps {s0 : State} {ps : Nat} {t : Nat} {s : State} (hp : Covers ps 0x10000000000000000000000000000000000000000020000000000302000) (hs : On inS ps s0 s) :
    On inNext ps s0 (execThreadWake t s) := by
  delta execThreadWake
  refine On.next ?_
  extract_lets +onlyGivenNames z1
  clear_value z1
  refine On.ite ?_ ?_
  · exact hs
  · split
    · rename_i x2 x3 x4 x5 e6 e7
      refine On.ite ?_ ?_
      · exact State.endWait_keeps (hp.sub rfl) hs
      · refine On.ite ?_ ?_
        · exact State.takeInterrupt_keeps (hp.sub rfl) (State.endWait_keeps (hp.sub rfl) hs)
        · exact hs
    · rename_i x8 x9 e10
      refine On.ite ?_ ?_
      · exact State.takeInterrupt_keeps (hp.sub rfl) hs
      · exact hs
    · rename_i x11 x12 e13 e14
      exact hs

theorem execTcmpExpiry_keeps {s0 : State} {ps : Nat} {t : Nat} {s : State} (hp : Covers ps 0x42000) (hs : On inS ps s0 s) :
    On inNext ps s0 (execTcmpExpiry t s) := by
  delta execTcmpExpiry
  refine On.next ?_
  split
  · rename_i x1 e2
    exact hs
  · rename_i x3 x4 e5
    exact State.signalThread_keeps (hp.sub rfl) (State.setThread_keeps (hp.sub rfl) (State.reach_keeps (hp.sub rfl) hs))

theorem execTwdogExpiry_keeps {s0 : State} {ps : Nat} {t : Nat} {s : State} (hp : Covers ps 0x1000000010000000000000000000000000000000000000000000000d52004) (hs : On inS ps s0 s) :
    On inNext ps s0 (execTwdogExpiry t s) := by
  delta execTwdogExpiry
  refine On.next ?_
  split
  · rename_i x1 e2
    exact hs
  · rename_i x3 x4 e5
    extract_lets +onlyGivenNames z6
    clear_value z6
    extract_lets +onlyGivenNames z7
    clear_value (ez7 : z7 = _)
    refine On.letS (ps := ps) (s0 := s0) ez7 ?_ fun hz7 => ?_
    · exact State.healthFree_keeps (hp.sub rfl) (State.bump_keeps (hp.sub rfl) (hp.sub rfl) (State.setThread_keeps (hp.sub rfl) (State.reach_keeps (hp.sub rfl) hs)))
    refine On.ite ?_ ?_
    · exact State.faultThread_keeps (hp.sub rfl) hz7
    · exact State.signalThread_keeps (hp.sub rfl) hz7

theorem execThreadFault_keeps {s0 : State} {ps : Nat} {t : Nat} {cause : Nat} {s : State} (hp : Covers ps 0x1010000010000000000000000000000000000000000000000000000f12004) (hs : On inS ps s0 s) :
    On inNext ps s0 (execThreadFault t cause s) := by
  delta execThreadFault
  refine On.next ?_
  refine On.ite ?_ ?_
  · exact hs
  · exact State.trapThread_keeps (hp.sub rfl) hs

theorem execThread0Failure_keeps {s0 : State} {ps : Nat} {die : Nat} {s : State} (hp : Covers ps 0xffffffffffffffffffffffffffffffffffffffffffffffffffffffffffffffff03fbffff) (hs : On inS ps s0 s) :
    On inNext ps s0 (execThread0Failure die s) := by
  delta execThread0Failure
  refine On.next ?_
  refine On.ite ?_ ?_
  · exact hs
  · extract_lets +onlyGivenNames z1
    clear_value (ez1 : z1 = _)
    refine On.letS (ps := ps) (s0 := s0) ez1 ?_ fun hz1 => ?_
    · exact State.healthFree_keeps (hp.sub rfl) (State.trialUnhealthy_keeps (hp.sub rfl) (State.bump_keeps (hp.sub rfl) (hp.sub rfl) hs))
    refine On.ite ?_ ?_
    · exact State.failTrial_keeps (hp.sub rfl) hz1
    · exact State.warmRestart_keeps (hp.sub rfl) hz1

theorem execSlackWater_keeps {s0 : State} {ps : Nat} {die : Nat} {s : State} (hp : Covers ps 0x1010100010000000000000000000000000000000000000000000000f33004) (hs : On inS ps s0 s) :
    On inNext ps s0 (execSlackWater die s) := by
  delta execSlackWater
  refine On.next ?_
  extract_lets +onlyGivenNames z1
  clear_value z1
  refine On.ite ?_ ?_
  · exact hs
  · extract_lets +onlyGivenNames z2 z3
    clear_value z2 z3
    extract_lets +onlyGivenNames z4
    clear_value (ez4 : z4 = _)
    refine On.letS (ps := ps) (s0 := s0) ez4 ?_ fun hz4 => ?_
    · exact State.setNmi_keeps (hp.sub rfl) (State.setReg_keeps (hp.sub rfl) (State.bump_keeps (hp.sub rfl) (hp.sub rfl) hs))
    extract_lets +onlyGivenNames z5
    clear_value (ez5 : z5 = _)
    refine On.letS (ps := ps) (s0 := s0) ez5 ?_ fun hz5 => ?_
    · exact State.raiseEvent_keeps (hp.sub rfl) (State.trialUnhealthy_keeps (hp.sub rfl) (State.healthFree_keeps (hp.sub rfl) hz4))
    refine On.ite ?_ ?_
    · exact hz5
    · extract_lets +onlyGivenNames z6 z7
      clear_value z6 z7
      extract_lets +onlyGivenNames z8
      clear_value (ez8 : z8 = _)
      refine On.letS (ps := ps) (s0 := s0) ez8 ?_ fun hz8 => ?_
      · exact State.setNmi_keeps (hp.sub rfl) hz5
      exact State.setThread_keeps (hp.sub rfl) hz8

theorem execCoreRetainExpiry_keeps {s0 : State} {ps : Nat} {c : Nat} {s : State} (hp : Covers ps 0x20000000000142000) (hs : On inS ps s0 s) :
    On inNext ps s0 (execCoreRetainExpiry c s) := by
  delta execCoreRetainExpiry
  refine On.next ?_
  extract_lets +onlyGivenNames z1
  clear_value z1
  refine On.ite ?_ ?_
  · exact hs
  · extract_lets +onlyGivenNames z2
    clear_value (ez2 : z2 = _)
    refine On.letS (ps := ps) (s0 := s0) ez2 ?_ fun hz2 => ?_
    · split
      · rename_i x3 x4 e5
        exact State.reach_keeps (hp.sub rfl) hs
      · rename_i x6 e7
        exact hs
    exact State.setDomain_keeps (hp.sub rfl) (State.setCore_keeps (hp.sub rfl) hz2)

theorem execDebugHalt_keeps {s0 : State} {ps : Nat} {ts : List Nat} {s : State} (hp : Covers ps 0x2000) (hs : On inS ps s0 s) :
    On inNext ps s0 (execDebugHalt ts s) := by
  delta execDebugHalt
  refine On.next ?_
  refine On.foldl ?_ ?_
  · exact hs
  · intro x1 x2 h3
    extract_lets +onlyGivenNames z4
    clear_value z4
    refine On.ite ?_ ?_
    · exact State.setThread_keeps (hp.sub rfl) h3
    · exact h3

theorem execDebugResume_keeps {s0 : State} {ps : Nat} {ts : List Nat} {s : State} (hp : Covers ps 0x10000000000000000000000000000000000000000020000000000302000) (hs : On inS ps s0 s) :
    On inNext ps s0 (execDebugResume ts s) := by
  delta execDebugResume
  refine On.next ?_
  refine On.foldl ?_ ?_
  · exact hs
  · intro x1 x2 h3
    extract_lets +onlyGivenNames z4
    clear_value z4
    refine On.ite ?_ ?_
    · exact h3
    · extract_lets +onlyGivenNames z5
      clear_value z5
      split
      · rename_i x6 x7 x8 e9
        refine On.ite ?_ ?_
        · exact State.setThread_keeps (hp.sub rfl) h3
        · exact State.endWait_keeps (hp.sub rfl) (State.setThread_keeps (hp.sub rfl) h3)
      · rename_i x10 e11
        exact State.runThread_keeps (hp.sub rfl) h3

theorem State.rebuildSlots_keeps {s0 : State} {ps : Nat} {s : State} {c : Nat} (hp : Covers ps 0x2000) (hs : On inS ps s0 s) :
    On inS ps s0 (State.rebuildSlots s c) := by
  delta State.rebuildSlots
  extract_lets +onlyGivenNames z1 z2
  clear_value z1 z2
  exact State.setCore_keeps (hp.sub rfl) hs

theorem threadWeightEffect_keeps {s0 : State} {ps : Nat} {t : Nat} {c : List Byte} {s : State} (hp : Covers ps 0x10000000000000000000000000000000000000000000000002000) (hs : On inS ps s0 s) :
    On (inSnd inS) ps s0 (threadWeightEffect t c s) := by
  delta threadWeightEffect
  extract_lets +onlyGivenNames z1
  clear_value z1
  refine On.ite ?_ ?_
  · exact On.pair hs
  · extract_lets +onlyGivenNames z2
    clear_value (ez2 : z2 = _)
    refine On.letS (ps := ps) (s0 := s0) ez2 ?_ fun hz2 => ?_
    · refine On.ite ?_ ?_
      · exact State.setReg_keeps (hp.sub rfl) hs
      · exact State.setReg_keeps (hp.sub rfl) hs
    exact On.pair (State.rebuildSlots_keeps (hp.sub rfl) hz2)

theorem execThreadWeight_keeps {s0 : State} {ps : Nat} {o : Origin} {tm : Bool} {n : Nat} {v : List Byte} {s : State} (hp : Covers ps 0x10000000000000000000000000000000000000000000000022209) (hs : On inS ps s0 s) :
    On inNext ps s0 (execThreadWeight o tm n v s) := by
  delta execThreadWeight
  refine On.next ?_
  refine State.runWrite_keeps (hp.sub rfl) ?_ ?_
  · exact hs
  · intro x1 x2 h3
    exact threadWeightEffect_keeps (hp.sub rfl) h3

theorem puntQueueEffect_keeps {s0 : State} {ps : Nat} {tm : Bool} {n : Nat} {c : List Byte} {s : State} (hp : Covers ps 0x10000000000000000000000000000000000000000000000002000) (hs : On inS ps s0 s) :
    On (inSnd inS) ps s0 (puntQueueEffect tm n c s) := by
  delta puntQueueEffect
  extract_lets +onlyGivenNames z1 z2 z3 z4 z5 z6 z7
  clear_value z1 z2 z3 z4 z5 z6 z7
  refine On.ite ?_ ?_
  · exact On.pair hs
  · extract_lets +onlyGivenNames z8
    clear_value z8
    refine On.ite ?_ ?_
    · exact On.pair hs
    · exact On.pair (State.setThread_keeps (hp.sub rfl) (State.setOct_keeps (.either (hp.sub rfl) (hp.sub rfl)) hs))

theorem execPuntQueue_keeps {s0 : State} {ps : Nat} {o : Origin} {tm : Bool} {n : Nat} {v : List Byte} {s : State} (hp : Covers ps 0x10000000000000000000000000000000000000000000000022209) (hs : On inS ps s0 s) :
    On inNext ps s0 (execPuntQueue o tm n v s) := by
  delta execPuntQueue
  refine On.next ?_
  refine State.runWrite_keeps (hp.sub rfl) ?_ ?_
  · exact hs
  · intro x1 x2 h3
    exact puntQueueEffect_keeps (hp.sub rfl) h3

theorem integratorWindowEffect_keeps {s0 : State} {ps : Nat} {nn : Nat} {c : List Byte} {s : State} (hp : Covers ps 0x10000000000000000000000000000000000000000000000000000) (hs : On inS ps s0 s) :
    On (inSnd inS) ps s0 (integratorWindowEffect nn c s) := by
  delta integratorWindowEffect
  extract_lets +onlyGivenNames z1
  clear_value z1
  refine On.ite ?_ ?_
  · exact On.pair hs
  · refine On.ite ?_ ?_
    · exact On.pair hs
    · exact On.pair (State.setOct_keeps (hp.sub rfl) hs)

theorem integratorRestartEffect_keeps {s0 : State} {ps : Nat} {c : List Byte} {s : State} (hp : Covers ps 0x20000000000102000) (hs : On inS ps s0 s) :
    On (inSnd inS) ps s0 (integratorRestartEffect c s) := by
  delta integratorRestartEffect
  extract_lets +onlyGivenNames z1 z2 z3
  clear_value z1 z2 z3
  refine On.ite ?_ ?_
  · exact On.pair hs
  · refine On.ite ?_ ?_
    · exact On.pair hs
    · exact On.pair (State.startThread_keeps (hp.sub rfl) hs)

theorem execIntegratorRestart_keeps {s0 : State} {ps : Nat} {o : Origin} {v : List Byte} {s : State} (hp : Covers ps 0x20000000000122209) (hs : On inS ps s0 s) :
    On inNext ps s0 (execIntegratorRestart o v s) := by
  delta execIntegratorRestart
  refine On.next ?_
  refine State.runWrite_keeps (hp.sub rfl) ?_ ?_
  · exact hs
  · intro x1 x2 h3
    exact integratorRestartEffect_keeps (hp.sub rfl) h3

end Sys2Proof.Machine
end

