-- ==== Sys2Proof/Laws/KeepsMailbox.lean ====
section
/-! SUPPORT. Sys2Proof/Laws/KeepsMailbox.lean: what the operations of Machine/Mailbox.lean keep, whatever they do. -/

namespace Sys2Proof.Machine

theorem State.setMailbox_keeps {s0 : State} {ps : Nat} {s : State} {m : Nat} {b : Mailbox} (hp : Covers ps 0x1000) (hs : On inS ps s0 s) :
    On inS ps s0 (State.setMailbox s m b) := by
  delta State.setMailbox
  refine On.mk (s := s) ?_ .k .k .k .k .k .k .k .k .k .k .k .k (.c (hp.sub rfl)) .k .k .k .k
  exact hs

theorem State.putMailbox_keeps {s0 : State} {ps : Nat} {s : State} {m : Nat} {b : Mailbox} (hp : Covers ps 0x1000) (hs : On inS ps s0 s) :
    On inS ps s0 (State.putMailbox s m b) := by
  delta State.putMailbox
  exact State.setMailbox_keeps (hp.sub rfl) hs

theorem State.ringEnd_keeps {s0 : State} {ps : Nat} {s : State} {m : Nat} {side : Nat} {empty : Bool} (hp : Covers ps 0x23000) (hs : On inS ps s0 s) :
    On inS ps s0 (State.ringEnd s m side empty) := by
  delta State.ringEnd
  extract_lets +onlyGivenNames z1 z2 z3
  clear_value z1 z2 z3
  refine On.ite ?_ ?_
  · exact hs
  · exact State.ringSet_keeps (hp.sub rfl) hs

theorem State.rejectWrite_keeps {s0 : State} {ps : Nat} {s : State} {master : Nat} {m : Nat} {d : Nat} (hp : Covers ps 0x1010000010100000000000000000000000000000000000000000000f13004) (hs : On inS ps s0 s) :
    On inS ps s0 (State.rejectWrite s master m d) := by
  delta State.rejectWrite
  extract_lets +onlyGivenNames z1
  clear_value (ez1 : z1 = _)
  refine On.letS (ps := ps) (s0 := s0) ez1 ?_ fun hz1 => ?_
  · exact State.bump_keeps (hp.sub rfl) (hp.sub rfl) hs
  refine On.ite ?_ ?_
  · exact State.trapThread_keeps (hp.sub rfl) hz1
  · extract_lets +onlyGivenNames z2
    clear_value z2
    exact State.setMailbox_keeps (hp.sub rfl) hz1

theorem State.deliver_keeps {s0 : State} {ps : Nat} {s : State} {m : Nat} {d : Nat} {x : MbDir} (hp : Covers ps 0x23000) (hs : On inS ps s0 s) :
    On inS ps s0 (State.deliver s m d x) := by
  delta State.deliver
  extract_lets +onlyGivenNames z1 z2 z3
  clear_value z1 z2 z3
  extract_lets +onlyGivenNames z4
  clear_value (ez4 : z4 = _)
  refine On.letS (ps := ps) (s0 := s0) ez4 ?_ fun hz4 => ?_
  · exact State.putMailbox_keeps (hp.sub rfl) hs
  refine On.ite ?_ ?_
  · exact State.ringEnd_keeps (hp.sub rfl) hz4
  · exact hz4

theorem execTxData_keeps {s0 : State} {ps : Nat} {master : Nat} {m : Nat} {d : Nat} {w : Nat} {s : State} (hp : Covers ps 0x1010000010100000000000000000000000000000000000000000000f33004) (hs : On inS ps s0 s) :
    On inNext ps s0 (execTxData master m d w s) := by
  delta execTxData
  refine On.next ?_
  refine On.ite ?_ ?_
  · exact hs
  · refine On.ite ?_ ?_
    · exact State.trapThread_keeps (hp.sub rfl) hs
    · extract_lets +onlyGivenNames z1 z2 z3 z4
      clear_value z1 z2 z3 z4
      split
      · rename_i x5 e6
        refine On.ite ?_ ?_
        · exact State.rejectWrite_keeps (hp.sub rfl) hs
        · extract_lets +onlyGivenNames z7
          clear_value z7
          refine On.ite ?_ ?_
          · exact State.deliver_keeps (hp.sub rfl) hs
          · exact State.setMailbox_keeps (hp.sub rfl) hs
      · rename_i x8 x9 e10
        refine On.ite ?_ ?_
        · exact State.rejectWrite_keeps (hp.sub rfl) hs
        · extract_lets +onlyGivenNames z11
          refine On.ite ?_ ?_
          · exact State.deliver_keeps (hp.sub rfl) hs
          · exact State.setMailbox_keeps (hp.sub rfl) hs

theorem execRxData_keeps {s0 : State} {ps : Nat} {master : Nat} {m : Nat} {d : Nat} {s : State} (hp : Covers ps 0x1010000010000000000000000000000000000000000000000000000f33004) (hs : On inS ps s0 s) :
    On inNext ps s0 (execRxData master m d s) := by
  delta execRxData
  refine On.next ?_
  refine On.ite ?_ ?_
  · exact hs
  · refine On.ite ?_ ?_
    · exact State.trapThread_keeps (hp.sub rfl) hs
    · extract_lets +onlyGivenNames z1 z2
      clear_value z1 z2
      split
      · rename_i x3 e4
        exact State.noteRead_keeps (hp.sub rfl) (State.setMailbox_keeps (hp.sub rfl) hs)
      · rename_i x5 x6 x7 e8
        extract_lets +onlyGivenNames z9 z10 z11
        clear_value z9 z10 z11
        extract_lets +onlyGivenNames z12
        clear_value (ez12 : z12 = _)
        refine On.letS (ps := ps) (s0 := s0) ez12 ?_ fun hz12 => ?_
        · exact State.noteRead_keeps (hp.sub rfl) (State.setMailbox_keeps (hp.sub rfl) hs)
        refine On.ite ?_ ?_
        · exact State.ringEnd_keeps (hp.sub rfl) hz12
        · exact hz12

theorem State.abandon_keeps {s0 : State} {ps : Nat} {s : State} {m : Nat} {d : Nat} (hp : Covers ps 0x100000000000000000000000000000000000000000000101000) (hs : On inS ps s0 s) :
    On inS ps s0 (State.abandon s m d) := by
  delta State.abandon
  extract_lets +onlyGivenNames z1 z2
  clear_value z1 z2
  refine On.ite ?_ ?_
  · exact hs
  · exact State.bump_keeps (hp.sub rfl) (hp.sub rfl) (State.setMailbox_keeps (hp.sub rfl) hs)

theorem execAbandon_keeps {s0 : State} {ps : Nat} {master : Nat} {m : Nat} {d : Nat} {s : State} (hp : Covers ps 0x1010000010100000000000000000000000000000000000000000000f13004) (hs : On inS ps s0 s) :
    On inNext ps s0 (execAbandon master m d s) := by
  delta execAbandon
  refine On.next ?_
  refine On.ite ?_ ?_
  · exact hs
  · refine On.ite ?_ ?_
    · exact State.trapThread_keeps (hp.sub rfl) hs
    · split
      · rename_i x1 x2 e3
        refine On.ite ?_ ?_
        · exact State.abandon_keeps (hp.sub rfl) hs
        · exact State.rejectWrite_keeps (hp.sub rfl) hs
      · rename_i x4 e5
        exact hs

theorem execMbStalemate_keeps {s0 : State} {ps : Nat} {m : Nat} {s : State} (hp : Covers ps 0x10100000100000000000000000000000000000000000000000000363000) (hs : On inS ps s0 s) :
    On inNext ps s0 (execMbStalemate m s) := by
  delta execMbStalemate
  refine On.next ?_
  extract_lets +onlyGivenNames z1
  clear_value z1
  split
  · rename_i x2 e3
    exact hs
  · rename_i x4 x5 e6
    refine On.ite ?_ ?_
    · exact hs
    · extract_lets +onlyGivenNames z7
      clear_value (ez7 : z7 = _)
      refine On.letS (ps := ps) (s0 := s0) ez7 ?_ fun hz7 => ?_
      · exact State.raiseEvent_keeps (hp.sub rfl) (State.bump_keeps (hp.sub rfl) (hp.sub rfl) (State.setMailbox_keeps (hp.sub rfl) (State.reach_keeps (hp.sub rfl) hs)))
      extract_lets +onlyGivenNames z8
      clear_value z8
      refine On.foldl ?_ ?_
      · exact hz7
      · intro x9 x10 h11
        refine On.ite ?_ ?_
        · exact State.ringSet_keeps (hp.sub rfl) h11
        · exact h11

theorem State.abandonHost_keeps {s0 : State} {ps : Nat} {s : State} (hp : Covers ps 0x100000000000000000000000000000000000000000000101000) (hs : On inS ps s0 s) :
    On inS ps s0 (State.abandonHost s) := by
  delta State.abandonHost
  refine On.foldl ?_ ?_
  · exact hs
  · intro x1 x2 h3
    refine On.foldl ?_ ?_
    · exact h3
    · intro x4 x5 h6
      refine On.ite ?_ ?_
      · exact State.abandon_keeps (hp.sub rfl) h6
      · exact h6

end Sys2Proof.Machine
end

