-- ==== Sys2Proof/Laws/KeepsMateOps.lean ====
section
/-! SUPPORT. Sys2Proof/Laws/KeepsMateOps.lean: what the operations of Machine/MateOps.lean keep, whatever they do. -/

namespace Sys2Proof.Machine

theorem State.failLane_keeps {s0 : State} {ps : Nat} {s : State} {k : Nat} (hp : Covers ps 0x1000000000000000000000000000000000000004600000000000000f3c200) (hs : On inS ps s0 s) :
    On inS ps s0 (State.failLane s k) := by
  delta State.failLane
  extract_lets +onlyGivenNames z1
  clear_value z1
  refine On.ite ?_ ?_
  · exact hs
  · extract_lets +onlyGivenNames z2 z3
    clear_value z2 z3
    extract_lets +onlyGivenNames z4
    clear_value (ez4 : z4 = _)
    refine On.letS (ps := ps) (s0 := s0) ez4 ?_ fun hz4 => ?_
    · exact State.bump_keeps (hp.sub rfl) (hp.sub rfl) (State.setReg_keeps (hp.sub rfl) hs)
    extract_lets +onlyGivenNames z5
    clear_value z5
    extract_lets +onlyGivenNames z6
    clear_value (ez6 : z6 = _)
    refine On.letS (ps := ps) (s0 := s0) ez6 ?_ fun hz6 => ?_
    · exact State.setLane_keeps (hp.sub rfl) hz4
    refine State.pumpMate_keeps (hp.sub rfl) ?_
    refine State.abortTestOn_keeps (hp.sub rfl) ?_
    refine On.mk (s := z6) ?_ .k .k .k .k .k .k .k .k .k (.m (hp.sub rfl) rfl) .k .k .k .k .k .k .k
    exact hz6

theorem State.goBackLane_keeps {s0 : State} {ps : Nat} {s : State} {k : Nat} (hp : Covers ps 0x1000000000000000000000000000000000000004600000000000000f3c200) (hs : On inS ps s0 s) :
    On inS ps s0 (State.goBackLane s k) := by
  delta State.goBackLane
  extract_lets +onlyGivenNames z1
  clear_value z1
  refine On.ite ?_ ?_
  · exact hs
  · extract_lets +onlyGivenNames z2
    clear_value (ez2 : z2 = _)
    refine On.letS (ps := ps) (s0 := s0) ez2 ?_ fun hz2 => ?_
    · exact State.bump_keeps (hp.sub rfl) (hp.sub rfl) (State.setLane_keeps (hp.sub rfl) hs)
    refine On.ite ?_ ?_
    · exact State.failLane_keeps (hp.sub rfl) hz2
    · exact State.pumpMate_keeps (hp.sub rfl) hz2

theorem State.takeBundleAck_keeps {s0 : State} {ps : Nat} {s : State} {ack : Nat} (hp : Covers ps 0x10300000001000100000000000000000000000000000000000000337300) (hs : On inS ps s0 s) :
    On inS ps s0 (State.takeBundleAck s ack) := by
  delta State.takeBundleAck
  extract_lets +onlyGivenNames z1
  refine On.ite ?_ ?_
  · exact hs
  · extract_lets +onlyGivenNames z2
    extract_lets +onlyGivenNames z3
    clear_value (ez3 : z3 = _)
    refine On.letS (ps := ps) (s0 := s0) ez3 ?_ fun hz3 => ?_
    · refine On.mk (s := s) ?_ .k .k .k .k .k .k .k .k .k (.m (hp.sub rfl) rfl) .k .k .k .k .k .k .k
      exact hs
    extract_lets +onlyGivenNames z4
    clear_value z4
    extract_lets +onlyGivenNames z5
    clear_value (ez5 : z5 = _)
    refine On.letS (ps := ps) (s0 := s0) ez5 ?_ fun hz5 => ?_
    · split
      · rename_i x6 x7
        exact State.setReg_keeps (hp.sub rfl) hz3
      · rename_i x8
        exact hz3
    extract_lets +onlyGivenNames z9
    clear_value z9
    refine State.flushGated_keeps (hp.sub rfl) ?_
    refine On.foldl ?_ ?_
    · exact hz5
    · intro x10 x11 h12
      exact State.sendRequest_keeps (hp.sub rfl) h12

theorem State.takeMateAck_keeps {s0 : State} {ps : Nat} {s : State} {k : Nat} {c : List Byte} (hp : Covers ps 0x1010300000001000100000000000000000000004600000000000000f3f300) (hs : On inS ps s0 s) :
    On inS ps s0 (State.takeMateAck s k c) := by
  delta State.takeMateAck
  extract_lets +onlyGivenNames z1 z2 z3 z4 z5 z6
  clear_value z1 z2 z3 z4 z5 z6
  extract_lets +onlyGivenNames z7
  clear_value (ez7 : z7 = _)
  refine On.letS (ps := ps) (s0 := s0) ez7 ?_ fun hz7 => ?_
  · exact State.takeBundleAck_keeps (hp.sub rfl) (State.setLane_keeps (hp.sub rfl) hs)
  refine State.pumpMate_keeps (hp.sub rfl) ?_
  refine On.ite ?_ ?_
  · exact State.goBackLane_keeps (hp.sub rfl) hz7
  · exact hz7

theorem State.rejectMate_keeps {s0 : State} {ps : Nat} {s : State} {k : Nat} {kind : Nat} (hp : Covers ps 0x20200) (hs : On inS ps s0 s) :
    On inS ps s0 (State.rejectMate s k kind) := by
  delta State.rejectMate
  extract_lets +onlyGivenNames z1
  clear_value z1
  extract_lets +onlyGivenNames z2
  clear_value (ez2 : z2 = _)
  refine On.letS (ps := ps) (s0 := s0) ez2 ?_ fun hz2 => ?_
  · exact State.setLane_keeps (hp.sub rfl) hs
  refine On.ite ?_ ?_
  · exact hz2
  · exact State.sendMate_keeps (hp.sub rfl) hz2

theorem State.drainBundle_keeps {s0 : State} {ps : Nat} {u1 : Nat} {u2 : State} (hp : Covers ps 0x200) (hu2 : On inS ps s0 u2) :
    On (inFst inS) ps s0 (State.drainBundle u1 u2) := by
  induction u1 generalizing u2 with
  | zero =>
    rw [State.drainBundle]
    exact On.pairFst hu2
  | succ v ih =>
    rw [State.drainBundle]
    split
    · rename_i x1 e2
      exact On.pairFst hu2
    · rename_i x3 x4 e5
      split
      · rename_i x6 x7 x8 e9
        refine On.got (g := (inFst inS)) (t := x7) (ps := ps) (s0 := s0) e9 rfl ?_ fun he9 => ?_
        · refine ih ?_
          refine On.mk (s := u2) ?_ .k .k .k .k .k .k .k .k .k (.m (hp.sub rfl) rfl) .k .k .k .k .k .k .k
          exact hu2
        exact On.pairFst he9

theorem State.reorderCell_keeps {s0 : State} {ps : Nat} {s : State} {b : Nat} {payload : List Byte} (hp : Covers ps 0x200) (hs : On inS ps s0 s) :
    On (inFst inS) ps s0 (State.reorderCell s b payload) := by
  delta State.reorderCell
  extract_lets +onlyGivenNames z1
  refine On.ite ?_ ?_
  · extract_lets +onlyGivenNames z2
    clear_value z2
    refine State.drainBundle_keeps (hp.sub rfl) ?_
    refine On.mk (s := s) ?_ .k .k .k .k .k .k .k .k .k (.m (hp.sub rfl) rfl) .k .k .k .k .k .k .k
    exact hs
  · exact On.pairFst hs

theorem State.recvMate_keeps {s0 : State} {ps : Nat} {s : State} {k : Nat} {c : List Byte} (hp : Covers ps 0x1010300000001000100000000000000000000004600000000000000f3f300) (hs : On inS ps s0 s) :
    On (inFst inS) ps s0 (State.recvMate s k c) := by
  delta State.recvMate
  refine On.ite ?_ ?_
  · exact On.pairFst hs
  · refine On.ite ?_ ?_
    · exact On.pairFst (State.rejectMate_keeps (hp.sub rfl) (State.bump_keeps (hp.sub rfl) (hp.sub rfl) hs))
    · extract_lets +onlyGivenNames z1
      clear_value z1
      extract_lets +onlyGivenNames z2
      clear_value (ez2 : z2 = _)
      refine On.letS (ps := ps) (s0 := s0) ez2 ?_ fun hz2 => ?_
      · exact State.takeMateAck_keeps (hp.sub rfl) hs
      refine On.ite ?_ ?_
      · exact On.pairFst hz2
      · refine On.ite ?_ ?_
        · exact On.pairFst (State.rejectMate_keeps (hp.sub rfl) hz2)
        · extract_lets +onlyGivenNames z3 z4
          clear_value z3 z4
          extract_lets +onlyGivenNames z5
          clear_value (ez5 : z5 = _)
          refine On.letS (ps := ps) (s0 := s0) ez5 ?_ fun hz5 => ?_
          · exact State.setLane_keeps (hp.sub rfl) hz2
          split
          · rename_i x6 x7 x8 e9
            refine On.got (g := (inFst inS)) (t := x7) (ps := ps) (s0 := s0) e9 rfl ?_ fun he9 => ?_
            · exact State.reorderCell_keeps (hp.sub rfl) hz5
            exact On.pairFst (State.sendMate_keeps (hp.sub rfl) he9)

theorem State.takeMark_keeps {s0 : State} {ps : Nat} {s : State} {k : Nat} {era : Nat} {done : Nat} (hp : Covers ps 0x3000000000000000000000000000000100680) (hs : On inS ps s0 s) :
    On inS ps s0 (State.takeMark s k era done) := by
  delta State.takeMark
  extract_lets +onlyGivenNames z1
  clear_value z1
  extract_lets +onlyGivenNames z2
  clear_value (ez2 : z2 = _)
  refine On.letS (ps := ps) (s0 := s0) ez2 ?_ fun hz2 => ?_
  · exact State.setPairCtx_keeps (hp.sub rfl) hs
  refine On.foldl ?_ ?_
  · exact hz2
  · intro x3 x4 h5
    split
    · rename_i x6 e7
      exact h5
    · rename_i x8 x9 e10
      exact On.fst (State.dropPackets_keeps (hp.sub rfl) h5)

theorem State.discardHeld_keeps {s0 : State} {ps : Nat} {s : State} {k : Nat} {pick : Held → Bool} (hp : Covers ps 0x100000003000000000000000000000000000000100480) (hs : On inS ps s0 s) :
    On inS ps s0 (State.discardHeld s k pick) := by
  delta State.discardHeld
  refine On.foldl ?_ ?_
  · exact hs
  · intro x1 x2 h3
    split
    · rename_i x4 x5 x6 e7
      refine On.got (g := (inFst inS)) (t := x5) (ps := ps) (s0 := s0) e7 rfl ?_ fun he7 => ?_
      · exact State.dropPackets_keeps (hp.sub rfl) h3
      exact State.count_keeps (hp.sub rfl) (hp.sub rfl) he7

theorem State.takeQueueEnd_keeps {s0 : State} {ps : Nat} {s : State} {k : Nat} {kind : Nat} {v : Nat} (hp : Covers ps 0x100000003000000000000000000000000000000100680) (hs : On inS ps s0 s) :
    On inS ps s0 (State.takeQueueEnd s k kind v) := by
  delta State.takeQueueEnd
  extract_lets +onlyGivenNames z1
  clear_value z1
  split
  · rename_i x2
    exact State.setPairCtx_keeps (hp.sub rfl) (State.discardHeld_keeps (hp.sub rfl) hs)
  · rename_i x3
    exact State.discardHeld_keeps (hp.sub rfl) (State.setPairCtx_keeps (hp.sub rfl) hs)
  · rename_i x4 e5 e6
    exact State.setPairCtx_keeps (hp.sub rfl) hs

theorem State.sendStart_keeps {s0 : State} {ps : Nat} {s : State} (hp : Covers ps 0x20200) (hs : On inS ps s0 s) :
    On inS ps s0 (State.sendStart s) := by
  delta State.sendStart
  extract_lets +onlyGivenNames z1
  clear_value (ez1 : z1 = _)
  refine On.letS (ps := ps) (s0 := s0) ez1 ?_ fun hz1 => ?_
  · refine On.foldl ?_ ?_
    · exact hs
    · intro x2 x3 h4
      extract_lets +onlyGivenNames z5 z6
      clear_value z5 z6
      exact State.setPairCtx_keeps (hp.sub rfl) h4
  extract_lets +onlyGivenNames z7 z8 z9
  clear_value z7 z8 z9
  extract_lets +onlyGivenNames z10
  clear_value (ez10 : z10 = _)
  refine On.letS (ps := ps) (s0 := s0) ez10 ?_ fun hz10 => ?_
  · refine On.foldl ?_ ?_
    · exact hz1
    · intro x11 x12 h13
      exact On.fst (State.sendRecord_keeps (hp.sub rfl) h13)
  refine State.refreshIdentity_keeps (hp.sub rfl) ?_
  refine On.mk (s := z10) ?_ .k .k .k .k .k .k .k .k .k (.m (hp.sub rfl) rfl) .k .k .k .k .k .k .k
  exact hz10

theorem State.fixSeqs_keeps {s0 : State} {ps : Nat} {s : State} (hp : Covers ps 0x80) (hs : On inS ps s0 s) :
    On inS ps s0 (State.fixSeqs s) := by
  delta State.fixSeqs
  refine On.mk (s := s) ?_ .k .k .k .k .k .k .k (.c (hp.sub rfl)) .k .k .k .k .k .k .k .k .k
  exact hs

theorem State.turnCtx_keeps {s0 : State} {ps : Nat} {s : State} {k : Nat} (hp : Covers ps 0x100) (hs : On inS ps s0 s) :
    On inS ps s0 (State.turnCtx s k) := by
  delta State.turnCtx
  extract_lets +onlyGivenNames z1 z2
  clear_value z1 z2
  exact State.setSendCtx_keeps (hp.sub rfl) hs

theorem State.judgePending_keeps {s0 : State} {ps : Nat} {s : State} (hp : Covers ps 0x10300000001000100000003000000000000000000020000000000337780) (hs : On inS ps s0 s) :
    On inS ps s0 (State.judgePending s) := by
  delta State.judgePending
  refine On.foldl ?_ ?_
  · exact hs
  · intro x1 x2 h3
    refine On.foldl ?_ ?_
    · exact h3
    · intro x4 x5 h6
      extract_lets +onlyGivenNames z7
      clear_value z7
      refine On.ite ?_ ?_
      · exact h6
      · split
        · rename_i x8 x9 x10 e11
          refine On.got (g := (inSnd inS)) (t := x10) (ps := ps) (s0 := s0) e11 rfl ?_ fun he11 => ?_
          · exact State.judge_keeps (hp.sub rfl) h6
          refine On.ite ?_ ?_
          · exact he11
          · exact State.bump_keeps (hp.sub rfl) (hp.sub rfl) he11

theorem State.channelsIdle_keeps {s0 : State} {ps : Nat} {s : State} (hp : Covers ps 0x1000) (hs : On inS ps s0 s) :
    On inS ps s0 (State.channelsIdle s) := by
  delta State.channelsIdle
  refine On.mk (s := s) ?_ .k .k .k .k .k .k .k .k .k .k .k .k (.c (hp.sub rfl)) .k .k .k .k
  exact hs

theorem State.turn_keeps {s0 : State} {ps : Nat} {s : State} {cause : Nat} (hp : Covers ps 0xffffffffffffffffffffffffffffffffffffffffffffffffffffffffffffffff03fbffff) (hs : On inS ps s0 s) :
    On inS ps s0 (State.turn s cause) := by
  delta State.turn
  refine On.ite ?_ ?_
  · exact hs
  · extract_lets +onlyGivenNames z1
    clear_value z1
    extract_lets +onlyGivenNames z2
    clear_value (ez2 : z2 = _)
    refine On.letS (ps := ps) (s0 := s0) ez2 ?_ fun hz2 => ?_
    · exact State.fixSeqs_keeps (hp.sub rfl) hs
    extract_lets +onlyGivenNames z3
    clear_value (ez3 : z3 = _)
    refine On.letS (ps := ps) (s0 := s0) ez3 ?_ fun hz3 => ?_
    · refine On.foldl ?_ ?_
      · exact hz2
      · intro x4 x5 h6
        exact State.turnCtx_keeps (hp.sub rfl) h6
    extract_lets +onlyGivenNames z7
    clear_value (ez7 : z7 = _)
    refine On.letS (ps := ps) (s0 := s0) ez7 ?_ fun hz7 => ?_
    · exact State.judgePending_keeps (hp.sub rfl) (State.applyEntries_keeps (hp.sub rfl) hz3)
    extract_lets +onlyGivenNames z8
    clear_value z8
    extract_lets +onlyGivenNames z9
    extract_lets +onlyGivenNames z10
    clear_value (ez10 : z10 = _)
    refine On.letS (ps := ps) (s0 := s0) ez10 ?_ fun hz10 => ?_
    · refine On.mk (s := z7) ?_ .k .k .k .k .k .k .k .k .k (.m (hp.sub rfl) rfl) .k .k .k .k .k .k .k
      exact hz7
    extract_lets +onlyGivenNames z11
    clear_value (ez11 : z11 = _)
    refine On.letS (ps := ps) (s0 := s0) ez11 ?_ fun hz11 => ?_
    · exact State.autoMode_keeps (hp.sub rfl) (State.setReg_keeps (hp.sub rfl) hz10)
    extract_lets +onlyGivenNames z12
    clear_value (ez12 : z12 = _)
    refine On.letS (ps := ps) (s0 := s0) ez12 ?_ fun hz12 => ?_
    · exact State.channelsIdle_keeps (hp.sub rfl) hz11
    extract_lets +onlyGivenNames z13
    clear_value (ez13 : z13 = _)
    refine On.letS (ps := ps) (s0 := s0) ez13 ?_ fun hz13 => ?_
    · refine On.foldl ?_ ?_
      · exact hz12
      · intro x14 x15 h16
        refine On.ite ?_ ?_
        · exact State.sendRequest_keeps (hp.sub rfl) h16
        · exact h16
    split
    · rename_i x17 x18 x19 e20
      refine On.got (g := (inSnd inS)) (t := x19) (ps := ps) (s0 := s0) e20 rfl ?_ fun he20 => ?_
      · exact State.draw_keeps (hp.sub rfl) hz13
      extract_lets +onlyGivenNames z21
      clear_value (ez21 : z21 = _)
      refine On.letS (ps := ps) (s0 := s0) ez21 ?_ fun hz21 => ?_
      · exact State.refreshIdentity_keeps (hp.sub rfl) (State.raiseEvent_keeps (hp.sub rfl) (State.setReg_keeps (hp.sub rfl) (State.setReg_keeps (hp.sub rfl) (State.bump_keeps (hp.sub rfl) (hp.sub rfl) he20))))
      refine On.ite ?_ ?_
      · refine State.sendStart_keeps (hp.sub rfl) ?_
        refine On.mk (s := z21) ?_ .k .k .k .k .k .k .k .k .k (.m (hp.sub rfl) rfl) .k .k .k .k .k .k .k
        exact hz21
      · exact hz21

theorem State.finishSwitch_keeps {s0 : State} {ps : Nat} {s : State} (hp : Covers ps 0xffffffffffffffffffffffffffffffffffffffffffffffffffffffffffffffff03fbffff) (hs : On inS ps s0 s) :
    On inS ps s0 (State.finishSwitch s) := by
  delta State.finishSwitch
  refine On.ite ?_ ?_
  · exact hs
  · extract_lets +onlyGivenNames z1
    extract_lets +onlyGivenNames z2
    clear_value (ez2 : z2 = _)
    refine On.letS (ps := ps) (s0 := s0) ez2 ?_ fun hz2 => ?_
    · refine State.closeBlocks_keeps (hp.sub rfl) ?_
      refine On.mk (s := s) ?_ .k .k .k .k .k .k .k .k .k (.m (hp.sub rfl) rfl) .k .k .k .k .k .k .k
      exact hs
    refine On.ite ?_ ?_
    · exact hz2
    · extract_lets +onlyGivenNames z3
      clear_value (ez3 : z3 = _)
      refine On.letS (ps := ps) (s0 := s0) ez3 ?_ fun hz3 => ?_
      · refine On.foldl ?_ ?_
        · exact hz2
        · intro x4 x5 h6
          exact On.fst (State.sendMark_keeps (hp.sub rfl) h6)
      extract_lets +onlyGivenNames z7
      clear_value (ez7 : z7 = _)
      refine On.letS (ps := ps) (s0 := s0) ez7 ?_ fun hz7 => ?_
      · refine On.foldl ?_ ?_
        · exact hz3
        · intro x8 x9 h10
          exact State.sendFabricVerdict_keeps (hp.sub rfl) h10
      extract_lets +onlyGivenNames z11
      clear_value (ez11 : z11 = _)
      refine On.letS (ps := ps) (s0 := s0) ez11 ?_ fun hz11 => ?_
      · exact On.fst (State.sendRecord_keeps (hp.sub rfl) hz7)
      extract_lets +onlyGivenNames z12 z13 z14
      clear_value z12 z13 z14
      extract_lets +onlyGivenNames z15
      clear_value (ez15 : z15 = _)
      refine On.letS (ps := ps) (s0 := s0) ez15 ?_ fun hz15 => ?_
      · refine On.mk (s := z11) ?_ .k .k .k .k .k .k .k (.c (hp.sub rfl)) .k .k .k .k .k .k .k .k .k
        exact hz11
      extract_lets +onlyGivenNames z16
      clear_value (ez16 : z16 = _)
      refine On.letS (ps := ps) (s0 := s0) ez16 ?_ fun hz16 => ?_
      · exact State.autoMode_keeps (hp.sub rfl) (State.setReg_keeps (hp.sub rfl) hz15)
      refine State.refreshIdentity_keeps (hp.sub rfl) ?_
      refine On.mk (s := z16) ?_ .k .k .k .k .k .k .k .k .k (.m (hp.sub rfl) rfl) .k .k .k .k .k .k .k
      exact hz16

end Sys2Proof.Machine
end

