-- ==== Sys2Proof/Laws/KeepsModules.lean ====
section
/-! SUPPORT. Sys2Proof/Laws/KeepsModules.lean: what the operations of Machine/Modules.lean keep, whatever they do. -/

namespace Sys2Proof.Machine

theorem State.setModule_keeps {s0 : State} {ps : Nat} {s : State} {n : Nat} {st : Nat} (hp : Covers ps 0xffffffffffffffffffffffffffffffffffffffffffffffffffffffffffffffff00000000) (hs : On inS ps s0 s) :
    On inS ps s0 (State.setModule s n st) := by
  delta State.setModule
  exact State.setReg_keeps (hp.sub rfl).page hs

theorem State.setModPin_keeps {s0 : State} {ps : Nat} {s : State} {n : Nat} {prs : Option Bool} {int : Option Bool} (hp : Covers ps 0x2) (hs : On inS ps s0 s) :
    On inS ps s0 (State.setModPin s n prs int) := by
  delta State.setModPin
  extract_lets +onlyGivenNames z1 z2
  clear_value z1 z2
  refine On.mk (s := s) ?_ .k (.m (hp.sub rfl) rfl) .k .k .k .k .k .k .k .k .k .k .k .k .k .k .k
  exact hs

theorem State.insertModule_keeps {s0 : State} {ps : Nat} {s : State} {n : Nat} (hp : Covers ps 0xffffffffffffffffffffffffffffffffffffffffffffffffffffffffffffffff00100002) (hs : On inS ps s0 s) :
    On inS ps s0 (State.insertModule s n) := by
  delta State.insertModule
  extract_lets +onlyGivenNames z1
  clear_value z1
  extract_lets +onlyGivenNames z2
  clear_value (ez2 : z2 = _)
  refine On.letS (ps := ps) (s0 := s0) ez2 ?_ fun hz2 => ?_
  · exact State.setModule_keeps (hp.sub rfl) (State.bump_keeps (hp.sub rfl).page (hp.sub rfl) hs)
  exact State.setLpMode_keeps (hp.sub rfl) (State.setModReset_keeps (hp.sub rfl) (State.setCage_keeps (hp.sub rfl) hz2))

theorem State.removeModule_keeps {s0 : State} {ps : Nat} {s : State} {n : Nat} (hp : Covers ps 0xffffffffffffffffffffffffffffffffffffffffffffffffffffffffffffffff00304c92) (hs : On inS ps s0 s) :
    On inS ps s0 (State.removeModule s n) := by
  delta State.removeModule
  extract_lets +onlyGivenNames z1
  clear_value z1
  extract_lets +onlyGivenNames z2
  clear_value (ez2 : z2 = _)
  refine On.letS (ps := ps) (s0 := s0) ez2 ?_ fun hz2 => ?_
  · exact State.setModule_keeps (hp.sub rfl) (State.setCage_keeps (hp.sub rfl) hs)
  extract_lets +onlyGivenNames z3
  clear_value (ez3 : z3 = _)
  refine On.letS (ps := ps) (s0 := s0) ez3 ?_ fun hz3 => ?_
  · exact State.setLpMode_keeps (hp.sub rfl) (State.setModReset_keeps (hp.sub rfl) hz2)
  refine On.foldl ?_ ?_
  · exact hz3
  · intro x4 x5 h6
    extract_lets +onlyGivenNames z7
    clear_value (ez7 : z7 = _)
    refine On.letS (ps := ps) (s0 := s0) ez7 ?_ fun hz7 => ?_
    · exact State.portDown_keeps (hp.sub rfl) h6
    refine On.ite ?_ ?_
    · exact State.setLanes_keeps (hp.sub rfl) (State.setReg_keeps (hp.sub rfl) (State.setPort_keeps (hp.sub rfl) hz7))
    · exact hz7

theorem execModuleInsertion_keeps {s0 : State} {ps : Nat} {n : Nat} {s : State} (hp : Covers ps 0xffffffffffffffffffffffffffffffffffffffffffffffffffffffffffffffff00100002) (hs : On inS ps s0 s) :
    On inNext ps s0 (execModuleInsertion n s) := by
  delta execModuleInsertion
  refine On.next ?_
  refine On.ite ?_ ?_
  · exact State.insertModule_keeps (hp.sub rfl) (State.setModPin_keeps (hp.sub rfl) hs)
  · refine On.ite ?_ ?_
    · exact State.setModPin_keeps (hp.sub rfl) hs
    · exact hs

theorem execModuleResetRelease_keeps {s0 : State} {ps : Nat} {n : Nat} {s : State} (hp : Covers ps 0x40002) (hs : On inS ps s0 s) :
    On inNext ps s0 (execModuleResetRelease n s) := by
  delta execModuleResetRelease
  refine On.next ?_
  split
  · rename_i x1 x2 e3
    refine On.ite ?_ ?_
    · exact hs
    · extract_lets +onlyGivenNames z4
      clear_value (ez4 : z4 = _)
      refine On.letS (ps := ps) (s0 := s0) ez4 ?_ fun hz4 => ?_
      · exact State.reach_keeps (hp.sub rfl) hs
      exact State.setModReset_keeps (hp.sub rfl) (State.setCage_keeps (hp.sub rfl) hz4)
  · rename_i x5 e6
    exact hs

theorem State.rereadModule_keeps {s0 : State} {ps : Nat} {s : State} {n : Nat} (hp : Covers ps 0xffffffffffffffffffffffffffffffffffffffffffffffffffffffffffffffff00000002) (hs : On inS ps s0 s) :
    On inS ps s0 (State.rereadModule s n) := by
  delta State.rereadModule
  exact State.setModule_keeps (hp.sub rfl) (State.setCage_keeps (hp.sub rfl) hs)

theorem State.endRead_keeps {s0 : State} {ps : Nat} {s : State} {n : Nat} {st : Nat} (hp : Covers ps 0xffffffffffffffffffffffffffffffffffffffffffffffffffffffffffffffff00100002) (hs : On inS ps s0 s) :
    On inS ps s0 (State.endRead s n st) := by
  delta State.endRead
  extract_lets +onlyGivenNames z1
  clear_value z1
  extract_lets +onlyGivenNames z2
  clear_value (ez2 : z2 = _)
  refine On.letS (ps := ps) (s0 := s0) ez2 ?_ fun hz2 => ?_
  · exact State.setModule_keeps (hp.sub rfl) (State.setCage_keeps (hp.sub rfl) hs)
  refine On.ite ?_ ?_
  · exact State.bump_keeps (hp.sub rfl).page (hp.sub rfl) hz2
  · exact hz2

theorem State.setPages_keeps {s0 : State} {ps : Nat} {s : State} {n : Nat} {image : List Byte} (hp : Covers ps 0xffffffffffffffffffffffffffffffffffffffffffffffffffffffffffffffff00000000) (hs : On inS ps s0 s) :
    On inS ps s0 (State.setPages s n image) := by
  delta State.setPages
  extract_lets +onlyGivenNames z1
  clear_value z1
  extract_lets +onlyGivenNames z2
  clear_value (ez2 : z2 = _)
  refine On.letS (ps := ps) (s0 := s0) ez2 ?_ fun hz2 => ?_
  · exact State.setReg_keeps (hp.sub rfl).page (State.setReg_keeps (hp.sub rfl).page (State.setReg_keeps (hp.sub rfl).page hs))
  extract_lets +onlyGivenNames z3
  clear_value (ez3 : z3 = _)
  refine On.letS (ps := ps) (s0 := s0) ez3 ?_ fun hz3 => ?_
  · exact State.setOct_keeps (hp.sub rfl).page (State.setOct_keeps (hp.sub rfl).page (State.setOct_keeps (hp.sub rfl).page (State.setOct_keeps (hp.sub rfl).page hz2)))
  extract_lets +onlyGivenNames z4
  clear_value (ez4 : z4 = _)
  refine On.letS (ps := ps) (s0 := s0) ez4 ?_ fun hz4 => ?_
  · exact State.setOct_keeps (hp.sub rfl).page (State.setOct_keeps (hp.sub rfl).page (State.setOct_keeps (hp.sub rfl).page hz3))
  exact State.setOct_keeps (hp.sub rfl).page (State.setOct_keeps (hp.sub rfl).page hz4)

theorem State.judgeModule_keeps {s0 : State} {ps : Nat} {s : State} {n : Nat} {image : List Byte} (hp : Covers ps 0xffffffffffffffffffffffffffffffffffffffffffffffffffffffffffffffff00f3cc92) (hs : On inS ps s0 s) :
    On inS ps s0 (State.judgeModule s n image) := by
  delta State.judgeModule
  extract_lets +onlyGivenNames z1 z2
  clear_value z1 z2
  refine On.ite ?_ ?_
  · split
    · rename_i x3 e4
      exact State.setCage_keeps (hp.sub rfl) hs
    · rename_i x5 x6 e7
      exact State.endRead_keeps (hp.sub rfl) (State.setPages_keeps (hp.sub rfl) hs)
  · refine On.ite ?_ ?_
    · exact State.endRead_keeps (hp.sub rfl) (State.setPages_keeps (hp.sub rfl) hs)
    · refine On.ite ?_ ?_
      · exact State.insertModule_keeps (hp.sub rfl) (State.removeModule_keeps (hp.sub rfl) hs)
      · extract_lets +onlyGivenNames z8
        clear_value (ez8 : z8 = _)
        refine On.letS (ps := ps) (s0 := s0) ez8 ?_ fun hz8 => ?_
        · exact State.setCage_keeps (hp.sub rfl) hs
        extract_lets +onlyGivenNames z9
        clear_value (ez9 : z9 = _)
        refine On.letS (ps := ps) (s0 := s0) ez9 ?_ fun hz9 => ?_
        · exact State.setPages_keeps (hp.sub rfl) hz8
        refine On.ite ?_ ?_
        · exact State.endRead_keeps (hp.sub rfl) hz9
        · refine On.ite ?_ ?_
          · exact State.endRead_keeps (hp.sub rfl) hz9
          · exact State.retryPorts_keeps (hp.sub rfl) (State.endRead_keeps (hp.sub rfl) hz9)

theorem execModuleStatePoll_keeps {s0 : State} {ps : Nat} {n : Nat} {ack : Bool} {image : List Byte} {s : State} (hp : Covers ps 0xffffffffffffffffffffffffffffffffffffffffffffffffffffffffffffffff00f3cc92) (hs : On inS ps s0 s) :
    On inNext ps s0 (execModuleStatePoll n ack image s) := by
  delta execModuleStatePoll
  refine On.next ?_
  split
  · rename_i x1 x2 e3
    refine On.ite ?_ ?_
    · exact hs
    · extract_lets +onlyGivenNames z4 z5
      clear_value z4 z5
      split
      · rename_i x6 e7
        exact State.judgeModule_keeps (hp.sub rfl) hs
      · rename_i x8 e9
        exact State.judgeModule_keeps (hp.sub rfl) hs
      · rename_i x10 e11
        extract_lets +onlyGivenNames z12
        clear_value (ez12 : z12 = _)
        refine On.letS (ps := ps) (s0 := s0) ez12 ?_ fun hz12 => ?_
        · exact State.endRead_keeps (hp.sub rfl) (State.setPages_keeps (hp.sub rfl) hs)
        refine On.foldl ?_ ?_
        · exact hz12
        · intro x13 x14 h15
          exact State.causeOnset_keeps (hp.sub rfl) h15
      · rename_i x16 e17 e18 e19
        exact hs
  · rename_i x20 e21
    exact hs

theorem execModuleReadTimeout_keeps {s0 : State} {ps : Nat} {n : Nat} {s : State} (hp : Covers ps 0xffffffffffffffffffffffffffffffffffffffffffffffffffffffffffffffff00100002) (hs : On inS ps s0 s) :
    On inNext ps s0 (execModuleReadTimeout n s) := by
  delta execModuleReadTimeout
  refine On.next ?_
  split
  · rename_i x1 x2 e3
    refine On.ite ?_ ?_
    · exact State.endRead_keeps (hp.sub rfl) hs
    · exact hs
  · rename_i x4 e5
    exact hs

theorem execModuleRemoval_keeps {s0 : State} {ps : Nat} {n : Nat} {s : State} (hp : Covers ps 0xffffffffffffffffffffffffffffffffffffffffffffffffffffffffffffffff00304c92) (hs : On inS ps s0 s) :
    On inNext ps s0 (execModuleRemoval n s) := by
  delta execModuleRemoval
  refine On.next ?_
  extract_lets +onlyGivenNames z1
  clear_value (ez1 : z1 = _)
  refine On.letS (ps := ps) (s0 := s0) ez1 ?_ fun hz1 => ?_
  · refine On.ite ?_ ?_
    · exact State.setModPin_keeps (hp.sub rfl) hs
    · exact hs
  refine On.ite ?_ ?_
  · exact State.removeModule_keeps (hp.sub rfl) hz1
  · exact hz1

theorem execModIntNAssert_keeps {s0 : State} {ps : Nat} {n : Nat} {s : State} (hp : Covers ps 0xffffffffffffffffffffffffffffffffffffffffffffffffffffffffffffffff00f3c802) (hs : On inS ps s0 s) :
    On inNext ps s0 (execModIntNAssert n s) := by
  delta execModIntNAssert
  refine On.next ?_
  extract_lets +onlyGivenNames z1
  clear_value (ez1 : z1 = _)
  refine On.letS (ps := ps) (s0 := s0) ez1 ?_ fun hz1 => ?_
  · refine On.ite ?_ ?_
    · exact State.setModPin_keeps (hp.sub rfl) hs
    · exact hs
  refine On.ite ?_ ?_
  · exact hz1
  · refine On.ite ?_ ?_
    · exact State.rereadModule_keeps (hp.sub rfl) hz1
    · exact State.retryPorts_keeps (hp.sub rfl) hz1

theorem rereadEffect_keeps {s0 : State} {ps : Nat} {n : Nat} {c : List Byte} {s : State} (hp : Covers ps 0xffffffffffffffffffffffffffffffffffffffffffffffffffffffffffffffff00000802) (hs : On inS ps s0 s) :
    On (inSnd inS) ps s0 (rereadEffect n c s) := by
  delta rereadEffect
  refine On.ite ?_ ?_
  · exact On.pair hs
  · extract_lets +onlyGivenNames z1
    clear_value (ez1 : z1 = _)
    refine On.letS (ps := ps) (s0 := s0) ez1 ?_ fun hz1 => ?_
    · refine On.foldl ?_ ?_
      · exact hs
      · intro x2 x3 h4
        refine On.ite ?_ ?_
        · exact State.setPort_keeps (hp.sub rfl) h4
        · exact h4
    exact On.pair (State.rereadModule_keeps (hp.sub rfl) hz1)

theorem execReread_keeps {s0 : State} {ps : Nat} {o : Origin} {n : Nat} {v : List Byte} {s : State} (hp : Covers ps 0xffffffffffffffffffffffffffffffffffffffffffffffffffffffffffffffff00020a0b) (hs : On inS ps s0 s) :
    On inNext ps s0 (execReread o n v s) := by
  delta execReread
  refine On.next ?_
  refine State.runWrite_keeps (hp.sub rfl) ?_ ?_
  · exact hs
  · intro x1 x2 h3
    exact rereadEffect_keeps (hp.sub rfl) h3

theorem passEffect_keeps {s0 : State} {ps : Nat} {n : Nat} {c : List Byte} {s : State} (hp : Covers ps 0x20002) (hs : On inS ps s0 s) :
    On (inSnd inS) ps s0 (passEffect n c s) := by
  delta passEffect
  extract_lets +onlyGivenNames z1 z2
  clear_value z1 z2
  refine On.ite ?_ ?_
  · exact On.pair hs
  · refine On.ite ?_ ?_
    · exact On.pair hs
    · extract_lets +onlyGivenNames z3
      clear_value (ez3 : z3 = _)
      refine On.letS (ps := ps) (s0 := s0) ez3 ?_ fun hz3 => ?_
      · exact State.setCage_keeps (hp.sub rfl) hs
      refine On.pair ?_
      refine On.ite ?_ ?_
      · exact State.emit_keeps (hp.sub rfl) hz3
      · exact hz3

theorem execCmisPassthrough_keeps {s0 : State} {ps : Nat} {o : Origin} {n : Nat} {v : List Byte} {s : State} (hp : Covers ps 0x2020b) (hs : On inS ps s0 s) :
    On inNext ps s0 (execCmisPassthrough o n v s) := by
  delta execCmisPassthrough
  refine On.next ?_
  refine State.runBlob_keeps (hp.sub rfl) ?_ ?_
  · exact hs
  · intro x1 x2 h3
    exact passEffect_keeps (hp.sub rfl) h3

theorem execCmisPassthroughDone_keeps {s0 : State} {ps : Nat} {n : Nat} {ack : Bool} {data : List Byte} {s : State} (hp : Covers ps 0x2) (hs : On inS ps s0 s) :
    On inNext ps s0 (execCmisPassthroughDone n ack data s) := by
  delta execCmisPassthroughDone
  refine On.next ?_
  extract_lets +onlyGivenNames z1
  clear_value z1
  refine On.ite ?_ ?_
  · exact hs
  · exact State.setCage_keeps (hp.sub rfl) hs

end Sys2Proof.Machine
end

