-- ==== Sys2Proof/Laws/KeepsPower.lean ====
section
/-! SUPPORT. Sys2Proof/Laws/KeepsPower.lean: what the operations of Machine/Power.lean keep, whatever they do. -/

namespace Sys2Proof.Machine

theorem State.beginWake_keeps {s0 : State} {ps : Nat} {s : State} (hp : Covers ps 0x2) (hs : On inS ps s0 s) :
    On inS ps s0 (State.beginWake s) := by
  delta State.beginWake
  extract_lets +onlyGivenNames z1
  extract_lets +onlyGivenNames z2
  clear_value z2
  extract_lets +onlyGivenNames z3
  clear_value (ez3 : z3 = _)
  refine On.letS (ps := ps) (s0 := s0) ez3 ?_ fun hz3 => ?_
  · refine On.mk (s := s) ?_ .k (.m (hp.sub rfl) rfl) .k .k .k .k .k .k .k .k .k .k .k .k .k .k .k
    exact hs
  extract_lets +onlyGivenNames z4
  clear_value z4
  refine State.setMs_keeps (hp.sub rfl) ?_ ?_
  · exact .inl fun _ => rfl
  · refine On.mk (s := z3) ?_ .k (.m (hp.sub rfl) rfl) .k .k .k .k .k .k .k .k .k .k .k .k .k .k .k
    exact hz3

theorem State.beginMode_keeps {s0 : State} {ps : Nat} {s : State} {m : Mode} (hp : Covers ps 0x2) (hs : On inS ps s0 s) :
    On inS ps s0 (State.beginMode s m) := by
  delta State.beginMode
  refine State.setMs_keeps (hp.sub rfl) ?_ ?_
  · exact .inl fun _ => rfl
  · exact hs

theorem State.beginDrain_keeps {s0 : State} {ps : Nat} {s : State} {m : Mode} (hp : Covers ps 0x2) (hs : On inS ps s0 s) :
    On inS ps s0 (State.beginDrain s m) := by
  delta State.beginDrain
  refine State.setMs_keeps (hp.sub rfl) ?_ ?_
  · exact .inl fun _ => rfl
  · exact hs

theorem modeRequestEffect_keeps {s0 : State} {ps : Nat} {c : List Byte} {s : State} (hp : Covers ps 0x2) (hs : On inS ps s0 s) :
    On (inSnd inS) ps s0 (modeRequestEffect c s) := by
  delta modeRequestEffect
  extract_lets +onlyGivenNames z1
  clear_value z1
  extract_lets +onlyGivenNames z2
  clear_value (ez2 : z2 = _)
  refine On.fnIn (P := fun f => ∀ v0, On inS ps s0 v0 → On (inSnd inS) ps s0 (f v0)) ez2 ?_ fun hz2 => ?_
  · intro x3 h4
    dsimp -zeta only
    refine On.ite ?_ ?_
    · exact On.pair hs
    · exact On.pair h4
  extract_lets +onlyGivenNames z5
  clear_value z5
  split
  · rename_i x6 e7
    exact On.pair hs
  · rename_i x8 x9 e10
    refine On.ite ?_ ?_
    · exact On.pair hs
    · refine On.ite ?_ ?_
      · exact On.pair hs
      · split
        · rename_i x11 x12 e13
          refine On.ite ?_ ?_
          · refine hz2 _ ?_
            refine State.setMs_keeps (hp.sub rfl) ?_ ?_
            · exact .inl fun _ => rfl
            · exact State.beginWake_keeps (hp.sub rfl) hs
          · exact On.pair hs
        · rename_i x14 x15 e16
          refine On.ite ?_ ?_
          · exact hz2 _ (State.beginMode_keeps (hp.sub rfl) hs)
          · exact On.pair hs
        · rename_i x17 x18 e19
          refine On.ite ?_ ?_
          · exact hz2 _ (State.beginMode_keeps (hp.sub rfl) hs)
          · exact On.pair hs
        · rename_i x20 x21 e22
          exact hz2 _ (State.beginMode_keeps (hp.sub rfl) hs)
        · rename_i x23 x24 e25
          exact hz2 _ (State.beginMode_keeps (hp.sub rfl) hs)
        · rename_i x26 x27 e28
          exact hz2 _ (State.beginMode_keeps (hp.sub rfl) hs)
        · rename_i x29 x30 e31
          exact hz2 _ (State.beginMode_keeps (hp.sub rfl) hs)
        · rename_i x32 x33 e34
          exact hz2 _ (State.beginMode_keeps (hp.sub rfl) hs)
        · rename_i x35 x36 e37
          exact hz2 _ (State.beginMode_keeps (hp.sub rfl) hs)
        · rename_i x38 x39 e40
          refine On.ite ?_ ?_
          · exact On.pair hs
          · refine On.ite ?_ ?_
            · exact On.pair hs
            · exact hz2 _ (State.beginMode_keeps (hp.sub rfl) hs)
        · rename_i x41 x42 e43
          exact hz2 _ (State.beginMode_keeps (hp.sub rfl) hs)
        · rename_i x44 x45 x46 e47 e48
          refine On.ite ?_ ?_
          · exact hz2 _ (State.beginDrain_keeps (hp.sub rfl) hs)
          · exact On.pair hs
        · rename_i x49 x50 x51 e52 e53
          refine On.ite ?_ ?_
          · exact hz2 _ (State.beginDrain_keeps (hp.sub rfl) hs)
          · exact On.pair hs
        · rename_i x54 x55 x56 e57
          refine On.ite ?_ ?_
          · exact hz2 _ (State.beginDrain_keeps (hp.sub rfl) hs)
          · exact On.pair hs
        · rename_i x58 x59 x60 e61
          refine On.ite ?_ ?_
          · refine On.ite ?_ ?_
            · exact On.pair hs
            · extract_lets +onlyGivenNames z62
              clear_value z62
              refine On.pair ?_
              refine State.setMs_keeps (hp.sub rfl) ?_ ?_
              · exact .inl fun _ => rfl
              · exact hs
          · refine On.ite ?_ ?_
            · refine On.pair ?_
              refine State.setMs_keeps (hp.sub rfl) ?_ ?_
              · exact .inl fun _ => rfl
              · exact hs
            · exact On.pair hs
        · rename_i x63 x64 x65 e66 e67 e68 e69 e70 e71 e72 e73 e74 e75 e76 e77 e78 e79 e80
          exact On.pair hs

theorem execModeRequest_keeps {s0 : State} {ps : Nat} {o : Origin} {v : List Byte} {s : State} (hp : Covers ps 0x2020b) (hs : On inS ps s0 s) :
    On inNext ps s0 (execModeRequest o v s) := by
  delta execModeRequest
  refine On.next ?_
  refine State.runWrite_keeps (hp.sub rfl) ?_ ?_
  · exact hs
  · intro x1 x2 h3
    exact modeRequestEffect_keeps (hp.sub rfl) h3

theorem State.tryRejoin_keeps {s0 : State} {ps : Nat} {s : State} (hp : Covers ps 0x2) (hs : On inS ps s0 s) :
    On inS ps s0 (State.tryRejoin s) := by
  delta State.tryRejoin
  refine On.ite ?_ ?_
  · exact On.snd (modeRequestEffect_keeps (hp.sub rfl) hs)
  · exact hs

theorem State.settleMode_keeps {s0 : State} {ps : Nat} {s : State} {m : Mode} (hp : Covers ps 0xffffffffffffffffffffffffffffffffffffffffffffffffffffffffffffffff03fbffff) (hs : On inS ps s0 s) :
    On inS ps s0 (State.settleMode s m) := by
  delta State.settleMode
  extract_lets +onlyGivenNames z1
  clear_value z1
  extract_lets +onlyGivenNames z2
  clear_value (ez2 : z2 = _)
  refine On.letS (ps := ps) (s0 := s0) ez2 ?_ fun hz2 => ?_
  · exact State.completeMode_keeps (hp.sub rfl) hs
  extract_lets +onlyGivenNames z3
  clear_value (ez3 : z3 = _)
  refine On.letS (ps := ps) (s0 := s0) ez3 ?_ fun hz3 => ?_
  · refine State.setMs_keeps (hp.sub rfl) ?_ ?_
    · exact .inl fun _ => rfl
    · exact hz2
  refine On.ite ?_ ?_
  · refine State.sendStatus_keeps (hp.sub rfl) ?_
    refine On.mk (s := z3) ?_ .k .k .k .k .k .k .k .k .k (.m (hp.sub rfl) rfl) .k .k .k .k .k .k .k
    exact hz3
  · exact State.tryRejoin_keeps (hp.sub rfl) hz3

theorem execModeTransitionDone_keeps {s0 : State} {ps : Nat} {s : State} (hp : Covers ps 0xffffffffffffffffffffffffffffffffffffffffffffffffffffffffffffffff03fbffff) (hs : On inS ps s0 s) :
    On inNext ps s0 (execModeTransitionDone s) := by
  delta execModeTransitionDone
  refine On.next ?_
  split
  · rename_i x1 e2
    exact hs
  · rename_i x3 x4 e5
    refine On.ite ?_ ?_
    · exact hs
    · exact State.settleMode_keeps (hp.sub rfl) hs

theorem execDrainQueuesEmpty_keeps {s0 : State} {ps : Nat} {s : State} (hp : Covers ps 0xffffffffffffffffffffffffffffffffffffffffffffffffffffffffffffffff03fbffff) (hs : On inS ps s0 s) :
    On inNext ps s0 (execDrainQueuesEmpty s) := by
  delta execDrainQueuesEmpty
  refine On.next ?_
  split
  · rename_i x1 e2
    exact hs
  · rename_i x3 x4 e5
    refine On.ite ?_ ?_
    · exact hs
    · refine State.settleMode_keeps (hp.sub rfl) ?_
      refine State.setMs_keeps (hp.sub rfl) ?_ ?_
      · exact .inl fun _ => rfl
      · exact hs

theorem execDrainTimeout_keeps {s0 : State} {ps : Nat} {s : State} (hp : Covers ps 0x40002) (hs : On inS ps s0 s) :
    On inNext ps s0 (execDrainTimeout s) := by
  delta execDrainTimeout
  refine On.next ?_
  refine On.ite ?_ ?_
  · refine State.setMs_keeps (hp.sub rfl) ?_ ?_
    · exact .inl fun _ => rfl
    · exact State.reach_keeps (hp.sub rfl) hs
  · exact hs

theorem execWakeAfterSExpiry_keeps {s0 : State} {ps : Nat} {s : State} (hp : Covers ps 0x40002) (hs : On inS ps s0 s) :
    On inNext ps s0 (execWakeAfterSExpiry s) := by
  delta execWakeAfterSExpiry
  refine On.next ?_
  refine On.ite ?_ ?_
  · exact State.beginWake_keeps (hp.sub rfl) (State.reach_keeps (hp.sub rfl) hs)
  · exact hs

theorem execPoresetNLow_keeps {s0 : State} {ps : Nat} {s : State} (hp : Covers ps 0xffffffffffffffffffffffffffffffffffffffffffffffffffffffffffffffff03faffff) (hs : On inS ps s0 s) :
    On inNext ps s0 (execPoresetNLow s) := by
  delta execPoresetNLow
  refine On.next ?_
  extract_lets +onlyGivenNames z1
  clear_value (ez1 : z1 = _)
  refine On.letS (ps := ps) (s0 := s0) ez1 ?_ fun hz1 => ?_
  · exact State.powerOnReset_keeps (hp.sub rfl) hs
  refine On.mk (s := z1) ?_ .k (.m (hp.sub rfl) rfl) .k .k .k .k .k .k .k .k .k .k .k .k .k .k .k
  exact hz1

theorem execPowerOnStart_keeps {s0 : State} {ps : Nat} {s : State} (hp : Covers ps 0x2) (hs : On inS ps s0 s) :
    On inNext ps s0 (execPowerOnStart s) := by
  delta execPowerOnStart
  refine On.next ?_
  refine On.ite ?_ ?_
  · extract_lets +onlyGivenNames z1 z2
    clear_value z1 z2
    refine On.mk (s := s) ?_ .k (.m (hp.sub rfl) rfl) .k .k .k .k .k .k .k .k .k .k .k .k .k .k .k
    exact hs
  · exact hs

theorem execSupplyTimeout_keeps {s0 : State} {ps : Nat} {s : State} (hp : Covers ps 0x80000000000040002) (hs : On inS ps s0 s) :
    On inNext ps s0 (execSupplyTimeout s) := by
  delta execSupplyTimeout
  refine On.next ?_
  split
  · rename_i x1 x2 x3 e4
    refine On.ite ?_ ?_
    · exact hs
    · extract_lets +onlyGivenNames z5
      clear_value (ez5 : z5 = _)
      refine On.letS (ps := ps) (s0 := s0) ez5 ?_ fun hz5 => ?_
      · exact State.setReg_keeps (hp.sub rfl) (State.abortRequest_keeps (hp.sub rfl) (State.reach_keeps (hp.sub rfl) hs))
      refine On.mk (s := z5) ?_ .k (.m (hp.sub rfl) rfl) .k .k .k .k .k .k .k .k .k .k .k .k .k .k .k
      exact hz5
  · rename_i x6 e7
    exact hs

theorem execSupplyLoss_keeps {s0 : State} {ps : Nat} {s : State} (hp : Covers ps 0xffffffffffffffffffffffffffffffffffffffffffffffffffffffffffffffff03faffff) (hs : On inS ps s0 s) :
    On inNext ps s0 (execSupplyLoss s) := by
  delta execSupplyLoss
  refine On.next ?_
  extract_lets +onlyGivenNames z1
  extract_lets +onlyGivenNames z2
  clear_value z2
  extract_lets +onlyGivenNames z3
  clear_value (ez3 : z3 = _)
  refine On.letS (ps := ps) (s0 := s0) ez3 ?_ fun hz3 => ?_
  · refine On.mk (s := s) ?_ .k (.m (hp.sub rfl) rfl) .k .k .k .k .k .k .k .k .k .k .k .k .k .k .k
    exact hs
  split
  · rename_i x4 x5 e6
    exact hz3
  · rename_i x7 x8 x9 x10 e11 e12
    exact hz3
  · rename_i x13 x14 e15 e16
    exact State.health_keeps (hp.sub rfl) (State.setReg_keeps (hp.sub rfl) (State.shutDown_keeps (hp.sub rfl) hz3))

theorem execSensorSample_keeps {s0 : State} {ps : Nat} {temps : List Int} {s : State} (hp : Covers ps 0x1000000000000000000000000000000000000000000080000000000c00002) (hs : On inS ps s0 s) :
    On inNext ps s0 (execSensorSample temps s) := by
  delta execSensorSample
  refine On.next ?_
  refine On.ite ?_ ?_
  · exact hs
  · extract_lets +onlyGivenNames z1
    clear_value (ez1 : z1 = _)
    refine On.letS (ps := ps) (s0 := s0) ez1 ?_ fun hz1 => ?_
    · refine On.foldl ?_ ?_
      · exact hs
      · intro x2 x3 h4
        exact State.setReg_keeps (hp.sub rfl) h4
    extract_lets +onlyGivenNames z5 z6 z7 z8
    clear_value z5 z6 z7 z8
    extract_lets +onlyGivenNames z9
    extract_lets +onlyGivenNames z10
    clear_value z10
    extract_lets +onlyGivenNames z11
    clear_value (ez11 : z11 = _)
    refine On.letS (ps := ps) (s0 := s0) ez11 ?_ fun hz11 => ?_
    · refine On.mk (s := z1) ?_ .k (.m (hp.sub rfl) rfl) .k .k .k .k .k .k .k .k .k .k .k .k .k .k .k
      exact hz1
    refine On.ite ?_ ?_
    · exact State.health_keeps (hp.sub rfl) hz11
    · exact hz11

theorem execThermalTrip_keeps {s0 : State} {ps : Nat} {sensor : Nat} {s : State} (hp : Covers ps 0xffffffffffffffffffffffffffffffffffffffffffffffffffffffffffffffff03faffff) (hs : On inS ps s0 s) :
    On inNext ps s0 (execThermalTrip sensor s) := by
  delta execThermalTrip
  refine On.next ?_
  refine On.ite ?_ ?_
  · exact hs
  · extract_lets +onlyGivenNames z1
    clear_value z1
    extract_lets +onlyGivenNames z2
    clear_value (ez2 : z2 = _)
    refine On.letS (ps := ps) (s0 := s0) ez2 ?_ fun hz2 => ?_
    · refine On.ite ?_ ?_
      · exact State.shutDown_keeps (hp.sub rfl) hs
      · refine State.setMs_keeps (hp.sub rfl) ?_ ?_
        · exact .inl fun _ => rfl
        · exact hs
    exact State.health_keeps (hp.sub rfl) (State.health_keeps (hp.sub rfl) (State.setReg_keeps (hp.sub rfl) hz2))

theorem State.clockLost_keeps {s0 : State} {ps : Nat} {s : State} {cause : Nat} {locks : Nat} (hp : Covers ps 0xffffffffffffffffffffffffffffffffffffffffffffffffffffffffffffffff03faffff) (hs : On inS ps s0 s) :
    On inS ps s0 (State.clockLost s cause locks) := by
  delta State.clockLost
  extract_lets +onlyGivenNames z1
  clear_value (ez1 : z1 = _)
  refine On.letS (ps := ps) (s0 := s0) ez1 ?_ fun hz1 => ?_
  · refine On.ite ?_ ?_
    · exact State.shutDown_keeps (hp.sub rfl) hs
    · exact hs
  extract_lets +onlyGivenNames z2
  clear_value (ez2 : z2 = _)
  refine On.letS (ps := ps) (s0 := s0) ez2 ?_ fun hz2 => ?_
  · exact State.health_keeps (hp.sub rfl) (State.setReg_keeps (hp.sub rfl) (State.setReg_keeps (hp.sub rfl) (State.setReg_keeps (hp.sub rfl) hz1)))
  refine On.mk (s := z2) ?_ .k (.m (hp.sub rfl) rfl) .k .k .k .k .k .k .k .k .k .k .k .k .k .k .k
  exact hz2

theorem execTwclkLoss_keeps {s0 : State} {ps : Nat} {s : State} (hp : Covers ps 0xffffffffffffffffffffffffffffffffffffffffffffffffffffffffffffffff03faffff) (hs : On inS ps s0 s) :
    On inNext ps s0 (execTwclkLoss s) := by
  delta execTwclkLoss
  exact On.next (State.setReg_keeps (hp.sub rfl) (State.clockLost_keeps (hp.sub rfl) hs))

theorem execPllUnlock_keeps {s0 : State} {ps : Nat} {pll : Nat} {s : State} (hp : Covers ps 0xffffffffffffffffffffffffffffffffffffffffffffffffffffffffffffffff03faffff) (hs : On inS ps s0 s) :
    On inNext ps s0 (execPllUnlock pll s) := by
  delta execPllUnlock
  refine On.next ?_
  refine On.ite ?_ ?_
  · exact hs
  · exact State.clockLost_keeps (hp.sub rfl) hs

theorem execTwclkRestored_keeps {s0 : State} {ps : Nat} {s : State} (hp : Covers ps 0x40000000000000002) (hs : On inS ps s0 s) :
    On inNext ps s0 (execTwclkRestored s) := by
  delta execTwclkRestored
  refine On.next ?_
  refine On.ite ?_ ?_
  · exact hs
  · refine State.setReg_keeps (hp.sub rfl) ?_
    refine State.setReg_keeps (hp.sub rfl) ?_
    refine On.mk (s := s) ?_ .k (.m (hp.sub rfl) rfl) .k .k .k .k .k .k .k .k .k .k .k .k .k .k .k
    exact hs

theorem State.setRail_keeps {s0 : State} {ps : Nat} {s : State} {k : Nat} {r : AvsRail} (hp : Covers ps 0x2) (hs : On inS ps s0 s) :
    On inS ps s0 (State.setRail s k r) := by
  delta State.setRail
  refine On.ite ?_ ?_
  · refine On.mk (s := s) ?_ .k (.m (hp.sub rfl) rfl) .k .k .k .k .k .k .k .k .k .k .k .k .k .k .k
    exact hs
  · refine On.mk (s := s) ?_ .k (.m (hp.sub rfl) rfl) .k .k .k .k .k .k .k .k .k .k .k .k .k .k .k
    exact hs

theorem State.avsWrite_keeps {s0 : State} {ps : Nat} {s : State} {k : Nat} {mv : Nat} (hp : Covers ps 0x20002) (hs : On inS ps s0 s) :
    On inS ps s0 (State.avsWrite s k mv) := by
  delta State.avsWrite
  extract_lets +onlyGivenNames z1
  clear_value z1
  exact State.emit_keeps (hp.sub rfl) (State.setRail_keeps (hp.sub rfl) hs)

theorem execAvsEvaluate_keeps {s0 : State} {ps : Nat} {rail : Nat} {target : Nat} {s : State} (hp : Covers ps 0x20002) (hs : On inS ps s0 s) :
    On inNext ps s0 (execAvsEvaluate rail target s) := by
  delta execAvsEvaluate
  refine On.next ?_
  extract_lets +onlyGivenNames z1 z2
  clear_value z1 z2
  refine On.ite ?_ ?_
  · exact hs
  · exact State.avsWrite_keeps (hp.sub rfl) hs

theorem execAvsWriteDone_keeps {s0 : State} {ps : Nat} {rail : Nat} {ok : Bool} {read : Nat} {s : State} (hp : Covers ps 0x1000000000000000000000000000000000000000000080000000000d30002) (hs : On inS ps s0 s) :
    On inNext ps s0 (execAvsWriteDone rail ok read s) := by
  delta execAvsWriteDone
  refine On.next ?_
  refine On.ite ?_ ?_
  · exact hs
  · split
    · rename_i x1 e2
      exact hs
    · rename_i x3 x4 e5
      extract_lets +onlyGivenNames z6
      clear_value z6
      refine On.ite ?_ ?_
      · extract_lets +onlyGivenNames z7
        clear_value z7
        exact State.setReg_keeps (hp.sub rfl) (State.setReg_keeps (hp.sub rfl) (State.setRail_keeps (hp.sub rfl) hs))
      · refine On.ite ?_ ?_
        · exact State.avsWrite_keeps (hp.sub rfl) (State.setRail_keeps (hp.sub rfl) hs)
        · exact State.healthFree_keeps (hp.sub rfl) (State.bump_keeps (hp.sub rfl) (hp.sub rfl) (State.setRail_keeps (hp.sub rfl) hs))

theorem execWarmresetNLow_keeps {s0 : State} {ps : Nat} {s : State} (hp : Covers ps 0x100000000000000000000000000000000010001000001123613) (hs : On inS ps s0 s) :
    On inNext ps s0 (execWarmresetNLow s) := by
  delta execWarmresetNLow
  refine On.next ?_
  extract_lets +onlyGivenNames z1
  extract_lets +onlyGivenNames z2
  clear_value z2
  extract_lets +onlyGivenNames z3
  clear_value (ez3 : z3 = _)
  refine On.letS (ps := ps) (s0 := s0) ez3 ?_ fun hz3 => ?_
  · refine On.mk (s := s) ?_ .k (.m (hp.sub rfl) rfl) .k .k .k .k .k .k .k .k .k .k .k .k .k .k .k
    exact hs
  refine On.ite ?_ ?_
  · exact hz3
  · exact State.warmRestart_keeps (hp.sub rfl) hz3

theorem execWarmRestartDone_keeps {s0 : State} {ps : Nat} {s : State} (hp : Covers ps 0x10000000200000000000000000000000000000000000000000000000000726206) (hs : On inS ps s0 s) :
    On inNext ps s0 (execWarmRestartDone s) := by
  delta execWarmRestartDone
  refine On.next ?_
  split
  · rename_i x1 e2
    exact hs
  · rename_i x3 x4 e5
    extract_lets +onlyGivenNames z6
    clear_value (ez6 : z6 = _)
    refine On.letS (ps := ps) (s0 := s0) ez6 ?_ fun hz6 => ?_
    · exact State.startStewards_keeps (hp.sub rfl) (State.flushAll_keeps (hp.sub rfl) hs)
    extract_lets +onlyGivenNames z7 z8
    clear_value z7 z8
    extract_lets +onlyGivenNames z9
    extract_lets +onlyGivenNames z10
    clear_value (ez10 : z10 = _)
    refine On.letS (ps := ps) (s0 := s0) ez10 ?_ fun hz10 => ?_
    · refine On.mk (s := z6) ?_ .k (.m (hp.sub rfl) rfl) .k .k .k .k .k .k .k .k .k .k .k .k .k .k .k
      exact hz6
    extract_lets +onlyGivenNames z11
    extract_lets +onlyGivenNames z12
    clear_value (ez12 : z12 = _)
    refine On.letS (ps := ps) (s0 := s0) ez12 ?_ fun hz12 => ?_
    · refine On.ite ?_ ?_
      · refine State.setReg_keeps (hp.sub rfl) ?_
        refine On.mk (s := z10) ?_ .k .k (.c (hp.sub rfl) .keep) .k .k .k .k .k .k .k .k .k .k .k .k .k .k
        exact hz10
      · exact hz10
    exact State.refreshIdentity_keeps (hp.sub rfl) hz12

theorem execResetRequestWarm_keeps {s0 : State} {ps : Nat} {o : Origin} {s : State} (hp : Covers ps 0x10000000000000000000000000000000001000100000116361b) (hs : On inS ps s0 s) :
    On inNext ps s0 (execResetRequestWarm o s) := by
  delta execResetRequestWarm
  refine On.next ?_
  refine State.runWrite_keeps (hp.sub rfl) ?_ ?_
  · exact hs
  · intro x1 x2 h3
    refine On.ite ?_ ?_
    · exact On.pair h3
    · exact On.pair (State.warmRestart_keeps (hp.sub rfl) (State.reach_keeps (hp.sub rfl) h3))

theorem execResetRequestCold_keeps {s0 : State} {ps : Nat} {o : Origin} {s : State} (hp : Covers ps 0xffffffffffffffffffffffffffffffffffffffffffffffffffffffffffffffff03faffff) (hs : On inS ps s0 s) :
    On inNext ps s0 (execResetRequestCold o s) := by
  delta execResetRequestCold
  refine On.next ?_
  extract_lets +onlyGivenNames z1
  clear_value z1
  extract_lets +onlyGivenNames z2
  clear_value (ez2 : z2 = _)
  refine On.letS (ps := ps) (s0 := s0) ez2 ?_ fun hz2 => ?_
  · refine State.runWrite_keeps (hp.sub rfl) ?_ ?_
    · exact hs
    · intro x3 x4 h5
      exact On.pair h5
  refine On.ite ?_ ?_
  · exact State.powerOnReset_keeps (hp.sub rfl) hz2
  · exact hz2

theorem execTidewatchWatchdogExpiry_keeps {s0 : State} {ps : Nat} {s : State} (hp : Covers ps 0xffffffffffffffffffffffffffffffffffffffffffffffffffffffffffffffff03faffff) (hs : On inS ps s0 s) :
    On inNext ps s0 (execTidewatchWatchdogExpiry s) := by
  delta execTidewatchWatchdogExpiry
  refine On.next ?_
  refine On.ite ?_ ?_
  · exact State.powerOnReset_keeps (hp.sub rfl) hs
  · exact hs

theorem execTrstNLow_keeps {s0 : State} {ps : Nat} {s : State} (hp : Covers ps 0x808002) (hs : On inS ps s0 s) :
    On inNext ps s0 (execTrstNLow s) := by
  delta execTrstNLow
  refine On.next ?_
  refine On.mk (s := s) ?_ .k (.m (hp.sub rfl) rfl) .k .k .k .k .k .k .k .k .k .k .k .k .k (.c (hp.sub rfl)) .k
  exact hs

theorem execAlwaysOnRailLoss_keeps {s0 : State} {ps : Nat} {s : State} (hp : Covers ps 0xffffffffffffffffffffffffffffffffffffffffffffffffffffffffffffffff03faffff) (hs : On inS ps s0 s) :
    On inNext ps s0 (execAlwaysOnRailLoss s) := by
  delta execAlwaysOnRailLoss
  refine On.next ?_
  extract_lets +onlyGivenNames z1
  clear_value (ez1 : z1 = _)
  refine On.letS (ps := ps) (s0 := s0) ez1 ?_ fun hz1 => ?_
  · exact State.powerOnReset_keeps (hp.sub rfl) hs
  refine On.mk (s := z1) ?_ .k .k (.c (hp.sub rfl) .keep) .k .k .k .k .k .k .k .k .k .k .k .k .k .k
  exact hz1

end Sys2Proof.Machine
end

