-- ==== Sys2Proof/Laws/KeepsSelfTest.lean ====
section
/-! SUPPORT. Sys2Proof/Laws/KeepsSelfTest.lean: what the operations of Machine/SelfTest.lean keep, whatever they do. -/

namespace Sys2Proof.Machine

theorem patternStartEffect_keeps {s0 : State} {ps : Nat} {o : Origin} {c : List Byte} {s : State} (hp : Covers ps 0x600000000000000808000) (hs : On inS ps s0 s) :
    On (inSnd inS) ps s0 (patternStartEffect o c s) := by
  delta patternStartEffect
  extract_lets +onlyGivenNames z1 z2 z3
  clear_value z1 z2 z3
  refine On.ite ?_ ?_
  · exact On.pair hs
  · refine On.ite ?_ ?_
    · exact On.pair hs
    · refine On.ite ?_ ?_
      · exact On.pair hs
      · refine On.ite ?_ ?_
        · exact On.pair hs
        · extract_lets +onlyGivenNames z4
          clear_value (ez4 : z4 = _)
          refine On.letS (ps := ps) (s0 := s0) ez4 ?_ fun hz4 => ?_
          · refine On.ite ?_ ?_
            · exact State.setLanes_keeps (hp.sub rfl) hs
            · exact hs
          exact On.pair (State.setTest_keeps (hp.sub rfl) hz4)

theorem execPatternStart_keeps {s0 : State} {ps : Nat} {o : Origin} {v : List Byte} {s : State} (hp : Covers ps 0x600000000000000828209) (hs : On inS ps s0 s) :
    On inNext ps s0 (execPatternStart o v s) := by
  delta execPatternStart
  refine On.next ?_
  refine State.runWrite_keeps (hp.sub rfl) ?_ ?_
  · exact hs
  · intro x1 x2 h3
    exact patternStartEffect_keeps (hp.sub rfl) h3

theorem patternStopEffect_keeps {s0 : State} {ps : Nat} {c : List Byte} {s : State} (hp : Covers ps 0x1000000000000000000000000000000000000000600000000000000f1c000) (hs : On inS ps s0 s) :
    On (inSnd inS) ps s0 (patternStopEffect c s) := by
  delta patternStopEffect
  split
  · rename_i x1 e2
    exact On.pair hs
  · rename_i x3 x4 e5
    exact On.pair (State.endTest_keeps (hp.sub rfl) hs)

theorem execPatternStop_keeps {s0 : State} {ps : Nat} {o : Origin} {v : List Byte} {s : State} (hp : Covers ps 0x1000000000000000000000000000000000000000600000000000000f3c209) (hs : On inS ps s0 s) :
    On inNext ps s0 (execPatternStop o v s) := by
  delta execPatternStop
  refine On.next ?_
  refine State.runWrite_keeps (hp.sub rfl) ?_ ?_
  · exact hs
  · intro x1 x2 h3
    exact patternStopEffect_keeps (hp.sub rfl) h3

theorem execPatternDurationEnd_keeps {s0 : State} {ps : Nat} {k : Nat} {s : State} (hp : Covers ps 0x1000000000000000000000000000000000000000600000000000000f5c000) (hs : On inS ps s0 s) :
    On inNext ps s0 (execPatternDurationEnd k s) := by
  delta execPatternDurationEnd
  refine On.next ?_
  split
  · rename_i x1 x2 e3
    extract_lets +onlyGivenNames z4
    clear_value z4
    refine On.ite ?_ ?_
    · exact hs
    · exact State.endTest_keeps (hp.sub rfl) (State.reach_keeps (hp.sub rfl) hs)
  · rename_i x5 e6
    exact hs

theorem execCheckerLocked_keeps {s0 : State} {ps : Nat} {k : Nat} {s : State} (hp : Covers ps 0x600000000000000808000) (hs : On inS ps s0 s) :
    On inNext ps s0 (execCheckerLocked k s) := by
  delta execCheckerLocked
  refine On.next ?_
  split
  · rename_i x1 x2 e3
    refine On.ite ?_ ?_
    · refine State.setTest_keeps (hp.sub rfl) ?_
      refine On.ite ?_ ?_
      · exact State.setLanes_keeps (hp.sub rfl) hs
      · exact hs
    · exact hs
  · rename_i x4 e5
    exact hs

theorem execCheckerLockLost_keeps {s0 : State} {ps : Nat} {k : Nat} {bits : Nat} {errors : Nat} {injected : Nat} {seconds : Nat} {s : State} (hp : Covers ps 0x808000) (hs : On inS ps s0 s) :
    On inNext ps s0 (execCheckerLockLost k bits errors injected seconds s) := by
  delta execCheckerLockLost
  refine On.next ?_
  split
  · rename_i x1 x2 e3
    refine On.ite ?_ ?_
    · exact hs
    · exact State.setTest_keeps (hp.sub rfl) hs
  · rename_i x4 e5
    exact hs

theorem bistStartEffect_keeps {s0 : State} {ps : Nat} {c : List Byte} {s : State} (hp : Covers ps 0x808000) (hs : On inS ps s0 s) :
    On (inSnd inS) ps s0 (bistStartEffect c s) := by
  delta bistStartEffect
  extract_lets +onlyGivenNames z1
  clear_value z1
  refine On.ite ?_ ?_
  · exact On.pair hs
  · refine On.ite ?_ ?_
    · exact On.pair hs
    · refine On.pair ?_
      refine On.mk (s := s) ?_ .k .k .k .k .k .k .k .k .k .k .k .k .k .k .k (.c (hp.sub rfl)) .k
      exact hs

theorem execBistStart_keeps {s0 : State} {ps : Nat} {o : Origin} {v : List Byte} {s : State} (hp : Covers ps 0x828209) (hs : On inS ps s0 s) :
    On inNext ps s0 (execBistStart o v s) := by
  delta execBistStart
  refine On.next ?_
  refine State.runWrite_keeps (hp.sub rfl) ?_ ?_
  · exact hs
  · intro x1 x2 h3
    exact bistStartEffect_keeps (hp.sub rfl) h3

theorem State.clearScope_keeps {s0 : State} {ps : Nat} {s : State} {k : Nat} (hp : Covers ps 0xb8) (hs : On inS ps s0 s) :
    On inS ps s0 (State.clearScope s k) := by
  delta State.clearScope
  split
  · rename_i x1
    refine On.mk (s := s) ?_ .k .k .k .k (.c (hp.sub rfl)) .k .k .k .k .k .k .k .k .k .k .k .k
    exact hs
  · rename_i x2
    refine On.mk (s := s) ?_ .k .k .k .k (.c (hp.sub rfl)) .k .k .k .k .k .k .k .k .k .k .k .k
    exact hs
  · rename_i x3
    refine On.mk (s := s) ?_ .k .k .k .k (.c (hp.sub rfl)) .k .k .k .k .k .k .k .k .k .k .k .k
    exact hs
  · rename_i x4
    refine On.mk (s := s) ?_ .k .k .k (.c (hp.sub rfl)) .k .k .k .k .k .k .k .k .k .k .k .k .k
    exact hs
  · rename_i x5
    refine On.mk (s := s) ?_ .k .k .k .k .k (.c (hp.sub rfl)) .k .k .k .k .k .k .k .k .k .k .k
    exact hs
  · rename_i x6
    refine On.mk (s := s) ?_ .k .k .k .k .k .k .k (.c (hp.sub rfl)) .k .k .k .k .k .k .k .k .k
    exact hs
  · rename_i x7 e8 e9 e10 e11 e12 e13
    exact hs

theorem State.reportBist_keeps {s0 : State} {ps : Nat} {s : State} {scopes : Nat} {failed : List (List Byte)} (hp : Covers ps 0x1000000000000000000000000000000000000000000000000000000c08000) (hs : On inS ps s0 s) :
    On inS ps s0 (State.reportBist s scopes failed) := by
  delta State.reportBist
  extract_lets +onlyGivenNames z1 z2 z3
  clear_value z1 z2 z3
  extract_lets +onlyGivenNames z4
  clear_value (ez4 : z4 = _)
  refine On.letS (ps := ps) (s0 := s0) ez4 ?_ fun hz4 => ?_
  · refine On.mk (s := s) ?_ .k .k .k .k .k .k .k .k .k .k .k .k .k .k .k (.c (hp.sub rfl)) .k
    exact hs
  extract_lets +onlyGivenNames z5
  clear_value z5
  refine On.foldl ?_ ?_
  · exact State.setReg_keeps (hp.sub rfl) (State.setReg_keeps (hp.sub rfl) hz4)
  · intro x6 x7 h8
    exact State.health_keeps (hp.sub rfl) h8

theorem execBistDone_keeps {s0 : State} {ps : Nat} {failed : List (List Byte)} {s : State} (hp : Covers ps 0x1000000000000000000000000000000000000000000000000000000c080b8) (hs : On inS ps s0 s) :
    On inNext ps s0 (execBistDone failed s) := by
  delta execBistDone
  refine On.next ?_
  refine On.ite ?_ ?_
  · exact hs
  · extract_lets +onlyGivenNames z1
    clear_value z1
    extract_lets +onlyGivenNames z2
    clear_value (ez2 : z2 = _)
    refine On.letS (ps := ps) (s0 := s0) ez2 ?_ fun hz2 => ?_
    · refine On.foldl ?_ ?_
      · exact hs
      · intro x3 x4 h5
        exact State.clearScope_keeps (hp.sub rfl) h5
    refine State.reportBist_keeps (hp.sub rfl) ?_
    refine On.mk (s := z2) ?_ .k .k .k .k .k .k .k .k .k .k .k .k .k .k .k (.c (hp.sub rfl)) .k
    exact hz2

theorem execSelftestInterval_keeps {s0 : State} {ps : Nat} {s : State} (hp : Covers ps 0x848200) (hs : On inS ps s0 s) :
    On inNext ps s0 (execSelftestInterval s) := by
  delta execSelftestInterval
  refine On.next ?_
  refine On.ite ?_ ?_
  · exact hs
  · extract_lets +onlyGivenNames z1
    clear_value (ez1 : z1 = _)
    refine On.letS (ps := ps) (s0 := s0) ez1 ?_ fun hz1 => ?_
    · exact State.reach_keeps (hp.sub rfl) hs
    refine On.mk (s := z1) ?_ .k .k .k .k .k .k .k .k .k (.m (hp.sub rfl) rfl) .k .k .k .k .k (.c (hp.sub rfl)) .k
    exact hz1

theorem execBackgroundTestDone_keeps {s0 : State} {ps : Nat} {kind : Nat} {number : Nat} {ended : Bool} {good : Bool} {holds : Bool} {last : Bool} {s : State} (hp : Covers ps 0x1010100000000000100000003000000000000000000010000000001f3b682) (hs : On inS ps s0 s) :
    On inNext ps s0 (execBackgroundTestDone kind number ended good holds last s) := by
  delta execBackgroundTestDone
  refine On.next ?_
  refine On.ite ?_ ?_
  · exact hs
  · extract_lets +onlyGivenNames z1
    clear_value z1
    extract_lets +onlyGivenNames z2
    clear_value (ez2 : z2 = _)
    refine On.letS (ps := ps) (s0 := s0) ez2 ?_ fun hz2 => ?_
    · refine On.ite ?_ ?_
      · refine On.mk (s := s) ?_ .k .k .k .k .k .k .k .k .k .k .k .k .k .k .k (.c (hp.sub rfl)) .k
        exact hs
      · exact hs
    refine On.ite ?_ ?_
    · exact hz2
    · refine On.ite ?_ ?_
      · exact State.bump_keeps (hp.sub rfl) (hp.sub rfl) hz2
      · extract_lets +onlyGivenNames z3
        clear_value (ez3 : z3 = _)
        refine On.letS (ps := ps) (s0 := s0) ez3 ?_ fun hz3 => ?_
        · exact State.healthFree_keeps (hp.sub rfl) hz2
        refine On.ite ?_ ?_
        · exact State.goStale_keeps (hp.sub rfl) hz3
        · exact hz3

theorem healthClearEffect_keeps {s0 : State} {ps : Nat} {c : List Byte} {s : State} (hp : Covers ps 0x1000000000000000000000000000000000000000000000000000000808000) (hs : On inS ps s0 s) :
    On (inSnd inS) ps s0 (healthClearEffect c s) := by
  delta healthClearEffect
  refine On.ite ?_ ?_
  · exact On.pair hs
  · extract_lets +onlyGivenNames z1
    clear_value (ez1 : z1 = _)
    refine On.letS (ps := ps) (s0 := s0) ez1 ?_ fun hz1 => ?_
    · refine On.foldl ?_ ?_
      · exact hs
      · intro x2 x3 h4
        exact State.setReg_keeps (hp.sub rfl) h4
    refine On.pair ?_
    extract_lets +onlyGivenNames z5
    clear_value (ez5 : z5 = _)
    refine On.letS (ps := ps) (s0 := s0) ez5 ?_ fun hz5 => ?_
    · exact State.setReg_keeps (hp.sub rfl) (State.setReg_keeps (hp.sub rfl) hz1)
    refine On.mk (s := z5) ?_ .k .k .k .k .k .k .k .k .k .k .k .k .k .k .k (.c (hp.sub rfl)) .k
    exact hz5

theorem execHealthClear_keeps {s0 : State} {ps : Nat} {o : Origin} {v : List Byte} {s : State} (hp : Covers ps 0x1000000000000000000000000000000000000000000000000000000828209) (hs : On inS ps s0 s) :
    On inNext ps s0 (execHealthClear o v s) := by
  delta execHealthClear
  refine On.next ?_
  refine State.runWrite_keeps (hp.sub rfl) ?_ ?_
  · exact hs
  · intro x1 x2 h3
    exact healthClearEffect_keeps (hp.sub rfl) h3

theorem execOndieUncorrectableError_keeps {s0 : State} {ps : Nat} {crossbar : Bool} {detail : List Byte} {s : State} (hp : Covers ps 0x1000000000000000100000000000000000000000000000000000002c30200) (hs : On inS ps s0 s) :
    On inNext ps s0 (execOndieUncorrectableError crossbar detail s) := by
  delta execOndieUncorrectableError
  refine On.next ?_
  refine On.ite ?_ ?_
  · exact hs
  · exact State.fence_keeps (hp.sub rfl) (State.healthFree_keeps (hp.sub rfl) hs)

theorem execJtagInstruction_keeps {s0 : State} {ps : Nat} {op : Nat} {s : State} (hp : Covers ps 0x808002) (hs : On inS ps s0 s) :
    On inNext ps s0 (execJtagInstruction op s) := by
  delta execJtagInstruction
  refine On.next ?_
  refine On.mk (s := s) ?_ .k (.m (hp.sub rfl) rfl) .k .k .k .k .k .k .k .k .k .k .k .k .k (.c (hp.sub rfl)) .k
  exact hs

end Sys2Proof.Machine
end

