-- ==== Sys2Proof/Laws/KeepsBoot.lean ====
section
/-! SUPPORT. Sys2Proof/Laws/KeepsBoot.lean: what the operations of Machine/Boot.lean keep, whatever they do. -/

namespace Sys2Proof.Machine

theorem State.storeP_keeps {s0 : State} {ps : Nat} {s : State} {k : Nat} {v : Nat} (hp : Covers ps 0x400004) (hs : On inS ps s0 s) :
    On inS ps s0 (State.storeP s k v) := by
  delta State.storeP
  refine On.mk (s := s) ?_ .k .k (.c (hp.sub rfl) .keep) .k .k .k .k .k .k .k .k .k .k .k .k .k .k
  exact hs

theorem State.readBoard_keeps {s0 : State} {ps : Nat} {s : State} {b : List Byte} (hp : Covers ps 0xffffffffffffffffffffffffffffffffffffffffffffffffffffffffffffffff00c10006) (hs : On inS ps s0 s) :
    On inS ps s0 (State.readBoard s b) := by
  delta State.readBoard
  extract_lets +onlyGivenNames z1 z2 z3 z4
  clear_value z1 z2 z3 z4
  extract_lets +onlyGivenNames z5
  extract_lets +onlyGivenNames z6
  extract_lets +onlyGivenNames z7
  clear_value (ez7 : z7 = _)
  refine On.letS (ps := ps) (s0 := s0) ez7 ?_ fun hz7 => ?_
  · refine On.mk (s := s) ?_ .k (.m (hp.sub rfl) rfl) (.c (hp.sub rfl) .keep) .k .k .k .k .k .k .k .k .k .k .k .k .k .k
    exact hs
  extract_lets +onlyGivenNames z8
  clear_value (ez8 : z8 = _)
  refine On.letS (ps := ps) (s0 := s0) ez8 ?_ fun hz8 => ?_
  · exact State.setOct_keeps (hp.sub rfl) (State.setReg_keeps (hp.sub rfl) hz7)
  extract_lets +onlyGivenNames z9
  clear_value (ez9 : z9 = _)
  refine On.letS (ps := ps) (s0 := s0) ez9 ?_ fun hz9 => ?_
  · exact State.setOct_keeps (hp.sub rfl) (State.setReg_keeps (hp.sub rfl) hz8)
  extract_lets +onlyGivenNames z10
  clear_value z10
  extract_lets +onlyGivenNames z11
  clear_value (ez11 : z11 = _)
  refine On.letS (ps := ps) (s0 := s0) ez11 ?_ fun hz11 => ?_
  · exact State.setOct_keeps (hp.sub rfl) hz9
  extract_lets +onlyGivenNames z12
  clear_value (ez12 : z12 = _)
  refine On.letS (ps := ps) (s0 := s0) ez12 ?_ fun hz12 => ?_
  · refine On.foldl ?_ ?_
    · exact hz11
    · intro x13 x14 h15
      exact State.setReg_keeps (hp.sub rfl) h15
  extract_lets +onlyGivenNames z16
  clear_value (ez16 : z16 = _)
  refine On.letS (ps := ps) (s0 := s0) ez16 ?_ fun hz16 => ?_
  · refine On.ite ?_ ?_
    · exact hz12
    · exact State.bootFault_keeps (hp.sub rfl) hz12
  refine State.applyProfiles_keeps (hp.sub rfl) ?_
  refine On.foldl ?_ ?_
  · exact hz16
  · intro x17 x18 h19
    exact State.setReg_keeps (hp.sub rfl).page h19

theorem State.flushFaults_keeps {s0 : State} {ps : Nat} {s : State} (hp : Covers ps 0x400000) (hs : On inS ps s0 s) :
    On inS ps s0 (State.flushFaults s) := by
  delta State.flushFaults
  extract_lets +onlyGivenNames z1
  clear_value z1
  exact State.setFaults_keeps (hp.sub rfl) hs

theorem State.restoreP_keeps {s0 : State} {ps : Nat} {s : State} {pick : Nat → Bool} (hp : Covers ps 0xffffffffffffffffffffffffffffffffffffffffffffffffffffffffffffffff00000000) (hs : On inS ps s0 s) :
    On inS ps s0 (State.restoreP s pick) := by
  delta State.restoreP
  extract_lets +onlyGivenNames z1
  clear_value z1
  extract_lets +onlyGivenNames z2
  clear_value (ez2 : z2 = _)
  refine On.letS (ps := ps) (s0 := s0) ez2 ?_ fun hz2 => ?_
  · refine On.mkStores (s := s) ?_ (hp.sub rfl) rising_filter rising_filter id .k .k .k .k .k .k .k .k .k .k .k .k .k .k .k .k .k .k
    exact hs
  extract_lets +onlyGivenNames z3
  clear_value (ez3 : z3 = _)
  refine On.letS (ps := ps) (s0 := s0) ez3 ?_ fun hz3 => ?_
  · refine On.foldl ?_ ?_
    · exact hz2
    · intro x4 x5 h6
      split
      · rename_i x7 x8 x9
        refine On.ite ?_ ?_
        · exact h6
        · exact State.setReg_keeps (hp.sub rfl).page h6
  refine On.foldl ?_ ?_
  · exact hz3
  · intro x10 x11 h12
    split
    · rename_i x13 x14 x15
      refine On.ite ?_ ?_
      · exact h12
      · exact State.setOct_keeps (hp.sub rfl).page h12

theorem State.loadTidewatch_keeps {s0 : State} {ps : Nat} {s : State} {k : Nat} {trial : Bool} (hp : Covers ps 0x400006) (hs : On inS ps s0 s) :
    On inS ps s0 (State.loadTidewatch s k trial) := by
  delta State.loadTidewatch
  refine On.mk (s := s) ?_ .k (.m (hp.sub rfl) rfl) (.c (hp.sub rfl) .keep) .k .k .k .k .k .k .k .k .k .k .k .k .k .k
  exact hs

theorem State.startTidewatch_keeps {s0 : State} {ps : Nat} {s : State} {k : Nat} {board : List Byte} (hp : Covers ps 0xffffffffffffffffffffffffffffffffffffffffffffffffffffffffffffffff00c12006) (hs : On inS ps s0 s) :
    On inS ps s0 (State.startTidewatch s k board) := by
  delta State.startTidewatch
  extract_lets +onlyGivenNames z1
  clear_value z1
  extract_lets +onlyGivenNames z2
  clear_value (ez2 : z2 = _)
  refine On.letS (ps := ps) (s0 := s0) ez2 ?_ fun hz2 => ?_
  · exact State.loadTidewatch_keeps (hp.sub rfl) hs
  extract_lets +onlyGivenNames z3
  clear_value (ez3 : z3 = _)
  refine On.letS (ps := ps) (s0 := s0) ez3 ?_ fun hz3 => ?_
  · exact State.setRunning_keeps (hp.sub rfl) (State.incReg_keeps (hp.sub rfl) (State.setReg_keeps (hp.sub rfl) hz2))
  extract_lets +onlyGivenNames z4
  clear_value (ez4 : z4 = _)
  refine On.letS (ps := ps) (s0 := s0) ez4 ?_ fun hz4 => ?_
  · exact State.setReg_keeps (hp.sub rfl) hz3
  extract_lets +onlyGivenNames z5
  clear_value (ez5 : z5 = _)
  refine On.letS (ps := ps) (s0 := s0) ez5 ?_ fun hz5 => ?_
  · exact State.restoreP_keeps (hp.sub rfl) hz4
  extract_lets +onlyGivenNames z6
  clear_value (ez6 : z6 = _)
  refine On.letS (ps := ps) (s0 := s0) ez6 ?_ fun hz6 => ?_
  · exact State.readBoard_keeps (hp.sub rfl) (State.setReg_keeps (hp.sub rfl) (State.setReg_keeps (hp.sub rfl) hz5))
  extract_lets +onlyGivenNames z7
  clear_value (ez7 : z7 = _)
  refine On.letS (ps := ps) (s0 := s0) ez7 ?_ fun hz7 => ?_
  · exact State.setReg_keeps (hp.sub rfl) hz6
  refine On.ite ?_ ?_
  · refine State.setMs_keeps (hp.sub rfl) ?_ ?_
    · exact .inl fun _ => rfl
    · refine On.mk (s := z7) ?_ .k (.m (hp.sub rfl) rfl) .k .k .k .k .k .k .k .k .k .k .k .k .k .k .k
      exact hz7
  · refine On.mk (s := z7) ?_ .k (.m (hp.sub rfl) rfl) .k .k .k .k .k .k .k .k .k .k .k .k .k .k .k
    exact hz7

theorem State.enterRecovery_keeps {s0 : State} {ps : Nat} {s : State} (hp : Covers ps 0x1000000000002) (hs : On inS ps s0 s) :
    On inS ps s0 (State.enterRecovery s) := by
  delta State.enterRecovery
  extract_lets +onlyGivenNames z1
  clear_value (ez1 : z1 = _)
  refine On.letS (ps := ps) (s0 := s0) ez1 ?_ fun hz1 => ?_
  · exact State.setReg_keeps (hp.sub rfl) hs
  refine On.mk (s := z1) ?_ .k (.m (hp.sub rfl) rfl) .k .k .k .k .k .k .k .k .k .k .k .k .k .k .k
  exact hz1

theorem execPwrGoodMainRise_keeps {s0 : State} {ps : Nat} {bad0 : Bool} {bad1 : Bool} {board : List Byte} {s : State} (hp : Covers ps 0xffffffffffffffffffffffffffffffffffffffffffffffffffffffffffffffff00c12006) (hs : On inS ps s0 s) :
    On inNext ps s0 (execPwrGoodMainRise bad0 bad1 board s) := by
  delta execPwrGoodMainRise
  refine On.next ?_
  extract_lets +onlyGivenNames z1
  extract_lets +onlyGivenNames z2
  clear_value z2
  extract_lets +onlyGivenNames z3
  clear_value (ez3 : z3 = _)
  refine On.letS (ps := ps) (s0 := s0) ez3 ?_ fun hz3 => ?_
  · refine On.mk (s := s) ?_ .k (.m (hp.sub rfl) rfl) .k .k .k .k .k .k .k .k .k .k .k .k .k .k .k
    exact hs
  split
  · rename_i x4 x5 e6
    refine On.mk (s := z3) ?_ .k (.m (hp.sub rfl) rfl) .k .k .k .k .k .k .k .k .k .k .k .k .k .k .k
    exact hz3
  · rename_i x7 x8 e9
    extract_lets +onlyGivenNames z10
    extract_lets +onlyGivenNames z11
    clear_value (ez11 : z11 = _)
    refine On.letS (ps := ps) (s0 := s0) ez11 ?_ fun hz11 => ?_
    · refine On.mk (s := z3) ?_ .k .k (.c (hp.sub rfl) .keep) .k .k .k .k .k .k .k .k .k .k .k .k .k .k
      exact hz3
    extract_lets +onlyGivenNames z12
    clear_value (ez12 : z12 = _)
    refine On.letS (ps := ps) (s0 := s0) ez12 ?_ fun hz12 => ?_
    · exact State.setReg_keeps (hp.sub rfl) (State.flushFaults_keeps (hp.sub rfl) hz11)
    extract_lets +onlyGivenNames z13
    clear_value (ez13 : z13 = _)
    refine On.letS (ps := ps) (s0 := s0) ez13 ?_ fun hz13 => ?_
    · refine On.ite ?_ ?_
      · exact State.bootFault_keeps (hp.sub rfl) hz12
      · exact hz12
    extract_lets +onlyGivenNames z14
    clear_value (ez14 : z14 = _)
    refine On.letS (ps := ps) (s0 := s0) ez14 ?_ fun hz14 => ?_
    · refine State.installPending_keeps (hp.sub rfl) ?_
      refine On.ite ?_ ?_
      · exact State.bootFault_keeps (hp.sub rfl) hz13
      · exact hz13
    split
    · rename_i x15 x16 x17 e18
      refine On.got (g := (inSnd inS)) (t := x17) (ps := ps) (s0 := s0) e18 rfl ?_ fun he18 => ?_
      · exact State.slotOrder_keeps (hp.sub rfl) hz14
      split
      · rename_i x19 x20 x21 e22
        refine On.got (g := (inSnd inS)) (t := x21) (ps := ps) (s0 := s0) e22 rfl ?_ fun he22 => ?_
        · exact State.chooseSlot_keeps (hp.sub rfl) he18
        exact State.startTidewatch_keeps (hp.sub rfl) he22
      · rename_i x23 x24 e25
        refine On.got (g := (inSnd inS)) (t := x24) (ps := ps) (s0 := s0) e25 rfl ?_ fun he25 => ?_
        · exact State.chooseSlot_keeps (hp.sub rfl) he18
        exact State.enterRecovery_keeps (hp.sub rfl) he25
  · rename_i x26 e27 e28
    exact hz3

theorem State.refuseImages_keeps {s0 : State} {ps : Nat} {s : State} (hp : Covers ps 0xffffffffffffffffffffffffffffffffffffffffffffffffffffffffffffffff03fbffff) (hs : On inS ps s0 s) :
    On inS ps s0 (State.refuseImages s) := by
  delta State.refuseImages
  extract_lets +onlyGivenNames z1
  clear_value z1
  extract_lets +onlyGivenNames z2
  clear_value (ez2 : z2 = _)
  refine On.letS (ps := ps) (s0 := s0) ez2 ?_ fun hz2 => ?_
  · exact State.writeBoot_keeps (hp.sub rfl) (State.bootFault_keeps (hp.sub rfl) hs)
  extract_lets +onlyGivenNames z3
  clear_value (ez3 : z3 = _)
  refine On.letS (ps := ps) (s0 := s0) ez3 ?_ fun hz3 => ?_
  · refine On.ite ?_ ?_
    · exact State.failTrial_keeps (hp.sub rfl) hz2
    · exact hz2
  refine State.setMs_keeps (hp.sub rfl) ?_ ?_
  · exact .inl fun _ => rfl
  · exact State.sinkDormant_keeps (hp.sub rfl) hz3

theorem State.trainGroups_keeps {s0 : State} {ps : Nat} {s : State} {spares : List (Nat × Nat)} (hp : Covers ps 0x1000000000000000000000000000000000000008000000000000000c10800) (hs : On inS ps s0 s) :
    On inS ps s0 (State.trainGroups s spares) := by
  delta State.trainGroups
  refine On.foldl ?_ ?_
  · exact hs
  · intro x1 x2 h3
    split
    · rename_i x4 x5 x6 e7
      extract_lets +onlyGivenNames z8
      clear_value (ez8 : z8 = _)
      refine On.letS (ps := ps) (s0 := s0) ez8 ?_ fun hz8 => ?_
      · exact State.setReg_keeps (hp.sub rfl) h3
      refine On.ite ?_ ?_
      · extract_lets +onlyGivenNames z9
        clear_value z9
        refine State.healthFree_keeps (hp.sub rfl) ?_
        refine State.setReg_keeps (hp.sub rfl) ?_
        refine On.mk (s := z8) ?_ .k .k .k .k .k .k .k .k .k .k .k (.c (hp.sub rfl)) .k .k .k .k .k
        exact hz8
      · extract_lets +onlyGivenNames z10
        clear_value (ez10 : z10 = _)
        refine On.letS (ps := ps) (s0 := s0) ez10 ?_ fun hz10 => ?_
        · exact State.setReg_keeps (hp.sub rfl) hz8
        refine On.ite ?_ ?_
        · exact hz10
        · exact State.health_keeps (hp.sub rfl) hz10

theorem State.domainsOn_keeps {s0 : State} {ps : Nat} {s : State} (hp : Covers ps 0x20000000000100000) (hs : On inS ps s0 s) :
    On inS ps s0 (State.domainsOn s) := by
  delta State.domainsOn
  refine On.foldl ?_ ?_
  · exact hs
  · intro x1 x2 h3
    extract_lets +onlyGivenNames z4
    clear_value z4
    refine On.ite ?_ ?_
    · exact h3
    · exact State.setDomain_keeps (hp.sub rfl) h3

theorem State.restoreStore_keeps {s0 : State} {ps : Nat} {s : State} {half0 : Bool} {half1 : Bool} (hp : Covers ps 0xffffffffffffffffffffffffffffffffffffffffffffffffffffffffffffffff00c10006) (hs : On inS ps s0 s) :
    On inS ps s0 (State.restoreStore s half0 half1) := by
  delta State.restoreStore
  extract_lets +onlyGivenNames z1
  extract_lets +onlyGivenNames z2
  clear_value (ez2 : z2 = _)
  refine On.letS (ps := ps) (s0 := s0) ez2 ?_ fun hz2 => ?_
  · refine On.mk (s := s) ?_ .k (.m (hp.sub rfl) rfl) .k .k .k .k .k .k .k .k .k .k .k .k .k .k .k
    exact hs
  refine On.ite ?_ ?_
  · exact State.restoreP_keeps (hp.sub rfl) hz2
  · extract_lets +onlyGivenNames z3
    clear_value z3
    refine State.healthFree_keeps (hp.sub rfl) ?_
    refine On.mkStores (s := z2) ?_ (hp.sub rfl) rising_filter rising_filter id .k .k .k (.c (hp.sub rfl) .keep) .k .k .k .k .k .k .k .k .k .k .k .k .k .k
    exact hz2

theorem State.readStack_keeps {s0 : State} {ps : Nat} {s : State} {h : Nat} {x : StackId} (hp : Covers ps 0xffffffffffffffffffffffffffffffffffffffffffffffffffffffffffffffff03f3f682) (hs : On inS ps s0 s) :
    On inS ps s0 (State.readStack s h x) := by
  delta State.readStack
  extract_lets +onlyGivenNames z1
  clear_value z1
  extract_lets +onlyGivenNames z2
  clear_value (ez2 : z2 = _)
  refine On.letS (ps := ps) (s0 := s0) ez2 ?_ fun hz2 => ?_
  · exact State.setReg_keeps (hp.sub rfl).page hs
  refine On.ite ?_ ?_
  · exact State.stackOut_keeps (hp.sub rfl) hz2
  · extract_lets +onlyGivenNames z3
    clear_value (ez3 : z3 = _)
    refine On.letS (ps := ps) (s0 := s0) ez3 ?_ fun hz3 => ?_
    · exact State.setReg_keeps (hp.sub rfl).page (State.setOct_keeps (hp.sub rfl).page hz2)
    extract_lets +onlyGivenNames z4
    clear_value (ez4 : z4 = _)
    refine On.letS (ps := ps) (s0 := s0) ez4 ?_ fun hz4 => ?_
    · exact State.setOct_keeps (hp.sub rfl).page (State.setReg_keeps (hp.sub rfl).page (State.setReg_keeps (hp.sub rfl).page hz3))
    refine On.ite ?_ ?_
    · exact hz4
    · exact State.stackOut_keeps (hp.sub rfl) hz4

theorem State.startDelays_keeps {s0 : State} {ps : Nat} {s : State} {stackIds : List StackId} (hp : Covers ps 0x10400) (hs : On inS ps s0 s) :
    On inS ps s0 (State.startDelays s stackIds) := by
  delta State.startDelays
  extract_lets +onlyGivenNames z1
  clear_value z1
  refine On.foldl ?_ ?_
  · exact hs
  · intro x2 x3 h4
    refine On.ite ?_ ?_
    · exact State.setPc_keeps (hp.sub rfl) h4
    · split
      · rename_i x5 x6 x7 e8
        refine On.got (g := (inSnd inS)) (t := x7) (ps := ps) (s0 := s0) e8 rfl ?_ fun he8 => ?_
        · exact State.drawBytes_keeps (hp.sub rfl) h4
        exact State.setPc_keeps (hp.sub rfl) he8

theorem execBootPath_keeps {s0 : State} {ps : Nat} {images : Bool} {half0 : Bool} {half1 : Bool} {stackIds : List StackId} {spares : List (Nat × Nat)} {failed : List (List Byte)} {s : State} (hp : Covers ps 0xffffffffffffffffffffffffffffffffffffffffffffffffffffffffffffffff03fbffff) (hs : On inS ps s0 s) :
    On inNext ps s0 (execBootPath images half0 half1 stackIds spares failed s) := by
  delta execBootPath
  refine On.next ?_
  refine On.ite ?_ ?_
  · exact hs
  · extract_lets +onlyGivenNames z1
    extract_lets +onlyGivenNames z2
    clear_value (ez2 : z2 = _)
    refine On.letS (ps := ps) (s0 := s0) ez2 ?_ fun hz2 => ?_
    · refine State.setClock_keeps (hp.sub rfl) ?_
      refine State.setReg_keeps (hp.sub rfl) ?_
      refine State.flushFaults_keeps (hp.sub rfl) ?_
      refine On.mk (s := s) ?_ .k (.m (hp.sub rfl) rfl) .k .k .k .k .k .k .k .k .k .k .k .k .k .k .k
      exact hs
    refine On.ite ?_ ?_
    · exact State.refuseImages_keeps (hp.sub rfl) hz2
    · extract_lets +onlyGivenNames z3
      clear_value (ez3 : z3 = _)
      refine On.letS (ps := ps) (s0 := s0) ez3 ?_ fun hz3 => ?_
      · exact State.restoreStore_keeps (hp.sub rfl) (State.startStewards_keeps (hp.sub rfl) (State.loadIntegrator_keeps (hp.sub rfl) (State.trainGroups_keeps (hp.sub rfl) (State.domainsOn_keeps (hp.sub rfl) hz2))))
      extract_lets +onlyGivenNames z4
      clear_value (ez4 : z4 = _)
      refine On.letS (ps := ps) (s0 := s0) ez4 ?_ fun hz4 => ?_
      · refine On.foldl ?_ ?_
        · exact hz3
        · intro x5 x6 h7
          exact State.setReg_keeps (hp.sub rfl) (State.setReg_keeps (hp.sub rfl) h7)
      extract_lets +onlyGivenNames z8
      clear_value (ez8 : z8 = _)
      refine On.letS (ps := ps) (s0 := s0) ez8 ?_ fun hz8 => ?_
      · refine On.foldl ?_ ?_
        · exact hz4
        · intro x9 x10 h11
          exact State.readStack_keeps (hp.sub rfl) h11
      extract_lets +onlyGivenNames z12
      clear_value (ez12 : z12 = _)
      refine On.letS (ps := ps) (s0 := s0) ez12 ?_ fun hz12 => ?_
      · exact State.applyProfiles_keeps (hp.sub rfl) (State.reportBist_keeps (hp.sub rfl) (State.startDelays_keeps (hp.sub rfl) hz8))
      extract_lets +onlyGivenNames z13
      clear_value (ez13 : z13 = _)
      refine On.letS (ps := ps) (s0 := s0) ez13 ?_ fun hz13 => ?_
      · exact State.portsReset_keeps (hp.sub rfl) (State.startLinks_keeps (hp.sub rfl) (State.powerPair_keeps (hp.sub rfl) hz12))
      extract_lets +onlyGivenNames z14
      clear_value (ez14 : z14 = _)
      refine On.letS (ps := ps) (s0 := s0) ez14 ?_ fun hz14 => ?_
      · refine State.setMs_keeps (hp.sub rfl) ?_ ?_
        · exact .inl fun _ => rfl
        · exact State.completeMode_keeps (hp.sub rfl) hz13
      exact State.tryRejoin_keeps (hp.sub rfl) hz14

theorem execRefclkLoss_keeps {s0 : State} {ps : Nat} {k : Nat} {s : State} (hp : Covers ps 0x1000200000000000000010003000000000000005700060000000000f3df92) (hs : On inS ps s0 s) :
    On inNext ps s0 (execRefclkLoss k s) := by
  delta execRefclkLoss
  refine On.next ?_
  refine On.ite ?_ ?_
  · exact hs
  · extract_lets +onlyGivenNames z1
    extract_lets +onlyGivenNames z2
    clear_value (ez2 : z2 = _)
    refine On.letS (ps := ps) (s0 := s0) ez2 ?_ fun hz2 => ?_
    · refine State.setReg_keeps (hp.sub rfl) ?_
      refine On.mk (s := s) ?_ .k (.m (hp.sub rfl) rfl) .k .k .k .k .k .k .k .k .k .k .k .k .k .k .k
      exact hs
    extract_lets +onlyGivenNames z3
    clear_value (ez3 : z3 = _)
    refine On.letS (ps := ps) (s0 := s0) ez3 ?_ fun hz3 => ?_
    · exact State.bump_keeps (hp.sub rfl) (hp.sub rfl) hz2
    refine On.ite ?_ ?_
    · extract_lets +onlyGivenNames z4 z5
      clear_value z4 z5
      extract_lets +onlyGivenNames z6
      clear_value (ez6 : z6 = _)
      refine On.letS (ps := ps) (s0 := s0) ez6 ?_ fun hz6 => ?_
      · exact State.setLanes_keeps (hp.sub rfl) hz3
      refine On.foldl ?_ ?_
      · refine On.foldl ?_ ?_
        · exact hz6
        · intro x7 x8 h9
          exact State.abortTestOn_keeps (hp.sub rfl) h9
      · intro x10 x11 h12
        exact State.causeOnset_keeps (hp.sub rfl) h12
    · refine On.ite ?_ ?_
      · extract_lets +onlyGivenNames z13
        clear_value z13
        extract_lets +onlyGivenNames z14
        clear_value (ez14 : z14 = _)
        refine On.letS (ps := ps) (s0 := s0) ez14 ?_ fun hz14 => ?_
        · refine On.foldl ?_ ?_
          · exact hz3
          · intro x15 x16 h17
            exact State.abortTestOn_keeps (hp.sub rfl) (State.failLink_keeps (hp.sub rfl) h17)
        refine On.ite ?_ ?_
        · refine On.foldl ?_ ?_
          · exact hz14
          · intro x18 x19 h20
            exact State.failLane_keeps (hp.sub rfl) h20
        · exact hz14
      · refine On.ite ?_ ?_
        · refine On.mk (s := z3) ?_ .k .k .k .k .k .k .k .k .k .k .k .k (.c (hp.sub rfl)) .k .k .k .k
          exact hz3
        · extract_lets +onlyGivenNames z21
          clear_value (ez21 : z21 = _)
          refine On.letS (ps := ps) (s0 := s0) ez21 ?_ fun hz21 => ?_
          · exact State.setReg_keeps (hp.sub rfl) hz3
          refine On.ite ?_ ?_
          · exact State.setReg_keeps (hp.sub rfl) hz21
          · exact hz21

theorem execRefclkReturn_keeps {s0 : State} {ps : Nat} {k : Nat} {ppb : Int} {s : State} (hp : Covers ps 0x40000000000000002) (hs : On inS ps s0 s) :
    On inNext ps s0 (execRefclkReturn k ppb s) := by
  delta execRefclkReturn
  refine On.next ?_
  refine On.ite ?_ ?_
  · refine State.setReg_keeps (hp.sub rfl) ?_
    refine On.mk (s := s) ?_ .k (.m (hp.sub rfl) rfl) .k .k .k .k .k .k .k .k .k .k .k .k .k .k .k
    exact hs
  · exact hs

theorem execPciePerstNLow_keeps {s0 : State} {ps : Nat} {s : State} (hp : Covers ps 0x100000000000000000000000000000000000000000000101002) (hs : On inS ps s0 s) :
    On inNext ps s0 (execPciePerstNLow s) := by
  delta execPciePerstNLow
  refine On.next ?_
  extract_lets +onlyGivenNames z1
  clear_value z1
  extract_lets +onlyGivenNames z2
  extract_lets +onlyGivenNames z3 z4
  clear_value z3 z4
  extract_lets +onlyGivenNames z5
  clear_value (ez5 : z5 = _)
  refine On.letS (ps := ps) (s0 := s0) ez5 ?_ fun hz5 => ?_
  · refine On.mk (s := s) ?_ .k (.m (hp.sub rfl) rfl) .k .k .k .k .k .k .k .k .k .k (.c (hp.sub rfl)) .k .k .k .k
    exact hs
  exact State.abandonHost_keeps (hp.sub rfl) hz5

theorem execPciePerstNHigh_keeps {s0 : State} {ps : Nat} {s : State} (hp : Covers ps 0x2) (hs : On inS ps s0 s) :
    On inNext ps s0 (execPciePerstNHigh s) := by
  delta execPciePerstNHigh
  refine On.next ?_
  refine On.mk (s := s) ?_ .k (.m (hp.sub rfl) rfl) .k .k .k .k .k .k .k .k .k .k .k .k .k .k .k
  exact hs

theorem execPcieLinkTrained_keeps {s0 : State} {ps : Nat} {lanes : Nat} {rate : Nat} {s : State} (hp : Covers ps 0x1000000000000000000000000000000000000000000001000) (hs : On inS ps s0 s) :
    On inNext ps s0 (execPcieLinkTrained lanes rate s) := by
  delta execPcieLinkTrained
  refine On.next ?_
  refine On.ite ?_ ?_
  · exact hs
  · refine State.setReg_keeps (hp.sub rfl) ?_
    refine On.mk (s := s) ?_ .k .k .k .k .k .k .k .k .k .k .k .k (.c (hp.sub rfl)) .k .k .k .k
    exact hs

end Sys2Proof.Machine
end

