-- ==== Sys2Proof/Laws/KeepsCounters.lean ====
section
/-! SUPPORT. Sys2Proof/Laws/KeepsCounters.lean: what the operations of Machine/Counters.lean keep, whatever they do. -/

namespace Sys2Proof.Machine

theorem clearEffect_keeps {s0 : State} {ps : Nat} {c : List Byte} {s : State} (hp : Covers ps 0xffffffffffffffffffffffffffffffffffffffffffffffffffffffffffffffff00304080) (hs : On inS ps s0 s) :
    On (inSnd inS) ps s0 (clearEffect c s) := by
  delta clearEffect
  extract_lets +onlyGivenNames z1 z2 z3
  clear_value z1 z2 z3
  extract_lets +onlyGivenNames z4
  clear_value (ez4 : z4 = _)
  refine On.fnIn (P := fun f => ∀ v0 v1, (∀ w0, On inS ps s0 (v1 w0)) → On (inSnd inS) ps s0 (f v0 v1)) ez4 ?_ fun hz4 => ?_
  · intro x5 x6 h7
    dsimp -zeta only
    split
    · rename_i x8 e9
      refine On.ite ?_ ?_
      · refine On.pair ?_
        refine h7 _
      · exact On.pair hs
    · rename_i x10 e11
      exact On.pair hs
  refine On.ite ?_ ?_
  · exact On.pair hs
  · split
    · rename_i x12 e13
      refine On.ite ?_ ?_
      · exact On.pair (State.clearV_keeps (hp.sub rfl) hs)
      · exact On.pair hs
    · rename_i x14 e15
      refine On.ite ?_ ?_
      · exact On.pair (State.clearVs_keeps (hp.sub rfl) hs)
      · exact On.pair hs
    · rename_i x16 e17
      refine On.ite ?_ ?_
      · exact On.pair (State.clearVs_keeps (hp.sub rfl) hs)
      · exact On.pair hs
    · rename_i x18 e19
      refine hz4 _ ?_ ?_
      intro x20
      exact State.clearSet_keeps (hp.sub rfl) hs
    · rename_i x21 e22
      refine hz4 _ ?_ ?_
      intro x23
      exact State.clearQueueStats_keeps (hp.sub rfl) hs
    · rename_i x24 e25
      refine hz4 _ ?_ ?_
      intro x26
      exact State.clearChannelStats_keeps (hp.sub rfl) hs
    · rename_i x27 e28
      refine On.ite ?_ ?_
      · exact On.pair (State.clearHistogram_keeps (hp.sub rfl) hs)
      · exact On.pair hs
    · rename_i x29 e30
      refine On.ite ?_ ?_
      · extract_lets +onlyGivenNames z31
        clear_value (ez31 : z31 = _)
        refine On.letS (ps := ps) (s0 := s0) ez31 ?_ fun hz31 => ?_
        · exact State.clearVs_keeps (hp.sub rfl) hs
        extract_lets +onlyGivenNames z32
        clear_value (ez32 : z32 = _)
        refine On.letS (ps := ps) (s0 := s0) ez32 ?_ fun hz32 => ?_
        · refine On.foldl ?_ ?_
          · exact hz31
          · intro x33 x34 h35
            exact State.clearSet_keeps (hp.sub rfl) h35
        extract_lets +onlyGivenNames z36
        clear_value z36
        extract_lets +onlyGivenNames z37
        clear_value (ez37 : z37 = _)
        refine On.letS (ps := ps) (s0 := s0) ez37 ?_ fun hz37 => ?_
        · refine On.mk (s := z32) ?_ .k .k .k .k .k .k .k .k .k .k .k .k .k .k (.c (hp.sub rfl)) .k .k
          exact hz32
        refine On.pair ?_
        refine On.foldl ?_ ?_
        · exact hz37
        · intro x38 x39 h40
          exact State.clearHistogram_keeps (hp.sub rfl) h40
      · exact On.pair hs
    · rename_i x41 e42 e43 e44 e45 e46 e47 e48 e49
      exact On.pair hs

theorem execClearObject_keeps {s0 : State} {ps : Nat} {o : Origin} {idx : Nat} {sub : Nat} {s : State} (hp : Covers ps 0xffffffffffffffffffffffffffffffffffffffffffffffffffffffffffffffff00324289) (hs : On inS ps s0 s) :
    On inNext ps s0 (execClearObject o idx sub s) := by
  delta execClearObject
  refine On.next ?_
  refine State.runWrite_keeps (hp.sub rfl) ?_ ?_
  · exact hs
  · intro x1 x2 h3
    exact clearEffect_keeps (hp.sub rfl) h3

theorem execClearIndex_keeps {s0 : State} {ps : Nat} {o : Origin} {idx : Nat} {s : State} (hp : Covers ps 0xffffffffffffffffffffffffffffffffffffffffffffffffffffffffffffffff00324289) (hs : On inS ps s0 s) :
    On inNext ps s0 (execClearIndex o idx s) := by
  delta execClearIndex
  refine On.next ?_
  refine State.runWrite_keeps (hp.sub rfl) ?_ ?_
  · exact hs
  · intro x1 x2 h3
    exact clearEffect_keeps (hp.sub rfl) h3

theorem execClearAllObjects_keeps {s0 : State} {ps : Nat} {o : Origin} {s : State} (hp : Covers ps 0xffffffffffffffffffffffffffffffffffffffffffffffffffffffffffffffff00324289) (hs : On inS ps s0 s) :
    On inNext ps s0 (execClearAllObjects o s) := by
  delta execClearAllObjects
  refine On.next ?_
  refine State.runWrite_keeps (hp.sub rfl) ?_ ?_
  · exact hs
  · intro x1 x2 h3
    exact clearEffect_keeps (hp.sub rfl) h3

theorem execClearCounterSet_keeps {s0 : State} {ps : Nat} {o : Origin} {h : Nat} {s : State} (hp : Covers ps 0xffffffffffffffffffffffffffffffffffffffffffffffffffffffffffffffff00324289) (hs : On inS ps s0 s) :
    On inNext ps s0 (execClearCounterSet o h s) := by
  delta execClearCounterSet
  refine On.next ?_
  refine State.runWrite_keeps (hp.sub rfl) ?_ ?_
  · exact hs
  · intro x1 x2 h3
    exact clearEffect_keeps (hp.sub rfl) h3

theorem execClearQueueStats_keeps {s0 : State} {ps : Nat} {o : Origin} {h : Nat} {s : State} (hp : Covers ps 0xffffffffffffffffffffffffffffffffffffffffffffffffffffffffffffffff00324289) (hs : On inS ps s0 s) :
    On inNext ps s0 (execClearQueueStats o h s) := by
  delta execClearQueueStats
  refine On.next ?_
  refine State.runWrite_keeps (hp.sub rfl) ?_ ?_
  · exact hs
  · intro x1 x2 h3
    exact clearEffect_keeps (hp.sub rfl) h3

theorem execClearChannelStats_keeps {s0 : State} {ps : Nat} {o : Origin} {h : Nat} {s : State} (hp : Covers ps 0xffffffffffffffffffffffffffffffffffffffffffffffffffffffffffffffff00324289) (hs : On inS ps s0 s) :
    On inNext ps s0 (execClearChannelStats o h s) := by
  delta execClearChannelStats
  refine On.next ?_
  refine State.runWrite_keeps (hp.sub rfl) ?_ ?_
  · exact hs
  · intro x1 x2 h3
    exact clearEffect_keeps (hp.sub rfl) h3

theorem execClearHistogram_keeps {s0 : State} {ps : Nat} {o : Origin} {entry : Nat} {s : State} (hp : Covers ps 0xffffffffffffffffffffffffffffffffffffffffffffffffffffffffffffffff00324289) (hs : On inS ps s0 s) :
    On inNext ps s0 (execClearHistogram o entry s) := by
  delta execClearHistogram
  refine On.next ?_
  refine State.runWrite_keeps (hp.sub rfl) ?_ ?_
  · exact hs
  · intro x1 x2 h3
    exact clearEffect_keeps (hp.sub rfl) h3

theorem execClearEverything_keeps {s0 : State} {ps : Nat} {o : Origin} {s : State} (hp : Covers ps 0xffffffffffffffffffffffffffffffffffffffffffffffffffffffffffffffff00324289) (hs : On inS ps s0 s) :
    On inNext ps s0 (execClearEverything o s) := by
  delta execClearEverything
  refine On.next ?_
  refine State.runWrite_keeps (hp.sub rfl) ?_ ?_
  · exact hs
  · intro x1 x2 h3
    exact clearEffect_keeps (hp.sub rfl) h3

theorem createCounterSet_keeps {s0 : State} {ps : Nat} {v : List Byte} {s : State} (hp : Covers ps 0x304000) (hs : On inS ps s0 s) :
    On (inOk (inSnd inS)) ps s0 (createCounterSet v s) := by
  delta createCounterSet
  refine On.ite ?_ ?_
  · exact On.error
  · split
    · rename_i x1 e2
      exact On.error
    · rename_i x3 x4 e5
      extract_lets +onlyGivenNames z6
      clear_value z6
      refine On.ok ?_
      refine On.pair ?_
      refine On.mk (s := s) ?_ .k .k .k .k .k .k .k .k .k .k .k .k .k .k (.c (hp.sub rfl)) .k .k
      exact hs

theorem execCounterSetCreate_keeps {s0 : State} {ps : Nat} {o : Origin} {v : List Byte} {s : State} (hp : Covers ps 0x324201) (hs : On inS ps s0 s) :
    On inNext ps s0 (execCounterSetCreate o v s) := by
  delta execCounterSetCreate
  refine On.next ?_
  refine State.endCreate_keeps (hp.sub rfl) ?_
  refine State.runCreate_keeps (hp.sub rfl) ?_ ?_
  · exact hs
  · intro x1 x2 h3
    exact createCounterSet_keeps (hp.sub rfl) h3

theorem State.flushError_keeps {s0 : State} {ps : Nat} {s : State} {kind : Nat} {i : Nat} {err : Nat} (hp : Covers ps 0x1010100000000000100000003000000000000000600030000000003f3f682) (hs : On inS ps s0 s) :
    On inS ps s0 (State.flushError s kind i err) := by
  delta State.flushError
  extract_lets +onlyGivenNames z1
  clear_value z1
  split
  · rename_i x2
    exact State.correctedBurst_keeps (hp.sub rfl) hs
  · rename_i x3
    exact State.badBurst_keeps (hp.sub rfl) (State.loseStat_keeps (hp.sub rfl) hs)
  · rename_i x4 e5 e6
    exact hs

theorem execStatsFlush_keeps {s0 : State} {ps : Nat} {kind : Nat} {i : Nat} {err : Nat} {s : State} (hp : Covers ps 0x1010300000000000100000003000000000000000600030000000003f3f682) (hs : On inS ps s0 s) :
    On inNext ps s0 (execStatsFlush kind i err s) := by
  delta execStatsFlush
  extract_lets +onlyGivenNames z1
  clear_value (ez1 : z1 = _)
  refine On.letS (ps := ps) (s0 := s0) ez1 ?_ fun hz1 => ?_
  · exact State.touchHbm_keeps (hp.sub rfl) hs
  refine On.next ?_
  refine On.ite ?_ ?_
  · exact hz1
  · exact State.flushDelta_keeps (hp.sub rfl) (State.flushError_keeps (hp.sub rfl) (State.activateRow_keeps (hp.sub rfl) (State.count_keeps (hp.sub rfl) (hp.sub rfl) hz1)))

theorem snapshotEffect_keeps {s0 : State} {ps : Nat} {c : List Byte} {s : State} (hp : Covers ps 0x100000000000000000000000000000000000000000000000000304000) (hs : On inS ps s0 s) :
    On (inSnd inS) ps s0 (snapshotEffect c s) := by
  delta snapshotEffect
  refine On.ite ?_ ?_
  · exact On.pair hs
  · refine On.ite ?_ ?_
    · exact On.pair hs
    · refine On.pair ?_
      refine State.setReg_keeps (hp.sub rfl) ?_
      refine On.mk (s := s) ?_ .k .k .k .k .k .k .k .k .k .k .k .k .k .k (.c (hp.sub rfl)) .k .k
      exact hs

theorem execSnapshot_keeps {s0 : State} {ps : Nat} {o : Origin} {v : List Byte} {s : State} (hp : Covers ps 0x100000000000000000000000000000000000000000000000000324209) (hs : On inS ps s0 s) :
    On inNext ps s0 (execSnapshot o v s) := by
  delta execSnapshot
  refine On.next ?_
  refine State.runWrite_keeps (hp.sub rfl) ?_ ?_
  · exact hs
  · intro x1 x2 h3
    exact snapshotEffect_keeps (hp.sub rfl) h3

theorem execSnapshotReady_keeps {s0 : State} {ps : Nat} {s : State} (hp : Covers ps 0x304000) (hs : On inS ps s0 s) :
    On inNext ps s0 (execSnapshotReady s) := by
  delta execSnapshotReady
  refine On.next ?_
  split
  · rename_i x1 x2 e3
    refine On.mk (s := s) ?_ .k .k .k .k .k .k .k .k .k .k .k .k .k .k (.c (hp.sub rfl)) .k .k
    exact hs
  · rename_i x4 e5
    exact hs

theorem snapshotAnswer_keeps {s0 : State} {ps : Nat} {c : List Byte} {s : State} (_hp : Covers ps 0x0) (hs : On inS ps s0 s) :
    On (inSnd (inSnd inS)) ps s0 (snapshotAnswer c s) := by
  delta snapshotAnswer
  extract_lets +onlyGivenNames z1 z2 z3 z4
  clear_value z1 z2 z3 z4
  extract_lets +onlyGivenNames z5
  clear_value (ez5 : z5 = _)
  refine On.fnIn (P := fun f => ∀ v0, On (inSnd (inSnd inS)) ps s0 (f v0)) ez5 ?_ fun hz5 => ?_
  · intro x6
    dsimp -zeta only
    exact On.pair (On.pair hs)
  refine On.ite ?_ ?_
  · exact On.pair (On.pair hs)
  · split
    · rename_i x7 e8
      refine hz5 _
    · rename_i x9 x10 e11
      refine On.ite ?_ ?_
      · refine On.ite ?_ ?_
        · refine hz5 _
        · refine On.ite ?_ ?_
          · refine hz5 _
          · refine On.ite ?_ ?_
            · refine hz5 _
            · extract_lets +onlyGivenNames z12
              clear_value z12
              exact On.pair (On.pair hs)
      · extract_lets +onlyGivenNames z13
        clear_value z13
        refine On.ite ?_ ?_
        · refine hz5 _
        · refine On.ite ?_ ?_
          · refine hz5 _
          · refine On.ite ?_ ?_
            · refine hz5 _
            · extract_lets +onlyGivenNames z14
              clear_value z14
              exact On.pair (On.pair hs)

theorem execSnapshotQuery_keeps {s0 : State} {ps : Nat} {o : Origin} {v : List Byte} {s : State} (hp : Covers ps 0x20209) (hs : On inS ps s0 s) :
    On inNext ps s0 (execSnapshotQuery o v s) := by
  delta execSnapshotQuery
  refine On.next ?_
  refine State.runQuery_keeps (hp.sub rfl) ?_ ?_
  · exact hs
  · intro x1 x2 h3
    exact snapshotAnswer_keeps (hp.sub rfl) h3

theorem wrapAnswer_keeps {s0 : State} {ps : Nat} {c : List Byte} {s : State} (_hp : Covers ps 0x0) (hs : On inS ps s0 s) :
    On (inSnd (inSnd inS)) ps s0 (wrapAnswer c s) := by
  delta wrapAnswer
  extract_lets +onlyGivenNames z1 z2
  clear_value z1 z2
  refine On.ite ?_ ?_
  · exact On.pair (On.pair hs)
  · refine On.ite ?_ ?_
    · exact On.pair (On.pair hs)
    · refine On.ite ?_ ?_
      · exact On.pair (On.pair hs)
      · refine On.ite ?_ ?_
        · exact On.pair (On.pair hs)
        · exact On.pair (On.pair hs)

theorem execWrapQuery_keeps {s0 : State} {ps : Nat} {o : Origin} {v : List Byte} {s : State} (hp : Covers ps 0x20209) (hs : On inS ps s0 s) :
    On inNext ps s0 (execWrapQuery o v s) := by
  delta execWrapQuery
  refine On.next ?_
  refine State.runQuery_keeps (hp.sub rfl) ?_ ?_
  · exact hs
  · intro x1 x2 h3
    exact wrapAnswer_keeps (hp.sub rfl) h3

theorem counterSetAnswer_keeps {s0 : State} {ps : Nat} {c : List Byte} {s : State} (_hp : Covers ps 0x0) (hs : On inS ps s0 s) :
    On (inSnd (inSnd inS)) ps s0 (counterSetAnswer c s) := by
  delta counterSetAnswer
  extract_lets +onlyGivenNames z1 z2
  clear_value z1 z2
  refine On.ite ?_ ?_
  · exact On.pair (On.pair hs)
  · split
    · rename_i x3 e4
      refine On.ite ?_ ?_
      · exact On.pair (On.pair hs)
      · extract_lets +onlyGivenNames z5 z6
        clear_value z5 z6
        exact On.pair (On.pair hs)
    · rename_i x7 e8
      exact On.pair (On.pair hs)

theorem execCounterSetQuery_keeps {s0 : State} {ps : Nat} {o : Origin} {v : List Byte} {s : State} (hp : Covers ps 0x20209) (hs : On inS ps s0 s) :
    On inNext ps s0 (execCounterSetQuery o v s) := by
  delta execCounterSetQuery
  refine On.next ?_
  refine State.runQuery_keeps (hp.sub rfl) ?_ ?_
  · exact hs
  · intro x1 x2 h3
    exact counterSetAnswer_keeps (hp.sub rfl) h3

theorem histogramAnswer_keeps {s0 : State} {ps : Nat} {c : List Byte} {s : State} (_hp : Covers ps 0x0) (hs : On inS ps s0 s) :
    On (inSnd (inSnd inS)) ps s0 (histogramAnswer c s) := by
  delta histogramAnswer
  extract_lets +onlyGivenNames z1
  clear_value z1
  refine On.ite ?_ ?_
  · exact On.pair (On.pair hs)
  · extract_lets +onlyGivenNames z2
    clear_value z2
    exact On.pair (On.pair hs)

theorem execHistogramQuery_keeps {s0 : State} {ps : Nat} {o : Origin} {v : List Byte} {s : State} (hp : Covers ps 0x20209) (hs : On inS ps s0 s) :
    On inNext ps s0 (execHistogramQuery o v s) := by
  delta execHistogramQuery
  refine On.next ?_
  refine State.runQuery_keeps (hp.sub rfl) ?_ ?_
  · exact hs
  · intro x1 x2 h3
    exact histogramAnswer_keeps (hp.sub rfl) h3

theorem traceAnswer_keeps {s0 : State} {ps : Nat} {c : List Byte} {s : State} (_hp : Covers ps 0x0) (hs : On inS ps s0 s) :
    On (inSnd (inSnd inS)) ps s0 (traceAnswer c s) := by
  delta traceAnswer
  extract_lets +onlyGivenNames z1 z2 z3
  clear_value z1 z2 z3
  refine On.ite ?_ ?_
  · exact On.pair (On.pair hs)
  · refine On.ite ?_ ?_
    · exact On.pair (On.pair hs)
    · extract_lets +onlyGivenNames z4 z5 z6 z7
      clear_value z4 z5 z6 z7
      exact On.pair (On.pair hs)

theorem execTraceRead_keeps {s0 : State} {ps : Nat} {o : Origin} {v : List Byte} {s : State} (hp : Covers ps 0x20209) (hs : On inS ps s0 s) :
    On inNext ps s0 (execTraceRead o v s) := by
  delta execTraceRead
  refine On.next ?_
  refine State.runQuery_keeps (hp.sub rfl) ?_ ?_
  · exact hs
  · intro x1 x2 h3
    exact traceAnswer_keeps (hp.sub rfl) h3

theorem ringResetEffect_keeps {s0 : State} {ps : Nat} {c : List Byte} {s : State} (hp : Covers ps 0x304000) (hs : On inS ps s0 s) :
    On (inSnd inS) ps s0 (ringResetEffect c s) := by
  delta ringResetEffect
  refine On.pair ?_
  refine On.ite ?_ ?_
  · refine On.mk (s := s) ?_ .k .k .k .k .k .k .k .k .k .k .k .k .k .k (.c (hp.sub rfl)) .k .k
    exact hs
  · exact hs

theorem execRingReset_keeps {s0 : State} {ps : Nat} {o : Origin} {v : List Byte} {s : State} (hp : Covers ps 0x324209) (hs : On inS ps s0 s) :
    On inNext ps s0 (execRingReset o v s) := by
  delta execRingReset
  refine On.next ?_
  refine State.runWrite_keeps (hp.sub rfl) ?_ ?_
  · exact hs
  · intro x1 x2 h3
    exact ringResetEffect_keeps (hp.sub rfl) h3

end Sys2Proof.Machine
end

