-- ==== Sys2Proof/Laws/KeepsPorts.lean ====
section
/-! SUPPORT. Sys2Proof/Laws/KeepsPorts.lean: what the operations of Machine/Ports.lean keep, whatever they do. -/

namespace Sys2Proof.Machine

theorem portModeEffect_keeps {s0 : State} {ps : Nat} {p : Nat} {c : List Byte} {s : State} (hp : Covers ps 0x1000000000000000000000000000000000000000700000000000000f1c000) (hs : On inS ps s0 s) :
    On (inSnd inS) ps s0 (portModeEffect p c s) := by
  delta portModeEffect
  extract_lets +onlyGivenNames z1 z2
  clear_value z1 z2
  refine On.ite ?_ ?_
  · exact On.pair hs
  · refine On.ite ?_ ?_
    · exact On.pair hs
    · refine On.ite ?_ ?_
      · exact On.pair hs
      · extract_lets +onlyGivenNames z3
        clear_value (ez3 : z3 = _)
        refine On.letS (ps := ps) (s0 := s0) ez3 ?_ fun hz3 => ?_
        · exact State.setLanes_keeps (hp.sub rfl) hs
        extract_lets +onlyGivenNames z4
        clear_value (ez4 : z4 = _)
        refine On.letS (ps := ps) (s0 := s0) ez4 ?_ fun hz4 => ?_
        · refine On.foldl ?_ ?_
          · exact hz3
          · intro x5 x6 h7
            exact State.abortTestOn_keeps (hp.sub rfl) h7
        exact On.pair (State.setReg_keeps (hp.sub rfl) (State.setReg_keeps (hp.sub rfl) hz4))

theorem execPortMode_keeps {s0 : State} {ps : Nat} {o : Origin} {p : Nat} {v : List Byte} {s : State} (hp : Covers ps 0x1000000000000000000000000000000000000000700000000000000f3c209) (hs : On inS ps s0 s) :
    On inNext ps s0 (execPortMode o p v s) := by
  delta execPortMode
  refine On.next ?_
  refine State.runWrite_keeps (hp.sub rfl) ?_ ?_
  · exact hs
  · intro x1 x2 h3
    exact portModeEffect_keeps (hp.sub rfl) h3

theorem portSliceEffect_keeps {s0 : State} {ps : Nat} {p : Nat} {c : List Byte} {s : State} (hp : Covers ps 0x100000000000000000000) (hs : On inS ps s0 s) :
    On (inSnd inS) ps s0 (portSliceEffect p c s) := by
  delta portSliceEffect
  extract_lets +onlyGivenNames z1
  clear_value z1
  refine On.ite ?_ ?_
  · exact On.pair hs
  · exact On.pair (State.setReg_keeps (hp.sub rfl) hs)

theorem execPortSlice_keeps {s0 : State} {ps : Nat} {o : Origin} {p : Nat} {v : List Byte} {s : State} (hp : Covers ps 0x100000000000000020209) (hs : On inS ps s0 s) :
    On inNext ps s0 (execPortSlice o p v s) := by
  delta execPortSlice
  refine On.next ?_
  refine State.runWrite_keeps (hp.sub rfl) ?_ ?_
  · exact hs
  · intro x1 x2 h3
    exact portSliceEffect_keeps (hp.sub rfl) h3

theorem portAdminEffect_keeps {s0 : State} {ps : Nat} {p : Nat} {c : List Byte} {s : State} (hp : Covers ps 0x1000200000000000000000003000000000000000700000000000000f3cc92) (hs : On inS ps s0 s) :
    On (inSnd inS) ps s0 (portAdminEffect p c s) := by
  delta portAdminEffect
  extract_lets +onlyGivenNames z1
  clear_value z1
  refine On.ite ?_ ?_
  · exact On.pair hs
  · refine On.ite ?_ ?_
    · refine On.ite ?_ ?_
      · exact On.pair hs
      · exact On.pair (State.startPort_keeps (hp.sub rfl) (State.setReg_keeps (hp.sub rfl) hs))
    · extract_lets +onlyGivenNames z2
      clear_value (ez2 : z2 = _)
      refine On.letS (ps := ps) (s0 := s0) ez2 ?_ fun hz2 => ?_
      · exact State.setLanes_keeps (hp.sub rfl) (State.portDown_keeps (hp.sub rfl) (State.setReg_keeps (hp.sub rfl) hs))
      extract_lets +onlyGivenNames z3
      clear_value z3
      extract_lets +onlyGivenNames z4
      clear_value (ez4 : z4 = _)
      refine On.letS (ps := ps) (s0 := s0) ez4 ?_ fun hz4 => ?_
      · exact State.setPort_keeps (hp.sub rfl) hz2
      refine On.pair ?_
      refine On.ite ?_ ?_
      · exact hz4
      · exact State.releaseModule_keeps (hp.sub rfl) (State.setReg_keeps (hp.sub rfl) hz4)

theorem execPortAdminEnable_keeps {s0 : State} {ps : Nat} {o : Origin} {p : Nat} {s : State} (hp : Covers ps 0x1000200000000000000000003000000000000000700000000000000f3ce9b) (hs : On inS ps s0 s) :
    On inNext ps s0 (execPortAdminEnable o p s) := by
  delta execPortAdminEnable
  refine On.next ?_
  refine State.runWrite_keeps (hp.sub rfl) ?_ ?_
  · exact hs
  · intro x1 x2 h3
    exact portAdminEffect_keeps (hp.sub rfl) h3

theorem execPortAdminDisable_keeps {s0 : State} {ps : Nat} {o : Origin} {p : Nat} {s : State} (hp : Covers ps 0x1000200000000000000000003000000000000000700000000000000f3ce9b) (hs : On inS ps s0 s) :
    On inNext ps s0 (execPortAdminDisable o p s) := by
  delta execPortAdminDisable
  refine On.next ?_
  refine State.runWrite_keeps (hp.sub rfl) ?_ ?_
  · exact hs
  · intro x1 x2 h3
    exact portAdminEffect_keeps (hp.sub rfl) h3

theorem State.initDataPath_keeps {s0 : State} {ps : Nat} {s : State} {p : Nat} {n : Nat} (hp : Covers ps 0x20002) (hs : On inS ps s0 s) :
    On inS ps s0 (State.initDataPath s p n) := by
  delta State.initDataPath
  extract_lets +onlyGivenNames z1 z2
  clear_value z1 z2
  extract_lets +onlyGivenNames z3
  clear_value (ez3 : z3 = _)
  refine On.letS (ps := ps) (s0 := s0) ez3 ?_ fun hz3 => ?_
  · exact State.emit_keeps (hp.sub rfl) hs
  extract_lets +onlyGivenNames z4
  clear_value (ez4 : z4 = _)
  refine On.letS (ps := ps) (s0 := s0) ez4 ?_ fun hz4 => ?_
  · exact State.emit_keeps (hp.sub rfl) hz3
  exact State.writeDeinit_keeps (hp.sub rfl) hz4

theorem execModuleActivationStep_keeps {s0 : State} {ps : Nat} {p : Nat} {s : State} (hp : Covers ps 0x1000000000000000000000000000000000000000700000000000000f3c802) (hs : On inS ps s0 s) :
    On inNext ps s0 (execModuleActivationStep p s) := by
  delta execModuleActivationStep
  refine On.next ?_
  extract_lets +onlyGivenNames z1
  clear_value z1
  split
  · rename_i x2 x3 x4 e5 e6
    refine On.ite ?_ ?_
    · exact hs
    · exact State.setPort_keeps (hp.sub rfl) (State.initDataPath_keeps (hp.sub rfl) hs)
  · rename_i x7 x8 x9 e10 e11
    refine On.ite ?_ ?_
    · exact hs
    · exact State.portOn_keeps (hp.sub rfl) hs
  · rename_i x12 x13 e14 e15
    exact hs

theorem execModuleActivationTimeout_keeps {s0 : State} {ps : Nat} {p : Nat} {s : State} (hp : Covers ps 0x100000000000000000800) (hs : On inS ps s0 s) :
    On inNext ps s0 (execModuleActivationTimeout p s) := by
  delta execModuleActivationTimeout
  refine On.next ?_
  extract_lets +onlyGivenNames z1
  clear_value z1
  refine On.ite ?_ ?_
  · exact hs
  · exact State.setReg_keeps (hp.sub rfl) (State.setPort_keeps (hp.sub rfl) hs)

theorem execLinkFaultOnset_keeps {s0 : State} {ps : Nat} {p : Nat} {cause : Nat} {lane : Nat} {s : State} (hp : Covers ps 0x200000000000000000003000000000000000700000000000000304c90) (hs : On inS ps s0 s) :
    On inNext ps s0 (execLinkFaultOnset p cause lane s) := by
  delta execLinkFaultOnset
  refine On.next ?_
  refine On.ite ?_ ?_
  · exact hs
  · extract_lets +onlyGivenNames z1
    clear_value z1
    extract_lets +onlyGivenNames z2
    clear_value (ez2 : z2 = _)
    refine On.letS (ps := ps) (s0 := s0) ez2 ?_ fun hz2 => ?_
    · refine On.ite ?_ ?_
      · exact State.setLanes_keeps (hp.sub rfl) hs
      · exact hs
    exact State.causeOnset_keeps (hp.sub rfl) hz2

theorem execLinkDownHoldExpiry_keeps {s0 : State} {ps : Nat} {p : Nat} {s : State} (hp : Covers ps 0x200000000000000000003000000000000000100000000000000344c90) (hs : On inS ps s0 s) :
    On inNext ps s0 (execLinkDownHoldExpiry p s) := by
  delta execLinkDownHoldExpiry
  refine On.next ?_
  split
  · rename_i x1 e2
    exact hs
  · rename_i x3 x4 x5 e6
    exact State.portDown_keeps (hp.sub rfl) (State.reach_keeps (hp.sub rfl) hs)

theorem execLaneReacquired_keeps {s0 : State} {ps : Nat} {lane : Nat} {s : State} (hp : Covers ps 0x600000000000000000800) (hs : On inS ps s0 s) :
    On inNext ps s0 (execLaneReacquired lane s) := by
  delta execLaneReacquired
  refine On.next ?_
  refine On.ite ?_ ?_
  · exact hs
  · extract_lets +onlyGivenNames z1
    clear_value (ez1 : z1 = _)
    refine On.letS (ps := ps) (s0 := s0) ez1 ?_ fun hz1 => ?_
    · exact State.setLanes_keeps (hp.sub rfl) hs
    extract_lets +onlyGivenNames z2
    clear_value z2
    refine On.ite ?_ ?_
    · exact hz1
    · exact State.setPort_keeps (hp.sub rfl) hz1

theorem execLinkUp_keeps {s0 : State} {ps : Nat} {p : Nat} {s : State} (hp : Covers ps 0x100000000000000140000) (hs : On inS ps s0 s) :
    On inNext ps s0 (execLinkUp p s) := by
  delta execLinkUp
  refine On.next ?_
  split
  · rename_i x1 e2
    exact hs
  · rename_i x3 x4 e5
    extract_lets +onlyGivenNames z6
    clear_value z6
    refine On.ite ?_ ?_
    · exact hs
    · extract_lets +onlyGivenNames z7
      clear_value (ez7 : z7 = _)
      refine On.letS (ps := ps) (s0 := s0) ez7 ?_ fun hz7 => ?_
      · exact State.reach_keeps (hp.sub rfl) hs
      exact State.setReg_keeps (hp.sub rfl) (State.bump_keeps (hp.sub rfl) (hp.sub rfl) (State.setReg_keeps (hp.sub rfl) hz7))

theorem stampPopEffect_keeps {s0 : State} {ps : Nat} {o : Origin} {p : Nat} {c : List Byte} {s : State} (hp : Covers ps 0x801) (hs : On inS ps s0 s) :
    On (inSnd inS) ps s0 (stampPopEffect o p c s) := by
  delta stampPopEffect
  extract_lets +onlyGivenNames z1
  clear_value z1
  refine On.ite ?_ ?_
  · exact On.pair hs
  · extract_lets +onlyGivenNames z2
    clear_value z2
    exact On.pair (State.setResult_keeps (hp.sub rfl) (State.setPort_keeps (hp.sub rfl) hs))

theorem execTxStampPop_keeps {s0 : State} {ps : Nat} {o : Origin} {p : Nat} {v : List Byte} {s : State} (hp : Covers ps 0x20a09) (hs : On inS ps s0 s) :
    On inNext ps s0 (execTxStampPop o p v s) := by
  delta execTxStampPop
  refine On.next ?_
  refine State.runWrite_keeps (hp.sub rfl) ?_ ?_
  · exact hs
  · intro x1 x2 h3
    exact stampPopEffect_keeps (hp.sub rfl) h3

theorem execPpsInEdge_keeps {s0 : State} {ps : Nat} {s : State} (hp : Covers ps 0x200000000000000100002) (hs : On inS ps s0 s) :
    On inNext ps s0 (execPpsInEdge s) := by
  delta execPpsInEdge
  refine On.next ?_
  extract_lets +onlyGivenNames z1
  extract_lets +onlyGivenNames z2
  clear_value z2
  extract_lets +onlyGivenNames z3
  clear_value (ez3 : z3 = _)
  refine On.letS (ps := ps) (s0 := s0) ez3 ?_ fun hz3 => ?_
  · refine On.mk (s := s) ?_ .k (.m (hp.sub rfl) rfl) .k .k .k .k .k .k .k .k .k .k .k .k .k .k .k
    exact hs
  refine On.ite ?_ ?_
  · exact hz3
  · exact State.bump_keeps (hp.sub rfl) (hp.sub rfl) (State.setReg_keeps (hp.sub rfl) hz3)

theorem execPpsOutSecond_keeps {s0 : State} {ps : Nat} {s : State} (hp : Covers ps 0x40802) (hs : On inS ps s0 s) :
    On inNext ps s0 (execPpsOutSecond s) := by
  delta execPpsOutSecond
  refine On.next ?_
  refine On.ite ?_ ?_
  · exact hs
  · extract_lets +onlyGivenNames z1 z2 z3
    clear_value z1 z2 z3
    extract_lets +onlyGivenNames z4
    clear_value (ez4 : z4 = _)
    refine On.letS (ps := ps) (s0 := s0) ez4 ?_ fun hz4 => ?_
    · exact State.reach_keeps (hp.sub rfl) hs
    refine On.mk (s := z4) ?_ .k (.m (hp.sub rfl) rfl) .k .k .k .k .k .k .k .k .k (.c (hp.sub rfl)) .k .k .k .k .k
    exact hz4

theorem execPpsOutFall_keeps {s0 : State} {ps : Nat} {s : State} (hp : Covers ps 0x40802) (hs : On inS ps s0 s) :
    On inNext ps s0 (execPpsOutFall s) := by
  delta execPpsOutFall
  refine On.next ?_
  split
  · rename_i x1 e2
    exact hs
  · rename_i x3 x4 e5
    extract_lets +onlyGivenNames z6
    clear_value (ez6 : z6 = _)
    refine On.letS (ps := ps) (s0 := s0) ez6 ?_ fun hz6 => ?_
    · exact State.reach_keeps (hp.sub rfl) hs
    refine On.mk (s := z6) ?_ .k (.m (hp.sub rfl) rfl) .k .k .k .k .k .k .k .k .k (.c (hp.sub rfl)) .k .k .k .k .k
    exact hz6

theorem execAdaptStep_keeps {s0 : State} {ps : Nat} {lane : Nat} {coef : Nat} {up : Bool} {before : Nat} {s : State} (hp : Covers ps 0xffffffffffffffffffffffffffffffffffffffffffffffffffffffffffffffff00100800) (hs : On inS ps s0 s) :
    On inNext ps s0 (execAdaptStep lane coef up before s) := by
  delta execAdaptStep
  refine On.next ?_
  split
  · rename_i x1 e2
    exact hs
  · rename_i x3 x4 x5 e6
    extract_lets +onlyGivenNames z7
    clear_value z7
    refine On.ite ?_ ?_
    · exact hs
    · extract_lets +onlyGivenNames z8 z9
      clear_value z8 z9
      exact State.bump_keeps (hp.sub rfl).page (hp.sub rfl) (State.setAdapt_keeps (hp.sub rfl) hs)

theorem execAdaptEvaluate_keeps {s0 : State} {ps : Nat} {lane : Nat} {after : Nat} {s : State} (hp : Covers ps 0xffffffffffffffffffffffffffffffffffffffffffffffffffffffffffffffff00140800) (hs : On inS ps s0 s) :
    On inNext ps s0 (execAdaptEvaluate lane after s) := by
  delta execAdaptEvaluate
  refine On.next ?_
  split
  · rename_i x1 x2 x3 x4 x5 x6 x7 x8 e9 e10
    extract_lets +onlyGivenNames z11
    clear_value (ez11 : z11 = _)
    refine On.letS (ps := ps) (s0 := s0) ez11 ?_ fun hz11 => ?_
    · exact State.reach_keeps (hp.sub rfl) hs
    extract_lets +onlyGivenNames z12
    clear_value z12
    refine On.ite ?_ ?_
    · extract_lets +onlyGivenNames z13
      clear_value z13
      exact State.bump_keeps (hp.sub rfl).page (hp.sub rfl) (State.setAdapt_keeps (hp.sub rfl) hz11)
    · exact State.setAdapt_keeps (hp.sub rfl) hz11
  · rename_i x14 x15 e16
    exact hs

theorem execMarginMeasure_keeps {s0 : State} {ps : Nat} {lane : Nat} {height : Nat} {width : Nat} {snr : Nat} {ber : Nat} {corrected : Nat} {uncorrected : Nat} {symbols : Nat} {s : State} (hp : Covers ps 0xffffffffffffffffffffffffffffffffffffffffffffffffffffffffffffffff00d00800) (hs : On inS ps s0 s) :
    On inNext ps s0 (execMarginMeasure lane height width snr ber corrected uncorrected symbols s) := by
  delta execMarginMeasure
  refine On.next ?_
  split
  · rename_i x1 e2
    exact hs
  · rename_i x3 x4 x5 e6
    refine On.ite ?_ ?_
    · exact hs
    · extract_lets +onlyGivenNames z7
      clear_value (ez7 : z7 = _)
      refine On.letS (ps := ps) (s0 := s0) ez7 ?_ fun hz7 => ?_
      · exact State.setReg_keeps (hp.sub rfl).page (State.setOct_keeps (hp.sub rfl).page hs)
      extract_lets +onlyGivenNames z8
      clear_value (ez8 : z8 = _)
      refine On.letS (ps := ps) (s0 := s0) ez8 ?_ fun hz8 => ?_
      · exact State.count_keeps (hp.sub rfl).page (hp.sub rfl) (State.count_keeps (hp.sub rfl).page (hp.sub rfl) (State.count_keeps (hp.sub rfl).page (hp.sub rfl) hz7))
      extract_lets +onlyGivenNames z9
      clear_value z9
      refine On.ite ?_ ?_
      · exact State.setAdapt_keeps (hp.sub rfl) hz8
      · extract_lets +onlyGivenNames z10
        clear_value z10
        refine On.ite ?_ ?_
        · exact State.health_keeps (hp.sub rfl) (State.setAdapt_keeps (hp.sub rfl) hz8)
        · exact State.setAdapt_keeps (hp.sub rfl) hz8

theorem execMgmtLinkUp_keeps {s0 : State} {ps : Nat} {p : Nat} {s : State} (hp : Covers ps 0x200000000000000000000) (hs : On inS ps s0 s) :
    On inNext ps s0 (execMgmtLinkUp p s) := by
  delta execMgmtLinkUp
  refine On.next ?_
  refine On.ite ?_ ?_
  · exact State.setReg_keeps (hp.sub rfl) hs
  · exact hs

theorem execMgmtLinkDown_keeps {s0 : State} {ps : Nat} {p : Nat} {s : State} (hp : Covers ps 0x200000000000000000000) (hs : On inS ps s0 s) :
    On inNext ps s0 (execMgmtLinkDown p s) := by
  delta execMgmtLinkDown
  refine On.next ?_
  refine On.ite ?_ ?_
  · exact State.setReg_keeps (hp.sub rfl) hs
  · exact hs

end Sys2Proof.Machine
end

