-- ==== Sys2Proof/Laws/KeepsDieToDie.lean ====
section
/-! SUPPORT. Sys2Proof/Laws/KeepsDieToDie.lean: what the operations of Machine/DieToDie.lean keep, whatever they do. -/

namespace Sys2Proof.Machine

theorem ptpStepEffect_keeps {s0 : State} {ps : Nat} {c : List Byte} {s : State} (hp : Covers ps 0x800) (hs : On inS ps s0 s) :
    On (inSnd inS) ps s0 (ptpStepEffect c s) := by
  delta ptpStepEffect
  exact On.pair (State.setClock_keeps (hp.sub rfl) hs)

theorem execPtpStepNs_keeps {s0 : State} {ps : Nat} {o : Origin} {v : List Byte} {s : State} (hp : Covers ps 0x20a09) (hs : On inS ps s0 s) :
    On inNext ps s0 (execPtpStepNs o v s) := by
  delta execPtpStepNs
  refine On.next ?_
  refine State.runWrite_keeps (hp.sub rfl) ?_ ?_
  · exact hs
  · intro x1 x2 h3
    exact ptpStepEffect_keeps (hp.sub rfl) h3

theorem State.setDg_keeps {s0 : State} {ps : Nat} {s : State} {g : Nat} {x : DgGroup} (hp : Covers ps 0x800) (hs : On inS ps s0 s) :
    On inS ps s0 (State.setDg s g x) := by
  delta State.setDg
  refine On.mk (s := s) ?_ .k .k .k .k .k .k .k .k .k .k .k (.c (hp.sub rfl)) .k .k .k .k .k
  exact hs

theorem State.dgFail_keeps {s0 : State} {ps : Nat} {s : State} {g : Nat} (hp : Covers ps 0x1000200000000000000000003000000000000008700000000000000f1ccb0) (hs : On inS ps s0 s) :
    On inS ps s0 (State.dgFail s g) := by
  delta State.dgFail
  refine On.ite ?_ ?_
  · exact hs
  · extract_lets +onlyGivenNames z1
    clear_value z1
    extract_lets +onlyGivenNames z2
    clear_value (ez2 : z2 = _)
    refine On.letS (ps := ps) (s0 := s0) ez2 ?_ fun hz2 => ?_
    · exact State.setDg_keeps (hp.sub rfl) (State.setReg_keeps (hp.sub rfl) hs)
    extract_lets +onlyGivenNames z3
    clear_value z3
    extract_lets +onlyGivenNames z4
    clear_value (ez4 : z4 = _)
    refine On.letS (ps := ps) (s0 := s0) ez4 ?_ fun hz4 => ?_
    · refine On.foldl ?_ ?_
      · exact hz2
      · intro x5 x6 h7
        exact State.portDown_keeps (hp.sub rfl) h7
    extract_lets +onlyGivenNames z8
    clear_value z8
    extract_lets +onlyGivenNames z9
    clear_value (ez9 : z9 = _)
    refine On.letS (ps := ps) (s0 := s0) ez9 ?_ fun hz9 => ?_
    · exact State.setSlice_keeps (hp.sub rfl) hz4
    exact State.healthFree_keeps (hp.sub rfl) (State.abortTestOn_keeps (hp.sub rfl) (State.abortTestOn_keeps (hp.sub rfl) hz9))

theorem State.dropBeforeBreakwater_keeps {s0 : State} {ps : Nat} {s : State} {w : Waiting} (hp : Covers ps 0x1010300000001000100000003000000000000000000030000000001f37782) (hs : On inS ps s0 s) :
    On inS ps s0 (State.dropBeforeBreakwater s w) := by
  delta State.dropBeforeBreakwater
  exact State.decideEntry_keeps (hp.sub rfl) (State.finishInject_keeps (hp.sub rfl) hs)

theorem State.flitToTm_keeps {s0 : State} {ps : Nat} {s : State} {g : Nat} {hits : List Nat} (hp : Covers ps 0x1010300000001000100000003000000000000000000030000000001f37782) (hs : On inS ps s0 s) :
    On inS ps s0 (State.flitToTm s g hits) := by
  delta State.flitToTm
  extract_lets +onlyGivenNames z1 z2
  clear_value z1 z2
  split
  · rename_i x3 x4 x5 e6
    extract_lets +onlyGivenNames z7
    clear_value z7
    refine On.foldl ?_ ?_
    · exact State.setTmSlice_keeps (hp.sub rfl) hs
    · intro x8 x9 h10
      exact State.dropBeforeBreakwater_keeps (hp.sub rfl) h10

theorem State.flitToFe_keeps {s0 : State} {ps : Nat} {s : State} {g : Nat} {hits : List Nat} (hp : Covers ps 0x1000000000000000000000000000000000000020202a0) (hs : On inS ps s0 s) :
    On inS ps s0 (State.flitToFe s g hits) := by
  delta State.flitToFe
  extract_lets +onlyGivenNames z1
  clear_value z1
  split
  · rename_i x2 x3 x4 e5
    refine State.fence_keeps (hp.sub rfl) ?_
    refine On.foldl ?_ ?_
    · exact State.setSlice_keeps (hp.sub rfl) hs
    · intro x6 x7 h8
      exact State.endCustody_keeps (hp.sub rfl) h8

theorem execDgUncorrectableFlit_keeps {s0 : State} {ps : Nat} {g : Nat} {toTm : Bool} {hits : List Nat} {s : State} (hp : Covers ps 0x1010300000001000100000003000000000000008700030000000003f3ffb2) (hs : On inS ps s0 s) :
    On inNext ps s0 (execDgUncorrectableFlit g toTm hits s) := by
  delta execDgUncorrectableFlit
  refine On.next ?_
  refine On.ite ?_ ?_
  · exact hs
  · extract_lets +onlyGivenNames z1 z2
    clear_value z1 z2
    extract_lets +onlyGivenNames z3
    clear_value (ez3 : z3 = _)
    refine On.letS (ps := ps) (s0 := s0) ez3 ?_ fun hz3 => ?_
    · exact State.setDg_keeps (hp.sub rfl) (State.healthFree_keeps (hp.sub rfl) (State.bump_keeps (hp.sub rfl) (hp.sub rfl) hs))
    extract_lets +onlyGivenNames z4
    clear_value (ez4 : z4 = _)
    refine On.letS (ps := ps) (s0 := s0) ez4 ?_ fun hz4 => ?_
    · refine On.ite ?_ ?_
      · exact State.flitToTm_keeps (hp.sub rfl) hz3
      · exact State.flitToFe_keeps (hp.sub rfl) hz3
    refine On.ite ?_ ?_
    · exact State.dgFail_keeps (hp.sub rfl) hz4
    · exact hz4

theorem execDgFail_keeps {s0 : State} {ps : Nat} {g : Nat} {s : State} (hp : Covers ps 0x1000200000000000000000003000000000000008700000000000000f1ccb0) (hs : On inS ps s0 s) :
    On inNext ps s0 (execDgFail g s) := by
  delta execDgFail
  refine On.next ?_
  refine On.ite ?_ ?_
  · exact hs
  · exact State.dgFail_keeps (hp.sub rfl) hs

theorem execDgRetrain_keeps {s0 : State} {ps : Nat} {g : Nat} {good : Bool} {s : State} (hp : Covers ps 0x8000000000000000040800) (hs : On inS ps s0 s) :
    On inNext ps s0 (execDgRetrain g good s) := by
  delta execDgRetrain
  refine On.next ?_
  refine On.ite ?_ ?_
  · exact hs
  · extract_lets +onlyGivenNames z1
    clear_value (ez1 : z1 = _)
    refine On.letS (ps := ps) (s0 := s0) ez1 ?_ fun hz1 => ?_
    · exact State.reach_keeps (hp.sub rfl) hs
    refine On.ite ?_ ?_
    · exact State.setDg_keeps (hp.sub rfl) hz1
    · extract_lets +onlyGivenNames z2
      clear_value z2
      extract_lets +onlyGivenNames z3
      clear_value (ez3 : z3 = _)
      refine On.letS (ps := ps) (s0 := s0) ez3 ?_ fun hz3 => ?_
      · exact State.setDg_keeps (hp.sub rfl) (State.setReg_keeps (hp.sub rfl) hz1)
      refine On.foldl ?_ ?_
      · exact hz3
      · intro x4 x5 h6
        refine On.ite ?_ ?_
        · exact State.setPort_keeps (hp.sub rfl) h6
        · exact h6

theorem execDgCalRound_keeps {s0 : State} {ps : Nat} {g : Nat} {margin : List Byte} {corrected : Nat} {s : State} (hp : Covers ps 0x8000000000000000100800) (hs : On inS ps s0 s) :
    On inNext ps s0 (execDgCalRound g margin corrected s) := by
  delta execDgCalRound
  refine On.next ?_
  refine On.ite ?_ ?_
  · exact hs
  · extract_lets +onlyGivenNames z1 z2 z3 z4 z5 z6
    clear_value z1 z2 z3 z4 z5 z6
    exact State.count_keeps (hp.sub rfl) (hp.sub rfl) (State.count_keeps (hp.sub rfl) (hp.sub rfl) (State.setOct_keeps (hp.sub rfl) (State.setDg_keeps (hp.sub rfl) hs)))

theorem execDgAlignmentMarker_keeps {s0 : State} {ps : Nat} {g : Nat} {s : State} (hp : Covers ps 0x800) (hs : On inS ps s0 s) :
    On inNext ps s0 (execDgAlignmentMarker g s) := by
  delta execDgAlignmentMarker
  refine On.next ?_
  refine On.ite ?_ ?_
  · exact hs
  · extract_lets +onlyGivenNames z1
    clear_value z1
    exact State.setDg_keeps (hp.sub rfl) hs

end Sys2Proof.Machine
end

