-- ==== Sys2Proof/Laws/KeepsHbm.lean ====
section
/-! SUPPORT. Sys2Proof/Laws/KeepsHbm.lean: what the operations of Machine/Hbm.lean keep, whatever they do. -/

namespace Sys2Proof.Machine

theorem execHbmIdleExpiry_keeps {s0 : State} {ps : Nat} {h : Nat} {s : State} (hp : Covers ps 0x40400) (hs : On inS ps s0 s) :
    On inNext ps s0 (execHbmIdleExpiry h s) := by
  delta execHbmIdleExpiry
  refine On.next ?_
  refine On.ite ?_ ?_
  · exact hs
  · extract_lets +onlyGivenNames z1
    clear_value z1
    exact State.setStack_keeps (hp.sub rfl) (State.reach_keeps (hp.sub rfl) hs)

theorem execSelfRefreshEnter_keeps {s0 : State} {ps : Nat} {h : Nat} {s : State} (hp : Covers ps 0x2000000000000000000020000000000100400) (hs : On inS ps s0 s) :
    On inNext ps s0 (execSelfRefreshEnter h s) := by
  delta execSelfRefreshEnter
  refine On.next ?_
  extract_lets +onlyGivenNames z1
  clear_value z1
  refine On.ite ?_ ?_
  · exact hs
  · exact State.setPhy_keeps (hp.sub rfl) (State.setReg_keeps (hp.sub rfl) (State.setStack_keeps (hp.sub rfl) (State.stackBoundary_keeps (hp.sub rfl) hs)))

theorem execHbmWakeDone_keeps {s0 : State} {ps : Nat} {h : Nat} {elapsed : Nat} {bad : List Nat} {s : State} (hp : Covers ps 0x1010100000000000100000003000000000000000600030000000003f7f682) (hs : On inS ps s0 s) :
    On inNext ps s0 (execHbmWakeDone h elapsed bad s) := by
  delta execHbmWakeDone
  refine On.next ?_
  split
  · rename_i x1 e2
    exact hs
  · rename_i x3 x4 e5
    refine On.ite ?_ ?_
    · exact hs
    · extract_lets +onlyGivenNames z6
      clear_value (ez6 : z6 = _)
      refine On.letS (ps := ps) (s0 := s0) ez6 ?_ fun hz6 => ?_
      · exact State.setPhy_keeps (hp.sub rfl) (State.stackBoundary_keeps (hp.sub rfl) (State.reach_keeps (hp.sub rfl) hs))
      extract_lets +onlyGivenNames z7
      clear_value z7
      extract_lets +onlyGivenNames z8
      clear_value (ez8 : z8 = _)
      refine On.letS (ps := ps) (s0 := s0) ez8 ?_ fun hz8 => ?_
      · exact State.setReg_keeps (hp.sub rfl) (State.setStack_keeps (hp.sub rfl) hz6)
      extract_lets +onlyGivenNames z9
      clear_value (ez9 : z9 = _)
      refine On.letS (ps := ps) (s0 := s0) ez9 ?_ fun hz9 => ?_
      · exact State.count_keeps (hp.sub rfl) (hp.sub rfl) hz8
      extract_lets +onlyGivenNames z10
      clear_value (ez10 : z10 = _)
      refine On.letS (ps := ps) (s0 := s0) ez10 ?_ fun hz10 => ?_
      · refine On.foldl ?_ ?_
        · exact hz9
        · intro x11 x12 h13
          exact State.setPc_keeps (hp.sub rfl) h13
      extract_lets +onlyGivenNames z14
      clear_value z14
      extract_lets +onlyGivenNames z15
      clear_value (ez15 : z15 = _)
      refine On.letS (ps := ps) (s0 := s0) ez15 ?_ fun hz15 => ?_
      · refine On.ite ?_ ?_
        · exact State.wakeLate_keeps (hp.sub rfl) hz10
        · exact hz10
      refine On.foldl ?_ ?_
      · exact hz15
      · intro x16 x17 h18
        exact State.badBurst_keeps (hp.sub rfl) h18

theorem execHbmWakeFailed_keeps {s0 : State} {ps : Nat} {h : Nat} {s : State} (hp : Covers ps 0x1010100000000000100000003000000000000000600030000000003f7f682) (hs : On inS ps s0 s) :
    On inNext ps s0 (execHbmWakeFailed h s) := by
  delta execHbmWakeFailed
  refine On.next ?_
  split
  · rename_i x1 e2
    exact hs
  · rename_i x3 x4 e5
    refine On.ite ?_ ?_
    · exact hs
    · exact State.stackOut_keeps (hp.sub rfl) (State.reach_keeps (hp.sub rfl) hs)

theorem execRefreshBoundary_keeps {s0 : State} {ps : Nat} {cc : Nat} {s : State} (hp : Covers ps 0x40400) (hs : On inS ps s0 s) :
    On inNext ps s0 (execRefreshBoundary cc s) := by
  delta execRefreshBoundary
  refine On.next ?_
  refine On.ite ?_ ?_
  · exact State.boundary_keeps (hp.sub rfl) (State.reach_keeps (hp.sub rfl) hs)
  · exact hs

theorem execBankRefresh_keeps {s0 : State} {ps : Nat} {cc : Nat} {s : State} (hp : Covers ps 0x400) (hs : On inS ps s0 s) :
    On inNext ps s0 (execBankRefresh cc s) := by
  delta execBankRefresh
  refine On.next ?_
  refine On.ite ?_ ?_
  · exact State.setPc_keeps (hp.sub rfl) hs
  · exact hs

theorem execCaParityAlert_keeps {s0 : State} {ps : Nat} {cc : Nat} {s : State} (hp : Covers ps 0x1010100000000000100000003000000000000000600030000000003f3f682) (hs : On inS ps s0 s) :
    On inNext ps s0 (execCaParityAlert cc s) := by
  delta execCaParityAlert
  refine On.next ?_
  refine On.ite ?_ ?_
  · exact hs
  · extract_lets +onlyGivenNames z1 z2
    clear_value z1 z2
    extract_lets +onlyGivenNames z3
    clear_value (ez3 : z3 = _)
    refine On.letS (ps := ps) (s0 := s0) ez3 ?_ fun hz3 => ?_
    · exact State.setPc_keeps (hp.sub rfl) (State.bump_keeps (hp.sub rfl) (hp.sub rfl) hs)
    refine On.ite ?_ ?_
    · exact State.stackOut_keeps (hp.sub rfl) hz3
    · exact hz3

theorem execCalRound_keeps {s0 : State} {ps : Nat} {cc : Nat} {s : State} (hp : Covers ps 0x400) (hs : On inS ps s0 s) :
    On inNext ps s0 (execCalRound cc s) := by
  delta execCalRound
  refine On.next ?_
  extract_lets +onlyGivenNames z1
  clear_value z1
  refine On.ite ?_ ?_
  · exact State.setPc_keeps (hp.sub rfl) hs
  · exact hs

theorem execCalProbeDone_keeps {s0 : State} {ps : Nat} {cc : Nat} {left : List Nat} {right : List Nat} {s : State} (hp : Covers ps 0x1010100000000000100000003000000000000000600030000000003f3f682) (hs : On inS ps s0 s) :
    On inNext ps s0 (execCalProbeDone cc left right s) := by
  delta execCalProbeDone
  refine On.next ?_
  split
  · rename_i x1 e2
    exact hs
  · rename_i x3 x4 e5
    refine On.ite ?_ ?_
    · exact hs
    · extract_lets +onlyGivenNames z6
      clear_value z6
      split
      · rename_i x7 x8 x9 e10
        refine On.ite ?_ ?_
        · exact State.stackOut_keeps (hp.sub rfl) (State.setPc_keeps (hp.sub rfl) hs)
        · extract_lets +onlyGivenNames z11 z12 z13 z14 z15
          clear_value z11 z12 z13 z14 z15
          split
          · rename_i x16 x17 x18 e19
            refine On.got (g := (inSnd inS)) (t := x18) (ps := ps) (s0 := s0) e19 rfl ?_ fun he19 => ?_
            · refine On.ite ?_ ?_
              · exact On.pair hs
              · split
                · rename_i x20 x21 x22 e23
                  refine On.got (g := (inSnd inS)) (t := x22) (ps := ps) (s0 := s0) e23 rfl ?_ fun he23 => ?_
                  · exact State.draw_keeps (hp.sub rfl) hs
                  exact On.pair he23
            extract_lets +onlyGivenNames z24
            clear_value z24
            refine On.ite ?_ ?_
            · exact State.setPc_keeps (hp.sub rfl) hs
            · exact State.bump_keeps (hp.sub rfl) (hp.sub rfl) (State.setPc_keeps (hp.sub rfl) he19)

theorem hbmDelaysEffect_keeps {s0 : State} {ps : Nat} {cc : Nat} {c : List Byte} {s : State} (hp : Covers ps 0x400) (hs : On inS ps s0 s) :
    On (inSnd inS) ps s0 (hbmDelaysEffect cc c s) := by
  delta hbmDelaysEffect
  refine On.ite ?_ ?_
  · exact On.pair hs
  · exact On.pair (State.setPc_keeps (hp.sub rfl) hs)

theorem execHbmDelays_keeps {s0 : State} {ps : Nat} {o : Origin} {cc : Nat} {v : List Byte} {s : State} (hp : Covers ps 0x20609) (hs : On inS ps s0 s) :
    On inNext ps s0 (execHbmDelays o cc v s) := by
  delta execHbmDelays
  refine On.next ?_
  refine State.runWrite_keeps (hp.sub rfl) ?_ ?_
  · exact hs
  · intro x1 x2 h3
    exact hbmDelaysEffect_keeps (hp.sub rfl) h3

theorem execDelaySave_keeps {s0 : State} {ps : Nat} {s : State} (hp : Covers ps 0x40400) (hs : On inS ps s0 s) :
    On inNext ps s0 (execDelaySave s) := by
  delta execDelaySave
  refine On.next ?_
  refine On.ite ?_ ?_
  · exact hs
  · exact State.saveDelays_keeps (hp.sub rfl) (State.reach_keeps (hp.sub rfl) hs)

theorem execScrub_keeps {s0 : State} {ps : Nat} {corrected : List Nat} {bad : List Nat} {s : State} (hp : Covers ps 0x1010100000000000100000003000000000000000600030000000003f7f682) (hs : On inS ps s0 s) :
    On inNext ps s0 (execScrub corrected bad s) := by
  delta execScrub
  refine On.next ?_
  refine On.ite ?_ ?_
  · exact hs
  · extract_lets +onlyGivenNames z1 z2
    clear_value z1 z2
    extract_lets +onlyGivenNames z3
    clear_value (ez3 : z3 = _)
    refine On.letS (ps := ps) (s0 := s0) ez3 ?_ fun hz3 => ?_
    · exact State.count_keeps (hp.sub rfl) (hp.sub rfl) (State.reach_keeps (hp.sub rfl) hs)
    extract_lets +onlyGivenNames z4
    clear_value z4
    extract_lets +onlyGivenNames z5
    clear_value (ez5 : z5 = _)
    refine On.letS (ps := ps) (s0 := s0) ez5 ?_ fun hz5 => ?_
    · refine On.mk (s := z3) ?_ .k .k .k .k .k .k .k .k .k .k (.c (hp.sub rfl)) .k .k .k .k .k .k
      exact hz3
    extract_lets +onlyGivenNames z6
    clear_value (ez6 : z6 = _)
    refine On.letS (ps := ps) (s0 := s0) ez6 ?_ fun hz6 => ?_
    · refine On.foldl ?_ ?_
      · exact hz5
      · intro x7 x8 h9
        exact State.correctedBurst_keeps (hp.sub rfl) h9
    refine On.foldl ?_ ?_
    · exact hz6
    · intro x10 x11 h12
      extract_lets +onlyGivenNames z13
      clear_value (ez13 : z13 = _)
      refine On.letS (ps := ps) (s0 := s0) ez13 ?_ fun hz13 => ?_
      · split
        · rename_i x14 x15 x16 e17
          exact State.loseStat_keeps (hp.sub rfl) h12
        · rename_i x18 e19
          exact h12
      exact State.badBurst_keeps (hp.sub rfl) hz13

end Sys2Proof.Machine
end

