-- ==== Sys2Proof/Laws/KeepsPair.lean ====
section
/-! SUPPORT. Sys2Proof/Laws/KeepsPair.lean: what the operations of Machine/Pair.lean keep, whatever they do. -/

namespace Sys2Proof.Machine

theorem State.streamError_keeps {s0 : State} {ps : Nat} {s : State} (hp : Covers ps 0x1010100000000000100000003000000000000000000010000000001f33682) (hs : On inS ps s0 s) :
    On inS ps s0 (State.streamError s) := by
  delta State.streamError
  exact State.goStale_keeps (hp.sub rfl) (State.bump_keeps (hp.sub rfl) (hp.sub rfl) hs)

theorem State.takeIdentity_keeps {s0 : State} {ps : Nat} {s : State} {body : List Byte} (hp : Covers ps 0x1010100000000000100000003000000000000000000010008000001f33682) (hs : On inS ps s0 s) :
    On inS ps s0 (State.takeIdentity s body) := by
  delta State.takeIdentity
  refine On.ite ?_ ?_
  · exact State.streamError_keeps (hp.sub rfl) hs
  · extract_lets +onlyGivenNames z1 z2
    clear_value z1 z2
    refine State.tryRejoin_keeps (hp.sub rfl) ?_
    refine State.setReg_keeps (hp.sub rfl) ?_
    refine On.mk (s := s) ?_ .k .k .k .k .k .k .k .k .k (.m (hp.sub rfl) rfl) .k .k .k .k .k .k .k
    exact hs

theorem execIdentity_keeps {s0 : State} {ps : Nat} {rec : List Byte} {s : State} (hp : Covers ps 0x1010100000000000100000003000000000000000000010008000001f33682) (hs : On inS ps s0 s) :
    On inNext ps s0 (execIdentity rec s) := by
  delta execIdentity
  exact On.next (State.takeIdentity_keeps (hp.sub rfl) hs)

theorem State.takeBlock_keeps {s0 : State} {ps : Nat} {s : State} {rec : List Byte} (hp : Covers ps 0x1010300000001000100000003000000000000000000030000000001f37782) (hs : On inS ps s0 s) :
    On inS ps s0 (State.takeBlock s rec) := by
  delta State.takeBlock
  extract_lets +onlyGivenNames z1 z2
  clear_value z1 z2
  refine On.ite ?_ ?_
  · exact State.streamError_keeps (hp.sub rfl) hs
  · refine On.ite ?_ ?_
    · exact hs
    · extract_lets +onlyGivenNames z3 z4
      clear_value z3 z4
      extract_lets +onlyGivenNames z5
      extract_lets +onlyGivenNames z6
      clear_value (ez6 : z6 = _)
      refine On.letS (ps := ps) (s0 := s0) ez6 ?_ fun hz6 => ?_
      · refine On.mk (s := s) ?_ .k .k .k .k .k .k .k .k .k (.m (hp.sub rfl) rfl) .k .k .k .k .k .k .k
        exact hs
      extract_lets +onlyGivenNames z7
      clear_value (ez7 : z7 = _)
      refine On.letS (ps := ps) (s0 := s0) ez7 ?_ fun hz7 => ?_
      · exact State.matchSource_keeps (hp.sub rfl) hz6
      exact State.applyEntries_keeps (hp.sub rfl) hz7

theorem execVerdictBlock_keeps {s0 : State} {ps : Nat} {rec : List Byte} {s : State} (hp : Covers ps 0x1010300000001000100000003000000000000000000030000000001f37782) (hs : On inS ps s0 s) :
    On inNext ps s0 (execVerdictBlock rec s) := by
  delta execVerdictBlock
  exact On.next (State.takeBlock_keeps (hp.sub rfl) hs)

theorem State.takeMarks_keeps {s0 : State} {ps : Nat} {s : State} {body : List Byte} (hp : Covers ps 0x1010100000000000100000003000000000000000000010000000001f33682) (hs : On inS ps s0 s) :
    On inS ps s0 (State.takeMarks s body) := by
  delta State.takeMarks
  refine On.ite ?_ ?_
  · exact State.streamError_keeps (hp.sub rfl) hs
  · refine On.ite ?_ ?_
    · exact hs
    · refine On.foldl ?_ ?_
      · exact hs
      · intro x1 x2 h3
        exact State.takeMark_keeps (hp.sub rfl) h3

theorem execDepartureMark_keeps {s0 : State} {ps : Nat} {rec : List Byte} {s : State} (hp : Covers ps 0x1010100000000000100000003000000000000000000010000000001f33682) (hs : On inS ps s0 s) :
    On inNext ps s0 (execDepartureMark rec s) := by
  delta execDepartureMark
  exact On.next (State.takeMarks_keeps (hp.sub rfl) hs)

theorem State.takeFabricVerdict_keeps {s0 : State} {ps : Nat} {s : State} {b : List Byte} (hp : Covers ps 0x1010100000000000100000003000000000000000000010000000001f33682) (hs : On inS ps s0 s) :
    On inS ps s0 (State.takeFabricVerdict s b) := by
  delta State.takeFabricVerdict
  extract_lets +onlyGivenNames z1
  clear_value z1
  refine On.ite ?_ ?_
  · exact State.streamError_keeps (hp.sub rfl) hs
  · refine On.ite ?_ ?_
    · exact hs
    · extract_lets +onlyGivenNames z2
      clear_value z2
      refine On.mk (s := s) ?_ .k .k .k .k .k .k .k .k .k (.m (hp.sub rfl) rfl) .k .k .k .k .k .k .k
      exact hs

theorem execFabricVerdict_keeps {s0 : State} {ps : Nat} {rec : List Byte} {s : State} (hp : Covers ps 0x1010100000000000100000003000000000000000000010000000001f33682) (hs : On inS ps s0 s) :
    On inNext ps s0 (execFabricVerdict rec s) := by
  delta execFabricVerdict
  exact On.next (State.takeFabricVerdict_keeps (hp.sub rfl) hs)

theorem State.takeCopyVerdict_keeps {s0 : State} {ps : Nat} {s : State} {b : List Byte} (hp : Covers ps 0x1010100000000000100000003000000000000000000010000000001f33682) (hs : On inS ps s0 s) :
    On inS ps s0 (State.takeCopyVerdict s b) := by
  delta State.takeCopyVerdict
  extract_lets +onlyGivenNames z1
  clear_value z1
  refine On.ite ?_ ?_
  · exact State.streamError_keeps (hp.sub rfl) hs
  · refine On.ite ?_ ?_
    · exact hs
    · extract_lets +onlyGivenNames z2
      clear_value z2
      refine On.mk (s := s) ?_ .k .k .k .k .k .k .k .k .k (.m (hp.sub rfl) rfl) .k .k .k .k .k .k .k
      exact hs

theorem execCopyVerdict_keeps {s0 : State} {ps : Nat} {rec : List Byte} {s : State} (hp : Covers ps 0x1010100000000000100000003000000000000000000010000000001f33682) (hs : On inS ps s0 s) :
    On inNext ps s0 (execCopyVerdict rec s) := by
  delta execCopyVerdict
  exact On.next (State.takeCopyVerdict_keeps (hp.sub rfl) hs)

theorem State.takeHostWork_keeps {s0 : State} {ps : Nat} {s : State} {b : List Byte} (hp : Covers ps 0x1010100000000000100000003000000000000000000010000000001f336a2) (hs : On inS ps s0 s) :
    On inS ps s0 (State.takeHostWork s b) := by
  delta State.takeHostWork
  extract_lets +onlyGivenNames z1 z2
  clear_value z1 z2
  refine On.ite ?_ ?_
  · exact State.streamError_keeps (hp.sub rfl) hs
  · refine On.ite ?_ ?_
    · exact hs
    · exact State.enqueueInjection_keeps (hp.sub rfl) hs

theorem execHostWork_keeps {s0 : State} {ps : Nat} {rec : List Byte} {s : State} (hp : Covers ps 0x1010100000000000100000003000000000000000000010000000001f336a2) (hs : On inS ps s0 s) :
    On inNext ps s0 (execHostWork rec s) := by
  delta execHostWork
  exact On.next (State.takeHostWork_keeps (hp.sub rfl) hs)

theorem State.takeQueueEnds_keeps {s0 : State} {ps : Nat} {s : State} {body : List Byte} (hp : Covers ps 0x1010100000000000100000003000000000000000000010000000001f33682) (hs : On inS ps s0 s) :
    On inS ps s0 (State.takeQueueEnds s body) := by
  delta State.takeQueueEnds
  refine On.ite ?_ ?_
  · exact State.streamError_keeps (hp.sub rfl) hs
  · refine On.ite ?_ ?_
    · exact hs
    · refine On.foldl ?_ ?_
      · exact hs
      · intro x1 x2 h3
        exact State.takeQueueEnd_keeps (hp.sub rfl) h3

theorem execQueueEnd_keeps {s0 : State} {ps : Nat} {rec : List Byte} {s : State} (hp : Covers ps 0x1010100000000000100000003000000000000000000010000000001f33682) (hs : On inS ps s0 s) :
    On inNext ps s0 (execQueueEnd rec s) := by
  delta execQueueEnd
  exact On.next (State.takeQueueEnds_keeps (hp.sub rfl) hs)

theorem State.takeDigest_keeps {s0 : State} {ps : Nat} {s : State} {b : List Byte} (hp : Covers ps 0x1010100000000000100000003000000000000000000010000000001f33682) (hs : On inS ps s0 s) :
    On inS ps s0 (State.takeDigest s b) := by
  delta State.takeDigest
  extract_lets +onlyGivenNames z1 z2 z3
  clear_value z1 z2 z3
  refine On.ite ?_ ?_
  · exact State.streamError_keeps (hp.sub rfl) hs
  · refine On.ite ?_ ?_
    · exact hs
    · extract_lets +onlyGivenNames z4
      clear_value z4
      split
      · rename_i x5 x6 e7
        exact State.compareDigest_keeps (hp.sub rfl) (State.setDigest_keeps (hp.sub rfl) hs)
      · rename_i x8 e9
        extract_lets +onlyGivenNames z10
        clear_value (ez10 : z10 = _)
        refine On.letS (ps := ps) (s0 := s0) ez10 ?_ fun hz10 => ?_
        · exact State.setDigest_keeps (hp.sub rfl) hs
        refine On.ite ?_ ?_
        · exact State.closeDigest_keeps (hp.sub rfl) hz10
        · exact hz10

theorem execDigest_keeps {s0 : State} {ps : Nat} {rec : List Byte} {s : State} (hp : Covers ps 0x1010100000000000100000003000000000000000000010000000001f33682) (hs : On inS ps s0 s) :
    On inNext ps s0 (execDigest rec s) := by
  delta execDigest
  exact On.next (State.takeDigest_keeps (hp.sub rfl) hs)

theorem State.takeStart_keeps {s0 : State} {ps : Nat} {s : State} {b : List Byte} (hp : Covers ps 0xffffffffffffffffffffffffffffffffffffffffffffffffffffffffffffffff03fbffff) (hs : On inS ps s0 s) :
    On inS ps s0 (State.takeStart s b) := by
  delta State.takeStart
  refine On.ite ?_ ?_
  · exact State.streamError_keeps (hp.sub rfl) hs
  · refine On.ite ?_ ?_
    · exact hs
    · extract_lets +onlyGivenNames z1
      clear_value (ez1 : z1 = _)
      refine On.letS (ps := ps) (s0 := s0) ez1 ?_ fun hz1 => ?_
      · refine On.foldl ?_ ?_
        · exact hs
        · intro x2 x3 h4
          exact State.setPairCtx_keeps (hp.sub rfl) h4
      refine On.ite ?_ ?_
      · exact hz1
      · extract_lets +onlyGivenNames z5
        clear_value (ez5 : z5 = _)
        refine On.letS (ps := ps) (s0 := s0) ez5 ?_ fun hz5 => ?_
        · refine On.ite ?_ ?_
          · exact State.completeMode_keeps (hp.sub rfl) hz1
          · exact hz1
        extract_lets +onlyGivenNames z6
        clear_value z6
        refine State.refreshIdentity_keeps (hp.sub rfl) ?_
        refine On.mk (s := z5) ?_ .k .k .k .k .k .k .k .k .k (.m (hp.sub rfl) rfl) .k .k .k .k .k .k .k
        exact hz5

theorem execStart_keeps {s0 : State} {ps : Nat} {rec : List Byte} {s : State} (hp : Covers ps 0xffffffffffffffffffffffffffffffffffffffffffffffffffffffffffffffff03fbffff) (hs : On inS ps s0 s) :
    On inNext ps s0 (execStart rec s) := by
  delta execStart
  exact On.next (State.takeStart_keeps (hp.sub rfl) hs)

theorem execHandoff_keeps {s0 : State} {ps : Nat} {s : State} (hp : Covers ps 0xffffffffffffffffffffffffffffffffffffffffffffffffffffffffffffffff03fbffff) (hs : On inS ps s0 s) :
    On inNext ps s0 (execHandoff s) := by
  delta execHandoff
  exact On.next (State.turn_keeps (hp.sub rfl) hs)

theorem State.noteBeat_keeps {s0 : State} {ps : Nat} {s : State} {b : List Byte} (hp : Covers ps 0x200) (hs : On inS ps s0 s) :
    On inS ps s0 (State.noteBeat s b) := by
  delta State.noteBeat
  extract_lets +onlyGivenNames z1 z2
  clear_value z1 z2
  refine On.mk (s := s) ?_ .k .k .k .k .k .k .k .k .k (.m (hp.sub rfl) rfl) .k .k .k .k .k .k .k
  exact hs

theorem State.hearActive_keeps {s0 : State} {ps : Nat} {s : State} (hp : Covers ps 0x100000000000000000000000000000000000002020200) (hs : On inS ps s0 s) :
    On inS ps s0 (State.hearActive s) := by
  delta State.hearActive
  refine On.ite ?_ ?_
  · exact State.fence_keeps (hp.sub rfl) hs
  · exact hs

theorem State.recvBeat_keeps {s0 : State} {ps : Nat} {s : State} {lane : Nat} {cell : List Byte} (hp : Covers ps 0x1010300000001000100000000000000000000004600000000000002f3f302) (hs : On inS ps s0 s) :
    On inS ps s0 (State.recvBeat s lane cell) := by
  delta State.recvBeat
  extract_lets +onlyGivenNames z1
  clear_value z1
  extract_lets +onlyGivenNames z2
  clear_value (ez2 : z2 = _)
  refine On.letS (ps := ps) (s0 := s0) ez2 ?_ fun hz2 => ?_
  · exact State.noteBeat_keeps (hp.sub rfl) (State.takeMateAck_keeps (hp.sub rfl) hs)
  refine On.ite ?_ ?_
  · exact State.tryRejoin_keeps (hp.sub rfl) (State.hearActive_keeps (hp.sub rfl) hz2)
  · exact hz2

theorem execHeartbeat_keeps {s0 : State} {ps : Nat} {lane : Nat} {cell : List Byte} {s : State} (hp : Covers ps 0x1010300000001000100000000000000000000004600000000000002f3f302) (hs : On inS ps s0 s) :
    On inNext ps s0 (execHeartbeat lane cell s) := by
  delta execHeartbeat
  refine On.next ?_
  refine On.ite ?_ ?_
  · exact hs
  · refine On.ite ?_ ?_
    · exact State.recvBeat_keeps (hp.sub rfl) hs
    · exact State.bump_keeps (hp.sub rfl) (hp.sub rfl) hs

theorem execHeartbeatSilence_keeps {s0 : State} {ps : Nat} {s : State} (hp : Covers ps 0xffffffffffffffffffffffffffffffffffffffffffffffffffffffffffffffff03ffffff) (hs : On inS ps s0 s) :
    On inNext ps s0 (execHeartbeatSilence s) := by
  delta execHeartbeatSilence
  refine On.next ?_
  refine On.ite ?_ ?_
  · exact hs
  · extract_lets +onlyGivenNames z1
    clear_value (ez1 : z1 = _)
    refine On.fnIn (P := fun f => ∀ v0, On inS ps s0 v0 → On inS ps s0 (f v0)) ez1 ?_ fun hz1 => ?_
    · intro x2 h3
      dsimp -zeta only
      refine On.mk (s := x2) ?_ .k .k .k .k .k .k .k .k .k (.m (hp.sub rfl) rfl) .k .k .k .k .k .k .k
      exact h3
    refine On.ite ?_ ?_
    · extract_lets +onlyGivenNames z4
      clear_value (ez4 : z4 = _)
      refine On.letS (ps := ps) (s0 := s0) ez4 ?_ fun hz4 => ?_
      · exact hz1 _ (State.reach_keeps (hp.sub rfl) hs)
      refine On.ite ?_ ?_
      · exact State.fence_keeps (hp.sub rfl) hz4
      · exact State.loseMate_keeps (hp.sub rfl) hz4
    · refine On.ite ?_ ?_
      · extract_lets +onlyGivenNames z5
        clear_value (ez5 : z5 = _)
        refine On.letS (ps := ps) (s0 := s0) ez5 ?_ fun hz5 => ?_
        · exact hz1 _ (State.reach_keeps (hp.sub rfl) hs)
        refine On.ite ?_ ?_
        · exact State.turn_keeps (hp.sub rfl) hz5
        · exact State.standbyAlone_keeps (hp.sub rfl) hz5
      · exact hs

theorem State.faultIn_keeps {s0 : State} {ps : Nat} {s : State} {v : Bool} (hp : Covers ps 0x2) (hs : On inS ps s0 s) :
    On inS ps s0 (State.faultIn s v) := by
  delta State.faultIn
  refine On.mk (s := s) ?_ .k (.m (hp.sub rfl) rfl) .k .k .k .k .k .k .k .k .k .k .k .k .k .k .k
  exact hs

theorem execPairFaultInFall_keeps {s0 : State} {ps : Nat} {s : State} (hp : Covers ps 0xffffffffffffffffffffffffffffffffffffffffffffffffffffffffffffffff03fbffff) (hs : On inS ps s0 s) :
    On inNext ps s0 (execPairFaultInFall s) := by
  delta execPairFaultInFall
  refine On.next ?_
  extract_lets +onlyGivenNames z1
  clear_value (ez1 : z1 = _)
  refine On.letS (ps := ps) (s0 := s0) ez1 ?_ fun hz1 => ?_
  · exact State.faultIn_keeps (hp.sub rfl) hs
  refine On.ite ?_ ?_
  · exact State.turn_keeps (hp.sub rfl) hz1
  · refine On.ite ?_ ?_
    · exact State.standbyAlone_keeps (hp.sub rfl) hz1
    · refine On.ite ?_ ?_
      · exact State.breakPair_keeps (hp.sub rfl) hz1
      · exact hz1

theorem execPairFaultInRise_keeps {s0 : State} {ps : Nat} {s : State} (hp : Covers ps 0x2) (hs : On inS ps s0 s) :
    On inNext ps s0 (execPairFaultInRise s) := by
  delta execPairFaultInRise
  exact On.next (State.faultIn_keeps (hp.sub rfl) hs)

theorem faultRequestEffect_keeps {s0 : State} {ps : Nat} {c : List Byte} {s : State} (hp : Covers ps 0x100000000000000000000000000000000000002020200) (hs : On inS ps s0 s) :
    On (inSnd inS) ps s0 (faultRequestEffect c s) := by
  delta faultRequestEffect
  refine On.ite ?_ ?_
  · exact On.pair hs
  · refine On.ite ?_ ?_
    · exact On.pair (State.fence_keeps (hp.sub rfl) hs)
    · exact On.pair hs

theorem execFaultRequest_keeps {s0 : State} {ps : Nat} {o : Origin} {v : List Byte} {s : State} (hp : Covers ps 0x100000000000000000000000000000000000002020209) (hs : On inS ps s0 s) :
    On inNext ps s0 (execFaultRequest o v s) := by
  delta execFaultRequest
  refine On.next ?_
  refine State.runWrite_keeps (hp.sub rfl) ?_ ?_
  · exact hs
  · intro x1 x2 h3
    exact faultRequestEffect_keeps (hp.sub rfl) h3

theorem switchoverEffect_keeps {s0 : State} {ps : Nat} {c : List Byte} {s : State} (hp : Covers ps 0xffffffffffffffffffffffffffffffffffffffffffffffffffffffffffffffff03fbffff) (hs : On inS ps s0 s) :
    On (inSnd inS) ps s0 (switchoverEffect c s) := by
  delta switchoverEffect
  refine On.ite ?_ ?_
  · exact On.pair hs
  · refine On.ite ?_ ?_
    · exact On.pair hs
    · refine On.ite ?_ ?_
      · exact On.pair (State.sendStatus_keeps (hp.sub rfl) hs)
      · refine On.pair ?_
        refine State.finishSwitch_keeps (hp.sub rfl) ?_
        refine On.mk (s := s) ?_ .k .k .k .k .k .k .k .k .k (.m (hp.sub rfl) rfl) .k .k .k .k .k .k .k
        exact hs

theorem execSwitchover_keeps {s0 : State} {ps : Nat} {o : Origin} {v : List Byte} {s : State} (hp : Covers ps 0xffffffffffffffffffffffffffffffffffffffffffffffffffffffffffffffff03fbffff) (hs : On inS ps s0 s) :
    On inNext ps s0 (execSwitchover o v s) := by
  delta execSwitchover
  refine On.next ?_
  refine State.runWrite_keeps (hp.sub rfl) ?_ ?_
  · exact hs
  · intro x1 x2 h3
    exact switchoverEffect_keeps (hp.sub rfl) h3

theorem execVerdictFlush_keeps {s0 : State} {ps : Nat} {source : Nat} {s : State} (hp : Covers ps 0x1010300000001000100000003000000000000000000030000000001f77782) (hs : On inS ps s0 s) :
    On inNext ps s0 (execVerdictFlush source s) := by
  delta execVerdictFlush
  refine On.next ?_
  split
  · rename_i x1 e2
    exact hs
  · rename_i x3 x4 e5
    extract_lets +onlyGivenNames z6
    clear_value (ez6 : z6 = _)
    refine On.letS (ps := ps) (s0 := s0) ez6 ?_ fun hz6 => ?_
    · exact State.reach_keeps (hp.sub rfl) hs
    refine State.closeBlocks_keeps (hp.sub rfl) ?_
    refine On.mk (s := z6) ?_ .k .k .k .k .k .k .k .k .k (.m (hp.sub rfl) rfl) .k .k .k .k .k .k .k
    exact hz6

theorem execVerdictWaitExpiry_keeps {s0 : State} {ps : Nat} {kind : Nat} {n : Nat} {k : Nat} {s : State} (hp : Covers ps 0x1010300000001000100000003000000000000000000030000000001f77782) (hs : On inS ps s0 s) :
    On inNext ps s0 (execVerdictWaitExpiry kind n k s) := by
  delta execVerdictWaitExpiry
  refine On.next ?_
  extract_lets +onlyGivenNames z1
  clear_value z1
  split
  · rename_i x2
    split
    · rename_i x3 e4
      exact hs
    · rename_i x5 x6 e7
      extract_lets +onlyGivenNames z8
      clear_value (ez8 : z8 = _)
      refine On.letS (ps := ps) (s0 := s0) ez8 ?_ fun hz8 => ?_
      · exact State.reach_keeps (hp.sub rfl) hs
      extract_lets +onlyGivenNames z9
      extract_lets +onlyGivenNames z10
      clear_value (ez10 : z10 = _)
      refine On.letS (ps := ps) (s0 := s0) ez10 ?_ fun hz10 => ?_
      · refine On.mk (s := z8) ?_ .k .k .k .k .k .k .k .k .k (.m (hp.sub rfl) rfl) .k .k .k .k .k .k .k
        exact hz8
      extract_lets +onlyGivenNames z11
      clear_value (ez11 : z11 = _)
      refine On.letS (ps := ps) (s0 := s0) ez11 ?_ fun hz11 => ?_
      · exact State.legMiss_keeps (hp.sub rfl) hz10
      exact State.applyEntries_keeps (hp.sub rfl) hz11
  · rename_i x12
    split
    · rename_i x13 e14
      exact hs
    · rename_i x15 x16 e17
      exact State.legExtra_keeps (hp.sub rfl) (State.reach_keeps (hp.sub rfl) hs)
  · rename_i x18
    split
    · rename_i x19 e20
      exact hs
    · rename_i x21 x22 e23
      extract_lets +onlyGivenNames z24
      clear_value (ez24 : z24 = _)
      refine On.letS (ps := ps) (s0 := s0) ez24 ?_ fun hz24 => ?_
      · exact State.reach_keeps (hp.sub rfl) hs
      refine State.bump_keeps (hp.sub rfl) (hp.sub rfl) ?_
      refine On.mk (s := z24) ?_ .k .k .k .k .k .k .k .k .k (.m (hp.sub rfl) rfl) .k .k .k .k .k .k .k
      exact hz24
  · rename_i x25
    split
    · rename_i x26 e27
      exact hs
    · rename_i x28 x29 e30
      refine On.ite ?_ ?_
      · exact hs
      · exact State.refuseShadow_keeps (hp.sub rfl) (State.bump_keeps (hp.sub rfl) (hp.sub rfl) hs)
  · rename_i x31 e32 e33 e34 e35
    split
    · rename_i x36 e37
      exact hs
    · rename_i x38 x39 e40
      extract_lets +onlyGivenNames z41
      clear_value (ez41 : z41 = _)
      refine On.letS (ps := ps) (s0 := s0) ez41 ?_ fun hz41 => ?_
      · exact State.reach_keeps (hp.sub rfl) hs
      refine On.mk (s := z41) ?_ .k .k .k .k .k .k .k .k .k (.m (hp.sub rfl) rfl) .k .k .k .k .k .k .k
      exact hz41

theorem execDigestClose_keeps {s0 : State} {ps : Nat} {n : Nat} {s : State} (hp : Covers ps 0x1010100000000000100000003000000000000000000010000000001f73682) (hs : On inS ps s0 s) :
    On inNext ps s0 (execDigestClose n s) := by
  delta execDigestClose
  refine On.next ?_
  extract_lets +onlyGivenNames z1
  clear_value z1
  refine On.ite ?_ ?_
  · exact hs
  · exact State.closeDigest_keeps (hp.sub rfl) (State.reach_keeps (hp.sub rfl) hs)

theorem execDepartureInterval_keeps {s0 : State} {ps : Nat} {s : State} (hp : Covers ps 0x60200) (hs : On inS ps s0 s) :
    On inNext ps s0 (execDepartureInterval s) := by
  delta execDepartureInterval
  refine On.next ?_
  refine On.ite ?_ ?_
  · exact hs
  · extract_lets +onlyGivenNames z1
    clear_value (ez1 : z1 = _)
    refine On.letS (ps := ps) (s0 := s0) ez1 ?_ fun hz1 => ?_
    · exact State.reach_keeps (hp.sub rfl) hs
    extract_lets +onlyGivenNames z2 z3 z4
    clear_value z2 z3 z4
    extract_lets +onlyGivenNames z5
    clear_value (ez5 : z5 = _)
    refine On.letS (ps := ps) (s0 := s0) ez5 ?_ fun hz5 => ?_
    · refine On.foldl ?_ ?_
      · exact hz1
      · intro x6 x7 h8
        exact On.fst (State.sendMark_keeps (hp.sub rfl) h8)
    refine On.mk (s := z5) ?_ .k .k .k .k .k .k .k .k .k (.m (hp.sub rfl) rfl) .k .k .k .k .k .k .k
    exact hz5

theorem execFabricVerdictFlush_keeps {s0 : State} {ps : Nat} {unit : Nat} {cls : Nat} {s : State} (hp : Covers ps 0x60200) (hs : On inS ps s0 s) :
    On inNext ps s0 (execFabricVerdictFlush unit cls s) := by
  delta execFabricVerdictFlush
  refine On.next ?_
  split
  · rename_i x1 e2
    exact hs
  · rename_i x3 x4 e5
    extract_lets +onlyGivenNames z6
    clear_value (ez6 : z6 = _)
    refine On.letS (ps := ps) (s0 := s0) ez6 ?_ fun hz6 => ?_
    · exact State.reach_keeps (hp.sub rfl) hs
    refine State.sendFabricVerdict_keeps (hp.sub rfl) ?_
    refine On.mk (s := z6) ?_ .k .k .k .k .k .k .k .k .k (.m (hp.sub rfl) rfl) .k .k .k .k .k .k .k
    exact hz6

theorem execMateReplayTimeout_keeps {s0 : State} {ps : Nat} {k : Nat} {s : State} (hp : Covers ps 0x1000000000000000000000000000000000000004600000000000000f7c200) (hs : On inS ps s0 s) :
    On inNext ps s0 (execMateReplayTimeout k s) := by
  delta execMateReplayTimeout
  refine On.next ?_
  refine On.ite ?_ ?_
  · exact hs
  · exact State.goBackLane_keeps (hp.sub rfl) (State.reach_keeps (hp.sub rfl) hs)

theorem execMateLaneFail_keeps {s0 : State} {ps : Nat} {k : Nat} {s : State} (hp : Covers ps 0xffffffffffffffffffffffffffffffffffffffffffffffffffffffffffffffff03fbffff) (hs : On inS ps s0 s) :
    On inNext ps s0 (execMateLaneFail k s) := by
  delta execMateLaneFail
  refine On.next ?_
  extract_lets +onlyGivenNames z1
  clear_value (ez1 : z1 = _)
  refine On.letS (ps := ps) (s0 := s0) ez1 ?_ fun hz1 => ?_
  · exact State.failLane_keeps (hp.sub rfl) hs
  refine On.ite ?_ ?_
  · exact hz1
  · exact State.standbyAlone_keeps (hp.sub rfl) hz1

theorem execMateLaneRetrain_keeps {s0 : State} {ps : Nat} {k : Nat} {s : State} (hp : Covers ps 0x4000000000000000040000) (hs : On inS ps s0 s) :
    On inNext ps s0 (execMateLaneRetrain k s) := by
  delta execMateLaneRetrain
  refine On.next ?_
  refine On.ite ?_ ?_
  · exact hs
  · exact State.setReg_keeps (hp.sub rfl) (State.reach_keeps (hp.sub rfl) hs)

theorem execMateLinkUp_keeps {s0 : State} {ps : Nat} {k : Nat} {s : State} (hp : Covers ps 0x4000000000000000020200) (hs : On inS ps s0 s) :
    On inNext ps s0 (execMateLinkUp k s) := by
  delta execMateLinkUp
  refine On.next ?_
  extract_lets +onlyGivenNames z1
  clear_value z1
  refine On.ite ?_ ?_
  · exact hs
  · extract_lets +onlyGivenNames z2 z3
    clear_value z2 z3
    extract_lets +onlyGivenNames z4
    clear_value (ez4 : z4 = _)
    refine On.letS (ps := ps) (s0 := s0) ez4 ?_ fun hz4 => ?_
    · exact State.setLane_keeps (hp.sub rfl) (State.setReg_keeps (hp.sub rfl) hs)
    refine On.ite ?_ ?_
    · exact State.pumpMate_keeps (hp.sub rfl) hz4
    · extract_lets +onlyGivenNames z5
      clear_value z5
      refine On.fst ?_
      refine State.sendRecord_keeps (hp.sub rfl) ?_
      refine On.mk (s := z4) ?_ .k .k .k .k .k .k .k .k .k (.m (hp.sub rfl) rfl) .k .k .k .k .k .k .k
      exact hz4

theorem execMateIdleCell_keeps {s0 : State} {ps : Nat} {k : Nat} {cell : List Byte} {s : State} (hp : Covers ps 0x1010300000001000100000000000000000000004600000000000000f3f300) (hs : On inS ps s0 s) :
    On inNext ps s0 (execMateIdleCell k cell s) := by
  delta execMateIdleCell
  refine On.next ?_
  refine On.ite ?_ ?_
  · exact hs
  · exact On.fst (State.recvMate_keeps (hp.sub rfl) hs)

end Sys2Proof.Machine
end

