-- ==== Sys2Proof/Laws/KeepsRegions.lean ====
section
/-! SUPPORT. Sys2Proof/Laws/KeepsRegions.lean: what the operations of Machine/Regions.lean keep, whatever they do. -/

namespace Sys2Proof.Machine

theorem State.addRegion_keeps {s0 : State} {ps : Nat} {s : State} {ri : Nat} {r : Region} (hp : Covers ps 0x1000000000000000000000000000018) (hs : On inS ps s0 s) :
    On inS ps s0 (State.addRegion s ri r) := by
  delta State.addRegion
  extract_lets +onlyGivenNames z1 z2 z3 z4
  clear_value z1 z2 z3 z4
  refine State.setReg_keeps (hp.sub rfl) ?_
  refine On.mk (s := s) ?_ .k .k .k (.c (hp.sub rfl)) (.c (hp.sub rfl)) .k .k .k .k .k .k .k .k .k .k .k .k
  exact hs

theorem State.placeRegion_keeps {s0 : State} {ps : Nat} {s : State} {em : Bool} {v : List Byte} (hp : Covers ps 0x1000000000000000000000000000018) (hs : On inS ps s0 s) :
    On (inOk (inSnd inS)) ps s0 (State.placeRegion s em v) := by
  delta State.placeRegion
  extract_lets +onlyGivenNames z1
  clear_value z1
  split
  · rename_i x2 x3 x4 x5 e6 e7
    refine On.ite ?_ ?_
    · exact On.error
    · exact On.ok (On.pair (State.addRegion_keeps (hp.sub rfl) hs))
  · rename_i x8 x9 e10
    exact On.error

theorem createEmRegion_keeps {s0 : State} {ps : Nat} {v : List Byte} {s : State} (hp : Covers ps 0x1000000000000000000000000000018) (hs : On inS ps s0 s) :
    On (inOk (inSnd inS)) ps s0 (createEmRegion v s) := by
  delta createEmRegion
  refine On.ite ?_ ?_
  · exact State.placeRegion_keeps (hp.sub rfl) hs
  · exact On.error

theorem createLpmRegion_keeps {s0 : State} {ps : Nat} {v : List Byte} {s : State} (hp : Covers ps 0x1000000000000000000000000000018) (hs : On inS ps s0 s) :
    On (inOk (inSnd inS)) ps s0 (createLpmRegion v s) := by
  delta createLpmRegion
  refine On.ite ?_ ?_
  · exact State.placeRegion_keeps (hp.sub rfl) hs
  · exact On.error

theorem execEmRegionCreate_keeps {s0 : State} {ps : Nat} {o : Origin} {v : List Byte} {s : State} (hp : Covers ps 0x1000000000000000000000000020219) (hs : On inS ps s0 s) :
    On inNext ps s0 (execEmRegionCreate o v s) := by
  delta execEmRegionCreate
  refine On.next ?_
  refine State.endCreate_keeps (hp.sub rfl) ?_
  refine State.runCreate_keeps (hp.sub rfl) ?_ ?_
  · exact hs
  · intro x1 x2 h3
    exact createEmRegion_keeps (hp.sub rfl) h3

theorem execLpmRegionCreate_keeps {s0 : State} {ps : Nat} {o : Origin} {v : List Byte} {s : State} (hp : Covers ps 0x1000000000000000000000000020219) (hs : On inS ps s0 s) :
    On inNext ps s0 (execLpmRegionCreate o v s) := by
  delta execLpmRegionCreate
  refine On.next ?_
  refine State.endCreate_keeps (hp.sub rfl) ?_
  refine State.runCreate_keeps (hp.sub rfl) ?_ ?_
  · exact hs
  · intro x1 x2 h3
    exact createLpmRegion_keeps (hp.sub rfl) h3

theorem State.removeRegion_keeps {s0 : State} {ps : Nat} {s : State} {ri : Nat} (hp : Covers ps 0x80010) (hs : On inS ps s0 s) :
    On inS ps s0 (State.removeRegion s ri) := by
  delta State.removeRegion
  extract_lets +onlyGivenNames z1 z2 z3
  clear_value z1 z2 z3
  refine State.nextGen_keeps (hp.sub rfl) ?_
  refine On.mk (s := s) ?_ .k .k .k .k (.c (hp.sub rfl)) .k .k .k .k .k .k .k .k .k .k .k .k
  exact hs

theorem createRuleSet_keeps {s0 : State} {ps : Nat} {v : List Byte} {s : State} (hp : Covers ps 0x10) (hs : On inS ps s0 s) :
    On (inOk (inSnd inS)) ps s0 (createRuleSet v s) := by
  delta createRuleSet
  extract_lets +onlyGivenNames z1
  clear_value z1
  refine On.ite ?_ ?_
  · exact On.error
  · split
    · rename_i x2 x3 x4 x5 e6 e7
      refine On.ok ?_
      refine On.pair ?_
      refine On.mk (s := s) ?_ .k .k .k .k (.c (hp.sub rfl)) .k .k .k .k .k .k .k .k .k .k .k .k
      exact hs
    · rename_i x8 x9 e10
      exact On.error

theorem execRuleSetCreate_keeps {s0 : State} {ps : Nat} {o : Origin} {v : List Byte} {s : State} (hp : Covers ps 0x20211) (hs : On inS ps s0 s) :
    On inNext ps s0 (execRuleSetCreate o v s) := by
  delta execRuleSetCreate
  refine On.next ?_
  refine State.endCreate_keeps (hp.sub rfl) ?_
  refine State.runCreate_keeps (hp.sub rfl) ?_ ?_
  · exact hs
  · intro x1 x2 h3
    exact createRuleSet_keeps (hp.sub rfl) h3

theorem State.removeRuleSet_keeps {s0 : State} {ps : Nat} {s : State} {i : Nat} (hp : Covers ps 0x80010) (hs : On inS ps s0 s) :
    On inS ps s0 (State.removeRuleSet s i) := by
  delta State.removeRuleSet
  extract_lets +onlyGivenNames z1 z2
  clear_value z1 z2
  refine State.nextGen_keeps (hp.sub rfl) ?_
  refine On.mk (s := s) ?_ .k .k .k .k (.c (hp.sub rfl)) .k .k .k .k .k .k .k .k .k .k .k .k
  exact hs

theorem State.setIter_keeps {s0 : State} {ps : Nat} {s : State} {k : Nat} {x : Iteration} (hp : Covers ps 0x10) (hs : On inS ps s0 s) :
    On inS ps s0 (State.setIter s k x) := by
  delta State.setIter
  refine On.mk (s := s) ?_ .k .k .k .k (.c (hp.sub rfl)) .k .k .k .k .k .k .k .k .k .k .k .k
  exact hs

theorem State.closeIter_keeps {s0 : State} {ps : Nat} {s : State} {k : Nat} (hp : Covers ps 0x10) (hs : On inS ps s0 s) :
    On inS ps s0 (State.closeIter s k) := by
  delta State.closeIter
  split
  · rename_i x1 x2 e3
    exact State.setIter_keeps (hp.sub rfl) hs
  · rename_i x4 e5
    exact hs

theorem State.openIter_keeps {s0 : State} {ps : Nat} {s : State} {ri : Nat} (hp : Covers ps 0x10) (hs : On inS ps s0 s) :
    On (inSnd inS) ps s0 (State.openIter s ri) := by
  delta State.openIter
  extract_lets +onlyGivenNames z1
  clear_value z1
  split
  · rename_i x2 e3
    exact On.pair hs
  · rename_i x4 x5 e6
    extract_lets +onlyGivenNames z7 z8
    clear_value z7 z8
    exact On.pair (State.setIter_keeps (hp.sub rfl) hs)

theorem State.nextIter_keeps {s0 : State} {ps : Nat} {s : State} {r : Region} {k : Nat} {count : Nat} (hp : Covers ps 0x10) (hs : On inS ps s0 s) :
    On (inSnd inS) ps s0 (State.nextIter s r k count) := by
  delta State.nextIter
  split
  · rename_i x1 e2
    exact On.pair hs
  · rename_i x3 x4 e5
    split
    · rename_i x6 x7 x8 e9
      refine On.ite ?_ ?_
      · exact On.pair hs
      · extract_lets +onlyGivenNames z10
        clear_value z10
        extract_lets +onlyGivenNames z11
        clear_value (ez11 : z11 = _)
        refine On.letS (ps := ps) (s0 := s0) ez11 ?_ fun hz11 => ?_
        · exact State.setIter_keeps (hp.sub rfl) hs
        refine On.pair ?_
        refine On.ite ?_ ?_
        · exact State.closeIter_keeps (hp.sub rfl) hz11
        · exact hz11

theorem tableAnswer_keeps {s0 : State} {ps : Nat} {c : List Byte} {s : State} (hp : Covers ps 0x10) (hs : On inS ps s0 s) :
    On (inSnd (inSnd inS)) ps s0 (tableAnswer c s) := by
  delta tableAnswer
  refine On.ite ?_ ?_
  · exact On.pair (On.pair hs)
  · extract_lets +onlyGivenNames z1 z2 z3
    clear_value z1 z2 z3
    split
    · rename_i x4 x5 x6 e7
      refine On.ite ?_ ?_
      · exact On.pair (On.pair hs)
      · split
        · rename_i x8 e9
          exact On.pair (On.pair hs)
        · rename_i x10 e11
          split
          · rename_i x12 x13 x14 e15
            refine On.got (g := (inSnd inS)) (t := x14) (ps := ps) (s0 := s0) e15 rfl ?_ fun he15 => ?_
            · exact State.openIter_keeps (hp.sub rfl) hs
            exact On.pair (On.pair he15)
        · rename_i x16 e17 e18
          extract_lets +onlyGivenNames z19
          clear_value z19
          split
          · rename_i x20 e21
            refine On.ite ?_ ?_
            · split
              · rename_i x22 x23 x24 e25
                refine On.got (g := (inSnd inS)) (t := x24) (ps := ps) (s0 := s0) e25 rfl ?_ fun he25 => ?_
                · exact State.nextIter_keeps (hp.sub rfl) hs
                exact On.pair (On.pair he25)
            · exact On.pair (On.pair (State.closeIter_keeps (hp.sub rfl) hs))
          · rename_i x26 e27
            exact On.pair (On.pair hs)
    · rename_i x28 x29 e30
      exact On.pair (On.pair hs)
    · rename_i x31 x32 x33 e34 e35
      exact On.pair (On.pair hs)

theorem execSearch_keeps {s0 : State} {ps : Nat} {o : Origin} {region : Nat} {len : Nat} {key : List Byte} {s : State} (hp : Covers ps 0x20219) (hs : On inS ps s0 s) :
    On inNext ps s0 (execSearch o region len key s) := by
  delta execSearch
  refine On.next ?_
  refine State.runQuery_keeps (hp.sub rfl) ?_ ?_
  · exact hs
  · intro x1 x2 h3
    exact tableAnswer_keeps (hp.sub rfl) h3

theorem execIterOpen_keeps {s0 : State} {ps : Nat} {o : Origin} {region : Nat} {s : State} (hp : Covers ps 0x20219) (hs : On inS ps s0 s) :
    On inNext ps s0 (execIterOpen o region s) := by
  delta execIterOpen
  refine On.next ?_
  refine State.runQuery_keeps (hp.sub rfl) ?_ ?_
  · exact hs
  · intro x1 x2 h3
    exact tableAnswer_keeps (hp.sub rfl) h3

theorem execIterNext_keeps {s0 : State} {ps : Nat} {o : Origin} {region : Nat} {iter : Nat} {count : Nat} {s : State} (hp : Covers ps 0x20219) (hs : On inS ps s0 s) :
    On inNext ps s0 (execIterNext o region iter count s) := by
  delta execIterNext
  refine On.next ?_
  refine State.runQuery_keeps (hp.sub rfl) ?_ ?_
  · exact hs
  · intro x1 x2 h3
    exact tableAnswer_keeps (hp.sub rfl) h3

theorem execIterClose_keeps {s0 : State} {ps : Nat} {o : Origin} {region : Nat} {iter : Nat} {s : State} (hp : Covers ps 0x20219) (hs : On inS ps s0 s) :
    On inNext ps s0 (execIterClose o region iter s) := by
  delta execIterClose
  refine On.next ?_
  refine State.runQuery_keeps (hp.sub rfl) ?_ ?_
  · exact hs
  · intro x1 x2 h3
    exact tableAnswer_keeps (hp.sub rfl) h3

theorem execIterTimeout_keeps {s0 : State} {ps : Nat} {slot : Nat} {s : State} (hp : Covers ps 0x40010) (hs : On inS ps s0 s) :
    On inNext ps s0 (execIterTimeout slot s) := by
  delta execIterTimeout
  refine On.next ?_
  split
  · rename_i x1 x2 e3
    refine On.ite ?_ ?_
    · exact State.closeIter_keeps (hp.sub rfl) (State.reach_keeps (hp.sub rfl) hs)
    · exact hs
  · rename_i x4 e5
    exact hs

theorem State.readRule_keeps {s0 : State} {ps : Nat} {s : State} {r : RuleSet} {set : Nat} {pos : Nat} (hp : Covers ps 0x10000) (hs : On inS ps s0 s) :
    On (inSnd inS) ps s0 (State.readRule s r set pos) := by
  delta State.readRule
  split
  · rename_i x1 x2 e3
    exact On.pair hs
  · rename_i x4 e5
    split
    · rename_i x6 x7 x8 e9
      refine On.got (g := (inSnd inS)) (t := x8) (ps := ps) (s0 := s0) e9 rfl ?_ fun he9 => ?_
      · exact State.drawBytes_keeps (hp.sub rfl) hs
      exact On.pair he9

theorem State.blockFilter_keeps {s0 : State} {ps : Nat} {s : State} {r : RuleSet} {set : Nat} {b : Nat} {parity : Nat} (hp : Covers ps 0x10000) (hs : On inS ps s0 s) :
    On (inSnd inS) ps s0 (State.blockFilter s r set b parity) := by
  delta State.blockFilter
  extract_lets +onlyGivenNames z1
  clear_value z1
  refine On.ite ?_ ?_
  · exact State.drawBytes_keeps (hp.sub rfl) hs
  · split
    · rename_i x2 x3 x4 e5
      exact On.pair hs

theorem State.readBlock_keeps {s0 : State} {ps : Nat} {s : State} {r : RuleSet} {set : Nat} {b : Nat} (hp : Covers ps 0x10000) (hs : On inS ps s0 s) :
    On (inSnd inS) ps s0 (State.readBlock s r set b) := by
  delta State.readBlock
  extract_lets +onlyGivenNames z1 z2
  clear_value z1 z2
  split
  · rename_i x3 x4 x5 e6
    refine On.got (g := (inSnd inS)) (t := x5) (ps := ps) (s0 := s0) e6 rfl ?_ fun he6 => ?_
    · exact State.blockFilter_keeps (hp.sub rfl) hs
    split
    · rename_i x7 x8 x9 e10
      refine On.got (g := (inSnd inS)) (t := x9) (ps := ps) (s0 := s0) e10 rfl ?_ fun he10 => ?_
      · exact State.blockFilter_keeps (hp.sub rfl) he6
      exact On.pair he10

theorem ruleAnswer_keeps {s0 : State} {ps : Nat} {c : List Byte} {s : State} (hp : Covers ps 0x10000) (hs : On inS ps s0 s) :
    On (inSnd (inSnd inS)) ps s0 (ruleAnswer c s) := by
  delta ruleAnswer
  extract_lets +onlyGivenNames z1
  clear_value z1
  refine On.ite ?_ ?_
  · exact On.pair (On.pair hs)
  · extract_lets +onlyGivenNames z2 z3
    clear_value z2 z3
    split
    · rename_i x4 x5 x6 e7 e8
      refine On.ite ?_ ?_
      · exact On.pair (On.pair hs)
      · refine On.ite ?_ ?_
        · refine On.ite ?_ ?_
          · exact On.pair (On.pair hs)
          · split
            · rename_i x9 x10 x11 e12
              refine On.got (g := (inSnd inS)) (t := x11) (ps := ps) (s0 := s0) e12 rfl ?_ fun he12 => ?_
              · exact State.readRule_keeps (hp.sub rfl) hs
              exact On.pair (On.pair he12)
        · refine On.ite ?_ ?_
          · exact On.pair (On.pair hs)
          · split
            · rename_i x13 x14 x15 e16
              refine On.got (g := (inSnd inS)) (t := x15) (ps := ps) (s0 := s0) e16 rfl ?_ fun he16 => ?_
              · exact State.readBlock_keeps (hp.sub rfl) hs
              exact On.pair (On.pair he16)
    · rename_i x17 x18 e19 e20
      exact On.pair (On.pair hs)
    · rename_i x21 x22 e23 e24
      exact On.pair (On.pair hs)

theorem execReadRule_keeps {s0 : State} {ps : Nat} {o : Origin} {set : Nat} {pos : Nat} {s : State} (hp : Covers ps 0x30209) (hs : On inS ps s0 s) :
    On inNext ps s0 (execReadRule o set pos s) := by
  delta execReadRule
  refine On.next ?_
  refine State.runQuery_keeps (hp.sub rfl) ?_ ?_
  · exact hs
  · intro x1 x2 h3
    exact ruleAnswer_keeps (hp.sub rfl) h3

theorem execReadBlock_keeps {s0 : State} {ps : Nat} {o : Origin} {set : Nat} {block : Nat} {s : State} (hp : Covers ps 0x30209) (hs : On inS ps s0 s) :
    On inNext ps s0 (execReadBlock o set block s) := by
  delta execReadBlock
  refine On.next ?_
  refine State.runQuery_keeps (hp.sub rfl) ?_ ?_
  · exact hs
  · intro x1 x2 h3
    exact ruleAnswer_keeps (hp.sub rfl) h3

theorem execAgeSweep_keeps {s0 : State} {ps : Nat} {ri : Nat} {s : State} (hp : Covers ps 0x10) (hs : On inS ps s0 s) :
    On inNext ps s0 (execAgeSweep ri s) := by
  delta execAgeSweep
  refine On.next ?_
  split
  · rename_i x1 e2
    exact hs
  · rename_i x3 x4 e5
    refine On.ite ?_ ?_
    · exact hs
    · extract_lets +onlyGivenNames z6 z7 z8
      clear_value z6 z7 z8
      refine On.mk (s := s) ?_ .k .k .k .k (.c (hp.sub rfl)) .k .k .k .k .k .k .k .k .k .k .k .k
      exact hs

theorem State.enqueueCommit_keeps {s0 : State} {ps : Nat} {s : State} {c : Committer} (hp : Covers ps 0x8) (hs : On inS ps s0 s) :
    On inS ps s0 (State.enqueueCommit s c) := by
  delta State.enqueueCommit
  extract_lets +onlyGivenNames z1
  clear_value z1
  refine On.mk (s := s) ?_ .k .k .k (.c (hp.sub rfl)) .k .k .k .k .k .k .k .k .k .k .k .k .k
  exact hs

theorem execLearnServiceCommit_keeps {s0 : State} {ps : Nat} {s : State} (hp : Covers ps 0x18) (hs : On inS ps s0 s) :
    On inNext ps s0 (execLearnServiceCommit s) := by
  delta execLearnServiceCommit
  refine On.next ?_
  refine On.ite ?_ ?_
  · exact hs
  · extract_lets +onlyGivenNames z1 z2 z3 z4 z5
    clear_value z1 z2 z3 z4 z5
    extract_lets +onlyGivenNames z6
    clear_value (ez6 : z6 = _)
    refine On.letS (ps := ps) (s0 := s0) ez6 ?_ fun hz6 => ?_
    · refine On.mk (s := s) ?_ .k .k .k .k (.c (hp.sub rfl)) .k .k .k .k .k .k .k .k .k .k .k .k
      exact hs
    refine On.ite ?_ ?_
    · exact hz6
    · exact State.enqueueCommit_keeps (hp.sub rfl) hz6

theorem flushEffect_keeps {s0 : State} {ps : Nat} {c : List Byte} {s : State} (hp : Covers ps 0x10) (hs : On inS ps s0 s) :
    On (inSnd inS) ps s0 (flushEffect c s) := by
  delta flushEffect
  extract_lets +onlyGivenNames z1 z2
  clear_value z1 z2
  refine On.ite ?_ ?_
  · exact On.pair hs
  · split
    · rename_i x3 x4 x5 e6 e7
      refine On.ite ?_ ?_
      · exact On.pair hs
      · extract_lets +onlyGivenNames z8
        clear_value z8
        refine On.pair ?_
        refine On.foldl ?_ ?_
        · exact hs
        · intro x9 x10 h11
          exact State.joinFlush_keeps (hp.sub rfl) h11
    · rename_i x12 x13 e14 e15
      exact On.pair hs
    · rename_i x16 x17 e18 e19
      exact On.pair hs

theorem execFlushRequest_keeps {s0 : State} {ps : Nat} {o : Origin} {v : List Byte} {s : State} (hp : Covers ps 0x20219) (hs : On inS ps s0 s) :
    On inNext ps s0 (execFlushRequest o v s) := by
  delta execFlushRequest
  refine On.next ?_
  refine State.runWrite_keeps (hp.sub rfl) ?_ ?_
  · exact hs
  · intro x1 x2 h3
    exact flushEffect_keeps (hp.sub rfl) h3

theorem execFlushScanDone_keeps {s0 : State} {ps : Nat} {ri : Nat} {port : Nat} {s : State} (hp : Covers ps 0x18) (hs : On inS ps s0 s) :
    On inNext ps s0 (execFlushScanDone ri port s) := by
  delta execFlushScanDone
  refine On.next ?_
  split
  · rename_i x1 x2 x3 x4 e5 e6
    split
    · rename_i x7 x8 x9 x10 e11 e12
      refine On.ite ?_ ?_
      · exact hs
      · extract_lets +onlyGivenNames z13 z14 z15 z16 z17
        clear_value z13 z14 z15 z16 z17
        extract_lets +onlyGivenNames z18
        clear_value (ez18 : z18 = _)
        refine On.letS (ps := ps) (s0 := s0) ez18 ?_ fun hz18 => ?_
        · refine On.mk (s := s) ?_ .k .k .k .k (.c (hp.sub rfl)) .k .k .k .k .k .k .k .k .k .k .k .k
          exact hs
        refine On.ite ?_ ?_
        · exact hz18
        · exact State.enqueueCommit_keeps (hp.sub rfl) hz18
    · rename_i x19 x20 e21
      exact hs
  · rename_i x22 x23 e24
    exact hs

end Sys2Proof.Machine
end

