-- ==== Sys2Proof/Laws/KeepsUpdate.lean ====
section
/-! SUPPORT. Sys2Proof/Laws/KeepsUpdate.lean: what the operations of Machine/Update.lean keep, whatever they do. -/

namespace Sys2Proof.Machine

theorem State.setDelivery_keeps {s0 : State} {ps : Nat} {s : State} {d : Delivery} (hp : Covers ps 0x400004) (hs : On inS ps s0 s) :
    On inS ps s0 (State.setDelivery s d) := by
  delta State.setDelivery
  refine On.mk (s := s) ?_ .k .k (.c (hp.sub rfl) .keep) .k .k .k .k .k .k .k .k .k .k .k .k .k .k
  exact hs

theorem State.newDelivery_keeps {s0 : State} {ps : Nat} {s : State} {total : Nat} {id : List Byte} (hp : Covers ps 0x10000000000000000000000000000000000000000000000000000000000400004) (hs : On inS ps s0 s) :
    On inS ps s0 (State.newDelivery s total id) := by
  delta State.newDelivery
  extract_lets +onlyGivenNames z1
  clear_value (ez1 : z1 = _)
  refine On.letS (ps := ps) (s0 := s0) ez1 ?_ fun hz1 => ?_
  · refine On.ite ?_ ?_
    · exact State.writeBoot_keeps (hp.sub rfl) hs
    · exact hs
  exact State.setReg_keeps (hp.sub rfl) (State.setOct_keeps (hp.sub rfl) (State.setDelivery_keeps (hp.sub rfl) hz1))

theorem stageOpenEffect_keeps {s0 : State} {ps : Nat} {c : List Byte} {s : State} (hp : Covers ps 0x10000000000000000000000000000000000000000000000000000000000400004) (hs : On inS ps s0 s) :
    On (inSnd inS) ps s0 (stageOpenEffect c s) := by
  delta stageOpenEffect
  extract_lets +onlyGivenNames z1 z2 z3
  clear_value z1 z2 z3
  refine On.ite ?_ ?_
  · exact On.pair hs
  · refine On.ite ?_ ?_
    · exact On.pair hs
    · split
      · rename_i x4 x5 e6
        exact On.pair (State.newDelivery_keeps (hp.sub rfl) hs)
      · rename_i x7 x8 e9
        exact On.pair (State.newDelivery_keeps (hp.sub rfl) hs)
      · rename_i x10 x11 e12 e13 e14
        exact On.pair (State.newDelivery_keeps (hp.sub rfl) hs)
      · rename_i x15 x16 x17 e18 e19 e20
        refine On.ite ?_ ?_
        · exact On.pair (State.newDelivery_keeps (hp.sub rfl) hs)
        · refine On.ite ?_ ?_
          · exact On.pair hs
          · exact On.pair hs

theorem execStageOpen_keeps {s0 : State} {ps : Nat} {o : Origin} {v : List Byte} {s : State} (hp : Covers ps 0x1000000000000000000000000000000000000000000000000000000000042020d) (hs : On inS ps s0 s) :
    On inNext ps s0 (execStageOpen o v s) := by
  delta execStageOpen
  refine On.next ?_
  refine State.runWrite_keeps (hp.sub rfl) ?_ ?_
  · exact hs
  · intro x1 x2 h3
    exact stageOpenEffect_keeps (hp.sub rfl) h3

theorem execStageEraseDone_keeps {s0 : State} {ps : Nat} {s : State} (hp : Covers ps 0x10000000000000000000000000000000000000000000000000000000000000000) (hs : On inS ps s0 s) :
    On inNext ps s0 (execStageEraseDone s) := by
  delta execStageEraseDone
  refine On.next ?_
  refine On.ite ?_ ?_
  · exact State.setReg_keeps (hp.sub rfl) hs
  · exact hs

theorem State.checkPiece_keeps {s0 : State} {ps : Nat} {s : State} {p : Nat} (hp : Covers ps 0x10000000000000000000000000000000000000000000000000000000000500004) (hs : On inS ps s0 s) :
    On inS ps s0 (State.checkPiece s p) := by
  delta State.checkPiece
  split
  · rename_i x1 e2
    exact hs
  · rename_i x3 x4 e5
    refine On.ite ?_ ?_
    · exact hs
    · refine On.ite ?_ ?_
      · exact State.setDelivery_keeps (hp.sub rfl) hs
      · extract_lets +onlyGivenNames z6
        clear_value z6
        exact State.bump_keeps (hp.sub rfl) (hp.sub rfl) (State.setDelivery_keeps (hp.sub rfl) hs)

theorem State.checkPieces_keeps {s0 : State} {ps : Nat} {s : State} {p : Nat} (hp : Covers ps 0x10000000000000000000000000000000000000000000000000000000000500004) (hs : On inS ps s0 s) :
    On inS ps s0 (State.checkPieces s p) := by
  delta State.checkPieces
  split
  · rename_i x1 e2
    exact hs
  · rename_i x3 x4 e5
    refine On.ite ?_ ?_
    · refine On.foldl ?_ ?_
      · exact hs
      · intro x6 x7 h8
        exact State.checkPiece_keeps (hp.sub rfl) h8
    · exact State.checkPiece_keeps (hp.sub rfl) hs

theorem stageDataEffect_keeps {s0 : State} {ps : Nat} {offset : Nat} {last : Bool} {data : List Byte} {s : State} (hp : Covers ps 0x10000000000000000000000000000000000000000000000000000000000500004) (hs : On inS ps s0 s) :
    On (inSnd inS) ps s0 (stageDataEffect offset last data s) := by
  delta stageDataEffect
  split
  · rename_i x1 e2
    exact On.pair hs
  · rename_i x3 x4 e5
    extract_lets +onlyGivenNames z6 z7
    clear_value z6 z7
    refine On.ite ?_ ?_
    · exact On.pair hs
    · refine On.ite ?_ ?_
      · exact On.pair hs
      · split
        · rename_i x8 x9 e10
          refine On.ite ?_ ?_
          · exact On.pair hs
          · exact On.pair (State.bump_keeps (hp.sub rfl) (hp.sub rfl) hs)
        · rename_i x11 e12
          exact On.pair (State.checkPieces_keeps (hp.sub rfl) (State.setDelivery_keeps (hp.sub rfl) hs))

theorem execStageData_keeps {s0 : State} {ps : Nat} {o : Origin} {offset : Nat} {last : Bool} {data : List Byte} {s : State} (hp : Covers ps 0x1000000000000000000000000000000000000000000000000000000000052020d) (hs : On inS ps s0 s) :
    On inNext ps s0 (execStageData o offset last data s) := by
  delta execStageData
  refine On.next ?_
  refine State.runBlob_keeps (hp.sub rfl) ?_ ?_
  · exact hs
  · intro x1 x2 h3
    exact stageDataEffect_keeps (hp.sub rfl) h3

theorem execPieceEraseDone_keeps {s0 : State} {ps : Nat} {p : Nat} {s : State} (hp : Covers ps 0x400004) (hs : On inS ps s0 s) :
    On inNext ps s0 (execPieceEraseDone p s) := by
  delta execPieceEraseDone
  refine On.next ?_
  split
  · rename_i x1 x2 e3
    exact State.setDelivery_keeps (hp.sub rfl) hs
  · rename_i x4 e5
    exact hs

theorem execStageHashDone_keeps {s0 : State} {ps : Nat} {s : State} (hp : Covers ps 0x10000000000000000000000000000000000000000000000000000000000000000) (hs : On inS ps s0 s) :
    On inNext ps s0 (execStageHashDone s) := by
  delta execStageHashDone
  refine On.next ?_
  split
  · rename_i x1 e2
    exact hs
  · rename_i x3 x4 e5
    refine On.ite ?_ ?_
    · exact hs
    · refine On.ite ?_ ?_
      · exact State.setReg_keeps (hp.sub rfl) (State.setReg_keeps (hp.sub rfl) hs)
      · exact State.setReg_keeps (hp.sub rfl) hs

theorem State.refuseActivation_keeps {s0 : State} {ps : Nat} {s : State} {cause : Nat} (hp : Covers ps 0x10000000000000000000000000000000000000000000000000000000000400004) (hs : On inS ps s0 s) :
    On inS ps s0 (State.refuseActivation s cause) := by
  delta State.refuseActivation
  refine State.setReg_keeps (hp.sub rfl) ?_
  refine On.mk (s := s) ?_ .k .k (.c (hp.sub rfl) .keep) .k .k .k .k .k .k .k .k .k .k .k .k .k .k
  exact hs

theorem State.beginInstall_keeps {s0 : State} {ps : Nat} {s : State} {b : List Byte} (hp : Covers ps 0x10000000000000000000000000000000000000000000000000000000000400004) (hs : On inS ps s0 s) :
    On inS ps s0 (State.beginInstall s b) := by
  delta State.beginInstall
  extract_lets +onlyGivenNames z1
  clear_value z1
  refine On.ite ?_ ?_
  · exact State.refuseActivation_keeps (hp.sub rfl) hs
  · extract_lets +onlyGivenNames z2
    clear_value z2
    extract_lets +onlyGivenNames z3
    clear_value (ez3 : z3 = _)
    refine On.letS (ps := ps) (s0 := s0) ez3 ?_ fun hz3 => ?_
    · exact State.noteSlot_keeps (hp.sub rfl) (State.setSlot_keeps (hp.sub rfl) hs)
    refine State.setReg_keeps (hp.sub rfl) ?_
    refine State.setReg_keeps (hp.sub rfl) ?_
    refine On.mk (s := z3) ?_ .k .k (.c (hp.sub rfl) .keep) .k .k .k .k .k .k .k .k .k .k .k .k .k .k
    exact hz3

theorem activateEffect_keeps {s0 : State} {ps : Nat} {c : List Byte} {s : State} (hp : Covers ps 0x10000000000000000000000000000000000000000000000000000000000400004) (hs : On inS ps s0 s) :
    On (inSnd inS) ps s0 (activateEffect c s) := by
  delta activateEffect
  extract_lets +onlyGivenNames z1
  clear_value z1
  refine On.ite ?_ ?_
  · exact On.pair hs
  · refine On.ite ?_ ?_
    · exact On.pair hs
    · refine On.ite ?_ ?_
      · exact On.pair hs
      · refine On.ite ?_ ?_
        · exact On.pair (State.writeBoot_keeps (hp.sub rfl) hs)
        · exact On.pair (State.beginInstall_keeps (hp.sub rfl) hs)

theorem execAtNextStart_keeps {s0 : State} {ps : Nat} {o : Origin} {s : State} (hp : Covers ps 0x1000000000000000000000000000000000000000000000000000000000042020d) (hs : On inS ps s0 s) :
    On inNext ps s0 (execAtNextStart o s) := by
  delta execAtNextStart
  refine On.next ?_
  refine State.runWrite_keeps (hp.sub rfl) ?_ ?_
  · exact hs
  · intro x1 x2 h3
    exact activateEffect_keeps (hp.sub rfl) h3

theorem execWarmNow_keeps {s0 : State} {ps : Nat} {o : Origin} {s : State} (hp : Covers ps 0x1000000000000000000000000000000000000000000000000000000000042020d) (hs : On inS ps s0 s) :
    On inNext ps s0 (execWarmNow o s) := by
  delta execWarmNow
  refine On.next ?_
  refine State.runWrite_keeps (hp.sub rfl) ?_ ?_
  · exact hs
  · intro x1 x2 h3
    exact activateEffect_keeps (hp.sub rfl) h3

theorem execActivateInstallDone_keeps {s0 : State} {ps : Nat} {good : Bool} {s : State} (hp : Covers ps 0x10001000000000100000000000000000000000000000000010001000001d73617) (hs : On inS ps s0 s) :
    On inNext ps s0 (execActivateInstallDone good s) := by
  delta execActivateInstallDone
  refine On.next ?_
  split
  · rename_i x1 e2
    exact hs
  · rename_i x3 x4 e5
    extract_lets +onlyGivenNames z6
    clear_value z6
    refine On.ite ?_ ?_
    · exact State.setReg_keeps (hp.sub rfl) (State.refuseActivation_keeps (hp.sub rfl) hs)
    · extract_lets +onlyGivenNames z7
      clear_value z7
      extract_lets +onlyGivenNames z8
      clear_value (ez8 : z8 = _)
      refine On.letS (ps := ps) (s0 := s0) ez8 ?_ fun hz8 => ?_
      · exact State.install_keeps (hp.sub rfl) hs
      extract_lets +onlyGivenNames z9
      extract_lets +onlyGivenNames z10
      clear_value (ez10 : z10 = _)
      refine On.letS (ps := ps) (s0 := s0) ez10 ?_ fun hz10 => ?_
      · refine On.mk (s := z8) ?_ .k .k (.c (hp.sub rfl) .keep) .k .k .k .k .k .k .k .k .k .k .k .k .k .k
        exact hz8
      exact State.setRunning_keeps (hp.sub rfl) (State.warmRestart_keeps (hp.sub rfl) (State.reach_keeps (hp.sub rfl) hz10))

theorem State.confirmTrial_keeps {s0 : State} {ps : Nat} {s : State} (hp : Covers ps 0x10000000000000000000000000000000000000000000000000000000000400004) (hs : On inS ps s0 s) :
    On inS ps s0 (State.confirmTrial s) := by
  delta State.confirmTrial
  split
  · exact hs
  · rename_i x3 x4 e5
    extract_lets +onlyGivenNames z6
    clear_value z6
    extract_lets +onlyGivenNames z7
    clear_value (ez7 : z7 = _)
    refine On.letS (ps := ps) (s0 := s0) ez7 ?_ fun hz7 => ?_
    · exact State.writeBoot_keeps (hp.sub rfl) hs
    extract_lets +onlyGivenNames z8
    clear_value (ez8 : z8 = _)
    have hf : s.fw.floor ≤ z8 := by
      rw [ez8]
      split
      · exact Nat.le_max_left _ _
      · exact Nat.le_refl _
    extract_lets +onlyGivenNames z9
    clear_value z9
    extract_lets +onlyGivenNames z10
    clear_value (ez10 : z10 = _)
    refine On.letS (ps := ps) (s0 := s0) ez10 ?_ fun hz10 => ?_
    · exact On.fuse (hp.sub rfl) hs hz7 hf fun n h => by rw [Nat.testBit_or, h, Bool.true_or]
    extract_lets +onlyGivenNames z11
    clear_value (ez11 : z11 = _)
    refine On.letS (ps := ps) (s0 := s0) ez11 ?_ fun hz11 => ?_
    · exact State.setReg_keeps (hp.sub rfl) (State.setReg_keeps (hp.sub rfl) hz10)
    extract_lets +onlyGivenNames z12
    clear_value z12
    split
    · exact hz11
    · extract_lets +onlyGivenNames z18
      clear_value z18
      exact On.ite (State.noteSlot_keeps (hp.sub rfl) hz11) hz11

theorem confirmEffect_keeps {s0 : State} {ps : Nat} {c : List Byte} {s : State} (hp : Covers ps 0x10000000000000000000000000000000000000000000000000000000000400004) (hs : On inS ps s0 s) :
    On (inSnd inS) ps s0 (confirmEffect c s) := by
  delta confirmEffect
  refine On.ite ?_ ?_
  · exact On.pair hs
  · split
    · rename_i x1 e2
      exact On.pair hs
    · rename_i x3 x4 e5
      refine On.ite ?_ ?_
      · exact On.pair (State.confirmTrial_keeps (hp.sub rfl) hs)
      · exact On.pair hs

theorem execConfirm_keeps {s0 : State} {ps : Nat} {o : Origin} {v : List Byte} {s : State} (hp : Covers ps 0x1000000000000000000000000000000000000000000000000000000000042020d) (hs : On inS ps s0 s) :
    On inNext ps s0 (execConfirm o v s) := by
  delta execConfirm
  refine On.next ?_
  refine State.runWrite_keeps (hp.sub rfl) ?_ ?_
  · exact hs
  · intro x1 x2 h3
    exact confirmEffect_keeps (hp.sub rfl) h3

theorem revertEffect_keeps {s0 : State} {ps : Nat} {c : List Byte} {s : State} (hp : Covers ps 0xffffffffffffffffffffffffffffffffffffffffffffffffffffffffffffffff03fbffff) (hs : On inS ps s0 s) :
    On (inSnd inS) ps s0 (revertEffect c s) := by
  delta revertEffect
  refine On.ite ?_ ?_
  · exact On.pair hs
  · exact On.pair (State.failTrial_keeps (hp.sub rfl) hs)

theorem execRevert_keeps {s0 : State} {ps : Nat} {o : Origin} {v : List Byte} {s : State} (hp : Covers ps 0xffffffffffffffffffffffffffffffffffffffffffffffffffffffffffffffff03fbffff) (hs : On inS ps s0 s) :
    On inNext ps s0 (execRevert o v s) := by
  delta execRevert
  refine On.next ?_
  refine State.runWrite_keeps (hp.sub rfl) ?_ ?_
  · exact hs
  · intro x1 x2 h3
    exact revertEffect_keeps (hp.sub rfl) h3

theorem execConfirmDelayExpiry_keeps {s0 : State} {ps : Nat} {s : State} (hp : Covers ps 0x10000000000000000000000000000000000000000000000000000000000440004) (hs : On inS ps s0 s) :
    On inNext ps s0 (execConfirmDelayExpiry s) := by
  delta execConfirmDelayExpiry
  refine On.next ?_
  split
  · rename_i x1 x2 x3 x4 e5
    refine On.ite ?_ ?_
    · exact hs
    · exact State.confirmTrial_keeps (hp.sub rfl) (State.reach_keeps (hp.sub rfl) hs)
  · rename_i x6 e7
    exact hs

theorem execConfirmDeadlineExpiry_keeps {s0 : State} {ps : Nat} {s : State} (hp : Covers ps 0xffffffffffffffffffffffffffffffffffffffffffffffffffffffffffffffff03ffffff) (hs : On inS ps s0 s) :
    On inNext ps s0 (execConfirmDeadlineExpiry s) := by
  delta execConfirmDeadlineExpiry
  refine On.next ?_
  split
  · rename_i x1 x2 x3 x4 x5 e6
    refine On.ite ?_ ?_
    · exact hs
    · exact State.failTrial_keeps (hp.sub rfl) (State.reach_keeps (hp.sub rfl) hs)
  · rename_i x7 e8
    exact hs

end Sys2Proof.Machine
end

