-- ==== Sys2Proof/Laws/KeepsEffects.lean ====
section
/-! SUPPORT. Sys2Proof/Laws/KeepsEffects.lean: what the operations of Machine/Effects.lean keep, whatever they do. -/

namespace Sys2Proof.Machine

theorem State.endSession_keeps {s0 : State} {ps : Nat} {s : State} {k : Nat} (hp : Covers ps 0x1) (hs : On inS ps s0 s) :
    On inS ps s0 (State.endSession s k) := by
  delta State.endSession
  refine On.mk (s := s) ?_ (.c (hp.sub rfl)) .k .k .k .k .k .k .k .k .k .k .k .k .k .k .k .k
  exact hs

theorem State.endSlotSessions_keeps {s0 : State} {ps : Nat} {s : State} {slot : Nat} (hp : Covers ps 0x1) (hs : On inS ps s0 s) :
    On inS ps s0 (State.endSlotSessions s slot) := by
  delta State.endSlotSessions
  refine On.foldl ?_ ?_
  · exact hs
  · intro x1 x2 h3
    exact State.endSession_keeps (hp.sub rfl) h3

theorem State.refitCage_keeps {s0 : State} {ps : Nat} {s : State} {n : Nat} {was : Nat} (hp : Covers ps 0xffffffffffffffffffffffffffffffffffffffffffffffffffffffffffffffff00000002) (hs : On inS ps s0 s) :
    On inS ps s0 (State.refitCage s n was) := by
  delta State.refitCage
  extract_lets +onlyGivenNames z1
  clear_value (ez1 : z1 = _)
  refine On.letS (ps := ps) (s0 := s0) ez1 ?_ fun hz1 => ?_
  · exact State.applyProfiles_keeps (hp.sub rfl) hs
  refine On.ite ?_ ?_
  · exact State.setModule_keeps (hp.sub rfl) (State.setCage_keeps (hp.sub rfl) hz1)
  · refine On.ite ?_ ?_
    · exact State.setLpMode_keeps (hp.sub rfl) (State.setModReset_keeps (hp.sub rfl) (State.setModule_keeps (hp.sub rfl) (State.setCage_keeps (hp.sub rfl) hz1)))
    · exact hz1

theorem State.disableLink_keeps {s0 : State} {ps : Nat} {s : State} {l : Nat} (hp : Covers ps 0x10000000000000000001000020000000000120900) (hs : On inS ps s0 s) :
    On inS ps s0 (State.disableLink s l) := by
  delta State.disableLink
  exact State.setReg_keeps (hp.sub rfl) (State.setReg_keeps (hp.sub rfl) (State.failLink_keeps (hp.sub rfl) hs))

theorem State.restartLink_keeps {s0 : State} {ps : Nat} {s : State} {l : Nat} (hp : Covers ps 0x1000000000000000000000000000000000000001600000000000000f1c000) (hs : On inS ps s0 s) :
    On inS ps s0 (State.restartLink s l) := by
  delta State.restartLink
  refine On.ite ?_ ?_
  · exact hs
  · refine On.ite ?_ ?_
    · exact State.setReg_keeps (hp.sub rfl) (State.abortTestOn_keeps (hp.sub rfl) hs)
    · exact State.setReg_keeps (hp.sub rfl) (State.abortTestOn_keeps (hp.sub rfl) hs)

theorem State.refitLane_keeps {s0 : State} {ps : Nat} {s : State} {k : Nat} (hp : Covers ps 0x1000000000000000000000000000000000000004600000000000000f3c200) (hs : On inS ps s0 s) :
    On inS ps s0 (State.refitLane s k) := by
  delta State.refitLane
  refine On.ite ?_ ?_
  · refine On.ite ?_ ?_
    · exact State.setReg_keeps (hp.sub rfl) (State.setLane_keeps (hp.sub rfl) (State.abortTestOn_keeps (hp.sub rfl) hs))
    · exact hs
  · exact State.setReg_keeps (hp.sub rfl) (State.setReg_keeps (hp.sub rfl) (State.failLane_keeps (hp.sub rfl) hs))

theorem State.policyWake_keeps {s0 : State} {ps : Nat} {s : State} {i : Nat} {j : Nat} {was : Nat} (hp : Covers ps 0x10002000000000000001000020000000000120d20) (hs : On inS ps s0 s) :
    On inS ps s0 (State.policyWake s i j was) := by
  delta State.policyWake
  extract_lets +onlyGivenNames z1
  clear_value z1
  refine On.ite ?_ ?_
  · refine On.foldl ?_ ?_
    · exact hs
    · intro x2 x3 h4
      refine On.ite ?_ ?_
      · exact State.askWake_keeps (hp.sub rfl) h4
      · exact h4
  · refine On.ite ?_ ?_
    · refine On.foldl ?_ ?_
      · exact hs
      · intro x5 x6 h7
        exact State.askWake_keeps (hp.sub rfl) h7
    · refine On.ite ?_ ?_
      · refine On.foldl ?_ ?_
        · exact hs
        · intro x8 x9 h10
          exact State.wakeQuad_keeps (hp.sub rfl) h10
      · refine On.ite ?_ ?_
        · exact State.wakeStacks_keeps (hp.sub rfl) hs
        · exact hs

theorem State.afterStore_keeps {s0 : State} {ps : Nat} {s : State} {i : Nat} {j : Nat} {was : Nat} (hp : Covers ps 0xffffffffffffffffffffffffffffffffffffffffffffffffffffffffffffffff00f3cf23) (hs : On inS ps s0 s) :
    On inS ps s0 (State.afterStore s i j was) := by
  delta State.afterStore
  refine On.ite ?_ ?_
  · exact State.refitCage_keeps (hp.sub rfl) hs
  · refine On.ite ?_ ?_
    · exact State.endSlotSessions_keeps (hp.sub rfl) hs
    · refine On.ite ?_ ?_
      · exact State.policyWake_keeps (hp.sub rfl) hs
      · refine On.ite ?_ ?_
        · exact State.refreshRecclk_keeps (hp.sub rfl) hs
        · refine On.ite ?_ ?_
          · refine On.ite ?_ ?_
            · exact State.setReg_keeps (hp.sub rfl) hs
            · exact hs
          · refine On.ite ?_ ?_
            · refine On.ite ?_ ?_
              · exact hs
              · exact State.restartLink_keeps (hp.sub rfl) hs
            · refine On.ite ?_ ?_
              · refine On.ite ?_ ?_
                · exact hs
                · exact State.refitLane_keeps (hp.sub rfl) hs
              · refine On.ite ?_ ?_
                · refine On.ite ?_ ?_
                  · exact hs
                  · refine State.refreshIdentity_keeps (hp.sub rfl) ?_
                    refine State.powerPair_keeps (hp.sub rfl) ?_
                    refine On.mk (s := s) ?_ .k .k .k .k .k .k .k .k .k (.m (hp.sub rfl) rfl) .k .k .k .k .k .k .k
                    exact hs
                · refine On.ite ?_ ?_
                  · exact State.refreshIdentity_keeps (hp.sub rfl) hs
                  · exact hs

theorem State.beforeStore_keeps {s0 : State} {ps : Nat} {s : State} {i : Nat} {j : Nat} {c : List Byte} (hp : Covers ps 0x10000000000000000001000020000000000120900) (hs : On inS ps s0 s) :
    On inS ps s0 (State.beforeStore s i j c) := by
  delta State.beforeStore
  refine On.ite ?_ ?_
  · exact State.setClock_keeps (hp.sub rfl) hs
  · refine On.ite ?_ ?_
    · exact State.disableLink_keeps (hp.sub rfl) hs
    · exact hs

theorem State.plainEffect_keeps {s0 : State} {ps : Nat} {s : State} {i : Nat} {j : Nat} {c : List Byte} (hp : Covers ps 0xffffffffffffffffffffffffffffffffffffffffffffffffffffffffffffffff00f3cf23) (hs : On inS ps s0 s) :
    On (inSnd inS) ps s0 (State.plainEffect s i j c) := by
  delta State.plainEffect
  refine On.ite ?_ ?_
  · exact On.pair hs
  · extract_lets +onlyGivenNames z1
    clear_value z1
    exact On.pair (State.afterStore_keeps (hp.sub rfl) (State.storeValue_keeps (hp.sub rfl).page (State.beforeStore_keeps (hp.sub rfl) hs)))

theorem resetRequestEffect_keeps {s0 : State} {ps : Nat} {c : List Byte} {s : State} (hp : Covers ps 0x1) (hs : On inS ps s0 s) :
    On (inSnd inS) ps s0 (resetRequestEffect c s) := by
  delta resetRequestEffect
  extract_lets +onlyGivenNames z1
  clear_value z1
  extract_lets +onlyGivenNames z2
  clear_value (ez2 : z2 = _)
  refine On.fnIn (P := fun f => ∀ v0, On (inSnd inS) ps s0 (f v0)) ez2 ?_ fun hz2 => ?_
  · intro x3
    dsimp -zeta only
    refine On.pair ?_
    refine On.mk (s := s) ?_ (.c (hp.sub rfl)) .k .k .k .k .k .k .k .k .k .k .k .k .k .k .k .k
    exact hs
  refine On.ite ?_ ?_
  · refine On.ite ?_ ?_
    · exact On.pair hs
    · refine hz2 _
  · refine On.ite ?_ ?_
    · refine hz2 _
    · exact On.pair hs

theorem State.queryEffect_keeps {s0 : State} {ps : Nat} {s : State} {o : Origin} {i : Nat} {j : Nat} {c : List Byte} (hp : Covers ps 0x10011) (hs : On inS ps s0 s) :
    On (inSome (inSnd inS)) ps s0 (State.queryEffect s o i j c) := by
  delta State.queryEffect
  extract_lets +onlyGivenNames z1
  clear_value (ez1 : z1 = _)
  refine On.fnIn (P := fun f => ∀ v0 v1, (∀ w0 w1, On inS ps s0 w1 → On (inSnd (inSnd inS)) ps s0 (v1 w0 w1)) → On (inSome (inSnd inS)) ps s0 (f v0 v1)) ez1 ?_ fun hz1 => ?_
  · intro x2 x3 h4
    dsimp -zeta only
    exact On.some (State.answerInto_keeps (hp.sub rfl) (h4 _ _ hs))
  split
  · rename_i x5 x6
    refine hz1 _ ?_ ?_
    intro x7 x8 h9
    exact tableAnswer_keeps (hp.sub rfl) h9
  · rename_i x10 x11
    refine hz1 _ ?_ ?_
    intro x12 x13 h14
    exact ruleAnswer_keeps (hp.sub rfl) h14
  · rename_i x15 x16
    refine hz1 _ ?_ ?_
    intro x17 x18 h19
    exact queueAnswer_keeps (hp.sub rfl) h19
  · rename_i x20 x21
    refine hz1 _ ?_ ?_
    intro x22 x23 h24
    exact mcastAnswer_keeps (hp.sub rfl) h24
  · rename_i x25 x26
    refine hz1 _ ?_ ?_
    intro x27 x28 h29
    exact schedAnswer_keeps (hp.sub rfl) h29
  · rename_i x30 x31
    refine hz1 _ ?_ ?_
    intro x32 x33 h34
    exact meterAnswer_keeps (hp.sub rfl) h34
  · rename_i x35 x36
    refine hz1 _ ?_ ?_
    intro x37 x38 h39
    exact channelAnswer_keeps (hp.sub rfl) h39
  · rename_i x40 x41
    refine hz1 _ ?_ ?_
    intro x42 x43 h44
    exact snapshotAnswer_keeps (hp.sub rfl) h44
  · rename_i x45 x46
    refine hz1 _ ?_ ?_
    intro x47 x48 h49
    exact wrapAnswer_keeps (hp.sub rfl) h49
  · rename_i x50 x51
    refine hz1 _ ?_ ?_
    intro x52 x53 h54
    exact counterSetAnswer_keeps (hp.sub rfl) h54
  · rename_i x55 x56
    refine hz1 _ ?_ ?_
    intro x57 x58 h59
    exact traceAnswer_keeps (hp.sub rfl) h59
  · rename_i x60 x61
    refine hz1 _ ?_ ?_
    intro x62 x63 h64
    exact histogramAnswer_keeps (hp.sub rfl) h64
  · rename_i x65 x66 e67 e68 e69 e70 e71 e72 e73 e74 e75 e76 e77 e78
    exact On.none

theorem State.commandEffect_keeps {s0 : State} {ps : Nat} {s : State} {o : Origin} {i : Nat} {j : Nat} {c : List Byte} (hp : Covers ps 0xffffffffffffffffffffffffffffffffffffffffffffffffffffffffffffffff03fbffff) (hs : On inS ps s0 s) :
    On (inSome (inSnd inS)) ps s0 (State.commandEffect s o i j c) := by
  delta State.commandEffect
  split
  · rename_i x1 x2
    exact On.some (resetRequestEffect_keeps (hp.sub rfl) hs)
  · rename_i x3 x4
    exact On.some (modeRequestEffect_keeps (hp.sub rfl) hs)
  · rename_i x5 x6
    exact On.some (ptpStepEffect_keeps (hp.sub rfl) hs)
  · rename_i x7 x8
    exact On.some (flushEffect_keeps (hp.sub rfl) hs)
  · rename_i x9 x10
    exact On.some (queueSetEffect_keeps (hp.sub rfl) hs)
  · rename_i x11 x12
    exact On.some (mcastSetEffect_keeps (hp.sub rfl) hs)
  · rename_i x13 x14
    exact On.some (schedSetEffect_keeps (hp.sub rfl) hs)
  · rename_i x15 x16
    exact On.some (meterSetEffect_keeps (hp.sub rfl) hs)
  · rename_i x17 x18
    exact On.some (watchUsEffect_keeps (hp.sub rfl) hs)
  · rename_i x19 x20
    exact On.some (switchoverEffect_keeps (hp.sub rfl) hs)
  · rename_i x21 x22
    exact On.some (faultRequestEffect_keeps (hp.sub rfl) hs)
  · rename_i x23 x24
    exact On.some (channelSetEffect_keeps (hp.sub rfl) hs)
  · rename_i x25 x26
    exact On.some (ringEnableEffect_keeps (hp.sub rfl) hs)
  · rename_i x27 x28
    exact On.some (integratorRestartEffect_keeps (hp.sub rfl) hs)
  · rename_i x29 x30
    exact On.some (clearEffect_keeps (hp.sub rfl) hs)
  · rename_i x31 x32
    exact On.some (snapshotEffect_keeps (hp.sub rfl) hs)
  · rename_i x33 x34
    exact On.some (ringResetEffect_keeps (hp.sub rfl) hs)
  · rename_i x35 x36
    exact On.some (patternStartEffect_keeps (hp.sub rfl) hs)
  · rename_i x37 x38
    exact On.some (patternStopEffect_keeps (hp.sub rfl) hs)
  · rename_i x39 x40
    exact On.some (bistStartEffect_keeps (hp.sub rfl) hs)
  · rename_i x41 x42
    exact On.some (healthClearEffect_keeps (hp.sub rfl) hs)
  · rename_i x43 x44
    exact On.some (stageOpenEffect_keeps (hp.sub rfl) hs)
  · rename_i x45 x46
    exact On.some (activateEffect_keeps (hp.sub rfl) hs)
  · rename_i x47 x48
    exact On.some (confirmEffect_keeps (hp.sub rfl) hs)
  · rename_i x49 x50
    exact On.some (revertEffect_keeps (hp.sub rfl) hs)
  · rename_i x51 x52 e53 e54 e55 e56 e57 e58 e59 e60 e61 e62 e63 e64 e65 e66 e67 e68 e69 e70 e71 e72 e73 e74 e75 e76 e77
    exact On.none

theorem State.rangeEffect_keeps {s0 : State} {ps : Nat} {s : State} {o : Origin} {i : Nat} {j : Nat} {c : List Byte} (hp : Covers ps 0xffffffffffffffffffffffffffffffffffffffffffffffffffffffffffffffff00f3fc93) (hs : On inS ps s0 s) :
    On (inSome (inSnd inS)) ps s0 (State.rangeEffect s o i j c) := by
  delta State.rangeEffect
  refine On.ite ?_ ?_
  · exact On.some (rereadEffect_keeps (hp.sub rfl) hs)
  · refine On.ite ?_ ?_
    · exact On.some (portModeEffect_keeps (hp.sub rfl) hs)
    · refine On.ite ?_ ?_
      · exact On.some (portSliceEffect_keeps (hp.sub rfl) hs)
      · refine On.ite ?_ ?_
        · exact On.some (portAdminEffect_keeps (hp.sub rfl) hs)
        · refine On.ite ?_ ?_
          · exact On.some (stampPopEffect_keeps (hp.sub rfl) hs)
          · refine On.ite ?_ ?_
            · exact On.some (hbmDelaysEffect_keeps (hp.sub rfl) hs)
            · refine On.ite ?_ ?_
              · exact On.some (watchQueueEffect_keeps (hp.sub rfl) hs)
              · refine On.ite ?_ ?_
                · exact On.some (windowPortEffect_keeps (hp.sub rfl) hs)
                · refine On.ite ?_ ?_
                  · exact On.some (windowEnableEffect_keeps (hp.sub rfl) hs)
                  · refine On.ite ?_ ?_
                    · exact On.some (lockForceEffect_keeps (hp.sub rfl) hs)
                    · refine On.ite ?_ ?_
                      · exact On.some (threadWeightEffect_keeps (hp.sub rfl) hs)
                      · refine On.ite ?_ ?_
                        · exact On.some (threadWeightEffect_keeps (hp.sub rfl) hs)
                        · refine On.ite ?_ ?_
                          · exact On.some (puntQueueEffect_keeps (hp.sub rfl) hs)
                          · refine On.ite ?_ ?_
                            · exact On.some (puntQueueEffect_keeps (hp.sub rfl) hs)
                            · refine On.ite ?_ ?_
                              · exact On.some (integratorWindowEffect_keeps (hp.sub rfl) hs)
                              · exact On.none

theorem State.writeEffect_keeps {s0 : State} {ps : Nat} {s : State} {o : Origin} {i : Nat} {j : Nat} {c : List Byte} (hp : Covers ps 0xffffffffffffffffffffffffffffffffffffffffffffffffffffffffffffffff03fbffff) (hs : On inS ps s0 s) :
    On (inSnd inS) ps s0 (State.writeEffect s o i j c) := by
  delta State.writeEffect
  split
  · rename_i x1 x2 e3
    refine On.gotAs (g := (inSome (inSnd inS))) (k := (inSnd inS)) (t := x2) (ps := ps) (s0 := s0) e3 rfl ?_ fun he3 => ?_
    · exact State.queryEffect_keeps (hp.sub rfl) hs
    exact he3
  · rename_i x4 e5
    split
    · rename_i x6 x7 e8
      refine On.gotAs (g := (inSome (inSnd inS))) (k := (inSnd inS)) (t := x7) (ps := ps) (s0 := s0) e8 rfl ?_ fun he8 => ?_
      · exact State.commandEffect_keeps (hp.sub rfl) hs
      exact he8
    · rename_i x9 e10
      refine On.getD ?_ ?_
      · exact State.rangeEffect_keeps (hp.sub rfl) hs
      · exact State.plainEffect_keeps (hp.sub rfl) hs

theorem createRule_keeps {s0 : State} {ps : Nat} {i : Nat} {f : List Byte → State → Except Status (Nat × State)} {c : List Byte} {t : State}
    (hp : Covers ps 0x1000000010000000000000000000000003050d8) (h : createRule i = some f) (ht : On inS ps s0 t) : On (inOk (inSnd inS)) ps s0 (f c t) := by
  unfold createRule at h
  split at h <;> cases h
  · exact createEmRegion_keeps (hp.sub rfl) ht
  · exact createLpmRegion_keeps (hp.sub rfl) ht
  · exact createRuleSet_keeps (hp.sub rfl) ht
  · exact createQueue_keeps (hp.sub rfl) ht
  · exact createNode_keeps (hp.sub rfl) ht
  · exact createMeter_keeps (hp.sub rfl) ht
  · exact createChannel_keeps (hp.sub rfl) ht
  · exact createCounterSet_keeps (hp.sub rfl) ht

end Sys2Proof.Machine
end

