-- ==== Sys2Proof/Laws/KeepsReads.lean ====
section
/-! SUPPORT. Sys2Proof/Laws/KeepsReads.lean: what the operations of Machine/Reads.lean keep, whatever they do. -/

namespace Sys2Proof.Machine

theorem State.valueOf_keeps {s0 : State} {ps : Nat} {s : State} {o : Origin} {i : Nat} {j : Nat} {d : ObjDef} (hp : Covers ps 0x818000) (hs : On inS ps s0 s) :
    On (inSnd inS) ps s0 (State.valueOf s o i j d) := by
  delta State.valueOf
  refine On.ite ?_ ?_
  · exact On.pair hs
  · refine On.ite ?_ ?_
    · exact On.pair hs
    · split
      · rename_i x1 x2 e3
        extract_lets +onlyGivenNames z4
        clear_value (ez4 : z4 = _)
        refine On.letS (ps := ps) (s0 := s0) ez4 ?_ fun hz4 => ?_
        · exact State.sampleTest_keeps (hp.sub rfl) hs
        exact On.pair hz4
      · rename_i x5 e6
        refine On.ite ?_ ?_
        · split
          · rename_i x7 x8 x9 e10
            refine On.got (g := (inSnd inS)) (t := x9) (ps := ps) (s0 := s0) e10 rfl ?_ fun he10 => ?_
            · exact State.draw_keeps (hp.sub rfl) hs
            exact On.pair he10
        · split
          · rename_i x11 x12 e13
            exact On.pair hs
          · rename_i x14 e15
            split
            · rename_i x16 x17 e18
              exact On.pair hs
            · rename_i x19 e20
              refine On.ite ?_ ?_
              · exact State.drawBytes_keeps (hp.sub rfl) hs
              · exact On.pair hs

theorem State.opRead_keeps {s0 : State} {ps : Nat} {s : State} {o : Origin} {i : Nat} {j : Nat} {ty : Nat} {len : Nat} (hp : Covers ps 0x818000) (hs : On inS ps s0 s) :
    On (inSnd inS) ps s0 (State.opRead s o i j ty len) := by
  delta State.opRead
  split
  · rename_i x1 x2 x3 e4 e5
    refine On.ite ?_ ?_
    · exact On.pair hs
    · refine On.ite ?_ ?_
      · exact On.pair hs
      · split
        · rename_i x6 x7 x8 e9
          refine On.got (g := (inSnd inS)) (t := x8) (ps := ps) (s0 := s0) e9 rfl ?_ fun he9 => ?_
          · exact State.valueOf_keeps (hp.sub rfl) hs
          exact On.pair he9
  · rename_i x10 x11 e12 e13
    exact On.pair hs
  · rename_i x14 x15 e16 e17
    exact On.pair hs

theorem execRead_keeps {s0 : State} {ps : Nat} {o : Origin} {i : Nat} {j : Nat} {ty : Nat} {s : State} (hp : Covers ps 0x818001) (hs : On inS ps s0 s) :
    On inNext ps s0 (execRead o i j ty s) := by
  delta execRead
  refine On.next ?_
  split
  · rename_i x1 x2 x3 e4
    refine On.got (g := (inSnd inS)) (t := x3) (ps := ps) (s0 := s0) e4 rfl ?_ fun he4 => ?_
    · exact State.opRead_keeps (hp.sub rfl) hs
    exact State.answer_keeps (hp.sub rfl) he4

theorem execDescribe_keeps {s0 : State} {ps : Nat} {o : Origin} {i : Nat} {j : Nat} {s : State} (hp : Covers ps 0x1) (hs : On inS ps s0 s) :
    On inNext ps s0 (execDescribe o i j s) := by
  delta execDescribe
  exact On.next (State.answer_keeps (hp.sub rfl) hs)

theorem execNext_keeps {s0 : State} {ps : Nat} {o : Origin} {i : Nat} {j : Nat} {s : State} (hp : Covers ps 0x1) (hs : On inS ps s0 s) :
    On inNext ps s0 (execNext o i j s) := by
  delta execNext
  exact On.next (State.answer_keeps (hp.sub rfl) hs)

end Sys2Proof.Machine
end

