-- ==== Sys2Proof/Laws/KeepsCommits.lean ====
section
/-! SUPPORT. Sys2Proof/Laws/KeepsCommits.lean: what the operations of Machine/Commits.lean keep, whatever they do. -/

namespace Sys2Proof.Machine

theorem State.setBatch_keeps {s0 : State} {ps : Nat} {s : State} {k : Nat} {b : Batch} (hp : Covers ps 0x1) (hs : On inS ps s0 s) :
    On inS ps s0 (State.setBatch s k b) := by
  delta State.setBatch
  refine On.mk (s := s) ?_ (.c (hp.sub rfl)) .k .k .k .k .k .k .k .k .k .k .k .k .k .k .k .k
  exact hs

theorem State.closeBatch_keeps {s0 : State} {ps : Nat} {s : State} {k : Nat} (hp : Covers ps 0x1) (hs : On inS ps s0 s) :
    On inS ps s0 (State.closeBatch s k) := by
  delta State.closeBatch
  extract_lets +onlyGivenNames z1
  clear_value z1
  exact State.setBatch_keeps (hp.sub rfl) hs

theorem State.noteOps_keeps {s0 : State} {ps : Nat} {s : State} {ops : List BatchOp} {st : Status} (hp : Covers ps 0x1) (hs : On inS ps s0 s) :
    On inS ps s0 (State.noteOps s ops st) := by
  delta State.noteOps
  refine On.foldl ?_ ?_
  · exact hs
  · intro x1 x2 h3
    refine On.ite ?_ ?_
    · exact State.noteOutcome_keeps (hp.sub rfl) h3
    · exact h3

theorem State.popCommit_keeps {s0 : State} {ps : Nat} {s : State} (hp : Covers ps 0x9) (hs : On inS ps s0 s) :
    On inS ps s0 (State.popCommit s) := by
  delta State.popCommit
  extract_lets +onlyGivenNames z1
  clear_value (ez1 : z1 = _)
  refine On.letS (ps := ps) (s0 := s0) ez1 ?_ fun hz1 => ?_
  · split
    · rename_i x2 x3 x4 x5 e6
      exact State.closeBatch_keeps (hp.sub rfl) hs
    · rename_i x7 e8
      exact hs
  refine On.mk (s := z1) ?_ .k .k .k (.c (hp.sub rfl)) .k .k .k .k .k .k .k .k .k .k .k .k .k
  exact hz1

theorem State.failCommit_keeps {s0 : State} {ps : Nat} {s : State} {fail : Nat × Status} (hp : Covers ps 0x10009) (hs : On inS ps s0 s) :
    On inS ps s0 (State.failCommit s fail) := by
  delta State.failCommit
  split
  · rename_i x1 e2
    exact hs
  · rename_i x3 x4 x5 e6
    split
    · rename_i x7 x8 x9 e10
      refine On.got (g := (inSnd inS)) (t := x9) (ps := ps) (s0 := s0) e10 rfl ?_ fun he10 => ?_
      · exact State.draw_keeps (hp.sub rfl) hs
      extract_lets +onlyGivenNames z11
      clear_value (ez11 : z11 = _)
      refine On.letS (ps := ps) (s0 := s0) ez11 ?_ fun hz11 => ?_
      · refine State.popCommit_keeps (hp.sub rfl) ?_
        split
        · rename_i x12 x13 x14
          exact State.noteOps_keeps (hp.sub rfl) he10
        · rename_i x15 e16
          exact he10
      split
      · rename_i x17 x18 e19
        exact State.replyJob_keeps (hp.sub rfl) hz11
      · rename_i x20 e21
        exact hz11

theorem State.refuseCommit_keeps {s0 : State} {ps : Nat} {s : State} {fail : Nat × Status} (hp : Covers ps 0x10000000000000000000000000110009) (hs : On inS ps s0 s) :
    On inS ps s0 (State.refuseCommit s fail) := by
  delta State.refuseCommit
  exact State.failCommit_keeps (hp.sub rfl) (State.bump_keeps (hp.sub rfl) (hp.sub rfl) hs)

theorem State.sendLearn_keeps {s0 : State} {ps : Nat} {s : State} {epoch : Nat} {cmds : List Byte} (hp : Covers ps 0x20200) (hs : On inS ps s0 s) :
    On (inFst inS) ps s0 (State.sendLearn s epoch cmds) := by
  delta State.sendLearn
  extract_lets +onlyGivenNames z1
  clear_value z1
  split
  · rename_i x2 x3 x4 e5
    refine On.got (g := (inFst inS)) (t := x3) (ps := ps) (s0 := s0) e5 rfl ?_ fun he5 => ?_
    · refine State.sendRecord_keeps (hp.sub rfl) ?_
      refine On.mk (s := s) ?_ .k .k .k .k .k .k .k .k .k (.m (hp.sub rfl) rfl) .k .k .k .k .k .k .k
      exact hs
    exact On.pairFst he5

theorem State.sendCommit_keeps {s0 : State} {ps : Nat} {s : State} {c : Committer} {d : Draft} (hp : Covers ps 0x20200) (hs : On inS ps s0 s) :
    On (inFst inS) ps s0 (State.sendCommit s c d) := by
  delta State.sendCommit
  refine On.ite ?_ ?_
  · exact On.pairFst hs
  · split
    · rename_i x1 x2
      split
      · rename_i x3 x4 x5 e6
        refine On.got (g := (inFst inS)) (t := x4) (ps := ps) (s0 := s0) e6 rfl ?_ fun he6 => ?_
        · exact State.sendLearn_keeps (hp.sub rfl) hs
        exact On.pairFst he6
    · rename_i x7 e8
      exact State.sendObjects_keeps (hp.sub rfl) hs

theorem State.noteDrain_keeps {s0 : State} {ps : Nat} {s : State} (hp : Covers ps 0x1000000000000000000000000) (hs : On inS ps s0 s) :
    On inS ps s0 (State.noteDrain s) := by
  delta State.noteDrain
  extract_lets +onlyGivenNames z1
  clear_value z1
  exact State.setReg_keeps (hp.sub rfl) (State.setReg_keeps (hp.sub rfl) hs)

theorem State.settleTables_keeps {s0 : State} {ps : Nat} {s : State} (hp : Covers ps 0x10) (hs : On inS ps s0 s) :
    On inS ps s0 (State.settleTables s) := by
  delta State.settleTables
  refine On.mk (s := s) ?_ .k .k .k .k (.c (hp.sub rfl)) .k .k .k .k .k .k .k .k .k .k .k .k
  exact hs

theorem State.wakeForProgram_keeps {s0 : State} {ps : Nat} {s : State} {program : Bool} (hp : Covers ps 0x20) (hs : On inS ps s0 s) :
    On inS ps s0 (State.wakeForProgram s program) := by
  delta State.wakeForProgram
  refine On.ite ?_ ?_
  · refine On.foldl ?_ ?_
    · exact hs
    · intro x1 x2 h3
      exact State.askWake_keeps (hp.sub rfl) h3
  · exact hs

theorem State.stageDraft_keeps {s0 : State} {ps : Nat} {s : State} {program : Bool} {d : Draft} {ticket : Option Nat} (hp : Covers ps 0x10038) (hs : On inS ps s0 s) :
    On inS ps s0 (State.stageDraft s program d ticket) := by
  delta State.stageDraft
  extract_lets +onlyGivenNames z1
  clear_value z1
  refine State.wakeForProgram_keeps (hp.sub rfl) ?_
  refine On.mk (s := s) ?_ .k .k .k (.c (hp.sub rfl)) (.c (hp.sub rfl)) .k .k .k .k .k .k .k .k .k .k .k (.c (hp.sub rfl))
  exact hs

theorem State.stageLayout_keeps {s0 : State} {ps : Nat} {s : State} {ri : Nat} {a : Nat} {b : Nat} {ticket : Option Nat} (hp : Covers ps 0x18) (hs : On inS ps s0 s) :
    On inS ps s0 (State.stageLayout s ri a b ticket) := by
  delta State.stageLayout
  split
  · rename_i x1 e2
    exact hs
  · rename_i x3 x4 e5
    extract_lets +onlyGivenNames z6
    clear_value z6
    refine On.mk (s := s) ?_ .k .k .k (.c (hp.sub rfl)) (.c (hp.sub rfl)) .k .k .k .k .k .k .k .k .k .k .k .k
    exact hs

theorem State.stageFirst_keeps {s0 : State} {ps : Nat} {s : State} (hp : Covers ps 0x10000001000000000000000000130239) (hs : On inS ps s0 s) :
    On inS ps s0 (State.stageFirst s) := by
  delta State.stageFirst
  split
  · rename_i x1 e2
    exact hs
  · rename_i x3 x4 x5 e6
    extract_lets +onlyGivenNames z7
    clear_value (ez7 : z7 = _)
    refine On.letS (ps := ps) (s0 := s0) ez7 ?_ fun hz7 => ?_
    · exact State.settleTables_keeps (hp.sub rfl) (State.noteDrain_keeps (hp.sub rfl) hs)
    extract_lets +onlyGivenNames z8 z9
    clear_value z8 z9
    split
    · rename_i x10 x11 x12 x13 x14 x15 e16 e17
      split
      · rename_i x18 x19 x20 e21
        refine On.got (g := (inFst inS)) (t := x19) (ps := ps) (s0 := s0) e21 rfl ?_ fun he21 => ?_
        · exact State.sendCommit_keeps (hp.sub rfl) hz7
        exact State.stageLayout_keeps (hp.sub rfl) he21
    · rename_i x22 x23 x24 x25 x26 x27 x28 e29 e30
      refine On.ite ?_ ?_
      · split
        · rename_i x31 x32 x33 e34
          refine On.got (g := (inFst inS)) (t := x32) (ps := ps) (s0 := s0) e34 rfl ?_ fun he34 => ?_
          · exact State.sendCommit_keeps (hp.sub rfl) hz7
          exact State.stageLayout_keeps (hp.sub rfl) he34
      · exact State.refuseCommit_keeps (hp.sub rfl) hz7
    · rename_i x35 x36 x37 e38 e39
      exact State.refuseCommit_keeps (hp.sub rfl) hz7
    · rename_i x40 x41 e42 e43
      split
      · rename_i x44 x45 x46 e47
        refine On.got (g := (inFst inS)) (t := x45) (ps := ps) (s0 := s0) e47 rfl ?_ fun he47 => ?_
        · exact State.sendCommit_keeps (hp.sub rfl) hz7
        exact State.stageDraft_keeps (hp.sub rfl) he47

theorem State.drainDone_keeps {s0 : State} {ps : Nat} {s : State} (hp : Covers ps 0x10000001000000000000000000130239) (hs : On inS ps s0 s) :
    On inS ps s0 (State.drainDone s) := by
  delta State.drainDone
  refine On.ite ?_ ?_
  · exact State.stageFirst_keeps (hp.sub rfl) hs
  · refine On.ite ?_ ?_
    · exact State.sendStatus_keeps (hp.sub rfl) hs
    · exact hs

theorem State.unstage_keeps {s0 : State} {ps : Nat} {s : State} (hp : Covers ps 0x18) (hs : On inS ps s0 s) :
    On inS ps s0 (State.unstage s) := by
  delta State.unstage
  extract_lets +onlyGivenNames z1 z2 z3
  clear_value z1 z2 z3
  refine On.mk (s := s) ?_ .k .k .k (.c (hp.sub rfl)) (.c (hp.sub rfl)) .k .k .k .k .k .k .k .k .k .k .k .k
  exact hs

theorem State.crossIter_keeps {s0 : State} {ps : Nat} {s : State} {k : Nat} {x : Iteration} (hp : Covers ps 0x1000000000000000000000000100010) (hs : On inS ps s0 s) :
    On inS ps s0 (State.crossIter s k x) := by
  delta State.crossIter
  refine On.ite ?_ ?_
  · exact hs
  · extract_lets +onlyGivenNames z1 z2
    clear_value z1 z2
    refine On.ite ?_ ?_
    · exact State.bump_keeps (hp.sub rfl) (hp.sub rfl) (State.closeIter_keeps (hp.sub rfl) hs)
    · exact State.setIter_keeps (hp.sub rfl) hs

theorem State.crossIters_keeps {s0 : State} {ps : Nat} {s : State} (hp : Covers ps 0x1000000000000000000000000100010) (hs : On inS ps s0 s) :
    On inS ps s0 (State.crossIters s) := by
  delta State.crossIters
  refine On.foldl ?_ ?_
  · exact hs
  · intro x1 x2 h3
    exact State.crossIter_keeps (hp.sub rfl) h3

theorem State.applyLater_keeps {s0 : State} {ps : Nat} {u1 : List (Nat × BatchOp)} {u2 : State} (hp : Covers ps 0xffffffffffffffffffffffffffffffffffffffffffffffffffffffffffffffff03fbffff) (hu2 : On inS ps s0 u2) :
    On (inOk inS) ps s0 (State.applyLater u1 u2) := by
  induction u1 generalizing u2 with
  | nil =>
    rw [State.applyLater]
    exact On.ok hu2
  | cons w v ih =>
    rw [State.applyLater]
    split
    · rename_i x1 x2 e3
      refine On.got (g := (inSnd inS)) (t := x2) (ps := ps) (s0 := s0) e3 rfl ?_ fun he3 => ?_
      · exact State.writeEffect_keeps (hp.sub rfl) hu2
      exact ih he3
    · rename_i x4 x5 x6 e7 e8
      refine On.got (g := (inSnd inS)) (t := x6) (ps := ps) (s0 := s0) e8 rfl ?_ fun he8 => ?_
      · exact State.writeEffect_keeps (hp.sub rfl) hu2
      exact On.error

theorem State.sendMarkOf_keeps {s0 : State} {ps : Nat} {s : State} {epoch : Nat} (hp : Covers ps 0x20200) (hs : On inS ps s0 s) :
    On inS ps s0 (State.sendMarkOf s epoch) := by
  delta State.sendMarkOf
  refine On.ite ?_ ?_
  · exact hs
  · exact On.fst (State.sendRecord_keeps (hp.sub rfl) hs)

theorem State.flip_keeps {s0 : State} {ps : Nat} {s : State} {g : Staging} (hp : Covers ps 0x8) (hs : On inS ps s0 s) :
    On inS ps s0 (State.flip s g) := by
  delta State.flip
  extract_lets +onlyGivenNames z1
  clear_value z1
  refine On.mk (s := s) ?_ .k .k .k (.c (hp.sub rfl)) .k .k .k .k .k .k .k .k .k .k .k .k .k
  exact hs

theorem State.noteCommit_keeps {s0 : State} {ps : Nat} {s : State} {c : Committer} {g : Staging} (hp : Covers ps 0x11000000000000000000000000100009) (hs : On inS ps s0 s) :
    On inS ps s0 (State.noteCommit s c g) := by
  delta State.noteCommit
  split
  · rename_i x1 x2
    extract_lets +onlyGivenNames z3
    clear_value (ez3 : z3 = _)
    refine On.letS (ps := ps) (s0 := s0) ez3 ?_ fun hz3 => ?_
    · refine On.foldl ?_ ?_
      · exact State.bump_keeps (hp.sub rfl) (hp.sub rfl) hs
      · intro x4 x5 h6
        exact State.bump_keeps (hp.sub rfl) (hp.sub rfl) h6
    refine On.foldl ?_ ?_
    · exact hz3
    · intro x7 x8 h9
      exact State.noteChange_keeps (hp.sub rfl) h9
  · rename_i x10 e11
    extract_lets +onlyGivenNames z12
    clear_value z12
    extract_lets +onlyGivenNames z13
    clear_value (ez13 : z13 = _)
    refine On.letS (ps := ps) (s0 := s0) ez13 ?_ fun hz13 => ?_
    · exact State.noteOps_keeps (hp.sub rfl) (State.bump_keeps (hp.sub rfl) (hp.sub rfl) hs)
    refine On.foldl ?_ ?_
    · exact hz13
    · intro x14 x15 h16
      exact State.noteChange_keeps (hp.sub rfl) h16

theorem State.answerCommit_keeps {s0 : State} {ps : Nat} {s : State} {job : Nat} {a : OpAns} {flash : List (Nat × Nat)} (hp : Covers ps 0x1) (hs : On inS ps s0 s) :
    On inS ps s0 (State.answerCommit s job a flash) := by
  delta State.answerCommit
  refine On.ite ?_ ?_
  · exact State.replyJob_keeps (hp.sub rfl) hs
  · refine On.mk (s := s) ?_ (.c (hp.sub rfl)) .k .k .k .k .k .k .k .k .k .k .k .k .k .k .k .k
    exact hs

theorem State.finishStage_keeps {s0 : State} {ps : Nat} {s : State} {c : Committer} {g : Staging} (hp : Covers ps 0xffffffffffffffffffffffffffffffffffffffffffffffffffffffffffffffff03fbffff) (hs : On inS ps s0 s) :
    On inS ps s0 (State.finishStage s c g) := by
  delta State.finishStage
  split
  · rename_i x1 x2 e3
    exact State.refuseCommit_keeps (hp.sub rfl) (State.unstage_keeps (hp.sub rfl) hs)
  · rename_i x4 x5 e6
    refine On.got (g := (inOk inS)) (t := x5) (ps := ps) (s0 := s0) e6 rfl ?_ fun he6 => ?_
    · exact State.applyLater_keeps (hp.sub rfl) hs
    extract_lets +onlyGivenNames z7
    clear_value (ez7 : z7 = _)
    refine On.letS (ps := ps) (s0 := s0) ez7 ?_ fun hz7 => ?_
    · exact State.sendMarkOf_keeps (hp.sub rfl) (State.flip_keeps (hp.sub rfl) (State.crossIters_keeps (hp.sub rfl) he6))
    refine On.ite ?_ ?_
    · exact State.bump_keeps (hp.sub rfl) (hp.sub rfl) hz7
    · extract_lets +onlyGivenNames z8
      clear_value (ez8 : z8 = _)
      refine On.letS (ps := ps) (s0 := s0) ez8 ?_ fun hz8 => ?_
      · exact State.noteCommit_keeps (hp.sub rfl) hz7
      extract_lets +onlyGivenNames z9
      clear_value z9
      extract_lets +onlyGivenNames z10
      clear_value (ez10 : z10 = _)
      refine On.letS (ps := ps) (s0 := s0) ez10 ?_ fun hz10 => ?_
      · exact State.popCommit_keeps (hp.sub rfl) hz8
      split
      · rename_i x11 x12 e13
        exact State.answerCommit_keeps (hp.sub rfl) hz10
      · rename_i x14 e15
        exact hz10

theorem State.advance_keeps {s0 : State} {ps : Nat} {s : State} (hp : Covers ps 0xffffffffffffffffffffffffffffffffffffffffffffffffffffffffffffffff03fbffff) (hs : On inS ps s0 s) :
    On inS ps s0 (State.advance s) := by
  delta State.advance
  split
  · rename_i x1 x2 x3 x4 x5 e6 e7
    refine On.ite ?_ ?_
    · exact hs
    · split
      · rename_i x8 e9
        exact State.finishStage_keeps (hp.sub rfl) hs
      · rename_i x10 x11 e12
        refine On.ite ?_ ?_
        · refine On.ite ?_ ?_
          · exact State.finishStage_keeps (hp.sub rfl) hs
          · exact hs
        · refine On.ite ?_ ?_
          · exact State.failCommit_keeps (hp.sub rfl) (State.unstage_keeps (hp.sub rfl) hs)
          · exact State.finishStage_keeps (hp.sub rfl) hs
  · rename_i x13 x14 e15
    exact hs

end Sys2Proof.Machine
end

