-- ==== Sys2Proof/Laws/KeepsFabric.lean ====
section
/-! SUPPORT. Sys2Proof/Laws/KeepsFabric.lean: what the operations of Machine/Fabric.lean keep, whatever they do. -/

namespace Sys2Proof.Machine

theorem State.rejectCell_keeps {s0 : State} {ps : Nat} {s : State} {l : Nat} {kind : Nat} (hp : Covers ps 0x20100) (hs : On inS ps s0 s) :
    On inS ps s0 (State.rejectCell s l kind) := by
  delta State.rejectCell
  extract_lets +onlyGivenNames z1
  clear_value z1
  extract_lets +onlyGivenNames z2
  clear_value (ez2 : z2 = _)
  refine On.letS (ps := ps) (s0 := s0) ez2 ?_ fun hz2 => ?_
  · exact State.setLink_keeps (hp.sub rfl) hs
  refine On.ite ?_ ?_
  · exact hz2
  · exact State.sendIdle_keeps (hp.sub rfl) hz2

theorem State.takeRequest_keeps {s0 : State} {ps : Nat} {s : State} {unit : Nat} {m : Nat} (hp : Covers ps 0x10000000000000000000000000000000000100100) (hs : On inS ps s0 s) :
    On inS ps s0 (State.takeRequest s unit m) := by
  delta State.takeRequest
  extract_lets +onlyGivenNames z1 z2 z3 z4
  clear_value z1 z2 z3 z4
  refine On.ite ?_ ?_
  · exact hs
  · extract_lets +onlyGivenNames z5
    clear_value (ez5 : z5 = _)
    refine On.letS (ps := ps) (s0 := s0) ez5 ?_ fun hz5 => ?_
    · refine On.ite ?_ ?_
      · exact State.count_keeps (hp.sub rfl) (hp.sub rfl) (State.setRecvCtx_keeps (hp.sub rfl) hs)
      · exact hs
    exact State.setRecvCtx_keeps (hp.sub rfl) hz5

theorem State.takeGrant_keeps {s0 : State} {ps : Nat} {s : State} {unit : Nat} {m : Nat} (hp : Covers ps 0x20300) (hs : On inS ps s0 s) :
    On inS ps s0 (State.takeGrant s unit m) := by
  delta State.takeGrant
  extract_lets +onlyGivenNames z1 z2
  clear_value z1 z2
  refine On.ite ?_ ?_
  · exact hs
  · refine On.ite ?_ ?_
    · extract_lets +onlyGivenNames z3
      clear_value (ez3 : z3 = _)
      refine On.letS (ps := ps) (s0 := s0) ez3 ?_ fun hz3 => ?_
      · exact State.setSendCtx_keeps (hp.sub rfl) hs
      extract_lets +onlyGivenNames z4
      clear_value (ez4 : z4 = _)
      refine On.letS (ps := ps) (s0 := s0) ez4 ?_ fun hz4 => ?_
      · refine On.ite ?_ ?_
        · split
          · rename_i x5 x6 x7 e8
            refine On.got (g := (inFst inS)) (t := x6) (ps := ps) (s0 := s0) e8 rfl ?_ fun he8 => ?_
            · exact State.sendMark_keeps (hp.sub rfl) hz3
            exact State.setSendCtx_keeps (hp.sub rfl) he8
        · exact hz3
      exact State.requestCheck_keeps (hp.sub rfl) hz4
    · extract_lets +onlyGivenNames z9 z10
      clear_value z9 z10
      exact State.requestCheck_keeps (hp.sub rfl) (State.setSendCtx_keeps (hp.sub rfl) hs)

theorem State.takeHello_keeps {s0 : State} {ps : Nat} {s : State} {l : Nat} {m : Nat} (hp : Covers ps 0x10000000000000000001000000000000000120100) (hs : On inS ps s0 s) :
    On inS ps s0 (State.takeHello s l m) := by
  delta State.takeHello
  refine On.ite ?_ ?_
  · exact hs
  · extract_lets +onlyGivenNames z1
    clear_value z1
    extract_lets +onlyGivenNames z2
    clear_value (ez2 : z2 = _)
    refine On.letS (ps := ps) (s0 := s0) ez2 ?_ fun hz2 => ?_
    · exact State.setLink_keeps (hp.sub rfl) (State.setReg_keeps (hp.sub rfl) (State.setReg_keeps (hp.sub rfl) hs))
    extract_lets +onlyGivenNames z3
    clear_value (ez3 : z3 = _)
    refine On.letS (ps := ps) (s0 := s0) ez3 ?_ fun hz3 => ?_
    · exact State.setReg_keeps (hp.sub rfl) hz2
    extract_lets +onlyGivenNames z4 z5
    clear_value z4 z5
    refine On.ite ?_ ?_
    · exact State.pumpLink_keeps (hp.sub rfl) hz3
    · exact State.pumpLink_keeps (hp.sub rfl) (State.joinLink_keeps (hp.sub rfl) hz3)

theorem State.takeMessage_keeps {s0 : State} {ps : Nat} {s : State} {l : Nat} {unit : Nat} {dest : Nat} {msg : List Byte} (hp : Covers ps 0x10000000000000000001000020000000000120b00) (hs : On inS ps s0 s) :
    On inS ps s0 (State.takeMessage s l unit dest msg) := by
  delta State.takeMessage
  extract_lets +onlyGivenNames z1
  clear_value z1
  split
  · rename_i x2 e3
    refine On.ite ?_ ?_
    · exact hs
    · exact State.takeRequest_keeps (hp.sub rfl) hs
  · rename_i x4 e5
    refine On.ite ?_ ?_
    · exact hs
    · exact State.takeGrant_keeps (hp.sub rfl) hs
  · rename_i x6 e7
    refine On.ite ?_ ?_
    · exact hs
    · exact State.takeHello_keeps (hp.sub rfl) hs
  · rename_i x8 e9
    refine On.ite ?_ ?_
    · exact hs
    · extract_lets +onlyGivenNames z10
      clear_value z10
      extract_lets +onlyGivenNames z11
      clear_value (ez11 : z11 = _)
      refine On.letS (ps := ps) (s0 := s0) ez11 ?_ fun hz11 => ?_
      · exact State.setLink_keeps (hp.sub rfl) hs
      exact State.quietCheck_keeps (hp.sub rfl) (State.leaveLink_keeps (hp.sub rfl) hz11)
  · rename_i x12 e13
    refine On.ite ?_ ?_
    · exact hs
    · exact State.quietCheck_keeps (hp.sub rfl) (State.setLink_keeps (hp.sub rfl) hs)
  · rename_i x14 e15
    refine On.ite ?_ ?_
    · exact hs
    · exact State.failLink_keeps (hp.sub rfl) hs
  · rename_i x16 e17 e18 e19 e20 e21 e22
    exact hs

theorem State.takeMessages_keeps {s0 : State} {ps : Nat} {s : State} {l : Nat} {unit : Nat} {dest : Nat} {u1 : Nat} {u2 : List Byte} (hp : Covers ps 0x10000000000000000001000020000000000120b00) (hs : On inS ps s0 s) :
    On inS ps s0 (State.takeMessages s l unit dest u1 u2) := by
  induction u1 generalizing s u2 with
  | zero =>
    rw [State.takeMessages]
    exact hs
  | succ v ih =>
    rw [State.takeMessages]
    refine On.ite ?_ ?_
    · exact hs
    · exact ih (State.takeMessage_keeps (hp.sub rfl) hs)

theorem State.acceptCell_keeps {s0 : State} {ps : Nat} {s : State} {l : Nat} {c : List Byte} (hp : Covers ps 0x10000000000000000001000020000000000120b80) (hs : On inS ps s0 s) :
    On inS ps s0 (State.acceptCell s l c) := by
  delta State.acceptCell
  extract_lets +onlyGivenNames z1 z2
  clear_value z1 z2
  refine On.ite ?_ ?_
  · exact State.takeMessages_keeps (hp.sub rfl) hs
  · refine On.ite ?_ ?_
    · exact hs
    · exact State.reassemble_keeps (hp.sub rfl) hs

theorem State.recvCell_keeps {s0 : State} {ps : Nat} {s : State} {l : Nat} {c : List Byte} (hp : Covers ps 0x10000000000000000010000000000000000001000020000000000320b80) (hs : On inS ps s0 s) :
    On inS ps s0 (State.recvCell s l c) := by
  delta State.recvCell
  extract_lets +onlyGivenNames z1
  clear_value z1
  refine On.ite ?_ ?_
  · exact hs
  · refine On.ite ?_ ?_
    · exact State.rejectCell_keeps (hp.sub rfl) (State.bump_keeps (hp.sub rfl) (hp.sub rfl) hs)
    · extract_lets +onlyGivenNames z2
      clear_value z2
      extract_lets +onlyGivenNames z3
      clear_value (ez3 : z3 = _)
      refine On.letS (ps := ps) (s0 := s0) ez3 ?_ fun hz3 => ?_
      · exact State.takeAck_keeps (hp.sub rfl) hs
      extract_lets +onlyGivenNames z4
      clear_value z4
      extract_lets +onlyGivenNames z5
      clear_value (ez5 : z5 = _)
      refine On.letS (ps := ps) (s0 := s0) ez5 ?_ fun hz5 => ?_
      · exact State.setLink_keeps (hp.sub rfl) hz3
      extract_lets +onlyGivenNames z6
      clear_value (ez6 : z6 = _)
      refine On.letS (ps := ps) (s0 := s0) ez6 ?_ fun hz6 => ?_
      · exact State.acceptCell_keeps (hp.sub rfl) hz5
      extract_lets +onlyGivenNames z7
      clear_value (ez7 : z7 = _)
      refine On.letS (ps := ps) (s0 := s0) ez7 ?_ fun hz7 => ?_
      · refine On.ite ?_ ?_
        · exact hz3
        · refine On.ite ?_ ?_
          · exact State.rejectCell_keeps (hp.sub rfl) hz3
          · refine On.ite ?_ ?_
            · exact hz6
            · exact State.sendIdle_keeps (hp.sub rfl) hz6
      exact State.quietCheck_keeps (hp.sub rfl) hz7

theorem execDataCell_keeps {s0 : State} {ps : Nat} {l : Nat} {cell : List Byte} {s : State} (hp : Covers ps 0x10000000000000000010000000000000000001000020000000000320b80) (hs : On inS ps s0 s) :
    On inNext ps s0 (execDataCell l cell s) := by
  delta execDataCell
  refine On.next ?_
  refine On.ite ?_ ?_
  · exact State.recvCell_keeps (hp.sub rfl) hs
  · exact hs

theorem execIdleCell_keeps {s0 : State} {ps : Nat} {l : Nat} {cell : List Byte} {s : State} (hp : Covers ps 0x10000000000000000010000000000000000001000020000000000320b80) (hs : On inS ps s0 s) :
    On inNext ps s0 (execIdleCell l cell s) := by
  delta execIdleCell
  refine On.next ?_
  refine On.ite ?_ ?_
  · exact State.recvCell_keeps (hp.sub rfl) hs
  · exact hs

theorem State.controlCell_keeps {s0 : State} {ps : Nat} {s : State} {ty : Nat} {l : Nat} {cell : List Byte} (hp : Covers ps 0x10000000000000000010000000000000000001000020000000000320b80) (hs : On inS ps s0 s) :
    On inS ps s0 (State.controlCell s ty l cell) := by
  delta State.controlCell
  refine On.ite ?_ ?_
  · exact State.recvCell_keeps (hp.sub rfl) hs
  · exact hs

theorem execRequest_keeps {s0 : State} {ps : Nat} {l : Nat} {cell : List Byte} {s : State} (hp : Covers ps 0x10000000000000000010000000000000000001000020000000000320b80) (hs : On inS ps s0 s) :
    On inNext ps s0 (execRequest l cell s) := by
  delta execRequest
  exact On.next (State.controlCell_keeps (hp.sub rfl) hs)

theorem execGrant_keeps {s0 : State} {ps : Nat} {l : Nat} {cell : List Byte} {s : State} (hp : Covers ps 0x10000000000000000010000000000000000001000020000000000320b80) (hs : On inS ps s0 s) :
    On inNext ps s0 (execGrant l cell s) := by
  delta execGrant
  exact On.next (State.controlCell_keeps (hp.sub rfl) hs)

theorem execHello_keeps {s0 : State} {ps : Nat} {l : Nat} {cell : List Byte} {s : State} (hp : Covers ps 0x10000000000000000010000000000000000001000020000000000320b80) (hs : On inS ps s0 s) :
    On inNext ps s0 (execHello l cell s) := by
  delta execHello
  exact On.next (State.controlCell_keeps (hp.sub rfl) hs)

theorem execQuiet_keeps {s0 : State} {ps : Nat} {l : Nat} {cell : List Byte} {s : State} (hp : Covers ps 0x10000000000000000010000000000000000001000020000000000320b80) (hs : On inS ps s0 s) :
    On inNext ps s0 (execQuiet l cell s) := by
  delta execQuiet
  exact On.next (State.controlCell_keeps (hp.sub rfl) hs)

theorem execQuietDone_keeps {s0 : State} {ps : Nat} {l : Nat} {cell : List Byte} {s : State} (hp : Covers ps 0x10000000000000000010000000000000000001000020000000000320b80) (hs : On inS ps s0 s) :
    On inNext ps s0 (execQuietDone l cell s) := by
  delta execQuietDone
  exact On.next (State.controlCell_keeps (hp.sub rfl) hs)

theorem execFault_keeps {s0 : State} {ps : Nat} {l : Nat} {cell : List Byte} {s : State} (hp : Covers ps 0x10000000000000000010000000000000000001000020000000000320b80) (hs : On inS ps s0 s) :
    On inNext ps s0 (execFault l cell s) := by
  delta execFault
  exact On.next (State.controlCell_keeps (hp.sub rfl) hs)

theorem execReplayTimeout_keeps {s0 : State} {ps : Nat} {l : Nat} {s : State} (hp : Covers ps 0x10000000000000000001000020000000000160900) (hs : On inS ps s0 s) :
    On inNext ps s0 (execReplayTimeout l s) := by
  delta execReplayTimeout
  refine On.next ?_
  extract_lets +onlyGivenNames z1
  clear_value z1
  refine On.ite ?_ ?_
  · exact hs
  · exact State.goBack_keeps (hp.sub rfl) (State.reach_keeps (hp.sub rfl) hs)

theorem execReassemblyTimeout_keeps {s0 : State} {ps : Nat} {l : Nat} {unit : Nat} {srcLink : Nat} {s : State} (hp : Covers ps 0x10000000000000000000000000000000000140100) (hs : On inS ps s0 s) :
    On inNext ps s0 (execReassemblyTimeout l unit srcLink s) := by
  delta execReassemblyTimeout
  refine On.next ?_
  extract_lets +onlyGivenNames z1
  clear_value z1
  split
  · rename_i x2 e3
    exact hs
  · rename_i x4 x5 e6
    extract_lets +onlyGivenNames z7
    clear_value (ez7 : z7 = _)
    refine On.letS (ps := ps) (s0 := s0) ez7 ?_ fun hz7 => ?_
    · exact State.reach_keeps (hp.sub rfl) hs
    refine State.bump_keeps (hp.sub rfl) (hp.sub rfl) ?_
    refine On.mk (s := z7) ?_ .k .k .k .k .k .k .k .k (.c (hp.sub rfl)) .k .k .k .k .k .k .k .k
    exact hz7

theorem execReseqTimeout_keeps {s0 : State} {ps : Nat} {unit : Nat} {cls : Nat} {s : State} (hp : Covers ps 0x10000000000000000000000000000000000140180) (hs : On inS ps s0 s) :
    On inNext ps s0 (execReseqTimeout unit cls s) := by
  delta execReseqTimeout
  refine On.next ?_
  split
  · rename_i x1 e2
    exact hs
  · rename_i x3 x4 e5
    exact State.bump_keeps (hp.sub rfl) (hp.sub rfl) (State.skipGap_keeps (hp.sub rfl) (State.reach_keeps (hp.sub rfl) hs))

theorem execRequestRefresh_keeps {s0 : State} {ps : Nat} {unit : Nat} {cls : Nat} {s : State} (hp : Covers ps 0x60100) (hs : On inS ps s0 s) :
    On inNext ps s0 (execRequestRefresh unit cls s) := by
  delta execRequestRefresh
  refine On.next ?_
  extract_lets +onlyGivenNames z1
  clear_value z1
  refine On.ite ?_ ?_
  · exact hs
  · exact State.sendRequest_keeps (hp.sub rfl) (State.reach_keeps (hp.sub rfl) hs)

theorem execGrantIssue_keeps {s0 : State} {ps : Nat} {s : State} (hp : Covers ps 0x60100) (hs : On inS ps s0 s) :
    On inNext ps s0 (execGrantIssue s) := by
  delta execGrantIssue
  refine On.next ?_
  split
  · rename_i x1 e2
    exact hs
  · rename_i x3 x4 e5
    refine On.ite ?_ ?_
    · exact hs
    · extract_lets +onlyGivenNames z6
      clear_value (ez6 : z6 = _)
      refine On.letS (ps := ps) (s0 := s0) ez6 ?_ fun hz6 => ?_
      · exact State.reach_keeps (hp.sub rfl) hs
      extract_lets +onlyGivenNames z7 z8
      clear_value z7 z8
      extract_lets +onlyGivenNames z9
      clear_value (ez9 : z9 = _)
      refine On.letS (ps := ps) (s0 := s0) ez9 ?_ fun hz9 => ?_
      · exact State.setRecvCtx_keeps (hp.sub rfl) hz6
      extract_lets +onlyGivenNames z10
      clear_value z10
      extract_lets +onlyGivenNames z11
      clear_value (ez11 : z11 = _)
      refine On.letS (ps := ps) (s0 := s0) ez11 ?_ fun hz11 => ?_
      · refine On.mk (s := z9) ?_ .k .k .k .k .k .k .k .k (.c (hp.sub rfl)) .k .k .k .k .k .k .k .k
        exact hz9
      exact State.sendControl_keeps (hp.sub rfl) hz11

theorem execQuietTimeout_keeps {s0 : State} {ps : Nat} {l : Nat} {s : State} (hp : Covers ps 0x10000000000000000001000020000000000160900) (hs : On inS ps s0 s) :
    On inNext ps s0 (execQuietTimeout l s) := by
  delta execQuietTimeout
  refine On.next ?_
  split
  · rename_i x1 x2 e3
    refine On.ite ?_ ?_
    · exact hs
    · exact State.wakeQuad_keeps (hp.sub rfl) (State.failLink_keeps (hp.sub rfl) (State.reach_keeps (hp.sub rfl) hs))
  · rename_i x4 e5
    exact hs

theorem execLinkFail_keeps {s0 : State} {ps : Nat} {l : Nat} {cause : Nat} {s : State} (hp : Covers ps 0x10000000000000000001000020000000000120900) (hs : On inS ps s0 s) :
    On inNext ps s0 (execLinkFail l cause s) := by
  delta execLinkFail
  refine On.next ?_
  refine On.ite ?_ ?_
  · exact hs
  · exact State.failLink_keeps (hp.sub rfl) hs

theorem execSignalLossHoldExpiry_keeps {s0 : State} {ps : Nat} {l : Nat} {s : State} (hp : Covers ps 0x10000000000000000001000020000000000120900) (hs : On inS ps s0 s) :
    On inNext ps s0 (execSignalLossHoldExpiry l s) := by
  delta execSignalLossHoldExpiry
  refine On.next ?_
  refine On.ite ?_ ?_
  · exact State.failLink_keeps (hp.sub rfl) hs
  · exact hs

theorem execLinkRetrain_keeps {s0 : State} {ps : Nat} {l : Nat} {s : State} (hp : Covers ps 0x1000000000000000040000) (hs : On inS ps s0 s) :
    On inNext ps s0 (execLinkRetrain l s) := by
  delta execLinkRetrain
  refine On.next ?_
  refine On.ite ?_ ?_
  · exact hs
  · exact State.setReg_keeps (hp.sub rfl) (State.reach_keeps (hp.sub rfl) hs)

theorem execFabLinkAligned_keeps {s0 : State} {ps : Nat} {l : Nat} {s : State} (hp : Covers ps 0x1000000000000000030100) (hs : On inS ps s0 s) :
    On inNext ps s0 (execFabLinkAligned l s) := by
  delta execFabLinkAligned
  refine On.next ?_
  refine On.ite ?_ ?_
  · exact hs
  · split
    · rename_i x1 x2 x3 e4
      refine On.got (g := (inSnd inS)) (t := x3) (ps := ps) (s0 := s0) e4 rfl ?_ fun he4 => ?_
      · exact State.draw_keeps (hp.sub rfl) hs
      extract_lets +onlyGivenNames z5 z6 z7 z8
      clear_value z5 z6 z7 z8
      exact State.sendTx_keeps (hp.sub rfl) (State.setLink_keeps (hp.sub rfl) (State.setReg_keeps (hp.sub rfl) he4))

theorem execLinkUpHoldExpiry_keeps {s0 : State} {ps : Nat} {l : Nat} {s : State} (hp : Covers ps 0x10000000000000000000000000000000000160100) (hs : On inS ps s0 s) :
    On inNext ps s0 (execLinkUpHoldExpiry l s) := by
  delta execLinkUpHoldExpiry
  refine On.next ?_
  extract_lets +onlyGivenNames z1
  clear_value z1
  refine On.ite ?_ ?_
  · exact hs
  · exact State.pumpLink_keeps (hp.sub rfl) (State.joinLink_keeps (hp.sub rfl) (State.reach_keeps (hp.sub rfl) hs))

theorem execFenceHoldExpiry_keeps {s0 : State} {ps : Nat} {g : Nat} {b : Nat} {s : State} (hp : Covers ps 0x10000000000000000001000020000000000160900) (hs : On inS ps s0 s) :
    On inNext ps s0 (execFenceHoldExpiry g b s) := by
  delta execFenceHoldExpiry
  refine On.next ?_
  extract_lets +onlyGivenNames z1
  clear_value z1
  split
  · rename_i x2 e3
    exact hs
  · rename_i x4 x5 e6
    split
    · rename_i x7 e8
      exact hs
    · rename_i x9 x10 e11
      extract_lets +onlyGivenNames z12
      clear_value (ez12 : z12 = _)
      refine On.letS (ps := ps) (s0 := s0) ez12 ?_ fun hz12 => ?_
      · exact State.reach_keeps (hp.sub rfl) hs
      extract_lets +onlyGivenNames z13
      clear_value z13
      extract_lets +onlyGivenNames z14
      clear_value (ez14 : z14 = _)
      refine On.letS (ps := ps) (s0 := s0) ez14 ?_ fun hz14 => ?_
      · exact State.startFences_keeps (hp.sub rfl) (State.setGroup_keeps (hp.sub rfl) hz12)
      split
      · rename_i x15 x16 e17
        exact State.quietCheck_keeps (hp.sub rfl) hz14
      · rename_i x18 e19
        exact hz14

theorem execGroupDownTimeout_keeps {s0 : State} {ps : Nat} {g : Nat} {s : State} (hp : Covers ps 0x100000000000000000000000000000000000002060200) (hs : On inS ps s0 s) :
    On inNext ps s0 (execGroupDownTimeout g s) := by
  delta execGroupDownTimeout
  refine On.next ?_
  split
  · rename_i x1 e2
    exact hs
  · rename_i x3 x4 e5
    refine On.ite ?_ ?_
    · exact hs
    · exact State.fence_keeps (hp.sub rfl) (State.reach_keeps (hp.sub rfl) hs)

theorem State.startQuiet_keeps {s0 : State} {ps : Nat} {s : State} {q : Nat} (hp : Covers ps 0x10000000000000000001000020000000000120900) (hs : On inS ps s0 s) :
    On inS ps s0 (State.startQuiet s q) := by
  delta State.startQuiet
  extract_lets +onlyGivenNames z1
  clear_value (ez1 : z1 = _)
  refine On.letS (ps := ps) (s0 := s0) ez1 ?_ fun hz1 => ?_
  · refine On.foldl ?_ ?_
    · exact State.setQuad_keeps (hp.sub rfl) hs
    · intro x2 x3 h4
      refine On.ite ?_ ?_
      · exact State.setLink_keeps (hp.sub rfl) (State.setReg_keeps (hp.sub rfl) h4)
      · exact h4
  refine State.quietCheck_keeps (hp.sub rfl) ?_
  refine On.foldl ?_ ?_
  · exact hz1
  · intro x5 x6 h7
    refine On.ite ?_ ?_
    · exact State.leaveLink_keeps (hp.sub rfl) h7
    · exact h7

theorem execFabricMeasure_keeps {s0 : State} {ps : Nat} {s : State} (hp : Covers ps 0x10000000000000000001000020000000000160900) (hs : On inS ps s0 s) :
    On inNext ps s0 (execFabricMeasure s) := by
  delta execFabricMeasure
  refine On.next ?_
  extract_lets +onlyGivenNames z1
  clear_value (ez1 : z1 = _)
  refine On.letS (ps := ps) (s0 := s0) ez1 ?_ fun hz1 => ?_
  · exact State.reach_keeps (hp.sub rfl) hs
  extract_lets +onlyGivenNames z2 z3
  clear_value z2 z3
  extract_lets +onlyGivenNames z4
  clear_value (ez4 : z4 = _)
  refine On.letS (ps := ps) (s0 := s0) ez4 ?_ fun hz4 => ?_
  · refine On.mk (s := z1) ?_ .k .k .k .k .k .k .k .k (.c (hp.sub rfl)) .k .k .k .k .k .k .k .k
    exact hz1
  refine On.ite ?_ ?_
  · extract_lets +onlyGivenNames z5
    clear_value (ez5 : z5 = _)
    refine On.letS (ps := ps) (s0 := s0) ez5 ?_ fun hz5 => ?_
    · refine On.foldl ?_ ?_
      · exact hz4
      · intro x6 x7 h8
        exact State.wakeQuad_keeps (hp.sub rfl) h8
    refine On.mk (s := z5) ?_ .k .k .k .k .k .k .k .k (.c (hp.sub rfl)) .k .k .k .k .k .k .k .k
    exact hz5
  · extract_lets +onlyGivenNames z9
    clear_value z9
    refine On.ite ?_ ?_
    · extract_lets +onlyGivenNames z10
      clear_value z10
      extract_lets +onlyGivenNames z11
      clear_value (ez11 : z11 = _)
      refine On.letS (ps := ps) (s0 := s0) ez11 ?_ fun hz11 => ?_
      · refine On.foldl ?_ ?_
        · exact hz4
        · intro x12 x13 h14
          exact State.wakeQuad_keeps (hp.sub rfl) h14
      refine On.mk (s := z11) ?_ .k .k .k .k .k .k .k .k (.c (hp.sub rfl)) .k .k .k .k .k .k .k .k
      exact hz11
    · refine On.ite ?_ ?_
      · refine On.mk (s := z4) ?_ .k .k .k .k .k .k .k .k (.c (hp.sub rfl)) .k .k .k .k .k .k .k .k
        exact hz4
      · extract_lets +onlyGivenNames z15 z16
        clear_value z15 z16
        extract_lets +onlyGivenNames z17
        clear_value (ez17 : z17 = _)
        refine On.letS (ps := ps) (s0 := s0) ez17 ?_ fun hz17 => ?_
        · refine On.mk (s := z4) ?_ .k .k .k .k .k .k .k .k (.c (hp.sub rfl)) .k .k .k .k .k .k .k .k
          exact hz4
        extract_lets +onlyGivenNames z18
        clear_value z18
        refine On.ite ?_ ?_
        · exact hz17
        · split
          · rename_i x19 x20 e21
            exact State.startQuiet_keeps (hp.sub rfl) hz17
          · rename_i x22 e23
            exact hz17

theorem execQuadWakeDone_keeps {s0 : State} {ps : Nat} {q : Nat} {elapsed : Nat} {s : State} (hp : Covers ps 0x10100000000000000000000000000000000000000030000000000363100) (hs : On inS ps s0 s) :
    On inNext ps s0 (execQuadWakeDone q elapsed s) := by
  delta execQuadWakeDone
  refine On.next ?_
  split
  · rename_i x1 x2 e3
    extract_lets +onlyGivenNames z4
    clear_value (ez4 : z4 = _)
    refine On.letS (ps := ps) (s0 := s0) ez4 ?_ fun hz4 => ?_
    · exact State.setReg_keeps (hp.sub rfl) (State.setQuad_keeps (hp.sub rfl) (State.reach_keeps (hp.sub rfl) hs))
    extract_lets +onlyGivenNames z5
    clear_value (ez5 : z5 = _)
    refine On.letS (ps := ps) (s0 := s0) ez5 ?_ fun hz5 => ?_
    · exact State.bump_keeps (hp.sub rfl) (hp.sub rfl) hz4
    refine On.ite ?_ ?_
    · exact State.wakeLate_keeps (hp.sub rfl) hz5
    · exact hz5
  · rename_i x6 e7
    exact hs

theorem execVoqRelease_keeps {s0 : State} {ps : Nat} {n : Nat} {s : State} (hp : Covers ps 0x10200000000000000000003000000000000000000000000000000324580) (hs : On inS ps s0 s) :
    On inNext ps s0 (execVoqRelease n s) := by
  delta execVoqRelease
  refine On.next ?_
  refine On.ite ?_ ?_
  · exact hs
  · split
    · rename_i x1 e2
      exact hs
    · rename_i x3 x4 x5 e6
      split
      · rename_i x7 x8 x9 x10 x11 x12 x13 e14 e15
        refine On.got (g := (inSome (inSnd (inSnd (inSnd inS))))) (t := x13) (ps := ps) (s0 := s0) e15 rfl ?_ fun he15 => ?_
        · exact State.release_keeps (hp.sub rfl) hs
        extract_lets +onlyGivenNames z16 z17 z18 z19 z20
        clear_value z16 z17 z18 z19 z20
        extract_lets +onlyGivenNames z21
        clear_value (ez21 : z21 = _)
        refine On.letS (ps := ps) (s0 := s0) ez21 ?_ fun hz21 => ?_
        · exact State.setSendCtx_keeps (hp.sub rfl) he15
        extract_lets +onlyGivenNames z22 z23 z24 z25
        clear_value z22 z23 z24 z25
        extract_lets +onlyGivenNames z26
        clear_value (ez26 : z26 = _)
        refine On.letS (ps := ps) (s0 := s0) ez26 ?_ fun hz26 => ?_
        · refine On.mk (s := z21) ?_ .k .k .k .k .k .k .k .k (.c (hp.sub rfl)) .k .k .k .k .k .k .k .k
          exact hz21
        exact State.requestCheck_keeps (hp.sub rfl) (State.pumpLink_keeps (hp.sub rfl) (State.setLink_keeps (hp.sub rfl) hz26))
      · rename_i x27 x28 e29
        exact hs

end Sys2Proof.Machine
end

