-- ==== Sys2Proof/Laws/KeepsObjects.lean ====
section
/-! SUPPORT. Sys2Proof/Laws/KeepsObjects.lean: what the operations of Machine/Objects.lean keep, whatever they do. -/

namespace Sys2Proof.Machine

theorem State.noteWrite_keeps {s0 : State} {ps : Nat} {s : State} {o : Origin} {i : Nat} {j : Nat} {st : Status} (hp : Covers ps 0x1) (hs : On inS ps s0 s) :
    On inS ps s0 (State.noteWrite s o i j st) := by
  delta State.noteWrite
  refine On.ite ?_ ?_
  · exact State.noteOutcome_keeps (hp.sub rfl) hs
  · exact hs

theorem State.failOp_keeps {s0 : State} {ps : Nat} {s : State} {r : OpReq} {st : Status} (_hp : Covers ps 0x0) (hs : On inS ps s0 s) :
    On (inSnd inS) ps s0 (State.failOp s r st) := by
  delta State.failOp
  exact On.pair hs

theorem State.endApplied_keeps {s0 : State} {ps : Nat} {s : State} {o : Origin} {job : Nat} {r : OpReq} {c : List Byte} (hp : Covers ps 0x20209) (hs : On inS ps s0 s) :
    On (inSnd inS) ps s0 (State.endApplied s o job r c) := by
  delta State.endApplied
  split
  · rename_i x1 x2 x3 e4
    refine On.got (g := (inFst inS)) (t := x2) (ps := ps) (s0 := s0) e4 rfl ?_ fun he4 => ?_
    · refine State.announce_keeps (hp.sub rfl) ?_
      refine On.foldl ?_ ?_
      · exact State.noteWrite_keeps (hp.sub rfl) hs
      · intro x5 x6 h7
        exact State.noteChange_keeps (hp.sub rfl) h7
    exact State.holdAnswer_keeps (hp.sub rfl) he4

theorem State.opWrite_keeps {s0 : State} {ps : Nat} {s : State} {o : Origin} {job : Nat} {r : OpReq} (hp : Covers ps 0xffffffffffffffffffffffffffffffffffffffffffffffffffffffffffffffff03fbffff) (hs : On inS ps s0 s) :
    On (inSnd inS) ps s0 (State.opWrite s o job r) := by
  delta State.opWrite
  extract_lets +onlyGivenNames z1 z2 z3 z4 z5 z6
  clear_value z1 z2 z3 z4 z5 z6
  refine On.ite ?_ ?_
  · exact State.failOp_keeps (hp.sub rfl) (State.noteWrite_keeps (hp.sub rfl) hs)
  · refine On.ite ?_ ?_
    · exact On.pair (State.enqueueCommit_keeps (hp.sub rfl) hs)
    · split
      · rename_i x7 x8 e9
        refine On.got (g := (inSnd inS)) (t := x8) (ps := ps) (s0 := s0) e9 rfl ?_ fun he9 => ?_
        · exact State.writeEffect_keeps (hp.sub rfl) hs
        exact State.endApplied_keeps (hp.sub rfl) he9
      · rename_i x10 x11 x12 e13 e14
        refine On.got (g := (inSnd inS)) (t := x12) (ps := ps) (s0 := s0) e14 rfl ?_ fun he14 => ?_
        · exact State.writeEffect_keeps (hp.sub rfl) hs
        exact State.failOp_keeps (hp.sub rfl) (State.noteWrite_keeps (hp.sub rfl) he14)

theorem State.opReadSegment_keeps {s0 : State} {ps : Nat} {s : State} {o : Origin} {r : OpReq} (hp : Covers ps 0x1) (hs : On inS ps s0 s) :
    On (inSnd inS) ps s0 (State.opReadSegment s o r) := by
  delta State.opReadSegment
  extract_lets +onlyGivenNames z1 z2 z3 z4
  clear_value z1 z2 z3 z4
  split
  · rename_i x5 e6
    refine On.ite ?_ ?_
    · exact State.failOp_keeps (hp.sub rfl) hs
    · extract_lets +onlyGivenNames z7 z8
      clear_value z7 z8
      split
      · rename_i x9
        exact State.failOp_keeps (hp.sub rfl) hs
      · rename_i x10 x11
        refine On.ite ?_ ?_
        · exact State.failOp_keeps (hp.sub rfl) hs
        · refine On.ite ?_ ?_
          · exact State.failOp_keeps (hp.sub rfl) hs
          · extract_lets +onlyGivenNames z12 z13
            clear_value z12 z13
            extract_lets +onlyGivenNames z14
            clear_value (ez14 : z14 = _)
            refine On.letS (ps := ps) (s0 := s0) ez14 ?_ fun hz14 => ?_
            · refine On.mk (s := s) ?_ (.c (hp.sub rfl)) .k .k .k .k .k .k .k .k .k .k .k .k .k .k .k .k
              exact hs
            exact On.pair hz14
  · rename_i x15 e16
    exact State.failOp_keeps (hp.sub rfl) hs

theorem imageEffect_keeps {s0 : State} {ps : Nat} {j : Nat} {b : List Byte} {s : State} (hp : Covers ps 0x4000000000000000000000000) (hs : On inS ps s0 s) :
    On (inSnd inS) ps s0 (imageEffect j b s) := by
  delta imageEffect
  extract_lets +onlyGivenNames z1
  clear_value (ez1 : z1 = _)
  refine On.letS (ps := ps) (s0 := s0) ez1 ?_ fun hz1 => ?_
  · exact State.setOct_keeps (hp.sub rfl) hs
  extract_lets +onlyGivenNames z2 z3 z4 z5
  clear_value z2 z3 z4 z5
  exact On.pair (State.setReg_keeps (hp.sub rfl) (State.setReg_keeps (hp.sub rfl) (State.setReg_keeps (hp.sub rfl) hz1)))

theorem State.blobEffect_keeps {s0 : State} {ps : Nat} {s : State} {i : Nat} {j : Nat} {b : List Byte} (hp : Covers ps 0xffffffffffffffffffffffffffffffffffffffffffffffffffffffffffffffff00020082) (hs : On inS ps s0 s) :
    On (inSnd inS) ps s0 (State.blobEffect s i j b) := by
  delta State.blobEffect
  split
  · rename_i x1 e2
    exact On.pair hs
  · rename_i x3 x4 e5
    refine On.ite ?_ ?_
    · exact On.pair hs
    · refine On.ite ?_ ?_
      · exact imageEffect_keeps (hp.sub rfl) hs
      · refine On.ite ?_ ?_
        · exact windowAdminEffect_keeps (hp.sub rfl) hs
        · refine On.ite ?_ ?_
          · exact passEffect_keeps (hp.sub rfl) hs
          · exact On.pair (State.setOct_keeps (hp.sub rfl).page hs)

theorem State.dropPartial_keeps {s0 : State} {ps : Nat} {s : State} {o : Origin} {i : Nat} {j : Nat} (hp : Covers ps 0x1) (hs : On inS ps s0 s) :
    On inS ps s0 (State.dropPartial s o i j) := by
  delta State.dropPartial
  refine On.mk (s := s) ?_ (.c (hp.sub rfl)) .k .k .k .k .k .k .k .k .k .k .k .k .k .k .k .k
  exact hs

theorem State.addSegment_keeps {s0 : State} {ps : Nat} {s : State} {o : Origin} {job : Nat} {r : OpReq} {off : Nat} {seg : List Byte} (hp : Covers ps 0xffffffffffffffffffffffffffffffffffffffffffffffffffffffffffffffff0002028b) (hs : On inS ps s0 s) :
    On (inSnd inS) ps s0 (State.addSegment s o job r off seg) := by
  delta State.addSegment
  extract_lets +onlyGivenNames z1 z2 z3
  clear_value z1 z2 z3
  extract_lets +onlyGivenNames z4
  clear_value (ez4 : z4 = _)
  refine On.letS (ps := ps) (s0 := s0) ez4 ?_ fun hz4 => ?_
  · exact State.dropPartial_keeps (hp.sub rfl) hs
  extract_lets +onlyGivenNames z5
  clear_value z5
  split
  · rename_i x6
    exact State.failOp_keeps (hp.sub rfl) hz4
  · rename_i x7 x8
    extract_lets +onlyGivenNames z9 z10
    clear_value z9 z10
    refine On.ite ?_ ?_
    · exact State.failOp_keeps (hp.sub rfl) hz4
    · refine On.ite ?_ ?_
      · exact State.failOp_keeps (hp.sub rfl) hs
      · refine On.ite ?_ ?_
        · refine On.pair ?_
          extract_lets +onlyGivenNames z11
          clear_value z11
          refine On.mk (s := z4) ?_ (.c (hp.sub rfl)) .k .k .k .k .k .k .k .k .k .k .k .k .k .k .k .k
          exact hz4
        · split
          · rename_i x12 x13 e14
            refine On.got (g := (inSnd inS)) (t := x13) (ps := ps) (s0 := s0) e14 rfl ?_ fun he14 => ?_
            · exact State.blobEffect_keeps (hp.sub rfl) hz4
            exact State.endApplied_keeps (hp.sub rfl) he14
          · rename_i x15 x16 x17 e18 e19
            refine On.got (g := (inSnd inS)) (t := x17) (ps := ps) (s0 := s0) e19 rfl ?_ fun he19 => ?_
            · exact State.blobEffect_keeps (hp.sub rfl) hz4
            exact State.failOp_keeps (hp.sub rfl) (State.noteWrite_keeps (hp.sub rfl) he19)

theorem State.opWriteSegment_keeps {s0 : State} {ps : Nat} {s : State} {o : Origin} {job : Nat} {r : OpReq} (hp : Covers ps 0xffffffffffffffffffffffffffffffffffffffffffffffffffffffffffffffff0052028f) (hs : On inS ps s0 s) :
    On (inSnd inS) ps s0 (State.opWriteSegment s o job r) := by
  delta State.opWriteSegment
  extract_lets +onlyGivenNames z1 z2
  clear_value z1 z2
  split
  · rename_i x3 e4
    extract_lets +onlyGivenNames z5 z6
    clear_value z5 z6
    refine On.ite ?_ ?_
    · exact State.failOp_keeps (hp.sub rfl) hs
    · refine On.ite ?_ ?_
      · exact State.failOp_keeps (hp.sub rfl) hs
      · refine On.ite ?_ ?_
        · split
          · rename_i x7 x8 e9
            refine On.got (g := (inSnd inS)) (t := x8) (ps := ps) (s0 := s0) e9 rfl ?_ fun he9 => ?_
            · exact stageDataEffect_keeps (hp.sub rfl) hs
            exact State.endApplied_keeps (hp.sub rfl) he9
          · rename_i x10 x11 x12 e13 e14
            refine On.got (g := (inSnd inS)) (t := x12) (ps := ps) (s0 := s0) e14 rfl ?_ fun he14 => ?_
            · exact stageDataEffect_keeps (hp.sub rfl) hs
            exact State.failOp_keeps (hp.sub rfl) he14
        · exact State.addSegment_keeps (hp.sub rfl) hs
  · rename_i x15 e16
    exact State.failOp_keeps (hp.sub rfl) hs

theorem State.opCreate_keeps {s0 : State} {ps : Nat} {s : State} {o : Origin} {job : Nat} {r : OpReq} (hp : Covers ps 0xfffffffffffffffffffffffffffffffffffffffffffffffffffffffffffffffffffffffffff) (hs : On inS ps s0 s) :
    On (inSnd inS) ps s0 (State.opCreate s o job r) := by
  delta State.opCreate
  extract_lets +onlyGivenNames z1 z2
  clear_value z1 z2
  refine On.ite ?_ ?_
  · refine State.failOp_keeps (hp.sub rfl) ?_
    refine On.ite ?_ ?_
    · exact State.noteOutcome_keeps (hp.sub rfl) hs
    · exact hs
  · split
    · rename_i x3 e4
      exact State.failOp_keeps (hp.sub rfl) hs
    · rename_i x5 x6 e7
      split
      · rename_i x8 x9 x10 e11
        refine On.got (g := (inSnd (inSnd inS))) (t := x10) (ps := ps) (s0 := s0) e11 rfl ?_ fun he11 => ?_
        · refine State.runCreate_keeps (hp.sub rfl) ?_ ?_
          · exact hs
          · intro x12 x13 h14
            exact createRule_keeps (hp.sub rfl) e7 h14
        refine On.ite ?_ ?_
        · exact State.failOp_keeps (hp.sub rfl) (State.noteOutcome_keeps (hp.sub rfl) hs)
        · extract_lets +onlyGivenNames z15
          clear_value (ez15 : z15 = _)
          refine On.letS (ps := ps) (s0 := s0) ez15 ?_ fun hz15 => ?_
          · exact State.noteOutcome_keeps (hp.sub rfl) he11
          split
          · rename_i x16 x17 x18 e19
            refine On.got (g := (inFst inS)) (t := x17) (ps := ps) (s0 := s0) e19 rfl ?_ fun he19 => ?_
            · refine On.ite ?_ ?_
              · exact State.sendObjects_keeps (hp.sub rfl) hz15
              · exact On.pairFst hz15
            exact State.holdAnswer_keeps (hp.sub rfl) he19
      · rename_i x20 x21 x22 x23 e24 e25
        refine On.got (g := (inSnd (inSnd inS))) (t := x23) (ps := ps) (s0 := s0) e25 rfl ?_ fun he25 => ?_
        · refine State.runCreate_keeps (hp.sub rfl) ?_ ?_
          · exact hs
          · intro x26 x27 h28
            exact createRule_keeps (hp.sub rfl) e7 h28
        extract_lets +onlyGivenNames z29
        clear_value z29
        exact State.failOp_keeps (hp.sub rfl) (State.noteOutcome_keeps (hp.sub rfl) hs)

theorem State.removeChannel_keeps {s0 : State} {ps : Nat} {s : State} {h : Nat} (hp : Covers ps 0x1000000000000000000000000000000003850d0) (hs : On inS ps s0 s) :
    On inS ps s0 (State.removeChannel s h) := by
  delta State.removeChannel
  extract_lets +onlyGivenNames z1
  clear_value z1
  split
  · rename_i x2 e3
    refine State.nextGen_keeps (hp.sub rfl) ?_
    refine On.mk (s := s) ?_ .k .k .k .k .k .k .k .k .k .k .k .k (.c (hp.sub rfl)) .k (.c (hp.sub rfl)) .k .k
    exact hs
  · rename_i x4 e5
    refine State.nextGen_keeps (hp.sub rfl) ?_
    refine On.mk (s := s) ?_ .k .k .k .k .k .k (.c (hp.sub rfl)) .k .k .k .k .k .k .k .k .k .k
    exact hs
  · rename_i x6 e7
    refine State.nextGen_keeps (hp.sub rfl) ?_
    refine On.mk (s := s) ?_ .k .k .k .k .k .k .k .k .k .k .k .k .k .k (.c (hp.sub rfl)) .k .k
    exact hs
  · rename_i x8 e9
    extract_lets +onlyGivenNames z10
    clear_value (ez10 : z10 = _)
    refine On.letS (ps := ps) (s0 := s0) ez10 ?_ fun hz10 => ?_
    · split
      · rename_i x11 x12 e13
        refine On.ite ?_ ?_
        · exact State.setReg_keeps (hp.sub rfl) hs
        · exact hs
      · rename_i x14 e15
        exact hs
    extract_lets +onlyGivenNames z16
    clear_value (ez16 : z16 = _)
    refine On.letS (ps := ps) (s0 := s0) ez16 ?_ fun hz16 => ?_
    · exact State.leaveRound_keeps (hp.sub rfl) hz10
    refine State.nextGen_keeps (hp.sub rfl) ?_
    refine On.mk (s := z16) ?_ .k .k .k .k .k .k .k (.c (hp.sub rfl)) .k .k .k .k .k .k .k .k .k
    exact hz16
  · rename_i x17 e18
    exact State.removeRuleSet_keeps (hp.sub rfl) hs
  · rename_i x19 e20
    exact State.removeRegion_keeps (hp.sub rfl) hs
  · rename_i x21 e22 e23 e24 e25 e26 e27
    exact hs

theorem State.opDestroy_keeps {s0 : State} {ps : Nat} {s : State} {o : Origin} {job : Nat} {r : OpReq} (hp : Covers ps 0x2000000000000000001030000000000000000000000000000003a56d1) (hs : On inS ps s0 s) :
    On (inSnd inS) ps s0 (State.opDestroy s o job r) := by
  delta State.opDestroy
  extract_lets +onlyGivenNames z1 z2
  clear_value z1 z2
  refine On.ite ?_ ?_
  · exact State.failOp_keeps (hp.sub rfl) hs
  · refine On.ite ?_ ?_
    · exact State.failOp_keeps (hp.sub rfl) hs
    · split
      · rename_i x3 x4 x5 e6
        refine On.got (g := (inFst inS)) (t := x4) (ps := ps) (s0 := s0) e6 rfl ?_ fun he6 => ?_
        · refine On.ite ?_ ?_
          · exact State.sendObjects_keeps (hp.sub rfl) hs
          · exact On.pairFst hs
        refine On.ite ?_ ?_
        · exact State.holdAnswer_keeps (hp.sub rfl) (State.beginDestroy_keeps (hp.sub rfl) he6)
        · exact State.holdAnswer_keeps (hp.sub rfl) (State.removeChannel_keeps (hp.sub rfl) he6)

theorem State.opBatchOpen_keeps {s0 : State} {ps : Nat} {s : State} {o : Origin} {r : OpReq} (hp : Covers ps 0x1) (hs : On inS ps s0 s) :
    On (inSnd inS) ps s0 (State.opBatchOpen s o r) := by
  delta State.opBatchOpen
  extract_lets +onlyGivenNames z1
  clear_value z1
  refine On.ite ?_ ?_
  · exact State.failOp_keeps (hp.sub rfl) hs
  · split
    · rename_i x2 e3
      exact State.failOp_keeps (hp.sub rfl) hs
    · rename_i x4 x5 e6
      extract_lets +onlyGivenNames z7
      clear_value z7
      extract_lets +onlyGivenNames z8
      clear_value (ez8 : z8 = _)
      refine On.letS (ps := ps) (s0 := s0) ez8 ?_ fun hz8 => ?_
      · exact State.setBatch_keeps (hp.sub rfl) hs
      exact On.pair hz8

theorem State.opBatchWrite_keeps {s0 : State} {ps : Nat} {s : State} {o : Origin} {r : OpReq} (hp : Covers ps 0x1) (hs : On inS ps s0 s) :
    On (inSnd inS) ps s0 (State.opBatchWrite s o r) := by
  delta State.opBatchWrite
  extract_lets +onlyGivenNames z1 z2 z3 z4 z5 z6 z7 z8
  clear_value z1 z2 z3 z4 z5 z6 z7 z8
  refine On.ite ?_ ?_
  · exact State.failOp_keeps (hp.sub rfl) hs
  · extract_lets +onlyGivenNames z9 z10 z11
    clear_value z9 z10 z11
    exact On.pair (State.setBatch_keeps (hp.sub rfl) hs)

theorem State.opBatchCommit_keeps {s0 : State} {ps : Nat} {s : State} {o : Origin} {job : Nat} {r : OpReq} (hp : Covers ps 0x9) (hs : On inS ps s0 s) :
    On (inSnd inS) ps s0 (State.opBatchCommit s o job r) := by
  delta State.opBatchCommit
  extract_lets +onlyGivenNames z1 z2
  clear_value z1 z2
  refine On.ite ?_ ?_
  · exact State.failOp_keeps (hp.sub rfl) hs
  · extract_lets +onlyGivenNames z3
    clear_value z3
    refine On.ite ?_ ?_
    · exact State.failOp_keeps (hp.sub rfl) hs
    · exact On.pair (State.enqueueCommit_keeps (hp.sub rfl) (State.setBatch_keeps (hp.sub rfl) hs))

theorem State.opBatchAbort_keeps {s0 : State} {ps : Nat} {s : State} {o : Origin} {r : OpReq} (hp : Covers ps 0x1) (hs : On inS ps s0 s) :
    On (inSnd inS) ps s0 (State.opBatchAbort s o r) := by
  delta State.opBatchAbort
  extract_lets +onlyGivenNames z1 z2
  clear_value z1 z2
  refine On.ite ?_ ?_
  · exact State.failOp_keeps (hp.sub rfl) hs
  · refine On.ite ?_ ?_
    · exact State.failOp_keeps (hp.sub rfl) hs
    · exact On.pair (State.closeBatch_keeps (hp.sub rfl) hs)

theorem State.serveOp_keeps {s0 : State} {ps : Nat} {s : State} {o : Origin} {job : Nat} {r : OpReq} (hp : Covers ps 0xfffffffffffffffffffffffffffffffffffffffffffffffffffffffffffffffffffffffffff) (hs : On inS ps s0 s) :
    On (inSnd inS) ps s0 (State.serveOp s o job r) := by
  delta State.serveOp
  split
  · rename_i x1 e2
    split
    · rename_i x3 x4 x5 e6
      refine On.got (g := (inSnd inS)) (t := x5) (ps := ps) (s0 := s0) e6 rfl ?_ fun he6 => ?_
      · exact State.opRead_keeps (hp.sub rfl) hs
      exact On.pair he6
  · rename_i x7 e8
    exact State.opWrite_keeps (hp.sub rfl) hs
  · rename_i x9 e10
    exact State.opReadSegment_keeps (hp.sub rfl) hs
  · rename_i x11 e12
    exact State.opWriteSegment_keeps (hp.sub rfl) hs
  · rename_i x13 e14
    exact On.pair hs
  · rename_i x15 e16
    exact On.pair hs
  · rename_i x17 e18
    exact State.opCreate_keeps (hp.sub rfl) hs
  · rename_i x19 e20
    exact State.opDestroy_keeps (hp.sub rfl) hs
  · rename_i x21 e22
    exact State.opBatchOpen_keeps (hp.sub rfl) hs
  · rename_i x23 e24
    exact State.opBatchWrite_keeps (hp.sub rfl) hs
  · rename_i x25 e26
    exact State.opBatchCommit_keeps (hp.sub rfl) hs
  · rename_i x27 e28
    exact State.opBatchAbort_keeps (hp.sub rfl) hs
  · rename_i x29 e30 e31 e32 e33 e34 e35 e36 e37 e38 e39 e40 e41
    exact State.failOp_keeps (hp.sub rfl) hs

theorem State.noteRefused_keeps {s0 : State} {ps : Nat} {s : State} {o : Origin} {r : OpReq} {st : Status} (hp : Covers ps 0x1) (hs : On inS ps s0 s) :
    On inS ps s0 (State.noteRefused s o r st) := by
  delta State.noteRefused
  refine On.ite ?_ ?_
  · exact State.noteWrite_keeps (hp.sub rfl) hs
  · refine On.ite ?_ ?_
    · exact State.noteOutcome_keeps (hp.sub rfl) hs
    · exact hs

theorem State.runOne_keeps {s0 : State} {ps : Nat} {s : State} {o : Origin} {job : Nat} {requirePair : Bool} {room : Nat} {r : OpReq} (hp : Covers ps 0xfffffffffffffffffffffffffffffffffffffffffffffffffffffffffffffffffffffffffff) (hs : On inS ps s0 s) :
    On (inSnd inS) ps s0 (State.runOne s o job requirePair room r) := by
  delta State.runOne
  extract_lets +onlyGivenNames z1
  clear_value (ez1 : z1 = _)
  refine On.letIn (g := (inSnd inS)) (ps := ps) (s0 := s0) ez1 ?_ fun hz1 => ?_
  · exact State.serveOp_keeps (hp.sub rfl) hs
  extract_lets +onlyGivenNames z2 z3 z4
  clear_value z2 z3 z4
  refine On.ite ?_ ?_
  · exact State.failOp_keeps (hp.sub rfl) (State.noteRefused_keeps (hp.sub rfl) hs)
  · refine On.ite ?_ ?_
    · exact State.failOp_keeps (hp.sub rfl) (State.noteRefused_keeps (hp.sub rfl) hs)
    · refine On.ite ?_ ?_
      · exact State.failOp_keeps (hp.sub rfl) (State.noteRefused_keeps (hp.sub rfl) hs)
      · exact hz1

end Sys2Proof.Machine
end

