-- ==== Sys2Proof/Laws/KeepsRequests.lean ====
section
/-! SUPPORT. Sys2Proof/Laws/KeepsRequests.lean: what the operations of Machine/Requests.lean keep, whatever they do. -/

namespace Sys2Proof.Machine

theorem State.sendMgmt_keeps {s0 : State} {ps : Nat} {s : State} {p : Nat} {mac : List Byte} {tag : Option Nat} {etherType : Nat} {msg : List Byte} (hp : Covers ps 0x20000) (hs : On inS ps s0 s) :
    On inS ps s0 (State.sendMgmt s p mac tag etherType msg) := by
  delta State.sendMgmt
  extract_lets +onlyGivenNames z1 z2
  clear_value z1 z2
  exact State.emit_keeps (hp.sub rfl) hs

theorem State.dropMgmt_keeps {s0 : State} {ps : Nat} {s : State} {p : Nat} (hp : Covers ps 0x200000000000000100000) (hs : On inS ps s0 s) :
    On inS ps s0 (State.dropMgmt s p) := by
  delta State.dropMgmt
  exact State.bump_keeps (hp.sub rfl) (hp.sub rfl) hs

theorem State.dropAuth_keeps {s0 : State} {ps : Nat} {s : State} {p : Nat} (hp : Covers ps 0x200000001000000100000) (hs : On inS ps s0 s) :
    On inS ps s0 (State.dropAuth s p) := by
  delta State.dropAuth
  exact State.dropMgmt_keeps (hp.sub rfl) (State.bump_keeps (hp.sub rfl) (hp.sub rfl) hs)

theorem State.dropStale_keeps {s0 : State} {ps : Nat} {s : State} {p : Nat} (hp : Covers ps 0x200000001000000100000) (hs : On inS ps s0 s) :
    On inS ps s0 (State.dropStale s p) := by
  delta State.dropStale
  exact State.dropMgmt_keeps (hp.sub rfl) (State.bump_keeps (hp.sub rfl) (hp.sub rfl) hs)

theorem State.putJob_keeps {s0 : State} {ps : Nat} {s : State} {j : Job} (hp : Covers ps 0x1) (hs : On inS ps s0 s) :
    On inS ps s0 (State.putJob s j) := by
  delta State.putJob
  refine On.mk (s := s) ?_ (.c (hp.sub rfl)) .k .k .k .k .k .k .k .k .k .k .k .k .k .k .k .k
  exact hs

theorem State.newJob_keeps {s0 : State} {ps : Nat} {s : State} {o : Origin} {reply : ReplyTo} {requirePair : Bool} {limit : Nat} {ops : List OpReq} (hp : Covers ps 0x1) (hs : On inS ps s0 s) :
    On inS ps s0 (State.newJob s o reply requirePair limit ops) := by
  delta State.newJob
  extract_lets +onlyGivenNames z1
  clear_value z1
  refine State.putJob_keeps (hp.sub rfl) ?_
  refine On.mk (s := s) ?_ (.c (hp.sub rfl)) .k .k .k .k .k .k .k .k .k .k .k .k .k .k .k .k
  exact hs

theorem State.setSession_keeps {s0 : State} {ps : Nat} {s : State} {x : Session} (hp : Covers ps 0x1) (hs : On inS ps s0 s) :
    On inS ps s0 (State.setSession s x) := by
  delta State.setSession
  refine On.mk (s := s) ?_ (.c (hp.sub rfl)) .k .k .k .k .k .k .k .k .k .k .k .k .k .k .k .k
  exact hs

theorem State.setWindow_keeps {s0 : State} {ps : Nat} {s : State} {w : Nat} {x : Window} (hp : Covers ps 0x1) (hs : On inS ps s0 s) :
    On inS ps s0 (State.setWindow s w x) := by
  delta State.setWindow
  refine On.mk (s := s) ?_ (.c (hp.sub rfl)) .k .k .k .k .k .k .k .k .k .k .k .k .k .k .k .k
  exact hs

theorem State.respondPoa_keeps {s0 : State} {ps : Nat} {s : State} {port : Nat} {mac : List Byte} {tag : Option Nat} {etherType : Nat} {session : Nat} {seq : Nat} {schema : Nat} {key : List Byte} {result : Status} {body : List Byte} (hp : Covers ps 0x20001) (hs : On inS ps s0 s) :
    On inS ps s0 (State.respondPoa s port mac tag etherType session seq schema key result body) := by
  delta State.respondPoa
  extract_lets +onlyGivenNames z1
  clear_value z1
  extract_lets +onlyGivenNames z2
  clear_value (ez2 : z2 = _)
  refine On.letS (ps := ps) (s0 := s0) ez2 ?_ fun hz2 => ?_
  · exact State.sendMgmt_keeps (hp.sub rfl) hs
  split
  · rename_i x3 e4
    exact hz2
  · rename_i x5 x6 e7
    exact State.setSession_keeps (hp.sub rfl) hz2

theorem State.respondWindow_keeps {s0 : State} {ps : Nat} {s : State} {w : Nat} {seq : Nat} {result : Status} {body : List Byte} (hp : Covers ps 0x21001) (hs : On inS ps s0 s) :
    On inS ps s0 (State.respondWindow s w seq result body) := by
  delta State.respondWindow
  extract_lets +onlyGivenNames z1 z2
  clear_value z1 z2
  extract_lets +onlyGivenNames z3
  clear_value (ez3 : z3 = _)
  refine On.letS (ps := ps) (s0 := s0) ez3 ?_ fun hz3 => ?_
  · exact State.setWindow_keeps (hp.sub rfl) hs
  refine On.ite ?_ ?_
  · exact State.raiseVector_keeps (hp.sub rfl) hz3
  · exact hz3

theorem State.applyReset_keeps {s0 : State} {ps : Nat} {s : State} (hp : Covers ps 0xffffffffffffffffffffffffffffffffffffffffffffffffffffffffffffffff03feffff) (hs : On inS ps s0 s) :
    On inS ps s0 (State.applyReset s) := by
  delta State.applyReset
  extract_lets +onlyGivenNames z1
  clear_value z1
  extract_lets +onlyGivenNames z2
  clear_value (ez2 : z2 = _)
  refine On.letS (ps := ps) (s0 := s0) ez2 ?_ fun hz2 => ?_
  · refine On.mk (s := s) ?_ (.c (hp.sub rfl)) .k .k .k .k .k .k .k .k .k .k .k .k .k .k .k .k
    exact hs
  split
  · rename_i x3 e4
    exact hs
  · rename_i x5 e6
    exact State.warmRestart_keeps (hp.sub rfl) (State.reach_keeps (hp.sub rfl) hz2)
  · rename_i x7 e8 e9
    exact State.powerOnReset_keeps (hp.sub rfl) hz2

theorem State.finishJob_keeps {s0 : State} {ps : Nat} {s : State} {j : Job} (hp : Covers ps 0xffffffffffffffffffffffffffffffffffffffffffffffffffffffffffffffff03feffff) (hs : On inS ps s0 s) :
    On inS ps s0 (State.finishJob s j) := by
  delta State.finishJob
  extract_lets +onlyGivenNames z1
  clear_value z1
  extract_lets +onlyGivenNames z2
  clear_value (ez2 : z2 = _)
  refine On.letS (ps := ps) (s0 := s0) ez2 ?_ fun hz2 => ?_
  · refine On.mk (s := s) ?_ (.c (hp.sub rfl)) .k .k .k .k .k .k .k .k .k .k .k .k .k .k .k .k
    exact hs
  extract_lets +onlyGivenNames z3
  clear_value z3
  refine State.applyReset_keeps (hp.sub rfl) ?_
  split
  · rename_i x4 e5
    refine On.foldl ?_ ?_
    · exact hz2
    · intro x6 x7 h8
      exact State.answer_keeps (hp.sub rfl) h8
  · rename_i x9 x10 x11 e12
    exact State.respondWindow_keeps (hp.sub rfl) hz2
  · rename_i x13 x14 x15 x16 x17 x18 x19 x20 x21 e22
    exact State.respondPoa_keeps (hp.sub rfl) hz2

theorem State.addAnswer_keeps {s0 : State} {ps : Nat} {s : State} {id : Nat} {a : OpAns} (hp : Covers ps 0x1) (hs : On inS ps s0 s) :
    On inS ps s0 (State.addAnswer s id a) := by
  delta State.addAnswer
  split
  · rename_i x1 e2
    exact hs
  · rename_i x3 x4 e5
    exact State.putJob_keeps (hp.sub rfl) hs

theorem State.runJob_keeps {s0 : State} {ps : Nat} {u1 : Nat} {u2 : State} {u3 : Nat} (hp : Covers ps 0xfffffffffffffffffffffffffffffffffffffffffffffffffffffffffffffffffffffffffff) (hu2 : On inS ps s0 u2) :
    On inS ps s0 (State.runJob u1 u2 u3) := by
  induction u1 generalizing u2 u3 with
  | zero =>
    rw [State.runJob]
    exact hu2
  | succ v ih =>
    rw [State.runJob]
    split
    · rename_i x1 e2
      exact hu2
    · rename_i x3 x4 e5
      split
      · rename_i x6 e7
        exact State.finishJob_keeps (hp.sub rfl) hu2
      · rename_i x8 x9 x10 e11
        extract_lets +onlyGivenNames z12
        clear_value (ez12 : z12 = _)
        refine On.letS (ps := ps) (s0 := s0) ez12 ?_ fun hz12 => ?_
        · exact State.putJob_keeps (hp.sub rfl) hu2
        split
        · rename_i x13 x14 x15 e16
          refine On.got (g := (inSnd inS)) (t := x15) (ps := ps) (s0 := s0) e16 rfl ?_ fun he16 => ?_
          · exact State.runOne_keeps (hp.sub rfl) hz12
          exact ih (State.addAnswer_keeps (hp.sub rfl) he16)
        · rename_i x17 x18 e19
          refine On.got (g := (inSnd inS)) (t := x18) (ps := ps) (s0 := s0) e19 rfl ?_ fun he19 => ?_
          · exact State.runOne_keeps (hp.sub rfl) hz12
          exact he19

theorem State.beginRequest_keeps {s0 : State} {ps : Nat} {s : State} {x : Session} {h : HeldReq} {f : PoaFrame} (hp : Covers ps 0x20001) (hs : On inS ps s0 s) :
    On inS ps s0 (State.beginRequest s x h f) := by
  delta State.beginRequest
  extract_lets +onlyGivenNames z1
  clear_value (ez1 : z1 = _)
  refine On.letS (ps := ps) (s0 := s0) ez1 ?_ fun hz1 => ?_
  · exact State.setSession_keeps (hp.sub rfl) hs
  extract_lets +onlyGivenNames z2
  clear_value z2
  extract_lets +onlyGivenNames z3
  clear_value (ez3 : z3 = _)
  refine On.fnIn (P := fun f => ∀ v0, On inS ps s0 (f v0)) ez3 ?_ fun hz3 => ?_
  · intro x4
    dsimp -zeta only
    exact State.respondPoa_keeps (hp.sub rfl) hz1
  refine On.ite ?_ ?_
  · refine hz3 _
  · refine On.ite ?_ ?_
    · refine hz3 _
    · split
      · rename_i x5 e6
        refine hz3 _
      · rename_i x7 x8 e9
        exact State.newJob_keeps (hp.sub rfl) hz1

theorem State.releaseWaiting_keeps {s0 : State} {ps : Nat} {s : State} (hp : Covers ps 0x1) (hs : On inS ps s0 s) :
    On inS ps s0 (State.releaseWaiting s) := by
  delta State.releaseWaiting
  extract_lets +onlyGivenNames z1 z2 z3 z4
  clear_value z1 z2 z3 z4
  refine On.foldl ?_ ?_
  · refine On.mk (s := s) ?_ (.c (hp.sub rfl)) .k .k .k .k .k .k .k .k .k .k .k .k .k .k .k .k
    exact hs
  · intro x5 x6 h7
    split
    · rename_i x8 e9
      exact h7
    · rename_i x10 x11 e12
      extract_lets +onlyGivenNames z13
      clear_value z13
      exact State.replyJob_keeps (hp.sub rfl) h7

theorem State.settleLoop_keeps {s0 : State} {ps : Nat} {u1 : Nat} {u2 : State} (hp : Covers ps 0xfffffffffffffffffffffffffffffffffffffffffffffffffffffffffffffffffffffffffff) (hu2 : On inS ps s0 u2) :
    On inS ps s0 (State.settleLoop u1 u2) := by
  induction u1 generalizing u2 with
  | zero =>
    rw [State.settleLoop]
    exact hu2
  | succ v ih =>
    rw [State.settleLoop]
    split
    · rename_i x1 x2 x3 e4
      exact ih (State.runJob_keeps (hp.sub rfl) hu2)
    · rename_i x5 e6
      split
      · rename_i x7 x8 x9 e10
        exact ih (State.beginRequest_keeps (hp.sub rfl) hu2)
      · rename_i x11 e12
        exact hu2

theorem State.settle_keeps {s0 : State} {ps : Nat} {s : State} (hp : Covers ps 0xfffffffffffffffffffffffffffffffffffffffffffffffffffffffffffffffffffffffffff) (hs : On inS ps s0 s) :
    On inS ps s0 (State.settle s) := by
  delta State.settle
  extract_lets +onlyGivenNames z1
  clear_value (ez1 : z1 = _)
  refine On.letS (ps := ps) (s0 := s0) ez1 ?_ fun hz1 => ?_
  · exact State.releaseWaiting_keeps (hp.sub rfl) hs
  extract_lets +onlyGivenNames z2
  clear_value z2
  exact State.settleLoop_keeps (hp.sub rfl) hz1

theorem State.runDirect_keeps {s0 : State} {ps : Nat} {s : State} {o : Origin} {r : OpReq} (hp : Covers ps 0xfffffffffffffffffffffffffffffffffffffffffffffffffffffffffffffffffffffffffff) (hs : On inS ps s0 s) :
    On inS ps s0 (State.runDirect s o r) := by
  delta State.runDirect
  exact State.settle_keeps (hp.sub rfl) (State.newJob_keeps (hp.sub rfl) hs)

theorem State.freshSession_keeps {s0 : State} {ps : Nat} {s : State} (hp : Covers ps 0x10000) (hs : On inS ps s0 s) :
    On (inSnd inS) ps s0 (State.freshSession s) := by
  delta State.freshSession
  split
  · rename_i x1 x2 x3 e4
    refine On.got (g := (inSnd inS)) (t := x3) (ps := ps) (s0 := s0) e4 rfl ?_ fun he4 => ?_
    · exact State.draw_keeps (hp.sub rfl) hs
    extract_lets +onlyGivenNames z5
    clear_value z5
    refine On.ite ?_ ?_
    · exact On.pair he4
    · exact On.pair he4

theorem State.acceptOpen_keeps {s0 : State} {ps : Nat} {s : State} {p : Nat} {f : PoaFrame} {slot : Nat} {key : List Byte} (hp : Covers ps 0x30001) (hs : On inS ps s0 s) :
    On inS ps s0 (State.acceptOpen s p f slot key) := by
  delta State.acceptOpen
  extract_lets +onlyGivenNames z1 z2 z3
  clear_value z1 z2 z3
  split
  · rename_i x4 x5 e6
    exact State.sendMgmt_keeps (hp.sub rfl) hs
  · rename_i x7 e8
    extract_lets +onlyGivenNames z9
    clear_value z9
    extract_lets +onlyGivenNames z10
    clear_value (ez10 : z10 = _)
    refine On.fnIn (P := fun f => ∀ v0 v1 v2, On inS ps s0 v2 → On inS ps s0 (f v0 v1 v2)) ez10 ?_ fun hz10 => ?_
    · intro x11 x12 x13 h14
      dsimp -zeta only
      extract_lets +onlyGivenNames z15 z16
      clear_value z15 z16
      refine State.sendMgmt_keeps (hp.sub rfl) ?_
      refine On.mk (s := x13) ?_ (.c (hp.sub rfl)) .k .k .k .k .k .k .k .k .k .k .k .k .k .k .k .k
      exact h14
    refine On.ite ?_ ?_
    · exact hz10 _ _ _ hs
    · split
      · rename_i x17 x18 x19 e20
        refine On.got (g := (inSnd inS)) (t := x19) (ps := ps) (s0 := s0) e20 rfl ?_ fun he20 => ?_
        · exact State.freshSession_keeps (hp.sub rfl) hs
        split
        · rename_i x21 x22 x23 e24
          refine On.got (g := (inSnd inS)) (t := x23) (ps := ps) (s0 := s0) e24 rfl ?_ fun he24 => ?_
          · exact State.drawBytes_keeps (hp.sub rfl) he20
          extract_lets +onlyGivenNames z25 z26
          clear_value z25 z26
          exact hz10 _ _ _ (State.setSession_keeps (hp.sub rfl) he24)

theorem State.takeOpen_keeps {s0 : State} {ps : Nat} {s : State} {p : Nat} {f : PoaFrame} (hp : Covers ps 0x200000001000000130001) (hs : On inS ps s0 s) :
    On inS ps s0 (State.takeOpen s p f) := by
  delta State.takeOpen
  extract_lets +onlyGivenNames z1
  clear_value z1
  split
  · rename_i x2 e3
    exact State.dropAuth_keeps (hp.sub rfl) hs
  · rename_i x4 x5 e6
    refine On.ite ?_ ?_
    · exact State.dropAuth_keeps (hp.sub rfl) hs
    · exact State.acceptOpen_keeps (hp.sub rfl) hs

theorem State.takeClose_keeps {s0 : State} {ps : Nat} {s : State} {p : Nat} {f : PoaFrame} (hp : Covers ps 0x200000001000000100001) (hs : On inS ps s0 s) :
    On inS ps s0 (State.takeClose s p f) := by
  delta State.takeClose
  split
  · rename_i x1 e2
    exact State.dropAuth_keeps (hp.sub rfl) hs
  · rename_i x3 x4 e5
    exact State.endSession_keeps (hp.sub rfl) hs

theorem State.takePoaRequest_keeps {s0 : State} {ps : Nat} {s : State} {p : Nat} {f : PoaFrame} (hp : Covers ps 0xfffffffffffffffffffffffffffffffffffffffffffffffffffffffffffffffffffffffffff) (hs : On inS ps s0 s) :
    On inS ps s0 (State.takePoaRequest s p f) := by
  delta State.takePoaRequest
  split
  · rename_i x1 e2
    exact State.dropAuth_keeps (hp.sub rfl) hs
  · rename_i x3 x4 e5
    extract_lets +onlyGivenNames z6
    clear_value (ez6 : z6 = _)
    refine On.letS (ps := ps) (s0 := s0) ez6 ?_ fun hz6 => ?_
    · exact State.setSession_keeps (hp.sub rfl) hs
    extract_lets +onlyGivenNames z7
    clear_value z7
    refine On.ite ?_ ?_
    · split
      · rename_i x8 x9 e10
        exact State.sendMgmt_keeps (hp.sub rfl) hz6
      · rename_i x11 e12
        refine On.ite ?_ ?_
        · exact State.dropMgmt_keeps (hp.sub rfl) hz6
        · exact State.dropStale_keeps (hp.sub rfl) hz6
    · refine On.ite ?_ ?_
      · exact State.dropStale_keeps (hp.sub rfl) hz6
      · refine On.ite ?_ ?_
        · exact State.dropMgmt_keeps (hp.sub rfl) hz6
        · extract_lets +onlyGivenNames z13
          clear_value z13
          exact State.settle_keeps (hp.sub rfl) (State.setSession_keeps (hp.sub rfl) hz6)

theorem State.takeFrame_keeps {s0 : State} {ps : Nat} {s : State} {p : Nat} {frame : List Byte} {ty : Nat} {f : PoaFrame → State} (hp : Covers ps 0x200000000000000100000) (hs : On inS ps s0 s) (hf : ∀ v0, On inS ps s0 (f v0)) :
    On inS ps s0 (State.takeFrame s p frame ty f) := by
  delta State.takeFrame
  refine On.ite ?_ ?_
  · exact hs
  · refine On.ite ?_ ?_
    · exact State.dropMgmt_keeps (hp.sub rfl) hs
    · split
      · rename_i x1 e2
        exact State.dropMgmt_keeps (hp.sub rfl) hs
      · rename_i x3 x4 e5
        refine On.ite ?_ ?_
        · refine hf _
        · refine On.ite ?_ ?_
          · exact hs
          · exact State.dropMgmt_keeps (hp.sub rfl) hs

theorem execPoaOpen_keeps {s0 : State} {ps : Nat} {p : Nat} {frame : List Byte} {s : State} (hp : Covers ps 0x200000001000000130001) (hs : On inS ps s0 s) :
    On inNext ps s0 (execPoaOpen p frame s) := by
  delta execPoaOpen
  refine On.next ?_
  refine State.takeFrame_keeps (hp.sub rfl) ?_ ?_
  · exact hs
  · intro x1
    exact State.takeOpen_keeps (hp.sub rfl) hs

theorem execPoaClose_keeps {s0 : State} {ps : Nat} {p : Nat} {frame : List Byte} {s : State} (hp : Covers ps 0x200000001000000100001) (hs : On inS ps s0 s) :
    On inNext ps s0 (execPoaClose p frame s) := by
  delta execPoaClose
  refine On.next ?_
  refine State.takeFrame_keeps (hp.sub rfl) ?_ ?_
  · exact hs
  · intro x1
    exact State.takeClose_keeps (hp.sub rfl) hs

theorem execPoaRequest_keeps {s0 : State} {ps : Nat} {p : Nat} {frame : List Byte} {s : State} (hp : Covers ps 0xfffffffffffffffffffffffffffffffffffffffffffffffffffffffffffffffffffffffffff) (hs : On inS ps s0 s) :
    On inNext ps s0 (execPoaRequest p frame s) := by
  delta execPoaRequest
  refine On.next ?_
  refine State.takeFrame_keeps (hp.sub rfl) ?_ ?_
  · exact hs
  · intro x1
    exact State.takePoaRequest_keeps (hp.sub rfl) hs

theorem execSeqGapTimeout_keeps {s0 : State} {ps : Nat} {session : Nat} {seq : Nat} {s : State} (hp : Covers ps 0x200000000000000140001) (hs : On inS ps s0 s) :
    On inNext ps s0 (execSeqGapTimeout session seq s) := by
  delta execSeqGapTimeout
  refine On.next ?_
  split
  · rename_i x1 e2
    exact hs
  · rename_i x3 x4 e5
    split
    · rename_i x6 e7
      exact hs
    · rename_i x8 x9 e10
      extract_lets +onlyGivenNames z11 z12
      clear_value z11 z12
      refine On.ite ?_ ?_
      · exact hs
      · exact State.dropMgmt_keeps (hp.sub rfl) (State.setSession_keeps (hp.sub rfl) (State.reach_keeps (hp.sub rfl) hs))

theorem execSessionIdleExpiry_keeps {s0 : State} {ps : Nat} {session : Nat} {s : State} (hp : Covers ps 0x40001) (hs : On inS ps s0 s) :
    On inNext ps s0 (execSessionIdleExpiry session s) := by
  delta execSessionIdleExpiry
  refine On.next ?_
  split
  · rename_i x1 e2
    exact hs
  · rename_i x3 x4 e5
    exact State.endSession_keeps (hp.sub rfl) (State.reach_keeps (hp.sub rfl) hs)

theorem State.winGo_keeps {s0 : State} {ps : Nat} {s : State} {w : Nat} (hp : Covers ps 0xfffffffffffffffffffffffffffffffffffffffffffffffffffffffffffffffffffffffffff) (hs : On inS ps s0 s) :
    On inS ps s0 (State.winGo s w) := by
  delta State.winGo
  extract_lets +onlyGivenNames z1
  clear_value z1
  refine On.ite ?_ ?_
  · exact hs
  · refine On.ite ?_ ?_
    · exact State.setWindow_keeps (hp.sub rfl) hs
    · split
      · rename_i x2 x3 e4
        exact State.respondWindow_keeps (hp.sub rfl) hs
      · rename_i x5 e6
        extract_lets +onlyGivenNames z7
        clear_value z7
        refine On.ite ?_ ?_
        · exact State.respondWindow_keeps (hp.sub rfl) hs
        · refine On.ite ?_ ?_
          · exact State.respondWindow_keeps (hp.sub rfl) hs
          · split
            · rename_i x8 e9
              exact State.respondWindow_keeps (hp.sub rfl) hs
            · rename_i x10 x11 e12
              exact State.settle_keeps (hp.sub rfl) (State.newJob_keeps (hp.sub rfl) (State.setWindow_keeps (hp.sub rfl) hs))

theorem execWinGo_keeps {s0 : State} {ps : Nat} {w : Nat} {s : State} (hp : Covers ps 0xfffffffffffffffffffffffffffffffffffffffffffffffffffffffffffffffffffffffffff) (hs : On inS ps s0 s) :
    On inNext ps s0 (execWinGo w s) := by
  delta execWinGo
  exact On.next (State.winGo_keeps (hp.sub rfl) hs)

end Sys2Proof.Machine
end

