-- ==== Sys2Proof/Laws/KeepsOperations.lean ====
section
/-! SUPPORT. Sys2Proof/Laws/KeepsOperations.lean: what the operations of Machine/Operations.lean keep, whatever they do. -/

namespace Sys2Proof.Machine

theorem execWrite_keeps {s0 : State} {ps : Nat} {o : Origin} {i : Nat} {j : Nat} {ty : Nat} {v : List Byte} {s : State} (hp : Covers ps 0xfffffffffffffffffffffffffffffffffffffffffffffffffffffffffffffffffffffffffff) (hs : On inS ps s0 s) :
    On inNext ps s0 (execWrite o i j ty v s) := by
  delta execWrite
  exact On.next (State.runDirect_keeps (hp.sub rfl) hs)

theorem execReadSegment_keeps {s0 : State} {ps : Nat} {o : Origin} {i : Nat} {j : Nat} {off : Nat} {count : Nat} {s : State} (hp : Covers ps 0xfffffffffffffffffffffffffffffffffffffffffffffffffffffffffffffffffffffffffff) (hs : On inS ps s0 s) :
    On inNext ps s0 (execReadSegment o i j off count s) := by
  delta execReadSegment
  exact On.next (State.runDirect_keeps (hp.sub rfl) hs)

theorem execWriteSegment_keeps {s0 : State} {ps : Nat} {o : Origin} {i : Nat} {j : Nat} {flags : Nat} {off : Nat} {bytes : List Byte} {s : State} (hp : Covers ps 0xfffffffffffffffffffffffffffffffffffffffffffffffffffffffffffffffffffffffffff) (hs : On inS ps s0 s) :
    On inNext ps s0 (execWriteSegment o i j flags off bytes s) := by
  delta execWriteSegment
  exact On.next (State.runDirect_keeps (hp.sub rfl) hs)

theorem execBlobSegmentTimeout_keeps {s0 : State} {ps : Nat} {o : Origin} {i : Nat} {j : Nat} {s : State} (hp : Covers ps 0x40001) (hs : On inS ps s0 s) :
    On inNext ps s0 (execBlobSegmentTimeout o i j s) := by
  delta execBlobSegmentTimeout
  refine On.next ?_
  split
  · rename_i x1 e2
    exact hs
  · rename_i x3 x4 e5
    exact State.dropPartial_keeps (hp.sub rfl) (State.reach_keeps (hp.sub rfl) hs)

theorem execBlobCopyExpiry_keeps {s0 : State} {ps : Nat} {o : Origin} {i : Nat} {j : Nat} {s : State} (hp : Covers ps 0x40001) (hs : On inS ps s0 s) :
    On inNext ps s0 (execBlobCopyExpiry o i j s) := by
  delta execBlobCopyExpiry
  refine On.next ?_
  split
  · rename_i x1 e2
    exact hs
  · rename_i x3 x4 e5
    extract_lets +onlyGivenNames z6
    clear_value (ez6 : z6 = _)
    refine On.letS (ps := ps) (s0 := s0) ez6 ?_ fun hz6 => ?_
    · exact State.reach_keeps (hp.sub rfl) hs
    refine On.mk (s := z6) ?_ (.c (hp.sub rfl)) .k .k .k .k .k .k .k .k .k .k .k .k .k .k .k .k
    exact hz6

theorem State.recordDelays_keeps {s0 : State} {ps : Nat} {s : State} {cc : Nat} (hp : Covers ps 0x400) (hs : On inS ps s0 s) :
    On inS ps s0 (State.recordDelays s cc) := by
  delta State.recordDelays
  refine On.mk (s := s) ?_ .k .k .k .k .k .k .k .k .k .k (.c (hp.sub rfl)) .k .k .k .k .k .k
  exact hs

theorem State.recordP_keeps {s0 : State} {ps : Nat} {s : State} {i : Nat} {j : Nat} (hp : Covers ps 0x400404) (hs : On inS ps s0 s) :
    On inS ps s0 (State.recordP s i j) := by
  delta State.recordP
  refine On.ite ?_ ?_
  · exact State.recordDelays_keeps (hp.sub rfl) hs
  · refine On.ite ?_ ?_
    · refine On.mk (s := s) ?_ .k .k (.c (hp.sub rfl) .keep) .k .k .k .k .k .k .k .k .k .k .k .k .k .k
      exact hs
    · exact State.storeP_keeps (hp.sub rfl) hs

theorem State.localDone_keeps {s0 : State} {ps : Nat} {s : State} {p : Unanswered → Bool} (hp : Covers ps 0x1) (hs : On inS ps s0 s) :
    On inS ps s0 (State.localDone s p) := by
  delta State.localDone
  refine On.mk (s := s) ?_ (.c (hp.sub rfl)) .k .k .k .k .k .k .k .k .k .k .k .k .k .k .k .k
  exact hs

theorem execPObjectRecorded_keeps {s0 : State} {ps : Nat} {i : Nat} {j : Nat} {s : State} (hp : Covers ps 0xfffffffffffffffffffffffffffffffffffffffffffffffffffffffffffffffffffffffffff) (hs : On inS ps s0 s) :
    On inNext ps s0 (execPObjectRecorded i j s) := by
  delta execPObjectRecorded
  refine On.next ?_
  refine On.ite ?_ ?_
  · exact hs
  · exact State.settle_keeps (hp.sub rfl) (State.localDone_keeps (hp.sub rfl) (State.recordP_keeps (hp.sub rfl) hs))

theorem execDestroy_keeps {s0 : State} {ps : Nat} {o : Origin} {h : Nat} {s : State} (hp : Covers ps 0xfffffffffffffffffffffffffffffffffffffffffffffffffffffffffffffffffffffffffff) (hs : On inS ps s0 s) :
    On inNext ps s0 (execDestroy o h s) := by
  delta execDestroy
  exact On.next (State.runDirect_keeps (hp.sub rfl) hs)

theorem execQueueDestroyDone_keeps {s0 : State} {ps : Nat} {i : Nat} {s : State} (hp : Covers ps 0xfffffffffffffffffffffffffffffffffffffffffffffffffffffffffffffffffffffffffff) (hs : On inS ps s0 s) :
    On inNext ps s0 (execQueueDestroyDone i s) := by
  delta execQueueDestroyDone
  refine On.next ?_
  split
  · rename_i x1 e2
    exact hs
  · rename_i x3 x4 e5
    refine On.ite ?_ ?_
    · exact hs
    · exact State.settle_keeps (hp.sub rfl) (State.localDone_keeps (hp.sub rfl) (State.removeQueue_keeps (hp.sub rfl) hs))

theorem execBatchOpen_keeps {s0 : State} {ps : Nat} {o : Origin} {s : State} (hp : Covers ps 0xfffffffffffffffffffffffffffffffffffffffffffffffffffffffffffffffffffffffffff) (hs : On inS ps s0 s) :
    On inNext ps s0 (execBatchOpen o s) := by
  delta execBatchOpen
  exact On.next (State.runDirect_keeps (hp.sub rfl) hs)

theorem execBatchWrite_keeps {s0 : State} {ps : Nat} {o : Origin} {id : Nat} {i : Nat} {j : Nat} {ty : Nat} {v : List Byte} {s : State} (hp : Covers ps 0xfffffffffffffffffffffffffffffffffffffffffffffffffffffffffffffffffffffffffff) (hs : On inS ps s0 s) :
    On inNext ps s0 (execBatchWrite o id i j ty v s) := by
  delta execBatchWrite
  exact On.next (State.runDirect_keeps (hp.sub rfl) hs)

theorem execBatchCommit_keeps {s0 : State} {ps : Nat} {o : Origin} {id : Nat} {s : State} (hp : Covers ps 0xfffffffffffffffffffffffffffffffffffffffffffffffffffffffffffffffffffffffffff) (hs : On inS ps s0 s) :
    On inNext ps s0 (execBatchCommit o id s) := by
  delta execBatchCommit
  exact On.next (State.runDirect_keeps (hp.sub rfl) hs)

theorem execBatchAbort_keeps {s0 : State} {ps : Nat} {o : Origin} {id : Nat} {s : State} (hp : Covers ps 0xfffffffffffffffffffffffffffffffffffffffffffffffffffffffffffffffffffffffffff) (hs : On inS ps s0 s) :
    On inNext ps s0 (execBatchAbort o id s) := by
  delta execBatchAbort
  exact On.next (State.runDirect_keeps (hp.sub rfl) hs)

theorem execBatchIdleExpiry_keeps {s0 : State} {ps : Nat} {k : Nat} {s : State} (hp : Covers ps 0x10000000000000000000000000140001) (hs : On inS ps s0 s) :
    On inNext ps s0 (execBatchIdleExpiry k s) := by
  delta execBatchIdleExpiry
  refine On.next ?_
  extract_lets +onlyGivenNames z1
  clear_value z1
  refine On.ite ?_ ?_
  · exact hs
  · exact State.bump_keeps (hp.sub rfl) (hp.sub rfl) (State.closeBatch_keeps (hp.sub rfl) (State.reach_keeps (hp.sub rfl) hs))

theorem execProgramInstall_keeps {s0 : State} {ps : Nat} {o : Origin} {id : Nat} {slot : Nat} {s : State} (hp : Covers ps 0xfffffffffffffffffffffffffffffffffffffffffffffffffffffffffffffffffffffffffff) (hs : On inS ps s0 s) :
    On inNext ps s0 (execProgramInstall o id slot s) := by
  delta execProgramInstall
  exact On.next (State.runDirect_keeps (hp.sub rfl) hs)

theorem execGraphRestore_keeps {s0 : State} {ps : Nat} {o : Origin} {id : Nat} {v : Nat} {s : State} (hp : Covers ps 0xfffffffffffffffffffffffffffffffffffffffffffffffffffffffffffffffffffffffffff) (hs : On inS ps s0 s) :
    On inNext ps s0 (execGraphRestore o id v s) := by
  delta execGraphRestore
  exact On.next (State.runDirect_keeps (hp.sub rfl) hs)

theorem execTableInsert_keeps {s0 : State} {ps : Nat} {o : Origin} {id : Nat} {flags : Nat} {len : Nat} {region : Nat} {key : List Byte} {data : List Byte} {s : State} (hp : Covers ps 0xfffffffffffffffffffffffffffffffffffffffffffffffffffffffffffffffffffffffffff) (hs : On inS ps s0 s) :
    On inNext ps s0 (execTableInsert o id flags len region key data s) := by
  delta execTableInsert
  exact On.next (State.runDirect_keeps (hp.sub rfl) hs)

theorem execTableDelete_keeps {s0 : State} {ps : Nat} {o : Origin} {id : Nat} {flags : Nat} {len : Nat} {region : Nat} {key : List Byte} {s : State} (hp : Covers ps 0xfffffffffffffffffffffffffffffffffffffffffffffffffffffffffffffffffffffffffff) (hs : On inS ps s0 s) :
    On inNext ps s0 (execTableDelete o id flags len region key s) := by
  delta execTableDelete
  exact On.next (State.runDirect_keeps (hp.sub rfl) hs)

theorem execRuleWrite_keeps {s0 : State} {ps : Nat} {o : Origin} {id : Nat} {set : Nat} {pos : Nat} {action : List Byte} {value : List Byte} {mask : List Byte} {s : State} (hp : Covers ps 0xfffffffffffffffffffffffffffffffffffffffffffffffffffffffffffffffffffffffffff) (hs : On inS ps s0 s) :
    On inNext ps s0 (execRuleWrite o id set pos action value mask s) := by
  delta execRuleWrite
  exact On.next (State.runDirect_keeps (hp.sub rfl) hs)

theorem execRuleDelete_keeps {s0 : State} {ps : Nat} {o : Origin} {id : Nat} {set : Nat} {pos : Nat} {s : State} (hp : Covers ps 0xfffffffffffffffffffffffffffffffffffffffffffffffffffffffffffffffffffffffffff) (hs : On inS ps s0 s) :
    On inNext ps s0 (execRuleDelete o id set pos s) := by
  delta execRuleDelete
  exact On.next (State.runDirect_keeps (hp.sub rfl) hs)

theorem execRuleSetAction_keeps {s0 : State} {ps : Nat} {o : Origin} {id : Nat} {set : Nat} {pos : Nat} {action : List Byte} {s : State} (hp : Covers ps 0xfffffffffffffffffffffffffffffffffffffffffffffffffffffffffffffffffffffffffff) (hs : On inS ps s0 s) :
    On inNext ps s0 (execRuleSetAction o id set pos action s) := by
  delta execRuleSetAction
  exact On.next (State.runDirect_keeps (hp.sub rfl) hs)

end Sys2Proof.Machine
end

