-- ==== Sys2Proof/Laws/KeepsRecords.lean ====
section
/-! SUPPORT. Sys2Proof/Laws/KeepsRecords.lean: what the operations of Machine/Records.lean keep, whatever they do. -/

namespace Sys2Proof.Machine

theorem State.copyObject_keeps {s0 : State} {ps : Nat} {s : State} {e : Nat × List Byte} (hp : Covers ps 0xffffffffffffffffffffffffffffffffffffffffffffffffffffffffffffffff03fbffff) (hs : On inS ps s0 s) :
    On inS ps s0 (State.copyObject s e) := by
  delta State.copyObject
  extract_lets +onlyGivenNames z1 z2
  clear_value z1 z2
  refine On.ite ?_ ?_
  · exact hs
  · split
    · rename_i x3 x4 e5
      refine On.got (g := (inSnd inS)) (t := x4) (ps := ps) (s0 := s0) e5 rfl ?_ fun he5 => ?_
      · exact State.writeEffect_keeps (hp.sub rfl) hs
      exact he5
    · rename_i x6 e7
      exact State.storeValue_keeps (hp.sub rfl).page hs

theorem State.installCopy_keeps {s0 : State} {ps : Nat} {s : State} {c : CopyImage} (hp : Covers ps 0xffffffffffffffffffffffffffffffffffffffffffffffffffffffffffffffff03fbffff) (hs : On inS ps s0 s) :
    On inS ps s0 (State.installCopy s c) := by
  delta State.installCopy
  extract_lets +onlyGivenNames z1 z2 z3 z4 z5 z6
  clear_value z1 z2 z3 z4 z5 z6
  extract_lets +onlyGivenNames z7
  clear_value (ez7 : z7 = _)
  refine On.letS (ps := ps) (s0 := s0) ez7 ?_ fun hz7 => ?_
  · refine On.mkStores (s := s) ?_ (hp.sub rfl) id id (fun _ => rising_foldl_mset rfl) (.c (hp.sub rfl)) .k .k .k (.c (hp.sub rfl)) (.c (hp.sub rfl)) .k (.c (hp.sub rfl)) (.c (hp.sub rfl)) .k .k .k .k (.c (hp.sub rfl)) .k (.c (hp.sub rfl)) .k .k
    exact hs
  refine On.foldl ?_ ?_
  · exact hz7
  · intro x8 x9 h10
    exact State.copyObject_keeps (hp.sub rfl) h10

theorem State.tryCopy_keeps {s0 : State} {ps : Nat} {s : State} (hp : Covers ps 0x20200) (hs : On inS ps s0 s) :
    On inS ps s0 (State.tryCopy s) := by
  delta State.tryCopy
  refine On.ite ?_ ?_
  · exact hs
  · refine On.foldl ?_ ?_
    · refine On.mk (s := s) ?_ .k .k .k .k .k .k .k .k .k (.m (hp.sub rfl) rfl) .k .k .k .k .k .k .k
      exact hs
    · intro x1 x2 h3
      exact On.fst (State.sendRecord_keeps (hp.sub rfl) h3)

theorem State.takeCopy_keeps {s0 : State} {ps : Nat} {s : State} {b : List Byte} (hp : Covers ps 0xffffffffffffffffffffffffffffffffffffffffffffffffffffffffffffffff03fbffff) (hs : On inS ps s0 s) :
    On inS ps s0 (State.takeCopy s b) := by
  delta State.takeCopy
  refine On.ite ?_ ?_
  · exact State.streamError_keeps (hp.sub rfl) hs
  · refine On.ite ?_ ?_
    · exact hs
    · extract_lets +onlyGivenNames z1
      clear_value z1
      split
      · rename_i x2 e3
        refine On.mk (s := s) ?_ .k .k .k .k .k .k .k .k .k (.m (hp.sub rfl) rfl) .k .k .k .k .k .k .k
        exact hs
      · rename_i x4 x5 e6
        extract_lets +onlyGivenNames z7
        clear_value (ez7 : z7 = _)
        refine On.letS (ps := ps) (s0 := s0) ez7 ?_ fun hz7 => ?_
        · exact State.installCopy_keeps (hp.sub rfl) hs
        refine State.sendStatus_keeps (hp.sub rfl) ?_
        refine On.mk (s := z7) ?_ .k .k .k .k .k .k .k .k .k (.m (hp.sub rfl) rfl) .k .k .k .k .k .k .k
        exact hz7

theorem execCopy_keeps {s0 : State} {ps : Nat} {rec : List Byte} {s : State} (hp : Covers ps 0xffffffffffffffffffffffffffffffffffffffffffffffffffffffffffffffff03fbffff) (hs : On inS ps s0 s) :
    On inNext ps s0 (execCopy rec s) := by
  delta execCopy
  exact On.next (State.takeCopy_keeps (hp.sub rfl) hs)

theorem State.beginCopy_keeps {s0 : State} {ps : Nat} {s : State} (hp : Covers ps 0x20200) (hs : On inS ps s0 s) :
    On inS ps s0 (State.beginCopy s) := by
  delta State.beginCopy
  refine On.ite ?_ ?_
  · exact hs
  · refine State.refreshIdentity_keeps (hp.sub rfl) ?_
    refine State.tryCopy_keeps (hp.sub rfl) ?_
    refine On.mk (s := s) ?_ .k .k .k .k .k .k .k .k .k (.m (hp.sub rfl) rfl) .k .k .k .k .k .k .k
    exact hs

theorem State.mateStale_keeps {s0 : State} {ps : Nat} {s : State} (hp : Covers ps 0x200) (hs : On inS ps s0 s) :
    On inS ps s0 (State.mateStale s) := by
  delta State.mateStale
  split
  · rename_i x1 e2
    exact State.breakPair_keeps (hp.sub rfl) hs
  · rename_i x3 e4
    refine On.mk (s := s) ?_ .k .k .k .k .k .k .k .k .k (.m (hp.sub rfl) rfl) .k .k .k .k .k .k .k
    exact hs
  · rename_i x5 e6 e7
    exact hs

theorem State.statusFlag_keeps {s0 : State} {ps : Nat} {s : State} {flags : Nat} {k : Nat} (hp : Covers ps 0xffffffffffffffffffffffffffffffffffffffffffffffffffffffffffffffff03fbffff) (hs : On inS ps s0 s) :
    On inS ps s0 (State.statusFlag s flags k) := by
  delta State.statusFlag
  refine On.ite ?_ ?_
  · exact hs
  · split
    · rename_i x1
      exact State.mateStale_keeps (hp.sub rfl) hs
    · rename_i x2
      exact State.beginCopy_keeps (hp.sub rfl) hs
    · rename_i x3
      refine On.ite ?_ ?_
      · refine On.mk (s := s) ?_ .k .k .k .k .k .k .k .k .k (.m (hp.sub rfl) rfl) .k .k .k .k .k .k .k
        exact hs
      · exact hs
    · rename_i x4
      refine On.ite ?_ ?_
      · exact State.sendStart_keeps (hp.sub rfl) hs
      · exact hs
    · rename_i x5 e6 e7 e8 e9
      refine On.ite ?_ ?_
      · refine State.finishSwitch_keeps (hp.sub rfl) ?_
        refine On.mk (s := s) ?_ .k .k .k .k .k .k .k .k .k (.m (hp.sub rfl) rfl) .k .k .k .k .k .k .k
        exact hs
      · exact hs

theorem State.takeStatus_keeps {s0 : State} {ps : Nat} {s : State} {b : List Byte} (hp : Covers ps 0xffffffffffffffffffffffffffffffffffffffffffffffffffffffffffffffff03fbffff) (hs : On inS ps s0 s) :
    On inS ps s0 (State.takeStatus s b) := by
  delta State.takeStatus
  refine On.ite ?_ ?_
  · exact State.streamError_keeps (hp.sub rfl) hs
  · refine On.ite ?_ ?_
    · exact hs
    · extract_lets +onlyGivenNames z1
      extract_lets +onlyGivenNames z2
      clear_value (ez2 : z2 = _)
      refine On.letS (ps := ps) (s0 := s0) ez2 ?_ fun hz2 => ?_
      · refine On.mk (s := s) ?_ .k .k .k .k .k .k .k .k .k (.m (hp.sub rfl) rfl) .k .k .k .k .k .k .k
        exact hs
      refine On.foldl ?_ ?_
      · exact hz2
      · intro x3 x4 h5
        exact State.statusFlag_keeps (hp.sub rfl) h5

theorem execStatus_keeps {s0 : State} {ps : Nat} {rec : List Byte} {s : State} (hp : Covers ps 0xfffffffffffffffffffffffffffffffffffffffffffffffffffffffffffffffffffffffffff) (hs : On inS ps s0 s) :
    On inNext ps s0 (execStatus rec s) := by
  delta execStatus
  exact On.next (State.settle_keeps (hp.sub rfl) (State.takeStatus_keeps (hp.sub rfl) hs))

theorem State.stageOp_keeps {s0 : State} {ps : Nat} {s : State} {ticket : Nat} {op : BatchOp} {own : Bool} {closed : Bool} (hp : Covers ps 0x200) (hs : On inS ps s0 s) :
    On inS ps s0 (State.stageOp s ticket op own closed) := by
  delta State.stageOp
  extract_lets +onlyGivenNames z1 z2 z3
  clear_value z1 z2 z3
  refine On.mk (s := s) ?_ .k .k .k .k .k .k .k .k .k (.m (hp.sub rfl) rfl) .k .k .k .k .k .k .k
  exact hs

theorem State.closeChange_keeps {s0 : State} {ps : Nat} {s : State} (hp : Covers ps 0x200) (hs : On inS ps s0 s) :
    On inS ps s0 (State.closeChange s) := by
  delta State.closeChange
  refine On.mk (s := s) ?_ .k .k .k .k .k .k .k .k .k (.m (hp.sub rfl) rfl) .k .k .k .k .k .k .k
  exact hs

theorem State.mateSegment_keeps {s0 : State} {ps : Nat} {s : State} {r : OpReq} (hp : Covers ps 0xffffffffffffffffffffffffffffffffffffffffffffffffffffffffffffffff00020083) (hs : On inS ps s0 s) :
    On inS ps s0 (State.mateSegment s r) := by
  delta State.mateSegment
  extract_lets +onlyGivenNames z1 z2 z3
  clear_value z1 z2 z3
  extract_lets +onlyGivenNames z4
  clear_value (ez4 : z4 = _)
  refine On.letS (ps := ps) (s0 := s0) ez4 ?_ fun hz4 => ?_
  · exact State.dropPartial_keeps (hp.sub rfl) hs
  refine On.ite ?_ ?_
  · refine On.mk (s := z4) ?_ (.c (hp.sub rfl)) .k .k .k .k .k .k .k .k .k .k .k .k .k .k .k .k
    exact hz4
  · exact On.snd (State.blobEffect_keeps (hp.sub rfl) hz4)

theorem State.mateDestroy_keeps {s0 : State} {ps : Nat} {s : State} {h : Nat} (hp : Covers ps 0x2000000000000000001030000000000000000000000000000003a56d0) (hs : On inS ps s0 s) :
    On inS ps s0 (State.mateDestroy s h) := by
  delta State.mateDestroy
  refine On.ite ?_ ?_
  · exact hs
  · refine On.ite ?_ ?_
    · exact State.beginDestroy_keeps (hp.sub rfl) hs
    · exact State.removeChannel_keeps (hp.sub rfl) hs

theorem State.mateOp_keeps {s0 : State} {ps : Nat} {ticket : Nat} {s : State} {r : OpReq} (hp : Covers ps 0xfffffffffffffffffffffffffffffffffffffffffffffffffffffffffffffffffffffffffff) (hs : On inS ps s0 s) :
    On inS ps s0 (State.mateOp ticket s r) := by
  delta State.mateOp
  split
  · rename_i x1 e2
    refine On.ite ?_ ?_
    · exact State.stageOp_keeps (hp.sub rfl) hs
    · exact On.snd (State.writeEffect_keeps (hp.sub rfl) hs)
  · rename_i x3 e4
    exact State.mateSegment_keeps (hp.sub rfl) hs
  · rename_i x5 e6
    split
    · rename_i x7 x8 e9
      split
      · rename_i x10 x11 x12 e13
        refine On.got (g := (inOk (inSnd inS))) (t := x12) (ps := ps) (s0 := s0) e13 rfl ?_ fun he13 => ?_
        · exact createRule_keeps (hp.sub rfl) e9 hs
        exact he13
      · rename_i x14 x15 e16
        exact hs
    · rename_i x17 e18
      exact hs
  · rename_i x19 e20
    exact State.mateDestroy_keeps (hp.sub rfl) hs
  · rename_i x21 e22
    exact State.stageOp_keeps (hp.sub rfl) hs
  · rename_i x23 e24
    exact State.closeChange_keeps (hp.sub rfl) hs
  · rename_i x25 e26 e27 e28 e29 e30 e31
    exact hs

theorem State.ticketStaged_keeps {s0 : State} {ps : Nat} {s : State} {t : Nat} (hp : Covers ps 0x20200) (hs : On inS ps s0 s) :
    On inS ps s0 (State.ticketStaged s t) := by
  delta State.ticketStaged
  refine State.sendStatus_keeps (hp.sub rfl) ?_
  refine On.mk (s := s) ?_ .k .k .k .k .k .k .k .k .k (.m (hp.sub rfl) rfl) .k .k .k .k .k .k .k
  exact hs

theorem State.takeObject_keeps {s0 : State} {ps : Nat} {s : State} {b : List Byte} (hp : Covers ps 0xfffffffffffffffffffffffffffffffffffffffffffffffffffffffffffffffffffffffffff) (hs : On inS ps s0 s) :
    On inS ps s0 (State.takeObject s b) := by
  delta State.takeObject
  refine On.ite ?_ ?_
  · exact State.streamError_keeps (hp.sub rfl) hs
  · split
    · rename_i x1 e2
      exact State.streamError_keeps (hp.sub rfl) hs
    · rename_i x3 x4 e5
      refine On.ite ?_ ?_
      · exact hs
      · refine State.ticketStaged_keeps (hp.sub rfl) ?_
        refine On.foldl ?_ ?_
        · exact hs
        · intro x6 x7 h8
          exact State.mateOp_keeps (hp.sub rfl) h8

theorem execObject_keeps {s0 : State} {ps : Nat} {rec : List Byte} {s : State} (hp : Covers ps 0xfffffffffffffffffffffffffffffffffffffffffffffffffffffffffffffffffffffffffff) (hs : On inS ps s0 s) :
    On inNext ps s0 (execObject rec s) := by
  delta execObject
  exact On.next (State.takeObject_keeps (hp.sub rfl) hs)

theorem State.takeLearn_keeps {s0 : State} {ps : Nat} {s : State} {b : List Byte} (hp : Covers ps 0x1010100000000000100000003000000000000000000010000000001f33682) (hs : On inS ps s0 s) :
    On inS ps s0 (State.takeLearn s b) := by
  delta State.takeLearn
  refine On.ite ?_ ?_
  · exact State.streamError_keeps (hp.sub rfl) hs
  · split
    · rename_i x1 e2
      exact State.streamError_keeps (hp.sub rfl) hs
    · rename_i x3 x4 e5
      refine On.ite ?_ ?_
      · exact hs
      · extract_lets +onlyGivenNames z6 z7 z8
        clear_value z6 z7 z8
        extract_lets +onlyGivenNames z9
        extract_lets +onlyGivenNames z10
        clear_value (ez10 : z10 = _)
        refine On.letS (ps := ps) (s0 := s0) ez10 ?_ fun hz10 => ?_
        · refine On.mk (s := s) ?_ .k .k .k .k .k .k .k .k .k (.m (hp.sub rfl) rfl) .k .k .k .k .k .k .k
          exact hs
        exact State.ticketStaged_keeps (hp.sub rfl) hz10

theorem execLearnRecord_keeps {s0 : State} {ps : Nat} {rec : List Byte} {s : State} (hp : Covers ps 0x1010100000000000100000003000000000000000000010000000001f33682) (hs : On inS ps s0 s) :
    On inNext ps s0 (execLearnRecord rec s) := by
  delta execLearnRecord
  exact On.next (State.takeLearn_keeps (hp.sub rfl) hs)

theorem State.followCommit_keeps {s0 : State} {ps : Nat} {s : State} {c : MateChange} (hp : Covers ps 0xffffffffffffffffffffffffffffffffffffffffffffffffffffffffffffffff03fbffff) (hs : On inS ps s0 s) :
    On inS ps s0 (State.followCommit s c) := by
  delta State.followCommit
  extract_lets +onlyGivenNames z1
  clear_value (ez1 : z1 = _)
  refine On.letS (ps := ps) (s0 := s0) ez1 ?_ fun hz1 => ?_
  · exact State.settleTables_keeps (hp.sub rfl) hs
  extract_lets +onlyGivenNames z2
  clear_value z2
  extract_lets +onlyGivenNames z3
  clear_value (ez3 : z3 = _)
  refine On.letS (ps := ps) (s0 := s0) ez3 ?_ fun hz3 => ?_
  · split
    · rename_i x4 x5 x6 x7 x8 e9
      exact State.stageLayout_keeps (hp.sub rfl) hz1
    · rename_i x10 e11
      exact State.stageDraft_keeps (hp.sub rfl) hz1
  split
  · rename_i x12 e13
    exact hz3
  · rename_i x14 x15 e16
    extract_lets +onlyGivenNames z17
    clear_value (ez17 : z17 = _)
    refine On.letS (ps := ps) (s0 := s0) ez17 ?_ fun hz17 => ?_
    · split
      · rename_i x18 x19 e20
        refine On.got (g := (inOk inS)) (t := x19) (ps := ps) (s0 := s0) e20 rfl ?_ fun he20 => ?_
        · exact State.applyLater_keeps (hp.sub rfl) hz3
        exact he20
      · rename_i x21 x22 e23
        exact hz3
    exact State.flip_keeps (hp.sub rfl) (State.crossIters_keeps (hp.sub rfl) hz17)

theorem State.discardRun_keeps {s0 : State} {ps : Nat} {s : State} {k : Nat} {ordinal : Nat} (hp : Covers ps 0xa0) (hs : On inS ps s0 s) :
    On inS ps s0 (State.discardRun s k ordinal) := by
  delta State.discardRun
  extract_lets +onlyGivenNames z1 z2 z3
  clear_value z1 z2 z3
  extract_lets +onlyGivenNames z4
  clear_value (ez4 : z4 = _)
  refine On.letS (ps := ps) (s0 := s0) ez4 ?_ fun hz4 => ?_
  · exact State.setSlice_keeps (hp.sub rfl) hs
  split
  · rename_i x5 x6 x7 e8
    exact State.unwait_keeps (hp.sub rfl) hz4
  · rename_i x9 e10
    exact hz4

theorem State.restamp_keeps {s0 : State} {ps : Nat} {s : State} {k : Nat} {pos : Nat} (hp : Covers ps 0x1000000000000000000000000000000000000001000a0) (hs : On inS ps s0 s) :
    On inS ps s0 (State.restamp s k pos) := by
  delta State.restamp
  extract_lets +onlyGivenNames z1
  clear_value z1
  refine On.ite ?_ ?_
  · exact hs
  · extract_lets +onlyGivenNames z2
    clear_value (ez2 : z2 = _)
    refine On.letS (ps := ps) (s0 := s0) ez2 ?_ fun hz2 => ?_
    · refine On.foldl ?_ ?_
      · exact State.count_keeps (hp.sub rfl) (hp.sub rfl) hs
      · intro x3 x4 h5
        exact State.discardRun_keeps (hp.sub rfl) h5
    extract_lets +onlyGivenNames z6 z7 z8 z9
    clear_value z6 z7 z8 z9
    exact State.setSlice_keeps (hp.sub rfl) hz2

theorem State.noteMark_keeps {s0 : State} {ps : Nat} {s : State} {e : Nat} {k : Nat} {pos : Nat} (hp : Covers ps 0x1000000000000000000000000000000000000001002a0) (hs : On inS ps s0 s) :
    On inS ps s0 (State.noteMark s e k pos) := by
  delta State.noteMark
  extract_lets +onlyGivenNames z1
  clear_value z1
  refine State.restamp_keeps (hp.sub rfl) ?_
  refine On.mk (s := s) ?_ .k .k .k .k .k .k .k .k .k (.m (hp.sub rfl) rfl) .k .k .k .k .k .k .k
  exact hs

theorem State.takeEpochMark_keeps {s0 : State} {ps : Nat} {s : State} {b : List Byte} (hp : Covers ps 0xffffffffffffffffffffffffffffffffffffffffffffffffffffffffffffffff03fbffff) (hs : On inS ps s0 s) :
    On inS ps s0 (State.takeEpochMark s b) := by
  delta State.takeEpochMark
  refine On.ite ?_ ?_
  · exact State.streamError_keeps (hp.sub rfl) hs
  · refine On.ite ?_ ?_
    · exact hs
    · extract_lets +onlyGivenNames z1
      clear_value z1
      refine On.ite ?_ ?_
      · exact State.streamError_keeps (hp.sub rfl) hs
      · split
        · rename_i x2 e3
          exact State.streamError_keeps (hp.sub rfl) hs
        · rename_i x4 x5 e6
          extract_lets +onlyGivenNames z7
          clear_value (ez7 : z7 = _)
          refine On.letS (ps := ps) (s0 := s0) ez7 ?_ fun hz7 => ?_
          · exact State.followCommit_keeps (hp.sub rfl) hs
          extract_lets +onlyGivenNames z8
          extract_lets +onlyGivenNames z9
          clear_value (ez9 : z9 = _)
          refine On.letS (ps := ps) (s0 := s0) ez9 ?_ fun hz9 => ?_
          · refine On.mk (s := z7) ?_ .k .k .k .k .k .k .k .k .k (.m (hp.sub rfl) rfl) .k .k .k .k .k .k .k
            exact hz7
          refine On.foldl ?_ ?_
          · exact hz9
          · intro x10 x11 h12
            exact State.noteMark_keeps (hp.sub rfl) h12

theorem execEpochMark_keeps {s0 : State} {ps : Nat} {rec : List Byte} {s : State} (hp : Covers ps 0xffffffffffffffffffffffffffffffffffffffffffffffffffffffffffffffff03fbffff) (hs : On inS ps s0 s) :
    On inNext ps s0 (execEpochMark rec s) := by
  delta execEpochMark
  exact On.next (State.takeEpochMark_keeps (hp.sub rfl) hs)

theorem execEpochDrainDone_keeps {s0 : State} {ps : Nat} {s : State} (hp : Covers ps 0xfffffffffffffffffffffffffffffffffffffffffffffffffffffffffffffffffffffffffff) (hs : On inS ps s0 s) :
    On inNext ps s0 (execEpochDrainDone s) := by
  delta execEpochDrainDone
  exact On.next (State.settle_keeps (hp.sub rfl) (State.drainDone_keeps (hp.sub rfl) hs))

theorem execEpochAdvance_keeps {s0 : State} {ps : Nat} {s : State} (hp : Covers ps 0xfffffffffffffffffffffffffffffffffffffffffffffffffffffffffffffffffffffffffff) (hs : On inS ps s0 s) :
    On inNext ps s0 (execEpochAdvance s) := by
  delta execEpochAdvance
  exact On.next (State.settle_keeps (hp.sub rfl) (State.tryCopy_keeps (hp.sub rfl) (State.advance_keeps (hp.sub rfl) hs)))

theorem execHeartbeatSend_keeps {s0 : State} {ps : Nat} {s : State} (hp : Covers ps 0xfffffffffffffffffffffffffffffffffffffffffffffffffffffffffffffffffffffffffff) (hs : On inS ps s0 s) :
    On inNext ps s0 (execHeartbeatSend s) := by
  delta execHeartbeatSend
  refine On.next ?_
  refine On.ite ?_ ?_
  · exact hs
  · extract_lets +onlyGivenNames z1 z2
    clear_value z1 z2
    extract_lets +onlyGivenNames z3
    clear_value (ez3 : z3 = _)
    refine On.letS (ps := ps) (s0 := s0) ez3 ?_ fun hz3 => ?_
    · refine On.foldl ?_ ?_
      · exact hs
      · intro x4 x5 h6
        exact State.sendMate_keeps (hp.sub rfl) h6
    refine State.settle_keeps (hp.sub rfl) ?_
    refine State.finishSwitch_keeps (hp.sub rfl) ?_
    refine On.mk (s := z3) ?_ .k .k .k .k .k .k .k .k .k (.m (hp.sub rfl) rfl) .k .k .k .k .k .k .k
    exact hz3

theorem State.takeRecord_keeps {s0 : State} {ps : Nat} {s : State} {rec : List Byte} (hp : Covers ps 0xfffffffffffffffffffffffffffffffffffffffffffffffffffffffffffffffffffffffffff) (hs : On inS ps s0 s) :
    On inS ps s0 (State.takeRecord s rec) := by
  delta State.takeRecord
  extract_lets +onlyGivenNames z1
  clear_value z1
  split
  · rename_i x2 e3
    exact State.takeIdentity_keeps (hp.sub rfl) hs
  · rename_i x4 e5
    exact State.takeEpochMark_keeps (hp.sub rfl) hs
  · rename_i x6 e7
    exact State.takeObject_keeps (hp.sub rfl) hs
  · rename_i x8 e9
    exact State.takeLearn_keeps (hp.sub rfl) hs
  · rename_i x10 e11
    exact State.takeMarks_keeps (hp.sub rfl) hs
  · rename_i x12 e13
    exact State.takeFabricVerdict_keeps (hp.sub rfl) hs
  · rename_i x14 e15
    exact State.takeCopyVerdict_keeps (hp.sub rfl) hs
  · rename_i x16 e17
    exact State.takeHostWork_keeps (hp.sub rfl) hs
  · rename_i x18 e19
    exact State.takeQueueEnds_keeps (hp.sub rfl) hs
  · rename_i x20 e21
    exact State.takeDigest_keeps (hp.sub rfl) hs
  · rename_i x22 e23
    exact State.takeStart_keeps (hp.sub rfl) hs
  · rename_i x24 e25
    refine On.ite ?_ ?_
    · exact State.turn_keeps (hp.sub rfl) hs
    · exact State.streamError_keeps (hp.sub rfl) hs
  · rename_i x26 e27
    exact State.takeCopy_keeps (hp.sub rfl) hs
  · rename_i x28 e29
    exact State.takeStatus_keeps (hp.sub rfl) hs
  · rename_i x30 e31 e32 e33 e34 e35 e36 e37 e38 e39 e40 e41 e42 e43 e44
    refine On.ite ?_ ?_
    · exact State.takeBlock_keeps (hp.sub rfl) hs
    · exact State.streamError_keeps (hp.sub rfl) hs

theorem State.feed_keeps {s0 : State} {ps : Nat} {u1 : Nat} {u2 : State} (hp : Covers ps 0xfffffffffffffffffffffffffffffffffffffffffffffffffffffffffffffffffffffffffff) (hu2 : On inS ps s0 u2) :
    On inS ps s0 (State.feed u1 u2) := by
  induction u1 generalizing u2 with
  | zero =>
    rw [State.feed]
    exact hu2
  | succ v ih =>
    rw [State.feed]
    refine On.ite ?_ ?_
    · exact hu2
    · refine On.ite ?_ ?_
      · dsimp -zeta only
        refine On.mk (s := u2) ?_ .k .k .k .k .k .k .k .k .k (.m (hp.sub rfl) rfl) .k .k .k .k .k .k .k
        exact hu2
      · split
        · rename_i x1 e2
          exact hu2
        · rename_i x3 e4
          refine State.streamError_keeps (hp.sub rfl) ?_
          dsimp -zeta only
          refine On.mk (s := u2) ?_ .k .k .k .k .k .k .k .k .k (.m (hp.sub rfl) rfl) .k .k .k .k .k .k .k
          exact hu2
        · rename_i x5 x6 e7 e8
          refine On.ite ?_ ?_
          · exact hu2
          · refine ih ?_
            refine State.takeRecord_keeps (hp.sub rfl) ?_
            dsimp -zeta only
            refine On.mk (s := u2) ?_ .k .k .k .k .k .k .k .k .k (.m (hp.sub rfl) rfl) .k .k .k .k .k .k .k
            exact hu2

theorem State.feedCell_keeps {s0 : State} {ps : Nat} {s : State} {payload : List Byte} (hp : Covers ps 0xfffffffffffffffffffffffffffffffffffffffffffffffffffffffffffffffffffffffffff) (hs : On inS ps s0 s) :
    On inS ps s0 (State.feedCell s payload) := by
  delta State.feedCell
  extract_lets +onlyGivenNames z1
  clear_value z1
  refine State.feed_keeps (hp.sub rfl) ?_
  refine On.mk (s := s) ?_ .k .k .k .k .k .k .k .k .k (.m (hp.sub rfl) rfl) .k .k .k .k .k .k .k
  exact hs

theorem execMateRecordsCell_keeps {s0 : State} {ps : Nat} {k : Nat} {cell : List Byte} {s : State} (hp : Covers ps 0xfffffffffffffffffffffffffffffffffffffffffffffffffffffffffffffffffffffffffff) (hs : On inS ps s0 s) :
    On inNext ps s0 (execMateRecordsCell k cell s) := by
  delta execMateRecordsCell
  refine On.next ?_
  refine On.ite ?_ ?_
  · exact hs
  · split
    · rename_i x1 x2 x3 e4
      refine On.got (g := (inFst inS)) (t := x2) (ps := ps) (s0 := s0) e4 rfl ?_ fun he4 => ?_
      · exact State.recvMate_keeps (hp.sub rfl) hs
      refine State.settle_keeps (hp.sub rfl) ?_
      refine On.foldl ?_ ?_
      · exact he4
      · intro x5 x6 h7
        exact State.feedCell_keeps (hp.sub rfl) h7

end Sys2Proof.Machine
end

