-- ==== Sys2Proof/Laws/KeepsRegisters.lean ====
section
/-! SUPPORT. Sys2Proof/Laws/KeepsRegisters.lean: what the operations of Machine/Registers.lean keep, whatever they do. -/

namespace Sys2Proof.Machine

theorem State.writeWindowReg_keeps {s0 : State} {ps : Nat} {s : State} {w : Nat} {off : Nat} {v : Nat} (hp : Covers ps 0xfffffffffffffffffffffffffffffffffffffffffffffffffffffffffffffffffffffffffff) (hs : On inS ps s0 s) :
    On inS ps s0 (State.writeWindowReg s w off v) := by
  delta State.writeWindowReg
  extract_lets +onlyGivenNames z1
  clear_value z1
  split
  · rename_i x2
    extract_lets +onlyGivenNames z3
    clear_value (ez3 : z3 = _)
    refine On.letS (ps := ps) (s0 := s0) ez3 ?_ fun hz3 => ?_
    · exact State.setWindow_keeps (hp.sub rfl) hs
    refine On.ite ?_ ?_
    · exact State.winGo_keeps (hp.sub rfl) hz3
    · exact hz3
  · rename_i x4
    exact State.setWindow_keeps (hp.sub rfl) hs
  · rename_i x5
    exact State.setWindow_keeps (hp.sub rfl) hs
  · rename_i x6
    exact State.setWindow_keeps (hp.sub rfl) hs
  · rename_i x7
    exact State.setWindow_keeps (hp.sub rfl) hs
  · rename_i x8
    exact State.setWindow_keeps (hp.sub rfl) hs
  · rename_i x9 e10 e11 e12 e13 e14 e15
    exact hs

theorem State.writeWindow_keeps {s0 : State} {ps : Nat} {s : State} {w : Nat} {off : Nat} {bytes : List Byte} (hp : Covers ps 0xfffffffffffffffffffffffffffffffffffffffffffffffffffffffffffffffffffffffffff) (hs : On inS ps s0 s) :
    On inS ps s0 (State.writeWindow s w off bytes) := by
  delta State.writeWindow
  refine On.ite ?_ ?_
  · extract_lets +onlyGivenNames z1 z2
    clear_value z1 z2
    exact State.setWindow_keeps (hp.sub rfl) hs
  · exact State.writeWindowReg_keeps (hp.sub rfl) hs

theorem State.writeMbStatus_keeps {s0 : State} {ps : Nat} {s : State} {m : Nat} {d : Nat} {v : Nat} (hp : Covers ps 0x1000) (hs : On inS ps s0 s) :
    On inS ps s0 (State.writeMbStatus s m d v) := by
  delta State.writeMbStatus
  extract_lets +onlyGivenNames z1 z2
  clear_value z1 z2
  exact State.setMailbox_keeps (hp.sub rfl) hs

theorem State.writeMsix_keeps {s0 : State} {ps : Nat} {s : State} {off : Nat} {bytes : List Byte} (hp : Covers ps 0x21000) (hs : On inS ps s0 s) :
    On inS ps s0 (State.writeMsix s off bytes) := by
  delta State.writeMsix
  extract_lets +onlyGivenNames z1 z2 z3
  clear_value z1 z2 z3
  extract_lets +onlyGivenNames z4
  clear_value (ez4 : z4 = _)
  refine On.letS (ps := ps) (s0 := s0) ez4 ?_ fun hz4 => ?_
  · refine On.mk (s := s) ?_ .k .k .k .k .k .k .k .k .k .k .k .k (.c (hp.sub rfl)) .k .k .k .k
    exact hs
  refine On.ite ?_ ?_
  · refine State.emit_keeps (hp.sub rfl) ?_
    refine On.mk (s := z4) ?_ .k .k .k .k .k .k .k .k .k .k .k .k (.c (hp.sub rfl)) .k .k .k .k
    exact hz4
  · exact hz4

theorem State.writeBar_keeps {s0 : State} {ps : Nat} {s : State} {bar : Nat} {off : Nat} {bytes : List Byte} (hp : Covers ps 0xfffffffffffffffffffffffffffffffffffffffffffffffffffffffffffffffffffffffffff) (hs : On inS ps s0 s) :
    On inS ps s0 (State.writeBar s bar off bytes) := by
  delta State.writeBar
  refine On.ite ?_ ?_
  · exact hs
  · refine On.ite ?_ ?_
    · exact State.bump_keeps (hp.sub rfl) (hp.sub rfl) hs
    · refine On.ite ?_ ?_
      · exact State.writeWindow_keeps (hp.sub rfl) hs
      · refine On.ite ?_ ?_
        · exact State.writeMbStatus_keeps (hp.sub rfl) hs
        · refine On.ite ?_ ?_
          · exact State.writeMsix_keeps (hp.sub rfl) hs
          · exact hs

theorem execRegisterWrite_keeps {s0 : State} {ps : Nat} {w : RegWrite} {s : State} (hp : Covers ps 0xfffffffffffffffffffffffffffffffffffffffffffffffffffffffffffffffffffffffffff) (hs : On inS ps s0 s) :
    On inNext ps s0 (execRegisterWrite w s) := by
  delta execRegisterWrite
  refine On.next ?_
  split
  · rename_i x1 x2 x3 x4 x5
    exact State.runDirect_keeps (hp.sub rfl) hs
  · rename_i x6 x7 x8 x9
    exact State.writeBar_keeps (hp.sub rfl) hs

end Sys2Proof.Machine
end

