-- ==== Sys2Proof/Laws/KeepsSpill.lean ====
section
/-! SUPPORT. Sys2Proof/Laws/KeepsSpill.lean: what the operations of Machine/Spill.lean keep, whatever they do. -/

namespace Sys2Proof.Machine

theorem execSpillSegmentStart_keeps {s0 : State} {ps : Nat} {s : State} (hp : Covers ps 0x2000000000000000000000000000000100480) (hs : On inS ps s0 s) :
    On inNext ps s0 (execSpillSegmentStart s) := by
  delta execSpillSegmentStart
  refine On.next ?_
  extract_lets +onlyGivenNames z1 z2
  clear_value z1 z2
  extract_lets +onlyGivenNames z3
  clear_value (ez3 : z3 = _)
  refine On.letS (ps := ps) (s0 := s0) ez3 ?_ fun hz3 => ?_
  · refine On.mk (s := s) ?_ .k .k .k .k .k .k .k (.c (hp.sub rfl)) .k .k .k .k .k .k .k .k .k
    exact hs
  refine On.ite ?_ ?_
  · exact hz3
  · split
    · rename_i x4 e5
      exact hz3
    · rename_i x6 x7 x8 e9
      extract_lets +onlyGivenNames z10 z11 z12
      clear_value z10 z11 z12
      extract_lets +onlyGivenNames z13
      clear_value (ez13 : z13 = _)
      refine On.letS (ps := ps) (s0 := s0) ez13 ?_ fun hz13 => ?_
      · exact State.setQueue_keeps (hp.sub rfl) hz3
      refine State.segmentAccess_keeps (hp.sub rfl) ?_
      refine State.touchHbm_keeps (hp.sub rfl) ?_
      refine On.mk (s := z13) ?_ .k .k .k .k .k .k .k (.c (hp.sub rfl)) .k .k .k .k .k .k .k .k .k
      exact hz13

theorem execSpillWriteDone_keeps {s0 : State} {ps : Nat} {seg : Nat} {s : State} (hp : Covers ps 0x3000000000000000000000000000000100480) (hs : On inS ps s0 s) :
    On inNext ps s0 (execSpillWriteDone seg s) := by
  delta execSpillWriteDone
  refine On.next ?_
  split
  · rename_i x1 e2
    exact hs
  · rename_i x3 x4 x5 e6
    extract_lets +onlyGivenNames z7 z8
    clear_value z7 z8
    extract_lets +onlyGivenNames z9
    clear_value (ez9 : z9 = _)
    refine On.letS (ps := ps) (s0 := s0) ez9 ?_ fun hz9 => ?_
    · exact State.giveBack_keeps (hp.sub rfl) (State.setQueue_keeps (hp.sub rfl) hs)
    extract_lets +onlyGivenNames z10
    clear_value (ez10 : z10 = _)
    refine On.letS (ps := ps) (s0 := s0) ez10 ?_ fun hz10 => ?_
    · exact State.bump_keeps (hp.sub rfl) (hp.sub rfl) hz9
    refine State.startReadback_keeps (hp.sub rfl) ?_
    refine On.mk (s := z10) ?_ .k .k .k .k .k .k .k (.c (hp.sub rfl)) .k .k .k .k .k .k .k .k .k
    exact hz10

theorem execReadbackDone_keeps {s0 : State} {ps : Nat} {seg : Nat} {corrected : List Nat} {bad : List Nat} {lost : List Nat} {descr : Bool} {s : State} (hp : Covers ps 0x1010100000000000100000003000000000000000600030000000003f3f682) (hs : On inS ps s0 s) :
    On inNext ps s0 (execReadbackDone seg corrected bad lost descr s) := by
  delta execReadbackDone
  refine On.next ?_
  split
  · rename_i x1 e2
    exact hs
  · rename_i x3 x4 x5 e6
    extract_lets +onlyGivenNames z7 z8 z9
    clear_value z7 z8 z9
    extract_lets +onlyGivenNames z10
    clear_value (ez10 : z10 = _)
    refine On.letS (ps := ps) (s0 := s0) ez10 ?_ fun hz10 => ?_
    · exact State.bump_keeps (hp.sub rfl) (hp.sub rfl) (State.setQueue_keeps (hp.sub rfl) hs)
    extract_lets +onlyGivenNames z11
    clear_value (ez11 : z11 = _)
    refine On.letS (ps := ps) (s0 := s0) ez11 ?_ fun hz11 => ?_
    · exact State.losePackets_keeps (hp.sub rfl) hz10
    extract_lets +onlyGivenNames z12
    clear_value z12
    extract_lets +onlyGivenNames z13
    clear_value (ez13 : z13 = _)
    refine On.letS (ps := ps) (s0 := s0) ez13 ?_ fun hz13 => ?_
    · refine On.ite ?_ ?_
      · exact State.goStale_keeps (hp.sub rfl) hz11
      · exact hz11
    extract_lets +onlyGivenNames z14
    clear_value (ez14 : z14 = _)
    refine On.letS (ps := ps) (s0 := s0) ez14 ?_ fun hz14 => ?_
    · exact State.readErrors_keeps (hp.sub rfl) hz13
    exact State.startReadback_keeps (hp.sub rfl) hz14

end Sys2Proof.Machine
end

