-- ==== Sys2Proof/Laws/State.lean ====
section
/-! SUPPORT. Sys2Proof/Laws/State.lean: what each update of the state leaves as it was, field by field, and what it is read back as. -/

namespace Sys2Proof.Machine

variable (s : State)

@[simp] theorem State.setReg_fields (i j v : Nat) :
    (s.setReg i j v).pending = s.pending ∧ (s.setReg i j v).now = s.now ∧ (s.setReg i j v).octs = s.octs ∧
    (s.setReg i j v).gens = s.gens ∧ (s.setReg i j v).acc = s.acc ∧ (s.setReg i j v).power = s.power ∧ (s.setReg i j v).fw = s.fw ∧
    (s.setReg i j v).epochs = s.epochs ∧ (s.setReg i j v).tables = s.tables ∧ (s.setReg i j v).slices = s.slices ∧
    (s.setReg i j v).meters = s.meters ∧ (s.setReg i j v).tm = s.tm ∧ (s.setReg i j v).fab = s.fab ∧ (s.setReg i j v).pair = s.pair ∧
    (s.setReg i j v).hbm = s.hbm ∧ (s.setReg i j v).ports = s.ports ∧ (s.setReg i j v).host = s.host ∧
    (s.setReg i j v).stewards = s.stewards ∧ (s.setReg i j v).stats = s.stats ∧ (s.setReg i j v).test = s.test ∧
    (s.setReg i j v).draws = s.draws ∧ (s.setReg i j v).out = s.out ∧ (∀ a b, (s.setReg i j v).oct a b = s.oct a b) ∧
    (s.setReg i j v).mode = s.mode ∧ (∀ a b, (s.setReg i j v).gen a b = s.gen a b) := by
  refine ⟨rfl, rfl, rfl, rfl, rfl, rfl, rfl, rfl, rfl, rfl, rfl, rfl, rfl, rfl, rfl, rfl, rfl, rfl, rfl, rfl, rfl, rfl, fun _ _ => rfl, rfl, fun _ _ => rfl⟩

@[simp] theorem State.setOct_fields (i j : Nat) (v : List Byte) :
    (s.setOct i j v).pending = s.pending ∧ (s.setOct i j v).now = s.now ∧ (s.setOct i j v).objs = s.objs ∧
    (s.setOct i j v).gens = s.gens ∧ (s.setOct i j v).acc = s.acc ∧ (s.setOct i j v).power = s.power ∧ (s.setOct i j v).fw = s.fw ∧
    (s.setOct i j v).epochs = s.epochs ∧ (s.setOct i j v).tables = s.tables ∧ (s.setOct i j v).slices = s.slices ∧
    (s.setOct i j v).meters = s.meters ∧ (s.setOct i j v).tm = s.tm ∧ (s.setOct i j v).fab = s.fab ∧ (s.setOct i j v).pair = s.pair ∧
    (s.setOct i j v).hbm = s.hbm ∧ (s.setOct i j v).ports = s.ports ∧ (s.setOct i j v).host = s.host ∧
    (s.setOct i j v).stewards = s.stewards ∧ (s.setOct i j v).stats = s.stats ∧ (s.setOct i j v).test = s.test ∧
    (s.setOct i j v).draws = s.draws ∧ (s.setOct i j v).out = s.out ∧ (∀ a b, (s.setOct i j v).reg a b = s.reg a b) ∧
    (s.setOct i j v).mode = s.mode ∧ (∀ a b, (s.setOct i j v).gen a b = s.gen a b) := by
  refine ⟨rfl, rfl, rfl, rfl, rfl, rfl, rfl, rfl, rfl, rfl, rfl, rfl, rfl, rfl, rfl, rfl, rfl, rfl, rfl, rfl, rfl, rfl, fun _ _ => rfl, rfl, fun _ _ => rfl⟩

@[simp] theorem State.nextGen_fields (k i : Nat) :
    (s.nextGen k i).pending = s.pending ∧ (s.nextGen k i).now = s.now ∧ (s.nextGen k i).objs = s.objs ∧ (s.nextGen k i).octs = s.octs ∧
    (s.nextGen k i).acc = s.acc ∧ (s.nextGen k i).power = s.power ∧ (s.nextGen k i).fw = s.fw ∧ (s.nextGen k i).epochs = s.epochs ∧
    (s.nextGen k i).tables = s.tables ∧ (s.nextGen k i).slices = s.slices ∧ (s.nextGen k i).meters = s.meters ∧
    (s.nextGen k i).tm = s.tm ∧ (s.nextGen k i).fab = s.fab ∧ (s.nextGen k i).pair = s.pair ∧ (s.nextGen k i).hbm = s.hbm ∧
    (s.nextGen k i).ports = s.ports ∧ (s.nextGen k i).host = s.host ∧ (s.nextGen k i).stewards = s.stewards ∧
    (s.nextGen k i).stats = s.stats ∧ (s.nextGen k i).test = s.test ∧ (s.nextGen k i).draws = s.draws ∧ (s.nextGen k i).out = s.out ∧
    (∀ a b, (s.nextGen k i).reg a b = s.reg a b) ∧ (∀ a b, (s.nextGen k i).oct a b = s.oct a b) ∧ (s.nextGen k i).mode = s.mode := by
  refine ⟨rfl, rfl, rfl, rfl, rfl, rfl, rfl, rfl, rfl, rfl, rfl, rfl, rfl, rfl, rfl, rfl, rfl, rfl, rfl, rfl, rfl, rfl, fun _ _ => rfl, fun _ _ => rfl, rfl⟩

@[simp] theorem State.reach_fields (x : Nat) :
    (s.reach x).pending = s.pending ∧ (s.reach x).objs = s.objs ∧ (s.reach x).octs = s.octs ∧ (s.reach x).gens = s.gens ∧
    (s.reach x).acc = s.acc ∧ (s.reach x).power = s.power ∧ (s.reach x).fw = s.fw ∧ (s.reach x).epochs = s.epochs ∧
    (s.reach x).tables = s.tables ∧ (s.reach x).slices = s.slices ∧ (s.reach x).meters = s.meters ∧ (s.reach x).tm = s.tm ∧
    (s.reach x).fab = s.fab ∧ (s.reach x).pair = s.pair ∧ (s.reach x).hbm = s.hbm ∧ (s.reach x).ports = s.ports ∧
    (s.reach x).host = s.host ∧ (s.reach x).stewards = s.stewards ∧ (s.reach x).stats = s.stats ∧ (s.reach x).test = s.test ∧
    (s.reach x).draws = s.draws ∧ (s.reach x).out = s.out ∧ (∀ a b, (s.reach x).reg a b = s.reg a b) ∧
    (∀ a b, (s.reach x).oct a b = s.oct a b) ∧ (s.reach x).mode = s.mode ∧ (∀ a b, (s.reach x).gen a b = s.gen a b) := by
  refine ⟨rfl, rfl, rfl, rfl, rfl, rfl, rfl, rfl, rfl, rfl, rfl, rfl, rfl, rfl, rfl, rfl, rfl, rfl, rfl, rfl, rfl, rfl, fun _ _ => rfl, fun _ _ => rfl, rfl, fun _ _ => rfl⟩

@[simp] theorem State.emit_fields (o : Output) :
    (s.emit o).pending = s.pending ∧ (s.emit o).now = s.now ∧ (s.emit o).objs = s.objs ∧ (s.emit o).octs = s.octs ∧
    (s.emit o).gens = s.gens ∧ (s.emit o).acc = s.acc ∧ (s.emit o).power = s.power ∧ (s.emit o).fw = s.fw ∧
    (s.emit o).epochs = s.epochs ∧ (s.emit o).tables = s.tables ∧ (s.emit o).slices = s.slices ∧ (s.emit o).meters = s.meters ∧
    (s.emit o).tm = s.tm ∧ (s.emit o).fab = s.fab ∧ (s.emit o).pair = s.pair ∧ (s.emit o).hbm = s.hbm ∧ (s.emit o).ports = s.ports ∧
    (s.emit o).host = s.host ∧ (s.emit o).stewards = s.stewards ∧ (s.emit o).stats = s.stats ∧ (s.emit o).test = s.test ∧
    (s.emit o).draws = s.draws ∧ (∀ a b, (s.emit o).reg a b = s.reg a b) ∧ (∀ a b, (s.emit o).oct a b = s.oct a b) ∧
    (s.emit o).mode = s.mode ∧ (∀ a b, (s.emit o).gen a b = s.gen a b) := by
  refine ⟨rfl, rfl, rfl, rfl, rfl, rfl, rfl, rfl, rfl, rfl, rfl, rfl, rfl, rfl, rfl, rfl, rfl, rfl, rfl, rfl, rfl, rfl, fun _ _ => rfl, fun _ _ => rfl, rfl, fun _ _ => rfl⟩

@[simp] theorem State.setClock_fields (v : Nat) :
    (s.setClock v).pending = s.pending ∧ (s.setClock v).now = s.now ∧ (s.setClock v).objs = s.objs ∧ (s.setClock v).octs = s.octs ∧
    (s.setClock v).gens = s.gens ∧ (s.setClock v).acc = s.acc ∧ (s.setClock v).power = s.power ∧ (s.setClock v).fw = s.fw ∧
    (s.setClock v).epochs = s.epochs ∧ (s.setClock v).tables = s.tables ∧ (s.setClock v).slices = s.slices ∧
    (s.setClock v).meters = s.meters ∧ (s.setClock v).tm = s.tm ∧ (s.setClock v).fab = s.fab ∧ (s.setClock v).pair = s.pair ∧
    (s.setClock v).hbm = s.hbm ∧ (s.setClock v).host = s.host ∧ (s.setClock v).stewards = s.stewards ∧ (s.setClock v).stats = s.stats ∧
    (s.setClock v).test = s.test ∧ (s.setClock v).draws = s.draws ∧ (s.setClock v).out = s.out ∧
    (∀ a b, (s.setClock v).reg a b = s.reg a b) ∧ (∀ a b, (s.setClock v).oct a b = s.oct a b) ∧ (s.setClock v).mode = s.mode ∧
    (∀ a b, (s.setClock v).gen a b = s.gen a b) := by
  refine ⟨rfl, rfl, rfl, rfl, rfl, rfl, rfl, rfl, rfl, rfl, rfl, rfl, rfl, rfl, rfl, rfl, rfl, rfl, rfl, rfl, rfl, rfl, fun _ _ => rfl, fun _ _ => rfl, rfl, fun _ _ => rfl⟩

@[simp] theorem State.setThread_fields (t : Nat) (x : Thread) :
    (s.setThread t x).pending = s.pending ∧ (s.setThread t x).now = s.now ∧ (s.setThread t x).objs = s.objs ∧
    (s.setThread t x).octs = s.octs ∧ (s.setThread t x).gens = s.gens ∧ (s.setThread t x).acc = s.acc ∧
    (s.setThread t x).power = s.power ∧ (s.setThread t x).fw = s.fw ∧ (s.setThread t x).epochs = s.epochs ∧
    (s.setThread t x).tables = s.tables ∧ (s.setThread t x).slices = s.slices ∧ (s.setThread t x).meters = s.meters ∧
    (s.setThread t x).tm = s.tm ∧ (s.setThread t x).fab = s.fab ∧ (s.setThread t x).pair = s.pair ∧ (s.setThread t x).hbm = s.hbm ∧
    (s.setThread t x).ports = s.ports ∧ (s.setThread t x).host = s.host ∧ (s.setThread t x).stats = s.stats ∧
    (s.setThread t x).test = s.test ∧ (s.setThread t x).draws = s.draws ∧ (s.setThread t x).out = s.out ∧
    (∀ a b, (s.setThread t x).reg a b = s.reg a b) ∧ (∀ a b, (s.setThread t x).oct a b = s.oct a b) ∧ (s.setThread t x).mode = s.mode ∧
    (∀ a b, (s.setThread t x).gen a b = s.gen a b) := by
  refine ⟨rfl, rfl, rfl, rfl, rfl, rfl, rfl, rfl, rfl, rfl, rfl, rfl, rfl, rfl, rfl, rfl, rfl, rfl, rfl, rfl, rfl, rfl, fun _ _ => rfl, fun _ _ => rfl, rfl, fun _ _ => rfl⟩

@[simp] theorem State.setThread_thread (t : Nat) (x : Thread) : (s.setThread t x).thread t = x := by
  simp [State.setThread, State.thread, mgetD, mget_mput_same]

theorem State.setThread_thread_other (t : Nat) (x : Thread) {n : Nat} (h : n ≠ t) : (s.setThread t x).thread n = s.thread n := by
  simp [State.setThread, State.thread, mgetD, mget_mput_other h]

@[simp] theorem State.setDoorbell_fields (k : Nat) (x : DoorbellSet) :
    (s.setDoorbell k x).pending = s.pending ∧ (s.setDoorbell k x).now = s.now ∧ (s.setDoorbell k x).objs = s.objs ∧
    (s.setDoorbell k x).octs = s.octs ∧ (s.setDoorbell k x).gens = s.gens ∧ (s.setDoorbell k x).acc = s.acc ∧
    (s.setDoorbell k x).power = s.power ∧ (s.setDoorbell k x).fw = s.fw ∧ (s.setDoorbell k x).epochs = s.epochs ∧
    (s.setDoorbell k x).tables = s.tables ∧ (s.setDoorbell k x).slices = s.slices ∧ (s.setDoorbell k x).meters = s.meters ∧
    (s.setDoorbell k x).tm = s.tm ∧ (s.setDoorbell k x).fab = s.fab ∧ (s.setDoorbell k x).pair = s.pair ∧
    (s.setDoorbell k x).hbm = s.hbm ∧ (s.setDoorbell k x).ports = s.ports ∧ (s.setDoorbell k x).stewards = s.stewards ∧
    (s.setDoorbell k x).stats = s.stats ∧ (s.setDoorbell k x).test = s.test ∧ (s.setDoorbell k x).draws = s.draws ∧
    (s.setDoorbell k x).out = s.out ∧ (∀ a b, (s.setDoorbell k x).reg a b = s.reg a b) ∧
    (∀ a b, (s.setDoorbell k x).oct a b = s.oct a b) ∧ (s.setDoorbell k x).mode = s.mode ∧
    (∀ a b, (s.setDoorbell k x).gen a b = s.gen a b) := by
  refine ⟨rfl, rfl, rfl, rfl, rfl, rfl, rfl, rfl, rfl, rfl, rfl, rfl, rfl, rfl, rfl, rfl, rfl, rfl, rfl, rfl, rfl, rfl, fun _ _ => rfl, fun _ _ => rfl, rfl, fun _ _ => rfl⟩

@[simp] theorem State.setDoorbell_doorbell (k : Nat) (x : DoorbellSet) : (s.setDoorbell k x).doorbell k = x := by
  simp [State.setDoorbell, State.doorbell, mgetD, mget_mput_same]

theorem State.setDoorbell_doorbell_other (k : Nat) (x : DoorbellSet) {n : Nat} (h : n ≠ k) : (s.setDoorbell k x).doorbell n = s.doorbell n := by
  simp [State.setDoorbell, State.doorbell, mgetD, mget_mput_other h]

@[simp] theorem State.setHealth_fields (l : List (List Byte)) (q : Nat) :
    (s.setHealth l q).pending = s.pending ∧ (s.setHealth l q).now = s.now ∧ (s.setHealth l q).objs = s.objs ∧
    (s.setHealth l q).octs = s.octs ∧ (s.setHealth l q).gens = s.gens ∧ (s.setHealth l q).acc = s.acc ∧
    (s.setHealth l q).power = s.power ∧ (s.setHealth l q).fw = s.fw ∧ (s.setHealth l q).epochs = s.epochs ∧
    (s.setHealth l q).tables = s.tables ∧ (s.setHealth l q).slices = s.slices ∧ (s.setHealth l q).meters = s.meters ∧
    (s.setHealth l q).tm = s.tm ∧ (s.setHealth l q).fab = s.fab ∧ (s.setHealth l q).pair = s.pair ∧ (s.setHealth l q).hbm = s.hbm ∧
    (s.setHealth l q).ports = s.ports ∧ (s.setHealth l q).host = s.host ∧ (s.setHealth l q).stewards = s.stewards ∧
    (s.setHealth l q).stats = s.stats ∧ (s.setHealth l q).draws = s.draws ∧ (s.setHealth l q).out = s.out ∧
    (∀ a b, (s.setHealth l q).reg a b = s.reg a b) ∧ (∀ a b, (s.setHealth l q).oct a b = s.oct a b) ∧ (s.setHealth l q).mode = s.mode ∧
    (∀ a b, (s.setHealth l q).gen a b = s.gen a b) := by
  refine ⟨rfl, rfl, rfl, rfl, rfl, rfl, rfl, rfl, rfl, rfl, rfl, rfl, rfl, rfl, rfl, rfl, rfl, rfl, rfl, rfl, rfl, rfl, fun _ _ => rfl, fun _ _ => rfl, rfl, fun _ _ => rfl⟩

@[simp] theorem State.setFaults_fields (l w : List (List Byte)) :
    (s.setFaults l w).pending = s.pending ∧ (s.setFaults l w).now = s.now ∧ (s.setFaults l w).objs = s.objs ∧
    (s.setFaults l w).octs = s.octs ∧ (s.setFaults l w).gens = s.gens ∧ (s.setFaults l w).acc = s.acc ∧
    (s.setFaults l w).power = s.power ∧ (s.setFaults l w).epochs = s.epochs ∧ (s.setFaults l w).tables = s.tables ∧
    (s.setFaults l w).slices = s.slices ∧ (s.setFaults l w).meters = s.meters ∧ (s.setFaults l w).tm = s.tm ∧
    (s.setFaults l w).fab = s.fab ∧ (s.setFaults l w).pair = s.pair ∧ (s.setFaults l w).hbm = s.hbm ∧ (s.setFaults l w).ports = s.ports ∧
    (s.setFaults l w).host = s.host ∧ (s.setFaults l w).stewards = s.stewards ∧ (s.setFaults l w).stats = s.stats ∧
    (s.setFaults l w).test = s.test ∧ (s.setFaults l w).draws = s.draws ∧ (s.setFaults l w).out = s.out ∧
    (∀ a b, (s.setFaults l w).reg a b = s.reg a b) ∧ (∀ a b, (s.setFaults l w).oct a b = s.oct a b) ∧ (s.setFaults l w).mode = s.mode ∧
    (∀ a b, (s.setFaults l w).gen a b = s.gen a b) := by
  refine ⟨rfl, rfl, rfl, rfl, rfl, rfl, rfl, rfl, rfl, rfl, rfl, rfl, rfl, rfl, rfl, rfl, rfl, rfl, rfl, rfl, rfl, rfl, fun _ _ => rfl, fun _ _ => rfl, rfl, fun _ _ => rfl⟩

@[simp] theorem State.answer_fields (o : Origin) (x : OpAns) :
    (s.answer o x).pending = s.pending ∧ (s.answer o x).now = s.now ∧ (s.answer o x).objs = s.objs ∧ (s.answer o x).octs = s.octs ∧
    (s.answer o x).gens = s.gens ∧ (s.answer o x).power = s.power ∧ (s.answer o x).fw = s.fw ∧ (s.answer o x).epochs = s.epochs ∧
    (s.answer o x).tables = s.tables ∧ (s.answer o x).slices = s.slices ∧ (s.answer o x).meters = s.meters ∧ (s.answer o x).tm = s.tm ∧
    (s.answer o x).fab = s.fab ∧ (s.answer o x).pair = s.pair ∧ (s.answer o x).hbm = s.hbm ∧ (s.answer o x).ports = s.ports ∧
    (s.answer o x).host = s.host ∧ (s.answer o x).stewards = s.stewards ∧ (s.answer o x).stats = s.stats ∧ (s.answer o x).test = s.test ∧
    (s.answer o x).draws = s.draws ∧ (s.answer o x).out = s.out ∧ (∀ a b, (s.answer o x).reg a b = s.reg a b) ∧
    (∀ a b, (s.answer o x).oct a b = s.oct a b) ∧ (s.answer o x).mode = s.mode ∧ (∀ a b, (s.answer o x).gen a b = s.gen a b) := by
  refine ⟨rfl, rfl, rfl, rfl, rfl, rfl, rfl, rfl, rfl, rfl, rfl, rfl, rfl, rfl, rfl, rfl, rfl, rfl, rfl, rfl, rfl, rfl, fun _ _ => rfl, fun _ _ => rfl, rfl, fun _ _ => rfl⟩

@[simp] theorem State.noteOutcome_fields (o : Origin) (i j : Nat) (x : Status) :
    (s.noteOutcome o i j x).pending = s.pending ∧ (s.noteOutcome o i j x).now = s.now ∧ (s.noteOutcome o i j x).objs = s.objs ∧
    (s.noteOutcome o i j x).octs = s.octs ∧ (s.noteOutcome o i j x).gens = s.gens ∧ (s.noteOutcome o i j x).power = s.power ∧
    (s.noteOutcome o i j x).fw = s.fw ∧ (s.noteOutcome o i j x).epochs = s.epochs ∧ (s.noteOutcome o i j x).tables = s.tables ∧
    (s.noteOutcome o i j x).slices = s.slices ∧ (s.noteOutcome o i j x).meters = s.meters ∧ (s.noteOutcome o i j x).tm = s.tm ∧
    (s.noteOutcome o i j x).fab = s.fab ∧ (s.noteOutcome o i j x).pair = s.pair ∧ (s.noteOutcome o i j x).hbm = s.hbm ∧
    (s.noteOutcome o i j x).ports = s.ports ∧ (s.noteOutcome o i j x).host = s.host ∧ (s.noteOutcome o i j x).stewards = s.stewards ∧
    (s.noteOutcome o i j x).stats = s.stats ∧ (s.noteOutcome o i j x).test = s.test ∧ (s.noteOutcome o i j x).draws = s.draws ∧
    (s.noteOutcome o i j x).out = s.out ∧ (∀ a b, (s.noteOutcome o i j x).reg a b = s.reg a b) ∧
    (∀ a b, (s.noteOutcome o i j x).oct a b = s.oct a b) ∧ (s.noteOutcome o i j x).mode = s.mode ∧
    (∀ a b, (s.noteOutcome o i j x).gen a b = s.gen a b) := by
  refine ⟨rfl, rfl, rfl, rfl, rfl, rfl, rfl, rfl, rfl, rfl, rfl, rfl, rfl, rfl, rfl, rfl, rfl, rfl, rfl, rfl, rfl, rfl, fun _ _ => rfl, fun _ _ => rfl, rfl, fun _ _ => rfl⟩

@[simp] theorem State.setResult_fields (o : Origin) (i j : Nat) (x : List Byte) :
    (s.setResult o i j x).pending = s.pending ∧ (s.setResult o i j x).now = s.now ∧ (s.setResult o i j x).objs = s.objs ∧
    (s.setResult o i j x).octs = s.octs ∧ (s.setResult o i j x).gens = s.gens ∧ (s.setResult o i j x).power = s.power ∧
    (s.setResult o i j x).fw = s.fw ∧ (s.setResult o i j x).epochs = s.epochs ∧ (s.setResult o i j x).tables = s.tables ∧
    (s.setResult o i j x).slices = s.slices ∧ (s.setResult o i j x).meters = s.meters ∧ (s.setResult o i j x).tm = s.tm ∧
    (s.setResult o i j x).fab = s.fab ∧ (s.setResult o i j x).pair = s.pair ∧ (s.setResult o i j x).hbm = s.hbm ∧
    (s.setResult o i j x).ports = s.ports ∧ (s.setResult o i j x).host = s.host ∧ (s.setResult o i j x).stewards = s.stewards ∧
    (s.setResult o i j x).stats = s.stats ∧ (s.setResult o i j x).test = s.test ∧ (s.setResult o i j x).draws = s.draws ∧
    (s.setResult o i j x).out = s.out ∧ (∀ a b, (s.setResult o i j x).reg a b = s.reg a b) ∧
    (∀ a b, (s.setResult o i j x).oct a b = s.oct a b) ∧ (s.setResult o i j x).mode = s.mode ∧
    (∀ a b, (s.setResult o i j x).gen a b = s.gen a b) := by
  refine ⟨rfl, rfl, rfl, rfl, rfl, rfl, rfl, rfl, rfl, rfl, rfl, rfl, rfl, rfl, rfl, rfl, rfl, rfl, rfl, rfl, rfl, rfl, fun _ _ => rfl, fun _ _ => rfl, rfl, fun _ _ => rfl⟩

@[simp] theorem State.setBatch_fields (k : Nat) (x : Batch) :
    (s.setBatch k x).pending = s.pending ∧ (s.setBatch k x).now = s.now ∧ (s.setBatch k x).objs = s.objs ∧
    (s.setBatch k x).octs = s.octs ∧ (s.setBatch k x).gens = s.gens ∧ (s.setBatch k x).power = s.power ∧ (s.setBatch k x).fw = s.fw ∧
    (s.setBatch k x).epochs = s.epochs ∧ (s.setBatch k x).tables = s.tables ∧ (s.setBatch k x).slices = s.slices ∧
    (s.setBatch k x).meters = s.meters ∧ (s.setBatch k x).tm = s.tm ∧ (s.setBatch k x).fab = s.fab ∧ (s.setBatch k x).pair = s.pair ∧
    (s.setBatch k x).hbm = s.hbm ∧ (s.setBatch k x).ports = s.ports ∧ (s.setBatch k x).host = s.host ∧
    (s.setBatch k x).stewards = s.stewards ∧ (s.setBatch k x).stats = s.stats ∧ (s.setBatch k x).test = s.test ∧
    (s.setBatch k x).draws = s.draws ∧ (s.setBatch k x).out = s.out ∧ (∀ a b, (s.setBatch k x).reg a b = s.reg a b) ∧
    (∀ a b, (s.setBatch k x).oct a b = s.oct a b) ∧ (s.setBatch k x).mode = s.mode ∧ (∀ a b, (s.setBatch k x).gen a b = s.gen a b) := by
  refine ⟨rfl, rfl, rfl, rfl, rfl, rfl, rfl, rfl, rfl, rfl, rfl, rfl, rfl, rfl, rfl, rfl, rfl, rfl, rfl, rfl, rfl, rfl, fun _ _ => rfl, fun _ _ => rfl, rfl, fun _ _ => rfl⟩

@[simp] theorem State.setBatch_batch (k : Nat) (x : Batch) : (s.setBatch k x).batch k = x := by
  simp [State.setBatch, State.batch, mgetD, mget_mput_same]

theorem State.setBatch_batch_other (k : Nat) (x : Batch) {n : Nat} (h : n ≠ k) : (s.setBatch k x).batch n = s.batch n := by
  simp [State.setBatch, State.batch, mgetD, mget_mput_other h]

@[simp] theorem State.setSession_fields (x : Session) :
    (s.setSession x).pending = s.pending ∧ (s.setSession x).now = s.now ∧ (s.setSession x).objs = s.objs ∧
    (s.setSession x).octs = s.octs ∧ (s.setSession x).gens = s.gens ∧ (s.setSession x).power = s.power ∧ (s.setSession x).fw = s.fw ∧
    (s.setSession x).epochs = s.epochs ∧ (s.setSession x).tables = s.tables ∧ (s.setSession x).slices = s.slices ∧
    (s.setSession x).meters = s.meters ∧ (s.setSession x).tm = s.tm ∧ (s.setSession x).fab = s.fab ∧ (s.setSession x).pair = s.pair ∧
    (s.setSession x).hbm = s.hbm ∧ (s.setSession x).ports = s.ports ∧ (s.setSession x).host = s.host ∧
    (s.setSession x).stewards = s.stewards ∧ (s.setSession x).stats = s.stats ∧ (s.setSession x).test = s.test ∧
    (s.setSession x).draws = s.draws ∧ (s.setSession x).out = s.out ∧ (∀ a b, (s.setSession x).reg a b = s.reg a b) ∧
    (∀ a b, (s.setSession x).oct a b = s.oct a b) ∧ (s.setSession x).mode = s.mode ∧ (∀ a b, (s.setSession x).gen a b = s.gen a b) := by
  refine ⟨rfl, rfl, rfl, rfl, rfl, rfl, rfl, rfl, rfl, rfl, rfl, rfl, rfl, rfl, rfl, rfl, rfl, rfl, rfl, rfl, rfl, rfl, fun _ _ => rfl, fun _ _ => rfl, rfl, fun _ _ => rfl⟩

@[simp] theorem State.setWindow_fields (k : Nat) (x : Window) :
    (s.setWindow k x).pending = s.pending ∧ (s.setWindow k x).now = s.now ∧ (s.setWindow k x).objs = s.objs ∧
    (s.setWindow k x).octs = s.octs ∧ (s.setWindow k x).gens = s.gens ∧ (s.setWindow k x).power = s.power ∧ (s.setWindow k x).fw = s.fw ∧
    (s.setWindow k x).epochs = s.epochs ∧ (s.setWindow k x).tables = s.tables ∧ (s.setWindow k x).slices = s.slices ∧
    (s.setWindow k x).meters = s.meters ∧ (s.setWindow k x).tm = s.tm ∧ (s.setWindow k x).fab = s.fab ∧ (s.setWindow k x).pair = s.pair ∧
    (s.setWindow k x).hbm = s.hbm ∧ (s.setWindow k x).ports = s.ports ∧ (s.setWindow k x).host = s.host ∧
    (s.setWindow k x).stewards = s.stewards ∧ (s.setWindow k x).stats = s.stats ∧ (s.setWindow k x).test = s.test ∧
    (s.setWindow k x).draws = s.draws ∧ (s.setWindow k x).out = s.out ∧ (∀ a b, (s.setWindow k x).reg a b = s.reg a b) ∧
    (∀ a b, (s.setWindow k x).oct a b = s.oct a b) ∧ (s.setWindow k x).mode = s.mode ∧
    (∀ a b, (s.setWindow k x).gen a b = s.gen a b) := by
  refine ⟨rfl, rfl, rfl, rfl, rfl, rfl, rfl, rfl, rfl, rfl, rfl, rfl, rfl, rfl, rfl, rfl, rfl, rfl, rfl, rfl, rfl, rfl, fun _ _ => rfl, fun _ _ => rfl, rfl, fun _ _ => rfl⟩

@[simp] theorem State.setWindow_window (k : Nat) (x : Window) : (s.setWindow k x).window k = x := by
  simp [State.setWindow, State.window, mgetD, mget_mput_same]

theorem State.setWindow_window_other (k : Nat) (x : Window) {n : Nat} (h : n ≠ k) : (s.setWindow k x).window n = s.window n := by
  simp [State.setWindow, State.window, mgetD, mget_mput_other h]

@[simp] theorem State.noteChange_fields (x : Target) :
    (s.noteChange x).pending = s.pending ∧ (s.noteChange x).now = s.now ∧ (s.noteChange x).objs = s.objs ∧
    (s.noteChange x).octs = s.octs ∧ (s.noteChange x).gens = s.gens ∧ (s.noteChange x).acc = s.acc ∧ (s.noteChange x).power = s.power ∧
    (s.noteChange x).fw = s.fw ∧ (s.noteChange x).tables = s.tables ∧ (s.noteChange x).slices = s.slices ∧
    (s.noteChange x).meters = s.meters ∧ (s.noteChange x).tm = s.tm ∧ (s.noteChange x).fab = s.fab ∧ (s.noteChange x).pair = s.pair ∧
    (s.noteChange x).hbm = s.hbm ∧ (s.noteChange x).ports = s.ports ∧ (s.noteChange x).host = s.host ∧
    (s.noteChange x).stewards = s.stewards ∧ (s.noteChange x).stats = s.stats ∧ (s.noteChange x).test = s.test ∧
    (s.noteChange x).draws = s.draws ∧ (s.noteChange x).out = s.out ∧ (∀ a b, (s.noteChange x).reg a b = s.reg a b) ∧
    (∀ a b, (s.noteChange x).oct a b = s.oct a b) ∧ (s.noteChange x).mode = s.mode ∧ (∀ a b, (s.noteChange x).gen a b = s.gen a b) := by
  refine ⟨rfl, rfl, rfl, rfl, rfl, rfl, rfl, rfl, rfl, rfl, rfl, rfl, rfl, rfl, rfl, rfl, rfl, rfl, rfl, rfl, rfl, rfl, fun _ _ => rfl, fun _ _ => rfl, rfl, fun _ _ => rfl⟩

@[simp] theorem State.setStack_fields (k : Nat) (x : Stack) :
    (s.setStack k x).pending = s.pending ∧ (s.setStack k x).now = s.now ∧ (s.setStack k x).objs = s.objs ∧
    (s.setStack k x).octs = s.octs ∧ (s.setStack k x).gens = s.gens ∧ (s.setStack k x).acc = s.acc ∧ (s.setStack k x).power = s.power ∧
    (s.setStack k x).fw = s.fw ∧ (s.setStack k x).epochs = s.epochs ∧ (s.setStack k x).tables = s.tables ∧
    (s.setStack k x).slices = s.slices ∧ (s.setStack k x).meters = s.meters ∧ (s.setStack k x).tm = s.tm ∧ (s.setStack k x).fab = s.fab ∧
    (s.setStack k x).pair = s.pair ∧ (s.setStack k x).ports = s.ports ∧ (s.setStack k x).host = s.host ∧
    (s.setStack k x).stewards = s.stewards ∧ (s.setStack k x).stats = s.stats ∧ (s.setStack k x).test = s.test ∧
    (s.setStack k x).draws = s.draws ∧ (s.setStack k x).out = s.out ∧ (∀ a b, (s.setStack k x).reg a b = s.reg a b) ∧
    (∀ a b, (s.setStack k x).oct a b = s.oct a b) ∧ (s.setStack k x).mode = s.mode ∧ (∀ a b, (s.setStack k x).gen a b = s.gen a b) := by
  refine ⟨rfl, rfl, rfl, rfl, rfl, rfl, rfl, rfl, rfl, rfl, rfl, rfl, rfl, rfl, rfl, rfl, rfl, rfl, rfl, rfl, rfl, rfl, fun _ _ => rfl, fun _ _ => rfl, rfl, fun _ _ => rfl⟩

@[simp] theorem State.setStack_stack (k : Nat) (x : Stack) : (s.setStack k x).stack k = x := by
  simp [State.setStack, State.stack, mgetD, mget_mput_same]

theorem State.setStack_stack_other (k : Nat) (x : Stack) {n : Nat} (h : n ≠ k) : (s.setStack k x).stack n = s.stack n := by
  simp [State.setStack, State.stack, mgetD, mget_mput_other h]

@[simp] theorem State.setPc_fields (k : Nat) (x : PseudoChannel) :
    (s.setPc k x).pending = s.pending ∧ (s.setPc k x).now = s.now ∧ (s.setPc k x).objs = s.objs ∧ (s.setPc k x).octs = s.octs ∧
    (s.setPc k x).gens = s.gens ∧ (s.setPc k x).acc = s.acc ∧ (s.setPc k x).power = s.power ∧ (s.setPc k x).fw = s.fw ∧
    (s.setPc k x).epochs = s.epochs ∧ (s.setPc k x).tables = s.tables ∧ (s.setPc k x).slices = s.slices ∧
    (s.setPc k x).meters = s.meters ∧ (s.setPc k x).tm = s.tm ∧ (s.setPc k x).fab = s.fab ∧ (s.setPc k x).pair = s.pair ∧
    (s.setPc k x).ports = s.ports ∧ (s.setPc k x).host = s.host ∧ (s.setPc k x).stewards = s.stewards ∧ (s.setPc k x).stats = s.stats ∧
    (s.setPc k x).test = s.test ∧ (s.setPc k x).draws = s.draws ∧ (s.setPc k x).out = s.out ∧
    (∀ a b, (s.setPc k x).reg a b = s.reg a b) ∧ (∀ a b, (s.setPc k x).oct a b = s.oct a b) ∧ (s.setPc k x).mode = s.mode ∧
    (∀ a b, (s.setPc k x).gen a b = s.gen a b) := by
  refine ⟨rfl, rfl, rfl, rfl, rfl, rfl, rfl, rfl, rfl, rfl, rfl, rfl, rfl, rfl, rfl, rfl, rfl, rfl, rfl, rfl, rfl, rfl, fun _ _ => rfl, fun _ _ => rfl, rfl, fun _ _ => rfl⟩

@[simp] theorem State.setPc_pc (k : Nat) (x : PseudoChannel) : (s.setPc k x).pc k = x := by
  simp [State.setPc, State.pc, mgetD, mget_mput_same]

theorem State.setPc_pc_other (k : Nat) (x : PseudoChannel) {n : Nat} (h : n ≠ k) : (s.setPc k x).pc n = s.pc n := by
  simp [State.setPc, State.pc, mgetD, mget_mput_other h]

@[simp] theorem State.setTest_fields (k : Nat) (x : PatternTest) :
    (s.setTest k x).pending = s.pending ∧ (s.setTest k x).now = s.now ∧ (s.setTest k x).objs = s.objs ∧ (s.setTest k x).octs = s.octs ∧
    (s.setTest k x).gens = s.gens ∧ (s.setTest k x).acc = s.acc ∧ (s.setTest k x).power = s.power ∧ (s.setTest k x).fw = s.fw ∧
    (s.setTest k x).epochs = s.epochs ∧ (s.setTest k x).tables = s.tables ∧ (s.setTest k x).slices = s.slices ∧
    (s.setTest k x).meters = s.meters ∧ (s.setTest k x).tm = s.tm ∧ (s.setTest k x).fab = s.fab ∧ (s.setTest k x).pair = s.pair ∧
    (s.setTest k x).hbm = s.hbm ∧ (s.setTest k x).ports = s.ports ∧ (s.setTest k x).host = s.host ∧
    (s.setTest k x).stewards = s.stewards ∧ (s.setTest k x).stats = s.stats ∧ (s.setTest k x).draws = s.draws ∧
    (s.setTest k x).out = s.out ∧ (∀ a b, (s.setTest k x).reg a b = s.reg a b) ∧ (∀ a b, (s.setTest k x).oct a b = s.oct a b) ∧
    (s.setTest k x).mode = s.mode ∧ (∀ a b, (s.setTest k x).gen a b = s.gen a b) := by
  refine ⟨rfl, rfl, rfl, rfl, rfl, rfl, rfl, rfl, rfl, rfl, rfl, rfl, rfl, rfl, rfl, rfl, rfl, rfl, rfl, rfl, rfl, rfl, fun _ _ => rfl, fun _ _ => rfl, rfl, fun _ _ => rfl⟩

@[simp] theorem State.setDg_fields (k : Nat) (x : DgGroup) :
    (s.setDg k x).pending = s.pending ∧ (s.setDg k x).now = s.now ∧ (s.setDg k x).objs = s.objs ∧ (s.setDg k x).octs = s.octs ∧
    (s.setDg k x).gens = s.gens ∧ (s.setDg k x).acc = s.acc ∧ (s.setDg k x).power = s.power ∧ (s.setDg k x).fw = s.fw ∧
    (s.setDg k x).epochs = s.epochs ∧ (s.setDg k x).tables = s.tables ∧ (s.setDg k x).slices = s.slices ∧
    (s.setDg k x).meters = s.meters ∧ (s.setDg k x).tm = s.tm ∧ (s.setDg k x).fab = s.fab ∧ (s.setDg k x).pair = s.pair ∧
    (s.setDg k x).hbm = s.hbm ∧ (s.setDg k x).host = s.host ∧ (s.setDg k x).stewards = s.stewards ∧ (s.setDg k x).stats = s.stats ∧
    (s.setDg k x).test = s.test ∧ (s.setDg k x).draws = s.draws ∧ (s.setDg k x).out = s.out ∧
    (∀ a b, (s.setDg k x).reg a b = s.reg a b) ∧ (∀ a b, (s.setDg k x).oct a b = s.oct a b) ∧ (s.setDg k x).mode = s.mode ∧
    (∀ a b, (s.setDg k x).gen a b = s.gen a b) := by
  refine ⟨rfl, rfl, rfl, rfl, rfl, rfl, rfl, rfl, rfl, rfl, rfl, rfl, rfl, rfl, rfl, rfl, rfl, rfl, rfl, rfl, rfl, rfl, fun _ _ => rfl, fun _ _ => rfl, rfl, fun _ _ => rfl⟩

@[simp] theorem State.setDg_dg (k : Nat) (x : DgGroup) : (s.setDg k x).dg k = x := by
  simp [State.setDg, State.dg, mgetD, mget_mput_same]

theorem State.setDg_dg_other (k : Nat) (x : DgGroup) {n : Nat} (h : n ≠ k) : (s.setDg k x).dg n = s.dg n := by
  simp [State.setDg, State.dg, mgetD, mget_mput_other h]

@[simp] theorem State.setPort_fields (k : Nat) (x : Port) :
    (s.setPort k x).pending = s.pending ∧ (s.setPort k x).now = s.now ∧ (s.setPort k x).objs = s.objs ∧ (s.setPort k x).octs = s.octs ∧
    (s.setPort k x).gens = s.gens ∧ (s.setPort k x).acc = s.acc ∧ (s.setPort k x).power = s.power ∧ (s.setPort k x).fw = s.fw ∧
    (s.setPort k x).epochs = s.epochs ∧ (s.setPort k x).tables = s.tables ∧ (s.setPort k x).slices = s.slices ∧
    (s.setPort k x).meters = s.meters ∧ (s.setPort k x).tm = s.tm ∧ (s.setPort k x).fab = s.fab ∧ (s.setPort k x).pair = s.pair ∧
    (s.setPort k x).hbm = s.hbm ∧ (s.setPort k x).host = s.host ∧ (s.setPort k x).stewards = s.stewards ∧
    (s.setPort k x).stats = s.stats ∧ (s.setPort k x).test = s.test ∧ (s.setPort k x).draws = s.draws ∧ (s.setPort k x).out = s.out ∧
    (∀ a b, (s.setPort k x).reg a b = s.reg a b) ∧ (∀ a b, (s.setPort k x).oct a b = s.oct a b) ∧ (s.setPort k x).mode = s.mode ∧
    (∀ a b, (s.setPort k x).gen a b = s.gen a b) := by
  refine ⟨rfl, rfl, rfl, rfl, rfl, rfl, rfl, rfl, rfl, rfl, rfl, rfl, rfl, rfl, rfl, rfl, rfl, rfl, rfl, rfl, rfl, rfl, fun _ _ => rfl, fun _ _ => rfl, rfl, fun _ _ => rfl⟩

@[simp] theorem State.setPort_port (k : Nat) (x : Port) : (s.setPort k x).port k = x := by
  simp [State.setPort, State.port, mgetD, mget_mput_same]

theorem State.setPort_port_other (k : Nat) (x : Port) {n : Nat} (h : n ≠ k) : (s.setPort k x).port n = s.port n := by
  simp [State.setPort, State.port, mgetD, mget_mput_other h]

@[simp] theorem State.setAdapt_fields (k : Nat) (x : LaneAdapt) :
    (s.setAdapt k x).pending = s.pending ∧ (s.setAdapt k x).now = s.now ∧ (s.setAdapt k x).objs = s.objs ∧
    (s.setAdapt k x).octs = s.octs ∧ (s.setAdapt k x).gens = s.gens ∧ (s.setAdapt k x).acc = s.acc ∧ (s.setAdapt k x).power = s.power ∧
    (s.setAdapt k x).fw = s.fw ∧ (s.setAdapt k x).epochs = s.epochs ∧ (s.setAdapt k x).tables = s.tables ∧
    (s.setAdapt k x).slices = s.slices ∧ (s.setAdapt k x).meters = s.meters ∧ (s.setAdapt k x).tm = s.tm ∧ (s.setAdapt k x).fab = s.fab ∧
    (s.setAdapt k x).pair = s.pair ∧ (s.setAdapt k x).hbm = s.hbm ∧ (s.setAdapt k x).host = s.host ∧
    (s.setAdapt k x).stewards = s.stewards ∧ (s.setAdapt k x).stats = s.stats ∧ (s.setAdapt k x).test = s.test ∧
    (s.setAdapt k x).draws = s.draws ∧ (s.setAdapt k x).out = s.out ∧ (∀ a b, (s.setAdapt k x).reg a b = s.reg a b) ∧
    (∀ a b, (s.setAdapt k x).oct a b = s.oct a b) ∧ (s.setAdapt k x).mode = s.mode ∧ (∀ a b, (s.setAdapt k x).gen a b = s.gen a b) := by
  refine ⟨rfl, rfl, rfl, rfl, rfl, rfl, rfl, rfl, rfl, rfl, rfl, rfl, rfl, rfl, rfl, rfl, rfl, rfl, rfl, rfl, rfl, rfl, fun _ _ => rfl, fun _ _ => rfl, rfl, fun _ _ => rfl⟩

@[simp] theorem State.setAdapt_adapt (k : Nat) (x : LaneAdapt) : (s.setAdapt k x).adapt k = x := by
  simp [State.setAdapt, State.adapt, mgetD, mget_mput_same]

theorem State.setAdapt_adapt_other (k : Nat) (x : LaneAdapt) {n : Nat} (h : n ≠ k) : (s.setAdapt k x).adapt n = s.adapt n := by
  simp [State.setAdapt, State.adapt, mgetD, mget_mput_other h]

@[simp] theorem State.setLink_fields (k : Nat) (x : Link) :
    (s.setLink k x).pending = s.pending ∧ (s.setLink k x).now = s.now ∧ (s.setLink k x).objs = s.objs ∧ (s.setLink k x).octs = s.octs ∧
    (s.setLink k x).gens = s.gens ∧ (s.setLink k x).acc = s.acc ∧ (s.setLink k x).power = s.power ∧ (s.setLink k x).fw = s.fw ∧
    (s.setLink k x).epochs = s.epochs ∧ (s.setLink k x).tables = s.tables ∧ (s.setLink k x).slices = s.slices ∧
    (s.setLink k x).meters = s.meters ∧ (s.setLink k x).tm = s.tm ∧ (s.setLink k x).pair = s.pair ∧ (s.setLink k x).hbm = s.hbm ∧
    (s.setLink k x).ports = s.ports ∧ (s.setLink k x).host = s.host ∧ (s.setLink k x).stewards = s.stewards ∧
    (s.setLink k x).stats = s.stats ∧ (s.setLink k x).test = s.test ∧ (s.setLink k x).draws = s.draws ∧ (s.setLink k x).out = s.out ∧
    (∀ a b, (s.setLink k x).reg a b = s.reg a b) ∧ (∀ a b, (s.setLink k x).oct a b = s.oct a b) ∧ (s.setLink k x).mode = s.mode ∧
    (∀ a b, (s.setLink k x).gen a b = s.gen a b) := by
  refine ⟨rfl, rfl, rfl, rfl, rfl, rfl, rfl, rfl, rfl, rfl, rfl, rfl, rfl, rfl, rfl, rfl, rfl, rfl, rfl, rfl, rfl, rfl, fun _ _ => rfl, fun _ _ => rfl, rfl, fun _ _ => rfl⟩

@[simp] theorem State.setLink_link (k : Nat) (x : Link) : (s.setLink k x).link k = x := by
  simp [State.setLink, State.link, mgetD, mget_mput_same]

theorem State.setLink_link_other (k : Nat) (x : Link) {n : Nat} (h : n ≠ k) : (s.setLink k x).link n = s.link n := by
  simp [State.setLink, State.link, mgetD, mget_mput_other h]

@[simp] theorem State.setGroup_fields (k : Nat) (x : FlowGroup) :
    (s.setGroup k x).pending = s.pending ∧ (s.setGroup k x).now = s.now ∧ (s.setGroup k x).objs = s.objs ∧
    (s.setGroup k x).octs = s.octs ∧ (s.setGroup k x).gens = s.gens ∧ (s.setGroup k x).acc = s.acc ∧ (s.setGroup k x).power = s.power ∧
    (s.setGroup k x).fw = s.fw ∧ (s.setGroup k x).epochs = s.epochs ∧ (s.setGroup k x).tables = s.tables ∧
    (s.setGroup k x).slices = s.slices ∧ (s.setGroup k x).meters = s.meters ∧ (s.setGroup k x).tm = s.tm ∧
    (s.setGroup k x).pair = s.pair ∧ (s.setGroup k x).hbm = s.hbm ∧ (s.setGroup k x).ports = s.ports ∧ (s.setGroup k x).host = s.host ∧
    (s.setGroup k x).stewards = s.stewards ∧ (s.setGroup k x).stats = s.stats ∧ (s.setGroup k x).test = s.test ∧
    (s.setGroup k x).draws = s.draws ∧ (s.setGroup k x).out = s.out ∧ (∀ a b, (s.setGroup k x).reg a b = s.reg a b) ∧
    (∀ a b, (s.setGroup k x).oct a b = s.oct a b) ∧ (s.setGroup k x).mode = s.mode ∧ (∀ a b, (s.setGroup k x).gen a b = s.gen a b) := by
  refine ⟨rfl, rfl, rfl, rfl, rfl, rfl, rfl, rfl, rfl, rfl, rfl, rfl, rfl, rfl, rfl, rfl, rfl, rfl, rfl, rfl, rfl, rfl, fun _ _ => rfl, fun _ _ => rfl, rfl, fun _ _ => rfl⟩

@[simp] theorem State.setGroup_fabGroup (k : Nat) (x : FlowGroup) : (s.setGroup k x).fabGroup k = x := by
  simp [State.setGroup, State.fabGroup, mgetD, mget_mput_same]

theorem State.setGroup_fabGroup_other (k : Nat) (x : FlowGroup) {n : Nat} (h : n ≠ k) : (s.setGroup k x).fabGroup n = s.fabGroup n := by
  simp [State.setGroup, State.fabGroup, mgetD, mget_mput_other h]

@[simp] theorem State.setQuad_fields (k : Nat) (x : QuadState) :
    (s.setQuad k x).pending = s.pending ∧ (s.setQuad k x).now = s.now ∧ (s.setQuad k x).objs = s.objs ∧ (s.setQuad k x).octs = s.octs ∧
    (s.setQuad k x).gens = s.gens ∧ (s.setQuad k x).acc = s.acc ∧ (s.setQuad k x).power = s.power ∧ (s.setQuad k x).fw = s.fw ∧
    (s.setQuad k x).epochs = s.epochs ∧ (s.setQuad k x).tables = s.tables ∧ (s.setQuad k x).slices = s.slices ∧
    (s.setQuad k x).meters = s.meters ∧ (s.setQuad k x).tm = s.tm ∧ (s.setQuad k x).pair = s.pair ∧ (s.setQuad k x).hbm = s.hbm ∧
    (s.setQuad k x).ports = s.ports ∧ (s.setQuad k x).host = s.host ∧ (s.setQuad k x).stewards = s.stewards ∧
    (s.setQuad k x).stats = s.stats ∧ (s.setQuad k x).test = s.test ∧ (s.setQuad k x).draws = s.draws ∧ (s.setQuad k x).out = s.out ∧
    (∀ a b, (s.setQuad k x).reg a b = s.reg a b) ∧ (∀ a b, (s.setQuad k x).oct a b = s.oct a b) ∧ (s.setQuad k x).mode = s.mode ∧
    (∀ a b, (s.setQuad k x).gen a b = s.gen a b) := by
  refine ⟨rfl, rfl, rfl, rfl, rfl, rfl, rfl, rfl, rfl, rfl, rfl, rfl, rfl, rfl, rfl, rfl, rfl, rfl, rfl, rfl, rfl, rfl, fun _ _ => rfl, fun _ _ => rfl, rfl, fun _ _ => rfl⟩

@[simp] theorem State.setQuad_quad (k : Nat) (x : QuadState) : (s.setQuad k x).quad k = x := by
  simp [State.setQuad, State.quad, mgetD, mget_mput_same]

theorem State.setQuad_quad_other (k : Nat) (x : QuadState) {n : Nat} (h : n ≠ k) : (s.setQuad k x).quad n = s.quad n := by
  simp [State.setQuad, State.quad, mgetD, mget_mput_other h]

@[simp] theorem State.setSendCtx_fields (k : Nat) (x : SendCtx) :
    (s.setSendCtx k x).pending = s.pending ∧ (s.setSendCtx k x).now = s.now ∧ (s.setSendCtx k x).objs = s.objs ∧
    (s.setSendCtx k x).octs = s.octs ∧ (s.setSendCtx k x).gens = s.gens ∧ (s.setSendCtx k x).acc = s.acc ∧
    (s.setSendCtx k x).power = s.power ∧ (s.setSendCtx k x).fw = s.fw ∧ (s.setSendCtx k x).epochs = s.epochs ∧
    (s.setSendCtx k x).tables = s.tables ∧ (s.setSendCtx k x).slices = s.slices ∧ (s.setSendCtx k x).meters = s.meters ∧
    (s.setSendCtx k x).tm = s.tm ∧ (s.setSendCtx k x).pair = s.pair ∧ (s.setSendCtx k x).hbm = s.hbm ∧
    (s.setSendCtx k x).ports = s.ports ∧ (s.setSendCtx k x).host = s.host ∧ (s.setSendCtx k x).stewards = s.stewards ∧
    (s.setSendCtx k x).stats = s.stats ∧ (s.setSendCtx k x).test = s.test ∧ (s.setSendCtx k x).draws = s.draws ∧
    (s.setSendCtx k x).out = s.out ∧ (∀ a b, (s.setSendCtx k x).reg a b = s.reg a b) ∧ (∀ a b, (s.setSendCtx k x).oct a b = s.oct a b) ∧
    (s.setSendCtx k x).mode = s.mode ∧ (∀ a b, (s.setSendCtx k x).gen a b = s.gen a b) := by
  refine ⟨rfl, rfl, rfl, rfl, rfl, rfl, rfl, rfl, rfl, rfl, rfl, rfl, rfl, rfl, rfl, rfl, rfl, rfl, rfl, rfl, rfl, rfl, fun _ _ => rfl, fun _ _ => rfl, rfl, fun _ _ => rfl⟩

@[simp] theorem State.setSendCtx_sendCtx (k : Nat) (x : SendCtx) : (s.setSendCtx k x).sendCtx k = x := by
  simp [State.setSendCtx, State.sendCtx, mgetD, mget_mput_same]

theorem State.setSendCtx_sendCtx_other (k : Nat) (x : SendCtx) {n : Nat} (h : n ≠ k) : (s.setSendCtx k x).sendCtx n = s.sendCtx n := by
  simp [State.setSendCtx, State.sendCtx, mgetD, mget_mput_other h]

@[simp] theorem State.setRecvCtx_fields (k : Nat) (x : RecvCtx) :
    (s.setRecvCtx k x).pending = s.pending ∧ (s.setRecvCtx k x).now = s.now ∧ (s.setRecvCtx k x).objs = s.objs ∧
    (s.setRecvCtx k x).octs = s.octs ∧ (s.setRecvCtx k x).gens = s.gens ∧ (s.setRecvCtx k x).acc = s.acc ∧
    (s.setRecvCtx k x).power = s.power ∧ (s.setRecvCtx k x).fw = s.fw ∧ (s.setRecvCtx k x).epochs = s.epochs ∧
    (s.setRecvCtx k x).tables = s.tables ∧ (s.setRecvCtx k x).slices = s.slices ∧ (s.setRecvCtx k x).meters = s.meters ∧
    (s.setRecvCtx k x).tm = s.tm ∧ (s.setRecvCtx k x).pair = s.pair ∧ (s.setRecvCtx k x).hbm = s.hbm ∧
    (s.setRecvCtx k x).ports = s.ports ∧ (s.setRecvCtx k x).host = s.host ∧ (s.setRecvCtx k x).stewards = s.stewards ∧
    (s.setRecvCtx k x).stats = s.stats ∧ (s.setRecvCtx k x).test = s.test ∧ (s.setRecvCtx k x).draws = s.draws ∧
    (s.setRecvCtx k x).out = s.out ∧ (∀ a b, (s.setRecvCtx k x).reg a b = s.reg a b) ∧ (∀ a b, (s.setRecvCtx k x).oct a b = s.oct a b) ∧
    (s.setRecvCtx k x).mode = s.mode ∧ (∀ a b, (s.setRecvCtx k x).gen a b = s.gen a b) := by
  refine ⟨rfl, rfl, rfl, rfl, rfl, rfl, rfl, rfl, rfl, rfl, rfl, rfl, rfl, rfl, rfl, rfl, rfl, rfl, rfl, rfl, rfl, rfl, fun _ _ => rfl, fun _ _ => rfl, rfl, fun _ _ => rfl⟩

@[simp] theorem State.setRecvCtx_recvCtx (k : Nat) (x : RecvCtx) : (s.setRecvCtx k x).recvCtx k = x := by
  simp [State.setRecvCtx, State.recvCtx, mgetD, mget_mput_same]

theorem State.setRecvCtx_recvCtx_other (k : Nat) (x : RecvCtx) {n : Nat} (h : n ≠ k) : (s.setRecvCtx k x).recvCtx n = s.recvCtx n := by
  simp [State.setRecvCtx, State.recvCtx, mgetD, mget_mput_other h]

@[simp] theorem State.setLane_fields (k : Nat) (x : MateLane) :
    (s.setLane k x).pending = s.pending ∧ (s.setLane k x).now = s.now ∧ (s.setLane k x).objs = s.objs ∧ (s.setLane k x).octs = s.octs ∧
    (s.setLane k x).gens = s.gens ∧ (s.setLane k x).acc = s.acc ∧ (s.setLane k x).power = s.power ∧ (s.setLane k x).fw = s.fw ∧
    (s.setLane k x).epochs = s.epochs ∧ (s.setLane k x).tables = s.tables ∧ (s.setLane k x).slices = s.slices ∧
    (s.setLane k x).meters = s.meters ∧ (s.setLane k x).tm = s.tm ∧ (s.setLane k x).fab = s.fab ∧ (s.setLane k x).hbm = s.hbm ∧
    (s.setLane k x).ports = s.ports ∧ (s.setLane k x).host = s.host ∧ (s.setLane k x).stewards = s.stewards ∧
    (s.setLane k x).stats = s.stats ∧ (s.setLane k x).test = s.test ∧ (s.setLane k x).draws = s.draws ∧ (s.setLane k x).out = s.out ∧
    (∀ a b, (s.setLane k x).reg a b = s.reg a b) ∧ (∀ a b, (s.setLane k x).oct a b = s.oct a b) ∧ (s.setLane k x).mode = s.mode ∧
    (∀ a b, (s.setLane k x).gen a b = s.gen a b) := by
  refine ⟨rfl, rfl, rfl, rfl, rfl, rfl, rfl, rfl, rfl, rfl, rfl, rfl, rfl, rfl, rfl, rfl, rfl, rfl, rfl, rfl, rfl, rfl, fun _ _ => rfl, fun _ _ => rfl, rfl, fun _ _ => rfl⟩

@[simp] theorem State.setLane_lane (k : Nat) (x : MateLane) : (s.setLane k x).lane k = x := by
  simp [State.setLane, State.lane, mgetD, mget_mput_same]

theorem State.setLane_lane_other (k : Nat) (x : MateLane) {n : Nat} (h : n ≠ k) : (s.setLane k x).lane n = s.lane n := by
  simp [State.setLane, State.lane, mgetD, mget_mput_other h]

@[simp] theorem State.setDigest_fields (k : Nat) (x : Digest) :
    (s.setDigest k x).pending = s.pending ∧ (s.setDigest k x).now = s.now ∧ (s.setDigest k x).objs = s.objs ∧
    (s.setDigest k x).octs = s.octs ∧ (s.setDigest k x).gens = s.gens ∧ (s.setDigest k x).acc = s.acc ∧
    (s.setDigest k x).power = s.power ∧ (s.setDigest k x).fw = s.fw ∧ (s.setDigest k x).epochs = s.epochs ∧
    (s.setDigest k x).tables = s.tables ∧ (s.setDigest k x).slices = s.slices ∧ (s.setDigest k x).meters = s.meters ∧
    (s.setDigest k x).tm = s.tm ∧ (s.setDigest k x).fab = s.fab ∧ (s.setDigest k x).hbm = s.hbm ∧ (s.setDigest k x).ports = s.ports ∧
    (s.setDigest k x).host = s.host ∧ (s.setDigest k x).stewards = s.stewards ∧ (s.setDigest k x).stats = s.stats ∧
    (s.setDigest k x).test = s.test ∧ (s.setDigest k x).draws = s.draws ∧ (s.setDigest k x).out = s.out ∧
    (∀ a b, (s.setDigest k x).reg a b = s.reg a b) ∧ (∀ a b, (s.setDigest k x).oct a b = s.oct a b) ∧ (s.setDigest k x).mode = s.mode ∧
    (∀ a b, (s.setDigest k x).gen a b = s.gen a b) := by
  refine ⟨rfl, rfl, rfl, rfl, rfl, rfl, rfl, rfl, rfl, rfl, rfl, rfl, rfl, rfl, rfl, rfl, rfl, rfl, rfl, rfl, rfl, rfl, fun _ _ => rfl, fun _ _ => rfl, rfl, fun _ _ => rfl⟩

@[simp] theorem State.setDigest_digest (k : Nat) (x : Digest) : (s.setDigest k x).digest k = x := by
  simp [State.setDigest, State.digest, mgetD, mget_mput_same]

theorem State.setDigest_digest_other (k : Nat) (x : Digest) {n : Nat} (h : n ≠ k) : (s.setDigest k x).digest n = s.digest n := by
  simp [State.setDigest, State.digest, mgetD, mget_mput_other h]

@[simp] theorem State.setSlice_fields (k : Nat) (x : Slice) :
    (s.setSlice k x).pending = s.pending ∧ (s.setSlice k x).now = s.now ∧ (s.setSlice k x).objs = s.objs ∧
    (s.setSlice k x).octs = s.octs ∧ (s.setSlice k x).gens = s.gens ∧ (s.setSlice k x).acc = s.acc ∧ (s.setSlice k x).power = s.power ∧
    (s.setSlice k x).fw = s.fw ∧ (s.setSlice k x).epochs = s.epochs ∧ (s.setSlice k x).tables = s.tables ∧
    (s.setSlice k x).meters = s.meters ∧ (s.setSlice k x).tm = s.tm ∧ (s.setSlice k x).fab = s.fab ∧ (s.setSlice k x).pair = s.pair ∧
    (s.setSlice k x).hbm = s.hbm ∧ (s.setSlice k x).ports = s.ports ∧ (s.setSlice k x).host = s.host ∧
    (s.setSlice k x).stewards = s.stewards ∧ (s.setSlice k x).stats = s.stats ∧ (s.setSlice k x).test = s.test ∧
    (s.setSlice k x).draws = s.draws ∧ (s.setSlice k x).out = s.out ∧ (∀ a b, (s.setSlice k x).reg a b = s.reg a b) ∧
    (∀ a b, (s.setSlice k x).oct a b = s.oct a b) ∧ (s.setSlice k x).mode = s.mode ∧ (∀ a b, (s.setSlice k x).gen a b = s.gen a b) := by
  refine ⟨rfl, rfl, rfl, rfl, rfl, rfl, rfl, rfl, rfl, rfl, rfl, rfl, rfl, rfl, rfl, rfl, rfl, rfl, rfl, rfl, rfl, rfl, fun _ _ => rfl, fun _ _ => rfl, rfl, fun _ _ => rfl⟩

@[simp] theorem State.setSlice_sliceAt (k : Nat) (x : Slice) : (s.setSlice k x).sliceAt k = x := by
  simp [State.setSlice, State.sliceAt, mgetD, mget_mput_same]

theorem State.setSlice_sliceAt_other (k : Nat) (x : Slice) {n : Nat} (h : n ≠ k) : (s.setSlice k x).sliceAt n = s.sliceAt n := by
  simp [State.setSlice, State.sliceAt, mgetD, mget_mput_other h]

@[simp] theorem State.setMac_fields (k : Nat) (x : Mac) :
    (s.setMac k x).pending = s.pending ∧ (s.setMac k x).now = s.now ∧ (s.setMac k x).objs = s.objs ∧ (s.setMac k x).octs = s.octs ∧
    (s.setMac k x).gens = s.gens ∧ (s.setMac k x).acc = s.acc ∧ (s.setMac k x).power = s.power ∧ (s.setMac k x).fw = s.fw ∧
    (s.setMac k x).epochs = s.epochs ∧ (s.setMac k x).tables = s.tables ∧ (s.setMac k x).slices = s.slices ∧
    (s.setMac k x).meters = s.meters ∧ (s.setMac k x).fab = s.fab ∧ (s.setMac k x).pair = s.pair ∧ (s.setMac k x).hbm = s.hbm ∧
    (s.setMac k x).ports = s.ports ∧ (s.setMac k x).host = s.host ∧ (s.setMac k x).stewards = s.stewards ∧
    (s.setMac k x).stats = s.stats ∧ (s.setMac k x).test = s.test ∧ (s.setMac k x).draws = s.draws ∧ (s.setMac k x).out = s.out ∧
    (∀ a b, (s.setMac k x).reg a b = s.reg a b) ∧ (∀ a b, (s.setMac k x).oct a b = s.oct a b) ∧ (s.setMac k x).mode = s.mode ∧
    (∀ a b, (s.setMac k x).gen a b = s.gen a b) := by
  refine ⟨rfl, rfl, rfl, rfl, rfl, rfl, rfl, rfl, rfl, rfl, rfl, rfl, rfl, rfl, rfl, rfl, rfl, rfl, rfl, rfl, rfl, rfl, fun _ _ => rfl, fun _ _ => rfl, rfl, fun _ _ => rfl⟩

@[simp] theorem State.setMac_mac (k : Nat) (x : Mac) : (s.setMac k x).mac k = x := by
  simp [State.setMac, State.mac, mgetD, mget_mput_same]

theorem State.setMac_mac_other (k : Nat) (x : Mac) {n : Nat} (h : n ≠ k) : (s.setMac k x).mac n = s.mac n := by
  simp [State.setMac, State.mac, mgetD, mget_mput_other h]

@[simp] theorem State.setQueue_fields (k : Nat) (x : Queue) :
    (s.setQueue k x).pending = s.pending ∧ (s.setQueue k x).now = s.now ∧ (s.setQueue k x).objs = s.objs ∧
    (s.setQueue k x).octs = s.octs ∧ (s.setQueue k x).gens = s.gens ∧ (s.setQueue k x).acc = s.acc ∧ (s.setQueue k x).power = s.power ∧
    (s.setQueue k x).fw = s.fw ∧ (s.setQueue k x).epochs = s.epochs ∧ (s.setQueue k x).tables = s.tables ∧
    (s.setQueue k x).slices = s.slices ∧ (s.setQueue k x).meters = s.meters ∧ (s.setQueue k x).fab = s.fab ∧
    (s.setQueue k x).pair = s.pair ∧ (s.setQueue k x).hbm = s.hbm ∧ (s.setQueue k x).ports = s.ports ∧ (s.setQueue k x).host = s.host ∧
    (s.setQueue k x).stewards = s.stewards ∧ (s.setQueue k x).stats = s.stats ∧ (s.setQueue k x).test = s.test ∧
    (s.setQueue k x).draws = s.draws ∧ (s.setQueue k x).out = s.out ∧ (∀ a b, (s.setQueue k x).reg a b = s.reg a b) ∧
    (∀ a b, (s.setQueue k x).oct a b = s.oct a b) ∧ (s.setQueue k x).mode = s.mode ∧ (∀ a b, (s.setQueue k x).gen a b = s.gen a b) := by
  refine ⟨rfl, rfl, rfl, rfl, rfl, rfl, rfl, rfl, rfl, rfl, rfl, rfl, rfl, rfl, rfl, rfl, rfl, rfl, rfl, rfl, rfl, rfl, fun _ _ => rfl, fun _ _ => rfl, rfl, fun _ _ => rfl⟩

@[simp] theorem State.setTmSlice_fields (k : Nat) (x : TmSlice) :
    (s.setTmSlice k x).pending = s.pending ∧ (s.setTmSlice k x).now = s.now ∧ (s.setTmSlice k x).objs = s.objs ∧
    (s.setTmSlice k x).octs = s.octs ∧ (s.setTmSlice k x).gens = s.gens ∧ (s.setTmSlice k x).acc = s.acc ∧
    (s.setTmSlice k x).power = s.power ∧ (s.setTmSlice k x).fw = s.fw ∧ (s.setTmSlice k x).epochs = s.epochs ∧
    (s.setTmSlice k x).tables = s.tables ∧ (s.setTmSlice k x).slices = s.slices ∧ (s.setTmSlice k x).meters = s.meters ∧
    (s.setTmSlice k x).fab = s.fab ∧ (s.setTmSlice k x).pair = s.pair ∧ (s.setTmSlice k x).hbm = s.hbm ∧
    (s.setTmSlice k x).ports = s.ports ∧ (s.setTmSlice k x).host = s.host ∧ (s.setTmSlice k x).stewards = s.stewards ∧
    (s.setTmSlice k x).stats = s.stats ∧ (s.setTmSlice k x).test = s.test ∧ (s.setTmSlice k x).draws = s.draws ∧
    (s.setTmSlice k x).out = s.out ∧ (∀ a b, (s.setTmSlice k x).reg a b = s.reg a b) ∧ (∀ a b, (s.setTmSlice k x).oct a b = s.oct a b) ∧
    (s.setTmSlice k x).mode = s.mode ∧ (∀ a b, (s.setTmSlice k x).gen a b = s.gen a b) := by
  refine ⟨rfl, rfl, rfl, rfl, rfl, rfl, rfl, rfl, rfl, rfl, rfl, rfl, rfl, rfl, rfl, rfl, rfl, rfl, rfl, rfl, rfl, rfl, fun _ _ => rfl, fun _ _ => rfl, rfl, fun _ _ => rfl⟩

@[simp] theorem State.setTmSlice_tmSlice (k : Nat) (x : TmSlice) : (s.setTmSlice k x).tmSlice k = x := by
  simp [State.setTmSlice, State.tmSlice, mgetD, mget_mput_same]

theorem State.setTmSlice_tmSlice_other (k : Nat) (x : TmSlice) {n : Nat} (h : n ≠ k) : (s.setTmSlice k x).tmSlice n = s.tmSlice n := by
  simp [State.setTmSlice, State.tmSlice, mgetD, mget_mput_other h]

@[simp] theorem State.setChan_fields (k : Nat) (x : HostChannel) :
    (s.setChan k x).pending = s.pending ∧ (s.setChan k x).now = s.now ∧ (s.setChan k x).objs = s.objs ∧ (s.setChan k x).octs = s.octs ∧
    (s.setChan k x).gens = s.gens ∧ (s.setChan k x).acc = s.acc ∧ (s.setChan k x).power = s.power ∧ (s.setChan k x).fw = s.fw ∧
    (s.setChan k x).epochs = s.epochs ∧ (s.setChan k x).tables = s.tables ∧ (s.setChan k x).slices = s.slices ∧
    (s.setChan k x).meters = s.meters ∧ (s.setChan k x).tm = s.tm ∧ (s.setChan k x).fab = s.fab ∧ (s.setChan k x).pair = s.pair ∧
    (s.setChan k x).hbm = s.hbm ∧ (s.setChan k x).ports = s.ports ∧ (s.setChan k x).stewards = s.stewards ∧
    (s.setChan k x).stats = s.stats ∧ (s.setChan k x).test = s.test ∧ (s.setChan k x).draws = s.draws ∧ (s.setChan k x).out = s.out ∧
    (∀ a b, (s.setChan k x).reg a b = s.reg a b) ∧ (∀ a b, (s.setChan k x).oct a b = s.oct a b) ∧ (s.setChan k x).mode = s.mode ∧
    (∀ a b, (s.setChan k x).gen a b = s.gen a b) := by
  refine ⟨rfl, rfl, rfl, rfl, rfl, rfl, rfl, rfl, rfl, rfl, rfl, rfl, rfl, rfl, rfl, rfl, rfl, rfl, rfl, rfl, rfl, rfl, fun _ _ => rfl, fun _ _ => rfl, rfl, fun _ _ => rfl⟩

@[simp] theorem State.setMailbox_fields (k : Nat) (x : Mailbox) :
    (s.setMailbox k x).pending = s.pending ∧ (s.setMailbox k x).now = s.now ∧ (s.setMailbox k x).objs = s.objs ∧
    (s.setMailbox k x).octs = s.octs ∧ (s.setMailbox k x).gens = s.gens ∧ (s.setMailbox k x).acc = s.acc ∧
    (s.setMailbox k x).power = s.power ∧ (s.setMailbox k x).fw = s.fw ∧ (s.setMailbox k x).epochs = s.epochs ∧
    (s.setMailbox k x).tables = s.tables ∧ (s.setMailbox k x).slices = s.slices ∧ (s.setMailbox k x).meters = s.meters ∧
    (s.setMailbox k x).tm = s.tm ∧ (s.setMailbox k x).fab = s.fab ∧ (s.setMailbox k x).pair = s.pair ∧ (s.setMailbox k x).hbm = s.hbm ∧
    (s.setMailbox k x).ports = s.ports ∧ (s.setMailbox k x).stewards = s.stewards ∧ (s.setMailbox k x).stats = s.stats ∧
    (s.setMailbox k x).test = s.test ∧ (s.setMailbox k x).draws = s.draws ∧ (s.setMailbox k x).out = s.out ∧
    (∀ a b, (s.setMailbox k x).reg a b = s.reg a b) ∧ (∀ a b, (s.setMailbox k x).oct a b = s.oct a b) ∧
    (s.setMailbox k x).mode = s.mode ∧ (∀ a b, (s.setMailbox k x).gen a b = s.gen a b) := by
  refine ⟨rfl, rfl, rfl, rfl, rfl, rfl, rfl, rfl, rfl, rfl, rfl, rfl, rfl, rfl, rfl, rfl, rfl, rfl, rfl, rfl, rfl, rfl, fun _ _ => rfl, fun _ _ => rfl, rfl, fun _ _ => rfl⟩

@[simp] theorem State.setMailbox_mailbox (k : Nat) (x : Mailbox) : (s.setMailbox k x).mailbox k = x := by
  simp [State.setMailbox, State.mailbox, mgetD, mget_mput_same]

theorem State.setMailbox_mailbox_other (k : Nat) (x : Mailbox) {n : Nat} (h : n ≠ k) : (s.setMailbox k x).mailbox n = s.mailbox n := by
  simp [State.setMailbox, State.mailbox, mgetD, mget_mput_other h]

@[simp] theorem State.noteRead_fields (m v : Nat) :
    (s.noteRead m v).pending = s.pending ∧ (s.noteRead m v).now = s.now ∧ (s.noteRead m v).objs = s.objs ∧
    (s.noteRead m v).octs = s.octs ∧ (s.noteRead m v).gens = s.gens ∧ (s.noteRead m v).acc = s.acc ∧ (s.noteRead m v).power = s.power ∧
    (s.noteRead m v).fw = s.fw ∧ (s.noteRead m v).epochs = s.epochs ∧ (s.noteRead m v).tables = s.tables ∧
    (s.noteRead m v).slices = s.slices ∧ (s.noteRead m v).meters = s.meters ∧ (s.noteRead m v).tm = s.tm ∧ (s.noteRead m v).fab = s.fab ∧
    (s.noteRead m v).pair = s.pair ∧ (s.noteRead m v).hbm = s.hbm ∧ (s.noteRead m v).ports = s.ports ∧
    (s.noteRead m v).stewards = s.stewards ∧ (s.noteRead m v).stats = s.stats ∧ (s.noteRead m v).test = s.test ∧
    (s.noteRead m v).draws = s.draws ∧ (s.noteRead m v).out = s.out ∧ (∀ a b, (s.noteRead m v).reg a b = s.reg a b) ∧
    (∀ a b, (s.noteRead m v).oct a b = s.oct a b) ∧ (s.noteRead m v).mode = s.mode ∧ (∀ a b, (s.noteRead m v).gen a b = s.gen a b) := by
  refine ⟨rfl, rfl, rfl, rfl, rfl, rfl, rfl, rfl, rfl, rfl, rfl, rfl, rfl, rfl, rfl, rfl, rfl, rfl, rfl, rfl, rfl, rfl, fun _ _ => rfl, fun _ _ => rfl, rfl, fun _ _ => rfl⟩

@[simp] theorem State.setCore_fields (k : Nat) (x : Core) :
    (s.setCore k x).pending = s.pending ∧ (s.setCore k x).now = s.now ∧ (s.setCore k x).objs = s.objs ∧ (s.setCore k x).octs = s.octs ∧
    (s.setCore k x).gens = s.gens ∧ (s.setCore k x).acc = s.acc ∧ (s.setCore k x).power = s.power ∧ (s.setCore k x).fw = s.fw ∧
    (s.setCore k x).epochs = s.epochs ∧ (s.setCore k x).tables = s.tables ∧ (s.setCore k x).slices = s.slices ∧
    (s.setCore k x).meters = s.meters ∧ (s.setCore k x).tm = s.tm ∧ (s.setCore k x).fab = s.fab ∧ (s.setCore k x).pair = s.pair ∧
    (s.setCore k x).hbm = s.hbm ∧ (s.setCore k x).ports = s.ports ∧ (s.setCore k x).host = s.host ∧ (s.setCore k x).stats = s.stats ∧
    (s.setCore k x).test = s.test ∧ (s.setCore k x).draws = s.draws ∧ (s.setCore k x).out = s.out ∧
    (∀ a b, (s.setCore k x).reg a b = s.reg a b) ∧ (∀ a b, (s.setCore k x).oct a b = s.oct a b) ∧ (s.setCore k x).mode = s.mode ∧
    (∀ a b, (s.setCore k x).gen a b = s.gen a b) := by
  refine ⟨rfl, rfl, rfl, rfl, rfl, rfl, rfl, rfl, rfl, rfl, rfl, rfl, rfl, rfl, rfl, rfl, rfl, rfl, rfl, rfl, rfl, rfl, fun _ _ => rfl, fun _ _ => rfl, rfl, fun _ _ => rfl⟩

@[simp] theorem State.setCore_core (k : Nat) (x : Core) : (s.setCore k x).core k = x := by
  simp [State.setCore, State.core, mgetD, mget_mput_same]

theorem State.setCore_core_other (k : Nat) (x : Core) {n : Nat} (h : n ≠ k) : (s.setCore k x).core n = s.core n := by
  simp [State.setCore, State.core, mgetD, mget_mput_other h]

@[simp] theorem State.setCage_fields (k : Nat) (x : Cage) :
    (s.setCage k x).pending = s.pending ∧ (s.setCage k x).now = s.now ∧ (s.setCage k x).objs = s.objs ∧ (s.setCage k x).octs = s.octs ∧
    (s.setCage k x).gens = s.gens ∧ (s.setCage k x).acc = s.acc ∧ (s.setCage k x).fw = s.fw ∧ (s.setCage k x).epochs = s.epochs ∧
    (s.setCage k x).tables = s.tables ∧ (s.setCage k x).slices = s.slices ∧ (s.setCage k x).meters = s.meters ∧
    (s.setCage k x).tm = s.tm ∧ (s.setCage k x).fab = s.fab ∧ (s.setCage k x).pair = s.pair ∧ (s.setCage k x).hbm = s.hbm ∧
    (s.setCage k x).ports = s.ports ∧ (s.setCage k x).host = s.host ∧ (s.setCage k x).stewards = s.stewards ∧
    (s.setCage k x).stats = s.stats ∧ (s.setCage k x).test = s.test ∧ (s.setCage k x).draws = s.draws ∧ (s.setCage k x).out = s.out ∧
    (∀ a b, (s.setCage k x).reg a b = s.reg a b) ∧ (∀ a b, (s.setCage k x).oct a b = s.oct a b) ∧
    (∀ a b, (s.setCage k x).gen a b = s.gen a b) ∧ (s.setCage k x).mode = s.mode := by
  refine ⟨rfl, rfl, rfl, rfl, rfl, rfl, rfl, rfl, rfl, rfl, rfl, rfl, rfl, rfl, rfl, rfl, rfl, rfl, rfl, rfl, rfl, rfl, fun _ _ => rfl, fun _ _ => rfl, fun _ _ => rfl, rfl⟩

@[simp] theorem State.setCage_cage (k : Nat) (x : Cage) : (s.setCage k x).cage k = x := by
  simp [State.setCage, State.cage, mgetD, mget_mput_same]

theorem State.setCage_cage_other (k : Nat) (x : Cage) {n : Nat} (h : n ≠ k) : (s.setCage k x).cage n = s.cage n := by
  simp [State.setCage, State.cage, mgetD, mget_mput_other h]

@[simp] theorem State.setMs_fields (f : ModeState → ModeState) :
    (s.setMs f).pending = s.pending ∧ (s.setMs f).now = s.now ∧ (s.setMs f).objs = s.objs ∧ (s.setMs f).octs = s.octs ∧
    (s.setMs f).gens = s.gens ∧ (s.setMs f).acc = s.acc ∧ (s.setMs f).fw = s.fw ∧ (s.setMs f).epochs = s.epochs ∧
    (s.setMs f).tables = s.tables ∧ (s.setMs f).slices = s.slices ∧ (s.setMs f).meters = s.meters ∧ (s.setMs f).tm = s.tm ∧
    (s.setMs f).fab = s.fab ∧ (s.setMs f).pair = s.pair ∧ (s.setMs f).hbm = s.hbm ∧ (s.setMs f).ports = s.ports ∧
    (s.setMs f).host = s.host ∧ (s.setMs f).stewards = s.stewards ∧ (s.setMs f).stats = s.stats ∧ (s.setMs f).test = s.test ∧
    (s.setMs f).draws = s.draws ∧ (s.setMs f).out = s.out ∧ (∀ a b, (s.setMs f).reg a b = s.reg a b) ∧
    (∀ a b, (s.setMs f).oct a b = s.oct a b) ∧ (∀ a b, (s.setMs f).gen a b = s.gen a b) := by
  refine ⟨rfl, rfl, rfl, rfl, rfl, rfl, rfl, rfl, rfl, rfl, rfl, rfl, rfl, rfl, rfl, rfl, rfl, rfl, rfl, rfl, rfl, rfl, fun _ _ => rfl, fun _ _ => rfl, fun _ _ => rfl⟩

@[simp] theorem State.setDelivery_fields (x : Delivery) :
    (s.setDelivery x).pending = s.pending ∧ (s.setDelivery x).now = s.now ∧ (s.setDelivery x).objs = s.objs ∧
    (s.setDelivery x).octs = s.octs ∧ (s.setDelivery x).gens = s.gens ∧ (s.setDelivery x).acc = s.acc ∧
    (s.setDelivery x).power = s.power ∧ (s.setDelivery x).epochs = s.epochs ∧ (s.setDelivery x).tables = s.tables ∧
    (s.setDelivery x).slices = s.slices ∧ (s.setDelivery x).meters = s.meters ∧ (s.setDelivery x).tm = s.tm ∧
    (s.setDelivery x).fab = s.fab ∧ (s.setDelivery x).pair = s.pair ∧ (s.setDelivery x).hbm = s.hbm ∧ (s.setDelivery x).ports = s.ports ∧
    (s.setDelivery x).host = s.host ∧ (s.setDelivery x).stewards = s.stewards ∧ (s.setDelivery x).stats = s.stats ∧
    (s.setDelivery x).test = s.test ∧ (s.setDelivery x).draws = s.draws ∧ (s.setDelivery x).out = s.out ∧
    (∀ a b, (s.setDelivery x).reg a b = s.reg a b) ∧ (∀ a b, (s.setDelivery x).oct a b = s.oct a b) ∧ (s.setDelivery x).mode = s.mode ∧
    (∀ a b, (s.setDelivery x).gen a b = s.gen a b) := by
  refine ⟨rfl, rfl, rfl, rfl, rfl, rfl, rfl, rfl, rfl, rfl, rfl, rfl, rfl, rfl, rfl, rfl, rfl, rfl, rfl, rfl, rfl, rfl, fun _ _ => rfl, fun _ _ => rfl, rfl, fun _ _ => rfl⟩

/-! ### Reads of a state that is written out -/

@[simp] theorem State.reg_mk (f0 : List Instr) (f1 : Nat) (f2 : List (Nat × Nat)) (f3 : List (Nat × List Byte)) (f4 : List (Nat × Nat)) f5 (f6 : Power) f7 f8 f9 f10 f11 f12 f13 f14 f15 f16 f17 f18
    f19 f20 f21 f22 (i j : Nat) :
    (State.mk f0 f1 f2 f3 f4 f5 f6 f7 f8 f9 f10 f11 f12 f13 f14 f15 f16 f17 f18 f19 f20 f21 f22).reg i j = mgetD (dictDefault i j) f2 (okey i j) := rfl

@[simp] theorem State.oct_mk (f0 : List Instr) (f1 : Nat) (f2 : List (Nat × Nat)) (f3 : List (Nat × List Byte)) (f4 : List (Nat × Nat)) f5 (f6 : Power) f7 f8 f9 f10 f11 f12 f13 f14 f15 f16 f17 f18
    f19 f20 f21 f22 (i j : Nat) :
    (State.mk f0 f1 f2 f3 f4 f5 f6 f7 f8 f9 f10 f11 f12 f13 f14 f15 f16 f17 f18 f19 f20 f21 f22).oct i j = mgetD (dictDefaultBytes i j) f3 (okey i j) := rfl

@[simp] theorem State.gen_mk (f0 : List Instr) (f1 : Nat) (f2 : List (Nat × Nat)) (f3 : List (Nat × List Byte)) (f4 : List (Nat × Nat)) f5 (f6 : Power) f7 f8 f9 f10 f11 f12 f13 f14 f15 f16 f17 f18
    f19 f20 f21 f22 (k i : Nat) :
    (State.mk f0 f1 f2 f3 f4 f5 f6 f7 f8 f9 f10 f11 f12 f13 f14 f15 f16 f17 f18 f19 f20 f21 f22).gen k i = mgetD 0 f4 (chanKey k i) := rfl

@[simp] theorem State.mode_mk (f0 : List Instr) (f1 : Nat) (f2 : List (Nat × Nat)) (f3 : List (Nat × List Byte)) (f4 : List (Nat × Nat)) f5 (f6 : Power) f7 f8 f9 f10 f11 f12 f13 f14 f15 f16 f17 f18
    f19 f20 f21 f22 :
    (State.mk f0 f1 f2 f3 f4 f5 f6 f7 f8 f9 f10 f11 f12 f13 f14 f15 f16 f17 f18 f19 f20 f21 f22).mode = f6.ms.mode := rfl

@[simp] theorem State.reg_fold (i j : Nat) : mgetD (dictDefault i j) s.objs (okey i j) = s.reg i j := rfl

@[simp] theorem State.oct_fold (i j : Nat) : mgetD (dictDefaultBytes i j) s.octs (okey i j) = s.oct i j := rfl

@[simp] theorem State.gen_fold (k i : Nat) : mgetD 0 s.gens (chanKey k i) = s.gen k i := rfl

/-! ### What a register reads back as -/

theorem State.setReg_reg (i j v : Nat) (h : rising s.objs = true) : (s.setReg i j v).reg i j = v := mgetD_mset_same h

theorem State.setReg_other {i j a b : Nat} (v : Nat) (h : okey a b ≠ okey i j) : (s.setReg i j v).reg a b = s.reg a b := by
  simp only [State.setReg, State.reg, mgetD, mget_mset_other h]

theorem State.setOct_oct (i j : Nat) (v : List Byte) (h : rising s.octs = true) : (s.setOct i j v).oct i j = v := mgetD_mset_same h

theorem State.setOct_other {i j a b : Nat} (v : List Byte) (h : okey a b ≠ okey i j) : (s.setOct i j v).oct a b = s.oct a b := by
  simp only [State.setOct, State.oct, mgetD, mget_mset_other h]

theorem State.nextGen_gen (k i : Nat) (h : rising s.gens = true) : (s.nextGen k i).gen k i = (s.gen k i + 1) % 256 := mgetD_mset_same h

theorem State.setReg_rising (i j v : Nat) (h : rising s.objs = true) : rising (s.setReg i j v).objs = true := rising_mset h

theorem State.setOct_rising (i j : Nat) (v : List Byte) (h : rising s.octs = true) : rising (s.setOct i j v).octs = true := rising_mset h

theorem State.count_objs (i j n : Nat) : (s.count i j n).objs = (s.setReg i j ((s.reg i j + n) % counterSpan i j)).objs := by
  unfold State.count
  dsimp only
  split <;> rfl

theorem State.count_reg (i j n : Nat) (h : rising s.objs = true) : (s.count i j n).reg i j = (s.reg i j + n) % counterSpan i j := by
  have := s.setReg_reg i j ((s.reg i j + n) % counterSpan i j) h
  unfold State.reg at this ⊢
  rw [State.count_objs]
  exact this

theorem State.count_other {i j a b : Nat} (n : Nat) (h : okey a b ≠ okey i j) : (s.count i j n).reg a b = s.reg a b := by
  have := s.setReg_other ((s.reg i j + n) % counterSpan i j) h
  unfold State.reg at this ⊢
  rw [State.count_objs]
  exact this

theorem State.count_rising (i j n : Nat) (h : rising s.objs = true) : rising (s.count i j n).objs = true := by
  rw [State.count_objs]
  exact rising_mset h

@[simp] theorem State.bump_count (i j : Nat) : s.bump i j = s.count i j 1 := rfl

@[simp] theorem State.count_fields (i j n : Nat) :
    (s.count i j n).pending = s.pending ∧ (s.count i j n).now = s.now ∧ (s.count i j n).octs = s.octs ∧ (s.count i j n).gens = s.gens ∧
    (s.count i j n).acc = s.acc ∧ (s.count i j n).power = s.power ∧ (s.count i j n).fw = s.fw ∧ (s.count i j n).epochs = s.epochs ∧
    (s.count i j n).tables = s.tables ∧ (s.count i j n).slices = s.slices ∧ (s.count i j n).meters = s.meters ∧
    (s.count i j n).tm = s.tm ∧ (s.count i j n).fab = s.fab ∧ (s.count i j n).pair = s.pair ∧ (s.count i j n).hbm = s.hbm ∧
    (s.count i j n).ports = s.ports ∧ (s.count i j n).host = s.host ∧ (s.count i j n).stewards = s.stewards ∧
    (s.count i j n).test = s.test ∧ (s.count i j n).draws = s.draws ∧ (s.count i j n).out = s.out ∧
    (∀ a b, (s.count i j n).oct a b = s.oct a b) ∧ (s.count i j n).mode = s.mode ∧ (∀ a b, (s.count i j n).gen a b = s.gen a b) := by
  unfold State.count
  dsimp only
  split <;> refine ⟨rfl, rfl, rfl, rfl, rfl, rfl, rfl, rfl, rfl, rfl, rfl, rfl, rfl, rfl, rfl, rfl, rfl, rfl, rfl, rfl, rfl, fun _ _ => rfl, rfl, fun _ _ => rfl⟩

end Sys2Proof.Machine
end

