-- ==== Sys2Proof/Laws/Parts.lean ====
section
/-! SUPPORT. Sys2Proof/Laws/Parts.lean: from what an operation keeps to what it leaves alone: one part, one group, one register. -/

namespace Sys2Proof.Machine

/-- The bit of a part tells it from every other. -/
theorem Part.bit_injective {p q : Part} (h : p.bit = q.bit) : p = q := by
  cases p <;> cases q <;> first | rfl | (simp only [Part.bit] at h; omega) | (simp only [Part.bit] at h; congr; omega)

/-- The mask of a list of parts. -/
def partsMask (l : List Part) : Nat := l.foldl (fun m p => m ||| 2 ^ p.bit) 0

theorem partsMask_fold {l : List Part} {m n : Nat} (hm : m.testBit n = false) (hl : ∀ q ∈ l, q.bit ≠ n) :
    (l.foldl (fun m p => m ||| 2 ^ p.bit) m).testBit n = false := by
  induction l generalizing m with
  | nil => exact hm
  | cons a l ih =>
    refine ih ?_ fun q hq => hl q (List.mem_cons_of_mem _ hq)
    rw [Nat.testBit_or, hm, Nat.testBit_two_pow]
    simpa using hl a (List.mem_cons_self ..)

/-- A part outside a list has its bit outside the mask. -/
theorem partsMask_notMem {l : List Part} {p : Part} (h : p ∉ l) : (partsMask l).testBit p.bit = false :=
  partsMask_fold (by simp) fun _ hq e => h (Part.bit_injective e ▸ hq)

theorem Keeps.onlyIn {l : List Part} {s t : State} (h : Keeps (partsMask l) s t) : OnlyIn l s t :=
  fun _ hp => h.only _ (partsMask_notMem hp)

/-- What a meaning keeps, as a frame. -/
theorem OnlyIn.of_next {l : List Part} {s t : State} {x : Host.Outcome State Fault Refusal} (h : On inNext (partsMask l) s x)
    (e : x = .next t) : OnlyIn l s t := Keeps.onlyIn (h t (by rw [e]; rfl))

theorem Covers.refl (m : Nat) : Covers m m := fun _ h => h

namespace On

variable {ps : Nat} {s t : State}

theorem acc_same (h : On inS ps s t) (e : ps.testBit 0 = false) : t.acc = s.acc := h.keeps.only .access e
theorem power_same (h : On inS ps s t) (e : ps.testBit 1 = false) : t.power = s.power := h.keeps.only .power e
theorem epochs_same (h : On inS ps s t) (e : ps.testBit 3 = false) : t.epochs = s.epochs := h.keeps.only .epochs e
theorem tables_same (h : On inS ps s t) (e : ps.testBit 4 = false) : t.tables = s.tables := h.keeps.only .tables e
theorem slices_same (h : On inS ps s t) (e : ps.testBit 5 = false) : t.slices = s.slices := h.keeps.only .slices e
theorem meters_same (h : On inS ps s t) (e : ps.testBit 6 = false) : t.meters = s.meters := h.keeps.only .meters e
theorem tm_same (h : On inS ps s t) (e : ps.testBit 7 = false) : t.tm = s.tm := h.keeps.only .traffic e
theorem fab_same (h : On inS ps s t) (e : ps.testBit 8 = false) : t.fab = s.fab := h.keeps.only .fabric e
theorem pair_same (h : On inS ps s t) (e : ps.testBit 9 = false) : t.pair = s.pair := h.keeps.only .pair e
theorem hbm_same (h : On inS ps s t) (e : ps.testBit 10 = false) : t.hbm = s.hbm := h.keeps.only .memory e
theorem ports_same (h : On inS ps s t) (e : ps.testBit 11 = false) : t.ports = s.ports := h.keeps.only .ports e
theorem host_same (h : On inS ps s t) (e : ps.testBit 12 = false) : t.host = s.host := h.keeps.only .host e
theorem stewards_same (h : On inS ps s t) (e : ps.testBit 13 = false) : t.stewards = s.stewards := h.keeps.only .stewards e
theorem draws_same (h : On inS ps s t) (e : ps.testBit 16 = false) : t.draws = s.draws := h.keeps.only .draws e
theorem out_same (h : On inS ps s t) (e : ps.testBit 17 = false) : t.out = s.out := h.keeps.only .output e
theorem now_same (h : On inS ps s t) (e : ps.testBit 18 = false) : t.now = s.now := h.keeps.only .time e
theorem gens_same (h : On inS ps s t) (e : ps.testBit 19 = false) : t.gens = s.gens := h.keeps.only .generations e

theorem mode_same (h : On inS ps s t) (e : ps.testBit 24 = false) : t.mode = s.mode := h.keeps.only .mode e
theorem fence_same (h : On inS ps s t) (e : ps.testBit 25 = false) : t.pair.fenced = s.pair.fenced := h.keeps.only .fence e

theorem fw_same (h : On inS ps s t) (e : ps.testBit 2 = false) (f : ps.testBit 22 = false) : t.fw = s.fw := by
  have a : t.fw.body = s.fw.body := h.keeps.only .firmware e
  have b : t.fw.faultLog = s.fw.faultLog ∧ t.fw.pendingFaults = s.fw.pendingFaults := h.keeps.only .faults f
  cases ht : t.fw; cases hs : s.fw
  simp only [ht, hs, Firmware.body, Firmware.mk.injEq] at a b ⊢
  simp [a, b]

theorem body_same (h : On inS ps s t) (e : ps.testBit 2 = false) : t.fw.body = s.fw.body := h.keeps.only .firmware e

theorem stats_same (h : On inS ps s t) (e : ps.testBit 14 = false) (f : ps.testBit 20 = false) (g : ps.testBit 21 = false) :
    t.stats = s.stats := by
  have a : t.stats.body = s.stats.body := h.keeps.only .statistics e
  have b : t.stats.wrapped = s.stats.wrapped := h.keeps.only .wrapped f
  have c : t.stats.rings = s.stats.rings := h.keeps.only .rings g
  cases ht : t.stats; cases hs : s.stats
  simp only [ht, hs, Stats.body, Stats.mk.injEq] at a b c ⊢
  simp [a, b, c]

theorem test_same (h : On inS ps s t) (e : ps.testBit 15 = false) (f : ps.testBit 23 = false) : t.test = s.test := by
  have a : t.test.body = s.test.body := h.keeps.only .testing e
  have b : t.test.health = s.test.health ∧ t.test.healthSeq = s.test.healthSeq := h.keeps.only .health f
  cases ht : t.test; cases hs : s.test
  simp only [ht, hs, Testing.body, Testing.mk.injEq] at a b ⊢
  simp [a, b]

theorem page_same (h : On inS ps s t) {k : Nat} (e : ps.testBit (32 + k / 65536 % 256) = false) :
    mget t.objs k = mget s.objs k ∧ mget t.octs k = mget s.octs k := h.keeps.only (.registers (k / 65536 % 256)) e k rfl

theorem okey_page (i j : Nat) : okey i j / 65536 % 256 = i / 256 % 256 := by
  unfold okey
  omega

theorem reg_same (h : On inS ps s t) {i : Nat} (j : Nat) (e : ps.testBit (32 + i / 256 % 256) = false) : t.reg i j = s.reg i j := by
  have := (h.page_same (k := okey i j) (by rw [okey_page]; exact e)).1
  simp only [State.reg, mgetD, this]

theorem oct_same (h : On inS ps s t) {i : Nat} (j : Nat) (e : ps.testBit (32 + i / 256 % 256) = false) : t.oct i j = s.oct i j := by
  have := (h.page_same (k := okey i j) (by rw [okey_page]; exact e)).2
  simp only [State.oct, mgetD, this]

theorem objs_rise (h : On inS ps s t) (e : rising s.objs = true) : rising t.objs = true := h.keeps.onward.objs e
theorem octs_rise (h : On inS ps s t) (e : rising s.octs = true) : rising t.octs = true := h.keeps.onward.octs e
theorem gens_rise (h : On inS ps s t) (e : rising s.gens = true) : rising t.gens = true := h.keeps.onward.gens e

end On

end Sys2Proof.Machine
end

