-- ==== Sys2Proof/Laws/Same.lean ====
section
/-! SUPPORT. Sys2Proof/Laws/Same.lean: what the shared operations leave as it was: the groups that they do not touch, the registers of
other pages, and the form of the stores. -/

set_option Elab.async false

namespace Sys2Proof.Machine

@[simp] theorem State.endWrite_same {s : State} {o : Origin} {i : Nat} {j : Nat} {c : List Byte} {st : Status} :
    (State.endWrite s o i j c st).power = s.power ∧ (State.endWrite s o i j c st).tables = s.tables ∧
    (State.endWrite s o i j c st).slices = s.slices ∧ (State.endWrite s o i j c st).meters = s.meters ∧
    (State.endWrite s o i j c st).tm = s.tm ∧ (State.endWrite s o i j c st).fab = s.fab ∧ (State.endWrite s o i j c st).hbm = s.hbm ∧
    (State.endWrite s o i j c st).ports = s.ports ∧ (State.endWrite s o i j c st).host = s.host ∧
    (State.endWrite s o i j c st).stewards = s.stewards ∧ (State.endWrite s o i j c st).draws = s.draws ∧
    (State.endWrite s o i j c st).now = s.now ∧ (State.endWrite s o i j c st).gens = s.gens ∧ (State.endWrite s o i j c st).fw = s.fw ∧
    (State.endWrite s o i j c st).stats = s.stats ∧ (State.endWrite s o i j c st).test = s.test ∧
    (State.endWrite s o i j c st).mode = s.mode ∧ (State.endWrite s o i j c st).pair.fenced = s.pair.fenced ∧
    (∀ q1 q2, (State.endWrite s o i j c st).gen q1 q2 = s.gen q1 q2) ∧ (∀ q1 q2, (State.endWrite s o i j c st).reg q1 q2 = s.reg q1 q2) ∧
    (∀ q1 q2, (State.endWrite s o i j c st).oct q1 q2 = s.oct q1 q2) ∧
    (rising s.objs = true → rising (State.endWrite s o i j c st).objs = true) ∧
    (rising s.octs = true → rising (State.endWrite s o i j c st).octs = true) := by
  have h : On inS 0x20209 s (State.endWrite s o i j c st) := State.endWrite_keeps (Covers.refl _) .start
  have m : ∀ n, n < 256 → Nat.testBit 0x20209 (32 + n) = false := by decide +kernel
  exact ⟨h.power_same rfl, h.tables_same rfl, h.slices_same rfl, h.meters_same rfl, h.tm_same rfl, h.fab_same rfl, h.hbm_same rfl,
    h.ports_same rfl, h.host_same rfl, h.stewards_same rfl, h.draws_same rfl, h.now_same rfl, h.gens_same rfl, h.fw_same rfl rfl,
    h.stats_same rfl rfl rfl, h.test_same rfl rfl, h.mode_same rfl, h.fence_same rfl,
    fun q1 q2 => congrArg (fun z => mgetD 0 z (chanKey q1 q2)) (h.gens_same rfl),
    fun q1 q2 => h.reg_same q2 (m (q1 / 256 % 256) (Nat.mod_lt _ (by decide))),
    fun q1 q2 => h.oct_same q2 (m (q1 / 256 % 256) (Nat.mod_lt _ (by decide))), h.objs_rise, h.octs_rise⟩

@[simp] theorem State.health_same {s : State} {area : Nat} {severity : Nat} {code : Nat} {detail : List Byte} :
    (State.health s area severity code detail).acc = s.acc ∧ (State.health s area severity code detail).power = s.power ∧
    (State.health s area severity code detail).epochs = s.epochs ∧ (State.health s area severity code detail).tables = s.tables ∧
    (State.health s area severity code detail).slices = s.slices ∧ (State.health s area severity code detail).meters = s.meters ∧
    (State.health s area severity code detail).tm = s.tm ∧ (State.health s area severity code detail).fab = s.fab ∧
    (State.health s area severity code detail).pair = s.pair ∧ (State.health s area severity code detail).hbm = s.hbm ∧
    (State.health s area severity code detail).ports = s.ports ∧ (State.health s area severity code detail).host = s.host ∧
    (State.health s area severity code detail).stewards = s.stewards ∧ (State.health s area severity code detail).draws = s.draws ∧
    (State.health s area severity code detail).out = s.out ∧ (State.health s area severity code detail).now = s.now ∧
    (State.health s area severity code detail).gens = s.gens ∧ (State.health s area severity code detail).fw.body = s.fw.body ∧
    (State.health s area severity code detail).stats = s.stats ∧ (State.health s area severity code detail).mode = s.mode ∧
    (∀ q1 q2, (State.health s area severity code detail).gen q1 q2 = s.gen q1 q2) ∧
    (∀ q1 q2, q1 / 256 % 256 ≠ 0xD0 → (State.health s area severity code detail).reg q1 q2 = s.reg q1 q2) ∧
    (∀ q1 q2, q1 / 256 % 256 ≠ 0xD0 → (State.health s area severity code detail).oct q1 q2 = s.oct q1 q2) ∧
    (rising s.objs = true → rising (State.health s area severity code detail).objs = true) ∧
    (rising s.octs = true → rising (State.health s area severity code detail).octs = true) := by
  have h : On inS 0x1000000000000000000000000000000000000000000000000000000c00000 s (State.health s area severity code detail) := State.health_keeps (Covers.refl _) .start
  have m : ∀ n, n < 256 → n ≠ 0xD0 → Nat.testBit 0x1000000000000000000000000000000000000000000000000000000c00000 (32 + n) = false := by decide +kernel
  exact ⟨h.acc_same rfl, h.power_same rfl, h.epochs_same rfl, h.tables_same rfl, h.slices_same rfl, h.meters_same rfl, h.tm_same rfl,
    h.fab_same rfl, h.pair_same rfl, h.hbm_same rfl, h.ports_same rfl, h.host_same rfl, h.stewards_same rfl, h.draws_same rfl,
    h.out_same rfl, h.now_same rfl, h.gens_same rfl, h.body_same rfl, h.stats_same rfl rfl rfl, h.mode_same rfl,
    fun q1 q2 => congrArg (fun z => mgetD 0 z (chanKey q1 q2)) (h.gens_same rfl),
    fun q1 q2 h0 => h.reg_same q2 (m (q1 / 256 % 256) (Nat.mod_lt _ (by decide)) h0),
    fun q1 q2 h0 => h.oct_same q2 (m (q1 / 256 % 256) (Nat.mod_lt _ (by decide)) h0), h.objs_rise, h.octs_rise⟩

@[simp] theorem State.healthFree_same {s : State} {area : Nat} {code : Nat} {detail : List Byte} :
    (State.healthFree s area code detail).acc = s.acc ∧ (State.healthFree s area code detail).power = s.power ∧
    (State.healthFree s area code detail).epochs = s.epochs ∧ (State.healthFree s area code detail).tables = s.tables ∧
    (State.healthFree s area code detail).slices = s.slices ∧ (State.healthFree s area code detail).meters = s.meters ∧
    (State.healthFree s area code detail).tm = s.tm ∧ (State.healthFree s area code detail).fab = s.fab ∧
    (State.healthFree s area code detail).pair = s.pair ∧ (State.healthFree s area code detail).hbm = s.hbm ∧
    (State.healthFree s area code detail).ports = s.ports ∧ (State.healthFree s area code detail).host = s.host ∧
    (State.healthFree s area code detail).stewards = s.stewards ∧ (State.healthFree s area code detail).out = s.out ∧
    (State.healthFree s area code detail).now = s.now ∧ (State.healthFree s area code detail).gens = s.gens ∧
    (State.healthFree s area code detail).fw.body = s.fw.body ∧ (State.healthFree s area code detail).stats = s.stats ∧
    (State.healthFree s area code detail).mode = s.mode ∧ (∀ q1 q2, (State.healthFree s area code detail).gen q1 q2 = s.gen q1 q2) ∧
    (∀ q1 q2, q1 / 256 % 256 ≠ 0xD0 → (State.healthFree s area code detail).reg q1 q2 = s.reg q1 q2) ∧
    (∀ q1 q2, q1 / 256 % 256 ≠ 0xD0 → (State.healthFree s area code detail).oct q1 q2 = s.oct q1 q2) ∧
    (rising s.objs = true → rising (State.healthFree s area code detail).objs = true) ∧
    (rising s.octs = true → rising (State.healthFree s area code detail).octs = true) := by
  have h : On inS 0x1000000000000000000000000000000000000000000000000000000c10000 s (State.healthFree s area code detail) := State.healthFree_keeps (Covers.refl _) .start
  have m : ∀ n, n < 256 → n ≠ 0xD0 → Nat.testBit 0x1000000000000000000000000000000000000000000000000000000c10000 (32 + n) = false := by decide +kernel
  exact ⟨h.acc_same rfl, h.power_same rfl, h.epochs_same rfl, h.tables_same rfl, h.slices_same rfl, h.meters_same rfl, h.tm_same rfl,
    h.fab_same rfl, h.pair_same rfl, h.hbm_same rfl, h.ports_same rfl, h.host_same rfl, h.stewards_same rfl, h.out_same rfl,
    h.now_same rfl, h.gens_same rfl, h.body_same rfl, h.stats_same rfl rfl rfl, h.mode_same rfl,
    fun q1 q2 => congrArg (fun z => mgetD 0 z (chanKey q1 q2)) (h.gens_same rfl),
    fun q1 q2 h0 => h.reg_same q2 (m (q1 / 256 % 256) (Nat.mod_lt _ (by decide)) h0),
    fun q1 q2 h0 => h.oct_same q2 (m (q1 / 256 % 256) (Nat.mod_lt _ (by decide)) h0), h.objs_rise, h.octs_rise⟩

@[simp] theorem State.raiseEvent_same {s : State} {e : Nat} {d0 : Nat} {d1 : Nat} :
    (State.raiseEvent s e d0 d1).acc = s.acc ∧ (State.raiseEvent s e d0 d1).power = s.power ∧
    (State.raiseEvent s e d0 d1).epochs = s.epochs ∧ (State.raiseEvent s e d0 d1).tables = s.tables ∧
    (State.raiseEvent s e d0 d1).slices = s.slices ∧ (State.raiseEvent s e d0 d1).meters = s.meters ∧
    (State.raiseEvent s e d0 d1).tm = s.tm ∧ (State.raiseEvent s e d0 d1).fab = s.fab ∧ (State.raiseEvent s e d0 d1).pair = s.pair ∧
    (State.raiseEvent s e d0 d1).hbm = s.hbm ∧ (State.raiseEvent s e d0 d1).ports = s.ports ∧
    (State.raiseEvent s e d0 d1).draws = s.draws ∧ (State.raiseEvent s e d0 d1).now = s.now ∧
    (State.raiseEvent s e d0 d1).gens = s.gens ∧ (State.raiseEvent s e d0 d1).fw = s.fw ∧ (State.raiseEvent s e d0 d1).test = s.test ∧
    (State.raiseEvent s e d0 d1).mode = s.mode ∧ (∀ q1 q2, (State.raiseEvent s e d0 d1).gen q1 q2 = s.gen q1 q2) ∧
    (∀ q1 q2, q1 / 256 % 256 ≠ 0xC0 → q1 / 256 % 256 ≠ 0xC8 → (State.raiseEvent s e d0 d1).reg q1 q2 = s.reg q1 q2) ∧
    (∀ q1 q2, q1 / 256 % 256 ≠ 0xC0 → q1 / 256 % 256 ≠ 0xC8 → (State.raiseEvent s e d0 d1).oct q1 q2 = s.oct q1 q2) ∧
    (rising s.objs = true → rising (State.raiseEvent s e d0 d1).objs = true) ∧
    (rising s.octs = true → rising (State.raiseEvent s e d0 d1).octs = true) := by
  have h : On inS 0x10100000000000000000000000000000000000000000000000000323000 s (State.raiseEvent s e d0 d1) := State.raiseEvent_keeps (Covers.refl _) .start
  have m : ∀ n, n < 256 → n ≠ 0xC0 → n ≠ 0xC8 → Nat.testBit 0x10100000000000000000000000000000000000000000000000000323000 (32 + n) = false := by decide +kernel
  exact ⟨h.acc_same rfl, h.power_same rfl, h.epochs_same rfl, h.tables_same rfl, h.slices_same rfl, h.meters_same rfl, h.tm_same rfl,
    h.fab_same rfl, h.pair_same rfl, h.hbm_same rfl, h.ports_same rfl, h.draws_same rfl, h.now_same rfl, h.gens_same rfl,
    h.fw_same rfl rfl, h.test_same rfl rfl, h.mode_same rfl,
    fun q1 q2 => congrArg (fun z => mgetD 0 z (chanKey q1 q2)) (h.gens_same rfl),
    fun q1 q2 h0 h1 => h.reg_same q2 (m (q1 / 256 % 256) (Nat.mod_lt _ (by decide)) h0 h1),
    fun q1 q2 h0 h1 => h.oct_same q2 (m (q1 / 256 % 256) (Nat.mod_lt _ (by decide)) h0 h1), h.objs_rise, h.octs_rise⟩

@[simp] theorem State.fence_same {s : State} :
    (State.fence s).acc = s.acc ∧ (State.fence s).power = s.power ∧ (State.fence s).epochs = s.epochs ∧
    (State.fence s).tables = s.tables ∧ (State.fence s).slices = s.slices ∧ (State.fence s).meters = s.meters ∧
    (State.fence s).tm = s.tm ∧ (State.fence s).fab = s.fab ∧ (State.fence s).hbm = s.hbm ∧ (State.fence s).ports = s.ports ∧
    (State.fence s).host = s.host ∧ (State.fence s).stewards = s.stewards ∧ (State.fence s).draws = s.draws ∧
    (State.fence s).now = s.now ∧ (State.fence s).gens = s.gens ∧ (State.fence s).fw = s.fw ∧ (State.fence s).stats = s.stats ∧
    (State.fence s).test = s.test ∧ (State.fence s).mode = s.mode ∧ (∀ q1 q2, (State.fence s).gen q1 q2 = s.gen q1 q2) ∧
    (∀ q1 q2, q1 / 256 % 256 ≠ 0x90 → (State.fence s).reg q1 q2 = s.reg q1 q2) ∧
    (∀ q1 q2, q1 / 256 % 256 ≠ 0x90 → (State.fence s).oct q1 q2 = s.oct q1 q2) ∧
    (rising s.objs = true → rising (State.fence s).objs = true) ∧ (rising s.octs = true → rising (State.fence s).octs = true) := by
  have h : On inS 0x100000000000000000000000000000000000002020200 s (State.fence s) := State.fence_keeps (Covers.refl _) .start
  have m : ∀ n, n < 256 → n ≠ 0x90 → Nat.testBit 0x100000000000000000000000000000000000002020200 (32 + n) = false := by decide +kernel
  exact ⟨h.acc_same rfl, h.power_same rfl, h.epochs_same rfl, h.tables_same rfl, h.slices_same rfl, h.meters_same rfl, h.tm_same rfl,
    h.fab_same rfl, h.hbm_same rfl, h.ports_same rfl, h.host_same rfl, h.stewards_same rfl, h.draws_same rfl, h.now_same rfl,
    h.gens_same rfl, h.fw_same rfl rfl, h.stats_same rfl rfl rfl, h.test_same rfl rfl, h.mode_same rfl,
    fun q1 q2 => congrArg (fun z => mgetD 0 z (chanKey q1 q2)) (h.gens_same rfl),
    fun q1 q2 h0 => h.reg_same q2 (m (q1 / 256 % 256) (Nat.mod_lt _ (by decide)) h0),
    fun q1 q2 h0 => h.oct_same q2 (m (q1 / 256 % 256) (Nat.mod_lt _ (by decide)) h0), h.objs_rise, h.octs_rise⟩

@[simp] theorem State.refreshIdentity_same {s : State} :
    (State.refreshIdentity s).acc = s.acc ∧ (State.refreshIdentity s).power = s.power ∧ (State.refreshIdentity s).epochs = s.epochs ∧
    (State.refreshIdentity s).tables = s.tables ∧ (State.refreshIdentity s).slices = s.slices ∧
    (State.refreshIdentity s).meters = s.meters ∧ (State.refreshIdentity s).tm = s.tm ∧ (State.refreshIdentity s).fab = s.fab ∧
    (State.refreshIdentity s).hbm = s.hbm ∧ (State.refreshIdentity s).ports = s.ports ∧ (State.refreshIdentity s).host = s.host ∧
    (State.refreshIdentity s).stewards = s.stewards ∧ (State.refreshIdentity s).draws = s.draws ∧ (State.refreshIdentity s).now = s.now ∧
    (State.refreshIdentity s).gens = s.gens ∧ (State.refreshIdentity s).fw = s.fw ∧ (State.refreshIdentity s).stats = s.stats ∧
    (State.refreshIdentity s).test = s.test ∧ (State.refreshIdentity s).mode = s.mode ∧
    (State.refreshIdentity s).pair.fenced = s.pair.fenced ∧ (∀ q1 q2, (State.refreshIdentity s).gen q1 q2 = s.gen q1 q2) ∧
    (∀ q1 q2, (State.refreshIdentity s).reg q1 q2 = s.reg q1 q2) ∧ (∀ q1 q2, (State.refreshIdentity s).oct q1 q2 = s.oct q1 q2) ∧
    (rising s.objs = true → rising (State.refreshIdentity s).objs = true) ∧
    (rising s.octs = true → rising (State.refreshIdentity s).octs = true) := by
  have h : On inS 0x20200 s (State.refreshIdentity s) := State.refreshIdentity_keeps (Covers.refl _) .start
  have m : ∀ n, n < 256 → Nat.testBit 0x20200 (32 + n) = false := by decide +kernel
  exact ⟨h.acc_same rfl, h.power_same rfl, h.epochs_same rfl, h.tables_same rfl, h.slices_same rfl, h.meters_same rfl, h.tm_same rfl,
    h.fab_same rfl, h.hbm_same rfl, h.ports_same rfl, h.host_same rfl, h.stewards_same rfl, h.draws_same rfl, h.now_same rfl,
    h.gens_same rfl, h.fw_same rfl rfl, h.stats_same rfl rfl rfl, h.test_same rfl rfl, h.mode_same rfl, h.fence_same rfl,
    fun q1 q2 => congrArg (fun z => mgetD 0 z (chanKey q1 q2)) (h.gens_same rfl),
    fun q1 q2 => h.reg_same q2 (m (q1 / 256 % 256) (Nat.mod_lt _ (by decide))),
    fun q1 q2 => h.oct_same q2 (m (q1 / 256 % 256) (Nat.mod_lt _ (by decide))), h.objs_rise, h.octs_rise⟩

@[simp] theorem State.tryRejoin_same {s : State} :
    (State.tryRejoin s).acc = s.acc ∧ (State.tryRejoin s).epochs = s.epochs ∧ (State.tryRejoin s).tables = s.tables ∧
    (State.tryRejoin s).slices = s.slices ∧ (State.tryRejoin s).meters = s.meters ∧ (State.tryRejoin s).tm = s.tm ∧
    (State.tryRejoin s).fab = s.fab ∧ (State.tryRejoin s).pair = s.pair ∧ (State.tryRejoin s).hbm = s.hbm ∧
    (State.tryRejoin s).ports = s.ports ∧ (State.tryRejoin s).host = s.host ∧ (State.tryRejoin s).stewards = s.stewards ∧
    (State.tryRejoin s).draws = s.draws ∧ (State.tryRejoin s).out = s.out ∧ (State.tryRejoin s).now = s.now ∧
    (State.tryRejoin s).gens = s.gens ∧ (State.tryRejoin s).fw = s.fw ∧ (State.tryRejoin s).stats = s.stats ∧
    (State.tryRejoin s).test = s.test ∧ (State.tryRejoin s).mode = s.mode ∧ (∀ q1 q2, (State.tryRejoin s).gen q1 q2 = s.gen q1 q2) ∧
    (∀ q1 q2, (State.tryRejoin s).reg q1 q2 = s.reg q1 q2) ∧ (∀ q1 q2, (State.tryRejoin s).oct q1 q2 = s.oct q1 q2) ∧
    (rising s.objs = true → rising (State.tryRejoin s).objs = true) ∧
    (rising s.octs = true → rising (State.tryRejoin s).octs = true) := by
  have h : On inS 0x2 s (State.tryRejoin s) := State.tryRejoin_keeps (Covers.refl _) .start
  have m : ∀ n, n < 256 → Nat.testBit 0x2 (32 + n) = false := by decide +kernel
  exact ⟨h.acc_same rfl, h.epochs_same rfl, h.tables_same rfl, h.slices_same rfl, h.meters_same rfl, h.tm_same rfl, h.fab_same rfl,
    h.pair_same rfl, h.hbm_same rfl, h.ports_same rfl, h.host_same rfl, h.stewards_same rfl, h.draws_same rfl, h.out_same rfl,
    h.now_same rfl, h.gens_same rfl, h.fw_same rfl rfl, h.stats_same rfl rfl rfl, h.test_same rfl rfl, h.mode_same rfl,
    fun q1 q2 => congrArg (fun z => mgetD 0 z (chanKey q1 q2)) (h.gens_same rfl),
    fun q1 q2 => h.reg_same q2 (m (q1 / 256 % 256) (Nat.mod_lt _ (by decide))),
    fun q1 q2 => h.oct_same q2 (m (q1 / 256 % 256) (Nat.mod_lt _ (by decide))), h.objs_rise, h.octs_rise⟩

@[simp] theorem State.wakeAll_same {s : State} :
    (State.wakeAll s).acc = s.acc ∧ (State.wakeAll s).power = s.power ∧ (State.wakeAll s).epochs = s.epochs ∧
    (State.wakeAll s).tables = s.tables ∧ (State.wakeAll s).meters = s.meters ∧ (State.wakeAll s).tm = s.tm ∧
    (State.wakeAll s).pair = s.pair ∧ (State.wakeAll s).host = s.host ∧ (State.wakeAll s).stewards = s.stewards ∧
    (State.wakeAll s).draws = s.draws ∧ (State.wakeAll s).now = s.now ∧ (State.wakeAll s).gens = s.gens ∧ (State.wakeAll s).fw = s.fw ∧
    (State.wakeAll s).test = s.test ∧ (State.wakeAll s).mode = s.mode ∧ (∀ q1 q2, (State.wakeAll s).gen q1 q2 = s.gen q1 q2) ∧
    (∀ q1 q2, q1 / 256 % 256 ≠ 0x21 → q1 / 256 % 256 ≠ 0x34 → q1 / 256 % 256 ≠ 0x71 → q1 / 256 % 256 ≠ 0x80 → (State.wakeAll s).reg q1 q2 = s.reg q1 q2) ∧
    (∀ q1 q2, q1 / 256 % 256 ≠ 0x21 → q1 / 256 % 256 ≠ 0x34 → q1 / 256 % 256 ≠ 0x71 → q1 / 256 % 256 ≠ 0x80 → (State.wakeAll s).oct q1 q2 = s.oct q1 q2) ∧
    (rising s.objs = true → rising (State.wakeAll s).objs = true) ∧ (rising s.octs = true → rising (State.wakeAll s).octs = true) := by
  have h : On inS 0x10002000000000000001000020000000000120d20 s (State.wakeAll s) := State.wakeAll_keeps (Covers.refl _) .start
  have m : ∀ n, n < 256 → n ≠ 0x21 → n ≠ 0x34 → n ≠ 0x71 → n ≠ 0x80 → Nat.testBit 0x10002000000000000001000020000000000120d20 (32 + n) = false := by decide +kernel
  exact ⟨h.acc_same rfl, h.power_same rfl, h.epochs_same rfl, h.tables_same rfl, h.meters_same rfl, h.tm_same rfl, h.pair_same rfl,
    h.host_same rfl, h.stewards_same rfl, h.draws_same rfl, h.now_same rfl, h.gens_same rfl, h.fw_same rfl rfl, h.test_same rfl rfl,
    h.mode_same rfl, fun q1 q2 => congrArg (fun z => mgetD 0 z (chanKey q1 q2)) (h.gens_same rfl),
    fun q1 q2 h0 h1 h2 h3 => h.reg_same q2 (m (q1 / 256 % 256) (Nat.mod_lt _ (by decide)) h0 h1 h2 h3),
    fun q1 q2 h0 h1 h2 h3 => h.oct_same q2 (m (q1 / 256 % 256) (Nat.mod_lt _ (by decide)) h0 h1 h2 h3), h.objs_rise, h.octs_rise⟩

@[simp] theorem State.onEnter_same {s : State} {prev : Mode} {m : Mode} :
    (State.onEnter s prev m).epochs = s.epochs ∧ (State.onEnter s prev m).slices = s.slices ∧
    (State.onEnter s prev m).meters = s.meters ∧ (State.onEnter s prev m).host = s.host ∧
    (State.onEnter s prev m).stewards = s.stewards ∧ (State.onEnter s prev m).now = s.now ∧ (State.onEnter s prev m).gens = s.gens ∧
    (State.onEnter s prev m).mode = s.mode ∧ (∀ q1 q2, (State.onEnter s prev m).gen q1 q2 = s.gen q1 q2) ∧
    (∀ q1 q2, q1 / 256 % 256 ∉ [0x30, 0x31, 0x32, 0x34, 0x36, 0x5C, 0x70, 0x71, 0x7E, 0xC1, 0xD0] → (State.onEnter s prev m).reg q1 q2 = s.reg q1 q2) ∧
    (∀ q1 q2, q1 / 256 % 256 ∉ [0x30, 0x31, 0x32, 0x34, 0x36, 0x5C, 0x70, 0x71, 0x7E, 0xC1, 0xD0] → (State.onEnter s prev m).oct q1 q2 = s.oct q1 q2) ∧
    (rising s.objs = true → rising (State.onEnter s prev m).objs = true) ∧
    (rising s.octs = true → rising (State.onEnter s prev m).octs = true) := by
  have h : On inS 0x1000200000000000000004003000010000000005700000000000002f3cf97 s (State.onEnter s prev m) := State.onEnter_keeps (Covers.refl _) .start
  have m : ∀ n, n < 256 → n ∉ [0x30, 0x31, 0x32, 0x34, 0x36, 0x5C, 0x70, 0x71, 0x7E, 0xC1, 0xD0] → Nat.testBit 0x1000200000000000000004003000010000000005700000000000002f3cf97 (32 + n) = false := by decide +kernel
  exact ⟨h.epochs_same rfl, h.slices_same rfl, h.meters_same rfl, h.host_same rfl, h.stewards_same rfl, h.now_same rfl, h.gens_same rfl,
    h.mode_same rfl, fun q1 q2 => congrArg (fun z => mgetD 0 z (chanKey q1 q2)) (h.gens_same rfl),
    fun q1 q2 h0 => h.reg_same q2 (m (q1 / 256 % 256) (Nat.mod_lt _ (by decide)) h0),
    fun q1 q2 h0 => h.oct_same q2 (m (q1 / 256 % 256) (Nat.mod_lt _ (by decide)) h0), h.objs_rise, h.octs_rise⟩

@[simp] theorem State.breakPair_same {s : State} {lost : Bool} :
    (State.breakPair s lost).acc = s.acc ∧ (State.breakPair s lost).power = s.power ∧ (State.breakPair s lost).epochs = s.epochs ∧
    (State.breakPair s lost).tables = s.tables ∧ (State.breakPair s lost).slices = s.slices ∧
    (State.breakPair s lost).meters = s.meters ∧ (State.breakPair s lost).tm = s.tm ∧ (State.breakPair s lost).fab = s.fab ∧
    (State.breakPair s lost).hbm = s.hbm ∧ (State.breakPair s lost).ports = s.ports ∧ (State.breakPair s lost).host = s.host ∧
    (State.breakPair s lost).stewards = s.stewards ∧ (State.breakPair s lost).draws = s.draws ∧ (State.breakPair s lost).out = s.out ∧
    (State.breakPair s lost).now = s.now ∧ (State.breakPair s lost).gens = s.gens ∧ (State.breakPair s lost).fw = s.fw ∧
    (State.breakPair s lost).stats = s.stats ∧ (State.breakPair s lost).test = s.test ∧ (State.breakPair s lost).mode = s.mode ∧
    (State.breakPair s lost).pair.fenced = s.pair.fenced ∧ (∀ q1 q2, (State.breakPair s lost).gen q1 q2 = s.gen q1 q2) ∧
    (∀ q1 q2, (State.breakPair s lost).reg q1 q2 = s.reg q1 q2) ∧ (∀ q1 q2, (State.breakPair s lost).oct q1 q2 = s.oct q1 q2) ∧
    (rising s.objs = true → rising (State.breakPair s lost).objs = true) ∧
    (rising s.octs = true → rising (State.breakPair s lost).octs = true) := by
  have h : On inS 0x200 s (State.breakPair s lost) := State.breakPair_keeps (Covers.refl _) .start
  have m : ∀ n, n < 256 → Nat.testBit 0x200 (32 + n) = false := by decide +kernel
  exact ⟨h.acc_same rfl, h.power_same rfl, h.epochs_same rfl, h.tables_same rfl, h.slices_same rfl, h.meters_same rfl, h.tm_same rfl,
    h.fab_same rfl, h.hbm_same rfl, h.ports_same rfl, h.host_same rfl, h.stewards_same rfl, h.draws_same rfl, h.out_same rfl,
    h.now_same rfl, h.gens_same rfl, h.fw_same rfl rfl, h.stats_same rfl rfl rfl, h.test_same rfl rfl, h.mode_same rfl, h.fence_same rfl,
    fun q1 q2 => congrArg (fun z => mgetD 0 z (chanKey q1 q2)) (h.gens_same rfl),
    fun q1 q2 => h.reg_same q2 (m (q1 / 256 % 256) (Nat.mod_lt _ (by decide))),
    fun q1 q2 => h.oct_same q2 (m (q1 / 256 % 256) (Nat.mod_lt _ (by decide))), h.objs_rise, h.octs_rise⟩

@[simp] theorem State.enterDormant_same {s : State} :
    (State.enterDormant s).draws = s.draws ∧ (State.enterDormant s).out = s.out ∧ (State.enterDormant s).now = s.now ∧
    (State.enterDormant s).fw = s.fw ∧ (rising s.objs = true → rising (State.enterDormant s).objs = true) ∧
    (rising s.octs = true → rising (State.enterDormant s).octs = true) := by
  have h : On inS 0xffffffffffffffffffffffffffffffffffffffffffffffffffffffffffffffff03b8fffb s (State.enterDormant s) := State.enterDormant_keeps (Covers.refl _) .start
  exact ⟨h.draws_same rfl, h.out_same rfl, h.now_same rfl, h.fw_same rfl rfl, h.objs_rise, h.octs_rise⟩

@[simp] theorem State.sinkDormant_same {s : State} :
    (State.sinkDormant s).draws = s.draws ∧ (State.sinkDormant s).out = s.out ∧ (State.sinkDormant s).now = s.now ∧
    (State.sinkDormant s).fw = s.fw ∧ (rising s.objs = true → rising (State.sinkDormant s).objs = true) ∧
    (rising s.octs = true → rising (State.sinkDormant s).octs = true) := by
  have h : On inS 0xffffffffffffffffffffffffffffffffffffffffffffffffffffffffffffffff03b8fffb s (State.sinkDormant s) := State.sinkDormant_keeps (Covers.refl _) .start
  exact ⟨h.draws_same rfl, h.out_same rfl, h.now_same rfl, h.fw_same rfl rfl, h.objs_rise, h.octs_rise⟩

@[simp] theorem State.shutDown_same {s : State} {trip : Bool} :
    (State.shutDown s trip).draws = s.draws ∧ (State.shutDown s trip).now = s.now ∧
    (rising s.objs = true → rising (State.shutDown s trip).objs = true) ∧
    (rising s.octs = true → rising (State.shutDown s trip).octs = true) := by
  have h : On inS 0xffffffffffffffffffffffffffffffffffffffffffffffffffffffffffffffff03faffff s (State.shutDown s trip) := State.shutDown_keeps (Covers.refl _) .start
  exact ⟨h.draws_same rfl, h.now_same rfl, h.objs_rise, h.octs_rise⟩

@[simp] theorem State.setRail_same {s : State} {k : Nat} {r : AvsRail} :
    (State.setRail s k r).acc = s.acc ∧ (State.setRail s k r).epochs = s.epochs ∧ (State.setRail s k r).tables = s.tables ∧
    (State.setRail s k r).slices = s.slices ∧ (State.setRail s k r).meters = s.meters ∧ (State.setRail s k r).tm = s.tm ∧
    (State.setRail s k r).fab = s.fab ∧ (State.setRail s k r).pair = s.pair ∧ (State.setRail s k r).hbm = s.hbm ∧
    (State.setRail s k r).ports = s.ports ∧ (State.setRail s k r).host = s.host ∧ (State.setRail s k r).stewards = s.stewards ∧
    (State.setRail s k r).draws = s.draws ∧ (State.setRail s k r).out = s.out ∧ (State.setRail s k r).now = s.now ∧
    (State.setRail s k r).gens = s.gens ∧ (State.setRail s k r).fw = s.fw ∧ (State.setRail s k r).stats = s.stats ∧
    (State.setRail s k r).test = s.test ∧ (State.setRail s k r).mode = s.mode ∧
    (∀ q1 q2, (State.setRail s k r).gen q1 q2 = s.gen q1 q2) ∧ (∀ q1 q2, (State.setRail s k r).reg q1 q2 = s.reg q1 q2) ∧
    (∀ q1 q2, (State.setRail s k r).oct q1 q2 = s.oct q1 q2) ∧ (rising s.objs = true → rising (State.setRail s k r).objs = true) ∧
    (rising s.octs = true → rising (State.setRail s k r).octs = true) := by
  have h : On inS 0x2 s (State.setRail s k r) := State.setRail_keeps (Covers.refl _) .start
  have m : ∀ n, n < 256 → Nat.testBit 0x2 (32 + n) = false := by decide +kernel
  exact ⟨h.acc_same rfl, h.epochs_same rfl, h.tables_same rfl, h.slices_same rfl, h.meters_same rfl, h.tm_same rfl, h.fab_same rfl,
    h.pair_same rfl, h.hbm_same rfl, h.ports_same rfl, h.host_same rfl, h.stewards_same rfl, h.draws_same rfl, h.out_same rfl,
    h.now_same rfl, h.gens_same rfl, h.fw_same rfl rfl, h.stats_same rfl rfl rfl, h.test_same rfl rfl, h.mode_same rfl,
    fun q1 q2 => congrArg (fun z => mgetD 0 z (chanKey q1 q2)) (h.gens_same rfl),
    fun q1 q2 => h.reg_same q2 (m (q1 / 256 % 256) (Nat.mod_lt _ (by decide))),
    fun q1 q2 => h.oct_same q2 (m (q1 / 256 % 256) (Nat.mod_lt _ (by decide))), h.objs_rise, h.octs_rise⟩

@[simp] theorem State.setNmi_same {s : State} {die : Nat} {x : Nmi} :
    (State.setNmi s die x).acc = s.acc ∧ (State.setNmi s die x).power = s.power ∧ (State.setNmi s die x).epochs = s.epochs ∧
    (State.setNmi s die x).tables = s.tables ∧ (State.setNmi s die x).slices = s.slices ∧ (State.setNmi s die x).meters = s.meters ∧
    (State.setNmi s die x).tm = s.tm ∧ (State.setNmi s die x).fab = s.fab ∧ (State.setNmi s die x).pair = s.pair ∧
    (State.setNmi s die x).hbm = s.hbm ∧ (State.setNmi s die x).ports = s.ports ∧ (State.setNmi s die x).host = s.host ∧
    (State.setNmi s die x).draws = s.draws ∧ (State.setNmi s die x).out = s.out ∧ (State.setNmi s die x).now = s.now ∧
    (State.setNmi s die x).gens = s.gens ∧ (State.setNmi s die x).fw = s.fw ∧ (State.setNmi s die x).stats = s.stats ∧
    (State.setNmi s die x).test = s.test ∧ (State.setNmi s die x).mode = s.mode ∧
    (∀ q1 q2, (State.setNmi s die x).gen q1 q2 = s.gen q1 q2) ∧ (∀ q1 q2, (State.setNmi s die x).reg q1 q2 = s.reg q1 q2) ∧
    (∀ q1 q2, (State.setNmi s die x).oct q1 q2 = s.oct q1 q2) ∧ (rising s.objs = true → rising (State.setNmi s die x).objs = true) ∧
    (rising s.octs = true → rising (State.setNmi s die x).octs = true) := by
  have h : On inS 0x2000 s (State.setNmi s die x) := State.setNmi_keeps (Covers.refl _) .start
  have m : ∀ n, n < 256 → Nat.testBit 0x2000 (32 + n) = false := by decide +kernel
  exact ⟨h.acc_same rfl, h.power_same rfl, h.epochs_same rfl, h.tables_same rfl, h.slices_same rfl, h.meters_same rfl, h.tm_same rfl,
    h.fab_same rfl, h.pair_same rfl, h.hbm_same rfl, h.ports_same rfl, h.host_same rfl, h.draws_same rfl, h.out_same rfl, h.now_same rfl,
    h.gens_same rfl, h.fw_same rfl rfl, h.stats_same rfl rfl rfl, h.test_same rfl rfl, h.mode_same rfl,
    fun q1 q2 => congrArg (fun z => mgetD 0 z (chanKey q1 q2)) (h.gens_same rfl),
    fun q1 q2 => h.reg_same q2 (m (q1 / 256 % 256) (Nat.mod_lt _ (by decide))),
    fun q1 q2 => h.oct_same q2 (m (q1 / 256 % 256) (Nat.mod_lt _ (by decide))), h.objs_rise, h.octs_rise⟩

@[simp] theorem State.setDomain_same {s : State} {n : Nat} {st : Nat} :
    (State.setDomain s n st).acc = s.acc ∧ (State.setDomain s n st).power = s.power ∧ (State.setDomain s n st).epochs = s.epochs ∧
    (State.setDomain s n st).tables = s.tables ∧ (State.setDomain s n st).slices = s.slices ∧
    (State.setDomain s n st).meters = s.meters ∧ (State.setDomain s n st).tm = s.tm ∧ (State.setDomain s n st).fab = s.fab ∧
    (State.setDomain s n st).pair = s.pair ∧ (State.setDomain s n st).hbm = s.hbm ∧ (State.setDomain s n st).ports = s.ports ∧
    (State.setDomain s n st).host = s.host ∧ (State.setDomain s n st).stewards = s.stewards ∧ (State.setDomain s n st).draws = s.draws ∧
    (State.setDomain s n st).out = s.out ∧ (State.setDomain s n st).now = s.now ∧ (State.setDomain s n st).gens = s.gens ∧
    (State.setDomain s n st).fw = s.fw ∧ (State.setDomain s n st).test = s.test ∧ (State.setDomain s n st).mode = s.mode ∧
    (∀ q1 q2, (State.setDomain s n st).gen q1 q2 = s.gen q1 q2) ∧
    (∀ q1 q2, q1 / 256 % 256 ≠ 0x21 → (State.setDomain s n st).reg q1 q2 = s.reg q1 q2) ∧
    (∀ q1 q2, q1 / 256 % 256 ≠ 0x21 → (State.setDomain s n st).oct q1 q2 = s.oct q1 q2) ∧
    (rising s.objs = true → rising (State.setDomain s n st).objs = true) ∧
    (rising s.octs = true → rising (State.setDomain s n st).octs = true) := by
  have h : On inS 0x20000000000100000 s (State.setDomain s n st) := State.setDomain_keeps (Covers.refl _) .start
  have m : ∀ n, n < 256 → n ≠ 0x21 → Nat.testBit 0x20000000000100000 (32 + n) = false := by decide +kernel
  exact ⟨h.acc_same rfl, h.power_same rfl, h.epochs_same rfl, h.tables_same rfl, h.slices_same rfl, h.meters_same rfl, h.tm_same rfl,
    h.fab_same rfl, h.pair_same rfl, h.hbm_same rfl, h.ports_same rfl, h.host_same rfl, h.stewards_same rfl, h.draws_same rfl,
    h.out_same rfl, h.now_same rfl, h.gens_same rfl, h.fw_same rfl rfl, h.test_same rfl rfl, h.mode_same rfl,
    fun q1 q2 => congrArg (fun z => mgetD 0 z (chanKey q1 q2)) (h.gens_same rfl),
    fun q1 q2 h0 => h.reg_same q2 (m (q1 / 256 % 256) (Nat.mod_lt _ (by decide)) h0),
    fun q1 q2 h0 => h.oct_same q2 (m (q1 / 256 % 256) (Nat.mod_lt _ (by decide)) h0), h.objs_rise, h.octs_rise⟩

@[simp] theorem State.setPhy_same {s : State} {h : Nat} {st : Nat} :
    (State.setPhy s h st).acc = s.acc ∧ (State.setPhy s h st).power = s.power ∧ (State.setPhy s h st).epochs = s.epochs ∧
    (State.setPhy s h st).tables = s.tables ∧ (State.setPhy s h st).slices = s.slices ∧ (State.setPhy s h st).meters = s.meters ∧
    (State.setPhy s h st).tm = s.tm ∧ (State.setPhy s h st).fab = s.fab ∧ (State.setPhy s h st).pair = s.pair ∧
    (State.setPhy s h st).hbm = s.hbm ∧ (State.setPhy s h st).ports = s.ports ∧ (State.setPhy s h st).host = s.host ∧
    (State.setPhy s h st).stewards = s.stewards ∧ (State.setPhy s h st).draws = s.draws ∧ (State.setPhy s h st).out = s.out ∧
    (State.setPhy s h st).now = s.now ∧ (State.setPhy s h st).gens = s.gens ∧ (State.setPhy s h st).fw = s.fw ∧
    (State.setPhy s h st).test = s.test ∧ (State.setPhy s h st).mode = s.mode ∧
    (∀ q1 q2, (State.setPhy s h st).gen q1 q2 = s.gen q1 q2) ∧
    (∀ q1 q2, q1 / 256 % 256 ≠ 0x21 → (State.setPhy s h st).reg q1 q2 = s.reg q1 q2) ∧
    (∀ q1 q2, q1 / 256 % 256 ≠ 0x21 → (State.setPhy s h st).oct q1 q2 = s.oct q1 q2) ∧
    (rising s.objs = true → rising (State.setPhy s h st).objs = true) ∧
    (rising s.octs = true → rising (State.setPhy s h st).octs = true) := by
  have h : On inS 0x20000000000100000 s (State.setPhy s h st) := State.setPhy_keeps (Covers.refl _) .start
  have m : ∀ n, n < 256 → n ≠ 0x21 → Nat.testBit 0x20000000000100000 (32 + n) = false := by decide +kernel
  exact ⟨h.acc_same rfl, h.power_same rfl, h.epochs_same rfl, h.tables_same rfl, h.slices_same rfl, h.meters_same rfl, h.tm_same rfl,
    h.fab_same rfl, h.pair_same rfl, h.hbm_same rfl, h.ports_same rfl, h.host_same rfl, h.stewards_same rfl, h.draws_same rfl,
    h.out_same rfl, h.now_same rfl, h.gens_same rfl, h.fw_same rfl rfl, h.test_same rfl rfl, h.mode_same rfl,
    fun q1 q2 => congrArg (fun z => mgetD 0 z (chanKey q1 q2)) (h.gens_same rfl),
    fun q1 q2 h0 => h.reg_same q2 (m (q1 / 256 % 256) (Nat.mod_lt _ (by decide)) h0),
    fun q1 q2 h0 => h.oct_same q2 (m (q1 / 256 % 256) (Nat.mod_lt _ (by decide)) h0), h.objs_rise, h.octs_rise⟩

@[simp] theorem State.setGateList_same {s : State} {k : Nat} {g : GateList} :
    (State.setGateList s k g).acc = s.acc ∧ (State.setGateList s k g).power = s.power ∧ (State.setGateList s k g).epochs = s.epochs ∧
    (State.setGateList s k g).tables = s.tables ∧ (State.setGateList s k g).slices = s.slices ∧
    (State.setGateList s k g).meters = s.meters ∧ (State.setGateList s k g).fab = s.fab ∧ (State.setGateList s k g).pair = s.pair ∧
    (State.setGateList s k g).hbm = s.hbm ∧ (State.setGateList s k g).ports = s.ports ∧ (State.setGateList s k g).host = s.host ∧
    (State.setGateList s k g).stewards = s.stewards ∧ (State.setGateList s k g).draws = s.draws ∧ (State.setGateList s k g).out = s.out ∧
    (State.setGateList s k g).now = s.now ∧ (State.setGateList s k g).gens = s.gens ∧ (State.setGateList s k g).fw = s.fw ∧
    (State.setGateList s k g).stats = s.stats ∧ (State.setGateList s k g).test = s.test ∧ (State.setGateList s k g).mode = s.mode ∧
    (∀ q1 q2, (State.setGateList s k g).gen q1 q2 = s.gen q1 q2) ∧
    (∀ q1 q2, q1 / 256 % 256 ≠ 0x7E → (State.setGateList s k g).reg q1 q2 = s.reg q1 q2) ∧
    (∀ q1 q2, q1 / 256 % 256 ≠ 0x7E → (State.setGateList s k g).oct q1 q2 = s.oct q1 q2) ∧
    (rising s.objs = true → rising (State.setGateList s k g).objs = true) ∧
    (rising s.octs = true → rising (State.setGateList s k g).octs = true) := by
  have h : On inS 0x4000000000000000000000000000000000000080 s (State.setGateList s k g) := State.setGateList_keeps (Covers.refl _) .start
  have m : ∀ n, n < 256 → n ≠ 0x7E → Nat.testBit 0x4000000000000000000000000000000000000080 (32 + n) = false := by decide +kernel
  exact ⟨h.acc_same rfl, h.power_same rfl, h.epochs_same rfl, h.tables_same rfl, h.slices_same rfl, h.meters_same rfl, h.fab_same rfl,
    h.pair_same rfl, h.hbm_same rfl, h.ports_same rfl, h.host_same rfl, h.stewards_same rfl, h.draws_same rfl, h.out_same rfl,
    h.now_same rfl, h.gens_same rfl, h.fw_same rfl rfl, h.stats_same rfl rfl rfl, h.test_same rfl rfl, h.mode_same rfl,
    fun q1 q2 => congrArg (fun z => mgetD 0 z (chanKey q1 q2)) (h.gens_same rfl),
    fun q1 q2 h0 => h.reg_same q2 (m (q1 / 256 % 256) (Nat.mod_lt _ (by decide)) h0),
    fun q1 q2 h0 => h.oct_same q2 (m (q1 / 256 % 256) (Nat.mod_lt _ (by decide)) h0), h.objs_rise, h.octs_rise⟩

@[simp] theorem State.allPortsDown_same {s : State} :
    (State.allPortsDown s).acc = s.acc ∧ (State.allPortsDown s).power = s.power ∧ (State.allPortsDown s).epochs = s.epochs ∧
    (State.allPortsDown s).slices = s.slices ∧ (State.allPortsDown s).meters = s.meters ∧ (State.allPortsDown s).fab = s.fab ∧
    (State.allPortsDown s).pair = s.pair ∧ (State.allPortsDown s).host = s.host ∧ (State.allPortsDown s).stewards = s.stewards ∧
    (State.allPortsDown s).draws = s.draws ∧ (State.allPortsDown s).out = s.out ∧ (State.allPortsDown s).now = s.now ∧
    (State.allPortsDown s).gens = s.gens ∧ (State.allPortsDown s).fw = s.fw ∧ (State.allPortsDown s).test = s.test ∧
    (State.allPortsDown s).mode = s.mode ∧ (∀ q1 q2, (State.allPortsDown s).gen q1 q2 = s.gen q1 q2) ∧
    (∀ q1 q2, q1 / 256 % 256 ≠ 0x30 → q1 / 256 % 256 ≠ 0x70 → q1 / 256 % 256 ≠ 0x71 → q1 / 256 % 256 ≠ 0xC1 → (State.allPortsDown s).reg q1 q2 = s.reg q1 q2) ∧
    (∀ q1 q2, q1 / 256 % 256 ≠ 0x30 → q1 / 256 % 256 ≠ 0x70 → q1 / 256 % 256 ≠ 0x71 → q1 / 256 % 256 ≠ 0xC1 → (State.allPortsDown s).oct q1 q2 = s.oct q1 q2) ∧
    (rising s.objs = true → rising (State.allPortsDown s).objs = true) ∧
    (rising s.octs = true → rising (State.allPortsDown s).octs = true) := by
  have h : On inS 0x200000000000000000003000000000000000100000000000000304c90 s (State.allPortsDown s) := State.allPortsDown_keeps (Covers.refl _) .start
  have m : ∀ n, n < 256 → n ≠ 0x30 → n ≠ 0x70 → n ≠ 0x71 → n ≠ 0xC1 → Nat.testBit 0x200000000000000000003000000000000000100000000000000304c90 (32 + n) = false := by decide +kernel
  exact ⟨h.acc_same rfl, h.power_same rfl, h.epochs_same rfl, h.slices_same rfl, h.meters_same rfl, h.fab_same rfl, h.pair_same rfl,
    h.host_same rfl, h.stewards_same rfl, h.draws_same rfl, h.out_same rfl, h.now_same rfl, h.gens_same rfl, h.fw_same rfl rfl,
    h.test_same rfl rfl, h.mode_same rfl, fun q1 q2 => congrArg (fun z => mgetD 0 z (chanKey q1 q2)) (h.gens_same rfl),
    fun q1 q2 h0 h1 h2 h3 => h.reg_same q2 (m (q1 / 256 % 256) (Nat.mod_lt _ (by decide)) h0 h1 h2 h3),
    fun q1 q2 h0 h1 h2 h3 => h.oct_same q2 (m (q1 / 256 % 256) (Nat.mod_lt _ (by decide)) h0 h1 h2 h3), h.objs_rise, h.octs_rise⟩

@[simp] theorem State.abortTests_same {s : State} {pick : Nat → Bool} :
    (State.abortTests s pick).acc = s.acc ∧ (State.abortTests s pick).power = s.power ∧ (State.abortTests s pick).epochs = s.epochs ∧
    (State.abortTests s pick).tables = s.tables ∧ (State.abortTests s pick).slices = s.slices ∧
    (State.abortTests s pick).meters = s.meters ∧ (State.abortTests s pick).tm = s.tm ∧ (State.abortTests s pick).fab = s.fab ∧
    (State.abortTests s pick).pair = s.pair ∧ (State.abortTests s pick).hbm = s.hbm ∧ (State.abortTests s pick).ports = s.ports ∧
    (State.abortTests s pick).host = s.host ∧ (State.abortTests s pick).stewards = s.stewards ∧ (State.abortTests s pick).out = s.out ∧
    (State.abortTests s pick).now = s.now ∧ (State.abortTests s pick).gens = s.gens ∧ (State.abortTests s pick).fw.body = s.fw.body ∧
    (State.abortTests s pick).mode = s.mode ∧ (∀ q1 q2, (State.abortTests s pick).gen q1 q2 = s.gen q1 q2) ∧
    (∀ q1 q2, q1 / 256 % 256 ≠ 0x31 → q1 / 256 % 256 ≠ 0x32 → q1 / 256 % 256 ≠ 0xD0 → (State.abortTests s pick).reg q1 q2 = s.reg q1 q2) ∧
    (∀ q1 q2, q1 / 256 % 256 ≠ 0x31 → q1 / 256 % 256 ≠ 0x32 → q1 / 256 % 256 ≠ 0xD0 → (State.abortTests s pick).oct q1 q2 = s.oct q1 q2) ∧
    (rising s.objs = true → rising (State.abortTests s pick).objs = true) ∧
    (rising s.octs = true → rising (State.abortTests s pick).octs = true) := by
  have h : On inS 0x1000000000000000000000000000000000000000600000000000000f1c000 s (State.abortTests s pick) := State.abortTests_keeps (Covers.refl _) .start
  have m : ∀ n, n < 256 → n ≠ 0x31 → n ≠ 0x32 → n ≠ 0xD0 → Nat.testBit 0x1000000000000000000000000000000000000000600000000000000f1c000 (32 + n) = false := by decide +kernel
  exact ⟨h.acc_same rfl, h.power_same rfl, h.epochs_same rfl, h.tables_same rfl, h.slices_same rfl, h.meters_same rfl, h.tm_same rfl,
    h.fab_same rfl, h.pair_same rfl, h.hbm_same rfl, h.ports_same rfl, h.host_same rfl, h.stewards_same rfl, h.out_same rfl,
    h.now_same rfl, h.gens_same rfl, h.body_same rfl, h.mode_same rfl,
    fun q1 q2 => congrArg (fun z => mgetD 0 z (chanKey q1 q2)) (h.gens_same rfl),
    fun q1 q2 h0 h1 h2 => h.reg_same q2 (m (q1 / 256 % 256) (Nat.mod_lt _ (by decide)) h0 h1 h2),
    fun q1 q2 h0 h1 h2 => h.oct_same q2 (m (q1 / 256 % 256) (Nat.mod_lt _ (by decide)) h0 h1 h2), h.objs_rise, h.octs_rise⟩

@[simp] theorem State.startLanes_same {s : State} :
    (State.startLanes s).acc = s.acc ∧ (State.startLanes s).power = s.power ∧ (State.startLanes s).epochs = s.epochs ∧
    (State.startLanes s).tables = s.tables ∧ (State.startLanes s).slices = s.slices ∧ (State.startLanes s).meters = s.meters ∧
    (State.startLanes s).tm = s.tm ∧ (State.startLanes s).fab = s.fab ∧ (State.startLanes s).hbm = s.hbm ∧
    (State.startLanes s).ports = s.ports ∧ (State.startLanes s).host = s.host ∧ (State.startLanes s).stewards = s.stewards ∧
    (State.startLanes s).draws = s.draws ∧ (State.startLanes s).out = s.out ∧ (State.startLanes s).now = s.now ∧
    (State.startLanes s).gens = s.gens ∧ (State.startLanes s).fw = s.fw ∧ (State.startLanes s).stats = s.stats ∧
    (State.startLanes s).test = s.test ∧ (State.startLanes s).mode = s.mode ∧ (State.startLanes s).pair.fenced = s.pair.fenced ∧
    (∀ q1 q2, (State.startLanes s).gen q1 q2 = s.gen q1 q2) ∧
    (∀ q1 q2, q1 / 256 % 256 ≠ 0x36 → (State.startLanes s).reg q1 q2 = s.reg q1 q2) ∧
    (∀ q1 q2, q1 / 256 % 256 ≠ 0x36 → (State.startLanes s).oct q1 q2 = s.oct q1 q2) ∧
    (rising s.objs = true → rising (State.startLanes s).objs = true) ∧
    (rising s.octs = true → rising (State.startLanes s).octs = true) := by
  have h : On inS 0x4000000000000000000200 s (State.startLanes s) := State.startLanes_keeps (Covers.refl _) .start
  have m : ∀ n, n < 256 → n ≠ 0x36 → Nat.testBit 0x4000000000000000000200 (32 + n) = false := by decide +kernel
  exact ⟨h.acc_same rfl, h.power_same rfl, h.epochs_same rfl, h.tables_same rfl, h.slices_same rfl, h.meters_same rfl, h.tm_same rfl,
    h.fab_same rfl, h.hbm_same rfl, h.ports_same rfl, h.host_same rfl, h.stewards_same rfl, h.draws_same rfl, h.out_same rfl,
    h.now_same rfl, h.gens_same rfl, h.fw_same rfl rfl, h.stats_same rfl rfl rfl, h.test_same rfl rfl, h.mode_same rfl, h.fence_same rfl,
    fun q1 q2 => congrArg (fun z => mgetD 0 z (chanKey q1 q2)) (h.gens_same rfl),
    fun q1 q2 h0 => h.reg_same q2 (m (q1 / 256 % 256) (Nat.mod_lt _ (by decide)) h0),
    fun q1 q2 h0 => h.oct_same q2 (m (q1 / 256 % 256) (Nat.mod_lt _ (by decide)) h0), h.objs_rise, h.octs_rise⟩

@[simp] theorem State.startLinks_same {s : State} :
    (State.startLinks s).acc = s.acc ∧ (State.startLinks s).power = s.power ∧ (State.startLinks s).epochs = s.epochs ∧
    (State.startLinks s).tables = s.tables ∧ (State.startLinks s).slices = s.slices ∧ (State.startLinks s).meters = s.meters ∧
    (State.startLinks s).tm = s.tm ∧ (State.startLinks s).fab = s.fab ∧ (State.startLinks s).pair = s.pair ∧
    (State.startLinks s).hbm = s.hbm ∧ (State.startLinks s).ports = s.ports ∧ (State.startLinks s).host = s.host ∧
    (State.startLinks s).stewards = s.stewards ∧ (State.startLinks s).draws = s.draws ∧ (State.startLinks s).out = s.out ∧
    (State.startLinks s).now = s.now ∧ (State.startLinks s).gens = s.gens ∧ (State.startLinks s).fw = s.fw ∧
    (State.startLinks s).stats = s.stats ∧ (State.startLinks s).test = s.test ∧ (State.startLinks s).mode = s.mode ∧
    (∀ q1 q2, (State.startLinks s).gen q1 q2 = s.gen q1 q2) ∧
    (∀ q1 q2, q1 / 256 % 256 ≠ 0x34 → (State.startLinks s).reg q1 q2 = s.reg q1 q2) ∧
    (∀ q1 q2, q1 / 256 % 256 ≠ 0x34 → (State.startLinks s).oct q1 q2 = s.oct q1 q2) ∧
    (rising s.objs = true → rising (State.startLinks s).objs = true) ∧
    (rising s.octs = true → rising (State.startLinks s).octs = true) := by
  have h : On inS 0x1000000000000000000000 s (State.startLinks s) := State.startLinks_keeps (Covers.refl _) .start
  have m : ∀ n, n < 256 → n ≠ 0x34 → Nat.testBit 0x1000000000000000000000 (32 + n) = false := by decide +kernel
  exact ⟨h.acc_same rfl, h.power_same rfl, h.epochs_same rfl, h.tables_same rfl, h.slices_same rfl, h.meters_same rfl, h.tm_same rfl,
    h.fab_same rfl, h.pair_same rfl, h.hbm_same rfl, h.ports_same rfl, h.host_same rfl, h.stewards_same rfl, h.draws_same rfl,
    h.out_same rfl, h.now_same rfl, h.gens_same rfl, h.fw_same rfl rfl, h.stats_same rfl rfl rfl, h.test_same rfl rfl, h.mode_same rfl,
    fun q1 q2 => congrArg (fun z => mgetD 0 z (chanKey q1 q2)) (h.gens_same rfl),
    fun q1 q2 h0 => h.reg_same q2 (m (q1 / 256 % 256) (Nat.mod_lt _ (by decide)) h0),
    fun q1 q2 h0 => h.oct_same q2 (m (q1 / 256 % 256) (Nat.mod_lt _ (by decide)) h0), h.objs_rise, h.octs_rise⟩

@[simp] theorem State.portsReset_same {s : State} :
    (State.portsReset s).acc = s.acc ∧ (State.portsReset s).epochs = s.epochs ∧ (State.portsReset s).tables = s.tables ∧
    (State.portsReset s).slices = s.slices ∧ (State.portsReset s).meters = s.meters ∧ (State.portsReset s).tm = s.tm ∧
    (State.portsReset s).fab = s.fab ∧ (State.portsReset s).pair = s.pair ∧ (State.portsReset s).hbm = s.hbm ∧
    (State.portsReset s).host = s.host ∧ (State.portsReset s).stewards = s.stewards ∧ (State.portsReset s).now = s.now ∧
    (State.portsReset s).gens = s.gens ∧ (State.portsReset s).fw.body = s.fw.body ∧ (State.portsReset s).mode = s.mode ∧
    (∀ q1 q2, (State.portsReset s).gen q1 q2 = s.gen q1 q2) ∧
    (∀ q1 q2, q1 / 256 % 256 ≠ 0x30 → q1 / 256 % 256 ≠ 0x31 → q1 / 256 % 256 ≠ 0x32 → q1 / 256 % 256 ≠ 0xD0 → (State.portsReset s).reg q1 q2 = s.reg q1 q2) ∧
    (∀ q1 q2, q1 / 256 % 256 ≠ 0x30 → q1 / 256 % 256 ≠ 0x31 → q1 / 256 % 256 ≠ 0x32 → q1 / 256 % 256 ≠ 0xD0 → (State.portsReset s).oct q1 q2 = s.oct q1 q2) ∧
    (rising s.objs = true → rising (State.portsReset s).objs = true) ∧
    (rising s.octs = true → rising (State.portsReset s).octs = true) := by
  have h : On inS 0x1000000000000000000000000000000000000000700000000000000f3c802 s (State.portsReset s) := State.portsReset_keeps (Covers.refl _) .start
  have m : ∀ n, n < 256 → n ≠ 0x30 → n ≠ 0x31 → n ≠ 0x32 → n ≠ 0xD0 → Nat.testBit 0x1000000000000000000000000000000000000000700000000000000f3c802 (32 + n) = false := by decide +kernel
  exact ⟨h.acc_same rfl, h.epochs_same rfl, h.tables_same rfl, h.slices_same rfl, h.meters_same rfl, h.tm_same rfl, h.fab_same rfl,
    h.pair_same rfl, h.hbm_same rfl, h.host_same rfl, h.stewards_same rfl, h.now_same rfl, h.gens_same rfl, h.body_same rfl,
    h.mode_same rfl, fun q1 q2 => congrArg (fun z => mgetD 0 z (chanKey q1 q2)) (h.gens_same rfl),
    fun q1 q2 h0 h1 h2 h3 => h.reg_same q2 (m (q1 / 256 % 256) (Nat.mod_lt _ (by decide)) h0 h1 h2 h3),
    fun q1 q2 h0 h1 h2 h3 => h.oct_same q2 (m (q1 / 256 % 256) (Nat.mod_lt _ (by decide)) h0 h1 h2 h3), h.objs_rise, h.octs_rise⟩

@[simp] theorem State.setLanes_same {s : State} {ls : List Nat} {st : Nat} :
    (State.setLanes s ls st).acc = s.acc ∧ (State.setLanes s ls st).power = s.power ∧ (State.setLanes s ls st).epochs = s.epochs ∧
    (State.setLanes s ls st).tables = s.tables ∧ (State.setLanes s ls st).slices = s.slices ∧
    (State.setLanes s ls st).meters = s.meters ∧ (State.setLanes s ls st).tm = s.tm ∧ (State.setLanes s ls st).fab = s.fab ∧
    (State.setLanes s ls st).pair = s.pair ∧ (State.setLanes s ls st).hbm = s.hbm ∧ (State.setLanes s ls st).ports = s.ports ∧
    (State.setLanes s ls st).host = s.host ∧ (State.setLanes s ls st).stewards = s.stewards ∧ (State.setLanes s ls st).draws = s.draws ∧
    (State.setLanes s ls st).out = s.out ∧ (State.setLanes s ls st).now = s.now ∧ (State.setLanes s ls st).gens = s.gens ∧
    (State.setLanes s ls st).fw = s.fw ∧ (State.setLanes s ls st).stats = s.stats ∧ (State.setLanes s ls st).test = s.test ∧
    (State.setLanes s ls st).mode = s.mode ∧ (∀ q1 q2, (State.setLanes s ls st).gen q1 q2 = s.gen q1 q2) ∧
    (∀ q1 q2, q1 / 256 % 256 ≠ 0x31 → q1 / 256 % 256 ≠ 0x32 → (State.setLanes s ls st).reg q1 q2 = s.reg q1 q2) ∧
    (∀ q1 q2, q1 / 256 % 256 ≠ 0x31 → q1 / 256 % 256 ≠ 0x32 → (State.setLanes s ls st).oct q1 q2 = s.oct q1 q2) ∧
    (rising s.objs = true → rising (State.setLanes s ls st).objs = true) ∧
    (rising s.octs = true → rising (State.setLanes s ls st).octs = true) := by
  have h : On inS 0x600000000000000000000 s (State.setLanes s ls st) := State.setLanes_keeps (Covers.refl _) .start
  have m : ∀ n, n < 256 → n ≠ 0x31 → n ≠ 0x32 → Nat.testBit 0x600000000000000000000 (32 + n) = false := by decide +kernel
  exact ⟨h.acc_same rfl, h.power_same rfl, h.epochs_same rfl, h.tables_same rfl, h.slices_same rfl, h.meters_same rfl, h.tm_same rfl,
    h.fab_same rfl, h.pair_same rfl, h.hbm_same rfl, h.ports_same rfl, h.host_same rfl, h.stewards_same rfl, h.draws_same rfl,
    h.out_same rfl, h.now_same rfl, h.gens_same rfl, h.fw_same rfl rfl, h.stats_same rfl rfl rfl, h.test_same rfl rfl, h.mode_same rfl,
    fun q1 q2 => congrArg (fun z => mgetD 0 z (chanKey q1 q2)) (h.gens_same rfl),
    fun q1 q2 h0 h1 => h.reg_same q2 (m (q1 / 256 % 256) (Nat.mod_lt _ (by decide)) h0 h1),
    fun q1 q2 h0 h1 => h.oct_same q2 (m (q1 / 256 % 256) (Nat.mod_lt _ (by decide)) h0 h1), h.objs_rise, h.octs_rise⟩

@[simp] theorem State.abandonInstall_same {s : State} :
    (State.abandonInstall s).acc = s.acc ∧ (State.abandonInstall s).power = s.power ∧ (State.abandonInstall s).epochs = s.epochs ∧
    (State.abandonInstall s).tables = s.tables ∧ (State.abandonInstall s).slices = s.slices ∧
    (State.abandonInstall s).meters = s.meters ∧ (State.abandonInstall s).tm = s.tm ∧ (State.abandonInstall s).fab = s.fab ∧
    (State.abandonInstall s).pair = s.pair ∧ (State.abandonInstall s).hbm = s.hbm ∧ (State.abandonInstall s).ports = s.ports ∧
    (State.abandonInstall s).host = s.host ∧ (State.abandonInstall s).stewards = s.stewards ∧ (State.abandonInstall s).draws = s.draws ∧
    (State.abandonInstall s).out = s.out ∧ (State.abandonInstall s).now = s.now ∧ (State.abandonInstall s).gens = s.gens ∧
    (State.abandonInstall s).stats = s.stats ∧ (State.abandonInstall s).test = s.test ∧ (State.abandonInstall s).mode = s.mode ∧
    (∀ q1 q2, (State.abandonInstall s).gen q1 q2 = s.gen q1 q2) ∧
    (∀ q1 q2, q1 / 256 % 256 ≠ 0xE0 → (State.abandonInstall s).reg q1 q2 = s.reg q1 q2) ∧
    (∀ q1 q2, q1 / 256 % 256 ≠ 0xE0 → (State.abandonInstall s).oct q1 q2 = s.oct q1 q2) ∧
    (rising s.objs = true → rising (State.abandonInstall s).objs = true) ∧
    (rising s.octs = true → rising (State.abandonInstall s).octs = true) := by
  have h : On inS 0x10000000000000000000000000000000000000000000000000000000000400004 s (State.abandonInstall s) := State.abandonInstall_keeps (Covers.refl _) .start
  have m : ∀ n, n < 256 → n ≠ 0xE0 → Nat.testBit 0x10000000000000000000000000000000000000000000000000000000000400004 (32 + n) = false := by decide +kernel
  exact ⟨h.acc_same rfl, h.power_same rfl, h.epochs_same rfl, h.tables_same rfl, h.slices_same rfl, h.meters_same rfl, h.tm_same rfl,
    h.fab_same rfl, h.pair_same rfl, h.hbm_same rfl, h.ports_same rfl, h.host_same rfl, h.stewards_same rfl, h.draws_same rfl,
    h.out_same rfl, h.now_same rfl, h.gens_same rfl, h.stats_same rfl rfl rfl, h.test_same rfl rfl, h.mode_same rfl,
    fun q1 q2 => congrArg (fun z => mgetD 0 z (chanKey q1 q2)) (h.gens_same rfl),
    fun q1 q2 h0 => h.reg_same q2 (m (q1 / 256 % 256) (Nat.mod_lt _ (by decide)) h0),
    fun q1 q2 h0 => h.oct_same q2 (m (q1 / 256 % 256) (Nat.mod_lt _ (by decide)) h0), h.objs_rise, h.octs_rise⟩

@[simp] theorem State.abandonHost_same {s : State} :
    (State.abandonHost s).acc = s.acc ∧ (State.abandonHost s).power = s.power ∧ (State.abandonHost s).epochs = s.epochs ∧
    (State.abandonHost s).tables = s.tables ∧ (State.abandonHost s).slices = s.slices ∧ (State.abandonHost s).meters = s.meters ∧
    (State.abandonHost s).tm = s.tm ∧ (State.abandonHost s).fab = s.fab ∧ (State.abandonHost s).pair = s.pair ∧
    (State.abandonHost s).hbm = s.hbm ∧ (State.abandonHost s).ports = s.ports ∧ (State.abandonHost s).stewards = s.stewards ∧
    (State.abandonHost s).draws = s.draws ∧ (State.abandonHost s).out = s.out ∧ (State.abandonHost s).now = s.now ∧
    (State.abandonHost s).gens = s.gens ∧ (State.abandonHost s).fw = s.fw ∧ (State.abandonHost s).test = s.test ∧
    (State.abandonHost s).mode = s.mode ∧ (∀ q1 q2, (State.abandonHost s).gen q1 q2 = s.gen q1 q2) ∧
    (∀ q1 q2, q1 / 256 % 256 ≠ 0xA8 → (State.abandonHost s).reg q1 q2 = s.reg q1 q2) ∧
    (∀ q1 q2, q1 / 256 % 256 ≠ 0xA8 → (State.abandonHost s).oct q1 q2 = s.oct q1 q2) ∧
    (rising s.objs = true → rising (State.abandonHost s).objs = true) ∧
    (rising s.octs = true → rising (State.abandonHost s).octs = true) := by
  have h : On inS 0x100000000000000000000000000000000000000000000101000 s (State.abandonHost s) := State.abandonHost_keeps (Covers.refl _) .start
  have m : ∀ n, n < 256 → n ≠ 0xA8 → Nat.testBit 0x100000000000000000000000000000000000000000000101000 (32 + n) = false := by decide +kernel
  exact ⟨h.acc_same rfl, h.power_same rfl, h.epochs_same rfl, h.tables_same rfl, h.slices_same rfl, h.meters_same rfl, h.tm_same rfl,
    h.fab_same rfl, h.pair_same rfl, h.hbm_same rfl, h.ports_same rfl, h.stewards_same rfl, h.draws_same rfl, h.out_same rfl,
    h.now_same rfl, h.gens_same rfl, h.fw_same rfl rfl, h.test_same rfl rfl, h.mode_same rfl,
    fun q1 q2 => congrArg (fun z => mgetD 0 z (chanKey q1 q2)) (h.gens_same rfl),
    fun q1 q2 h0 => h.reg_same q2 (m (q1 / 256 % 256) (Nat.mod_lt _ (by decide)) h0),
    fun q1 q2 h0 => h.oct_same q2 (m (q1 / 256 % 256) (Nat.mod_lt _ (by decide)) h0), h.objs_rise, h.octs_rise⟩

@[simp] theorem State.stopStewards_same {s : State} :
    (State.stopStewards s).acc = s.acc ∧ (State.stopStewards s).power = s.power ∧ (State.stopStewards s).epochs = s.epochs ∧
    (State.stopStewards s).tables = s.tables ∧ (State.stopStewards s).slices = s.slices ∧ (State.stopStewards s).meters = s.meters ∧
    (State.stopStewards s).tm = s.tm ∧ (State.stopStewards s).fab = s.fab ∧ (State.stopStewards s).pair = s.pair ∧
    (State.stopStewards s).hbm = s.hbm ∧ (State.stopStewards s).ports = s.ports ∧ (State.stopStewards s).host = s.host ∧
    (State.stopStewards s).draws = s.draws ∧ (State.stopStewards s).out = s.out ∧ (State.stopStewards s).now = s.now ∧
    (State.stopStewards s).gens = s.gens ∧ (State.stopStewards s).fw = s.fw ∧ (State.stopStewards s).stats = s.stats ∧
    (State.stopStewards s).test = s.test ∧ (State.stopStewards s).mode = s.mode ∧
    (∀ q1 q2, (State.stopStewards s).gen q1 q2 = s.gen q1 q2) ∧ (∀ q1 q2, (State.stopStewards s).reg q1 q2 = s.reg q1 q2) ∧
    (∀ q1 q2, (State.stopStewards s).oct q1 q2 = s.oct q1 q2) ∧ (rising s.objs = true → rising (State.stopStewards s).objs = true) ∧
    (rising s.octs = true → rising (State.stopStewards s).octs = true) := by
  have h : On inS 0x2000 s (State.stopStewards s) := State.stopStewards_keeps (Covers.refl _) .start
  have m : ∀ n, n < 256 → Nat.testBit 0x2000 (32 + n) = false := by decide +kernel
  exact ⟨h.acc_same rfl, h.power_same rfl, h.epochs_same rfl, h.tables_same rfl, h.slices_same rfl, h.meters_same rfl, h.tm_same rfl,
    h.fab_same rfl, h.pair_same rfl, h.hbm_same rfl, h.ports_same rfl, h.host_same rfl, h.draws_same rfl, h.out_same rfl, h.now_same rfl,
    h.gens_same rfl, h.fw_same rfl rfl, h.stats_same rfl rfl rfl, h.test_same rfl rfl, h.mode_same rfl,
    fun q1 q2 => congrArg (fun z => mgetD 0 z (chanKey q1 q2)) (h.gens_same rfl),
    fun q1 q2 => h.reg_same q2 (m (q1 / 256 % 256) (Nat.mod_lt _ (by decide))),
    fun q1 q2 => h.oct_same q2 (m (q1 / 256 % 256) (Nat.mod_lt _ (by decide))), h.objs_rise, h.octs_rise⟩

@[simp] theorem State.emptyMailboxes_same {s : State} :
    (State.emptyMailboxes s).acc = s.acc ∧ (State.emptyMailboxes s).power = s.power ∧ (State.emptyMailboxes s).epochs = s.epochs ∧
    (State.emptyMailboxes s).tables = s.tables ∧ (State.emptyMailboxes s).slices = s.slices ∧
    (State.emptyMailboxes s).meters = s.meters ∧ (State.emptyMailboxes s).tm = s.tm ∧ (State.emptyMailboxes s).fab = s.fab ∧
    (State.emptyMailboxes s).pair = s.pair ∧ (State.emptyMailboxes s).hbm = s.hbm ∧ (State.emptyMailboxes s).ports = s.ports ∧
    (State.emptyMailboxes s).stewards = s.stewards ∧ (State.emptyMailboxes s).draws = s.draws ∧ (State.emptyMailboxes s).out = s.out ∧
    (State.emptyMailboxes s).now = s.now ∧ (State.emptyMailboxes s).gens = s.gens ∧ (State.emptyMailboxes s).fw = s.fw ∧
    (State.emptyMailboxes s).test = s.test ∧ (State.emptyMailboxes s).mode = s.mode ∧
    (∀ q1 q2, (State.emptyMailboxes s).gen q1 q2 = s.gen q1 q2) ∧
    (∀ q1 q2, q1 / 256 % 256 ≠ 0xA8 → (State.emptyMailboxes s).reg q1 q2 = s.reg q1 q2) ∧
    (∀ q1 q2, q1 / 256 % 256 ≠ 0xA8 → (State.emptyMailboxes s).oct q1 q2 = s.oct q1 q2) ∧
    (rising s.objs = true → rising (State.emptyMailboxes s).objs = true) ∧
    (rising s.octs = true → rising (State.emptyMailboxes s).octs = true) := by
  have h : On inS 0x100000000000000000000000000000000000000000000101000 s (State.emptyMailboxes s) := State.emptyMailboxes_keeps (Covers.refl _) .start
  have m : ∀ n, n < 256 → n ≠ 0xA8 → Nat.testBit 0x100000000000000000000000000000000000000000000101000 (32 + n) = false := by decide +kernel
  exact ⟨h.acc_same rfl, h.power_same rfl, h.epochs_same rfl, h.tables_same rfl, h.slices_same rfl, h.meters_same rfl, h.tm_same rfl,
    h.fab_same rfl, h.pair_same rfl, h.hbm_same rfl, h.ports_same rfl, h.stewards_same rfl, h.draws_same rfl, h.out_same rfl,
    h.now_same rfl, h.gens_same rfl, h.fw_same rfl rfl, h.test_same rfl rfl, h.mode_same rfl,
    fun q1 q2 => congrArg (fun z => mgetD 0 z (chanKey q1 q2)) (h.gens_same rfl),
    fun q1 q2 h0 => h.reg_same q2 (m (q1 / 256 % 256) (Nat.mod_lt _ (by decide)) h0),
    fun q1 q2 h0 => h.oct_same q2 (m (q1 / 256 % 256) (Nat.mod_lt _ (by decide)) h0), h.objs_rise, h.octs_rise⟩

@[simp] theorem State.startStewards_same {s : State} :
    (State.startStewards s).acc = s.acc ∧ (State.startStewards s).power = s.power ∧ (State.startStewards s).epochs = s.epochs ∧
    (State.startStewards s).tables = s.tables ∧ (State.startStewards s).slices = s.slices ∧ (State.startStewards s).meters = s.meters ∧
    (State.startStewards s).tm = s.tm ∧ (State.startStewards s).fab = s.fab ∧ (State.startStewards s).pair = s.pair ∧
    (State.startStewards s).hbm = s.hbm ∧ (State.startStewards s).ports = s.ports ∧ (State.startStewards s).host = s.host ∧
    (State.startStewards s).draws = s.draws ∧ (State.startStewards s).out = s.out ∧ (State.startStewards s).now = s.now ∧
    (State.startStewards s).gens = s.gens ∧ (State.startStewards s).fw = s.fw ∧ (State.startStewards s).stats = s.stats ∧
    (State.startStewards s).test = s.test ∧ (State.startStewards s).mode = s.mode ∧
    (∀ q1 q2, (State.startStewards s).gen q1 q2 = s.gen q1 q2) ∧ (∀ q1 q2, (State.startStewards s).reg q1 q2 = s.reg q1 q2) ∧
    (∀ q1 q2, (State.startStewards s).oct q1 q2 = s.oct q1 q2) ∧ (rising s.objs = true → rising (State.startStewards s).objs = true) ∧
    (rising s.octs = true → rising (State.startStewards s).octs = true) := by
  have h : On inS 0x2000 s (State.startStewards s) := State.startStewards_keeps (Covers.refl _) .start
  have m : ∀ n, n < 256 → Nat.testBit 0x2000 (32 + n) = false := by decide +kernel
  exact ⟨h.acc_same rfl, h.power_same rfl, h.epochs_same rfl, h.tables_same rfl, h.slices_same rfl, h.meters_same rfl, h.tm_same rfl,
    h.fab_same rfl, h.pair_same rfl, h.hbm_same rfl, h.ports_same rfl, h.host_same rfl, h.draws_same rfl, h.out_same rfl, h.now_same rfl,
    h.gens_same rfl, h.fw_same rfl rfl, h.stats_same rfl rfl rfl, h.test_same rfl rfl, h.mode_same rfl,
    fun q1 q2 => congrArg (fun z => mgetD 0 z (chanKey q1 q2)) (h.gens_same rfl),
    fun q1 q2 => h.reg_same q2 (m (q1 / 256 % 256) (Nat.mod_lt _ (by decide))),
    fun q1 q2 => h.oct_same q2 (m (q1 / 256 % 256) (Nat.mod_lt _ (by decide))), h.objs_rise, h.octs_rise⟩

@[simp] theorem State.flushAll_same {s : State} :
    (State.flushAll s).acc = s.acc ∧ (State.flushAll s).power = s.power ∧ (State.flushAll s).epochs = s.epochs ∧
    (State.flushAll s).tables = s.tables ∧ (State.flushAll s).slices = s.slices ∧ (State.flushAll s).meters = s.meters ∧
    (State.flushAll s).tm = s.tm ∧ (State.flushAll s).fab = s.fab ∧ (State.flushAll s).pair = s.pair ∧ (State.flushAll s).hbm = s.hbm ∧
    (State.flushAll s).ports = s.ports ∧ (State.flushAll s).host = s.host ∧ (State.flushAll s).stewards = s.stewards ∧
    (State.flushAll s).draws = s.draws ∧ (State.flushAll s).out = s.out ∧ (State.flushAll s).now = s.now ∧
    (State.flushAll s).gens = s.gens ∧ (State.flushAll s).fw = s.fw ∧ (State.flushAll s).test = s.test ∧
    (State.flushAll s).mode = s.mode ∧ (∀ q1 q2, (State.flushAll s).gen q1 q2 = s.gen q1 q2) ∧
    (∀ q1 q2, q1 / 256 % 256 ≠ 0xC1 → (State.flushAll s).reg q1 q2 = s.reg q1 q2) ∧
    (∀ q1 q2, q1 / 256 % 256 ≠ 0xC1 → (State.flushAll s).oct q1 q2 = s.oct q1 q2) ∧
    (rising s.objs = true → rising (State.flushAll s).objs = true) ∧ (rising s.octs = true → rising (State.flushAll s).octs = true) := by
  have h : On inS 0x200000000000000000000000000000000000000000000000000304000 s (State.flushAll s) := State.flushAll_keeps (Covers.refl _) .start
  have m : ∀ n, n < 256 → n ≠ 0xC1 → Nat.testBit 0x200000000000000000000000000000000000000000000000000304000 (32 + n) = false := by decide +kernel
  exact ⟨h.acc_same rfl, h.power_same rfl, h.epochs_same rfl, h.tables_same rfl, h.slices_same rfl, h.meters_same rfl, h.tm_same rfl,
    h.fab_same rfl, h.pair_same rfl, h.hbm_same rfl, h.ports_same rfl, h.host_same rfl, h.stewards_same rfl, h.draws_same rfl,
    h.out_same rfl, h.now_same rfl, h.gens_same rfl, h.fw_same rfl rfl, h.test_same rfl rfl, h.mode_same rfl,
    fun q1 q2 => congrArg (fun z => mgetD 0 z (chanKey q1 q2)) (h.gens_same rfl),
    fun q1 q2 h0 => h.reg_same q2 (m (q1 / 256 % 256) (Nat.mod_lt _ (by decide)) h0),
    fun q1 q2 h0 => h.oct_same q2 (m (q1 / 256 % 256) (Nat.mod_lt _ (by decide)) h0), h.objs_rise, h.octs_rise⟩

@[simp] theorem State.causeOnset_same {s : State} {p : Nat} {cause : Nat} :
    (State.causeOnset s p cause).acc = s.acc ∧ (State.causeOnset s p cause).power = s.power ∧
    (State.causeOnset s p cause).epochs = s.epochs ∧ (State.causeOnset s p cause).slices = s.slices ∧
    (State.causeOnset s p cause).meters = s.meters ∧ (State.causeOnset s p cause).fab = s.fab ∧
    (State.causeOnset s p cause).pair = s.pair ∧ (State.causeOnset s p cause).host = s.host ∧
    (State.causeOnset s p cause).stewards = s.stewards ∧ (State.causeOnset s p cause).draws = s.draws ∧
    (State.causeOnset s p cause).out = s.out ∧ (State.causeOnset s p cause).now = s.now ∧ (State.causeOnset s p cause).gens = s.gens ∧
    (State.causeOnset s p cause).fw = s.fw ∧ (State.causeOnset s p cause).test = s.test ∧ (State.causeOnset s p cause).mode = s.mode ∧
    (∀ q1 q2, (State.causeOnset s p cause).gen q1 q2 = s.gen q1 q2) ∧
    (∀ q1 q2, q1 / 256 % 256 ≠ 0x30 → q1 / 256 % 256 ≠ 0x70 → q1 / 256 % 256 ≠ 0x71 → q1 / 256 % 256 ≠ 0xC1 → (State.causeOnset s p cause).reg q1 q2 = s.reg q1 q2) ∧
    (∀ q1 q2, q1 / 256 % 256 ≠ 0x30 → q1 / 256 % 256 ≠ 0x70 → q1 / 256 % 256 ≠ 0x71 → q1 / 256 % 256 ≠ 0xC1 → (State.causeOnset s p cause).oct q1 q2 = s.oct q1 q2) ∧
    (rising s.objs = true → rising (State.causeOnset s p cause).objs = true) ∧
    (rising s.octs = true → rising (State.causeOnset s p cause).octs = true) := by
  have h : On inS 0x200000000000000000003000000000000000100000000000000304c90 s (State.causeOnset s p cause) := State.causeOnset_keeps (Covers.refl _) .start
  have m : ∀ n, n < 256 → n ≠ 0x30 → n ≠ 0x70 → n ≠ 0x71 → n ≠ 0xC1 → Nat.testBit 0x200000000000000000003000000000000000100000000000000304c90 (32 + n) = false := by decide +kernel
  exact ⟨h.acc_same rfl, h.power_same rfl, h.epochs_same rfl, h.slices_same rfl, h.meters_same rfl, h.fab_same rfl, h.pair_same rfl,
    h.host_same rfl, h.stewards_same rfl, h.draws_same rfl, h.out_same rfl, h.now_same rfl, h.gens_same rfl, h.fw_same rfl rfl,
    h.test_same rfl rfl, h.mode_same rfl, fun q1 q2 => congrArg (fun z => mgetD 0 z (chanKey q1 q2)) (h.gens_same rfl),
    fun q1 q2 h0 h1 h2 h3 => h.reg_same q2 (m (q1 / 256 % 256) (Nat.mod_lt _ (by decide)) h0 h1 h2 h3),
    fun q1 q2 h0 h1 h2 h3 => h.oct_same q2 (m (q1 / 256 % 256) (Nat.mod_lt _ (by decide)) h0 h1 h2 h3), h.objs_rise, h.octs_rise⟩

@[simp] theorem State.restartWindows_same {s : State} :
    (State.restartWindows s).acc = s.acc ∧ (State.restartWindows s).power = s.power ∧ (State.restartWindows s).epochs = s.epochs ∧
    (State.restartWindows s).tables = s.tables ∧ (State.restartWindows s).slices = s.slices ∧
    (State.restartWindows s).meters = s.meters ∧ (State.restartWindows s).fab = s.fab ∧ (State.restartWindows s).pair = s.pair ∧
    (State.restartWindows s).hbm = s.hbm ∧ (State.restartWindows s).ports = s.ports ∧ (State.restartWindows s).host = s.host ∧
    (State.restartWindows s).stewards = s.stewards ∧ (State.restartWindows s).draws = s.draws ∧ (State.restartWindows s).out = s.out ∧
    (State.restartWindows s).now = s.now ∧ (State.restartWindows s).gens = s.gens ∧ (State.restartWindows s).fw = s.fw ∧
    (State.restartWindows s).stats = s.stats ∧ (State.restartWindows s).test = s.test ∧ (State.restartWindows s).mode = s.mode ∧
    (∀ q1 q2, (State.restartWindows s).gen q1 q2 = s.gen q1 q2) ∧
    (∀ q1 q2, q1 / 256 % 256 ≠ 0x7E → (State.restartWindows s).reg q1 q2 = s.reg q1 q2) ∧
    (∀ q1 q2, q1 / 256 % 256 ≠ 0x7E → (State.restartWindows s).oct q1 q2 = s.oct q1 q2) ∧
    (rising s.objs = true → rising (State.restartWindows s).objs = true) ∧
    (rising s.octs = true → rising (State.restartWindows s).octs = true) := by
  have h : On inS 0x4000000000000000000000000000000000000080 s (State.restartWindows s) := State.restartWindows_keeps (Covers.refl _) .start
  have m : ∀ n, n < 256 → n ≠ 0x7E → Nat.testBit 0x4000000000000000000000000000000000000080 (32 + n) = false := by decide +kernel
  exact ⟨h.acc_same rfl, h.power_same rfl, h.epochs_same rfl, h.tables_same rfl, h.slices_same rfl, h.meters_same rfl, h.fab_same rfl,
    h.pair_same rfl, h.hbm_same rfl, h.ports_same rfl, h.host_same rfl, h.stewards_same rfl, h.draws_same rfl, h.out_same rfl,
    h.now_same rfl, h.gens_same rfl, h.fw_same rfl rfl, h.stats_same rfl rfl rfl, h.test_same rfl rfl, h.mode_same rfl,
    fun q1 q2 => congrArg (fun z => mgetD 0 z (chanKey q1 q2)) (h.gens_same rfl),
    fun q1 q2 h0 => h.reg_same q2 (m (q1 / 256 % 256) (Nat.mod_lt _ (by decide)) h0),
    fun q1 q2 h0 => h.oct_same q2 (m (q1 / 256 % 256) (Nat.mod_lt _ (by decide)) h0), h.objs_rise, h.octs_rise⟩

@[simp] theorem State.failLink_same {s : State} {l : Nat} {cause : Nat} :
    (State.failLink s l cause).acc = s.acc ∧ (State.failLink s l cause).power = s.power ∧ (State.failLink s l cause).epochs = s.epochs ∧
    (State.failLink s l cause).tables = s.tables ∧ (State.failLink s l cause).slices = s.slices ∧
    (State.failLink s l cause).meters = s.meters ∧ (State.failLink s l cause).tm = s.tm ∧ (State.failLink s l cause).pair = s.pair ∧
    (State.failLink s l cause).hbm = s.hbm ∧ (State.failLink s l cause).host = s.host ∧
    (State.failLink s l cause).stewards = s.stewards ∧ (State.failLink s l cause).draws = s.draws ∧
    (State.failLink s l cause).now = s.now ∧ (State.failLink s l cause).gens = s.gens ∧ (State.failLink s l cause).fw = s.fw ∧
    (State.failLink s l cause).test = s.test ∧ (State.failLink s l cause).mode = s.mode ∧
    (∀ q1 q2, (State.failLink s l cause).gen q1 q2 = s.gen q1 q2) ∧
    (∀ q1 q2, q1 / 256 % 256 ≠ 0x21 → q1 / 256 % 256 ≠ 0x34 → q1 / 256 % 256 ≠ 0x80 → (State.failLink s l cause).reg q1 q2 = s.reg q1 q2) ∧
    (∀ q1 q2, q1 / 256 % 256 ≠ 0x21 → q1 / 256 % 256 ≠ 0x34 → q1 / 256 % 256 ≠ 0x80 → (State.failLink s l cause).oct q1 q2 = s.oct q1 q2) ∧
    (rising s.objs = true → rising (State.failLink s l cause).objs = true) ∧
    (rising s.octs = true → rising (State.failLink s l cause).octs = true) := by
  have h : On inS 0x10000000000000000001000020000000000120900 s (State.failLink s l cause) := State.failLink_keeps (Covers.refl _) .start
  have m : ∀ n, n < 256 → n ≠ 0x21 → n ≠ 0x34 → n ≠ 0x80 → Nat.testBit 0x10000000000000000001000020000000000120900 (32 + n) = false := by decide +kernel
  exact ⟨h.acc_same rfl, h.power_same rfl, h.epochs_same rfl, h.tables_same rfl, h.slices_same rfl, h.meters_same rfl, h.tm_same rfl,
    h.pair_same rfl, h.hbm_same rfl, h.host_same rfl, h.stewards_same rfl, h.draws_same rfl, h.now_same rfl, h.gens_same rfl,
    h.fw_same rfl rfl, h.test_same rfl rfl, h.mode_same rfl,
    fun q1 q2 => congrArg (fun z => mgetD 0 z (chanKey q1 q2)) (h.gens_same rfl),
    fun q1 q2 h0 h1 h2 => h.reg_same q2 (m (q1 / 256 % 256) (Nat.mod_lt _ (by decide)) h0 h1 h2),
    fun q1 q2 h0 h1 h2 => h.oct_same q2 (m (q1 / 256 % 256) (Nat.mod_lt _ (by decide)) h0 h1 h2), h.objs_rise, h.octs_rise⟩

@[simp] theorem State.abortTestOn_same {s : State} {kind : Nat} {n : Nat} :
    (State.abortTestOn s kind n).acc = s.acc ∧ (State.abortTestOn s kind n).power = s.power ∧
    (State.abortTestOn s kind n).epochs = s.epochs ∧ (State.abortTestOn s kind n).tables = s.tables ∧
    (State.abortTestOn s kind n).slices = s.slices ∧ (State.abortTestOn s kind n).meters = s.meters ∧
    (State.abortTestOn s kind n).tm = s.tm ∧ (State.abortTestOn s kind n).fab = s.fab ∧ (State.abortTestOn s kind n).pair = s.pair ∧
    (State.abortTestOn s kind n).hbm = s.hbm ∧ (State.abortTestOn s kind n).ports = s.ports ∧
    (State.abortTestOn s kind n).host = s.host ∧ (State.abortTestOn s kind n).stewards = s.stewards ∧
    (State.abortTestOn s kind n).out = s.out ∧ (State.abortTestOn s kind n).now = s.now ∧ (State.abortTestOn s kind n).gens = s.gens ∧
    (State.abortTestOn s kind n).fw.body = s.fw.body ∧ (State.abortTestOn s kind n).mode = s.mode ∧
    (∀ q1 q2, (State.abortTestOn s kind n).gen q1 q2 = s.gen q1 q2) ∧
    (∀ q1 q2, q1 / 256 % 256 ≠ 0x31 → q1 / 256 % 256 ≠ 0x32 → q1 / 256 % 256 ≠ 0xD0 → (State.abortTestOn s kind n).reg q1 q2 = s.reg q1 q2) ∧
    (∀ q1 q2, q1 / 256 % 256 ≠ 0x31 → q1 / 256 % 256 ≠ 0x32 → q1 / 256 % 256 ≠ 0xD0 → (State.abortTestOn s kind n).oct q1 q2 = s.oct q1 q2) ∧
    (rising s.objs = true → rising (State.abortTestOn s kind n).objs = true) ∧
    (rising s.octs = true → rising (State.abortTestOn s kind n).octs = true) := by
  have h : On inS 0x1000000000000000000000000000000000000000600000000000000f1c000 s (State.abortTestOn s kind n) := State.abortTestOn_keeps (Covers.refl _) .start
  have m : ∀ n, n < 256 → n ≠ 0x31 → n ≠ 0x32 → n ≠ 0xD0 → Nat.testBit 0x1000000000000000000000000000000000000000600000000000000f1c000 (32 + n) = false := by decide +kernel
  exact ⟨h.acc_same rfl, h.power_same rfl, h.epochs_same rfl, h.tables_same rfl, h.slices_same rfl, h.meters_same rfl, h.tm_same rfl,
    h.fab_same rfl, h.pair_same rfl, h.hbm_same rfl, h.ports_same rfl, h.host_same rfl, h.stewards_same rfl, h.out_same rfl,
    h.now_same rfl, h.gens_same rfl, h.body_same rfl, h.mode_same rfl,
    fun q1 q2 => congrArg (fun z => mgetD 0 z (chanKey q1 q2)) (h.gens_same rfl),
    fun q1 q2 h0 h1 h2 => h.reg_same q2 (m (q1 / 256 % 256) (Nat.mod_lt _ (by decide)) h0 h1 h2),
    fun q1 q2 h0 h1 h2 => h.oct_same q2 (m (q1 / 256 % 256) (Nat.mod_lt _ (by decide)) h0 h1 h2), h.objs_rise, h.octs_rise⟩

@[simp] theorem State.failLane_same {s : State} {k : Nat} :
    (State.failLane s k).acc = s.acc ∧ (State.failLane s k).power = s.power ∧ (State.failLane s k).epochs = s.epochs ∧
    (State.failLane s k).tables = s.tables ∧ (State.failLane s k).slices = s.slices ∧ (State.failLane s k).meters = s.meters ∧
    (State.failLane s k).tm = s.tm ∧ (State.failLane s k).fab = s.fab ∧ (State.failLane s k).hbm = s.hbm ∧
    (State.failLane s k).ports = s.ports ∧ (State.failLane s k).host = s.host ∧ (State.failLane s k).stewards = s.stewards ∧
    (State.failLane s k).now = s.now ∧ (State.failLane s k).gens = s.gens ∧ (State.failLane s k).fw.body = s.fw.body ∧
    (State.failLane s k).mode = s.mode ∧ (State.failLane s k).pair.fenced = s.pair.fenced ∧
    (∀ q1 q2, (State.failLane s k).gen q1 q2 = s.gen q1 q2) ∧
    (∀ q1 q2, q1 / 256 % 256 ≠ 0x31 → q1 / 256 % 256 ≠ 0x32 → q1 / 256 % 256 ≠ 0x36 → q1 / 256 % 256 ≠ 0xD0 → (State.failLane s k).reg q1 q2 = s.reg q1 q2) ∧
    (∀ q1 q2, q1 / 256 % 256 ≠ 0x31 → q1 / 256 % 256 ≠ 0x32 → q1 / 256 % 256 ≠ 0x36 → q1 / 256 % 256 ≠ 0xD0 → (State.failLane s k).oct q1 q2 = s.oct q1 q2) ∧
    (rising s.objs = true → rising (State.failLane s k).objs = true) ∧
    (rising s.octs = true → rising (State.failLane s k).octs = true) := by
  have h : On inS 0x1000000000000000000000000000000000000004600000000000000f3c200 s (State.failLane s k) := State.failLane_keeps (Covers.refl _) .start
  have m : ∀ n, n < 256 → n ≠ 0x31 → n ≠ 0x32 → n ≠ 0x36 → n ≠ 0xD0 → Nat.testBit 0x1000000000000000000000000000000000000004600000000000000f3c200 (32 + n) = false := by decide +kernel
  exact ⟨h.acc_same rfl, h.power_same rfl, h.epochs_same rfl, h.tables_same rfl, h.slices_same rfl, h.meters_same rfl, h.tm_same rfl,
    h.fab_same rfl, h.hbm_same rfl, h.ports_same rfl, h.host_same rfl, h.stewards_same rfl, h.now_same rfl, h.gens_same rfl,
    h.body_same rfl, h.mode_same rfl, h.fence_same rfl, fun q1 q2 => congrArg (fun z => mgetD 0 z (chanKey q1 q2)) (h.gens_same rfl),
    fun q1 q2 h0 h1 h2 h3 => h.reg_same q2 (m (q1 / 256 % 256) (Nat.mod_lt _ (by decide)) h0 h1 h2 h3),
    fun q1 q2 h0 h1 h2 h3 => h.oct_same q2 (m (q1 / 256 % 256) (Nat.mod_lt _ (by decide)) h0 h1 h2 h3), h.objs_rise, h.octs_rise⟩

@[simp] theorem State.applyProfiles_same {s : State} :
    (State.applyProfiles s).acc = s.acc ∧ (State.applyProfiles s).power = s.power ∧ (State.applyProfiles s).epochs = s.epochs ∧
    (State.applyProfiles s).tables = s.tables ∧ (State.applyProfiles s).slices = s.slices ∧ (State.applyProfiles s).meters = s.meters ∧
    (State.applyProfiles s).tm = s.tm ∧ (State.applyProfiles s).fab = s.fab ∧ (State.applyProfiles s).pair = s.pair ∧
    (State.applyProfiles s).hbm = s.hbm ∧ (State.applyProfiles s).ports = s.ports ∧ (State.applyProfiles s).host = s.host ∧
    (State.applyProfiles s).stewards = s.stewards ∧ (State.applyProfiles s).draws = s.draws ∧ (State.applyProfiles s).out = s.out ∧
    (State.applyProfiles s).now = s.now ∧ (State.applyProfiles s).gens = s.gens ∧ (State.applyProfiles s).fw = s.fw ∧
    (State.applyProfiles s).stats = s.stats ∧ (State.applyProfiles s).test = s.test ∧ (State.applyProfiles s).mode = s.mode ∧
    (∀ q1 q2, (State.applyProfiles s).gen q1 q2 = s.gen q1 q2) ∧
    (∀ q1 q2, q1 / 256 % 256 ≠ 0x30 → (State.applyProfiles s).reg q1 q2 = s.reg q1 q2) ∧
    (∀ q1 q2, q1 / 256 % 256 ≠ 0x30 → (State.applyProfiles s).oct q1 q2 = s.oct q1 q2) ∧
    (rising s.objs = true → rising (State.applyProfiles s).objs = true) ∧
    (rising s.octs = true → rising (State.applyProfiles s).octs = true) := by
  have h : On inS 0x100000000000000000000 s (State.applyProfiles s) := State.applyProfiles_keeps (Covers.refl _) .start
  have m : ∀ n, n < 256 → n ≠ 0x30 → Nat.testBit 0x100000000000000000000 (32 + n) = false := by decide +kernel
  exact ⟨h.acc_same rfl, h.power_same rfl, h.epochs_same rfl, h.tables_same rfl, h.slices_same rfl, h.meters_same rfl, h.tm_same rfl,
    h.fab_same rfl, h.pair_same rfl, h.hbm_same rfl, h.ports_same rfl, h.host_same rfl, h.stewards_same rfl, h.draws_same rfl,
    h.out_same rfl, h.now_same rfl, h.gens_same rfl, h.fw_same rfl rfl, h.stats_same rfl rfl rfl, h.test_same rfl rfl, h.mode_same rfl,
    fun q1 q2 => congrArg (fun z => mgetD 0 z (chanKey q1 q2)) (h.gens_same rfl),
    fun q1 q2 h0 => h.reg_same q2 (m (q1 / 256 % 256) (Nat.mod_lt _ (by decide)) h0),
    fun q1 q2 h0 => h.oct_same q2 (m (q1 / 256 % 256) (Nat.mod_lt _ (by decide)) h0), h.objs_rise, h.octs_rise⟩

@[simp] theorem State.powerPair_same {s : State} :
    (State.powerPair s).acc = s.acc ∧ (State.powerPair s).power = s.power ∧ (State.powerPair s).epochs = s.epochs ∧
    (State.powerPair s).tables = s.tables ∧ (State.powerPair s).slices = s.slices ∧ (State.powerPair s).meters = s.meters ∧
    (State.powerPair s).tm = s.tm ∧ (State.powerPair s).fab = s.fab ∧ (State.powerPair s).hbm = s.hbm ∧
    (State.powerPair s).ports = s.ports ∧ (State.powerPair s).host = s.host ∧ (State.powerPair s).stewards = s.stewards ∧
    (State.powerPair s).draws = s.draws ∧ (State.powerPair s).out = s.out ∧ (State.powerPair s).now = s.now ∧
    (State.powerPair s).gens = s.gens ∧ (State.powerPair s).fw = s.fw ∧ (State.powerPair s).test = s.test ∧
    (State.powerPair s).mode = s.mode ∧ (State.powerPair s).pair.fenced = s.pair.fenced ∧
    (∀ q1 q2, (State.powerPair s).gen q1 q2 = s.gen q1 q2) ∧
    (∀ q1 q2, q1 / 256 % 256 ≠ 0x21 → q1 / 256 % 256 ≠ 0x36 → (State.powerPair s).reg q1 q2 = s.reg q1 q2) ∧
    (∀ q1 q2, q1 / 256 % 256 ≠ 0x21 → q1 / 256 % 256 ≠ 0x36 → (State.powerPair s).oct q1 q2 = s.oct q1 q2) ∧
    (rising s.objs = true → rising (State.powerPair s).objs = true) ∧
    (rising s.octs = true → rising (State.powerPair s).octs = true) := by
  have h : On inS 0x4000020000000000100200 s (State.powerPair s) := State.powerPair_keeps (Covers.refl _) .start
  have m : ∀ n, n < 256 → n ≠ 0x21 → n ≠ 0x36 → Nat.testBit 0x4000020000000000100200 (32 + n) = false := by decide +kernel
  exact ⟨h.acc_same rfl, h.power_same rfl, h.epochs_same rfl, h.tables_same rfl, h.slices_same rfl, h.meters_same rfl, h.tm_same rfl,
    h.fab_same rfl, h.hbm_same rfl, h.ports_same rfl, h.host_same rfl, h.stewards_same rfl, h.draws_same rfl, h.out_same rfl,
    h.now_same rfl, h.gens_same rfl, h.fw_same rfl rfl, h.test_same rfl rfl, h.mode_same rfl, h.fence_same rfl,
    fun q1 q2 => congrArg (fun z => mgetD 0 z (chanKey q1 q2)) (h.gens_same rfl),
    fun q1 q2 h0 h1 => h.reg_same q2 (m (q1 / 256 % 256) (Nat.mod_lt _ (by decide)) h0 h1),
    fun q1 q2 h0 h1 => h.oct_same q2 (m (q1 / 256 % 256) (Nat.mod_lt _ (by decide)) h0 h1), h.objs_rise, h.octs_rise⟩

@[simp] theorem State.abortRequest_same {s : State} :
    (State.abortRequest s).acc = s.acc ∧ (State.abortRequest s).epochs = s.epochs ∧ (State.abortRequest s).tables = s.tables ∧
    (State.abortRequest s).slices = s.slices ∧ (State.abortRequest s).meters = s.meters ∧ (State.abortRequest s).tm = s.tm ∧
    (State.abortRequest s).fab = s.fab ∧ (State.abortRequest s).pair = s.pair ∧ (State.abortRequest s).hbm = s.hbm ∧
    (State.abortRequest s).ports = s.ports ∧ (State.abortRequest s).host = s.host ∧ (State.abortRequest s).stewards = s.stewards ∧
    (State.abortRequest s).draws = s.draws ∧ (State.abortRequest s).out = s.out ∧ (State.abortRequest s).now = s.now ∧
    (State.abortRequest s).gens = s.gens ∧ (State.abortRequest s).fw = s.fw ∧ (State.abortRequest s).stats = s.stats ∧
    (State.abortRequest s).test = s.test ∧ (State.abortRequest s).mode = s.mode ∧
    (∀ q1 q2, (State.abortRequest s).gen q1 q2 = s.gen q1 q2) ∧ (∀ q1 q2, (State.abortRequest s).reg q1 q2 = s.reg q1 q2) ∧
    (∀ q1 q2, (State.abortRequest s).oct q1 q2 = s.oct q1 q2) ∧ (rising s.objs = true → rising (State.abortRequest s).objs = true) ∧
    (rising s.octs = true → rising (State.abortRequest s).octs = true) := by
  have h : On inS 0x2 s (State.abortRequest s) := State.abortRequest_keeps (Covers.refl _) .start
  have m : ∀ n, n < 256 → Nat.testBit 0x2 (32 + n) = false := by decide +kernel
  exact ⟨h.acc_same rfl, h.epochs_same rfl, h.tables_same rfl, h.slices_same rfl, h.meters_same rfl, h.tm_same rfl, h.fab_same rfl,
    h.pair_same rfl, h.hbm_same rfl, h.ports_same rfl, h.host_same rfl, h.stewards_same rfl, h.draws_same rfl, h.out_same rfl,
    h.now_same rfl, h.gens_same rfl, h.fw_same rfl rfl, h.stats_same rfl rfl rfl, h.test_same rfl rfl, h.mode_same rfl,
    fun q1 q2 => congrArg (fun z => mgetD 0 z (chanKey q1 q2)) (h.gens_same rfl),
    fun q1 q2 => h.reg_same q2 (m (q1 / 256 % 256) (Nat.mod_lt _ (by decide))),
    fun q1 q2 => h.oct_same q2 (m (q1 / 256 % 256) (Nat.mod_lt _ (by decide))), h.objs_rise, h.octs_rise⟩

@[simp] theorem State.loadIntegrator_same {s : State} :
    (State.loadIntegrator s).acc = s.acc ∧ (State.loadIntegrator s).power = s.power ∧ (State.loadIntegrator s).epochs = s.epochs ∧
    (State.loadIntegrator s).tables = s.tables ∧ (State.loadIntegrator s).slices = s.slices ∧
    (State.loadIntegrator s).meters = s.meters ∧ (State.loadIntegrator s).tm = s.tm ∧ (State.loadIntegrator s).fab = s.fab ∧
    (State.loadIntegrator s).pair = s.pair ∧ (State.loadIntegrator s).hbm = s.hbm ∧ (State.loadIntegrator s).ports = s.ports ∧
    (State.loadIntegrator s).host = s.host ∧ (State.loadIntegrator s).out = s.out ∧ (State.loadIntegrator s).now = s.now ∧
    (State.loadIntegrator s).gens = s.gens ∧ (State.loadIntegrator s).fw.body = s.fw.body ∧ (State.loadIntegrator s).stats = s.stats ∧
    (State.loadIntegrator s).mode = s.mode ∧ (∀ q1 q2, (State.loadIntegrator s).gen q1 q2 = s.gen q1 q2) ∧
    (∀ q1 q2, q1 / 256 % 256 ≠ 0xD0 → (State.loadIntegrator s).reg q1 q2 = s.reg q1 q2) ∧
    (∀ q1 q2, q1 / 256 % 256 ≠ 0xD0 → (State.loadIntegrator s).oct q1 q2 = s.oct q1 q2) ∧
    (rising s.objs = true → rising (State.loadIntegrator s).objs = true) ∧
    (rising s.octs = true → rising (State.loadIntegrator s).octs = true) := by
  have h : On inS 0x1000000000000000000000000000000000000000000000000000000c12000 s (State.loadIntegrator s) := State.loadIntegrator_keeps (Covers.refl _) .start
  have m : ∀ n, n < 256 → n ≠ 0xD0 → Nat.testBit 0x1000000000000000000000000000000000000000000000000000000c12000 (32 + n) = false := by decide +kernel
  exact ⟨h.acc_same rfl, h.power_same rfl, h.epochs_same rfl, h.tables_same rfl, h.slices_same rfl, h.meters_same rfl, h.tm_same rfl,
    h.fab_same rfl, h.pair_same rfl, h.hbm_same rfl, h.ports_same rfl, h.host_same rfl, h.out_same rfl, h.now_same rfl, h.gens_same rfl,
    h.body_same rfl, h.stats_same rfl rfl rfl, h.mode_same rfl,
    fun q1 q2 => congrArg (fun z => mgetD 0 z (chanKey q1 q2)) (h.gens_same rfl),
    fun q1 q2 h0 => h.reg_same q2 (m (q1 / 256 % 256) (Nat.mod_lt _ (by decide)) h0),
    fun q1 q2 h0 => h.oct_same q2 (m (q1 / 256 % 256) (Nat.mod_lt _ (by decide)) h0), h.objs_rise, h.octs_rise⟩

@[simp] theorem State.bootFault_same {s : State} {b : Nat} :
    (State.bootFault s b).acc = s.acc ∧ (State.bootFault s b).power = s.power ∧ (State.bootFault s b).epochs = s.epochs ∧
    (State.bootFault s b).tables = s.tables ∧ (State.bootFault s b).slices = s.slices ∧ (State.bootFault s b).meters = s.meters ∧
    (State.bootFault s b).tm = s.tm ∧ (State.bootFault s b).fab = s.fab ∧ (State.bootFault s b).pair = s.pair ∧
    (State.bootFault s b).hbm = s.hbm ∧ (State.bootFault s b).ports = s.ports ∧ (State.bootFault s b).host = s.host ∧
    (State.bootFault s b).stewards = s.stewards ∧ (State.bootFault s b).out = s.out ∧ (State.bootFault s b).now = s.now ∧
    (State.bootFault s b).gens = s.gens ∧ (State.bootFault s b).fw.body = s.fw.body ∧ (State.bootFault s b).stats = s.stats ∧
    (State.bootFault s b).mode = s.mode ∧ (∀ q1 q2, (State.bootFault s b).gen q1 q2 = s.gen q1 q2) ∧
    (∀ q1 q2, q1 / 256 % 256 ≠ 0x10 → q1 / 256 % 256 ≠ 0xD0 → (State.bootFault s b).reg q1 q2 = s.reg q1 q2) ∧
    (∀ q1 q2, q1 / 256 % 256 ≠ 0x10 → q1 / 256 % 256 ≠ 0xD0 → (State.bootFault s b).oct q1 q2 = s.oct q1 q2) ∧
    (rising s.objs = true → rising (State.bootFault s b).objs = true) ∧
    (rising s.octs = true → rising (State.bootFault s b).octs = true) := by
  have h : On inS 0x1000000000000000000000000000000000000000000000001000000c10000 s (State.bootFault s b) := State.bootFault_keeps (Covers.refl _) .start
  have m : ∀ n, n < 256 → n ≠ 0x10 → n ≠ 0xD0 → Nat.testBit 0x1000000000000000000000000000000000000000000000001000000c10000 (32 + n) = false := by decide +kernel
  exact ⟨h.acc_same rfl, h.power_same rfl, h.epochs_same rfl, h.tables_same rfl, h.slices_same rfl, h.meters_same rfl, h.tm_same rfl,
    h.fab_same rfl, h.pair_same rfl, h.hbm_same rfl, h.ports_same rfl, h.host_same rfl, h.stewards_same rfl, h.out_same rfl,
    h.now_same rfl, h.gens_same rfl, h.body_same rfl, h.stats_same rfl rfl rfl, h.mode_same rfl,
    fun q1 q2 => congrArg (fun z => mgetD 0 z (chanKey q1 q2)) (h.gens_same rfl),
    fun q1 q2 h0 h1 => h.reg_same q2 (m (q1 / 256 % 256) (Nat.mod_lt _ (by decide)) h0 h1),
    fun q1 q2 h0 h1 => h.oct_same q2 (m (q1 / 256 % 256) (Nat.mod_lt _ (by decide)) h0 h1), h.objs_rise, h.octs_rise⟩

end Sys2Proof.Machine
end

