-- ==== Sys2Proof/WellFormed.lean ====
section
/-! DEFINITION. Sys2Proof/WellFormed.lean: which operands a command can carry: numbers within the range of what they number, and byte
strings of the length that their carrier has. A command outside these ranges stands for nothing that can happen to the block. -/

namespace Sys2Proof

/-- A requester that exists: a SESSION_ID of 32 bits (R142), a window of the eight (R148), a thread of the 192 (R477). -/
def Origin.wf : Origin → Bool
  | .session id => decide (id < 2 ^ 32)
  | .window w => decide (w < 8)
  | .steward t => decide (t < 192)

/-- A write of an object, or of bytes of one of the BARs 0, 2 and 4 (R443). -/
def RegWrite.wf : RegWrite → Bool
  | .object o i j _ => o.wf && decide (i < 65536) && decide (j < 256)
  | .bar n off _ => decide (n < 6) && decide (off < 2 ^ 32)

/-- A command whose operands are within their ranges. -/
def Instr.wf : Instr → Bool
  | .frameReceive p _ _ => decide (p < 128)
  | .switchingSlotGrant => true
  | .sliceWakeDone n => decide (n < 16)
  | .sliceIdleExpiry n => decide (n < 16)
  | .laneTake n _ => decide (n < 16)
  | .passDispatch n _ _ => decide (n < 16)
  | .dgHoldClear n => decide (n < 16)
  | .breakwaterVerdict n => decide (n < 16)
  | .replicateCopy n => decide (n < 16)
  | .spillSegmentStart => true
  | .spillWriteDone seg => decide (seg < 2 ^ 64)
  | .readbackDone seg corrected bad lost _ => decide (seg < 2 ^ 64) && (corrected.all fun a => decide (a < 128)) && (bad.all fun a => decide (a < 128)) && (lost.all fun k => decide (k < 32768))
  | .schedDecision n => decide (n < 16)
  | .voqRelease n => decide (n < 16)
  | .frameTransmitDone p => decide (p < 128)
  | .txFrameStart p => decide (p < 128)
  | .gateEvent k => decide (k < 32)
  | .configChangeTime k => decide (k < 32)
  | .linkDownHoldExpiry p => decide (p < 128)
  | .linkFaultOnset p cause lane => decide (p < 128) && decide (3 ≤ cause ∧ cause ≤ 7) && decide (lane < 256)
  | .flushDone p => decide (p < 128)
  | .linkUp p => decide (p < 128)
  | .modeRequest o _ => o.wf
  | .modeTransitionDone => true
  | .drainQueuesEmpty => true
  | .drainTimeout => true
  | .wakeAfterSExpiry => true
  | .bootPath _ _ _ stackIds spares _ => decide (stackIds.length = 4) && decide (spares.length = 16)
  | .poresetNLow => true
  | .powerOnStart => true
  | .pwrGoodMainRise _ _ _ => true
  | .supplyTimeout => true
  | .supplyLoss => true
  | .sensorSample temps => decide (temps.length = 26)
  | .thermalTrip sensor => decide (1 ≤ sensor ∧ sensor ≤ 26)
  | .twclkLoss => true
  | .pllUnlock pll => decide (1 ≤ pll ∧ pll ≤ 5)
  | .twclkRestored => true
  | .refclkLoss k => decide (k < 20)
  | .refclkReturn k ppb => decide (k < 20) && decide (-(2 : Int) ^ 31 ≤ ppb ∧ ppb < 2 ^ 31)
  | .avsEvaluate rail target => decide (rail < 2) && decide (target < 256)
  | .avsWriteDone rail _ mv => decide (rail < 2) && decide (mv < 2 ^ 32)
  | .warmresetNLow => true
  | .warmRestartDone => true
  | .resetRequestWarm o => o.wf
  | .resetRequestCold o => o.wf
  | .tidewatchWatchdogExpiry => true
  | .pciePerstNLow => true
  | .pciePerstNHigh => true
  | .trstNLow => true
  | .moduleInsertion n => decide (n < 32)
  | .moduleResetRelease n => decide (n < 32)
  | .moduleStatePoll n _ image => decide (n < 32) && decide (image.length = 384)
  | .moduleReadTimeout n => decide (n < 32)
  | .moduleRemoval n => decide (n < 32)
  | .modIntNAssert n => decide (n < 32)
  | .reread o n _ => o.wf && decide (n < 32)
  | .cmisPassthrough o n _ => o.wf && decide (n < 32)
  | .poaOpen p _ => decide (p < 2)
  | .poaClose p _ => decide (p < 2)
  | .poaRequest p _ => decide (p < 2)
  | .seqGapTimeout session seq => decide (session < 2 ^ 32) && decide (seq < 2 ^ 32)
  | .sessionIdleExpiry session => decide (session < 2 ^ 32)
  | .winGo w => decide (w < 8)
  | .read o i j ty => o.wf && decide (i < 65536) && decide (j < 256) && decide (ty < 256)
  | .write o i j ty _ => o.wf && decide (i < 65536) && decide (j < 256) && decide (ty < 256)
  | .readSegment o i j off count => o.wf && decide (i < 65536) && decide (j < 256) && decide (off < 2 ^ 32) && decide (count < 65536)
  | .writeSegment o i j flags off _ => o.wf && decide (i < 65536) && decide (j < 256) && decide (flags < 256) && decide (off < 2 ^ 32)
  | .blobSegmentTimeout o i j => o.wf && decide (i < 65536) && decide (j < 256)
  | .blobCopyExpiry o i j => o.wf && decide (i < 65536) && decide (j < 256)
  | .describe o i j => o.wf && decide (i < 65536) && decide (j < 256)
  | .next o i j => o.wf && decide (i < 65536) && decide (j < 256)
  | .destroy o h => o.wf && decide (h < 2 ^ 32)
  | .queueDestroyDone i => decide (i < 524288)
  | .batchOpen o => o.wf
  | .batchWrite o id i j ty _ => o.wf && decide (id < 2 ^ 32) && decide (i < 65536) && decide (j < 256) && decide (ty < 256)
  | .batchCommit o id => o.wf && decide (id < 2 ^ 32)
  | .batchAbort o id => o.wf && decide (id < 2 ^ 32)
  | .batchIdleExpiry k => decide (k < 64)
  | .epochDrainDone => true
  | .epochAdvance => true
  | .programInstall o id slot => o.wf && decide (id < 2 ^ 32) && decide (slot < 256)
  | .graphRestore o id v => o.wf && decide (id < 2 ^ 32) && decide (v < 2 ^ 32)
  | .emRegionCreate o _ => o.wf
  | .lpmRegionCreate o _ => o.wf
  | .tableInsert o id flags len region _ _ => o.wf && decide (id < 2 ^ 32) && decide (flags < 256) && decide (len < 256) && decide (region < 2 ^ 32)
  | .tableDelete o id flags len region _ => o.wf && decide (id < 2 ^ 32) && decide (flags < 256) && decide (len < 256) && decide (region < 2 ^ 32)
  | .learnServiceCommit => true
  | .ageSweep ri => decide (ri < 64)
  | .search o region len _ => o.wf && decide (region < 2 ^ 32) && decide (len < 256)
  | .iterOpen o region => o.wf && decide (region < 2 ^ 32)
  | .iterNext o region iter count => o.wf && decide (region < 2 ^ 32) && decide (iter < 2 ^ 32) && decide (count < 65536)
  | .iterClose o region iter => o.wf && decide (region < 2 ^ 32) && decide (iter < 2 ^ 32)
  | .iterTimeout slot => decide (slot < 32)
  | .flushRequest o _ => o.wf
  | .flushScanDone ri port => decide (ri < 64) && decide (port < 128)
  | .ruleSetCreate o _ => o.wf
  | .ruleWrite o id set pos _ _ _ => o.wf && decide (id < 2 ^ 32) && decide (set < 2 ^ 32) && decide (pos < 2 ^ 32)
  | .ruleDelete o id set pos => o.wf && decide (id < 2 ^ 32) && decide (set < 2 ^ 32) && decide (pos < 2 ^ 32)
  | .ruleSetAction o id set pos _ => o.wf && decide (id < 2 ^ 32) && decide (set < 2 ^ 32) && decide (pos < 2 ^ 32)
  | .readRule o set pos => o.wf && decide (set < 2 ^ 32) && decide (pos < 2 ^ 32)
  | .readBlock o set block => o.wf && decide (set < 2 ^ 32) && decide (block < 2 ^ 32)
  | .queueCreate o _ => o.wf
  | .enable o h => o.wf && decide (h < 2 ^ 32)
  | .disable o h => o.wf && decide (h < 2 ^ 32)
  | .setLimits o h _ => o.wf && decide (h < 2 ^ 32)
  | .queueQuery o _ => o.wf
  | .mcastSet o _ => o.wf
  | .mcastQuery o _ => o.wf
  | .nodeCreate o _ => o.wf
  | .schedSet o _ => o.wf
  | .schedQuery o _ => o.wf
  | .meterCreate o _ => o.wf
  | .meterSet o _ => o.wf
  | .meterQuery o _ => o.wf
  | .windowAdmin o k _ => o.wf && decide (k < 32)
  | .windowEnable o k _ => o.wf && decide (k < 32)
  | .windowPort o k _ => o.wf && decide (k < 32)
  | .watchQueue o w _ => o.wf && decide (w < 4096)
  | .watchIntervalEnd w => decide (w < 4096)
  | .dataCell l cell => decide (l < 160) && decide (cell.length % 32 = 0 ∧ 32 ≤ cell.length ∧ cell.length ≤ 256)
  | .idleCell l cell => decide (l < 160) && decide (cell.length % 32 = 0 ∧ 32 ≤ cell.length ∧ cell.length ≤ 256)
  | .replayTimeout l => decide (l < 160)
  | .reassemblyTimeout l unit srcLink => decide (l < 160) && decide (unit < 4096) && decide (srcLink < 256)
  | .reseqTimeout unit cls => decide (unit < 4096) && decide (cls < 8)
  | .request l cell => decide (l < 160) && decide (cell.length % 32 = 0 ∧ 32 ≤ cell.length ∧ cell.length ≤ 256)
  | .grant l cell => decide (l < 160) && decide (cell.length % 32 = 0 ∧ 32 ≤ cell.length ∧ cell.length ≤ 256)
  | .grantIssue => true
  | .requestRefresh unit cls => decide (unit < 4096) && decide (cls < 8)
  | .hello l cell => decide (l < 160) && decide (cell.length % 32 = 0 ∧ 32 ≤ cell.length ∧ cell.length ≤ 256)
  | .quiet l cell => decide (l < 160) && decide (cell.length % 32 = 0 ∧ 32 ≤ cell.length ∧ cell.length ≤ 256)
  | .quietDone l cell => decide (l < 160) && decide (cell.length % 32 = 0 ∧ 32 ≤ cell.length ∧ cell.length ≤ 256)
  | .quietTimeout l => decide (l < 160)
  | .fault l cell => decide (l < 160) && decide (cell.length % 32 = 0 ∧ 32 ≤ cell.length ∧ cell.length ≤ 256)
  | .linkFail l cause => decide (l < 160) && decide (1 ≤ cause ∧ cause ≤ 4)
  | .signalLossHoldExpiry l => decide (l < 160)
  | .linkRetrain l => decide (l < 160)
  | .linkUpHoldExpiry l => decide (l < 160)
  | .fenceHoldExpiry g b => decide (g < 8) && decide (b < 256)
  | .fabricMeasure => true
  | .quadWakeDone q elapsed => decide (q < 40) && decide (elapsed < 2 ^ 32)
  | .hbmIdleExpiry h => decide (h < 4)
  | .selfRefreshEnter h => decide (h < 4)
  | .hbmWakeDone h elapsed bad => decide (h < 4) && decide (elapsed < 2 ^ 32) && (bad.all fun a => decide (a < 128))
  | .hbmWakeFailed h => decide (h < 4)
  | .refreshBoundary cc => decide (cc < 128)
  | .bankRefresh cc => decide (cc < 128)
  | .caParityAlert cc => decide (cc < 128)
  | .calRound cc => decide (cc < 128)
  | .calProbeDone cc left right => decide (cc < 128) && decide (left.length ≤ 64) && decide (right.length ≤ 64)
  | .hbmDelays o cc _ => o.wf && decide (cc < 128)
  | .delaySave => true
  | .scrub corrected bad => (corrected.all fun a => decide (a < 2 ^ 37)) && (bad.all fun a => decide (a < 2 ^ 37))
  | .portMode o p _ => o.wf && decide (p < 128)
  | .portSlice o p _ => o.wf && decide (p < 128)
  | .portAdminEnable o p => o.wf && decide (p < 128)
  | .portAdminDisable o p => o.wf && decide (p < 128)
  | .moduleActivationStep p => decide (p < 128)
  | .moduleActivationTimeout p => decide (p < 128)
  | .ptpStepNs o _ => o.wf
  | .txStampPop o p _ => o.wf && decide (p < 128)
  | .ppsInEdge => true
  | .ppsOutSecond => true
  | .adaptStep lane coef _ before => decide (lane < 296) && decide (coef < 32) && decide (before < 2 ^ 32)
  | .adaptEvaluate lane after => decide (lane < 296) && decide (after < 2 ^ 32)
  | .marginMeasure lane height width snr ber corrected uncorrected symbols => decide (lane < 296) && decide (height < 2 ^ 32) && decide (width < 2 ^ 32) && decide (snr < 2 ^ 32) && decide (ber < 2 ^ 32) && decide (corrected < 2 ^ 64) && decide (uncorrected < 2 ^ 64) && decide (symbols < 2 ^ 64)
  | .dgUncorrectableFlit g _ hits => decide (g < 16) && (hits.all fun k => decide (k < 32768))
  | .dgFail g => decide (g < 16)
  | .dgRetrain g _ => decide (g < 16)
  | .dgCalRound g margin corrected => decide (g < 16) && decide (margin.length = 296) && decide (corrected < 2 ^ 64)
  | .subDoorbell i _ => decide (i < 4096)
  | .scanResume i _ => decide (i < 4096)
  | .inject n _ _ => decide (n < 16)
  | .receiveBuffer i _ => decide (i < 4096)
  | .stagedRetry i free => decide (i < 4096) && decide (free < 2 ^ 32)
  | .coalesceExpiry i => decide (i < 4096)
  | .ringEnable o h => o.wf && decide (h < 2 ^ 32)
  | .ringDisable o h => o.wf && decide (h < 2 ^ 32)
  | .channelCreate o _ => o.wf
  | .channelSet o _ => o.wf
  | .channelQuery o _ => o.wf
  | .dbStatus k v => decide (k < 64) && decide (v < 2 ^ 32)
  | .dbMask k v => decide (k < 64) && decide (v < 2 ^ 32)
  | .dbRing k v => decide (k < 64) && decide (v < 2 ^ 32)
  | .txData master m d w => decide (master < 256) && decide (m < 64) && decide (d < 2) && decide (w < 2 ^ 32)
  | .rxData master m d => decide (master < 256) && decide (m < 64) && decide (d < 2)
  | .abandon master m d => decide (master < 256) && decide (m < 64) && decide (d < 2)
  | .mbStalemate m => decide (m < 64)
  | .lockAcquire m l => decide (m < 256) && decide (l < 256)
  | .lockRelease m l => decide (m < 256) && decide (l < 256)
  | .lockForce o l _ => o.wf && decide (l < 256)
  | .tstart t rd target addr => decide (t < 192) && decide (rd < 32) && decide (target < 256) && decide (addr < 2 ^ 64)
  | .tstop t rd target => decide (t < 192) && decide (rd < 32) && decide (target < 256)
  | .tsig t rd target bits => decide (t < 192) && decide (rd < 32) && decide (target < 256) && decide (bits < 2 ^ 64)
  | .twfe t rd mask => decide (t < 192) && decide (rd < 32) && decide (mask < 2 ^ 32)
  | .tpoll t rd mask => decide (t < 192) && decide (rd < 32) && decide (mask < 2 ^ 32)
  | .tyield t => decide (t < 192)
  | .tstat t rd target => decide (t < 192) && decide (rd < 32) && decide (target < 256)
  | .threadWake t => decide (t < 192)
  | .tcmpExpiry t => decide (t < 192)
  | .twdogExpiry t => decide (t < 192)
  | .threadFault t cause => decide (t < 192) && decide (cause < 64)
  | .thread0Failure die => decide (die < 2)
  | .slackWater die => decide (die < 2)
  | .coreRetainExpiry c => decide (c < 16)
  | .debugHalt ts => (ts.all fun t => decide (t < 192))
  | .debugResume ts => (ts.all fun t => decide (t < 192))
  | .threadWeight o tm n _ => o.wf && decide (n < if tm then 64 else 128)
  | .puntQueue o tm n _ => o.wf && decide (n < if tm then 64 else 128)
  | .integratorRestart o _ => o.wf
  | .clearObject o idx sub => o.wf && decide (idx < 65536) && decide (sub < 256)
  | .clearIndex o idx => o.wf && decide (idx < 65536)
  | .clearAllObjects o => o.wf
  | .clearCounterSet o h => o.wf && decide (h < 2 ^ 32)
  | .clearQueueStats o h => o.wf && decide (h < 2 ^ 32)
  | .clearChannelStats o h => o.wf && decide (h < 2 ^ 32)
  | .clearHistogram o entry => o.wf && decide (entry < 65536)
  | .clearEverything o => o.wf
  | .counterSetCreate o _ => o.wf
  | .statsFlush kind i err => decide (1 ≤ kind ∧ kind ≤ 4) && decide (i < 1048576) && decide (err < 4)
  | .snapshot o _ => o.wf
  | .snapshotReady => true
  | .snapshotQuery o _ => o.wf
  | .wrapQuery o _ => o.wf
  | .counterSetQuery o _ => o.wf
  | .histogramQuery o _ => o.wf
  | .traceRead o _ => o.wf
  | .ringReset o _ => o.wf
  | .stageOpen o _ => o.wf
  | .stageEraseDone => true
  | .stageData o offset _ _ => o.wf && decide (offset < 2 ^ 32)
  | .pieceEraseDone p => decide (p < 65536)
  | .stageHashDone => true
  | .atNextStart o => o.wf
  | .warmNow o => o.wf
  | .activateInstallDone _ => true
  | .confirm o _ => o.wf
  | .revert o _ => o.wf
  | .confirmDelayExpiry => true
  | .confirmDeadlineExpiry => true
  | .patternStart o _ => o.wf
  | .patternStop o _ => o.wf
  | .patternDurationEnd k => decide (k < 1536)
  | .bistStart o _ => o.wf
  | .bistDone _ => true
  | .backgroundTestDone kind number _ _ _ _ => decide (kind < 5) && decide (number < 2 ^ 32)
  | .healthClear o _ => o.wf
  | .jtagInstruction op => decide (op < 256)
  | .identity rec => decide (3 ≤ rec.length)
  | .verdictBlock rec => decide (3 ≤ rec.length)
  | .epochMark rec => decide (3 ≤ rec.length)
  | .object rec => decide (3 ≤ rec.length)
  | .learnRecord rec => decide (3 ≤ rec.length)
  | .departureMark rec => decide (3 ≤ rec.length)
  | .fabricVerdict rec => decide (3 ≤ rec.length)
  | .copyVerdict rec => decide (3 ≤ rec.length)
  | .hostWork rec => decide (3 ≤ rec.length)
  | .queueEnd rec => decide (3 ≤ rec.length)
  | .digest rec => decide (3 ≤ rec.length)
  | .start rec => decide (3 ≤ rec.length)
  | .handoff => true
  | .copy rec => decide (3 ≤ rec.length)
  | .status rec => decide (3 ≤ rec.length)
  | .heartbeat lane cell => decide (lane < 8) && decide (cell.length % 32 = 0 ∧ 32 ≤ cell.length ∧ cell.length ≤ 512)
  | .heartbeatSend => true
  | .heartbeatSilence => true
  | .pairFaultInFall => true
  | .faultRequest o _ => o.wf
  | .switchover o _ => o.wf
  | .verdictFlush source => decide (source < 161)
  | .verdictWaitExpiry kind n k => decide (kind < 5) && decide (n < 16) && decide (k < 4294967296)
  | .digestClose n => decide (n < 16)
  | .departureInterval => true
  | .fabricVerdictFlush unit cls => decide (unit < 4096) && decide (cls < 8)
  | .selftestInterval => true
  | .mateReplayTimeout k => decide (k < 8)
  | .mateLaneFail k => decide (k < 8)
  | .registerWrite w => w.wf
  | .alwaysOnRailLoss => true
  | .mateLaneRetrain k => decide (k < 8)
  | .mateLinkUp k => decide (k < 8)
  | .mateRecordsCell k cell => decide (k < 8) && decide (cell.length % 32 = 0 ∧ 32 ≤ cell.length ∧ cell.length ≤ 512)
  | .mateIdleCell k cell => decide (k < 8) && decide (cell.length % 32 = 0 ∧ 32 ≤ cell.length ∧ cell.length ≤ 512)
  | .fabLinkAligned l => decide (l < 160)
  | .laneReacquired lane => decide (lane < 128)
  | .ppsOutFall => true
  | .mgmtLinkUp p => decide (p < 2)
  | .mgmtLinkDown p => decide (p < 2)
  | .pcieLinkTrained lanes rate => decide (1 ≤ lanes ∧ lanes ≤ 16) && decide (1 ≤ rate ∧ rate ≤ 5)
  | .pObjectRecorded i j => decide (i < 65536) && decide (j < 256)
  | .groupDownTimeout g => decide (g < 8)
  | .ondieUncorrectableError _ _ => true
  | .pairFaultInRise => true
  | .checkerLocked k => decide (k < 1536)
  | .checkerLockLost k bits errors injected seconds => decide (k < 1536) && decide (bits < 2 ^ 64) && decide (errors < 2 ^ 64) && decide (injected < 2 ^ 64) && decide (seconds < 2 ^ 32)
  | .cmisPassthroughDone n _ _ => decide (n < 32)
  | .dgAlignmentMarker g => decide (g < 16)

end Sys2Proof
end

