-- ==== Sys2Proof/Tests/Slice0.lean ====
section
/-! SUPPORT. Sys2Proof/Tests/Slice0.lean: the model's own tests: that each check of WellFormed refuses a term and passes another, a few values that
the spec states, and for every statement with hypotheses a state and operands that meet them. -/

set_option Elab.async false

namespace Sys2Proof.Tests

open Sys2Proof Sys2Proof.Machine

/-- The state after reset, but for its mode. -/
def inMode (m : Mode) : State := State.reset.setMs fun x => { x with mode := m }
/-- Tidewatch runs, and the main rails are up. -/
def upIn (m : Mode) : State :=
  let s := inMode m
  { s with power := { s.power with tidewatchUp := true, pins := { s.power.pins with pwrEnMain := true, pwrGoodMain := true, poresetN := true, pciePerstN := true } } }
/-- A steward thread, which has role ADMIN. -/
def adm : Origin := .steward 0
/-- A frame of 64 zero bytes but for its FCS. -/
def frame0 : List Byte := List.replicate 60 0 ++ natLe (crc32 (List.replicate 60 0)) 4
/-- A record of zeros. -/
def record0 : List Byte := List.replicate 512 0
/-- A packet that came from port 0. -/
def packet0 : Packet := { frame := frame0, record := record0, source := .arrival 0, inject := none, ordinal := 0, custody := none, traceId := none }
/-- It, admitted to a queue. -/
def held0 : Held :=
  { frame := frame0, record := record0, cells := 1, colour := 0, cls := 0, verdict := 0, location := .onDie, stored := none, arrival := 0, traceId := none
    ordinal := 0, gate := none, seq := none }
/-- A child's share as at its creation. -/
def att0 : Attach :=
  { priority := 4, gate := 0, lenAdjust := 20, quantum := 2048, rate := 0, burst := 16384, deficit := 0, fresh := true, tokens := 0, last := 0
    releasedPackets := 0, releasedBytes := 0 }
/-- A queue with its first parameter byte 1 (egress) or 0 (VOQ), and its packets. -/
def queue0 (kind : Byte) (hs : List Held) : Queue :=
  { params := kind :: List.replicate 31 0, admin := .enabled, packets := hs, avg := 0, emptySince := 0, emptyApplied := 0, admitted := 0, refused := 0
    ended := 0, att := att0, destroyer := none }
/-- A state with these queues. -/
def withQueues (s : State) (qs : List (Nat × Queue)) : State := { s with tm := { s.tm with queues := qs } }
/-- Stores that list their keys strictly rising. -/
theorem rises (s : State) (h : (rising s.objs && rising s.octs && rising s.gens) = true) : s.StoresRise := by
  simp only [Bool.and_eq_true] at h
  exact ⟨h.1.1, h.1.2, h.2⟩
/-- A state with nothing under way in its access part. -/
theorem quiet (s : State)
    (h : (s.acc.jobs.all (fun e => !e.2.ready) && s.acc.waiting.isEmpty && s.nextRequest.isNone && decide (s.acc.resetDue = 0)) = true) : s.Quiet := by
  simp only [Bool.and_eq_true, List.all_eq_true, Bool.not_eq_eq_eq_not, Bool.not_true, decide_eq_true_eq, List.isEmpty_iff, Option.isNone_iff_eq_none] at h
  exact ⟨h.1.1.1, h.1.1.2, h.1.2, h.2⟩

/-- A pass of it through the ingress lane, whose record names a queue. -/
def pass0 : Pass :=
  { packet := packet0, frame := frame0, record := record0.set 12 1, ending := .forward, copies := [], epoch := 0, start := 0, egress := false }
/-- A node of a level at port 127 with no child. -/
def node0 (level : Nat) (round : List Child) : SchedNode := { level := level, port := 127, parent := none, att := { att0 with lenAdjust := 0 }, round := round }
/-- Port 127 belongs to slice 15, is UP with traffic, and has one egress queue with a packet under its level-0 node. -/
def sending : State :=
  let s := (((upIn .spring).setReg 0x3000 127 1).setReg 0x3001 127 15).setReg 0x3003 127 5
  { s with tm := { s.tm with
      queues := [(0, { queue0 1 [held0] with params := [1, 15, 127] ++ List.replicate 29 0 })], nodes := [(0, node0 0 [.queue 0])] } }
/-- A VOQ to unit 5 with a packet, in a unit whose link 0 carries its flow group and whose context has credit. -/
def toFabric : State :=
  let s := ((((upIn .proportional).setReg 0x3400 0 3).setReg 0x8010 0 0).setReg 0x8020 5 0)
  { s with
    tm := { s.tm with queues := [(0, { queue0 0 [held0] with params := [0, 15, 0, 0, 0, 5] ++ List.replicate 26 0 })] }
    fab := { s.fab with
      links := [(0, { Link.reset with credits := 1 })], groups := [(0, { FlowGroup.reset with pins := List.replicate 256 (some 0) })]
      send := [(40, { nextSeq := 0, era := 0, balance := 1, synced := true, syncGate := none, reported := 0, requestedAt := 0 })] } }
/-- A board whose cage 31 has 8 lanes, with a module present. -/
def cages : State :=
  let s := (upIn .spring).setReg 0x1021 31 0x800
  { s with power := { s.power with pins := { s.power.pins with modPrsN := 0x7FFFFFFF } } }
/-- Its cage 31. -/
def withCage (c : Cage) : State := { cages with power := { cages.power with cages := [(31, c)] } }

/-- A frame waits in the pool of slice 15. -/
def arrived : State := State.reset.setSlice 15 { Slice.reset with pool := [{ frame := frame0, port := 0, arrival := 0, ordinal := 0 }] }

def poaHeader (ty session seq len : Nat) : List Byte :=
  natBe 1 1 ++ natBe ty 1 ++ [0, 0] ++ natBe session 4 ++ natBe seq 4 ++ [0, 0] ++ natBe len 2
def poaHead (hdr body : List Byte) : List Byte := List.replicate 12 0 ++ [0x88, 0xB5] ++ hdr ++ body
def poaFrame (hdr body key : List Byte) : List Byte :=
  let b := poaHead hdr body ++ authTag key (hdr ++ body)
  b ++ natLe (crc32 b) 4
def poaTaken (hdr body key : List Byte) : PoaFrame :=
  { mac := List.replicate 6 0, tag := none, header := hdr, body := body, auth := authTag key (hdr ++ body) }

theorem natLe_length (n k : Nat) : (natLe n k).length = k := by
  induction k generalizing n with
  | zero => rfl
  | succ k ih => simp [natLe, ih]
theorem fcs_good (b : List Byte) : fcsGood (b ++ natLe (crc32 b) 4) = true := by
  simp [fcsGood, natLe_length]
theorem authTag_length (k m : List Byte) : (authTag k m).length = 16 := by
  simp [authTag, slice] <;> omega
theorem slice_left (a b : List Byte) (off len : Nat) (h : off + len ≤ a.length) : slice (a ++ b) off len = slice a off len := by
  have h1 : (a ++ b).drop off = a.drop off ++ b := by rw [List.drop_append_of_le_length (by omega)]
  simp only [slice, h1]
  rw [List.take_append_of_le_length (by simp; omega)]
theorem slice_right (a b : List Byte) (off len : Nat) : slice (a ++ b) (a.length + off) len = slice b off len := by
  have : (a ++ b).drop (a.length + off) = b.drop off := by rw [← List.drop_drop]; simp
  simp [slice, this]
theorem slice_mid (a b c : List Byte) : slice (a ++ b ++ c) a.length b.length = b := by
  simp [slice]
theorem receives (s : State) (p : Nat) (hdr body key : List Byte) (hs : p < 2 ∧ s.mgmtServes p = true) (hh : hdr.length = 16)
    (h : (decide (slice (poaHead hdr body) 0 6 = s.mgmtMac p) && decide (s.reg 0x1040 2 = 0) && decide (s.reg 0x1040 1 = 0x88B5)
      && decide (byteAt hdr 0 = 1) && decide (beAt hdr 14 2 = body.length) && decide (body.length ≤ 1468)) = true) :
    s.Receives p (poaFrame hdr body key) (poaTaken hdr body key) := by
  simp only [Bool.and_eq_true, decide_eq_true_eq] at h
  obtain ⟨⟨⟨⟨⟨h0, h1⟩, h2⟩, h3⟩, h4⟩, h5⟩ := h
  refine ⟨hs.1, hs.2, fcs_good _, ?_⟩
  have hl : (poaHead hdr body).length = 30 + body.length := by simp [poaHead, hh]; omega
  have hf : (poaFrame hdr body key).length = 50 + body.length := by simp [poaFrame, hl, natLe_length, authTag_length]; omega
  have e : poaFrame hdr body key = poaHead hdr body ++ (authTag key (hdr ++ body) ++
      natLe (crc32 (poaHead hdr body ++ authTag key (hdr ++ body))) 4) := by simp [poaFrame]
  have sl (off len : Nat) (h : off + len ≤ 30 + body.length) : slice (poaFrame hdr body key) off len = slice (poaHead hdr body) off len := by
    rw [e]; exact slice_left _ _ _ _ (by omega)
  have e2 : poaHead hdr body = (List.replicate 12 0 ++ [0x88, 0xB5]) ++ (hdr ++ body) := by simp [poaHead]
  have hd (off len : Nat) (h : off + len ≤ 16) : slice (poaHead hdr body) (14 + off) len = slice hdr off len := by
    have := slice_left hdr body off len (by omega)
    rw [e2, ← this]; exact slice_right _ _ _ _
  have ty : beAt (poaFrame hdr body key) 12 2 = 0x88B5 := by
    simp only [beAt]; rw [sl _ _ (by omega), e2, slice_left _ _ _ _ (by simp)]; decide
  have n : beAt (poaFrame hdr body key) 28 2 = body.length := by
    simp only [beAt]; rw [sl _ _ (by omega), hd 14 2 (by omega)]; exact h4
  have ver : byteAt (poaFrame hdr body key) 14 = 1 := by
    rw [e, e2]; simp [byteAt] at h3 ⊢; 
    cases hdr with
    | nil => simp at hh
    | cons a l => simpa using h3
  have hdr' : slice (poaFrame hdr body key) 14 16 = hdr := by
    rw [sl _ _ (by omega), hd 0 16 (by omega)]; simp [slice, hh, List.take_of_length_le]
  have src : slice (poaFrame hdr body key) 6 6 = List.replicate 6 0 := by
    rw [sl _ _ (by omega), e2, slice_left _ _ _ _ (by simp)]; decide
  have bod : slice (poaFrame hdr body key) 30 body.length = body := by
    rw [sl _ _ (by omega)]
    have : (List.replicate 12 0 ++ [0x88, 0xB5] ++ hdr : List Byte).length = 30 := by simp [hh]
    have := slice_mid (List.replicate 12 0 ++ [0x88, 0xB5] ++ hdr) body []
    simp_all [poaHead]
  have aut : slice (poaFrame hdr body key) (30 + body.length) 16 = authTag key (hdr ++ body) := by
    have := slice_mid (poaHead hdr body) (authTag key (hdr ++ body)) (natLe (crc32 (poaHead hdr body ++ authTag key (hdr ++ body))) 4)
    rw [hl, authTag_length] at this; exact this
  have mac : slice (poaFrame hdr body key) 0 6 = s.mgmtMac p := by rw [sl _ _ (by omega)]; exact h0
  have lim : ¬(14 + 1504 < 50 + body.length) := by omega
  have long : ¬(50 + body.length < 14 + 36 + body.length) := by omega
  simp [State.parsePoa, ty, mac, h1, h2, n, ver, hf, hdr', src, bod, aut, poaTaken, lim, long]

/-- The session that key slot 0 opened, with its requests held. -/
def session0 (hs : List HeldReq) : Session :=
  { id := 1, slot := 0, port := 0, key := Config.factoryKey, schema := 0, high := 0, serving := false, stored := [], held := hs, lastValid := 0 }
/-- A device in DORMANT with that session. -/
def withSession (hs : List HeldReq) : State :=
  let s := upIn .dormant
  { s with acc := { s.acc with sessions := [(1, session0 hs)] } }
/-- A message of the session from a station of zeros. -/
theorem valid (hs : List HeldReq) (ty seq : Nat) (body : List Byte)
    (h : (withSession hs).session (poaTaken (poaHeader ty 1 seq body.length) body Config.factoryKey).session = some (session0 hs)) :
    (withSession hs).validSession (poaTaken (poaHeader ty 1 seq body.length) body Config.factoryKey) = some (session0 hs) := by
  rw [State.validSession, h]
  simp only [Option.filter, PoaFrame.verifies, poaTaken, session0, decide_true, if_true, Option.map]
  rfl
/-- A request held for a gap below it. -/
def heldReq0 : HeldReq := { seq := 16, since := 0, port := 0, mac := [], tag := none, frame := [] }
/-- A length within the limit of an object's row. -/
theorem within (i j len : Nat)
    (h : ((dictRow i j).all fun d => match d.limits with | .maxLen n => decide (len ≤ n) | _ => true) = true) :
    ∀ d n, dictRow i j = some d → d.limits = .maxLen n → len ≤ n := by
  intro d n h1 h2
  simpa [h1, h2] using h
/-- A meter with empty buckets. -/
def meter0 : Meter := { params := List.replicate 32 0, tc := 0, t2 := 0, last := 0 }
/-- Parameters of an exact-match region with a one-byte key, a port byte for its data, and ageing by hits. -/
def emParams : List Byte := [0, 8, 1, 0, 0, 0, 4, 0, 0, 0, 0, 0, 1, 0] ++ List.replicate 18 0
/-- Parameters of an LPM region over a one-byte key with lengths 8 and 1. -/
def lpmParams : List Byte := [0, 8, 1, 0, 0, 0, 4, 0, 0, 0, 0, 0, 0, 0, 8, 2, 8, 1] ++ List.replicate 62 0
/-- Parameters of a rule set of one block, 160 bits wide. -/
def setParams : List Byte := [0, 1] ++ List.replicate 14 0
/-- A unit in PROPORTIONAL with a region of each kind and a rule set. -/
def tabled : State :=
  let s := upIn .proportional
  { s with
    tables := { s.tables with
      regions := [(0, { em := true, params := emParams, base := 0 }), (1, { em := false, params := lpmParams, base := 0 })]
      ruleSets := [(0, { params := setParams, baseBlock := 0 })], iters := [(31, { gen := 255, isOpen := true, region := 0, cursor := 0, pending := [], skip := [], last := 0 })] }
    meters := [(0, meter0)], stats := { s.stats with sets := [(0, { tag := 0, packets := 0, bytes := 0 })] } }
/-- Batch 63 is open, with its generation 1. -/
def batching : State := { tabled with acc := { tabled.acc with batches := [(63, { Batch.reset with isOpen := true })] } }
/-- The passes of a write into it are decided by its checks. -/
theorem mayAdd (s : State) (o : Origin) (id i j : Nat) (v : List Byte)
    (h : (decide (id < 2 ^ 32) && decide (s.checkTargetFor false (s.roleOf o) i j v.length = .ok) && decide (s.mode ≠ .catchup ∧ s.mode ≠ .shadow)
      && decide (s.checkAdd (s.roleOf o) o id i j (canonical o.be (typeOf i j) v) = .ok)) = true) : s.MayAdd o id i j v := by
  simp only [Bool.and_eq_true, decide_eq_true_eq] at h
  exact ⟨h.1.1.1, h.1.1.2, h.1.2, h.2⟩
/-- Those of a CREATE are decided by its. -/
theorem mayCreate (s : State) (o : Origin) (i : Nat) (v : List Byte)
    (h : (decide (2 ≤ s.roleOf o) && decide (s.modeForbids i 0 true = false ∧ s.mode ≠ .catchup ∧ s.mode ≠ .shadow)
      && (dictRow i 0).any fun d => limitsOk d v) = true) : s.MayCreate o i v := by
  simp only [Bool.and_eq_true, decide_eq_true_eq] at h
  exact ⟨h.1.1, h.1.2, h.2⟩
/-- What a CREATE makes, where it makes something. -/
theorem made {x : Except Status (Nat × State)} (h : (match x with | .ok _ => true | .error _ => false) = true) : ∃ a u, x = .ok (a, u) := by
  cases x with
  | ok p => exact ⟨p.1, p.2, rfl⟩
  | error e => cases h
/-- A command whose effect is good. -/
theorem effected {x : Status × State} (h : x.1 = .ok) : ∃ u, x = (.ok, u) := ⟨x.2, by rw [← h]⟩
/-- Parameters of a meter on every slice. -/
def meterParams : List Byte := [0, 0, 0, 0, 0, 0, 0, 8] ++ List.replicate 7 0 ++ [64] ++ List.replicate 16 0
/-- Parameters of a host channel. -/
def chanParams : List Byte := [0, 6, 16, 0] ++ List.replicate 16 0 ++ [255, 255, 4, 0] ++ List.replicate 8 0
/-- Parameters of a VOQ to unit 5. -/
def voqParams : List Byte := [0, 15, 0, 7, 0, 5] ++ [7, 3, 0, 0, 0, 0, 0, 0, 0, 1, 63, 63, 63, 0, 0, 32, 0, 0] ++ List.replicate 8 0
/-- Its learn thread runs. -/
def served : State := { tabled with stewards := { tabled.stewards with threads := [(tabled.reg 0xB012 1, { Thread.reset with state := .running })] } }
/-- A gate list of one interval. -/
def gates0 : List Byte := List.replicate 8 0 ++ natBe 1000 4 ++ [0, 1, 0, 0] ++ [255, 0, 0, 0] ++ natBe 1000 4
/-- Window 31 holds it. -/
def withGates : State := let s := upIn .spring; { s with octs := [(okey 0x7E02 31, gates0)] }
/-- A host channel with nothing in progress. -/
def chan0 : HostChannel :=
  { params := chanParams, ring := .disabled, fetchPos := 0, fetchPhase := true, writePos := 0, writePhase := true
    taken := 0, fetched := [], started := [], staged := [], scanning := false, unsignalled := 0, firstUnsignalled := 0, malformed := 0
    dmaErrors := 0, stalls := 0 }
/-- A delivery with a last block of 1,024 bytes. -/
def delivery0 : Delivery := { total := 66560, bundleId := List.replicate 48 0, blocks := [], complete := [], erasing := [0] }
/-- It, in a state of the staging. -/
def delivering (st : Nat) : State :=
  let s := (upIn .spring).setReg 0xE010 4 st
  { s with fw := { s.fw with delivery := some delivery0 } }
/-- A healthy trial. -/
def trial0 : Trial := { warm := true, slot := 1, since := some 9, healthy := true }
/-- A unit on trial. -/
def onTrial : State := let s := upIn .spring; { s with fw := { s.fw with trial := some trial0 } }
/-- A pattern test that checks, for 1 ms. -/
def test0 (st : Nat) : PatternTest :=
  { state := st, params := [4, 0x8F, 11, 3, 0, 0, 0, 0, 0, 0, 0, 1] ++ List.replicate 12 0, started := 0, ended := 0, bits := 0, errors := 0, injected := 0
    lockLosses := 0, erroredSeconds := 0 }
/-- It, on the last die-to-die direction. -/
def testing (st : Nat) : State := let s := upIn .diagnostic; { s with test := { s.test with tests := [(1055, test0 st)] } }
/-- A data cell of a first packet byte run: a good header, 16 bytes. -/
def dataCell0 : List Byte := wholeCell (fabHeader 1 true false 0 4094 255 7 16 0 0 false 0) (natBe (64 * 8) 8 ++ List.replicate 8 0)
/-- An IDLE that returns 127 credits. -/
def idleCell0 : List Byte := wholeCell (fabHeader 0 false false 0 4094 255 0 0 0 0 false 127) []
/-- A control cell of one message. -/
def controlCell0 (dest ty m : Nat) : List Byte := wholeCell (fabHeader 2 true true dest 4094 255 0 8 0 0 false 0) (natBe ty 1 ++ natBe m 7)
/-- Link 159 in a state. -/
def linked (st : Nat) : State := (upIn .proportional).setReg 0x3400 159 st
/-- With what the interface holds. -/
def withFabric (s : State) (f : Fabric) : State := { s with fab := f }
/-- Link 159 holds a cell that it has sent once. -/
def unacked0 : Fabric := { State.reset.fab with links := [(159, { Link.reset with unacked := [{ control := true, first := true, last := true, dest := 0, cls := 0, payload := [], packet := none, seq := some 0 }] })] }
/-- A reassembly from link 159. -/
def reasm0 : Reassembly := { link := 159, unit := 4094, srcLink := 255, cls := 7, bytes := [], lastCell := 0 }
/-- A packet that waits for its turn. -/
def waiting0 : ReseqPacket := { seq := 1, packet := packet0, bytes := 64, since := 5, group := none, port := 127, colour := 0, cls := 7 }
/-- Unit 5 asks for 17 cells, and link 0 reaches it. -/
def asked : State :=
  let s := (((upIn .proportional).setReg 0x3400 0 3).setReg 0x8010 0 0).setReg 0x8020 5 0
  { s with fab := { s.fab with recv := [(47, { RecvCtx.reset with demand := 17, synced := true })] } }
/-- HBM as reset, with one stack. -/
def withStack (h : Nat) (x : Stack) (st : Nat) : State := let s := (upIn .proportional).setReg 0x7101 h st; { s with hbm := { s.hbm with stackIds := [(h, x)] } }
/-- Or with pseudo-channel 127. -/
def withPc (x : PseudoChannel) : State := let s := upIn .spring; { s with hbm := { s.hbm with channels := [(127, x)] } }
/-- Port 7 waits for its module at step 3 of its activation. -/
def activating : State :=
  let s := (cages.setReg 0x3003 7 2).setReg 0x111F 1 3
  { s with ports := { s.ports with ports := [(7, { Port.reset with activation := 3 })] } }
/-- A descriptor that injects 16,379 bytes into slice 15, in the first phase of its ring. -/
def descriptor0 : List Byte := natLe (2 ^ 31 + 2 ^ 30 + 1 * 2 ^ 16) 4 ++ List.replicate 12 0 ++ natLe 16379 2 ++ [15, 128] ++ List.replicate 44 0
/-- A receive descriptor of 64 KiB. -/
def descriptor1 : List Byte := natLe (2 ^ 31 + 2 ^ 30 + 2 * 2 ^ 16) 4 ++ List.replicate 12 0 ++ natLe 65536 4 ++ List.replicate 44 0
/-- A unit with a host channel. -/
def hosting (c : HostChannel) : State := let s := upIn .spring; { s with host := { s.host with channels := [(4095, c)] } }
/-- A unit with a mailbox. -/
def mailing (b : Mailbox) : State := let s := upIn .spring; { s with host := { s.host with mailboxes := [(63, b)] } }
/-- A unit with threads. -/
def running (ts : List (Nat × Thread)) : State := let s := upIn .spring; { s with stewards := { s.stewards with threads := ts } }
/-- A thread that runs. -/
def thread0 : Thread := { Thread.reset with state := .running, pc := 0x01000000 }
/-- With an integrator image. -/
def integrated (ts : List (Nat × Thread)) : State :=
  let s := (running ts).setReg 0xB030 1 1
  { s with stewards := { s.stewards with integratorImage := true, integratorEntry := [(47, 0x01300000)] } }
/-- DEBUG is loaded into the TAP. -/
def debugging (ts : List (Nat × Thread)) : State := let s := running ts; { s with test := { s.test with tapLoaded := 0x20 } }
/-- A unit of a pair, in a mode and as far as a phase. -/
def pairIn (m : Mode) (ph : PairPhase) : State :=
  let s := (upIn m).setReg 0x9000 1 1
  { s with pair := { s.pair with phase := ph, mate := { s.pair.mate with heard := true } } }
/-- The change of the next epoch, complete. -/
def change0 : MateChange := { ticket := 1, epoch := 1, own := false, closed := true, ops := [] }
/-- With what the pair's part holds. -/
def withPair (s : State) (f : Pair → Pair) : State := { s with pair := f s.pair }
/-- A frame of the unit's own. -/
def own0 : OwnFrame := { source := 0, ordinal := 0, tag := 1, again := .lost, since := 5 }
/-- An entry of the stream. -/
def entry0 : MateEntry := { source := 0, position := 0, tag := 1, admits := false, colour := 0, since := 5, own := none }
/-- A rule whose first key bit must be one. -/
def rule0 : Rule := { vEven := true, vOdd := true, value := List.replicate 20 255, mask := List.replicate 20 255, actEven := [], actOdd := [] }
/-- Each of these commands, one or more of every row of the table, is well-formed. Part 1. -/
theorem test_wellFormed_passes_1 :
    (([
      .frameReceive 0 [] false, .switchingSlotGrant, .sliceWakeDone 0, .sliceIdleExpiry 0, .laneTake 0 false,
      .passDispatch 0 false false, .dgHoldClear 0, .breakwaterVerdict 0, .replicateCopy 0, .spillSegmentStart, .spillWriteDone 0,
      .readbackDone 0 [] [] [] false, .schedDecision 0, .voqRelease 0, .frameTransmitDone 0, .txFrameStart 0, .gateEvent 0,
      .configChangeTime 0, .linkDownHoldExpiry 0, .linkFaultOnset 0 3 0, .flushDone 0, .linkUp 0, .modeRequest (.steward 0) [],
      .modeTransitionDone] : List Instr).all fun c => c.wf) = true := by decide +kernel

/-- Each of these commands, one or more of every row of the table, is well-formed. Part 2. -/
theorem test_wellFormed_passes_2 :
    (([
      .drainQueuesEmpty, .drainTimeout, .wakeAfterSExpiry,
      .bootPath false false false (List.replicate 4 ⟨false, [], 0, 0, 0, []⟩) (List.replicate 16 (0, 0)) [], .poresetNLow,
      .powerOnStart, .pwrGoodMainRise false false [], .supplyTimeout, .supplyLoss, .sensorSample (List.replicate 26 0),
      .thermalTrip 1, .twclkLoss, .pllUnlock 1, .twclkRestored, .refclkLoss 0, .refclkReturn 0 0, .avsEvaluate 0 0,
      .avsWriteDone 0 false 0, .warmresetNLow, .warmRestartDone, .resetRequestWarm (.steward 0), .resetRequestCold (.steward 0),
      .tidewatchWatchdogExpiry, .pciePerstNLow] : List Instr).all fun c => c.wf) = true := by decide +kernel

/-- Each of these commands, one or more of every row of the table, is well-formed. Part 3. -/
theorem test_wellFormed_passes_3 :
    (([
      .pciePerstNHigh, .trstNLow, .moduleInsertion 0, .moduleResetRelease 0, .moduleStatePoll 0 false (List.replicate 384 0),
      .moduleReadTimeout 0, .moduleRemoval 0, .modIntNAssert 0, .reread (.steward 0) 0 [], .cmisPassthrough (.steward 0) 0 [],
      .poaOpen 0 [], .poaClose 0 [], .poaRequest 0 [], .seqGapTimeout 0 0, .sessionIdleExpiry 0, .winGo 0,
      .read (.steward 0) 0 0 0, .write (.steward 0) 0 0 0 [], .readSegment (.steward 0) 0 0 0 0,
      .writeSegment (.steward 0) 0 0 0 0 [], .blobSegmentTimeout (.steward 0) 0 0, .blobCopyExpiry (.steward 0) 0 0,
      .describe (.steward 0) 0 0, .next (.steward 0) 0 0] : List Instr).all fun c => c.wf) = true := by decide +kernel

/-- Each of these commands, one or more of every row of the table, is well-formed. Part 4. -/
theorem test_wellFormed_passes_4 :
    (([
      .destroy (.steward 0) 0, .queueDestroyDone 0, .batchOpen (.steward 0), .batchWrite (.steward 0) 0 0 0 0 [],
      .batchCommit (.steward 0) 0, .batchAbort (.steward 0) 0, .batchIdleExpiry 0, .epochDrainDone, .epochAdvance,
      .programInstall (.steward 0) 0 0, .graphRestore (.steward 0) 0 0, .emRegionCreate (.steward 0) [],
      .lpmRegionCreate (.steward 0) [], .tableInsert (.steward 0) 0 0 0 0 [] [], .tableDelete (.steward 0) 0 0 0 0 [],
      .learnServiceCommit, .ageSweep 0, .search (.steward 0) 0 0 [], .iterOpen (.steward 0) 0, .iterNext (.steward 0) 0 0 0,
      .iterClose (.steward 0) 0 0, .iterTimeout 0, .flushRequest (.steward 0) [], .flushScanDone 0 0] : List Instr).all fun c => c.wf) = true := by decide +kernel

/-- Each of these commands, one or more of every row of the table, is well-formed. Part 5. -/
theorem test_wellFormed_passes_5 :
    (([
      .ruleSetCreate (.steward 0) [], .ruleWrite (.steward 0) 0 0 0 [] [] [], .ruleDelete (.steward 0) 0 0 0,
      .ruleSetAction (.steward 0) 0 0 0 [], .readRule (.steward 0) 0 0, .readBlock (.steward 0) 0 0,
      .queueCreate (.steward 0) [], .enable (.steward 0) 0, .disable (.steward 0) 0, .setLimits (.steward 0) 0 [],
      .queueQuery (.steward 0) [], .mcastSet (.steward 0) [], .mcastQuery (.steward 0) [], .nodeCreate (.steward 0) [],
      .schedSet (.steward 0) [], .schedQuery (.steward 0) [], .meterCreate (.steward 0) [], .meterSet (.steward 0) [],
      .meterQuery (.steward 0) [], .windowAdmin (.steward 0) 0 [], .windowEnable (.steward 0) 0 [],
      .windowPort (.steward 0) 0 [], .watchQueue (.steward 0) 0 [], .watchIntervalEnd 0] : List Instr).all fun c => c.wf) = true := by decide +kernel

/-- Each of these commands, one or more of every row of the table, is well-formed. Part 6. -/
theorem test_wellFormed_passes_6 :
    (([
      .dataCell 0 (List.replicate 32 0), .idleCell 0 (List.replicate 32 0), .replayTimeout 0, .reassemblyTimeout 0 0 0,
      .reseqTimeout 0 0, .request 0 (List.replicate 32 0), .grant 0 (List.replicate 32 0), .grantIssue, .requestRefresh 0 0,
      .hello 0 (List.replicate 32 0), .quiet 0 (List.replicate 32 0), .quietDone 0 (List.replicate 32 0), .quietTimeout 0,
      .fault 0 (List.replicate 32 0), .linkFail 0 1, .signalLossHoldExpiry 0, .linkRetrain 0, .linkUpHoldExpiry 0,
      .fenceHoldExpiry 0 0, .fabricMeasure, .quadWakeDone 0 0, .hbmIdleExpiry 0, .selfRefreshEnter 0, .hbmWakeDone 0 0 []] : List Instr).all fun c => c.wf) = true := by decide +kernel

/-- Each of these commands, one or more of every row of the table, is well-formed. Part 7. -/
theorem test_wellFormed_passes_7 :
    (([
      .hbmWakeFailed 0, .refreshBoundary 0, .bankRefresh 0, .caParityAlert 0, .calRound 0, .calProbeDone 0 [] [],
      .hbmDelays (.steward 0) 0 [], .delaySave, .scrub [] [], .portMode (.steward 0) 0 [], .portSlice (.steward 0) 0 [],
      .portAdminEnable (.steward 0) 0, .portAdminDisable (.steward 0) 0, .moduleActivationStep 0, .moduleActivationTimeout 0,
      .ptpStepNs (.steward 0) [], .txStampPop (.steward 0) 0 [], .ppsInEdge, .ppsOutSecond, .adaptStep 0 0 false 0,
      .adaptEvaluate 0 0, .marginMeasure 0 0 0 0 0 0 0 0, .dgUncorrectableFlit 0 false [], .dgFail 0] : List Instr).all fun c => c.wf) = true := by decide +kernel

/-- Each of these commands, one or more of every row of the table, is well-formed. Part 8. -/
theorem test_wellFormed_passes_8 :
    (([
      .dgRetrain 0 false, .dgCalRound 0 (List.replicate 296 0) 0, .subDoorbell 0 [], .scanResume 0 [], .inject 0 false [],
      .receiveBuffer 0 [], .stagedRetry 0 0, .coalesceExpiry 0, .ringEnable (.steward 0) 0, .ringDisable (.steward 0) 0,
      .channelCreate (.steward 0) [], .channelSet (.steward 0) [], .channelQuery (.steward 0) [], .dbStatus 0 0, .dbMask 0 0,
      .dbRing 0 0, .txData 0 0 0 0, .rxData 0 0 0, .abandon 0 0 0, .mbStalemate 0, .lockAcquire 0 0, .lockRelease 0 0,
      .lockForce (.steward 0) 0 [], .tstart 0 0 0 0] : List Instr).all fun c => c.wf) = true := by decide +kernel

/-- Each of these commands, one or more of every row of the table, is well-formed. Part 9. -/
theorem test_wellFormed_passes_9 :
    (([
      .tstop 0 0 0, .tsig 0 0 0 0, .twfe 0 0 0, .tpoll 0 0 0, .tyield 0, .tstat 0 0 0, .threadWake 0, .tcmpExpiry 0,
      .twdogExpiry 0, .threadFault 0 0, .thread0Failure 0, .slackWater 0, .coreRetainExpiry 0, .debugHalt [], .debugResume [],
      .threadWeight (.steward 0) false 0 [], .puntQueue (.steward 0) false 0 [], .integratorRestart (.steward 0) [],
      .clearObject (.steward 0) 0 0, .clearIndex (.steward 0) 0, .clearAllObjects (.steward 0), .clearCounterSet (.steward 0) 0,
      .clearQueueStats (.steward 0) 0, .clearChannelStats (.steward 0) 0] : List Instr).all fun c => c.wf) = true := by decide +kernel

/-- Each of these commands, one or more of every row of the table, is well-formed. Part 10. -/
theorem test_wellFormed_passes_10 :
    (([
      .clearHistogram (.steward 0) 0, .clearEverything (.steward 0), .counterSetCreate (.steward 0) [], .statsFlush 1 0 0,
      .snapshot (.steward 0) [], .snapshotReady, .snapshotQuery (.steward 0) [], .wrapQuery (.steward 0) [],
      .counterSetQuery (.steward 0) [], .histogramQuery (.steward 0) [], .traceRead (.steward 0) [], .ringReset (.steward 0) [],
      .stageOpen (.steward 0) [], .stageEraseDone, .stageData (.steward 0) 0 false [], .pieceEraseDone 0, .stageHashDone,
      .atNextStart (.steward 0), .warmNow (.steward 0), .activateInstallDone false, .confirm (.steward 0) [],
      .revert (.steward 0) [], .confirmDelayExpiry, .confirmDeadlineExpiry] : List Instr).all fun c => c.wf) = true := by decide +kernel

/-- Each of these commands, one or more of every row of the table, is well-formed. Part 11. -/
theorem test_wellFormed_passes_11 :
    (([
      .patternStart (.steward 0) [], .patternStop (.steward 0) [], .patternDurationEnd 0, .bistStart (.steward 0) [],
      .bistDone [], .backgroundTestDone 0 0 false false false false, .healthClear (.steward 0) [], .jtagInstruction 0,
      .identity [0, 0, 0], .verdictBlock [0, 0, 0], .epochMark [0, 0, 0], .object [0, 0, 0], .learnRecord [0, 0, 0],
      .departureMark [0, 0, 0], .fabricVerdict [0, 0, 0], .copyVerdict [0, 0, 0], .hostWork [0, 0, 0], .queueEnd [0, 0, 0],
      .digest [0, 0, 0], .start [0, 0, 0], .handoff, .copy [0, 0, 0], .status [0, 0, 0], .heartbeat 0 (List.replicate 32 0)] : List Instr).all fun c => c.wf) = true := by decide +kernel

/-- Each of these commands, one or more of every row of the table, is well-formed. Part 12. -/
theorem test_wellFormed_passes_12 :
    (([
      .heartbeatSend, .heartbeatSilence, .pairFaultInFall, .faultRequest (.steward 0) [], .switchover (.steward 0) [],
      .verdictFlush 0, .verdictWaitExpiry 0 0 0, .digestClose 0, .departureInterval, .fabricVerdictFlush 0 0, .selftestInterval,
      .mateReplayTimeout 0, .mateLaneFail 0, .registerWrite (.bar 0 0 []), .alwaysOnRailLoss, .mateLaneRetrain 0, .mateLinkUp 0,
      .mateRecordsCell 0 (List.replicate 32 0), .mateIdleCell 0 (List.replicate 32 0), .fabLinkAligned 0, .laneReacquired 0,
      .ppsOutFall, .mgmtLinkUp 0, .mgmtLinkDown 0] : List Instr).all fun c => c.wf) = true := by decide +kernel

/-- Each of these commands, one or more of every row of the table, is well-formed. Part 13. -/
theorem test_wellFormed_passes_13 :
    (([
      .pcieLinkTrained 1 1, .pObjectRecorded 0 0, .groupDownTimeout 0, .ondieUncorrectableError false [], .pairFaultInRise,
      .checkerLocked 0, .checkerLockLost 0 0 0 0 0, .cmisPassthroughDone 0 false [], .dgAlignmentMarker 0] : List Instr).all fun c => c.wf) = true := by decide +kernel

/-- Each of these commands breaks one check of WellFormed, and is refused. Part 1. -/
theorem test_wellFormed_refuses_1 :
    (([
      .frameReceive (128) [] false, .sliceWakeDone (16), .sliceIdleExpiry (16), .laneTake (16) false,
      .passDispatch (16) false false, .dgHoldClear (16), .breakwaterVerdict (16), .replicateCopy (16), .spillWriteDone (2 ^ 64),
      .readbackDone (2 ^ 64) [] [] [] false, .readbackDone 0 [128] [] [] false, .readbackDone 0 [] [128] [] false,
      .readbackDone 0 [] [] [32768] false, .schedDecision (16), .voqRelease (16), .frameTransmitDone (128), .txFrameStart (128),
      .gateEvent (32), .configChangeTime (32), .linkDownHoldExpiry (128), .linkFaultOnset (128) 3 0, .linkFaultOnset 0 (7 + 1) 0,
      .linkFaultOnset 0 3 (256), .flushDone (128)] : List Instr).all fun c => !c.wf) = true := by decide +kernel

/-- Each of these commands breaks one check of WellFormed, and is refused. Part 2. -/
theorem test_wellFormed_refuses_2 :
    (([
      .linkUp (128), .modeRequest (.window 8) [], .bootPath false false false [] (List.replicate 16 (0, 0)) [],
      .bootPath false false false (List.replicate 4 ⟨false, [], 0, 0, 0, []⟩) [] [], .sensorSample [], .thermalTrip (26 + 1),
      .pllUnlock (5 + 1), .refclkLoss (20), .refclkReturn (20) 0, .refclkReturn 0 (2 ^ 31), .avsEvaluate (2) 0,
      .avsEvaluate 0 (256), .avsWriteDone (2) false 0, .avsWriteDone 0 false (2 ^ 32), .resetRequestWarm (.window 8),
      .resetRequestCold (.window 8), .moduleInsertion (32), .moduleResetRelease (32),
      .moduleStatePoll (32) false (List.replicate 384 0), .moduleStatePoll 0 false [], .moduleReadTimeout (32),
      .moduleRemoval (32), .modIntNAssert (32), .reread (.window 8) 0 []] : List Instr).all fun c => !c.wf) = true := by decide +kernel

/-- Each of these commands breaks one check of WellFormed, and is refused. Part 3. -/
theorem test_wellFormed_refuses_3 :
    (([
      .reread (.steward 0) (32) [], .cmisPassthrough (.window 8) 0 [], .cmisPassthrough (.steward 0) (32) [], .poaOpen (2) [],
      .poaClose (2) [], .poaRequest (2) [], .seqGapTimeout (2 ^ 32) 0, .seqGapTimeout 0 (2 ^ 32), .sessionIdleExpiry (2 ^ 32),
      .winGo (8), .read (.window 8) 0 0 0, .read (.steward 0) (65536) 0 0, .read (.steward 0) 0 (256) 0,
      .read (.steward 0) 0 0 (256), .write (.window 8) 0 0 0 [], .write (.steward 0) (65536) 0 0 [],
      .write (.steward 0) 0 (256) 0 [], .write (.steward 0) 0 0 (256) [], .readSegment (.window 8) 0 0 0 0,
      .readSegment (.steward 0) (65536) 0 0 0, .readSegment (.steward 0) 0 (256) 0 0, .readSegment (.steward 0) 0 0 (2 ^ 32) 0,
      .readSegment (.steward 0) 0 0 0 (65536), .writeSegment (.window 8) 0 0 0 0 []] : List Instr).all fun c => !c.wf) = true := by decide +kernel

/-- Each of these commands breaks one check of WellFormed, and is refused. Part 4. -/
theorem test_wellFormed_refuses_4 :
    (([
      .writeSegment (.steward 0) (65536) 0 0 0 [], .writeSegment (.steward 0) 0 (256) 0 0 [],
      .writeSegment (.steward 0) 0 0 (256) 0 [], .writeSegment (.steward 0) 0 0 0 (2 ^ 32) [],
      .blobSegmentTimeout (.window 8) 0 0, .blobSegmentTimeout (.steward 0) (65536) 0, .blobSegmentTimeout (.steward 0) 0 (256),
      .blobCopyExpiry (.window 8) 0 0, .blobCopyExpiry (.steward 0) (65536) 0, .blobCopyExpiry (.steward 0) 0 (256),
      .describe (.window 8) 0 0, .describe (.steward 0) (65536) 0, .describe (.steward 0) 0 (256), .next (.window 8) 0 0,
      .next (.steward 0) (65536) 0, .next (.steward 0) 0 (256), .destroy (.window 8) 0, .destroy (.steward 0) (2 ^ 32),
      .queueDestroyDone (524288), .batchOpen (.window 8), .batchWrite (.window 8) 0 0 0 0 [],
      .batchWrite (.steward 0) (2 ^ 32) 0 0 0 [], .batchWrite (.steward 0) 0 (65536) 0 0 [],
      .batchWrite (.steward 0) 0 0 (256) 0 []] : List Instr).all fun c => !c.wf) = true := by decide +kernel

/-- Each of these commands breaks one check of WellFormed, and is refused. Part 5. -/
theorem test_wellFormed_refuses_5 :
    (([
      .batchWrite (.steward 0) 0 0 0 (256) [], .batchCommit (.window 8) 0, .batchCommit (.steward 0) (2 ^ 32),
      .batchAbort (.window 8) 0, .batchAbort (.steward 0) (2 ^ 32), .batchIdleExpiry (64), .programInstall (.window 8) 0 0,
      .programInstall (.steward 0) (2 ^ 32) 0, .programInstall (.steward 0) 0 (256), .graphRestore (.window 8) 0 0,
      .graphRestore (.steward 0) (2 ^ 32) 0, .graphRestore (.steward 0) 0 (2 ^ 32), .emRegionCreate (.window 8) [],
      .lpmRegionCreate (.window 8) [], .tableInsert (.window 8) 0 0 0 0 [] [], .tableInsert (.steward 0) (2 ^ 32) 0 0 0 [] [],
      .tableInsert (.steward 0) 0 (256) 0 0 [] [], .tableInsert (.steward 0) 0 0 (256) 0 [] [],
      .tableInsert (.steward 0) 0 0 0 (2 ^ 32) [] [], .tableDelete (.window 8) 0 0 0 0 [],
      .tableDelete (.steward 0) (2 ^ 32) 0 0 0 [], .tableDelete (.steward 0) 0 (256) 0 0 [],
      .tableDelete (.steward 0) 0 0 (256) 0 [], .tableDelete (.steward 0) 0 0 0 (2 ^ 32) []] : List Instr).all fun c => !c.wf) = true := by decide +kernel

/-- Each of these commands breaks one check of WellFormed, and is refused. Part 6. -/
theorem test_wellFormed_refuses_6 :
    (([
      .ageSweep (64), .search (.window 8) 0 0 [], .search (.steward 0) (2 ^ 32) 0 [], .search (.steward 0) 0 (256) [],
      .iterOpen (.window 8) 0, .iterOpen (.steward 0) (2 ^ 32), .iterNext (.window 8) 0 0 0, .iterNext (.steward 0) (2 ^ 32) 0 0,
      .iterNext (.steward 0) 0 (2 ^ 32) 0, .iterNext (.steward 0) 0 0 (65536), .iterClose (.window 8) 0 0,
      .iterClose (.steward 0) (2 ^ 32) 0, .iterClose (.steward 0) 0 (2 ^ 32), .iterTimeout (32), .flushRequest (.window 8) [],
      .flushScanDone (64) 0, .flushScanDone 0 (128), .ruleSetCreate (.window 8) [], .ruleWrite (.window 8) 0 0 0 [] [] [],
      .ruleWrite (.steward 0) (2 ^ 32) 0 0 [] [] [], .ruleWrite (.steward 0) 0 (2 ^ 32) 0 [] [] [],
      .ruleWrite (.steward 0) 0 0 (2 ^ 32) [] [] [], .ruleDelete (.window 8) 0 0 0, .ruleDelete (.steward 0) (2 ^ 32) 0 0] : List Instr).all fun c => !c.wf) = true := by decide +kernel

/-- Each of these commands breaks one check of WellFormed, and is refused. Part 7. -/
theorem test_wellFormed_refuses_7 :
    (([
      .ruleDelete (.steward 0) 0 (2 ^ 32) 0, .ruleDelete (.steward 0) 0 0 (2 ^ 32), .ruleSetAction (.window 8) 0 0 0 [],
      .ruleSetAction (.steward 0) (2 ^ 32) 0 0 [], .ruleSetAction (.steward 0) 0 (2 ^ 32) 0 [],
      .ruleSetAction (.steward 0) 0 0 (2 ^ 32) [], .readRule (.window 8) 0 0, .readRule (.steward 0) (2 ^ 32) 0,
      .readRule (.steward 0) 0 (2 ^ 32), .readBlock (.window 8) 0 0, .readBlock (.steward 0) (2 ^ 32) 0,
      .readBlock (.steward 0) 0 (2 ^ 32), .queueCreate (.window 8) [], .enable (.window 8) 0, .enable (.steward 0) (2 ^ 32),
      .disable (.window 8) 0, .disable (.steward 0) (2 ^ 32), .setLimits (.window 8) 0 [], .setLimits (.steward 0) (2 ^ 32) [],
      .queueQuery (.window 8) [], .mcastSet (.window 8) [], .mcastQuery (.window 8) [], .nodeCreate (.window 8) [],
      .schedSet (.window 8) []] : List Instr).all fun c => !c.wf) = true := by decide +kernel

/-- Each of these commands breaks one check of WellFormed, and is refused. Part 8. -/
theorem test_wellFormed_refuses_8 :
    (([
      .schedQuery (.window 8) [], .meterCreate (.window 8) [], .meterSet (.window 8) [], .meterQuery (.window 8) [],
      .windowAdmin (.window 8) 0 [], .windowAdmin (.steward 0) (32) [], .windowEnable (.window 8) 0 [],
      .windowEnable (.steward 0) (32) [], .windowPort (.window 8) 0 [], .windowPort (.steward 0) (32) [],
      .watchQueue (.window 8) 0 [], .watchQueue (.steward 0) (4096) [], .watchIntervalEnd (4096),
      .dataCell (160) (List.replicate 32 0), .dataCell 0 (List.replicate 31 0), .idleCell (160) (List.replicate 32 0),
      .idleCell 0 (List.replicate 31 0), .replayTimeout (160), .reassemblyTimeout (160) 0 0, .reassemblyTimeout 0 (4096) 0,
      .reassemblyTimeout 0 0 (256), .reseqTimeout (4096) 0, .reseqTimeout 0 (8), .request (160) (List.replicate 32 0)] : List Instr).all fun c => !c.wf) = true := by decide +kernel

/-- Each of these commands breaks one check of WellFormed, and is refused. Part 9. -/
theorem test_wellFormed_refuses_9 :
    (([
      .request 0 (List.replicate 31 0), .grant (160) (List.replicate 32 0), .grant 0 (List.replicate 31 0),
      .requestRefresh (4096) 0, .requestRefresh 0 (8), .hello (160) (List.replicate 32 0), .hello 0 (List.replicate 31 0),
      .quiet (160) (List.replicate 32 0), .quiet 0 (List.replicate 31 0), .quietDone (160) (List.replicate 32 0),
      .quietDone 0 (List.replicate 31 0), .quietTimeout (160), .fault (160) (List.replicate 32 0),
      .fault 0 (List.replicate 31 0), .linkFail (160) 1, .linkFail 0 (4 + 1), .signalLossHoldExpiry (160), .linkRetrain (160),
      .linkUpHoldExpiry (160), .fenceHoldExpiry (8) 0, .fenceHoldExpiry 0 (256), .quadWakeDone (40) 0, .quadWakeDone 0 (2 ^ 32),
      .hbmIdleExpiry (4)] : List Instr).all fun c => !c.wf) = true := by decide +kernel

/-- Each of these commands breaks one check of WellFormed, and is refused. Part 10. -/
theorem test_wellFormed_refuses_10 :
    (([
      .selfRefreshEnter (4), .hbmWakeDone (4) 0 [], .hbmWakeDone 0 (2 ^ 32) [], .hbmWakeDone 0 0 [128], .hbmWakeFailed (4),
      .refreshBoundary (128), .bankRefresh (128), .caParityAlert (128), .calRound (128), .calProbeDone (128) [] [],
      .calProbeDone 0 (List.replicate 65 0) [], .calProbeDone 0 [] (List.replicate 65 0), .hbmDelays (.window 8) 0 [],
      .hbmDelays (.steward 0) (128) [], .scrub [2 ^ 37] [], .scrub [] [2 ^ 37], .portMode (.window 8) 0 [],
      .portMode (.steward 0) (128) [], .portSlice (.window 8) 0 [], .portSlice (.steward 0) (128) [],
      .portAdminEnable (.window 8) 0, .portAdminEnable (.steward 0) (128), .portAdminDisable (.window 8) 0,
      .portAdminDisable (.steward 0) (128)] : List Instr).all fun c => !c.wf) = true := by decide +kernel

/-- Each of these commands breaks one check of WellFormed, and is refused. Part 11. -/
theorem test_wellFormed_refuses_11 :
    (([
      .moduleActivationStep (128), .moduleActivationTimeout (128), .ptpStepNs (.window 8) [], .txStampPop (.window 8) 0 [],
      .txStampPop (.steward 0) (128) [], .adaptStep (296) 0 false 0, .adaptStep 0 (32) false 0, .adaptStep 0 0 false (2 ^ 32),
      .adaptEvaluate (296) 0, .adaptEvaluate 0 (2 ^ 32), .marginMeasure (296) 0 0 0 0 0 0 0,
      .marginMeasure 0 (2 ^ 32) 0 0 0 0 0 0, .marginMeasure 0 0 (2 ^ 32) 0 0 0 0 0, .marginMeasure 0 0 0 (2 ^ 32) 0 0 0 0,
      .marginMeasure 0 0 0 0 (2 ^ 32) 0 0 0, .marginMeasure 0 0 0 0 0 (2 ^ 64) 0 0, .marginMeasure 0 0 0 0 0 0 (2 ^ 64) 0,
      .marginMeasure 0 0 0 0 0 0 0 (2 ^ 64), .dgUncorrectableFlit (16) false [], .dgUncorrectableFlit 0 false [32768],
      .dgFail (16), .dgRetrain (16) false, .dgCalRound (16) (List.replicate 296 0) 0, .dgCalRound 0 [] 0] : List Instr).all fun c => !c.wf) = true := by decide +kernel

/-- Each of these commands breaks one check of WellFormed, and is refused. Part 12. -/
theorem test_wellFormed_refuses_12 :
    (([
      .dgCalRound 0 (List.replicate 296 0) (2 ^ 64), .subDoorbell (4096) [], .scanResume (4096) [], .inject (16) false [],
      .receiveBuffer (4096) [], .stagedRetry (4096) 0, .stagedRetry 0 (2 ^ 32), .coalesceExpiry (4096),
      .ringEnable (.window 8) 0, .ringEnable (.steward 0) (2 ^ 32), .ringDisable (.window 8) 0,
      .ringDisable (.steward 0) (2 ^ 32), .channelCreate (.window 8) [], .channelSet (.window 8) [],
      .channelQuery (.window 8) [], .dbStatus (64) 0, .dbStatus 0 (2 ^ 32), .dbMask (64) 0, .dbMask 0 (2 ^ 32), .dbRing (64) 0,
      .dbRing 0 (2 ^ 32), .txData (256) 0 0 0, .txData 0 (64) 0 0, .txData 0 0 (2) 0] : List Instr).all fun c => !c.wf) = true := by decide +kernel

/-- Each of these commands breaks one check of WellFormed, and is refused. Part 13. -/
theorem test_wellFormed_refuses_13 :
    (([
      .txData 0 0 0 (2 ^ 32), .rxData (256) 0 0, .rxData 0 (64) 0, .rxData 0 0 (2), .abandon (256) 0 0, .abandon 0 (64) 0,
      .abandon 0 0 (2), .mbStalemate (64), .lockAcquire (256) 0, .lockAcquire 0 (256), .lockRelease (256) 0,
      .lockRelease 0 (256), .lockForce (.window 8) 0 [], .lockForce (.steward 0) (256) [], .tstart (192) 0 0 0,
      .tstart 0 (32) 0 0, .tstart 0 0 (256) 0, .tstart 0 0 0 (2 ^ 64), .tstop (192) 0 0, .tstop 0 (32) 0, .tstop 0 0 (256),
      .tsig (192) 0 0 0, .tsig 0 (32) 0 0, .tsig 0 0 (256) 0] : List Instr).all fun c => !c.wf) = true := by decide +kernel

/-- Each of these commands breaks one check of WellFormed, and is refused. Part 14. -/
theorem test_wellFormed_refuses_14 :
    (([
      .tsig 0 0 0 (2 ^ 64), .twfe (192) 0 0, .twfe 0 (32) 0, .twfe 0 0 (2 ^ 32), .tpoll (192) 0 0, .tpoll 0 (32) 0,
      .tpoll 0 0 (2 ^ 32), .tyield (192), .tstat (192) 0 0, .tstat 0 (32) 0, .tstat 0 0 (256), .threadWake (192),
      .tcmpExpiry (192), .twdogExpiry (192), .threadFault (192) 0, .threadFault 0 (64), .thread0Failure (2), .slackWater (2),
      .coreRetainExpiry (16), .debugHalt [192], .debugResume [192], .threadWeight (.window 8) false 0 [],
      .threadWeight (.steward 0) false 128 [], .puntQueue (.window 8) false 0 []] : List Instr).all fun c => !c.wf) = true := by decide +kernel

/-- Each of these commands breaks one check of WellFormed, and is refused. Part 15. -/
theorem test_wellFormed_refuses_15 :
    (([
      .puntQueue (.steward 0) false 128 [], .integratorRestart (.window 8) [], .clearObject (.window 8) 0 0,
      .clearObject (.steward 0) (65536) 0, .clearObject (.steward 0) 0 (256), .clearIndex (.window 8) 0,
      .clearIndex (.steward 0) (65536), .clearAllObjects (.window 8), .clearCounterSet (.window 8) 0,
      .clearCounterSet (.steward 0) (2 ^ 32), .clearQueueStats (.window 8) 0, .clearQueueStats (.steward 0) (2 ^ 32),
      .clearChannelStats (.window 8) 0, .clearChannelStats (.steward 0) (2 ^ 32), .clearHistogram (.window 8) 0,
      .clearHistogram (.steward 0) (65536), .clearEverything (.window 8), .counterSetCreate (.window 8) [],
      .statsFlush (4 + 1) 0 0, .statsFlush 1 (1048576) 0, .statsFlush 1 0 (4), .snapshot (.window 8) [],
      .snapshotQuery (.window 8) [], .wrapQuery (.window 8) []] : List Instr).all fun c => !c.wf) = true := by decide +kernel

/-- Each of these commands breaks one check of WellFormed, and is refused. Part 16. -/
theorem test_wellFormed_refuses_16 :
    (([
      .counterSetQuery (.window 8) [], .histogramQuery (.window 8) [], .traceRead (.window 8) [], .ringReset (.window 8) [],
      .stageOpen (.window 8) [], .stageData (.window 8) 0 false [], .stageData (.steward 0) (2 ^ 32) false [],
      .pieceEraseDone (65536), .atNextStart (.window 8), .warmNow (.window 8), .confirm (.window 8) [], .revert (.window 8) [],
      .patternStart (.window 8) [], .patternStop (.window 8) [], .patternDurationEnd (1536), .bistStart (.window 8) [],
      .backgroundTestDone (5) 0 false false false false, .backgroundTestDone 0 (2 ^ 32) false false false false,
      .healthClear (.window 8) [], .jtagInstruction (256), .identity [], .verdictBlock [], .epochMark [], .object []] : List Instr).all fun c => !c.wf) = true := by decide +kernel

/-- Each of these commands breaks one check of WellFormed, and is refused. Part 17. -/
theorem test_wellFormed_refuses_17 :
    (([
      .learnRecord [], .departureMark [], .fabricVerdict [], .copyVerdict [], .hostWork [], .queueEnd [], .digest [], .start [],
      .copy [], .status [], .heartbeat (8) (List.replicate 32 0), .heartbeat 0 (List.replicate 31 0),
      .faultRequest (.window 8) [], .switchover (.window 8) [], .verdictFlush (161), .verdictWaitExpiry (5) 0 0,
      .verdictWaitExpiry 0 (16) 0, .verdictWaitExpiry 0 0 (4294967296), .digestClose (16), .fabricVerdictFlush (4096) 0,
      .fabricVerdictFlush 0 (8), .mateReplayTimeout (8), .mateLaneFail (8), .registerWrite (.bar 6 0 [])] : List Instr).all fun c => !c.wf) = true := by decide +kernel

/-- Each of these commands breaks one check of WellFormed, and is refused. Part 18. -/
theorem test_wellFormed_refuses_18 :
    (([
      .mateLaneRetrain (8), .mateLinkUp (8), .mateRecordsCell (8) (List.replicate 32 0),
      .mateRecordsCell 0 (List.replicate 31 0), .mateIdleCell (8) (List.replicate 32 0), .mateIdleCell 0 (List.replicate 31 0),
      .fabLinkAligned (160), .laneReacquired (128), .mgmtLinkUp (2), .mgmtLinkDown (2), .pcieLinkTrained (16 + 1) 1,
      .pcieLinkTrained 1 (5 + 1), .pObjectRecorded (65536) 0, .pObjectRecorded 0 (256), .groupDownTimeout (8),
      .checkerLocked (1536), .checkerLockLost (1536) 0 0 0 0, .checkerLockLost 0 (2 ^ 64) 0 0 0,
      .checkerLockLost 0 0 (2 ^ 64) 0 0, .checkerLockLost 0 0 0 (2 ^ 64) 0, .checkerLockLost 0 0 0 0 (2 ^ 32),
      .cmisPassthroughDone (32) false [], .dgAlignmentMarker (16)] : List Instr).all fun c => !c.wf) = true := by decide +kernel

/-- The nine ASCII bytes "123456789" have the CRC-32C that R573 states. -/
theorem test_crc32c_value : crc32cStd [0x31, 0x32, 0x33, 0x34, 0x35, 0x36, 0x37, 0x38, 0x39] = 0xE3069283 := by decide +kernel
/-- The codes of MODE are those of R36. -/
theorem test_mode_codes :
    [Mode.dormant, .bringup, .proportional, .spring, .catchup, .shadow, .drain, .diagnostic].map Mode.code = [0, 1, 2, 3, 4, 5, 6, 7] := by decide
/-- The block is in DORMANT after reset (R57), and MODE reads 0. -/
theorem test_reset_mode : (State.reset.valueOf adm 0x2000 1 ((dictRow 0x2000 1).get (by decide +kernel))).1 = [0] := by decide +kernel
/-- Multi-byte values are most significant byte first in a POA session and least significant byte first in a window (R3). -/
theorem test_byte_orders : numBytes (Origin.be (.session 1)) 0x0102 2 = [1, 2] ∧ numBytes (Origin.be (.window 0)) 0x0102 2 = [2, 1] := by decide
/-- A handle has KIND in bits 31 to 28, GEN in 27 to 20 and INDEX in 19 to 0 (R4). -/
theorem test_handle_fields : handleKind 0x7AB12345 = 7 ∧ handleGen 0x7AB12345 = 0xAB ∧ handleIndex 0x7AB12345 = 0x12345 := by decide
/-- A step takes the front command and leaves the rest waiting. -/
theorem test_step_takes_front :
    (match step { State.reset with pending := [.ppsOutFall, .heartbeatSend] } with | .next t => t.pending | _ => []) = [.heartbeatSend] := by
  decide +kernel
/-- A write of MODE_REQUEST that names the current mode is answered OK and does nothing (R74). -/
theorem test_modeRequest_current :
    (match exec (.modeRequest adm [1]) (upIn .bringup) with | .next t => t.acc.answers.map (·.ans.status) | _ => []) = [.ok] ∧
    (match exec (.modeRequest adm [1]) (upIn .bringup) with | .next t => t.mode | _ => .dormant) = .bringup := by decide +kernel
/-- A write of WAKE_ON_MODULE by a steward thread is stored, and a value of 2 is no BOOL: RANGE (R118). -/
theorem test_write_bool :
    (match exec (.write adm 0x2000 8 1 [1]) (upIn .dormant) with | .next t => t.reg 0x2000 8 | _ => 9) = 1 ∧
    (match exec (.write adm 0x2000 8 1 [2]) (upIn .dormant) with | .next t => t.acc.answers.map (·.ans.status) | _ => []) = [.range] := by
  decide +kernel
/-- No word spells a command: the table gives no row any bits. -/
theorem test_no_word_spells : decodeTableWord 8 0 = none ∧ (State.reset.withFetchWord 8 0).pending = [] := by decide +kernel

/-- What ModeChangesComplete assumes can hold. -/
theorem witness_ModeChangesComplete :
  (∃ o : Origin, ∃ v : List Byte, ∃ s : State, ∃ m, s.checkWrite o 0x2000 2 v = .ok ∧ modeOf (beNat (canonical o.be (typeOf 0x2000 2) v))
    = some m ∧ (s.mode, m) ∈ [(Mode.bringup, Mode.diagnostic), (.diagnostic, .bringup), (.proportional, .spring), (.spring,
    .proportional), (.catchup, .bringup)] ∧ s.power.ms.status ≠ .inProgress ∧ s.power.ms.status ≠ .drainTimeout) ∧
  (∃ s : State, ∃ m, s.StoresRise ∧ s.power.ms.target = some m ∧ s.mode ≠ .dormant ∧ m ∈ [Mode.drain, .proportional, .spring]) ∧
  (∃ s : State, s.mode = .drain ∧ s.power.ms.pending = some .bringup ∧ s.queuesLeft = 0) ∧
  (∃ s : State, ∃ m, s.mode = .drain ∧ s.power.ms.pending = some m ∧ 0 < s.queuesLeft) ∧
  (∃ s : State, s.mode = .dormant ∧ s.reg 0x2000 7 ≠ 0 ∧ s.power.start = .idle ∧ s.power.tidewatchUp = true ∧ s.mayWake = true) ∧
  (∃ s : State, s.power.start = .bootPath) :=
  ⟨⟨adm, [7], upIn .bringup, Mode.diagnostic,
    by and_intros <;> first | decide +kernel | exact rises _ (by decide +kernel) | exact quiet _ (by decide +kernel) | exact (Option.some_get _).symm | rfl⟩,
  ⟨{ upIn .bringup with power := { (upIn .bringup).power with ms := { (upIn .bringup).power.ms with target := some .spring } } },
    Mode.spring,
    by and_intros <;> first | decide +kernel | exact rises _ (by decide +kernel) | exact quiet _ (by decide +kernel) | exact (Option.some_get _).symm | rfl⟩,
  ⟨(inMode .drain).setMs fun x => { x with pending := some .bringup },
    by and_intros <;> first | decide +kernel | exact rises _ (by decide +kernel) | exact quiet _ (by decide +kernel) | exact (Option.some_get _).symm | rfl⟩,
  ⟨withQueues ((inMode .drain).setMs fun x => { x with pending := some .dormant }) [(0, queue0 1 [held0])], Mode.dormant,
    by and_intros <;> first | decide +kernel | exact rises _ (by decide +kernel) | exact quiet _ (by decide +kernel) | exact (Option.some_get _).symm | rfl⟩,
  ⟨(upIn .dormant).setReg 0x2000 7 1,
    by and_intros <;> first | decide +kernel | exact rises _ (by decide +kernel) | exact quiet _ (by decide +kernel) | exact (Option.some_get _).symm | rfl⟩,
  ⟨{ State.reset with power := { Power.reset with start := .bootPath } },
    by and_intros <;> first | decide +kernel | exact rises _ (by decide +kernel) | exact quiet _ (by decide +kernel) | exact (Option.some_get _).symm | rfl⟩⟩

/-- What ResetsComplete assumes can hold. -/
theorem witness_ResetsComplete :
  (∃ s : State, s.StoresRise) ∧
  (∃ s : State, s.StoresRise) ∧
  (∃ s : State, s.StoresRise ∧ s.power.tidewatchUp = true) ∧
  (∃ o : Origin, ∃ s : State, s.StoresRise ∧ s.checkWrite o 0x1010 1 [2] = .ok ∧ s.mode ∈ [Mode.dormant, .bringup, .diagnostic]) ∧
  (∃ o : Origin, ∃ s : State, s.StoresRise ∧ s.checkWrite o 0x1010 1 [1] = .ok ∧ s.mode ∉ [Mode.dormant, .catchup] ∧ s.power.warmSince =
    none) ∧
  (∃ s : State, s.StoresRise ∧ s.power.pins.poresetN = true ∧ s.power.start = .idle ∧ s.mode ∉ [Mode.dormant, .catchup]) ∧
  (∃ s : State, ∃ u, s.power.warmSince = some u) :=
  ⟨⟨upIn .spring,
    by and_intros <;> first | decide +kernel | exact rises _ (by decide +kernel) | exact quiet _ (by decide +kernel) | exact (Option.some_get _).symm | rfl⟩,
  ⟨upIn .spring,
    by and_intros <;> first | decide +kernel | exact rises _ (by decide +kernel) | exact quiet _ (by decide +kernel) | exact (Option.some_get _).symm | rfl⟩,
  ⟨upIn .dormant,
    by and_intros <;> first | decide +kernel | exact rises _ (by decide +kernel) | exact quiet _ (by decide +kernel) | exact (Option.some_get _).symm | rfl⟩,
  ⟨adm, upIn .diagnostic,
    by and_intros <;> first | decide +kernel | exact rises _ (by decide +kernel) | exact quiet _ (by decide +kernel) | exact (Option.some_get _).symm | rfl⟩,
  ⟨adm, upIn .shadow,
    by and_intros <;> first | decide +kernel | exact rises _ (by decide +kernel) | exact quiet _ (by decide +kernel) | exact (Option.some_get _).symm | rfl⟩,
  ⟨upIn .spring,
    by and_intros <;> first | decide +kernel | exact rises _ (by decide +kernel) | exact quiet _ (by decide +kernel) | exact (Option.some_get _).symm | rfl⟩,
  ⟨{ State.reset with power := { Power.reset with warmSince := some 5 } }, 5,
    by and_intros <;> first | decide +kernel | exact rises _ (by decide +kernel) | exact quiet _ (by decide +kernel) | exact (Option.some_get _).symm | rfl⟩⟩

/-- What SupplyAndClockCommandsComplete assumes can hold. -/
theorem witness_SupplyAndClockCommandsComplete :
  (∃ s : State, s.mode = .dormant ∧ s.power.start = .idle ∧ s.power.tidewatchUp = false ∧ s.power.recovery = false) ∧
  (∃ s : State, ∃ u, s.power.start = .waitPower u false) ∧
  (∃ s : State, ∃ u, ∃ b, s.StoresRise ∧ s.power.start = .waitPower u b ∧ s.power.pins.pwrGoodMain = false) ∧
  (∃ s : State, s.StoresRise ∧ s.power.pins.pwrEnMain = true ∧ s.power.start = .idle) ∧
  (∃ sensor, ∃ s : State, s.StoresRise ∧ 1 ≤ sensor ∧ sensor ≤ 26 ∧ s.power.pins.pwrEnMain = true) ∧
  (∃ s : State, s.StoresRise ∧ s.power.pins.pwrEnMain = true) ∧
  (∃ pll, ∃ s : State, s.StoresRise ∧ 1 ≤ pll ∧ pll ≤ 5 ∧ s.mode ≠ .dormant ∧ s.power.pins.pwrEnMain = true) ∧
  (∃ s : State, s.StoresRise ∧ s.power.twclkLost = true) ∧
  (∃ k, ∃ s : State, s.StoresRise ∧ k ≤ 0x13 ∧ s.power.refclkLost.contains k = false) ∧
  (∃ k, ∃ s : State, s.StoresRise ∧ s.power.refclkLost.contains k = true) :=
  ⟨⟨State.reset,
    by and_intros <;> first | decide +kernel | exact rises _ (by decide +kernel) | exact quiet _ (by decide +kernel) | exact (Option.some_get _).symm | rfl⟩,
  ⟨{ State.reset with power := { Power.reset with start := .waitPower 7 false } }, 7,
    by and_intros <;> first | decide +kernel | exact rises _ (by decide +kernel) | exact quiet _ (by decide +kernel) | exact (Option.some_get _).symm | rfl⟩,
  ⟨{ State.reset with power := { Power.reset with start := .waitPower 7 true } }, 7, true,
    by and_intros <;> first | decide +kernel | exact rises _ (by decide +kernel) | exact quiet _ (by decide +kernel) | exact (Option.some_get _).symm | rfl⟩,
  ⟨upIn .spring,
    by and_intros <;> first | decide +kernel | exact rises _ (by decide +kernel) | exact quiet _ (by decide +kernel) | exact (Option.some_get _).symm | rfl⟩,
  ⟨26, upIn .spring,
    by and_intros <;> first | decide +kernel | exact rises _ (by decide +kernel) | exact quiet _ (by decide +kernel) | exact (Option.some_get _).symm | rfl⟩,
  ⟨upIn .shadow,
    by and_intros <;> first | decide +kernel | exact rises _ (by decide +kernel) | exact quiet _ (by decide +kernel) | exact (Option.some_get _).symm | rfl⟩,
  ⟨5, upIn .drain,
    by and_intros <;> first | decide +kernel | exact rises _ (by decide +kernel) | exact quiet _ (by decide +kernel) | exact (Option.some_get _).symm | rfl⟩,
  ⟨{ State.reset with power := { Power.reset with twclkLost := true } },
    by and_intros <;> first | decide +kernel | exact rises _ (by decide +kernel) | exact quiet _ (by decide +kernel) | exact (Option.some_get _).symm | rfl⟩,
  ⟨0x13, upIn .spring,
    by and_intros <;> first | decide +kernel | exact rises _ (by decide +kernel) | exact quiet _ (by decide +kernel) | exact (Option.some_get _).symm | rfl⟩,
  ⟨0, { State.reset with power := { Power.reset with refclkLost := [0] } },
    by and_intros <;> first | decide +kernel | exact rises _ (by decide +kernel) | exact quiet _ (by decide +kernel) | exact (Option.some_get _).symm | rfl⟩⟩

/-- What SensorAndVoltageCommandsComplete assumes can hold. -/
theorem witness_SensorAndVoltageCommandsComplete :
  (∃ temps : List Int, ∃ s : State, s.StoresRise ∧ temps.length = 26 ∧ s.power.tidewatchUp = true) ∧
  (∃ rail, ∃ target, ∃ s : State, rail ≤ 1 ∧ s.mode ≠ .dormant ∧ 650 ≤ target ∧ target ≤ 800 ∧ target % 5 = 0 ∧ target ≠ s.reg 0x2300
    (rail + 1) ∧ s.reg 0x2300 6 ≠ 1 ∧ (s.rail rail).stopped = false ∧ (s.rail rail).writing = none ∧ (s.rail rail).settled = true) ∧
  (∃ rail, ∃ mv, ∃ s : State, s.StoresRise ∧ rail ≤ 1 ∧ (s.rail rail).writing = some mv) ∧
  (∃ rail, ∃ mv, ∃ s : State, rail ≤ 1 ∧ (s.rail rail).writing = some mv ∧ (s.rail rail).retries < 2) ∧
  (∃ rail, ∃ mv, ∃ s : State, s.StoresRise ∧ rail ≤ 1 ∧ (s.rail rail).writing = some mv ∧ (s.rail rail).retries = 2) :=
  ⟨⟨List.replicate 26 (-40000), upIn .dormant,
    by and_intros <;> first | decide +kernel | exact rises _ (by decide +kernel) | exact quiet _ (by decide +kernel) | exact (Option.some_get _).symm | rfl⟩,
  ⟨1, 795, upIn .spring,
    by and_intros <;> first | decide +kernel | exact rises _ (by decide +kernel) | exact quiet _ (by decide +kernel) | exact (Option.some_get _).symm | rfl⟩,
  ⟨1, 700, { State.reset with power := { Power.reset with tm := { AvsRail.reset with writing := some 700 } } },
    by and_intros <;> first | decide +kernel | exact rises _ (by decide +kernel) | exact quiet _ (by decide +kernel) | exact (Option.some_get _).symm | rfl⟩,
  ⟨0, 700, { State.reset with power := { Power.reset with fe := { AvsRail.reset with writing := some 700, retries := 1 } } },
    by and_intros <;> first | decide +kernel | exact rises _ (by decide +kernel) | exact quiet _ (by decide +kernel) | exact (Option.some_get _).symm | rfl⟩,
  ⟨1, 700, { State.reset with power := { Power.reset with tm := { AvsRail.reset with writing := some 700, retries := 2 } } },
    by and_intros <;> first | decide +kernel | exact rises _ (by decide +kernel) | exact quiet _ (by decide +kernel) | exact (Option.some_get _).symm | rfl⟩⟩

/-- What IngressCommandsComplete assumes can hold. -/
theorem witness_IngressCommandsComplete :
  (∃ p, ∃ frame, ∃ bad, ∃ s : State, p < 128 ∧ s.reg 0x3001 p < 16 ∧ 4 ≤ s.reg 0x3003 p ∧ s.macDrop p frame bad = none ∧ poolBytes
    (s.sliceAt (s.reg 0x3001 p)).pool + frame.length ≤ 524288) ∧
  (∃ u, ∃ n, ∃ s : State, earliest s.wakeWaiting = some (u, n)) ∧
  (∃ n, ∃ u, ∃ g, ∃ s : State, (s.sliceAt n).wakeReq = some u ∧ (s.sliceAt n).wakeGrant = some g) ∧
  (∃ n, ∃ s : State, n < 16 ∧ s.sleepMode = true ∧ s.reg 0x2010 1 ≠ 0 ∧ (s.sliceAt n).feAsleep = false ∧ s.feIdle n = true ∧ bitAt (s.reg
    0x2010 4) n = false ∧ s.asleepSlices < s.reg 0x2010 3) ∧
  (∃ n, ∃ p, ∃ rest, ∃ s : State, n < 16 ∧ (s.sliceAt n).feAsleep = false ∧ (s.sliceAt n).egressQ = p :: rest) ∧
  (∃ n, ∃ i, ∃ u, ∃ s : State, n < 16 ∧ (s.sliceAt n).feAsleep = false ∧ (s.sliceAt n).hold = false ∧ s.takeIngress n = some (i, u)) ∧
  (∃ n, ∃ x, ∃ rest, ∃ s : State, (s.sliceAt n).ingress = x :: rest ∧ x.crosses = true) ∧
  (∃ n, ∃ s : State, (s.sliceAt n).hold = true ∧ s.reg 0x3700 n ≠ 3) :=
  ⟨⟨127, frame0, false, ((upIn .spring).setReg 0x3001 127 15).setReg 0x3003 127 4,
    by and_intros <;> first | decide +kernel | exact rises _ (by decide +kernel) | exact quiet _ (by decide +kernel) | exact (Option.some_get _).symm | rfl⟩,
  ⟨9, 15, State.reset.setSlice 15 { Slice.reset with wakeReq := some 9 },
    by and_intros <;> first | decide +kernel | exact rises _ (by decide +kernel) | exact quiet _ (by decide +kernel) | exact (Option.some_get _).symm | rfl⟩,
  ⟨15, 9, 20, State.reset.setSlice 15 { Slice.reset with wakeReq := some 9, wakeGrant := some 20 },
    by and_intros <;> first | decide +kernel | exact rises _ (by decide +kernel) | exact quiet _ (by decide +kernel) | exact (Option.some_get _).symm | rfl⟩,
  ⟨15, ((upIn .proportional).setReg 0x2010 1 1).setReg 0x2010 3 8,
    by and_intros <;> first | decide +kernel | exact rises _ (by decide +kernel) | exact quiet _ (by decide +kernel) | exact (Option.some_get _).symm | rfl⟩,
  ⟨15, packet0, [], State.reset.setSlice 15 { Slice.reset with egressQ := [packet0] },
    by and_intros <;> first | decide +kernel | exact rises _ (by decide +kernel) | exact quiet _ (by decide +kernel) | exact (Option.some_get _).symm | rfl⟩,
  ⟨15, ((arrived.takeIngress 15).get (by decide +kernel)).1, ((arrived.takeIngress 15).get (by decide +kernel)).2, arrived,
    by and_intros <;> first | decide +kernel | exact rises _ (by decide +kernel) | exact quiet _ (by decide +kernel) | exact (Option.some_get _).symm | rfl⟩,
  ⟨15, pass0, [], State.reset.setSlice 15 { Slice.reset with ingress := [pass0] },
    by and_intros <;> first | decide +kernel | exact rises _ (by decide +kernel) | exact quiet _ (by decide +kernel) | exact (Option.some_get _).symm | rfl⟩,
  ⟨15, State.reset.setSlice 15 { Slice.reset with hold := true },
    by and_intros <;> first | decide +kernel | exact rises _ (by decide +kernel) | exact quiet _ (by decide +kernel) | exact (Option.some_get _).symm | rfl⟩⟩

/-- What TrafficCommandsComplete assumes can hold. -/
theorem witness_TrafficCommandsComplete :
  (∃ n, ∃ w, ∃ s : State, n < 16 ∧ s.mode = .proportional ∧ s.pair.turned = false ∧ s.nextWaiting n = some w ∧ w.fromFabric = true) ∧
  (∃ n, ∃ x, ∃ rest, ∃ h, ∃ h', ∃ more, ∃ s : State, n < 16 ∧ (s.tmSlice n).replFe = x :: rest ∧ x.members = some (h :: h' :: more)) ∧
  (∃ i, ∃ q, ∃ s : State, s.spillOn = true ∧ s.stacksActive = true ∧ s.usedSegments < s.reg 0x7000 7 * 32768 ∧ s.spillChoice = some (i,
    q)) ∧
  (∃ seg, ∃ i, ∃ q, ∃ s : State, s.StoresRise ∧ s.queueOfSegment (.writing seg) = some (i, q)) ∧
  (∃ seg, ∃ i, ∃ q, ∃ s : State, s.StoresRise ∧ s.queueOfSegment (.reading seg) = some (i, q)) ∧
  (∃ n, ∃ p, ∃ q, ∃ len, ∃ u, ∃ h, ∃ delay, ∃ depth, ∃ v : State, ∃ s : State, n < 16 ∧ (s.sliceAt n).feAsleep = false ∧ (s.sliceAt
    n).tmAsleep = false ∧ (((((List.range 128).map fun k => ((s.tmSlice n).nextPort + k) % 128).filter fun p => decide (s.reg 0x3001 p =
    n)).findSome? fun p => (s.rootGives p).map fun r => (p, r)) = some (p, q, len, u)) ∧ u.release q = some (h, delay, depth, v)) ∧
  (∃ n, ∃ i, ∃ l, ∃ q, ∃ h, ∃ delay, ∃ depth, ∃ u, ∃ s : State, n < 16 ∧ s.mayCarry = true ∧ s.pair.switching = false ∧ s.voqNext n = some
    (i, l) ∧ mget s.tm.queues i = some q ∧ s.release i = some (h, delay, depth, u)) :=
  ⟨⟨15, { src := 32, packet := packet0, fromFabric := true, copy := none },
    (upIn .proportional).setTmSlice 15 { TmSlice.reset with waiting := [{ src := 32, packet := packet0, fromFabric := true, copy := none }] },
    by and_intros <;> first | decide +kernel | exact rises _ (by decide +kernel) | exact quiet _ (by decide +kernel) | exact (Option.some_get _).symm | rfl⟩,
  ⟨15, { id := 0, packet := packet0, cells := 1, group := 0, members := some [7, 8] }, [], 7, 8, [],
    State.reset.setTmSlice 15 { TmSlice.reset with replFe := [{ id := 0, packet := packet0, cells := 1, group := 0, members := some [7, 8] }] },
    by and_intros <;> first | decide +kernel | exact rises _ (by decide +kernel) | exact quiet _ (by decide +kernel) | exact (Option.some_get _).symm | rfl⟩,
  ⟨3, { queue0 1 [held0] with params := List.replicate 19 0 ++ [2] ++ List.replicate 12 0 },
    let s := withQueues State.reset [(3, { queue0 1 [held0] with params := List.replicate 19 0 ++ [2] ++ List.replicate 12 0 })]; { s with tm := { s.tm with cells := 1179648 } },
    by and_intros <;> first | decide +kernel | exact rises _ (by decide +kernel) | exact quiet _ (by decide +kernel) | exact (Option.some_get _).symm | rfl⟩,
  ⟨0, 3, queue0 1 [{ held0 with location := .writing 0 }], withQueues State.reset [(3, queue0 1 [{ held0 with location := .writing 0 }])],
    by and_intros <;> first | decide +kernel | exact rises _ (by decide +kernel) | exact quiet _ (by decide +kernel) | exact (Option.some_get _).symm | rfl⟩,
  ⟨0, 3, queue0 1 [{ held0 with location := .reading 0 }], withQueues State.reset [(3, queue0 1 [{ held0 with location := .reading 0 }])],
    by and_intros <;> first | decide +kernel | exact rises _ (by decide +kernel) | exact quiet _ (by decide +kernel) | exact (Option.some_get _).symm | rfl⟩,
  ⟨15, 127, 0, ((sending.rootGives 127).get (by decide +kernel)).2.1, ((sending.rootGives 127).get (by decide +kernel)).2.2, held0,
    ((State.release (((sending.rootGives 127).get (by decide +kernel)).2.2) 0).get (by decide +kernel)).2.1,
    ((State.release (((sending.rootGives 127).get (by decide +kernel)).2.2) 0).get (by decide +kernel)).2.2.1,
    ((State.release (((sending.rootGives 127).get (by decide +kernel)).2.2) 0).get (by decide +kernel)).2.2.2, sending,
    by and_intros <;> first | decide +kernel | exact rises _ (by decide +kernel) | exact quiet _ (by decide +kernel) | exact (Option.some_get _).symm | rfl⟩,
  ⟨15, 0, 0, { queue0 0 [held0] with params := [0, 15, 0, 0, 0, 5] ++ List.replicate 26 0 }, held0,
    ((toFabric.release 0).get (by decide +kernel)).2.1, ((toFabric.release 0).get (by decide +kernel)).2.2.1,
    ((toFabric.release 0).get (by decide +kernel)).2.2.2, toFabric,
    by and_intros <;> first | decide +kernel | exact rises _ (by decide +kernel) | exact quiet _ (by decide +kernel) | exact (Option.some_get _).symm | rfl⟩⟩

/-- What TransmitAndLinkCommandsComplete assumes can hold. -/
theorem witness_TransmitAndLinkCommandsComplete :
  (∃ p, ∃ x, ∃ s : State, p < 128 ∧ (s.mac p).sending = some x) ∧
  (∃ p, ∃ k, ∃ g, ∃ x, ∃ s : State, p < 128 ∧ s.listOf p = some k ∧ s.dropAllOversize k = s ∧ g < 8 ∧ (s.mac p).holding = [(g, x)] ∧
    (s.gateList k).oper = none ∧ (s.gateList k).pending = none ∧ (s.mac p).sending = none) ∧
  (∃ k, ∃ b, ∃ u, ∃ s : State, (s.gateList k).oper = some (b, u)) ∧
  (∃ k, ∃ b, ∃ u, ∃ s : State, (s.gateList k).pending = some (b, u) ∧ (s.mac (s.reg 0x7E01 k)).holding = []) ∧
  (∃ p, ∃ c, ∃ u, ∃ s : State, s.StoresRise ∧ (s.port p).cause = some (c, u) ∧ s.reg 0x3003 p ∈ [4, 5]) ∧
  (∃ p, ∃ c, ∃ s : State, p < 128 ∧ 3 ≤ c ∧ c ≤ 7 ∧ s.reg 0x3003 p ∈ [4, 5] ∧ s.reg 0x3005 p ≠ 0 ∧ (s.port p).cause = none) ∧
  (∃ p, ∃ s : State, s.StoresRise ∧ p < 128 ∧ s.reg 0x7043 p = 1 ∧ s.egressClear p = true) ∧
  (∃ p, ∃ u, ∃ s : State, s.StoresRise ∧ p < 128 ∧ (s.port p).cleanSince = some u ∧ s.reg 0x3003 p = 3 ∧ s.lanesLocked p = true ∧ s.reg
    0x3000 p ≠ 0 ∧ ((s.reg 0x3001 p < 16 → s.reg 0x3700 (s.reg 0x3001 p) ≠ 3))) :=
  ⟨⟨127, packet0, { State.reset with tm := { Traffic.reset with macs := [(127, { Mac.reset with sending := some packet0 })] } },
    by and_intros <;> first | decide +kernel | exact rises _ (by decide +kernel) | exact quiet _ (by decide +kernel) | exact (Option.some_get _).symm | rfl⟩,
  ⟨127, 31, 7, packet0,
    let s := State.reset.setReg 0x7E01 31 127; { s with tm := { s.tm with macs := [(127, { Mac.reset with holding := [(7, packet0)] })] } },
    by and_intros <;> first | decide +kernel | exact rises _ (by decide +kernel) | exact quiet _ (by decide +kernel) | exact (Option.some_get _).symm | rfl⟩,
  ⟨31, [], 0, { State.reset with tm := { Traffic.reset with gateLists := [(31, { GateList.reset with oper := some ([], 0) })] } },
    by and_intros <;> first | decide +kernel | exact rises _ (by decide +kernel) | exact quiet _ (by decide +kernel) | exact (Option.some_get _).symm | rfl⟩,
  ⟨31, [], 9, { State.reset with tm := { Traffic.reset with gateLists := [(31, { GateList.reset with pending := some ([], 9) })] } },
    by and_intros <;> first | decide +kernel | exact rises _ (by decide +kernel) | exact quiet _ (by decide +kernel) | exact (Option.some_get _).symm | rfl⟩,
  ⟨127, 3, 9,
    let s := State.reset.setReg 0x3003 127 4; { s with ports := { s.ports with ports := [(127, { Port.reset with cause := some (3, 9) })] } },
    by and_intros <;> first | decide +kernel | exact rises _ (by decide +kernel) | exact quiet _ (by decide +kernel) | exact (Option.some_get _).symm | rfl⟩,
  ⟨127, 7, (State.reset.setReg 0x3003 127 5).setReg 0x3005 127 1,
    by and_intros <;> first | decide +kernel | exact rises _ (by decide +kernel) | exact quiet _ (by decide +kernel) | exact (Option.some_get _).symm | rfl⟩,
  ⟨127, State.reset.setReg 0x7043 127 1,
    by and_intros <;> first | decide +kernel | exact rises _ (by decide +kernel) | exact quiet _ (by decide +kernel) | exact (Option.some_get _).symm | rfl⟩,
  ⟨127, 9,
    let s := ((State.reset.setReg 0x3003 127 3).setReg 0x3000 127 1).setReg 0x3200 127 3; { s with ports := { s.ports with ports := [(127, { Port.reset with cleanSince := some 9 })] } },
    by and_intros <;> first | decide +kernel | exact rises _ (by decide +kernel) | exact quiet _ (by decide +kernel) | exact (Option.some_get _).symm | rfl⟩⟩

/-- What ModuleCommandsComplete assumes can hold. -/
theorem witness_ModuleCommandsComplete :
  (∃ n, ∃ s : State, s.StoresRise ∧ s.fitted n = true ∧ s.power.pins.modPrsN.getLsbD n = true) ∧
  (∃ n, ∃ u, ∃ s : State, s.fitted n = true ∧ (s.cage n).step = .resetHold u) ∧
  (∃ n, ∃ u, ∃ image, ∃ s : State, s.StoresRise ∧ s.fitted n = true ∧ (s.cage n).step = .poll u ∧ (s.cage n).passBusy = false ∧
    image.length = 384 ∧ fld (byteAt image 3) 3 1 = 5) ∧
  (∃ n, ∃ u, ∃ image, ∃ s : State, s.fitted n = true ∧ (s.cage n).step = .poll u ∧ (s.cage n).passBusy = false ∧ image.length = 384 ∧
    bitAt (byteAt image 2) 7 = false ∧ fld (byteAt image 3) 3 1 ∈ [1, 3]) ∧
  (∃ n, ∃ u, ∃ s : State, s.StoresRise ∧ s.fitted n = true ∧ (s.cage n).step = .poll u) ∧
  (∃ n, ∃ s : State, s.StoresRise ∧ s.fitted n = true ∧ s.power.pins.modPrsN.getLsbD n = false) ∧
  (∃ n, ∃ s : State, s.StoresRise ∧ s.fitted n = true ∧ 4 ≤ s.moduleState n) ∧
  (∃ o : Origin, ∃ n, ∃ s : State, s.StoresRise ∧ s.checkWrite o (0x1100 + n) 0x11 [1] = .ok ∧ s.fitted n = true ∧ 2 ≤ s.moduleState n) ∧
  (∃ o : Origin, ∃ n, ∃ v : List Byte, ∃ s : State, s.checkTargetFor true (s.roleOf o) (0x1100 + n) 0x10 v.length = .ok ∧ v.length = 5 ∧
    byteAt v 0 = 0 ∧ 1 ≤ byteAt v 4 ∧ byteAt v 4 ≤ 128 ∧ byteAt v 3 + byteAt v 4 ≤ 256 ∧ (s.cage n).passBusy = false) ∧
  (∃ n, ∃ s : State, (s.cage n).passBusy = true ∧ (s.cage n).passLen ≠ 0) :=
  ⟨⟨31, (upIn .spring).setReg 0x1021 31 0x800,
    by and_intros <;> first | decide +kernel | exact rises _ (by decide +kernel) | exact quiet _ (by decide +kernel) | exact (Option.some_get _).symm | rfl⟩,
  ⟨31, 9, withCage { Cage.reset with step := .resetHold 9 },
    by and_intros <;> first | decide +kernel | exact rises _ (by decide +kernel) | exact quiet _ (by decide +kernel) | exact (Option.some_get _).symm | rfl⟩,
  ⟨31, 9, ((List.replicate 384 0).set 3 10), withCage { Cage.reset with step := .poll 9 },
    by and_intros <;> first | decide +kernel | exact rises _ (by decide +kernel) | exact quiet _ (by decide +kernel) | exact (Option.some_get _).symm | rfl⟩,
  ⟨31, 9, ((List.replicate 384 0).set 3 2), withCage { Cage.reset with step := .poll 9 },
    by and_intros <;> first | decide +kernel | exact rises _ (by decide +kernel) | exact quiet _ (by decide +kernel) | exact (Option.some_get _).symm | rfl⟩,
  ⟨31, 9, withCage { Cage.reset with step := .poll 9 },
    by and_intros <;> first | decide +kernel | exact rises _ (by decide +kernel) | exact quiet _ (by decide +kernel) | exact (Option.some_get _).symm | rfl⟩,
  ⟨31, cages,
    by and_intros <;> first | decide +kernel | exact rises _ (by decide +kernel) | exact quiet _ (by decide +kernel) | exact (Option.some_get _).symm | rfl⟩,
  ⟨31, cages.setReg 0x111F 1 4,
    by and_intros <;> first | decide +kernel | exact rises _ (by decide +kernel) | exact quiet _ (by decide +kernel) | exact (Option.some_get _).symm | rfl⟩,
  ⟨adm, 31, cages.setReg 0x111F 1 2,
    by and_intros <;> first | decide +kernel | exact rises _ (by decide +kernel) | exact quiet _ (by decide +kernel) | exact (Option.some_get _).symm | rfl⟩,
  ⟨adm, 31, [0, 0, 0, 128, 128], cages.setReg 0x111F 1 3,
    by and_intros <;> first | decide +kernel | exact rises _ (by decide +kernel) | exact quiet _ (by decide +kernel) | exact (Option.some_get _).symm | rfl⟩,
  ⟨31, withCage { Cage.reset with passBusy := true, passLen := 4 },
    by and_intros <;> first | decide +kernel | exact rises _ (by decide +kernel) | exact quiet _ (by decide +kernel) | exact (Option.some_get _).symm | rfl⟩⟩

/-- What ManagementFramesComplete assumes can hold. -/
theorem witness_ManagementFramesComplete :
  (∃ p, ∃ frame, ∃ m, ∃ slot, ∃ key, ∃ s : State, s.Receives p frame m ∧ m.msgType = 3 ∧ m.body ≠ [] ∧ byteAt m.body 0 = slot ∧ s.slotKey
    slot = some key ∧ m.verifies key = true ∧ s.reg 0x1042 slot ≠ 0 ∧ s.acceptStatus m = .ok ∧ ((∀ a ∈ s.acc.accepts, a.slot = slot →
    a.nonce = slice m.body 4 16 → a.since + 10000000000 ≤ s.now))) ∧
  (∃ p, ∃ frame, ∃ m, ∃ x, ∃ s : State, s.Receives p frame m ∧ m.msgType = 5 ∧ s.validSession m = some x) ∧
  (∃ p, ∃ frame, ∃ m, ∃ x, ∃ s : State, s.Receives p frame m ∧ m.msgType = 1 ∧ s.validSession m = some x ∧ x.high < m.seq ∧ m.seq ≤ x.high
    + 16 ∧ ((∀ h ∈ x.held, h.seq ≠ m.seq))) ∧
  (∃ k, ∃ seq, ∃ x, ∃ h, ∃ s : State, s.session k = some x ∧ x.id = k ∧ ((x.held.find? fun h => decide (h.seq = seq)) = some h) ∧ x.high +
    1 < seq ∧ seq < 2 ^ 32 ∧ ((∀ y ∈ x.held, y.seq ≠ x.high + 1))) ∧
  (∃ k, ∃ x, ∃ s : State, s.session k = some x) ∧
  (∃ w, ∃ ops, ∃ s : State, w < 8 ∧ s.mode ≠ .dormant ∧ (s.window w).busy = false ∧ (((s.window w).answered.all fun a => decide (a.1 ≠
    (s.window w).seq)) = true) ∧ (s.window w).schema = s.reg 0x1040 3 ∧ s.reg 0x1040 3 < 65536 ∧ (s.window w).reqLength ≤ 4096 ∧
    requestOps false (slice (s.window w).req 0 (s.window w).reqLength) = some ops) :=
  ⟨⟨0, poaFrame (poaHeader 3 0 0 20) (List.replicate 20 0) Config.factoryKey,
    poaTaken (poaHeader 3 0 0 20) (List.replicate 20 0) Config.factoryKey, 0, Config.factoryKey, upIn .dormant,
    (by refine ⟨receives _ _ _ _ _ (by decide +kernel) (by decide +kernel) (by decide +kernel), by decide +kernel, by decide, by decide +kernel, rfl, by simp [PoaFrame.verifies, poaTaken], by decide +kernel, by decide +kernel, ?_⟩; intro a h; cases h)⟩,
  ⟨0, poaFrame (poaHeader 5 1 0 0) [] Config.factoryKey, poaTaken (poaHeader 5 1 0 0) [] Config.factoryKey, session0 [], withSession [],
    (by exact ⟨receives _ _ _ _ _ (by decide +kernel) (by decide +kernel) (by decide +kernel), by decide +kernel, valid _ _ _ [] rfl⟩)⟩,
  ⟨0, poaFrame (poaHeader 1 1 16 0) [] Config.factoryKey, poaTaken (poaHeader 1 1 16 0) [] Config.factoryKey, session0 [], withSession [],
    (by exact ⟨receives _ _ _ _ _ (by decide +kernel) (by decide +kernel) (by decide +kernel), by decide +kernel, valid _ _ _ [] rfl, by decide +kernel, by decide +kernel, by decide +kernel⟩)⟩,
  ⟨1, 16, session0 [heldReq0], heldReq0, withSession [heldReq0],
    (by and_intros <;> first | rfl | decide +kernel)⟩,
  ⟨1, session0 [], withSession [],
    rfl⟩,
  ⟨7, [], upIn .bringup,
    by and_intros <;> first | decide +kernel | exact rises _ (by decide +kernel) | exact quiet _ (by decide +kernel) | exact (Option.some_get _).symm | rfl⟩⟩

/-- What ObjectOperationsComplete assumes can hold. -/
theorem witness_ObjectOperationsComplete :
  (∃ o : Origin, ∃ i, ∃ j, ∃ d, ∃ s : State, s.checkRead o false i j = .ok ∧ dictRow i j = some d ∧ s.restarting i = false) ∧
  (∃ o : Origin, ∃ s : State, s.checkRead o false 0x2000 1 = .ok ∧ s.restarting 0x2000 = false) ∧
  (∃ o : Origin, ∃ i, ∃ p, ∃ v : List Byte, ∃ s : State, s.StoresRise ∧ s.Quiet ∧ i ∈ [0x3005, 0x3006] ∧ s.checkWrite o i p v = .ok) ∧
  (∃ o : Origin, ∃ i, ∃ j, ∃ v : List Byte, ∃ s : State, s.Quiet ∧ versioned i j = true ∧ s.checkTargetFor false (s.roleOf o) i j v.length
    = .ok ∧ s.opStatus (s.roleOf o) i j (canonical o.be (typeOf i j) v) = .ok) ∧
  (∃ o : Origin, ∃ i, ∃ j, ∃ count, ∃ s : State, s.Quiet ∧ s.checkRead o true i j = .ok ∧ s.restarting i = false ∧ 1 ≤ count ∧ count ≤
    1024) ∧
  (∃ o : Origin, ∃ i, ∃ j, ∃ bytes : List Byte, ∃ s : State, s.Quiet ∧ s.checkTargetFor true (s.roleOf o) i j (bytes.length + 4) = .ok ∧ i
    ≠ 0x4200 ∧ i ≠ 0xE010 ∧ s.restarting i = false ∧ bytes.length ≤ 1024 ∧ ((∀ d n, dictRow i j = some d → d.limits = .maxLen n →
    bytes.length ≤ n))) ∧
  (∃ o : Origin, ∃ i, ∃ j, ∃ h, ∃ s : State, s.acc.partials.find? (·.isOf o i j) = some h) ∧
  (∃ o : Origin, ∃ i, ∃ j, ∃ h, ∃ s : State, s.acc.copies.find? (·.isOf o i j) = some h) ∧
  (∃ i, ∃ j, ∃ d, ∃ s : State, s.Quiet ∧ dictRow i j = some d ∧ d.p = true ∧ d.access ≠ .ro) ∧
  (∃ o : Origin, ∃ i, ∃ j, ∃ d, ∃ s : State, s.checkDescribe o i j = .ok ∧ dictRow i j = some d ∧ s.restarting i = false) ∧
  (∃ o : Origin, ∃ i, ∃ j, ∃ i', ∃ j', ∃ s : State, s.roleOf o ≠ 0 ∧ State.nextObject 65537 s i (j + 1) = some (i', j')) ∧
  (∃ o : Origin, ∃ h, ∃ s : State, s.Quiet ∧ h < 2 ^ 32 ∧ s.checkPlain o (plainReq 0x11 0 0 12 (numBytes o.be h 4)) 12 4 (s.checkAnyHandle
    h) = .ok ∧ handleKind h = 3 ∧ s.destroyBusy h = false) ∧
  (∃ i, ∃ q, ∃ s : State, s.Quiet ∧ mget s.tm.queues i = some q ∧ q.admin = .destroying) :=
  ⟨⟨adm, 0x3006, 127, (dictRow 0x3006 127).get (by decide +kernel), upIn .spring,
    by and_intros <;> first | decide +kernel | exact rises _ (by decide +kernel) | exact quiet _ (by decide +kernel) | exact (Option.some_get _).symm | rfl⟩,
  ⟨adm, upIn .diagnostic,
    by and_intros <;> first | decide +kernel | exact rises _ (by decide +kernel) | exact quiet _ (by decide +kernel) | exact (Option.some_get _).symm | rfl⟩,
  ⟨adm, 0x3006, 127, natLe 10000 4, upIn .spring,
    by and_intros <;> first | decide +kernel | exact rises _ (by decide +kernel) | exact quiet _ (by decide +kernel) | exact (Option.some_get _).symm | rfl⟩,
  ⟨adm, 0x4010, 0, [2], upIn .spring,
    by and_intros <;> first | decide +kernel | exact rises _ (by decide +kernel) | exact quiet _ (by decide +kernel) | exact (Option.some_get _).symm | rfl⟩,
  ⟨adm, 0x4200, 1, 1024, upIn .spring,
    by and_intros <;> first | decide +kernel | exact rises _ (by decide +kernel) | exact quiet _ (by decide +kernel) | exact (Option.some_get _).symm | rfl⟩,
  ⟨adm, 0x7E02, 31, List.replicate 1024 0, upIn .spring,
    (by and_intros <;> first | decide +kernel | exact quiet _ (by decide +kernel) | exact within _ _ _ (by decide +kernel))⟩,
  ⟨adm, 0x7E02, 31, { origin := adm, index := 0x7E02, sub := 31, bytes := [], last := 0 },
    { State.reset with acc := { State.reset.acc with partials := [{ origin := adm, index := 0x7E02, sub := 31, bytes := [], last := 0 }] } },
    by and_intros <;> first | decide +kernel | exact rises _ (by decide +kernel) | exact quiet _ (by decide +kernel) | exact (Option.some_get _).symm | rfl⟩,
  ⟨adm, 0x4200, 1, { origin := adm, index := 0x4200, sub := 1, bytes := [], last := 0 },
    { State.reset with acc := { State.reset.acc with copies := [{ origin := adm, index := 0x4200, sub := 1, bytes := [], last := 0 }] } },
    by and_intros <;> first | decide +kernel | exact rises _ (by decide +kernel) | exact quiet _ (by decide +kernel) | exact (Option.some_get _).symm | rfl⟩,
  ⟨0x3006, 127, (dictRow 0x3006 127).get (by decide +kernel), upIn .spring,
    by and_intros <;> first | decide +kernel | exact rises _ (by decide +kernel) | exact quiet _ (by decide +kernel) | exact (Option.some_get _).symm | rfl⟩,
  ⟨adm, 0x3006, 127, (dictRow 0x3006 127).get (by decide +kernel), upIn .spring,
    by and_intros <;> first | decide +kernel | exact rises _ (by decide +kernel) | exact quiet _ (by decide +kernel) | exact (Option.some_get _).symm | rfl⟩,
  ⟨adm, 0x3006, 126, 0x3006, 127, State.reset,
    by and_intros <;> first | decide +kernel | exact rises _ (by decide +kernel) | exact quiet _ (by decide +kernel) | exact (Option.some_get _).symm | rfl⟩,
  ⟨adm, 0x30000000, { upIn .spring with meters := [(0, meter0)] },
    by and_intros <;> first | decide +kernel | exact rises _ (by decide +kernel) | exact quiet _ (by decide +kernel) | exact (Option.some_get _).symm | rfl⟩,
  ⟨0, { queue0 1 [] with admin := .destroying }, withQueues State.reset [(0, { queue0 1 [] with admin := .destroying })],
    by and_intros <;> first | decide +kernel | exact rises _ (by decide +kernel) | exact quiet _ (by decide +kernel) | exact (Option.some_get _).symm | rfl⟩⟩

/-- What BatchOperationsComplete assumes can hold. -/
theorem witness_BatchOperationsComplete :
  (∃ o : Origin, ∃ k, ∃ s : State, s.Quiet ∧ s.checkPlain o (plainReq 0x20 0 0 0 []) 0 0 .ok = .ok ∧ k < 64 ∧ (s.batch k).isOpen = false ∧
    ((∀ n, n < k → (s.batch n).isOpen = true))) ∧
  (∃ (o : Origin) (id i j : Nat) (v : List Byte) (s : State), s.Quiet ∧ s.MayAdd o id i j v) ∧
  (∃ (o : Origin) (id slot : Nat) (s : State), s.Quiet ∧ s.MayAdd o id 0x4202 1 (natBe slot 1)) ∧
  (∃ (o : Origin) (id v : Nat) (s : State), s.Quiet ∧ s.MayAdd o id 0x4400 2 (natBe v 1)) ∧
  (∃ (o : Origin) (id flags len region : Nat) (key data : List Byte) (s : State), s.Quiet ∧ s.MayAdd o id 0x5C10 0 (tableCommand 1 flags
    len region key data)) ∧
  (∃ (o : Origin) (id flags len region : Nat) (key : List Byte) (s : State), s.Quiet ∧ s.MayAdd o id 0x5C10 0 (tableCommand 2 flags len
    region key [])) ∧
  (∃ (o : Origin) (id set pos : Nat) (action value mask : List Byte) (s : State), s.Quiet ∧ s.MayAdd o id 0x6010 0 (ruleCommand 1 set pos
    (action ++ value ++ mask))) ∧
  (∃ (o : Origin) (id set pos : Nat) (s : State), s.Quiet ∧ s.MayAdd o id 0x6010 0 (ruleCommand 2 set pos [])) ∧
  (∃ (o : Origin) (id set pos : Nat) (action : List Byte) (s : State), s.Quiet ∧ s.MayAdd o id 0x6010 0 (ruleCommand 3 set pos action)) ∧
  (∃ o : Origin, ∃ id, ∃ s : State, s.Quiet ∧ id < 2 ^ 32 ∧ s.checkPlain o (plainReq 0x22 0 0 4 (numBytes o.be id 4)) 4 4 (s.checkBatch
    id) = .ok ∧ (s.batch (id % 64)).committing = false) ∧
  (∃ o : Origin, ∃ id, ∃ s : State, s.Quiet ∧ id < 2 ^ 32 ∧ s.checkPlain o (plainReq 0x23 0 0 4 (numBytes o.be id 4)) 4 4 (s.checkBatch
    id) = .ok ∧ (s.batch (id % 64)).committing = false) ∧
  (∃ k, ∃ s : State, k < 64 ∧ (s.batch k).isOpen = true ∧ (s.batch k).committing = false) ∧
  (∃ c, ∃ rest, ∃ s : State, s.Quiet ∧ s.mayStage = true ∧ s.epochs.queue = c :: rest ∧ (s.noteDrain.settleTables.draftOf c).layout = none
    ∧ lowestFailure (s.noteDrain.settleTables.draftOf c).failures = none) ∧
  (∃ ops, ∃ rest, ∃ g, ∃ s : State, s.Quiet ∧ s.epochs.queue = .internal ops :: rest ∧ s.epochs.staged = some g ∧ g.program = false ∧
    g.later = [] ∧ g.layout = false ∧ g.ticket = none) :=
  ⟨⟨adm, 0, upIn .spring,
    by and_intros <;> first | decide +kernel | exact rises _ (by decide +kernel) | exact quiet _ (by decide +kernel) | exact (Option.some_get _).symm | rfl⟩,
  ⟨adm, 0x0100003F, 0x4010, 0, [2], batching, quiet _ (by decide +kernel), mayAdd _ _ _ _ _ _ (by decide +kernel)⟩,
  ⟨adm, 0x0100003F, 1, batching.setReg 0x4201 2 2, quiet _ (by decide +kernel), mayAdd _ _ _ _ _ _ (by decide +kernel)⟩,
  ⟨adm, 0x0100003F, 1, batching, quiet _ (by decide +kernel), mayAdd _ _ _ _ _ _ (by decide +kernel)⟩,
  ⟨adm, 0x0100003F, 0, 1, 0x70000001, [128], [255], batching, quiet _ (by decide +kernel), mayAdd _ _ _ _ _ _ (by decide +kernel)⟩,
  ⟨adm, 0x0100003F, 0, 0, 0x70000000, [255], batching, quiet _ (by decide +kernel), mayAdd _ _ _ _ _ _ (by decide +kernel)⟩,
  ⟨adm, 0x0100003F, 0x60000000, 1023, List.replicate 16 0, List.replicate 20 1, List.replicate 20 255, batching, quiet _ (by decide +kernel), mayAdd _ _ _ _ _ _ (by decide +kernel)⟩,
  ⟨adm, 0x0100003F, 0x60000000, 1023, batching, quiet _ (by decide +kernel), mayAdd _ _ _ _ _ _ (by decide +kernel)⟩,
  ⟨adm, 0x0100003F, 0x60000000, 0, List.replicate 16 0, batching, quiet _ (by decide +kernel), mayAdd _ _ _ _ _ _ (by decide +kernel)⟩,
  ⟨adm, 0x0100003F, batching,
    by and_intros <;> first | decide +kernel | exact rises _ (by decide +kernel) | exact quiet _ (by decide +kernel) | exact (Option.some_get _).symm | rfl⟩,
  ⟨adm, 0x0100003F, batching,
    by and_intros <;> first | decide +kernel | exact rises _ (by decide +kernel) | exact quiet _ (by decide +kernel) | exact (Option.some_get _).symm | rfl⟩,
  ⟨63, batching,
    by and_intros <;> first | decide +kernel | exact rises _ (by decide +kernel) | exact quiet _ (by decide +kernel) | exact (Option.some_get _).symm | rfl⟩,
  ⟨Committer.internal [], [], { upIn .bringup with epochs := { Epochs.reset with queue := [.internal []] } },
    by and_intros <;> first | decide +kernel | exact rises _ (by decide +kernel) | exact quiet _ (by decide +kernel) | exact (Option.some_get _).symm | rfl⟩,
  ⟨[], [], { version := .reset, later := [], layout := false, program := false, ticket := none, counts := [], touched := [] },
    { upIn .spring with epochs := { Epochs.reset with queue := [.internal []], staged := some { version := .reset, later := [], layout := false, program := false, ticket := none, counts := [], touched := [] } } },
    by and_intros <;> first | decide +kernel | exact rises _ (by decide +kernel) | exact quiet _ (by decide +kernel) | exact (Option.some_get _).symm | rfl⟩⟩

/-- What ChannelsAreCreated assumes can hold. -/
theorem witness_ChannelsAreCreated :
  (∃ (o : Origin) (v : List Byte) (ri b : Nat) (s : State), s.MayCreate o 0x5001 v ∧ emParamsOk v = true ∧ lowestFree s.tables.regions 64
    = some ri ∧ lowestRun (s.tables.bucketRuns true) (Region.buckets { em := true, params := v, base := 0 }) 1048576 = some b) ∧
  (∃ (o : Origin) (v : List Byte) (ri b : Nat) (s : State), s.MayCreate o 0x5401 v ∧ lpmParamsOk v = true ∧ lowestFree s.tables.regions 64
    = some ri ∧ lowestRun (s.tables.bucketRuns false) (Region.buckets { em := false, params := v, base := 0 }) 1572864 = some b ∧
    Region.filterEntries { em := false, params := v, base := 0 } ≤ s.tables.filterFree) ∧
  (∃ (o : Origin) (v : List Byte) (k b : Nat) (s : State), s.MayCreate o 0x6001 v ∧ ruleSetParamsOk v = true ∧ lowestFree
    s.tables.ruleSets 256 = some k ∧ lowestRun s.blockRuns (RuleSet.blocks { params := v, baseBlock := 0 }) 256 = some b) ∧
  (∃ (o : Origin) (v : List Byte) (s : State), s.MayCreate o 0x7401 v ∧ ∃ h u, createQueue v s = .ok (h, u)) ∧
  (∃ (o : Origin) (v : List Byte) (s : State), s.MayCreate o 0x7801 v ∧ ∃ h u, createNode v s = .ok (h, u)) ∧
  (∃ (o : Origin) (v : List Byte) (n k : Nat) (s : State), s.MayCreate o 0x7C01 v ∧ meterParamsOk v = true ∧ byteAt v 2 = n ∧ n ≠ 0xFF ∧
    freeIndex (s.meters.filter fun (i, _) => decide (i / 65536 = n)) (65536 * n) 65536 = some k) ∧
  (∃ (o : Origin) (v : List Byte) (s : State), s.MayCreate o 0xA001 v ∧ ∃ h u, createChannel v s = .ok (h, u)) ∧
  (∃ (o : Origin) (v : List Byte) (k : Nat) (s : State), s.MayCreate o 0xC101 v ∧ v.length = 8 ∧ beAt v 4 4 = 0 ∧ lowestFree s.stats.sets
    1048576 = some k) :=
  ⟨⟨adm, emParams, 2, 1024, tabled, mayCreate _ _ _ _ (by decide +kernel), by decide +kernel, by decide +kernel, by decide +kernel⟩,
  ⟨adm, lpmParams, 2, 1024, tabled, mayCreate _ _ _ _ (by decide +kernel), by decide +kernel, by decide +kernel, by decide +kernel, by decide +kernel⟩,
  ⟨adm, setParams, 1, 1, tabled, mayCreate _ _ _ _ (by decide +kernel), by decide +kernel, by decide +kernel, by decide +kernel⟩,
  ⟨adm, voqParams, upIn .spring, mayCreate _ _ _ _ (by decide +kernel), made (by decide +kernel)⟩,
  ⟨adm, 0 :: 127 :: List.replicate 14 0, (upIn .spring).setReg 0x3001 127 15, mayCreate _ _ _ _ (by decide +kernel), made (by decide +kernel)⟩,
  ⟨adm, meterParams, 0, 1, tabled, mayCreate _ _ _ _ (by decide +kernel), by decide +kernel, by decide +kernel, by decide +kernel, by decide +kernel⟩,
  ⟨adm, chanParams, upIn .spring, mayCreate _ _ _ _ (by decide +kernel), made (by decide +kernel)⟩,
  ⟨adm, List.replicate 8 0, 1, tabled, mayCreate _ _ _ _ (by decide +kernel), by decide +kernel, by decide +kernel, by decide +kernel⟩⟩

/-- What QueriesFillTheirResults assumes can hold. -/
theorem witness_QueriesFillTheirResults :
  (∃ (o : Origin) (region len : Nat) (key : List Byte) (s : State), s.checkWrite o 0x5880 1 (queryBytes 0x10 0 len region 0 key) = .ok ∧
    (tableAnswer (queryBytes 0x10 0 len region 0 key) s).1 = .ok) ∧
  (∃ (o : Origin) (region : Nat) (s : State), s.checkWrite o 0x5880 1 (queryBytes 0x11 0 0 region 0 []) = .ok ∧ (tableAnswer (queryBytes
    0x11 0 0 region 0 []) s).1 = .ok) ∧
  (∃ (o : Origin) (region iter count : Nat) (s : State), s.checkWrite o 0x5880 1 (queryBytes 0x12 count 0 region iter []) = .ok ∧
    (tableAnswer (queryBytes 0x12 count 0 region iter []) s).1 = .ok) ∧
  (∃ (o : Origin) (region iter : Nat) (s : State), s.checkWrite o 0x5880 1 (queryBytes 0x13 0 0 region iter []) = .ok ∧ (tableAnswer
    (queryBytes 0x13 0 0 region iter []) s).1 = .ok) ∧
  (∃ (o : Origin) (set pos : Nat) (s : State), s.checkWrite o 0x6020 1 ([0x20, 0, 0, 0] ++ natBe set 4 ++ natBe pos 4) = .ok ∧ (ruleAnswer
    ([0x20, 0, 0, 0] ++ natBe set 4 ++ natBe pos 4) s).1 = .ok) ∧
  (∃ (o : Origin) (set block : Nat) (s : State), s.checkWrite o 0x6020 1 ([0x21, 0, 0, 0] ++ natBe set 4 ++ natBe block 4) = .ok ∧
    (ruleAnswer ([0x21, 0, 0, 0] ++ natBe set 4 ++ natBe block 4) s).1 = .ok) ∧
  (∃ (o : Origin) (v : List Byte) (s : State), s.checkWrite o 0x7402 2 v = .ok ∧ (queueAnswer v s).1 = .ok) ∧
  (∃ (o : Origin) (v : List Byte) (s : State), s.checkWrite o 0x7601 2 v = .ok ∧ (mcastAnswer v s).1 = .ok) ∧
  (∃ (o : Origin) (v : List Byte) (s : State), s.checkWrite o 0x7802 2 v = .ok ∧ (schedAnswer v s).1 = .ok) ∧
  (∃ (o : Origin) (v : List Byte) (s : State), s.checkWrite o 0x7C02 2 v = .ok ∧ (meterAnswer v s).1 = .ok) ∧
  (∃ (o : Origin) (v : List Byte) (s : State), s.checkWrite o 0xA010 2 v = .ok ∧ (channelAnswer v s).1 = .ok) ∧
  (∃ (o : Origin) (v : List Byte) (s : State), s.checkWrite o 0xC001 3 v = .ok ∧ (snapshotAnswer v s).1 = .ok) ∧
  (∃ (o : Origin) (v : List Byte) (s : State), s.checkWrite o 0xC003 1 v = .ok ∧ (wrapAnswer v s).1 = .ok) ∧
  (∃ (o : Origin) (v : List Byte) (s : State), s.checkWrite o 0xC102 1 v = .ok ∧ (counterSetAnswer v s).1 = .ok) ∧
  (∃ (o : Origin) (v : List Byte) (s : State), s.checkWrite o 0xC840 1 v = .ok ∧ (histogramAnswer v s).1 = .ok) ∧
  (∃ (o : Origin) (v : List Byte) (s : State), s.checkWrite o 0xC810 1 v = .ok ∧ (traceAnswer v s).1 = .ok) :=
  ⟨⟨adm, 0x70000001, 1, [128], tabled, by decide +kernel, by decide +kernel⟩,
  ⟨adm, 0x70000000, tabled, by decide +kernel, by decide +kernel⟩,
  ⟨adm, 0x70000000, 0xFF00001F, 16, tabled, by decide +kernel, by decide +kernel⟩,
  ⟨adm, 0x70000000, 0xFF00001F, tabled, by decide +kernel, by decide +kernel⟩,
  ⟨adm, 0x60000000, 1023, tabled, by decide +kernel, by decide +kernel⟩,
  ⟨adm, 0x60000000, 0, tabled, by decide +kernel, by decide +kernel⟩,
  ⟨adm, [1, 0, 0, 0] ++ natBe 0x10000000 4, withQueues (upIn .spring) [(0, queue0 1 [])], by decide +kernel, by decide +kernel⟩,
  ⟨adm, [255, 255], tabled, by decide +kernel, by decide +kernel⟩,
  ⟨adm, natBe 0x50000000 4, sending, by decide +kernel, by decide +kernel⟩,
  ⟨adm, natBe 0x30000000 4, tabled, by decide +kernel, by decide +kernel⟩,
  ⟨adm, natBe 0x20000FFF 4, tabled, by decide +kernel, by decide +kernel⟩,
  ⟨adm, [0, 127, 0x30, 0x10, 0, 0, 0, 0], tabled, by decide +kernel, by decide +kernel⟩,
  ⟨adm, [0x30, 0x10, 127], tabled, by decide +kernel, by decide +kernel⟩,
  ⟨adm, natBe 0x40000000 4 ++ [16, 0, 0, 0], tabled, by decide +kernel, by decide +kernel⟩,
  ⟨adm, [15, 255], tabled, by decide +kernel, by decide +kernel⟩,
  ⟨adm, [3, 16] ++ List.replicate 10 0, tabled, by decide +kernel, by decide +kernel⟩⟩

/-- What TableUpkeepCommandsComplete assumes can hold. -/
theorem witness_TableUpkeepCommandsComplete :
  (∃ s : State, s.learnServed = true ∧ s.tables.agedOut ≠ []) ∧
  (∃ ri, ∃ r, ∃ s : State, mget s.tables.regions ri = some r ∧ r.ageMode ≠ 0 ∧ s.learnServed = true) ∧
  (∃ k, ∃ x, ∃ s : State, mget s.tables.iters k = some x ∧ x.isOpen = true) ∧
  (∃ o : Origin, ∃ v : List Byte, ∃ ri, ∃ r, ∃ s : State, s.checkWrite o 0x5890 1 v = .ok ∧ v.length = 8 ∧ handleIndex (beAt v 0 4) = ri ∧
    s.checkHandle 7 (beAt v 0 4) = .ok ∧ mget s.tables.regions ri = some r ∧ r.portByte.isSome = true ∧ bitAt (byteAt v 4) 7 = false ∧
    byteAt v 5 ≤ 1 ∧ beAt v 6 2 = 0) ∧
  (∃ ri, ∃ port, ∃ r, ∃ f, ∃ pb, ∃ s : State, mget s.tables.regions ri = some r ∧ mget s.tables.flush ri = some f ∧ ((f.ports.any fun j =>
    decide (j.port = port)) = true) ∧ r.portByte = some pb ∧ s.standby = false ∧ s.mode ≠ .catchup ∧ ((f.ports.any fun j => decide
    (j.port ≠ port)) = true)) :=
  ⟨⟨{ served with tables := { served.tables with agedOut := [(0, [255], 0)] } },
    by and_intros <;> first | decide +kernel | exact rises _ (by decide +kernel) | exact quiet _ (by decide +kernel) | exact (Option.some_get _).symm | rfl⟩,
  ⟨0, { em := true, params := emParams, base := 0 }, served,
    by and_intros <;> first | decide +kernel | exact rises _ (by decide +kernel) | exact quiet _ (by decide +kernel) | exact (Option.some_get _).symm | rfl⟩,
  ⟨31, { gen := 255, isOpen := true, region := 0, cursor := 0, pending := [], skip := [], last := 0 }, tabled,
    by and_intros <;> first | decide +kernel | exact rises _ (by decide +kernel) | exact quiet _ (by decide +kernel) | exact (Option.some_get _).symm | rfl⟩,
  ⟨adm, natBe 0x70000000 4 ++ [127, 1, 0, 0], 0, { em := true, params := emParams, base := 0 }, tabled,
    by and_intros <;> first | decide +kernel | exact rises _ (by decide +kernel) | exact quiet _ (by decide +kernel) | exact (Option.some_get _).symm | rfl⟩,
  ⟨0, 127, { em := true, params := emParams, base := 0 },
    { pos := 0, ports := [{ port := 127, static := false, pos := 0 }, { port := 0, static := false, pos := 0 }] }, 0,
    { tabled with tables := { tabled.tables with flush := [(0, { pos := 0, ports := [{ port := 127, static := false, pos := 0 }, { port := 0, static := false, pos := 0 }] })] } },
    by and_intros <;> first | decide +kernel | exact rises _ (by decide +kernel) | exact quiet _ (by decide +kernel) | exact (Option.some_get _).symm | rfl⟩⟩

/-- What QueueAndWindowCommandsComplete assumes can hold. -/
theorem witness_QueueAndWindowCommandsComplete :
  (∃ o : Origin, ∃ h, ∃ q, ∃ s : State, h < 2 ^ 32 ∧ s.checkWrite o 0x7402 1 ([1, 0, 0, 0] ++ natBe h 4) = .ok ∧ s.checkHandle 1 h = .ok ∧
    mget s.tm.queues (handleIndex h) = some q ∧ q.admin ≠ .destroying ∧ ((q.voq = true ∨ s.portCond q.port ≠ 2))) ∧
  (∃ o : Origin, ∃ h, ∃ q, ∃ s : State, h < 2 ^ 32 ∧ s.checkWrite o 0x7402 1 ([2, 0, 0, 0] ++ natBe h 4) = .ok ∧ s.checkHandle 1 h = .ok ∧
    mget s.tm.queues (handleIndex h) = some q ∧ q.admin ≠ .destroying) ∧
  (∃ o : Origin, ∃ h, ∃ l : List Byte, ∃ q, ∃ s : State, h < 2 ^ 32 ∧ s.checkWrite o 0x7402 1 ([4, 0, 0, 0] ++ natBe h 4 ++ l) = .ok ∧
    s.checkHandle 1 h = .ok ∧ mget s.tm.queues (handleIndex h) = some q ∧ limitsGood l 3 = true ∧ ((byteAt l 0 = q.pool ∨ q.depth = 0))
    ∧ s.committedRes - q.res + beAt l 2 4 ≤ s.reg 0x7000 8) ∧
  (∃ o : Origin, ∃ v : List Byte, ∃ n, ∃ hs, ∃ s : State, s.checkWrite o 0x7601 1 v = .ok ∧ byteAt v 2 = n ∧ n ≤ 64 ∧ v.length = 4 + 4 * n
    ∧ byteAt v 3 = 0 ∧ handlesOf n (v.drop 4) = hs ∧ ((∀ h ∈ hs, s.checkHandle 1 h = .ok)) ∧ hs.Nodup ∧ s.memberCount - (mgetD []
    s.tm.groups (beAt v 0 2)).length + n ≤ 524288) ∧
  (∃ (o : Origin) (v : List Byte) (s : State), s.checkWrite o 0x7802 1 v = .ok ∧ ∃ u, schedSetEffect v s = (.ok, u)) ∧
  (∃ o : Origin, ∃ v : List Byte, ∃ m, ∃ s : State, s.checkWrite o 0x7C02 1 v = .ok ∧ v.length = 36 ∧ s.checkHandle 3 (beAt v 0 4) = .ok ∧
    meterParamsOk (v.drop 4) = true ∧ byteAt (v.drop 4) 2 = 0 ∧ mget s.meters (handleIndex (beAt v 0 4)) = some m) ∧
  (∃ o : Origin, ∃ k, ∃ v : List Byte, ∃ s : State, s.StoresRise ∧ s.checkTargetFor true (s.roleOf o) 0x7E02 k v.length = .ok ∧
    gateListGood v = true ∧ s.reg 0x7E05 k = 0) ∧
  (∃ o : Origin, ∃ k, ∃ s : State, s.StoresRise ∧ s.checkWrite o 0x7E05 k [0] = .ok) ∧
  (∃ o : Origin, ∃ k, ∃ s : State, s.StoresRise ∧ s.checkWrite o 0x7E05 k [1] = .ok ∧ s.reg 0x7E05 k = 0 ∧ gateListGood (s.oct 0x7E02 k) =
    true) ∧
  (∃ o : Origin, ∃ k, ∃ p : Byte, ∃ s : State, s.StoresRise ∧ s.checkWrite o 0x7E01 k [p] = .ok ∧ p.toNat < 128 ∧ s.reg 0x7E05 k = 0 ∧ ((∀
    j, j < 32 → j ≠ k → s.reg 0x7E01 j ≠ p.toNat))) ∧
  (∃ o : Origin, ∃ w, ∃ v : List Byte, ∃ s : State, s.StoresRise ∧ s.checkWrite o (0x7880 + w / 256) (w % 256) v = .ok ∧ w < 4096) ∧
  (∃ w, ∃ s : State, w < 4096 ∧ s.mode ≠ .dormant) :=
  ⟨⟨adm, 0x10000000, { queue0 1 [] with admin := .disabled },
    withQueues ((upIn .spring).setReg 0x3003 0 5) [(0, { queue0 1 [] with admin := .disabled })],
    by and_intros <;> first | decide +kernel | exact rises _ (by decide +kernel) | exact quiet _ (by decide +kernel) | exact (Option.some_get _).symm | rfl⟩,
  ⟨adm, 0x10000000, queue0 1 [], withQueues (upIn .spring) [(0, queue0 1 [])],
    by and_intros <;> first | decide +kernel | exact rises _ (by decide +kernel) | exact quiet _ (by decide +kernel) | exact (Option.some_get _).symm | rfl⟩,
  ⟨adm, 0x10000000, slice voqParams 6 18, queue0 1 [], withQueues (upIn .spring) [(0, queue0 1 [])],
    by and_intros <;> first | decide +kernel | exact rises _ (by decide +kernel) | exact quiet _ (by decide +kernel) | exact (Option.some_get _).symm | rfl⟩,
  ⟨adm, [255, 255, 1, 0, 16, 0, 0, 0], 1, [0x10000000], withQueues (upIn .spring) [(0, queue0 1 [])],
    by and_intros <;> first | decide +kernel | exact rises _ (by decide +kernel) | exact quiet _ (by decide +kernel) | exact (Option.some_get _).symm | rfl⟩,
  ⟨adm, natBe 0x10000000 4 ++ [7, 7, 0, 0, 0, 0, 0, 64] ++ natBe 1600000000 4 ++ natBe 2048 4 ++ [0, 0, 0, 0], sending, by decide +kernel, effected (by decide +kernel)⟩,
  ⟨adm, natBe 0x30000000 4 ++ meterParams, meter0, tabled,
    by and_intros <;> first | decide +kernel | exact rises _ (by decide +kernel) | exact quiet _ (by decide +kernel) | exact (Option.some_get _).symm | rfl⟩,
  ⟨adm, 31, gates0, upIn .spring,
    by and_intros <;> first | decide +kernel | exact rises _ (by decide +kernel) | exact quiet _ (by decide +kernel) | exact (Option.some_get _).symm | rfl⟩,
  ⟨adm, 31, upIn .spring,
    by and_intros <;> first | decide +kernel | exact rises _ (by decide +kernel) | exact quiet _ (by decide +kernel) | exact (Option.some_get _).symm | rfl⟩,
  ⟨adm, 31, withGates,
    by and_intros <;> first | decide +kernel | exact rises _ (by decide +kernel) | exact quiet _ (by decide +kernel) | exact (Option.some_get _).symm | rfl⟩,
  ⟨adm, 31, 127, upIn .spring,
    (⟨rises _ (by decide +kernel), by decide +kernel, by decide, by decide +kernel, by decide +kernel⟩)⟩,
  ⟨adm, 4095, natLe 0x10000000 4, withQueues (upIn .spring) [(0, queue0 1 [])],
    by and_intros <;> first | decide +kernel | exact rises _ (by decide +kernel) | exact quiet _ (by decide +kernel) | exact (Option.some_get _).symm | rfl⟩,
  ⟨4095, upIn .spring,
    by and_intros <;> first | decide +kernel | exact rises _ (by decide +kernel) | exact quiet _ (by decide +kernel) | exact (Option.some_get _).symm | rfl⟩⟩

/-- What CounterCommandsComplete assumes can hold. -/
theorem witness_CounterCommandsComplete :
  (∃ o : Origin, ∃ i, ∃ j, ∃ s : State, s.StoresRise ∧ i < 65536 ∧ j < 256 ∧ s.checkWrite o 0xC000 3 (clearBytes 0 j i 0) = .ok ∧ isV i j
    = true) ∧
  (∃ o : Origin, ∃ i, ∃ s : State, i < 65536 ∧ s.checkWrite o 0xC000 3 (clearBytes 1 0 i 0) = .ok ∧ ((dictionary.any fun d => decide
    (d.idxLo ≤ i ∧ i ≤ d.idxHi) && d.v) = true)) ∧
  (∃ o : Origin, ∃ s : State, s.checkWrite o 0xC000 3 (clearBytes 2 0 0 0) = .ok) ∧
  (∃ o : Origin, ∃ h, ∃ e, ∃ s : State, h < 2 ^ 32 ∧ s.checkWrite o 0xC000 3 (clearBytes 3 0 0 h) = .ok ∧ s.checkHandle 4 h = .ok ∧ mget
    s.stats.sets (handleIndex h) = some e) ∧
  (∃ o : Origin, ∃ h, ∃ s : State, h < 2 ^ 32 ∧ s.checkWrite o 0xC000 3 (clearBytes 4 0 0 h) = .ok ∧ s.checkHandle 1 h = .ok) ∧
  (∃ o : Origin, ∃ h, ∃ s : State, h < 2 ^ 32 ∧ s.checkWrite o 0xC000 3 (clearBytes 5 0 0 h) = .ok ∧ s.checkHandle 2 h = .ok) ∧
  (∃ o : Origin, ∃ w, ∃ x, ∃ s : State, w ≤ 4095 ∧ s.checkWrite o 0xC000 3 (clearBytes 6 0 w 0) = .ok ∧ mget s.tm.watches w = some x) ∧
  (∃ o : Origin, ∃ s : State, s.checkWrite o 0xC000 3 (clearBytes 7 0 0 0) = .ok) ∧
  (∃ i, ∃ e, ∃ d, ∃ s : State, s.StoresRise ∧ s.stacksActive = true ∧ mget s.stats.sets i = some e ∧ mget s.stats.setDeltas i = some d) ∧
  (∃ o : Origin, ∃ s : State, s.StoresRise ∧ s.checkWrite o 0xC001 1 [1] = .ok ∧ s.stats.snapshot ≠ 1) ∧
  (∃ im, ∃ s : State, s.stats.building = some im) ∧
  (∃ o : Origin, ∃ s : State, s.checkWrite o 0xC810 3 [0] = .ok) :=
  ⟨⟨adm, 0x3010, 127, upIn .spring,
    by and_intros <;> first | decide +kernel | exact rises _ (by decide +kernel) | exact quiet _ (by decide +kernel) | exact (Option.some_get _).symm | rfl⟩,
  ⟨adm, 0x3010, upIn .spring,
    by and_intros <;> first | decide +kernel | exact rises _ (by decide +kernel) | exact quiet _ (by decide +kernel) | exact (Option.some_get _).symm | rfl⟩,
  ⟨adm, upIn .spring,
    by and_intros <;> first | decide +kernel | exact rises _ (by decide +kernel) | exact quiet _ (by decide +kernel) | exact (Option.some_get _).symm | rfl⟩,
  ⟨adm, 0x40000000, { tag := 0, packets := 0, bytes := 0 }, tabled,
    by and_intros <;> first | decide +kernel | exact rises _ (by decide +kernel) | exact quiet _ (by decide +kernel) | exact (Option.some_get _).symm | rfl⟩,
  ⟨adm, 0x10000000, withQueues (upIn .spring) [(0, queue0 1 [])],
    by and_intros <;> first | decide +kernel | exact rises _ (by decide +kernel) | exact quiet _ (by decide +kernel) | exact (Option.some_get _).symm | rfl⟩,
  ⟨adm, 0x20000FFF, { upIn .spring with host := { (upIn .spring).host with channels := [(4095, chan0)] } },
    by and_intros <;> first | decide +kernel | exact rises _ (by decide +kernel) | exact quiet _ (by decide +kernel) | exact (Option.some_get _).symm | rfl⟩,
  ⟨adm, 4095, Watch.reset, { upIn .spring with tm := { Traffic.reset with watches := [(4095, Watch.reset)] } },
    by and_intros <;> first | decide +kernel | exact rises _ (by decide +kernel) | exact quiet _ (by decide +kernel) | exact (Option.some_get _).symm | rfl⟩,
  ⟨adm, upIn .spring,
    by and_intros <;> first | decide +kernel | exact rises _ (by decide +kernel) | exact quiet _ (by decide +kernel) | exact (Option.some_get _).symm | rfl⟩,
  ⟨0, { tag := 0, packets := 0, bytes := 0 }, { packets := 1, bytes := 64 },
    { tabled with stats := { tabled.stats with setDeltas := [(0, { packets := 1, bytes := 64 })] } },
    by and_intros <;> first | decide +kernel | exact rises _ (by decide +kernel) | exact quiet _ (by decide +kernel) | exact (Option.some_get _).symm | rfl⟩,
  ⟨adm, upIn .spring,
    by and_intros <;> first | decide +kernel | exact rises _ (by decide +kernel) | exact quiet _ (by decide +kernel) | exact (Option.some_get _).symm | rfl⟩,
  ⟨{ objs := [], sets := [], queues := [], channels := [], live := [] },
    { tabled with stats := { tabled.stats with building := some { objs := [], sets := [], queues := [], channels := [], live := [] } } },
    by and_intros <;> first | decide +kernel | exact rises _ (by decide +kernel) | exact quiet _ (by decide +kernel) | exact (Option.some_get _).symm | rfl⟩,
  ⟨adm, upIn .spring,
    by and_intros <;> first | decide +kernel | exact rises _ (by decide +kernel) | exact quiet _ (by decide +kernel) | exact (Option.some_get _).symm | rfl⟩⟩

/-- What FirmwareCommandsComplete assumes can hold. -/
theorem witness_FirmwareCommandsComplete :
  (∃ o : Origin, ∃ v : List Byte, ∃ s : State, s.StoresRise ∧ s.checkWrite o 0xE010 1 v = .ok ∧ v.length = 56 ∧ byteAt v 4 ≤ 1 ∧ allZero
    (slice v 5 3) = true ∧ 1024 ≤ beAt v 0 4 ∧ beAt v 0 4 ≤ 12582912 ∧ s.stageState = 0) ∧
  (∃ s : State, s.StoresRise ∧ s.stageState = 1) ∧
  (∃ o : Origin, ∃ offset, ∃ data : List Byte, ∃ d, ∃ s : State, s.checkTargetFor true (s.roleOf o) 0xE010 2 data.length = .ok ∧
    s.fw.delivery = some d ∧ s.stageState = 2 ∧ offset % 1024 = 0 ∧ offset < d.total ∧ data.length = min 1024 (d.total - offset) ∧
    d.erasing.contains (offset / 1024 / 64) = false ∧ mget d.blocks (offset / 1024) = none) ∧
  (∃ d, ∃ s : State, s.fw.delivery = some d) ∧
  (∃ d, ∃ s : State, s.StoresRise ∧ s.fw.delivery = some d ∧ s.stageState = 2 ∧ ((List.range (pieceCount d.total)).all
    d.complete.contains) = true) ∧
  (∃ o : Origin, ∃ s : State, s.checkWrite o 0xE020 1 [1] = .ok ∧ s.activateForbidden false = false ∧ s.stageState = 3 ∧
    s.activationPending = false) ∧
  (∃ o : Origin, ∃ s : State, s.checkWrite o 0xE020 1 [2] = .ok ∧ s.activateForbidden true = false ∧ s.stageState = 3 ∧
    s.activationPending = false) ∧
  (∃ good : Bool, ∃ b, ∃ c, ∃ s : State, s.StoresRise ∧ s.fw.installing = some b ∧ (if good then s.verify b.bytes else 10) = c) ∧
  (∃ o : Origin, ∃ x, ∃ s : State, s.StoresRise ∧ s.checkWrite o 0xE020 3 [1] = .ok ∧ s.fw.trial = some x ∧ x.healthy = true) ∧
  (∃ o : Origin, ∃ x, ∃ s : State, s.checkWrite o 0xE020 4 [1] = .ok ∧ s.fw.trial = some x) ∧
  (∃ x, ∃ u, ∃ s : State, s.StoresRise ∧ s.fw.trial = some x ∧ x.since = some u ∧ x.healthy = true ∧ s.reg 0xE020 5 = 0 ∧ s.mode ≠
    .dormant) ∧
  (∃ x, ∃ u, ∃ s : State, s.fw.trial = some x ∧ x.since = some u ∧ s.mode ≠ .dormant) :=
  ⟨⟨adm, natBe 12582912 4 ++ [1] ++ List.replicate 51 0, upIn .spring,
    by and_intros <;> first | decide +kernel | exact rises _ (by decide +kernel) | exact quiet _ (by decide +kernel) | exact (Option.some_get _).symm | rfl⟩,
  ⟨(upIn .spring).setReg 0xE010 4 1,
    by and_intros <;> first | decide +kernel | exact rises _ (by decide +kernel) | exact quiet _ (by decide +kernel) | exact (Option.some_get _).symm | rfl⟩,
  ⟨adm, 65536, List.replicate 1024 7, delivery0, delivering 2,
    by and_intros <;> first | decide +kernel | exact rises _ (by decide +kernel) | exact quiet _ (by decide +kernel) | exact (Option.some_get _).symm | rfl⟩,
  ⟨delivery0, delivering 2,
    by and_intros <;> first | decide +kernel | exact rises _ (by decide +kernel) | exact quiet _ (by decide +kernel) | exact (Option.some_get _).symm | rfl⟩,
  ⟨{ delivery0 with complete := [0, 1] },
    let s := delivering 2; { s with fw := { s.fw with delivery := some { delivery0 with complete := [0, 1] } } },
    by and_intros <;> first | decide +kernel | exact rises _ (by decide +kernel) | exact quiet _ (by decide +kernel) | exact (Option.some_get _).symm | rfl⟩,
  ⟨adm, delivering 3,
    by and_intros <;> first | decide +kernel | exact rises _ (by decide +kernel) | exact quiet _ (by decide +kernel) | exact (Option.some_get _).symm | rfl⟩,
  ⟨adm, delivering 3,
    by and_intros <;> first | decide +kernel | exact rises _ (by decide +kernel) | exact quiet _ (by decide +kernel) | exact (Option.some_get _).symm | rfl⟩,
  ⟨false, { bytes := [] }, 10, let s := upIn .spring; { s with fw := { s.fw with installing := some { bytes := [] } } },
    (by and_intros <;> first | exact rises _ (by decide +kernel) | rfl)⟩,
  ⟨adm, trial0, onTrial,
    by and_intros <;> first | decide +kernel | exact rises _ (by decide +kernel) | exact quiet _ (by decide +kernel) | exact (Option.some_get _).symm | rfl⟩,
  ⟨adm, trial0, onTrial,
    by and_intros <;> first | decide +kernel | exact rises _ (by decide +kernel) | exact quiet _ (by decide +kernel) | exact (Option.some_get _).symm | rfl⟩,
  ⟨trial0, 9, onTrial.setReg 0xE020 5 0,
    by and_intros <;> first | decide +kernel | exact rises _ (by decide +kernel) | exact quiet _ (by decide +kernel) | exact (Option.some_get _).symm | rfl⟩,
  ⟨trial0, 9, onTrial,
    by and_intros <;> first | decide +kernel | exact rises _ (by decide +kernel) | exact quiet _ (by decide +kernel) | exact (Option.some_get _).symm | rfl⟩⟩

/-- What TestCommandsComplete assumes can hold. -/
theorem witness_TestCommandsComplete :
  (∃ o : Origin, ∃ v : List Byte, ∃ kind, ∃ n, ∃ s : State, s.checkWrite o 0xD000 1 v = .ok ∧ byteAt v 0 = kind ∧ targetNumber kind
    (byteAt v 1) = some n ∧ v.length = 24 ∧ patternFieldsGood v = true ∧ s.testRuns (256 * kind + n) = false ∧ s.targetIdle o kind n =
    true ∧ ((3 ≤ kind → s.mode = .diagnostic)) ∧ ((kind = 4 → s.dgTests < 8))) ∧
  (∃ o : Origin, ∃ v : List Byte, ∃ n, ∃ s : State, s.checkWrite o 0xD000 2 v = .ok ∧ targetNumber (byteAt v 0) (byteAt v 1) = some n ∧
    s.testRuns (256 * byteAt v 0 + n) = true) ∧
  (∃ k, ∃ x, ∃ s : State, mget s.test.tests k = some x ∧ x.running = true ∧ beAt x.params 8 4 ≠ 0) ∧
  (∃ k, ∃ x, ∃ s : State, mget s.test.tests k = some x ∧ x.state = 1 ∧ bitAt (byteAt x.params 3) 1 = true) ∧
  (∃ k, ∃ x, ∃ s : State, mget s.test.tests k = some x ∧ x.state = 2 ∧ k / 256 ≠ 5) ∧
  (∃ o : Origin, ∃ v : List Byte, ∃ m, ∃ s : State, s.checkWrite o 0xD020 1 v = .ok ∧ beNat (canonical o.be (typeOf 0xD020 1) v) = m ∧ m <
    0x80 ∧ s.test.bistState ≠ 1 ∧ s.scopesBusy m = false) ∧
  (∃ failed : List (List Byte), ∃ recs : List (List Byte), ∃ s : State, s.StoresRise ∧ s.test.bistState = 1 ∧ (recs = (failed.map fun r =>
    slice r 0 8).filter (fun r => bitAt s.test.bistScopes (byteAt r 0)))) ∧
  (∃ kind, ∃ s : State, s.StoresRise ∧ s.backgroundRuns = true ∧ kind ≤ 4) ∧
  (∃ o : Origin, ∃ s : State, s.StoresRise ∧ s.checkWrite o 0xD040 4 [1] = .ok) ∧
  (∃ s : State, s.mode ≠ .dormant) :=
  ⟨⟨adm, [4, 0x8F, 11, 3] ++ List.replicate 20 0, 4, 31, upIn .diagnostic,
    by and_intros <;> first | decide +kernel | exact rises _ (by decide +kernel) | exact quiet _ (by decide +kernel) | exact (Option.some_get _).symm | rfl⟩,
  ⟨adm, [4, 0x8F], 31, testing 1,
    by and_intros <;> first | decide +kernel | exact rises _ (by decide +kernel) | exact quiet _ (by decide +kernel) | exact (Option.some_get _).symm | rfl⟩,
  ⟨1055, test0 1, testing 1,
    by and_intros <;> first | decide +kernel | exact rises _ (by decide +kernel) | exact quiet _ (by decide +kernel) | exact (Option.some_get _).symm | rfl⟩,
  ⟨1055, test0 1, testing 1,
    by and_intros <;> first | decide +kernel | exact rises _ (by decide +kernel) | exact quiet _ (by decide +kernel) | exact (Option.some_get _).symm | rfl⟩,
  ⟨1055, test0 2, testing 2,
    by and_intros <;> first | decide +kernel | exact rises _ (by decide +kernel) | exact quiet _ (by decide +kernel) | exact (Option.some_get _).symm | rfl⟩,
  ⟨adm, [0x7F, 0, 0, 0], 0x7F, upIn .diagnostic,
    by and_intros <;> first | decide +kernel | exact rises _ (by decide +kernel) | exact quiet _ (by decide +kernel) | exact (Option.some_get _).symm | rfl⟩,
  ⟨[List.replicate 8 1, List.replicate 8 2], [List.replicate 8 2],
    { upIn .diagnostic with test := { State.reset.test with bistState := 1, bistScopes := 4 } },
    by and_intros <;> first | decide +kernel | exact rises _ (by decide +kernel) | exact quiet _ (by decide +kernel) | exact (Option.some_get _).symm | rfl⟩,
  ⟨4, (upIn .spring).setReg 0xD030 1 1,
    by and_intros <;> first | decide +kernel | exact rises _ (by decide +kernel) | exact quiet _ (by decide +kernel) | exact (Option.some_get _).symm | rfl⟩,
  ⟨adm, upIn .spring,
    by and_intros <;> first | decide +kernel | exact rises _ (by decide +kernel) | exact quiet _ (by decide +kernel) | exact (Option.some_get _).symm | rfl⟩,
  ⟨upIn .catchup,
    by and_intros <;> first | decide +kernel | exact rises _ (by decide +kernel) | exact quiet _ (by decide +kernel) | exact (Option.some_get _).symm | rfl⟩⟩

/-- What FabricCellsComplete assumes can hold. -/
theorem witness_FabricCellsComplete :
  (∃ l, ∃ cell, ∃ s : State, s.Arrives l 1 cell ∧ s.linkState l = 3 ∧ s.mayTake = true ∧ s.quad (l / 4) = .awake ∧ bitAt (cellHead cell)
    93 = true ∧ bitAt (cellHead cell) 92 = false ∧ headerBad (cellPayload cell) = false ∧ ((∀ r ∈ s.fab.reasm, ¬(r.link = l ∧ r.unit =
    fld (cellHead cell) 78 67 ∧ r.srcLink = fld (cellHead cell) 66 59))) ∧ s.fab.reasm.length < reasmCap) ∧
  (∃ l, ∃ cell, ∃ s : State, s.Arrives l 0 cell ∧ s.linkState l = 3 ∧ s.quad (l / 4) = .awake ∧ (s.link l).resend = [] ∧ (s.link l).fresh
    = [] ∧ (s.link l).quietAsked = false) ∧
  (∃ l, ∃ unit, ∃ dest, ∃ m, ∃ cell, ∃ s : State, s.Hears l 0x01 unit dest m cell ∧ s.linkState l = 3 ∧ s.mayTake = true ∧ s.quad (l / 4)
    = .awake ∧ bitAt m 52 = false ∧ fld m 23 0 = 0) ∧
  (∃ l, ∃ unit, ∃ dest, ∃ m, ∃ cell, ∃ s : State, s.Hears l 0x02 unit dest m cell ∧ s.linkState l = 3 ∧ s.standby = false ∧ s.quad (l / 4)
    = .awake ∧ fld m 31 0 = 0 ∧ bitAt m 52 = false ∧ fld m 51 48 = (s.sendCtx (ctxKey unit (fld m 55 53))).era) ∧
  (∃ l, ∃ unit, ∃ m, ∃ cell, ∃ s : State, s.StoresRise ∧ s.Hears l 0x10 unit 0xFFF m cell ∧ s.linkState l = 2 ∧ s.quad (l / 4) = .awake ∧
    fld m 7 0 = 0 ∧ fld m 55 48 = 1) ∧
  (∃ l, ∃ unit, ∃ cell, ∃ s : State, s.Hears l 0x11 unit 0xFFF 0 cell ∧ s.linkState l = 3 ∧ s.quad (l / 4) = .awake) ∧
  (∃ l, ∃ unit, ∃ u, ∃ cell, ∃ s : State, s.StoresRise ∧ s.Hears l 0x12 unit 0xFFF 0 cell ∧ s.linkState l = 4 ∧ (s.link l).quietSent =
    true ∧ s.quad (l / 4) = .quieting u ∧ ((∀ k ∈ quadLinks (l / 4), k ≠ l → s.linkState k ≠ 4))) ∧
  (∃ l, ∃ unit, ∃ m, ∃ cell, ∃ s : State, s.StoresRise ∧ s.Hears l 0x13 unit 0xFFF m cell ∧ fld m 47 0 = 0 ∧ s.linkState l = 3 ∧ s.quad (l
    / 4) = .awake) :=
  ⟨⟨159, dataCell0, linked 3,
    (⟨⟨by decide, by decide +kernel, by decide +kernel, by decide +kernel, by decide +kernel⟩, by decide +kernel, by decide +kernel, by decide +kernel, by decide +kernel, by decide +kernel, by decide +kernel, by decide +kernel, by decide +kernel⟩)⟩,
  ⟨159, idleCell0, linked 3,
    (⟨⟨by decide, by decide +kernel, by decide +kernel, by decide +kernel, by decide +kernel⟩, by decide +kernel, by decide +kernel, by decide +kernel, by decide +kernel, by decide +kernel⟩)⟩,
  ⟨159, 4094, 0, (7 * 2 ^ 53 + 0xFFFFFF * 2 ^ 24), controlCell0 0 1 ((7 * 2 ^ 53 + 0xFFFFFF * 2 ^ 24)), linked 3,
    (⟨⟨⟨by decide, by decide +kernel, by decide +kernel, by decide +kernel, by decide +kernel⟩, by decide +kernel, by decide +kernel, by decide +kernel, by decide +kernel, by decide +kernel⟩, by decide +kernel, by decide +kernel, by decide +kernel, by decide +kernel, by decide +kernel⟩)⟩,
  ⟨159, 4094, 0, (7 * 2 ^ 53 + 0xFFFF * 2 ^ 32), controlCell0 0 2 ((7 * 2 ^ 53 + 0xFFFF * 2 ^ 32)), linked 3,
    (⟨⟨⟨by decide, by decide +kernel, by decide +kernel, by decide +kernel, by decide +kernel⟩, by decide +kernel, by decide +kernel, by decide +kernel, by decide +kernel, by decide +kernel⟩, by decide +kernel, by decide +kernel, by decide +kernel, by decide +kernel, by decide +kernel, by decide +kernel⟩)⟩,
  ⟨159, 4094, (1 * 2 ^ 48 + 0xFFFF * 2 ^ 32), controlCell0 4095 0x10 ((1 * 2 ^ 48 + 0xFFFF * 2 ^ 32)), linked 2,
    (⟨rises _ (by decide +kernel), ⟨⟨by decide, by decide +kernel, by decide +kernel, by decide +kernel, by decide +kernel⟩, by decide +kernel, by decide +kernel, by decide +kernel, by decide +kernel, by decide +kernel⟩, by decide +kernel, by decide +kernel, by decide +kernel, by decide +kernel⟩)⟩,
  ⟨159, 4094, controlCell0 4095 0x11 0, linked 3,
    (⟨⟨⟨by decide, by decide +kernel, by decide +kernel, by decide +kernel, by decide +kernel⟩, by decide +kernel, by decide +kernel, by decide +kernel, by decide +kernel, by decide +kernel⟩, by decide +kernel, by decide +kernel⟩)⟩,
  ⟨159, 4094, 9, controlCell0 4095 0x12 0,
    withFabric (linked 4) { State.reset.fab with quads := [(39, .quieting 9)], links := [(159, { Link.reset with quietSent := true })] },
    (⟨rises _ (by decide +kernel), ⟨⟨by decide, by decide +kernel, by decide +kernel, by decide +kernel, by decide +kernel⟩, by decide +kernel, by decide +kernel, by decide +kernel, by decide +kernel, by decide +kernel⟩, by decide +kernel, by decide +kernel, by decide +kernel, by decide +kernel⟩)⟩,
  ⟨159, 4094, (255 * 2 ^ 48), controlCell0 4095 0x13 ((255 * 2 ^ 48)), linked 3,
    (⟨rises _ (by decide +kernel), ⟨⟨by decide, by decide +kernel, by decide +kernel, by decide +kernel, by decide +kernel⟩, by decide +kernel, by decide +kernel, by decide +kernel, by decide +kernel, by decide +kernel⟩, by decide +kernel, by decide +kernel, by decide +kernel⟩)⟩⟩

/-- What FabricTimesComplete assumes can hold. -/
theorem witness_FabricTimesComplete :
  (∃ l, ∃ s : State, s.StoresRise ∧ l < 160 ∧ (s.link l).unacked ≠ [] ∧ (s.link l).goBacks + 1 < s.reg 0x8000 4) ∧
  (∃ l, ∃ unit, ∃ srcLink, ∃ r, ∃ s : State, r ∈ s.fab.reasm ∧ r.link = l ∧ r.unit = unit ∧ r.srcLink = srcLink) ∧
  (∃ unit, ∃ cls, ∃ p, ∃ s : State, (s.recvCtx (ctxKey unit cls)).oldest = some p) ∧
  (∃ k, ∃ s : State, s.grantNext = some k ∧ s.mayCarry = true ∧ 4 * s.reseqBytes ≤ 3 * (s.reg 0x8000 7 * 1024) ∧ s.usableLinks
    (s.destGroup (k / 8)) ≠ []) ∧
  (∃ unit, ∃ cls, ∃ s : State, s.demand (ctxKey unit cls) ≠ 0 ∧ s.mayCarry = true ∧ s.usableLinks (s.destGroup (ctxKey unit cls / 8)) ≠ []
    ∧ s.covered (s.sendCtx (ctxKey unit cls)).syncGate = true) ∧
  (∃ l, ∃ u, ∃ s : State, s.StoresRise ∧ l < 160 ∧ s.quad (l / 4) = .quieting u ∧ s.linkState l = 4 ∧ (s.link l).quietDone = false) ∧
  (∃ l, ∃ cause, ∃ s : State, s.StoresRise ∧ l < 160 ∧ 1 ≤ cause ∧ cause ≤ 4 ∧ s.linkState l ∈ [1, 2, 3, 4]) ∧
  (∃ l, ∃ s : State, s.StoresRise ∧ l < 160 ∧ s.linkState l ∈ [2, 3, 4]) ∧
  (∃ l, ∃ s : State, s.StoresRise ∧ l < 160 ∧ s.linkState l = 6 ∧ s.linkAllowed l = true) ∧
  (∃ l, ∃ s : State, s.StoresRise ∧ l < 160 ∧ s.linkState l = 1) ∧
  (∃ l, ∃ s : State, l < 160 ∧ s.linkState l = 3 ∧ (s.link l).joined = false ∧ (s.link l).quietAsked = false ∧ s.linkGroup l < 8) ∧
  (∃ g, ∃ b, ∃ f, ∃ u, ∃ s : State, ((s.fabGroup g).fences.find? (fun f => decide (f.bucket = b)) = some f) ∧ f.acked = some u ∧
    (s.fabGroup g).moves = [] ∧ b < (s.fabGroup g).pins.length) ∧
  (∃ s : State, s.mode ≠ .proportional) ∧
  (∃ q, ∃ u, ∃ s : State, s.StoresRise ∧ s.quad q = .waking u) ∧
  (∃ g, ∃ u, ∃ s : State, g < 8 ∧ (s.fabGroup g).downSince = some u ∧ s.reg 0x9000 9 ≠ 0 ∧ s.usableLinks g = []) :=
  ⟨⟨159, withFabric (linked 3) unacked0,
    by and_intros <;> first | decide +kernel | exact rises _ (by decide +kernel) | exact quiet _ (by decide +kernel) | exact (Option.some_get _).symm | rfl⟩,
  ⟨159, 4094, 255, reasm0, withFabric (linked 3) { State.reset.fab with reasm := [reasm0] },
    (⟨List.mem_cons_self, by decide, by decide, by decide⟩)⟩,
  ⟨5, 7, waiting0, withFabric (linked 3) { State.reset.fab with recv := [(47, { RecvCtx.reset with held := [waiting0] })] },
    by and_intros <;> first | decide +kernel | exact rises _ (by decide +kernel) | exact quiet _ (by decide +kernel) | exact (Option.some_get _).symm | rfl⟩,
  ⟨47, asked,
    by and_intros <;> first | decide +kernel | exact rises _ (by decide +kernel) | exact quiet _ (by decide +kernel) | exact (Option.some_get _).symm | rfl⟩,
  ⟨5, 0, withFabric toFabric { toFabric.fab with send := [] },
    by and_intros <;> first | decide +kernel | exact rises _ (by decide +kernel) | exact quiet _ (by decide +kernel) | exact (Option.some_get _).symm | rfl⟩,
  ⟨159, 9,
    withFabric (linked 4) { State.reset.fab with quads := [(39, .quieting 9)], links := [(159, { Link.reset with quietSent := true })] },
    by and_intros <;> first | decide +kernel | exact rises _ (by decide +kernel) | exact quiet _ (by decide +kernel) | exact (Option.some_get _).symm | rfl⟩,
  ⟨159, 4, linked 1,
    by and_intros <;> first | decide +kernel | exact rises _ (by decide +kernel) | exact quiet _ (by decide +kernel) | exact (Option.some_get _).symm | rfl⟩,
  ⟨159, linked 4,
    by and_intros <;> first | decide +kernel | exact rises _ (by decide +kernel) | exact quiet _ (by decide +kernel) | exact (Option.some_get _).symm | rfl⟩,
  ⟨159, ((linked 6).setReg 0x3401 159 1).setReg 0x8010 159 7,
    by and_intros <;> first | decide +kernel | exact rises _ (by decide +kernel) | exact quiet _ (by decide +kernel) | exact (Option.some_get _).symm | rfl⟩,
  ⟨159, linked 1,
    by and_intros <;> first | decide +kernel | exact rises _ (by decide +kernel) | exact quiet _ (by decide +kernel) | exact (Option.some_get _).symm | rfl⟩,
  ⟨159, (linked 3).setReg 0x8010 159 7,
    by and_intros <;> first | decide +kernel | exact rises _ (by decide +kernel) | exact quiet _ (by decide +kernel) | exact (Option.some_get _).symm | rfl⟩,
  ⟨7, 255, { bucket := 255, target := 159, acked := some 9 }, 9,
    withFabric (linked 3) { State.reset.fab with groups := [(7, { FlowGroup.reset with fences := [{ bucket := 255, target := 159, acked := some 9 }] })] },
    by and_intros <;> first | decide +kernel | exact rises _ (by decide +kernel) | exact quiet _ (by decide +kernel) | exact (Option.some_get _).symm | rfl⟩,
  ⟨upIn .dormant,
    by and_intros <;> first | decide +kernel | exact rises _ (by decide +kernel) | exact quiet _ (by decide +kernel) | exact (Option.some_get _).symm | rfl⟩,
  ⟨39, 9, withFabric (linked 5) { State.reset.fab with quads := [(39, .waking 9)] },
    by and_intros <;> first | decide +kernel | exact rises _ (by decide +kernel) | exact quiet _ (by decide +kernel) | exact (Option.some_get _).symm | rfl⟩,
  ⟨7, 9,
    withFabric ((linked 6).setReg 0x9000 9 128) { State.reset.fab with groups := [(7, { FlowGroup.reset with downSince := some 9 })] },
    by and_intros <;> first | decide +kernel | exact rises _ (by decide +kernel) | exact quiet _ (by decide +kernel) | exact (Option.some_get _).symm | rfl⟩⟩

/-- What MemoryCommandsComplete assumes can hold. -/
theorem witness_MemoryCommandsComplete :
  (∃ h, ∃ s : State, h < 4 ∧ s.reg 0x2012 1 ≠ 0 ∧ s.sleepMode = true ∧ s.reg 0x7101 h = 0 ∧ s.hbmHoldsPackets = false ∧ s.stats.setDeltas
    = [] ∧ s.stats.queueDeltas = [] ∧ s.stats.channelDeltas = []) ∧
  (∃ h, ∃ s : State, s.StoresRise ∧ h < 4 ∧ (s.stack h).entering = true ∧ s.reg 0x7101 h = 0) ∧
  (∃ h, ∃ elapsed, ∃ u, ∃ s : State, s.StoresRise ∧ h < 4 ∧ (s.stack h).wakeSince = some u ∧ s.reg 0x7101 h = 2 ∧ elapsed ≤ 50000) ∧
  (∃ h, ∃ u, ∃ s : State, h < 4 ∧ (s.stack h).wakeSince = some u ∧ s.reg 0x7101 h = 2) ∧
  (∃ cc, ∃ s : State, s.stackRuns cc = true) ∧
  (∃ cc, ∃ s : State, s.stackRuns cc = true) ∧
  (∃ cc, ∃ s : State, s.stackRuns cc = true ∧ (((s.pc cc).alerts.filter fun u => decide (s.now < u + 1000000)).length < 8)) ∧
  (∃ cc, ∃ s : State, s.stackRuns cc = true ∧ s.reg 0x7100 6 = 1 ∧ s.power.warmSince = none ∧ (s.pc cc).round = none) ∧
  (∃ cc, ∃ lane, ∃ left, ∃ right, ∃ s : State, s.stackRuns cc = true ∧ (s.pc cc).round = some lane ∧ 8 ≤ (s.probedEdges (s.pc cc) lane
    left right).2 - (s.probedEdges (s.pc cc) lane left right).1) ∧
  (∃ o : Origin, ∃ cc, ∃ v : List Byte, ∃ s : State, s.checkWrite o 0x7140 cc v = .ok ∧ v.length = 96 ∧ ((v.all fun b => decide (b.toNat <
    128)) = true) ∧ allZero (slice v 90 6) = true) ∧
  (∃ s : State, s.mode ≠ .dormant) ∧
  (∃ s : State, s.stacksActive = true ∧ s.mode ≠ .dormant) :=
  ⟨⟨3, upIn .proportional,
    by and_intros <;> first | decide +kernel | exact rises _ (by decide +kernel) | exact quiet _ (by decide +kernel) | exact (Option.some_get _).symm | rfl⟩,
  ⟨3, withStack 3 { Stack.reset with entering := true } 0,
    by and_intros <;> first | decide +kernel | exact rises _ (by decide +kernel) | exact quiet _ (by decide +kernel) | exact (Option.some_get _).symm | rfl⟩,
  ⟨3, 50000, 9, withStack 3 { Stack.reset with wakeSince := some 9 } 2,
    by and_intros <;> first | decide +kernel | exact rises _ (by decide +kernel) | exact quiet _ (by decide +kernel) | exact (Option.some_get _).symm | rfl⟩,
  ⟨3, 9, withStack 3 { Stack.reset with wakeSince := some 9 } 2,
    by and_intros <;> first | decide +kernel | exact rises _ (by decide +kernel) | exact quiet _ (by decide +kernel) | exact (Option.some_get _).symm | rfl⟩,
  ⟨127, withPc { PseudoChannel.reset with staged := some (List.replicate 96 1) },
    by and_intros <;> first | decide +kernel | exact rises _ (by decide +kernel) | exact quiet _ (by decide +kernel) | exact (Option.some_get _).symm | rfl⟩,
  ⟨127, upIn .bringup,
    by and_intros <;> first | decide +kernel | exact rises _ (by decide +kernel) | exact quiet _ (by decide +kernel) | exact (Option.some_get _).symm | rfl⟩,
  ⟨127, withPc { PseudoChannel.reset with alerts := [0, 0, 0, 0, 0, 0, 0] },
    by and_intros <;> first | decide +kernel | exact rises _ (by decide +kernel) | exact quiet _ (by decide +kernel) | exact (Option.some_get _).symm | rfl⟩,
  ⟨127, (upIn .spring).setReg 0x7100 6 1,
    by and_intros <;> first | decide +kernel | exact rises _ (by decide +kernel) | exact quiet _ (by decide +kernel) | exact (Option.some_get _).symm | rfl⟩,
  ⟨127, 71, [1, 1, 1, 2], [1, 1, 1, 2], withPc { PseudoChannel.reset with round := some 71 },
    by and_intros <;> first | decide +kernel | exact rises _ (by decide +kernel) | exact quiet _ (by decide +kernel) | exact (Option.some_get _).symm | rfl⟩,
  ⟨adm, 127, List.replicate 90 127 ++ List.replicate 6 0, upIn .diagnostic,
    by and_intros <;> first | decide +kernel | exact rises _ (by decide +kernel) | exact quiet _ (by decide +kernel) | exact (Option.some_get _).symm | rfl⟩,
  ⟨upIn .bringup,
    by and_intros <;> first | decide +kernel | exact rises _ (by decide +kernel) | exact quiet _ (by decide +kernel) | exact (Option.some_get _).symm | rfl⟩,
  ⟨upIn .bringup,
    by and_intros <;> first | decide +kernel | exact rises _ (by decide +kernel) | exact quiet _ (by decide +kernel) | exact (Option.some_get _).symm | rfl⟩⟩

/-- What PortCommandsComplete assumes can hold. -/
theorem witness_PortCommandsComplete :
  (∃ o : Origin, ∃ p, ∃ m : Byte, ∃ s : State, s.StoresRise ∧ s.checkWrite o 0x3000 p [m] = .ok ∧ m.toNat ≠ s.reg 0x3000 p ∧ m.toNat ≤ 5 ∧
    ((m.toNat ≠ 0 → s.modePlaces p m.toNat = true ∧ (s.reg 0x3001 p < 16 → s.sliceRate (s.reg 0x3001 p) p m.toNat (s.reg 0x3001 p) ≤
    1600) ∧ (s.reg 0x3001 p = 0xFF → s.mode = .bringup ∨ s.mode = .diagnostic))) ∧ s.reg 0x3002 p = 0 ∧ s.reg 0x7043 p ≠ 1) ∧
  (∃ o : Origin, ∃ p, ∃ k : Byte, ∃ s : State, s.StoresRise ∧ s.checkWrite o 0x3001 p [k] = .ok ∧ ((k.toNat < 16 → s.sliceRate k.toNat p
    (s.reg 0x3000 p) k.toNat ≤ 1600 ∧ s.reg 0x3700 k.toNat ≠ 3))) ∧
  (∃ o : Origin, ∃ p, ∃ s : State, s.StoresRise ∧ s.checkWrite o 0x3002 p [1] = .ok ∧ s.reg 0x7043 p ≠ 1) ∧
  (∃ o : Origin, ∃ p, ∃ s : State, s.StoresRise ∧ s.checkWrite o 0x3002 p [0] = .ok ∧ s.reg 0x3002 p = 1 ∧ s.reg 0x3000 p ≠ 0) ∧
  (∃ p, ∃ n, ∃ s : State, s.cageOf p = some n ∧ (s.port p).activation = 3 ∧ s.moduleState n = 3 ∧ s.reg 0x3003 p = 2) ∧
  (∃ p, ∃ s : State, s.StoresRise ∧ (s.port p).activation ≠ 0 ∧ s.reg 0x3003 p = 2) ∧
  (∃ o : Origin, ∃ v : List Byte, ∃ s : State, s.checkWrite o 0x3100 2 v = .ok) ∧
  (∃ o : Origin, ∃ p, ∃ n : Byte, ∃ s : State, s.checkWrite o 0x3023 p [n] = .ok ∧ 1 ≤ n.toNat ∧ n.toNat ≤ 16) ∧
  (∃ s : State, s.StoresRise ∧ s.mode ≠ .dormant) ∧
  (∃ s : State, s.mode ≠ .dormant ∧ s.reg 0x3100 6 ≠ 0) ∧
  (∃ u, ∃ s : State, s.ports.ppsRose = some u) ∧
  (∃ lane, ∃ coef, ∃ b, ∃ l, ∃ s : State, laneBase lane = some (b, l) ∧ s.laneAdapts lane = true ∧ s.reg (b + 0x12) l ≠ 1 ∧ (s.adapt
    lane).step = none ∧ mgetD 0 (s.adapt lane).holds coef ≤ s.now) ∧
  (∃ lane, ∃ b, ∃ l, ∃ coef, ∃ d : Int, ∃ u, ∃ before, ∃ s : State, laneBase lane = some (b, l) ∧ (s.adapt lane).step = some (coef, d, u,
    before)) ∧
  (∃ lane, ∃ b, ∃ l, ∃ s : State, s.StoresRise ∧ laneBase lane = some (b, l) ∧ s.laneLocked lane = true) ∧
  (∃ lane, ∃ s : State, s.StoresRise ∧ lane < 128 ∧ s.reg 0x3200 lane ≠ 0 ∧ s.power.refclkLost.contains (lane / 16) = false) ∧
  (∃ p, ∃ s : State, s.StoresRise ∧ s.mgmtPossible p = true) ∧
  (∃ p, ∃ s : State, s.StoresRise ∧ p < 2) ∧
  (∃ lanes, ∃ rate, ∃ s : State, s.StoresRise ∧ s.power.pins.pciePerstN = true ∧ s.mode ≠ .dormant ∧ s.power.refclkLost.contains 0x12 =
    false ∧ 1 ≤ lanes ∧ lanes ≤ 16 ∧ 1 ≤ rate ∧ rate ≤ 5) :=
  ⟨⟨adm, 127, 1, upIn .bringup,
    by and_intros <;> first | decide +kernel | exact rises _ (by decide +kernel) | exact quiet _ (by decide +kernel) | exact (Option.some_get _).symm | rfl⟩,
  ⟨adm, 127, 15, upIn .bringup,
    by and_intros <;> first | decide +kernel | exact rises _ (by decide +kernel) | exact quiet _ (by decide +kernel) | exact (Option.some_get _).symm | rfl⟩,
  ⟨adm, 127, upIn .spring,
    by and_intros <;> first | decide +kernel | exact rises _ (by decide +kernel) | exact quiet _ (by decide +kernel) | exact (Option.some_get _).symm | rfl⟩,
  ⟨adm, 127, ((upIn .spring).setReg 0x3002 127 1).setReg 0x3000 127 1,
    by and_intros <;> first | decide +kernel | exact rises _ (by decide +kernel) | exact quiet _ (by decide +kernel) | exact (Option.some_get _).symm | rfl⟩,
  ⟨7, 31, activating,
    by and_intros <;> first | decide +kernel | exact rises _ (by decide +kernel) | exact quiet _ (by decide +kernel) | exact (Option.some_get _).symm | rfl⟩,
  ⟨7, activating,
    by and_intros <;> first | decide +kernel | exact rises _ (by decide +kernel) | exact quiet _ (by decide +kernel) | exact (Option.some_get _).symm | rfl⟩,
  ⟨adm, [255, 255, 255, 255, 255, 255, 255, 255], upIn .spring,
    by and_intros <;> first | decide +kernel | exact rises _ (by decide +kernel) | exact quiet _ (by decide +kernel) | exact (Option.some_get _).symm | rfl⟩,
  ⟨adm, 127, 16, upIn .spring,
    (by and_intros <;> decide +kernel)⟩,
  ⟨upIn .spring,
    by and_intros <;> first | decide +kernel | exact rises _ (by decide +kernel) | exact quiet _ (by decide +kernel) | exact (Option.some_get _).symm | rfl⟩,
  ⟨(upIn .spring).setReg 0x3100 6 1,
    by and_intros <;> first | decide +kernel | exact rises _ (by decide +kernel) | exact quiet _ (by decide +kernel) | exact (Option.some_get _).symm | rfl⟩,
  ⟨9, { State.reset with ports := { State.reset.ports with ppsRose := some 9 } },
    by and_intros <;> first | decide +kernel | exact rises _ (by decide +kernel) | exact quiet _ (by decide +kernel) | exact (Option.some_get _).symm | rfl⟩,
  ⟨1159, 0, 0x3400, 159, linked 4,
    by and_intros <;> first | decide +kernel | exact rises _ (by decide +kernel) | exact quiet _ (by decide +kernel) | exact (Option.some_get _).symm | rfl⟩,
  ⟨2007, 0x3600, 7, 3, -1, 9, 4,
    { State.reset with ports := { State.reset.ports with adapt := [(2007, { LaneAdapt.reset with step := some (3, -1, 9, 4) })] } },
    by and_intros <;> first | decide +kernel | exact rises _ (by decide +kernel) | exact quiet _ (by decide +kernel) | exact (Option.some_get _).symm | rfl⟩,
  ⟨127, 0x3200, 127, (upIn .spring).setReg 0x3200 127 3,
    by and_intros <;> first | decide +kernel | exact rises _ (by decide +kernel) | exact quiet _ (by decide +kernel) | exact (Option.some_get _).symm | rfl⟩,
  ⟨127, (upIn .spring).setReg 0x3200 127 1,
    by and_intros <;> first | decide +kernel | exact rises _ (by decide +kernel) | exact quiet _ (by decide +kernel) | exact (Option.some_get _).symm | rfl⟩,
  ⟨1, upIn .bringup,
    by and_intros <;> first | decide +kernel | exact rises _ (by decide +kernel) | exact quiet _ (by decide +kernel) | exact (Option.some_get _).symm | rfl⟩,
  ⟨1, upIn .bringup,
    by and_intros <;> first | decide +kernel | exact rises _ (by decide +kernel) | exact quiet _ (by decide +kernel) | exact (Option.some_get _).symm | rfl⟩,
  ⟨16, 5, upIn .spring,
    by and_intros <;> first | decide +kernel | exact rises _ (by decide +kernel) | exact quiet _ (by decide +kernel) | exact (Option.some_get _).symm | rfl⟩⟩

/-- What DieToDieCommandsComplete assumes can hold. -/
theorem witness_DieToDieCommandsComplete :
  (∃ g, ∃ s : State, s.StoresRise ∧ g < 16 ∧ s.reg 0x3700 g = 2 ∧ (((s.dg g).uncorrectable.filter fun u => decide (s.now < u +
    1000000)).length < 16)) ∧
  (∃ g, ∃ s : State, s.StoresRise ∧ g < 16 ∧ s.reg 0x3700 g ≠ 0 ∧ s.reg 0x3700 g ≠ 3) ∧
  (∃ g, ∃ s : State, s.StoresRise ∧ g < 16 ∧ s.reg 0x3700 g = 3) ∧
  (∃ g, ∃ s : State, s.StoresRise ∧ g < 16 ∧ s.reg 0x3700 g = 2 ∧ s.power.warmSince = none) ∧
  (∃ g, ∃ s : State, g < 16 ∧ s.reg 0x3700 g = 2) :=
  ⟨⟨15, (upIn .spring).setReg 0x3700 15 2,
    by and_intros <;> first | decide +kernel | exact rises _ (by decide +kernel) | exact quiet _ (by decide +kernel) | exact (Option.some_get _).symm | rfl⟩,
  ⟨15, (upIn .spring).setReg 0x3700 15 2,
    by and_intros <;> first | decide +kernel | exact rises _ (by decide +kernel) | exact quiet _ (by decide +kernel) | exact (Option.some_get _).symm | rfl⟩,
  ⟨15, (upIn .spring).setReg 0x3700 15 3,
    by and_intros <;> first | decide +kernel | exact rises _ (by decide +kernel) | exact quiet _ (by decide +kernel) | exact (Option.some_get _).symm | rfl⟩,
  ⟨15, (upIn .spring).setReg 0x3700 15 2,
    by and_intros <;> first | decide +kernel | exact rises _ (by decide +kernel) | exact quiet _ (by decide +kernel) | exact (Option.some_get _).symm | rfl⟩,
  ⟨15, (upIn .spring).setReg 0x3700 15 2,
    by and_intros <;> first | decide +kernel | exact rises _ (by decide +kernel) | exact quiet _ (by decide +kernel) | exact (Option.some_get _).symm | rfl⟩⟩

/-- What HostCommandsComplete assumes can hold. -/
theorem witness_HostCommandsComplete :
  (∃ i, ∃ d : List Byte, ∃ c, ∃ s : State, s.chan i = some c ∧ c.ring = .enabled ∧ s.power.pins.pciePerstN = true ∧ c.staged = [] ∧
    c.fetched.length < 32 ∧ bitAt (subControl (slice d 0 64)) 31 = true ∧ bitAt (subControl (slice d 0 64)) 30 = c.fetchPhase ∧
    malformed c.receive (slice d 0 64) = false) ∧
  (∃ i, ∃ d : List Byte, ∃ c, ∃ s : State, s.chan i = some c ∧ c.ring = .enabled ∧ c.scanning = true ∧ c.staged = [] ∧ c.fetched.length <
    32 ∧ bitAt (subControl (slice d 0 64)) 31 = true ∧ bitAt (subControl (slice d 0 64)) 30 = c.fetchPhase ∧ malformed c.receive (slice
    d 0 64) = false) ∧
  (∃ n, ∃ i, ∃ c, ∃ d, ∃ s : State, n < 16 ∧ s.injectNext n = some i ∧ s.chan i = some c ∧ (c.fetched.find? (fun d => decide (byteAt
    d.bytes 18 = n)) = some d) ∧ s.mode ∈ [Mode.proportional, .spring] ∧ (s.sliceAt n).inject.length < 16 ∧ s.activeInPair = false) ∧
  (∃ i, ∃ d : List Byte, ∃ c, ∃ s : State, s.chan i = some c ∧ c.receive = true ∧ c.ring = .enabled ∧ c.scanning = true ∧ c.staged = [] ∧
    c.fetched.length < 32 ∧ bitAt (subControl (slice d 0 64)) 31 = true ∧ bitAt (subControl (slice d 0 64)) 30 = c.fetchPhase ∧
    malformed true (slice d 0 64) = false) ∧
  (∃ i, ∃ c, ∃ e, ∃ rest, ∃ s : State, s.power.pins.pciePerstN = true ∧ s.chan i = some c ∧ c.staged = e :: rest) ∧
  (∃ i, ∃ c, ∃ s : State, s.chan i = some c ∧ c.unsignalled ≠ 0) ∧
  (∃ o : Origin, ∃ h, ∃ x, ∃ s : State, h < 2 ^ 32 ∧ s.checkWrite o 0xA010 3 ([1, 0, 0, 0] ++ natBe h 4) = .ok ∧ s.checkHandle 2 h = .ok ∧
    s.chan (handleIndex h) = some x ∧ x.ring = .disabled ∧ x.idle = true) ∧
  (∃ o : Origin, ∃ h, ∃ x, ∃ s : State, h < 2 ^ 32 ∧ s.checkWrite o 0xA010 3 ([2, 0, 0, 0] ++ natBe h 4) = .ok ∧ s.checkHandle 2 h = .ok ∧
    s.chan (handleIndex h) = some x ∧ x.ring = .enabled) ∧
  (∃ o : Origin, ∃ v : List Byte, ∃ x, ∃ s : State, s.checkWrite o 0xA010 1 v = .ok ∧ v.length = 12 ∧ s.checkHandle 2 (beAt v 0 4) = .ok ∧
    coalesceOk (slice v 4 8) = true ∧ s.chan (handleIndex (beAt v 0 4)) = some x) ∧
  (∃ k, ∃ s : State, k < 64 ∧ s.mode ≠ .dormant) ∧
  (∃ k, ∃ s : State, k < 64 ∧ s.mode ≠ .dormant) ∧
  (∃ k, ∃ s : State, k < 64 ∧ s.mode ≠ .dormant) ∧
  (∃ master, ∃ m, ∃ d, ∃ w, ∃ s : State, m < 64 ∧ d < 2 ∧ s.mode ≠ .dormant ∧ ((192 ≤ master ∨ s.issues master = true)) ∧ s.mayUseMailbox
    master m = true ∧ ((s.mailbox m).dir d).claim = none ∧ fld w 15 8 = 0 ∧ 1 ≤ w % 256 ∧ 1 + w % 256 ≤ 256 - ((s.mailbox m).dir
    d).words.length - ((s.mailbox m).dir d).partialWords.length) ∧
  (∃ master, ∃ m, ∃ d, ∃ w, ∃ w', ∃ rest, ∃ s : State, m < 64 ∧ d < 2 ∧ s.mode ≠ .dormant ∧ ((192 ≤ master ∨ s.issues master = true)) ∧
    s.mayUseMailbox master m = true ∧ ((s.mailbox m).dir d).words = w :: w' :: rest) ∧
  (∃ master, ∃ m, ∃ d, ∃ h, ∃ s : State, m < 64 ∧ d < 2 ∧ s.mode ≠ .dormant ∧ ((192 ≤ master ∨ s.issues master = true)) ∧ s.mayUseMailbox
    master m = true ∧ ((s.mailbox m).dir d).claim = some h ∧ s.mayAbandon master h = true) ∧
  (∃ m, ∃ u, ∃ s : State, m < 64 ∧ (s.mailbox m).stuckSince = some u ∧ (s.mailbox m).signalled = false ∧ (s.mailbox m).stuck = true) ∧
  (∃ m, ∃ l, ∃ s : State, l < 256 ∧ m < 256 ∧ s.mode ≠ .dormant ∧ mget s.host.locks l = none) ∧
  (∃ m, ∃ l, ∃ s : State, l < 256 ∧ s.mode ≠ .dormant ∧ mget s.host.locks l = some m) ∧
  (∃ o : Origin, ∃ l, ∃ s : State, l < 256 ∧ s.checkWrite o 0xA911 l [1] = .ok) :=
  ⟨⟨4095, descriptor0, { chan0 with ring := .enabled }, hosting { chan0 with ring := .enabled },
    by and_intros <;> first | decide +kernel | exact rises _ (by decide +kernel) | exact quiet _ (by decide +kernel) | exact (Option.some_get _).symm | rfl⟩,
  ⟨4095, descriptor0, { chan0 with ring := .enabled, scanning := true }, hosting { chan0 with ring := .enabled, scanning := true },
    by and_intros <;> first | decide +kernel | exact rises _ (by decide +kernel) | exact quiet _ (by decide +kernel) | exact (Option.some_get _).symm | rfl⟩,
  ⟨15, 4095, { chan0 with ring := .enabled, fetched := [{ slot := 0, pos := 0, bytes := descriptor0 }] },
    { slot := 0, pos := 0, bytes := descriptor0 },
    hosting { chan0 with ring := .enabled, fetched := [{ slot := 0, pos := 0, bytes := descriptor0 }] },
    by and_intros <;> first | decide +kernel | exact rises _ (by decide +kernel) | exact quiet _ (by decide +kernel) | exact (Option.some_get _).symm | rfl⟩,
  ⟨4095, descriptor1, { chan0 with params := chanParams.set 0 1, ring := .enabled, scanning := true },
    hosting { chan0 with params := chanParams.set 0 1, ring := .enabled, scanning := true },
    by and_intros <;> first | decide +kernel | exact rises _ (by decide +kernel) | exact quiet _ (by decide +kernel) | exact (Option.some_get _).symm | rfl⟩,
  ⟨4095, { chan0 with staged := [List.replicate 36 0] }, List.replicate 36 0, [], hosting { chan0 with staged := [List.replicate 36 0] },
    by and_intros <;> first | decide +kernel | exact rises _ (by decide +kernel) | exact quiet _ (by decide +kernel) | exact (Option.some_get _).symm | rfl⟩,
  ⟨4095, { chan0 with unsignalled := 1 }, hosting { chan0 with unsignalled := 1 },
    by and_intros <;> first | decide +kernel | exact rises _ (by decide +kernel) | exact quiet _ (by decide +kernel) | exact (Option.some_get _).symm | rfl⟩,
  ⟨adm, 0x20000FFF, chan0, hosting chan0,
    by and_intros <;> first | decide +kernel | exact rises _ (by decide +kernel) | exact quiet _ (by decide +kernel) | exact (Option.some_get _).symm | rfl⟩,
  ⟨adm, 0x20000FFF, { chan0 with ring := .enabled }, hosting { chan0 with ring := .enabled },
    by and_intros <;> first | decide +kernel | exact rises _ (by decide +kernel) | exact quiet _ (by decide +kernel) | exact (Option.some_get _).symm | rfl⟩,
  ⟨adm, natBe 0x20000FFF 4 ++ [7, 255, 4, 0] ++ natBe 1000000 4, chan0, hosting chan0,
    by and_intros <;> first | decide +kernel | exact rises _ (by decide +kernel) | exact quiet _ (by decide +kernel) | exact (Option.some_get _).symm | rfl⟩,
  ⟨63, upIn .bringup,
    by and_intros <;> first | decide +kernel | exact rises _ (by decide +kernel) | exact quiet _ (by decide +kernel) | exact (Option.some_get _).symm | rfl⟩,
  ⟨63, upIn .bringup,
    by and_intros <;> first | decide +kernel | exact rises _ (by decide +kernel) | exact quiet _ (by decide +kernel) | exact (Option.some_get _).symm | rfl⟩,
  ⟨63, upIn .bringup,
    by and_intros <;> first | decide +kernel | exact rises _ (by decide +kernel) | exact quiet _ (by decide +kernel) | exact (Option.some_get _).symm | rfl⟩,
  ⟨192, 63, 1, 255, mailing .reset,
    by and_intros <;> first | decide +kernel | exact rises _ (by decide +kernel) | exact quiet _ (by decide +kernel) | exact (Option.some_get _).symm | rfl⟩,
  ⟨192, 63, 1, 5, 6, [], mailing { Mailbox.reset with d1 := { MbDir.reset with words := [5, 6] } },
    by and_intros <;> first | decide +kernel | exact rises _ (by decide +kernel) | exact quiet _ (by decide +kernel) | exact (Option.some_get _).symm | rfl⟩,
  ⟨0, 63, 1, 192,
    { mailing { Mailbox.reset with d1 := { MbDir.reset with claim := some 192 } } with stewards := (running [(0, thread0)]).stewards },
    by and_intros <;> first | decide +kernel | exact rises _ (by decide +kernel) | exact quiet _ (by decide +kernel) | exact (Option.some_get _).symm | rfl⟩,
  ⟨63, 9,
    mailing { Mailbox.reset with d0 := { MbDir.reset with words := [5] }, d1 := { MbDir.reset with words := [6] }, stuckSince := some 9 },
    by and_intros <;> first | decide +kernel | exact rises _ (by decide +kernel) | exact quiet _ (by decide +kernel) | exact (Option.some_get _).symm | rfl⟩,
  ⟨255, 255, upIn .bringup,
    by and_intros <;> first | decide +kernel | exact rises _ (by decide +kernel) | exact quiet _ (by decide +kernel) | exact (Option.some_get _).symm | rfl⟩,
  ⟨255, 255, let s := upIn .bringup; { s with host := { s.host with locks := [(255, 255)] } },
    by and_intros <;> first | decide +kernel | exact rises _ (by decide +kernel) | exact quiet _ (by decide +kernel) | exact (Option.some_get _).symm | rfl⟩,
  ⟨adm, 255, let s := upIn .bringup; { s with host := { s.host with locks := [(255, 255)] } },
    by and_intros <;> first | decide +kernel | exact rises _ (by decide +kernel) | exact quiet _ (by decide +kernel) | exact (Option.some_get _).symm | rfl⟩⟩

/-- What StewardCommandsComplete assumes can hold. -/
theorem witness_StewardCommandsComplete :
  (∃ h, ∃ target, ∃ addr, ∃ s : State, s.issues h = true ∧ s.integrator h = false ∧ target < 192 ∧ dieOf target = dieOf h ∧ (s.thread
    target).state ∈ [.stopped, .faulted] ∧ ((integratorThread target = true → s.integrator target = true)) ∧ addr % 2 = 0 ∧ s.codeWindow
    target addr = true) ∧
  (∃ h, ∃ target, ∃ s : State, s.issues h = true ∧ s.integrator h = false ∧ target < 192 ∧ target ≠ 0 ∧ target ≠ 128 ∧ (s.thread
    target).master = h ∧ (s.thread target).state ∈ [.running, .waiting] ∧ target ≠ h) ∧
  (∃ h, ∃ target, ∃ bits, ∃ s : State, s.issues h = true ∧ s.integrator h = false ∧ target < 192 ∧ bits = fld bits 23 16 * 2 ^ 16) ∧
  (∃ h, ∃ mask, ∃ s : State, s.issues h = true ∧ (s.thread h).tevent &&& mask = 0) ∧
  (∃ h, ∃ s : State, s.issues h = true) ∧
  (∃ h, ∃ s : State, s.issues h = true) ∧
  (∃ h, ∃ target, ∃ s : State, s.issues h = true ∧ s.integrator h = false ∧ target < 192) ∧
  (∃ h, ∃ rd, ∃ mask, ∃ s : State, h < 192 ∧ (s.thread h).state = .waiting ∧ (s.thread h).waitMask = some (mask, rd) ∧ (s.thread h).tevent
    &&& mask ≠ 0) ∧
  (∃ h, ∃ v : Nat, ∃ s : State, h < 192 ∧ (s.thread h).tcmp = some v) ∧
  (∃ h, ∃ v : Nat, ∃ s : State, h ≠ 0 ∧ h ≠ 128 ∧ (s.thread h).twdog = some v) ∧
  (∃ h, ∃ s : State, s.issues h = true) ∧
  (∃ die, ∃ s : State, die < 2 ∧ (s.thread (threadZero die)).state = .faulted ∧ s.fw.trial = none) ∧
  (∃ die, ∃ s : State, die < 2 ∧ s.slack die = true ∧ (s.nmi die).raised = false ∧ (s.nmi die).active = false) ∧
  (∃ c, ∃ s : State, c < 16 ∧ c % 8 ≠ 0 ∧ s.mode ≠ .dormant ∧ (s.core c).retained = false ∧ (((coreThreads c).all fun h => decide
    ((s.thread h).state = .stopped)) = true)) ∧
  (∃ h, ∃ s : State, s.tapInForce = 0x20 ∧ h < 192 ∧ (s.thread h).state = .running) ∧
  (∃ h, ∃ s : State, s.tapInForce = 0x20 ∧ h < 192 ∧ (s.thread h).state = .halted ∧ (s.thread h).waitMask = none) ∧
  (∃ o : Origin, ∃ tm : Bool, ∃ n, ∃ w : Byte, ∃ s : State, s.StoresRise ∧ ((tm = false → n < 128)) ∧ s.checkWrite o (if tm then 0xB004
    else 0xB003) n [w] = .ok ∧ (threadWeightEffect (if tm then 128 + n else n) [w] s).1 = .ok) ∧
  (∃ o : Origin, ∃ tm : Bool, ∃ n, ∃ v : List Byte, ∃ s : State, s.StoresRise ∧ s.checkWrite o (if tm then 0xB021 else 0xB020) n v = .ok ∧
    (puntQueueEffect tm n v s).1 = .ok) ∧
  (∃ o : Origin, ∃ c : Byte, ∃ s : State, s.checkWrite o 0xB030 3 [c] = .ok ∧ c.toNat < 48 ∧ s.integrator (entryThread c.toNat) = true ∧
    (s.thread (entryThread c.toNat)).state = .faulted ∧ mgetD 0 s.stewards.integratorEntry c.toNat ≠ 0) :=
  ⟨⟨128, 191, 0x013FFFFE, integrated [(128, thread0)],
    by and_intros <;> first | decide +kernel | exact rises _ (by decide +kernel) | exact quiet _ (by decide +kernel) | exact (Option.some_get _).symm | rfl⟩,
  ⟨128, 191, running [(128, thread0), (191, { thread0 with state := .waiting, master := 128 })],
    by and_intros <;> first | decide +kernel | exact rises _ (by decide +kernel) | exact quiet _ (by decide +kernel) | exact (Option.some_get _).symm | rfl⟩,
  ⟨127, 191, 0xFF0000, running [(127, thread0)],
    by and_intros <;> first | decide +kernel | exact rises _ (by decide +kernel) | exact quiet _ (by decide +kernel) | exact (Option.some_get _).symm | rfl⟩,
  ⟨127, 0xFFFFFFFE, running [(127, { thread0 with tevent := 1 })],
    by and_intros <;> first | decide +kernel | exact rises _ (by decide +kernel) | exact quiet _ (by decide +kernel) | exact (Option.some_get _).symm | rfl⟩,
  ⟨191, running [(191, thread0)],
    by and_intros <;> first | decide +kernel | exact rises _ (by decide +kernel) | exact quiet _ (by decide +kernel) | exact (Option.some_get _).symm | rfl⟩,
  ⟨191, running [(191, thread0)],
    by and_intros <;> first | decide +kernel | exact rises _ (by decide +kernel) | exact quiet _ (by decide +kernel) | exact (Option.some_get _).symm | rfl⟩,
  ⟨127, 191, running [(127, thread0)],
    by and_intros <;> first | decide +kernel | exact rises _ (by decide +kernel) | exact quiet _ (by decide +kernel) | exact (Option.some_get _).symm | rfl⟩,
  ⟨191, 31, 0x80000000, running [(191, { thread0 with state := .waiting, waitMask := some (0x80000000, 31), tevent := 0x80000000 })],
    by and_intros <;> first | decide +kernel | exact rises _ (by decide +kernel) | exact quiet _ (by decide +kernel) | exact (Option.some_get _).symm | rfl⟩,
  ⟨191, 9, running [(191, { thread0 with tcmp := some 9 })],
    by and_intros <;> first | decide +kernel | exact rises _ (by decide +kernel) | exact quiet _ (by decide +kernel) | exact (Option.some_get _).symm | rfl⟩,
  ⟨191, 9, running [(191, { thread0 with twdog := some 9, master := 128 })],
    by and_intros <;> first | decide +kernel | exact rises _ (by decide +kernel) | exact quiet _ (by decide +kernel) | exact (Option.some_get _).symm | rfl⟩,
  ⟨191, running [(191, thread0)],
    by and_intros <;> first | decide +kernel | exact rises _ (by decide +kernel) | exact quiet _ (by decide +kernel) | exact (Option.some_get _).symm | rfl⟩,
  ⟨1, running [(128, { thread0 with state := .faulted })],
    by and_intros <;> first | decide +kernel | exact rises _ (by decide +kernel) | exact quiet _ (by decide +kernel) | exact (Option.some_get _).symm | rfl⟩,
  ⟨1, running [(128, { thread0 with state := .waiting, waitMask := some (16, 0) })],
    by and_intros <;> first | decide +kernel | exact rises _ (by decide +kernel) | exact quiet _ (by decide +kernel) | exact (Option.some_get _).symm | rfl⟩,
  ⟨15, upIn .bringup,
    by and_intros <;> first | decide +kernel | exact rises _ (by decide +kernel) | exact quiet _ (by decide +kernel) | exact (Option.some_get _).symm | rfl⟩,
  ⟨191, debugging [(191, thread0)],
    by and_intros <;> first | decide +kernel | exact rises _ (by decide +kernel) | exact quiet _ (by decide +kernel) | exact (Option.some_get _).symm | rfl⟩,
  ⟨191, debugging [(191, { thread0 with state := .halted })],
    by and_intros <;> first | decide +kernel | exact rises _ (by decide +kernel) | exact quiet _ (by decide +kernel) | exact (Option.some_get _).symm | rfl⟩,
  ⟨adm, true, 63, 1, upIn .spring,
    (by and_intros <;> first | exact rises _ (by decide +kernel) | decide +kernel)⟩,
  ⟨adm, true, 63, [0, 0, 0, 0, 1, 0, 68, 0, 0, 0, 0, 0], upIn .spring,
    by and_intros <;> first | decide +kernel | exact rises _ (by decide +kernel) | exact quiet _ (by decide +kernel) | exact (Option.some_get _).symm | rfl⟩,
  ⟨adm, 47, integrated [(191, { thread0 with state := .faulted })],
    by and_intros <;> first | decide +kernel | exact rises _ (by decide +kernel) | exact quiet _ (by decide +kernel) | exact (Option.some_get _).symm | rfl⟩⟩

/-- What PairRecordsComplete assumes can hold. -/
theorem witness_PairRecordsComplete :
  (∃ rec : List Byte, (rec.drop 3).length = 72 ∧ byteAt (rec.drop 3) 0 = 1) ∧
  (∃ rec : List Byte, ∃ s : State, byteAt rec 1 < 0x90 ∧ rec.length = 2 + (19 * (blockEntries rec).length + 7) / 8 ∧ ((blockEntries
    rec).any (fun e => e.2.1 && decide (e.2.2 = 3)) = false) ∧ s.mode = .shadow ∧ s.pair.entries = [] ∧ s.pair.frames = []) ∧
  (∃ rec : List Byte, ∃ c, ∃ s : State, (rec.drop 3).length = 644 ∧ s.follows = true ∧ beAt (rec.drop 3) 0 2 = s.nextEpoch ∧
    (s.pair.staged.find? (fun c => decide (c.epoch = s.nextEpoch) && c.closed) = some c)) ∧
  (∃ rec : List Byte, ∃ ops, ∃ s : State, 4 ≤ (rec.drop 3).length ∧ parseOps true (rec.drop 3).length ((rec.drop 3).drop 4) = some ops ∧
    s.follows = true) ∧
  (∃ rec : List Byte, ∃ cs, ∃ s : State, 8 ≤ (rec.drop 3).length ∧ s.learnCommands (rec.drop 3).length ((rec.drop 3).drop 8) = some cs ∧
    s.follows = true) ∧
  (∃ rec : List Byte, ∃ s : State, (rec.drop 3).length % 8 = 0 ∧ s.standby = true) ∧
  (∃ rec : List Byte, ∃ s : State, (rec.drop 3).length = 16 ∧ 1 ≤ byteAt (rec.drop 3) 3 ∧ byteAt (rec.drop 3) 3 ≤ 64 ∧ s.standby = true) ∧
  (∃ rec : List Byte, ∃ s : State, (rec.drop 3).length = 20 ∧ byteAt (rec.drop 3) 0 ≤ 1 ∧ 1 ≤ byteAt (rec.drop 3) 8 ∧ byteAt (rec.drop 3)
    8 ≤ 64 ∧ s.standby = true) ∧
  (∃ rec : List Byte, ∃ s : State, 68 ≤ (rec.drop 3).length ∧ 0x80 ≤ byteAt (rec.drop 3) 0 ∧ byteAt (rec.drop 3) 0 < 0x90 ∧ s.mode ∈
    [Mode.shadow, .catchup]) ∧
  (∃ rec : List Byte, ∃ s : State, (rec.drop 3).length % 8 = 0 ∧ s.standby = true) ∧
  (∃ rec : List Byte, ∃ s : State, (rec.drop 3).length = 16 ∧ byteAt (rec.drop 3) 0 < 16 ∧ s.role = 2 ∧ ((s.digest (byteAt (rec.drop 3)
    0)).own.find? (fun x => decide (x.1 = beAt (rec.drop 3) 4 4)) = none) ∧ (((s.digest (byteAt (rec.drop 3) 0)).number ≠ beAt (rec.drop
    3) 4 4 ∨ (s.digest (byteAt (rec.drop 3) 0)).entries ≠ beAt (rec.drop 3) 2 2))) ∧
  (∃ rec : List Byte, ∃ x, ∃ s : State, (rec.drop 3).length = 16 ∧ byteAt (rec.drop 3) 0 < 16 ∧ s.role = 2 ∧ ((s.digest (byteAt (rec.drop
    3) 0)).own.find? (fun x => decide (x.1 = beAt (rec.drop 3) 4 4)) = some x) ∧ x.2 = beAt (rec.drop 3) 8 8) ∧
  (∃ rec : List Byte, ∃ s : State, 4 ≤ (rec.drop 3).length ∧ ((rec.drop 3).length - 4) % 8 = 0 ∧ bitAt (byteAt (rec.drop 3) 0) 0 = true ∧
    s.mode ∈ [Mode.catchup, .shadow]) ∧
  (∃ s : State, s.mode = .shadow ∧ s.pair.phase = .inStep) ∧
  (∃ rec : List Byte, ∃ s : State, 8 ≤ (rec.drop 3).length ∧ s.mode = .catchup ∧ s.pair.phase = .copying) :=
  ⟨⟨typedRecord 0x41 (1 :: List.replicate 71 0),
    by and_intros <;> first | decide +kernel | exact rises _ (by decide +kernel) | exact quiet _ (by decide +kernel) | exact (Option.some_get _).symm | rfl⟩,
  ⟨[0x3F, 0x8F] ++ packEntries (List.replicate 32 (0xFFFF, true, 2)), pairIn .shadow .inStep,
    by and_intros <;> first | decide +kernel | exact rises _ (by decide +kernel) | exact quiet _ (by decide +kernel) | exact (Option.some_get _).symm | rfl⟩,
  ⟨typedRecord 0x42 ([0, 1] ++ List.replicate 642 0), change0, withPair (pairIn .shadow .inStep) fun p => { p with staged := [change0] },
    by and_intros <;> first | decide +kernel | exact rises _ (by decide +kernel) | exact quiet _ (by decide +kernel) | exact (Option.some_get _).symm | rfl⟩,
  ⟨typedRecord 0x43 (natBe 7 4), [], pairIn .catchup .trial,
    by and_intros <;> first | decide +kernel | exact rises _ (by decide +kernel) | exact quiet _ (by decide +kernel) | exact (Option.some_get _).symm | rfl⟩,
  ⟨typedRecord 0x44 (natBe 7 4 ++ [0, 1, 0, 0]), [], pairIn .shadow .inStep,
    by and_intros <;> first | decide +kernel | exact rises _ (by decide +kernel) | exact quiet _ (by decide +kernel) | exact (Option.some_get _).symm | rfl⟩,
  ⟨typedRecord 0x45 (List.replicate 8 0), pairIn .shadow .inStep,
    by and_intros <;> first | decide +kernel | exact rises _ (by decide +kernel) | exact quiet _ (by decide +kernel) | exact (Option.some_get _).symm | rfl⟩,
  ⟨typedRecord 0x46 ([0, 5, 7, 64] ++ List.replicate 12 255), pairIn .shadow .inStep,
    by and_intros <;> first | decide +kernel | exact rises _ (by decide +kernel) | exact quiet _ (by decide +kernel) | exact (Option.some_get _).symm | rfl⟩,
  ⟨typedRecord 0x47 ([1, 0, 0, 5, 0, 0, 0, 0, 64, 0, 0, 0] ++ List.replicate 8 255), pairIn .shadow .inStep,
    by and_intros <;> first | decide +kernel | exact rises _ (by decide +kernel) | exact quiet _ (by decide +kernel) | exact (Option.some_get _).symm | rfl⟩,
  ⟨typedRecord 0x48 (0x8F :: List.replicate 67 0), pairIn .catchup .trial,
    by and_intros <;> first | decide +kernel | exact rises _ (by decide +kernel) | exact quiet _ (by decide +kernel) | exact (Option.some_get _).symm | rfl⟩,
  ⟨typedRecord 0x49 (List.replicate 8 0), pairIn .shadow .inStep,
    by and_intros <;> first | decide +kernel | exact rises _ (by decide +kernel) | exact quiet _ (by decide +kernel) | exact (Option.some_get _).symm | rfl⟩,
  ⟨typedRecord 0x4A (15 :: List.replicate 15 1), pairIn .catchup .trial,
    by and_intros <;> first | decide +kernel | exact rises _ (by decide +kernel) | exact quiet _ (by decide +kernel) | exact (Option.some_get _).symm | rfl⟩,
  ⟨typedRecord 0x4A ([15, 0, 0, 1] ++ natBe 9 4 ++ natBe 5 8), (9, 5),
    withPair (pairIn .shadow .inStep) fun p => { p with digests := [(15, { Digest.reset with number := 10, own := [(9, 5)] })] },
    by and_intros <;> first | decide +kernel | exact rises _ (by decide +kernel) | exact quiet _ (by decide +kernel) | exact (Option.some_get _).symm | rfl⟩,
  ⟨typedRecord 0x4B [1, 0, 0, 0], pairIn .catchup .trial,
    by and_intros <;> first | decide +kernel | exact rises _ (by decide +kernel) | exact quiet _ (by decide +kernel) | exact (Option.some_get _).symm | rfl⟩,
  ⟨pairIn .shadow .inStep,
    by and_intros <;> first | decide +kernel | exact rises _ (by decide +kernel) | exact quiet _ (by decide +kernel) | exact (Option.some_get _).symm | rfl⟩,
  ⟨typedRecord 0x4D (List.replicate 8 0), pairIn .catchup .copying,
    by and_intros <;> first | decide +kernel | exact rises _ (by decide +kernel) | exact quiet _ (by decide +kernel) | exact (Option.some_get _).symm | rfl⟩⟩

/-- What PairStateCommandsComplete assumes can hold. -/
theorem witness_PairStateCommandsComplete :
  (∃ rec : List Byte, ∃ s : State, (rec.drop 3).length = 8 ∧ s.role = 1) ∧
  (∃ rec : List Byte, ∃ s : State, (rec.drop 3).length = 8 ∧ s.role = 1 ∧ beAt (rec.drop 3) 6 2 = 0 ∧ s.Quiet) ∧
  (∃ lane, ∃ cell, ∃ s : State, lane < 8 ∧ s.laneUp lane = true ∧ mateGood cell = true ∧ mateKind cell = 2) ∧
  (∃ s : State, s.pairEnabled = true ∧ s.mode ≠ .dormant) ∧
  (∃ s : State, s.StoresRise ∧ s.pair.mate.heard = true ∧ s.pairEnabled = true ∧ s.role = 1 ∧ s.power.pins.pairFaultInN = true) ∧
  (∃ s : State, s.pair.mate.heard = true ∧ s.pairEnabled = true ∧ s.role = 1 ∧ s.power.pins.pairFaultInN = false) ∧
  (∃ s : State, s.pair.mate.heard = true ∧ s.pairEnabled = true ∧ s.mode = .shadow ∧ s.pair.phase = .inStep) ∧
  (∃ s : State, s.pair.mate.heard = true ∧ s.pairEnabled = true ∧ s.role = 2 ∧ (¬(s.mode = .shadow ∧ s.pair.phase = .inStep))) ∧
  (∃ s : State, s.mode = .shadow ∧ s.pair.phase = .inStep) ∧
  (∃ s : State, s.role = 2 ∧ (¬(s.mode = .shadow ∧ s.pair.phase = .inStep))) ∧
  (∃ s : State, s.role = 1) ∧
  (∃ o : Origin, ∃ v : List Byte, ∃ s : State, s.StoresRise ∧ s.checkWrite o 0x9000 8 v = .ok ∧ beNat (canonical o.be (typeOf 0x9000 8) v)
    = 1 ∧ s.role = 1) ∧
  (∃ o : Origin, ∃ v : List Byte, ∃ s : State, s.checkWrite o 0x9000 7 v = .ok ∧ beNat (canonical o.be (typeOf 0x9000 7) v) = 1 ∧
    s.pair.phase = .inStep ∧ s.role = 2) ∧
  (∃ o : Origin, ∃ v : List Byte, ∃ s : State, s.checkWrite o 0x9000 7 v = .ok ∧ beNat (canonical o.be (typeOf 0x9000 7) v) = 1 ∧
    s.pair.phase = .inStep ∧ s.role ≠ 2) ∧
  (∃ s : State, s.mode = .shadow) :=
  ⟨⟨typedRecord 0x4E (List.replicate 8 255), pairIn .spring .inStep,
    by and_intros <;> first | decide +kernel | exact rises _ (by decide +kernel) | exact quiet _ (by decide +kernel) | exact (Option.some_get _).symm | rfl⟩,
  ⟨typedRecord 0x4E (List.replicate 6 255 ++ [0, 0]), pairIn .spring .inStep,
    by and_intros <;> first | decide +kernel | exact rises _ (by decide +kernel) | exact quiet _ (by decide +kernel) | exact (Option.some_get _).symm | rfl⟩,
  ⟨7, mateCell 2 7 0 0 0 0 0 false (List.replicate 12 1), (pairIn .spring .inStep).setReg 0x3600 7 3,
    by and_intros <;> first | decide +kernel | exact rises _ (by decide +kernel) | exact quiet _ (by decide +kernel) | exact (Option.some_get _).symm | rfl⟩,
  ⟨pairIn .bringup .apart,
    by and_intros <;> first | decide +kernel | exact rises _ (by decide +kernel) | exact quiet _ (by decide +kernel) | exact (Option.some_get _).symm | rfl⟩,
  ⟨let s := pairIn .drain .apart; { s with power := { s.power with pins := { s.power.pins with pairFaultInN := true } } },
    by and_intros <;> first | decide +kernel | exact rises _ (by decide +kernel) | exact quiet _ (by decide +kernel) | exact (Option.some_get _).symm | rfl⟩,
  ⟨let s := pairIn .drain .apart; { s with power := { s.power with pins := { s.power.pins with pairFaultInN := false } } },
    by and_intros <;> first | decide +kernel | exact rises _ (by decide +kernel) | exact quiet _ (by decide +kernel) | exact (Option.some_get _).symm | rfl⟩,
  ⟨pairIn .shadow .inStep,
    by and_intros <;> first | decide +kernel | exact rises _ (by decide +kernel) | exact quiet _ (by decide +kernel) | exact (Option.some_get _).symm | rfl⟩,
  ⟨pairIn .shadow .trial,
    by and_intros <;> first | decide +kernel | exact rises _ (by decide +kernel) | exact quiet _ (by decide +kernel) | exact (Option.some_get _).symm | rfl⟩,
  ⟨pairIn .shadow .inStep,
    by and_intros <;> first | decide +kernel | exact rises _ (by decide +kernel) | exact quiet _ (by decide +kernel) | exact (Option.some_get _).symm | rfl⟩,
  ⟨pairIn .catchup .copying,
    by and_intros <;> first | decide +kernel | exact rises _ (by decide +kernel) | exact quiet _ (by decide +kernel) | exact (Option.some_get _).symm | rfl⟩,
  ⟨pairIn .proportional .inStep,
    by and_intros <;> first | decide +kernel | exact rises _ (by decide +kernel) | exact quiet _ (by decide +kernel) | exact (Option.some_get _).symm | rfl⟩,
  ⟨adm, [1], pairIn .spring .apart,
    by and_intros <;> first | decide +kernel | exact rises _ (by decide +kernel) | exact quiet _ (by decide +kernel) | exact (Option.some_get _).symm | rfl⟩,
  ⟨adm, [1], pairIn .shadow .inStep,
    by and_intros <;> first | decide +kernel | exact rises _ (by decide +kernel) | exact quiet _ (by decide +kernel) | exact (Option.some_get _).symm | rfl⟩,
  ⟨adm, [1], pairIn .spring .inStep,
    by and_intros <;> first | decide +kernel | exact rises _ (by decide +kernel) | exact quiet _ (by decide +kernel) | exact (Option.some_get _).symm | rfl⟩,
  ⟨upIn .shadow,
    by and_intros <;> first | decide +kernel | exact rises _ (by decide +kernel) | exact quiet _ (by decide +kernel) | exact (Option.some_get _).symm | rfl⟩⟩

/-- What PairTimesAndLanesComplete assumes can hold. -/
theorem witness_PairTimesAndLanesComplete :
  (∃ source, ∃ b, ∃ s : State, (s.pair.blocks.find? (fun b => decide (b.source = source) && !b.flushed) = some b)) ∧
  (∃ k : Nat, ∃ e : MateEntry, ∃ s : State, s.pair.entries[k]? = some e) ∧
  (∃ k : Nat, ∃ f : OwnFrame, ∃ s : State, s.pair.frames[k]? = some f) ∧
  (∃ k : Nat, ∃ b : FabricBit, ∃ s : State, s.pair.fabricBits[k]? = some b) ∧
  (∃ n, ∃ k : Nat, ∃ w : Waiting, ∃ s : State, (s.tmSlice n).waiting[k]? = some w ∧ s.standby = true ∧ s.streamVerdict w = none ∧
    ((w.copy.isSome = true ∨ w.fromFabric = true))) ∧
  (∃ k : Nat, ∃ c : CopyBits, ∃ s : State, s.pair.copyBits[k]? = some c) ∧
  (∃ n, ∃ s : State, n < 16 ∧ (s.digest n).entries ≠ 0 ∧ s.activeInPair = true) ∧
  (∃ s : State, s.mateInShadow = true) ∧
  (∃ unit, ∃ cls, ∃ x, ∃ s : State, (s.pair.openFabric.find? (fun x => decide (x.unit = unit) && decide (x.cls = cls)) = some x)) ∧
  (∃ k, ∃ s : State, k < 8 ∧ (s.lane k).unacked ≠ []) ∧
  (∃ k, ∃ s : State, s.StoresRise ∧ k < 8 ∧ s.reg 0x3600 k ≠ 0 ∧ s.reg 0x3600 k ≠ 6) ∧
  (∃ k, ∃ s : State, s.StoresRise ∧ k < 8 ∧ s.reg 0x3600 k = 6) ∧
  (∃ k, ∃ s : State, s.StoresRise ∧ k < 8 ∧ s.pairEnabled = true ∧ s.mode ≠ .dormant ∧ s.reg 0x3601 k ≠ 0 ∧ s.reg 0x3600 k ∈ [1, 2]) ∧
  (∃ k, ∃ cell, ∃ s : State, k < 8 ∧ s.laneUp k = true ∧ mateGood cell = true ∧ mateKind cell = 1) ∧
  (∃ k, ∃ cell, ∃ s : State, k < 8 ∧ s.laneUp k = true ∧ mateGood cell = true ∧ mateKind cell = 0) ∧
  (∃ o : Origin, ∃ i, ∃ p, ∃ v : List Byte, ∃ s : State, s.StoresRise ∧ s.Quiet ∧ i ∈ [0x3005, 0x3006] ∧ s.checkWrite o i p v = .ok) :=
  ⟨⟨0x8F, { source := 0x8F, first := 5, flushed := false, entries := [] },
    withPair (pairIn .spring .inStep) fun p => { p with blocks := [{ source := 0x8F, first := 5, flushed := false, entries := [] }] },
    by and_intros <;> first | decide +kernel | exact rises _ (by decide +kernel) | exact quiet _ (by decide +kernel) | exact (Option.some_get _).symm | rfl⟩,
  ⟨0, entry0, withPair (pairIn .shadow .inStep) fun p => { p with entries := [entry0] },
    by and_intros <;> first | decide +kernel | exact rises _ (by decide +kernel) | exact quiet _ (by decide +kernel) | exact (Option.some_get _).symm | rfl⟩,
  ⟨0, own0, withPair (pairIn .shadow .inStep) fun p => { p with frames := [own0] },
    by and_intros <;> first | decide +kernel | exact rises _ (by decide +kernel) | exact quiet _ (by decide +kernel) | exact (Option.some_get _).symm | rfl⟩,
  ⟨0, { unit := 5, cls := 7, seq := 0, admits := true, since := 5 },
    withPair (pairIn .shadow .inStep) fun p => { p with fabricBits := [{ unit := 5, cls := 7, seq := 0, admits := true, since := 5 }] },
    by and_intros <;> first | decide +kernel | exact rises _ (by decide +kernel) | exact quiet _ (by decide +kernel) | exact (Option.some_get _).symm | rfl⟩,
  ⟨15, 0, { src := 32, packet := packet0, fromFabric := true, copy := none },
    (pairIn .shadow .inStep).setTmSlice 15 { TmSlice.reset with waiting := [{ src := 32, packet := packet0, fromFabric := true, copy := none }] },
    by and_intros <;> first | decide +kernel | exact rises _ (by decide +kernel) | exact quiet _ (by decide +kernel) | exact (Option.some_get _).symm | rfl⟩,
  ⟨0, { fabric := true, source := 0, unit := 5, position := 0, admits := [true], since := 5 },
    withPair (pairIn .shadow .inStep) fun p => { p with copyBits := [{ fabric := true, source := 0, unit := 5, position := 0, admits := [true], since := 5 }] },
    by and_intros <;> first | decide +kernel | exact rises _ (by decide +kernel) | exact quiet _ (by decide +kernel) | exact (Option.some_get _).symm | rfl⟩,
  ⟨15, withPair (pairIn .spring .inStep) fun p => { p with digests := [(15, { Digest.reset with entries := 1 })] },
    by and_intros <;> first | decide +kernel | exact rises _ (by decide +kernel) | exact quiet _ (by decide +kernel) | exact (Option.some_get _).symm | rfl⟩,
  ⟨pairIn .drain .inStep,
    by and_intros <;> first | decide +kernel | exact rises _ (by decide +kernel) | exact quiet _ (by decide +kernel) | exact (Option.some_get _).symm | rfl⟩,
  ⟨5, 7, { unit := 5, cls := 7, firstSeq := 0, bits := [true], since := 5 },
    withPair (pairIn .spring .inStep) fun p => { p with openFabric := [{ unit := 5, cls := 7, firstSeq := 0, bits := [true], since := 5 }] },
    by and_intros <;> first | decide +kernel | exact rises _ (by decide +kernel) | exact quiet _ (by decide +kernel) | exact (Option.some_get _).symm | rfl⟩,
  ⟨7,
    withPair (pairIn .spring .inStep) fun p => { p with lanes := [(7, { MateLane.reset with unacked := [{ bundle := 0, payload := [], seq := some 0 }] })] },
    by and_intros <;> first | decide +kernel | exact rises _ (by decide +kernel) | exact quiet _ (by decide +kernel) | exact (Option.some_get _).symm | rfl⟩,
  ⟨7, (pairIn .spring .inStep).setReg 0x3600 7 3,
    by and_intros <;> first | decide +kernel | exact rises _ (by decide +kernel) | exact quiet _ (by decide +kernel) | exact (Option.some_get _).symm | rfl⟩,
  ⟨7, (pairIn .spring .inStep).setReg 0x3600 7 6,
    by and_intros <;> first | decide +kernel | exact rises _ (by decide +kernel) | exact quiet _ (by decide +kernel) | exact (Option.some_get _).symm | rfl⟩,
  ⟨7, ((pairIn .spring .apart).setReg 0x3600 7 1).setReg 0x3601 7 1,
    by and_intros <;> first | decide +kernel | exact rises _ (by decide +kernel) | exact quiet _ (by decide +kernel) | exact (Option.some_get _).symm | rfl⟩,
  ⟨7, mateCell 1 7 0 0 0 0 0 false (typedRecord 0x4E (List.replicate 8 0)), (pairIn .spring .inStep).setReg 0x3600 7 3,
    by and_intros <;> first | decide +kernel | exact rises _ (by decide +kernel) | exact quiet _ (by decide +kernel) | exact (Option.some_get _).symm | rfl⟩,
  ⟨7, mateCell 0 7 0 0 0 0 127 false [], (pairIn .spring .inStep).setReg 0x3600 7 3,
    by and_intros <;> first | decide +kernel | exact rises _ (by decide +kernel) | exact quiet _ (by decide +kernel) | exact (Option.some_get _).symm | rfl⟩,
  ⟨adm, 0x3005, 127, natLe 100000 4, upIn .spring,
    by and_intros <;> first | decide +kernel | exact rises _ (by decide +kernel) | exact quiet _ (by decide +kernel) | exact (Option.some_get _).symm | rfl⟩⟩

/-- What StepRunsTheFrontCommand assumes can hold. -/
theorem witness_StepRunsTheFrontCommand :
  (∃ (c : Instr) (rest : List Instr) (s : State), s.pending = c :: rest) :=
  ⟨.selfRefreshEnter 3, [.heartbeatSend], { State.reset with pending := [.selfRefreshEnter 3, .heartbeatSend] }, rfl⟩

/-- What EmptyQueueIdles assumes can hold. -/
theorem witness_EmptyQueueIdles :
  (∃ s : State, s.pending = []) :=
  ⟨upIn .spring,
    rfl⟩

/-- What ResetStateHoldsTheSpecsValues assumes can hold. -/
theorem witness_ResetStateHoldsTheSpecsValues :
  (∃ i, ∃ j, okey i j ≠ okey 0x2101 0) :=
  ⟨0xFFFF, 255,
    by and_intros <;> first | decide +kernel | exact rises _ (by decide +kernel) | exact quiet _ (by decide +kernel) | exact (Option.some_get _).symm | rfl⟩

/-- What StepsKeepTheFormOfTheState assumes can hold. -/
theorem witness_StepsKeepTheFormOfTheState :
  (∃ (c : Instr) (rest : List Instr) (s t : State), s.pending = c :: rest ∧ s.StoresRise ∧ step s = .next t) :=
  ⟨.selfRefreshEnter 3, [], { withStack 3 { Stack.reset with entering := true } 0 with pending := [.selfRefreshEnter 3] }, _, rfl, rises _ (by decide +kernel), rfl⟩

/-- What OnlySomeCommandsMoveModeAndFence assumes can hold. -/
theorem witness_OnlySomeCommandsMoveModeAndFence :
  (∃ (c : Instr) (s t : State), mayMove c = false ∧ exec c s = .next t) ∧
  (∃ (c : Instr) (s t : State), mayFence c = false ∧ exec c s = .next t) :=
  ⟨⟨.selfRefreshEnter 3, withStack 3 { Stack.reset with entering := true } 0, _, rfl, rfl⟩,
  ⟨.selfRefreshEnter 3, withStack 3 { Stack.reset with entering := true } 0, _, rfl, rfl⟩⟩

/-- What DataPathFrames assumes can hold. -/
theorem witness_DataPathFrames :
  ((∃ t, exec (.sliceIdleExpiry 15) (upIn .proportional) = .next t) ∧ (∃ t, exec (.voqRelease 15) (toFabric) = .next t)) :=
  ⟨⟨_, rfl⟩, ⟨_, rfl⟩⟩

/-- What PowerFrames assumes can hold. -/
theorem witness_PowerFrames :
  ((∃ t, exec (.drainTimeout) (upIn .drain) = .next t) ∧ (∃ t, exec (.twclkRestored) (upIn .spring) = .next t)) :=
  ⟨⟨_, rfl⟩, ⟨_, rfl⟩⟩

/-- What AccessFrames assumes can hold. -/
theorem witness_AccessFrames :
  ((∃ t, exec (.sessionIdleExpiry 1) (withSession []) = .next t) ∧ (∃ t, exec (.read adm 0x3006 127 0) (upIn .spring) = .next t)) :=
  ⟨⟨_, rfl⟩, ⟨_, rfl⟩⟩

/-- What TrafficFrames assumes can hold. -/
theorem witness_TrafficFrames :
  ((∃ t, exec (.disable adm 0x10000000) (withQueues (upIn .spring) [(0, queue0 1 [])]) = .next t) ∧ (∃ t, exec (.queueCreate adm
    voqParams) (upIn .spring) = .next t)) :=
  ⟨⟨_, rfl⟩, ⟨_, rfl⟩⟩

/-- What FabricFrames assumes can hold. -/
theorem witness_FabricFrames :
  ((∃ t, exec (.dataCell 159 dataCell0) (linked 3) = .next t) ∧ (∃ t, exec (.grantIssue) (asked) = .next t)) :=
  ⟨⟨_, rfl⟩, ⟨_, rfl⟩⟩

/-- What MemoryAndPortFrames assumes can hold. -/
theorem witness_MemoryAndPortFrames :
  ((∃ t, exec (.selfRefreshEnter 3) (withStack 3 { Stack.reset with entering := true } 0) = .next t) ∧ (∃ t, exec (.bankRefresh 127) (upIn
    .spring) = .next t)) :=
  ⟨⟨_, rfl⟩, ⟨_, rfl⟩⟩

/-- What HostAndStewardFrames assumes can hold. -/
theorem witness_HostAndStewardFrames :
  ((∃ t, exec (.coalesceExpiry 4095) (hosting chan0) = .next t) ∧ (∃ t, exec (.ringEnable adm 0x20000FFF) (hosting chan0) = .next t)) :=
  ⟨⟨_, rfl⟩, ⟨_, rfl⟩⟩

/-- What CounterFirmwareAndTestFrames assumes can hold. -/
theorem witness_CounterFirmwareAndTestFrames :
  ((∃ t, exec (.clearEverything adm) (upIn .spring) = .next t) ∧ (∃ t, exec (.clearObject adm 0x3010 127) (upIn .spring) = .next t)) :=
  ⟨⟨_, rfl⟩, ⟨_, rfl⟩⟩

/-- What PairFrames assumes can hold. -/
theorem witness_PairFrames :
  ((∃ t, exec (.identity (typedRecord 0x41 (1 :: List.replicate 71 0))) (pairIn .bringup .apart) = .next t) ∧ (∃ t, exec (.departureMark
    (typedRecord 0x45 [])) (pairIn .shadow .inStep) = .next t)) :=
  ⟨⟨_, rfl⟩, ⟨_, rfl⟩⟩

/-- What BatchCommandsWaitForTheirCommit assumes can hold. -/
theorem witness_BatchCommandsWaitForTheirCommit :
  (∃ (o : Origin) (s t : State), s.Quiet ∧ exec (.batchOpen o) s = .next t) :=
  ⟨adm, upIn .spring, _, quiet _ (by decide +kernel), rfl⟩

/-- What RefusedWritesChangeNothing assumes can hold. -/
theorem witness_RefusedWritesChangeNothing :
  (∃ (o : Origin) (s : State), s.checkWrite o 0x2000 2 [255] ≠ .ok ∧ s.checkWrite o 0x7140 127 [] ≠ .ok ∧ s.checkWrite o 0x9000 7 [] ≠
    .ok) :=
  ⟨adm, upIn .spring, by decide +kernel, by decide +kernel, by decide +kernel⟩

/-- What ResetRequestsOutsideTheirModesDrawMode assumes can hold. -/
theorem witness_ResetRequestsOutsideTheirModesDrawMode :
  (∃ o : Origin, ∃ s : State, s.checkWrite o 0x1010 1 [1] = .ok ∧ s.mode = .dormant) ∧
  (∃ o : Origin, ∃ s : State, s.checkWrite o 0x1010 1 [2] = .ok ∧ s.mode ∉ [Mode.dormant, .bringup, .diagnostic]) :=
  ⟨⟨adm, upIn .dormant,
    by and_intros <;> first | decide +kernel | exact rises _ (by decide +kernel) | exact quiet _ (by decide +kernel) | exact (Option.some_get _).symm | rfl⟩,
  ⟨adm, upIn .spring,
    by and_intros <;> first | decide +kernel | exact rises _ (by decide +kernel) | exact quiet _ (by decide +kernel) | exact (Option.some_get _).symm | rfl⟩⟩

/-- What PuntCodesAreRefused assumes can hold. -/
theorem witness_PuntCodesAreRefused :
  (∃ (i : Nat) (c : List Byte), (0x4100 ≤ i ∧ i ≤ 0x4103 ∨ 0x4108 ≤ i ∧ i ≤ 0x410B) ∧ (decodeStep c).kind ∈ [0x0F, 0x11] ∧ ¬(1 ≤
    (decodeStep c).operand % 256 ∧ (decodeStep c).operand % 256 ≤ 0x0F) ∧ ¬(0x40 ≤ (decodeStep c).operand % 256 ∧ (decodeStep c).operand
    % 256 ≤ 0x7F)) ∧
  (∃ i, ∃ kind, ∃ code, ((0x4100 ≤ i ∧ i ≤ 0x4103 ∨ 0x4108 ≤ i ∧ i ≤ 0x410B)) ∧ kind ∈ [0x0F, 0x11] ∧ code < 256) :=
  ⟨⟨0x410B, natBe (0x11 * 2 ^ 250 + 0x10 * 2 ^ 184 + stepEnd * 2 ^ 70) 32, by decide +kernel⟩,
  ⟨0x4103, 0x0F, 255,
    by and_intros <;> first | decide +kernel | exact rises _ (by decide +kernel) | exact quiet _ (by decide +kernel) | exact (Option.some_get _).symm | rfl⟩⟩

/-- What PrefilterNeverHidesAMatch assumes can hold. -/
theorem witness_PrefilterNeverHidesAMatch :
  (∃ rules : List Rule, ∃ i, rules ≠ [] ∧ i < 16) ∧
  (∃ s : RuleSet, ∃ rules : List Rule, ∃ i, ∃ r : Rule, r ∈ rules ∧ (prefilter s rules).1.testBit i = true) ∧
  (∃ s : RuleSet, ∃ rules : List Rule, ∃ i, (prefilter s rules).1.testBit i = false) ∧
  (∃ (t : Tables) (key : List Byte), rising t.rules = true ∧ ∀ x ∈ t.rules, x.2.value.length = key.length ∧ x.2.mask.length = key.length) :=
  ⟨⟨[rule0], 15,
    by and_intros <;> first | decide +kernel | exact rises _ (by decide +kernel) | exact quiet _ (by decide +kernel) | exact (Option.some_get _).symm | rfl⟩,
  ⟨{ params := setParams, baseBlock := 0 }, [rule0], 0, rule0,
    by and_intros <;> first | decide +kernel | exact rises _ (by decide +kernel) | exact quiet _ (by decide +kernel) | exact (Option.some_get _).symm | rfl⟩,
  ⟨{ params := setParams, baseBlock := 0 }, [rule0], 16,
    by and_intros <;> first | decide +kernel | exact rises _ (by decide +kernel) | exact quiet _ (by decide +kernel) | exact (Option.some_get _).symm | rfl⟩,
  ⟨{ Tables.reset with rules := [(0, rule0)] }, List.replicate 20 5, by decide +kernel, by decide +kernel⟩⟩

/-- What RowsMatchBitByBit assumes can hold. -/
theorem witness_RowsMatchBitByBit :
  (∃ (r : Rule) (b : Nat), (beNat r.mask).testBit b = true) ∧
  (∃ action : List Byte, ∃ value : List Byte, ∃ mask : List Byte, ∃ b, action.length = 16 ∧ value.length = mask.length ∧ (beNat
    value).testBit b = true ∧ (beNat mask).testBit b = false) :=
  ⟨⟨rule0, 159, by decide +kernel⟩,
  ⟨List.replicate 16 0, List.replicate 20 255, List.replicate 20 0, 159,
    by and_intros <;> first | decide +kernel | exact rises _ (by decide +kernel) | exact quiet _ (by decide +kernel) | exact (Option.some_get _).symm | rfl⟩⟩

/-- What NodesWithChildrenAreNotDestroyed assumes can hold. -/
theorem witness_NodesWithChildrenAreNotDestroyed :
  (∃ (o : Origin) (h : Nat) (s : State), s.Quiet ∧ h < 2 ^ 32 ∧ s.checkPlain o (plainReq 0x11 0 0 12 (numBytes o.be h 4)) 12 4
    (s.checkAnyHandle h) = .ok ∧ handleKind h = 5 ∧ ((∃ e ∈ s.tm.nodes, e.2.parent = some (handleIndex h)) ∨ (∃ e ∈ s.tm.queues, e.2.voq
    = false ∧ e.2.parentNode = handleIndex h))) ∧
  (∃ i, ∃ q, ∃ s : State, s.Quiet ∧ rising s.tm.queues = true ∧ mget s.tm.queues i = some q ∧ q.admin = .destroying) :=
  ⟨⟨adm, 0x50000000, sending, quiet _ (by decide +kernel), by decide, by decide +kernel, by decide +kernel, Or.inr (by decide +kernel)⟩,
  ⟨0, { queue0 1 [] with admin := .destroying }, withQueues State.reset [(0, { queue0 1 [] with admin := .destroying })],
    by and_intros <;> first | decide +kernel | exact rises _ (by decide +kernel) | exact quiet _ (by decide +kernel) | exact (Option.some_get _).symm | rfl⟩⟩

/-- What DestroyedHandlesAreStale assumes can hold. -/
theorem witness_DestroyedHandlesAreStale :
  (∃ o : Origin, ∃ h, ∃ s : State, s.Quiet ∧ s.StoresRise ∧ h < 2 ^ 32 ∧ handleKind h ∈ [3, 4, 5] ∧ s.destroyBusy h = false ∧ s.checkPlain
    o (plainReq 0x11 0 0 12 (numBytes o.be h 4)) 12 4 (s.checkAnyHandle h) = .ok) :=
  ⟨adm, 0x40000000, tabled,
    by and_intros <;> first | decide +kernel | exact rises _ (by decide +kernel) | exact quiet _ (by decide +kernel) | exact (Option.some_get _).symm | rfl⟩

/-- What CountersWrapAtTheirWidth assumes can hold. -/
theorem witness_CountersWrapAtTheirWidth :
  (∃ s : State, s.StoresRise) :=
  ⟨tabled,
    by and_intros <;> first | decide +kernel | exact rises _ (by decide +kernel) | exact quiet _ (by decide +kernel) | exact (Option.some_get _).symm | rfl⟩

/-- What MessagesAreDeliveredWhole assumes can hold. -/
theorem witness_MessagesAreDeliveredWhole :
  (∃ master, ∃ m, ∃ d, ∃ header, ∃ ws : List Nat, ∃ s : State, m < 64 ∧ d < 2 ∧ s.mode ≠ .dormant ∧ ((192 ≤ master ∨ s.issues master =
    true)) ∧ s.mayUseMailbox master m = true ∧ header < 2 ^ 32 ∧ fld header 15 8 = 0 ∧ ((∀ w ∈ ws, w < 2 ^ 32)) ∧ header % 256 =
    ws.length ∧ 0 < ws.length ∧ ((s.mailbox m).dir d).claim = none ∧ ((s.mailbox m).dir d).partialWords = [] ∧ ((s.mailbox m).dir
    d).words.length + ws.length < 256) :=
  ⟨192, 63, 1, 255, List.replicate 255 5, mailing .reset,
    by and_intros <;> first | decide +kernel | exact rises _ (by decide +kernel) | exact quiet _ (by decide +kernel) | exact (Option.some_get _).symm | rfl⟩

/-- What LocksExcludeOtherMasters assumes can hold. -/
theorem witness_LocksExcludeOtherMasters :
  (∃ m, ∃ l, ∃ h, ∃ s : State, l < 256 ∧ m < 256 ∧ s.mode ≠ .dormant ∧ mget s.host.locks l = some h) ∧
  (∃ m, ∃ l, ∃ s : State, s.StoresRise ∧ l < 256 ∧ s.mode ≠ .dormant ∧ mget s.host.locks l ≠ some m) ∧
  (∃ (m l l' : Nat) (s t : State), l' ≠ l ∧ exec (.lockAcquire m l) s = .next t) :=
  ⟨⟨255, 255, 0, let s := upIn .bringup; { s with host := { s.host with locks := [(255, 0)] } },
    by and_intros <;> first | decide +kernel | exact rises _ (by decide +kernel) | exact quiet _ (by decide +kernel) | exact (Option.some_get _).symm | rfl⟩,
  ⟨255, 255, upIn .bringup,
    by and_intros <;> first | decide +kernel | exact rises _ (by decide +kernel) | exact quiet _ (by decide +kernel) | exact (Option.some_get _).symm | rfl⟩,
  ⟨0, 255, 254, upIn .bringup, _, by decide, rfl⟩⟩

/-- What DoorbellSetsSignal assumes can hold. -/
theorem witness_DoorbellSetsSignal :
  (∃ k, ∃ s : State, k < 64 ∧ s.mode ≠ .dormant) ∧
  (∃ k, ∃ s : State, k < 64 ∧ s.mode ≠ .dormant) ∧
  (∃ (c : Instr) (k k' v : Nat) (s t : State), c ∈ [Instr.dbStatus k v, .dbMask k v, .dbRing k v] ∧ k' ≠ k ∧ exec c s = .next t) :=
  ⟨⟨63, upIn .bringup,
    by and_intros <;> first | decide +kernel | exact rises _ (by decide +kernel) | exact quiet _ (by decide +kernel) | exact (Option.some_get _).symm | rfl⟩,
  ⟨63, upIn .bringup,
    by and_intros <;> first | decide +kernel | exact rises _ (by decide +kernel) | exact quiet _ (by decide +kernel) | exact (Option.some_get _).symm | rfl⟩,
  ⟨.dbRing 63 1, 63, 0, 1, upIn .bringup, _, by decide, by decide, rfl⟩⟩

/-- What UnauthenticatedMessagesDoNothing assumes can hold. -/
theorem witness_UnauthenticatedMessagesDoNothing :
  (∃ p, ∃ frame, ∃ m, ∃ s : State, s.StoresRise ∧ s.Receives p frame m ∧ m.msgType = 1 ∧ s.validSession m = none) ∧
  (∃ p, ∃ frame, ∃ m, ∃ s : State, s.StoresRise ∧ s.Receives p frame m ∧ m.msgType = 5 ∧ s.validSession m = none) :=
  ⟨⟨0, poaFrame (poaHeader 1 1 16 0) [] Config.factoryKey, poaTaken (poaHeader 1 1 16 0) [] Config.factoryKey, upIn .dormant,
    (by exact ⟨rises _ (by decide +kernel), receives _ _ _ _ _ (by decide +kernel) (by decide +kernel) (by decide +kernel), by decide +kernel, rfl⟩)⟩,
  ⟨0, poaFrame (poaHeader 5 1 0 0) [] Config.factoryKey, poaTaken (poaHeader 5 1 0 0) [] Config.factoryKey, upIn .dormant,
    (by exact ⟨rises _ (by decide +kernel), receives _ _ _ _ _ (by decide +kernel) (by decide +kernel) (by decide +kernel), by decide +kernel, rfl⟩)⟩⟩

/-- What RolesAndModesLimitAccess assumes can hold. -/
theorem witness_RolesAndModesLimitAccess :
  (∃ role, role < 2) ∧
  (∃ i, ∃ j, ∃ d, dictRow i j = some d ∧ d.access = .rwb) ∧
  (∃ s : State, ∃ i, s.mode = .dormant ∧ s.power.recovery = false ∧ i / 256 ∉ [0x10, 0x11, 0x20, 0x21, 0x22, 0x23]) ∧
  (∃ s : State, ∃ i, s.mode = .dormant ∧ s.power.recovery = false ∧ i / 256 ∉ [0x10, 0x11, 0x20, 0x21, 0x22, 0x23]) ∧
  (∃ s : State, ∃ i, ∃ j, ∃ d, dictRow i j = some d ∧ d.access = .rwb ∧ s.mode ∉ [Mode.bringup, .diagnostic]) :=
  ⟨⟨1,
    by and_intros <;> first | decide +kernel | exact rises _ (by decide +kernel) | exact quiet _ (by decide +kernel) | exact (Option.some_get _).symm | rfl⟩,
  ⟨0x7140, 127, (dictRow 0x7140 127).get (by decide +kernel),
    by and_intros <;> first | decide +kernel | exact rises _ (by decide +kernel) | exact quiet _ (by decide +kernel) | exact (Option.some_get _).symm | rfl⟩,
  ⟨upIn .dormant, 0x2400,
    by and_intros <;> first | decide +kernel | exact rises _ (by decide +kernel) | exact quiet _ (by decide +kernel) | exact (Option.some_get _).symm | rfl⟩,
  ⟨upIn .dormant, 0x0FFF,
    by and_intros <;> first | decide +kernel | exact rises _ (by decide +kernel) | exact quiet _ (by decide +kernel) | exact (Option.some_get _).symm | rfl⟩,
  ⟨upIn .drain, 0x7140, 127, (dictRow 0x7140 127).get (by decide +kernel),
    by and_intros <;> first | decide +kernel | exact rises _ (by decide +kernel) | exact quiet _ (by decide +kernel) | exact (Option.some_get _).symm | rfl⟩⟩

/-- What MateCellsReadBack assumes can hold. -/
theorem witness_MateCellsReadBack :
  (∃ (kind lane bundle bundleAck seq ackSeq credits : Nat) (payload : List Byte), (kind = 0 ∧ payload.length = 0 ∨ kind = 1 ∧ 1 ≤
    payload.length ∧ payload.length ≤ 492 ∨ kind = 2 ∧ payload.length = 12) ∧ lane < 8 ∧ bundle < 2 ^ 32 ∧ bundleAck < 2 ^ 32 ∧ seq < 2
    ^ 16 ∧ ackSeq < 2 ^ 16 ∧ credits < 2 ^ 7) :=
  ⟨1, 7, 2 ^ 32 - 1, 2 ^ 32 - 1, 65535, 65535, 127, List.replicate 492 255, by decide +kernel⟩

/-- What FabricCellsReadBack assumes can hold. -/
theorem witness_FabricCellsReadBack :
  (∃ (kind dest unit link cls seq ack credits : Nat) (payload : List Byte), kind < 3 ∧ payload.length ≤ 240 ∧ dest < 2 ^ 12 ∧ unit < 2 ^
    12 ∧ link < 2 ^ 8 ∧ cls < 2 ^ 3 ∧ seq < 2 ^ 16 ∧ ack < 2 ^ 16 ∧ credits < 2 ^ 7) :=
  ⟨2, 4095, 4095, 255, 7, 65535, 65535, 127, List.replicate 240 255, by decide +kernel⟩

/-- What RecordsAndOperationsReadBack assumes can hold. -/
theorem witness_RecordsAndOperationsReadBack :
  (∃ es : List (Nat × Bool × Nat), 1 ≤ es.length ∧ es.length ≤ 32 ∧ ((∀ e ∈ es, e.1 < 2 ^ 16 ∧ e.2.2 < 4))) ∧
  (∃ ty, ∃ body : List Byte, 0x40 ≤ ty ∧ ty < 0x60 ∧ body.length + 3 < 2 ^ 16) ∧
  (∃ ops : List OpReq, ((∀ r ∈ ops, r.opcode < 2 ^ 8 ∧ r.flags < 2 ^ 8 ∧ r.index < 2 ^ 16 ∧ r.sub < 2 ^ 8 ∧ r.ty < 2 ^ 8 ∧ r.data.length <
    2 ^ 16))) :=
  ⟨⟨List.replicate 32 (65535, true, 3),
    by and_intros <;> first | decide +kernel | exact rises _ (by decide +kernel) | exact quiet _ (by decide +kernel) | exact (Option.some_get _).symm | rfl⟩,
  ⟨0x5F, List.replicate 65532 0,
    (⟨by decide, by decide, by rw [List.length_replicate]; decide⟩)⟩,
  ⟨[{ opcode := 255, flags := 255, index := 65535, sub := 255, ty := 255, data := [] }],
    by and_intros <;> first | decide +kernel | exact rises _ (by decide +kernel) | exact quiet _ (by decide +kernel) | exact (Option.some_get _).symm | rfl⟩⟩

end Sys2Proof.Tests
end

section
/-! Numbers as bytes: what is read back of a number that was written out (R3). -/

namespace Sys2Proof

theorem natBe_length (n k : Nat) : (natBe n k).length = k := by
  induction k with
  | zero => rfl
  | succ k ih => simp [natBe, ih]

theorem natLe_length (n k : Nat) : (natLe n k).length = k := by
  induction k generalizing n with
  | zero => rfl
  | succ k ih => simp [natLe, ih]

/-- Reading on from what was read before: the digits of base 256 come after it. -/
theorem natBe_foldl (n k a : Nat) : (natBe n k).foldl (fun acc b => acc * 256 + b.toNat) a = a * 256 ^ k + n % 256 ^ k := by
  induction k generalizing a with
  | zero => simp [natBe, Nat.mod_one]
  | succ k ih =>
    have htop : (BitVec.ofNat 8 (n >>> (8 * k))).toNat = n / 256 ^ k % 256 := by
      rw [BitVec.toNat_ofNat, Nat.shiftRight_eq_div_pow, Nat.pow_mul]
    rw [natBe, List.foldl_cons, ih, htop, Nat.pow_succ, Nat.mod_mul, Nat.add_mul]
    ac_rfl

/-- The bytes of a number, most significant first, spell it (R3). -/
theorem beNat_natBe (n k : Nat) : beNat (natBe n k) = n % 256 ^ k := by
  rw [beNat, natBe_foldl, Nat.zero_mul, Nat.zero_add]

/-- The bytes of a number, least significant first, spell it (R3). -/
theorem leNat_natLe (n k : Nat) : leNat (natLe n k) = n % 256 ^ k := by
  induction k generalizing n with
  | zero => simp [natLe, leNat, Nat.mod_one]
  | succ k ih =>
    rw [natLe, leNat, ih, BitVec.toNat_ofNat, Nat.shiftRight_eq_div_pow, Nat.pow_succ' (m := 256), Nat.mod_mul]

theorem slice_self {bs : List Byte} {k : Nat} (h : bs.length = k) : slice bs 0 k = bs := by
  subst h
  simp [slice]

/-- A number sent in the byte order of a path is read back there (R3). -/
theorem numAt_numBytes {n k : Nat} (be : Bool) (h : n < 256 ^ k) : numAt be (numBytes be n k) 0 k = n := by
  cases be
  · simp [numAt, numBytes, leAt, slice_self (natLe_length n k), leNat_natLe, Nat.mod_eq_of_lt h]
  · simp [numAt, numBytes, beAt, slice_self (natBe_length n k), beNat_natBe, Nat.mod_eq_of_lt h]

end Sys2Proof
end

section
/-! Sparse stores: what is listed after a key was set or taken out. -/

namespace Sys2Proof.Machine

theorem mput_mput {α : Type} (m : List (Nat × α)) (k : Nat) (v w : α) : mput (mput m k v) k w = mput m k w := by
  induction m with
  | nil => simp [mput]
  | cons e m ih =>
    rw [mput, mput]
    by_cases hlt : k < e.1
    · simp [mput, hlt]
    · by_cases heq : e.1 = k
      · simp [mput, heq]
      · simp [mput, hlt, heq, ih]

/-- What is listed after a key was set was set or was listed before. -/
theorem mem_mput {α : Type} {m : List (Nat × α)} {k : Nat} {v : α} {e : Nat × α} (h : e ∈ mput m k v) : e = (k, v) ∨ e ∈ m := by
  induction m with
  | nil => simpa [mput] using h
  | cons a m ih =>
    unfold mput at h
    split at h
    · simpa using h
    · split at h
      · rcases List.mem_cons.mp h with h | h
        · exact .inl h
        · exact .inr (List.mem_cons_of_mem _ h)
      · rcases List.mem_cons.mp h with h | h
        · exact .inr (h ▸ List.mem_cons_self ..)
        · exact (ih h).imp id (List.mem_cons_of_mem _)

/-- What is listed after a key was taken out was listed before. -/
theorem mem_mdel {α : Type} {m : List (Nat × α)} {k : Nat} {e : Nat × α} (h : e ∈ mdel m k) : e ∈ m := by
  induction m with
  | nil => exact h
  | cons a m ih =>
    unfold mdel at h
    split at h
    · exact List.mem_cons_of_mem _ h
    · rcases List.mem_cons.mp h with h | h
      · exact h ▸ List.mem_cons_self ..
      · exact List.mem_cons_of_mem _ (ih h)

/-- The one entry that passes a test is found. -/
theorem find?_mput {α : Type} {m : List (Nat × α)} {k : Nat} {v : α} {p : Nat × α → Bool} (hv : p (k, v) = true)
    (hm : ∀ e ∈ m, p e = false) : (mput m k v).find? p = some (k, v) := by
  induction m with
  | nil => simp [mput, hv]
  | cons e m ih =>
    have he : p e = false := hm e (List.mem_cons_self ..)
    unfold mput
    split
    · simp [hv]
    · split
      · simp [hv]
      · rw [List.find?_cons, he]
        exact ih fun x hx => hm x (List.mem_cons_of_mem _ hx)

end Sys2Proof.Machine
end

section
/-! Channels are created: one lemma for the end of every CREATE, and one for each kind's rule (R128). -/

namespace Sys2Proof.Machine

/-- A CREATE whose checks pass runs its kind's rule (R128). -/
theorem State.MayCreate.runCreate_eq {s u : State} {o : Origin} {i h : Nat} {v : List Byte}
    {f : List Byte → State → Except Status (Nat × State)} (hc : s.MayCreate o i v) (hf : f v s = .ok (h, u)) :
    s.runCreate o i v f = (.ok, h, u) := by
  obtain ⟨hrole, ⟨hmode, hcatchup, hshadow⟩, hrow⟩ := hc
  obtain ⟨d, hd, hlim⟩ := Option.any_eq_true .. |>.mp hrow
  simp [State.runCreate, hd, hrole, hmode, hcatchup, hshadow, hlim, hf]

/-- The end of a CREATE that its rule made changes nothing but what announces it. -/
theorem endCreate_onlyIn (o : Origin) (i h : Nat) (v : List Byte) (u : State) :
    OnlyIn [.access, .pair, .output] u (State.endCreate o i v (.ok, h, u)) :=
  Keeps.onlyIn (State.endCreate_keeps (Covers.refl _) (.pair (.pair .start))).keeps

/-- With no mate in SHADOW the end of a CREATE is its outcome and its answer, which holds the handle (R128, R137). -/
theorem endCreate_unpaired {u : State} (hu : u.mateInShadow = false) (o : Origin) (i h : Nat) (v : List Byte) :
    State.endCreate o i v (.ok, h, u) = (u.noteOutcome o i 0 .ok).answer o (dataAns 0x10 i 0 12 (numBytes o.be h 4)) := by
  have hn : (u.noteOutcome o i 0 .ok).mateInShadow = false := hu
  simp [State.endCreate, hn, State.answerHeld, dataAns]

/-- A command that is the CREATE of a kind makes what the kind's rule makes. -/
theorem creates_of_rule {c : Instr} {o : Origin} {i h : Nat} {v : List Byte} {s u : State}
    {f : List Byte → State → Except Status (Nat × State)} (he : exec c s = .next (State.endCreate o i v (s.runCreate o i v f)))
    (hc : s.MayCreate o i v) (hf : f v s = .ok (h, u)) : Creates c o i s h u := by
  refine ⟨_, he, ?_⟩
  rw [hc.runCreate_eq hf]
  refine ⟨endCreate_onlyIn o i h v u, fun hu => ?_⟩
  rw [endCreate_unpaired hu]
  exact ⟨_, rfl⟩

/-- A region finds its index, its buckets and its filter entries (R209, log entry 40). -/
theorem State.placeRegion_eq {s : State} {em : Bool} {v : List Byte} {ri b : Nat} (hi : lowestFree s.tables.regions 64 = some ri)
    (hb : lowestRun (s.tables.bucketRuns em) (Region.buckets { em := em, params := v, base := 0 }) (if em then 1048576 else 1572864) = some b)
    (hf : Region.filterEntries { em := em, params := v, base := 0 } ≤ s.tables.filterFree) :
    s.placeRegion em v = .ok (s.handle 7 ri, s.addRegion ri { em := em, params := v, base := b }) := by
  simp [State.placeRegion, hi, hb, Nat.not_lt.mpr hf]

/-- An exact-match region takes no filter entry, so that it needs buckets alone (R211). -/
theorem createEmRegion_eq {s : State} {v : List Byte} {ri b : Nat} (hv : emParamsOk v = true) (hi : lowestFree s.tables.regions 64 = some ri)
    (hb : lowestRun (s.tables.bucketRuns true) (Region.buckets { em := true, params := v, base := 0 }) 1048576 = some b) :
    createEmRegion v s = .ok (s.handle 7 ri, s.addRegion ri { em := true, params := v, base := b }) := by
  rw [createEmRegion, if_pos hv]
  exact State.placeRegion_eq hi hb (Nat.zero_le _)

theorem createLpmRegion_eq {s : State} {v : List Byte} {ri b : Nat} (hv : lpmParamsOk v = true) (hi : lowestFree s.tables.regions 64 = some ri)
    (hb : lowestRun (s.tables.bucketRuns false) (Region.buckets { em := false, params := v, base := 0 }) 1572864 = some b)
    (hf : Region.filterEntries { em := false, params := v, base := 0 } ≤ s.tables.filterFree) :
    createLpmRegion v s = .ok (s.handle 7 ri, s.addRegion ri { em := false, params := v, base := b }) := by
  rw [createLpmRegion, if_pos hv]
  exact State.placeRegion_eq hi hb hf

theorem createRuleSet_eq {s : State} {v : List Byte} {k b : Nat} (hv : ruleSetParamsOk v = true) (hk : lowestFree s.tables.ruleSets 256 = some k)
    (hb : lowestRun s.blockRuns (RuleSet.blocks { params := v, baseBlock := 0 }) 256 = some b) :
    createRuleSet v s = .ok (s.handle 6 k,
      { s with tables := { s.tables with ruleSets := mput s.tables.ruleSets k { params := v, baseBlock := b } } }) := by
  simp [createRuleSet, hv, hk, hb]

/-- A meter that names its slice is made there (R312). -/
theorem createMeter_eq {s : State} {v : List Byte} {n k : Nat} (hv : meterParamsOk v = true) (hn : byteAt v 2 = n) (hany : n ≠ 0xFF)
    (hk : freeIndex (s.meters.filter fun (i, _) => decide (i / 65536 = n)) (65536 * n) 65536 = some k) :
    createMeter v s = .ok (s.handle 3 k, { s with meters := mput s.meters k (Meter.full (patch v 2 (natBe n 1)) s.now) }) := by
  subst hn
  simp [createMeter, hv, hany, hk]

theorem createCounterSet_eq {s : State} {v : List Byte} {k : Nat} (hl : v.length = 8) (hz : beAt v 4 4 = 0)
    (hk : lowestFree s.stats.sets 1048576 = some k) :
    createCounterSet v s = .ok (s.handle 4 k,
      { s with stats := { s.stats with sets := mput s.stats.sets k { tag := beAt v 0 4, packets := 0, bytes := 0 } } }) := by
  simp [createCounterSet, hl, hz, hk]

/-- Settles O12: each creating command is the CREATE of its kind, and the kind's rule finds the place that is assumed free. -/
theorem channelsAreCreated : Obligations.ChannelsAreCreated := by
  refine ⟨?emRegion, ?lpmRegion, ?ruleSet, ?queue, ?node, ?meter, ?channel, ?counterSet⟩
  case emRegion => exact fun o v ri b s hc hv hi hb => creates_of_rule rfl hc (createEmRegion_eq hv hi hb)
  case lpmRegion => exact fun o v ri b s hc hv hi hb hf => creates_of_rule rfl hc (createLpmRegion_eq hv hi hb hf)
  case ruleSet => exact fun o v k b s hc hv hk hb => creates_of_rule rfl hc (createRuleSet_eq hv hk hb)
  case queue => exact fun o v h u s hc hf => creates_of_rule rfl hc hf
  case node => exact fun o v h u s hc hf => creates_of_rule rfl hc hf
  case meter => exact fun o v n k s hc hv hn hany hk => creates_of_rule rfl hc (createMeter_eq hv hn hany hk)
  case channel => exact fun o v h u s hc hf => creates_of_rule rfl hc hf
  case counterSet => exact fun o v k s hc hl hz hk => creates_of_rule rfl hc (createCounterSet_eq hl hz hk)

end Sys2Proof.Machine
end

section
/-! One bare operation in a quiet state: it is served, and its answer stands or waits; nothing else may go on (R124 to R126). -/

namespace Sys2Proof.Machine

/-- No job may go on. -/
def idleJobs (js : List (Nat × Job)) : Prop := ∀ e ∈ js, e.2.ready = false

theorem idleJobs.find {js : List (Nat × Job)} (h : idleJobs js) : (js.find? fun e => e.2.ready) = none :=
  List.find?_eq_none.mpr fun e he => by simp [h e he]

theorem idleJobs.mput {js : List (Nat × Job)} (h : idleJobs js) {k : Nat} {j : Job} (hj : j.ready = false) : idleJobs (mput js k j) :=
  fun e he => (mem_mput he).elim (fun heq => heq ▸ hj) (h e)

theorem idleJobs.mdel {js : List (Nat × Job)} (h : idleJobs js) (k : Nat) : idleJobs (mdel js k) :=
  fun e he => h e (mem_mdel he)

theorem State.releaseWaiting_of_none {s : State} (h : s.acc.waiting = []) : s.releaseWaiting = s := by
  have hsame : { s with acc := { s.acc with waiting := [] } } = s := by rw [← h]
  simpa [State.releaseWaiting, h] using hsame

/-- With no answer held, settling is letting go on what may go on. -/
theorem State.settle_of_none {s : State} (h : s.acc.waiting = []) : ∃ n, s.settle = State.settleLoop (n + 1) s := by
  rw [State.settle, State.releaseWaiting_of_none h]
  exact ⟨_, rfl⟩

/-- With no job that may go on and no request whose turn it is, nothing more happens. -/
theorem State.settleLoop_idle {s : State} (n : Nat) (hj : idleJobs s.acc.jobs) (hr : s.nextRequest = none) : State.settleLoop n s = s := by
  cases n with
  | zero => rfl
  | succ n => rw [State.settleLoop, hj.find]; simp only [hr]

/-- The job of a bare operation of a requester, with what is left of it and the answers so far; it may go on while anything is left. -/
def bareJob (o : Origin) (id : Nat) (rest : List OpReq) (answers : List OpAns) : Job :=
  { id := id, origin := o, reply := .direct, requirePair := false, answered := answers, rest := rest, limit := 65536
    ready := !rest.isEmpty }

/-- The state in which a bare operation is served: its job is taken up, and nothing is left of it. -/
def State.taken (s : State) (o : Origin) : State :=
  { s with acc := { s.acc with nextJob := s.acc.nextJob + 1, jobs := mput s.acc.jobs s.acc.nextJob (bareJob o s.acc.nextJob [] []) } }

/-- The end of a bare operation: its job is gone, its answer stands with the other jobs that are left (log entry 6). -/
def State.withAnswer (s : State) (o : Origin) (a : OpAns) (js : List (Nat × Job)) : State :=
  { s with acc := { s.acc with jobs := js, answers := { origin := o, ans := a } :: s.acc.answers } }

/-- Without flags and without REQUIRE_PAIR an operation whose answer has room is answered as it is served (R126, R137, R140). -/
theorem State.runOne_answers {s u : State} {o : Origin} {job room : Nat} {r : OpReq} {a : OpAns} (hf : r.flags = 0)
    (hx : s.serveOp o job r = (some a, u)) (hroom : a.data.length ≤ room) : s.runOne o job false room r = (some a, u) := by
  simp [State.runOne, hx, hf, Nat.not_lt.mpr hroom]

/-- The same of an operation whose answer must wait. -/
theorem State.runOne_waits {s u : State} {o : Origin} {job room : Nat} {r : OpReq} (hf : r.flags = 0)
    (hx : s.serveOp o job r = (none, u)) (hroom : waitingRoom r ≤ room) : s.runOne o job false room r = (none, u) := by
  simp [State.runOne, hx, hf, Nat.not_lt.mpr hroom]

/-- In a quiet state a bare operation is what runs, and then what may go on does so. -/
theorem State.Quiet.runDirect_settles {s : State} (hq : s.Quiet) (o : Origin) (r : OpReq) :
    ∃ n, s.runDirect o r = State.settleLoop n (State.runJob 2 (s.newJob o .direct false 65536 [r]) s.acc.nextJob) := by
  have hfind : ((s.newJob o .direct false 65536 [r]).acc.jobs.find? fun e => e.2.ready)
      = some (s.acc.nextJob, bareJob o s.acc.nextJob [r] []) := find?_mput rfl hq.jobs
  obtain ⟨n, hn⟩ := State.settle_of_none (s := s.newJob o .direct false 65536 [r]) hq.waiting
  refine ⟨n, ?_⟩
  rw [State.runDirect, hn, State.settleLoop, hfind]
  rfl

/-- The job of a bare operation is taken up, and its operation is served. -/
theorem State.runJob_newJob {s : State} {o : Origin} {r : OpReq} : State.runJob 2 (s.newJob o .direct false 65536 [r]) s.acc.nextJob =
    match (s.taken o).runOne o s.acc.nextJob false 65528 r with
      | (some a, u) => State.runJob 1 (u.addAnswer s.acc.nextJob a) s.acc.nextJob
      | (none, u) => u := by
  have hget : mget (s.newJob o .direct false 65536 [r]).acc.jobs s.acc.nextJob = some (bareJob o s.acc.nextJob [r] []) := mget_mput_same
  have hput : (s.newJob o .direct false 65536 [r]).putJob (bareJob o s.acc.nextJob [] []) = s.taken o := by
    simp only [State.putJob, State.newJob, mput_mput, State.taken, bareJob]
  rw [State.runJob, hget]
  change (match ((s.newJob o .direct false 65536 [r]).putJob (bareJob o s.acc.nextJob [] [])).runOne o s.acc.nextJob false 65528 r with
    | (some a, u) => State.runJob 1 (u.addAnswer s.acc.nextJob a) s.acc.nextJob
    | (none, u) => u) = _
  rw [hput]

theorem State.applyReset_of_none {s : State} (h : s.acc.resetDue = 0) : s.applyReset = s := by
  rw [State.applyReset]
  simp only [h]

/-- The answer of a bare operation ends its job. -/
theorem State.runJob_addAnswer {u : State} {o : Origin} {id : Nat} {a : OpAns} (hj : mget u.acc.jobs id = some (bareJob o id [] []))
    (hr : u.acc.resetDue = 0) : State.runJob 1 (u.addAnswer id a) id = u.withAnswer o a (mdel (mput u.acc.jobs id (bareJob o id [] [a])) id) := by
  have hadd : u.addAnswer id a = u.putJob (bareJob o id [] [a]) := by
    rw [State.addAnswer, hj]
    rfl
  have hget : mget (u.putJob (bareJob o id [] [a])).acc.jobs id = some (bareJob o id [] [a]) := mget_mput_same
  rw [hadd, State.runJob, hget]
  change (u.withAnswer o a (mdel (mput u.acc.jobs id (bareJob o id [] [a])) id)).applyReset = _
  exact State.applyReset_of_none hr

/-- A bare operation that a quiet state answers at once leaves what it made, its answer, and the jobs that wait as they did. -/
theorem State.Quiet.runDirect_answers {s u : State} (hq : s.Quiet) {o : Origin} {r : OpReq} {a : OpAns} (hf : r.flags = 0)
    (hx : (s.taken o).serveOp o s.acc.nextJob r = (some a, u)) (hroom : a.data.length ≤ 65528) (htaken : u.acc.jobs = (s.taken o).acc.jobs)
    (hsessions : u.acc.sessions = s.acc.sessions) (hreset : u.acc.resetDue = 0) : ∃ js, idleJobs js ∧ s.runDirect o r = u.withAnswer o a js := by
  have hjobs : u.acc.jobs = mput s.acc.jobs s.acc.nextJob (bareJob o s.acc.nextJob [] []) := htaken
  have hget : mget u.acc.jobs s.acc.nextJob = some (bareJob o s.acc.nextJob [] []) := by rw [hjobs, mget_mput_same]
  have hidle : idleJobs (mdel (mput u.acc.jobs s.acc.nextJob (bareJob o s.acc.nextJob [] [a])) s.acc.nextJob) := by
    rw [hjobs, mput_mput]
    exact (idleJobs.mput hq.jobs rfl).mdel _
  have hrequest : (u.withAnswer o a (mdel (mput u.acc.jobs s.acc.nextJob (bareJob o s.acc.nextJob [] [a])) s.acc.nextJob)).nextRequest = none := by
    simpa [State.nextRequest, State.withAnswer, hsessions] using hq.request
  obtain ⟨n, hn⟩ := hq.runDirect_settles o r
  refine ⟨_, hidle, ?_⟩
  rw [hn, State.runJob_newJob, State.runOne_answers hf hx hroom]
  dsimp only
  rw [State.runJob_addAnswer hget hreset, State.settleLoop_idle n hidle hrequest]

/-- A bare operation whose answer must wait leaves what it made. -/
theorem State.Quiet.runDirect_waits {s u : State} (hq : s.Quiet) {o : Origin} {r : OpReq} (hf : r.flags = 0)
    (hx : (s.taken o).serveOp o s.acc.nextJob r = (none, u)) (hjobs : u.acc.jobs = (s.taken o).acc.jobs)
    (hsessions : u.acc.sessions = s.acc.sessions) : s.runDirect o r = u := by
  have hroom : waitingRoom r ≤ 65528 := by
    unfold waitingRoom
    split
    · omega
    · split <;> omega
  have hidle : idleJobs u.acc.jobs := by
    rw [hjobs]
    exact idleJobs.mput hq.jobs rfl
  have hrequest : u.nextRequest = none := by simpa [State.nextRequest, hsessions] using hq.request
  obtain ⟨n, hn⟩ := hq.runDirect_settles o r
  rw [hn, State.runJob_newJob, State.runOne_waits hf hx hroom]
  exact State.settleLoop_idle n hidle hrequest

end Sys2Proof.Machine
end

section
/-! Handles and their generations: the checks of R7, and what a DESTROY does to the generation of its index (R5, R129). -/

namespace Sys2Proof.Machine

theorem handleGen_lt (h : Nat) : handleGen h < 256 := Nat.mod_lt _ (by decide)

/-- The checks of R7, in their order. -/
theorem State.checkHandle_cases (s : State) (k h : Nat) :
    (handleKind h ≠ k ∧ s.checkHandle k h = .typeMismatch) ∨
    (handleKind h = k ∧ kindCapacity k ≤ handleIndex h ∧ s.checkHandle k h = .range) ∨
    (handleKind h = k ∧ handleIndex h < kindCapacity k ∧ ¬(s.live k (handleIndex h) = true ∧ handleGen h = s.gen k (handleIndex h)) ∧
      s.checkHandle k h = .staleHandle) ∨
    (handleKind h = k ∧ handleIndex h < kindCapacity k ∧ s.live k (handleIndex h) = true ∧ handleGen h = s.gen k (handleIndex h) ∧
      s.checkHandle k h = .ok) := by
  unfold State.checkHandle
  by_cases hk : handleKind h = k
  · by_cases hc : kindCapacity k ≤ handleIndex h
    · simp [hk, hc]
    · cases hl : s.live k (handleIndex h) <;> by_cases hg : handleGen h = s.gen k (handleIndex h) <;> simp [hk, hc, hg, Nat.lt_of_not_le hc]
  · simp [hk]

theorem State.checkHandle_typeMismatch (s : State) (k h : Nat) : s.checkHandle k h = .typeMismatch ↔ handleKind h ≠ k := by
  rcases s.checkHandle_cases k h with ⟨hk, e⟩ | ⟨hk, -, e⟩ | ⟨hk, -, -, e⟩ | ⟨hk, -, -, -, e⟩ <;> simp [e, hk]

theorem State.checkHandle_range (s : State) (k h : Nat) :
    s.checkHandle k h = .range ↔ handleKind h = k ∧ kindCapacity k ≤ handleIndex h := by
  rcases s.checkHandle_cases k h with ⟨hk, e⟩ | ⟨hk, hi, e⟩ | ⟨hk, hi, -, e⟩ | ⟨hk, hi, -, -, e⟩
  · simp [e, hk]
  · simp [e, hk, hi]
  · simp [e, hi]
  · simp [e, hi]

theorem State.checkHandle_ok (s : State) (k h : Nat) :
    s.checkHandle k h = .ok ↔ handleKind h = k ∧ handleIndex h < kindCapacity k ∧
      s.live k (handleIndex h) = true ∧ handleGen h = s.gen k (handleIndex h) := by
  rcases s.checkHandle_cases k h with ⟨hk, e⟩ | ⟨hk, hi, e⟩ | ⟨hk, hi, hs, e⟩ | ⟨hk, hi, hl, hg, e⟩
  · simp [e, hk]
  · simp [e, Nat.not_lt.mpr hi]
  · simp [e, hk, hi, hs]
  · simp [e, hk, hi, hl, hg]

theorem State.checkHandle_mem (s : State) (k h : Nat) : s.checkHandle k h ∈ [Status.typeMismatch, .range, .staleHandle, .ok] := by
  rcases s.checkHandle_cases k h with ⟨-, e⟩ | ⟨-, -, e⟩ | ⟨-, -, -, e⟩ | ⟨-, -, -, -, e⟩ <;> simp [e]

/-- A handle of another generation than its index has now is stale, whether or not the channel exists (R7). -/
theorem State.checkHandle_stale {s : State} {k h : Nat} (hk : handleKind h = k) (hi : handleIndex h < kindCapacity k)
    (hg : handleGen h ≠ s.gen k (handleIndex h)) : s.checkHandle k h = .staleHandle := by
  simp [State.checkHandle, hk, Nat.not_le.mpr hi, hg]

/-- Past the reserved kinds the check of any handle is the check for its own kind (R7, R129). -/
theorem State.checkHandle_of_any {s : State} {h : Nat} (ha : s.checkAnyHandle h = .ok) : s.checkHandle (handleKind h) h = .ok := by
  unfold State.checkAnyHandle at ha
  split at ha
  · cases ha
  · exact ha

theorem State.nextGen_gens_congr {s t : State} (h : t.gens = s.gens) (k i : Nat) : (t.nextGen k i).gens = (s.nextGen k i).gens := by
  simp only [State.nextGen, State.gen, h]

/-- What leaves a round list leaves the generations alone. -/
theorem State.leaveRound_gens (n : Nat) (s : State) (c : Child) : (State.leaveRound n s c).gens = s.gens :=
  On.gens_same (State.leaveRound_keeps (Covers.refl _) .start) rfl

/-- A channel other than a queue that is removed leaves the generation of its index one higher, and no other changed (R5, R129). -/
theorem State.removeChannel_gens {s : State} {h : Nat} (hk : handleKind h ∈ [2, 3, 4, 5, 6, 7]) :
    (s.removeChannel h).gens = (s.nextGen (handleKind h) (handleIndex h)).gens := by
  simp only [List.mem_cons, List.not_mem_nil, or_false] at hk
  unfold State.removeChannel
  rcases hk with hk | hk | hk | hk | hk | hk <;> simp only [hk]
  · rfl
  · rfl
  · rfl
  · -- a node is also taken out of the round list of its parent, and a port's node out of its register
    refine State.nextGen_gens_congr ((State.leaveRound_gens ..).trans ?_) 5 (handleIndex h)
    split
    · split <;> rfl
    · rfl
  · rfl
  · rfl

/-- Removing a channel leaves object access alone. -/
theorem State.removeChannel_acc (s : State) (h : Nat) : (s.removeChannel h).acc = s.acc :=
  On.acc_same (State.removeChannel_keeps (Covers.refl _) .start) rfl

/-- An answer is given at once, or held behind those that wait already. -/
theorem State.holdAnswer_cases (s : State) (job : Nat) (a : OpAns) (flash : Bool) (ticket : Option Nat) :
    s.holdAnswer job a flash ticket = (some a, s) ∨
    ∃ w, s.holdAnswer job a flash ticket = (none, { s with acc := { s.acc with waiting := s.acc.waiting ++ [w] } }) := by
  unfold State.holdAnswer
  split
  · exact .inr ⟨_, rfl⟩
  · exact .inl rfl

/-- A DESTROY that passes its checks and is not BUSY tells the mate and removes the channel (R129, R137). -/
theorem State.opDestroy_removes {s : State} {o : Origin} {job h : Nat} {r : OpReq} (hh : numAt o.be r.data 0 4 = h)
    (hc : s.checkPlain o r 12 4 (s.checkAnyHandle h) = .ok) (hb : s.destroyBusy h = false) (hk : handleKind h ≠ 1) :
    ∃ u ticket, On inS 0x20200 s u ∧ s.opDestroy o job r = (u.removeChannel h).holdAnswer job (bareAns 0x11 .ok 0 0) false ticket := by
  unfold State.opDestroy
  simp only [hh, hc, hb, hk, ne_eq, not_true_eq_false, if_false, Bool.false_eq_true]
  split
  · exact ⟨_, _, State.sendObjects_keeps (Covers.refl _) .start, rfl⟩
  · exact ⟨_, _, .start, rfl⟩

/-- A DESTROY of a channel other than a queue that passes its checks in a quiet state leaves the generation of its index one higher, and
no other changed, whether or not its answer waits for a mate (R5, R129). -/
theorem State.Quiet.destroy_gens {s : State} (hq : s.Quiet) {o : Origin} {h : Nat} (hh : h < 2 ^ 32)
    (hk : handleKind h ∈ [2, 3, 4, 5, 6, 7]) (hb : s.destroyBusy h = false)
    (hc : s.checkPlain o (plainReq 0x11 0 0 12 (numBytes o.be h 4)) 12 4 (s.checkAnyHandle h) = .ok) :
    (s.runDirect o (plainReq 0x11 0 0 12 (numBytes o.be h 4))).gens = (s.nextGen (handleKind h) (handleIndex h)).gens := by
  have hkind : handleKind h ≠ 1 := fun e => by simp [e] at hk
  obtain ⟨u, ticket, hu, hdestroy⟩ := State.opDestroy_removes (s := s.taken o) (job := s.acc.nextJob)
    (numAt_numBytes (k := 4) o.be hh) hc hb hkind
  have hserve : (s.taken o).serveOp o s.acc.nextJob (plainReq 0x11 0 0 12 (numBytes o.be h 4))
      = (u.removeChannel h).holdAnswer s.acc.nextJob (bareAns 0x11 .ok 0 0) false ticket := hdestroy
  have hacc : (u.removeChannel h).acc = (s.taken o).acc := (u.removeChannel_acc h).trans (hu.acc_same rfl)
  have hjobs : (u.removeChannel h).acc.jobs = (s.taken o).acc.jobs := by rw [hacc]
  have hsessions : (u.removeChannel h).acc.sessions = s.acc.sessions := by rw [hacc]; rfl
  have hreset : (u.removeChannel h).acc.resetDue = 0 := by rw [hacc]; exact hq.reset
  have hgens : (u.removeChannel h).gens = (s.nextGen (handleKind h) (handleIndex h)).gens :=
    (State.removeChannel_gens hk).trans (State.nextGen_gens_congr (hu.gens_same rfl) _ _)
  rcases (u.removeChannel h).holdAnswer_cases s.acc.nextJob (bareAns 0x11 .ok 0 0) false ticket with hnow | ⟨w, hlater⟩
  · obtain ⟨js, -, hrun⟩ := hq.runDirect_answers rfl (hserve.trans hnow) (Nat.zero_le _) hjobs hsessions hreset
    rw [hrun]
    exact hgens
  · rw [hq.runDirect_waits rfl (hserve.trans hlater) hjobs hsessions]
    exact hgens

/-- The data of an operation on no object passes its own check once the operation passes (R152). -/
theorem State.checkPlain_check {s : State} {o : Origin} {r : OpReq} {ty len : Nat} {check : Status}
    (h : s.checkPlain o r ty len check = .ok) : check = .ok := by
  unfold State.checkPlain at h
  split at h
  · cases h
  · split at h
    · cases h
    · split at h
      · cases h
      · split at h
        · exact h
        · exact Decidable.not_not.mp ‹_›

/-- Settles O51: the checks of R7 in their order; a destroyed handle fails them because the generation that it holds has been left behind. -/
theorem destroyedHandlesAreStale : Obligations.DestroyedHandlesAreStale := by
  refine ⟨State.checkHandle_typeMismatch, State.checkHandle_range, State.checkHandle_ok, State.checkHandle_mem, ?_⟩
  intro o h s hq hs hh hk hb hc
  obtain ⟨-, hindex, -, hgen⟩ := (State.checkHandle_ok ..).mp (State.checkHandle_of_any (State.checkPlain_check hc))
  have hgens := hq.destroy_gens hh (by simp only [List.mem_cons, List.not_mem_nil, or_false] at hk ⊢; omega) hb hc
  refine ⟨_, rfl, ?_⟩
  have hnext : (s.runDirect o (plainReq 0x11 0 0 12 (numBytes o.be h 4))).gen (handleKind h) (handleIndex h)
      = (s.gen (handleKind h) (handleIndex h) + 1) % 256 := by
    rw [State.gen, hgens]
    exact s.nextGen_gen _ _ hs.gens
  refine ⟨hnext, State.checkHandle_stale rfl hindex ?_⟩
  have hlt := handleGen_lt h
  omega

end Sys2Proof.Machine
end

section
/-! Every step keeps what no command undoes: the form of the stores, time, the record of output and the fuses. -/

namespace Sys2Proof.Machine

/-- A mask with the bit of every part. -/
def everyPart : Nat := 0xfffffffffffffffffffffffffffffffffffffffffffffffffffffffffffffffffffffffffff

/-- Every part covers whatever a command may touch. -/
theorem Covers.every {m : Nat} (e : Nat.land everyPart m = m) : Covers everyPart m := (Covers.refl everyPart).sub e

/-- Whatever the command and the state, what no command undoes is kept: each meaning by its own lemma. -/
theorem exec_keeps (c : Instr) (s : State) : On inNext everyPart s (exec c s) :=
  match c with
  | .frameReceive .. => execFrameReceive_keeps (.every rfl) .start
  | .switchingSlotGrant => execSwitchingSlotGrant_keeps (.every rfl) .start
  | .sliceWakeDone .. => execSliceWakeDone_keeps (.every rfl) .start
  | .sliceIdleExpiry .. => execSliceIdleExpiry_keeps (.every rfl) .start
  | .laneTake .. => execLaneTake_keeps (.every rfl) .start
  | .passDispatch .. => execPassDispatch_keeps (.every rfl) .start
  | .dgHoldClear .. => execDgHoldClear_keeps (.every rfl) .start
  | .breakwaterVerdict .. => execBreakwaterVerdict_keeps (.every rfl) .start
  | .replicateCopy .. => execReplicateCopy_keeps (.every rfl) .start
  | .spillSegmentStart => execSpillSegmentStart_keeps (.every rfl) .start
  | .spillWriteDone .. => execSpillWriteDone_keeps (.every rfl) .start
  | .readbackDone .. => execReadbackDone_keeps (.every rfl) .start
  | .schedDecision .. => execSchedDecision_keeps (.every rfl) .start
  | .voqRelease .. => execVoqRelease_keeps (.every rfl) .start
  | .frameTransmitDone .. => execFrameTransmitDone_keeps (.every rfl) .start
  | .txFrameStart .. => execTxFrameStart_keeps (.every rfl) .start
  | .gateEvent .. => execGateEvent_keeps (.every rfl) .start
  | .configChangeTime .. => execConfigChangeTime_keeps (.every rfl) .start
  | .linkDownHoldExpiry .. => execLinkDownHoldExpiry_keeps (.every rfl) .start
  | .linkFaultOnset .. => execLinkFaultOnset_keeps (.every rfl) .start
  | .flushDone .. => execFlushDone_keeps (.every rfl) .start
  | .linkUp .. => execLinkUp_keeps (.every rfl) .start
  | .modeRequest .. => execModeRequest_keeps (.every rfl) .start
  | .modeTransitionDone => execModeTransitionDone_keeps (.every rfl) .start
  | .drainQueuesEmpty => execDrainQueuesEmpty_keeps (.every rfl) .start
  | .drainTimeout => execDrainTimeout_keeps (.every rfl) .start
  | .wakeAfterSExpiry => execWakeAfterSExpiry_keeps (.every rfl) .start
  | .bootPath .. => execBootPath_keeps (.every rfl) .start
  | .poresetNLow => execPoresetNLow_keeps (.every rfl) .start
  | .powerOnStart => execPowerOnStart_keeps (.every rfl) .start
  | .pwrGoodMainRise .. => execPwrGoodMainRise_keeps (.every rfl) .start
  | .supplyTimeout => execSupplyTimeout_keeps (.every rfl) .start
  | .supplyLoss => execSupplyLoss_keeps (.every rfl) .start
  | .sensorSample .. => execSensorSample_keeps (.every rfl) .start
  | .thermalTrip .. => execThermalTrip_keeps (.every rfl) .start
  | .twclkLoss => execTwclkLoss_keeps (.every rfl) .start
  | .pllUnlock .. => execPllUnlock_keeps (.every rfl) .start
  | .twclkRestored => execTwclkRestored_keeps (.every rfl) .start
  | .refclkLoss .. => execRefclkLoss_keeps (.every rfl) .start
  | .refclkReturn .. => execRefclkReturn_keeps (.every rfl) .start
  | .avsEvaluate .. => execAvsEvaluate_keeps (.every rfl) .start
  | .avsWriteDone .. => execAvsWriteDone_keeps (.every rfl) .start
  | .warmresetNLow => execWarmresetNLow_keeps (.every rfl) .start
  | .warmRestartDone => execWarmRestartDone_keeps (.every rfl) .start
  | .resetRequestWarm .. => execResetRequestWarm_keeps (.every rfl) .start
  | .resetRequestCold .. => execResetRequestCold_keeps (.every rfl) .start
  | .tidewatchWatchdogExpiry => execTidewatchWatchdogExpiry_keeps (.every rfl) .start
  | .pciePerstNLow => execPciePerstNLow_keeps (.every rfl) .start
  | .pciePerstNHigh => execPciePerstNHigh_keeps (.every rfl) .start
  | .trstNLow => execTrstNLow_keeps (.every rfl) .start
  | .moduleInsertion .. => execModuleInsertion_keeps (.every rfl) .start
  | .moduleResetRelease .. => execModuleResetRelease_keeps (.every rfl) .start
  | .moduleStatePoll .. => execModuleStatePoll_keeps (.every rfl) .start
  | .moduleReadTimeout .. => execModuleReadTimeout_keeps (.every rfl) .start
  | .moduleRemoval .. => execModuleRemoval_keeps (.every rfl) .start
  | .modIntNAssert .. => execModIntNAssert_keeps (.every rfl) .start
  | .reread .. => execReread_keeps (.every rfl) .start
  | .cmisPassthrough .. => execCmisPassthrough_keeps (.every rfl) .start
  | .poaOpen .. => execPoaOpen_keeps (.every rfl) .start
  | .poaClose .. => execPoaClose_keeps (.every rfl) .start
  | .poaRequest .. => execPoaRequest_keeps (.every rfl) .start
  | .seqGapTimeout .. => execSeqGapTimeout_keeps (.every rfl) .start
  | .sessionIdleExpiry .. => execSessionIdleExpiry_keeps (.every rfl) .start
  | .winGo .. => execWinGo_keeps (.every rfl) .start
  | .read .. => execRead_keeps (.every rfl) .start
  | .write .. => execWrite_keeps (.every rfl) .start
  | .readSegment .. => execReadSegment_keeps (.every rfl) .start
  | .writeSegment .. => execWriteSegment_keeps (.every rfl) .start
  | .blobSegmentTimeout .. => execBlobSegmentTimeout_keeps (.every rfl) .start
  | .blobCopyExpiry .. => execBlobCopyExpiry_keeps (.every rfl) .start
  | .describe .. => execDescribe_keeps (.every rfl) .start
  | .next .. => execNext_keeps (.every rfl) .start
  | .destroy .. => execDestroy_keeps (.every rfl) .start
  | .queueDestroyDone .. => execQueueDestroyDone_keeps (.every rfl) .start
  | .batchOpen .. => execBatchOpen_keeps (.every rfl) .start
  | .batchWrite .. => execBatchWrite_keeps (.every rfl) .start
  | .batchCommit .. => execBatchCommit_keeps (.every rfl) .start
  | .batchAbort .. => execBatchAbort_keeps (.every rfl) .start
  | .batchIdleExpiry .. => execBatchIdleExpiry_keeps (.every rfl) .start
  | .epochDrainDone => execEpochDrainDone_keeps (.every rfl) .start
  | .epochAdvance => execEpochAdvance_keeps (.every rfl) .start
  | .programInstall .. => execProgramInstall_keeps (.every rfl) .start
  | .graphRestore .. => execGraphRestore_keeps (.every rfl) .start
  | .emRegionCreate .. => execEmRegionCreate_keeps (.every rfl) .start
  | .lpmRegionCreate .. => execLpmRegionCreate_keeps (.every rfl) .start
  | .tableInsert .. => execTableInsert_keeps (.every rfl) .start
  | .tableDelete .. => execTableDelete_keeps (.every rfl) .start
  | .learnServiceCommit => execLearnServiceCommit_keeps (.every rfl) .start
  | .ageSweep .. => execAgeSweep_keeps (.every rfl) .start
  | .search .. => execSearch_keeps (.every rfl) .start
  | .iterOpen .. => execIterOpen_keeps (.every rfl) .start
  | .iterNext .. => execIterNext_keeps (.every rfl) .start
  | .iterClose .. => execIterClose_keeps (.every rfl) .start
  | .iterTimeout .. => execIterTimeout_keeps (.every rfl) .start
  | .flushRequest .. => execFlushRequest_keeps (.every rfl) .start
  | .flushScanDone .. => execFlushScanDone_keeps (.every rfl) .start
  | .ruleSetCreate .. => execRuleSetCreate_keeps (.every rfl) .start
  | .ruleWrite .. => execRuleWrite_keeps (.every rfl) .start
  | .ruleDelete .. => execRuleDelete_keeps (.every rfl) .start
  | .ruleSetAction .. => execRuleSetAction_keeps (.every rfl) .start
  | .readRule .. => execReadRule_keeps (.every rfl) .start
  | .readBlock .. => execReadBlock_keeps (.every rfl) .start
  | .queueCreate .. => execQueueCreate_keeps (.every rfl) .start
  | .enable .. => execEnable_keeps (.every rfl) .start
  | .disable .. => execDisable_keeps (.every rfl) .start
  | .setLimits .. => execSetLimits_keeps (.every rfl) .start
  | .queueQuery .. => execQueueQuery_keeps (.every rfl) .start
  | .mcastSet .. => execMcastSet_keeps (.every rfl) .start
  | .mcastQuery .. => execMcastQuery_keeps (.every rfl) .start
  | .nodeCreate .. => execNodeCreate_keeps (.every rfl) .start
  | .schedSet .. => execSchedSet_keeps (.every rfl) .start
  | .schedQuery .. => execSchedQuery_keeps (.every rfl) .start
  | .meterCreate .. => execMeterCreate_keeps (.every rfl) .start
  | .meterSet .. => execMeterSet_keeps (.every rfl) .start
  | .meterQuery .. => execMeterQuery_keeps (.every rfl) .start
  | .windowAdmin .. => execWindowAdmin_keeps (.every rfl) .start
  | .windowEnable .. => execWindowEnable_keeps (.every rfl) .start
  | .windowPort .. => execWindowPort_keeps (.every rfl) .start
  | .watchQueue .. => execWatchQueue_keeps (.every rfl) .start
  | .watchIntervalEnd .. => execWatchIntervalEnd_keeps (.every rfl) .start
  | .dataCell .. => execDataCell_keeps (.every rfl) .start
  | .idleCell .. => execIdleCell_keeps (.every rfl) .start
  | .replayTimeout .. => execReplayTimeout_keeps (.every rfl) .start
  | .reassemblyTimeout .. => execReassemblyTimeout_keeps (.every rfl) .start
  | .reseqTimeout .. => execReseqTimeout_keeps (.every rfl) .start
  | .request .. => execRequest_keeps (.every rfl) .start
  | .grant .. => execGrant_keeps (.every rfl) .start
  | .grantIssue => execGrantIssue_keeps (.every rfl) .start
  | .requestRefresh .. => execRequestRefresh_keeps (.every rfl) .start
  | .hello .. => execHello_keeps (.every rfl) .start
  | .quiet .. => execQuiet_keeps (.every rfl) .start
  | .quietDone .. => execQuietDone_keeps (.every rfl) .start
  | .quietTimeout .. => execQuietTimeout_keeps (.every rfl) .start
  | .fault .. => execFault_keeps (.every rfl) .start
  | .linkFail .. => execLinkFail_keeps (.every rfl) .start
  | .signalLossHoldExpiry .. => execSignalLossHoldExpiry_keeps (.every rfl) .start
  | .linkRetrain .. => execLinkRetrain_keeps (.every rfl) .start
  | .linkUpHoldExpiry .. => execLinkUpHoldExpiry_keeps (.every rfl) .start
  | .fenceHoldExpiry .. => execFenceHoldExpiry_keeps (.every rfl) .start
  | .fabricMeasure => execFabricMeasure_keeps (.every rfl) .start
  | .quadWakeDone .. => execQuadWakeDone_keeps (.every rfl) .start
  | .hbmIdleExpiry .. => execHbmIdleExpiry_keeps (.every rfl) .start
  | .selfRefreshEnter .. => execSelfRefreshEnter_keeps (.every rfl) .start
  | .hbmWakeDone .. => execHbmWakeDone_keeps (.every rfl) .start
  | .hbmWakeFailed .. => execHbmWakeFailed_keeps (.every rfl) .start
  | .refreshBoundary .. => execRefreshBoundary_keeps (.every rfl) .start
  | .bankRefresh .. => execBankRefresh_keeps (.every rfl) .start
  | .caParityAlert .. => execCaParityAlert_keeps (.every rfl) .start
  | .calRound .. => execCalRound_keeps (.every rfl) .start
  | .calProbeDone .. => execCalProbeDone_keeps (.every rfl) .start
  | .hbmDelays .. => execHbmDelays_keeps (.every rfl) .start
  | .delaySave => execDelaySave_keeps (.every rfl) .start
  | .scrub .. => execScrub_keeps (.every rfl) .start
  | .portMode .. => execPortMode_keeps (.every rfl) .start
  | .portSlice .. => execPortSlice_keeps (.every rfl) .start
  | .portAdminEnable .. => execPortAdminEnable_keeps (.every rfl) .start
  | .portAdminDisable .. => execPortAdminDisable_keeps (.every rfl) .start
  | .moduleActivationStep .. => execModuleActivationStep_keeps (.every rfl) .start
  | .moduleActivationTimeout .. => execModuleActivationTimeout_keeps (.every rfl) .start
  | .ptpStepNs .. => execPtpStepNs_keeps (.every rfl) .start
  | .txStampPop .. => execTxStampPop_keeps (.every rfl) .start
  | .ppsInEdge => execPpsInEdge_keeps (.every rfl) .start
  | .ppsOutSecond => execPpsOutSecond_keeps (.every rfl) .start
  | .adaptStep .. => execAdaptStep_keeps (.every rfl) .start
  | .adaptEvaluate .. => execAdaptEvaluate_keeps (.every rfl) .start
  | .marginMeasure .. => execMarginMeasure_keeps (.every rfl) .start
  | .dgUncorrectableFlit .. => execDgUncorrectableFlit_keeps (.every rfl) .start
  | .dgFail .. => execDgFail_keeps (.every rfl) .start
  | .dgRetrain .. => execDgRetrain_keeps (.every rfl) .start
  | .dgCalRound .. => execDgCalRound_keeps (.every rfl) .start
  | .subDoorbell .. => execSubDoorbell_keeps (.every rfl) .start
  | .scanResume .. => execScanResume_keeps (.every rfl) .start
  | .inject .. => execInject_keeps (.every rfl) .start
  | .receiveBuffer .. => execReceiveBuffer_keeps (.every rfl) .start
  | .stagedRetry .. => execStagedRetry_keeps (.every rfl) .start
  | .coalesceExpiry .. => execCoalesceExpiry_keeps (.every rfl) .start
  | .ringEnable .. => execRingEnable_keeps (.every rfl) .start
  | .ringDisable .. => execRingDisable_keeps (.every rfl) .start
  | .channelCreate .. => execChannelCreate_keeps (.every rfl) .start
  | .channelSet .. => execChannelSet_keeps (.every rfl) .start
  | .channelQuery .. => execChannelQuery_keeps (.every rfl) .start
  | .dbStatus .. => execDbStatus_keeps (.every rfl) .start
  | .dbMask .. => execDbMask_keeps (.every rfl) .start
  | .dbRing .. => execDbRing_keeps (.every rfl) .start
  | .txData .. => execTxData_keeps (.every rfl) .start
  | .rxData .. => execRxData_keeps (.every rfl) .start
  | .abandon .. => execAbandon_keeps (.every rfl) .start
  | .mbStalemate .. => execMbStalemate_keeps (.every rfl) .start
  | .lockAcquire .. => execLockAcquire_keeps (.every rfl) .start
  | .lockRelease .. => execLockRelease_keeps (.every rfl) .start
  | .lockForce .. => execLockForce_keeps (.every rfl) .start
  | .tstart .. => execTstart_keeps (.every rfl) .start
  | .tstop .. => execTstop_keeps (.every rfl) .start
  | .tsig .. => execTsig_keeps (.every rfl) .start
  | .twfe .. => execTwfe_keeps (.every rfl) .start
  | .tpoll .. => execTpoll_keeps (.every rfl) .start
  | .tyield .. => execTyield_keeps (.every rfl) .start
  | .tstat .. => execTstat_keeps (.every rfl) .start
  | .threadWake .. => execThreadWake_keeps (.every rfl) .start
  | .tcmpExpiry .. => execTcmpExpiry_keeps (.every rfl) .start
  | .twdogExpiry .. => execTwdogExpiry_keeps (.every rfl) .start
  | .threadFault .. => execThreadFault_keeps (.every rfl) .start
  | .thread0Failure .. => execThread0Failure_keeps (.every rfl) .start
  | .slackWater .. => execSlackWater_keeps (.every rfl) .start
  | .coreRetainExpiry .. => execCoreRetainExpiry_keeps (.every rfl) .start
  | .debugHalt .. => execDebugHalt_keeps (.every rfl) .start
  | .debugResume .. => execDebugResume_keeps (.every rfl) .start
  | .threadWeight .. => execThreadWeight_keeps (.every rfl) .start
  | .puntQueue .. => execPuntQueue_keeps (.every rfl) .start
  | .integratorRestart .. => execIntegratorRestart_keeps (.every rfl) .start
  | .clearObject .. => execClearObject_keeps (.every rfl) .start
  | .clearIndex .. => execClearIndex_keeps (.every rfl) .start
  | .clearAllObjects .. => execClearAllObjects_keeps (.every rfl) .start
  | .clearCounterSet .. => execClearCounterSet_keeps (.every rfl) .start
  | .clearQueueStats .. => execClearQueueStats_keeps (.every rfl) .start
  | .clearChannelStats .. => execClearChannelStats_keeps (.every rfl) .start
  | .clearHistogram .. => execClearHistogram_keeps (.every rfl) .start
  | .clearEverything .. => execClearEverything_keeps (.every rfl) .start
  | .counterSetCreate .. => execCounterSetCreate_keeps (.every rfl) .start
  | .statsFlush .. => execStatsFlush_keeps (.every rfl) .start
  | .snapshot .. => execSnapshot_keeps (.every rfl) .start
  | .snapshotReady => execSnapshotReady_keeps (.every rfl) .start
  | .snapshotQuery .. => execSnapshotQuery_keeps (.every rfl) .start
  | .wrapQuery .. => execWrapQuery_keeps (.every rfl) .start
  | .counterSetQuery .. => execCounterSetQuery_keeps (.every rfl) .start
  | .histogramQuery .. => execHistogramQuery_keeps (.every rfl) .start
  | .traceRead .. => execTraceRead_keeps (.every rfl) .start
  | .ringReset .. => execRingReset_keeps (.every rfl) .start
  | .stageOpen .. => execStageOpen_keeps (.every rfl) .start
  | .stageEraseDone => execStageEraseDone_keeps (.every rfl) .start
  | .stageData .. => execStageData_keeps (.every rfl) .start
  | .pieceEraseDone .. => execPieceEraseDone_keeps (.every rfl) .start
  | .stageHashDone => execStageHashDone_keeps (.every rfl) .start
  | .atNextStart .. => execAtNextStart_keeps (.every rfl) .start
  | .warmNow .. => execWarmNow_keeps (.every rfl) .start
  | .activateInstallDone .. => execActivateInstallDone_keeps (.every rfl) .start
  | .confirm .. => execConfirm_keeps (.every rfl) .start
  | .revert .. => execRevert_keeps (.every rfl) .start
  | .confirmDelayExpiry => execConfirmDelayExpiry_keeps (.every rfl) .start
  | .confirmDeadlineExpiry => execConfirmDeadlineExpiry_keeps (.every rfl) .start
  | .patternStart .. => execPatternStart_keeps (.every rfl) .start
  | .patternStop .. => execPatternStop_keeps (.every rfl) .start
  | .patternDurationEnd .. => execPatternDurationEnd_keeps (.every rfl) .start
  | .bistStart .. => execBistStart_keeps (.every rfl) .start
  | .bistDone .. => execBistDone_keeps (.every rfl) .start
  | .backgroundTestDone .. => execBackgroundTestDone_keeps (.every rfl) .start
  | .healthClear .. => execHealthClear_keeps (.every rfl) .start
  | .jtagInstruction .. => execJtagInstruction_keeps (.every rfl) .start
  | .identity .. => execIdentity_keeps (.every rfl) .start
  | .verdictBlock .. => execVerdictBlock_keeps (.every rfl) .start
  | .epochMark .. => execEpochMark_keeps (.every rfl) .start
  | .object .. => execObject_keeps (.every rfl) .start
  | .learnRecord .. => execLearnRecord_keeps (.every rfl) .start
  | .departureMark .. => execDepartureMark_keeps (.every rfl) .start
  | .fabricVerdict .. => execFabricVerdict_keeps (.every rfl) .start
  | .copyVerdict .. => execCopyVerdict_keeps (.every rfl) .start
  | .hostWork .. => execHostWork_keeps (.every rfl) .start
  | .queueEnd .. => execQueueEnd_keeps (.every rfl) .start
  | .digest .. => execDigest_keeps (.every rfl) .start
  | .start .. => execStart_keeps (.every rfl) .start
  | .handoff => execHandoff_keeps (.every rfl) .start
  | .copy .. => execCopy_keeps (.every rfl) .start
  | .status .. => execStatus_keeps (.every rfl) .start
  | .heartbeat .. => execHeartbeat_keeps (.every rfl) .start
  | .heartbeatSend => execHeartbeatSend_keeps (.every rfl) .start
  | .heartbeatSilence => execHeartbeatSilence_keeps (.every rfl) .start
  | .pairFaultInFall => execPairFaultInFall_keeps (.every rfl) .start
  | .faultRequest .. => execFaultRequest_keeps (.every rfl) .start
  | .switchover .. => execSwitchover_keeps (.every rfl) .start
  | .verdictFlush .. => execVerdictFlush_keeps (.every rfl) .start
  | .verdictWaitExpiry .. => execVerdictWaitExpiry_keeps (.every rfl) .start
  | .digestClose .. => execDigestClose_keeps (.every rfl) .start
  | .departureInterval => execDepartureInterval_keeps (.every rfl) .start
  | .fabricVerdictFlush .. => execFabricVerdictFlush_keeps (.every rfl) .start
  | .selftestInterval => execSelftestInterval_keeps (.every rfl) .start
  | .mateReplayTimeout .. => execMateReplayTimeout_keeps (.every rfl) .start
  | .mateLaneFail .. => execMateLaneFail_keeps (.every rfl) .start
  | .registerWrite .. => execRegisterWrite_keeps (.every rfl) .start
  | .alwaysOnRailLoss => execAlwaysOnRailLoss_keeps (.every rfl) .start
  | .mateLaneRetrain .. => execMateLaneRetrain_keeps (.every rfl) .start
  | .mateLinkUp .. => execMateLinkUp_keeps (.every rfl) .start
  | .mateRecordsCell .. => execMateRecordsCell_keeps (.every rfl) .start
  | .mateIdleCell .. => execMateIdleCell_keeps (.every rfl) .start
  | .fabLinkAligned .. => execFabLinkAligned_keeps (.every rfl) .start
  | .laneReacquired .. => execLaneReacquired_keeps (.every rfl) .start
  | .ppsOutFall => execPpsOutFall_keeps (.every rfl) .start
  | .mgmtLinkUp .. => execMgmtLinkUp_keeps (.every rfl) .start
  | .mgmtLinkDown .. => execMgmtLinkDown_keeps (.every rfl) .start
  | .pcieLinkTrained .. => execPcieLinkTrained_keeps (.every rfl) .start
  | .pObjectRecorded .. => execPObjectRecorded_keeps (.every rfl) .start
  | .groupDownTimeout .. => execGroupDownTimeout_keeps (.every rfl) .start
  | .ondieUncorrectableError .. => execOndieUncorrectableError_keeps (.every rfl) .start
  | .pairFaultInRise => execPairFaultInRise_keeps (.every rfl) .start
  | .checkerLocked .. => execCheckerLocked_keeps (.every rfl) .start
  | .checkerLockLost .. => execCheckerLockLost_keeps (.every rfl) .start
  | .cmisPassthroughDone .. => execCmisPassthroughDone_keeps (.every rfl) .start
  | .dgAlignmentMarker .. => execDgAlignmentMarker_keeps (.every rfl) .start

/-- A command that answers a next state goes onward to it. -/
theorem exec_onward {c : Instr} {s t : State} (h : exec c s = .next t) : Onward s t :=
  (exec_keeps c s t (by rw [h]; rfl)).onward

/-- Stores that rise still rise after anything that goes onward. -/
theorem State.StoresRise.onward {s t : State} (h : s.StoresRise) (k : Onward s t) : t.StoresRise :=
  ⟨k.objs h.objs, k.octs h.octs, k.gens h.gens⟩

/-- A step on a queue with a command at its front runs that command on the rest. -/
theorem step_cons {s : State} {c : Instr} {rest : List Instr} (h : s.pending = c :: rest) : step s = exec c { s with pending := rest } := by
  unfold step
  rw [h]

/-- Settles O33: each command's meaning keeps what no command undoes, and a step is the meaning of the command in front. -/
theorem stepsKeepTheFormOfTheState : Obligations.StepsKeepTheFormOfTheState := by
  intro c rest s t hc hs ht
  rw [step_cons hc] at ht
  have hon : Onward { s with pending := rest } t := exec_onward ht
  have hrest : State.StoresRise { s with pending := rest } := ⟨hs.objs, hs.octs, hs.gens⟩
  exact ⟨hrest.onward hon, hon⟩

end Sys2Proof.Machine
end

section
/-! What may move MODE and the fence, and a step on the queue. -/

namespace Sys2Proof.Machine

/-- A mask with the bit of every part, without that of MODE where MODE does not move, and without that of the fence where it does not. -/
def partsMoved : (mode fence : Bool) → Nat
  | true, true => everyPart
  | true, false => everyPart ^^^ 2 ^ 25
  | false, true => everyPart ^^^ 2 ^ 24
  | false, false => everyPart ^^^ 2 ^ 24 ^^^ 2 ^ 25

theorem partsMoved_mode (fence : Bool) : (partsMoved false fence).testBit 24 = false := by
  cases fence <;> rfl

theorem partsMoved_fence (mode : Bool) : (partsMoved mode false).testBit 25 = false := by
  cases mode <;> rfl

/-- A mask covers what lies in it. -/
theorem Covers.of_land {p m : Nat} (e : Nat.land p m = m) : Covers p m := (Covers.refl p).sub e

/-- The same of a command, by whether it may move MODE and whether it may move the fence. -/
theorem Covers.moved (mode fence : Bool) {m : Nat} (e : Nat.land (partsMoved mode fence) m = m) :
    Covers (partsMoved mode fence) m := .of_land e

/-- MODE and the fence are no parts of what a command touches unless it may move them: each meaning by its own lemma. -/
theorem exec_keepsModeAndFence (c : Instr) (s : State) : On inNext (partsMoved (mayMove c) (mayFence c)) s (exec c s) :=
  match c with
  | .frameReceive .. => execFrameReceive_keeps (.moved true false rfl) .start
  | .switchingSlotGrant => execSwitchingSlotGrant_keeps (.moved false false rfl) .start
  | .sliceWakeDone .. => execSliceWakeDone_keeps (.moved false false rfl) .start
  | .sliceIdleExpiry .. => execSliceIdleExpiry_keeps (.moved false false rfl) .start
  | .laneTake .. => execLaneTake_keeps (.moved true false rfl) .start
  | .passDispatch .. => execPassDispatch_keeps (.moved true false rfl) .start
  | .dgHoldClear .. => execDgHoldClear_keeps (.moved true false rfl) .start
  | .breakwaterVerdict .. => execBreakwaterVerdict_keeps (.moved true false rfl) .start
  | .replicateCopy .. => execReplicateCopy_keeps (.moved false false rfl) .start
  | .spillSegmentStart => execSpillSegmentStart_keeps (.moved false false rfl) .start
  | .spillWriteDone .. => execSpillWriteDone_keeps (.moved false false rfl) .start
  | .readbackDone .. => execReadbackDone_keeps (.moved true true rfl) .start
  | .schedDecision .. => execSchedDecision_keeps (.moved false false rfl) .start
  | .voqRelease .. => execVoqRelease_keeps (.moved false false rfl) .start
  | .frameTransmitDone .. => execFrameTransmitDone_keeps (.moved false false rfl) .start
  | .txFrameStart .. => execTxFrameStart_keeps (.moved false false rfl) .start
  | .gateEvent .. => execGateEvent_keeps (.moved false false rfl) .start
  | .configChangeTime .. => execConfigChangeTime_keeps (.moved false false rfl) .start
  | .linkDownHoldExpiry .. => execLinkDownHoldExpiry_keeps (.moved false false rfl) .start
  | .linkFaultOnset .. => execLinkFaultOnset_keeps (.moved false false rfl) .start
  | .flushDone .. => execFlushDone_keeps (.moved false false rfl) .start
  | .linkUp .. => execLinkUp_keeps (.moved false false rfl) .start
  | .modeRequest .. => execModeRequest_keeps (.moved false false rfl) .start
  | .modeTransitionDone => execModeTransitionDone_keeps (.moved true true rfl) .start
  | .drainQueuesEmpty => execDrainQueuesEmpty_keeps (.moved true true rfl) .start
  | .drainTimeout => execDrainTimeout_keeps (.moved false false rfl) .start
  | .wakeAfterSExpiry => execWakeAfterSExpiry_keeps (.moved false false rfl) .start
  | .bootPath .. => execBootPath_keeps (.moved true true rfl) .start
  | .poresetNLow => execPoresetNLow_keeps (.moved true true rfl) .start
  | .powerOnStart => execPowerOnStart_keeps (.moved false false rfl) .start
  | .pwrGoodMainRise .. => execPwrGoodMainRise_keeps (.moved false false rfl) .start
  | .supplyTimeout => execSupplyTimeout_keeps (.moved false false rfl) .start
  | .supplyLoss => execSupplyLoss_keeps (.moved true true rfl) .start
  | .sensorSample .. => execSensorSample_keeps (.moved false false rfl) .start
  | .thermalTrip .. => execThermalTrip_keeps (.moved true true rfl) .start
  | .twclkLoss => execTwclkLoss_keeps (.moved true true rfl) .start
  | .pllUnlock .. => execPllUnlock_keeps (.moved true true rfl) .start
  | .twclkRestored => execTwclkRestored_keeps (.moved false false rfl) .start
  | .refclkLoss .. => execRefclkLoss_keeps (.moved false false rfl) .start
  | .refclkReturn .. => execRefclkReturn_keeps (.moved false false rfl) .start
  | .avsEvaluate .. => execAvsEvaluate_keeps (.moved false false rfl) .start
  | .avsWriteDone .. => execAvsWriteDone_keeps (.moved false false rfl) .start
  | .warmresetNLow => execWarmresetNLow_keeps (.moved true false rfl) .start
  | .warmRestartDone => execWarmRestartDone_keeps (.moved false false rfl) .start
  | .resetRequestWarm .. => execResetRequestWarm_keeps (.moved true false rfl) .start
  | .resetRequestCold .. => execResetRequestCold_keeps (.moved true true rfl) .start
  | .tidewatchWatchdogExpiry => execTidewatchWatchdogExpiry_keeps (.moved true true rfl) .start
  | .pciePerstNLow => execPciePerstNLow_keeps (.moved false false rfl) .start
  | .pciePerstNHigh => execPciePerstNHigh_keeps (.moved false false rfl) .start
  | .trstNLow => execTrstNLow_keeps (.moved false false rfl) .start
  | .moduleInsertion .. => execModuleInsertion_keeps (.moved false false rfl) .start
  | .moduleResetRelease .. => execModuleResetRelease_keeps (.moved false false rfl) .start
  | .moduleStatePoll .. => execModuleStatePoll_keeps (.moved false false rfl) .start
  | .moduleReadTimeout .. => execModuleReadTimeout_keeps (.moved false false rfl) .start
  | .moduleRemoval .. => execModuleRemoval_keeps (.moved false false rfl) .start
  | .modIntNAssert .. => execModIntNAssert_keeps (.moved false false rfl) .start
  | .reread .. => execReread_keeps (.moved false false rfl) .start
  | .cmisPassthrough .. => execCmisPassthrough_keeps (.moved false false rfl) .start
  | .poaOpen .. => execPoaOpen_keeps (.moved false false rfl) .start
  | .poaClose .. => execPoaClose_keeps (.moved false false rfl) .start
  | .poaRequest .. => execPoaRequest_keeps (.moved true true rfl) .start
  | .seqGapTimeout .. => execSeqGapTimeout_keeps (.moved false false rfl) .start
  | .sessionIdleExpiry .. => execSessionIdleExpiry_keeps (.moved false false rfl) .start
  | .winGo .. => execWinGo_keeps (.moved true true rfl) .start
  | .read .. => execRead_keeps (.moved false false rfl) .start
  | .write .. => execWrite_keeps (.moved true true rfl) .start
  | .readSegment .. => execReadSegment_keeps (.moved true true rfl) .start
  | .writeSegment .. => execWriteSegment_keeps (.moved true true rfl) .start
  | .blobSegmentTimeout .. => execBlobSegmentTimeout_keeps (.moved false false rfl) .start
  | .blobCopyExpiry .. => execBlobCopyExpiry_keeps (.moved false false rfl) .start
  | .describe .. => execDescribe_keeps (.moved false false rfl) .start
  | .next .. => execNext_keeps (.moved false false rfl) .start
  | .destroy .. => execDestroy_keeps (.moved true true rfl) .start
  | .queueDestroyDone .. => execQueueDestroyDone_keeps (.moved true true rfl) .start
  | .batchOpen .. => execBatchOpen_keeps (.moved true true rfl) .start
  | .batchWrite .. => execBatchWrite_keeps (.moved true true rfl) .start
  | .batchCommit .. => execBatchCommit_keeps (.moved true true rfl) .start
  | .batchAbort .. => execBatchAbort_keeps (.moved true true rfl) .start
  | .batchIdleExpiry .. => execBatchIdleExpiry_keeps (.moved false false rfl) .start
  | .epochDrainDone => execEpochDrainDone_keeps (.moved true true rfl) .start
  | .epochAdvance => execEpochAdvance_keeps (.moved true true rfl) .start
  | .programInstall .. => execProgramInstall_keeps (.moved true true rfl) .start
  | .graphRestore .. => execGraphRestore_keeps (.moved true true rfl) .start
  | .emRegionCreate .. => execEmRegionCreate_keeps (.moved false false rfl) .start
  | .lpmRegionCreate .. => execLpmRegionCreate_keeps (.moved false false rfl) .start
  | .tableInsert .. => execTableInsert_keeps (.moved true true rfl) .start
  | .tableDelete .. => execTableDelete_keeps (.moved true true rfl) .start
  | .learnServiceCommit => execLearnServiceCommit_keeps (.moved false false rfl) .start
  | .ageSweep .. => execAgeSweep_keeps (.moved false false rfl) .start
  | .search .. => execSearch_keeps (.moved false false rfl) .start
  | .iterOpen .. => execIterOpen_keeps (.moved false false rfl) .start
  | .iterNext .. => execIterNext_keeps (.moved false false rfl) .start
  | .iterClose .. => execIterClose_keeps (.moved false false rfl) .start
  | .iterTimeout .. => execIterTimeout_keeps (.moved false false rfl) .start
  | .flushRequest .. => execFlushRequest_keeps (.moved false false rfl) .start
  | .flushScanDone .. => execFlushScanDone_keeps (.moved false false rfl) .start
  | .ruleSetCreate .. => execRuleSetCreate_keeps (.moved false false rfl) .start
  | .ruleWrite .. => execRuleWrite_keeps (.moved true true rfl) .start
  | .ruleDelete .. => execRuleDelete_keeps (.moved true true rfl) .start
  | .ruleSetAction .. => execRuleSetAction_keeps (.moved true true rfl) .start
  | .readRule .. => execReadRule_keeps (.moved false false rfl) .start
  | .readBlock .. => execReadBlock_keeps (.moved false false rfl) .start
  | .queueCreate .. => execQueueCreate_keeps (.moved false false rfl) .start
  | .enable .. => execEnable_keeps (.moved false false rfl) .start
  | .disable .. => execDisable_keeps (.moved false false rfl) .start
  | .setLimits .. => execSetLimits_keeps (.moved false false rfl) .start
  | .queueQuery .. => execQueueQuery_keeps (.moved false false rfl) .start
  | .mcastSet .. => execMcastSet_keeps (.moved false false rfl) .start
  | .mcastQuery .. => execMcastQuery_keeps (.moved false false rfl) .start
  | .nodeCreate .. => execNodeCreate_keeps (.moved false false rfl) .start
  | .schedSet .. => execSchedSet_keeps (.moved false false rfl) .start
  | .schedQuery .. => execSchedQuery_keeps (.moved false false rfl) .start
  | .meterCreate .. => execMeterCreate_keeps (.moved false false rfl) .start
  | .meterSet .. => execMeterSet_keeps (.moved false false rfl) .start
  | .meterQuery .. => execMeterQuery_keeps (.moved false false rfl) .start
  | .windowAdmin .. => execWindowAdmin_keeps (.moved false false rfl) .start
  | .windowEnable .. => execWindowEnable_keeps (.moved false false rfl) .start
  | .windowPort .. => execWindowPort_keeps (.moved false false rfl) .start
  | .watchQueue .. => execWatchQueue_keeps (.moved false false rfl) .start
  | .watchIntervalEnd .. => execWatchIntervalEnd_keeps (.moved false false rfl) .start
  | .dataCell .. => execDataCell_keeps (.moved false false rfl) .start
  | .idleCell .. => execIdleCell_keeps (.moved false false rfl) .start
  | .replayTimeout .. => execReplayTimeout_keeps (.moved false false rfl) .start
  | .reassemblyTimeout .. => execReassemblyTimeout_keeps (.moved false false rfl) .start
  | .reseqTimeout .. => execReseqTimeout_keeps (.moved false false rfl) .start
  | .request .. => execRequest_keeps (.moved false false rfl) .start
  | .grant .. => execGrant_keeps (.moved false false rfl) .start
  | .grantIssue => execGrantIssue_keeps (.moved false false rfl) .start
  | .requestRefresh .. => execRequestRefresh_keeps (.moved false false rfl) .start
  | .hello .. => execHello_keeps (.moved false false rfl) .start
  | .quiet .. => execQuiet_keeps (.moved false false rfl) .start
  | .quietDone .. => execQuietDone_keeps (.moved false false rfl) .start
  | .quietTimeout .. => execQuietTimeout_keeps (.moved false false rfl) .start
  | .fault .. => execFault_keeps (.moved false false rfl) .start
  | .linkFail .. => execLinkFail_keeps (.moved false false rfl) .start
  | .signalLossHoldExpiry .. => execSignalLossHoldExpiry_keeps (.moved false false rfl) .start
  | .linkRetrain .. => execLinkRetrain_keeps (.moved false false rfl) .start
  | .linkUpHoldExpiry .. => execLinkUpHoldExpiry_keeps (.moved false false rfl) .start
  | .fenceHoldExpiry .. => execFenceHoldExpiry_keeps (.moved false false rfl) .start
  | .fabricMeasure => execFabricMeasure_keeps (.moved false false rfl) .start
  | .quadWakeDone .. => execQuadWakeDone_keeps (.moved false false rfl) .start
  | .hbmIdleExpiry .. => execHbmIdleExpiry_keeps (.moved false false rfl) .start
  | .selfRefreshEnter .. => execSelfRefreshEnter_keeps (.moved false false rfl) .start
  | .hbmWakeDone .. => execHbmWakeDone_keeps (.moved true true rfl) .start
  | .hbmWakeFailed .. => execHbmWakeFailed_keeps (.moved true true rfl) .start
  | .refreshBoundary .. => execRefreshBoundary_keeps (.moved false false rfl) .start
  | .bankRefresh .. => execBankRefresh_keeps (.moved false false rfl) .start
  | .caParityAlert .. => execCaParityAlert_keeps (.moved true true rfl) .start
  | .calRound .. => execCalRound_keeps (.moved false false rfl) .start
  | .calProbeDone .. => execCalProbeDone_keeps (.moved true true rfl) .start
  | .hbmDelays .. => execHbmDelays_keeps (.moved false false rfl) .start
  | .delaySave => execDelaySave_keeps (.moved false false rfl) .start
  | .scrub .. => execScrub_keeps (.moved true true rfl) .start
  | .portMode .. => execPortMode_keeps (.moved false false rfl) .start
  | .portSlice .. => execPortSlice_keeps (.moved false false rfl) .start
  | .portAdminEnable .. => execPortAdminEnable_keeps (.moved false false rfl) .start
  | .portAdminDisable .. => execPortAdminDisable_keeps (.moved false false rfl) .start
  | .moduleActivationStep .. => execModuleActivationStep_keeps (.moved false false rfl) .start
  | .moduleActivationTimeout .. => execModuleActivationTimeout_keeps (.moved false false rfl) .start
  | .ptpStepNs .. => execPtpStepNs_keeps (.moved false false rfl) .start
  | .txStampPop .. => execTxStampPop_keeps (.moved false false rfl) .start
  | .ppsInEdge => execPpsInEdge_keeps (.moved false false rfl) .start
  | .ppsOutSecond => execPpsOutSecond_keeps (.moved false false rfl) .start
  | .adaptStep .. => execAdaptStep_keeps (.moved false false rfl) .start
  | .adaptEvaluate .. => execAdaptEvaluate_keeps (.moved false false rfl) .start
  | .marginMeasure .. => execMarginMeasure_keeps (.moved false false rfl) .start
  | .dgUncorrectableFlit .. => execDgUncorrectableFlit_keeps (.moved true true rfl) .start
  | .dgFail .. => execDgFail_keeps (.moved false false rfl) .start
  | .dgRetrain .. => execDgRetrain_keeps (.moved false false rfl) .start
  | .dgCalRound .. => execDgCalRound_keeps (.moved false false rfl) .start
  | .subDoorbell .. => execSubDoorbell_keeps (.moved false false rfl) .start
  | .scanResume .. => execScanResume_keeps (.moved false false rfl) .start
  | .inject .. => execInject_keeps (.moved false false rfl) .start
  | .receiveBuffer .. => execReceiveBuffer_keeps (.moved false false rfl) .start
  | .stagedRetry .. => execStagedRetry_keeps (.moved false false rfl) .start
  | .coalesceExpiry .. => execCoalesceExpiry_keeps (.moved false false rfl) .start
  | .ringEnable .. => execRingEnable_keeps (.moved false false rfl) .start
  | .ringDisable .. => execRingDisable_keeps (.moved false false rfl) .start
  | .channelCreate .. => execChannelCreate_keeps (.moved false false rfl) .start
  | .channelSet .. => execChannelSet_keeps (.moved false false rfl) .start
  | .channelQuery .. => execChannelQuery_keeps (.moved false false rfl) .start
  | .dbStatus .. => execDbStatus_keeps (.moved false false rfl) .start
  | .dbMask .. => execDbMask_keeps (.moved false false rfl) .start
  | .dbRing .. => execDbRing_keeps (.moved false false rfl) .start
  | .txData .. => execTxData_keeps (.moved false false rfl) .start
  | .rxData .. => execRxData_keeps (.moved false false rfl) .start
  | .abandon .. => execAbandon_keeps (.moved false false rfl) .start
  | .mbStalemate .. => execMbStalemate_keeps (.moved false false rfl) .start
  | .lockAcquire .. => execLockAcquire_keeps (.moved false false rfl) .start
  | .lockRelease .. => execLockRelease_keeps (.moved false false rfl) .start
  | .lockForce .. => execLockForce_keeps (.moved false false rfl) .start
  | .tstart .. => execTstart_keeps (.moved false false rfl) .start
  | .tstop .. => execTstop_keeps (.moved false false rfl) .start
  | .tsig .. => execTsig_keeps (.moved false false rfl) .start
  | .twfe .. => execTwfe_keeps (.moved false false rfl) .start
  | .tpoll .. => execTpoll_keeps (.moved false false rfl) .start
  | .tyield .. => execTyield_keeps (.moved false false rfl) .start
  | .tstat .. => execTstat_keeps (.moved false false rfl) .start
  | .threadWake .. => execThreadWake_keeps (.moved false false rfl) .start
  | .tcmpExpiry .. => execTcmpExpiry_keeps (.moved false false rfl) .start
  | .twdogExpiry .. => execTwdogExpiry_keeps (.moved false false rfl) .start
  | .threadFault .. => execThreadFault_keeps (.moved false false rfl) .start
  | .thread0Failure .. => execThread0Failure_keeps (.moved true true rfl) .start
  | .slackWater .. => execSlackWater_keeps (.moved false false rfl) .start
  | .coreRetainExpiry .. => execCoreRetainExpiry_keeps (.moved false false rfl) .start
  | .debugHalt .. => execDebugHalt_keeps (.moved false false rfl) .start
  | .debugResume .. => execDebugResume_keeps (.moved false false rfl) .start
  | .threadWeight .. => execThreadWeight_keeps (.moved false false rfl) .start
  | .puntQueue .. => execPuntQueue_keeps (.moved false false rfl) .start
  | .integratorRestart .. => execIntegratorRestart_keeps (.moved false false rfl) .start
  | .clearObject .. => execClearObject_keeps (.moved false false rfl) .start
  | .clearIndex .. => execClearIndex_keeps (.moved false false rfl) .start
  | .clearAllObjects .. => execClearAllObjects_keeps (.moved false false rfl) .start
  | .clearCounterSet .. => execClearCounterSet_keeps (.moved false false rfl) .start
  | .clearQueueStats .. => execClearQueueStats_keeps (.moved false false rfl) .start
  | .clearChannelStats .. => execClearChannelStats_keeps (.moved false false rfl) .start
  | .clearHistogram .. => execClearHistogram_keeps (.moved false false rfl) .start
  | .clearEverything .. => execClearEverything_keeps (.moved false false rfl) .start
  | .counterSetCreate .. => execCounterSetCreate_keeps (.moved false false rfl) .start
  | .statsFlush .. => execStatsFlush_keeps (.moved true true rfl) .start
  | .snapshot .. => execSnapshot_keeps (.moved false false rfl) .start
  | .snapshotReady => execSnapshotReady_keeps (.moved false false rfl) .start
  | .snapshotQuery .. => execSnapshotQuery_keeps (.moved false false rfl) .start
  | .wrapQuery .. => execWrapQuery_keeps (.moved false false rfl) .start
  | .counterSetQuery .. => execCounterSetQuery_keeps (.moved false false rfl) .start
  | .histogramQuery .. => execHistogramQuery_keeps (.moved false false rfl) .start
  | .traceRead .. => execTraceRead_keeps (.moved false false rfl) .start
  | .ringReset .. => execRingReset_keeps (.moved false false rfl) .start
  | .stageOpen .. => execStageOpen_keeps (.moved false false rfl) .start
  | .stageEraseDone => execStageEraseDone_keeps (.moved false false rfl) .start
  | .stageData .. => execStageData_keeps (.moved false false rfl) .start
  | .pieceEraseDone .. => execPieceEraseDone_keeps (.moved false false rfl) .start
  | .stageHashDone => execStageHashDone_keeps (.moved false false rfl) .start
  | .atNextStart .. => execAtNextStart_keeps (.moved false false rfl) .start
  | .warmNow .. => execWarmNow_keeps (.moved false false rfl) .start
  | .activateInstallDone .. => execActivateInstallDone_keeps (.moved true false rfl) .start
  | .confirm .. => execConfirm_keeps (.moved false false rfl) .start
  | .revert .. => execRevert_keeps (.moved true true rfl) .start
  | .confirmDelayExpiry => execConfirmDelayExpiry_keeps (.moved false false rfl) .start
  | .confirmDeadlineExpiry => execConfirmDeadlineExpiry_keeps (.moved true true rfl) .start
  | .patternStart .. => execPatternStart_keeps (.moved false false rfl) .start
  | .patternStop .. => execPatternStop_keeps (.moved false false rfl) .start
  | .patternDurationEnd .. => execPatternDurationEnd_keeps (.moved false false rfl) .start
  | .bistStart .. => execBistStart_keeps (.moved false false rfl) .start
  | .bistDone .. => execBistDone_keeps (.moved false false rfl) .start
  | .backgroundTestDone .. => execBackgroundTestDone_keeps (.moved true false rfl) .start
  | .healthClear .. => execHealthClear_keeps (.moved false false rfl) .start
  | .jtagInstruction .. => execJtagInstruction_keeps (.moved false false rfl) .start
  | .identity .. => execIdentity_keeps (.moved true false rfl) .start
  | .verdictBlock .. => execVerdictBlock_keeps (.moved true false rfl) .start
  | .epochMark .. => execEpochMark_keeps (.moved true true rfl) .start
  | .object .. => execObject_keeps (.moved true true rfl) .start
  | .learnRecord .. => execLearnRecord_keeps (.moved true false rfl) .start
  | .departureMark .. => execDepartureMark_keeps (.moved true false rfl) .start
  | .fabricVerdict .. => execFabricVerdict_keeps (.moved true false rfl) .start
  | .copyVerdict .. => execCopyVerdict_keeps (.moved true false rfl) .start
  | .hostWork .. => execHostWork_keeps (.moved true false rfl) .start
  | .queueEnd .. => execQueueEnd_keeps (.moved true false rfl) .start
  | .digest .. => execDigest_keeps (.moved true false rfl) .start
  | .start .. => execStart_keeps (.moved true true rfl) .start
  | .handoff => execHandoff_keeps (.moved true true rfl) .start
  | .copy .. => execCopy_keeps (.moved true true rfl) .start
  | .status .. => execStatus_keeps (.moved true true rfl) .start
  | .heartbeat .. => execHeartbeat_keeps (.moved false true rfl) .start
  | .heartbeatSend => execHeartbeatSend_keeps (.moved true true rfl) .start
  | .heartbeatSilence => execHeartbeatSilence_keeps (.moved true true rfl) .start
  | .pairFaultInFall => execPairFaultInFall_keeps (.moved true true rfl) .start
  | .faultRequest .. => execFaultRequest_keeps (.moved false true rfl) .start
  | .switchover .. => execSwitchover_keeps (.moved true true rfl) .start
  | .verdictFlush .. => execVerdictFlush_keeps (.moved true false rfl) .start
  | .verdictWaitExpiry .. => execVerdictWaitExpiry_keeps (.moved true false rfl) .start
  | .digestClose .. => execDigestClose_keeps (.moved true false rfl) .start
  | .departureInterval => execDepartureInterval_keeps (.moved false false rfl) .start
  | .fabricVerdictFlush .. => execFabricVerdictFlush_keeps (.moved false false rfl) .start
  | .selftestInterval => execSelftestInterval_keeps (.moved false false rfl) .start
  | .mateReplayTimeout .. => execMateReplayTimeout_keeps (.moved false false rfl) .start
  | .mateLaneFail .. => execMateLaneFail_keeps (.moved true true rfl) .start
  | .registerWrite .. => execRegisterWrite_keeps (.moved true true rfl) .start
  | .alwaysOnRailLoss => execAlwaysOnRailLoss_keeps (.moved true true rfl) .start
  | .mateLaneRetrain .. => execMateLaneRetrain_keeps (.moved false false rfl) .start
  | .mateLinkUp .. => execMateLinkUp_keeps (.moved false false rfl) .start
  | .mateRecordsCell .. => execMateRecordsCell_keeps (.moved true true rfl) .start
  | .mateIdleCell .. => execMateIdleCell_keeps (.moved false false rfl) .start
  | .fabLinkAligned .. => execFabLinkAligned_keeps (.moved false false rfl) .start
  | .laneReacquired .. => execLaneReacquired_keeps (.moved false false rfl) .start
  | .ppsOutFall => execPpsOutFall_keeps (.moved false false rfl) .start
  | .mgmtLinkUp .. => execMgmtLinkUp_keeps (.moved false false rfl) .start
  | .mgmtLinkDown .. => execMgmtLinkDown_keeps (.moved false false rfl) .start
  | .pcieLinkTrained .. => execPcieLinkTrained_keeps (.moved false false rfl) .start
  | .pObjectRecorded .. => execPObjectRecorded_keeps (.moved true true rfl) .start
  | .groupDownTimeout .. => execGroupDownTimeout_keeps (.moved false true rfl) .start
  | .ondieUncorrectableError .. => execOndieUncorrectableError_keeps (.moved false true rfl) .start
  | .pairFaultInRise => execPairFaultInRise_keeps (.moved false false rfl) .start
  | .checkerLocked .. => execCheckerLocked_keeps (.moved false false rfl) .start
  | .checkerLockLost .. => execCheckerLockLost_keeps (.moved false false rfl) .start
  | .cmisPassthroughDone .. => execCmisPassthroughDone_keeps (.moved false false rfl) .start
  | .dgAlignmentMarker .. => execDgAlignmentMarker_keeps (.moved false false rfl) .start

/-- What a meaning keeps, it keeps in the state that it answers. -/
theorem On.keeps_next {ps : Nat} {s t : State} {x : Host.Outcome State Fault Refusal} (h : On inNext ps s x) (e : x = .next t) :
    Keeps ps s t := h t (by rw [e]; rfl)

/-- Settles O34: the mask of what a command touches has the bit of MODE, or of the fence, only where the command may move it. -/
theorem onlySomeCommandsMoveModeAndFence : Obligations.OnlySomeCommandsMoveModeAndFence := by
  refine ⟨fun c s t hc ht => ?_, fun c s t hc ht => ?_⟩
  · have hk := (exec_keepsModeAndFence c s).keeps_next ht
    rw [hc] at hk
    exact hk.only .mode (partsMoved_mode _)
  · have hk := (exec_keepsModeAndFence c s).keeps_next ht
    rw [hc] at hk
    exact hk.only .fence (partsMoved_fence _)

/-- Settles O29: a step runs the command in front on the rest of the queue. -/
theorem stepRunsTheFrontCommand : Obligations.StepRunsTheFrontCommand := fun _ _ _ hc => step_cons hc

/-- Settles O30: with nothing in front, a step answers the state it stands in. -/
theorem emptyQueueIdles : Obligations.EmptyQueueIdles := by
  intro s hs
  unfold step
  rw [hs]

end Sys2Proof.Machine
end

section
/-! The frames of the data path: from the masks of the meanings to lists of parts. -/

namespace Sys2Proof.Machine

/-- The bits of a list of parts come to those that a mask holds. -/
theorem foldl_bit_or (l : List Part) (m : Nat) : l.foldl (fun m p => m ||| 2 ^ p.bit) m = m ||| partsMask l := by
  induction l generalizing m with
  | nil => simp [partsMask]
  | cons p l ih => rw [partsMask, List.foldl_cons, List.foldl_cons, ih, ih (0 ||| _), Nat.zero_or, Nat.or_assoc]

theorem partsMask_append (l k : List Part) : partsMask (l ++ k) = partsMask l ||| partsMask k := by
  rw [partsMask, List.foldl_append, foldl_bit_or]
  rfl

theorem partsMask_anyRegister : partsMask anyRegister = allRegisters := by decide +kernel

/-- A list of parts, with the registers of every page, covers what lies in its mask. -/
theorem Covers.partsAnyRegister {l : List Part} {m : Nat} (e : Nat.land (Nat.lor (partsMask l) allRegisters) m = m) :
    Covers (partsMask (l ++ anyRegister)) m := by
  rw [partsMask_append, partsMask_anyRegister]
  exact .of_land e

/-- Settles O35: each command's meaning keeps every part outside its list. -/
theorem dataPathFrames : Obligations.DataPathFrames := by
  refine ⟨?frameReceive, ?switchingSlotGrant, ?sliceWakeDone, ?sliceIdleExpiry, ?laneTake, ?passDispatch, ?dgHoldClear, ?breakwaterVerdict,
    ?replicateCopy, ?spillSegmentStart, ?spillWriteDone, ?readbackDone, ?schedDecision, ?voqRelease, ?frameTransmitDone,
    ?txFrameStart, ?gateEvent, ?configChangeTime, ?linkDownHoldExpiry, ?linkFaultOnset, ?flushDone, ?linkUp⟩
  case frameReceive => exact fun _ _ _ _ _ => .of_next (execFrameReceive_keeps (.of_land rfl) .start)
  case switchingSlotGrant => exact fun _ _ => .of_next (execSwitchingSlotGrant_keeps (.of_land rfl) .start)
  case sliceWakeDone => exact fun _ _ _ => .of_next (execSliceWakeDone_keeps (.of_land rfl) .start)
  case sliceIdleExpiry => exact fun _ _ _ => .of_next (execSliceIdleExpiry_keeps (.of_land rfl) .start)
  case laneTake => exact fun _ _ _ _ => .of_next (execLaneTake_keeps (.partsAnyRegister rfl) .start)
  case passDispatch => exact fun _ _ _ _ _ => .of_next (execPassDispatch_keeps (.of_land rfl) .start)
  case dgHoldClear => exact fun _ _ _ => .of_next (execDgHoldClear_keeps (.of_land rfl) .start)
  case breakwaterVerdict => exact fun _ _ _ => .of_next (execBreakwaterVerdict_keeps (.of_land rfl) .start)
  case replicateCopy => exact fun _ _ _ => .of_next (execReplicateCopy_keeps (.of_land rfl) .start)
  case spillSegmentStart => exact fun _ _ => .of_next (execSpillSegmentStart_keeps (.of_land rfl) .start)
  case spillWriteDone => exact fun _ _ _ => .of_next (execSpillWriteDone_keeps (.of_land rfl) .start)
  case readbackDone => exact fun _ _ _ _ _ _ _ => .of_next (execReadbackDone_keeps (.of_land rfl) .start)
  case schedDecision => exact fun _ _ _ => .of_next (execSchedDecision_keeps (.of_land rfl) .start)
  case voqRelease => exact fun _ _ _ => .of_next (execVoqRelease_keeps (.of_land rfl) .start)
  case frameTransmitDone => exact fun _ _ _ => .of_next (execFrameTransmitDone_keeps (.of_land rfl) .start)
  case txFrameStart => exact fun _ _ _ => .of_next (execTxFrameStart_keeps (.of_land rfl) .start)
  case gateEvent => exact fun _ _ _ => .of_next (execGateEvent_keeps (.of_land rfl) .start)
  case configChangeTime => exact fun _ _ _ => .of_next (execConfigChangeTime_keeps (.of_land rfl) .start)
  case linkDownHoldExpiry => exact fun _ _ _ => .of_next (execLinkDownHoldExpiry_keeps (.of_land rfl) .start)
  case linkFaultOnset => exact fun _ _ _ _ _ => .of_next (execLinkFaultOnset_keeps (.of_land rfl) .start)
  case flushDone => exact fun _ _ _ => .of_next (execFlushDone_keeps (.of_land rfl) .start)
  case linkUp => exact fun _ _ _ => .of_next (execLinkUp_keeps (.of_land rfl) .start)

end Sys2Proof.Machine
end

section
/-! Roles and modes limit access: what the checks of an access answer, in their order (R152). -/

namespace Sys2Proof.Machine

theorem mem_ite {α : Type} {c : Prop} [Decidable c] {a b : α} {l : List α} (ha : a ∈ l) (hb : b ∈ l) : (if c then a else b) ∈ l := by
  split
  · exact ha
  · exact hb

/-- Whom `mayWrite` turns away passes no later check (R119, R152). -/
theorem State.checkTargetFor_of_mayNotWrite {s : State} {blob : Bool} {role i j len : Nat}
    (h : ∀ d, dictRow i j = some d → mayWrite role d i j = false) :
    s.checkTargetFor blob role i j len ∈ [Status.noObject, .noSubindex, .denied] := by
  rw [State.checkTargetFor]
  refine mem_ite (by decide) ?_
  split
  · decide
  case h_2 d hd =>
    rw [h d hd]
    exact mem_ite (by decide) (by rw [Bool.not_false, if_pos rfl]; decide)

/-- What the mode forbids passes no later check (R71, R117, R152). -/
theorem State.checkTargetFor_of_modeForbids {s : State} {blob : Bool} {role i j len : Nat} (h : s.modeForbids i j true = true) :
    s.checkTargetFor blob role i j len ∈ [Status.noObject, .noSubindex, .denied, .typeMismatch, .readOnly, .mode] := by
  rw [State.checkTargetFor, h]
  refine mem_ite (by decide) ?_
  split
  · decide
  · exact mem_ite (by decide) (mem_ite (by decide) (mem_ite (by decide) (mem_ite (by decide) (by rw [if_pos rfl]; decide))))

theorem State.checkRead_of_modeForbids {s : State} {o : Origin} {blob : Bool} {i j : Nat} (h : s.modeForbids i j false = true) :
    s.checkRead o blob i j ∈ [Status.noObject, .noSubindex, .denied, .typeMismatch, .writeOnly, .mode] := by
  rw [State.checkRead, h]
  refine mem_ite (by decide) ?_
  split
  · decide
  · exact mem_ite (by decide) (mem_ite (by decide) (mem_ite (by decide) (mem_ite (by decide) (by rw [if_pos rfl]; decide))))

/-- A write that is refused before its value is looked at fails with that status. -/
theorem State.checkCanonical_of_target {s : State} {role i j : Nat} {c : List Byte}
    (h : s.checkTargetFor false role i j c.length ≠ .ok) : s.checkCanonical role i j c = s.checkTargetFor false role i j c.length := by
  unfold State.checkCanonical
  split
  · exact absurd ‹_› h
  · rfl

/-- A refusal of the target that lies in a list without OK is the refusal of the write. -/
theorem State.checkCanonical_mem {s : State} {role i j : Nat} {c : List Byte} {l : List Status} (hl : Status.ok ∉ l)
    (h : s.checkTargetFor false role i j c.length ∈ l) : s.checkCanonical role i j c ∈ l := by
  rw [State.checkCanonical_of_target fun e => hl (e ▸ h)]
  exact h

/-- A role below OPERATOR may write nothing (R119). -/
theorem mayWrite_below {role : Nat} (h : role < 2) (d : ObjDef) (i j : Nat) : mayWrite role d i j = false := by
  simp [mayWrite, show role ≠ 3 by omega, show role ≠ 2 by omega]

/-- RWB objects are kept for ADMIN (R119). -/
theorem mayWrite_operator_rwb {d : ObjDef} (h : d.access = .rwb) (i j : Nat) : mayWrite 2 d i j = false := by
  simp [mayWrite, h]

/-- The indices outside the six ranges are not served in DORMANT (R71). -/
theorem dormantServed_eq_false {i : Nat} (h : i / 256 ∉ [0x10, 0x11, 0x20, 0x21, 0x22, 0x23]) : dormantServed i = false := by
  simp only [List.mem_cons, List.not_mem_nil, or_false] at h
  simp only [dormantServed, Bool.or_eq_false_iff, decide_eq_false_iff_not]
  omega

/-- Outside recovery, DORMANT forbids reads and writes outside its ranges (R71). -/
theorem State.modeForbids_dormant {s : State} {i : Nat} (hm : s.mode = .dormant) (hr : s.power.recovery = false)
    (hi : i / 256 ∉ [0x10, 0x11, 0x20, 0x21, 0x22, 0x23]) (j : Nat) (write : Bool) : s.modeForbids i j write = true := by
  simp [State.modeForbids, hm, hr, dormantServed_eq_false hi]

/-- RWB objects are written in BRINGUP and DIAGNOSTIC only (R117). -/
theorem State.modeForbids_rwb {s : State} {i j : Nat} {d : ObjDef} (hd : dictRow i j = some d) (ha : d.access = .rwb)
    (hm : s.mode ∉ [Mode.bringup, .diagnostic]) : s.modeForbids i j true = true := by
  simp only [List.mem_cons, List.not_mem_nil, or_false, not_or] at hm
  simp [State.modeForbids, hd, ha, hm]

/-- Settles O57: the check of R152 that each refusal rests on comes before the value is looked at. -/
theorem rolesAndModesLimitAccess : Obligations.RolesAndModesLimitAccess := by
  refine ⟨?belowOperator, ?operator, ?dormantWrite, ?dormantRead, ?bringup⟩
  case belowOperator =>
    intro s role i j c hrole
    exact State.checkCanonical_mem (by decide) (State.checkTargetFor_of_mayNotWrite fun d _ => mayWrite_below hrole d i j)
  case operator =>
    intro s i j c d hd ha
    refine State.checkCanonical_mem (by decide) (State.checkTargetFor_of_mayNotWrite fun e he => ?_)
    exact mayWrite_operator_rwb (Option.some.inj (hd.symm.trans he) ▸ ha) i j
  case dormantWrite =>
    intro s o i j v hm hr hi
    exact State.checkCanonical_mem (by decide) (State.checkTargetFor_of_modeForbids (State.modeForbids_dormant hm hr hi j true))
  case dormantRead =>
    intro s o blob i j hm hr hi
    exact State.checkRead_of_modeForbids (State.modeForbids_dormant hm hr hi j false)
  case bringup =>
    intro s role i j c d hd ha hm hok
    have := State.checkCanonical_mem (c := c) (role := role) (by decide)
      (State.checkTargetFor_of_modeForbids (State.modeForbids_rwb hd ha hm))
    rw [hok] at this
    exact absurd this (by decide)

end Sys2Proof.Machine
end

section
/-! The state after reset. -/

namespace Sys2Proof.Machine

/-- After reset the only object away from its default is the state of PD000 (R57). -/
theorem State.reset_reg {i j : Nat} (h : okey i j ≠ okey 0x2101 0) : State.reset.reg i j = dictDefault i j := by
  have hkey : ¬ 0x210100 = okey i j := fun e => h e.symm
  simp [State.reg, State.reset, mgetD, mget, hkey]

/-- In DORMANT a unit has no role in its pair, whatever its pins say (R351). -/
theorem State.role_dormant {s : State} (h : s.mode = .dormant) : s.role = 0 := by
  simp [State.role, h]

/-- Settles O31: the reset state names each of these values, and an object or a store that lists nothing reads its default. -/
theorem resetStateHoldsTheSpecsValues : Obligations.ResetStateHoldsTheSpecsValues := by
  have hdormant : State.reset.mode = .dormant := rfl
  exact ⟨hdormant, rfl, State.role_dormant hdormant, fun _ _ => State.reset_reg, rfl, rfl, rfl, fun _ => rfl, rfl, rfl, rfl, rfl, rfl, rfl,
    rfl, fun _ => rfl, rfl, rfl, rfl, rfl, ⟨rfl, rfl, rfl⟩⟩

end Sys2Proof.Machine
end

section
/-! The ingress commands: the pool of a slice, its sleep and its wake, its lanes, and the hold of DG. -/

namespace Sys2Proof.Machine

/-! What leaves the slices alone. -/

theorem State.sliceAt_congr {s t : State} (h : t.slices = s.slices) (n : Nat) : t.sliceAt n = s.sliceAt n := by
  rw [State.sliceAt, h, State.sliceAt]

/-- An operation whose mask is without the slices leaves every slice alone. -/
theorem On.sliceAt_same {ps : Nat} {s t : State} (h : On inS ps s t) (e : ps.testBit 5 = false) (n : Nat) : t.sliceAt n = s.sliceAt n :=
  State.sliceAt_congr (h.slices_same e) n

@[simp] theorem State.reach_sliceAt (s : State) (u n : Nat) : (s.reach u).sliceAt n = s.sliceAt n := rfl

@[simp] theorem State.count_sliceAt (s : State) (i j k n : Nat) : (s.count i j k).sliceAt n = s.sliceAt n :=
  State.sliceAt_congr (by simp) n

@[simp] theorem State.bump_sliceAt (s : State) (i j n : Nat) : (s.bump i j).sliceAt n = s.sliceAt n := s.count_sliceAt i j 1 n

@[simp] theorem State.nextOrdinal_sliceAt (s : State) (source n : Nat) : (s.nextOrdinal source).2.sliceAt n = s.sliceAt n := rfl

@[simp] theorem State.noteArrival_sliceAt (s : State) (source ordinal tag : Nat) (again : Again) (n : Nat) :
    (s.noteArrival source ordinal tag again).sliceAt n = s.sliceAt n :=
  (State.noteArrival_keeps (Covers.refl _) .start).sliceAt_same rfl n

@[simp] theorem State.setDomain_sliceAt (s : State) (d st n : Nat) : (s.setDomain d st).sliceAt n = s.sliceAt n :=
  State.sliceAt_congr (by simp) n

@[simp] theorem State.wakeLate_sliceAt (s : State) (kind k ns n : Nat) : (s.wakeLate kind k ns).sliceAt n = s.sliceAt n :=
  (State.wakeLate_keeps (Covers.refl _) .start).sliceAt_same rfl n

@[simp] theorem State.wakeLate_now (s : State) (kind k ns : Nat) : (s.wakeLate kind k ns).now = s.now :=
  (State.wakeLate_keeps (Covers.refl _) .start).now_same rfl

@[simp] theorem State.trace_sliceAt (s : State) (id : Option Nat) (info epoch point : Nat) (detail : List Byte) (n : Nat) :
    (s.trace id info epoch point detail).sliceAt n = s.sliceAt n :=
  (State.trace_keeps (Covers.refl _) .start).sliceAt_same rfl n

@[simp] theorem State.markTraced_sliceAt (s : State) (k : Nat) (egress : Bool) (i : Intake) (n : Nat) :
    (s.markTraced k egress i).2.sliceAt n = s.sliceAt n :=
  (State.markTraced_keeps (Covers.refl _) .start).snd.sliceAt_same rfl n

@[simp] theorem State.runPass_sliceAt (s : State) (k : Nat) (egress : Bool) (i : Intake) (p : Packet) (n : Nat) :
    (s.runPass k egress i p).2.sliceAt n = s.sliceAt n :=
  (State.runPass_keeps (Covers.refl _) .start).snd.sliceAt_same rfl n

/-! ### Frames received (R421, R81) -/

@[simp] theorem State.askWake_pool (s : State) (k n : Nat) : ((s.askWake k).sliceAt n).pool = (s.sliceAt n).pool := by
  simp only [State.askWake]
  split
  · by_cases h : n = k
    · simp [h]
    · rw [s.setSlice_sliceAt_other _ _ h]
  · rfl

/-- A frame that no counter of the MAC turns away is counted and has its ordinal. -/
def State.frameCounted (s : State) (p : Nat) (frame : List Byte) : Nat × State :=
  ((s.bump 0x3010 p).count 0x3011 p frame.length).nextOrdinal p

/-- The frame as the pool of its slice holds it. -/
def State.poolFrame (s : State) (p : Nat) (frame : List Byte) : PoolFrame :=
  { frame := frame, port := p, arrival := (s.frameCounted p frame).2.ptp, ordinal := (s.frameCounted p frame).1 }

/-- The state in which a frame that fits goes to its pool: it has its place in its source's order. -/
def State.arrived (s : State) (p : Nat) (frame : List Byte) : State :=
  (s.frameCounted p frame).2.noteArrival p (s.frameCounted p frame).1 (frameTag frame) (.frame (s.poolFrame p frame))

@[simp] theorem State.frameCounted_sliceAt (s : State) (p : Nat) (frame : List Byte) (n : Nat) :
    (s.frameCounted p frame).2.sliceAt n = s.sliceAt n := by simp [State.frameCounted]

@[simp] theorem State.arrived_sliceAt (s : State) (p : Nat) (frame : List Byte) (n : Nat) :
    (s.arrived p frame).sliceAt n = s.sliceAt n := by simp [State.arrived]

/-- A frame that nothing drops and that fits goes to the end of its slice's pool, and the slice is asked to wake. -/
theorem execFrameReceive_fits {p : Nat} {frame : List Byte} {bad : Bool} {s : State} (hp : p < 128) (hn : s.reg 0x3001 p < 16)
    (hup : 4 ≤ s.reg 0x3003 p) (hdrop : s.macDrop p frame bad = none)
    (hfits : poolBytes (s.sliceAt (s.reg 0x3001 p)).pool + frame.length ≤ 524288) :
    exec (.frameReceive p frame bad) s = .next (((s.arrived p frame).setSlice (s.reg 0x3001 p)
      { (s.arrived p frame).sliceAt (s.reg 0x3001 p) with
        pool := ((s.arrived p frame).sliceAt (s.reg 0x3001 p)).pool ++ [s.poolFrame p frame], idleSince := (s.arrived p frame).now }).askWake
        (s.reg 0x3001 p)) := by
  have hguard : ¬(128 ≤ p ∨ 16 ≤ s.reg 0x3001 p ∨ s.reg 0x3003 p < 4) := by omega
  have hroom : ¬524288 < poolBytes ((s.frameCounted p frame).2.sliceAt (s.reg 0x3001 p)).pool + frame.length := by
    rw [State.frameCounted_sliceAt]
    omega
  simp only [State.frameCounted] at hroom
  simp only [exec, execFrameReceive, if_neg hguard, hdrop, hroom, decide_false, Bool.false_eq_true, if_false]
  rfl

/-! ### Sleep and wake of slices (R79 to R84) -/

/-- The slice whose request waits longest has its switching slot as the time stands that the slot takes (R83). -/
theorem execSwitchingSlotGrant_oldest {u n : Nat} {s : State} (h : earliest s.wakeWaiting = some (u, n)) :
    Completes .switchingSlotGrant s fun t => (t.sliceAt n).wakeGrant = some t.now := by
  refine ⟨_, rfl, ?_⟩
  simp [h]

/-- Domains that come on, or that stay, leave the slices and the time alone. -/
theorem foldl_setDomain_sliceAt_now {l : List Nat} {c : State → Nat → Prop} [∀ s d, Decidable (c s d)] {st : Nat} (s : State) :
    (∀ n, (l.foldl (fun s d => if c s d then s.setDomain d st else s) s).sliceAt n = s.sliceAt n) ∧
      (l.foldl (fun s d => if c s d then s.setDomain d st else s) s).now = s.now := by
  induction l generalizing s with
  | nil => exact ⟨fun _ => rfl, rfl⟩
  | cons d l ih =>
    obtain ⟨hslice, hnow⟩ := ih (if c s d then s.setDomain d st else s)
    rw [List.foldl_cons]
    refine ⟨fun n => (hslice n).trans ?_, hnow.trans ?_⟩ <;> split <;> simp

theorem State.wakeSlice_sliceAt (s : State) (n : Nat) : (s.wakeSlice n).sliceAt n =
    { s.sliceAt n with feAsleep := false, tmAsleep := false, wakeReq := none, wakeGrant := none, idleSince := s.now } := by
  rw [State.wakeSlice, (foldl_setDomain_sliceAt_now _).1, State.setSlice_sliceAt]

@[simp] theorem State.wakeSlice_now (s : State) (n : Nat) : (s.wakeSlice n).now = s.now := (foldl_setDomain_sliceAt_now _).2

theorem State.sleepFe_feAsleep (s : State) (n : Nat) : ((s.sleepFe n).sliceAt n).feAsleep = true := by
  simp [State.sleepFe]

@[simp] theorem State.sleepFe_now (s : State) (n : Nat) : (s.sleepFe n).now = s.now := by
  simp [State.sleepFe]

@[simp] theorem State.sleepTm_feAsleep (s : State) (n : Nat) : ((s.sleepTm n).sliceAt n).feAsleep = (s.sliceAt n).feAsleep := by
  simp only [State.sleepTm]
  split <;> split <;> simp

@[simp] theorem State.sleepTm_now (s : State) (n : Nat) : (s.sleepTm n).now = s.now :=
  (State.sleepTm_keeps (Covers.refl _) .start).now_same rfl

/-- A slice that has its switching slot is awake 1,950 ns after it (R83). -/
theorem execSliceWakeDone_awake {n u g : Nat} {s : State} (hreq : (s.sliceAt n).wakeReq = some u) (hgrant : (s.sliceAt n).wakeGrant = some g) :
    Completes (.sliceWakeDone n) s fun t =>
      (t.sliceAt n).feAsleep = false ∧ (t.sliceAt n).tmAsleep = false ∧ (t.sliceAt n).wakeReq = none ∧ g + 1950 ≤ t.now := by
  refine ⟨_, rfl, ?_⟩
  have hnow : g + 1950 ≤ ((s.reach (g + 1950)).wakeSlice n).now := by
    rw [State.wakeSlice_now]
    exact Nat.le_max_right ..
  simp only [hreq, hgrant]
  split
  · simpa [State.wakeSlice_sliceAt] using hnow
  · simpa [State.wakeSlice_sliceAt] using hnow

/-- An idle slice that may sleep falls asleep when it has been idle for SLICE_IDLE_NS (R79, R80). -/
theorem execSliceIdleExpiry_sleeps {n : Nat} {s : State} (hn : n < 16) (hmode : s.sleepMode = true) (hen : s.reg 0x2010 1 ≠ 0)
    (hawake : (s.sliceAt n).feAsleep = false) (hidle : s.feIdle n = true) (hkeep : bitAt (s.reg 0x2010 4) n = false)
    (hroom : s.asleepSlices < s.reg 0x2010 3) : Completes (.sliceIdleExpiry n) s fun t =>
      (t.sliceAt n).feAsleep = true ∧ (s.sliceAt n).idleSince + s.reg 0x2010 2 ≤ t.now := by
  refine ⟨_, rfl, ?_⟩
  simp only [Nat.not_le.mpr hn, hmode, hen, hawake, hidle, hkeep, Nat.not_le.mpr hroom, Bool.not_true, Bool.false_eq_true, or_self, if_false]
  rw [State.sleepTm_feAsleep, State.sleepTm_now, State.sleepFe_now]
  exact ⟨State.sleepFe_feAsleep .., Nat.le_max_right ..⟩

/-! ### The hold of DG (R21) -/

/-- What DG holds of a slice, and whether it holds anything. -/
def Slice.dgHold (x : Slice) : Bool × List Pass := (x.hold, x.held)

@[simp] theorem State.punt_sliceAt (s : State) (k reason : Nat) (egress copy : Bool) (frame record : List Byte) (n : Nat) :
    (s.punt k reason egress copy frame record).sliceAt n = s.sliceAt n :=
  (State.punt_keeps (Covers.refl _) .start).sliceAt_same rfl n

@[simp] theorem State.traceDispatch_sliceAt (s : State) (x : Pass) (code reason n : Nat) :
    (s.traceDispatch x code reason).sliceAt n = s.sliceAt n :=
  (State.traceDispatch_keeps (Covers.refl _) .start).sliceAt_same rfl n

@[simp] theorem State.endPacket_sliceAt (s : State) (k : Nat) (x : Pass) (status info n : Nat) :
    (s.endPacket k x status info).sliceAt n = s.sliceAt n :=
  (State.endPacket_keeps (Covers.refl _) .start).sliceAt_same rfl n

@[simp] theorem State.crossToTm_sliceAt (s : State) (k : Nat) (p : Packet) (n : Nat) : (s.crossToTm k p).sliceAt n = s.sliceAt n :=
  (State.crossToTm_keeps (Covers.refl _) .start).sliceAt_same rfl n

@[simp] theorem State.toMac_sliceAt (s : State) (p : Nat) (x : Packet) (n : Nat) : (s.toMac p x).sliceAt n = s.sliceAt n :=
  (State.toMac_keeps (Covers.refl _) .start).sliceAt_same rfl n

@[simp] theorem State.endCustody_sliceAt (s : State) (p : Nat) (c : Option Custody) (n : Nat) : (s.endCustody p c).sliceAt n = s.sliceAt n :=
  (State.endCustody_keeps (Covers.refl _) .start).sliceAt_same rfl n

/-- A packet that enters the recirculation path leaves what DG holds. -/
@[simp] theorem State.recirculate_dgHold (s : State) (n : Nat) (x : Pass) :
    ((s.recirculate n x).sliceAt n).dgHold = (s.sliceAt n).dgHold := by
  simp only [State.recirculate]
  split
  · simp
  · split <;> simp [Slice.dgHold]

@[simp] theorem foldl_punt_sliceAt (l : List (Nat × List Byte)) (s : State) (k : Nat) (egress : Bool) (frame : List Byte) (n : Nat) :
    (l.foldl (fun s (reason, r) => s.punt k reason egress true frame r) s).sliceAt n = s.sliceAt n := by
  induction l generalizing s with
  | nil => rfl
  | cons c l ih => exact (ih _).trans (s.punt_sliceAt ..)

/-- A finished pass that goes on its way leaves what DG holds. -/
theorem State.dispatchPass_dgHold (s : State) (n : Nat) (x : Pass) : ((s.dispatchPass n x).sliceAt n).dgHold = (s.sliceAt n).dgHold := by
  cases hend : x.ending with
  | drop cause => simp [State.dispatchPass, hend]
  | parseDrop => simp [State.dispatchPass, hend]
  | punt reason => simp [State.dispatchPass, hend]
  | recirc => simp [State.dispatchPass, hend]
  | forward =>
    simp only [State.dispatchPass, hend]
    split
    · simp
    · split <;> simp

/-- Held passes that go on their way leave what DG holds. -/
theorem foldl_dispatchPass_dgHold (l : List Pass) (s : State) (n : Nat) :
    ((l.foldl (fun s x => s.dispatchPass n x) s).sliceAt n).dgHold = (s.sliceAt n).dgHold := by
  induction l generalizing s with
  | nil => rfl
  | cons x l ih => exact (ih _).trans (s.dispatchPass_dgHold n x)

/-- With room in its group the hold ends (R21). -/
theorem execDgHoldClear_ends {n : Nat} {s : State} (hhold : (s.sliceAt n).hold = true) (hup : s.reg 0x3700 n ≠ 3) :
    Completes (.dgHoldClear n) s fun t => (t.sliceAt n).dgHold = (false, []) := by
  refine ⟨_, rfl, ?_⟩
  simp only [hhold, hup, Bool.not_true, Bool.false_eq_true, or_self, if_false]
  rw [foldl_dispatchPass_dgHold, State.setSlice_sliceAt]
  rfl

/-- The oldest pass of an ingress lane is held where DG cannot carry it, 512 ns after it began (R21, R155). -/
theorem execPassDispatch_holds {n : Nat} {x : Pass} {rest : List Pass} {s : State} (hx : (s.sliceAt n).ingress = x :: rest)
    (hcross : x.crosses = true) : exec (.passDispatch n false true) s = .next ((s.reach (x.start + 512)).setSlice n { s.sliceAt n with
      ingress := rest, idleSince := (s.reach (x.start + 512)).now, held := (s.sliceAt n).held ++ [x], hold := true }) := by
  simp [exec, execPassDispatch, hx, hcross]

/-! ### What a lane takes (R22, R155, R156) -/

/-- The state in which a packet that a lane took has run its pass, and the pass ends the lane's list. -/
def State.laneTakes (u : State) (n : Nat) (egress : Bool) (i : Intake) : State :=
  let (p, s2) := u.markTraced n egress i
  let s3 := s2.trace p.traceId (byteAt p.record 2) (beAt p.record 0 2) 1
    (natBe ((recordPort p.record egress).getD 0) 1 ++ natBe i.source 1 ++ natBe p.frame.length 2)
  let (pass, s4) := s3.runPass n egress i p
  let y := { s4.sliceAt n with idleSince := s4.now }
  s4.setSlice n (if egress then { y with egress := y.egress ++ [pass] } else { y with ingress := y.ingress ++ [pass] })

theorem State.laneTakes_egress (u : State) (n : Nat) (i : Intake) : ((u.laneTakes n true i).sliceAt n).egressQ = (u.sliceAt n).egressQ ∧
    ∃ pass, ((u.laneTakes n true i).sliceAt n).egress = (u.sliceAt n).egress ++ [pass] := by
  simp [State.laneTakes]

theorem State.laneTakes_ingress (u : State) (n : Nat) (i : Intake) :
    ∃ pass, ((u.laneTakes n false i).sliceAt n).ingress = (u.sliceAt n).ingress ++ [pass] := by
  simp [State.laneTakes]

/-- A packet that the TM released is out of its slice's list as the lane takes it; the lane's passes stand. -/
theorem State.takeReleased_sliceAt (s : State) (n : Nat) (p : Packet) (rest : List Packet) :
    (s.takeReleased n p rest).2.sliceAt n = { s.sliceAt n with egressQ := rest } :=
  s.setSlice_sliceAt ..

/-- The egress lane of a slice that is awake takes the oldest packet that the TM released to it. -/
theorem execLaneTake_egress {n : Nat} {p : Packet} {rest : List Packet} {s : State} (hn : n < 16) (hfe : (s.sliceAt n).feAsleep = false)
    (hq : (s.sliceAt n).egressQ = p :: rest) :
    exec (.laneTake n true) s = .next ((s.takeReleased n p rest).2.laneTakes n true (s.takeReleased n p rest).1) := by
  simp only [exec, execLaneTake, State.laneTakes, Nat.not_le.mpr hn, hfe, hq, Bool.false_eq_true, or_self, if_false, if_true]

/-- The ingress lane of a slice that is awake and not held takes what its rotation gives. -/
theorem execLaneTake_ingress {n : Nat} {i : Intake} {s u : State} (hn : n < 16) (hfe : (s.sliceAt n).feAsleep = false)
    (hhold : (s.sliceAt n).hold = false) (ht : s.takeIngress n = some (i, u)) :
    exec (.laneTake n false) s = .next (u.laneTakes n false i) := by
  simp only [exec, execLaneTake, State.laneTakes, Nat.not_le.mpr hn, hfe, hhold, ht, Bool.false_eq_true, or_self, if_false]

/-- Settles O5: each command by the lemma of its meaning, and what it writes is read back of its slice. -/
theorem ingressCommandsComplete : Obligations.IngressCommandsComplete := by
  refine ⟨?frameReceive, ?switchingSlotGrant, ?sliceWakeDone, ?sliceIdleExpiry, ?laneTakeEgress, ?laneTakeIngress, ?passDispatch, ?dgHoldClear⟩
  case frameReceive =>
    intro p frame bad s hp hn hup hdrop hfits
    exact ⟨_, execFrameReceive_fits hp hn hup hdrop hfits, s.poolFrame p frame, rfl, rfl, by simp⟩
  case switchingSlotGrant => exact fun _ _ _ => execSwitchingSlotGrant_oldest
  case sliceWakeDone => exact fun _ _ _ _ => execSliceWakeDone_awake
  case sliceIdleExpiry => exact fun _ _ => execSliceIdleExpiry_sleeps
  case laneTakeEgress =>
    intro n p rest s hn hfe hq
    obtain ⟨hrest, pass, hpass⟩ := (s.takeReleased n p rest).2.laneTakes_egress n (s.takeReleased n p rest).1
    rw [State.takeReleased_sliceAt] at hrest hpass
    exact ⟨_, execLaneTake_egress hn hfe hq, hrest, pass, hpass⟩
  case laneTakeIngress => exact fun n i u s hn hfe hhold ht => ⟨_, execLaneTake_ingress hn hfe hhold ht, u.laneTakes_ingress n i⟩
  case passDispatch =>
    intro n x rest s hx hcross
    have hnow : x.start + 512 ≤ (s.reach (x.start + 512)).now := Nat.le_max_right ..
    exact ⟨_, execPassDispatch_holds hx hcross, by simpa using hnow⟩
  case dgHoldClear =>
    intro n s hhold hup
    obtain ⟨t, ht, hend⟩ := execDgHoldClear_ends hhold hup
    exact ⟨t, ht, congrArg Prod.fst hend, congrArg Prod.snd hend⟩

end Sys2Proof.Machine
end

section
/-! The frames of power, clocks, sensors, resets and modules. -/

namespace Sys2Proof.Machine

/-- Settles O36: each command's meaning keeps every part outside its list. -/
theorem powerFrames : Obligations.PowerFrames := by
  refine ⟨?modeRequest, ?drainTimeout, ?wakeAfterSExpiry, ?powerOnStart, ?pwrGoodMainRise, ?supplyTimeout, ?sensorSample, ?twclkRestored,
    ?refclkLoss, ?refclkReturn, ?avsEvaluate, ?avsWriteDone, ?warmresetNLow, ?warmRestartDone, ?resetRequestWarm, ?pciePerstNLow,
    ?pciePerstNHigh, ?trstNLow, ?moduleInsertion, ?moduleResetRelease, ?moduleStatePoll, ?moduleReadTimeout, ?moduleRemoval,
    ?modIntNAssert, ?reread, ?cmisPassthrough⟩
  case modeRequest => exact fun _ _ _ _ => .of_next (execModeRequest_keeps (.of_land rfl) .start)
  case drainTimeout => exact fun _ _ => .of_next (execDrainTimeout_keeps (.of_land rfl) .start)
  case wakeAfterSExpiry => exact fun _ _ => .of_next (execWakeAfterSExpiry_keeps (.of_land rfl) .start)
  case powerOnStart => exact fun _ _ => .of_next (execPowerOnStart_keeps (.of_land rfl) .start)
  case pwrGoodMainRise => exact fun _ _ _ _ _ => .of_next (execPwrGoodMainRise_keeps (.partsAnyRegister rfl) .start)
  case supplyTimeout => exact fun _ _ => .of_next (execSupplyTimeout_keeps (.of_land rfl) .start)
  case sensorSample => exact fun _ _ _ => .of_next (execSensorSample_keeps (.of_land rfl) .start)
  case twclkRestored => exact fun _ _ => .of_next (execTwclkRestored_keeps (.of_land rfl) .start)
  case refclkLoss => exact fun _ _ _ => .of_next (execRefclkLoss_keeps (.of_land rfl) .start)
  case refclkReturn => exact fun _ _ _ _ => .of_next (execRefclkReturn_keeps (.of_land rfl) .start)
  case avsEvaluate => exact fun _ _ _ _ => .of_next (execAvsEvaluate_keeps (.of_land rfl) .start)
  case avsWriteDone => exact fun _ _ _ _ _ => .of_next (execAvsWriteDone_keeps (.of_land rfl) .start)
  case warmresetNLow => exact fun _ _ => .of_next (execWarmresetNLow_keeps (.of_land rfl) .start)
  case warmRestartDone => exact fun _ _ => .of_next (execWarmRestartDone_keeps (.of_land rfl) .start)
  case resetRequestWarm => exact fun _ _ _ => .of_next (execResetRequestWarm_keeps (.of_land rfl) .start)
  case pciePerstNLow => exact fun _ _ => .of_next (execPciePerstNLow_keeps (.of_land rfl) .start)
  case pciePerstNHigh => exact fun _ _ => .of_next (execPciePerstNHigh_keeps (.of_land rfl) .start)
  case trstNLow => exact fun _ _ => .of_next (execTrstNLow_keeps (.of_land rfl) .start)
  case moduleInsertion => exact fun _ _ _ => .of_next (execModuleInsertion_keeps (.partsAnyRegister rfl) .start)
  case moduleResetRelease => exact fun _ _ _ => .of_next (execModuleResetRelease_keeps (.of_land rfl) .start)
  case moduleStatePoll => exact fun _ _ _ _ _ => .of_next (execModuleStatePoll_keeps (.partsAnyRegister rfl) .start)
  case moduleReadTimeout => exact fun _ _ _ => .of_next (execModuleReadTimeout_keeps (.partsAnyRegister rfl) .start)
  case moduleRemoval => exact fun _ _ _ => .of_next (execModuleRemoval_keeps (.partsAnyRegister rfl) .start)
  case modIntNAssert => exact fun _ _ _ => .of_next (execModIntNAssert_keeps (.partsAnyRegister rfl) .start)
  case reread => exact fun _ _ _ _ _ => .of_next (execReread_keeps (.partsAnyRegister rfl) .start)
  case cmisPassthrough => exact fun _ _ _ _ _ => .of_next (execCmisPassthrough_keeps (.of_land rfl) .start)

end Sys2Proof.Machine
end

section
/-! The entry into DORMANT and the resets (R53, R54, R78, R89 to R95). -/

namespace Sys2Proof.Machine

/-! ### The entry into DORMANT (R53, R78) -/

/-- What the sinking into DORMANT makes of Tidewatch's part of the state. -/
theorem State.sinkDormant_power (s : State) : s.sinkDormant.power = { s.power with
    ms := { s.power.ms with mode := .dormant, dormantSince := s.now, target := none, pending := none }
    pins := { s.power.pins with pwrEnMain := false, ppsOut := false }
    start := .idle, fe := .reset, tm := .reset, warmSince := none } := by
  simp [State.sinkDormant, State.setMs, State.losePower, State.domainsOff, State.discardBatches]

theorem State.enterDormant_power (s : State) : s.enterDormant.power = s.sinkDormant.power := by
  simp [State.enterDormant]

theorem State.abortRequest_pins (s : State) : s.abortRequest.power.pins = s.power.pins := by
  unfold State.abortRequest
  dsimp only
  split <;> rfl

/-- The steps of R54 sink the device into DORMANT, out of DORMANT or out of another mode. -/
theorem State.shutDown_power (s : State) (trip : Bool) : ∃ u : State, u.power = s.fence.abortRequest.power ∧
    (s.shutDown trip).power = { u.sinkDormant.power with ms := { u.sinkDormant.power.ms with afterTrip := trip } } := by
  refine ⟨s.fence.abortRequest.abandonInstall, by simp, ?_⟩
  simp only [State.shutDown]
  split
  · rfl
  · rw [← State.enterDormant_power]; rfl

@[simp] theorem State.shutDown_mode (s : State) (trip : Bool) : (s.shutDown trip).mode = .dormant := by
  obtain ⟨u, -, h⟩ := s.shutDown_power trip
  simp [State.mode, h, State.sinkDormant_power]

@[simp] theorem State.shutDown_afterTrip (s : State) (trip : Bool) : (s.shutDown trip).power.ms.afterTrip = trip := by
  obtain ⟨u, -, h⟩ := s.shutDown_power trip
  simp [h]

@[simp] theorem State.shutDown_pins (s : State) (trip : Bool) :
    (s.shutDown trip).power.pins = { s.power.pins with pwrEnMain := false, ppsOut := false } := by
  obtain ⟨u, hu, h⟩ := s.shutDown_power trip
  simp [h, State.sinkDormant_power, hu, State.abortRequest_pins]

/-! ### The power-on reset (R89) -/

@[simp] theorem State.powerOnReset_mode (s : State) (cause : Nat) : (s.powerOnReset cause).mode = .dormant := rfl

theorem State.powerOnReset_cause {s : State} (h : rising s.objs = true) (cause : Nat) : (s.powerOnReset cause).reg 0x1000 8 = cause := by
  have hkept : rising s.fence.abandonInstall.objs = true := by simp [h]
  rw [State.powerOnReset, State.setReg_other _ _ (by decide), State.setReg_reg _ _ _ _ (rising_filter hkept)]

/-! ### The warm restart (R91, R92) -/

/-- The state in which a warm restart has begun, before it is counted and its cause is set. -/
def State.warmBegun (s : State) : State :=
  let s1 := s.stopStewards.emptyMailboxes
  { s1 with
    acc := { s1.acc with copies := [] }
    host := { s1.host with locks := s1.host.locks.filter (fun (_, m) => decide (0xC0 ≤ m)) }
    tables := { s1.tables with iters := s1.tables.iters.map (fun (k, x) => (k, { x with isOpen := false })) }
    power := { s1.power with warmSince := some s1.now }
    hbm := { s1.hbm with channels := mmap s1.hbm.channels fun _ x => { x with round := none, searchOut := true } } }

theorem State.warmBegun_power (s : State) : s.warmBegun.power = { s.power with warmSince := some s.now } := by
  simp [State.warmBegun]

theorem State.warmBegun_now (s : State) : s.warmBegun.now = s.now := by simp [State.warmBegun]

theorem State.warmBegun_rising {s : State} (h : rising s.objs = true) : rising s.warmBegun.objs = true := by
  simp [State.warmBegun, h]

/-- Outside CATCHUP a warm restart is counted when none goes on, and its cause is set unless a request finds one going on. -/
theorem State.warmRestart_eq {s : State} (hm : s.mode ≠ .catchup) {cause : Nat} {pin : Bool}
    (hc : pin = true ∨ s.power.warmSince = none) : s.warmRestart cause pin =
      (if s.power.warmSince.isSome then s.warmBegun else s.warmBegun.bump 0x1000 7).setReg 0x1000 8 cause := by
  have hset : (s.power.warmSince.isSome && !pin) = false := by
    rcases hc with h | h <;> simp [h]
  have hmode : ((if s.power.warmSince.isSome then s.warmBegun else s.warmBegun.bump 0x1000 7).setReg 0x1000 8 cause).mode = s.mode := by
    split <;> simp [State.mode, State.warmBegun_power]
  simp only [State.warmRestart, hset, Bool.false_eq_true, if_false]
  exact if_neg (hmode ▸ hm)

/-- What a warm restart outside CATCHUP leaves of Tidewatch's part of the state and of time, and what it sets. -/
theorem State.warmRestart_begins {s : State} (hr : rising s.objs = true) (hm : s.mode ≠ .catchup) {cause : Nat} {pin : Bool}
    (hc : pin = true ∨ s.power.warmSince = none) : (s.warmRestart cause pin).power = { s.power with warmSince := some s.now } ∧
      (s.warmRestart cause pin).now = s.now ∧ (s.warmRestart cause pin).reg 0x1000 8 = cause := by
  have hrise := State.warmBegun_rising hr
  rw [State.warmRestart_eq hm hc]
  split
  · simp [State.warmBegun_power, State.warmBegun_now, State.setReg_reg _ _ _ _ hrise]
  · simp [State.warmBegun_power, State.warmBegun_now, State.setReg_reg _ _ _ _ (State.count_rising _ 0x1000 7 1 hrise)]

/-- A write that passes its checks does what the rule of its object says, and ends (R152). -/
theorem State.runWrite_of_ok {s : State} {o : Origin} {i j : Nat} {v : List Byte} (h : s.checkWrite o i j v = .ok)
    (f : List Byte → State → Status × State) : s.runWrite o i j v f =
      (f (canonical o.be (typeOf i j) v) s).2.endWrite o i j (canonical o.be (typeOf i j) v) (f (canonical o.be (typeOf i j) v) s).1 := by
  simp only [State.runWrite, h]

/-! ### The commands of the resets -/

/-- PORESET_N low resets the whole device: nothing is queued, and no slice holds anything (R89, R90). -/
theorem execPoresetNLow_resets {s : State} (hs : s.StoresRise) : Completes .poresetNLow s fun t =>
    t.mode = .dormant ∧ t.reg 0x1000 8 = 1 ∧ t.power.pins.poresetN = false ∧ t.tm.queues = [] ∧ t.slices = [] :=
  ⟨_, rfl, s.powerOnReset_mode 1, State.powerOnReset_cause hs.objs 1, rfl, rfl, rfl⟩

/-- The loss of the always-on rail is a power-on reset that forgets the faults that waited for the flash (R50). -/
theorem execAlwaysOnRailLoss_resets {s : State} (hs : s.StoresRise) : Completes .alwaysOnRailLoss s fun t =>
    t.mode = .dormant ∧ t.reg 0x1000 8 = 1 ∧ t.fw.pendingFaults = [] :=
  ⟨_, rfl, s.powerOnReset_mode 1, State.powerOnReset_cause hs.objs 1, rfl⟩

theorem execTidewatchWatchdogExpiry_resets {s : State} (hs : s.StoresRise) (hup : s.power.tidewatchUp = true) :
    Completes .tidewatchWatchdogExpiry s fun t => t.mode = .dormant ∧ t.reg 0x1000 8 = 3 := by
  refine ⟨_, rfl, ?_⟩
  rw [if_pos hup]
  exact ⟨s.powerOnReset_mode 3, State.powerOnReset_cause hs.objs 3⟩

/-- A RESET_REQUEST of COLD that its checks and the mode allow is answered, and the device resets (R89, R95). -/
theorem execResetRequestCold_resets {o : Origin} {s : State} (hs : s.StoresRise) (hok : s.checkWrite o 0x1010 1 [2] = .ok)
    (hm : s.mode ∈ [Mode.dormant, .bringup, .diagnostic]) :
    Completes (.resetRequestCold o) s fun t => t.mode = .dormant ∧ t.reg 0x1000 8 = 2 := by
  have hallowed : (decide (s.mode = .dormant) || decide (s.mode = .bringup) || decide (s.mode = .diagnostic)) = true := by
    simpa [or_assoc] using hm
  refine ⟨_, rfl, ?_⟩
  dsimp only
  rw [if_pos ⟨hok, hallowed⟩, State.runWrite_of_ok hok]
  exact ⟨State.powerOnReset_mode .., State.powerOnReset_cause (by simp [hs.objs]) 2⟩

/-- A RESET_REQUEST of WARM begins a warm restart 1 ms after its answer (R92, R95). -/
theorem execResetRequestWarm_restarts {o : Origin} {s : State} (hs : s.StoresRise) (hok : s.checkWrite o 0x1010 1 [1] = .ok)
    (hm : s.mode ∉ [Mode.dormant, .catchup]) (hw : s.power.warmSince = none) : Completes (.resetRequestWarm o) s fun t =>
      t.mode = s.mode ∧ t.reg 0x1000 8 = 5 ∧ t.power.warmSince.isSome = true ∧ s.now + 1000000 ≤ t.now := by
  simp only [List.mem_cons, List.not_mem_nil, or_false, not_or] at hm
  obtain ⟨hdormant, hcatchup⟩ := hm
  obtain ⟨hpower, hnow, hcause⟩ := State.warmRestart_begins (s := s.reach (s.now + 1000000)) (cause := 5) (pin := false) hs.objs hcatchup
    (.inr hw)
  refine ⟨((s.reach (s.now + 1000000)).warmRestart 5 false).endWrite o 0x1010 1 (canonical o.be (typeOf 0x1010 1) [1]) .ok, ?_, ?_⟩
  · change execResetRequestWarm o s = _
    rw [execResetRequestWarm, State.runWrite_of_ok hok, if_neg hdormant]
  · simp only [State.endWrite_same, hpower, hnow, hcause, State.mode]
    exact ⟨rfl, trivial, rfl, Nat.le_max_right ..⟩

/-- WARMRESET_N low begins a warm restart outside DORMANT, whatever goes on (R90, R91). -/
theorem execWarmresetNLow_restarts {s : State} (hs : s.StoresRise) (hp : s.power.pins.poresetN = true) (hstart : s.power.start = .idle)
    (hm : s.mode ∉ [Mode.dormant, .catchup]) : Completes .warmresetNLow s fun t =>
      t.mode = s.mode ∧ t.reg 0x1000 8 = 4 ∧ t.power.warmSince = some s.now ∧ t.power.pins.warmresetN = false := by
  simp only [List.mem_cons, List.not_mem_nil, or_false, not_or] at hm
  obtain ⟨hdormant, hcatchup⟩ := hm
  let u : State := { s with power := { s.power with pins := { s.power.pins with warmresetN := false } } }
  obtain ⟨hpower, -, hcause⟩ := State.warmRestart_begins (s := u) (cause := 4) (pin := true) hs.objs hcatchup (.inl rfl)
  refine ⟨u.warmRestart 4 true, ?_, ?_⟩
  · simp [exec, execWarmresetNLow, hp, hstart, hdormant, u]
  · simp only [State.mode, hpower, hcause]
    exact ⟨rfl, trivial, rfl, rfl⟩

/-- At the end of a warm restart its pin is high, and it is over (R92, R506). -/
theorem execWarmRestartDone_ends {s : State} {u : Nat} (hw : s.power.warmSince = some u) : Completes .warmRestartDone s fun t =>
    t.power.warmSince = none ∧ t.power.pins.warmresetN = true ∧ t.mode = s.mode := by
  refine ⟨_, rfl, ?_⟩
  simp only [hw, State.refreshIdentity_same]
  split <;> simp [State.mode]

/-! ### The host's claims under PCIE_PERST_N (R93, R472, R474) -/

/-- What the host side holds besides its channels: the link, and who holds its locks. -/
def HostSide.linkAndLocks (h : HostSide) : Bool × List (Nat × Nat) := (h.linkUp, h.locks)

theorem State.abandon_linkAndLocks (s : State) (m d : Nat) : (s.abandon m d).host.linkAndLocks = s.host.linkAndLocks := by
  simp only [State.abandon]
  split
  · rfl
  · simp [State.setMailbox, HostSide.linkAndLocks]

theorem State.abandonHost_linkAndLocks (s : State) : s.abandonHost.host.linkAndLocks = s.host.linkAndLocks := by
  refine List.foldlRecOn (motive := fun u : State => u.host.linkAndLocks = s.host.linkAndLocks) _ _ rfl fun u hu m _ => ?_
  refine List.foldlRecOn (motive := fun u : State => u.host.linkAndLocks = s.host.linkAndLocks) _ _ hu fun v hv d _ => ?_
  split
  · exact (v.abandon_linkAndLocks m d).trans hv
  · exact hv

/-- PCIE_PERST_N low takes the link down and ends the claims of the host (R93, R464, R474). -/
theorem execPciePerstNLow_releases (s : State) : Completes .pciePerstNLow s fun t =>
    t.host.linkUp = false ∧ t.power.pins.pciePerstN = false ∧ ∀ l m, (l, m) ∈ t.host.locks → m ≠ 0xD0 := by
  refine ⟨_, rfl, ?_⟩
  have hhost := fun u : State => Prod.mk.inj u.abandonHost_linkAndLocks
  simp [hhost]

/-- Settles O2: each reset by the lemma of its meaning. -/
theorem resetsComplete : Obligations.ResetsComplete := by
  refine ⟨?poresetNLow, ?alwaysOnRailLoss, ?tidewatchWatchdogExpiry, ?resetRequestCold, ?resetRequestWarm, ?warmresetNLow, ?warmRestartDone,
    ?pciePerstNLow, ?pciePerstNHigh, ?trstNLow⟩
  case poresetNLow => exact fun _ => execPoresetNLow_resets
  case alwaysOnRailLoss => exact fun _ => execAlwaysOnRailLoss_resets
  case tidewatchWatchdogExpiry => exact fun _ => execTidewatchWatchdogExpiry_resets
  case resetRequestCold => exact fun _ _ => execResetRequestCold_resets
  case resetRequestWarm => exact fun _ _ => execResetRequestWarm_restarts
  case warmresetNLow => exact fun _ => execWarmresetNLow_restarts
  case warmRestartDone => exact fun _ _ => execWarmRestartDone_ends
  case pciePerstNLow => exact execPciePerstNLow_releases
  case pciePerstNHigh => exact fun _ => ⟨_, rfl, rfl⟩
  case trstNLow => exact fun _ => ⟨_, rfl, rfl, rfl⟩

end Sys2Proof.Machine
end

section
/-! Supplies, trips and clocks (R51 to R54, R61, R68, R69, R99). -/

namespace Sys2Proof.Machine

/-! ### The supplies (R51, R54, R99) -/

/-- A power-on start raises PWR_EN_MAIN and waits for the main supply (R99). -/
theorem execPowerOnStart_raises {s : State} (hm : s.mode = .dormant) (hstart : s.power.start = .idle) (hup : s.power.tidewatchUp = false)
    (hrec : s.power.recovery = false) : Completes .powerOnStart s fun t =>
      t.power.pins.pwrEnMain = true ∧ t.power.start = .waitPower s.now true := by
  refine ⟨_, rfl, ?_⟩
  rw [if_pos ⟨hm, hstart, by simp [hup], by simp [hrec]⟩]
  exact ⟨rfl, rfl⟩

/-- A wake that waits for the main supply goes on to the boot path (R51, R53). -/
theorem execPwrGoodMainRise_wakes {bad0 bad1 : Bool} {board : List Byte} {s : State} {u : Nat} (hstart : s.power.start = .waitPower u false) :
    Completes (.pwrGoodMainRise bad0 bad1 board) s fun t => t.power.start = .bootPath ∧ t.power.pins.pwrGoodMain = true := by
  refine ⟨_, rfl, ?_⟩
  simp only [hstart, and_self]

/-- A main supply that stays away for 100 ms ends the start (R51). -/
theorem execSupplyTimeout_ends {s : State} {u : Nat} {b : Bool} (hs : s.StoresRise) (hstart : s.power.start = .waitPower u b)
    (hgood : s.power.pins.pwrGoodMain = false) : Completes .supplyTimeout s fun t =>
      t.power.pins.pwrEnMain = false ∧ t.power.start = .idle ∧ t.reg 0x2302 6 = 4 ∧ u + 100000000 ≤ t.now := by
  refine ⟨_, rfl, ?_⟩
  have hwaited : u + 100000000 ≤ (s.reach (u + 100000000)).now := Nat.le_max_right ..
  simpa [hstart, hgood, State.setReg_reg, hs.objs] using hwaited

/-- With PWR_EN_MAIN high outside a start, a lost main supply takes the device to DORMANT (R54). -/
theorem execSupplyLoss_shutsDown {s : State} (hs : s.StoresRise) (hen : s.power.pins.pwrEnMain = true) (hstart : s.power.start = .idle) :
    Completes .supplyLoss s fun t =>
      t.mode = .dormant ∧ t.reg 0x2302 6 = 3 ∧ t.power.pins.pwrGoodMain = false ∧ t.power.pins.pwrEnMain = false := by
  refine ⟨_, rfl, ?_⟩
  simp only [hen, hstart]
  simp [State.setReg_reg, hs.objs]

/-! ### Trips and clocks (R61, R68, R69) -/

/-- A trip by a sensor takes the device to DORMANT: the dies' sensors are 1 to 22, the stacks' 23 to 26 (R61). -/
theorem execThermalTrip_shutsDown {sensor : Nat} {s : State} (hs : s.StoresRise) (hlo : 1 ≤ sensor) (hhi : sensor ≤ 26)
    (hen : s.power.pins.pwrEnMain = true) : Completes (.thermalTrip sensor) s fun t =>
      t.mode = .dormant ∧ t.reg 0x2302 6 = (if sensor ≤ 22 then 1 else 2) ∧ t.power.ms.afterTrip = true := by
  refine ⟨_, rfl, ?_⟩
  have hrange : ¬(sensor = 0 ∨ 26 < sensor) := by omega
  rw [if_neg hrange]
  simp [hen, State.setReg_reg, hs.objs]

/-- A lost clock takes a device with PWR_EN_MAIN high to DORMANT, sets the cause and takes management port 0 down (R68). -/
theorem State.clockLost_shutsDown {s : State} (hr : rising s.objs = true) (hen : s.power.pins.pwrEnMain = true) (cause locks : Nat) :
    (s.clockLost cause locks).mode = .dormant ∧ (s.clockLost cause locks).reg 0x2203 1 = cause ∧
      (s.clockLost cause locks).reg 0x3181 0 = 0 ∧ (s.clockLost cause locks).power.twclkLost = true ∧
      rising (s.clockLost cause locks).objs = true := by
  have hdown : rising (s.shutDown false).objs = true := by simp [hr]
  have hcause := State.setReg_rising _ 0x2203 1 cause hdown
  have hlocks := State.setReg_rising _ 0x2200 2 locks hcause
  have hport := State.setReg_rising _ 0x3181 0 0 hlocks
  have hread : ((((s.shutDown false).setReg 0x2203 1 cause).setReg 0x2200 2 locks).setReg 0x3181 0 0).reg 0x2203 1 = cause := by
    rw [State.setReg_other _ _ (by decide), State.setReg_other _ _ (by decide), State.setReg_reg _ _ _ _ hdown]
  have hmode : (s.shutDown false).power.ms.mode = .dormant := s.shutDown_mode false
  simp [State.clockLost, hen, hread, State.setReg_reg, hlocks, hport, hmode]

/-- TWCLK lost: the device in DORMANT, its own PLL not locked (R68). -/
theorem execTwclkLoss_shutsDown {s : State} (hs : s.StoresRise) (hen : s.power.pins.pwrEnMain = true) : Completes .twclkLoss s fun t =>
    t.mode = .dormant ∧ t.reg 0x2203 1 = 1 ∧ t.reg 0x2200 1 = 0 ∧ t.reg 0x3181 0 = 0 ∧ t.power.twclkLost = true := by
  obtain ⟨hmode, hcause, hport, hlost, hrise⟩ := State.clockLost_shutsDown hs.objs hen 1 0
  refine ⟨(s.clockLost 1 0).setReg 0x2200 1 0, rfl, ?_⟩
  simp only [State.setReg_fields, State.setReg_reg _ _ _ _ hrise]
  rw [State.setReg_other _ _ (by decide), State.setReg_other _ _ (by decide)]
  exact ⟨hmode, hcause, trivial, hport, hlost⟩

/-- A PLL out of lock outside DORMANT is the loss of a clock, with the cause of its kind (R68, R69). -/
theorem execPllUnlock_shutsDown {pll : Nat} {s : State} (hs : s.StoresRise) (hlo : 1 ≤ pll) (hhi : pll ≤ 5) (hm : s.mode ≠ .dormant)
    (hen : s.power.pins.pwrEnMain = true) : Completes (.pllUnlock pll) s fun t =>
      t.mode = .dormant ∧ t.reg 0x2203 1 = (if pll ≤ 2 then 2 else if pll ≤ 4 then 3 else 4) := by
  obtain ⟨hmode, hcause, -⟩ := State.clockLost_shutsDown hs.objs hen (if pll ≤ 2 then 2 else if pll ≤ 4 then 3 else 4) 1
  refine ⟨_, rfl, ?_⟩
  have hruns : ¬(pll = 0 ∨ 5 < pll ∨ s.mode = .dormant) := by
    rintro (h | h | h)
    · omega
    · omega
    · exact hm h
  rw [if_neg hruns]
  exact ⟨hmode, hcause⟩

/-- TWCLK restored locks TWPLL (R68). -/
theorem execTwclkRestored_locks {s : State} (hs : s.StoresRise) (hlost : s.power.twclkLost = true) : Completes .twclkRestored s fun t =>
    t.power.twclkLost = false ∧ t.reg 0x2200 1 = 1 ∧ t.reg 0x2200 2 = 1 := by
  let u : State := { s with power := { s.power with twclkLost := false } }
  have hu : rising u.objs = true := hs.objs
  refine ⟨(u.setReg 0x2200 1 1).setReg 0x2200 2 1, ?_, rfl, ?_, ?_⟩
  · simp [exec, execTwclkRestored, hlost, u]
  · rw [State.setReg_other _ _ (by decide), State.setReg_reg _ _ _ _ hu]
  · rw [State.setReg_reg _ _ _ _ (State.setReg_rising _ _ _ _ hu)]

/-! ### Reference clocks (R69) -/

/-- What the loss of a reference drops, once it is noted and counted: the lanes, links or ports that it serves. -/
def State.dropServed (s : State) (k : Nat) : State :=
  if k < 8 then
    let lanes := (List.range 16).map (16 * k + ·)
    let ports := (lanes.map s.lanePort).eraseDups.filter (· < 128)
    let s3 := s.setLanes (lanes.filter fun l => decide (s.reg 0x3200 l ≠ 0)) 1
    ports.foldl (fun s p => s.causeOnset p 10) (lanes.foldl (fun s l => s.abortTestOn 0 l) s3)
  else if k < 0x12 then
    let links := (List.range 16).map (16 * (k - 8) + ·)
    let s3 := links.foldl (fun s l => (s.failLink l 0).abortTestOn 1 l) s
    if k = 0x11 then (List.range 8).foldl State.failLane s3 else s3
  else if k = 0x12 then { s with host := { s.host with linkUp := false } }
  else
    let s3 := s.setReg 0x3181 1 0
    if s3.reg 0x3180 0 = 1 ∧ s3.mode ≠ .dormant then s3.setReg 0x3181 0 0 else s3

/-- The state in which a lost reference is noted and counted. -/
def State.refclkNoted (s : State) (k : Nat) : State :=
  (({ s with power := { s.power with refclkLost := k :: s.power.refclkLost } }).setReg 0x2201 k 0x80000000).bump 0x2203 2

theorem execRefclkLoss_eq {k : Nat} {s : State} (hk : k ≤ 0x13) (hruns : s.power.refclkLost.contains k = false) :
    execRefclkLoss k s = .next ((s.refclkNoted k).dropServed k) := by
  have hcond : ¬(0x13 < k ∨ s.power.refclkLost.contains k = true) := by
    rw [hruns]
    simpa using hk
  rw [execRefclkLoss, if_neg hcond, State.dropServed, State.refclkNoted]

/-- What a lost reference serves is dropped without the clocks' own objects being touched. -/
theorem State.dropServed_keeps (s : State) (k : Nat) :
    On inS 0x1000200000000000000010003000000000000005700020000000000f3df90 s (s.dropServed k) := by
  have hp := Covers.refl 0x1000200000000000000010003000000000000005700020000000000f3df90
  refine .ite ?serdes (.ite ?fabric (.ite ?pcie ?mgmt))
  case serdes =>
    exact .foldl (.foldl (State.setLanes_keeps (hp.sub rfl) .start) fun _ _ => State.abortTestOn_keeps (hp.sub rfl)) fun _ _ =>
      State.causeOnset_keeps (hp.sub rfl)
  case fabric =>
    have hlinks := On.foldl (l := (List.range 16).map (16 * (k - 8) + ·)) (f := fun (s : State) l => (s.failLink l 0).abortTestOn 1 l)
      (.start (s0 := s)) fun _ _ h => State.abortTestOn_keeps (hp.sub rfl) (State.failLink_keeps (hp.sub rfl) h)
    exact .ite (.foldl hlinks fun _ _ => State.failLane_keeps (hp.sub rfl)) hlinks
  case pcie => exact .mk .start .k .k .k .k .k .k .k .k .k .k .k .k (.c (hp.sub rfl)) .k .k .k .k
  case mgmt =>
    have hport := State.setReg_keeps (i := 0x3181) (j := 1) (v := 0) (hp.sub rfl) (.start (s0 := s))
    exact .ite (State.setReg_keeps (hp.sub rfl) hport) hport

/-- A lost reference shows in REFCLK_PPB; that of the host interface takes the PCIe link down (R69). -/
theorem execRefclkLoss_shows {k : Nat} {s : State} (hs : s.StoresRise) (hk : k ≤ 0x13) (hruns : s.power.refclkLost.contains k = false) :
    Completes (.refclkLoss k) s fun t => t.reg 0x2201 k = 0x80000000 ∧ (k = 0x12 → t.host.linkUp = false) := by
  refine ⟨_, execRefclkLoss_eq hk hruns, ?_, ?_⟩
  · rw [(State.dropServed_keeps _ k).reg_same (i := 0x2201) k rfl, State.refclkNoted, State.bump_count,
      State.count_other _ _ (by simp only [okey]; omega)]
    exact State.setReg_reg _ _ _ _ hs.objs
  · rintro rfl
    rfl

/-- A reference that returns shows its offset (R69). -/
theorem execRefclkReturn_shows {k : Nat} {ppb : Int} {s : State} (hs : s.StoresRise) (hlost : s.power.refclkLost.contains k = true) :
    Completes (.refclkReturn k ppb) s fun t => t.power.refclkLost.contains k = false ∧ t.reg 0x2201 k = ofSigned 32 ppb := by
  refine ⟨_, rfl, ?_⟩
  rw [if_pos hlost]
  exact ⟨by simp, State.setReg_reg _ _ _ _ hs.objs⟩

/-- Settles O3: each command by the lemma of its meaning. -/
theorem supplyAndClockCommandsComplete : Obligations.SupplyAndClockCommandsComplete := by
  refine ⟨?powerOnStart, ?pwrGoodMainRise, ?supplyTimeout, ?supplyLoss, ?thermalTrip, ?twclkLoss, ?pllUnlock, ?twclkRestored, ?refclkLoss,
    ?refclkReturn⟩
  case powerOnStart => exact fun _ => execPowerOnStart_raises
  case pwrGoodMainRise => exact fun _ _ _ _ _ => execPwrGoodMainRise_wakes
  case supplyTimeout => exact fun _ _ _ => execSupplyTimeout_ends
  case supplyLoss => exact fun _ => execSupplyLoss_shutsDown
  case thermalTrip => exact fun _ _ => execThermalTrip_shutsDown
  case twclkLoss => exact fun _ => execTwclkLoss_shutsDown
  case pllUnlock => exact fun _ _ => execPllUnlock_shutsDown
  case twclkRestored => exact fun _ => execTwclkRestored_locks
  case refclkLoss => exact fun _ _ => execRefclkLoss_shows
  case refclkReturn => exact fun _ _ _ => execRefclkReturn_shows

end Sys2Proof.Machine
end

section
/-! Sensor samples and adaptive voltage (R55, R56, R60, R70). -/

namespace Sys2Proof.Machine

/-! ### Sensor samples (R60, R70) -/

/-- Objects set one after another, at sub-indices that rise from 1, each hold what was set there. -/
theorem foldl_setReg_reads {s : State} (hr : rising s.objs = true) (i : Nat) (f : Nat → Nat) {n : Nat} (hn : n < 256) :
    rising ((List.range n).foldl (fun s k => s.setReg i (k + 1) (f k)) s).objs = true ∧
      ∀ k, k < n → ((List.range n).foldl (fun s k => s.setReg i (k + 1) (f k)) s).reg i (k + 1) = f k := by
  induction n with
  | zero => exact ⟨hr, fun _ hk => absurd hk (Nat.not_lt_zero _)⟩
  | succ n ih =>
    obtain ⟨hrise, hread⟩ := ih (by omega)
    rw [List.range_succ, List.foldl_append]
    refine ⟨State.setReg_rising _ _ _ _ hrise, fun k hk => ?_⟩
    rcases Nat.lt_succ_iff_lt_or_eq.mp hk with hlt | rfl
    · exact (State.setReg_other _ _ (by simp only [okey]; omega)).trans (hread k hlt)
    · exact State.setReg_reg _ _ _ _ hrise

/-- A health record that may enter leaves the objects of every other page alone. -/
theorem State.ite_health_reg {c : Prop} [Decidable c] {s : State} {area severity code i : Nat} {detail : List Byte} (h : i / 256 % 256 ≠ 0xD0)
    (j : Nat) : (if c then s.health area severity code detail else s).reg i j = s.reg i j := by
  split
  · simp [h]
  · rfl

/-- A sample of 26 sensors enters TEMP_MC; what follows it for THERM_ALERT_N and the health report leaves TEMP_MC alone (R60, R70). -/
theorem execSensorSample_enters {temps : List Int} {s : State} (hs : s.StoresRise) (hl : temps.length = 26)
    (hup : s.power.tidewatchUp = true) : Completes (.sensorSample temps) s fun t =>
      ∀ k, k < 26 → t.reg 0x2301 (k + 1) = ofSigned 32 (temps.getD k 0) := by
  have hread := (foldl_setReg_reads hs.objs 0x2301 (fun k => ofSigned 32 (temps.getD k 0)) (n := 26) (by decide)).2
  have hruns : ¬(temps.length ≠ 26 ∨ (!s.power.tidewatchUp) = true) := by simp [hl, hup]
  refine ⟨_, rfl, ?_⟩
  rw [if_neg hruns]
  dsimp only
  intro k hk
  rw [State.ite_health_reg (by decide), State.reg_mk, State.reg_fold, hread k hk]

/-! ### Adaptive voltage (R55, R56) -/

@[simp] theorem State.setRail_rail (s : State) (k : Nat) (r : AvsRail) : (s.setRail k r).rail k = r := by
  unfold State.setRail State.rail
  split <;> rfl

/-- What a rail's master holds is in Tidewatch's part of the state. -/
theorem State.rail_congr {s t : State} (h : t.power = s.power) (k : Nat) : t.rail k = s.rail k := by
  rw [State.rail, h, State.rail]

/-- A voltage write that goes out is in progress at its rail. -/
theorem State.avsWrite_rail (s : State) (k mv : Nat) :
    (s.avsWrite k mv).rail k = { s.rail k with writing := some mv, lastWrite := s.now } := by
  have hpower : (s.avsWrite k mv).power = (s.setRail k { s.rail k with writing := some mv, lastWrite := s.now }).power := by
    simp [State.avsWrite]
  rw [State.rail_congr hpower, State.setRail_rail]

theorem State.avsWrite_out (s : State) (k mv : Nat) : (s.avsWrite k mv).out = .avs k mv :: s.out := by
  simp [State.avsWrite, State.emit]

/-- A target within the limits that is not the last write goes out in a step of at most 10 mV (R55). -/
theorem execAvsEvaluate_writes {rail target : Nat} {s : State} (hrail : rail ≤ 1) (hm : s.mode ≠ .dormant) (hlo : 650 ≤ target)
    (hhi : target ≤ 800) (hstep : target % 5 = 0) (hnew : target ≠ s.reg 0x2300 (rail + 1)) (hoff : s.reg 0x2300 6 ≠ 1)
    (hstop : (s.rail rail).stopped = false) (hw : (s.rail rail).writing = none) (hset : (s.rail rail).settled = true) :
    Completes (.avsEvaluate rail target) s fun t => ∃ mv, (t.rail rail).writing = some mv ∧ t.out = .avs rail mv :: s.out ∧
      mv = if target < s.reg 0x2300 (rail + 1) then max target (s.reg 0x2300 (rail + 1) - 10)
        else min target (s.reg 0x2300 (rail + 1) + 10) := by
  refine ⟨s.avsWrite rail (if target < s.reg 0x2300 (rail + 1) then max target (s.reg 0x2300 (rail + 1) - 10)
    else min target (s.reg 0x2300 (rail + 1) + 10)), ?_, _, by rw [State.avsWrite_rail], State.avsWrite_out .., rfl⟩
  simp [exec, execAvsEvaluate, Nat.not_lt.mpr hrail, hm, Nat.not_lt.mpr hlo, Nat.not_lt.mpr hhi, hstep, hnew, hoff, hstop, hw, hset]

/-- A write acknowledged is the set point, and the voltage read with it the measured value (R55). -/
theorem execAvsWriteDone_acknowledged {rail mv v : Nat} {s : State} (hs : s.StoresRise) (hrail : rail ≤ 1)
    (hw : (s.rail rail).writing = some mv) : Completes (.avsWriteDone rail true v) s fun t =>
      (t.rail rail).writing = none ∧ t.reg 0x2300 (rail + 1) = mv ∧ t.reg 0x2300 (rail + 3) = v % 65536 := by
  let u := s.setRail rail { s.rail rail with writing := none, retries := 0, settled := decide (v ≤ mv + 10 ∧ mv ≤ v + 10) }
  have hu : rising u.objs = true := by simp [u, hs.objs]
  refine ⟨(u.setReg 0x2300 (rail + 1) mv).setReg 0x2300 (rail + 3) (v % 65536), ?_, ?_, ?_, ?_⟩
  · simp [exec, execAvsWriteDone, Nat.not_lt.mpr hrail, hw, u]
  · change (u.rail rail).writing = none
    rw [State.setRail_rail]
  · rw [State.setReg_other _ _ (by simp only [okey]; omega), State.setReg_reg _ _ _ _ hu]
  · exact State.setReg_reg _ _ _ _ (State.setReg_rising _ _ _ _ hu)

/-- A write that failed less than three times goes out again (R56, log entry 17). -/
theorem execAvsWriteDone_retries {rail mv v : Nat} {s : State} (hrail : rail ≤ 1) (hw : (s.rail rail).writing = some mv)
    (hr : (s.rail rail).retries < 2) : Completes (.avsWriteDone rail false v) s fun t =>
      (t.rail rail).writing = some mv ∧ (t.rail rail).retries = (s.rail rail).retries + 1 ∧ t.out = .avs rail mv :: s.out := by
  refine ⟨(s.setRail rail { s.rail rail with retries := (s.rail rail).retries + 1 }).avsWrite rail mv, ?_, ?_⟩
  · have hagain : (s.rail rail).retries + 1 < 3 := Nat.succ_lt_succ hr
    change execAvsWriteDone rail false v s = _
    simp only [execAvsWriteDone, if_neg (Nat.not_lt.mpr hrail), hw, Bool.false_eq_true, if_false, if_pos hagain]
  · simp [State.avsWrite_rail, State.avsWrite_out]

/-- The third failure stops the rail's adaptation and is counted (R56, log entry 17). -/
theorem execAvsWriteDone_stops {rail mv v : Nat} {s : State} (hs : s.StoresRise) (hrail : rail ≤ 1)
    (hw : (s.rail rail).writing = some mv) (hr : (s.rail rail).retries = 2) : Completes (.avsWriteDone rail false v) s fun t =>
      (t.rail rail).stopped = true ∧ t.reg 0x2300 5 = (s.reg 0x2300 5 + 1) % 2 ^ 32 := by
  let u := s.setRail rail { s.rail rail with writing := none, retries := 0, stopped := true }
  have hu : rising u.objs = true := by simp [u, hs.objs]
  refine ⟨(u.bump 0x2300 5).healthFree 0 5 (natBe rail 1), ?_, ?_, ?_⟩
  · simp [exec, execAvsWriteDone, Nat.not_lt.mpr hrail, hw, hr, u]
  · rw [State.rail_congr (s := u) (by simp), State.setRail_rail]
  · have hspan : counterSpan 0x2300 5 = 2 ^ 32 := by decide +kernel
    simp [State.count_reg _ _ _ _ hu, hspan, u]

/-- Settles O4: each command by the lemma of its meaning; writes are counted as log entry 17 has it. -/
theorem sensorAndVoltageCommandsComplete : Obligations.SensorAndVoltageCommandsComplete := by
  refine ⟨?sensorSample, ?avsEvaluate, ?acknowledged, ?retried, ?stopped⟩
  case sensorSample => exact fun _ _ => execSensorSample_enters
  case avsEvaluate => exact fun _ _ _ => execAvsEvaluate_writes
  case acknowledged => exact fun _ _ _ _ => execAvsWriteDone_acknowledged
  case retried => exact fun _ _ _ _ => execAvsWriteDone_retries
  case stopped => exact fun _ _ _ _ => execAvsWriteDone_stops

end Sys2Proof.Machine
end

section
/-! The commands of the HBM: self-refresh, refresh, calibration, delays and the scrub (R87, R398 to R411). -/

namespace Sys2Proof.Machine

/-! ### What leaves stacks and pseudo-channels alone -/

theorem State.stack_congr {s t : State} (h : t.hbm = s.hbm) (k : Nat) : t.stack k = s.stack k := by
  rw [State.stack, h, State.stack]

theorem State.pc_congr {s t : State} (h : t.hbm = s.hbm) (cc : Nat) : t.pc cc = s.pc cc := by
  rw [State.pc, h, State.pc]

@[simp] theorem State.reach_pc (s : State) (u cc : Nat) : (s.reach u).pc cc = s.pc cc := rfl

@[simp] theorem State.count_pc (s : State) (i j n cc : Nat) : (s.count i j n).pc cc = s.pc cc := State.pc_congr (by simp) cc

@[simp] theorem State.setReg_stack (s : State) (i j v k : Nat) : (s.setReg i j v).stack k = s.stack k := rfl

@[simp] theorem State.setPhy_stack (s : State) (h st k : Nat) : (s.setPhy h st).stack k = s.stack k := State.stack_congr (by simp) k

@[simp] theorem State.count_stack (s : State) (i j n k : Nat) : (s.count i j n).stack k = s.stack k := State.stack_congr (by simp) k

@[simp] theorem State.endWrite_pc (s : State) (o : Origin) (i j : Nat) (c : List Byte) (st : Status) (cc : Nat) :
    (s.endWrite o i j c st).pc cc = s.pc cc := State.pc_congr (by simp) cc

theorem State.stackBoundary_now_objs (s : State) (h : Nat) : (s.stackBoundary h).now = s.now ∧ (s.stackBoundary h).objs = s.objs := by
  refine List.foldlRecOn (motive := fun t : State => t.now = s.now ∧ t.objs = s.objs) _ _ ⟨rfl, rfl⟩ fun t ht k _ => ?_
  exact ht

/-! ### Self-refresh (R87, R402) -/

/-- A stack whose conditions have held for HBM_IDLE_US is asked to enter self-refresh (R87). -/
theorem execHbmIdleExpiry_asks {h : Nat} {s : State} (hh : h < 4) (hen : s.reg 0x2012 1 ≠ 0) (hsleep : s.sleepMode = true)
    (hactive : s.reg 0x7101 h = 0) (hpackets : s.hbmHoldsPackets = false) (hsets : s.stats.setDeltas = [])
    (hqueues : s.stats.queueDeltas = []) (hchannels : s.stats.channelDeltas = []) : Completes (.hbmIdleExpiry h) s fun t =>
      (t.stack h).entering = true ∧ (s.stack h).lastAccess + s.reg 0x2012 2 * 1000 ≤ t.now := by
  refine ⟨(s.reach ((s.stack h).lastAccess + s.reg 0x2012 2 * 1000)).setStack h { s.stack h with entering := true }, ?_, ?_, ?_⟩
  · simp [exec, execHbmIdleExpiry, Nat.not_le.mpr hh, hen, hsleep, hactive, hpackets, hsets, hqueues, hchannels]
  · rw [State.setStack_stack]
  · exact Nat.le_max_right ..

/-- A stack that was asked to sleep shows SELF_REFRESH (R402). -/
theorem execSelfRefreshEnter_sleeps {h : Nat} {s : State} (hs : s.StoresRise) (hh : h < 4) (hask : (s.stack h).entering = true)
    (hactive : s.reg 0x7101 h = 0) : Completes (.selfRefreshEnter h) s fun t => t.reg 0x7101 h = 1 ∧ (t.stack h).entering = false := by
  refine ⟨(((s.stackBoundary h).setStack h { s.stack h with entering := false }).setReg 0x7101 h 1).setPhy h 1, ?_, ?_, ?_⟩
  · simp [exec, execSelfRefreshEnter, Nat.not_le.mpr hh, hask, hactive]
  · have hrise : rising ((s.stackBoundary h).setStack h { s.stack h with entering := false }).objs = true := by
      simpa [(s.stackBoundary_now_objs h).2] using hs.objs
    simp [State.setReg_reg _ _ _ _ hrise]
  · simp

/-- The state in which a stack that has woken is released to its ports, before its calibration starts anew. -/
def State.stackReleased (s : State) (h since : Nat) : State :=
  let s1 := ((s.reach since).stackBoundary h).setPhy h 2
  ((s1.setStack h { s1.stack h with wakeSince := none, lastAccess := s1.now }).setReg 0x7101 h 0).count 0x7120 3 256

/-- The pseudo-channels of a stack search outward in their next round (R406). -/
def State.searchAnew (s : State) (h : Nat) : State :=
  (List.range 32).foldl (fun s k => s.setPc (32 * h + k) { s.pc (32 * h + k) with round := none, searchOut := true }) s

theorem State.searchAnew_other (s : State) (h : Nat) :
    (s.searchAnew h).now = s.now ∧ (s.searchAnew h).objs = s.objs ∧ ∀ k, (s.searchAnew h).stack k = s.stack k :=
  List.foldlRecOn (motive := fun t : State => t.now = s.now ∧ t.objs = s.objs ∧ ∀ k, t.stack k = s.stack k) _ _
    ⟨rfl, rfl, fun _ => rfl⟩ fun _ ht _ _ => ht

theorem State.stackReleased_reads {s : State} (hr : rising s.objs = true) (h since : Nat) : (s.stackReleased h since).reg 0x7101 h = 0 ∧
    ((s.stackReleased h since).stack h).wakeSince = none ∧ (s.stackReleased h since).now = (s.reach since).now := by
  have hrise : rising (((s.reach since).stackBoundary h).setPhy h 2).objs = true := by
    simp [(State.stackBoundary_now_objs _ h).2, hr]
  refine ⟨?_, ?_, ?_⟩
  · rw [State.stackReleased, State.count_other _ _ (by simp only [okey]; omega)]
    exact State.setReg_reg _ _ _ _ hrise
  · simp [State.stackReleased]
  · simp [State.stackReleased, (State.stackBoundary_now_objs _ h).1]

/-- A stack released within 50 µs of its wake request is ACTIVE (R87, R402). -/
theorem execHbmWakeDone_releases {h elapsed u : Nat} {s : State} (hs : s.StoresRise) (hh : h < 4) (hwake : (s.stack h).wakeSince = some u)
    (hwaking : s.reg 0x7101 h = 2) (hintime : elapsed ≤ 50000) : Completes (.hbmWakeDone h elapsed []) s fun t =>
      t.reg 0x7101 h = 0 ∧ (t.stack h).wakeSince = none ∧ u + elapsed ≤ t.now := by
  let t := (s.stackReleased h (u + elapsed)).searchAnew h
  have hexec : execHbmWakeDone h elapsed [] s = .next (if 5000 < elapsed then t.wakeLate 2 h elapsed else t) := by
    simp only [execHbmWakeDone, hwake, hwaking, Nat.not_le.mpr hh, Nat.not_lt.mpr hintime, ne_eq, not_true_eq_false, or_self, if_false,
      List.isEmpty_nil, Bool.not_true, Bool.or_false, decide_eq_true_eq, List.filter_nil, List.foldl_nil]
    rfl
  obtain ⟨hreg, hstack, hnow⟩ := State.stackReleased_reads hs.objs h (u + elapsed)
  obtain ⟨hnow', hobjs, hstack'⟩ := (s.stackReleased h (u + elapsed)).searchAnew_other h
  have ht : t.reg 0x7101 h = 0 ∧ (t.stack h).wakeSince = none ∧ u + elapsed ≤ t.now := by
    refine ⟨?_, ?_, ?_⟩
    · rw [State.reg, hobjs]
      exact hreg
    · rw [hstack', hstack]
    · rw [hnow', hnow]
      exact Nat.le_max_right ..
  refine ⟨_, hexec, ?_⟩
  split
  · have hlate : On inS _ t (t.wakeLate 2 h elapsed) := State.wakeLate_keeps (Covers.refl _) .start
    rw [hlate.reg_same (i := 0x7101) h rfl, State.stack_congr (hlate.hbm_same rfl), State.wakeLate_now]
    exact ht
  · exact ht

/-- A stack that is not released within 50 µs is taken out of service (R402, R413). -/
theorem execHbmWakeFailed_takesOut {h u : Nat} {s : State} (hh : h < 4) (hwake : (s.stack h).wakeSince = some u)
    (hwaking : s.reg 0x7101 h = 2) : Completes (.hbmWakeFailed h) s fun t => t = (s.reach (u + 50000)).stackOut h 7 := by
  refine ⟨_, rfl, ?_⟩
  simp [hwake, hwaking, Nat.not_le.mpr hh]

/-! ### Refresh and its errors (R399, R400, R411) -/

/-- A refresh boundary puts the staged delays in force (R399, R400). -/
theorem execRefreshBoundary_applies {cc : Nat} {s : State} (hruns : s.stackRuns cc = true) : Completes (.refreshBoundary cc) s fun t =>
    (t.pc cc).delays = (s.pc cc).staged.getD (s.pc cc).delays ∧ (t.pc cc).staged = none ∧ (t.pc cc).lastBoundary = t.now ∧
      (s.pc cc).lastBoundary + s.reg 0x7100 4 * 1000 ≤ t.now := by
  refine ⟨_, rfl, ?_⟩
  have hwaited : (s.pc cc).lastBoundary + s.reg 0x7100 4 * 1000 ≤ (s.reach ((s.pc cc).lastBoundary + s.reg 0x7100 4 * 1000)).now :=
    Nat.le_max_right ..
  simpa [hruns, State.boundary] using hwaited

theorem execBankRefresh_counts {cc : Nat} {s : State} (hruns : s.stackRuns cc = true) : Completes (.bankRefresh cc) s fun t =>
    (t.pc cc).bankRefreshes = (s.pc cc).bankRefreshes + 1 := by
  refine ⟨_, rfl, ?_⟩
  simp [hruns]

/-- An alert that is at most the eighth within 1 ms is noted, and the stack stays (R411, R412). -/
theorem execCaParityAlert_notes {cc : Nat} {s : State} (hruns : s.stackRuns cc = true)
    (hfew : ((s.pc cc).alerts.filter fun u => decide (s.now < u + 1000000)).length < 8) : Completes (.caParityAlert cc) s fun t =>
      (t.pc cc).alerts = ((s.pc cc).alerts.filter fun u => decide (s.now < u + 1000000)) ++ [s.now] := by
  have hstays : ¬8 < (((s.pc cc).alerts.filter fun u => decide (s.now < u + 1000000)) ++ [s.now]).length := by
    rw [List.length_append, List.length_singleton]
    omega
  refine ⟨_, rfl, ?_⟩
  simp only [hruns, Bool.not_true, Bool.false_eq_true, if_false, if_neg hstays, State.setPc_pc]

/-! ### Calibration (R405, R406, R408) -/

/-- A round begins where calibration is on, no warm restart goes on, and none has begun (R406, R408). -/
theorem execCalRound_begins {cc : Nat} {s : State} (hruns : s.stackRuns cc = true) (hon : s.reg 0x7100 6 = 1)
    (hwarm : s.power.warmSince = none) (hidle : (s.pc cc).round = none) : Completes (.calRound cc) s fun t => (t.pc cc).round = some 0 := by
  refine ⟨_, rfl, ?_⟩
  simp [hruns, hon, hwarm, hidle]

/-- With an eye in its lane the round goes on to the next lane, whether a delay is staged or not (R405, R406). -/
theorem execCalProbeDone_goesOn {cc lane : Nat} {left right : List Nat} {s : State} (hruns : s.stackRuns cc = true)
    (hround : (s.pc cc).round = some lane)
    (heye : 8 ≤ (s.probedEdges (s.pc cc) lane left right).2 - (s.probedEdges (s.pc cc) lane left right).1) :
    Completes (.calProbeDone cc left right) s fun t => (t.pc cc).round = if lane = 71 then none else some (lane + 1) := by
  have hopen : ¬(s.probedEdges (s.pc cc) lane left right).2 - (s.probedEdges (s.pc cc) lane left right).1 < 8 := Int.not_lt.mpr heye
  refine ⟨_, rfl, ?_⟩
  simp only [hround, hruns, Bool.not_true, Bool.false_eq_true, if_false, if_neg hopen]
  split
  · rw [State.setPc_pc]
  · rw [State.bump_count, State.count_pc, State.setPc_pc]

/-! ### Delays and the scrub (R398, R399, R410) -/

/-- Only an object of the dictionary passes the checks of a write (R115, R152). -/
theorem State.dictRow_of_checkWrite {s : State} {o : Origin} {i j : Nat} {v : List Byte} (h : s.checkWrite o i j v = .ok) :
    ∃ d, dictRow i j = some d := by
  cases hd : dictRow i j with
  | some d => exact ⟨d, rfl⟩
  | none =>
    have hrefused := State.checkCanonical_mem (by decide) (State.checkTargetFor_of_mayNotWrite (s := s) (blob := false)
      (role := s.roleOf o) (len := (canonical o.be (typeOf i j) v).length) (i := i) (j := j) (by simp [hd]))
    rw [← State.checkWrite, h] at hrefused
    exact absurd hrefused (by decide)

/-- Every object at an index that the dictionary gives to byte strings only is one. -/
theorem typeOf_octets {i j : Nat} {d : ObjDef} (hd : dictRow i j = some d)
    (hall : (dictionary.all fun d => !decide (d.idxLo ≤ i ∧ i ≤ d.idxHi) || decide (d.ty = .octets)) = true) : typeOf i j = .octets := by
  have hrow := List.find?_some hd
  have hty := List.all_eq_true.mp hall d (List.mem_of_find?_eq_some hd)
  simp only [decide_eq_true_eq] at hrow
  rw [typeOf, hd]
  simpa [hrow.1, hrow.2.1] using hty

/-- HBM_DELAYS is a string of bytes, the same on every path (R116, R414). -/
theorem canonical_hbmDelays {s : State} {o : Origin} {cc : Nat} {v : List Byte} (h : s.checkWrite o 0x7140 cc v = .ok) :
    canonical o.be (typeOf 0x7140 cc) v = v := by
  obtain ⟨d, hd⟩ := State.dictRow_of_checkWrite h
  rw [typeOf_octets hd (by decide +kernel), canonical]

/-- Ninety delays of 7 bits and six zeros are staged (R399). -/
theorem execHbmDelays_stages {o : Origin} {cc : Nat} {v : List Byte} {s : State} (hok : s.checkWrite o 0x7140 cc v = .ok)
    (hlen : v.length = 96) (hbits : (v.all fun b => decide (b.toNat < 128)) = true) (hzero : allZero (slice v 90 6) = true) :
    Completes (.hbmDelays o cc v) s fun t => (t.pc cc).staged = some v := by
  have heffect : hbmDelaysEffect cc v s = (.ok, s.setPc cc { s.pc cc with staged := some v }) := by
    simp only [hbmDelaysEffect, hlen, hbits, hzero, ne_eq, not_true_eq_false, Bool.not_true, Bool.false_eq_true, or_self, if_false]
  refine ⟨(s.setPc cc { s.pc cc with staged := some v }).endWrite o 0x7140 cc v .ok, ?_, ?_⟩
  · change execHbmDelays o cc v s = _
    rw [execHbmDelays, State.runWrite_of_ok hok, canonical_hbmDelays hok, heffect]
  · simp only [State.endWrite_pc, State.setPc_pc]

/-- The delays in force are recorded an hour after the last record (R398). -/
theorem execDelaySave_records {s : State} (hm : s.mode ≠ .dormant) : Completes .delaySave s fun t =>
    t.hbm.saved = ((List.range 128).map fun cc => (cc, (s.pc cc).delays)) ∧ t.hbm.lastSave = t.now ∧
      s.hbm.lastSave + 3600000000000 ≤ t.now := by
  refine ⟨_, rfl, ?_⟩
  rw [if_neg hm]
  exact ⟨rfl, rfl, Nat.le_max_right ..⟩

/-- A scrub that finds no error begins the next interval (R410). -/
theorem execScrub_restarts {s : State} (hactive : s.stacksActive = true) (hm : s.mode ≠ .dormant) : Completes (.scrub [] []) s fun t =>
    t.hbm.lastScrub = t.now ∧ s.hbm.lastScrub + s.reg 0x7100 9 * 3600000000000 ≤ t.now := by
  have hwaited : s.hbm.lastScrub + s.reg 0x7100 9 * 3600000000000 ≤
      (s.reach (s.hbm.lastScrub + s.reg 0x7100 9 * 3600000000000)).now := Nat.le_max_right ..
  refine ⟨_, rfl, ?_⟩
  simpa [hactive, hm] using hwaited

/-- Settles O21: each command by the lemma of its meaning. -/
theorem memoryCommandsComplete : Obligations.MemoryCommandsComplete := by
  refine ⟨?hbmIdleExpiry, ?selfRefreshEnter, ?hbmWakeDone, ?hbmWakeFailed, ?refreshBoundary, ?bankRefresh, ?caParityAlert, ?calRound,
    ?calProbeDone, ?hbmDelays, ?delaySave, ?scrub⟩
  case hbmIdleExpiry => exact fun _ _ => execHbmIdleExpiry_asks
  case selfRefreshEnter => exact fun _ _ => execSelfRefreshEnter_sleeps
  case hbmWakeDone => exact fun _ _ _ _ => execHbmWakeDone_releases
  case hbmWakeFailed => exact fun _ _ _ => execHbmWakeFailed_takesOut
  case refreshBoundary => exact fun _ _ => execRefreshBoundary_applies
  case bankRefresh => exact fun _ _ => execBankRefresh_counts
  case caParityAlert => exact fun _ _ => execCaParityAlert_notes
  case calRound => exact fun _ _ => execCalRound_begins
  case calProbeDone => exact fun _ _ _ _ _ => execCalProbeDone_goesOn
  case hbmDelays => exact fun _ _ _ _ => execHbmDelays_stages
  case delaySave => exact fun _ => execDelaySave_records
  case scrub => exact fun _ => execScrub_restarts

end Sys2Proof.Machine
end

section
/-! What the fabric interface keeps while cells move, buckets change their links, and quads wake (R85, R86, R326 to R349). -/

namespace Sys2Proof.Machine

/-! ### Cells on their links (R326 to R328, R342) -/

/-- A link without the cells on it and what is counted with them. -/
def Link.standing (x : Link) : Link :=
  { x with txNext := 0, owed := 0, credits := 0, unacked := [], resend := [], fresh := [], lastAdvance := 0 }

/-- The fabric interface without its links and what is on them. -/
def Fabric.beside (x : Fabric) : Fabric := { x with links := [], sent := [], sentBits := 0 }

/-- From one state to the other nothing of the fabric interface changed but the cells on its links. -/
structure CellsOnly (s t : State) : Prop where
  beside : t.fab.beside = s.fab.beside
  standing : ∀ k, (t.link k).standing = (s.link k).standing

namespace CellsOnly

variable {s t u : State}

theorem refl (s : State) : CellsOnly s s := ⟨rfl, fun _ => rfl⟩

theorem trans (h : CellsOnly s t) (k : CellsOnly t u) : CellsOnly s u :=
  ⟨k.beside.trans h.beside, fun n => (k.standing n).trans (h.standing n)⟩

theorem foldl {α : Type} {l : List α} {f : State → α → State} (hf : ∀ t a, CellsOnly t (f t a)) (s : State) :
    CellsOnly s (l.foldl f s) :=
  List.foldlRecOn (motive := CellsOnly s) _ _ (.refl s) fun t ht a _ => ht.trans (hf t a)

theorem groups_same (h : CellsOnly s t) : t.fab.groups = s.fab.groups := (congrArg Fabric.groups h.beside :)

theorem recvCtx_same (h : CellsOnly s t) (k : Nat) : t.recvCtx k = s.recvCtx k :=
  (congrArg (fun x : Fabric => mgetD RecvCtx.reset x.recv k) h.beside :)

theorem sendCtx_same (h : CellsOnly s t) (k : Nat) : t.sendCtx k = s.sendCtx k :=
  (congrArg (fun x : Fabric => mgetD (SendCtx.mk 0 x.bootEra 0 false none 0 0) x.send k) h.beside :)

theorem joined_same (h : CellsOnly s t) (k : Nat) : (t.link k).joined = (s.link k).joined := (congrArg Link.joined (h.standing k) :)

theorem goBacks_same (h : CellsOnly s t) (k : Nat) : (t.link k).goBacks = (s.link k).goBacks := (congrArg Link.goBacks (h.standing k) :)

/-- A link stored with other cells. -/
theorem setLink {l : Nat} {x : Link} (h : x.standing = (s.link l).standing) : CellsOnly s (s.setLink l x) := by
  refine ⟨rfl, fun k => ?_⟩
  by_cases hk : k = l
  · rw [hk, State.setLink_link, h]
  · rw [State.setLink_link_other _ _ _ hk]

theorem emit (h : CellsOnly s t) (o : Output) : CellsOnly s (t.emit o) := ⟨h.beside, h.standing⟩

theorem sentBits (h : CellsOnly s t) (n : Nat) : CellsOnly s { t with fab := { t.fab with sentBits := n } } := ⟨h.beside, h.standing⟩

theorem sendFab (s : State) (l kind : Nat) (first last : Bool) (dest cls seq : Nat) (nak : Bool) (payload : List Byte) :
    CellsOnly s (s.sendFab l kind first last dest cls seq nak payload) :=
  (CellsOnly.setLink rfl : CellsOnly s (s.setLink l { s.link l with owed := (s.link l).owed - Nat.min 127 (s.link l).owed })).emit _

theorem sendNextCell (s : State) (l : Nat) : CellsOnly s (s.sendNextCell l) := by
  simp only [State.sendNextCell]
  split
  · exact .refl s
  · split
    · split
      · refine .trans ?_ (.sendFab ..)
        exact .setLink rfl
      · exact .refl s
    · split
      · exact .refl s
      · refine .trans (.sentBits ?_ _) (.sendFab ..)
        exact .setLink rfl

theorem pumpLink (s : State) (l : Nat) : CellsOnly s (s.pumpLink l) := .foldl (fun t _ => .sendNextCell t l) s

theorem sendControl (s : State) (unit : Nat) (msg : List Byte) : CellsOnly s (s.sendControl unit msg) := by
  rw [State.sendControl]
  split
  · exact .refl s
  · refine .trans ?_ (.pumpLink ..)
    exact .setLink rfl

theorem sendLocal (s : State) (l : Nat) (msg : List Byte) : CellsOnly s (s.sendLocal l msg) := by
  refine .trans ?_ (.pumpLink ..)
  exact .setLink rfl

/-- A packet given to a link puts its cells there. -/
theorem resendPackets (s : State) (g : Nat) : CellsOnly s (s.resendPackets g) := by
  refine .trans (.foldl (fun t e => ?_) s) (.foldl .pumpLink _)
  obtain ⟨id, p⟩ := e
  dsimp only
  split
  · exact .refl t
  · refine .trans (t := t.setLink _ _) ?_ ⟨rfl, fun _ => rfl⟩
    exact .setLink rfl

end CellsOnly

/-! ### Quads and the measurement, whatever links and buckets do (R85, R340, R341) -/

/-- What the fabric interface holds of its quads, and when it was last measured. -/
def Fabric.quadsAndMeasure (x : Fabric) : List (Nat × QuadState) × Nat := (x.quads, x.lastMeasure)

theorem CellsOnly.quadsAndMeasure_same {s t : State} (h : CellsOnly s t) : t.fab.quadsAndMeasure = s.fab.quadsAndMeasure :=
  (congrArg Fabric.quadsAndMeasure h.beside :)

@[simp] theorem State.count_quadsAndMeasure (s : State) (i j n : Nat) : (s.count i j n).fab.quadsAndMeasure = s.fab.quadsAndMeasure :=
  congrArg Fabric.quadsAndMeasure (by simp)

@[simp] theorem State.setLink_quadsAndMeasure (s : State) (l : Nat) (x : Link) :
    (s.setLink l x).fab.quadsAndMeasure = s.fab.quadsAndMeasure := rfl

@[simp] theorem State.setGroup_quadsAndMeasure (s : State) (g : Nat) (x : FlowGroup) :
    (s.setGroup g x).fab.quadsAndMeasure = s.fab.quadsAndMeasure := rfl

@[simp] theorem State.resendPackets_quadsAndMeasure (s : State) (g : Nat) :
    (s.resendPackets g).fab.quadsAndMeasure = s.fab.quadsAndMeasure := (CellsOnly.resendPackets s g).quadsAndMeasure_same

/-- Fences that start change the flow groups only (R341). -/
theorem State.startFences_fab (n : Nat) (s : State) (g : Nat) : ∃ groups, (State.startFences n s g).fab = { s.fab with groups := groups } := by
  induction n generalizing s with
  | zero => exact ⟨_, rfl⟩
  | succ n ih =>
    rw [State.startFences]
    split
    · exact ⟨_, rfl⟩
    case h_2 b target rest _ =>
      dsimp only
      split
      · obtain ⟨groups, h⟩ := ih (s.setGroup g _)
        exact ⟨groups, h⟩
      · split
        · exact ⟨_, rfl⟩
        · obtain ⟨groups, h⟩ := ih ((s.setGroup g _).bump 0x8001 0x0A)
          refine ⟨groups, h.trans ?_⟩
          rw [State.bump_count]
          simp [State.setGroup]

@[simp] theorem State.startFences_quadsAndMeasure (n : Nat) (s : State) (g : Nat) :
    (State.startFences n s g).fab.quadsAndMeasure = s.fab.quadsAndMeasure := by
  obtain ⟨groups, h⟩ := State.startFences_fab n s g
  rw [h]
  rfl

@[simp] theorem State.startFences_link (n : Nat) (s : State) (g k : Nat) : (State.startFences n s g).link k = s.link k := by
  obtain ⟨groups, h⟩ := State.startFences_fab n s g
  rw [State.link, h, State.link]

@[simp] theorem State.joinLink_quadsAndMeasure (s : State) (l : Nat) : (s.joinLink l).fab.quadsAndMeasure = s.fab.quadsAndMeasure := by
  simp only [State.joinLink]
  split
  · rw [State.resendPackets_quadsAndMeasure, State.setGroup_quadsAndMeasure, State.setLink_quadsAndMeasure]
  · rw [State.startFences_quadsAndMeasure, State.setGroup_quadsAndMeasure, State.setLink_quadsAndMeasure]

@[simp] theorem State.leaveLink_quadsAndMeasure (s : State) (l : Nat) (failed : Bool) :
    (s.leaveLink l failed).fab.quadsAndMeasure = s.fab.quadsAndMeasure := by
  simp only [State.leaveLink]
  split
  · rfl
  · split
    · rw [State.startFences_quadsAndMeasure]
      split
      · rw [State.bump_count, State.count_quadsAndMeasure, State.setGroup_quadsAndMeasure, State.setLink_quadsAndMeasure]
      · rw [State.setGroup_quadsAndMeasure, State.setLink_quadsAndMeasure]
    · rw [State.startFences_quadsAndMeasure, State.setGroup_quadsAndMeasure, State.setLink_quadsAndMeasure]

/-- A link that joins its group has joined (R340). -/
theorem State.joinLink_joined (s : State) (l : Nat) : ((s.joinLink l).link l).joined = true := by
  simp only [State.joinLink]
  split
  · rw [(CellsOnly.resendPackets ..).joined_same]
    exact congrArg Link.joined (s.setLink_link l _)
  · rw [State.startFences_link]
    exact congrArg Link.joined (s.setLink_link l _)

/-! ### Quads that wake (R86, R349) -/

/-- What a wake makes of a quad. -/
def QuadState.woken (now : Nat) : QuadState → QuadState
  | .off => .waking now
  | .quieting _ => .awake
  | x => x

theorem State.quad_congr {s t : State} (h : t.fab.quadsAndMeasure = s.fab.quadsAndMeasure) (q : Nat) : t.quad q = s.quad q :=
  (congrArg (fun x : List (Nat × QuadState) × Nat => mgetD QuadState.awake x.1 q) h :)

theorem State.wakeQuad_off {s : State} {q : Nat} (h : s.quad q = .off) :
    (s.wakeQuad q).fab.quadsAndMeasure = (s.setQuad q (.waking s.now)).fab.quadsAndMeasure := by
  rw [State.wakeQuad, h]
  refine List.foldlRecOn (motive := fun t : State => t.fab.quadsAndMeasure = (s.setQuad q (.waking s.now)).fab.quadsAndMeasure) _ _ rfl
    fun t ht l _ => ?_
  dsimp only
  split <;> exact ht

theorem State.wakeQuad_quieting {s : State} {q u : Nat} (h : s.quad q = .quieting u) :
    (s.wakeQuad q).fab.quadsAndMeasure = (s.setQuad q .awake).fab.quadsAndMeasure := by
  rw [State.wakeQuad, h]
  refine List.foldlRecOn (motive := fun t : State => t.fab.quadsAndMeasure = (s.setQuad q .awake).fab.quadsAndMeasure) _ _ rfl
    fun t ht l _ => ?_
  split
  · simpa using ht
  · exact ht

/-- A quad that is awake or waking goes on. -/
theorem State.wakeQuad_same {s : State} {q : Nat} (hoff : s.quad q ≠ .off) (hquieting : ∀ u, s.quad q ≠ .quieting u) : s.wakeQuad q = s := by
  rw [State.wakeQuad]
  split
  case h_1 h => exact absurd h hoff
  case h_2 u h => exact absurd h (hquieting u)
  case h_3 => rfl

theorem State.wakeQuad_quad (s : State) (q p : Nat) :
    (s.wakeQuad q).quad p = if p = q then (s.quad q).woken s.now else s.quad p := by
  have hset (x : QuadState) : (s.setQuad q x).quad p = if p = q then x else s.quad p := by
    split
    · simp [*]
    · exact s.setQuad_quad_other q x ‹_›
  have hawake : s.quad p = if p = q then s.quad q else s.quad p := by
    split
    · simp [*]
    · rfl
  cases h : s.quad q with
  | off => rw [State.quad_congr (State.wakeQuad_off h), hset]; rfl
  | quieting u => rw [State.quad_congr (State.wakeQuad_quieting h), hset]; rfl
  | awake => rw [State.wakeQuad_same (by simp [h]) (by simp [h])]; simpa [h, QuadState.woken] using hawake
  | waking u => rw [State.wakeQuad_same (by simp [h]) (by simp [h])]; simpa [h, QuadState.woken] using hawake

theorem State.wakeQuad_lastMeasure (s : State) (q : Nat) : (s.wakeQuad q).fab.lastMeasure = s.fab.lastMeasure := by
  cases h : s.quad q with
  | off => exact congrArg Prod.snd (State.wakeQuad_off h)
  | quieting u => exact congrArg Prod.snd (State.wakeQuad_quieting h)
  | awake => rw [State.wakeQuad_same (by simp [h]) (by simp [h])]
  | waking u => rw [State.wakeQuad_same (by simp [h]) (by simp [h])]

theorem State.wakeQuad_now (s : State) (q : Nat) : (s.wakeQuad q).now = s.now := (State.wakeQuad_keeps (Covers.refl _) .start).now_same rfl

/-- A quad that is awake, or that is being quieted, is awake after any wake. -/
theorem State.wakeQuad_quad_awake {s : State} {p : Nat} (q : Nat) (h : (s.quad p).woken s.now = .awake) :
    ((s.wakeQuad q).quad p).woken (s.wakeQuad q).now = .awake := by
  rw [State.wakeQuad_quad, State.wakeQuad_now]
  split
  case isTrue hp =>
    rw [← hp, h]
    rfl
  case isFalse => exact h

theorem State.wakeGroup_quad_awake {s : State} {p : Nat} (g : Nat) (h : (s.quad p).woken s.now = .awake) :
    ((s.wakeGroup g).quad p).woken (s.wakeGroup g).now = .awake := by
  refine List.foldlRecOn (motive := fun t : State => (t.quad p).woken t.now = .awake) _ _ h fun t ht q _ => ?_
  split
  · exact State.wakeQuad_quad_awake q ht
  · exact ht

/-! ### Links that fail (R343 to R345) -/

/-- A link is FAILED with a cause. -/
def State.Failed (s : State) (l cause : Nat) : Prop := s.linkState l = 6 ∧ s.reg 0x3407 l = cause

/-- A change of a link that is not FAILED leaves the FAILED ones alone. -/
theorem State.Failed.setReg {s : State} {l cause k v : Nat} (h : s.Failed l cause) (hl : l < 160) (hk : k < 160) (hstate : s.linkState k ≠ 6) :
    (s.setReg 0x3400 k v).Failed l cause := by
  obtain ⟨hfailed, hcause⟩ := h
  have hne : l ≠ k := by
    rintro rfl
    exact hstate hfailed
  refine ⟨?_, ?_⟩
  · rw [State.linkState, State.setReg_other _ _ (by simp only [okey]; omega)]
    exact hfailed
  · rw [State.setReg_other _ _ (by simp only [okey]; omega)]
    exact hcause

/-- What touches no register of the fabric links leaves the FAILED ones alone. -/
theorem State.Failed.on {ps : Nat} {s t : State} {l cause : Nat} (h : s.Failed l cause) (hk : On inS ps s t)
    (hpage : ps.testBit (32 + 0x34) = false) : t.Failed l cause :=
  ⟨(hk.reg_same (i := 0x3400) l hpage).trans h.1, (hk.reg_same (i := 0x3407) l hpage).trans h.2⟩

theorem quadLinks_lt {q l : Nat} (hq : q < 40) (h : l ∈ quadLinks q) : l < 160 := by
  obtain ⟨k, hk, rfl⟩ := List.mem_map.mp h
  have := List.mem_range.mp hk
  omega

/-- A quad that wakes changes only links that are quiet or are being quieted (R349). -/
theorem State.Failed.wakeQuad {s : State} {l cause q : Nat} (h : s.Failed l cause) (hl : l < 160) (hq : q < 40) :
    (s.wakeQuad q).Failed l cause := by
  rw [State.wakeQuad]
  split
  case h_1 =>
    refine List.foldlRecOn (motive := fun t : State => t.Failed l cause) _ _
      (State.Failed.on (s := s.setQuad q (.waking s.now)) h (State.setReg_keeps (Covers.refl _) .start) rfl) fun t ht k hk => ?_
    dsimp only
    split
    case isTrue hstate => exact State.Failed.setReg ht hl (quadLinks_lt hq hk) (by rw [hstate]; decide)
    case isFalse => exact ht
  case h_2 =>
    refine List.foldlRecOn (motive := fun t : State => t.Failed l cause) _ _ h fun t ht k hk => ?_
    split
    case isTrue hstate =>
      have hset : ((t.setLink k { t.link k with quietSent := false, quietDone := false }).setReg 0x3400 k 3).Failed l cause :=
        State.Failed.setReg ht hl (quadLinks_lt hq hk) (by change t.linkState k ≠ 6; rw [hstate]; decide)
      exact hset.on (State.joinLink_keeps (Covers.refl _) .start) rfl
    case isFalse => exact ht
  case h_3 => exact h

theorem State.Failed.wakeGroup {s : State} {l cause : Nat} (h : s.Failed l cause) (hl : l < 160) (g : Nat) :
    (s.wakeGroup g).Failed l cause := by
  refine List.foldlRecOn (motive := fun t : State => t.Failed l cause) _ _ h fun t ht q hq => ?_
  split
  · exact ht.wakeQuad hl (List.mem_range.mp hq)
  · exact ht

/-- A link's failure noted in its registers (R343). -/
def State.noteFailure (s : State) (l cause : Nat) : State :=
  ((s.setReg 0x3400 l 6).bump 0x3406 l).setReg 0x3407 l (if cause = 0 then s.reg 0x3407 l else cause)

theorem State.noteFailure_failed {s : State} (hr : rising s.objs = true) (l cause : Nat) :
    (s.noteFailure l cause).Failed l (if cause = 0 then s.reg 0x3407 l else cause) := by
  have hset := State.setReg_rising s 0x3400 l 6 hr
  refine ⟨?_, State.setReg_reg _ _ _ _ (State.count_rising _ _ _ _ hset)⟩
  rw [State.linkState, State.noteFailure, State.setReg_other _ _ (by simp only [okey]; omega), State.bump_count,
    State.count_other _ _ (by simp only [okey]; omega), State.setReg_reg _ _ _ _ hr]

/-- The contexts whose packets come on a link are closed, and counted (R333, R344). -/
def State.closeContexts (u : State) (l : Nat) : State :=
  ({ u with fab := { u.fab with
      reasm := u.fab.reasm.filter (fun r => decide (r.link ≠ l)), dropping := u.fab.dropping.filter (fun d => decide (d.1 ≠ l)) } }).count
    0x8001 8 (u.fab.reasm.filter fun (r : Reassembly) => decide (r.link = l)).length

/-- The packets on a link wait for another, and those that had been started are counted (R344). -/
def State.unlinkPackets (u : State) (l : Nat) (started : Nat → Bool) : State :=
  let mine := u.fab.sent.filter fun (_, p) => decide (p.link = some l)
  let n := (mine.filter fun (id, _) => started id).length
  ({ u with fab := { u.fab with sent := mmap u.fab.sent fun _ p => if p.link = some l then { p with link := none } else p } }).count
    0x8001 1 n

/-- What a link of s that fails takes with it, in the state u in which its failure is noted: its contexts, its packets, and its place in
its group (R343 to R345). -/
def State.tearLink (s u : State) (l : Nat) : State :=
  let x := s.link l
  let sentIds := (x.unacked ++ x.resend).filterMap (·.packet)
  let partIds := x.fresh.filterMap fun c => if c.first then none else c.packet
  let wholeIds := x.fresh.filterMap fun c => if c.first then c.packet else none
  let started (id : Nat) : Bool := sentIds.contains id || (partIds.contains id && !wholeIds.contains id)
  let v := (((u.closeContexts l).unlinkPackets l started).leaveLink l true).setLink l
    { Link.reset with failedSince := s.now, fromFailed := true }
  if s.linkGroup l < 8 then v.resendPackets (s.linkGroup l) else v

/-- The quieted quads of a group wake where a failure leaves it too few usable links (R345). -/
def State.wakeShort (v : State) (g : Nat) : State := if g < 8 ∧ (v.usableLinks g).length < v.reg 0x8011 g then v.wakeGroup g else v

/-- A link in service that fails: its failure is noted, the link is torn out, and its group wakes what it needs. -/
theorem State.failLink_eq {s : State} {l : Nat} (hl : l < 160) (hstate : s.linkState l ∈ [1, 2, 3, 4]) (cause : Nat) :
    s.failLink l cause = (s.tearLink (s.noteFailure l cause) l).wakeShort (s.linkGroup l) := by
  have hfails : ¬(160 ≤ l ∨ s.linkState l = 0 ∨ s.linkState l = 5 ∨ s.linkState l = 6) := by
    simp only [List.mem_cons, List.not_mem_nil, or_false] at hstate
    omega
  rw [State.failLink, if_neg hfails]
  dsimp only [State.wakeShort, State.tearLink, State.closeContexts, State.unlinkPackets, State.noteFailure]

@[simp] theorem State.closeContexts_quadsAndMeasure (u : State) (l : Nat) :
    (u.closeContexts l).fab.quadsAndMeasure = u.fab.quadsAndMeasure := State.count_quadsAndMeasure ..

@[simp] theorem State.unlinkPackets_quadsAndMeasure (u : State) (l : Nat) (started : Nat → Bool) :
    (u.unlinkPackets l started).fab.quadsAndMeasure = u.fab.quadsAndMeasure := State.count_quadsAndMeasure ..

theorem State.tearLink_quadsAndMeasure (s u : State) (l : Nat) : (s.tearLink u l).fab.quadsAndMeasure = u.fab.quadsAndMeasure := by
  simp only [State.tearLink]
  split <;> simp

theorem State.closeContexts_keeps {s0 : State} {ps : Nat} {u : State} {l : Nat} (hp : Covers ps 0x10000000000000000000000000000000000100100)
    (hu : On inS ps s0 u) : On inS ps s0 (u.closeContexts l) := by
  rw [State.closeContexts]
  refine State.count_keeps (hp.sub rfl) (hp.sub rfl) ?_
  refine On.mk (s := u) ?_ .k .k .k .k .k .k .k .k (.c (hp.sub rfl)) .k .k .k .k .k .k .k .k
  exact hu

theorem State.unlinkPackets_keeps {s0 : State} {ps : Nat} {u : State} {l : Nat} {started : Nat → Bool}
    (hp : Covers ps 0x10000000000000000000000000000000000100100) (hu : On inS ps s0 u) : On inS ps s0 (u.unlinkPackets l started) := by
  rw [State.unlinkPackets]
  refine State.count_keeps (hp.sub rfl) (hp.sub rfl) ?_
  refine On.mk (s := u) ?_ .k .k .k .k .k .k .k .k (.c (hp.sub rfl)) .k .k .k .k .k .k .k .k
  exact hu

/-- The registers of the links stand while a link is torn out. -/
theorem State.tearLink_keeps (s u : State) (l : Nat) : On inS 0x10000000000000000000000000000000000120100 u (s.tearLink u l) := by
  have hp := Covers.refl 0x10000000000000000000000000000000000120100
  have hleft (started : Nat → Bool) (x : Link) : On inS 0x10000000000000000000000000000000000120100 u
      ((((u.closeContexts l).unlinkPackets l started).leaveLink l true).setLink l x) :=
    State.setLink_keeps (hp.sub rfl) (State.leaveLink_keeps (hp.sub rfl)
      (State.unlinkPackets_keeps (hp.sub rfl) (State.closeContexts_keeps (hp.sub rfl) .start)))
  simp only [State.tearLink]
  split
  · exact State.resendPackets_keeps (hp.sub rfl) (hleft _ _)
  · exact hleft _ _

/-- A link in service that fails is FAILED with its cause; cause 0 leaves the last one (R343). -/
theorem State.failLink_failed {s : State} {l : Nat} (hr : rising s.objs = true) (hl : l < 160) (hstate : s.linkState l ∈ [1, 2, 3, 4])
    (cause : Nat) : (s.failLink l cause).Failed l (if cause = 0 then s.reg 0x3407 l else cause) := by
  have htorn := (State.noteFailure_failed hr l cause).on (s.tearLink_keeps _ l) rfl
  rw [State.failLink_eq hl hstate, State.wakeShort]
  split
  · exact htorn.wakeGroup hl _
  · exact htorn

/-- A failure leaves a quad that is awake, or that is being quieted, awake after any wake. -/
theorem State.failLink_quad_awake {s : State} {l p : Nat} (hl : l < 160) (hstate : s.linkState l ∈ [1, 2, 3, 4]) (cause : Nat)
    (h : (s.quad p).woken s.now = .awake) : ((s.failLink l cause).quad p).woken (s.failLink l cause).now = .awake := by
  have hnoted : (s.noteFailure l cause).fab.quadsAndMeasure = s.fab.quadsAndMeasure := State.count_quadsAndMeasure ..
  have htorn : ((s.tearLink (s.noteFailure l cause) l).quad p).woken (s.tearLink (s.noteFailure l cause) l).now = .awake := by
    rw [State.quad_congr ((State.tearLink_quadsAndMeasure ..).trans hnoted), (s.tearLink_keeps _ l).now_same rfl]
    simpa [State.noteFailure] using h
  rw [State.failLink_eq hl hstate, State.wakeShort]
  split
  · exact State.wakeGroup_quad_awake _ htorn
  · exact htorn

/-! ### Quiet checks (R86) -/

theorem State.quadOff_groups (s : State) (q : Nat) : (s.quadOff q).fab.groups = s.fab.groups := by
  rw [State.quadOff]
  refine List.foldlRecOn (motive := fun t : State => t.fab.groups = s.fab.groups) _ _ rfl fun t ht l _ => ?_
  dsimp only
  split <;> exact ht

/-- A quiet check changes no flow group. -/
theorem State.quietCheck_groups (s : State) (q : Nat) : (s.quietCheck q).fab.groups = s.fab.groups := by
  simp only [State.quietCheck]
  refine List.foldlRecOn (motive := fun t : State => t.fab.groups = s.fab.groups) _ _ ?_ fun t ht l _ => ?_
  · split
    · split
      · rw [State.quadOff_groups]
      · split
        · refine List.foldlRecOn (motive := fun t : State => t.fab.groups = s.fab.groups) _ _ ?_ fun t ht l _ => ?_
          · rfl
          split
          · exact ht
          · rw [(CellsOnly.sendLocal ..).groups_same]
            exact ht
        · rfl
    · rfl
  · split
    · rw [(CellsOnly.sendLocal ..).groups_same]
      exact ht
    · exact ht

end Sys2Proof.Machine
end


section
/-! The times of the fabric (R85, R86, R329, R333, R336, R337, R340 to R346, R380). -/

namespace Sys2Proof.Machine

/-! ### Replay, reassembly and resequencing (R333, R342, R346) -/

/-- The links as a go-back leaves them: every unacknowledged cell is to be sent again, and the go-back is counted. -/
def State.wentBack (s : State) (l : Nat) : State :=
  (s.setLink l { s.link l with
    resend := (s.link l).unacked ++ (s.link l).resend, unacked := [], goBacks := (s.link l).goBacks + 1, lastAdvance := s.now }).bump 0x3404 l

@[simp] theorem State.count_link (s : State) (i j n k : Nat) : (s.count i j n).link k = s.link k :=
  congrArg (fun x : Fabric => mgetD Link.reset x.links k) (by simp)

theorem State.wentBack_now (s : State) (l : Nat) : (s.wentBack l).now = s.now := by
  simp only [State.wentBack, State.bump_count, State.count_fields, State.setLink_fields]

/-- A go-back below the limit sends the cells again (R342). -/
theorem State.goBack_eq {s : State} {l : Nat} (hcells : (s.link l).unacked ≠ []) (hfew : (s.link l).goBacks + 1 < s.reg 0x8000 4) :
    s.goBack l = (s.wentBack l).pumpLink l := by
  simp only [State.goBack, List.isEmpty_iff, hcells, if_false, if_neg (Nat.not_le.mpr hfew)]
  rfl

/-- A replay timeout below the limit goes back once more (R342). -/
theorem execReplayTimeout_goesBack {l : Nat} {s : State} (hs : s.StoresRise) (hl : l < 160) (hcells : (s.link l).unacked ≠ [])
    (hfew : (s.link l).goBacks + 1 < s.reg 0x8000 4) : Completes (.replayTimeout l) s fun t =>
      (t.link l).goBacks = (s.link l).goBacks + 1 ∧ t.reg 0x3404 l = (s.reg 0x3404 l + 1) % counterSpan 0x3404 l ∧
        (s.link l).lastAdvance + s.reg 0x8000 3 ≤ t.now := by
  let u := s.reach ((s.link l).lastAdvance + s.reg 0x8000 3)
  have hsent : On inS _ (u.wentBack l) ((u.wentBack l).pumpLink l) := State.pumpLink_keeps (Covers.refl _) .start
  refine ⟨(u.wentBack l).pumpLink l, ?_, ?_, ?_, ?_⟩
  · have hback : u.goBack l = (u.wentBack l).pumpLink l := State.goBack_eq hcells hfew
    simp [exec, execReplayTimeout, Nat.not_le.mpr hl, hcells, ← hback, u]
  · rw [(CellsOnly.pumpLink ..).goBacks_same, State.wentBack, State.bump_count, State.count_link, State.setLink_link]
    rfl
  · rw [hsent.reg_same (i := 0x3404) l rfl]
    exact State.count_reg _ _ _ _ hs.objs
  · rw [hsent.now_same rfl, State.wentBack_now]
    exact Nat.le_max_right ..

/-- A reassembly that timed out is dropped, and no other (R333). -/
theorem execReassemblyTimeout_drops {l unit srcLink : Nat} {r : Reassembly} {s : State} (hr : r ∈ s.fab.reasm) (hl : r.link = l)
    (hunit : r.unit = unit) (hsrc : r.srcLink = srcLink) : Completes (.reassemblyTimeout l unit srcLink) s fun t =>
      ∀ x ∈ t.fab.reasm, x ∈ s.fab.reasm ∧ ¬(x.link = l ∧ x.unit = unit ∧ x.srcLink = srcLink) := by
  refine ⟨_, rfl, ?_⟩
  dsimp only
  split
  case h_1 hnone => exact absurd (List.find?_eq_none.mp hnone r hr) (by simp [hl, hunit, hsrc])
  case h_2 =>
    intro x hx
    simp only [State.bump_count, State.count_fields, State.reach_fields, List.mem_filter] at hx
    obtain ⟨hin, hother⟩ := hx
    refine ⟨hin, fun ⟨hl', hunit', hsrc'⟩ => ?_⟩
    simp [hl', hunit', hsrc'] at hother

/-- A gap is skipped RESEQ_TIMEOUT_US after the oldest packet behind it came (R346, log entry 26). -/
theorem execReseqTimeout_skips {unit cls : Nat} {p : ReseqPacket} {s : State} (hp : (s.recvCtx (ctxKey unit cls)).oldest = some p) :
    Completes (.reseqTimeout unit cls) s fun t =>
      t = ((s.reach (p.since + s.reg 0x8000 6 * 1000)).skipGap (ctxKey unit cls)).bump 0x8001 3 := by
  refine ⟨_, rfl, ?_⟩
  simp only [hp]

/-! ### Grants and requests (R336, R337) -/

/-- A grant lowers the demand of its context by what it gives, at most 16 cells (R337). -/
theorem execGrantIssue_lowers {k : Nat} {s : State} (hk : s.grantNext = some k) (hmay : s.mayCarry = true)
    (hroom : 4 * s.reseqBytes ≤ 3 * (s.reg 0x8000 7 * 1024)) (hlinks : s.usableLinks (s.destGroup (k / 8)) ≠ []) :
    Completes .grantIssue s fun t => (t.recvCtx k).demand = (s.recvCtx k).demand - Nat.min 16 (s.recvCtx k).demand := by
  have hgrants : ¬((!s.mayCarry) = true ∨ 3 * (s.reg 0x8000 7 * 1024) < 4 * s.reseqBytes ∨
      (s.usableLinks (s.destGroup (k / 8))).isEmpty = true) := by
    simp [hmay, hroom, hlinks]
  refine ⟨_, rfl, ?_⟩
  simp only [hk, if_neg hgrants]
  rw [(CellsOnly.sendControl ..).recvCtx_same]
  exact congrArg RecvCtx.demand (State.setRecvCtx_recvCtx ..)

/-- A refresh reports the demand, 2 µs or more after the last REQUEST (R336). -/
theorem execRequestRefresh_reports {unit cls : Nat} {s : State} (hdemand : s.demand (ctxKey unit cls) ≠ 0) (hmay : s.mayCarry = true)
    (hlinks : s.usableLinks (s.destGroup (ctxKey unit cls / 8)) ≠ [])
    (hgate : s.covered (s.sendCtx (ctxKey unit cls)).syncGate = true) : Completes (.requestRefresh unit cls) s fun t =>
      (t.sendCtx (ctxKey unit cls)).reported = Nat.min (s.demand (ctxKey unit cls)) (2 ^ 24 - 1) ∧
        (t.sendCtx (ctxKey unit cls)).requestedAt = t.now ∧ (s.sendCtx (ctxKey unit cls)).requestedAt + 2000 ≤ t.now := by
  let u := s.reach ((s.sendCtx (ctxKey unit cls)).requestedAt + 2000)
  have hrequests : ¬((!u.mayCarry) = true ∨ (u.usableLinks (u.destGroup (ctxKey unit cls / 8))).isEmpty = true ∨
      (!u.covered (u.sendCtx (ctxKey unit cls)).syncGate) = true) := by
    have hmay' : u.mayCarry = true := hmay
    have hlinks' : u.usableLinks (u.destGroup (ctxKey unit cls / 8)) ≠ [] := hlinks
    have hgate' : u.covered (u.sendCtx (ctxKey unit cls)).syncGate = true := hgate
    simp [hmay', hlinks', hgate']
  have hexec : execRequestRefresh unit cls s = .next (u.sendRequest (ctxKey unit cls)) := by
    rw [execRequestRefresh]
    dsimp only
    rw [if_neg hdemand]
  refine ⟨_, hexec, ?_⟩
  rw [State.sendRequest, if_neg hrequests]
  dsimp only
  rw [(CellsOnly.sendControl ..).sendCtx_same, State.setSendCtx_sendCtx, (State.sendControl_keeps (Covers.refl _) .start).now_same rfl]
  exact ⟨rfl, rfl, Nat.le_max_right ..⟩

/-! ### Links that fail, train and join (R329, R340, R343, R349) -/

/-- A link that is not quiet within 100 µs fails, and its quad stays awake (R349, log entry 91). -/
theorem execQuietTimeout_fails {l u : Nat} {s : State} (hs : s.StoresRise) (hl : l < 160) (hquad : s.quad (l / 4) = .quieting u)
    (hstate : s.linkState l = 4) (hdone : (s.link l).quietDone = false) : Completes (.quietTimeout l) s fun t =>
      t.quad (l / 4) = .awake ∧ t.reg 0x3400 l = 6 ∧ u + 100000 ≤ t.now := by
  let v := s.reach (u + 100000)
  have hservice : v.linkState l ∈ [1, 2, 3, 4] := by
    change s.linkState l ∈ [1, 2, 3, 4]
    rw [hstate]
    decide
  have hfailed := State.failLink_failed (s := v) hs.objs hl hservice 0
  have hawake : (v.quad (l / 4)).woken v.now = .awake := by
    change (s.quad (l / 4)).woken _ = _
    rw [hquad]
    rfl
  refine ⟨(v.failLink l 0).wakeQuad (l / 4), ?_, ?_, ?_, ?_⟩
  · simp [exec, execQuietTimeout, hquad, hstate, hdone, v]
  · rw [State.wakeQuad_quad, if_pos rfl]
    exact State.failLink_quad_awake hl hservice 0 hawake
  · exact (hfailed.wakeQuad hl (by omega)).1
  · rw [State.wakeQuad_now, (State.failLink_keeps (Covers.refl _) .start).now_same rfl]
    exact Nat.le_max_right ..

theorem execLinkFail_fails {l cause : Nat} {s : State} (hs : s.StoresRise) (hl : l < 160) (hlo : 1 ≤ cause) (hhi : cause ≤ 4)
    (hstate : s.linkState l ∈ [1, 2, 3, 4]) : Completes (.linkFail l cause) s fun t => t.reg 0x3400 l = 6 ∧ t.reg 0x3407 l = cause := by
  have hcause : ¬(cause = 0 ∨ 4 < cause) := by omega
  refine ⟨s.failLink l cause, ?_, ?_⟩
  · simp only [exec, execLinkFail, if_neg hcause]
  · have hfailed := State.failLink_failed hs.objs hl hstate cause
    rwa [if_neg (Nat.one_le_iff_ne_zero.mp hlo)] at hfailed

/-- An aligned link without signal for 1 µs fails with cause 1 (R343). -/
theorem execSignalLossHoldExpiry_fails {l : Nat} {s : State} (hs : s.StoresRise) (hl : l < 160) (hstate : s.linkState l ∈ [2, 3, 4]) :
    Completes (.signalLossHoldExpiry l) s fun t => t.reg 0x3400 l = 6 ∧ t.reg 0x3407 l = 1 := by
  have haligned : s.linkState l = 2 ∨ s.linkState l = 3 ∨ s.linkState l = 4 := by simpa using hstate
  refine ⟨s.failLink l 1, ?_, State.failLink_failed hs.objs hl (List.mem_cons_of_mem 1 hstate) 1⟩
  simp only [exec, execSignalLossHoldExpiry, if_pos haligned]

/-- A FAILED link trains again 10 ms after its failure (R329). -/
theorem execLinkRetrain_trains {l : Nat} {s : State} (hs : s.StoresRise) (hl : l < 160) (hstate : s.linkState l = 6)
    (hallowed : s.linkAllowed l = true) : Completes (.linkRetrain l) s fun t =>
      t.reg 0x3400 l = 1 ∧ (s.link l).failedSince + 10000000 ≤ t.now := by
  refine ⟨(s.reach ((s.link l).failedSince + 10000000)).setReg 0x3400 l 1, ?_, State.setReg_reg _ _ _ _ hs.objs, Nat.le_max_right ..⟩
  simp [exec, execLinkRetrain, Nat.not_le.mpr hl, hstate, hallowed]

/-- A cell that goes out takes the credits that its link owes with it. -/
theorem State.sendTx_link (s : State) (l : Nat) (c : TxCell) :
    (s.sendTx l c).link l = { s.link l with owed := (s.link l).owed - Nat.min 127 (s.link l).owed } :=
  s.setLink_link l _

theorem State.sendTx_reg (s : State) (l : Nat) (c : TxCell) (i j : Nat) : (s.sendTx l c).reg i j = s.reg i j := rfl

theorem State.sendTx_out (s : State) (l : Nat) (c : TxCell) : ∃ cell, (s.sendTx l c).out = .fabric l cell :: s.out := by
  rw [State.sendTx, State.sendFab]
  exact ⟨_, rfl⟩

/-- An aligned link sends its HELLO, its first cell (R329, log entry 21). -/
theorem execFabLinkAligned_sendsHello {l : Nat} {s : State} (hs : s.StoresRise) (hl : l < 160) (hstate : s.linkState l = 1) :
    Completes (.fabLinkAligned l) s fun t =>
      t.reg 0x3400 l = 2 ∧ (t.link l).helloSent = true ∧ (t.link l).txNext = 1 ∧ ∃ cell, t.out = .fabric l cell :: s.out := by
  have haligns : ¬(160 ≤ l ∨ s.linkState l ≠ 1) := by simp [hl, hstate]
  refine ⟨_, rfl, ?_⟩
  rw [if_neg haligns]
  refine ⟨?_, ?_, ?_, State.sendTx_out ..⟩
  · simp only [State.sendTx_reg, State.setLink_fields]
    exact State.setReg_reg s.draw.2 _ _ _ hs.objs
  · rw [State.sendTx_link, State.setLink_link]
  · rw [State.sendTx_link, State.setLink_link]

/-- A link UP for its hold joins its group (R340). -/
theorem execLinkUpHoldExpiry_joins {l : Nat} {s : State} (hl : l < 160) (hstate : s.linkState l = 3) (hjoined : (s.link l).joined = false)
    (hquiet : (s.link l).quietAsked = false) (hgroup : s.linkGroup l < 8) : Completes (.linkUpHoldExpiry l) s fun t =>
      (t.link l).joined = true ∧ (s.link l).upSince + s.reg 0x8000 0x0B * 1000000 ≤ t.now := by
  let u := s.reach ((s.link l).upSince + s.reg 0x8000 0x0B * 1000000)
  refine ⟨(u.joinLink l).pumpLink l, ?_, ?_, ?_⟩
  · simp [exec, execLinkUpHoldExpiry, Nat.not_le.mpr hl, hstate, hjoined, hquiet, Nat.not_le.mpr hgroup, u]
  · rw [(CellsOnly.pumpLink ..).joined_same, State.joinLink_joined]
  · have hnow : On inS _ u ((u.joinLink l).pumpLink l) :=
      State.pumpLink_keeps (Covers.sub (Covers.refl _) rfl) (State.joinLink_keeps (Covers.refl _) .start)
    rw [hnow.now_same rfl]
    exact Nat.le_max_right ..

/-! ### Fences and groups (R341, R380) -/

/-- Fences do not start where no move waits. -/
theorem State.startFences_of_no_moves {n g : Nat} {s : State} (h : (s.fabGroup g).moves = []) : State.startFences n s g = s := by
  cases n with
  | zero => rfl
  | succ n => rw [State.startFences, h]

/-- A fence held for its time pins its bucket to its new link, and ends (R341). -/
theorem execFenceHoldExpiry_pins {g b u : Nat} {f : Fence} {s : State}
    (hf : (s.fabGroup g).fences.find? (fun f => decide (f.bucket = b)) = some f) (hacked : f.acked = some u)
    (hmoves : (s.fabGroup g).moves = []) (hb : b < (s.fabGroup g).pins.length) : Completes (.fenceHoldExpiry g b) s fun t =>
      (t.fabGroup g).pins.getD b none = some f.target ∧ (∀ x ∈ (t.fabGroup g).fences, x.bucket ≠ b) ∧ u + s.reg 0x8000 2 ≤ t.now := by
  let y : FlowGroup := { s.fabGroup g with
    pins := lset (s.fabGroup g).pins b (some f.target), fences := (s.fabGroup g).fences.filter (fun x => decide (x.bucket ≠ b)) }
  let v := (s.reach (u + s.reg 0x8000 2)).setGroup g y
  have hpinned (t : State) (hgroups : t.fab.groups = v.fab.groups) (hnow : t.now = v.now) :
      (t.fabGroup g).pins.getD b none = some f.target ∧ (∀ x ∈ (t.fabGroup g).fences, x.bucket ≠ b) ∧ u + s.reg 0x8000 2 ≤ t.now := by
    have hgroup : t.fabGroup g = y := by
      rw [State.fabGroup, hgroups]
      exact State.setGroup_fabGroup ..
    rw [hgroup, hnow]
    refine ⟨?_, ?_, Nat.le_max_right ..⟩
    · simp [y, lset, hb]
    · simp [y]
  have hstart : State.startFences 264 v g = v := State.startFences_of_no_moves (by simpa [v, y] using hmoves)
  cases hold : (s.fabGroup g).pins.getD b none with
  | none =>
    refine ⟨v, ?_, hpinned v rfl rfl⟩
    simp only [exec, execFenceHoldExpiry, hf, hacked, hold]
    exact congrArg Host.Outcome.next hstart
  | some l =>
    refine ⟨v.quietCheck (l / 4), ?_, hpinned _ (v.quietCheck_groups _) ((State.quietCheck_keeps (Covers.refl _) .start).now_same rfl)⟩
    simp only [exec, execFenceHoldExpiry, hf, hacked, hold]
    exact congrArg (fun x : State => Host.Outcome.next (x.quietCheck (l / 4))) hstart

theorem execGroupDownTimeout_fences {g u : Nat} {s : State} (hg : g < 8) (hdown : (s.fabGroup g).downSince = some u)
    (hfault : s.reg 0x9000 9 ≠ 0) (hlinks : s.usableLinks g = []) : Completes (.groupDownTimeout g) s fun t =>
      t = (s.reach (u + 10000)).fence := by
  refine ⟨_, rfl, ?_⟩
  simp [hdown, Nat.not_le.mpr hg, hfault, hlinks]

/-! ### The measurement and the quads (R85, R86) -/

/-- Quads that wake leave the time of the measurement. -/
theorem foldl_wakeQuad_measure (l : List Nat) (s : State) :
    (l.foldl State.wakeQuad s).fab.lastMeasure = s.fab.lastMeasure ∧ (l.foldl State.wakeQuad s).now = s.now :=
  List.foldlRecOn (motive := fun t : State => t.fab.lastMeasure = s.fab.lastMeasure ∧ t.now = s.now) _ _ ⟨rfl, rfl⟩ fun t ht q _ =>
    ⟨(t.wakeQuad_lastMeasure q).trans ht.1, (t.wakeQuad_now q).trans ht.2⟩

/-- The state in which a measurement begins. -/
def State.measured (s : State) : State :=
  let u := s.reach (s.fab.lastMeasure + 10000)
  { u with fab := { u.fab with sentBits := 0, lastMeasure := u.now } }

/-- Outside PROPORTIONAL a measurement wakes every quad that sleeps (R85). -/
theorem execFabricMeasure_eq {s : State} (hm : s.mode ≠ .proportional) : ∃ w, w = (List.range 40).foldl State.wakeQuad s.measured ∧
    execFabricMeasure s = .next { w with fab := { w.fab with surplusSince := none } } := by
  have hwakes : s.measured.mode ≠ .proportional ∨ s.measured.reg 0x2011 1 = 0 := .inl hm
  refine ⟨_, rfl, ?_⟩
  dsimp only [State.measured] at hwakes ⊢
  rw [execFabricMeasure, if_pos hwakes]

/-- Outside PROPORTIONAL the measurement is taken 10 µs after the last one (R85). -/
theorem execFabricMeasure_measures {s : State} (hm : s.mode ≠ .proportional) : Completes .fabricMeasure s fun t =>
    t.fab.lastMeasure = t.now ∧ t.fab.surplusSince = none ∧ s.fab.lastMeasure + 10000 ≤ t.now := by
  obtain ⟨w, hw, hexec⟩ := execFabricMeasure_eq hm
  obtain ⟨hlast, hnow⟩ := foldl_wakeQuad_measure (List.range 40) s.measured
  rw [← hw] at hlast hnow
  have hwaited : s.fab.lastMeasure + 10000 ≤ s.measured.now := Nat.le_max_right ..
  exact ⟨_, hexec, hlast.trans hnow.symm, rfl, Nat.le_trans hwaited (Nat.le_of_eq hnow.symm)⟩

/-- A quad that wakes is ready for cells, its domain ON, whether the wake was late or not (R86). -/
theorem execQuadWakeDone_awake {q elapsed u : Nat} {s : State} (hs : s.StoresRise) (hquad : s.quad q = .waking u) :
    Completes (.quadWakeDone q elapsed) s fun t => t.quad q = .awake ∧ t.reg 0x2101 (145 + q) = 2 ∧ u + elapsed ≤ t.now := by
  let v := (((s.reach (u + elapsed)).setQuad q .awake).setReg 0x2101 (145 + q) 2).bump 0x2103 (145 + q)
  have hv : v.quad q = .awake ∧ v.reg 0x2101 (145 + q) = 2 ∧ u + elapsed ≤ v.now := by
    refine ⟨?_, ?_, ?_⟩
    · exact (State.quad_congr (State.count_quadsAndMeasure ..) q).trans (State.setQuad_quad ..)
    · exact (State.count_other _ _ (by simp only [okey]; omega)).trans (State.setReg_reg _ _ _ _ hs.objs)
    · simp only [v, State.bump_count, State.count_fields, State.setReg_fields, State.setQuad_fields]
      exact Nat.le_max_right ..
  refine ⟨if 20000 < elapsed then v.wakeLate 1 q elapsed else v, ?_, ?_⟩
  · simp only [exec, execQuadWakeDone, hquad]
    rfl
  · split
    · have hlate : On inS _ v (v.wakeLate 1 q elapsed) := State.wakeLate_keeps (Covers.refl _) .start
      rw [hlate.reg_same (i := 0x2101) _ rfl, State.wakeLate_now, State.quad_congr (congrArg _ (hlate.fab_same rfl))]
      exact hv
    · exact hv

/-- Settles O20: each command by the lemma of its meaning. HELLO as the first cell (log entry 21), the gap that is skipped (log entry 26)
and the start of the quiet time-out (log entry 91) are the model's choices. -/
theorem fabricTimesComplete : Obligations.FabricTimesComplete := by
  refine ⟨?replayTimeout, ?reassemblyTimeout, ?reseqTimeout, ?grantIssue, ?requestRefresh, ?quietTimeout, ?linkFail, ?signalLossHoldExpiry,
    ?linkRetrain, ?fabLinkAligned, ?linkUpHoldExpiry, ?fenceHoldExpiry, ?fabricMeasure, ?quadWakeDone, ?groupDownTimeout⟩
  case replayTimeout => exact fun _ _ => execReplayTimeout_goesBack
  case reassemblyTimeout => exact fun _ _ _ _ _ => execReassemblyTimeout_drops
  case reseqTimeout => exact fun _ _ _ _ => execReseqTimeout_skips
  case grantIssue => exact fun _ _ => execGrantIssue_lowers
  case requestRefresh => exact fun _ _ _ => execRequestRefresh_reports
  case quietTimeout => exact fun _ _ _ => execQuietTimeout_fails
  case linkFail => exact fun _ _ _ => execLinkFail_fails
  case signalLossHoldExpiry => exact fun _ _ => execSignalLossHoldExpiry_fails
  case linkRetrain => exact fun _ _ => execLinkRetrain_trains
  case fabLinkAligned => exact fun _ _ => execFabLinkAligned_sendsHello
  case linkUpHoldExpiry => exact fun _ _ => execLinkUpHoldExpiry_joins
  case fenceHoldExpiry => exact fun _ _ _ _ _ => execFenceHoldExpiry_pins
  case fabricMeasure => exact fun _ => execFabricMeasure_measures
  case quadWakeDone => exact fun _ _ _ _ => execQuadWakeDone_awake
  case groupDownTimeout => exact fun _ _ _ => execGroupDownTimeout_fences

end Sys2Proof.Machine
end

section
/-! Resets asked for outside their modes (R95). -/

namespace Sys2Proof.Machine

/-- A write that the rule of its object refuses changes nothing but what its requester sees: it is answered with the status (R118, R152). -/
theorem State.endWrite_refuses {st : Status} (h : st ≠ .ok) (s : State) (o : Origin) (i j : Nat) (c : List Byte) :
    OnlyIn [.access] s (s.endWrite o i j c st) ∧
      ∃ rest, (s.endWrite o i j c st).acc.answers = { origin := o, ans := bareAns 0x02 st i j } :: rest := by
  let noted := if (dictRow i j).any (fun d => decide (d.access = .cmd)) then s.noteOutcome o i j st else s
  have hends : s.endWrite o i j c st = noted.answer o (bareAns 0x02 st i j) := by
    cases st with
    | ok => exact absurd rfl h
    | _ => rfl
  have hnoted : On inS (partsMask [.access]) s noted := .ite (State.noteOutcome_keeps (.of_land rfl) .start) .start
  rw [hends]
  exact ⟨(State.answer_keeps (.of_land rfl) hnoted).keeps.onlyIn, _, rfl⟩

/-- In DORMANT a RESET_REQUEST of WARM draws MODE (R95). -/
theorem execResetRequestWarm_refused {o : Origin} {s : State} (hok : s.checkWrite o 0x1010 1 [1] = .ok) (hm : s.mode = .dormant) :
    Completes (.resetRequestWarm o) s fun t =>
      OnlyIn [.access] s t ∧ ∃ rest, t.acc.answers = { origin := o, ans := bareAns 0x02 .mode 0x1010 1 } :: rest := by
  refine ⟨_, rfl, ?_⟩
  rw [State.runWrite_of_ok hok, if_pos hm]
  exact State.endWrite_refuses (st := .mode) (by decide) ..

/-- Where packets may be held a RESET_REQUEST of COLD draws MODE (R95). -/
theorem execResetRequestCold_refused {o : Origin} {s : State} (hok : s.checkWrite o 0x1010 1 [2] = .ok)
    (hm : s.mode ∉ [Mode.dormant, .bringup, .diagnostic]) : Completes (.resetRequestCold o) s fun t =>
      OnlyIn [.access] s t ∧ ∃ rest, t.acc.answers = { origin := o, ans := bareAns 0x02 .mode 0x1010 1 } :: rest := by
  have hforbidden : (decide (s.mode = .dormant) || decide (s.mode = .bringup) || decide (s.mode = .diagnostic)) = false := by
    simpa [and_assoc] using hm
  refine ⟨_, rfl, ?_⟩
  simp only [hforbidden, Bool.false_eq_true, and_false, if_false, State.runWrite_of_ok hok]
  exact State.endWrite_refuses (st := .mode) (by decide) ..

/-- Settles O46: both requests pass their checks, and the rule of RESET_REQUEST refuses them. -/
theorem resetRequestsOutsideTheirModesDrawMode : Obligations.ResetRequestsOutsideTheirModesDrawMode :=
  ⟨fun _ _ => execResetRequestWarm_refused, fun _ _ => execResetRequestCold_refused⟩

end Sys2Proof.Machine
end

section
/-! Modules in their cages: insertion and reset, polling and reading, removal, and raw access (R108, R109, R111, R112, R419). -/

namespace Sys2Proof.Machine

/-! ### Levels of the pins of a cage -/

/-- The bit of a cage among the levels of its pin. -/
theorem getLsbD_cageBit {n : Nat} (h : n < 32) : (BitVec.ofNat 32 (2 ^ n)).getLsbD n = true := by
  rw [BitVec.getLsbD_ofNat, Nat.testBit_two_pow_self, Bool.and_true, decide_eq_true h]

theorem getLsbD_raised {n : Nat} (h : n < 32) (m : BitVec 32) : (m ||| BitVec.ofNat 32 (2 ^ n)).getLsbD n = true := by
  rw [BitVec.getLsbD_or, getLsbD_cageBit h, Bool.or_true]

theorem getLsbD_lowered {n : Nat} (h : n < 32) (m : BitVec 32) : (m &&& ~~~BitVec.ofNat 32 (2 ^ n)).getLsbD n = false := by
  rw [BitVec.getLsbD_and, BitVec.getLsbD_not, getLsbD_cageBit h, Bool.not_true, Bool.and_false, Bool.and_false]

theorem State.setModReset_modResetN {n : Nat} (h : n < 32) (s : State) (v : Bool) :
    (s.setModReset n v).power.pins.modResetN.getLsbD n = v := by
  cases v
  · exact getLsbD_lowered h _
  · exact getLsbD_raised h _

theorem State.setModPin_modPrsN {n : Nat} (h : n < 32) (s : State) (v : Bool) (int : Option Bool) :
    (s.setModPin n (some v) int).power.pins.modPrsN.getLsbD n = v := by
  cases v
  · exact getLsbD_lowered h _
  · exact getLsbD_raised h _

/-! ### What leaves the cages alone -/

theorem State.cage_congr {s t : State} (h : t.power = s.power) (n : Nat) : t.cage n = s.cage n := by
  rw [State.cage, h, State.cage]

@[simp] theorem State.setModReset_cage (s : State) (k : Nat) (v : Bool) (n : Nat) : (s.setModReset k v).cage n = s.cage n := rfl

@[simp] theorem State.setLpMode_cage (s : State) (k : Nat) (v : Bool) (n : Nat) : (s.setLpMode k v).cage n = s.cage n := rfl

@[simp] theorem State.setModule_cage (s : State) (k st n : Nat) : (s.setModule k st).cage n = s.cage n := rfl

@[simp] theorem State.count_cage (s : State) (i j k n : Nat) : (s.count i j k).cage n = s.cage n := State.cage_congr (by simp) n

@[simp] theorem State.endWrite_cage (s : State) (o : Origin) (i j : Nat) (c : List Byte) (st : Status) (n : Nat) :
    (s.endWrite o i j c st).cage n = s.cage n := State.cage_congr (by simp) n

/-! ### MODULE_STATE and what stands beside it -/

/-- A sub-index of a cage's objects tells an object from MODULE_STATE. -/
theorem okey_cage_ne {n j : Nat} (h : j % 256 ≠ 1) : okey (0x1100 + n) 1 ≠ okey (0x1100 + n) j := by
  simp only [okey]
  omega

theorem State.setModule_reg {s : State} (hr : rising s.objs = true) (n st : Nat) : (s.setModule n st).reg (0x1100 + n) 1 = st :=
  State.setReg_reg _ _ _ _ hr

theorem State.setModule_other (s : State) (n st : Nat) {j : Nat} (h : j % 256 ≠ 1) :
    (s.setModule n st).reg (0x1100 + n) j = s.reg (0x1100 + n) j := State.setReg_other _ _ (okey_cage_ne h).symm

theorem State.insertModule_cage (s : State) (n : Nat) :
    (s.insertModule n).cage n = { s.cage n with step := .resetHold s.now, suspect := none, deinit := 0 } := by
  simp only [State.insertModule, State.setLpMode_cage, State.setModReset_cage, State.setCage_cage]

theorem State.endRead_reg {s : State} (hr : rising s.objs = true) (n st : Nat) : (s.endRead n st).reg (0x1100 + n) 1 = st := by
  have hset : ((s.setCage n { s.cage n with step := .none, suspect := none }).setModule n st).reg (0x1100 + n) 1 = st :=
    State.setModule_reg hr n st
  simp only [State.endRead]
  split
  · rw [State.bump_count, State.count_other _ _ (okey_cage_ne (by decide)), hset]
  · exact hset

theorem State.endRead_cage (s : State) (n st : Nat) : (s.endRead n st).cage n = { s.cage n with step := .none, suspect := none } := by
  simp only [State.endRead]
  split <;> simp

theorem State.rereadModule_reg {s : State} (hr : rising s.objs = true) (n : Nat) : (s.rereadModule n).reg (0x1100 + n) 1 = 2 :=
  State.setModule_reg hr n 2

theorem State.rereadModule_cage (s : State) (n : Nat) :
    (s.rereadModule n).cage n = { s.cage n with step := .poll s.now, suspect := none } := by
  rw [State.rereadModule, State.setModule_cage, State.setCage_cage]

theorem State.setPages_rising {s : State} (hr : rising s.objs = true) (n : Nat) (image : List Byte) :
    rising (s.setPages n image).objs = true := rising_mset (rising_mset (rising_mset hr))

/-! ### The ports of a cage go down without touching its module (R109) -/

theorem State.fitted_lt {s : State} {n : Nat} (h : s.fitted n = true) : n < 32 := by
  simp only [State.fitted, Bool.and_eq_true, decide_eq_true_eq] at h
  obtain ⟨⟨hn, -⟩, -⟩ := h
  exact hn

/-- The objects of the cages lie on a page of their own. -/
theorem On.cageReg_same {ps : Nat} {s t : State} (h : On inS ps s t) (e : ps.testBit 0x31 = false) {n : Nat} (hn : n < 32) (j : Nat) :
    t.reg (0x1100 + n) j = s.reg (0x1100 + n) j := by
  have hpage : 32 + (0x1100 + n) / 256 % 256 = 0x31 := by omega
  exact h.reg_same j (hpage ▸ e)

/-- A removal empties the cage first, and then its ports go down (R109). -/
theorem State.removeModule_empties (s : State) (n : Nat) : ∃ u : State,
    On inS 0x200000000000000000003000000000000000700000000000000304c90 u (s.removeModule n) ∧
    (rising s.objs = true → u.reg (0x1100 + n) 1 = 1) ∧ (u.cage n).step = .none ∧ (u.cage n).passBusy = false := by
  refine ⟨_, .foldl .start fun u p hu => ?portGoesDown, fun hr => State.setModule_reg hr n 1, ?_, ?_⟩
  case portGoesDown =>
    have hdown : On inS _ _ (u.portDown p 8 2) := State.portDown_keeps (.of_land rfl) hu
    exact .ite (State.setLanes_keeps (.of_land rfl) (State.setReg_keeps (.of_land rfl) (State.setPort_keeps (.of_land rfl) hdown))) hdown
  · simp
  · simp

/-! ### Insertion and reset (R108) -/

theorem execModuleInsertion_inserts {n : Nat} {s : State} (hs : s.StoresRise) (hfit : s.fitted n = true)
    (hout : s.power.pins.modPrsN.getLsbD n = true) : Completes (.moduleInsertion n) s fun t =>
      t.reg (0x1100 + n) 1 = 2 ∧ (t.cage n).step = .resetHold s.now ∧ t.power.pins.modPrsN.getLsbD n = false ∧
        t.reg (0x1100 + n) 0x0D = (s.reg (0x1100 + n) 0x0D + 1) % counterSpan (0x1100 + n) 0x0D := by
  let u := s.setModPin n (some false) none
  have hcounted : rising (u.count (0x1100 + n) 0x0D 1).objs = true := State.count_rising u _ _ _ hs.objs
  refine ⟨u.insertModule n, ?_, State.setModule_reg hcounted n 2, ?_, ?_, ?_⟩
  · change execModuleInsertion n s = _
    rw [execModuleInsertion, if_pos ⟨hfit, hout⟩]
  · rw [State.insertModule_cage]
    rfl
  · have hpower : (u.count (0x1100 + n) 0x0D 1).power = u.power := by simp
    change (u.count (0x1100 + n) 0x0D 1).power.pins.modPrsN.getLsbD n = false
    rw [hpower]
    exact State.setModPin_modPrsN (State.fitted_lt hfit) s false none
  · exact (State.setModule_other _ _ _ (by decide)).trans (State.count_reg u _ _ _ hs.objs)

/-- The reset of a module ends 25 ms after it began, and polling begins (R108). -/
theorem execModuleResetRelease_polls {n u : Nat} {s : State} (hfit : s.fitted n = true) (hhold : (s.cage n).step = .resetHold u) :
    Completes (.moduleResetRelease n) s fun t =>
      (t.cage n).step = .poll t.now ∧ u + 25000000 ≤ t.now ∧ t.power.pins.modResetN.getLsbD n = true := by
  refine ⟨_, rfl, ?_⟩
  simp only [hhold, hfit, Bool.not_true, Bool.false_eq_true, if_false]
  refine ⟨?_, Nat.le_max_right .., State.setModReset_modResetN (State.fitted_lt hfit) _ true⟩
  rw [State.setModReset_cage, State.setCage_cage]
  rfl

/-! ### Polling and reading (R108, R109, R111) -/

/-- The pages that a poll takes of a module: a flat memory has no page 01h (log entry 20). -/
def pagesTaken (image : List Byte) : List Byte :=
  if bitAt (byteAt image 2) 7 then slice image 0 256 ++ List.replicate 128 0 else image

theorem pagesTaken_state {image : List Byte} (h : image.length = 384) : byteAt (pagesTaken image) 3 = byteAt image 3 := by
  rw [pagesTaken]
  split
  · simp [byteAt, slice, h, List.getD_eq_getElem?_getD]
  · rfl

/-- The read of a module that shows a fault ends in state 7, and then its ports see the fault (R109, R424). -/
theorem execModuleStatePoll_endsRead {n u : Nat} {image : List Byte} {s : State} (hfit : s.fitted n = true)
    (hpoll : (s.cage n).step = .poll u) (hfree : (s.cage n).passBusy = false) (hlen : image.length = 384)
    (hfault : fld (byteAt image 3) 3 1 = 5) : ∃ t, exec (.moduleStatePoll n true image) s = .next t ∧
      On inS 0x200000000000000000003000000000000000100000000000000304c90 ((s.setPages n (pagesTaken image)).endRead n 7) t := by
  have hstate : fld (byteAt (pagesTaken image) 3) 3 1 = 5 := pagesTaken_state hlen ▸ hfault
  let v := (s.setPages n (pagesTaken image)).endRead n 7
  refine ⟨(v.cagePorts n).foldl (fun s p => s.causeOnset p 9) v, ?_, .foldl .start fun _ _ => State.causeOnset_keeps (.of_land rfl)⟩
  rw [pagesTaken] at hstate
  simp only [exec, execModuleStatePoll, hpoll, hfit, hfree, slice_self hlen, Bool.not_true, Bool.false_eq_true, or_self, if_false, hstate,
    pagesTaken, v]

theorem execModuleStatePoll_fault {n u : Nat} {image : List Byte} {s : State} (hs : s.StoresRise) (hfit : s.fitted n = true)
    (hpoll : (s.cage n).step = .poll u) (hfree : (s.cage n).passBusy = false) (hlen : image.length = 384)
    (hfault : fld (byteAt image 3) 3 1 = 5) : Completes (.moduleStatePoll n true image) s fun t => t.reg (0x1100 + n) 1 = 7 := by
  obtain ⟨t, hexec, hports⟩ := execModuleStatePoll_endsRead hfit hpoll hfree hlen hfault
  have hended := State.endRead_reg (State.setPages_rising hs.objs n (pagesTaken image)) n 7
  exact ⟨t, hexec, (hports.cageReg_same rfl (State.fitted_lt hfit) 1).trans hended⟩

/-- The pages of a module that is ready, or in low power, are judged (R108). -/
theorem execModuleStatePoll_judges {n u : Nat} {image : List Byte} {s : State} (hfit : s.fitted n = true)
    (hpoll : (s.cage n).step = .poll u) (hfree : (s.cage n).passBusy = false) (hlen : image.length = 384)
    (hpaged : bitAt (byteAt image 2) 7 = false) (hshown : fld (byteAt image 3) 3 1 ∈ [1, 3]) :
    Completes (.moduleStatePoll n true image) s fun t => t = s.judgeModule n image := by
  refine ⟨_, rfl, ?_⟩
  simp only [List.mem_cons, List.not_mem_nil, or_false] at hshown
  simp only [hpoll, hfit, hfree, slice_self hlen, hpaged, Bool.not_true, Bool.false_eq_true, or_self, if_false]
  rcases hshown with h | h <;> simp only [h]

theorem execModuleReadTimeout_fails {n u : Nat} {s : State} (hs : s.StoresRise) (hfit : s.fitted n = true)
    (hpoll : (s.cage n).step = .poll u) :
    Completes (.moduleReadTimeout n) s fun t => t.reg (0x1100 + n) 1 = 4 ∧ (t.cage n).step = .none := by
  refine ⟨_, rfl, ?_⟩
  simp only [hpoll, hfit, if_true]
  exact ⟨State.endRead_reg hs.objs n 4, by rw [State.endRead_cage]⟩

/-! ### Removal, and reading again (R109, R111, R419) -/

theorem execModuleRemoval_empties {n : Nat} {s : State} (hs : s.StoresRise) (hfit : s.fitted n = true)
    (hin : s.power.pins.modPrsN.getLsbD n = false) : Completes (.moduleRemoval n) s fun t =>
      t.reg (0x1100 + n) 1 = 1 ∧ (t.cage n).step = .none ∧ (t.cage n).passBusy = false := by
  have hn := State.fitted_lt hfit
  obtain ⟨u, hports, hstate, hstep, hfree⟩ := (s.setModPin n (some true) none).removeModule_empties n
  refine ⟨(s.setModPin n (some true) none).removeModule n, ?_, ?_, ?_, ?_⟩
  · change execModuleRemoval n s = _
    simp only [execModuleRemoval, if_pos hn, hfit, hin, Bool.not_false, and_self, if_true]
  · rw [hports.cageReg_same rfl hn, hstate hs.objs]
  · rw [State.cage_congr (hports.power_same rfl), hstep]
  · rw [State.cage_congr (hports.power_same rfl), hfree]

/-- A module in a failed state that asserts MOD_INT_N is read again (R109). -/
theorem execModIntNAssert_readsAgain {n : Nat} {s : State} (hs : s.StoresRise) (hfit : s.fitted n = true)
    (hfailed : 4 ≤ s.moduleState n) : Completes (.modIntNAssert n) s fun t =>
      t.reg (0x1100 + n) 1 = 2 ∧ (t.cage n).step = .poll s.now := by
  refine ⟨(s.setModPin n none (some false)).rereadModule n, ?_, State.rereadModule_reg hs.objs n, ?_⟩
  · simp [exec, execModIntNAssert, State.fitted_lt hfit, hfit, hfailed]
  · rw [State.rereadModule_cage]
    rfl

/-- One byte has one order (R3, R116). -/
theorem canonical_singleton (be : Bool) (ty : ObjType) (b : Byte) : canonical be ty [b] = [b] := by
  cases ty <;> cases be <;> rfl

/-- The write of 1 begins the reading again in a state that differs from the present one in its ports only (R111). -/
theorem rereadEffect_readsAgain {n : Nat} {s : State} (hfit : s.fitted n = true) (hpresent : 2 ≤ s.moduleState n) :
    ∃ u : State, On inS 0x800 s u ∧ rereadEffect n [1] s = (.ok, u.rereadModule n) := by
  have hserved : ¬(beNat [(1 : Byte)] ≠ 1 ∨ (!s.fitted n) = true ∨ s.moduleState n ≤ 1) := by
    rintro (hvalue | hunfitted | habsent)
    · exact hvalue rfl
    · rw [hfit] at hunfitted
      exact absurd hunfitted (by decide)
    · exact absurd hpresent (Nat.not_le_of_lt (Nat.lt_succ_of_le habsent))
  refine ⟨_, ?_, if_neg hserved⟩
  exact .foldl .start fun _ _ h => .ite (State.setPort_keeps (.of_land rfl) h) h

theorem execReread_readsAgain {o : Origin} {n : Nat} {s : State} (hs : s.StoresRise) (hok : s.checkWrite o (0x1100 + n) 0x11 [1] = .ok)
    (hfit : s.fitted n = true) (hpresent : 2 ≤ s.moduleState n) : Completes (.reread o n [1]) s fun t =>
      t.reg (0x1100 + n) 1 = 2 ∧ (t.cage n).step = .poll s.now := by
  obtain ⟨u, hports, heffect⟩ := rereadEffect_readsAgain hfit hpresent
  refine ⟨(u.rereadModule n).endWrite o (0x1100 + n) 0x11 [1] .ok, ?_, ?_, ?_⟩
  · change execReread o n [1] s = _
    rw [execReread, State.runWrite_of_ok hok, canonical_singleton, heffect]
  · simp only [State.endWrite_same, State.rereadModule_reg (hports.objs_rise hs.objs)]
  · rw [State.endWrite_cage, State.rereadModule_cage, hports.now_same rfl]

/-! ### Raw access (R112) -/

/-- A read that its checks accept begins, and waits for its end (R112). -/
theorem passEffect_begins {n : Nat} {v : List Byte} {s : State} (hlen : v.length = 5) (hread : byteAt v 0 = 0) (hlo : 1 ≤ byteAt v 4)
    (hhi : byteAt v 4 ≤ 128) (hend : byteAt v 3 + byteAt v 4 ≤ 256) (hfree : (s.cage n).passBusy = false) :
    passEffect n v s = (.ok, s.setCage n { s.cage n with passBusy := true, passStatus := 1, passLen := byteAt v 4 }) := by
  have hgood : ¬(v.length < 5 ∨ 1 < byteAt v 0 ∨ byteAt v 4 = 0 ∨ 128 < byteAt v 4 ∨ 256 < byteAt v 3 + byteAt v 4 ∨
      v.length ≠ 5 + if byteAt v 0 = 1 then byteAt v 4 else 0) := by
    rw [hread, if_neg Nat.zero_ne_one]
    omega
  simp only [passEffect]
  rw [if_neg hgood, hfree, hread]
  rfl

theorem execCmisPassthrough_begins {o : Origin} {n : Nat} {v : List Byte} {s : State}
    (hok : s.checkTargetFor true (s.roleOf o) (0x1100 + n) 0x10 v.length = .ok) (hlen : v.length = 5) (hread : byteAt v 0 = 0)
    (hlo : 1 ≤ byteAt v 4) (hhi : byteAt v 4 ≤ 128) (hend : byteAt v 3 + byteAt v 4 ≤ 256) (hfree : (s.cage n).passBusy = false) :
    Completes (.cmisPassthrough o n v) s fun t =>
      (t.cage n).passBusy = true ∧ (t.cage n).passStatus = 1 ∧ (t.cage n).passLen = byteAt v 4 := by
  refine ⟨_, rfl, ?_⟩
  simp only [State.runBlob, hok, passEffect_begins hlen hread hlo hhi hend hfree, State.endWrite_cage, State.setCage_cage, and_self]

theorem execCmisPassthroughDone_ends {n : Nat} {data : List Byte} {s : State} (hbusy : (s.cage n).passBusy = true)
    (hread : (s.cage n).passLen ≠ 0) : Completes (.cmisPassthroughDone n true data) s fun t =>
      (t.cage n).passBusy = false ∧ (t.cage n).passStatus = 0 ∧ (t.cage n).passData = slice data 0 (s.cage n).passLen := by
  refine ⟨_, rfl, ?_⟩
  simp [hbusy, hread]

/-- Settles O8: each command by the lemma of its meaning. The place of the module's state and of the flat bit in its pages is the model's
choice (log entry 20). -/
theorem moduleCommandsComplete : Obligations.ModuleCommandsComplete := by
  refine ⟨?moduleInsertion, ?moduleResetRelease, ?fault, ?judges, ?moduleReadTimeout, ?moduleRemoval, ?modIntNAssert, ?reread,
    ?cmisPassthrough, ?cmisPassthroughDone⟩
  case moduleInsertion => exact fun _ _ => execModuleInsertion_inserts
  case moduleResetRelease => exact fun _ _ _ => execModuleResetRelease_polls
  case fault => exact fun _ _ _ _ => execModuleStatePoll_fault
  case judges => exact fun _ _ _ _ => execModuleStatePoll_judges
  case moduleReadTimeout => exact fun _ _ _ => execModuleReadTimeout_fails
  case moduleRemoval => exact fun _ _ => execModuleRemoval_empties
  case modIntNAssert => exact fun _ _ => execModIntNAssert_readsAgain
  case reread => exact fun _ _ _ => execReread_readsAgain
  case cmisPassthrough => exact fun _ _ _ _ => execCmisPassthrough_begins
  case cmisPassthroughDone => exact fun _ _ _ => execCmisPassthroughDone_ends

end Sys2Proof.Machine
end

section
/-! The codes of PUNT and PUNT_COPY steps (R184). -/

namespace Sys2Proof.Machine

/-- The entries of both programs have one rule, which takes the entry's place in its program (R161). -/
theorem versionedStatus_step {i : Nat} (hi : 0x4100 ≤ i ∧ i ≤ 0x4103 ∨ 0x4108 ≤ i ∧ i ≤ 0x410B) (s : State) (j : Nat) (c : List Byte) :
    ∃ self, s.versionedStatus i j c = if stepWriteOk self c then .ok else .range := by
  have hother : i ≠ 0x5C10 ∧ i ≠ 0x6010 ∧ i ≠ 0x4010 ∧ i ≠ 0x4012 ∧ ¬(0x4020 ≤ i ∧ i ≤ 0x4022) ∧ i ≠ 0x4030 := by omega
  rcases hi with hingress | hegress
  · exact ⟨256 * (i - 0x4100) + j, by simp [State.versionedStatus, State.versionedOk, hother, hingress]⟩
  · have hnotIngress : ¬(0x4100 ≤ i ∧ i ≤ 0x4103) := by omega
    exact ⟨256 * (i - 0x4108) + j, by simp [State.versionedStatus, State.versionedOk, hother, hnotIngress, hegress]⟩

/-- A PUNT or PUNT_COPY entry that passes the checks names a code that a step may name (R184). -/
theorem code_of_stepWriteOk {self : Nat} {c : List Byte} (hok : stepWriteOk self c = true) (hkind : (decodeStep c).kind ∈ [0x0F, 0x11]) :
    1 ≤ fld (decodeStep c).operand 7 0 ∧ fld (decodeStep c).operand 7 0 ≤ 0x0F ∨
      0x40 ≤ fld (decodeStep c).operand 7 0 ∧ fld (decodeStep c).operand 7 0 ≤ 0x7F := by
  simp only [stepWriteOk, Bool.and_eq_true] at hok
  obtain ⟨⟨⟨-, hcode⟩, -⟩, -⟩ := hok
  simp only [List.mem_cons, List.not_mem_nil, or_false] at hkind
  rcases hkind with hpunt | hcopy
  · simpa [hpunt] using hcode
  · simpa [hcopy] using hcode

/-- The bytes of the entry whose fields are zero but for its kind and its code, and whose default next is the end (R158). -/
def bareStep (kind code : Nat) : List Byte := natBe (kind * 2 ^ 250 + code * 2 ^ 184 + stepEnd * 2 ^ 70) 32

theorem beNat_bareStep {kind code : Nat} (hkind : kind < 64) (hcode : code < 256) :
    beNat (bareStep kind code) = kind * 2 ^ 250 + code * 2 ^ 184 + stepEnd * 2 ^ 70 := by
  rw [bareStep, beNat_natBe, stepEnd]
  omega

theorem decodeStep_bareStep {kind code : Nat} (hkind : kind < 64) (hcode : code < 256) :
    decodeStep (bareStep kind code) =
      { kind := kind, profile := 0, target := 0, resOff := 0, resBytes := 0, operand := code,
        branches := List.replicate 4 { mask := 0, value := 0, next := 0 }, dfltNext := stepEnd, imm := 0 } := by
  simp only [decodeStep, decodeBranch, beNat_bareStep hkind hcode, stepEnd, fld, Nat.shiftRight_eq_div_pow, StepEntry.mk.injEq,
    List.replicate, List.cons.injEq, Branch.mk.injEq, and_true]
  and_intros <;> omega

/-- The bits of an entry that no field holds are zero in the bare entry (R158). -/
theorem fld_bareStep_unused {kind code : Nat} (hkind : kind < 64) (hcode : code < 256) :
    fld (beNat (bareStep kind code)) 249 248 = 0 ∧ fld (beNat (bareStep kind code)) 69 64 = 0 := by
  simp only [beNat_bareStep hkind hcode, stepEnd, fld, Nat.shiftRight_eq_div_pow]
  omega

/-- Of the checks of a bare PUNT or PUNT_COPY entry only the one of its code can fail, in every step (R184). -/
theorem stepWriteOk_bareStep {self kind code : Nat} (hkind : kind ∈ [0x0F, 0x11]) (hcode : code < 256) :
    stepWriteOk self (bareStep kind code) = true ↔ 1 ≤ code ∧ code ≤ 0x0F ∨ 0x40 ≤ code ∧ code ≤ 0x7F := by
  have hlen : (bareStep kind code).length = 32 := natBe_length ..
  have hbyte : fld code 7 0 = code := Nat.mod_eq_of_lt hcode
  simp only [List.mem_cons, List.not_mem_nil, or_false] at hkind
  obtain ⟨hreserved, hspare⟩ := fld_bareStep_unused (show kind < 64 by omega) hcode
  rw [stepWriteOk, decodeStep_bareStep (by omega) hcode]
  rcases hkind with rfl | rfl <;>
    simp [hlen, hbyte, hreserved, hspare, StepEntry.readsOk, StepEntry.writesRecord, StepEntry.terminal, Branch.bad]

/-- Settles O47: the code is one of the checks of a step entry, and the only one that a bare entry can fail. -/
theorem puntCodesAreRefused : Obligations.PuntCodesAreRefused := by
  refine ⟨fun s i j c hi hkind hlow hhigh => ?_, fun s i j kind code hi hkind hcode => ?_⟩
  · obtain ⟨self, hstatus⟩ := versionedStatus_step hi s j c
    rw [hstatus, if_neg fun hok => (code_of_stepWriteOk hok hkind).elim hlow hhigh]
  · obtain ⟨self, hstatus⟩ := versionedStatus_step hi s j (bareStep kind code)
    change s.versionedStatus i j (bareStep kind code) = .ok ↔ _
    rw [hstatus, ite_eq_left_iff, ← stepWriteOk_bareStep (self := self) hkind hcode]
    simp

end Sys2Proof.Machine
end

section
/-! Queries: a query fills its requester's result object with the answer of its rule (R239). -/

namespace Sys2Proof.Machine

/-! ### Result objects (R239) -/

/-- A result object holds what was last put there for its requester. -/
theorem State.setResult_resultOf (s : State) (o : Origin) (i j : Nat) (bs : List Byte) : (s.setResult o i j bs).resultOf o i j = bs := by
  simp [State.setResult, State.resultOf]

/-- The result objects are read from the results that the access part holds. -/
theorem State.resultOf_congr {s t : State} (h : t.acc.results = s.acc.results) (o : Origin) (i j : Nat) :
    t.resultOf o i j = s.resultOf o i j := by
  simp only [State.resultOf, h]

/-! ### The end of a write leaves the results alone -/

theorem State.announce_results (s : State) (i j : Nat) (c : List Byte) : (s.announce i j c).1.acc.results = s.acc.results := by
  have hkeeps : On inS 0x20200 s (s.announce i j c).1 := On.fst (State.announce_keeps (Covers.refl _) .start)
  rw [hkeeps.acc_same rfl]

theorem State.noteChanges_results (s : State) (ts : List Target) : (ts.foldl State.noteChange s).acc.results = s.acc.results := by
  have hkeeps : On inS 0x8 s (ts.foldl State.noteChange s) := .foldl .start fun _ _ h => State.noteChange_keeps (Covers.refl _) h
  rw [hkeeps.acc_same rfl]

/-- An answer, given now or held, is no result. -/
theorem State.answerHeld_results (s : State) (o : Origin) (a : OpAns) (flash : Bool) (ticket : Option Nat) :
    (s.answerHeld o a flash ticket).acc.results = s.acc.results := by
  by_cases h : flash = true ∨ ticket.isSome = true
  · simp only [State.answerHeld, if_pos h, State.holdAnswer, State.directJob]
  · simp only [State.answerHeld, if_neg h, State.answer]

theorem State.waitOrAnswer_results (s : State) (o : Origin) (i j : Nat) (c : List Byte) :
    (s.waitOrAnswer o i j c).acc.results = s.acc.results := by
  rw [State.waitOrAnswer, State.answerHeld_results, State.announce_results, State.noteChanges_results]

theorem State.endWrite_results (s : State) (o : Origin) (i j : Nat) (c : List Byte) (st : Status) :
    (s.endWrite o i j c st).acc.results = s.acc.results := by
  let noted := if (dictRow i j).any (fun d => decide (d.access = .cmd)) then s.noteOutcome o i j st else s
  have hnoted : noted.acc.results = s.acc.results := by
    dsimp only [noted]
    split <;> rfl
  rw [← hnoted]
  cases st with
  | ok => exact noted.waitOrAnswer_results o i j c
  | _ => rfl

/-! ### Queries -/

/-- The value of a string of bytes is the same on every path (R116). -/
theorem canonical_octets {i j : Nat} (h : typeOf i j = .octets) (be : Bool) (v : List Byte) : canonical be (typeOf i j) v = v := by
  rw [h, canonical]

/-- An answer in range goes to the requester's result object, whatever its STATUS. -/
theorem State.answerInto_resultOf {o : Origin} {i j : Nat} {r : Status × List Byte × State} (h : r.1 = .ok) :
    (State.answerInto o i j r).2.resultOf o i j = r.2.1 := by
  simp only [State.answerInto, h, State.setResult_resultOf]

/-- A command that is a query, by a write of a string of bytes, fills its requester's result object. -/
theorem fills_of_query {c : Instr} {o : Origin} {i j rj : Nat} {v : List Byte} {f : List Byte → State → Status × List Byte × State}
    (he : ∀ s, exec c s = .next (s.runQuery o i j i rj v f)) (hty : typeOf i j = .octets) : Fills c o i j rj v f := by
  refine fun s hok hanswer => ⟨_, he s, ?_⟩
  rw [State.runQuery, State.runWrite_of_ok hok, canonical_octets hty]
  exact (State.resultOf_congr (State.endWrite_results ..) o i rj).trans (State.answerInto_resultOf hanswer)

/-- Settles O13: each command is the query of its object, all of which are strings of bytes. A handle that fails its checks is answered
in STATUS of the result (log entry 13), and what the answers hold is their rules' own (log entries 41 and 42 among them). -/
theorem queriesFillTheirResults : Obligations.QueriesFillTheirResults := by
  and_intros <;> intros <;> exact fills_of_query (fun _ => rfl) (by decide +kernel)

end Sys2Proof.Machine
end

section
/-! The upkeep of tables: the learn service, age sweeps, iterations, and the scans of a flush (R234, R237, R240, R243, R244). -/

namespace Sys2Proof.Machine

/-- A commit that waits, where there is one, leaves the tables to its turn. -/
theorem State.enqueueCommit_ite_tables (p : Prop) [Decidable p] (s : State) (c : Committer) :
    (if p then s else s.enqueueCommit c).tables = s.tables := by
  split <;> rfl

/-! ### Learning and ageing (R234, R237) -/

/-- An ageing removal that waits makes the commit of the learn service one of at least one operation (R234). -/
theorem execLearnServiceCommit_commits {s : State} (hserved : s.learnServed = true) (haged : s.tables.agedOut ≠ []) :
    Completes .learnServiceCommit s fun t =>
      t.tables.agedOut = [] ∧ ∃ ops, ops ≠ [] ∧ t.epochs.queue = s.epochs.queue ++ [.internal ops] := by
  refine ⟨_, rfl, ?_⟩
  simp only [hserved, Bool.not_true, Bool.false_eq_true, if_false, List.isEmpty_iff, List.map_eq_nil_iff, haged, and_false]
  exact ⟨rfl, _, by simp [haged], rfl⟩

/-- An age sweep visits each entry, and makes each dynamic one that is too old a candidate, unless it is one already (R237). -/
theorem execAgeSweep_sweeps {ri : Nat} {r : Region} {s : State} (hr : mget s.tables.regions ri = some r) (hage : r.ageMode ≠ 0)
    (hserved : s.learnServed = true) : Completes (.ageSweep ri) s fun t => t.tables.em = mmap s.tables.em (fun _ x => x.visit r ri) ∧
      ∀ e ∈ s.tables.visibleEntries ri s.epochs.current, e.2.static = false → s.tooOld r ri e.2 = true →
        (ri, e.2.key, 0) ∈ t.tables.agedOut := by
  refine ⟨_, rfl, ?_⟩
  simp only [hr, hage, hserved, Bool.not_true, Bool.false_eq_true, or_self, if_false, true_and]
  intro e he hdynamic hold
  by_cases hwaits : (ri, e.2.key, 0) ∈ s.tables.agedOut
  · exact List.mem_append_left _ hwaits
  · refine List.mem_append_right _ (List.mem_filter.mpr ⟨List.mem_filterMap.mpr ⟨e, he, ?_⟩, ?_⟩)
    · simp [hdynamic, hold]
    · simpa using hwaits

/-! ### Iterations (R240) -/

theorem execIterTimeout_closes {k : Nat} {x : Iteration} {s : State} (hx : mget s.tables.iters k = some x) (hopen : x.isOpen = true) :
    Completes (.iterTimeout k) s fun t =>
      mget t.tables.iters k = some { x with isOpen := false, pending := [], skip := [] } ∧ x.last + 60000000000 ≤ t.now := by
  refine ⟨(s.reach (x.last + 60000000000)).setIter k { x with isOpen := false, pending := [], skip := [] }, ?_, mget_mput_same,
    Nat.le_max_right ..⟩
  change execIterTimeout k s = _
  simp only [execIterTimeout, hx, hopen, if_true, State.closeIter, State.reach_fields]

/-! ### Flush scans (R243, R244) -/

/-- A port that joins the scan of a region is one of the ports that it scans for. -/
theorem State.joinFlush_joins (s : State) (ri port : Nat) (static : Bool) :
    ∃ f j, mget (s.joinFlush ri port static).tables.flush ri = some f ∧ j ∈ f.ports ∧ j.port = port :=
  ⟨_, _, mget_mput_same, List.mem_append_right _ (List.mem_singleton_self _), rfl⟩

/-- A request for one port of a region that names its ports is a joining of that port (R243). -/
theorem flushEffect_joins {v : List Byte} {ri : Nat} {r : Region} {s : State} (hlen : v.length = 8) (hri : handleIndex (beAt v 0 4) = ri)
    (hhandle : s.checkHandle 7 (beAt v 0 4) = .ok) (hr : mget s.tables.regions ri = some r) (hports : r.portByte.isSome = true)
    (hone : bitAt (byteAt v 4) 7 = false) (hflags : byteAt v 5 ≤ 1) (hzero : beAt v 6 2 = 0) :
    flushEffect v s = (.ok, s.joinFlush ri (byteAt v 4) (decide (byteAt v 5 = 1))) := by
  subst hri
  have hgood : ¬(r.portByte.isNone = true ∨ 1 < byteAt v 5 ∨ beAt v 6 2 ≠ 0) := by
    rintro (hnone | hbits | hrest)
    · rw [Option.isNone_iff_eq_none.mp hnone] at hports
      exact absurd hports (by decide)
    · exact absurd hflags (Nat.not_le_of_lt hbits)
    · exact hrest hzero
  simp only [flushEffect, hlen, ne_eq, not_true_eq_false, if_false, hhandle, hr, if_neg hgood, hone, Bool.false_eq_true, List.foldl_cons,
    List.foldl_nil]

theorem execFlushRequest_joins {o : Origin} {v : List Byte} {ri : Nat} {r : Region} {s : State} (hok : s.checkWrite o 0x5890 1 v = .ok)
    (hlen : v.length = 8) (hri : handleIndex (beAt v 0 4) = ri) (hhandle : s.checkHandle 7 (beAt v 0 4) = .ok)
    (hr : mget s.tables.regions ri = some r) (hports : r.portByte.isSome = true) (hone : bitAt (byteAt v 4) 7 = false)
    (hflags : byteAt v 5 ≤ 1) (hzero : beAt v 6 2 = 0) : Completes (.flushRequest o v) s fun t =>
      ∃ f j, mget t.tables.flush ri = some f ∧ j ∈ f.ports ∧ j.port = byteAt v 4 := by
  refine ⟨(s.joinFlush ri (byteAt v 4) (decide (byteAt v 5 = 1))).endWrite o 0x5890 1 v .ok, ?_, ?_⟩
  · change execFlushRequest o v s = _
    rw [execFlushRequest, State.runWrite_of_ok hok, canonical_octets (by decide +kernel),
      flushEffect_joins hlen hri hhandle hr hports hone hflags hzero]
  · simp only [State.endWrite_same]
    exact s.joinFlush_joins ..

/-- The end of its scan takes a port out of the scan, which goes on for the others (R244). -/
theorem execFlushScanDone_leaves {ri port pb : Nat} {r : Region} {f : FlushScan} {s : State} (hr : mget s.tables.regions ri = some r)
    (hf : mget s.tables.flush ri = some f) (hin : (f.ports.any fun j => decide (j.port = port)) = true) (hpb : r.portByte = some pb)
    (hstandby : s.standby = false) (hcatchup : s.mode ≠ .catchup) (hothers : (f.ports.any fun j => decide (j.port ≠ port)) = true) :
    Completes (.flushScanDone ri port) s fun t =>
      mget t.tables.flush ri = some { f with ports := f.ports.filter fun q => decide (q.port ≠ port) } := by
  obtain ⟨j, hj⟩ : ∃ j, f.ports.find? (fun j => decide (j.port = port)) = some j :=
    Option.isSome_iff_exists.mp (List.find?_isSome.mpr (List.any_eq_true.mp hin))
  have hleft : (f.ports.filter fun q => decide (q.port ≠ port)).isEmpty = false := by
    obtain ⟨q, hq, hother⟩ := List.any_eq_true.mp hothers
    rw [List.isEmpty_eq_false_iff_exists_mem]
    exact ⟨q, List.mem_filter.mpr ⟨hq, hother⟩⟩
  refine ⟨_, rfl, ?_⟩
  simp only [hr, hf, hj, hpb, hstandby, hcatchup, Bool.false_eq_true, or_self, if_false, hleft, State.enqueueCommit_ite_tables]
  exact mget_mput_same

/-- Settles O14: each command by the lemma of its meaning. -/
theorem tableUpkeepCommandsComplete : Obligations.TableUpkeepCommandsComplete := by
  refine ⟨?learnServiceCommit, ?ageSweep, ?iterTimeout, ?flushRequest, ?flushScanDone⟩
  case learnServiceCommit => exact fun _ => execLearnServiceCommit_commits
  case ageSweep => exact fun _ _ _ => execAgeSweep_sweeps
  case iterTimeout => exact fun _ _ _ => execIterTimeout_closes
  case flushRequest => exact fun _ _ _ _ _ => execFlushRequest_joins
  case flushScanDone => exact fun _ _ _ _ _ _ => execFlushScanDone_leaves

end Sys2Proof.Machine
end

section
/-! Bits of byte strings, counted from the most significant bit of the first byte (R165, R191). -/

namespace Sys2Proof

/-- Bit p of a byte string, counted from the most significant bit of the first byte; past the end every bit is zero. -/
def topBit (bs : List Byte) (p : Nat) : Bool := (byteAt bs (p / 8)).testBit (7 - p % 8)

theorem lt_of_topBit {bs : List Byte} {p : Nat} (h : topBit bs p = true) : p < 8 * bs.length := by
  refine Nat.lt_of_not_le fun hpast => ?_
  have hzero : byteAt bs (p / 8) = 0 := by
    rw [byteAt, List.getD_eq_getElem?_getD, List.getElem?_eq_none (by omega)]
    rfl
  simp [topBit, hzero] at h

theorem byteAt_slice {bs : List Byte} {off len k : Nat} (h : k < len) : byteAt (slice bs off len) k = byteAt bs (off + k) := by
  simp only [byteAt, slice, List.getD_eq_getElem?_getD, List.getElem?_append, List.length_take, List.length_drop]
  split
  · rw [List.getElem?_take_of_lt h, List.getElem?_drop]
  · rw [List.getElem?_eq_none (show bs.length ≤ off + k by omega), List.getElem?_replicate]
    split <;> rfl

theorem slice_length (bs : List Byte) (off len : Nat) : (slice bs off len).length = len := by
  simp only [slice, List.length_append, List.length_replicate, List.length_take]
  omega

theorem topBit_slice {bs : List Byte} {off len p : Nat} (h : p < 8 * len) : topBit (slice bs off len) p = topBit bs (8 * off + p) := by
  rw [topBit, topBit, byteAt_slice (by omega), Nat.mul_add_div (by decide), Nat.mul_add_mod]

/-- What stands between two parts of a byte string is the slice from its place on. -/
theorem slice_between {a b c : List Byte} {off len : Nat} (ha : a.length = off) (hb : b.length = len) :
    slice (a ++ (b ++ c)) off len = b := by
  subst ha hb
  simp [slice]

theorem slice_end {a b : List Byte} {off len : Nat} (ha : a.length = off) (hb : b.length = len) : slice (a ++ b) off len = b := by
  simpa using slice_between (c := []) ha hb

/-- Reading on from what was read before: every byte moves it up by eight bits. -/
theorem foldl_beNat (bs : List Byte) (a : Nat) :
    bs.foldl (fun acc b => acc * 256 + b.toNat) a = 2 ^ (8 * bs.length) * a + beNat bs := by
  induction bs generalizing a with
  | nil => simp [beNat]
  | cons b bs ih =>
    have hup : 2 ^ (8 * (bs.length + 1)) = 2 ^ (8 * bs.length) * 256 := Nat.pow_add 2 (8 * bs.length) 8
    rw [beNat, List.foldl_cons, List.foldl_cons, ih, ih, List.length_cons, hup, Nat.zero_mul, Nat.zero_add, Nat.mul_add]
    ac_rfl

theorem beNat_cons (b : Byte) (bs : List Byte) : beNat (b :: bs) = 2 ^ (8 * bs.length) * b.toNat + beNat bs := by
  rw [beNat, List.foldl_cons, foldl_beNat, Nat.zero_mul, Nat.zero_add]

theorem beNat_lt (bs : List Byte) : beNat bs < 2 ^ (8 * bs.length) := by
  induction bs with
  | nil => exact Nat.one_pos
  | cons b bs ih =>
    rw [beNat_cons, List.length_cons, Nat.mul_succ, Nat.pow_add]
    calc 2 ^ (8 * bs.length) * b.toNat + beNat bs
      _ < 2 ^ (8 * bs.length) * (b.toNat + 1) := Nat.add_lt_add_left ih _
      _ ≤ 2 ^ (8 * bs.length) * 2 ^ 8 := Nat.mul_le_mul_left _ b.isLt

/-- The number that a byte string spells has the string's bits, the first one highest (R3). -/
theorem beNat_testBit {bs : List Byte} {p : Nat} (h : p < 8 * bs.length) : (beNat bs).testBit (8 * bs.length - 1 - p) = topBit bs p := by
  induction bs generalizing p with
  | nil => exact absurd h (Nat.not_lt_zero p)
  | cons b bs ih =>
    rw [List.length_cons] at h ⊢
    rw [beNat_cons, Nat.testBit_two_pow_mul_add _ (beNat_lt bs)]
    by_cases hfirst : p < 8
    · rw [if_neg (by omega), topBit, show p / 8 = 0 by omega, show 8 * (bs.length + 1) - 1 - p - 8 * bs.length = 7 - p % 8 by omega]
      rfl
    · obtain ⟨q, rfl⟩ : ∃ q, p = q + 8 := ⟨p - 8, by omega⟩
      rw [if_pos (by omega), show 8 * (bs.length + 1) - 1 - (q + 8) = 8 * bs.length - 1 - q by omega, ih (by omega), topBit, topBit,
        Nat.add_mod_right, Nat.add_div_right q (by decide)]
      rfl

/-- A field of a byte string has the string's bits from its place on, the first one highest (R165, R191). -/
theorem bitsAt_testBit (bs : List Byte) (off w i : Nat) :
    (bitsAt bs off w).testBit i = (decide (i < w) && topBit bs (off + (w - 1 - i))) := by
  rw [bitsAt, Nat.testBit_mod_two_pow]
  by_cases hi : i < w
  · have hbit := beNat_testBit (bs := slice bs (off / 8) ((off % 8 + w + 7) / 8)) (p := off % 8 + (w - 1 - i))
      (by rw [slice_length]; omega)
    rw [slice_length, topBit_slice (by omega)] at hbit
    rw [Nat.testBit_shiftRight, beAt,
      show 8 * ((off % 8 + w + 7) / 8) - off % 8 - w + i = 8 * ((off % 8 + w + 7) / 8) - 1 - (off % 8 + (w - 1 - i)) by omega, hbit,
      show 8 * (off / 8) + (off % 8 + (w - 1 - i)) = off + (w - 1 - i) by omega]
  · simp [hi]

/-- A field of one bit is that bit. -/
theorem bitsAt_one (bs : List Byte) (p : Nat) : bitsAt bs p 1 = (topBit bs p).toNat := by
  have hbit : (bitsAt bs p 1).testBit 0 = topBit bs p := by rw [bitsAt_testBit, Nat.sub_zero]; rfl
  have hlt : bitsAt bs p 1 < 2 := Nat.mod_lt _ (by decide)
  rw [← hbit, Nat.toNat_testBit, Nat.pow_zero, Nat.div_one, Nat.mod_eq_of_lt hlt]

theorem bitsAt_one_eq_one {bs : List Byte} {p : Nat} : bitsAt bs p 1 = 1 ↔ topBit bs p = true := by
  rw [bitsAt_one, Bool.toNat_eq_one]

theorem bitsAt_one_inj {as bs : List Byte} {p q : Nat} : bitsAt as p 1 = bitsAt bs q 1 ↔ topBit as p = topBit bs q := by
  rw [bitsAt_one, bitsAt_one]
  cases topBit as p <;> cases topBit bs q <;> decide

end Sys2Proof
end

section
/-! Rules of the TCAM: what a rule matches, and the checks of a command that writes one (R253, R264). -/

namespace Sys2Proof.Machine

/-- A rule matches a key that has its VALUE wherever MASK is one (R253). -/
theorem Rule.matches_iff (r : Rule) (key : List Byte) :
    r.matches key = true ↔ ∀ b, (beNat r.mask).testBit b = true → (beNat key).testBit b = (beNat r.value).testBit b := by
  rw [Rule.matches, decide_eq_true_eq, Nat.eq_iff_testBit_eq]
  refine forall_congr' fun b => ?_
  rw [Nat.testBit_and, Nat.testBit_and]
  cases (beNat r.mask).testBit b <;> simp

theorem cases_of_ite_eq {α : Type} {p : Prop} [Decidable p] {a b c : α} (h : (if p then a else b) = c) : p ∧ a = c ∨ ¬p ∧ b = c := by
  by_cases hp : p
  · exact .inl ⟨hp, (if_pos hp).symm.trans h⟩
  · exact .inr ⟨hp, (if_neg hp).symm.trans h⟩

/-- A RULE_COMMAND that passes its checks has good fields for its rule set (R264). -/
theorem State.ruleCommandStatus_ok {s : State} {c : List Byte} (h : s.ruleCommandStatus c = .ok) : ∃ r, ruleCommandOk r c = true := by
  rcases cases_of_ite_eq h with ⟨-, hrange⟩ | ⟨-, hchecks⟩
  · cases hrange
  split at hchecks
  next r _ _ =>
    rcases cases_of_ite_eq hchecks with ⟨hqueue, hok⟩ | ⟨-, hfields⟩
    · exact absurd hok hqueue
    rcases cases_of_ite_eq hfields with ⟨hgood, -⟩ | ⟨-, hrange⟩
    · exact ⟨r, hgood⟩
    · cases hrange
  next => cases hchecks
  next hsome hnone =>
    cases hset : mget s.tables.ruleSets (handleIndex (beAt c 4 4)) with
    | none => exact (hnone hchecks hset).elim
    | some r => exact (hsome r hchecks hset).elim

theorem ruleCommand_length (op set pos : Nat) (rest : List Byte) : (ruleCommand op set pos rest).length = 12 + rest.length := by
  simp [ruleCommand, natBe_length]
  omega

theorem ruleCommand_append (op set pos : Nat) (a b : List Byte) : ruleCommand op set pos (a ++ b) = ruleCommand op set pos a ++ b :=
  (List.append_assoc ..).symm

/-- A good WRITE has no VALUE bit outside its MASK (R253, R264). -/
theorem value_within_mask_of_ruleCommandOk {r : RuleSet} {set pos : Nat} {action value mask : List Byte} (haction : action.length = 16)
    (hlen : value.length = mask.length) (h : ruleCommandOk r (ruleCommand 1 set pos (action ++ value ++ mask)) = true) :
    beNat value &&& beNat mask = beNat value := by
  have hop : byteAt (ruleCommand 1 set pos (action ++ value ++ mask)) 0 = 1 := rfl
  simp only [ruleCommandOk, hop, if_true, ne_eq, not_true_eq_false, decide_false, Bool.false_or, Bool.and_eq_true, decide_eq_true_eq,
    ruleCommand_length, List.length_append, haction] at h
  obtain ⟨⟨⟨⟨-, hsize⟩, -⟩, -⟩, hwithin⟩ := h
  have hn : value.length = ruleBytes r := by omega
  have hmask : slice (ruleCommand 1 set pos (action ++ value) ++ mask) (28 + ruleBytes r) (ruleBytes r) = mask :=
    slice_end (by rw [ruleCommand_length, List.length_append, haction, hn, ← Nat.add_assoc]) (hlen ▸ hn)
  have hvalue : slice (ruleCommand 1 set pos action ++ (value ++ mask)) 28 (ruleBytes r) = value :=
    slice_between (by rw [ruleCommand_length, haction]) hn
  rwa [ruleCommand_append, hmask, ruleCommand_append, List.append_assoc, hvalue] at hwithin

/-- Settles O49: a rule is compared bit by bit, and the check of a WRITE compares VALUE with MASK. -/
theorem rowsMatchBitByBit : Obligations.RowsMatchBitByBit := by
  refine ⟨Rule.matches_iff, fun s set pos action value mask b haction hlen hvalue hmask hok => ?_⟩
  obtain ⟨r, hgood⟩ := State.ruleCommandStatus_ok hok
  have hbit := congrArg (Nat.testBit · b) (value_within_mask_of_ruleCommandOk haction hlen hgood)
  simp [hvalue, hmask] at hbit

end Sys2Proof.Machine
end

section
/-! The pre-filter of a block, and the search that it may shorten (R253 to R255). -/

namespace Sys2Proof.Machine

/-! ### PF_MASK and PF_VALUE -/

theorem foldl_and_testBit {α : Type} (f g : α → Nat) (l : List α) (a i : Nat) :
    (l.foldl (fun acc x => acc &&& f x &&& g x) a).testBit i = (a.testBit i && l.all fun x => (f x).testBit i && (g x).testBit i) := by
  induction l generalizing a with
  | nil => simp
  | cons x l ih => simp [ih, Bool.and_assoc]

/-- PF_MASK has the bits of the field at which every rule is exact and has the VALUE of the first one (R255). -/
theorem prefilter_mask_testBit (s : RuleSet) (r0 : Rule) (rules : List Rule) (i : Nat) :
    (prefilter s (r0 :: rules)).1.testBit i = true ↔ i < 16 ∧ ∀ r ∈ r0 :: rules, topBit r.mask (s.pfOffset + (15 - i)) = true ∧
      topBit r.value (s.pfOffset + (15 - i)) = topBit r0.value (s.pfOffset + (15 - i)) := by
  have hfield : (0xFFFF : Nat).testBit i = decide (i < 16) := Nat.testBit_two_pow_sub_one 16 i
  rw [prefilter, foldl_and_testBit, hfield, Bool.and_eq_true, decide_eq_true_eq, List.all_eq_true]
  refine and_congr_right fun hi => forall₂_congr fun r _ => ?_
  simp [bitsAt_testBit, hfield, hi]

/-- PF_VALUE is the first rule's VALUE where PF_MASK is one, and zero elsewhere (R255). -/
theorem prefilter_value_eq (s : RuleSet) (r0 : Rule) (rules : List Rule) :
    (prefilter s (r0 :: rules)).2 = bitsAt r0.value s.pfOffset 16 &&& (prefilter s (r0 :: rules)).1 := rfl

/-- Where PF_MASK is one, PF_VALUE has the VALUE of every rule (R255). -/
theorem prefilter_value_of_mem {s : RuleSet} {rules : List Rule} {r : Rule} (hr : r ∈ rules) {i : Nat}
    (h : (prefilter s rules).1.testBit i = true) : i < 16 ∧ topBit r.mask (s.pfOffset + (15 - i)) = true ∧
      (prefilter s rules).2.testBit i = topBit r.value (s.pfOffset + (15 - i)) := by
  cases rules with
  | nil => cases hr
  | cons r0 rules =>
    obtain ⟨hi, hagree⟩ := (prefilter_mask_testBit s r0 rules i).mp h
    obtain ⟨hexact, hsame⟩ := hagree r hr
    exact ⟨hi, hexact, by simp [prefilter_value_eq, h, bitsAt_testBit, hsame, hi]⟩

/-- Where PF_MASK is zero, so is PF_VALUE (R255). -/
theorem prefilter_value_of_masked {s : RuleSet} {rules : List Rule} {i : Nat} (h : (prefilter s rules).1.testBit i = false) :
    (prefilter s rules).2.testBit i = false := by
  cases rules with
  | nil => exact Nat.zero_testBit i
  | cons r0 rules => rw [prefilter_value_eq, Nat.testBit_and, h, Bool.and_false]

/-! ### A rule that matches is never hidden (R255) -/

/-- A key that a rule matches has the rule's VALUE at each bit where the rule is exact (R253). -/
theorem topBit_of_matches {r : Rule} {key : List Byte} (hvalue : r.value.length = key.length) (hmask : r.mask.length = key.length)
    (h : r.matches key = true) {p : Nat} (hexact : topBit r.mask p = true) : topBit key p = topBit r.value p := by
  have hp := lt_of_topBit hexact
  have hbit := (r.matches_iff key).mp h (8 * r.mask.length - 1 - p) (by rwa [beNat_testBit hp])
  rwa [hmask, beNat_testBit (hmask ▸ hp), ← hvalue, beNat_testBit (hvalue ▸ hmask ▸ hp)] at hbit

/-- The field of a key passes the pre-filter of every block that holds a rule that matches the key (R255). -/
theorem prefilter_passes {s : RuleSet} {rules : List Rule} {r : Rule} {key : List Byte} (hr : r ∈ rules)
    (hvalue : r.value.length = key.length) (hmask : r.mask.length = key.length) (h : r.matches key = true) :
    bitsAt key s.pfOffset 16 &&& (prefilter s rules).1 = (prefilter s rules).2 := by
  refine Nat.eq_of_testBit_eq fun i => ?_
  rw [Nat.testBit_and, bitsAt_testBit]
  cases hbit : (prefilter s rules).1.testBit i with
  | false => rw [prefilter_value_of_masked hbit, Bool.and_false]
  | true =>
    obtain ⟨hi, hexact, hsame⟩ := prefilter_value_of_mem hr hbit
    rw [hsame, ← topBit_of_matches hvalue hmask h hexact]
    simp [hi]

/-! ### The search, block after block (R254) -/

/-- Steps that each keep what was found, or else take what their element offers, find the first offer. -/
theorem foldl_best {α : Type} {f : Search → α → Search} {g : α → Option (Nat × Rule)}
    (h : ∀ acc b, (f acc b).best = acc.best.or (g b)) (l : List α) (acc : Search) :
    (l.foldl f acc).best = acc.best.or (l.findSome? g) := by
  induction l generalizing acc with
  | nil => simp
  | cons b l ih =>
    rw [List.foldl_cons, ih, h, Option.or_assoc, List.findSome?_cons]
    cases g b <;> rfl

/-- Each block offers its first rule that matches, for the pre-filter skips no block that has one (R254, R255). -/
theorem Tables.search_best {t : Tables} {s : RuleSet} {set e : Nat} {key : List Byte}
    (hlen : ∀ x ∈ t.visibleRules set e, x.2.value.length = key.length ∧ x.2.mask.length = key.length) :
    (t.search s set e key).best =
      (List.range s.blocks).findSome? fun b => (t.blockRules s set b e).find? fun x => x.2.matches key := by
  refine (foldl_best (fun acc b => ?_) _ _).trans Option.none_or
  dsimp only
  split
  next hempty => rw [List.isEmpty_iff.mp hempty, List.find?_nil, Option.or_none]
  split
  next hskip =>
    have hnone : (t.blockRules s set b e).find? (fun x => x.2.matches key) = none := by
      rw [List.find?_eq_none]
      intro x hx hmatch
      obtain ⟨hvalue, hmask⟩ := hlen x (List.mem_filter.mp hx).1
      simp [prefilter_passes (s := s) (List.mem_map_of_mem hx) hvalue hmask hmatch] at hskip
    rw [hnone, Option.or_none]
  next => cases acc.best <;> rfl

/-! ### Blocks in order hold the positions in order (R249) -/

/-- In a list whose classes do not fall, what is found in class n comes after what is found in the classes below. -/
theorem find?_below_or_at {α : Type} {d : α → Nat} {l : List α} (h : l.Pairwise fun x y => d x ≤ d y) (p : α → Bool) (n : Nat) :
    (l.find? fun x => decide (d x < n) && p x).or (l.find? fun x => decide (d x = n) && p x) =
      l.find? fun x => decide (d x < n + 1) && p x := by
  induction l with
  | nil => rfl
  | cons x l ih =>
    obtain ⟨hx, hl⟩ := List.pairwise_cons.mp h
    simp only [List.find?_cons]
    cases hp : p x with
    | false => simpa using ih hl
    | true =>
      rcases Nat.lt_trichotomy (d x) n with hlt | heq | hgt
      · simp [hlt, Nat.lt_succ_of_lt hlt]
      · have hbelow : (l.find? fun y => decide (d y < n) && p y) = none := by
          refine List.find?_eq_none.mpr fun y hy => ?_
          simp [Nat.not_lt.mpr (heq ▸ hx y hy)]
        simp [heq, hbelow]
      · simpa [Nat.not_lt.mpr (Nat.le_of_lt hgt), Nat.ne_of_gt hgt, Nat.not_lt.mpr (Nat.succ_le_of_lt hgt)] using ih hl

/-- Looking through the classes below n one after another, in a list whose classes do not fall, is looking through the list. -/
theorem findSome?_range_filter {α : Type} {d : α → Nat} {l : List α} (h : l.Pairwise fun x y => d x ≤ d y) (p : α → Bool) (n : Nat) :
    ((List.range n).findSome? fun b => (l.filter fun x => decide (d x = b)).find? p) = l.find? fun x => decide (d x < n) && p x := by
  induction n with
  | zero => exact (List.find?_eq_none.mpr (by simp)).symm
  | succ n ih =>
    rw [List.range_succ, List.findSome?_append, ih, List.findSome?_singleton, List.find?_filter, ← find?_below_or_at h]
    simp

theorem lt_of_keysAbove {α : Type} {m : List (Nat × α)} {a : Nat} (h : keysAbove (some a) m = true) : ∀ x ∈ m, a < x.1 := by
  induction m generalizing a with
  | nil => simp
  | cons e m ih =>
    simp only [keysAbove, Bool.and_eq_true, decide_eq_true_eq] at h
    exact List.forall_mem_cons.mpr ⟨h.1, fun x hx => Nat.lt_trans h.1 (ih h.2 x hx)⟩

/-- The keys of a store that rises stand in order. -/
theorem rising_pairwise {α : Type} {m : List (Nat × α)} (h : rising m = true) : m.Pairwise fun x y => x.1 < y.1 := by
  induction m with
  | nil => exact .nil
  | cons e m ih =>
    have habove : keysAbove (some e.1) m = true := by simpa [rising, keysAbove] using h
    exact .cons (lt_of_keysAbove habove) (ih (keysAbove_none habove))

/-- The visible rules of a set are the store's own of that set, each at its position (R249, R252). -/
theorem visible_eq_some {set e : Nat} {k : Nat} {r : Rule} {x : Nat × Rule}
    (h : (if k / 65536 = set ∧ r.vis e = true then some (k % 65536, r) else none) = some x) : k / 65536 = set ∧ x = (k % 65536, r) := by
  obtain ⟨⟨hset, -⟩, hx⟩ := Option.ite_none_right_eq_some.mp h
  exact ⟨hset, (Option.some.inj hx).symm⟩

/-- A visible rule is one that the store lists. -/
theorem Tables.exists_of_mem_visibleRules {t : Tables} {set e : Nat} {x : Nat × Rule} (h : x ∈ t.visibleRules set e) :
    ∃ k, (k, x.2) ∈ t.rules := by
  obtain ⟨⟨k, r⟩, hmem, hx⟩ := List.mem_filterMap.mp h
  obtain ⟨-, rfl⟩ := visible_eq_some hx
  exact ⟨k, hmem⟩

/-- The visible rules of a set stand in position order (R249). -/
theorem Tables.visibleRules_pairwise {t : Tables} (h : rising t.rules = true) (set e : Nat) :
    (t.visibleRules set e).Pairwise fun x y => x.1 ≤ y.1 := by
  refine List.Pairwise.filterMap _ ?_ (rising_pairwise h)
  rintro ⟨k, r⟩ ⟨k', r'⟩ hlt x hx y hy
  obtain ⟨hset, rfl⟩ := visible_eq_some hx
  obtain ⟨hset', rfl⟩ := visible_eq_some hy
  dsimp only at hlt ⊢
  omega

/-- Settles O48: every bit of the field on which the rules of a block agree is one that a key must have for any of them to match. -/
theorem prefilterNeverHidesAMatch : Obligations.PrefilterNeverHidesAMatch := by
  refine ⟨fun s rules i hne hi => ?mask, fun s rules i r hr hbit => ?value, fun s rules i => prefilter_value_of_masked,
    fun t s set e key hrising hlen => ?search⟩
  case mask =>
    obtain ⟨r0, rest, rfl⟩ := List.exists_cons_of_ne_nil hne
    simp only [bitsAt_one_eq_one, prefilter_mask_testBit, hi, true_and]
    constructor
    · intro hagree
      exact ⟨_, fun r hr => (hagree r hr).imp_right bitsAt_one_inj.mpr⟩
    · rintro ⟨v, hv⟩ r hr
      obtain ⟨hexact, hr⟩ := hv r hr
      obtain ⟨-, hr0⟩ := hv r0 List.mem_cons_self
      exact ⟨hexact, bitsAt_one_inj.mp (hr.trans hr0.symm)⟩
  case value =>
    obtain ⟨hi, -, hsame⟩ := prefilter_value_of_mem hr hbit
    exact ⟨hi, by rw [hsame, bitsAt_one_eq_one]⟩
  case search =>
    have hvisible : ∀ x ∈ t.visibleRules set e, x.2.value.length = key.length ∧ x.2.mask.length = key.length := by
      intro x hx
      obtain ⟨k, hmem⟩ := Tables.exists_of_mem_visibleRules hx
      exact hlen (k, x.2) hmem
    have hblocks : (t.visibleRules set e).Pairwise fun x y => x.1 / s.perBlock ≤ y.1 / s.perBlock :=
      (Tables.visibleRules_pairwise hrising set e).imp fun hle => Nat.div_le_div_right hle
    rw [Tables.search_best hvisible]
    exact findSome?_range_filter hblocks (fun x => x.2.matches key) s.blocks

end Sys2Proof.Machine
end

section
/-! The frames of queues, replication groups, scheduling, meters and gate windows. -/

namespace Sys2Proof.Machine

/-- Settles O38: each command's meaning keeps every part outside its list. -/
theorem trafficFrames : Obligations.TrafficFrames := by
  refine ⟨?queueCreate, ?enable, ?disable, ?setLimits, ?queueQuery, ?mcastSet, ?mcastQuery, ?nodeCreate,
    ?schedSet, ?schedQuery, ?meterCreate, ?meterSet, ?meterQuery, ?windowAdmin, ?windowEnable, ?windowPort,
    ?watchQueue, ?watchIntervalEnd⟩
  case queueCreate => exact fun _ _ _ _ => .of_next (execQueueCreate_keeps (.of_land rfl) .start)
  case enable => exact fun _ _ _ _ => .of_next (execEnable_keeps (.of_land rfl) .start)
  case disable => exact fun _ _ _ _ => .of_next (execDisable_keeps (.of_land rfl) .start)
  case setLimits => exact fun _ _ _ _ _ => .of_next (execSetLimits_keeps (.of_land rfl) .start)
  case queueQuery => exact fun _ _ _ _ => .of_next (execQueueQuery_keeps (.of_land rfl) .start)
  case mcastSet => exact fun _ _ _ _ => .of_next (execMcastSet_keeps (.of_land rfl) .start)
  case mcastQuery => exact fun _ _ _ _ => .of_next (execMcastQuery_keeps (.of_land rfl) .start)
  case nodeCreate => exact fun _ _ _ _ => .of_next (execNodeCreate_keeps (.of_land rfl) .start)
  case schedSet => exact fun _ _ _ _ => .of_next (execSchedSet_keeps (.of_land rfl) .start)
  case schedQuery => exact fun _ _ _ _ => .of_next (execSchedQuery_keeps (.of_land rfl) .start)
  case meterCreate => exact fun _ _ _ _ => .of_next (execMeterCreate_keeps (.of_land rfl) .start)
  case meterSet => exact fun _ _ _ _ => .of_next (execMeterSet_keeps (.of_land rfl) .start)
  case meterQuery => exact fun _ _ _ _ => .of_next (execMeterQuery_keeps (.of_land rfl) .start)
  case windowAdmin => exact fun _ _ _ _ _ => .of_next (execWindowAdmin_keeps (.of_land rfl) .start)
  case windowEnable => exact fun _ _ _ _ _ => .of_next (execWindowEnable_keeps (.of_land rfl) .start)
  case windowPort => exact fun _ _ _ _ _ => .of_next (execWindowPort_keeps (.of_land rfl) .start)
  case watchQueue => exact fun _ _ _ _ _ => .of_next (execWatchQueue_keeps (.partsAnyRegister rfl) .start)
  case watchIntervalEnd => exact fun _ _ _ => .of_next (execWatchIntervalEnd_keeps (.partsAnyRegister rfl) .start)

end Sys2Proof.Machine
end

section
/-! The transmit side of ports, gate lists, and links that go down and come up (R291, R292, R319, R320, R422 to R425). -/

namespace Sys2Proof.Machine

/-! ### What leaves ports, MACs and gate lists alone -/

/-- Objects of different indices have different keys. -/
theorem okey_ne_of_index {i a : Nat} (h : i ≠ a) (j b : Nat) : okey i j ≠ okey a b := by
  unfold okey
  omega

theorem State.mac_congr {s t : State} (h : t.tm.macs = s.tm.macs) (p : Nat) : t.mac p = s.mac p := by
  simp only [State.mac, h]

theorem State.port_congr {s t : State} (h : t.ports = s.ports) (p : Nat) : t.port p = s.port p := by
  simp only [State.port, h]

@[simp] theorem State.setLanes_port (s : State) (ls : List Nat) (st p : Nat) : (s.setLanes ls st).port p = s.port p :=
  State.port_congr (by simp) p

@[simp] theorem State.setReg_port (s : State) (i j v p : Nat) : (s.setReg i j v).port p = s.port p := rfl

@[simp] theorem State.setGateList_gateList (s : State) (k : Nat) (g : GateList) : (s.setGateList k g).gateList k = g := by
  simp [State.setGateList, State.gateList, State.setOct, State.setReg, mgetD, mget_mput_same]

@[simp] theorem State.setGateList_mac (s : State) (k : Nat) (g : GateList) (p : Nat) : (s.setGateList k g).mac p = s.mac p := rfl

/-! ### The MAC (R320, R422) -/

/-- The frame that a MAC has started is what leaves; counters, stamps and custody are nothing that leaves (R422). -/
theorem execFrameTransmitDone_sends {p : Nat} {x : Packet} {s : State} (hp : p < 128) (hx : (s.mac p).sending = some x) :
    Completes (.frameTransmitDone p) s fun t => t.out = .net p (sentFrame x.frame) :: s.out := by
  refine ⟨_, rfl, ?_⟩
  simp only [Nat.not_le.mpr hp, if_false, hx]
  refine (On.out_same (ps := 0x10000000000000000000000000000000000000100000000000000300880)
    (s := (s.setMac p { s.mac p with sending := none }).emit (.net p (sentFrame x.frame)))
    (State.endCustody_keeps (.of_land rfl) (.ite (State.stampTx_keeps (.of_land rfl) ?_) ?_)) rfl).trans rfl
  all_goals exact State.trace_keeps (.of_land rfl) (State.count_keeps (.of_land rfl) (.of_land rfl)
    (State.bump_keeps (.of_land rfl) (.of_land rfl) .start))

/-- A list that is off keeps every gate open, and none closes. -/
theorem GateList.open_of_off {x : GateList} (hoper : x.oper = none) (hpending : x.pending = none) (now g : Nat) :
    x.isOpen now g = true ∧ x.closes now g = none := by
  simp [GateList.isOpen, GateList.closes, hoper, hpending]

/-- The one frame that a port holds is the head frame of its gate, and of no other. -/
theorem heads_of_single {g : Nat} (hg : g < 8) (x : Packet) :
    (List.range 8).filterMap (fun k => [(g, x)].find? fun y => decide (y.1 = k)) = [(g, x)] := by
  have hfind : ∀ k, ([(g, x)].find? fun y => decide (y.1 = k)) = if g = k then some (g, x) else none := by
    intro k
    by_cases h : g = k <;> simp [h]
  simp only [hfind]
  match g, hg with
  | 0, _ | 1, _ | 2, _ | 3, _ | 4, _ | 5, _ | 6, _ | 7, _ => rfl

theorem execTxFrameStart_starts {p k g : Nat} {x : Packet} {s : State} (hp : p < 128) (hlist : s.listOf p = some k)
    (hdrop : s.dropAllOversize k = s) (hg : g < 8) (hheld : (s.mac p).holding = [(g, x)]) (hoper : (s.gateList k).oper = none)
    (hpending : (s.gateList k).pending = none) (hfree : (s.mac p).sending = none) : Completes (.txFrameStart p) s fun t =>
      (t.mac p).sending = some x ∧ (t.mac p).holding = [] := by
  refine ⟨s.setMac p { s.mac p with holding := [], sending := some x, heldGates := (s.mac p).heldGates.filter (· ≠ g) }, ?_, by simp⟩
  change execTxFrameStart p s = _
  simp only [execTxFrameStart, hlist, hdrop, hheld, heads_of_single hg]
  simp [Nat.not_le.mpr hp, hfree, GateList.open_of_off hoper hpending]

/-! ### Gate lists (R319) -/

theorem execGateEvent_opens {k : Nat} {b : List Byte} {u : Nat} {s : State} (hoper : (s.gateList k).oper = some (b, u)) :
    Completes (.gateEvent k) s fun t => (t.gateList k).gates = gatesAt b u s.ptp := by
  refine ⟨_, rfl, ?_⟩
  simp only [hoper, State.setGateList_gateList]

/-- A port that holds no frame drops none. -/
theorem State.dropAllOversize_of_empty {s : State} {k : Nat} (h : (s.mac (s.reg 0x7E01 k)).holding = []) : s.dropAllOversize k = s := by
  simp only [State.dropAllOversize, h, List.length_nil, State.dropOversize, ite_self]

theorem execConfigChangeTime_changes {k : Nat} {b : List Byte} {u : Nat} {s : State} (hpending : (s.gateList k).pending = some (b, u))
    (hempty : (s.mac (s.reg 0x7E01 k)).holding = []) : Completes (.configChangeTime k) s fun t =>
      (t.gateList k).pending = none ∧ (t.gateList k).oper = some (b, u) := by
  refine ⟨_, rfl, ?_⟩
  simp only [hpending]
  rw [State.dropAllOversize_of_empty, State.setGateList_gateList]
  · exact ⟨rfl, rfl⟩
  · have hport : ∀ (v : State) (g : GateList), (v.setGateList k g).reg 0x7E01 k = v.reg 0x7E01 k := fun v g =>
      State.setReg_other _ _ (okey_ne_of_index (by decide) _ _)
    rw [hport, State.setGateList_mac]
    exact hempty

/-! ### Ports that go down (R291, R424) -/

/-- A PORT_STATE of UP or FLUSHING is no other. -/
theorem not_down_of_up {v : Nat} (h : v ∈ [4, 5]) : ¬(v ≠ 4 ∧ v ≠ 5) := by
  simp only [List.mem_cons, List.not_mem_nil, or_false] at h
  omega

/-- A port that was up reads its new state and its cause, and time stands. -/
theorem State.portDown_reads {s : State} (hr : rising s.objs = true) {p : Nat} (hup : s.reg 0x3003 p ∈ [4, 5]) (cause state : Nat) :
    (s.portDown p cause state).reg 0x3003 p = state ∧ (s.portDown p cause state).reg 0x300B p = cause ∧
      (s.portDown p cause state).now = s.now := by
  let down := ((((s.setPort p { s.port p with cause := none, cleanSince := none }).setReg 0x3003 p state).bump 0x3009 p).setReg 0x300A p
    s.ptp).setReg 0x300B p cause
  have hflushed : On inS 0x200000000000000000003000000000000000000000000000000304c90 down (s.portDown p cause state) := by
    rw [State.portDown, if_neg (not_down_of_up hup)]
    exact State.startFlush_keeps (.of_land rfl) (.foldl .start fun _ _ h => State.joinFlush_keeps (.of_land rfl) h)
  have hstate : rising ((s.setPort p { s.port p with cause := none, cleanSince := none }).setReg 0x3003 p state).objs = true :=
    State.setReg_rising _ _ _ _ hr
  refine ⟨(hflushed.reg_same p rfl).trans ?_, (hflushed.reg_same p rfl).trans ?_, (hflushed.now_same rfl).trans ?_⟩
  · rw [State.setReg_other _ _ (okey_ne_of_index (by decide) _ _), State.setReg_other _ _ (okey_ne_of_index (by decide) _ _),
      State.bump_count, State.count_other _ _ (okey_ne_of_index (by decide) _ _)]
    exact State.setReg_reg _ _ _ _ hr
  · exact State.setReg_reg _ _ _ _ (State.setReg_rising _ _ _ _ (State.count_rising _ _ _ _ hstate))
  · simp only [down, State.setReg_fields, State.bump_count, State.count_fields, State.setPort_fields]

theorem execLinkDownHoldExpiry_takesDown {p c u : Nat} {s : State} (hs : s.StoresRise) (hcause : (s.port p).cause = some (c, u))
    (hup : s.reg 0x3003 p ∈ [4, 5]) : Completes (.linkDownHoldExpiry p) s fun t =>
      t.reg 0x3003 p = 3 ∧ t.reg 0x300B p = c ∧ u + s.reg 0x3005 p * 1000 ≤ t.now := by
  obtain ⟨hstate, hshown, hnow⟩ := State.portDown_reads (s := s.reach (u + s.reg 0x3005 p * 1000)) hs.objs hup c 3
  refine ⟨_, rfl, ?_⟩
  simp only [hcause]
  refine ⟨hstate, hshown, ?_⟩
  rw [hnow]
  exact Nat.le_max_right ..

/-- A cause begins its hold on a port that is up and has none. -/
theorem State.causeOnset_holds {s : State} {p : Nat} (hup : s.reg 0x3003 p ∈ [4, 5]) (hhold : s.reg 0x3005 p ≠ 0)
    (hnone : (s.port p).cause = none) (c : Nat) : ((s.causeOnset p c).port p).cause = some (c, s.now) := by
  simp only [State.causeOnset, if_neg (not_down_of_up hup), if_neg hhold, hnone, Option.isSome_none, Bool.false_eq_true, if_false, State.setPort_port]

theorem execLinkFaultOnset_holds {p c lane : Nat} {s : State} (hp : p < 128) (hlo : 3 ≤ c) (hhi : c ≤ 7) (hup : s.reg 0x3003 p ∈ [4, 5])
    (hhold : s.reg 0x3005 p ≠ 0) (hnone : (s.port p).cause = none) : Completes (.linkFaultOnset p c lane) s fun t =>
      (t.port p).cause = some (c, s.now) := by
  have hserved : ¬(128 ≤ p ∨ c < 3 ∨ 7 < c ∨ s.reg 0x3003 p < 3) := by
    simp only [List.mem_cons, List.not_mem_nil, or_false] at hup
    omega
  refine ⟨_, rfl, ?_⟩
  simp only [if_neg hserved]
  split
  · rw [State.causeOnset_holds (by simpa using hup) (by simpa using hhold) (by simpa using hnone)]
    simp
  · exact State.causeOnset_holds hup hhold hnone c

/-! ### The end of a flush, and ports that come up (R292, R425) -/

theorem execFlushDone_ends {p : Nat} {s : State} (hs : s.StoresRise) (hp : p < 128) (hflush : s.reg 0x7043 p = 1)
    (hclear : s.egressClear p = true) : Completes (.flushDone p) s fun t =>
      t.reg 0x7043 p = 0 ∧ (s.reg 0x3003 p = 4 → t.reg 0x3003 p = 5) := by
  let ended := (s.setReg 0x7043 p 0).setReg 0x7044 p s.ptp
  have hrise : rising ended.objs = true := State.setReg_rising _ _ _ _ (State.setReg_rising _ _ _ _ hs.objs)
  have hoff : ended.reg 0x7043 p = 0 :=
    (State.setReg_other _ _ (okey_ne_of_index (by decide) _ _)).trans (State.setReg_reg _ _ _ _ hs.objs)
  have hstate : ended.reg 0x3003 p = s.reg 0x3003 p :=
    (State.setReg_other _ _ (okey_ne_of_index (by decide) _ _)).trans (State.setReg_other _ _ (okey_ne_of_index (by decide) _ _))
  have hserved : ¬(128 ≤ p ∨ s.reg 0x7043 p ≠ 1 ∨ (!s.egressClear p) = true) := by
    simp only [hflush, hclear, Bool.not_true, Bool.false_eq_true, ne_eq, not_true_eq_false, or_false]
    omega
  let up := if ended.reg 0x3003 p = 4 then ended.setReg 0x3003 p 5 else ended
  have hraised : On inS _ up (up.raiseEvent 1 p (s.port p).flushed) := State.raiseEvent_keeps (Covers.refl _) .start
  refine ⟨up.raiseEvent 1 p (s.port p).flushed, ?_, (hraised.reg_same p rfl).trans ?_, fun hwas => (hraised.reg_same p rfl).trans ?_⟩
  · change execFlushDone p s = _
    rw [execFlushDone, if_neg hserved]
  · dsimp only [up]
    split
    · rw [State.setReg_other _ _ (okey_ne_of_index (by decide) _ _), hoff]
    · exact hoff
  · dsimp only [up]
    rw [hstate, if_pos hwas, State.setReg_reg _ _ _ _ hrise]

theorem execLinkUp_comesUp {p u : Nat} {s : State} (hs : s.StoresRise) (hp : p < 128) (hclean : (s.port p).cleanSince = some u)
    (hdown : s.reg 0x3003 p = 3) (hlocked : s.lanesLocked p = true) (hmode : s.reg 0x3000 p ≠ 0)
    (hslice : s.reg 0x3001 p < 16 → s.reg 0x3700 (s.reg 0x3001 p) ≠ 3) : Completes (.linkUp p) s fun t =>
      t.reg 0x3003 p = (if s.reg 0x7043 p = 1 then 4 else 5) ∧ u + Nat.max 100000 (s.reg 0x3006 p * 1000000) ≤ t.now := by
  have hserved : ¬(128 ≤ p ∨ s.reg 0x3003 p ≠ 3 ∨ (!s.lanesLocked p) = true ∨ s.reg 0x3000 p = 0 ∨
      (s.reg 0x3001 p < 16 ∧ s.reg 0x3700 (s.reg 0x3001 p) = 3)) := by
    rintro (hfar | hnot | hunlocked | hoff | ⟨hlt, hfailed⟩)
    · omega
    · exact hnot hdown
    · rw [hlocked] at hunlocked
      exact absurd hunlocked (by decide)
    · exact hmode hoff
    · exact hslice hlt hfailed
  refine ⟨_, rfl, ?_⟩
  simp only [hclean, if_neg hserved]
  constructor
  · rw [State.setReg_other _ _ (okey_ne_of_index (by decide) _ _), State.bump_count,
      State.count_other _ _ (okey_ne_of_index (by decide) _ _)]
    exact State.setReg_reg _ _ _ _ hs.objs
  · simp only [State.setReg_fields, State.bump_count, State.count_fields]
    exact Nat.le_max_right ..

/-- Settles O7: each command by the lemma of its meaning. -/
theorem transmitAndLinkCommandsComplete : Obligations.TransmitAndLinkCommandsComplete := by
  refine ⟨?frameTransmitDone, ?txFrameStart, ?gateEvent, ?configChangeTime, ?linkDownHoldExpiry, ?linkFaultOnset, ?flushDone, ?linkUp⟩
  case frameTransmitDone => exact fun _ _ _ => execFrameTransmitDone_sends
  case txFrameStart => exact fun _ _ _ _ _ => execTxFrameStart_starts
  case gateEvent => exact fun _ _ _ _ => execGateEvent_opens
  case configChangeTime => exact fun _ _ _ _ => execConfigChangeTime_changes
  case linkDownHoldExpiry => exact fun _ _ _ _ => execLinkDownHoldExpiry_takesDown
  case linkFaultOnset => exact fun _ _ _ _ => execLinkFaultOnset_holds
  case flushDone => exact fun _ _ => execFlushDone_ends
  case linkUp => exact fun _ _ _ => execLinkUp_comesUp

end Sys2Proof.Machine
end

section
/-! The commands of queues, groups, scheduling, meters, gate lists and watches, which are writes of their objects (R288, R293, R302,
R316 to R319, R323). -/

namespace Sys2Proof.Machine

/-! ### Writes that are taken -/

/-- A write that passes its checks and that its object's rule takes completes with what the rule answers, at the write's end. -/
theorem completes_of_write {c : Instr} {o : Origin} {i j : Nat} {v : List Byte} {s u : State} {f : List Byte → State → Status × State}
    {P : State → Prop} (he : exec c s = .next (s.runWrite o i j v f)) (hok : s.checkWrite o i j v = .ok)
    (hf : f (canonical o.be (typeOf i j) v) s = (.ok, u)) (hP : P (u.endWrite o i j (canonical o.be (typeOf i j) v) .ok)) :
    Completes c s P := by
  refine ⟨_, he, ?_⟩
  rwa [State.runWrite_of_ok hok, hf]

/-- The same for a string of bytes, which has one order (R116). -/
theorem completes_of_octets {c : Instr} {o : Origin} {i j : Nat} {v : List Byte} {s u : State} {f : List Byte → State → Status × State}
    {P : State → Prop} (hty : typeOf i j = .octets) (he : exec c s = .next (s.runWrite o i j v f)) (hok : s.checkWrite o i j v = .ok)
    (hf : f v s = (.ok, u)) (hP : P (u.endWrite o i j v .ok)) : Completes c s P := by
  refine completes_of_write (u := u) he hok ?_ ?_ <;> rwa [canonical_octets hty]

/-! ### QUEUE_SET (R288) -/

/-- The fields of a QUEUE_SET: the operation, the reserved bytes, the handle and the limits. -/
theorem queueSet_reads (op : Byte) {h : Nat} (hh : h < 2 ^ 32) (l : List Byte) :
    byteAt ([op, 0, 0, 0] ++ natBe h 4 ++ l) 0 = op.toNat ∧ beAt ([op, 0, 0, 0] ++ natBe h 4 ++ l) 1 3 = 0 ∧
      beAt ([op, 0, 0, 0] ++ natBe h 4 ++ l) 4 4 = h ∧ ([op, 0, 0, 0] ++ natBe h 4 ++ l).length = 8 + l.length ∧
      ([op, 0, 0, 0] ++ natBe h 4 ++ l).drop 8 = l := by
  have hlen : ([op, 0, 0, 0] ++ natBe h 4).length = 8 := by simp [natBe_length]
  refine ⟨rfl, rfl, ?_, ?_, ?_⟩
  · have hslice : slice ([op, 0, 0, 0] ++ (natBe h 4 ++ l)) 4 4 = natBe h 4 := slice_between rfl (natBe_length h 4)
    rw [List.append_assoc, beAt, hslice, beNat_natBe]
    exact Nat.mod_eq_of_lt hh
  · rw [List.length_append, hlen]
  · exact List.drop_left' hlen

/-- ENABLE of a queue that is neither being destroyed nor flushed enables it. -/
theorem queueSetEffect_enables {h : Nat} {q : Queue} {s : State} (hh : h < 2 ^ 32) (hhandle : s.checkHandle 1 h = .ok)
    (hq : mget s.tm.queues (handleIndex h) = some q) (hadmin : q.admin ≠ .destroying) (hflush : q.voq = true ∨ s.portCond q.port ≠ 2) :
    queueSetEffect ([1, 0, 0, 0] ++ natBe h 4) s = (.ok, s.setQueue (handleIndex h) { q with admin := .enabled }) := by
  obtain ⟨hop, hzero, hhas, hlen, -⟩ := queueSet_reads 1 hh []
  rw [List.append_nil] at hop hzero hhas hlen
  have hbusy : ¬(q.admin = .destroying ∨ (!q.voq && decide (s.portCond q.port = 2)) = true) := by
    rcases hflush with hvoq | hup
    · simp [hadmin, hvoq]
    · simp [hadmin, hup]
  simp only [queueSetEffect, hop, hzero, hhas, hlen, hhandle, hq]
  exact if_neg hbusy

/-- DISABLE of a queue that is not being destroyed disables it. -/
theorem queueSetEffect_disables {h : Nat} {q : Queue} {s : State} (hh : h < 2 ^ 32) (hhandle : s.checkHandle 1 h = .ok)
    (hq : mget s.tm.queues (handleIndex h) = some q) (hadmin : q.admin ≠ .destroying) :
    queueSetEffect ([2, 0, 0, 0] ++ natBe h 4) s = (.ok, s.setQueue (handleIndex h) { q with admin := .disabled }) := by
  obtain ⟨hop, hzero, hhas, hlen, -⟩ := queueSet_reads 2 hh []
  rw [List.append_nil] at hop hzero hhas hlen
  simp only [queueSetEffect, hop, hzero, hhas, hlen, hhandle, hq]
  exact if_neg hadmin

/-- SET_LIMITS with good limits, no change of pool under packets, and room for the reservation sets the limits. -/
theorem queueSetEffect_limits {h : Nat} {l : List Byte} {q : Queue} {s : State} (hh : h < 2 ^ 32) (hhandle : s.checkHandle 1 h = .ok)
    (hq : mget s.tm.queues (handleIndex h) = some q) (hgood : limitsGood l 3 = true) (hpool : byteAt l 0 = q.pool ∨ q.depth = 0)
    (hroom : s.committedRes - q.res + beAt l 2 4 ≤ s.reg 0x7000 8) : queueSetEffect ([4, 0, 0, 0] ++ natBe h 4 ++ l) s =
      (.ok, State.startReadback 4 ((s.setQueue (handleIndex h) { q with params := q.params.take 6 ++ l ++ q.params.drop 24 }).abandonSpills
        (handleIndex h)) (handleIndex h)) := by
  obtain ⟨hop, hzero, hhas, hlen, hrest⟩ := queueSet_reads 4 hh l
  have hl : l.length = 18 := by
    simp only [limitsGood, Bool.and_eq_true, decide_eq_true_eq, and_assoc] at hgood
    exact hgood.left
  have hkept : ¬(byteAt l 0 ≠ q.pool ∧ 0 < q.depth) := by omega
  have hfour : (4 : Byte).toNat = 4 := rfl
  simp only [queueSetEffect, hop, hfour, hzero, hhas, hlen, hrest, hl, hhandle, hq, hgood, if_neg hkept, if_neg (Nat.not_lt.mpr hroom)]
  rfl

theorem execEnable_enables {o : Origin} {h : Nat} {q : Queue} {s : State} (hh : h < 2 ^ 32)
    (hok : s.checkWrite o 0x7402 1 ([1, 0, 0, 0] ++ natBe h 4) = .ok) (hhandle : s.checkHandle 1 h = .ok)
    (hq : mget s.tm.queues (handleIndex h) = some q) (hadmin : q.admin ≠ .destroying) (hflush : q.voq = true ∨ s.portCond q.port ≠ 2) :
    Completes (.enable o h) s fun t => mget t.tm.queues (handleIndex h) = some { q with admin := .enabled } := by
  refine completes_of_octets (by decide +kernel) rfl hok (queueSetEffect_enables hh hhandle hq hadmin hflush) ?_
  simp only [State.endWrite_same]
  exact mget_mput_same

theorem execDisable_disables {o : Origin} {h : Nat} {q : Queue} {s : State} (hh : h < 2 ^ 32)
    (hok : s.checkWrite o 0x7402 1 ([2, 0, 0, 0] ++ natBe h 4) = .ok) (hhandle : s.checkHandle 1 h = .ok)
    (hq : mget s.tm.queues (handleIndex h) = some q) (hadmin : q.admin ≠ .destroying) :
    Completes (.disable o h) s fun t => mget t.tm.queues (handleIndex h) = some { q with admin := .disabled } := by
  refine completes_of_octets (by decide +kernel) rfl hok (queueSetEffect_disables hh hhandle hq hadmin) ?_
  simp only [State.endWrite_same]
  exact mget_mput_same

theorem execSetLimits_sets {o : Origin} {h : Nat} {l : List Byte} {q : Queue} {s : State} (hh : h < 2 ^ 32)
    (hok : s.checkWrite o 0x7402 1 ([4, 0, 0, 0] ++ natBe h 4 ++ l) = .ok) (hhandle : s.checkHandle 1 h = .ok)
    (hq : mget s.tm.queues (handleIndex h) = some q) (hgood : limitsGood l 3 = true) (hpool : byteAt l 0 = q.pool ∨ q.depth = 0)
    (hroom : s.committedRes - q.res + beAt l 2 4 ≤ s.reg 0x7000 8) : Completes (.setLimits o h l) s fun t => t.tm =
      (State.startReadback 4 ((s.setQueue (handleIndex h) { q with params := q.params.take 6 ++ l ++ q.params.drop 24 }).abandonSpills
        (handleIndex h)) (handleIndex h)).tm := by
  refine completes_of_octets (by decide +kernel) rfl hok (queueSetEffect_limits hh hhandle hq hgood hpool hroom) ?_
  simp only [State.endWrite_same]

/-! ### MCAST_SET (R293) -/

/-- Handles that all pass their checks, no two the same, become the members of the group where entries are left for them. -/
theorem mcastSetEffect_sets {v : List Byte} {n : Nat} {hs : List Nat} {s : State} (hn : byteAt v 2 = n) (hfew : n ≤ 64)
    (hlen : v.length = 4 + 4 * n) (hzero : byteAt v 3 = 0) (hhs : handlesOf n (v.drop 4) = hs)
    (hhandles : ∀ h ∈ hs, s.checkHandle 1 h = .ok) (hnodup : hs.Nodup)
    (hroom : s.memberCount - (mgetD [] s.tm.groups (beAt v 0 2)).length + n ≤ 524288) :
    mcastSetEffect v s = (.ok, { s with tm := { s.tm with groups := mset [] s.tm.groups (beAt v 0 2) hs } }) := by
  have hlong : ¬(v.length < 4 ∨ v.length ≠ 4 + 4 * n) := by omega
  have hbad : hs.findSome? (fun h => if s.checkHandle 1 h = Status.ok then none else some (s.checkHandle 1 h)) = none :=
    List.findSome?_eq_none_iff.mpr fun h hh => if_pos (hhandles h hh)
  have hgood : ¬(64 < n ∨ byteAt v 3 ≠ 0 ∨ (!decide hs.Nodup) = true) := by
    simp [hzero, hnodup, hfew]
  simp only [mcastSetEffect, hn, hhs, if_neg hlong, hbad, if_neg hgood, if_neg (Nat.not_lt.mpr hroom)]

theorem execMcastSet_sets {o : Origin} {v : List Byte} {n : Nat} {hs : List Nat} {s : State} (hok : s.checkWrite o 0x7601 1 v = .ok)
    (hn : byteAt v 2 = n) (hfew : n ≤ 64) (hlen : v.length = 4 + 4 * n) (hzero : byteAt v 3 = 0) (hhs : handlesOf n (v.drop 4) = hs)
    (hhandles : ∀ h ∈ hs, s.checkHandle 1 h = .ok) (hnodup : hs.Nodup)
    (hroom : s.memberCount - (mgetD [] s.tm.groups (beAt v 0 2)).length + n ≤ 524288) : Completes (.mcastSet o v) s fun t =>
      t.tm.groups = mset [] s.tm.groups (beAt v 0 2) hs := by
  refine completes_of_octets (by decide +kernel) rfl hok (mcastSetEffect_sets hn hfew hlen hzero hhs hhandles hnodup hroom) ?_
  simp only [State.endWrite_same]

/-! ### SCHED_SET (R302, R305) -/

/-- An attachment as SCHED_SET writes it. -/
def Attach.setBy (v : List Byte) (now : Nat) (a : Attach) : Attach := { a with
  priority := byteAt v 4, gate := byteAt v 5, lenAdjust := toSigned 8 (byteAt v 6), quantum := beAt v 8 4, rate := beAt v 12 4
  burst := beAt v 16 4, tokens := min ((beAt v 16 4 * 65536 : Nat) : Int) (a.tokensAt now), last := now }

/-- A changed attachment is read back changed. -/
theorem State.setAttach_attach (s : State) (c : Child) (f : Attach → Attach) : (s.setAttach c f).attach c = (s.attach c).map f := by
  cases c with
  | queue i =>
    cases hq : mget s.tm.queues i with
    | none => simp only [State.setAttach, State.attach, hq, Option.map_none]
    | some q => simp only [State.setAttach, State.attach, State.setQueue, hq, mget_mput_same, Option.map_some]
  | node i =>
    cases hn : mget s.tm.nodes i with
    | none => simp only [State.setAttach, State.attach, hn, Option.map_none]
    | some n => simp only [State.setAttach, State.attach, State.setNode, hn, mget_mput_same, Option.map_some]

/-- A node stored with another round list serves its children, and is served, as before. -/
theorem State.setNode_attach {s : State} {p : Nat} {n : SchedNode} (hn : mget s.tm.nodes p = some n) (r : List Child) (c : Child) :
    (s.setNode p { n with round := r }).attach c = s.attach c := by
  cases c with
  | queue i => rfl
  | node i =>
    by_cases h : i = p
    · subst h
      simp only [State.attach, State.setNode, mget_mput_same, hn, Option.map_some]
    · simp only [State.attach, State.setNode, mget_mput_other h]

/-- A SCHED_SET that is taken sets the attachment of its target, whether or not the target moves in its round list. -/
theorem schedSetEffect_attach {v : List Byte} {s u : State} {ch : Child} (heffect : schedSetEffect v s = (.ok, u))
    (hch : s.targetOf (beAt v 0 4) = .ok ch) : u.attach ch = (s.attach ch).map (Attach.setBy v s.now) := by
  simp only [schedSetEffect, hch] at heffect
  obtain ⟨-, hrefused⟩ | ⟨-, heffect⟩ := cases_of_ite_eq heffect
  · cases hrefused
  obtain ⟨-, hrefused⟩ | ⟨-, heffect⟩ := cases_of_ite_eq heffect
  · cases hrefused
  obtain rfl := (Prod.mk.inj heffect).2
  rw [← State.setAttach_attach]
  split
  · rfl
  · split
    · rfl
    · split
      · exact State.setNode_attach ‹_› _ _
      · rfl

theorem execSchedSet_sets {o : Origin} {v : List Byte} {u s : State} (hok : s.checkWrite o 0x7802 1 v = .ok)
    (heffect : schedSetEffect v s = (.ok, u)) : Completes (.schedSet o v) s fun t =>
      t.tm = u.tm ∧ ∀ ch, s.targetOf (beAt v 0 4) = .ok ch → (s.attach ch).isSome = true →
        (t.attach ch).any (fun a => decide (a.priority = byteAt v 4 ∧ a.gate = byteAt v 5 ∧ a.quantum = beAt v 8 4 ∧
          a.rate = beAt v 12 4 ∧ a.burst = beAt v 16 4 ∧ a.last = s.now)) = true := by
  refine completes_of_octets (by decide +kernel) rfl hok heffect ?_
  have htm : (u.endWrite o 0x7802 1 v .ok).tm = u.tm := by simp only [State.endWrite_same]
  refine ⟨htm, fun ch hch hsome => ?_⟩
  obtain ⟨a, ha⟩ := Option.isSome_iff_exists.mp hsome
  have hread : (u.endWrite o 0x7802 1 v .ok).attach ch = u.attach ch := by cases ch <;> simp only [State.attach, htm]
  rw [hread, schedSetEffect_attach heffect hch, ha]
  simp [Attach.setBy]

/-! ### METER_SET (R316) -/

/-- A METER_SET with good parameters and a slice byte of 0 sets all of them but the slice. -/
theorem meterSetEffect_sets {v : List Byte} {m : Meter} {s : State} (hlen : v.length = 36) (hhandle : s.checkHandle 3 (beAt v 0 4) = .ok)
    (hgood : meterParamsOk (v.drop 4) = true) (hslice : byteAt (v.drop 4) 2 = 0) (hm : mget s.meters (handleIndex (beAt v 0 4)) = some m) :
    ∃ x : Meter, x.params = patch (v.drop 4) 2 (slice m.params 2 1) ∧
      meterSetEffect v s = (.ok, { s with meters := mput s.meters (handleIndex (beAt v 0 4)) x }) := by
  simp only [meterSetEffect, hlen, hhandle, hgood, hslice, hm, ne_eq, not_true_eq_false, if_false, Bool.not_true, Bool.false_eq_true, or_self]
  refine ⟨_, ?_, rfl⟩
  split <;> rfl

theorem execMeterSet_sets {o : Origin} {v : List Byte} {m : Meter} {s : State} (hok : s.checkWrite o 0x7C02 1 v = .ok)
    (hlen : v.length = 36) (hhandle : s.checkHandle 3 (beAt v 0 4) = .ok) (hgood : meterParamsOk (v.drop 4) = true)
    (hslice : byteAt (v.drop 4) 2 = 0) (hm : mget s.meters (handleIndex (beAt v 0 4)) = some m) : Completes (.meterSet o v) s fun t =>
      ∃ x, mget t.meters (handleIndex (beAt v 0 4)) = some x ∧ x.params = patch (v.drop 4) 2 (slice m.params 2 1) := by
  obtain ⟨x, hx, heffect⟩ := meterSetEffect_sets hlen hhandle hgood hslice hm
  refine completes_of_octets (by decide +kernel) rfl hok heffect ⟨x, ?_, hx⟩
  simp only [State.endWrite_same]
  exact mget_mput_same

/-! ### Gate lists (R317 to R319) -/

/-- Time as IEEE 1588 has it is the same in states of one mode, one clock, one time and one correction. -/
theorem On.ptp_same {ps : Nat} {s t : State} (h : On inS ps s t) (hports : ps.testBit 11 = false) (hnow : ps.testBit 18 = false)
    (hmode : ps.testBit 24 = false) (hppt : ps.testBit 0x51 = false) : t.ptp = s.ptp := by
  simp only [State.ptp, State.clockFine, h.mode_same hmode, h.ports_same hports, h.now_same hnow, h.reg_same (i := 0x3100) 3 hppt]

theorem State.gateList_congr {s t : State} (h : t.tm.gateLists = s.tm.gateLists) (k : Nat) : t.gateList k = s.gateList k := by
  simp only [State.gateList, h]

@[simp] theorem State.endWrite_gateList (s : State) (o : Origin) (i j : Nat) (c : List Byte) (st : Status) (k : Nat) :
    (s.endWrite o i j c st).gateList k = s.gateList k := State.gateList_congr (by simp only [State.endWrite_same]) k

@[simp] theorem State.setReg_gateList (s : State) (i j v k : Nat) : (s.setReg i j v).gateList k = s.gateList k := rfl

/-- Storing a gate list writes no object of another index than its state. -/
theorem State.setGateList_reg (s : State) (k : Nat) (g : GateList) {i : Nat} (h : i ≠ 0x7E04) (j : Nat) :
    (s.setGateList k g).reg i j = s.reg i j := State.setReg_other _ _ (okey_ne_of_index h _ _)

/-- A good administrative list becomes pending at its change time. -/
theorem State.pendList_pends {s : State} {k : Nat} (hgood : gateListGood (s.oct 0x7E02 k) = true) :
    ((s.pendList k).gateList k).pending = some (s.oct 0x7E02 k, changeTime (s.oct 0x7E02 k) s.ptp) := by
  simp only [State.pendList, hgood, Bool.not_true, Bool.false_eq_true, if_false]
  rw [State.setReg_gateList, State.setGateList_gateList]

/-- A list that becomes pending leaves its enable as it was. -/
theorem State.pendList_enable (s : State) (k : Nat) : (s.pendList k).reg 0x7E05 k = s.reg 0x7E05 k := by
  simp only [State.pendList]
  split
  · rfl
  · rw [State.setReg_other _ _ (okey_ne_of_index (by decide) _ _), State.setGateList_reg _ _ _ (by decide)]

theorem execWindowAdmin_stores {o : Origin} {k : Nat} {v : List Byte} {s : State} (hs : s.StoresRise)
    (hok : s.checkTargetFor true (s.roleOf o) 0x7E02 k v.length = .ok) (hgood : gateListGood v = true) (hoff : s.reg 0x7E05 k = 0) :
    Completes (.windowAdmin o k v) s fun t => t.oct 0x7E02 k = v := by
  have hstays : ¬(s.setOct 0x7E02 k v).reg 0x7E05 k = 1 := by
    simp only [State.setOct_fields, hoff]
    decide
  refine ⟨_, rfl, ?_⟩
  simp only [State.runBlob, hok, windowAdminEffect, hgood, Bool.not_true, Bool.false_eq_true, if_false, if_neg hstays, State.endWrite_same]
  exact State.setOct_oct _ _ _ _ hs.octs

theorem execWindowEnable_off {o : Origin} {k : Nat} {s : State} (hs : s.StoresRise) (hok : s.checkWrite o 0x7E05 k [0] = .ok) :
    Completes (.windowEnable o k [0]) s fun t => t.reg 0x7E05 k = 0 ∧ t.gateList k = .reset := by
  refine completes_of_write (u := (s.setReg 0x7E05 k 0).setGateList k .reset) rfl hok ?_ ?_
  · rw [canonical_singleton]
    rfl
  · simp only [State.endWrite_same, State.endWrite_gateList, State.setGateList_gateList, and_true]
    rw [State.setGateList_reg _ _ _ (by decide)]
    exact State.setReg_reg _ _ _ _ hs.objs

theorem execWindowEnable_pends {o : Origin} {k : Nat} {s : State} (hs : s.StoresRise) (hok : s.checkWrite o 0x7E05 k [1] = .ok)
    (hoff : s.reg 0x7E05 k = 0) (hgood : gateListGood (s.oct 0x7E02 k) = true) : Completes (.windowEnable o k [1]) s fun t =>
      t.reg 0x7E05 k = 1 ∧ (t.gateList k).pending = some (s.oct 0x7E02 k, changeTime (s.oct 0x7E02 k) s.ptp) := by
  have henabled : On inS 0x4000000000000000000000000000000000000000 s (s.setReg 0x7E05 k 1) := State.setReg_keeps (.of_land rfl) .start
  refine completes_of_write (u := (s.setReg 0x7E05 k 1).pendList k) rfl hok ?_ ?_
  · simp [canonical_singleton, windowEnableEffect, hoff, beNat]
  · simp only [State.endWrite_same, State.endWrite_gateList, State.pendList_enable]
    refine ⟨State.setReg_reg _ _ _ _ hs.objs, ?_⟩
    have hpending := State.pendList_pends (s := s.setReg 0x7E05 k 1) hgood
    rwa [henabled.ptp_same rfl rfl rfl rfl] at hpending

/-- A free port is bound to a list that is off: only the frames of MACs change their places with it (R317). -/
theorem windowPortEffect_binds {k : Nat} {p : Byte} {s : State} (hport : p.toNat < 128) (hoff : s.reg 0x7E05 k = 0)
    (hfree : ∀ j, j < 32 → j ≠ k → s.reg 0x7E01 j ≠ p.toNat) : ∃ u : State, u.objs = (s.setReg 0x7E01 k p.toNat).objs ∧
      windowPortEffect k [p] s = (.ok, u) := by
  have hread : beNat [p] = p.toNat := by simp [beNat]
  have hbound : (List.range 32).any (fun j => decide (j ≠ k) && decide (s.reg 0x7E01 j = p.toNat)) = false := by
    rw [List.any_eq_false]
    intro j hj
    by_cases h : j = k
    · simp [h]
    · simp [hfree j (List.mem_range.mp hj) h]
  have hgood : ¬((128 ≤ p.toNat ∧ p.toNat ≠ 0xFF) ∨ (p.toNat ≠ 0xFF ∧
      (List.range 32).any (fun j => decide (j ≠ k) && decide (s.reg 0x7E01 j = p.toNat)) = true)) := by
    rw [hbound]
    simp [Nat.not_le.mpr hport]
  have hidle : ¬s.reg 0x7E05 k = 1 := by
    rw [hoff]
    decide
  simp only [windowPortEffect, hread]
  rw [if_neg hgood, if_neg hidle]
  refine ⟨_, ?_, rfl⟩
  split <;> split <;> rfl

theorem execWindowPort_binds {o : Origin} {k : Nat} {p : Byte} {s : State} (hs : s.StoresRise) (hok : s.checkWrite o 0x7E01 k [p] = .ok)
    (hport : p.toNat < 128) (hoff : s.reg 0x7E05 k = 0) (hfree : ∀ j, j < 32 → j ≠ k → s.reg 0x7E01 j ≠ p.toNat) :
    Completes (.windowPort o k [p]) s fun t => t.reg 0x7E01 k = p.toNat := by
  obtain ⟨u, hu, heffect⟩ := windowPortEffect_binds hport hoff hfree
  refine completes_of_write (u := u) rfl hok ?_ ?_
  · rwa [canonical_singleton]
  · simp only [State.endWrite_same]
    rw [State.reg, hu]
    exact State.setReg_reg _ _ _ _ hs.objs

/-! ### The watch list (R323) -/

theorem execWatchQueue_sets {o : Origin} {w : Nat} {v : List Byte} {s : State} (hs : s.StoresRise)
    (hok : s.checkWrite o (0x7880 + w / 256) (w % 256) v = .ok) : Completes (.watchQueue o w v) s fun t =>
      t.reg (0x7880 + w / 256) (w % 256) = beNat (canonical o.be (typeOf (0x7880 + w / 256) (w % 256)) v) ∧
        (mgetD .reset t.tm.watches w).since = s.now := by
  refine completes_of_write rfl hok rfl ?_
  simp only [State.endWrite_same]
  refine ⟨State.setReg_reg _ _ _ _ hs.objs, ?_⟩
  rw [mgetD, mget_mput_same]
  rfl

/-- A sample takes no packet out of a histogram (R518). -/
theorem State.watchSample_bins (s : State) (i w : Nat) :
    (mgetD .reset (s.watchSample i).tm.watches w).bins = (mgetD .reset s.tm.watches w).bins := by
  unfold State.watchSample
  split
  · rfl
  case h_2 q hq =>
    clear hq
    generalize s.watchers i = l
    induction l generalizing s with
    | nil => rfl
    | cons a l ih =>
      rw [List.foldl_cons, ih]
      dsimp only
      split
      · rfl
      · by_cases h : w = a
        · subst h
          rw [mgetD, mget_mput_same]
          rfl
        · rw [mgetD, mget_mput_other h, mgetD]

theorem State.watchSample_now (s : State) (i : Nat) : (s.watchSample i).now = s.now :=
  (State.watchSample_keeps (Covers.refl _) .start).now_same rfl

/-- The end of an interval begins the next one now, and keeps the histogram. -/
theorem State.endInterval_begins (s : State) (w : Nat) : (s.endInterval w).now = s.now ∧
    (mgetD .reset (s.endInterval w).tm.watches w).since = s.now ∧
    (mgetD .reset (s.endInterval w).tm.watches w).bins = (mgetD .reset s.tm.watches w).bins := by
  simp only [State.endInterval, State.setOct_fields, mgetD, mget_mput_same, Option.getD_some]
  split
  · exact ⟨s.watchSample_now _, s.watchSample_now _, s.watchSample_bins _ w⟩
  · exact ⟨rfl, rfl, rfl⟩

theorem execWatchIntervalEnd_begins {w : Nat} {s : State} (hw : w < 4096) (hmode : s.mode ≠ .dormant) :
    Completes (.watchIntervalEnd w) s fun t => (mgetD .reset t.tm.watches w).since = t.now ∧
      (mgetD .reset t.tm.watches w).bins = (mgetD .reset s.tm.watches w).bins ∧
      (mgetD .reset s.tm.watches w).since + s.reg 0x78A0 1 * 1000 ≤ t.now := by
  obtain ⟨hnow, hsince, hbins⟩ :=
    (s.reach ((mgetD .reset s.tm.watches w).since + s.reg 0x78A0 1 * 1000)).endInterval_begins w
  refine ⟨_, rfl, ?_⟩
  simp only [Nat.not_le.mpr hw, hmode, or_self, if_false]
  rw [hnow, hsince, hbins]
  exact ⟨rfl, rfl, Nat.le_max_right ..⟩

/-- Settles O15: each command by the lemma of its meaning. -/
theorem queueAndWindowCommandsComplete : Obligations.QueueAndWindowCommandsComplete := by
  refine ⟨?enable, ?disable, ?setLimits, ?mcastSet, ?schedSet, ?meterSet, ?windowAdmin, ?windowOff, ?windowPends, ?windowPort, ?watchQueue,
    ?watchIntervalEnd⟩
  case enable => exact fun _ _ _ _ => execEnable_enables
  case disable => exact fun _ _ _ _ => execDisable_disables
  case setLimits => exact fun _ _ _ _ _ => execSetLimits_sets
  case mcastSet => exact fun _ _ _ _ _ => execMcastSet_sets
  case schedSet => exact fun _ _ _ _ => execSchedSet_sets
  case meterSet => exact fun _ _ _ _ => execMeterSet_sets
  case windowAdmin => exact fun _ _ _ _ => execWindowAdmin_stores
  case windowOff => exact fun _ _ _ => execWindowEnable_off
  case windowPends => exact fun _ _ _ => execWindowEnable_pends
  case windowPort => exact fun _ _ _ _ => execWindowPort_binds
  case watchQueue => exact fun _ _ _ _ hs hok _ => execWatchQueue_sets hs hok
  case watchIntervalEnd => exact fun _ _ => execWatchIntervalEnd_begins

end Sys2Proof.Machine
end

section
/-! The traffic manager: verdicts, copies, spill and read-back, and releases (R271, R274, R281, R282, R294, R295, R306, R339). -/

namespace Sys2Proof.Machine

/-! ### Breakwater and the replication engine (R271, R274, R294, R295) -/

/-- A packet from the fabric that the round robin gives is judged in full, and decides no entry of an active's stream. -/
theorem execBreakwaterVerdict_judges {n : Nat} {w : Waiting} {s : State} (hn : n < 16) (hmode : s.mode = .proportional)
    (hturned : s.pair.turned = false) (hw : s.nextWaiting n = some w) (hfabric : w.fromFabric = true) :
    Completes (.breakwaterVerdict n) s fun t =>
      t = ((s.setTmSlice n { s.tmSlice n with nextSrc := (w.src + 1) % 33 }).judge n w .full false).2 := by
  refine ⟨_, rfl, ?_⟩
  simp [Nat.not_le.mpr hn, hmode, hturned, hw, hfabric]

/-- An engine that has begun a packet begins no other. -/
theorem State.beginReplication_begun {s : State} {n : Nat} {x : Repl} {rest : List Repl} (hx : (s.tmSlice n).replFe = x :: rest)
    (hmembers : x.members.isSome = true) : s.beginReplication n = s := by
  simp [State.beginReplication, hx, hmembers]

/-- A copy that joins what waits at a slice leaves the replication queues of every slice as they were. -/
theorem State.setTmSlice_waiting_replFe (s : State) (k : Nat) (l : List Waiting) (n : Nat) :
    ((s.setTmSlice k { s.tmSlice k with waiting := l }).tmSlice n).replFe = (s.tmSlice n).replFe := by
  by_cases h : n = k
  · subst h
    rw [State.setTmSlice_tmSlice]
  · rw [State.setTmSlice_tmSlice_other _ _ _ h]

theorem execReplicateCopy_copies {n : Nat} {x : Repl} {rest : List Repl} {h h' : Nat} {more : List Nat} {s : State} (hn : n < 16)
    (hx : (s.tmSlice n).replFe = x :: rest) (hmembers : x.members = some (h :: h' :: more)) : Completes (.replicateCopy n) s fun t =>
      (t.tmSlice n).replFe = { x with members := some (h' :: more) } :: rest ∧ (mget t.tm.stored x.id).isSome = true := by
  have hbegun := State.beginReplication_begun hx (by rw [hmembers]; rfl)
  refine ⟨_, rfl, ?_⟩
  simp only [Nat.not_le.mpr hn, if_false, hbegun, hx, hmembers, List.head?_cons, Option.any_some, Option.isSome_some, if_true,
    List.isEmpty_cons, Bool.false_eq_true]
  refine ⟨(State.setTmSlice_waiting_replFe _ _ _ n).trans ?_, ?_⟩
  · exact congrArg TmSlice.replFe (State.setTmSlice_tmSlice s n { s.tmSlice n with replFe := _ })
  · exact Option.isSome_iff_exists.mpr ⟨_, mget_mput_same⟩

/-! ### Spill and read-back (R281, R282) -/

/-- A segment that starts takes the next number; what it does at the HBM is none of the traffic manager's. -/
theorem execSpillSegmentStart_starts {i : Nat} {q : Queue} {s : State} (hon : s.spillOn = true) (hactive : s.stacksActive = true)
    (hroom : s.usedSegments < s.reg 0x7000 7 * 32768) (hchoice : s.spillChoice = some (i, q)) : Completes .spillSegmentStart s fun t =>
      t.tm.nextSeg = s.tm.nextSeg + 1 ∧ t.tm.spilling = true := by
  have hserved : ¬((!s.spillOn) = true ∨ s.reg 0x7000 7 = 0 ∨ (!s.stacksActive) = true ∨ s.reg 0x7000 7 * 32768 ≤ s.usedSegments) := by
    simp only [hon, hactive, Bool.not_true, Bool.false_eq_true, false_or]
    omega
  refine ⟨_, rfl, ?_⟩
  simp only [if_neg hserved, hchoice]
  rw [On.tm_same (State.segmentAccess_keeps (ps := 0x2000000000000000000000000000000100400) (.of_land rfl)
    (State.touchHbm_keeps (.of_land rfl) .start)) rfl]
  exact ⟨rfl, hon⟩

/-- Read-backs begin without the counters of spill, and in one mode. -/
theorem State.startReadback_reads (fuel : Nat) (s : State) (i j : Nat) :
    (State.startReadback fuel s i).reg 0x7050 j = s.reg 0x7050 j ∧ (State.startReadback fuel s i).mode = s.mode := by
  have hkeeps : On inS _ s (State.startReadback fuel s i) := State.startReadback_keeps (Covers.refl _) .start
  exact ⟨hkeeps.reg_same j rfl, hkeeps.mode_same rfl⟩

theorem execSpillWriteDone_counts {seg i : Nat} {q : Queue} {s : State} (hs : s.StoresRise)
    (hq : s.queueOfSegment (.writing seg) = some (i, q)) : Completes (.spillWriteDone seg) s fun t =>
      t.reg 0x7050 1 = (s.reg 0x7050 1 + 1) % counterSpan 0x7050 1 := by
  refine ⟨_, rfl, ?_⟩
  simp only [hq]
  exact (State.startReadback_reads ..).left.trans (State.count_reg _ _ _ _ hs.objs)

/-- Packets of a segment that was read back without an error: on-die again. -/
def Queue.readBack (q : Queue) (seg : Nat) : List Held :=
  q.packets.map fun h => if h.location = .reading seg then { h with location := .onDie } else h

/-- No packet of a segment that is back is still being read. -/
theorem Queue.readBack_location (q : Queue) (seg : Nat) : ∀ h ∈ q.readBack seg, ¬h.location = .reading seg := by
  intro h hh
  obtain ⟨g, -, rfl⟩ := List.mem_map.mp hh
  split
  · exact Location.noConfusion
  · assumption

/-- Where a test picks no packet of a queue, none is lost. -/
theorem State.losePackets_none {s : State} {i : Nat} {q : Queue} {pick : Held → Bool} (hq : mget s.tm.queues i = some q)
    (hnone : ∀ h ∈ q.packets, ¬pick h = true) : s.losePackets i pick = s := by
  have hgone : q.packets.filter pick = [] := List.filter_eq_nil_iff.mpr hnone
  simp only [State.losePackets, State.dropPackets, hq, hgone, List.isEmpty_nil, if_true, List.foldl_nil]

/-- Reads without errors note that each pseudo-channel reads clean, and nothing else (R409). -/
theorem State.readErrors_clean (s : State) (seg : Nat) : On inS 0x400 s (s.readErrors seg [] []) := by
  simp only [State.readErrors, List.foldl_nil]
  exact .foldl .start fun _ _ h => .ite h (State.cleanRead_keeps (.of_land rfl) h)

theorem execReadbackDone_counts {seg i : Nat} {q : Queue} {s : State} (hs : s.StoresRise)
    (hq : s.queueOfSegment (.reading seg) = some (i, q)) : Completes (.readbackDone seg [] [] [] false) s fun t =>
      t.reg 0x7050 2 = (s.reg 0x7050 2 + 1) % counterSpan 0x7050 2 ∧ t.mode = s.mode := by
  let back := (s.setQueue i { q with packets := q.readBack seg }).bump 0x7050 2
  have hclean := back.readErrors_clean seg
  have hstart := State.startReadback_reads 4 (back.readErrors seg [] []) i 2
  refine ⟨State.startReadback 4 (back.readErrors seg [] []) i, ?_, ?_, ?_⟩
  · have hback : mget back.tm.queues i = some { q with packets := q.readBack seg } := by
      simp only [back, State.bump_count, State.count_fields]
      exact mget_mput_same
    have hlost : back.losePackets i (fun h => decide (h.location = .reading seg)) = back :=
      State.losePackets_none hback fun h hh => by simpa using q.readBack_location seg h hh
    have hany : (q.readBack seg).any (fun h => decide (h.location = .reading seg)) = false :=
      List.any_eq_false.mpr fun h hh => by simpa using q.readBack_location seg h hh
    have hmarked : (q.packets.mapIdx fun _ h => if h.location = .reading seg then { h with location := .onDie } else h) =
        q.readBack seg :=
      List.ext_getElem (by simp [Queue.readBack]) fun k _ _ => by simp [Queue.readBack]
    change execReadbackDone seg [] [] [] false s = _
    simp only [execReadbackDone, hq, List.contains_nil, Bool.or_false, Bool.false_eq_true, if_false, hmarked, hany, Bool.false_and]
    rw [hlost]
  · rw [hstart.left, hclean.reg_same 2 rfl]
    exact State.count_reg _ _ _ _ hs.objs
  · rw [hstart.right, hclean.mode_same rfl]
    simp only [back, State.bump_count, State.count_fields, State.setQueue_fields]

/-! ### Releases (R306, R339) -/

/-- The choice of a root, the release of its packet and the charge of its path leave the slices alone. -/
theorem released_sliceAt {n p q len delay depth charge bytes : Nat} {u v : State} {h : Held} {s : State} {ports : List Nat}
    (hgives : ports.findSome? (fun p => (s.rootGives p).map fun r => (p, r)) = some (p, q, len, u))
    (hrelease : u.release q = some (h, delay, depth, v)) :
    (State.chargePath 4 v (.queue q) charge bytes).sliceAt n = s.sliceAt n := by
  have hchosen : On inS 0x10200000000000000000003000000000000000000000000000000304480 s u :=
    .get hgives (.findSome fun _ => .mapOf (State.rootGives_keeps (.of_land rfl) .start) fun _ => .pair) rfl
  have hreleased : On inS 0x10200000000000000000003000000000000000000000000000000304480 s v :=
    .get hrelease (State.release_keeps (.of_land rfl) hchosen) rfl
  exact (State.chargePath_keeps (.of_land rfl) hreleased).sliceAt_same rfl n

theorem execSchedDecision_takes {n p q len delay depth : Nat} {u v : State} {h : Held} {s : State} (hn : n < 16)
    (hfe : (s.sliceAt n).feAsleep = false) (htm : (s.sliceAt n).tmAsleep = false)
    (hgives : ((((List.range 128).map fun k => ((s.tmSlice n).nextPort + k) % 128).filter fun p => decide (s.reg 0x3001 p = n)).findSome?
      fun p => (s.rootGives p).map fun r => (p, r)) = some (p, q, len, u))
    (hrelease : u.release q = some (h, delay, depth, v)) : Completes (.schedDecision n) s fun t =>
      (t.tmSlice n).nextPort = (p + 1) % 128 ∧ ∃ x, (t.sliceAt n).egressQ = (s.sliceAt n).egressQ ++ [x] ∧ x.frame = h.frame := by
  refine ⟨_, rfl, ?_⟩
  simp only [Nat.not_le.mpr hn, if_false, hgives, hfe, htm, Bool.false_eq_true, or_self, hrelease, State.setTmSlice_tmSlice, true_and]
  refine ⟨egressPacket h q p (((mget s.tm.queues q).map fun x => x.att.gate).getD 0) len delay depth, ?_, rfl⟩
  rw [← released_sliceAt (charge := len) (bytes := h.frame.length) hgives hrelease]
  exact congrArg Slice.egressQ (State.setSlice_sliceAt ..)

/-- A released packet's cells and its sending context are the fabric's own. -/
theorem execVoqRelease_releases {n i l delay depth : Nat} {q : Queue} {h : Held} {u s : State} (hn : n < 16) (hmay : s.mayCarry = true)
    (hswitching : s.pair.switching = false) (hnext : s.voqNext n = some (i, l)) (hq : mget s.tm.queues i = some q)
    (hrelease : s.release i = some (h, delay, depth, u)) : Completes (.voqRelease n) s fun t => t.tm = u.tm := by
  refine ⟨_, rfl, ?_⟩
  simp only [hmay, hswitching, Nat.not_le.mpr hn, Bool.not_true, Bool.false_eq_true, or_self, if_false, hnext, hq, hrelease]
  rw [On.tm_same (State.requestCheck_keeps (ps := 0x20100) (.of_land rfl) (State.pumpLink_keeps (.of_land rfl) .start)) rfl]
  rfl

/-- Settles O6: each command by the lemma of its meaning. -/
theorem trafficCommandsComplete : Obligations.TrafficCommandsComplete := by
  refine ⟨?breakwaterVerdict, ?replicateCopy, ?spillSegmentStart, ?spillWriteDone, ?readbackDone, ?schedDecision, ?voqRelease⟩
  case breakwaterVerdict => exact fun _ _ _ => execBreakwaterVerdict_judges
  case replicateCopy => exact fun _ _ _ _ _ _ _ => execReplicateCopy_copies
  case spillSegmentStart => exact fun _ _ _ => execSpillSegmentStart_starts
  case spillWriteDone => exact fun _ _ _ _ => execSpillWriteDone_counts
  case readbackDone => exact fun _ _ _ _ => execReadbackDone_counts
  case schedDecision => exact fun _ _ _ _ _ _ _ _ _ _ => execSchedDecision_takes
  case voqRelease => exact fun _ _ _ _ _ _ _ _ _ => execVoqRelease_releases

end Sys2Proof.Machine
end

section
/-! The frames of fabric cells, their times and the link states. -/

namespace Sys2Proof.Machine

/-- Settles O39: each command's meaning keeps every part outside its list. -/
theorem fabricFrames : Obligations.FabricFrames := by
  refine ⟨?dataCell, ?idleCell, ?replayTimeout, ?reassemblyTimeout, ?reseqTimeout, ?request, ?grant, ?grantIssue, ?requestRefresh, ?hello,
    ?quiet, ?quietDone, ?quietTimeout, ?fault, ?linkFail, ?signalLossHoldExpiry, ?linkRetrain, ?linkUpHoldExpiry, ?fenceHoldExpiry,
    ?fabricMeasure, ?quadWakeDone⟩
  case dataCell => exact fun _ _ _ _ => .of_next (execDataCell_keeps (.of_land rfl) .start)
  case idleCell => exact fun _ _ _ _ => .of_next (execIdleCell_keeps (.of_land rfl) .start)
  case replayTimeout => exact fun _ _ _ => .of_next (execReplayTimeout_keeps (.of_land rfl) .start)
  case reassemblyTimeout => exact fun _ _ _ _ _ => .of_next (execReassemblyTimeout_keeps (.of_land rfl) .start)
  case reseqTimeout => exact fun _ _ _ _ => .of_next (execReseqTimeout_keeps (.of_land rfl) .start)
  case request => exact fun _ _ _ _ => .of_next (execRequest_keeps (.of_land rfl) .start)
  case grant => exact fun _ _ _ _ => .of_next (execGrant_keeps (.of_land rfl) .start)
  case grantIssue => exact fun _ _ => .of_next (execGrantIssue_keeps (.of_land rfl) .start)
  case requestRefresh => exact fun _ _ _ _ => .of_next (execRequestRefresh_keeps (.of_land rfl) .start)
  case hello => exact fun _ _ _ _ => .of_next (execHello_keeps (.of_land rfl) .start)
  case quiet => exact fun _ _ _ _ => .of_next (execQuiet_keeps (.of_land rfl) .start)
  case quietDone => exact fun _ _ _ _ => .of_next (execQuietDone_keeps (.of_land rfl) .start)
  case quietTimeout => exact fun _ _ _ => .of_next (execQuietTimeout_keeps (.of_land rfl) .start)
  case fault => exact fun _ _ _ _ => .of_next (execFault_keeps (.of_land rfl) .start)
  case linkFail => exact fun _ _ _ _ => .of_next (execLinkFail_keeps (.of_land rfl) .start)
  case signalLossHoldExpiry => exact fun _ _ _ => .of_next (execSignalLossHoldExpiry_keeps (.of_land rfl) .start)
  case linkRetrain => exact fun _ _ _ => .of_next (execLinkRetrain_keeps (.of_land rfl) .start)
  case linkUpHoldExpiry => exact fun _ _ _ => .of_next (execLinkUpHoldExpiry_keeps (.of_land rfl) .start)
  case fenceHoldExpiry => exact fun _ _ _ _ => .of_next (execFenceHoldExpiry_keeps (.of_land rfl) .start)
  case fabricMeasure => exact fun _ _ => .of_next (execFabricMeasure_keeps (.of_land rfl) .start)
  case quadWakeDone => exact fun _ _ _ _ => .of_next (execQuadWakeDone_keeps (.of_land rfl) .start)

end Sys2Proof.Machine
end

section
/-! Cells of the fabric: what is read back of a cell that was sent (R326 to R328). -/

namespace Sys2Proof.Machine

/-- The 96 header bits of a cell as a number (R327). -/
def headBits (kind : Nat) (first last : Bool) (dest unit link cls len seq ack : Nat) (nak : Bool) (credits : Nat) : Nat :=
  kind * 2 ^ 94 + first.toNat * 2 ^ 93 + last.toNat * 2 ^ 92 + dest * 2 ^ 80 + unit * 2 ^ 67 + link * 2 ^ 59 + cls * 2 ^ 56 + len * 2 ^ 48
    + seq * 2 ^ 32 + ack * 2 ^ 16 + nak.toNat * 2 ^ 15 + credits * 2 ^ 8

theorem fabHeader_length (kind : Nat) (first last : Bool) (dest unit link cls len seq ack : Nat) (nak : Bool) (credits : Nat) :
    (fabHeader kind first last dest unit link cls len seq ack nak credits).length = 12 := natBe_length ..

theorem ite_eq_toNat_mul (b : Bool) (n : Nat) : (if b then n else 0) = b.toNat * n := by
  cases b <;> simp

section
variable {kind dest unit link cls len seq ack credits : Nat} {first last nak : Bool} (hkind : kind < 4) (hdest : dest < 2 ^ 12)
  (hunit : unit < 2 ^ 12) (hlink : link < 2 ^ 8) (hcls : cls < 2 ^ 3) (hlen : len < 2 ^ 8) (hseq : seq < 2 ^ 16) (hack : ack < 2 ^ 16)
  (hcredits : credits < 2 ^ 7)
include hkind hdest hunit hlink hcls hlen hseq hack hcredits

/-- A header whose fields lie within their widths spells their bits. -/
theorem beNat_fabHeader : beNat (fabHeader kind first last dest unit link cls len seq ack nak credits) =
      headBits kind first last dest unit link cls len seq ack nak credits := by
  have hfirst := first.toNat_le
  have hlast := last.toNat_le
  have hnak := nak.toNat_le
  rw [fabHeader, beNat_natBe, headBits, ite_eq_toNat_mul, ite_eq_toNat_mul, ite_eq_toNat_mul]
  omega

/-- Each field of a header is read back at its place (R327). -/
theorem headBits_reads {h : Nat} (hh : h = headBits kind first last dest unit link cls len seq ack nak credits) :
    fld h 95 94 = kind ∧ fld h 91 80 = dest ∧ fld h 78 67 = unit ∧ fld h 66 59 = link ∧ fld h 58 56 = cls ∧ fld h 55 48 = len ∧
      fld h 47 32 = seq ∧ fld h 31 16 = ack ∧ fld h 14 8 = credits ∧ h % 256 = 0 := by
  have hfirst := first.toNat_le
  have hlast := last.toNat_le
  have hnak := nak.toNat_le
  simp only [headBits] at hh
  simp only [fld, Nat.shiftRight_eq_div_pow]
  and_intros <;> omega

omit hkind in
/-- The flags of a header are read back, and the bit that no field holds is 0 (R327). -/
theorem headBits_flags {h : Nat} (hh : h = headBits kind first last dest unit link cls len seq ack nak credits) :
    bitAt h 93 = first ∧ bitAt h 92 = last ∧ bitAt h 79 = false ∧ bitAt h 15 = nak := by
  have bit {k : Nat} {b : Bool} (hb : h / 2 ^ k % 2 = b.toNat) : bitAt h k = b := by
    rw [bitAt, Nat.testBit_eq_decide_div_mod_eq, hb]
    cases b <;> rfl
  have hfirst := first.toNat_le
  have hlast := last.toNat_le
  have hnak := nak.toNat_le
  simp only [headBits] at hh
  refine ⟨bit ?_, bit ?_, bit ?_, bit ?_⟩
  · omega
  · omega
  · rw [Bool.toNat_false]
    omega
  · omega

end

section
variable {hdr payload : List Byte} (hhdr : hdr.length = 12)
include hhdr

/-- A whole cell is its header, its check, its payload, and zeros to the next 32-byte boundary. -/
theorem wholeCell_eq : wholeCell hdr payload = hdr ++ (natBe (crc32cStd (hdr ++ payload)) 4 ++
    (payload ++ List.replicate ((32 - (16 + payload.length) % 32) % 32) 0)) := by
  have hlen : (hdr ++ natBe (crc32cStd (hdr ++ payload)) 4 ++ payload).length = 16 + payload.length := by
    simp only [List.length_append, natBe_length, hhdr]
  simp only [wholeCell, hlen]
  simp only [List.append_assoc]

theorem wholeCell_length : 16 + payload.length ≤ (wholeCell hdr payload).length ∧ (wholeCell hdr payload).length % 32 = 0 := by
  simp only [wholeCell_eq hhdr, List.length_append, List.length_replicate, natBe_length, hhdr]
  omega

theorem wholeCell_header : slice (wholeCell hdr payload) 0 12 = hdr := by
  rw [wholeCell_eq hhdr]
  exact slice_between (a := []) rfl hhdr

theorem wholeCell_payload : slice (wholeCell hdr payload) 16 payload.length = payload := by
  rw [wholeCell_eq hhdr, ← List.append_assoc]
  exact slice_between (by rw [List.length_append, natBe_length, hhdr]) rfl

/-- CELL_CRC is the check of header and payload. -/
theorem wholeCell_crc : beAt (wholeCell hdr payload) 12 4 = crc32cStd (hdr ++ payload) % 2 ^ 32 := by
  rw [beAt, wholeCell_eq hhdr, slice_between hhdr (natBe_length ..), beNat_natBe]
  rfl

end

/-- A step of a reflected register keeps it within the width of its polynomial. -/
theorem crcBit_lt {poly reg w : Nat} (hpoly : poly < 2 ^ w) (hreg : reg < 2 ^ w) : crcBit poly reg < 2 ^ w := by
  have hshift : reg >>> 1 < 2 ^ w := Nat.lt_of_le_of_lt (Nat.shiftRight_le ..) hreg
  rw [crcBit]
  split
  · exact Nat.xor_lt_two_pow hshift hpoly
  · exact hshift

theorem crcByte_lt {poly reg w : Nat} (hpoly : poly < 2 ^ w) (hreg : reg < 2 ^ w) (hw : 8 ≤ w) (b : Byte) : crcByte poly reg b < 2 ^ w := by
  have hb : b.toNat < 2 ^ w := Nat.lt_of_lt_of_le b.isLt (Nat.pow_le_pow_right (by decide) hw)
  have hr := Nat.xor_lt_two_pow hreg hb
  rw [crcByte]
  iterate 8 apply crcBit_lt hpoly
  exact hr

theorem crcRun_lt {poly reg w : Nat} (hpoly : poly < 2 ^ w) (hreg : reg < 2 ^ w) (hw : 8 ≤ w) (bs : List Byte) : crcRun poly reg bs < 2 ^ w := by
  induction bs generalizing reg with
  | nil => exact hreg
  | cons b bs ih => exact ih (crcByte_lt hpoly hreg hw b)

/-- A CRC-32C has 32 bits (R573). -/
theorem crc32cStd_lt (bs : List Byte) : crc32cStd bs < 2 ^ 32 :=
  Nat.xor_lt_two_pow (crcRun_lt (by decide) (by decide) (by decide) bs) (by decide)

/-- Settles O59: the parts of a cell are slices of it, and the fields of its header are read back from the number that it spells. -/
theorem fabricCellsReadBack : Obligations.FabricCellsReadBack := by
  intro kind first last dest unit link cls seq ack nak credits payload hkind hlen hdest hunit hlink hcls hseq hack hcredits c hc
  have hhdr := fabHeader_length kind first last dest unit link cls payload.length seq ack nak credits
  have hhead : cellHead c = headBits kind first last dest unit link cls payload.length seq ack nak credits := by
    rw [cellHead, beAt, hc, wholeCell_header hhdr]
    exact beNat_fabHeader (by omega) hdest hunit hlink hcls (by omega) hseq hack hcredits
  obtain ⟨hKind, hDest, hUnit, hLink, hCls, hLen, hSeq, hAck, hCredits, hlow⟩ :=
    headBits_reads (by omega) hdest hunit hlink hcls (by omega) hseq hack hcredits hhead
  obtain ⟨hFirst, hLast, hspare, hNak⟩ := headBits_flags hdest hunit hlink hcls (by omega) hseq hack hcredits hhead
  have hpayload : cellPayload c = payload := by
    rw [cellPayload, cellLen, hLen, hc, wholeCell_payload hhdr]
  obtain ⟨hlong, hblocks⟩ := wholeCell_length (payload := payload) hhdr
  rw [← hc] at hlong hblocks
  have hgood : cellGood c = true := by
    have hcrc : crc32cStd (slice c 0 12 ++ payload) = beAt c 12 4 := by
      rw [hc, wholeCell_header hhdr, wholeCell_crc hhdr, Nat.mod_eq_of_lt (crc32cStd_lt _)]
    simp [cellGood, cellLen, cellKind, hLen, hKind, hlen, hlong, hkind.ne, hspare, hlow, hpayload, hcrc]
  exact ⟨hgood, hKind, hLen, hpayload, hblocks, hFirst, hLast, hDest, hUnit, hLink, hCls, hSeq, hAck, hNak, hCredits⟩

end Sys2Proof.Machine
end

section
/-! What the fabric interface keeps while it answers what arrived (R86, R328, R342, R349). -/

namespace Sys2Proof.Machine

/-! ### States between which only what the unit sends changed -/

/-- The parts of the state that sending and handing over may touch: the fabric and the cells of the store, what leaves, and traces. -/
def sendingParts : Nat := 0x10000000000000000000000000000000000000000000000000000320180

/-- The fabric interface without what it sends: its links, the packets on them, and the pin tables. -/
def Fabric.received (x : Fabric) : Fabric := { x with links := [], sent := [], sentBits := 0, groups := [] }

/-- What a link has received, and where it stands in quieting: the number that it expects next, and whether QUIET has come and gone. -/
def Link.heard (x : Link) : Nat × Bool × Bool := (x.rxExpect, x.quietAsked, x.quietSent)

/-- From one state to the other only what the unit sends changed: nothing of what it has received. -/
structure SendsOnly (s t : State) : Prop where
  keeps : Keeps sendingParts s t
  received : t.fab.received = s.fab.received
  heard : ∀ k, (t.link k).heard = (s.link k).heard

section
variable {s t : State} (h : t.fab.received = s.fab.received)
include h

theorem State.quad_of_received (q : Nat) : t.quad q = s.quad q := (congrArg (fun x : Fabric => mgetD QuadState.awake x.quads q) h :)

theorem State.recvCtx_of_received (k : Nat) : t.recvCtx k = s.recvCtx k :=
  (congrArg (fun x : Fabric => mgetD RecvCtx.reset x.recv k) h :)

theorem State.sendCtx_of_received (k : Nat) : t.sendCtx k = s.sendCtx k :=
  (congrArg (fun x : Fabric => mgetD (SendCtx.mk 0 x.bootEra 0 false none 0 0) x.send k) h :)

theorem State.reasm_of_received : t.fab.reasm = s.fab.reasm := (congrArg Fabric.reasm h :)

end

section
variable {s t : State} (h : Keeps sendingParts s t)
include h

/-- Registers outside the page of the trace rings stand. -/
theorem Keeps.reg_sending {i : Nat} (j : Nat) (hpage : sendingParts.testBit (32 + i / 256 % 256) = false) : t.reg i j = s.reg i j :=
  (On.of_keeps h).reg_same j hpage

theorem Keeps.linkState_sending (l : Nat) : t.linkState l = s.linkState l := h.reg_sending (i := 0x3400) l rfl

theorem Keeps.mayTake_sending : t.mayTake = s.mayTake := by
  rw [State.mayTake, (On.of_keeps h).mode_same rfl, State.mayTake]

theorem Keeps.standby_sending : t.standby = s.standby := by
  rw [State.standby, State.standby, State.drainFromShadow, State.drainFromShadow, State.mode, State.mode, (On.of_keeps h).power_same rfl]

end

namespace SendsOnly

variable {s t u : State}

theorem refl (s : State) : SendsOnly s s := ⟨.refl _ s, rfl, fun _ => rfl⟩

theorem trans (h : SendsOnly s t) (k : SendsOnly t u) : SendsOnly s u :=
  ⟨h.keeps.trans k.keeps, k.received.trans h.received, fun n => (k.heard n).trans (h.heard n)⟩

theorem foldl {α : Type} {l : List α} {f : State → α → State} (hf : ∀ t a, SendsOnly t (f t a)) (s : State) :
    SendsOnly s (l.foldl f s) :=
  List.foldlRecOn (motive := SendsOnly s) _ _ (.refl s) fun t ht a _ => ht.trans (hf t a)

theorem of_cells (h : CellsOnly s t) (k : On inS sendingParts s t) : SendsOnly s t :=
  ⟨k.keeps, (congrArg (fun x : Fabric => { x with groups := [] }) h.beside :), fun n => (congrArg Link.heard (h.standing n) :)⟩

theorem pumpLink (s : State) (l : Nat) : SendsOnly s (s.pumpLink l) := .of_cells (.pumpLink s l) (State.pumpLink_keeps (.of_land rfl) .start)

theorem sendLocal (s : State) (l : Nat) (msg : List Byte) : SendsOnly s (s.sendLocal l msg) :=
  .of_cells (.sendLocal s l msg) (State.sendLocal_keeps (.of_land rfl) .start)

theorem sendIdle (s : State) (l : Nat) (nak : Bool) : SendsOnly s (s.sendIdle l nak) :=
  .of_cells (.sendFab ..) (State.sendIdle_keeps (.of_land rfl) .start)

theorem sendControl (s : State) (unit : Nat) (msg : List Byte) : SendsOnly s (s.sendControl unit msg) :=
  .of_cells (.sendControl s unit msg) (State.sendControl_keeps (.of_land rfl) .start)

theorem rxExpect_same (h : SendsOnly s t) (k : Nat) : (t.link k).rxExpect = (s.link k).rxExpect := congrArg Prod.fst (h.heard k)

theorem quietAsked_same (h : SendsOnly s t) (k : Nat) : (t.link k).quietAsked = (s.link k).quietAsked :=
  congrArg (fun x : Nat × Bool × Bool => x.2.1) (h.heard k)

theorem quietSent_same (h : SendsOnly s t) (k : Nat) : (t.link k).quietSent = (s.link k).quietSent :=
  congrArg (fun x : Nat × Bool × Bool => x.2.2) (h.heard k)

/-- A link stored that has heard the same. -/
theorem setLink {l : Nat} {x : Link} (h : x.heard = (s.link l).heard) : SendsOnly s (s.setLink l x) := by
  refine ⟨(State.setLink_keeps (.of_land rfl) .start).keeps, rfl, fun k => ?_⟩
  by_cases hk : k = l
  · rw [hk, State.setLink_link, h]
  · rw [State.setLink_link_other _ _ _ hk]

end SendsOnly

/-! ### Acknowledgements (R33, R342) -/

/-- A sent packet that is handed over leaves the fabric, and its cells are free. -/
def State.withoutSent (s : State) (id : Nat) (p : SentPacket) : State :=
  let u := s.trace p.held.traceId (byteAt p.held.record 2) (beAt p.held.record 0 2) 7 [0, BitVec.ofNat 8 (p.link.getD 0)]
  ({ u with fab := { u.fab with sent := mdel u.fab.sent id } }).freeHeld p.held

theorem State.withoutSent_fab (s : State) (id : Nat) (p : SentPacket) :
    (s.withoutSent id p).fab = { s.fab with sent := mdel s.fab.sent id } := by
  simp only [State.withoutSent]
  rw [(State.freeHeld_keeps (Covers.refl _) .start).fab_same rfl, (State.trace_keeps (Covers.refl _) .start).fab_same rfl]

/-- Handing a packet over changes the packets sent and a fence that waited for it (R341, R342). -/
theorem State.handOver_fab (s : State) (id : Nat) :
    ∃ sent groups, (s.handOver id).fab = { s.fab with sent := sent, groups := groups } := by
  rw [State.handOver]
  split
  · exact ⟨_, _, rfl⟩
  case h_2 p _ =>
    have hgroup (g : Nat) (x : FlowGroup) : ((s.withoutSent id p).setGroup g x).fab =
        { s.fab with sent := mdel s.fab.sent id, groups := mput s.fab.groups g x } := by
      rw [State.setGroup, State.withoutSent_fab]
    dsimp only
    split
    · exact ⟨_, _, hgroup ..⟩
    · exact ⟨_, _, s.withoutSent_fab id p⟩

theorem State.handOver_link (s : State) (id k : Nat) : (s.handOver id).link k = s.link k := by
  obtain ⟨sent, groups, h⟩ := s.handOver_fab id
  rw [State.link, h, State.link]

theorem SendsOnly.handOver (s : State) (id : Nat) : SendsOnly s (s.handOver id) := by
  obtain ⟨sent, groups, h⟩ := s.handOver_fab id
  refine ⟨(State.handOver_keeps (.of_land rfl) .start).keeps, ?_, fun k => by rw [State.handOver_link]⟩
  rw [h]
  rfl

/-- An acknowledgement that is no NAK hands packets over and sends what its credits allow (R342). -/
theorem SendsOnly.takeAck (s : State) (l ack credits : Nat) : SendsOnly s (s.takeAck l ack false credits) := by
  refine .trans ?_ (.pumpLink _ l)
  simp only [Bool.false_eq_true, if_false]
  refine .trans ?_ (.foldl .handOver _)
  exact .setLink rfl

/-- With no cells to send, an acknowledgement adds its credits to those of its link (R342). -/
theorem State.takeAck_credits {s : State} {l : Nat} (hresend : (s.link l).resend = []) (hfresh : (s.link l).fresh = []) (ack credits : Nat) :
    ((s.takeAck l ack false credits).link l).credits = (s.link l).credits + credits := by
  have hfold (ids : List Nat) (u : State) : (ids.foldl State.handOver u).link l = u.link l :=
    List.foldlRecOn (motive := fun t : State => t.link l = u.link l) _ _ rfl fun t ht id _ => (t.handOver_link id l).trans ht
  have hidle {u : State} (hr : (u.link l).resend = []) (hf : (u.link l).fresh = []) : u.pumpLink l = u := by
    simp [State.pumpLink, hr, hf]
  simp only [State.takeAck, Bool.false_eq_true, if_false]
  rw [hidle] <;> simp [hfold, hresend, hfresh]

/-! ### Quiet checks of a quad that is not being quieted (R349) -/

/-- A link whose far end asked it to be quiet answers once it is drained (R349). -/
def State.answerQuiet (s : State) (l : Nat) : State :=
  let x := s.link l
  if x.quietAsked && !x.quietAnswered && x.unacked.isEmpty && x.resend.isEmpty && x.fresh.isEmpty then
    (s.setLink l { x with quietAnswered := true }).sendLocal l (plainMessage 0x12)
  else s

theorem SendsOnly.answerQuiet (s : State) (l : Nat) : SendsOnly s (s.answerQuiet l) := by
  simp only [State.answerQuiet]
  split
  · refine .trans ?_ (.sendLocal ..)
    exact .setLink rfl
  · exact .refl s

theorem State.quietCheck_eq {s : State} {q : Nat} (h : ∀ u, s.quad q ≠ .quieting u) :
    s.quietCheck q = (quadLinks q).foldl State.answerQuiet s := by
  cases hquad : s.quad q with
  | quieting u => exact absurd hquad (h u)
  | _ =>
    simp only [State.quietCheck, hquad]
    rfl

/-- A quad whose links in quieting have all received QUIET_DONE turns OFF (R86 step 4). -/
theorem State.quietCheck_off {s : State} {q u : Nat} (hquad : s.quad q = .quieting u)
    (hdone : ∀ k ∈ quadLinks q, s.linkState k = 4 → (s.link k).quietDone = true) :
    s.quietCheck q = (quadLinks q).foldl State.answerQuiet (s.quadOff q) := by
  have hall : ((quadLinks q).filter fun l => decide (s.linkState l = 4)).all (fun l => (s.link l).quietDone) = true :=
    List.all_eq_true.mpr fun k hk => hdone k (List.mem_of_mem_filter hk) (of_decide_eq_true (List.mem_filter.mp hk).2)
  simp only [State.quietCheck, hquad, hall, if_true]
  rfl

theorem SendsOnly.quietCheck {s : State} {q : Nat} (h : ∀ u, s.quad q ≠ .quieting u) : SendsOnly s (s.quietCheck q) := by
  rw [State.quietCheck_eq h]
  exact .foldl .answerQuiet s

/-! Cells that leave a link are no other link's. -/

theorem State.sendFab_link_other (s : State) {l k : Nat} (h : k ≠ l) (kind : Nat) (first last : Bool) (dest cls seq : Nat) (nak : Bool)
    (payload : List Byte) : (s.sendFab l kind first last dest cls seq nak payload).link k = s.link k :=
  s.setLink_link_other l _ h

theorem State.sendNextCell_link_other (s : State) {l k : Nat} (h : k ≠ l) : (s.sendNextCell l).link k = s.link k := by
  simp only [State.sendNextCell]
  split
  · rfl
  · split
    · split
      · exact (State.sendFab_link_other _ h ..).trans (s.setLink_link_other l _ h)
      · rfl
    · split
      · rfl
      · exact (State.sendFab_link_other _ h ..).trans (s.setLink_link_other l _ h)

theorem State.pumpLink_link_other (s : State) {l k : Nat} (h : k ≠ l) : (s.pumpLink l).link k = s.link k :=
  List.foldlRecOn (motive := fun t : State => t.link k = s.link k) _ _ rfl fun t ht _ _ => (t.sendNextCell_link_other h).trans ht

theorem State.answerQuiet_link_other (s : State) {l k : Nat} (h : k ≠ l) : (s.answerQuiet l).link k = s.link k := by
  simp only [State.answerQuiet]
  split
  · exact (State.pumpLink_link_other _ h).trans ((State.setLink_link_other _ _ _ h).trans (s.setLink_link_other l _ h))
  · rfl

/-- A link that was not asked to be quiet answers nothing. -/
theorem State.answerQuiet_unasked {s : State} {l : Nat} (h : (s.link l).quietAsked = false) : s.answerQuiet l = s := by
  simp [State.answerQuiet, h]

/-- In a quiet check of a quad that is not being quieted, a link that was not asked to be quiet stays as it is. -/
theorem State.quietCheck_link_unasked {s : State} {q l : Nat} (hquad : ∀ u, s.quad q ≠ .quieting u) (h : (s.link l).quietAsked = false) :
    (s.quietCheck q).link l = s.link l := by
  rw [State.quietCheck_eq hquad]
  refine List.foldlRecOn (motive := fun t : State => t.link l = s.link l) _ _ rfl fun t ht k _ => ?_
  by_cases hk : l = k
  · subst hk
    rw [State.answerQuiet_unasked (ht ▸ h), ht]
  · exact (t.answerQuiet_link_other hk).trans ht

end Sys2Proof.Machine
end

section
/-! Cells that arrive in their turn take effect (R328, R329, R333, R335, R337, R338, R342, R343, R349). -/

namespace Sys2Proof.Machine

/-! ### A cell in its turn (R328, R342) -/

/-- The acknowledgement that a good cell carries is taken; the cell is no NAK. -/
def State.acked (s : State) (l : Nat) (cell : List Byte) : State :=
  s.takeAck l (fld (cellHead cell) 31 16) false (fld (cellHead cell) 14 8)

/-- A link has accepted the cell that it expected: it expects the next number and owes a credit. -/
def State.accepted (s : State) (l : Nat) : State :=
  s.setLink l { s.link l with rxExpect := ((s.link l).rxExpect + 1) % 65536, nakSent := false, owed := (s.link l).owed + 1 }

/-- The state in which the contents of a cell are taken that arrived in its turn. -/
def State.inTurn (s : State) (l : Nat) (cell : List Byte) : State := (s.acked l cell).accepted l

/-- What follows once the contents of a cell are taken: the credit goes back, and the quad looks whether it is quiet. -/
def State.endCell (s : State) (l : Nat) : State :=
  (if (s.link l).owed = 0 ∨ s.linkState l = 6 then s else s.sendIdle l false).quietCheck (l / 4)

theorem SendsOnly.acked (s : State) (l : Nat) (cell : List Byte) : SendsOnly s (s.acked l cell) := .takeAck ..

theorem State.accepted_link (s : State) (l : Nat) : (s.accepted l).link l =
    { s.link l with rxExpect := ((s.link l).rxExpect + 1) % 65536, nakSent := false, owed := (s.link l).owed + 1 } := s.setLink_link l _

theorem State.accepted_keeps (s : State) (l : Nat) : Keeps sendingParts s (s.accepted l) := (State.setLink_keeps (.of_land rfl) .start).keeps

theorem State.accepted_received (s : State) (l : Nat) : (s.accepted l).fab.received = s.fab.received := rfl

section
variable (s : State) (l : Nat) (cell : List Byte)

theorem State.inTurn_keeps : Keeps sendingParts s (s.inTurn l cell) := (SendsOnly.acked s l cell).keeps.trans (State.accepted_keeps ..)

theorem State.inTurn_received : (s.inTurn l cell).fab.received = s.fab.received :=
  (State.accepted_received ..).trans (SendsOnly.acked s l cell).received

theorem State.inTurn_rxExpect : ((s.inTurn l cell).link l).rxExpect = ((s.link l).rxExpect + 1) % 65536 := by
  rw [State.inTurn, State.accepted_link, (SendsOnly.acked s l cell).rxExpect_same]

theorem State.inTurn_quietSent : ((s.inTurn l cell).link l).quietSent = (s.link l).quietSent := by
  rw [State.inTurn, State.accepted_link, (SendsOnly.acked s l cell).quietSent_same]

theorem State.inTurn_quad (q : Nat) : (s.inTurn l cell).quad q = s.quad q := State.quad_of_received (s.inTurn_received l cell) q

theorem State.inTurn_linkState (k : Nat) : (s.inTurn l cell).linkState k = s.linkState k := (s.inTurn_keeps l cell).linkState_sending k

end

theorem SendsOnly.endCell {s : State} {l : Nat} (h : ∀ u, s.quad (l / 4) ≠ .quieting u) : SendsOnly s (s.endCell l) := by
  have hsent : SendsOnly s (if (s.link l).owed = 0 ∨ s.linkState l = 6 then s else s.sendIdle l false) := by
    split
    · exact .refl s
    · exact .sendIdle ..
  refine hsent.trans (.quietCheck fun u => ?_)
  rw [State.quad_of_received hsent.received]
  exact h u

/-- A link in service takes the acknowledgement of a good cell, and a sequenced cell in its turn. -/
theorem State.Arrives.recvCell_eq {s : State} {l kind : Nat} {cell : List Byte} (h : s.Arrives l kind cell)
    (hstate : s.linkState l = 2 ∨ s.linkState l = 3 ∨ s.linkState l = 4) : s.recvCell l cell =
      if kind = 0 then (s.acked l cell).quietCheck (l / 4) else ((s.inTurn l cell).acceptCell l cell).endCell l := by
  obtain ⟨hl, hgood, rfl, hturn, hnak⟩ := h
  have hserves : ¬(160 ≤ l ∨ (!(decide (s.linkState l = 2) || decide (s.linkState l = 3) || decide (s.linkState l = 4))) = true) := by
    rcases hstate with h | h | h <;> simp [h, hl]
  have hup : ¬(s.acked l cell).linkState l = 6 := by
    rw [(SendsOnly.acked s l cell).keeps.linkState_sending]
    omega
  have hexpected : ¬fld (cellHead cell) 47 32 ≠ ((s.acked l cell).link l).rxExpect := by
    rw [(SendsOnly.acked s l cell).rxExpect_same]
    exact not_not_intro hturn
  have hacked : s.takeAck l (fld (cellHead cell) 31 16) (bitAt (cellHead cell) 15) (fld (cellHead cell) 14 8) = s.acked l cell := by
    rw [hnak, State.acked]
  simp only [State.recvCell, if_neg hserves, hgood, Bool.not_true, Bool.false_eq_true, if_false, hacked, hup, or_false, if_neg hexpected]
  split
  · rfl
  · rfl

/-! ### Data and credits (R328, R333) -/

/-- A reassembly opened by the first cell of its packet (R333). -/
def State.withReassembly (s : State) (r : Reassembly) : State := { s with fab := { s.fab with
  dropping := s.fab.dropping.filter (fun d => decide (d ≠ (r.link, r.unit, r.srcLink))), reasm := s.fab.reasm ++ [r] } }

theorem State.withReassembly_reasm (s : State) (r : Reassembly) : (s.withReassembly r).fab.reasm = s.fab.reasm ++ [r] := rfl

theorem State.withReassembly_quad (s : State) (r : Reassembly) (q : Nat) : (s.withReassembly r).quad q = s.quad q := rfl

theorem State.withReassembly_link (s : State) (r : Reassembly) (l : Nat) : (s.withReassembly r).link l = s.link l := rfl

/-- The first cell of a packet of several opens a reassembly where none is open and there is room (R333). -/
theorem State.reassemble_opens {s : State} {l unit srcLink cls : Nat} {payload : List Byte} (hgood : headerBad payload = false)
    (hnone : ∀ r ∈ s.fab.reasm, ¬(r.link = l ∧ r.unit = unit ∧ r.srcLink = srcLink)) (hroom : s.fab.reasm.length < reasmCap) :
    s.reassemble l unit srcLink cls true false payload =
      s.withReassembly { link := l, unit := unit, srcLink := srcLink, cls := cls, bytes := payload, lastCell := s.now } := by
  have hfind : s.fab.reasm.find? (fun r => decide (r.link = l) && decide (r.unit = unit) && decide (r.srcLink = srcLink)) = none := by
    simpa [and_assoc] using hnone
  simp only [State.reassemble, hfind, Option.isSome_none, Bool.false_eq_true, if_false, hgood, if_neg (Nat.not_le.mpr hroom)]
  rfl

/-- A quad that is awake is not being quieted. -/
theorem not_quieting_of_awake {x : QuadState} (h : x = .awake) (u : Nat) : x ≠ .quieting u := by
  rw [h]
  nofun

theorem execDataCell_opens {l : Nat} {cell : List Byte} {s : State} (h : s.Arrives l 1 cell) (hstate : s.linkState l = 3)
    (hmay : s.mayTake = true) (hquad : s.quad (l / 4) = .awake) (hfirst : bitAt (cellHead cell) 93 = true)
    (hlast : bitAt (cellHead cell) 92 = false) (hgood : headerBad (cellPayload cell) = false)
    (hnone : ∀ r ∈ s.fab.reasm, ¬(r.link = l ∧ r.unit = fld (cellHead cell) 78 67 ∧ r.srcLink = fld (cellHead cell) 66 59))
    (hroom : s.fab.reasm.length < reasmCap) : Completes (.dataCell l cell) s fun t =>
      (t.link l).rxExpect = ((s.link l).rxExpect + 1) % 65536 ∧
      t.fab.reasm = s.fab.reasm ++ [{ link := l, unit := fld (cellHead cell) 78 67, srcLink := fld (cellHead cell) 66 59,
                                      cls := fld (cellHead cell) 58 56, bytes := cellPayload cell, lastCell := s.now }] := by
  have hreasm : (s.inTurn l cell).fab.reasm = s.fab.reasm := State.reasm_of_received (s.inTurn_received l cell)
  have htakes : ¬((!(s.inTurn l cell).mayTake) = true ∨ (s.inTurn l cell).linkState l = 2) := by
    rw [(s.inTurn_keeps l cell).mayTake_sending, State.inTurn_linkState, hmay, hstate]
    decide
  have hopens := State.reassemble_opens (s := s.inTurn l cell) (cls := fld (cellHead cell) 58 56) hgood (by rwa [hreasm]) (by rwa [hreasm])
  have haccept : (s.inTurn l cell).acceptCell l cell = (s.inTurn l cell).withReassembly
      { link := l, unit := fld (cellHead cell) 78 67, srcLink := fld (cellHead cell) 66 59, cls := fld (cellHead cell) 58 56,
        bytes := cellPayload cell, lastCell := s.now } := by
    rw [State.acceptCell, h.kind, if_neg (by decide), if_neg htakes, hfirst, hlast, hopens,
      (On.of_keeps (s.inTurn_keeps l cell)).now_same rfl]
  have hend := SendsOnly.endCell (s := (s.inTurn l cell).acceptCell l cell) (l := l) (not_quieting_of_awake (by
    rw [haccept, State.withReassembly_quad, State.inTurn_quad, hquad]))
  refine ⟨((s.inTurn l cell).acceptCell l cell).endCell l, ?_, ?_, ?_⟩
  · simp [exec, execDataCell, h.kind, h.recvCell_eq (.inr (.inl hstate))]
  · rw [hend.rxExpect_same, haccept, State.withReassembly_link, State.inTurn_rxExpect]
  · rw [State.reasm_of_received hend.received, haccept, State.withReassembly_reasm, hreasm]

theorem execIdleCell_credits {l : Nat} {cell : List Byte} {s : State} (h : s.Arrives l 0 cell) (hstate : s.linkState l = 3)
    (hquad : s.quad (l / 4) = .awake) (hresend : (s.link l).resend = []) (hfresh : (s.link l).fresh = [])
    (hasked : (s.link l).quietAsked = false) : Completes (.idleCell l cell) s fun t =>
      (t.link l).credits = (s.link l).credits + fld (cellHead cell) 14 8 ∧ (t.link l).rxExpect = (s.link l).rxExpect := by
  have hacked := SendsOnly.acked s l cell
  have hlink : (((s.acked l cell).quietCheck (l / 4)).link l) = (s.acked l cell).link l :=
    State.quietCheck_link_unasked (not_quieting_of_awake ((State.quad_of_received hacked.received _).trans hquad))
      ((hacked.quietAsked_same l).trans hasked)
  refine ⟨(s.acked l cell).quietCheck (l / 4), ?_, ?_, ?_⟩
  · simp [exec, execIdleCell, h.kind, h.recvCell_eq (.inr (.inl hstate))]
  · rw [hlink]
    exact State.takeAck_credits hresend hfresh ..
  · rw [hlink, hacked.rxExpect_same]

/-! ### One control message (R335) -/

/-- A slice of a slice is a slice. -/
theorem slice_slice {bs : List Byte} {off len o n : Nat} (h : o + n ≤ len) : slice (slice bs off len) o n = slice bs (off + o) n := by
  refine List.ext_getElem (by simp only [slice_length]) fun i hi hi' => BitVec.eq_of_toNat_eq ?_
  have hin : i < n := slice_length (slice bs off len) o n ▸ hi
  have hbyte (as : List Byte) (h : i < as.length) : as[i].toNat = byteAt as i := by
    rw [byteAt, List.getD_eq_getElem _ _ h]
  rw [hbyte, hbyte, byteAt_slice hin, byteAt_slice hin, byteAt_slice (by omega), Nat.add_assoc]

section
variable {s : State} {l ty unit dest m : Nat} {cell : List Byte} (h : s.Hears l ty unit dest m cell)
include h

theorem State.Hears.payload_type : byteAt (cellPayload cell) 0 = ty := by
  rw [cellPayload, h.one, byteAt_slice (by decide)]
  exact h.type

theorem State.Hears.payload_message : beAt (cellPayload cell) 1 7 = m := by
  rw [cellPayload, h.one, beAt, slice_slice (by decide)]
  exact h.message

/-- The contents of a control cell of one message are the message. -/
theorem State.Hears.acceptCell_eq (hty : ty ≠ 0) (v : State) : v.acceptCell l cell = v.takeMessage l unit dest (cellPayload cell) := by
  have hlen : (cellPayload cell).length = 8 := by rw [cellPayload, slice_length, h.one]
  have hmessage : ¬((cellPayload cell).length < 8 ∨ byteAt (cellPayload cell) 0 = 0) := by
    rw [hlen, h.payload_type]
    simpa using hty
  rw [State.acceptCell, h.arrives.kind, if_pos rfl, h.source, h.dest, State.takeMessages, if_neg hmessage, List.take_of_length_le (by omega),
    List.drop_of_length_le (by omega), State.takeMessages, if_pos (.inl (by decide))]

/-- A control cell of one message takes it in its turn, and ends. -/
theorem State.Hears.controlCell_eq (hty : ty ≠ 0) (hstate : s.linkState l = 2 ∨ s.linkState l = 3 ∨ s.linkState l = 4) :
    s.controlCell ty l cell = ((s.inTurn l cell).takeMessage l unit dest (cellPayload cell)).endCell l := by
  rw [State.controlCell, if_pos ⟨h.arrives.kind, h.type⟩, h.arrives.recvCell_eq hstate, if_neg (by decide), h.acceptCell_eq hty]

end

/-- A control cell completes with what its message made, at the cell's end; its links are in service. -/
theorem completes_of_message {c : Instr} {s u : State} {l ty unit dest m : Nat} {cell : List Byte} {P : State → Prop}
    (hexec : exec c s = .next (s.controlCell ty l cell)) (h : s.Hears l ty unit dest m cell) (hty : ty ≠ 0)
    (hstate : s.linkState l = 2 ∨ s.linkState l = 3 ∨ s.linkState l = 4)
    (hu : (s.inTurn l cell).takeMessage l unit dest (cellPayload cell) = u) (hquad : ∀ n, u.quad (l / 4) ≠ .quieting n)
    (hP : ∀ t, SendsOnly u t → P t) : Completes c s P :=
  ⟨u.endCell l, by rw [hexec, h.controlCell_eq hty hstate, hu], hP _ (.endCell hquad)⟩

/-! ### Requests and grants (R337, R338) -/

theorem State.setRecvCtx_quad (s : State) (k : Nat) (c : RecvCtx) (q : Nat) : (s.setRecvCtx k c).quad q = s.quad q := rfl

theorem State.setSendCtx_quad (s : State) (k : Nat) (c : SendCtx) (q : Nat) : (s.setSendCtx k c).quad q = s.quad q := rfl

/-- A REQUEST without SYNC sets the demand of its context and nothing else (R337). -/
theorem State.takeRequest_eq {s : State} {unit m : Nat} (hmay : s.mayTake = true) (hsync : bitAt m 52 = false) :
    s.takeRequest unit m =
      s.setRecvCtx (ctxKey unit (fld m 55 53)) { s.recvCtx (ctxKey unit (fld m 55 53)) with demand := fld m 47 24 } := by
  simp [State.takeRequest, hmay, hsync]

theorem execRequest_demands {l unit dest m : Nat} {cell : List Byte} {s : State} (h : s.Hears l 0x01 unit dest m cell)
    (hstate : s.linkState l = 3) (hmay : s.mayTake = true) (hquad : s.quad (l / 4) = .awake) (hsync : bitAt m 52 = false)
    (hzero : fld m 23 0 = 0) : Completes (.request l cell) s fun t => (t.recvCtx (ctxKey unit (fld m 55 53))).demand = fld m 47 24 := by
  have hmay' : (s.inTurn l cell).mayTake = true := (s.inTurn_keeps l cell).mayTake_sending.trans hmay
  have htaken : (s.inTurn l cell).takeMessage l unit dest (cellPayload cell) = (s.inTurn l cell).setRecvCtx (ctxKey unit (fld m 55 53))
      { (s.inTurn l cell).recvCtx (ctxKey unit (fld m 55 53)) with demand := fld m 47 24 } := by
    simp [State.takeMessage, h.payload_type, h.payload_message, hzero, State.takeRequest_eq hmay' hsync]
  refine completes_of_message rfl h (by decide) (.inr (.inl hstate)) htaken (not_quieting_of_awake ?_) fun t ht => ?_
  · rw [State.setRecvCtx_quad, State.inTurn_quad, hquad]
  · rw [State.recvCtx_of_received ht.received, State.setRecvCtx_recvCtx]

/-- A REQUEST that a context sends, or need not send, changes neither its synchronisation nor its balance (R336). -/
theorem State.requestCheck_sendCtx (s : State) (k : Nat) : ((s.requestCheck k).sendCtx k).synced = (s.sendCtx k).synced ∧
    ((s.requestCheck k).sendCtx k).balance = (s.sendCtx k).balance := by
  rw [State.requestCheck]
  split
  · rw [State.sendRequest]
    split
    · exact ⟨rfl, rfl⟩
    · dsimp only
      rw [State.sendCtx_of_received (SendsOnly.sendControl ..).received, State.setSendCtx_sendCtx]
      exact ⟨rfl, rfl⟩
  · exact ⟨rfl, rfl⟩

/-- A request check moves no quad. -/
theorem State.requestCheck_quad (s : State) (k q : Nat) : (s.requestCheck k).quad q = s.quad q := by
  rw [State.requestCheck]
  split
  · rw [State.sendRequest]
    split
    · rfl
    · exact State.quad_of_received (SendsOnly.sendControl ..).received q
  · rfl

/-- What a GRANT of the present ERA without RESET adds to, up to the cap (R338). -/
def State.credited (s : State) (k n : Nat) : State :=
  let c := s.sendCtx k
  let b : Int := c.balance + n
  let cap : Int := s.reg 0x8000 0x0A
  s.setSendCtx k { c with balance := if cap < b then max cap c.balance else b, synced := true }

theorem State.takeGrant_eq {s : State} {unit m : Nat} (hstandby : s.standby = false)
    (hera : fld m 51 48 = (s.sendCtx (ctxKey unit (fld m 55 53))).era) (hreset : bitAt m 52 = false) :
    s.takeGrant unit m = (s.credited (ctxKey unit (fld m 55 53)) (fld m 47 32)).requestCheck (ctxKey unit (fld m 55 53)) := by
  simp only [State.takeGrant, hstandby, hera, hreset, ne_eq, not_true_eq_false, Bool.false_eq_true, or_self, if_false]
  rfl

theorem execGrant_credits {l unit dest m : Nat} {cell : List Byte} {s : State} (h : s.Hears l 0x02 unit dest m cell)
    (hstate : s.linkState l = 3) (hstandby : s.standby = false) (hquad : s.quad (l / 4) = .awake) (hzero : fld m 31 0 = 0)
    (hreset : bitAt m 52 = false) (hera : fld m 51 48 = (s.sendCtx (ctxKey unit (fld m 55 53))).era) : Completes (.grant l cell) s fun t =>
      (t.sendCtx (ctxKey unit (fld m 55 53))).synced = true ∧
      ((s.sendCtx (ctxKey unit (fld m 55 53))).balance + (fld m 47 32 : Int) ≤ (s.reg 0x8000 0x0A : Int) →
        (t.sendCtx (ctxKey unit (fld m 55 53))).balance = (s.sendCtx (ctxKey unit (fld m 55 53))).balance + (fld m 47 32 : Int)) := by
  have hctx (k : Nat) : (s.inTurn l cell).sendCtx k = s.sendCtx k := State.sendCtx_of_received (s.inTurn_received l cell) k
  have hcap : (s.inTurn l cell).reg 0x8000 0x0A = s.reg 0x8000 0x0A := (s.inTurn_keeps l cell).reg_sending _ rfl
  have hgrant := State.takeGrant_eq (s := s.inTurn l cell) ((s.inTurn_keeps l cell).standby_sending.trans hstandby)
    (hera.trans (congrArg SendCtx.era (hctx _).symm)) hreset
  have htaken : (s.inTurn l cell).takeMessage l unit dest (cellPayload cell) = (s.inTurn l cell).takeGrant unit m := by
    simp [State.takeMessage, h.payload_type, h.payload_message, hzero]
  refine completes_of_message rfl h (by decide) (.inr (.inl hstate)) (htaken.trans hgrant) (not_quieting_of_awake ?_) fun t ht => ?_
  · rw [State.requestCheck_quad, State.credited, State.setSendCtx_quad, State.inTurn_quad, hquad]
  · obtain ⟨hsynced, hbalance⟩ := State.requestCheck_sendCtx ((s.inTurn l cell).credited (ctxKey unit (fld m 55 53)) (fld m 47 32))
      (ctxKey unit (fld m 55 53))
    rw [State.sendCtx_of_received ht.received, hsynced, hbalance, State.credited, State.setSendCtx_sendCtx, hctx, hcap]
    exact ⟨rfl, fun hle => if_neg (Int.not_lt.mpr hle)⟩

/-! ### HELLO and QUIET (R329, R349) -/

/-- The registers of a link whose HELLO came: the far unit, the far lane, and UP (R329). -/
def State.helloNoted (s : State) (l m : Nat) : State :=
  (((s.setReg 0x3402 l (fld m 47 32)).setReg 0x3403 l (fld m 31 24)).setLink l { s.link l with
    credits := (s.link l).credits + fld m 23 8, helloRcvd := true, upSince := s.now, lastAdvance := s.now }).setReg 0x3400 l 3

theorem State.helloNoted_reads {s : State} (hr : rising s.objs = true) (l m : Nat) :
    (s.helloNoted l m).reg 0x3400 l = 3 ∧ (s.helloNoted l m).reg 0x3402 l = fld m 47 32 := by
  have hfar := State.setReg_rising s 0x3402 l (fld m 47 32) hr
  refine ⟨State.setReg_reg _ _ _ _ (State.setReg_rising _ 0x3403 l (fld m 31 24) hfar), ?_⟩
  have hlink (u : State) (x : Link) : (u.setLink l x).reg 0x3402 l = u.reg 0x3402 l := rfl
  rw [State.helloNoted, State.setReg_other _ _ (okey_ne_of_index (by decide) l l), hlink,
    State.setReg_other _ _ (okey_ne_of_index (by decide) l l), State.setReg_reg _ _ _ _ hr]

/-- A HELLO that is taken is noted; then its link joins its group or waits, and sends what it may (R329, R340). -/
theorem State.takeHello_eq {s : State} {l m : Nat} (hversion : fld m 55 48 = 1) (hstate : s.linkState l = 2) :
    s.takeHello l m = (s.helloNoted l m).pumpLink l ∨ s.takeHello l m = ((s.helloNoted l m).joinLink l).pumpLink l := by
  simp only [State.takeHello, hversion, hstate, ne_eq, not_true_eq_false, or_self, if_false]
  split
  · exact .inl rfl
  · exact .inr rfl

theorem State.helloNoted_quad (s : State) (l m q : Nat) : (s.helloNoted l m).quad q = s.quad q := rfl

/-- Joining and sending leave the registers of the links and the quads as the HELLO made them. -/
theorem State.takeHello_noted {s : State} {l m : Nat} (hversion : fld m 55 48 = 1) (hstate : s.linkState l = 2) :
    On inS 0x10000000000000000000000000000000000120100 (s.helloNoted l m) (s.takeHello l m) ∧
      ∀ q, (s.takeHello l m).quad q = s.quad q := by
  have hpump (u : State) (q : Nat) : (u.pumpLink l).quad q = u.quad q := State.quad_of_received (SendsOnly.pumpLink u l).received q
  rcases State.takeHello_eq hversion hstate with h | h
  · rw [h]
    exact ⟨State.pumpLink_keeps (.of_land rfl) .start, fun q => (hpump _ q).trans (s.helloNoted_quad l m q)⟩
  · rw [h]
    refine ⟨State.pumpLink_keeps (.of_land rfl) (State.joinLink_keeps (Covers.refl _) .start), fun q => (hpump _ q).trans ?_⟩
    rw [State.quad_congr (State.joinLink_quadsAndMeasure ..), State.helloNoted_quad]

theorem execHello_up {l unit m : Nat} {cell : List Byte} {s : State} (hs : s.StoresRise) (h : s.Hears l 0x10 unit 0xFFF m cell)
    (hstate : s.linkState l = 2) (hquad : s.quad (l / 4) = .awake) (hzero : fld m 7 0 = 0) (hversion : fld m 55 48 = 1) :
    Completes (.hello l cell) s fun t => t.reg 0x3400 l = 3 ∧ t.reg 0x3402 l = fld m 47 32 := by
  have hrise : rising (s.inTurn l cell).objs = true := (On.of_keeps (s.inTurn_keeps l cell)).objs_rise hs.objs
  obtain ⟨hnoted, hquads⟩ := State.takeHello_noted (s := s.inTurn l cell) hversion ((s.inTurn_linkState l cell l).trans hstate)
  obtain ⟨hup, hfar⟩ := State.helloNoted_reads hrise l m
  have htaken : (s.inTurn l cell).takeMessage l unit 0xFFF (cellPayload cell) = (s.inTurn l cell).takeHello l m := by
    simp [State.takeMessage, h.payload_type, h.payload_message, hzero]
  refine completes_of_message rfl h (by decide) (.inl hstate) htaken (not_quieting_of_awake ?_) fun t ht => ⟨?_, ?_⟩
  · rw [hquads, State.inTurn_quad, hquad]
  · rw [ht.keeps.reg_sending (i := 0x3400) l rfl, hnoted.reg_same (i := 0x3400) l rfl, hup]
  · rw [ht.keeps.reg_sending (i := 0x3402) l rfl, hnoted.reg_same (i := 0x3402) l rfl, hfar]

/-- A link that leaves its group to be quiet has heard what it had (R341, R349). -/
theorem State.leaveLink_heard (s : State) (l k : Nat) : ((s.leaveLink l false).link k).heard = (s.link k).heard := by
  simp only [State.leaveLink, Bool.false_eq_true, if_false]
  split
  · rfl
  · rw [State.startFences_link]
    exact (SendsOnly.setLink (s := s) (l := l) (x := { s.link l with joined := false }) rfl).heard k

/-- A link that is asked to be quiet leaves its group, and its quad looks whether it is quiet (R349). -/
def State.askedQuiet (s : State) (l : Nat) : State := (s.setLink l { s.link l with quietAsked := true }).leaveLink l false

theorem State.askedQuiet_quad (s : State) (l q : Nat) : (s.askedQuiet l).quad q = s.quad q :=
  State.quad_congr (State.leaveLink_quadsAndMeasure ..) q

theorem State.askedQuiet_quietAsked (s : State) (l : Nat) : ((s.askedQuiet l).link l).quietAsked = true := by
  have hheard := (s.setLink l { s.link l with quietAsked := true }).leaveLink_heard l l
  rw [State.setLink_link] at hheard
  exact congrArg (fun x : Nat × Bool × Bool => x.2.1) hheard

theorem execQuiet_asks {l unit : Nat} {cell : List Byte} {s : State} (h : s.Hears l 0x11 unit 0xFFF 0 cell) (hstate : s.linkState l = 3)
    (hquad : s.quad (l / 4) = .awake) : Completes (.quiet l cell) s fun t => (t.link l).quietAsked = true := by
  have hawake : ((s.inTurn l cell).askedQuiet l).quad (l / 4) = .awake := by rw [State.askedQuiet_quad, State.inTurn_quad, hquad]
  have hchecked := SendsOnly.quietCheck (not_quieting_of_awake hawake)
  have htaken : (s.inTurn l cell).takeMessage l unit 0xFFF (cellPayload cell) = ((s.inTurn l cell).askedQuiet l).quietCheck (l / 4) := by
    simp only [State.takeMessage, h.payload_type, h.payload_message, ne_eq, not_true_eq_false, or_self, if_false]
    rfl
  refine completes_of_message rfl h (by decide) (.inr (.inl hstate)) htaken (not_quieting_of_awake ?_) fun t ht => ?_
  · rw [State.quad_of_received hchecked.received, hawake]
  · rw [ht.quietAsked_same, hchecked.quietAsked_same, State.askedQuiet_quietAsked]

/-! ### Quads that turn OFF (R86 step 4) -/

/-- A lane of a quad that turns OFF saves its adaptation, and its link is reset (R432). -/
def State.laneSaved (s : State) (l : Nat) : State :=
  (s.setAdapt (1000 + l) { s.adapt (1000 + l) with saved := some (s.adapt (1000 + l)).coeffs }).setLink l .reset

theorem State.laneSaved_linkState (s : State) (l k : Nat) : (s.laneSaved l).linkState k = s.linkState k := rfl

theorem State.laneSaved_objs (s : State) (l : Nat) : (s.laneSaved l).objs = s.objs := rfl

theorem State.laneSaved_quad (s : State) (l q : Nat) : (s.laneSaved l).quad q = s.quad q := rfl

/-- The link of a lane that turns OFF is QUIET unless it is OFF. -/
def State.laneOff (s : State) (l : Nat) : State :=
  if (s.laneSaved l).linkState l = 0 then s.laneSaved l else (s.laneSaved l).setReg 0x3400 l 5

/-- A quad is OFF, its domain with it. -/
def State.markOff (s : State) (q : Nat) : State := (s.setQuad q .off).setReg 0x2101 (145 + q) 0

theorem State.quadOff_eq (s : State) (q : Nat) : s.quadOff q = (quadLinks q).foldl State.laneOff (s.markOff q) := rfl

theorem State.laneOff_quad (s : State) (l q : Nat) : (s.laneOff l).quad q = s.quad q := by
  rw [State.laneOff]
  split
  · exact s.laneSaved_quad l q
  · exact s.laneSaved_quad l q

theorem State.laneOff_rising {s : State} (h : rising s.objs = true) (l : Nat) : rising (s.laneOff l).objs = true := by
  rw [State.laneOff]
  split
  · rwa [State.laneSaved_objs]
  · exact State.setReg_rising _ _ _ _ (by rwa [State.laneSaved_objs])

theorem State.laneOff_linkState {s : State} (hr : rising s.objs = true) {l k : Nat} (hl : l < 160) (hk : k < 160) :
    (s.laneOff l).linkState k = if k = l ∧ s.linkState k ≠ 0 then 5 else s.linkState k := by
  rw [State.laneOff, State.laneSaved_linkState]
  split
  case isTrue hoff =>
    rw [State.laneSaved_linkState, if_neg]
    rintro ⟨rfl, hon⟩
    exact hon hoff
  case isFalse hon =>
    by_cases hkl : k = l
    · rw [hkl, if_pos ⟨rfl, hon⟩, State.linkState, State.setReg_reg _ _ _ _ (by rwa [State.laneSaved_objs])]
    · rw [if_neg fun hc => hkl hc.1, State.linkState, State.setReg_other _ _ (by simp only [okey]; omega)]
      exact s.laneSaved_linkState l k

theorem State.quadOff_quad (s : State) (q : Nat) : (s.quadOff q).quad q = .off := by
  rw [State.quadOff_eq]
  refine List.foldlRecOn (motive := fun t : State => t.quad q = .off) _ _ ?_ fun t ht l _ => (t.laneOff_quad l q).trans ht
  exact State.setQuad_quad ..

/-- A link that is not OFF is QUIET once its lane is among those that turned OFF. -/
theorem State.foldl_laneOff_linkState {ls : List Nat} {s : State} (hr : rising s.objs = true) (hls : ∀ l ∈ ls, l < 160) {k : Nat} (hk : k < 160)
    (hstate : s.linkState k = 5 ∨ k ∈ ls ∧ s.linkState k ≠ 0) : (ls.foldl State.laneOff s).linkState k = 5 := by
  induction ls generalizing s with
  | nil => simpa using hstate
  | cons l ls ih =>
    have hlane := State.laneOff_linkState hr (hls l List.mem_cons_self) hk
    refine ih (State.laneOff_rising hr l) (fun n hn => hls n (List.mem_cons_of_mem l hn)) ?_
    rw [hlane]
    rcases hstate with h | ⟨hmem, h⟩
    · left
      split
      · rfl
      · exact h
    · by_cases hkl : k = l
      · exact .inl (if_pos ⟨hkl, h⟩)
      · rw [if_neg fun hc => hkl hc.1]
        exact .inr ⟨(List.mem_cons.mp hmem).resolve_left hkl, h⟩

theorem mem_quadLinks (l : Nat) : l ∈ quadLinks (l / 4) :=
  List.mem_map.mpr ⟨l % 4, List.mem_range.mpr (Nat.mod_lt _ (by decide)), Nat.div_add_mod l 4⟩

/-- A link that is not OFF is QUIET once its quad is OFF (R86 step 4). -/
theorem State.quadOff_linkState {s : State} (hr : rising s.objs = true) {l : Nat} (hl : l < 160) (hstate : s.linkState l ≠ 0) :
    (s.quadOff (l / 4)).linkState l = 5 := by
  have hstands : (s.markOff (l / 4)).linkState l = s.linkState l :=
    State.setReg_other (s := s.setQuad (l / 4) .off) _ (by simp only [okey]; omega)
  have hrise : rising (s.markOff (l / 4)).objs = true := State.setReg_rising (s.setQuad (l / 4) .off) _ _ _ hr
  rw [State.quadOff_eq]
  exact State.foldl_laneOff_linkState hrise (fun k hk => quadLinks_lt (by omega) hk) hl (.inr ⟨mem_quadLinks l, by rwa [hstands]⟩)

/-- A link has received QUIET_DONE (R349). -/
def State.heardDone (s : State) (l : Nat) : State := s.setLink l { s.link l with quietDone := true }

theorem State.heardDone_quad (s : State) (l q : Nat) : (s.heardDone l).quad q = s.quad q := rfl

theorem State.heardDone_linkState (s : State) (l k : Nat) : (s.heardDone l).linkState k = s.linkState k := rfl

theorem State.heardDone_objs (s : State) (l : Nat) : (s.heardDone l).objs = s.objs := rfl

theorem State.heardDone_quietDone (s : State) (l : Nat) : ((s.heardDone l).link l).quietDone = true := by
  rw [State.heardDone, State.setLink_link]

/-- QUIET_DONE is taken on a link that sent QUIET (R349). -/
theorem State.takeMessage_quietDone {s : State} {l unit : Nat} {msg : List Byte} (htype : byteAt msg 0 = 0x12) (hzero : beAt msg 1 7 = 0)
    (hstate : s.linkState l = 4) (hsent : (s.link l).quietSent = true) :
    s.takeMessage l unit 0xFFF msg = (s.heardDone l).quietCheck (l / 4) := by
  simp only [State.takeMessage, State.heardDone, htype, hzero, hstate, hsent, ne_eq, not_true_eq_false, Bool.not_true, Bool.false_eq_true,
    or_self, if_false]

/-- QUIET_DONE on the last link of a quad being quieted turns the quad OFF, and the link is QUIET (R86, R349). -/
theorem State.heardDone_off {s : State} {l u : Nat} (hr : rising s.objs = true) (hl : l < 160) (hstate : s.linkState l = 4)
    (hquad : s.quad (l / 4) = .quieting u) (hlast : ∀ k ∈ quadLinks (l / 4), k ≠ l → s.linkState k ≠ 4) :
    ((s.heardDone l).quietCheck (l / 4)).quad (l / 4) = .off ∧ ((s.heardDone l).quietCheck (l / 4)).linkState l = 5 := by
  have hoff : (s.heardDone l).quietCheck (l / 4) = (quadLinks (l / 4)).foldl State.answerQuiet ((s.heardDone l).quadOff (l / 4)) := by
    refine State.quietCheck_off (u := u) (by rwa [State.heardDone_quad]) fun k hk h4 => ?_
    have hkl : k = l := Decidable.by_contra fun hne => hlast k hk hne h4
    rw [hkl, State.heardDone_quietDone]
  have hanswers := SendsOnly.foldl (l := quadLinks (l / 4)) SendsOnly.answerQuiet ((s.heardDone l).quadOff (l / 4))
  have hon : (s.heardDone l).linkState l ≠ 0 := by
    rw [State.heardDone_linkState, hstate]
    decide
  rw [hoff, State.quad_of_received hanswers.received, hanswers.keeps.linkState_sending]
  exact ⟨State.quadOff_quad .., State.quadOff_linkState (by rwa [State.heardDone_objs]) hl hon⟩

theorem execQuietDone_off {l unit u : Nat} {cell : List Byte} {s : State} (hs : s.StoresRise) (h : s.Hears l 0x12 unit 0xFFF 0 cell)
    (hstate : s.linkState l = 4) (hsent : (s.link l).quietSent = true) (hquad : s.quad (l / 4) = .quieting u)
    (hlast : ∀ k ∈ quadLinks (l / 4), k ≠ l → s.linkState k ≠ 4) : Completes (.quietDone l cell) s fun t =>
      t.quad (l / 4) = .off ∧ t.reg 0x3400 l = 5 := by
  have hturn := s.inTurn_linkState l cell
  have htaken := State.takeMessage_quietDone (unit := unit) h.payload_type h.payload_message ((hturn l).trans hstate)
    ((s.inTurn_quietSent l cell).trans hsent)
  obtain ⟨hoff, hquiet⟩ := State.heardDone_off ((On.of_keeps (s.inTurn_keeps l cell)).objs_rise hs.objs) h.arrives.link
    ((hturn l).trans hstate) ((s.inTurn_quad l cell _).trans hquad) fun k hk hne => by rw [hturn]; exact hlast k hk hne
  refine completes_of_message rfl h (by decide) (.inr (.inr hstate)) htaken (fun n => by rw [hoff]; nofun) fun t ht => ⟨?_, ?_⟩
  · rw [State.quad_of_received ht.received, hoff]
  · exact (ht.keeps.linkState_sending l).trans hquiet

/-! ### FAULT (R343) -/

/-- A failure leaves a quad that is awake awake. -/
theorem State.failLink_quad_of_awake {s : State} {l q : Nat} (hl : l < 160) (hstate : s.linkState l ∈ [1, 2, 3, 4]) (cause : Nat)
    (h : s.quad q = .awake) : (s.failLink l cause).quad q = .awake := by
  have hnoted : (s.noteFailure l cause).fab.quadsAndMeasure = s.fab.quadsAndMeasure := State.count_quadsAndMeasure ..
  have htorn : (s.tearLink (s.noteFailure l cause) l).quad q = .awake := by
    rw [State.quad_congr ((State.tearLink_quadsAndMeasure ..).trans hnoted), h]
  rw [State.failLink_eq hl hstate, State.wakeShort]
  split
  · refine List.foldlRecOn (motive := fun t : State => t.quad q = .awake) _ _ htorn fun t ht p _ => ?_
    split
    · rw [State.wakeQuad_quad]
      split
      case isTrue hp => rw [← hp, ht]; rfl
      case isFalse => exact ht
    · exact ht
  · exact htorn

theorem execFault_fails {l unit m : Nat} {cell : List Byte} {s : State} (hs : s.StoresRise) (h : s.Hears l 0x13 unit 0xFFF m cell)
    (hzero : fld m 47 0 = 0) (hstate : s.linkState l = 3) (hquad : s.quad (l / 4) = .awake) :
    Completes (.fault l cell) s fun t => t.reg 0x3400 l = 6 ∧ t.reg 0x3407 l = 3 := by
  have hrise : rising (s.inTurn l cell).objs = true := (On.of_keeps (s.inTurn_keeps l cell)).objs_rise hs.objs
  have hservice : (s.inTurn l cell).linkState l ∈ [1, 2, 3, 4] := by
    rw [State.inTurn_linkState, hstate]
    decide
  have hawake := State.failLink_quad_of_awake (q := l / 4) h.arrives.link hservice 3 (by rw [State.inTurn_quad, hquad])
  have htaken : (s.inTurn l cell).takeMessage l unit 0xFFF (cellPayload cell) = (s.inTurn l cell).failLink l 3 := by
    simp [State.takeMessage, h.payload_type, h.payload_message, hzero]
  refine completes_of_message rfl h (by decide) (.inr (.inl hstate)) htaken (not_quieting_of_awake hawake) fun t ht => ?_
  exact (State.failLink_failed hrise h.arrives.link hservice 3).on (On.of_keeps ht.keeps) rfl

/-- Settles O19: each command by the lemma of its meaning. -/
theorem fabricCellsComplete : Obligations.FabricCellsComplete := by
  refine ⟨?dataCell, ?idleCell, ?request, ?grant, ?hello, ?quiet, ?quietDone, ?fault⟩
  case dataCell => exact fun _ _ _ => execDataCell_opens
  case idleCell => exact fun _ _ _ => execIdleCell_credits
  case request => exact fun _ _ _ _ _ _ => execRequest_demands
  case grant => exact fun _ _ _ _ _ _ => execGrant_credits
  case hello => exact fun _ _ _ _ _ => execHello_up
  case quiet => exact fun _ _ _ _ => execQuiet_asks
  case quietDone => exact fun _ _ _ _ _ => execQuietDone_off
  case fault => exact fun _ _ _ _ _ => execFault_fails

end Sys2Proof.Machine
end

section
/-! Cells of the mate link: what is read back of a cell that was sent (R356, R573). -/

namespace Sys2Proof.Machine

/-- The bytes of a string spell its number, and those after them go on from there (R3). -/
theorem beNat_append (a b : List Byte) : beNat (a ++ b) = 2 ^ (8 * b.length) * beNat a + beNat b := by
  rw [beNat, List.foldl_append, foldl_beNat, ← beNat]

/-- The header of a mate cell without its check (R356). -/
def mateHeader (kind lane len bundle bundleAck seq ackSeq credits : Nat) (nak : Bool) : List Byte :=
  natBe (kind * 2 ^ 14 + lane * 2 ^ 11 + len * 2 ^ 2) 2 ++ natBe bundle 4 ++ natBe bundleAck 4 ++ natBe seq 2 ++ natBe ackSeq 2
    ++ natBe ((if nak then 2 ^ 15 else 0) + credits * 2 ^ 8) 2

/-- The header bits of a mate cell without its check, as a number (R356). -/
def mateBits (kind lane len bundle bundleAck seq ackSeq credits : Nat) (nak : Bool) : Nat :=
  kind * 2 ^ 126 + lane * 2 ^ 123 + len * 2 ^ 114 + bundle * 2 ^ 80 + bundleAck * 2 ^ 48 + seq * 2 ^ 32 + ackSeq * 2 ^ 16
    + nak.toNat * 2 ^ 15 + credits * 2 ^ 8

theorem mateHeader_length (kind lane len bundle bundleAck seq ackSeq credits : Nat) (nak : Bool) :
    (mateHeader kind lane len bundle bundleAck seq ackSeq credits nak).length = 16 := by
  simp only [mateHeader, List.length_append, natBe_length]

/-- A mate cell is its header, its check, its payload, and zeros to the next 32-byte boundary. -/
theorem mateCell_eq (kind lane bundle bundleAck seq ackSeq credits : Nat) (nak : Bool) (payload : List Byte) :
    mateCell kind lane bundle bundleAck seq ackSeq credits nak payload =
      mateHeader kind lane payload.length bundle bundleAck seq ackSeq credits nak ++
        (natBe (crc32cStd (mateHeader kind lane payload.length bundle bundleAck seq ackSeq credits nak ++ payload)) 4 ++
          (payload ++ List.replicate ((32 - (20 + payload.length) % 32) % 32) 0)) := by
  have hwhole : mateCell kind lane bundle bundleAck seq ackSeq credits nak payload =
      wholeCell (mateHeader kind lane payload.length bundle bundleAck seq ackSeq credits nak) payload := rfl
  rw [hwhole, wholeCell]
  simp only [List.length_append, mateHeader_length, natBe_length]
  simp only [List.append_assoc]

section
variable {kind lane len bundle bundleAck seq ackSeq credits : Nat} {nak : Bool} (hkind : kind < 4) (hlane : lane < 8) (hlen : len < 2 ^ 9)
  (hbundle : bundle < 2 ^ 32) (hbundleAck : bundleAck < 2 ^ 32) (hseq : seq < 2 ^ 16) (hackSeq : ackSeq < 2 ^ 16) (hcredits : credits < 2 ^ 7)
include hkind hlane hlen hbundle hbundleAck hseq hackSeq hcredits

/-- A header whose fields lie within their widths spells their bits. -/
theorem beNat_mateHeader : beNat (mateHeader kind lane len bundle bundleAck seq ackSeq credits nak) =
    mateBits kind lane len bundle bundleAck seq ackSeq credits nak := by
  have hnak := nak.toNat_le
  simp only [mateHeader, beNat_append, beNat_natBe, natBe_length, mateBits, ite_eq_toNat_mul]
  omega

/-- Each field of a mate header is read back at its place, and the bits that no field holds are 0 (R356). -/
theorem mateBits_reads {h crc : Nat} (hcrc : crc < 2 ^ 32)
    (hh : h = 2 ^ 32 * mateBits kind lane len bundle bundleAck seq ackSeq credits nak + crc) :
    fld h 159 158 = kind ∧ fld h 157 155 = lane ∧ fld h 154 146 = len ∧ fld h 145 144 = 0 ∧ fld h 143 112 = bundle ∧
      fld h 111 80 = bundleAck ∧ fld h 79 64 = seq ∧ fld h 63 48 = ackSeq ∧ fld h 46 40 = credits ∧ fld h 39 32 = 0 ∧
      bitAt h 47 = nak := by
  have hnak := nak.toNat_le
  have hbits : h >>> 32 = mateBits kind lane len bundle bundleAck seq ackSeq credits nak := by
    rw [Nat.shiftRight_eq_div_pow]
    omega
  have above {hi lo : Nat} (hlo : 32 ≤ lo) (hhi : lo ≤ hi) : fld h hi lo = fld (h >>> 32) (hi - 32) (lo - 32) := by
    rw [fld, fld, ← Nat.shiftRight_add, show 32 + (lo - 32) = lo by omega, show hi - 32 + 1 - (lo - 32) = hi + 1 - lo by omega]
  have hNak : bitAt h 47 = (h >>> 32).testBit 15 := by
    rw [Nat.testBit_shiftRight]
    rfl
  have hbit : h >>> 32 / 2 ^ 15 % 2 = nak.toNat := by
    rw [hbits, mateBits]
    omega
  have hlast : (h >>> 32).testBit 15 = nak := by
    rw [Nat.testBit_eq_decide_div_mod_eq, hbit]
    cases nak <;> rfl
  have hfields : fld (h >>> 32) 127 126 = kind ∧ fld (h >>> 32) 125 123 = lane ∧ fld (h >>> 32) 122 114 = len ∧
      fld (h >>> 32) 113 112 = 0 ∧ fld (h >>> 32) 111 80 = bundle ∧ fld (h >>> 32) 79 48 = bundleAck ∧ fld (h >>> 32) 47 32 = seq ∧
      fld (h >>> 32) 31 16 = ackSeq ∧ fld (h >>> 32) 14 8 = credits ∧ fld (h >>> 32) 7 0 = 0 := by
    simp only [hbits, mateBits, fld, Nat.shiftRight_eq_div_pow]
    and_intros <;> omega
  rw [above, above, above, above, above, above, above, above, above, above, hNak, hlast]
  · simpa using hfields
  all_goals decide

end

/-- A cell of legal form whose check is that of its header and payload is good (R356). -/
theorem mateGood_of_form {c : List Byte}
    (hform : mateKind c = 0 ∧ mateLen c = 0 ∨ mateKind c = 1 ∧ 1 ≤ mateLen c ∧ mateLen c ≤ 492 ∨ mateKind c = 2 ∧ mateLen c = 12)
    (hlong : 20 + mateLen c ≤ c.length) (hspare : fld (mateHead c) 145 144 = 0) (hlow : fld (mateHead c) 39 32 = 0)
    (hcrc : crc32cStd (slice c 0 16 ++ matePayload c) = beAt c 16 4) : mateGood c = true := by
  simp only [mateGood, hlong, hspare, hlow, hcrc, decide_true, Bool.and_true]
  rcases hform with ⟨hkind, hlen⟩ | ⟨hkind, hlen⟩ | ⟨hkind, hlen⟩ <;> simpa [hkind] using hlen

/-- Settles O58: the parts of a mate cell are slices of it, and the fields of its header are read back from the number that it spells. -/
theorem mateCellsReadBack : Obligations.MateCellsReadBack := by
  intro kind lane bundle bundleAck seq ackSeq credits nak payload hform hlane hbundle hbundleAck hseq hackSeq hcredits c hc
  have hkind : kind < 4 := by omega
  have hlen : payload.length < 2 ^ 9 := by omega
  rw [mateCell_eq] at hc
  have hhdr := mateHeader_length kind lane payload.length bundle bundleAck seq ackSeq credits nak
  have hspells := beNat_mateHeader (nak := nak) hkind hlane hlen hbundle hbundleAck hseq hackSeq hcredits
  generalize mateHeader kind lane payload.length bundle bundleAck seq ackSeq credits nak = hdr at hc hhdr hspells
  have hcheck : slice c 16 4 = natBe (crc32cStd (hdr ++ payload)) 4 := by
    rw [hc]
    exact slice_between hhdr (natBe_length ..)
  have hcrc : beAt c 16 4 = crc32cStd (hdr ++ payload) := by
    rw [beAt, hcheck, beNat_natBe]
    exact Nat.mod_eq_of_lt (crc32cStd_lt _)
  have hheader : slice c 0 16 = hdr := by
    rw [hc]
    exact slice_between (a := []) rfl hhdr
  have hhead : mateHead c =
      2 ^ 32 * mateBits kind lane payload.length bundle bundleAck seq ackSeq credits nak + crc32cStd (hdr ++ payload) := by
    have hwhole : slice c 0 20 = hdr ++ natBe (crc32cStd (hdr ++ payload)) 4 := by
      rw [hc, ← List.append_assoc]
      exact slice_between (a := []) rfl (by rw [List.length_append, natBe_length, hhdr])
    rw [mateHead, beAt, hwhole, beNat_append, hspells, natBe_length, ← hcheck, ← beAt, hcrc]
  obtain ⟨hKind, hLane, hLen, hspare, hBundle, hBundleAck, hSeq, hAckSeq, hCredits, hlow, hNak⟩ :=
    mateBits_reads hkind hlane hlen hbundle hbundleAck hseq hackSeq hcredits (crc32cStd_lt _) hhead
  have hpayload : matePayload c = payload := by
    rw [matePayload, mateLen, hLen, hc, ← List.append_assoc]
    exact slice_between (by rw [List.length_append, natBe_length, hhdr]) rfl
  have hclen : c.length = 20 + payload.length + (32 - (20 + payload.length) % 32) % 32 := by
    rw [hc]
    simp only [List.length_append, List.length_replicate, natBe_length, hhdr]
    omega
  have hgood : mateGood c = true := by
    refine mateGood_of_form (by rw [mateKind, mateLen, hKind, hLen]; exact hform) (by rw [mateLen, hLen]; omega) hspare hlow ?_
    rw [hheader, hpayload, hcrc]
  exact ⟨hgood, hKind, hLen, hpayload, by omega, hLane, hBundle, hBundleAck, hSeq, hAckSeq, hNak, hCredits⟩

end Sys2Proof.Machine
end

section
/-! The frames of the HBM stacks, the ports, PTP and the die-to-die groups. -/

namespace Sys2Proof.Machine

/-- Settles O40: each command's meaning keeps every part outside its list. -/
theorem memoryAndPortFrames : Obligations.MemoryAndPortFrames := by
  refine ⟨?hbmIdleExpiry, ?selfRefreshEnter, ?hbmWakeDone, ?hbmWakeFailed, ?refreshBoundary, ?bankRefresh, ?caParityAlert, ?calRound,
    ?calProbeDone, ?hbmDelays, ?delaySave, ?scrub, ?portMode, ?portSlice, ?portAdminEnable, ?portAdminDisable, ?moduleActivationStep,
    ?moduleActivationTimeout, ?ptpStepNs, ?txStampPop, ?ppsInEdge, ?ppsOutSecond, ?adaptStep, ?adaptEvaluate, ?marginMeasure,
    ?dgUncorrectableFlit, ?dgFail, ?dgRetrain, ?dgCalRound⟩
  case hbmIdleExpiry => exact fun _ _ _ => .of_next (execHbmIdleExpiry_keeps (.of_land rfl) .start)
  case selfRefreshEnter => exact fun _ _ _ => .of_next (execSelfRefreshEnter_keeps (.of_land rfl) .start)
  case hbmWakeDone => exact fun _ _ _ _ _ => .of_next (execHbmWakeDone_keeps (.of_land rfl) .start)
  case hbmWakeFailed => exact fun _ _ _ => .of_next (execHbmWakeFailed_keeps (.of_land rfl) .start)
  case refreshBoundary => exact fun _ _ _ => .of_next (execRefreshBoundary_keeps (.of_land rfl) .start)
  case bankRefresh => exact fun _ _ _ => .of_next (execBankRefresh_keeps (.of_land rfl) .start)
  case caParityAlert => exact fun _ _ _ => .of_next (execCaParityAlert_keeps (.of_land rfl) .start)
  case calRound => exact fun _ _ _ => .of_next (execCalRound_keeps (.of_land rfl) .start)
  case calProbeDone => exact fun _ _ _ _ _ => .of_next (execCalProbeDone_keeps (.of_land rfl) .start)
  case hbmDelays => exact fun _ _ _ _ _ => .of_next (execHbmDelays_keeps (.of_land rfl) .start)
  case delaySave => exact fun _ _ => .of_next (execDelaySave_keeps (.of_land rfl) .start)
  case scrub => exact fun _ _ _ _ => .of_next (execScrub_keeps (.of_land rfl) .start)
  case portMode => exact fun _ _ _ _ _ => .of_next (execPortMode_keeps (.of_land rfl) .start)
  case portSlice => exact fun _ _ _ _ _ => .of_next (execPortSlice_keeps (.of_land rfl) .start)
  case portAdminEnable => exact fun _ _ _ _ => .of_next (execPortAdminEnable_keeps (.of_land rfl) .start)
  case portAdminDisable => exact fun _ _ _ _ => .of_next (execPortAdminDisable_keeps (.of_land rfl) .start)
  case moduleActivationStep => exact fun _ _ _ => .of_next (execModuleActivationStep_keeps (.of_land rfl) .start)
  case moduleActivationTimeout => exact fun _ _ _ => .of_next (execModuleActivationTimeout_keeps (.of_land rfl) .start)
  case ptpStepNs => exact fun _ _ _ _ => .of_next (execPtpStepNs_keeps (.of_land rfl) .start)
  case txStampPop => exact fun _ _ _ _ _ => .of_next (execTxStampPop_keeps (.of_land rfl) .start)
  case ppsInEdge => exact fun _ _ => .of_next (execPpsInEdge_keeps (.of_land rfl) .start)
  case ppsOutSecond => exact fun _ _ => .of_next (execPpsOutSecond_keeps (.of_land rfl) .start)
  case adaptStep => exact fun _ _ _ _ _ _ => .of_next (execAdaptStep_keeps (.partsAnyRegister rfl) .start)
  case adaptEvaluate => exact fun _ _ _ _ => .of_next (execAdaptEvaluate_keeps (.partsAnyRegister rfl) .start)
  case marginMeasure => exact fun _ _ _ _ _ _ _ _ _ _ => .of_next (execMarginMeasure_keeps (.partsAnyRegister rfl) .start)
  case dgUncorrectableFlit => exact fun _ _ _ _ _ => .of_next (execDgUncorrectableFlit_keeps (.of_land rfl) .start)
  case dgFail => exact fun _ _ _ => .of_next (execDgFail_keeps (.of_land rfl) .start)
  case dgRetrain => exact fun _ _ _ _ => .of_next (execDgRetrain_keeps (.of_land rfl) .start)
  case dgCalRound => exact fun _ _ _ _ _ => .of_next (execDgCalRound_keeps (.of_land rfl) .start)

end Sys2Proof.Machine
end

section
/-! The frames of host channels, doorbells, mailboxes, locks and steward threads. -/

namespace Sys2Proof.Machine

/-- Settles O41: each command's meaning keeps every part outside its list. -/
theorem hostAndStewardFrames : Obligations.HostAndStewardFrames := by
  refine ⟨?subDoorbell, ?scanResume, ?inject, ?receiveBuffer, ?stagedRetry, ?coalesceExpiry, ?ringEnable, ?ringDisable, ?channelCreate,
    ?channelSet, ?channelQuery, ?dbStatus, ?dbMask, ?dbRing, ?txData, ?rxData, ?abandon, ?mbStalemate, ?lockAcquire, ?lockRelease,
    ?lockForce, ?tstart, ?tstop, ?tsig, ?twfe, ?tpoll, ?tyield, ?tstat, ?threadWake, ?tcmpExpiry, ?twdogExpiry, ?threadFault, ?slackWater,
    ?coreRetainExpiry, ?debugHalt, ?debugResume, ?threadWeight, ?puntQueue, ?integratorRestart⟩
  case subDoorbell => exact fun _ _ _ _ => .of_next (execSubDoorbell_keeps (.of_land rfl) .start)
  case scanResume => exact fun _ _ _ _ => .of_next (execScanResume_keeps (.of_land rfl) .start)
  case inject => exact fun _ _ _ _ _ => .of_next (execInject_keeps (.of_land rfl) .start)
  case receiveBuffer => exact fun _ _ _ _ => .of_next (execReceiveBuffer_keeps (.of_land rfl) .start)
  case stagedRetry => exact fun _ _ _ _ => .of_next (execStagedRetry_keeps (.of_land rfl) .start)
  case coalesceExpiry => exact fun _ _ _ => .of_next (execCoalesceExpiry_keeps (.of_land rfl) .start)
  case ringEnable => exact fun _ _ _ _ => .of_next (execRingEnable_keeps (.of_land rfl) .start)
  case ringDisable => exact fun _ _ _ _ => .of_next (execRingDisable_keeps (.of_land rfl) .start)
  case channelCreate => exact fun _ _ _ _ => .of_next (execChannelCreate_keeps (.of_land rfl) .start)
  case channelSet => exact fun _ _ _ _ => .of_next (execChannelSet_keeps (.of_land rfl) .start)
  case channelQuery => exact fun _ _ _ _ => .of_next (execChannelQuery_keeps (.of_land rfl) .start)
  case dbStatus => exact fun _ _ _ _ => .of_next (execDbStatus_keeps (.of_land rfl) .start)
  case dbMask => exact fun _ _ _ _ => .of_next (execDbMask_keeps (.of_land rfl) .start)
  case dbRing => exact fun _ _ _ _ => .of_next (execDbRing_keeps (.of_land rfl) .start)
  case txData => exact fun _ _ _ _ _ _ => .of_next (execTxData_keeps (.of_land rfl) .start)
  case rxData => exact fun _ _ _ _ _ => .of_next (execRxData_keeps (.of_land rfl) .start)
  case abandon => exact fun _ _ _ _ _ => .of_next (execAbandon_keeps (.of_land rfl) .start)
  case mbStalemate => exact fun _ _ _ => .of_next (execMbStalemate_keeps (.of_land rfl) .start)
  case lockAcquire => exact fun _ _ _ _ => .of_next (execLockAcquire_keeps (.of_land rfl) .start)
  case lockRelease => exact fun _ _ _ _ => .of_next (execLockRelease_keeps (.of_land rfl) .start)
  case lockForce => exact fun _ _ _ _ _ => .of_next (execLockForce_keeps (.of_land rfl) .start)
  case tstart => exact fun _ _ _ _ _ _ => .of_next (execTstart_keeps (.of_land rfl) .start)
  case tstop => exact fun _ _ _ _ _ => .of_next (execTstop_keeps (.of_land rfl) .start)
  case tsig => exact fun _ _ _ _ _ _ => .of_next (execTsig_keeps (.of_land rfl) .start)
  case twfe => exact fun _ _ _ _ _ => .of_next (execTwfe_keeps (.of_land rfl) .start)
  case tpoll => exact fun _ _ _ _ _ => .of_next (execTpoll_keeps (.of_land rfl) .start)
  case tyield => exact fun _ _ _ => .of_next (execTyield_keeps (.of_land rfl) .start)
  case tstat => exact fun _ _ _ _ _ => .of_next (execTstat_keeps (.of_land rfl) .start)
  case threadWake => exact fun _ _ _ => .of_next (execThreadWake_keeps (.of_land rfl) .start)
  case tcmpExpiry => exact fun _ _ _ => .of_next (execTcmpExpiry_keeps (.of_land rfl) .start)
  case twdogExpiry => exact fun _ _ _ => .of_next (execTwdogExpiry_keeps (.of_land rfl) .start)
  case threadFault => exact fun _ _ _ _ => .of_next (execThreadFault_keeps (.of_land rfl) .start)
  case slackWater => exact fun _ _ _ => .of_next (execSlackWater_keeps (.of_land rfl) .start)
  case coreRetainExpiry => exact fun _ _ _ => .of_next (execCoreRetainExpiry_keeps (.of_land rfl) .start)
  case debugHalt => exact fun _ _ _ => .of_next (execDebugHalt_keeps (.of_land rfl) .start)
  case debugResume => exact fun _ _ _ => .of_next (execDebugResume_keeps (.of_land rfl) .start)
  case threadWeight => exact fun _ _ _ _ _ _ => .of_next (execThreadWeight_keeps (.of_land rfl) .start)
  case puntQueue => exact fun _ _ _ _ _ _ => .of_next (execPuntQueue_keeps (.of_land rfl) .start)
  case integratorRestart => exact fun _ _ _ _ => .of_next (execIntegratorRestart_keeps (.of_land rfl) .start)

end Sys2Proof.Machine
end

section
/-! The frames of counters, firmware and tests. -/

namespace Sys2Proof.Machine

/-- Settles O42: each command's meaning keeps every part outside its list. -/
theorem counterFirmwareAndTestFrames : Obligations.CounterFirmwareAndTestFrames := by
  refine ⟨?clearObject, ?clearIndex, ?clearAllObjects, ?clearCounterSet, ?clearQueueStats, ?clearChannelStats, ?clearHistogram,
    ?clearEverything, ?counterSetCreate, ?statsFlush, ?snapshot, ?snapshotReady, ?snapshotQuery, ?wrapQuery, ?counterSetQuery,
    ?histogramQuery, ?traceRead, ?ringReset, ?stageOpen, ?stageEraseDone, ?stageData, ?pieceEraseDone, ?stageHashDone, ?atNextStart,
    ?warmNow, ?activateInstallDone, ?confirm, ?confirmDelayExpiry, ?patternStart, ?patternStop, ?patternDurationEnd, ?bistStart,
    ?bistDone, ?backgroundTestDone, ?healthClear, ?jtagInstruction⟩
  case clearObject => exact fun _ _ _ _ _ => .of_next (execClearObject_keeps (.partsAnyRegister rfl) .start)
  case clearIndex => exact fun _ _ _ _ => .of_next (execClearIndex_keeps (.partsAnyRegister rfl) .start)
  case clearAllObjects => exact fun _ _ _ => .of_next (execClearAllObjects_keeps (.partsAnyRegister rfl) .start)
  case clearCounterSet => exact fun _ _ _ _ => .of_next (execClearCounterSet_keeps (.partsAnyRegister rfl) .start)
  case clearQueueStats => exact fun _ _ _ _ => .of_next (execClearQueueStats_keeps (.partsAnyRegister rfl) .start)
  case clearChannelStats => exact fun _ _ _ _ => .of_next (execClearChannelStats_keeps (.partsAnyRegister rfl) .start)
  case clearHistogram => exact fun _ _ _ _ => .of_next (execClearHistogram_keeps (.partsAnyRegister rfl) .start)
  case clearEverything => exact fun _ _ _ => .of_next (execClearEverything_keeps (.partsAnyRegister rfl) .start)
  case counterSetCreate => exact fun _ _ _ _ => .of_next (execCounterSetCreate_keeps (.of_land rfl) .start)
  case statsFlush => exact fun _ _ _ _ _ => .of_next (execStatsFlush_keeps (.of_land rfl) .start)
  case snapshot => exact fun _ _ _ _ => .of_next (execSnapshot_keeps (.of_land rfl) .start)
  case snapshotReady => exact fun _ _ => .of_next (execSnapshotReady_keeps (.of_land rfl) .start)
  case snapshotQuery => exact fun _ _ _ _ => .of_next (execSnapshotQuery_keeps (.of_land rfl) .start)
  case wrapQuery => exact fun _ _ _ _ => .of_next (execWrapQuery_keeps (.of_land rfl) .start)
  case counterSetQuery => exact fun _ _ _ _ => .of_next (execCounterSetQuery_keeps (.of_land rfl) .start)
  case histogramQuery => exact fun _ _ _ _ => .of_next (execHistogramQuery_keeps (.of_land rfl) .start)
  case traceRead => exact fun _ _ _ _ => .of_next (execTraceRead_keeps (.of_land rfl) .start)
  case ringReset => exact fun _ _ _ _ => .of_next (execRingReset_keeps (.of_land rfl) .start)
  case stageOpen => exact fun _ _ _ _ => .of_next (execStageOpen_keeps (.of_land rfl) .start)
  case stageEraseDone => exact fun _ _ => .of_next (execStageEraseDone_keeps (.of_land rfl) .start)
  case stageData => exact fun _ _ _ _ _ _ => .of_next (execStageData_keeps (.of_land rfl) .start)
  case pieceEraseDone => exact fun _ _ _ => .of_next (execPieceEraseDone_keeps (.of_land rfl) .start)
  case stageHashDone => exact fun _ _ => .of_next (execStageHashDone_keeps (.of_land rfl) .start)
  case atNextStart => exact fun _ _ _ => .of_next (execAtNextStart_keeps (.of_land rfl) .start)
  case warmNow => exact fun _ _ _ => .of_next (execWarmNow_keeps (.of_land rfl) .start)
  case activateInstallDone => exact fun _ _ _ => .of_next (execActivateInstallDone_keeps (.of_land rfl) .start)
  case confirm => exact fun _ _ _ _ => .of_next (execConfirm_keeps (.of_land rfl) .start)
  case confirmDelayExpiry => exact fun _ _ => .of_next (execConfirmDelayExpiry_keeps (.of_land rfl) .start)
  case patternStart => exact fun _ _ _ _ => .of_next (execPatternStart_keeps (.of_land rfl) .start)
  case patternStop => exact fun _ _ _ _ => .of_next (execPatternStop_keeps (.of_land rfl) .start)
  case patternDurationEnd => exact fun _ _ _ => .of_next (execPatternDurationEnd_keeps (.of_land rfl) .start)
  case bistStart => exact fun _ _ _ _ => .of_next (execBistStart_keeps (.of_land rfl) .start)
  case bistDone => exact fun _ _ _ => .of_next (execBistDone_keeps (.of_land rfl) .start)
  case backgroundTestDone => exact fun _ _ _ _ _ _ _ _ => .of_next (execBackgroundTestDone_keeps (.of_land rfl) .start)
  case healthClear => exact fun _ _ _ _ => .of_next (execHealthClear_keeps (.of_land rfl) .start)
  case jtagInstruction => exact fun _ _ _ => .of_next (execJtagInstruction_keeps (.of_land rfl) .start)

end Sys2Proof.Machine
end

section
/-! The frames of the protected pair, and of the commands that stand last in the table. -/

namespace Sys2Proof.Machine

/-- Settles O43: each command's meaning keeps every part outside its list. -/
theorem pairFrames : Obligations.PairFrames := by
  refine ⟨?identity, ?verdictBlock, ?learnRecord, ?departureMark, ?fabricVerdict, ?copyVerdict, ?hostWork, ?queueEnd, ?digest, ?heartbeat,
    ?faultRequest, ?verdictFlush, ?verdictWaitExpiry, ?digestClose, ?departureInterval, ?fabricVerdictFlush, ?selftestInterval,
    ?mateReplayTimeout, ?mateLaneRetrain, ?mateLinkUp, ?mateIdleCell, ?fabLinkAligned, ?laneReacquired, ?ppsOutFall, ?mgmtLinkUp,
    ?mgmtLinkDown, ?pcieLinkTrained, ?groupDownTimeout, ?ondieUncorrectableError, ?pairFaultInRise, ?checkerLocked, ?checkerLockLost,
    ?cmisPassthroughDone, ?dgAlignmentMarker⟩
  case identity => exact fun _ _ _ => .of_next (execIdentity_keeps (.of_land rfl) .start)
  case verdictBlock => exact fun _ _ _ => .of_next (execVerdictBlock_keeps (.of_land rfl) .start)
  case learnRecord => exact fun _ _ _ => .of_next (execLearnRecord_keeps (.of_land rfl) .start)
  case departureMark => exact fun _ _ _ => .of_next (execDepartureMark_keeps (.of_land rfl) .start)
  case fabricVerdict => exact fun _ _ _ => .of_next (execFabricVerdict_keeps (.of_land rfl) .start)
  case copyVerdict => exact fun _ _ _ => .of_next (execCopyVerdict_keeps (.of_land rfl) .start)
  case hostWork => exact fun _ _ _ => .of_next (execHostWork_keeps (.of_land rfl) .start)
  case queueEnd => exact fun _ _ _ => .of_next (execQueueEnd_keeps (.of_land rfl) .start)
  case digest => exact fun _ _ _ => .of_next (execDigest_keeps (.of_land rfl) .start)
  case heartbeat => exact fun _ _ _ _ => .of_next (execHeartbeat_keeps (.of_land rfl) .start)
  case faultRequest => exact fun _ _ _ _ => .of_next (execFaultRequest_keeps (.of_land rfl) .start)
  case verdictFlush => exact fun _ _ _ => .of_next (execVerdictFlush_keeps (.of_land rfl) .start)
  case verdictWaitExpiry => exact fun _ _ _ _ _ => .of_next (execVerdictWaitExpiry_keeps (.of_land rfl) .start)
  case digestClose => exact fun _ _ _ => .of_next (execDigestClose_keeps (.of_land rfl) .start)
  case departureInterval => exact fun _ _ => .of_next (execDepartureInterval_keeps (.of_land rfl) .start)
  case fabricVerdictFlush => exact fun _ _ _ _ => .of_next (execFabricVerdictFlush_keeps (.of_land rfl) .start)
  case selftestInterval => exact fun _ _ => .of_next (execSelftestInterval_keeps (.of_land rfl) .start)
  case mateReplayTimeout => exact fun _ _ _ => .of_next (execMateReplayTimeout_keeps (.of_land rfl) .start)
  case mateLaneRetrain => exact fun _ _ _ => .of_next (execMateLaneRetrain_keeps (.of_land rfl) .start)
  case mateLinkUp => exact fun _ _ _ => .of_next (execMateLinkUp_keeps (.of_land rfl) .start)
  case mateIdleCell => exact fun _ _ _ _ => .of_next (execMateIdleCell_keeps (.of_land rfl) .start)
  case fabLinkAligned => exact fun _ _ _ => .of_next (execFabLinkAligned_keeps (.of_land rfl) .start)
  case laneReacquired => exact fun _ _ _ => .of_next (execLaneReacquired_keeps (.of_land rfl) .start)
  case ppsOutFall => exact fun _ _ => .of_next (execPpsOutFall_keeps (.of_land rfl) .start)
  case mgmtLinkUp => exact fun _ _ _ => .of_next (execMgmtLinkUp_keeps (.of_land rfl) .start)
  case mgmtLinkDown => exact fun _ _ _ => .of_next (execMgmtLinkDown_keeps (.of_land rfl) .start)
  case pcieLinkTrained => exact fun _ _ _ _ => .of_next (execPcieLinkTrained_keeps (.of_land rfl) .start)
  case groupDownTimeout => exact fun _ _ _ => .of_next (execGroupDownTimeout_keeps (.of_land rfl) .start)
  case ondieUncorrectableError => exact fun _ _ _ _ => .of_next (execOndieUncorrectableError_keeps (.of_land rfl) .start)
  case pairFaultInRise => exact fun _ _ => .of_next (execPairFaultInRise_keeps (.of_land rfl) .start)
  case checkerLocked => exact fun _ _ _ => .of_next (execCheckerLocked_keeps (.of_land rfl) .start)
  case checkerLockLost => exact fun _ _ _ _ _ _ _ => .of_next (execCheckerLockLost_keeps (.of_land rfl) .start)
  case cmisPassthroughDone => exact fun _ _ _ _ _ => .of_next (execCmisPassthroughDone_keeps (.of_land rfl) .start)
  case dgAlignmentMarker => exact fun _ _ _ => .of_next (execDgAlignmentMarker_keeps (.of_land rfl) .start)

end Sys2Proof.Machine
end

section
/-! Mailboxes: what the doorbells leave of them, and how a message builds up in a direction (R468 to R471). -/

namespace Sys2Proof.Machine

theorem Mailbox.setDir_dir (b : Mailbox) (d : Nat) (x : MbDir) : (b.setDir d x).dir d = x := by
  by_cases hd : d = 0 <;> simp [Mailbox.setDir, Mailbox.dir, hd]

theorem Mailbox.setDir_setDir (b : Mailbox) (d : Nat) (x y : MbDir) : (b.setDir d x).setDir d y = b.setDir d y := by
  by_cases hd : d = 0 <;> simp [Mailbox.setDir, hd]

theorem State.setMailbox_setMailbox (s : State) (m : Nat) (b c : Mailbox) : (s.setMailbox m b).setMailbox m c = s.setMailbox m c := by
  simp only [State.setMailbox, mput_mput]

/-- A doorbell that signals raises a vector or an event of a thread, and no mailbox moves (R467). -/
theorem State.signalSet_mailboxes (s : State) (k : Nat) : (s.signalSet k).host.mailboxes = s.host.mailboxes := by
  have hvector (v : Nat) : (s.raiseVector v).host.mailboxes = s.host.mailboxes := by
    unfold State.raiseVector
    repeat' split
    all_goals rfl
  have hthread (t bits : Nat) : (s.signalThread t bits).host.mailboxes = s.host.mailboxes := by
    unfold State.signalThread
    split <;> rfl
  unfold State.signalSet
  dsimp only
  repeat' split
  case h_1 => exact hvector _
  all_goals first | exact hthread _ _ | rfl

theorem State.ringSet_mailboxes (s : State) (k bits : Nat) : (s.ringSet k bits).host.mailboxes = s.host.mailboxes := by
  rw [State.ringSet]
  split
  · rfl
  · dsimp only
    split
    · exact State.signalSet_mailboxes ..
    · rfl

/-- The doorbell of an end leaves the mailbox itself alone (R471). -/
theorem State.ringEnd_mailbox (s : State) (m side : Nat) (empty : Bool) (n : Nat) : (s.ringEnd m side empty).mailbox n = s.mailbox n := by
  rw [State.ringEnd]
  split
  · rfl
  · exact congrArg (mgetD .reset · n) (State.ringSet_mailboxes ..)

/-- What a direction holds once its message is whole (R469). -/
theorem State.deliver_dir (s : State) (m d : Nat) (x : MbDir) : ((s.deliver m d x).mailbox m).dir d =
    { x with words := x.words ++ x.partialWords, partialWords := [], claim := none, expect := 0 } := by
  have hput : ((s.putMailbox m ((s.mailbox m).setDir d
      { x with words := x.words ++ x.partialWords, partialWords := [], claim := none, expect := 0 })).mailbox m).dir d =
        { x with words := x.words ++ x.partialWords, partialWords := [], claim := none, expect := 0 } := by
    rw [State.putMailbox, State.setMailbox_mailbox]
    exact Mailbox.setDir_dir ..
  rw [State.deliver]
  split
  · rwa [State.ringEnd_mailbox]
  · exact hput

/-- A master reaches a direction of a mailbox, and may use it (R468, R485, R491). -/
structure State.Reaches (s : State) (master m d : Nat) : Prop where
  mailbox : m < 64
  dir : d < 2
  awake : s.mode ≠ .dormant
  issues : 192 ≤ master ∨ s.issues master = true
  uses : s.mayUseMailbox master m = true

theorem State.Reaches.served {s : State} {master m d : Nat} (h : s.Reaches master m d) :
    ¬(64 ≤ m ∨ 2 ≤ d ∨ s.mode = .dormant ∨ (master < 192 ∧ (!s.issues master) = true)) := by
  obtain ⟨hm, hd, hawake, hissues, -⟩ := h
  rintro (h | h | h | ⟨hlow, hnot⟩)
  · omega
  · omega
  · exact hawake h
  · rw [Bool.not_eq_true'] at hnot
    rcases hissues with h | h
    · omega
    · exact absurd (h.symm.trans hnot) (by decide)

theorem State.Reaches.allowed {s : State} {master m d : Nat} (h : s.Reaches master m d) : ¬(!s.mayUseMailbox master m) = true := by
  rw [h.uses]
  decide

/-- A mailbox that changed is reached by the same masters as before. -/
theorem State.Reaches.setMailbox {s : State} {master m d : Nat} (h : s.Reaches master m d) (n : Nat) (b : Mailbox) :
    (s.setMailbox n b).Reaches master m d := ⟨h.mailbox, h.dir, h.awake, h.issues, h.uses⟩

/-- The first word, a header with no reserved bit that finds room, claims the direction (R469). -/
theorem execTxData_claims {master m d w : Nat} {s : State} (h : s.Reaches master m d) (hfree : ((s.mailbox m).dir d).claim = none)
    (hspare : fld w 15 8 = 0) (hlen : 1 ≤ w % 256)
    (hroom : 1 + w % 256 ≤ 256 - ((s.mailbox m).dir d).words.length - ((s.mailbox m).dir d).partialWords.length) :
    exec (.txData master m d w) s = .next (s.setMailbox m ((s.mailbox m).setDir d
      { (s.mailbox m).dir d with partialWords := [w % 2 ^ 32], claim := some master, expect := w % 256 })) := by
  change execTxData master m d w s = _
  simp only [execTxData, if_neg h.served, if_neg h.allowed, hfree]
  rw [if_neg (by omega), if_neg (by omega)]

/-- A word of the claim's holder that is not the last joins the partial message (R469). -/
theorem execTxData_joins {master m d w : Nat} {s : State} (h : s.Reaches master m d) (hclaim : ((s.mailbox m).dir d).claim = some master)
    (hmore : 1 < ((s.mailbox m).dir d).expect) :
    exec (.txData master m d w) s = .next (s.setMailbox m ((s.mailbox m).setDir d { (s.mailbox m).dir d with
      partialWords := ((s.mailbox m).dir d).partialWords ++ [w % 2 ^ 32], expect := ((s.mailbox m).dir d).expect - 1 })) := by
  change execTxData master m d w s = _
  simp only [execTxData, if_neg h.served, if_neg h.allowed, hclaim, ne_eq, not_true_eq_false, if_false]
  rw [if_neg (by omega)]

/-- The last word of the claim's holder delivers the message (R469). -/
theorem execTxData_delivers {master m d w : Nat} {s : State} (h : s.Reaches master m d)
    (hclaim : ((s.mailbox m).dir d).claim = some master) (hlast : ((s.mailbox m).dir d).expect = 1) :
    exec (.txData master m d w) s = .next (s.deliver m d { (s.mailbox m).dir d with
      partialWords := ((s.mailbox m).dir d).partialWords ++ [w % 2 ^ 32], expect := 0 }) := by
  change execTxData master m d w s = _
  simp only [execTxData, if_neg h.served, if_neg h.allowed, hclaim, ne_eq, not_true_eq_false, if_false, hlast, if_true]

/-! ### A whole message -/

/-- The state while a message is written: its header and its first k payload words stand in the direction, claimed by the writer. -/
def State.writing (s : State) (master m d header : Nat) (ws : List Nat) (k : Nat) : State :=
  s.setMailbox m ((s.mailbox m).setDir d
    { (s.mailbox m).dir d with partialWords := header :: ws.take k, claim := some master, expect := ws.length - k })

theorem State.writing_dir (s : State) (master m d header : Nat) (ws : List Nat) (k : Nat) :
    ((s.writing master m d header ws k).mailbox m).dir d =
      { (s.mailbox m).dir d with partialWords := header :: ws.take k, claim := some master, expect := ws.length - k } := by
  rw [State.writing, State.setMailbox_mailbox, Mailbox.setDir_dir]

/-- A word written in a state that may have stopped before. -/
def sendWord (master m d : Nat) (u : Option State) (w : Nat) : Option State :=
  u.bind fun v => match exec (.txData master m d w) v with
    | .next x => some x
    | _ => none

theorem sendWord_of_next {master m d w : Nat} {v x : State} (h : exec (.txData master m d w) v = .next x) :
    sendWord master m d (some v) w = some x := by
  simp only [sendWord, Option.bind_some, h]

section
variable {master m d header : Nat} {ws : List Nat} {s : State} (h : s.Reaches master m d) (hheader : header < 2 ^ 32)
  (hspare : fld header 15 8 = 0) (hws : ∀ w ∈ ws, w < 2 ^ 32) (hlen : header % 256 = ws.length) (hsome : 0 < ws.length)
  (hfree : ((s.mailbox m).dir d).claim = none) (hempty : ((s.mailbox m).dir d).partialWords = [])
  (hroom : ((s.mailbox m).dir d).words.length + ws.length < 256)
include h hheader hspare hws hlen hsome hfree hempty hroom

/-- Before the last word the message stands in the direction's partial words (R469). -/
theorem sendWord_writing {k : Nat} (hk : k < ws.length) :
    (header :: ws.take k).foldl (sendWord master m d) (some s) = some (s.writing master m d header ws k) := by
  induction k with
  | zero =>
    have hclaim := execTxData_claims h hfree hspare (by omega) (by rw [hempty, List.length_nil]; omega)
    rw [List.take_zero, List.foldl_cons, List.foldl_nil, sendWord_of_next hclaim, State.writing, hlen, Nat.mod_eq_of_lt hheader]
    rfl
  | succ k ih =>
    have hdir := s.writing_dir master m d header ws k
    have hreach : (s.writing master m d header ws k).Reaches master m d := h.setMailbox m _
    have hjoin := execTxData_joins (w := ws[k]) hreach
      (by rw [hdir]) (by rw [hdir]; change 1 < ws.length - k; omega)
    rw [← List.take_append_getElem (Nat.lt_of_succ_lt hk), ← List.cons_append, List.foldl_append, ih (Nat.lt_of_succ_lt hk),
      List.foldl_cons, List.foldl_nil, sendWord_of_next hjoin, hdir, Nat.mod_eq_of_lt (hws _ (List.getElem_mem _))]
    simp only [State.writing, State.setMailbox_mailbox, State.setMailbox_setMailbox, Mailbox.setDir_setDir, List.cons_append,
      List.take_append_getElem, Nat.sub_sub]

/-- The last word delivers the message behind those before it (R469, R471). -/
theorem sendWord_delivers : ∃ t, (header :: ws).foldl (sendWord master m d) (some s) = some t ∧
    ((t.mailbox m).dir d).words = ((s.mailbox m).dir d).words ++ header :: ws ∧ ((t.mailbox m).dir d).claim = none := by
  have hk : ws.length - 1 < ws.length := by omega
  have hwhole : ws.take (ws.length - 1) ++ [ws[ws.length - 1]] = ws := by
    rw [List.take_append_getElem, Nat.sub_add_cancel hsome, List.take_length]
  have hdir := s.writing_dir master m d header ws (ws.length - 1)
  have hreach : (s.writing master m d header ws (ws.length - 1)).Reaches master m d := h.setMailbox m _
  have hdeliver := execTxData_delivers (w := ws[ws.length - 1]) hreach
    (by rw [hdir]) (by rw [hdir]; change ws.length - (ws.length - 1) = 1; omega)
  rw [hdir, Nat.mod_eq_of_lt (hws _ (List.getElem_mem _))] at hdeliver
  have hbefore := sendWord_writing h hheader hspare hws hlen hsome hfree hempty hroom hk
  have hfold : (header :: ws).foldl (sendWord master m d) (some s) =
      sendWord master m d (some (s.writing master m d header ws (ws.length - 1))) ws[ws.length - 1] := by
    rw [← hbefore, ← List.foldl_concat (f := sendWord master m d), List.cons_append, hwhole]
  refine ⟨_, hfold.trans (sendWord_of_next hdeliver), ?_, ?_⟩
  · rw [State.deliver_dir]
    simp only [List.cons_append, hwhole]
  · rw [State.deliver_dir]

end

/-- Settles O53: by induction over the words that were written, the partial message grows until its last word delivers it. -/
theorem messagesAreDeliveredWhole : Obligations.MessagesAreDeliveredWhole := by
  intro master m d header ws s hm hd hawake hissues huses hheader hspare hws hlen hsome hfree hempty hroom k hk
  have h : s.Reaches master m d := ⟨hm, hd, hawake, hissues, huses⟩
  rcases Nat.lt_or_eq_of_le hk with hk | rfl
  · have hfold := sendWord_writing h hheader hspare hws hlen hsome hfree hempty hroom hk
    have hdir := s.writing_dir master m d header ws k
    exact ⟨_, hfold, fun _ => ⟨by rw [hdir], by rw [hdir], by rw [hdir]⟩, fun hend => absurd hend hk.ne⟩
  · obtain ⟨t, hfold, hwords, hclaim⟩ := sendWord_delivers h hheader hspare hws hlen hsome hfree hempty hroom
    rw [← List.take_length (l := ws)] at hfold
    rw [List.take_length] at hfold ⊢
    exact ⟨t, hfold, fun hless => absurd hless (Nat.lt_irrefl _), fun _ => ⟨hwords, hclaim⟩⟩

end Sys2Proof.Machine
end

section
/-! The commands of the die-to-die groups (R437 to R439). -/

namespace Sys2Proof.Machine

theorem State.dg_congr {s t : State} (h : t.ports = s.ports) (g : Nat) : t.dg g = s.dg g := by
  rw [State.dg, State.dg, h]

theorem execDgUncorrectableFlit_counts {g : Nat} {toTm : Bool} {hits : List Nat} {s : State} (hs : s.StoresRise) (hg : g < 16)
    (hup : s.reg 0x3700 g = 2) (hfew : ((s.dg g).uncorrectable.filter fun u => decide (s.now < u + 1000000)).length < 16) :
    Completes (.dgUncorrectableFlit g toTm hits) s fun t => t.reg 0x3703 g = (s.reg 0x3703 g + 1) % counterSpan 0x3703 g ∧
      (t.dg g).uncorrectable = ((s.dg g).uncorrectable.filter fun u => decide (s.now < u + 1000000)) ++ [s.now] := by
  have hcounted (times : List Nat) :
      (((s.bump 0x3703 g).healthFree 6 g (natBe g 1)).setDg g { s.dg g with uncorrectable := times }).reg 0x3703 g =
        (s.reg 0x3703 g + 1) % counterSpan 0x3703 g := by
    have hhealth : On inS _ (s.bump 0x3703 g) ((s.bump 0x3703 g).healthFree 6 g (natBe g 1)) := State.healthFree_keeps (.refl _) .start
    exact (hhealth.reg_same g rfl).trans (s.count_reg 0x3703 g 1 hs.objs)
  refine ⟨_, rfl, ?_⟩
  dsimp only
  rw [if_neg (by omega), if_neg (by rw [List.length_append, List.length_singleton]; omega)]
  cases toTm with
  | true =>
    have hlost (u : State) : On inS _ u (u.flitToTm g hits) := State.flitToTm_keeps (.refl _) .start
    rw [if_pos rfl, (hlost _).reg_same g rfl, State.dg_congr ((hlost _).ports_same rfl), State.setDg_dg]
    exact ⟨hcounted _, rfl⟩
  | false =>
    have hlost (u : State) : On inS _ u (u.flitToFe g hits) := State.flitToFe_keeps (.refl _) .start
    rw [if_neg Bool.false_ne_true, (hlost _).reg_same g rfl, State.dg_congr ((hlost _).ports_same rfl), State.setDg_dg]
    exact ⟨hcounted _, rfl⟩

/-- A group that fails holds the ingress lane of its slice (R439). -/
theorem State.dgFail_fails {g : Nat} {s : State} (hs : s.StoresRise) (hused : s.reg 0x3700 g ≠ 0) (hup : s.reg 0x3700 g ≠ 3) :
    (s.dgFail g).reg 0x3700 g = 3 ∧ ((s.dgFail g).sliceAt g).hold = true := by
  have hdown (l : List Nat) (u : State) : On inS _ u (l.foldl (fun s p => s.portDown p 11 3) u) :=
    .foldl .start fun _ _ h => State.portDown_keeps (.refl _) h
  have hended (u : State) : On inS _ u (((u.abortTestOn 4 g).abortTestOn 4 (16 + g)).healthFree 6 0 (natBe g 1)) :=
    State.healthFree_keeps (Covers.of_land rfl) (State.abortTestOn_keeps (.refl _) (State.abortTestOn_keeps (.refl _) .start))
  rw [State.dgFail, if_neg (by omega)]
  dsimp only
  rw [(hended _).reg_same g rfl, (hended _).sliceAt_same rfl, State.setSlice_sliceAt]
  exact ⟨((hdown _ _).reg_same g rfl).trans (s.setReg_reg 0x3700 g 3 hs.objs), rfl⟩

theorem execDgRetrain_up {g : Nat} {s : State} (hs : s.StoresRise) (hg : g < 16) (hfailed : s.reg 0x3700 g = 3) :
    Completes (.dgRetrain g true) s fun t => t.reg 0x3700 g = 2 ∧ (s.dg g).failedSince + 10000000 ≤ t.now := by
  have hclean {p : State → Nat → Prop} [∀ s k, Decidable (p s k)] (u : State) : On inS 0x800 u ((List.range 128).foldl
      (fun s k => if p s k then s.setPort k { s.port k with cleanSince := some s.now } else s) u) :=
    .foldl .start fun _ _ h => .ite (State.setPort_keeps (.refl _) h) h
  refine ⟨_, rfl, ?_⟩
  dsimp only
  rw [if_neg (by omega), if_neg (by decide), (hclean _).reg_same g rfl, (hclean _).now_same rfl]
  exact ⟨State.setReg_reg _ 0x3700 g 2 hs.objs, Nat.le_max_right ..⟩

theorem execDgCalRound_counts {g corrected : Nat} {margin : List Byte} {s : State} (hs : s.StoresRise) (hg : g < 16)
    (hup : s.reg 0x3700 g = 2) (hwarm : s.power.warmSince = none) : Completes (.dgCalRound g margin corrected) s fun t =>
      t.reg 0x3702 g = (s.reg 0x3702 g + corrected) % counterSpan 0x3702 g := by
  have hserved : ¬(16 ≤ g ∨ s.reg 0x3700 g ≠ 2 ∨ s.power.warmSince.isSome = true) := by
    rw [hwarm]
    simp only [Option.isSome_none, Bool.false_eq_true, or_false]
    omega
  refine ⟨_, rfl, ?_⟩
  dsimp only
  rw [if_neg hserved, State.count_reg, State.count_other _ _ (okey_ne_of_index (show 0x3702 ≠ 0x3705 by decide) g g)]
  · rfl
  · exact State.count_rising _ _ _ _ hs.objs

theorem execDgAlignmentMarker_applies {g : Nat} {s : State} (hg : g < 16) (hup : s.reg 0x3700 g = 2) :
    Completes (.dgAlignmentMarker g) s fun t => (t.dg g).staged = [] ∧
      (t.dg g).delays = (s.dg g).staged.foldl (fun l (w, d) => mput l w (mgetD 0 l w + d)) (s.dg g).delays := by
  refine ⟨_, rfl, ?_⟩
  dsimp only
  rw [if_neg (by omega), State.setDg_dg]
  exact ⟨rfl, rfl⟩

/-- Settles O23: each command by the lemma of its meaning. The count of corrected flits that enters with DG_CAL_ROUND is the model's
choice (log entry 46). -/
theorem dieToDieCommandsComplete : Obligations.DieToDieCommandsComplete := by
  refine ⟨?flit, ?fail, ?retrain, ?round, ?marker⟩
  case flit => exact fun _ _ _ _ => execDgUncorrectableFlit_counts
  case fail =>
    intro g s hs hg hused hup
    refine ⟨_, rfl, ?_⟩
    rw [if_neg (by omega)]
    exact State.dgFail_fails hs hused hup
  case retrain => exact fun _ _ => execDgRetrain_up
  case round => exact fun _ _ _ _ => execDgCalRound_counts
  case marker => exact fun _ _ => execDgAlignmentMarker_applies

end Sys2Proof.Machine
end

section
/-! The commands of pattern tests, self-tests, the health report and the TAP (R545 to R556). -/

namespace Sys2Proof.Machine

/-! ### Pattern tests -/

theorem On.tests_same {ps : Nat} {s t : State} (h : On inS ps s t) (e : ps.testBit 15 = false) : t.test.tests = s.test.tests := by
  have hbody : t.test.body = s.test.body := h.keeps.only .testing e
  have htests := congrArg Testing.tests hbody
  exact htests

@[simp] theorem State.setTest_tests (s : State) (k : Nat) (x : PatternTest) : mget (s.setTest k x).test.tests k = some x :=
  mget_mput_same

/-- Sampling a running test adds to its counts only (R547). -/
theorem State.sampleTest_running {s : State} {k : Nat} {x : PatternTest} (hx : mget s.test.tests k = some x) (hrun : x.running = true) :
    ∃ y, mget (s.sampleTest k).test.tests k = some y ∧ y.running = true := by
  rw [State.sampleTest, hx]
  dsimp only
  split
  · exact ⟨x, hx, hrun⟩
  · exact ⟨_, State.setTest_tests .., hrun⟩

/-- A running test ends in the state that it is given (R545, R550). -/
theorem State.endTest_ends {s : State} {k : Nat} {x : PatternTest} (hx : mget s.test.tests k = some x) (hrun : x.running = true) (st : Nat) :
    ∃ y, mget (s.endTest st k).test.tests k = some y ∧ y.state = st := by
  obtain ⟨y, hy, hyrun⟩ := State.sampleTest_running hx hrun
  refine ⟨{ y with state := st, ended := (s.sampleTest k).now }, ?_, rfl⟩
  have hafter (u : State) (p q r : Prop) [Decidable p] [Decidable q] [Decidable r] (area code cc : Nat) (detail : List Byte) :
      mget (if r then (if q then (if p then u.setLanes [k] 0 else u).healthFree area code detail else if p then u.setLanes [k] 0 else u).loseChannelStats cc
        else if q then (if p then u.setLanes [k] 0 else u).healthFree area code detail
          else if p then u.setLanes [k] 0 else u).test.tests k = mget u.test.tests k := by
    have hlanes : On inS 0x1000000000000000000000000000000000000000600000000000000f14000 u (if p then u.setLanes [k] 0 else u) :=
      .ite (State.setLanes_keeps (.of_land rfl) .start) .start
    have hhealth := On.ite (c := q) (State.healthFree_keeps (area := area) (code := code) (detail := detail) (.of_land rfl) hlanes) hlanes
    have hstats := On.ite (c := r) (State.loseChannelStats_keeps (cc := cc) (.of_land rfl) hhealth) hhealth
    rw [hstats.tests_same rfl]
  rw [State.endTest]
  dsimp only
  rw [hy]
  dsimp only
  rw [if_neg (by rw [hyrun]; decide)]
  exact (hafter ..).trans (State.setTest_tests ..)

theorem execPatternStart_starts {o : Origin} {v : List Byte} {kind n : Nat} {s : State} (hok : s.checkWrite o 0xD000 1 v = .ok)
    (hkind : byteAt v 0 = kind) (hn : targetNumber kind (byteAt v 1) = some n) (hlen : v.length = 24) (hgood : patternFieldsGood v = true)
    (hfree : s.testRuns (256 * kind + n) = false) (hidle : s.targetIdle o kind n = true) (hmode : 3 ≤ kind → s.mode = .diagnostic)
    (hroom : kind = 4 → s.dgTests < 8) : Completes (.patternStart o v) s fun t => ∃ x, mget t.test.tests (256 * kind + n) = some x ∧
      x.params = v ∧ x.started = s.now ∧ x.errors = 0 ∧ x.state = if kind = 5 ∧ bitAt (byteAt v 3) 1 = true then 2 else 1 := by
  subst hkind
  have hallowed : ¬(byteAt v 0 ≤ 5 ∧ 3 ≤ byteAt v 0 ∧ s.mode ≠ .diagnostic) := fun ⟨_, hhigh, hnot⟩ => hnot (hmode hhigh)
  refine completes_of_octets (by decide +kernel) rfl hok (by
    simp only [patternStartEffect, hn, Option.getD_some]
    rw [if_neg hallowed, if_neg (by simp [hlen, hgood]), if_neg (by simp [hfree, hidle]), if_neg (fun ⟨h4, hfull⟩ => by have := hroom h4; omega)]) ?_
  simp only [State.endWrite_same]
  exact ⟨_, State.setTest_tests .., rfl, rfl, rfl, rfl⟩

theorem State.exists_of_testRuns {s : State} {k : Nat} (h : s.testRuns k = true) : ∃ x, mget s.test.tests k = some x ∧ x.running = true := by
  rw [State.testRuns, Option.any_eq_true] at h
  exact h

theorem execPatternStop_stops {o : Origin} {v : List Byte} {n : Nat} {s : State} (hok : s.checkWrite o 0xD000 2 v = .ok)
    (hn : targetNumber (byteAt v 0) (byteAt v 1) = some n) (hruns : s.testRuns (256 * byteAt v 0 + n) = true) :
    Completes (.patternStop o v) s fun t => ∃ x, mget t.test.tests (256 * byteAt v 0 + n) = some x ∧ x.state = 4 := by
  obtain ⟨x, hx, hrun⟩ := State.exists_of_testRuns hruns
  refine completes_of_octets (u := s.endTest 4 (256 * byteAt v 0 + n)) (by decide +kernel) rfl hok (by simp only [patternStopEffect, hn]) ?_
  simp only [State.endWrite_same]
  exact State.endTest_ends hx hrun 4

theorem execPatternDurationEnd_ends {k : Nat} {x : PatternTest} {s : State} (hx : mget s.test.tests k = some x) (hrun : x.running = true)
    (hms : beAt x.params 8 4 ≠ 0) : Completes (.patternDurationEnd k) s fun t =>
      (∃ y, mget t.test.tests k = some y ∧ y.state = 3) ∧ x.started + beAt x.params 8 4 * 1000000 ≤ t.now := by
  have hended (u : State) : On inS _ u (u.endTest 3 k) := State.endTest_keeps (.refl _) .start
  refine ⟨_, rfl, ?_⟩
  rw [hx]
  dsimp only
  rw [if_neg (by simp [hrun, hms]), (hended _).now_same rfl]
  exact ⟨State.endTest_ends (s := s.reach _) hx hrun 3, Nat.le_max_right ..⟩

theorem execCheckerLocked_locks {k : Nat} {x : PatternTest} {s : State} (hx : mget s.test.tests k = some x) (hstate : x.state = 1)
    (hcheck : bitAt (byteAt x.params 3) 1 = true) :
    Completes (.checkerLocked k) s fun t => mget t.test.tests k = some { x with state := 2 } := by
  refine ⟨_, rfl, ?_⟩
  rw [hx]
  dsimp only
  rw [if_pos ⟨hstate, hcheck⟩, State.setTest_tests]

theorem execCheckerLockLost_counts {k bits errors injected seconds : Nat} {x : PatternTest} {s : State} (hx : mget s.test.tests k = some x)
    (hstate : x.state = 2) (hlane : k / 256 ≠ 5) : Completes (.checkerLockLost k bits errors injected seconds) s fun t =>
      ∃ y, mget t.test.tests k = some y ∧ y.state = 1 ∧ y.lockLosses = x.lockLosses + 1 ∧ y.bits = x.bits + bits ∧
        y.errors = x.errors + errors := by
  refine ⟨_, rfl, ?_⟩
  rw [hx]
  dsimp only
  rw [if_neg (by omega), State.setTest_tests]
  exact ⟨_, rfl, rfl, rfl, rfl, rfl⟩

/-! ### Built-in self-test and background tests -/

theorem execBistStart_begins {o : Origin} {v : List Byte} {m : Nat} {s : State} (hok : s.checkWrite o 0xD020 1 v = .ok)
    (hm : beNat (canonical o.be (typeOf 0xD020 1) v) = m) (hlow : m < 0x80) (hidle : s.test.bistState ≠ 1) (hfree : s.scopesBusy m = false) :
    Completes (.bistStart o v) s fun t => t.test.bistState = 1 ∧ t.test.bistScopes = m := by
  have heffect : bistStartEffect (canonical o.be (typeOf 0xD020 1) v) s =
      (.ok, { s with test := { s.test with bistScopes := m, bistState := 1 } }) := by
    simp only [bistStartEffect, hm]
    rw [if_neg (by omega), if_neg (by simp [hidle, hfree])]
  refine completes_of_write rfl hok heffect ?_
  simp only [State.endWrite_same]
  exact ⟨trivial, trivial⟩

/-- A health record shows in the objects of its area and of the whole unit only (R556). -/
theorem State.health_reg_other (s : State) (area severity code : Nat) (detail : List Byte) {i j : Nat} (hi : i ≠ 0xD041)
    (hj : okey i j ≠ okey 0xD040 1 ∧ okey i j ≠ okey 0xD040 2) : (s.health area severity code detail).reg i j = s.reg i j := by
  have hlog (u : State) (r : List Byte) : (u.logHealth r).reg i j = u.reg i j := by
    simp only [State.logHealth, State.setHealth_fields]
  have hfault (u : State) (r : List Byte) : (u.logFault r).reg i j = u.reg i j := by
    rw [State.logFault]
    split <;> simp only [State.setFaults_fields]
  unfold State.health
  dsimp only
  repeat' split
  all_goals simp only [State.setReg_other _ _ hj.1, State.setReg_other _ _ hj.2, State.setReg_other _ _ (okey_ne_of_index hi j area),
    hlog, hfault]

theorem execBistDone_reports {failed recs : List (List Byte)} {s : State} (hs : s.StoresRise) (hruns : s.test.bistState = 1)
    (hrecs : recs = (failed.map fun r => slice r 0 8).filter (fun r => bitAt s.test.bistScopes (byteAt r 0))) :
    Completes (.bistDone failed) s fun t => t.test.bistState = 2 ∧ t.test.bistDetail = recs ∧ t.reg 0xD020 3 = recs.length := by
  have hcleared : On inS _ s (((List.range 7).filter (bitAt s.test.bistScopes)).foldl State.clearScope s) :=
    .foldl .start fun _ _ h => State.clearScope_keeps (.refl _) h
  have hhealth (l : List (List Byte)) (u : State) : (l.foldl (fun s r => s.health 8 2 0 r) u).reg 0xD020 3 = u.reg 0xD020 3 := by
    induction l generalizing u with
    | nil => rfl
    | cons r l ih =>
      rw [List.foldl_cons, ih]
      exact u.health_reg_other 8 2 0 r (by decide) (by decide +kernel)
  have hbody (l : List (List Byte)) (u : State) : On inS _ u (l.foldl (fun s r => s.health 8 2 0 r) u) :=
    .foldl .start fun _ _ h => State.health_keeps (.refl _) h
  refine ⟨_, rfl, ?_⟩
  rw [if_neg (by simp [hruns])]
  unfold State.reportBist
  dsimp only
  refine ⟨?_, ?_, ?_⟩
  · exact congrArg Testing.bistState ((hbody _ _).keeps.only .testing rfl)
  · exact (congrArg Testing.bistDetail ((hbody _ _).keeps.only .testing rfl)).trans hrecs.symm
  · rw [hhealth, hrecs]
    exact State.setReg_reg _ _ _ _ (State.setReg_rising _ _ _ _ (hcleared.objs_rise hs.objs))

theorem execBackgroundTestDone_counts {kind number : Nat} {holds : Bool} {s : State} (hs : s.StoresRise) (hruns : s.backgroundRuns = true)
    (hkind : kind ≤ 4) : Completes (.backgroundTestDone kind number false true holds false) s fun t =>
      t.reg 0xD030 2 = (s.reg 0xD030 2 + 1) % counterSpan 0xD030 2 := by
  refine ⟨_, rfl, ?_⟩
  dsimp only
  rw [if_neg (by simp [hruns, hkind])]
  simp only [Bool.false_eq_true, if_false, if_true]
  exact s.count_reg 0xD030 2 1 hs.objs

/-! ### The health report and the TAP -/

/-- The first n sub-indices of an index, each set to 0. -/
theorem foldl_setReg_zero {s : State} (hr : rising s.objs = true) (i : Nat) {n : Nat} (hn : n ≤ 256) :
    rising ((List.range n).foldl (fun s a => s.setReg i a 0) s).objs = true ∧
      ∀ a, a < n → ((List.range n).foldl (fun s a => s.setReg i a 0) s).reg i a = 0 := by
  induction n with
  | zero => exact ⟨hr, fun _ ha => absurd ha (Nat.not_lt_zero _)⟩
  | succ n ih =>
    obtain ⟨hrise, hread⟩ := ih (by omega)
    rw [List.range_succ, List.foldl_concat]
    refine ⟨State.setReg_rising _ _ _ _ hrise, fun a ha => ?_⟩
    rcases Nat.lt_succ_iff_lt_or_eq.mp ha with hlt | rfl
    · rw [State.setReg_other _ _ (by unfold okey; omega), hread a hlt]
    · exact State.setReg_reg _ _ _ _ hrise

theorem execHealthClear_clears {o : Origin} {s : State} (hs : s.StoresRise) (hok : s.checkWrite o 0xD040 4 [1] = .ok) :
    Completes (.healthClear o [1]) s fun t => t.test.health = [] ∧ t.reg 0xD040 1 = 0 ∧ ∀ a, a < 13 → t.reg 0xD041 a = 0 := by
  obtain ⟨hrise, hread⟩ := foldl_setReg_zero hs.objs 0xD041 (n := 13) (by decide)
  refine completes_of_write rfl hok (by rw [canonical_singleton, healthClearEffect, if_neg (by decide)]) ?_
  simp only [State.endWrite_same]
  simp only [State.reg_mk, State.reg_fold]
  refine ⟨trivial, ?_, fun a ha => ?_⟩
  · exact (State.setReg_other _ 0 (show okey 0xD040 1 ≠ okey 0xD040 2 by decide +kernel)).trans (State.setReg_reg _ 0xD040 1 0 hrise)
  · have hother (b : Nat) : okey 0xD041 a ≠ okey 0xD040 b := okey_ne_of_index (by decide) a b
    exact ((State.setReg_other _ 0 (hother 2)).trans (State.setReg_other _ 0 (hother 1))).trans (hread a ha)

/-- Settles O18: each command by the lemma of its meaning. -/
theorem testCommandsComplete : Obligations.TestCommandsComplete := by
  refine ⟨?patternStart, ?patternStop, ?durationEnd, ?locked, ?lockLost, ?bistStart, ?bistDone, ?background, ?healthClear, ?jtag, ?ondie⟩
  case patternStart => exact fun _ _ _ _ _ => execPatternStart_starts
  case patternStop => exact fun _ _ _ _ => execPatternStop_stops
  case durationEnd => exact fun _ _ _ => execPatternDurationEnd_ends
  case locked => exact fun _ _ _ => execCheckerLocked_locks
  case lockLost => exact fun _ _ _ _ _ _ _ => execCheckerLockLost_counts
  case bistStart => exact fun _ _ _ _ => execBistStart_begins
  case bistDone => exact fun _ _ _ => execBistDone_reports
  case background => exact fun _ _ _ _ => execBackgroundTestDone_counts
  case healthClear => exact fun _ _ => execHealthClear_clears
  case jtag => exact fun _ _ => ⟨_, rfl, rfl, rfl⟩
  case ondie => exact fun _ _ _ hawake => ⟨_, rfl, if_neg hawake⟩

end Sys2Proof.Machine
end

section
/-! The commands of firmware: delivery, activation and the trial (R527 to R538). -/

namespace Sys2Proof.Machine

/-! ### Delivery -/

theorem State.newDelivery_begins {s : State} (hs : s.StoresRise) (total : Nat) (id : List Byte) :
    (s.newDelivery total id).reg 0xE010 4 = 1 ∧ (s.newDelivery total id).fw.delivery =
      some { total := total, bundleId := id, blocks := [], complete := [], erasing := [] } := by
  have hwithdrawn : On inS 0x400004 s (if s.stagedPending then s.writeBoot fun r => { r with stagedPending := false } else s) :=
    .ite (State.writeBoot_keeps (.refl _) .start) .start
  exact ⟨State.setReg_reg _ 0xE010 4 1 (hwithdrawn.objs_rise hs.objs), rfl⟩

theorem execStageOpen_begins {o : Origin} {v : List Byte} {s : State} (hs : s.StoresRise) (hok : s.checkWrite o 0xE010 1 v = .ok)
    (hlen : v.length = 56) (hflags : byteAt v 4 ≤ 1) (hzero : allZero (slice v 5 3) = true) (hlo : 1024 ≤ beAt v 0 4)
    (hhi : beAt v 0 4 ≤ 12582912) (hempty : s.stageState = 0) : Completes (.stageOpen o v) s fun t => t.reg 0xE010 4 = 1 ∧
      t.fw.delivery = some { total := beAt v 0 4, bundleId := slice v 8 48, blocks := [], complete := [], erasing := [] } := by
  have heffect : stageOpenEffect v s = (.ok, s.newDelivery (beAt v 0 4) (slice v 8 48)) := by
    simp only [stageOpenEffect, hempty, hzero]
    rw [if_neg (by simp only [Bool.not_true, Bool.false_eq_true, false_or]; omega), if_neg (by decide)]
  refine completes_of_octets (by decide +kernel) rfl hok heffect ?_
  simp only [State.endWrite_same]
  exact State.newDelivery_begins hs ..

theorem execStageEraseDone_opens {s : State} (hs : s.StoresRise) (herasing : s.stageState = 1) :
    Completes .stageEraseDone s fun t => t.reg 0xE010 4 = 2 := by
  refine ⟨_, rfl, ?_⟩
  rw [if_pos herasing]
  exact s.setReg_reg 0xE010 4 2 hs.objs

/-- A segment that its checks accept does what the rule of its object says, and ends (R127, R152). -/
theorem State.runBlob_of_ok {s : State} {o : Origin} {i j : Nat} {v : List Byte}
    (h : s.checkTargetFor true (s.roleOf o) i j v.length = .ok) (f : List Byte → State → Status × State) :
    s.runBlob o i j v f = (f v s).2.endWrite o i j v (f v s).1 := by
  simp only [State.runBlob, h]

theorem execStageData_keeps_block {o : Origin} {offset : Nat} {data : List Byte} {d : Delivery} {s : State}
    (hok : s.checkTargetFor true (s.roleOf o) 0xE010 2 data.length = .ok) (hd : s.fw.delivery = some d) (hstate : s.stageState = 2)
    (halign : offset % 1024 = 0) (hin : offset < d.total) (hlen : data.length = min 1024 (d.total - offset))
    (hsector : d.erasing.contains (offset / 1024 / 64) = false) (hnew : mget d.blocks (offset / 1024) = none) :
    Completes (.stageData o offset false data) s fun t =>
      t.fw = ((s.setDelivery { d with blocks := mput d.blocks (offset / 1024) data }).checkPieces (offset / 1024 / 64)).fw := by
  have heffect : stageDataEffect offset false data s =
      (.ok, (s.setDelivery { d with blocks := mput d.blocks (offset / 1024) data }).checkPieces (offset / 1024 / 64)) := by
    simp only [stageDataEffect, hd, hstate, hsector, hnew]
    rw [if_neg (by simp only [Bool.false_eq_true, false_or]; omega), if_neg (by decide)]
  refine ⟨_, rfl, ?_⟩
  rw [State.runBlob_of_ok hok, heffect]
  simp only [State.endWrite_same]

theorem execPieceEraseDone_ends {p : Nat} {d : Delivery} {s : State} (hd : s.fw.delivery = some d) :
    Completes (.pieceEraseDone p) s fun t => t.fw.delivery = some { d with erasing := d.erasing.filter (· ≠ p) } := by
  refine ⟨_, rfl, ?_⟩
  rw [hd]
  rfl

theorem execStageHashDone_decides {d : Delivery} {s : State} (hs : s.StoresRise) (hd : s.fw.delivery = some d) (hstate : s.stageState = 2)
    (hwhole : ((List.range (pieceCount d.total)).all d.complete.contains) = true) :
    Completes .stageHashDone s fun t => t.reg 0xE010 4 = if Config.sha384 d.bytes = d.bundleId then 3 else 4 := by
  refine ⟨_, rfl, ?_⟩
  rw [hd]
  dsimp only
  rw [if_neg (by simp [hstate, hwhole])]
  split
  · rw [State.setReg_other _ _ (by decide +kernel)]
    exact s.setReg_reg 0xE010 4 3 hs.objs
  · exact s.setReg_reg 0xE010 4 4 hs.objs

/-! ### Activation -/

theorem execAtNextStart_marks {o : Origin} {s : State} (hok : s.checkWrite o 0xE020 1 [1] = .ok) (hmode : s.activateForbidden false = false)
    (hstaged : s.stageState = 3) (hidle : s.activationPending = false) :
    Completes (.atNextStart o) s fun t => t.fw = (s.writeBoot fun r => { r with stagedPending := true }).fw := by
  have heffect : activateEffect [1] s = (.ok, s.writeBoot fun r => { r with stagedPending := true }) := by
    have hone : beNat [(1 : Byte)] = 1 := rfl
    simp only [activateEffect, hone, decide_false, show ¬(1 = 2) by decide, hmode, hstaged, hidle, ne_eq, not_true_eq_false, false_and,
      or_false, and_false, Bool.false_eq_true, if_false, if_true]
  refine completes_of_write rfl hok (by rw [canonical_singleton, heffect]) ?_
  simp only [State.endWrite_same]

theorem execWarmNow_begins {o : Origin} {s : State} (hok : s.checkWrite o 0xE020 1 [2] = .ok) (hmode : s.activateForbidden true = false)
    (hstaged : s.stageState = 3) (hidle : s.activationPending = false) :
    Completes (.warmNow o) s fun t => t.fw = (s.beginInstall ((s.fw.delivery.map Delivery.bytes).getD [])).fw := by
  have heffect : activateEffect [2] s = (.ok, s.beginInstall ((s.fw.delivery.map Delivery.bytes).getD [])) := by
    have htwo : beNat [(2 : Byte)] = 2 := rfl
    simp only [activateEffect, htwo, decide_true, hmode, hstaged, hidle, ne_eq, not_true_eq_false, and_false, or_false,
      Bool.false_eq_true, if_false, show ¬(2 = 1) by decide]
  refine completes_of_write rfl hok (by rw [canonical_singleton, heffect]) ?_
  simp only [State.endWrite_same]

/-- A warm restart counted and its cause set, before a unit in CATCHUP leaves its pair (R92). -/
def State.warmCaused (s : State) (cause : Nat) (pin : Bool) : State :=
  if s.power.warmSince.isSome && !pin then if s.power.warmSince.isSome then s.warmBegun else s.warmBegun.bump 0x1000 7
  else (if s.power.warmSince.isSome then s.warmBegun else s.warmBegun.bump 0x1000 7).setReg 0x1000 8 cause

theorem State.warmCaused_power (s : State) (cause : Nat) (pin : Bool) : (s.warmCaused cause pin).power = s.warmBegun.power := by
  unfold State.warmCaused
  repeat' split
  all_goals simp

theorem State.warmRestart_of_catchup {s : State} {cause : Nat} {pin : Bool} (h : (s.warmCaused cause pin).mode = .catchup) :
    ∃ u : State, u.power = ((s.warmCaused cause pin).breakPair false).power ∧ s.warmRestart cause pin =
      ((({ u with power := { u.power with ms := { u.power.ms with mode := .bringup } } }).setReg 0x2000 3 Mode.catchup.code).bump 0x2000 4).refreshIdentity :=
  ⟨_, rfl, if_pos h⟩

/-- A warm restart goes on once it has been asked for, in every mode (R92). -/
theorem State.warmRestart_warmSince (s : State) (cause : Nat) (pin : Bool) : (s.warmRestart cause pin).power.warmSince.isSome = true := by
  have hbegun : (s.warmCaused cause pin).power.warmSince.isSome = true := by rw [State.warmCaused_power, State.warmBegun_power]; rfl
  by_cases hmode : (s.warmCaused cause pin).mode = .catchup
  · obtain ⟨u, hu, hrestart⟩ := State.warmRestart_of_catchup hmode
    have hidentity (v : State) : On inS 0x20200 v v.refreshIdentity := State.refreshIdentity_keeps (.refl _) .start
    have hbroken : On inS 0x200 (s.warmCaused cause pin) ((s.warmCaused cause pin).breakPair false) := State.breakPair_keeps (.refl _) .start
    rw [hrestart, (hidentity _).power_same rfl]
    simp only [State.bump_count, State.count_fields, State.setReg_fields, hu, hbroken.power_same rfl, hbegun]
  · have hrestart : s.warmRestart cause pin = s.warmCaused cause pin := if_neg hmode
    rw [hrestart, hbegun]

/-- A warm restart leaves the firmware's own state alone (R92). -/
theorem State.warmRestart_fw (s : State) (cause : Nat) (pin : Bool) : (s.warmRestart cause pin).fw = s.fw :=
  (State.warmRestart_keeps (.refl _) .start : On inS _ s _).fw_same rfl rfl

/-- Reporting which slot runs moves nothing else of the firmware but the fault log (R541). -/
theorem State.setRunning_body (s : State) (k : Nat) : (s.setRunning k).fw.body = { s.fw with runningSlot := k }.body := by
  have hloaded (u : State) : On inS _ u u.loadIntegrator := State.loadIntegrator_keeps (.refl _) .start
  exact (hloaded _).body_same rfl

theorem State.setRunning_power (s : State) (k : Nat) : (s.setRunning k).power = s.power :=
  (State.setRunning_keeps (.refl _) .start : On inS _ s _).power_same rfl

theorem State.setRunning_trial (s : State) (k : Nat) : (s.setRunning k).fw.trial = s.fw.trial := by
  have htrial := congrArg Firmware.trial (s.setRunning_body k)
  exact htrial

theorem execActivateInstallDone_ends {good : Bool} {b : Bundle} {c : Nat} {s : State} (hs : s.StoresRise) (hb : s.fw.installing = some b)
    (hc : (if good then s.verify b.bytes else 10) = c) : Completes (.activateInstallDone good) s fun t => t.fw.installing = none ∧
      (c = 0 → t.fw.restartDue = true ∧ t.power.warmSince.isSome = true) ∧ (c ≠ 0 → t.fw.act = .refused ∧ t.reg 0xE020 2 = c) := by
  refine ⟨_, rfl, ?_⟩
  rw [hb]
  dsimp only
  rw [hc]
  by_cases hzero : c = 0
  · rw [if_neg (not_not.mpr hzero)]
    have hinstalling := congrArg Firmware.installing (State.setRunning_body ((State.reach { s.install s.installSlot b.bytes with
      fw := { (s.install s.installSlot b.bytes).fw with installing := none, restartDue := true } }
        ((s.install s.installSlot b.bytes).now + 1000000)).warmRestart 5 false) s.installSlot)
    have hdue := congrArg Firmware.restartDue (State.setRunning_body ((State.reach { s.install s.installSlot b.bytes with
      fw := { (s.install s.installSlot b.bytes).fw with installing := none, restartDue := true } }
        ((s.install s.installSlot b.bytes).now + 1000000)).warmRestart 5 false) s.installSlot)
    refine ⟨hinstalling.trans ?_, fun _ => ⟨hdue.trans ?_, ?_⟩, fun hnot => absurd hzero hnot⟩
    · exact congrArg Firmware.installing (State.warmRestart_fw ..)
    · exact congrArg Firmware.restartDue (State.warmRestart_fw ..)
    · rw [State.setRunning_power]
      exact State.warmRestart_warmSince ..
  · rw [if_pos hzero]
    refine ⟨rfl, fun h => absurd h hzero, fun _ => ⟨rfl, ?_⟩⟩
    rw [State.setReg_other _ _ (okey_ne_of_index (show 0xE020 ≠ 0xE010 by decide) 2 4)]
    exact State.setReg_reg _ 0xE020 2 c hs.objs

/-! ### The trial -/

/-- What a confirmed trial writes: the boot record, the floor and the revocations, and the objects of the trial (R537). -/
def State.trialAccepted (s : State) (x : Trial) : State :=
  let d := (bundleSection (((s.fw.slot x.slot).map fun b => b.bytes).getD []) 0x01).getD []
  let s1 := s.writeBoot fun r => { r with lastGood := x.slot, trialSlot := none, trialLeft := 0 }
  let floor := if bitAt (byteAt d 14) 1 then max s.fw.floor (byteAt d 15) else s.fw.floor
  let s2 := { s1 with fw := { s1.fw with floor := floor, revoked := s.fw.revoked ||| byteAt d 48 % 16, trial := none } }
  (s2.setReg 0xE020 8 0).setReg 0xE002 x.slot 1

/-- A confirmation writes that, and may note the other slot as refused (R537). -/
theorem State.confirmTrial_cases {s : State} {x : Trial} (hx : s.fw.trial = some x) :
    s.confirmTrial = s.trialAccepted x ∨ ∃ k c, s.confirmTrial = (s.trialAccepted x).noteSlot k c := by
  generalize ht : s.confirmTrial = t
  rw [State.confirmTrial, hx] at ht
  change (match (s.trialAccepted x).fw.slot (1 - x.slot) with
    | none => s.trialAccepted x
    | some b => if (s.trialAccepted x).verify b.bytes = 2 ∨ (s.trialAccepted x).verify b.bytes = 7
        then (s.trialAccepted x).noteSlot (1 - x.slot) ((s.trialAccepted x).verify b.bytes) else s.trialAccepted x) = t at ht
  subst ht
  split
  · exact .inl rfl
  · split
    · exact .inr ⟨_, _, rfl⟩
    · exact .inl rfl

theorem State.trialAccepted_accepts {s : State} (hs : s.StoresRise) (x : Trial) : (s.trialAccepted x).fw.trial = none ∧
    (s.trialAccepted x).reg 0xE020 8 = 0 ∧ s.fw.floor ≤ (s.trialAccepted x).fw.floor := by
  have hwritten (f : BootRec → BootRec) : rising (s.writeBoot f).objs = true :=
    (State.writeBoot_keeps (.refl _) .start : On inS _ s (s.writeBoot f)).objs_rise hs.objs
  refine ⟨rfl, ?_, ?_⟩
  · refine (State.setReg_other _ _ (okey_ne_of_index (show 0xE020 ≠ 0xE002 by decide) 8 x.slot)).trans ?_
    exact State.setReg_reg _ 0xE020 8 0 (hwritten _)
  · simp only [State.trialAccepted, State.setReg_fields]
    split
    · exact Nat.le_max_left ..
    · exact Nat.le_refl _

/-- Noting a slot's verification changes the objects of the slots only (R541). -/
theorem State.noteSlot_reg_trial (s : State) (k c : Nat) : (s.noteSlot k c).reg 0xE020 8 = s.reg 0xE020 8 := by
  have hother (i : Nat) (hi : 0xE020 ≠ i) : okey 0xE020 8 ≠ okey i k := okey_ne_of_index hi 8 k
  simp only [State.noteSlot, State.setReg_other _ _ (hother 0xE001 (by decide)), State.setReg_other _ _ (hother 0xE002 (by decide)),
    State.setReg_other _ _ (hother 0xE003 (by decide))]

/-- A confirmed trial is over, and the floor does not fall (R537). -/
theorem State.confirmTrial_confirms {s : State} (hs : s.StoresRise) {x : Trial} (hx : s.fw.trial = some x) :
    s.confirmTrial.fw.trial = none ∧ s.confirmTrial.reg 0xE020 8 = 0 ∧ s.fw.floor ≤ s.confirmTrial.fw.floor := by
  rcases State.confirmTrial_cases hx with heq | ⟨k, c, heq⟩
  · rw [heq]
    exact State.trialAccepted_accepts hs x
  · rw [heq, State.noteSlot_reg_trial]
    exact State.trialAccepted_accepts hs x

theorem execConfirm_confirms {o : Origin} {x : Trial} {s : State} (hs : s.StoresRise) (hok : s.checkWrite o 0xE020 3 [1] = .ok)
    (hx : s.fw.trial = some x) (hhealthy : x.healthy = true) : Completes (.confirm o [1]) s fun t =>
      t.fw.trial = none ∧ t.reg 0xE020 8 = 0 ∧ s.fw.floor ≤ t.fw.floor := by
  have heffect : confirmEffect [1] s = (.ok, s.confirmTrial) := by
    simp only [confirmEffect, hx, hhealthy, if_true]
    exact if_neg (by decide)
  refine completes_of_write rfl hok (by rw [canonical_singleton, heffect]) ?_
  simp only [State.endWrite_same]
  exact State.confirmTrial_confirms hs hx

/-- A trial that fails is over, by whichever restart the unit falls back (R538). -/
theorem State.failTrial_trial {s : State} {x : Trial} (hx : s.fw.trial = some x) (cause : Nat) : (s.failTrial cause).fw.trial = none := by
  have hnoted : (s.noteTrialFailed cause).fw.trial = none := rfl
  rw [State.failTrial, hx, Option.isNone_some, if_neg (by decide)]
  dsimp only
  split
  · exact hnoted
  · split
    · rw [State.setRunning_trial, State.warmRestart_fw, hnoted]
    · rfl

theorem execRevert_fails {o : Origin} {x : Trial} {s : State} (hok : s.checkWrite o 0xE020 4 [1] = .ok) (hx : s.fw.trial = some x) :
    Completes (.revert o [1]) s fun t => t.fw.trial = none := by
  have heffect : revertEffect [1] s = (.ok, s.failTrial 3) := if_neg (by decide)
  refine completes_of_write rfl hok (by rw [canonical_singleton, heffect]) ?_
  simp only [State.endWrite_same]
  exact State.failTrial_trial hx 3

theorem execConfirmDelayExpiry_confirms {x : Trial} {u : Nat} {s : State} (hs : s.StoresRise) (hx : s.fw.trial = some x)
    (hu : x.since = some u) (hhealthy : x.healthy = true) (hauto : s.reg 0xE020 5 = 0) (hawake : s.mode ≠ .dormant) :
    Completes .confirmDelayExpiry s fun t =>
      t.fw.trial = none ∧ t.reg 0xE020 8 = 0 ∧ u + s.reg 0xE020 6 * 1000000000 ≤ t.now := by
  have hconfirmed (v : State) : On inS _ v v.confirmTrial := State.confirmTrial_keeps (.refl _) .start
  obtain ⟨warm, slot, since, healthy⟩ := x
  subst hu hhealthy
  obtain ⟨htrial, hreg, -⟩ := State.confirmTrial_confirms (s := s.reach (u + s.reg 0xE020 6 * 1000000000)) ⟨hs.objs, hs.octs, hs.gens⟩ hx
  refine ⟨_, rfl, ?_⟩
  rw [hx]
  dsimp only
  rw [if_neg (by simp [hauto, hawake])]
  refine ⟨htrial, hreg, ?_⟩
  rw [(hconfirmed _).now_same rfl]
  exact Nat.le_max_right ..

theorem execConfirmDeadlineExpiry_fails {x : Trial} {u : Nat} {s : State} (hx : s.fw.trial = some x) (hu : x.since = some u)
    (hawake : s.mode ≠ .dormant) : Completes .confirmDeadlineExpiry s fun t =>
      t.fw.trial = none ∧ u + s.reg 0xE020 7 * 1000000000 ≤ t.now := by
  have hfailed (v : State) : On inS _ v (v.failTrial 2) := State.failTrial_keeps (.refl _) .start
  obtain ⟨warm, slot, since, healthy⟩ := x
  subst hu
  refine ⟨_, rfl, ?_⟩
  rw [hx]
  dsimp only
  rw [if_neg hawake]
  refine ⟨State.failTrial_trial (s := s.reach _) hx 2, ?_⟩
  exact Nat.le_trans (Nat.le_max_right ..) (hfailed (s.reach _)).keeps.onward.time

/-- Settles O17: each command by the lemma of its meaning. Step 2 of R535 is taken at the write (log entry 39), and a trial fails on the
conditions of R538 as they stand when it is reported or its time ends (log entry 84). -/
theorem firmwareCommandsComplete : Obligations.FirmwareCommandsComplete := by
  refine ⟨?stageOpen, ?eraseDone, ?stageData, ?pieceErase, ?hash, ?atNextStart, ?warmNow, ?installDone, ?confirm, ?revert, ?delay, ?deadline⟩
  case stageOpen => exact fun _ _ _ => execStageOpen_begins
  case eraseDone => exact fun _ => execStageEraseDone_opens
  case stageData => exact fun _ _ _ _ _ => execStageData_keeps_block
  case pieceErase => exact fun _ _ _ => execPieceEraseDone_ends
  case hash => exact fun _ _ => execStageHashDone_decides
  case atNextStart => exact fun _ _ => execAtNextStart_marks
  case warmNow => exact fun _ _ => execWarmNow_begins
  case installDone => exact fun _ _ _ _ => execActivateInstallDone_ends
  case confirm => exact fun _ _ _ => execConfirm_confirms
  case revert => exact fun _ _ _ => execRevert_fails
  case delay => exact fun _ _ _ => execConfirmDelayExpiry_confirms
  case deadline => exact fun _ _ _ => execConfirmDeadlineExpiry_fails

end Sys2Proof.Machine
end

section
/-! The commands of ports, lanes, stamps, the clock and the links (R416 to R442). -/

namespace Sys2Proof.Machine

/-! ### Placing and enabling ports -/

theorem State.setPort_reg (s : State) (p : Nat) (x : Port) (i j : Nat) : (s.setPort p x).reg i j = s.reg i j := rfl

theorem execPortMode_places {o : Origin} {p : Nat} {m : Byte} {s : State} (hs : s.StoresRise) (hok : s.checkWrite o 0x3000 p [m] = .ok)
    (hnew : m.toNat ≠ s.reg 0x3000 p) (hmode : m.toNat ≤ 5)
    (hfits : m.toNat ≠ 0 → s.modePlaces p m.toNat = true ∧
      (s.reg 0x3001 p < 16 → s.sliceRate (s.reg 0x3001 p) p m.toNat (s.reg 0x3001 p) ≤ 1600) ∧
      (s.reg 0x3001 p = 0xFF → s.mode = .bringup ∨ s.mode = .diagnostic))
    (hoff : s.reg 0x3002 p = 0) (hidle : s.reg 0x7043 p ≠ 1) : Completes (.portMode o p [m]) s fun t =>
      t.reg 0x3000 p = m.toNat ∧ t.reg 0x3003 p = if m.toNat = 0 then 0 else 1 := by
  have hrange : ¬(5 < m.toNat ∨ (m.toNat ≠ 0 ∧ ((!s.modePlaces p m.toNat) = true ∨
      (s.reg 0x3001 p < 16 ∧ 1600 < s.sliceRate (s.reg 0x3001 p) p m.toNat (s.reg 0x3001 p)) ∨
        (s.reg 0x3001 p = 0xFF ∧ s.mode ≠ .bringup ∧ s.mode ≠ .diagnostic)))) := by
    rintro (hhigh | ⟨hsome, hbad⟩)
    · omega
    obtain ⟨hplaces, hrate, hfree⟩ := hfits hsome
    rcases hbad with hbad | ⟨hslice, hbad⟩ | ⟨hslice, hbringup, hdiagnostic⟩
    · rw [hplaces] at hbad
      exact absurd hbad (by decide)
    · exact absurd (hrate hslice) (Nat.not_le.mpr hbad)
    · exact (hfree hslice).elim hbringup hdiagnostic
  have hended : On inS 0x1000000000000000000000000000000000000000600000000000000f1c000 s
      ((lanesOf p m.toNat).foldl (fun s l => s.abortTestOn 0 l) (s.setLanes (s.portLanes p) 0)) :=
    .foldl (State.setLanes_keeps (.of_land rfl) .start) fun _ _ h => State.abortTestOn_keeps (.of_land rfl) h
  have hbyte : beNat [m] = m.toNat := by simp [beNat]
  refine completes_of_write rfl hok (by
    rw [canonical_singleton]
    simp only [portModeEffect, hbyte]
    rw [if_neg hnew, if_neg hrange, if_neg (by simp [hoff, hidle])]) ?_
  simp only [State.endWrite_same]
  refine ⟨?_, State.setReg_reg _ _ _ _ (State.setReg_rising _ _ _ _ (hended.objs_rise hs.objs))⟩
  rw [State.setReg_other _ _ (okey_ne_of_index (show 0x3000 ≠ 0x3003 by decide) p p)]
  exact State.setReg_reg _ _ _ _ (hended.objs_rise hs.objs)

theorem execPortSlice_sets {o : Origin} {p : Nat} {k : Byte} {s : State} (hs : s.StoresRise) (hok : s.checkWrite o 0x3001 p [k] = .ok)
    (hfits : k.toNat < 16 → s.sliceRate k.toNat p (s.reg 0x3000 p) k.toNat ≤ 1600 ∧ s.reg 0x3700 k.toNat ≠ 3) :
    Completes (.portSlice o p [k]) s fun t => t.reg 0x3001 p = k.toNat := by
  have hbyte : beNat [k] = k.toNat := by simp [beNat]
  have hrange : ¬(k.toNat < 16 ∧ (1600 < s.sliceRate k.toNat p (s.reg 0x3000 p) k.toNat ∨ s.reg 0x3700 k.toNat = 3)) := by
    rintro ⟨hslice, hbad⟩
    obtain ⟨hrate, hup⟩ := hfits hslice
    exact hbad.elim (fun h => absurd hrate (Nat.not_le.mpr h)) hup
  refine completes_of_write rfl hok (by
    rw [canonical_singleton]
    simp only [portSliceEffect, hbyte]
    rw [if_neg hrange]) ?_
  simp only [State.endWrite_same]
  exact State.setReg_reg _ _ _ _ hs.objs

/-- A port that starts keeps what was written of PORT_ADMIN (R419). -/
theorem State.startPort_admin (s : State) (p q : Nat) : (s.startPort p).reg 0x3002 q = s.reg 0x3002 q := by
  have hother (u : State) (v : Nat) : (u.setReg 0x3003 p v).reg 0x3002 q = u.reg 0x3002 q :=
    State.setReg_other _ _ (okey_ne_of_index (by decide) q p)
  have hlanes (u : State) : (u.lanesOn p).reg 0x3002 q = u.reg 0x3002 q :=
    (State.lanesOn_keeps (.refl _) .start : On inS _ u (u.lanesOn p)).reg_same q rfl
  have hon : (s.portOn p).reg 0x3002 q = s.reg 0x3002 q := by
    rw [State.portOn, hlanes, hother, State.setPort_reg]
  unfold State.startPort
  split
  · rfl
  · split
    · exact hon
    · dsimp only
      repeat' split
      all_goals exact hother s 2

theorem execPortAdminEnable_enables {o : Origin} {p : Nat} {s : State} (hs : s.StoresRise) (hok : s.checkWrite o 0x3002 p [1] = .ok)
    (hidle : s.reg 0x7043 p ≠ 1) : Completes (.portAdminEnable o p) s fun t => t.reg 0x3002 p = 1 := by
  have hone : beNat [(1 : Byte)] = 1 := rfl
  by_cases hup : 1 = s.reg 0x3002 p
  · refine completes_of_write (u := s) rfl hok (by
      rw [canonical_singleton]
      simp only [portAdminEffect, hone]
      rw [if_pos hup]) ?_
    simp only [State.endWrite_same, ← hup]
  · refine completes_of_write (u := (s.setReg 0x3002 p 1).startPort p) rfl hok (by
      rw [canonical_singleton]
      simp only [portAdminEffect, hone]
      rw [if_neg hup, if_pos trivial, if_neg hidle]) ?_
    simp only [State.endWrite_same, State.startPort_admin]
    exact State.setReg_reg _ _ _ _ hs.objs

/-- A port that goes down keeps what was written of PORT_ADMIN (R424). -/
theorem State.portDown_admin (s : State) (p cause state q : Nat) : (s.portDown p cause state).reg 0x3002 q = s.reg 0x3002 q := by
  unfold State.portDown
  dsimp only
  split
  · rfl
  · have hflushed (l : List Nat) (u : State) : On inS 0x200000000000000000003000000000000000000000000000000304c90 u
        ((l.foldl (fun s r => s.joinFlush r p false) u).startFlush p) :=
      State.startFlush_keeps (.of_land rfl) (.foldl .start fun _ _ h => State.joinFlush_keeps (.of_land rfl) h)
    rw [(hflushed _ _).reg_same q rfl, State.setReg_other _ _ (okey_ne_of_index (show 0x3002 ≠ 0x300B by decide) q p),
      State.setReg_other _ _ (okey_ne_of_index (show 0x3002 ≠ 0x300A by decide) q p), State.bump_count,
      State.count_other _ _ (okey_ne_of_index (show 0x3002 ≠ 0x3009 by decide) q p),
      State.setReg_other _ _ (okey_ne_of_index (show 0x3002 ≠ 0x3003 by decide) q p), State.setPort_reg]

/-- A disabled port is down and waits, and its module is released (R418, R419). -/
theorem portAdminEffect_disables {p : Nat} {s : State} (hs : s.StoresRise) (hup : s.reg 0x3002 p = 1) (hmode : s.reg 0x3000 p ≠ 0) :
    ∃ u, portAdminEffect p [0] s = (.ok, u) ∧ u.reg 0x3002 p = 0 ∧ u.reg 0x3003 p = 1 := by
  have hzero : beNat [(0 : Byte)] = 0 := rfl
  have hdown : On inS 0x200000000000000000003000000000000000700000000000000304c90 (s.setReg 0x3002 p 0)
      (((s.setReg 0x3002 p 0).portDown p 1 1).setLanes (s.portLanes p) 0) :=
    State.setLanes_keeps (.of_land rfl) (State.portDown_keeps (.of_land rfl) .start)
  have hreleased (u : State) : On inS 0x20002 u (u.releaseModule p) := State.releaseModule_keeps (.refl _) .start
  have hlanes (u : State) : On inS 0x600000000000000000000 u (u.setLanes (s.portLanes p) 0) := State.setLanes_keeps (.refl _) .start
  refine ⟨_, by
    simp only [portAdminEffect, hzero]
    rw [if_neg (by omega), if_neg (by decide), if_neg hmode], ?_, ?_⟩
  · rw [(hreleased _).reg_same p rfl, State.setReg_other _ _ (okey_ne_of_index (show 0x3002 ≠ 0x3003 by decide) p p), State.setPort_reg,
      (hlanes _).reg_same p rfl, State.portDown_admin]
    exact State.setReg_reg _ _ _ _ hs.objs
  · rw [(hreleased _).reg_same p rfl]
    exact State.setReg_reg _ _ _ _ (hdown.objs_rise (State.setReg_rising _ _ _ _ hs.objs))

theorem execPortAdminDisable_disables {o : Origin} {p : Nat} {s : State} (hs : s.StoresRise) (hok : s.checkWrite o 0x3002 p [0] = .ok)
    (hup : s.reg 0x3002 p = 1) (hmode : s.reg 0x3000 p ≠ 0) :
    Completes (.portAdminDisable o p) s fun t => t.reg 0x3002 p = 0 ∧ t.reg 0x3003 p = 1 := by
  obtain ⟨u, heffect, hadmin, hstate⟩ := portAdminEffect_disables hs hup hmode
  refine completes_of_write (u := u) rfl hok (by rw [canonical_singleton, heffect]) ?_
  simp only [State.endWrite_same]
  exact ⟨hadmin, hstate⟩

theorem execModuleActivationStep_initialises {p n : Nat} {s : State} (hcage : s.cageOf p = some n) (hstep : (s.port p).activation = 3)
    (hready : s.moduleState n = 3) (hwait : s.reg 0x3003 p = 2) : Completes (.moduleActivationStep p) s fun t =>
      (t.port p).activation = 5 ∧ (t.port p).activationSince = s.now := by
  refine ⟨_, rfl, ?_⟩
  simp only [hcage, hstep]
  rw [if_neg (by simp [hready, hwait]), State.setPort_port]
  exact ⟨rfl, rfl⟩

theorem execModuleActivationTimeout_faults {p : Nat} {s : State} (hs : s.StoresRise) (hstep : (s.port p).activation ≠ 0)
    (hwait : s.reg 0x3003 p = 2) : Completes (.moduleActivationTimeout p) s fun t => (t.port p).activation = 0 ∧ t.reg 0x300B p = 9 := by
  refine ⟨_, rfl, ?_⟩
  dsimp only
  rw [if_neg (by simp [hstep, hwait]), State.setReg_port, State.setPort_port]
  exact ⟨rfl, State.setReg_reg _ _ _ _ hs.objs⟩

/-! ### Time -/

theorem execTxStampPop_pops {o : Origin} {p : Nat} {n : Byte} {s : State} (hok : s.checkWrite o 0x3023 p [n] = .ok) (hlo : 1 ≤ n.toNat)
    (hhi : n.toNat ≤ 16) : Completes (.txStampPop o p [n]) s fun t => (t.port p).stamps = (s.port p).stamps.drop n.toNat ∧
      t.resultOf o 0x3023 p = ((s.port p).stamps.take n.toNat).flatten := by
  have hbyte : beNat [n] = n.toNat := by simp [beNat]
  refine completes_of_write rfl hok (by
    rw [canonical_singleton]
    simp only [stampPopEffect, hbyte]
    rw [if_neg (by simp only [List.length_singleton]; omega)]) ⟨?_, ?_⟩
  · rw [State.port_congr (s := s.setPort p { s.port p with stamps := (s.port p).stamps.drop n.toNat })
      (by simp only [State.endWrite_same, State.setResult_fields]), State.setPort_port]
  · rw [State.resultOf_congr (State.endWrite_results ..), State.setResult_resultOf]

theorem execPpsInEdge_stamps {s : State} (hs : s.StoresRise) (hawake : s.mode ≠ .dormant) :
    Completes .ppsInEdge s fun t => t.power.pins.ppsIn = true ∧ t.reg 0x3100 4 = s.ptp := by
  refine ⟨_, rfl, ?_⟩
  dsimp only
  rw [if_neg hawake]
  simp only [State.bump_count, State.count_fields, State.setReg_fields, State.count_other _ _ (show okey 0x3100 4 ≠ okey 0x3100 5 by decide +kernel)]
  exact ⟨trivial, State.setReg_reg _ _ _ _ hs.objs⟩

theorem execPpsOutSecond_rises {s : State} (hawake : s.mode ≠ .dormant) (hon : s.reg 0x3100 6 ≠ 0) :
    Completes .ppsOutSecond s fun t => t.power.pins.ppsOut = true ∧ t.ports.ppsRose = some t.now := by
  refine ⟨_, rfl, ?_⟩
  dsimp only
  rw [if_neg (by simp [hawake, hon])]
  exact ⟨rfl, rfl⟩

theorem execPpsOutFall_falls {u : Nat} {s : State} (hrose : s.ports.ppsRose = some u) : Completes .ppsOutFall s fun t =>
    t.power.pins.ppsOut = false ∧ t.ports.ppsRose = none ∧ u + 100000000 ≤ t.now := by
  refine ⟨_, rfl, ?_⟩
  rw [hrose]
  exact ⟨rfl, rfl, Nat.le_max_right ..⟩

/-! ### Lanes -/

theorem State.adapt_congr {s t : State} (h : t.ports = s.ports) (k : Nat) : t.adapt k = s.adapt k := by
  rw [State.adapt, State.adapt, h]

@[simp] theorem State.count_adapt (s : State) (i j n k : Nat) : (s.count i j n).adapt k = s.adapt k := State.adapt_congr (by simp) k

theorem mgetD_mput_same {α : Type} (x : α) (m : List (Nat × α)) (k : Nat) (v : α) : mgetD x (mput m k v) k = v := by
  rw [mgetD, mget_mput_same]
  rfl

theorem execAdaptStep_steps {lane coef before b l : Nat} {up : Bool} {s : State} (hlane : laneBase lane = some (b, l))
    (hadapts : s.laneAdapts lane = true) (hfree : s.reg (b + 0x12) l ≠ 1) (hidle : (s.adapt lane).step = none)
    (hheld : mgetD 0 (s.adapt lane).holds coef ≤ s.now) : Completes (.adaptStep lane coef up before) s fun t =>
      (t.adapt lane).step = some (coef, if up then 1 else -1, s.now, before) ∧
        mgetD 0 (t.adapt lane).coeffs coef = mgetD 0 (s.adapt lane).coeffs coef + if up then 1 else -1 := by
  refine ⟨_, rfl, ?_⟩
  rw [hlane]
  dsimp only
  rw [if_neg (by simp [hadapts, hfree, hidle, hheld]), State.bump_count, State.count_adapt, State.setAdapt_adapt]
  exact ⟨rfl, mgetD_mput_same ..⟩

theorem execAdaptEvaluate_judges {lane after b l coef u before : Nat} {d : Int} {s : State} (hlane : laneBase lane = some (b, l))
    (hstep : (s.adapt lane).step = some (coef, d, u, before)) : Completes (.adaptEvaluate lane after) s fun t =>
      (t.adapt lane).step = none ∧ u + 1000000 ≤ t.now ∧
        mgetD 0 (t.adapt lane).coeffs coef = mgetD 0 (s.adapt lane).coeffs coef - if 2 * before + 16 < after then d else 0 := by
  refine ⟨_, rfl, ?_⟩
  rw [hlane, hstep]
  dsimp only
  by_cases hworse : 2 * before + 16 < after
  · simp only [if_pos hworse, State.bump_count, State.count_adapt, State.setAdapt_adapt, State.count_fields, State.setAdapt_fields]
    exact ⟨trivial, Nat.le_max_right .., mgetD_mput_same ..⟩
  · simp only [if_neg hworse, State.setAdapt_adapt, State.setAdapt_fields, Int.sub_zero]
    exact ⟨trivial, Nat.le_max_right .., rfl⟩

theorem laneBase_base {lane b l : Nat} (h : laneBase lane = some (b, l)) : b = 0x3200 ∨ b = 0x3400 ∨ b = 0x3600 := by
  unfold laneBase at h
  repeat' split at h
  all_goals simp_all

theorem execMarginMeasure_enters {lane height width snr ber corrected uncorrected symbols b l : Nat} {s : State} (hs : s.StoresRise)
    (hlane : laneBase lane = some (b, l)) (hlocked : s.laneLocked lane = true) :
    Completes (.marginMeasure lane height width snr ber corrected uncorrected symbols) s fun t =>
      t.oct (b + 0x13) l = natBe height 2 ++ natBe width 2 ++ natBe snr 2 ++ [0, 0] ∧ t.reg (b + 0x17) l = min ber (2 ^ 32 - 1) := by
  have hcounted (u : State) (x y z : Nat) : (((u.count (b + 0x14) l x).count (b + 0x15) l y).count (b + 0x16) l z).reg (b + 0x17) l =
      u.reg (b + 0x17) l := by
    rw [State.count_other _ _ (okey_ne_of_index (by omega) l l), State.count_other _ _ (okey_ne_of_index (by omega) l l),
      State.count_other _ _ (okey_ne_of_index (by omega) l l)]
  have hnoted (u : State) (severity code : Nat) (detail : List Byte) : (u.health 5 severity code detail).oct (b + 0x13) l = u.oct (b + 0x13) l ∧
      (u.health 5 severity code detail).reg (b + 0x17) l = u.reg (b + 0x17) l := by
    have hhealth : On inS _ u (u.health 5 severity code detail) := State.health_keeps (.refl _) .start
    rcases laneBase_base hlane with rfl | rfl | rfl
    all_goals exact ⟨hhealth.oct_same l rfl, hhealth.reg_same l rfl⟩
  refine ⟨_, rfl, ?_⟩
  rw [hlane]
  dsimp only
  rw [if_neg (by simp [hlocked])]
  repeat' split
  all_goals
    simp only [(hnoted _ _ _ _).1, (hnoted _ _ _ _).2, State.setAdapt_fields, hcounted, State.count_fields, State.setReg_fields]
    exact ⟨State.setOct_oct _ _ _ _ hs.octs, State.setReg_reg _ _ _ _ hs.objs⟩

/-- A lane takes the state that it is given; the recovered clocks follow (R430, R433). -/
theorem State.setLanes_singleton {s : State} (hr : rising s.objs = true) (lane st : Nat) : (s.setLanes [lane] st).reg 0x3200 lane = st := by
  have hclocks (u : State) : On inS 0x200000000000000000000 u u.refreshRecclk := State.refreshRecclk_keeps (.refl _) .start
  exact ((hclocks _).reg_same lane rfl).trans (s.setReg_reg 0x3200 lane st hr)

theorem execLaneReacquired_locks {lane : Nat} {s : State} (hs : s.StoresRise) (hlane : lane < 128) (hused : s.reg 0x3200 lane ≠ 0)
    (hclock : s.power.refclkLost.contains (lane / 16) = false) : Completes (.laneReacquired lane) s fun t => t.reg 0x3200 lane = 3 := by
  refine ⟨_, rfl, ?_⟩
  dsimp only
  rw [if_neg (by simp only [hclock, Bool.false_eq_true, or_false]; omega)]
  have hread := State.setLanes_singleton hs.objs lane 3
  split
  · exact hread
  · rw [State.setPort_reg, hread]

/-! ### Management links and PCIe -/

theorem execPcieLinkTrained_up {lanes rate : Nat} {s : State} (hs : s.StoresRise) (hperst : s.power.pins.pciePerstN = true)
    (hawake : s.mode ≠ .dormant) (hclock : s.power.refclkLost.contains 0x12 = false) (hlo : 1 ≤ lanes) (hhi : lanes ≤ 16) (hslow : 1 ≤ rate)
    (hfast : rate ≤ 5) : Completes (.pcieLinkTrained lanes rate) s fun t => t.host.linkUp = true ∧ t.reg 0xA000 3 = lanes * 256 + rate := by
  refine ⟨_, rfl, ?_⟩
  rw [if_neg (by simp only [hperst, hawake, hclock, Bool.not_true, Bool.false_eq_true, false_or]; omega)]
  exact ⟨rfl, State.setReg_reg _ _ _ _ hs.objs⟩

/-- Settles O22: each command by the lemma of its meaning. -/
theorem portCommandsComplete : Obligations.PortCommandsComplete := by
  refine ⟨?portMode, ?portSlice, ?enable, ?disable, ?activation, ?timeout, ?clock, ?stamps, ?ppsIn, ?ppsRise, ?ppsFall, ?adapt, ?evaluate,
    ?margin, ?lane, ?mgmtUp, ?mgmtDown, ?pcie⟩
  case portMode => exact fun _ _ _ _ => execPortMode_places
  case portSlice => exact fun _ _ _ _ => execPortSlice_sets
  case enable => exact fun _ _ _ => execPortAdminEnable_enables
  case disable => exact fun _ _ _ => execPortAdminDisable_disables
  case activation => exact fun _ _ _ => execModuleActivationStep_initialises
  case timeout => exact fun _ _ => execModuleActivationTimeout_faults
  case clock =>
    intro o v s hok
    refine completes_of_write rfl hok rfl ?_
    simp only [State.endWrite_same]
  case stamps => exact fun _ _ _ _ => execTxStampPop_pops
  case ppsIn => exact fun _ => execPpsInEdge_stamps
  case ppsRise => exact fun _ => execPpsOutSecond_rises
  case ppsFall => exact fun _ _ => execPpsOutFall_falls
  case adapt => exact fun _ _ _ _ _ _ _ => execAdaptStep_steps
  case evaluate => exact fun _ _ _ _ _ _ _ _ _ => execAdaptEvaluate_judges
  case margin => exact fun _ _ _ _ _ _ _ _ _ _ _ => execMarginMeasure_enters
  case lane => exact fun _ _ => execLaneReacquired_locks
  case mgmtUp => exact fun p s hs hpossible => ⟨_, rfl, by rw [if_pos hpossible]; exact s.setReg_reg 0x3181 p 1 hs.objs⟩
  case mgmtDown => exact fun p s hs hport => ⟨_, rfl, by rw [if_pos hport]; exact s.setReg_reg 0x3181 p 0 hs.objs⟩
  case pcie => exact fun _ _ _ => execPcieLinkTrained_up

end Sys2Proof.Machine
end

section
/-! The commands of steward threads: the thread-control instructions, their events, the debugger and the writes of their objects
(R477 to R497). -/

namespace Sys2Proof.Machine

/-! ### Threads through the operations of the stewards -/

theorem State.thread_congr {s u : State} (h : u.stewards.threads = s.stewards.threads) (n : Nat) : u.thread n = s.thread n :=
  congrArg (mgetD Thread.reset · n) h

@[simp] theorem State.setNmi_thread (s : State) (die : Nat) (x : Nmi) (n : Nat) : (s.setNmi die x).thread n = s.thread n := by
  unfold State.setNmi
  split <;> rfl

@[simp] theorem State.setNmi_nmi (s : State) (die : Nat) (x : Nmi) : (s.setNmi die x).nmi die = x := by
  by_cases h : die = 0
  · simp only [State.setNmi, State.nmi, if_pos h]
  · simp only [State.setNmi, State.nmi, if_neg h]

@[simp] theorem State.setThread_nmi (s : State) (h : Nat) (x : Thread) (die : Nat) : (s.setThread h x).nmi die = s.nmi die := rfl

@[simp] theorem State.setCore_thread (s : State) (c : Nat) (x : Core) (n : Nat) : (s.setCore c x).thread n = s.thread n := rfl

@[simp] theorem State.setDomain_thread (s : State) (d st n : Nat) : (s.setDomain d st).thread n = s.thread n :=
  State.thread_congr (by simp only [State.setDomain_same]) n

@[simp] theorem State.pushRing_stewards (s : State) (k : Nat) (r : List Byte) : (s.pushRing k r).stewards = s.stewards :=
  (State.pushRing_keeps (.refl _) .start : On inS _ s _).stewards_same rfl

/-- The tag of a retired instruction moves the generator of its core, and no thread (R516). -/
@[simp] theorem State.retireTrace_thread (s : State) (h word value : Nat) (exception : Bool) (n : Nat) :
    (s.retireTrace h word value exception).thread n = s.thread n := by
  simp only [State.retireTrace]
  by_cases hoff : (!bitAt (byteAt (s.oct 0xC801 1) ((if h < 128 then h else h) / 8)) ((if h < 128 then h else h) % 8)) = true
  · rw [if_pos hoff]
  · rw [if_neg hoff]
    split
    · rfl
    · exact State.thread_congr (by rw [State.pushRing_stewards]; rfl) n

@[simp] theorem State.endWrite_thread (s : State) (o : Origin) (i j : Nat) (v : List Byte) (st : Status) (n : Nat) :
    (s.endWrite o i j v st).thread n = s.thread n :=
  State.thread_congr (by simp only [State.endWrite_same]) n

/-- What a retirement leaves of its thread (R480): rd written, the pc past the instruction. -/
def Thread.retired (x : Thread) (rd value : Nat) : Thread := { x.put rd value with pc := x.pc + 4, yielded := false }

theorem Thread.put_same (x : Thread) (r v : Nat) : (x.put r v).state = x.state ∧ (x.put r v).pc = x.pc ∧ (x.put r v).master = x.master ∧
    (x.put r v).tevent = x.tevent ∧ (x.put r v).tcmp = x.tcmp ∧ (x.put r v).twdog = x.twdog ∧ (x.put r v).waitMask = x.waitMask := by
  unfold Thread.put
  split <;> exact ⟨rfl, rfl, rfl, rfl, rfl, rfl, rfl⟩

theorem State.retire_thread (s : State) (h rd word value : Nat) : (s.retire h rd word value).thread h = (s.thread h).retired rd value := by
  simp only [State.retire, State.setThread_thread, State.retireTrace_thread]
  rfl

theorem State.retire_thread_other (s : State) {h n : Nat} (rd word value : Nat) (hne : n ≠ h) :
    (s.retire h rd word value).thread n = s.thread n := by
  simp only [State.retire, State.setThread_thread_other _ _ _ hne, State.retireTrace_thread]

theorem State.retire_pc (s : State) (h rd word value : Nat) : ((s.retire h rd word value).thread h).pc = (s.thread h).pc + 4 := by
  rw [State.retire_thread]
  rfl

theorem State.retire_tevent (s : State) (h rd word value : Nat) : ((s.retire h rd word value).thread h).tevent = (s.thread h).tevent := by
  rw [State.retire_thread]
  exact (Thread.put_same ..).2.2.2.1

theorem State.runThread_thread (s : State) (h : Nat) (x : Thread) : (s.runThread h x).thread h = { x with state := .running } := by
  simp only [State.runThread, State.setDomain_thread, State.setCore_thread, State.setNmi_thread, State.setThread_thread]

theorem State.runThread_thread_other (s : State) {h n : Nat} (x : Thread) (hne : n ≠ h) : (s.runThread h x).thread n = s.thread n := by
  simp only [State.runThread, State.setDomain_thread, State.setCore_thread, State.setNmi_thread, State.setThread_thread_other _ _ _ hne]

@[simp] theorem State.noteIdle_thread (s : State) (h n : Nat) : (s.noteIdle h).thread n = s.thread n := by
  unfold State.noteIdle
  dsimp only
  split <;> rfl

theorem State.stopThread_thread (s : State) (h : Nat) : (s.stopThread h).thread h =
    { s.thread h with state := .stopped, tcmp := none, twdog := none, twdogLeft := none, waitMask := none } := by
  simp only [State.stopThread, State.noteIdle_thread, State.setThread_thread]

theorem State.signalThread_tevent (s : State) {h : Nat} (bits : Nat) (hh : h < 192) :
    ((s.signalThread h bits).thread h).tevent = (s.thread h).tevent ||| bits := by
  simp only [State.signalThread, if_pos hh, State.setThread_thread]

theorem State.signalThread_thread_kept (s : State) (h bits n : Nat) :
    ((s.signalThread h bits).thread n).twdog = (s.thread n).twdog ∧ ((s.signalThread h bits).thread n).tcmp = (s.thread n).tcmp := by
  unfold State.signalThread
  split
  · by_cases hne : n = h
    · subst hne
      simp only [State.setThread_thread, and_self]
    · simp only [State.setThread_thread_other _ _ _ hne, and_self]
  · exact ⟨rfl, rfl⟩

theorem State.signalThread_now (s : State) (h bits : Nat) : (s.signalThread h bits).now = s.now :=
  (State.signalThread_keeps (.refl _) .start : On inS _ s _).now_same rfl

theorem State.endWait_running (s : State) (h rd mask : Nat) : ((s.endWait h rd mask).thread h).state = .running := by
  simp only [State.endWait, State.runThread_thread]

/-- An issuing thread is one of the 192, and it runs. -/
theorem State.issues_iff {s : State} {h : Nat} : s.issues h = true ↔ h < 192 ∧ (s.thread h).state = .running := by
  simp only [State.issues, Bool.and_eq_true, decide_eq_true_eq]

/-! ### Thread-control instructions (R480 to R485) -/

theorem execTstart_starts {h rd target addr : Nat} {s : State} (hissues : s.issues h = true) (hfalqua : s.integrator h = false)
    (hin : target < 192) (hdie : dieOf target = dieOf h) (hstate : (s.thread target).state ∈ [.stopped, .faulted])
    (hkind : integratorThread target = true → s.integrator target = true) (heven : addr % 2 = 0) (hwindow : s.codeWindow target addr = true) :
    Completes (.tstart h rd target addr) s fun t => (t.thread target).state = .running ∧ (t.thread target).pc = addr ∧
      (t.thread target).master = h ∧ (t.thread h).pc = (s.thread h).pc + 4 := by
  obtain ⟨-, hrun⟩ := State.issues_iff.mp hissues
  have hidle : (s.thread target).state = .stopped ∨ (s.thread target).state = .faulted := by simpa using hstate
  have hne : target ≠ h := by
    rintro rfl
    simp [hrun] at hidle
  have hready : ¬(((s.thread target).state ≠ .stopped ∧ (s.thread target).state ≠ .faulted) ∨
      (integratorThread target ∧ !s.integrator target)) := by
    rintro (⟨h1, h2⟩ | ⟨h1, h2⟩)
    · exact hidle.elim h1 h2
    · simp [hkind h1] at h2
  refine ⟨(s.startThread h target addr).retire h rd (threadWord 0 rd 0 0) 0, ?_, ?_⟩
  · change execTstart h rd target addr s = _
    have hplace : ¬(192 ≤ target ∨ dieOf target ≠ dieOf h) := by omega
    have haddr : ¬(addr % 2 = 1 ∨ (!s.codeWindow target addr) = true) := by simp [heven, hwindow]
    simp only [execTstart, hissues, hfalqua, if_neg hplace, if_neg hready, if_neg haddr, Bool.not_true, Bool.false_eq_true, if_true,
      if_false]
  · dsimp only
    rw [State.retire_pc, State.retire_thread_other _ _ _ _ hne, State.startThread, State.runThread_thread,
      State.runThread_thread_other _ _ hne.symm]
    exact ⟨rfl, rfl, rfl, rfl⟩

theorem execTstop_stops {h rd target : Nat} {s : State} (hissues : s.issues h = true) (hfalqua : s.integrator h = false)
    (hin : target < 192) (hfe : target ≠ 0) (htm : target ≠ 128) (hchild : (s.thread target).master = h)
    (hstate : (s.thread target).state ∈ [.running, .waiting]) (hne : target ≠ h) : Completes (.tstop h rd target) s fun t =>
      (t.thread target).state = .stopped ∧ (t.thread target).tcmp = none ∧ (t.thread target).twdog = none := by
  have hbusy : (s.thread target).state = .running ∨ (s.thread target).state = .waiting := by simpa using hstate
  have hdebug : (s.thread target).state ≠ .halted := by rcases hbusy with h1 | h1 <;> simp [h1]
  have hlive : ¬(0 ≠ 0 ∨ (s.thread target).state = .stopped ∨ (s.thread target).state = .faulted) := by
    rcases hbusy with h1 | h1 <;> simp [h1]
  refine ⟨(s.retire h rd (threadWord 1 rd 0 0) 0).stopThread target, ?_, ?_⟩
  · change execTstop h rd target s = _
    have hplace : ¬192 ≤ target := by omega
    have hzero : ¬(target = 0 ∨ target = 128) := by omega
    simp only [execTstop, hissues, hfalqua, if_neg hplace, if_neg hzero, if_neg (not_not_intro hchild), if_neg hdebug, if_neg hlive,
      Bool.not_true, Bool.false_eq_true, if_false]
  · dsimp only
    rw [State.stopThread_thread]
    exact ⟨rfl, rfl, rfl⟩

theorem execTsig_signals {h rd target bits : Nat} {s : State} (hissues : s.issues h = true) (hfalqua : s.integrator h = false)
    (hin : target < 192) (hbits : bits = fld bits 23 16 * 2 ^ 16) : Completes (.tsig h rd target bits) s fun t => t =
      (s.signalThread target (fld bits 23 16 * (if dieOf target = dieOf h then 2 ^ 16 else 2 ^ 24))).retire h rd (threadWord 2 rd 0 0) 0 := by
  have hfield : fld bits 23 16 < 2 ^ 8 := Nat.mod_lt _ (by decide)
  have hshape : bits % 2 ^ 64 = fld bits 23 16 * 2 ^ 16 := by
    rw [Nat.mod_eq_of_lt (by omega)]
    exact hbits
  refine ⟨_, ?_, rfl⟩
  change execTsig h rd target bits s = _
  have hplace : ¬192 ≤ target := by omega
  simp only [execTsig, hissues, hfalqua, if_neg hplace, if_neg (not_not_intro hshape), Bool.not_true, Bool.false_eq_true, false_and,
    if_true, if_false, decide_eq_true_eq]

theorem execTwfe_waits {h rd mask : Nat} {s : State} (hissues : s.issues h = true) (hnone : (s.thread h).tevent &&& mask = 0) :
    Completes (.twfe h rd mask) s fun t => (t.thread h).state = .waiting ∧ (t.thread h).waitMask = some (mask % 2 ^ 32, rd) ∧
      (t.thread h).pc = (s.thread h).pc := by
  refine ⟨_, rfl, ?_⟩
  rw [if_neg (by simp [hissues]), if_neg (not_not_intro hnone)]
  dsimp only
  rw [State.setThread_thread]
  exact ⟨rfl, rfl, rfl⟩

theorem execTpoll_takes {h rd mask : Nat} {s : State} (hissues : s.issues h = true) : Completes (.tpoll h rd mask) s fun t =>
    (t.thread h).tevent = (s.thread h).tevent ^^^ ((s.thread h).tevent &&& mask) ∧ (t.thread h).pc = (s.thread h).pc + 4 := by
  refine ⟨_, rfl, ?_⟩
  rw [if_neg (by simp [hissues])]
  dsimp only
  rw [State.retire_tevent, State.retire_pc, State.setThread_thread]
  exact ⟨rfl, rfl⟩

theorem execTyield_yields {h : Nat} {s : State} (hissues : s.issues h = true) : Completes (.tyield h) s fun t =>
    (t.thread h).yielded = true ∧ (t.thread h).pc = (s.thread h).pc + 4 := by
  refine ⟨_, rfl, ?_⟩
  rw [if_neg (by simp [hissues])]
  dsimp only
  rw [State.setThread_thread]
  exact ⟨rfl, State.retire_pc ..⟩

theorem execTstat_reads {h rd target : Nat} {s : State} (hissues : s.issues h = true) (hfalqua : s.integrator h = false)
    (hin : target < 192) : Completes (.tstat h rd target) s fun t => t =
      s.retire h rd (threadWord 6 rd 0 0) ((s.thread target).state.code + (s.thread target).master * 2 ^ 8 +
        (s.thread target).faultCause * 2 ^ 16 + (if s.integrator target then 2 ^ 24 else 0)) := by
  refine ⟨_, ?_, rfl⟩
  change execTstat h rd target s = _
  have hplace : ¬192 ≤ target := by omega
  simp only [execTstat, hissues, hfalqua, if_neg hplace, Bool.not_true, Bool.false_eq_true, if_false]

/-! ### Events (R482, R490 to R496) -/

theorem execThreadWake_wakes {h rd mask : Nat} {s : State} (hin : h < 192) (hstate : (s.thread h).state = .waiting)
    (hwait : (s.thread h).waitMask = some (mask, rd)) (hpending : (s.thread h).tevent &&& mask ≠ 0) :
    Completes (.threadWake h) s fun t => t = s.endWait h rd mask ∧ (t.thread h).state = .running := by
  refine ⟨s.endWait h rd mask, ?_, rfl, State.endWait_running ..⟩
  change execThreadWake h s = _
  simp only [execThreadWake, hstate, hwait]
  rw [if_neg (by omega), if_pos hpending]

theorem execTcmpExpiry_signals {h v : Nat} {s : State} (hin : h < 192) (hcmp : (s.thread h).tcmp = some v) :
    Completes (.tcmpExpiry h) s fun t => (t.thread h).tcmp = none ∧ (t.thread h).tevent = (s.thread h).tevent ||| 1 ∧ v ≤ t.now := by
  refine ⟨((s.reach v).setThread h { s.thread h with tcmp := none }).signalThread h 1, ?_, ?_⟩
  · change execTcmpExpiry h s = _
    simp only [execTcmpExpiry, hcmp]
  · dsimp only
    rw [(State.signalThread_thread_kept ..).2, State.signalThread_tevent _ _ hin, State.setThread_thread, State.signalThread_now]
    exact ⟨rfl, rfl, Nat.le_max_right ..⟩

/-- The watchdog of a thread disarmed and counted, before its master hears of it (R495). -/
def State.watchdogEnded (s : State) (h v : Nat) : State :=
  (((s.reach v).setThread h { s.thread h with twdog := none }).bump 0xB011 1).healthFree 4 1 (natBe h 1)

theorem State.watchdogEnded_thread (s : State) (h v n : Nat) :
    (s.watchdogEnded h v).thread n = ((s.reach v).setThread h { s.thread h with twdog := none }).thread n :=
  State.thread_congr (by simp only [State.watchdogEnded, State.healthFree_same, State.bump_count, State.count_fields]) n

theorem State.watchdogEnded_now (s : State) (h v : Nat) : v ≤ (s.watchdogEnded h v).now := by
  simp only [State.watchdogEnded, State.healthFree_same, State.bump_count, State.count_fields, State.setThread_fields]
  exact Nat.le_max_right ..

theorem execTwdogExpiry_signals {h v : Nat} {s : State} (hfe : h ≠ 0) (htm : h ≠ 128) (hdog : (s.thread h).twdog = some v) :
    Completes (.twdogExpiry h) s fun t => (t.thread h).twdog = none ∧ v ≤ t.now ∧
      ((s.thread h).master < 192 → (t.thread (s.thread h).master).tevent = (s.thread (s.thread h).master).tevent ||| 32) := by
  refine ⟨(s.watchdogEnded h v).signalThread (s.thread h).master 32, ?_, ?_, ?_, fun hmaster => ?_⟩
  · change execTwdogExpiry h s = _
    simp only [execTwdogExpiry, hdog]
    rw [if_neg (by omega)]
    rfl
  · rw [(State.signalThread_thread_kept ..).1, State.watchdogEnded_thread, State.setThread_thread]
  · rw [State.signalThread_now]
    exact s.watchdogEnded_now h v
  · rw [State.signalThread_tevent _ _ hmaster, State.watchdogEnded_thread]
    by_cases hself : (s.thread h).master = h
    · rw [hself, State.setThread_thread]
    · rw [State.setThread_thread_other _ _ _ hself]
      rfl

theorem execThreadFault_traps {h cause : Nat} {s : State} (hissues : s.issues h = true) :
    Completes (.threadFault h cause) s fun t => t = s.trapThread h (cause % 64) :=
  ⟨_, rfl, if_neg (by simp [hissues])⟩

/-- A record of the health report leaves the trial alone: it writes the fault log only (R556). -/
theorem State.healthFree_trial (s : State) (area code : Nat) (detail : List Byte) : (s.healthFree area code detail).fw.trial = s.fw.trial := by
  have hbody : (s.healthFree area code detail).fw.body = s.fw.body := by simp only [State.healthFree_same]
  exact congrArg (·.trial) hbody

theorem execThread0Failure_restarts {die : Nat} {s : State} (hdie : die < 2) (hstate : (s.thread (threadZero die)).state = .faulted)
    (htrial : s.fw.trial = none) : Completes (.thread0Failure die) s fun t => t.power.warmSince.isSome = true := by
  have hnone : ((((s.bump 0xB011 2).trialUnhealthy).healthFree 4 2 (natBe die 1)).fw.trial).isSome = false := by
    rw [State.healthFree_trial, State.trialUnhealthy, State.bump_count]
    simp only [State.count_fields, htrial, Option.map_none, Option.isSome_none]
  refine ⟨_, rfl, ?_⟩
  rw [if_neg (by simp only [hstate, ne_eq, not_true_eq_false, or_false]; omega)]
  dsimp only
  rw [hnone, if_neg Bool.false_ne_true]
  exact State.warmRestart_warmSince ..

theorem execSlackWater_raises {die : Nat} {s : State} (hdie : die < 2) (hslack : s.slack die = true) (hraised : (s.nmi die).raised = false)
    (hactive : (s.nmi die).active = false) : Completes (.slackWater die) s fun t => (t.nmi die).raised = true ∧
      (t.nmi die).active = true ∧ (t.thread (threadZero die)).state = .running ∧ (t.thread (threadZero die)).pc = (s.nmi die).vec := by
  refine ⟨_, rfl, ?_⟩
  rw [if_neg (by simp only [hslack, hraised]; simp; omega)]
  dsimp only
  rw [hactive, if_neg Bool.false_ne_true]
  simp only [State.setThread_nmi, State.setNmi_nmi, State.setThread_thread, and_self]

/-! ### Cores and the debugger (R478, R497) -/

@[simp] theorem State.setDomain_core (s : State) (d st c : Nat) : (s.setDomain d st).core c = s.core c := by
  have hstewards : (s.setDomain d st).stewards = s.stewards := by simp only [State.setDomain_same]
  exact congrArg (mgetD _ ·.cores c) hstewards

theorem execCoreRetainExpiry_retains {c : Nat} {s : State} (hin : c < 16) (hcore : c % 8 ≠ 0) (hmode : s.mode ≠ .dormant)
    (hret : (s.core c).retained = false) (hidle : ((coreThreads c).all fun h => decide ((s.thread h).state = .stopped)) = true) :
    Completes (.coreRetainExpiry c) s fun t => (t.core c).retained = true := by
  refine ⟨_, rfl, ?_⟩
  rw [if_neg (by simp only [hidle, hret, hmode, hcore]; simp; omega)]
  dsimp only
  rw [State.setDomain_core, State.setCore_core]

theorem execDebugHalt_halts {h : Nat} {s : State} (htap : s.tapInForce = 0x20) (hin : h < 192) (hstate : (s.thread h).state = .running) :
    Completes (.debugHalt [h]) s fun t => (t.thread h).state = .halted ∧ (t.thread h).twdog = none := by
  refine ⟨_, rfl, ?_⟩
  rw [if_pos htap, List.foldl_cons, List.foldl_nil]
  dsimp only
  rw [if_pos ⟨hin, .inl hstate⟩, State.setThread_thread]
  exact ⟨rfl, rfl⟩

theorem execDebugResume_runs {h : Nat} {s : State} (htap : s.tapInForce = 0x20) (hin : h < 192) (hstate : (s.thread h).state = .halted)
    (hwait : (s.thread h).waitMask = none) : Completes (.debugResume [h]) s fun t =>
      (t.thread h).state = .running ∧ (t.thread h).pc = (s.thread h).pc := by
  refine ⟨s.runThread h { s.thread h with twdog := (s.thread h).twdogLeft.map (s.now + ·), twdogLeft := none }, ?_, ?_⟩
  · change execDebugResume [h] s = _
    simp only [execDebugResume, if_pos htap, List.foldl_cons, List.foldl_nil, hwait]
    rw [if_neg (by simp only [hstate, ne_eq, not_true_eq_false, or_false]; omega)]
  · dsimp only
    rw [State.runThread_thread]
    exact ⟨rfl, rfl⟩

/-! ### Weights, punt queues and integrator threads (R486, R488, R492) -/

theorem threadWeightEffect_of_ok {h : Nat} {c : List Byte} {s : State} (hok : (threadWeightEffect h c s).1 = .ok) :
    (threadWeightEffect h c s).2 =
      (if h < 128 then s.setReg 0xB003 h (beNat c) else s.setReg 0xB004 (h - 128) (beNat c)).rebuildSlots (coreOf h) := by
  unfold threadWeightEffect at hok ⊢
  dsimp only at hok ⊢
  split at hok
  · cases hok
  next hfits => rw [if_neg hfits]

theorem threadWeightEffect_stores {tm : Bool} {n : Nat} {w : Byte} {s : State} (hs : s.StoresRise) (hfe : tm = false → n < 128)
    (hok : (threadWeightEffect (if tm then 128 + n else n) [w] s).1 = .ok) :
    (threadWeightEffect (if tm then 128 + n else n) [w] s).2.reg (if tm then 0xB004 else 0xB003) n = w.toNat := by
  have hvalue : beNat [w] = w.toNat := by simp [beNat]
  rw [threadWeightEffect_of_ok hok, State.rebuildSlots, hvalue]
  simp only [State.setCore_fields]
  cases tm with
  | true =>
    rw [if_pos rfl, if_pos rfl, if_neg (by omega), Nat.add_sub_cancel_left]
    exact State.setReg_reg _ _ _ _ hs.objs
  | false =>
    rw [if_neg Bool.false_ne_true, if_neg Bool.false_ne_true, if_pos (hfe rfl)]
    exact State.setReg_reg _ _ _ _ hs.objs

theorem execThreadWeight_stores {o : Origin} {tm : Bool} {n : Nat} {w : Byte} {s : State} (hs : s.StoresRise)
    (hfe : tm = false → n < 128) (hok : s.checkWrite o (if tm then 0xB004 else 0xB003) n [w] = .ok)
    (heffect : (threadWeightEffect (if tm then 128 + n else n) [w] s).1 = .ok) : Completes (.threadWeight o tm n [w]) s fun t =>
      t.reg (if tm then 0xB004 else 0xB003) n = w.toNat := by
  refine completes_of_write rfl hok (by rw [canonical_singleton]; exact Prod.ext heffect rfl) ?_
  simp only [State.endWrite_same]
  exact threadWeightEffect_stores hs hfe heffect

/-- What an effect leaves that neither its range nor a busy part refused (R152). -/
theorem snd_of_guards {p q : Prop} [Decidable p] [Decidable q] {s u : State}
    (hok : (if p then (Status.range, s) else if q then (.busy, s) else (.ok, u)).1 = .ok) :
    (if p then (Status.range, s) else if q then (.busy, s) else (.ok, u)).2 = u := by
  by_cases hp : p
  · simp only [if_pos hp, reduceCtorEq] at hok
  by_cases hq : q
  · simp only [if_neg hp, if_pos hq, reduceCtorEq] at hok
  · rw [if_neg hp, if_neg hq]

theorem puntQueueEffect_stores {tm : Bool} {n : Nat} {c : List Byte} {s : State} (hs : s.StoresRise) (hok : (puntQueueEffect tm n c s).1 = .ok) :
    (puntQueueEffect tm n c s).2.oct (if tm then 0xB021 else 0xB020) n = c :=
  (congrArg (·.oct (if tm then 0xB021 else 0xB020) n) (snd_of_guards hok)).trans (s.setOct_oct _ n c hs.octs)

/-- PUNT_QUEUE is a string of bytes, the same on every path (R116). -/
theorem canonical_puntQueue {o : Origin} {tm : Bool} {n : Nat} {v : List Byte} {s : State}
    (hok : s.checkWrite o (if tm then 0xB021 else 0xB020) n v = .ok) :
    canonical o.be (typeOf (if tm then 0xB021 else 0xB020) n) v = v := by
  obtain ⟨d, hd⟩ := State.dictRow_of_checkWrite hok
  rw [typeOf_octets hd (by cases tm <;> decide +kernel), canonical]

theorem execPuntQueue_stores {o : Origin} {tm : Bool} {n : Nat} {v : List Byte} {s : State} (hs : s.StoresRise)
    (hok : s.checkWrite o (if tm then 0xB021 else 0xB020) n v = .ok) (heffect : (puntQueueEffect tm n v s).1 = .ok) :
    Completes (.puntQueue o tm n v) s fun t => t.oct (if tm then 0xB021 else 0xB020) n = v := by
  refine completes_of_write rfl hok (by rw [canonical_puntQueue hok]; exact Prod.ext heffect rfl) ?_
  simp only [State.endWrite_same]
  exact puntQueueEffect_stores hs heffect

theorem execIntegratorRestart_starts {o : Origin} {c : Byte} {s : State} (hok : s.checkWrite o 0xB030 3 [c] = .ok) (hin : c.toNat < 48)
    (hkind : s.integrator (entryThread c.toNat) = true) (hstate : (s.thread (entryThread c.toNat)).state = .faulted)
    (hentry : mgetD 0 s.stewards.integratorEntry c.toNat ≠ 0) : Completes (.integratorRestart o [c]) s fun t =>
      (t.thread (entryThread c.toNat)).state = .running ∧
      (t.thread (entryThread c.toNat)).pc = mgetD 0 s.stewards.integratorEntry c.toNat := by
  have heffect : integratorRestartEffect [c] s = (.ok, s.startThread (threadZero (dieOf (entryThread c.toNat))) (entryThread c.toNat)
      (mgetD 0 s.stewards.integratorEntry c.toNat)) := by
    have hbyte : byteAt [c] 0 = c.toNat := rfl
    simp only [integratorRestartEffect, hbyte, hkind, hstate]
    rw [if_neg (by simp only [List.length_singleton, ne_eq, not_true_eq_false, false_or]; omega), if_neg (by simp [hentry])]
  refine completes_of_write rfl hok (by rw [canonical_singleton, heffect]) ?_
  rw [State.endWrite_thread, State.startThread, State.runThread_thread]
  exact ⟨rfl, rfl⟩

/-- Settles O25: each command by the lemma of its meaning. -/
theorem stewardCommandsComplete : Obligations.StewardCommandsComplete := by
  refine ⟨?start, ?stop, ?sig, ?wait, ?poll, ?yield, ?stat, ?wake, ?compare, ?watchdog, ?fault, ?failure, ?slack, ?retain, ?halt,
    ?resume, ?weight, ?punt, ?restart⟩
  case start => exact fun _ _ _ _ _ h1 h2 h3 h4 h5 h6 h7 h8 => execTstart_starts h1 h2 h3 h4 h5 h6 h7 h8
  case stop => exact fun _ _ _ _ h1 h2 h3 h4 h5 h6 h7 h8 => execTstop_stops h1 h2 h3 h4 h5 h6 h7 h8
  case sig => exact fun _ _ _ _ _ h1 h2 h3 h4 => execTsig_signals h1 h2 h3 h4
  case wait => exact fun _ _ _ _ h1 h2 => execTwfe_waits h1 h2
  case poll => exact fun _ _ _ _ h1 => execTpoll_takes h1
  case yield => exact fun _ _ h1 => execTyield_yields h1
  case stat => exact fun _ _ _ _ h1 h2 h3 => execTstat_reads h1 h2 h3
  case wake => exact fun _ _ _ _ h1 h2 h3 h4 => execThreadWake_wakes h1 h2 h3 h4
  case compare => exact fun _ _ _ h1 h2 => execTcmpExpiry_signals h1 h2
  case watchdog => exact fun _ _ _ h1 h2 h3 => execTwdogExpiry_signals h1 h2 h3
  case fault => exact fun _ _ _ h1 => execThreadFault_traps h1
  case failure => exact fun _ _ h1 h2 h3 => execThread0Failure_restarts h1 h2 h3
  case slack => exact fun _ _ h1 h2 h3 h4 => execSlackWater_raises h1 h2 h3 h4
  case retain => exact fun _ _ h1 h2 h3 h4 h5 => execCoreRetainExpiry_retains h1 h2 h3 h4 h5
  case halt => exact fun _ _ h1 h2 h3 => execDebugHalt_halts h1 h2 h3
  case resume => exact fun _ _ h1 h2 h3 h4 => execDebugResume_runs h1 h2 h3 h4
  case weight => exact fun _ _ _ _ _ h1 h2 h3 h4 => execThreadWeight_stores h1 h2 h3 h4
  case punt => exact fun _ _ _ _ _ h1 h2 h3 => execPuntQueue_stores h1 h2 h3
  case restart => exact fun _ _ _ h1 h2 h3 h4 h5 => execIntegratorRestart_starts h1 h2 h3 h4 h5

end Sys2Proof.Machine
end

section
/-! The commands of host channels, doorbell sets, mailboxes and locks (R446 to R474). -/

namespace Sys2Proof.Machine

/-! ### Host channels through the operations of the host -/

@[simp] theorem State.setChan_chan (s : State) (i : Nat) (c : HostChannel) : (s.setChan i c).chan i = some c :=
  mget_mput_same ..

/-- A vector that is raised goes out or becomes pending, and no channel moves (R465). -/
theorem State.raiseVector_channels (s : State) (v : Nat) : (s.raiseVector v).host.channels = s.host.channels := by
  unfold State.raiseVector
  repeat' split
  all_goals rfl

/-- A slot whose OWN and PHASE are right and whose fields are well formed gives its descriptor (R450, R451, R457). -/
theorem State.scanSlot_takes {s : State} {i : Nat} {c : HostChannel} {d : List Byte} (hchan : s.chan i = some c) (hring : c.ring = .enabled)
    (hscan : c.scanning = true) (hstaged : c.staged = []) (hroom : c.fetched.length < 32) (hown : bitAt (subControl (slice d 0 64)) 31 = true)
    (hphase : bitAt (subControl (slice d 0 64)) 30 = c.fetchPhase) (hform : malformed c.receive (slice d 0 64) = false) :
    (s.scanSlot i d).1 = true ∧ ∃ x, (s.scanSlot i d).2.chan i = some x ∧ x.scanning = true ∧
      x.fetched = c.fetched ++ [{ slot := c.fetchPos, pos := c.taken, bytes := slice d 0 64 }] := by
  have hready : ¬(c.ring ≠ .enabled ∨ (!c.scanning) = true ∨ (!c.staged.isEmpty) = true ∨ 32 ≤ c.fetched.length) := by
    simp [hring, hscan, hstaged, hroom]
  simp only [State.scanSlot, hchan, if_neg hready, hown, hphase, hform, Bool.not_true, Bool.false_eq_true, ne_eq, not_true_eq_false, if_false,
    State.setChan_chan, true_and]
  exact ⟨_, rfl, hscan, rfl⟩

theorem State.scanSlots_single {s : State} {i : Nat} {d : List Byte} (hmore : (s.scanSlot i d).1 = true) :
    s.scanSlots i [d] = (s.scanSlot i d).2 := by
  simp only [State.scanSlots, hmore, if_true]

theorem execSubDoorbell_takes {i : Nat} {d : List Byte} {c : HostChannel} {s : State} (hchan : s.chan i = some c) (hring : c.ring = .enabled)
    (hlink : s.power.pins.pciePerstN = true) (hstaged : c.staged = []) (hroom : c.fetched.length < 32)
    (hown : bitAt (subControl (slice d 0 64)) 31 = true) (hphase : bitAt (subControl (slice d 0 64)) 30 = c.fetchPhase)
    (hform : malformed c.receive (slice d 0 64) = false) : Completes (.subDoorbell i [d]) s fun t => ∃ x, t.chan i = some x ∧
      x.scanning = true ∧ x.fetched = c.fetched ++ [{ slot := c.fetchPos, pos := c.taken, bytes := slice d 0 64 }] := by
  obtain ⟨hmore, x, hx, hscanning, hfetched⟩ := State.scanSlot_takes (s.setChan_chan i { c with scanning := true }) hring rfl hstaged hroom
    hown hphase hform
  refine ⟨(s.setChan i { c with scanning := true }).scanSlots i [d], ?_, x, ?_, hscanning, hfetched⟩
  · change execSubDoorbell i [d] s = _
    simp only [execSubDoorbell, hchan]
    rw [if_neg (by simp [hring, hlink])]
  · rwa [State.scanSlots_single hmore]

theorem execScanResume_takes {i : Nat} {d : List Byte} {c : HostChannel} {s : State} (hchan : s.chan i = some c) (hring : c.ring = .enabled)
    (hscan : c.scanning = true) (hstaged : c.staged = []) (hroom : c.fetched.length < 32)
    (hown : bitAt (subControl (slice d 0 64)) 31 = true) (hphase : bitAt (subControl (slice d 0 64)) 30 = c.fetchPhase)
    (hform : malformed c.receive (slice d 0 64) = false) : Completes (.scanResume i [d]) s fun t => ∃ x, t.chan i = some x ∧
      x.fetched = c.fetched ++ [{ slot := c.fetchPos, pos := c.taken, bytes := slice d 0 64 }] := by
  obtain ⟨hmore, x, hx, -, hfetched⟩ := State.scanSlot_takes hchan hring hscan hstaged hroom hown hphase hform
  refine ⟨s.scanSlots i [d], rfl, x, ?_, hfetched⟩
  rwa [State.scanSlots_single hmore]

theorem execReceiveBuffer_takes {i : Nat} {d : List Byte} {c : HostChannel} {s : State} (hchan : s.chan i = some c)
    (hreceive : c.receive = true) (hring : c.ring = .enabled) (hscan : c.scanning = true) (hstaged : c.staged = [])
    (hroom : c.fetched.length < 32) (hown : bitAt (subControl (slice d 0 64)) 31 = true)
    (hphase : bitAt (subControl (slice d 0 64)) 30 = c.fetchPhase) (hform : malformed true (slice d 0 64) = false) :
    Completes (.receiveBuffer i d) s fun t => ∃ x, t.chan i = some x ∧
      x.fetched = c.fetched ++ [{ slot := c.fetchPos, pos := c.taken, bytes := slice d 0 64 }] := by
  obtain ⟨-, x, hx, -, hfetched⟩ := State.scanSlot_takes hchan hring hscan hstaged hroom hown hphase (by rwa [hreceive])
  refine ⟨(s.scanSlot i d).2, ?_, x, hx, hfetched⟩
  change execReceiveBuffer i d s = _
  simp only [execReceiveBuffer, hchan, Option.any_some, hreceive, if_true]

/-! ### Injection, staging and interrupts (R456 to R465) -/

theorem State.enqueueInjection_inject (s : State) (n : Nat) (x : Injection) :
    ((s.enqueueInjection n x).sliceAt n).inject = (s.sliceAt n).inject ++ [x] := by
  simp only [State.enqueueInjection, State.setSlice_sliceAt]

theorem execInject_enqueues {n i : Nat} {c : HostChannel} {d : Descriptor} {buffer : List Byte} {s : State} (hn : n < 16)
    (hnext : s.injectNext n = some i) (hchan : s.chan i = some c)
    (hfind : c.fetched.find? (fun d => decide (byteAt d.bytes 18 = n)) = some d) (hmode : s.mode ∈ [Mode.proportional, .spring])
    (hroom : (s.sliceAt n).inject.length < 16) (halone : s.activeInPair = false) : Completes (.inject n true buffer) s fun t =>
      (t.sliceAt n).inject = (s.sliceAt n).inject ++ [injectionOf i d.pos d.bytes buffer] := by
  have hserves : s.mode = .proportional ∨ s.mode = .spring := by simpa using hmode
  have hmodes : ¬(s.mode ≠ .proportional ∧ s.mode ≠ .spring) := fun ⟨h1, h2⟩ => hserves.elim h1 h2
  have hplace : ¬(16 ≤ (s.sliceAt n).inject.length ∨ 16 ≤ n) := by omega
  let x : Started := { slot := d.slot, pos := d.pos, bytes := d.bytes, completion := none, gate := none }
  let c1 : HostChannel := { c with fetched := c.fetched.filter (fun f => decide (f.pos ≠ d.pos)), started := insertStarted x c.started }
  let s1 : State := { s.setChan i c1 with host := { (s.setChan i c1).host with injectTurn := mput s.host.injectTurn n i } }
  have halone1 : s1.activeInPair = false := halone
  refine ⟨s1.enqueueInjection n (injectionOf i d.pos d.bytes buffer), ?_, State.enqueueInjection_inject ..⟩
  change execInject n true buffer s = _
  simp only [execInject, hnext, hchan, hfind]
  rw [if_neg hmodes, if_neg hplace, if_neg (by decide)]
  change Host.Outcome.next ((if s1.activeInPair = true then _ else s1).enqueueInjection n _) = _
  rw [halone1, if_neg Bool.false_ne_true]

theorem execStagedRetry_writes {i : Nat} {c : HostChannel} {e : List Byte} {rest : List (List Byte)} {s : State}
    (hlink : s.power.pins.pciePerstN = true) (hchan : s.chan i = some c) (hstaged : c.staged = e :: rest) :
    Completes (.stagedRetry i 1) s fun t => t = ((s.setChan i { c with staged := rest }).writeCompletion i e).settleRing i := by
  refine ⟨_, ?_, rfl⟩
  have hfree : Nat.min 64 1 = 1 := rfl
  change execStagedRetry i 1 s = _
  simp only [execStagedRetry, hlink, hfree, State.writeStaged, hchan, hstaged, Bool.not_true, Bool.false_eq_true, if_false]

theorem execCoalesceExpiry_signals {i : Nat} {c : HostChannel} {s : State} (hchan : s.chan i = some c) (hcount : c.unsignalled ≠ 0) :
    Completes (.coalesceExpiry i) s fun t => t.chan i = some { c with unsignalled := 0 } ∧ c.firstUnsignalled + beAt c.params 24 4 ≤ t.now := by
  let u := s.reach (c.firstUnsignalled + beAt c.params 24 4)
  have hsignal : u.signalChannel i = (u.setChan i { c with unsignalled := 0 }).raiseVector c.vector := by
    have hsame : u.chan i = some c := hchan
    simp only [State.signalChannel, hsame]
  have hnow : (u.signalChannel i).now = u.now := (State.signalChannel_keeps (.refl _) .start : On inS _ u _).now_same rfl
  refine ⟨u.signalChannel i, ?_, ?_, ?_⟩
  · change execCoalesceExpiry i s = _
    simp only [execCoalesceExpiry, hchan, if_neg hcount]
    rfl
  · have hchannels := State.raiseVector_channels (u.setChan i { c with unsignalled := 0 }) c.vector
    rw [hsignal, State.chan, hchannels]
    exact u.setChan_chan i _
  · rw [hnow]
    exact Nat.le_max_right ..

/-! ### The writes of channels (R447, R463, R465) -/

theorem State.endWrite_chan (s : State) (o : Origin) (i j : Nat) (v : List Byte) (st : Status) (n : Nat) :
    (s.endWrite o i j v st).chan n = s.chan n := by
  have hhost : (s.endWrite o i j v st).host = s.host := by simp only [State.endWrite_same]
  exact congrArg (mget ·.channels n) hhost

theorem execRingEnable_enables {o : Origin} {h : Nat} {x : HostChannel} {s : State} (hh : h < 2 ^ 32)
    (hok : s.checkWrite o 0xA010 3 ([1, 0, 0, 0] ++ natBe h 4) = .ok) (hhandle : s.checkHandle 2 h = .ok)
    (hchan : s.chan (handleIndex h) = some x) (hring : x.ring = .disabled) (hidle : x.idle = true) : Completes (.ringEnable o h) s fun t =>
      t.chan (handleIndex h) = some { x with
        ring := .enabled, fetchPos := 0, fetchPhase := true, writePos := 0, writePhase := true, taken := 0, scanning := false } := by
  obtain ⟨hop, hzero, hhas, hlen, -⟩ := queueSet_reads 1 hh []
  rw [List.append_nil] at hop hzero hhas hlen
  have heffect : ringEnableEffect ([1, 0, 0, 0] ++ natBe h 4) s = (.ok, s.setChan (handleIndex h) { x with
      ring := .enabled, fetchPos := 0, fetchPhase := true, writePos := 0, writePhase := true, taken := 0, scanning := false }) := by
    have hbyte : BitVec.toNat (1 : Byte) = 1 := rfl
    simp only [ringEnableEffect, hop, hzero, hhas, hlen, hbyte, hhandle, hchan, hring, hidle]
    rfl
  refine completes_of_octets (by decide +kernel) rfl hok heffect ?_
  rw [State.endWrite_chan, State.setChan_chan]

theorem execRingDisable_drains {o : Origin} {h : Nat} {x : HostChannel} {s : State} (hh : h < 2 ^ 32)
    (hok : s.checkWrite o 0xA010 3 ([2, 0, 0, 0] ++ natBe h 4) = .ok) (hhandle : s.checkHandle 2 h = .ok)
    (hchan : s.chan (handleIndex h) = some x) (hring : x.ring = .enabled) : Completes (.ringDisable o h) s fun t => t.host =
      (State.drainStarted 65 (s.setChan (handleIndex h) { x with ring := .disabling, fetched := [], scanning := false }) (handleIndex h)).host := by
  obtain ⟨hop, hzero, hhas, hlen, -⟩ := queueSet_reads 2 hh []
  rw [List.append_nil] at hop hzero hhas hlen
  have heffect : ringEnableEffect ([2, 0, 0, 0] ++ natBe h 4) s = (.ok,
      State.drainStarted 65 (s.setChan (handleIndex h) { x with ring := .disabling, fetched := [], scanning := false }) (handleIndex h)) := by
    have hbyte : BitVec.toNat (2 : Byte) = 2 := rfl
    simp only [ringEnableEffect, hop, hzero, hhas, hlen, hbyte, hhandle, hchan, hring]
    rfl
  refine completes_of_octets (by decide +kernel) rfl hok heffect ?_
  simp only [State.endWrite_same]

theorem execChannelSet_sets {o : Origin} {v : List Byte} {x : HostChannel} {s : State} (hok : s.checkWrite o 0xA010 1 v = .ok)
    (hlen : v.length = 12) (hhandle : s.checkHandle 2 (beAt v 0 4) = .ok) (hfields : coalesceOk (slice v 4 8) = true)
    (hchan : s.chan (handleIndex (beAt v 0 4)) = some x) : Completes (.channelSet o v) s fun t =>
      t.chan (handleIndex (beAt v 0 4)) = some { x with params := patch x.params 20 (slice v 4 8) } := by
  have heffect : channelSetEffect v s =
      (.ok, s.setChan (handleIndex (beAt v 0 4)) { x with params := patch x.params 20 (slice v 4 8) }) := by
    simp only [channelSetEffect, hlen, hhandle, hfields, hchan]
    rfl
  refine completes_of_octets (by decide +kernel) rfl hok heffect ?_
  rw [State.endWrite_chan, State.setChan_chan]

/-! ### Doorbell sets (R466, R467) -/

/-- A doorbell that signals raises a vector or an event of a thread, and no doorbell set moves (R467). -/
theorem State.signalSet_doorbells (s : State) (k : Nat) : (s.signalSet k).host.doorbells = s.host.doorbells := by
  have hvector (v : Nat) : (s.raiseVector v).host.doorbells = s.host.doorbells := by
    unfold State.raiseVector
    repeat' split
    all_goals rfl
  have hthread (h bits : Nat) : (s.signalThread h bits).host.doorbells = s.host.doorbells :=
    congrArg (·.doorbells) ((State.signalThread_keeps (.refl _) .start : On inS _ s _).host_same rfl)
  unfold State.signalSet
  dsimp only
  split
  case h_1 => exact hvector _
  case h_2 => split; exacts [hthread _ _, rfl]
  case h_3 => split; exacts [hthread _ _, rfl]
  case h_4 => rfl

theorem State.signalSet_doorbell (s : State) (k n : Nat) : (s.signalSet k).doorbell n = s.doorbell n :=
  congrArg (mgetD DoorbellSet.reset · n) (s.signalSet_doorbells k)

theorem State.signalAgain_doorbell (s : State) (k n : Nat) : (s.signalAgain k).doorbell n = s.doorbell n := by
  unfold State.signalAgain
  dsimp only
  split
  · exact s.signalSet_doorbell k n
  · rfl

theorem State.ringSet_doorbell (s : State) {k : Nat} (bits : Nat) (hk : k < 64) :
    (s.ringSet k bits).doorbell k = { s.doorbell k with status := (s.doorbell k).status ||| bits } := by
  rw [State.ringSet, if_neg (by omega)]
  dsimp only
  split
  · rw [State.signalSet_doorbell, State.setDoorbell_doorbell]
  · rw [State.setDoorbell_doorbell]

theorem execDbStatus_clears {k v : Nat} {s : State} (hk : k < 64) (hmode : s.mode ≠ .dormant) : Completes (.dbStatus k v) s fun t =>
    (t.doorbell k).status = (s.doorbell k).status &&& (v % 2 ^ 32 ^^^ 0xFFFFFFFF) ∧ (t.doorbell k).mask = (s.doorbell k).mask := by
  refine ⟨_, rfl, ?_⟩
  rw [if_neg (by simp only [hmode, or_false]; omega)]
  dsimp only
  rw [State.signalAgain_doorbell, State.setDoorbell_doorbell]
  exact ⟨rfl, rfl⟩

theorem execDbMask_masks {k v : Nat} {s : State} (hk : k < 64) (hmode : s.mode ≠ .dormant) : Completes (.dbMask k v) s fun t =>
    (t.doorbell k).mask = v % 2 ^ 32 ∧ (t.doorbell k).status = (s.doorbell k).status := by
  refine ⟨_, rfl, ?_⟩
  rw [if_neg (by simp only [hmode, or_false]; omega)]
  dsimp only
  rw [State.signalAgain_doorbell, State.setDoorbell_doorbell]
  exact ⟨rfl, rfl⟩

theorem execDbRing_sets {k v : Nat} {s : State} (hk : k < 64) (hmode : s.mode ≠ .dormant) : Completes (.dbRing k v) s fun t =>
    (t.doorbell k).status = (s.doorbell k).status ||| v % 2 ^ 32 / 256 * 256 := by
  refine ⟨_, rfl, ?_⟩
  rw [if_neg hmode]
  dsimp only
  rw [State.ringSet_doorbell _ _ hk]

/-! ### Mailboxes (R468 to R473) -/

theorem execRxData_reads {master m d w w' : Nat} {rest : List Nat} {s : State} (h : s.Reaches master m d)
    (hwords : ((s.mailbox m).dir d).words = w :: w' :: rest) : Completes (.rxData master m d) s fun t =>
      ((t.mailbox m).dir d).words = w' :: rest ∧ t.host.reads = (master, w) :: s.host.reads := by
  let b := (s.mailbox m).setDir d { (s.mailbox m).dir d with
    words := w' :: rest, unread := if ((s.mailbox m).dir d).unread = 0 then w % 256 else ((s.mailbox m).dir d).unread - 1 }
  let b2 : Mailbox := { b with signalled := false, stuckSince := if b.stuck then some s.now else none }
  refine ⟨(s.setMailbox m b2).noteRead master w, ?_, ?_, rfl⟩
  · change execRxData master m d s = _
    simp only [execRxData, if_neg h.served, if_neg h.allowed, hwords]
    rfl
  · have hmailbox : ((s.setMailbox m b2).noteRead master w).mailbox m = b2 := State.setMailbox_mailbox ..
    have hdir : b2.dir d = b.dir d := rfl
    rw [hmailbox, hdir, Mailbox.setDir_dir]

theorem execAbandon_abandons {master m d holder : Nat} {s : State} (h : s.Reaches master m d)
    (hclaim : ((s.mailbox m).dir d).claim = some holder) (hmay : s.mayAbandon master holder = true) :
    Completes (.abandon master m d) s fun t => t = s.abandon m d := by
  refine ⟨_, ?_, rfl⟩
  change execAbandon master m d s = _
  simp only [execAbandon, if_neg h.served, if_neg h.allowed, hclaim, hmay, if_true]

/-- MB_STALEMATE is counted, timed and logged; its doorbells are set apart from EVENT_ROUTE (R466). -/
theorem State.raiseEvent_stalemate_host (s : State) (d0 d1 : Nat) : (s.raiseEvent 3 d0 d1).host = s.host := by
  have hlog (u : State) (l : List Byte) : (u.pushRing 3 l).host = u.host := (State.pushRing_keeps (.refl _) .start : On inS _ u _).host_same rfl
  unfold State.raiseEvent
  dsimp only
  rw [if_pos rfl]
  split
  · simp only [State.setOct_fields, State.setReg_fields, State.bump_count, State.count_fields]
  · simp only [hlog, State.setOct_fields, State.setReg_fields, State.bump_count, State.count_fields]

/-- The mailbox signalled, its stalemate counted and raised (R473). -/
def State.stalemated (s : State) (m u : Nat) : State :=
  (((s.reach (u + 1000000)).setMailbox m { s.mailbox m with signalled := true }).bump 0xA804 m).raiseEvent 3 m 0

theorem State.stalemated_mailbox (s : State) (m u : Nat) : (s.stalemated m u).mailbox m = { s.mailbox m with signalled := true } := by
  have hhost : (s.stalemated m u).host = ((s.reach (u + 1000000)).setMailbox m { s.mailbox m with signalled := true }).host := by
    simp only [State.stalemated, State.raiseEvent_stalemate_host, State.bump_count, State.count_fields]
  have hmailbox := (s.reach (u + 1000000)).setMailbox_mailbox m { s.mailbox m with signalled := true }
  rwa [State.mailbox, hhost]

theorem State.stalemated_now (s : State) (m u : Nat) : u + 1000000 ≤ (s.stalemated m u).now := by
  simp only [State.stalemated, State.raiseEvent_same, State.bump_count, State.count_fields, State.setMailbox_fields]
  exact Nat.le_max_right ..

/-- Bit 3 of one set, where the end names one (R471, R473). -/
def State.ringStalemate (s : State) (k : Nat) : State := if k < 64 then s.ringSet k 8 else s

theorem State.ringStalemate_same (s : State) (k m : Nat) :
    (s.ringStalemate k).mailbox m = s.mailbox m ∧ (s.ringStalemate k).now = s.now := by
  unfold State.ringStalemate
  split
  · exact ⟨congrArg (mgetD Mailbox.reset · m) (State.ringSet_mailboxes ..), (State.ringSet_keeps (.refl _) .start : On inS _ s _).now_same rfl⟩
  · exact ⟨rfl, rfl⟩

theorem execMbStalemate_signals {m u : Nat} {s : State} (hm : m < 64) (hsince : (s.mailbox m).stuckSince = some u)
    (hsignalled : (s.mailbox m).signalled = false) (hstuck : (s.mailbox m).stuck = true) : Completes (.mbStalemate m) s fun t =>
      (t.mailbox m).signalled = true ∧ u + 1000000 ≤ t.now := by
  let v := (s.stalemated m u).oct 0xA801 m
  refine ⟨((s.stalemated m u).ringStalemate (byteAt v 0)).ringStalemate (byteAt v 3), ?_, ?_⟩
  · change execMbStalemate m s = _
    have hserved : ¬(64 ≤ m ∨ (s.mailbox m).signalled = true ∨ (!(s.mailbox m).stuck) = true) := by
      simp only [hsignalled, hstuck, Bool.not_true, Bool.false_eq_true, or_false]
      omega
    simp only [execMbStalemate, hsince, if_neg hserved, List.foldl_cons, List.foldl_nil, State.ringStalemate, State.stalemated, v]
  · dsimp only
    rw [(State.ringStalemate_same ..).1, (State.ringStalemate_same ..).1, (State.ringStalemate_same _ _ m).2,
      (State.ringStalemate_same _ _ m).2, State.stalemated_mailbox]
    exact ⟨rfl, s.stalemated_now m u⟩

/-! ### Locks (R474) -/

theorem execLockAcquire_takes {m l : Nat} {s : State} (hl : l < 256) (hm : m < 256) (hmode : s.mode ≠ .dormant)
    (hfree : mget s.host.locks l = none) : Completes (.lockAcquire m l) s fun t =>
      mget t.host.locks l = some m ∧ t.host.reads = (m, 2 ^ 31 + 2 ^ 30 + m) :: s.host.reads := by
  refine ⟨({ s with host := { s.host with locks := mput s.host.locks l m } }).noteRead m (2 ^ 31 + 2 ^ 30 + m), ?_, mget_mput_same .., rfl⟩
  have hserved : ¬(256 ≤ l ∨ 256 ≤ m ∨ s.mode = .dormant) := by
    simp only [hmode, or_false]
    omega
  change execLockAcquire m l s = _
  simp only [execLockAcquire, if_neg hserved, hfree]

theorem execLockRelease_frees {m l : Nat} {s : State} (hl : l < 256) (hmode : s.mode ≠ .dormant) (hheld : mget s.host.locks l = some m) :
    Completes (.lockRelease m l) s fun t => t.host.locks = mdel s.host.locks l := by
  refine ⟨_, rfl, ?_⟩
  rw [if_neg (by simp only [hmode, or_false]; omega), if_pos hheld]

theorem execLockForce_frees {o : Origin} {l : Nat} {s : State} (hl : l < 256) (hok : s.checkWrite o 0xA911 l [1] = .ok) :
    Completes (.lockForce o l [1]) s fun t => t.host.locks = mdel s.host.locks l := by
  have heffect : lockForceEffect l [1] s = (.ok, ({ s with host := { s.host with locks := mdel s.host.locks l } }).bump 0xA912 1) := by
    have hone : beNat [(1 : Byte)] = 1 := rfl
    rw [lockForceEffect, hone, if_neg (by omega)]
  refine completes_of_write rfl hok (by rw [canonical_singleton, heffect]) ?_
  simp only [State.endWrite_same, State.bump_count, State.count_fields]

/-- Settles O24: each command by the lemma of its meaning. -/
theorem hostCommandsComplete : Obligations.HostCommandsComplete := by
  refine ⟨?doorbell, ?resume, ?inject, ?receive, ?staged, ?coalesce, ?enable, ?disable, ?set, ?status, ?mask, ?ring, ?send, ?read, ?abandon,
    ?stalemate, ?acquire, ?release, ?force⟩
  case doorbell => exact fun _ _ _ _ h1 h2 h3 h4 h5 h6 h7 h8 => execSubDoorbell_takes h1 h2 h3 h4 h5 h6 h7 h8
  case resume => exact fun _ _ _ _ h1 h2 h3 h4 h5 h6 h7 h8 => execScanResume_takes h1 h2 h3 h4 h5 h6 h7 h8
  case inject => exact fun _ _ _ _ _ _ h1 h2 h3 h4 h5 h6 h7 => execInject_enqueues h1 h2 h3 h4 h5 h6 h7
  case receive => exact fun _ _ _ _ h1 h2 h3 h4 h5 h6 h7 h8 h9 => execReceiveBuffer_takes h1 h2 h3 h4 h5 h6 h7 h8 h9
  case staged => exact fun _ _ _ _ _ h1 h2 h3 => execStagedRetry_writes h1 h2 h3
  case coalesce => exact fun _ _ _ h1 h2 => execCoalesceExpiry_signals h1 h2
  case enable => exact fun _ _ _ _ h1 h2 h3 h4 h5 h6 => execRingEnable_enables h1 h2 h3 h4 h5 h6
  case disable => exact fun _ _ _ _ h1 h2 h3 h4 h5 => execRingDisable_drains h1 h2 h3 h4 h5
  case set => exact fun _ _ _ _ h1 h2 h3 h4 h5 => execChannelSet_sets h1 h2 h3 h4 h5
  case status => exact fun _ _ _ h1 h2 => execDbStatus_clears h1 h2
  case mask => exact fun _ _ _ h1 h2 => execDbMask_masks h1 h2
  case ring => exact fun _ _ _ h1 h2 => execDbRing_sets h1 h2
  case send =>
    exact fun _ _ _ _ _ h1 h2 h3 h4 h5 h6 h7 h8 h9 =>
      ⟨_, execTxData_claims ⟨h1, h2, h3, h4, h5⟩ h6 h7 h8 h9, by dsimp only; rw [State.setMailbox_mailbox, Mailbox.setDir_dir]⟩
  case read => exact fun _ _ _ _ _ _ _ h1 h2 h3 h4 h5 h6 => execRxData_reads ⟨h1, h2, h3, h4, h5⟩ h6
  case abandon => exact fun _ _ _ _ _ h1 h2 h3 h4 h5 h6 h7 => execAbandon_abandons ⟨h1, h2, h3, h4, h5⟩ h6 h7
  case stalemate => exact fun _ _ _ h1 h2 h3 h4 => execMbStalemate_signals h1 h2 h3 h4
  case acquire => exact fun _ _ _ h1 h2 h3 h4 => execLockAcquire_takes h1 h2 h3 h4
  case release => exact fun _ _ _ h1 h2 h3 => execLockRelease_frees h1 h2 h3
  case force => exact fun _ _ _ h1 h2 => execLockForce_frees h1 h2

end Sys2Proof.Machine
end

section
/-! The protected pair beside its outgoing records: what a record sent, an identity, a change of MODE and a turn leave of it (R356 to
R361, R369, R380, R386). -/

namespace Sys2Proof.Machine

/-! ### Records going out (R356 to R361) -/

/-- The pair beside the records that go out: without its lanes, its cells, and the IDENTITY last sent. -/
def Pair.beside (p : Pair) : Pair := { p with lanes := [], bundleNext := 0, waiting := [], sentIdentity := [] }

/-- What a fold leaves that each of its steps leaves. -/
theorem foldl_leaves {α β : Type} {f : State → α → State} (F : State → β) (h : ∀ s a, F (f s a) = F s) (l : List α) (s : State) :
    F (l.foldl f s) = F s :=
  List.foldlRecOn (motive := fun u => F u = F s) l f rfl fun u hu a _ => (h u a).trans hu

theorem State.sendNextRecord_beside (s : State) (k : Nat) : (s.sendNextRecord k).pair.beside = s.pair.beside := by
  unfold State.sendNextRecord
  dsimp only
  split
  · rfl
  split <;> rfl

theorem State.pumpMate_beside (s : State) : s.pumpMate.pair.beside = s.pair.beside :=
  foldl_leaves (·.pair.beside) (fun _ _ => foldl_leaves (·.pair.beside) (fun u _ => u.sendNextRecord_beside _) _ _) _ _

/-- A record that enters the stream moves cells and lanes only (R358). -/
theorem State.sendRecord_beside (s : State) (r : List Byte) : (s.sendRecord r).1.pair.beside = s.pair.beside := by
  unfold State.sendRecord
  dsimp only
  rw [State.pumpMate_beside]
  refine foldl_leaves (fun u : State => u.pair.beside) ?_ _ _
  exact fun _ _ => rfl

theorem State.sendStatus_beside (s : State) (flags : Nat) : (s.sendStatus flags).pair.beside = s.pair.beside := s.sendRecord_beside _

theorem State.refreshIdentity_beside (s : State) : s.refreshIdentity.pair.beside = s.pair.beside := by
  unfold State.refreshIdentity
  dsimp only
  split
  · rfl
  · exact State.sendRecord_beside ..

/-- What the pair holds beside the records that go out, part by part. -/
theorem Pair.beside_parts {p q : Pair} (h : p.beside = q.beside) : p.phase = q.phase ∧ p.fenced = q.fenced ∧ p.mateLost = q.mateLost ∧
    p.mate = q.mate ∧ p.copied = q.copied ∧ p.stagedTicket = q.stagedTicket ∧ p.staged = q.staged ∧ p.positions = q.positions ∧
    p.digests = q.digests ∧ p.turned = q.turned :=
  ⟨(congrArg Pair.phase h :), (congrArg Pair.fenced h :), (congrArg Pair.mateLost h :), (congrArg Pair.mate h :), (congrArg Pair.copied h :),
    (congrArg Pair.stagedTicket h :), (congrArg Pair.staged h :), (congrArg Pair.positions h :), (congrArg Pair.digests h :),
    (congrArg Pair.turned h :)⟩

/-! ### The fence and the loss of the mate (R369, R380) -/

theorem State.fence_of_not_active {s : State} (h : s.role ≠ 1) : s.fence = s := if_pos h

/-- The active that fences itself keeps what it knows of its mate, and takes PAIR_INTENT STANDBY (R380). -/
theorem State.fence_active {s : State} (hs : rising s.objs = true) (h : s.role = 1) :
    s.fence.pair.fenced = true ∧ s.fence.pair.mate = s.pair.mate ∧ s.fence.reg 0x9000 2 = 1 := by
  let u : State := { s.breakPair false with pair := { (s.breakPair false).pair with fenced := true } }
  have hfence : s.fence = (u.setReg 0x9000 2 1).refreshIdentity := if_neg (not_not_intro h)
  obtain ⟨-, hfenced, -, hmate, -⟩ := Pair.beside_parts (u.setReg 0x9000 2 1).refreshIdentity_beside
  have hobjs : rising u.objs = true := hs
  rw [hfence]
  refine ⟨hfenced, hmate, ?_⟩
  simp only [State.refreshIdentity_same]
  exact u.setReg_reg 0x9000 2 1 hobjs

theorem State.fence_mate (s : State) : s.fence.pair.mate = s.pair.mate := by
  by_cases h : s.role = 1
  · let u : State := { s.breakPair false with pair := { (s.breakPair false).pair with fenced := true } }
    have hfence : s.fence = (u.setReg 0x9000 2 1).refreshIdentity := if_neg (not_not_intro h)
    obtain ⟨-, -, -, hmate, -⟩ := Pair.beside_parts (u.setReg 0x9000 2 1).refreshIdentity_beside
    rw [hfence]
    exact hmate
  · rw [State.fence_of_not_active h]

/-! ### A change of MODE (R72, R73, R75) -/

theorem State.abortRequest_pair (s : State) : s.abortRequest.pair = s.pair :=
  (State.abortRequest_keeps (.refl _) .start : On inS _ s _).pair_same rfl

theorem State.wakeAll_pair (s : State) : s.wakeAll.pair = s.pair :=
  (State.wakeAll_keeps (.refl _) .start : On inS _ s _).pair_same rfl

theorem State.wakeAll_mode (s : State) : s.wakeAll.mode = s.mode :=
  (State.wakeAll_keeps (.refl _) .start : On inS _ s _).mode_same rfl

/-- The new MODE read, the old one recorded, and everything awake but in PROPORTIONAL (R72, R79). -/
def State.modeRead (s : State) (m : Mode) : State :=
  let s2 := ((s.setMs fun x => { x with mode := m, target := none }).setReg 0x2000 3 s.mode.code).bump 0x2000 4
  if m = .proportional then s2 else s2.wakeAll

theorem State.modeRead_same (s : State) (m : Mode) : (s.modeRead m).power.ms.mode = m ∧ (s.modeRead m).pair = s.pair := by
  have hread : (((s.setMs fun x => { x with mode := m, target := none }).setReg 0x2000 3 s.mode.code).bump 0x2000 4).power.ms.mode = m ∧
      (((s.setMs fun x => { x with mode := m, target := none }).setReg 0x2000 3 s.mode.code).bump 0x2000 4).pair = s.pair := by
    simp only [State.bump_count, State.count_fields, State.setReg_fields]
    exact ⟨rfl, rfl⟩
  unfold State.modeRead
  dsimp only
  split
  · exact hread
  · have hmode := State.wakeAll_mode (((s.setMs fun x => { x with mode := m, target := none }).setReg 0x2000 3 s.mode.code).bump 0x2000 4)
    rw [State.wakeAll_pair]
    exact ⟨hmode.trans hread.1, hread.2⟩

theorem State.completeMode_eq (s : State) {m : Mode} (h : m ≠ .dormant) :
    s.completeMode m = ((s.modeRead m).onEnter s.mode m).refreshIdentity := if_neg h

theorem State.completeMode_mode (s : State) {m : Mode} (h : m ≠ .dormant) : (s.completeMode m).mode = m := by
  rw [s.completeMode_eq h]
  simp only [State.refreshIdentity_same, State.onEnter_same]
  exact (s.modeRead_same m).1

/-- The entry into a forwarding mode, SHADOW, CATCHUP or DRAIN leaves the pair alone. -/
theorem State.onEnter_pair (s : State) (prev : Mode) {m : Mode} (hb : m ≠ .bringup) (hd : m ≠ .diagnostic) :
    (s.onEnter prev m).pair = s.pair := by
  have hseeded (seed : Nat) : On inS 0x4000000000000000000000000000000000000080 s
      ((List.range 16).foldl (fun s n => s.setTmSlice n { s.tmSlice n with lfsr := seed }) s.restartWindows) :=
    .foldl (State.restartWindows_keeps (.refl _) .start) fun _ _ h => State.setTmSlice_keeps (.of_land rfl) h
  cases m with
  | bringup => exact absurd rfl hb
  | diagnostic => exact absurd rfl hd
  | proportional => simp only [State.onEnter, (hseeded _).pair_same rfl]
  | spring => simp only [State.onEnter, (hseeded _).pair_same rfl]
  | dormant => rfl
  | catchup => rfl
  | shadow => rfl
  | drain => rfl

theorem State.completeMode_beside (s : State) {m : Mode} (h : m ≠ .dormant) (hb : m ≠ .bringup) (hd : m ≠ .diagnostic) :
    (s.completeMode m).pair.beside = s.pair.beside := by
  rw [s.completeMode_eq h, State.refreshIdentity_beside, State.onEnter_pair _ _ hb hd, (s.modeRead_same m).2]

theorem State.autoMode_mode (s : State) {m : Mode} (h : m ≠ .dormant) : (s.autoMode m).mode = m := State.completeMode_mode _ h

theorem State.autoMode_beside (s : State) {m : Mode} (h : m ≠ .dormant) (hb : m ≠ .bringup) (hd : m ≠ .diagnostic) :
    (s.autoMode m).pair.beside = s.pair.beside := by
  rw [State.autoMode, State.completeMode_beside _ h hb hd, State.abortRequest_pair]

/-- In BRINGUP no pair stands (R73). -/
theorem State.autoMode_bringup_phase (s : State) : (s.autoMode .bringup).pair.phase = .apart := by
  rw [State.autoMode, State.completeMode_eq _ (by decide)]
  exact (Pair.beside_parts (State.refreshIdentity_beside _)).1

/-! ### The turn (R386) -/

/-- The contexts that a turn fixes. -/
def State.turnCtxs (s : State) : List Nat := (s.voqCtxs ++ s.pair.ctxs.map (·.1)).eraseDups

/-- What was held is fixed, applied and judged (R386 steps 1 to 5). -/
def State.turnJudged (s : State) : State :=
  let s2 := s.turnCtxs.foldl State.turnCtx s.fixSeqs
  (State.applyEntries (s2.pair.entries.length + 1) s2).judgePending

/-- The turn latched: the pair ends on this unit, which is the active. -/
def State.turnPaired (s : State) (cause : Nat) : State :=
  let s3 := s.turnJudged
  let sources := (s3.pair.entries.filter fun e => e.own.isNone).map (·.source)
  let p := s3.pair
  { s3 with pair := { p with
    phase := .apart, mateLost := decide (cause ≠ 3), turned := true, blocks := [], ordinals := p.ordinals, staged := []
    frames := p.frames.filter (fun f => sources.contains f.source), digests := [], marks := [], readySent := false
    copyAsked := false, copied := [], switching := false } }

/-- The turned unit with PAIR_INTENT ACTIVE. -/
def State.turnLatched (s : State) (cause : Nat) : State := (s.turnPaired cause).setReg 0x9000 2 0

/-- The forwarding mode that a turn enters. -/
def State.turnMode (s : State) : Mode := if s.reg 0x2000 6 = 2 then .proportional else .spring

/-- The turn counted, timed and raised, in the new mode with every channel idle and every demand asked for. -/
def State.turnReported (s : State) (ks : List Nat) (m : Mode) (cause : Nat) : State :=
  let s6 := (s.autoMode m).channelsIdle
  let s7 := ks.foldl (fun s k => if 0 < s.demand k then s.sendRequest k else s) s6
  let (d, s8) := s7.draw
  ((((s8.bump 0x9001 1).setReg 0x9001 2 s8.ptp).setReg 0x9001 3 cause).raiseEvent 6 cause (d % 6145)).refreshIdentity

/-- The turned unit, which after a planned switch-over starts its mate. -/
def State.turnEnded (s : State) (cause : Nat) : State :=
  if cause = 3 then ({ s with pair := { s.pair with turned := false } }).sendStart else s

theorem State.turn_of_inStep {s : State} (hmode : s.mode = .shadow) (hstep : s.pair.phase = .inStep) (cause : Nat) : ∃ m,
    (m = .proportional ∨ m = .spring) ∧ s.turn cause = ((s.turnLatched cause).turnReported s.turnCtxs m cause).turnEnded cause := by
  refine ⟨(s.turnPaired cause).turnMode, ?_, ?_⟩
  · unfold State.turnMode
    split
    · exact .inl rfl
    · exact .inr rfl
  · have hnot : ¬(s.mode ≠ .shadow ∨ s.pair.phase ≠ .inStep) := by
      rw [hmode, hstep]
      decide
    unfold State.turn
    rw [if_neg hnot]
    unfold State.turnEnded State.turnReported State.turnLatched State.turnPaired State.turnJudged State.turnCtxs State.turnMode
    with_reducible rfl

section
variable {m : Mode} (hm : m = .proportional ∨ m = .spring) (s : State) (ks : List Nat) (cause : Nat)
include hm

theorem State.turnReported_mode : (s.turnReported ks m cause).mode = m := by
  have hasked (u : State) : On inS 0x20100 u (ks.foldl (fun s k => if 0 < s.demand k then s.sendRequest k else s) u) :=
    .foldl .start fun _ _ h => .ite (State.sendRequest_keeps (.refl _) h) h
  simp only [State.turnReported, State.refreshIdentity_same, State.raiseEvent_same, State.setReg_fields, State.bump_count, State.count_fields]
  have hmodes := (hasked (s.autoMode m).channelsIdle).mode_same rfl
  have hauto : (s.autoMode m).mode = m := s.autoMode_mode (by rcases hm with rfl | rfl <;> decide)
  exact hmodes.trans hauto

theorem State.turnReported_beside : (s.turnReported ks m cause).pair.beside = s.pair.beside := by
  have hasked (u : State) : On inS 0x20100 u (ks.foldl (fun s k => if 0 < s.demand k then s.sendRequest k else s) u) :=
    .foldl .start fun _ _ h => .ite (State.sendRequest_keeps (.refl _) h) h
  have hpair := (hasked (s.autoMode m).channelsIdle).pair_same rfl
  have hauto : (s.autoMode m).pair.beside = s.pair.beside :=
    s.autoMode_beside (by rcases hm with rfl | rfl <;> decide) (by rcases hm with rfl | rfl <;> decide) (by rcases hm with rfl | rfl <;> decide)
  simp only [State.turnReported, State.refreshIdentity_beside, State.raiseEvent_same, State.setReg_fields, State.bump_count, State.count_fields]
  exact (congrArg Pair.beside hpair).trans hauto

end

theorem State.sendStart_phase (s : State) : s.sendStart.pair.phase = .inStep := (Pair.beside_parts (State.refreshIdentity_beside _)).1

theorem State.turnEnded_mode (s : State) (cause : Nat) : (s.turnEnded cause).mode = s.mode := by
  unfold State.turnEnded
  split
  · exact (State.sendStart_keeps (.refl _) .start : On inS _ _ (State.sendStart _)).mode_same rfl
  · rfl

/-- A turned unit forwards (R386). -/
theorem State.turn_mode {s : State} (hmode : s.mode = .shadow) (hstep : s.pair.phase = .inStep) (cause : Nat) :
    (s.turn cause).mode ∈ [Mode.proportional, .spring] := by
  obtain ⟨m, hm, hturn⟩ := State.turn_of_inStep hmode hstep cause
  rw [hturn, State.turnEnded_mode, State.turnReported_mode hm]
  rcases hm with rfl | rfl <;> decide

/-- A turn that no switch-over planned leaves the mate lost (R386). -/
theorem State.turn_lost {s : State} (hmode : s.mode = .shadow) (hstep : s.pair.phase = .inStep) {cause : Nat} (hcause : cause ≠ 3) :
    (s.turn cause).pair.phase = .apart ∧ (s.turn cause).pair.mateLost = true := by
  obtain ⟨m, hm, hturn⟩ := State.turn_of_inStep hmode hstep cause
  obtain ⟨hphase, -, hlost, -⟩ := Pair.beside_parts (State.turnReported_beside hm (s.turnLatched cause) s.turnCtxs cause)
  rw [hturn, State.turnEnded, if_neg hcause, hphase, hlost]
  exact ⟨rfl, decide_eq_true hcause⟩

/-- A planned switch-over begins the pair anew (R388). -/
theorem State.turn_inStep {s : State} (hmode : s.mode = .shadow) (hstep : s.pair.phase = .inStep) : (s.turn 3).pair.phase = .inStep := by
  obtain ⟨m, -, hturn⟩ := State.turn_of_inStep hmode hstep 3
  rw [hturn, State.turnEnded, if_pos rfl]
  exact State.sendStart_phase _

/-! ### A standby alone (R385) -/

theorem State.standbyAlone_apart (s : State) : s.standbyAlone.pair.phase = .apart ∧ (s.mode = .catchup → s.standbyAlone.mode = .bringup) := by
  unfold State.standbyAlone
  dsimp only
  have hmode : (s.breakPair true).mode = s.mode := by simp only [State.breakPair_same]
  by_cases hcatchup : s.mode = .catchup
  · rw [if_pos (hmode.trans hcatchup)]
    exact ⟨State.autoMode_bringup_phase _, fun _ => State.autoMode_mode _ (by decide)⟩
  · rw [if_neg fun h => hcatchup (hmode.symm.trans h)]
    exact ⟨rfl, fun h => absurd h hcatchup⟩

end Sys2Proof.Machine
end

section
/-! The commands of the pair's state: STATUS, heartbeats and their silence, the fault wires, the planned switch-over and the self-test
round (R359, R360, R379 to R389). -/

namespace Sys2Proof.Machine

/-! ### STATUS (R359) -/

/-- What a STATUS reports, kept on the active. -/
def State.reported (s : State) (b : List Byte) : State :=
  { s with pair := { s.pair with mateTicket := beAt b 0 4, mateDrained := beAt b 4 2 } }

theorem State.takeStatus_acts {s : State} {b : List Byte} (hlen : b.length = 8) (hrole : s.role = 1) :
    s.takeStatus b = ([3, 0, 1, 2, 4] : List Nat).foldl (fun u k => State.statusFlag u (beAt b 6 2) k) (s.reported b) := by
  unfold State.takeStatus
  rw [if_neg (not_not_intro hlen), if_neg (not_not_intro hrole)]
  rfl

theorem execStatus_acts {rec : List Byte} {s : State} (hlen : (rec.drop 3).length = 8) (hrole : s.role = 1) :
    Completes (.status rec) s fun t =>
      t = (([3, 0, 1, 2, 4] : List Nat).foldl (fun u k => State.statusFlag u (beAt (rec.drop 3) 6 2) k) (s.reported (rec.drop 3))).settle := by
  refine ⟨_, rfl, ?_⟩
  rw [State.takeStatus_acts hlen hrole]

/-- A state in which nothing waits stays as it is. -/
theorem State.Quiet.settle_reported {s : State} (hq : s.Quiet) (b : List Byte) : (s.reported b).settle = s.reported b := by
  have hrequest : (s.reported b).nextRequest = none := hq.request
  obtain ⟨n, hn⟩ := State.settle_of_none (s := s.reported b) hq.waiting
  rw [hn, State.settleLoop_idle (s := s.reported b) _ hq.jobs hrequest]

theorem State.statusFlag_zero (s : State) (k : Nat) : s.statusFlag 0 k = s := by
  have hclear : bitAt 0 k = false := by simp [bitAt]
  simp only [State.statusFlag, hclear, Bool.not_false, if_true]

theorem execStatus_reports {rec : List Byte} {s : State} (hlen : (rec.drop 3).length = 8) (hrole : s.role = 1)
    (hflags : beAt (rec.drop 3) 6 2 = 0) (hq : s.Quiet) : Completes (.status rec) s fun t =>
      t.pair = { s.pair with mateTicket := beAt (rec.drop 3) 0 4, mateDrained := beAt (rec.drop 3) 4 2 } := by
  obtain ⟨t, hexec, ht⟩ := execStatus_acts hlen hrole
  have hkept : t = s.reported (rec.drop 3) := by
    rw [ht, hflags]
    simp only [List.foldl_cons, List.foldl_nil, State.statusFlag_zero]
    exact hq.settle_reported _
  refine ⟨t, hexec, ?_⟩
  rw [hkept]
  rfl

/-! ### Heartbeats and their silence (R360, R380, R381, R385) -/

theorem State.hearActive_mate (s : State) : s.hearActive.pair.mate = s.pair.mate := by
  unfold State.hearActive
  split
  · exact s.fence_mate
  · rfl

theorem State.noteBeat_mate (s : State) (b : List Byte) : (s.noteBeat b).pair.mate =
    { s.pair.mate with role := byteAt b 0, pairState := byteAt b 1, flags := byteAt b 2, lastBeat := s.now, heard := true } := rfl

theorem State.recvBeat_mate (s : State) (lane : Nat) (cell : List Byte) :
    (s.recvBeat lane cell).pair.mate = ((s.takeMateAck lane cell).noteBeat (matePayload cell)).pair.mate := by
  unfold State.recvBeat
  dsimp only
  split
  · simp only [State.tryRejoin_same, State.hearActive_mate]
  · rfl

theorem State.takeMateAck_now (s : State) (lane : Nat) (cell : List Byte) : (s.takeMateAck lane cell).now = s.now :=
  (State.takeMateAck_keeps (.refl _) .start : On inS _ s _).now_same rfl

theorem execHeartbeat_notes {lane : Nat} {cell : List Byte} {s : State} (hlane : lane < 8) (hup : s.laneUp lane = true)
    (hgood : mateGood cell = true) (hkind : mateKind cell = 2) : Completes (.heartbeat lane cell) s fun t =>
      t.pair.mate.heard = true ∧ t.pair.mate.lastBeat = s.now ∧ t.pair.mate.role = byteAt (matePayload cell) 0 ∧
        t.pair.mate.pairState = byteAt (matePayload cell) 1 ∧ t.pair.mate.flags = byteAt (matePayload cell) 2 := by
  refine ⟨s.recvBeat lane cell, ?_, ?_⟩
  · change execHeartbeat lane cell s = _
    have hserved : ¬(8 ≤ lane ∨ (!s.laneUp lane) = true) := by
      simp only [hup, Bool.not_true, Bool.false_eq_true, or_false]
      omega
    simp only [execHeartbeat, if_neg hserved, hgood, hkind, decide_true, Bool.and_self, if_true]
  · dsimp only
    rw [State.recvBeat_mate, State.noteBeat_mate, State.takeMateAck_now]
    exact ⟨rfl, rfl, rfl, rfl, rfl⟩

theorem foldl_sendMate_out (kind : Nat) (body : List Byte) (l : List Nat) (s : State) :
    (l.foldl (fun (s : State) k => s.sendMate k kind 0 0 false body) s).out.length = s.out.length + l.length := by
  induction l generalizing s with
  | nil => rfl
  | cons k l ih =>
    have hone : (s.sendMate k kind 0 0 false body).out.length = s.out.length + 1 := rfl
    rw [List.foldl_cons, ih, hone, List.length_cons]
    omega

/-- The payload of a heartbeat (R360). -/
def State.beatBody (s : State) : List Byte :=
  let flags := (if s.faultOutHigh then 1 else 0) + (if s.pair.fenced then 2 else 0)
  natBe s.role 1 ++ natBe s.pairState 1 ++ natBe flags 1 ++ [0] ++ natBe s.pair.hbSeq 4 ++ natBe (s.now / 8) 4

/-- A heartbeat sent on every lane that is UP, and counted. -/
def State.beatsSent (s : State) : State :=
  let body := s.beatBody
  let s1 := s.lanesUp.foldl (fun (s : State) k => s.sendMate k 2 0 0 false body) s
  { s1 with pair := { s1.pair with hbSeq := (s1.pair.hbSeq + 1) % 2 ^ 32 } }

theorem State.beatsSent_hbSeq (s : State) : s.beatsSent.pair.hbSeq = (s.pair.hbSeq + 1) % 2 ^ 32 := by
  have hsame (body : List Byte) : (s.lanesUp.foldl (fun (s : State) k => s.sendMate k 2 0 0 false body) s).pair.hbSeq = s.pair.hbSeq := by
    refine foldl_leaves (fun u : State => u.pair.hbSeq) ?_ _ _
    exact fun _ _ => rfl
  unfold State.beatsSent
  dsimp only
  rw [hsame]

theorem execHeartbeatSend_sends {s : State} (henabled : s.pairEnabled = true) (hmode : s.mode ≠ .dormant) :
    Completes .heartbeatSend s fun t => ∃ u : State, u.pair.hbSeq = (s.pair.hbSeq + 1) % 2 ^ 32 ∧
      u.out.length = s.out.length + s.lanesUp.length ∧ t = u.finishSwitch.settle := by
  refine ⟨s.beatsSent.finishSwitch.settle, ?_, s.beatsSent, s.beatsSent_hbSeq, foldl_sendMate_out .., rfl⟩
  change execHeartbeatSend s = _
  unfold execHeartbeatSend
  rw [if_neg (by simp only [henabled, hmode]; decide)]
  rfl

/-- The mate no longer heard, some time after its last heartbeat. -/
def State.silent (s : State) (ns : Nat) : State :=
  { s.reach (s.pair.mate.lastBeat + ns) with pair := { s.pair with mate := { s.pair.mate with heard := false } } }

theorem State.silent_now (s : State) (ns : Nat) : s.pair.mate.lastBeat + ns ≤ (s.silent ns).now := Nat.le_max_right ..

section
variable {s : State} (hheard : s.pair.mate.heard = true) (henabled : s.pairEnabled = true)
include hheard henabled

theorem execHeartbeatSilence_active (hrole : s.role = 1) : exec .heartbeatSilence s =
    .next (if s.power.pins.pairFaultInN then (s.silent 2500).fence else (s.silent 2500).loseMate) := by
  change execHeartbeatSilence s = _
  simp only [execHeartbeatSilence, hheard, henabled, hrole, Bool.not_true, Bool.false_eq_true, or_self, if_true, if_false]
  rfl

theorem execHeartbeatSilence_standby (hrole : s.role = 2) : exec .heartbeatSilence s =
    .next (if s.mode = .shadow ∧ s.pair.phase = .inStep then (s.silent 3000).turn 2 else (s.silent 3000).standbyAlone) := by
  change execHeartbeatSilence s = _
  simp only [execHeartbeatSilence, hheard, henabled, hrole, Bool.not_true, Bool.false_eq_true, or_self, if_true, if_false]
  rfl

theorem execHeartbeatSilence_fences (hs : s.StoresRise) (hrole : s.role = 1) (hwire : s.power.pins.pairFaultInN = true) :
    Completes .heartbeatSilence s fun t => t.pair.fenced = true ∧ t.pair.mate.heard = false ∧ t.reg 0x9000 2 = 1 ∧
      t.mode = s.mode ∧ s.pair.mate.lastBeat + 2500 ≤ t.now := by
  have hsilent : (s.silent 2500).role = 1 := hrole
  obtain ⟨hfenced, hmate, hintent⟩ := State.fence_active (s := s.silent 2500) hs.objs hsilent
  refine ⟨(s.silent 2500).fence, ?_, hfenced, by rw [hmate]; rfl, hintent, ?_⟩
  · rw [execHeartbeatSilence_active hheard henabled hrole, if_pos hwire]
  · simp only [State.fence_same]
    exact ⟨rfl, s.silent_now 2500⟩

theorem execHeartbeatSilence_loses (hrole : s.role = 1) (hwire : s.power.pins.pairFaultInN = false) :
    Completes .heartbeatSilence s fun t => t.pair.fenced = s.pair.fenced ∧ t.pair.phase = .apart ∧ t.mode = s.mode ∧
      t.pair.mateLost = (s.pair.mateLost || decide (s.pair.phase ≠ .apart)) ∧ s.pair.mate.lastBeat + 2500 ≤ t.now := by
  refine ⟨(s.silent 2500).loseMate, ?_, rfl, rfl, rfl, ?_, s.silent_now 2500⟩
  · rw [execHeartbeatSilence_active hheard henabled hrole, if_neg (by simp [hwire])]
  · rw [← Bool.true_and (decide (s.pair.phase ≠ .apart))]
    rfl

theorem execHeartbeatSilence_turns (hmode : s.mode = .shadow) (hstep : s.pair.phase = .inStep) :
    Completes .heartbeatSilence s fun t => t.mode ∈ [Mode.proportional, .spring] ∧ t.pair.phase = .apart ∧ t.pair.mateLost = true := by
  have hrole : s.role = 2 := by simp only [State.role, henabled, hmode, Bool.not_true, Bool.false_eq_true, if_false]
  refine ⟨(s.silent 3000).turn 2, ?_, State.turn_mode (s := s.silent 3000) hmode hstep 2,
    State.turn_lost (s := s.silent 3000) hmode hstep (by decide)⟩
  rw [execHeartbeatSilence_standby hheard henabled hrole, if_pos ⟨hmode, hstep⟩]

theorem execHeartbeatSilence_alone (hrole : s.role = 2) (hout : ¬(s.mode = .shadow ∧ s.pair.phase = .inStep)) :
    Completes .heartbeatSilence s fun t => t.pair.phase = .apart ∧ (s.mode = .catchup → t.mode = .bringup) := by
  refine ⟨(s.silent 3000).standbyAlone, ?_, (s.silent 3000).standbyAlone_apart⟩
  rw [execHeartbeatSilence_standby hheard henabled hrole, if_neg hout]

end

/-! ### The fault wires (R369, R379, R385) -/

theorem execPairFaultInFall_turns {s : State} (hmode : s.mode = .shadow) (hstep : s.pair.phase = .inStep) :
    Completes .pairFaultInFall s fun t => t.mode ∈ [Mode.proportional, .spring] ∧ t.pair.phase = .apart ∧ t.pair.mateLost = true :=
  ⟨(s.faultIn false).turn 1, congrArg Host.Outcome.next (if_pos ⟨hmode, hstep⟩), State.turn_mode (s := s.faultIn false) hmode hstep 1,
    State.turn_lost (s := s.faultIn false) hmode hstep (by decide)⟩

theorem execPairFaultInFall_alone {s : State} (hrole : s.role = 2) (hout : ¬(s.mode = .shadow ∧ s.pair.phase = .inStep)) :
    Completes .pairFaultInFall s fun t => t.pair.phase = .apart ∧ (s.mode = .catchup → t.mode = .bringup) :=
  ⟨(s.faultIn false).standbyAlone, congrArg Host.Outcome.next ((if_neg hout).trans (if_pos hrole)), (s.faultIn false).standbyAlone_apart⟩

theorem execPairFaultInFall_breaks {s : State} (hrole : s.role = 1) : Completes .pairFaultInFall s fun t =>
    t.power.pins.pairFaultInN = false ∧ t.mode = s.mode ∧ t.pair.fenced = s.pair.fenced ∧
      t.pair.phase = (if s.pair.phase = .inStep then .apart else s.pair.phase) := by
  have hout : ¬((s.faultIn false).mode = .shadow ∧ (s.faultIn false).pair.phase = .inStep) := by
    rintro ⟨hmode, -⟩
    have hmode' : s.mode = .shadow := hmode
    simp only [State.role, hmode'] at hrole
    split at hrole <;> omega
  have hrole1 : (s.faultIn false).role = 1 := hrole
  by_cases hstep : s.pair.phase = .inStep
  · refine ⟨(s.faultIn false).breakPair false, ?_, rfl, rfl, rfl, (if_pos hstep).symm⟩
    change execPairFaultInFall s = _
    unfold execPairFaultInFall
    dsimp only
    rw [if_neg hout, hrole1, if_neg (by decide), if_pos ⟨rfl, hstep⟩]
  · refine ⟨s.faultIn false, ?_, rfl, rfl, rfl, (if_neg hstep).symm⟩
    change execPairFaultInFall s = _
    unfold execPairFaultInFall
    dsimp only
    rw [if_neg hout, hrole1, if_neg (by decide), if_neg fun h => hstep h.2]

/-! ### FAULT_REQUEST, SWITCHOVER and the self-test round (R380, R384, R388) -/

theorem execFaultRequest_fences {o : Origin} {v : List Byte} {s : State} (hs : s.StoresRise) (hok : s.checkWrite o 0x9000 8 v = .ok)
    (hone : beNat (canonical o.be (typeOf 0x9000 8) v) = 1) (hrole : s.role = 1) : Completes (.faultRequest o v) s fun t =>
      t.pair.fenced = true ∧ t.reg 0x9000 2 = 1 ∧ t.mode = s.mode := by
  obtain ⟨hfenced, -, hintent⟩ := State.fence_active hs.objs hrole
  have heffect : faultRequestEffect (canonical o.be (typeOf 0x9000 8) v) s = (.ok, s.fence) := by
    rw [faultRequestEffect, if_neg (not_not_intro hrole), if_pos hone]
  refine completes_of_write rfl hok heffect ?_
  simp only [State.endWrite_same, State.fence_same]
  exact ⟨hfenced, hintent, trivial⟩

theorem execSwitchover_passes {o : Origin} {v : List Byte} {s : State} (hok : s.checkWrite o 0x9000 7 v = .ok)
    (hone : beNat (canonical o.be (typeOf 0x9000 7) v) = 1) (hstep : s.pair.phase = .inStep) (hrole : s.role = 2) :
    Completes (.switchover o v) s fun t => t = (s.sendStatus 16).endWrite o 0x9000 7 (canonical o.be (typeOf 0x9000 7) v) .ok := by
  have heffect : switchoverEffect (canonical o.be (typeOf 0x9000 7) v) s = (.ok, s.sendStatus 16) := by
    rw [switchoverEffect, if_neg (not_not_intro hstep), if_neg (not_not_intro hone), if_pos hrole]
  exact completes_of_write rfl hok heffect rfl

theorem execSwitchover_begins {o : Origin} {v : List Byte} {s : State} (hok : s.checkWrite o 0x9000 7 v = .ok)
    (hone : beNat (canonical o.be (typeOf 0x9000 7) v) = 1) (hstep : s.pair.phase = .inStep) (hrole : s.role ≠ 2) :
    Completes (.switchover o v) s fun t =>
      t = ({ s with pair := { s.pair with switching := true } }).finishSwitch.endWrite o 0x9000 7 (canonical o.be (typeOf 0x9000 7) v) .ok := by
  have heffect : switchoverEffect (canonical o.be (typeOf 0x9000 7) v) s =
      (.ok, ({ s with pair := { s.pair with switching := true } }).finishSwitch) := by
    rw [switchoverEffect, if_neg (not_not_intro hstep), if_neg (not_not_intro hone), if_neg hrole]
  exact completes_of_write rfl hok heffect rfl

theorem execSelftestInterval_begins {s : State} (hmode : s.mode = .shadow) : Completes .selftestInterval s fun t =>
    t.test.selfTesting = true ∧ t.pair.lastSelfTest = t.now ∧ s.pair.lastSelfTest + s.reg 0x9000 0x0F * 1000000000 ≤ t.now := by
  refine ⟨_, rfl, ?_⟩
  rw [if_neg (not_not_intro hmode)]
  exact ⟨rfl, rfl, Nat.le_max_right ..⟩

/-- Settles O27: each command by the lemma of its meaning. It rests on choices of the model: a turn happens inside one command (log entry
85), and jobs that can go on do so at the end of the command that lets them (log entry 50); that a switch-over goes on at the next
heartbeat (log entry 93) is deduced. -/
theorem pairStateCommandsComplete : Obligations.PairStateCommandsComplete := by
  refine ⟨?status, ?quiet, ?beat, ?send, ?fence, ?lose, ?turn, ?alone, ?fallTurn, ?fallAlone, ?fallBreak, ?rise, ?request, ?pass, ?switch,
    ?selftest⟩
  case status => exact fun _ _ h1 h2 => execStatus_acts h1 h2
  case quiet => exact fun _ _ h1 h2 h3 h4 => execStatus_reports h1 h2 h3 h4
  case beat => exact fun _ _ _ h1 h2 h3 h4 => execHeartbeat_notes h1 h2 h3 h4
  case send => exact fun _ h1 h2 => execHeartbeatSend_sends h1 h2
  case fence => exact fun _ h1 h2 h3 h4 h5 => execHeartbeatSilence_fences h2 h3 h1 h4 h5
  case lose => exact fun _ h1 h2 h3 h4 => execHeartbeatSilence_loses h1 h2 h3 h4
  case turn => exact fun _ h1 h2 h3 h4 => execHeartbeatSilence_turns h1 h2 h3 h4
  case alone => exact fun _ h1 h2 h3 h4 => execHeartbeatSilence_alone h1 h2 h3 h4
  case fallTurn => exact fun _ h1 h2 => execPairFaultInFall_turns h1 h2
  case fallAlone => exact fun _ h1 h2 => execPairFaultInFall_alone h1 h2
  case fallBreak => exact fun _ h1 => execPairFaultInFall_breaks h1
  case rise => exact fun _ => ⟨_, rfl, rfl, rfl⟩
  case request => exact fun _ _ _ h1 h2 h3 h4 => execFaultRequest_fences h1 h2 h3 h4
  case pass => exact fun _ _ _ h1 h2 h3 h4 => execSwitchover_passes h1 h2 h3 h4
  case switch => exact fun _ _ _ h1 h2 h3 h4 => execSwitchover_begins h1 h2 h3 h4
  case selftest => exact fun _ h1 => execSelftestInterval_begins h1

end Sys2Proof.Machine
end

section
/-! The records of the mate: identity, verdicts, staged changes, marks, queue ends, digests, START, HANDOFF and COPY (R359 to R388). -/

namespace Sys2Proof.Machine

/-! ### IDENTITY and verdicts (R361, R365, R366, R376) -/

theorem execIdentity_identifies {rec : List Byte} {s : State} (hlen : (rec.drop 3).length = 72) (hform : byteAt (rec.drop 3) 0 = 1) :
    Completes (.identity rec) s fun t =>
      t.pair.mate = { s.pair.mate with identity := some (rec.drop 3), role := identRole (rec.drop 3) } ∧ t.pair.mateLost = false := by
  refine ⟨s.takeIdentity (rec.drop 3), rfl, ?_⟩
  have hserved : ¬((rec.drop 3).length ≠ 72 ∨ byteAt (rec.drop 3) 0 ≠ 1) := by simp [hlen, hform]
  simp only [State.takeIdentity, if_neg hserved, State.tryRejoin_same, State.setReg_fields, and_self]

/-- The entries of a verdict block from a source, waiting for their frames (R365). -/
def State.blockReceived (s : State) (rec : List Byte) : State :=
  let src := byteAt rec 1
  let es := blockEntries rec
  let p0 := mgetD 0 s.pair.positions src
  let new := es.mapIdx fun k e => ({ source := src, position := (p0 + k) % 2 ^ 32, tag := e.1, admits := e.2.1, colour := e.2.2, since := s.now, own := none } : MateEntry)
  { s with pair := { s.pair with
    entries := s.pair.entries ++ new, positions := mput s.pair.positions src ((p0 + es.length) % 2 ^ 32) } }

/-- Entries that find no frame wait (R365). -/
theorem State.matchSource_of_no_frames {s : State} (h : s.pair.frames = []) (fuel k : Nat) : State.matchSource fuel s k = s := by
  have hnone (es : List MateEntry) : matchStep es [] = none := by cases es <;> rfl
  cases fuel with
  | zero => rfl
  | succ fuel => simp only [State.matchSource, h, List.filter_nil, hnone]

/-- An entry not matched yet holds back those behind it (R366). -/
theorem State.applyEntries_of_unmatched {s : State} (h : ∀ e ∈ s.pair.entries, e.own = none) (fuel : Nat) :
    State.applyEntries fuel s = s := by
  cases fuel with
  | zero => rfl
  | succ fuel =>
    cases hentries : s.pair.entries with
    | nil => simp only [State.applyEntries, hentries]
    | cons e rest =>
      have hown : e.own = none := h e (by rw [hentries]; exact List.mem_cons_self)
      simp only [State.applyEntries, hentries, hown]

theorem State.blockReceived_unmatched {s : State} (hentries : s.pair.entries = []) (rec : List Byte) :
    ∀ e ∈ (s.blockReceived rec).pair.entries, e.own = none := by
  intro e he
  simp only [State.blockReceived, hentries, List.nil_append, List.mem_mapIdx] at he
  obtain ⟨k, hk, rfl⟩ := he
  rfl

theorem State.blockReceived_entries {s : State} (hentries : s.pair.entries = []) (rec : List Byte) :
    (s.blockReceived rec).pair.entries.map (fun e => (e.source, e.tag, e.admits, e.colour)) =
      (blockEntries rec).map (fun e => (byteAt rec 1, e.1, e.2.1, e.2.2)) := by
  simp only [State.blockReceived, hentries, List.nil_append]
  refine List.ext_getElem (by simp) fun k _ _ => ?_
  simp

theorem execVerdictBlock_joins {rec : List Byte} {s : State} (hsource : byteAt rec 1 < 0x90)
    (hlen : rec.length = 2 + (19 * (blockEntries rec).length + 7) / 8)
    (hform : (blockEntries rec).any (fun e => e.2.1 && decide (e.2.2 = 3)) = false) (hmode : s.mode = .shadow)
    (hentries : s.pair.entries = []) (hframes : s.pair.frames = []) : Completes (.verdictBlock rec) s fun t =>
      t.pair.entries.map (fun e => (e.source, e.tag, e.admits, e.colour)) =
        (blockEntries rec).map (fun e => (byteAt rec 1, e.1, e.2.1, e.2.2)) ∧
      mget t.pair.positions (byteAt rec 1) = some ((mgetD 0 s.pair.positions (byteAt rec 1) + (blockEntries rec).length) % 2 ^ 32) := by
  have hreceived : (s.blockReceived rec).pair.frames = [] := hframes
  refine ⟨s.blockReceived rec, ?_, State.blockReceived_entries hentries rec, mget_mput_same ..⟩
  have hserved : ¬(0x90 ≤ byteAt rec 1 ∨ rec.length ≠ 2 + (19 * (blockEntries rec).length + 7) / 8 ∨
      ((blockEntries rec).any fun e => e.2.1 && decide (e.2.2 = 3)) = true) := by
    rw [hform]
    simp only [Bool.false_eq_true, or_false, not_not_intro hlen]
    omega
  have hstream : ¬(s.mode ≠ .shadow ∧ (!(decide (s.mode = .catchup) && decide (s.pair.phase = .trial))) = true) := by simp [hmode]
  change Host.Outcome.next (s.takeBlock rec) = _
  unfold State.takeBlock
  rw [if_neg hserved, if_neg hstream]
  change Host.Outcome.next (State.applyEntries _ (State.matchSource _ (s.blockReceived rec) _)) = _
  rw [State.matchSource_of_no_frames hreceived, State.applyEntries_of_unmatched (State.blockReceived_unmatched hentries rec)]

theorem execDepartureMark_marks {rec : List Byte} {s : State} (hlen : (rec.drop 3).length % 8 = 0) (hstandby : s.standby = true) :
    Completes (.departureMark rec) s fun t =>
      t = (bodyEntries (rec.drop 3).length (rec.drop 3)).foldl (fun s e => s.takeMark (entryCtx e) (fld e 48 45) (fld e 23 0)) s := by
  refine ⟨_, rfl, ?_⟩
  simp only [State.takeMarks, hlen, hstandby, ne_eq, not_true_eq_false, Bool.not_true, Bool.false_eq_true, if_false]

theorem execQueueEnd_ends {rec : List Byte} {s : State} (hlen : (rec.drop 3).length % 8 = 0) (hstandby : s.standby = true) :
    Completes (.queueEnd rec) s fun t =>
      t = (bodyEntries (rec.drop 3).length (rec.drop 3)).foldl (fun s e => s.takeQueueEnd (entryCtx e) (fld e 48 47) (fld e 23 0)) s := by
  refine ⟨_, rfl, ?_⟩
  simp only [State.takeQueueEnds, hlen, hstandby, ne_eq, not_true_eq_false, Bool.not_true, Bool.false_eq_true, if_false]

theorem execFabricVerdict_keeps_bits {rec : List Byte} {s : State} (hlen : (rec.drop 3).length = 16) (hsome : 1 ≤ byteAt (rec.drop 3) 3)
    (hmost : byteAt (rec.drop 3) 3 ≤ 64) (hstandby : s.standby = true) : Completes (.fabricVerdict rec) s fun t =>
      t.pair.fabricBits = s.pair.fabricBits ++ (List.range (byteAt (rec.drop 3) 3)).map fun k =>
        { unit := beAt (rec.drop 3) 0 2 % 4096, cls := byteAt (rec.drop 3) 2 % 8, seq := (beAt (rec.drop 3) 4 4 + k) % 2 ^ 24
          admits := bitAt (beAt (rec.drop 3) 8 8) (63 - k), since := s.now } := by
  have hserved : ¬((rec.drop 3).length ≠ 16 ∨ byteAt (rec.drop 3) 3 = 0 ∨ 64 < byteAt (rec.drop 3) 3) := by omega
  refine ⟨s.takeFabricVerdict (rec.drop 3), rfl, ?_⟩
  simp only [State.takeFabricVerdict, if_neg hserved, hstandby, Bool.not_true, Bool.false_eq_true, if_false]

theorem execCopyVerdict_keeps_bits {rec : List Byte} {s : State} (hlen : (rec.drop 3).length = 20) (hkind : byteAt (rec.drop 3) 0 ≤ 1)
    (hsome : 1 ≤ byteAt (rec.drop 3) 8) (hmost : byteAt (rec.drop 3) 8 ≤ 64) (hstandby : s.standby = true) :
    Completes (.copyVerdict rec) s fun t => t.pair.copyBits = s.pair.copyBits ++
      [{ fabric := decide (byteAt (rec.drop 3) 0 = 1), source := byteAt (rec.drop 3) 1, unit := beAt (rec.drop 3) 2 2 % 4096
         position := beAt (rec.drop 3) 4 4, since := s.now
         admits := (List.range (byteAt (rec.drop 3) 8)).map fun k => bitAt (beAt (rec.drop 3) 12 8) (63 - k) }] := by
  have hserved : ¬((rec.drop 3).length ≠ 20 ∨ 1 < byteAt (rec.drop 3) 0 ∨ byteAt (rec.drop 3) 8 = 0 ∨ 64 < byteAt (rec.drop 3) 8) := by omega
  refine ⟨s.takeCopyVerdict (rec.drop 3), rfl, ?_⟩
  simp only [State.takeCopyVerdict, if_neg hserved, hstandby, Bool.not_true, Bool.false_eq_true, if_false]

theorem execHostWork_injects {rec : List Byte} {s : State} (hlen : 68 ≤ (rec.drop 3).length) (hlow : 0x80 ≤ byteAt (rec.drop 3) 0)
    (hhigh : byteAt (rec.drop 3) 0 < 0x90) (hmode : s.mode ∈ [Mode.shadow, .catchup]) : Completes (.hostWork rec) s fun t =>
      (t.sliceAt (byteAt (rec.drop 3) 0 % 16)).inject = (s.sliceAt (byteAt (rec.drop 3) 0 % 16)).inject ++
        [injectionOf mateChannel 0 (slice (rec.drop 3) 4 64) ((rec.drop 3).drop 68)] := by
  have hstandby : s.mode = .shadow ∨ s.mode = .catchup := by simpa using hmode
  have hserved : ¬((rec.drop 3).length < 68 ∨ byteAt (rec.drop 3) 0 < 0x80 ∨ 0x90 ≤ byteAt (rec.drop 3) 0) := by omega
  have hmodes : ¬(s.mode ≠ .shadow ∧ s.mode ≠ .catchup) := fun ⟨h1, h2⟩ => hstandby.elim h1 h2
  refine ⟨s.takeHostWork (rec.drop 3), rfl, ?_⟩
  simp only [State.takeHostWork, if_neg hserved, if_neg hmodes]
  exact State.enqueueInjection_inject ..

/-! ### Staged changes (R359, R368) -/

/-- A STATUS that the standby sends leaves the changes, digests and copies of the pair (R359). -/
theorem State.sendStatus_same (s : State) (flags : Nat) : (s.sendStatus flags).pair.phase = s.pair.phase ∧
    (s.sendStatus flags).pair.copied = s.pair.copied ∧ (s.sendStatus flags).pair.stagedTicket = s.pair.stagedTicket ∧
    (s.sendStatus flags).pair.staged = s.pair.staged ∧ (s.sendStatus flags).pair.digests = s.pair.digests := by
  obtain ⟨hphase, -, -, -, hcopied, hticket, hstaged, -, hdigests, -⟩ := Pair.beside_parts (s.sendStatus_beside flags)
  exact ⟨hphase, hcopied, hticket, hstaged, hdigests⟩

theorem State.ticketStaged_same (s : State) (ticket : Nat) : (s.ticketStaged ticket).pair.stagedTicket = ticket ∧
    (s.ticketStaged ticket).pair.staged = s.pair.staged := by
  simp only [State.ticketStaged, State.sendStatus_same, and_self]

theorem execObject_applies {rec : List Byte} {ops : List OpReq} {s : State} (hlen : 4 ≤ (rec.drop 3).length)
    (hops : parseOps true (rec.drop 3).length ((rec.drop 3).drop 4) = some ops) (hfollows : s.follows = true) :
    Completes (.object rec) s fun t => t = (ops.foldl (State.mateOp (beAt (rec.drop 3) 0 4)) s).ticketStaged (beAt (rec.drop 3) 0 4) ∧
      t.pair.stagedTicket = beAt (rec.drop 3) 0 4 := by
  refine ⟨(ops.foldl (State.mateOp (beAt (rec.drop 3) 0 4)) s).ticketStaged (beAt (rec.drop 3) 0 4), ?_, rfl,
    (State.ticketStaged_same ..).1⟩
  have hserved : ¬(rec.drop 3).length < 4 := by omega
  change Host.Outcome.next (s.takeObject (rec.drop 3)) = _
  simp only [State.takeObject, if_neg hserved, hops, hfollows, Bool.not_true, Bool.false_eq_true, if_false]

theorem execLearnRecord_stages {rec : List Byte} {cs : List (List Byte)} {s : State} (hlen : 8 ≤ (rec.drop 3).length)
    (hcs : s.learnCommands (rec.drop 3).length ((rec.drop 3).drop 8) = some cs) (hfollows : s.follows = true) :
    Completes (.learnRecord rec) s fun t => t.pair.stagedTicket = beAt (rec.drop 3) 0 4 ∧
      t.pair.staged = (s.pair.staged.filter fun x => decide (x.epoch ≠ beAt (rec.drop 3) 4 2)) ++
        [{ ticket := beAt (rec.drop 3) 0 4, epoch := beAt (rec.drop 3) 4 2, own := true, closed := true
           ops := cs.map fun c => { origin := mateOrigin, index := 0x5C10, sub := 0, data := c } }] := by
  refine ⟨s.takeLearn (rec.drop 3), rfl, ?_⟩
  have hserved : ¬(rec.drop 3).length < 8 := by omega
  simp only [State.takeLearn, if_neg hserved, hcs, hfollows, Bool.not_true, Bool.false_eq_true, if_false]
  exact State.ticketStaged_same ..

/-! ### EPOCH_MARK (R368, R370) -/

/-- What runs again after a mark is counted and taken out of the slices and Breakwaters (R370). -/
theorem State.restamp_same (s : State) (k pos : Nat) : (s.restamp k pos).epochs = s.epochs ∧ (s.restamp k pos).pair = s.pair := by
  have h : On inS _ s (s.restamp k pos) := State.restamp_keeps (.refl _) .start
  exact ⟨h.epochs_same rfl, h.pair_same rfl⟩

theorem State.noteMark_same (s : State) (e k pos : Nat) :
    (s.noteMark e k pos).epochs = s.epochs ∧ (s.noteMark e k pos).pair.staged = s.pair.staged := by
  unfold State.noteMark
  dsimp only
  rw [(State.restamp_same ..).1, (State.restamp_same ..).2]
  exact ⟨rfl, rfl⟩

theorem State.noteMark_marks (s : State) (e k pos n : Nat) : (mgetD [] (s.noteMark e k pos).pair.marks n).getLast? =
    if n = k then some (e, pos) else (mgetD [] s.pair.marks n).getLast? := by
  unfold State.noteMark
  dsimp only
  rw [(State.restamp_same ..).2]
  dsimp only
  split
  next h =>
    subst h
    rw [mgetD_mput_same, List.getLast?_drop, if_neg (by simp only [List.length_append, List.length_singleton]; omega)]
    exact List.getLast?_concat
  next h => rw [mgetD, mget_mput_other h, mgetD]

/-- The first n sources marked in turn. -/
theorem foldl_noteMark (e : Nat) (pos : Nat → Nat) (n : Nat) (s : State) :
    ((List.range n).foldl (fun (s : State) k => s.noteMark e k (pos k)) s).epochs = s.epochs ∧
    ((List.range n).foldl (fun (s : State) k => s.noteMark e k (pos k)) s).pair.staged = s.pair.staged ∧
    ∀ k < n, (mgetD [] ((List.range n).foldl (fun (s : State) k => s.noteMark e k (pos k)) s).pair.marks k).getLast? = some (e, pos k) := by
  induction n with
  | zero => exact ⟨rfl, rfl, fun k hk => absurd hk (Nat.not_lt_zero k)⟩
  | succ n ih =>
    obtain ⟨hepochs, hstaged, hmarks⟩ := ih
    rw [List.range_succ, List.foldl_append, List.foldl_cons, List.foldl_nil]
    refine ⟨(State.noteMark_same ..).1.trans hepochs, (State.noteMark_same ..).2.trans hstaged, fun k hk => ?_⟩
    rw [State.noteMark_marks]
    split
    next h => rw [h]
    next h => exact hmarks k (by omega)

theorem execEpochMark_commits {rec : List Byte} {c : MateChange} {s : State} (hlen : (rec.drop 3).length = 644) (hfollows : s.follows = true)
    (hnext : beAt (rec.drop 3) 0 2 = s.nextEpoch)
    (hstaged : s.pair.staged.find? (fun c => decide (c.epoch = s.nextEpoch) && c.closed) = some c) : Completes (.epochMark rec) s fun t =>
      t.epochs = (s.followCommit c).epochs ∧
      t.pair.staged = (s.followCommit c).pair.staged.filter (fun x => decide (x.epoch ≠ s.nextEpoch)) ∧
      ∀ k < 0x90, (mgetD [] t.pair.marks k).getLast? = some (s.nextEpoch, beAt (rec.drop 3) (4 + 4 * k) 4) := by
  refine ⟨s.takeEpochMark (rec.drop 3), rfl, ?_⟩
  simp only [State.takeEpochMark, hlen, hfollows, hnext, hstaged, ne_eq, not_true_eq_false, Bool.not_true, Bool.false_eq_true, if_false]
  exact foldl_noteMark s.nextEpoch (fun k => beAt (rec.drop 3) (4 + 4 * k) 4) 0x90 _

/-! ### DIGEST (R382) -/

theorem execDigest_waits {rec : List Byte} {s : State} (hlen : (rec.drop 3).length = 16) (hslice : byteAt (rec.drop 3) 0 < 16)
    (hrole : s.role = 2)
    (hown : (s.digest (byteAt (rec.drop 3) 0)).own.find? (fun x => decide (x.1 = beAt (rec.drop 3) 4 4)) = none)
    (hopen : (s.digest (byteAt (rec.drop 3) 0)).number ≠ beAt (rec.drop 3) 4 4 ∨
      (s.digest (byteAt (rec.drop 3) 0)).entries ≠ beAt (rec.drop 3) 2 2) : Completes (.digest rec) s fun t =>
      (t.digest (byteAt (rec.drop 3) 0)).mate = (s.digest (byteAt (rec.drop 3) 0)).mate ++
        [(beAt (rec.drop 3) 4 4, beAt (rec.drop 3) 2 2, beAt (rec.drop 3) 8 8)] := by
  have hserved : ¬((rec.drop 3).length ≠ 16 ∨ 16 ≤ byteAt (rec.drop 3) 0) := by omega
  have hclosed : ¬((s.digest (byteAt (rec.drop 3) 0)).number = beAt (rec.drop 3) 4 4 ∧
      (s.digest (byteAt (rec.drop 3) 0)).entries = beAt (rec.drop 3) 2 2) := fun ⟨h1, h2⟩ => hopen.elim (· h1) (· h2)
  refine ⟨s.takeDigest (rec.drop 3), rfl, ?_⟩
  simp only [State.takeDigest, if_neg hserved, hrole, hown, if_neg hclosed, ne_eq, not_true_eq_false, if_false, State.setDigest_digest]

theorem State.checkReady_digest (s : State) (n : Nat) : s.checkReady.digest n = s.digest n := by
  unfold State.checkReady
  split
  · simp only [State.digest, State.sendStatus_same]
  · rfl

theorem State.compareDigest_matches (s : State) (n number v : Nat) : ((s.compareDigest n number v v).digest n).matched = true := by
  rw [State.compareDigest, if_pos rfl, State.checkReady_digest, State.setDigest_digest]

theorem execDigest_matches {rec : List Byte} {x : Nat × Nat} {s : State} (hlen : (rec.drop 3).length = 16)
    (hslice : byteAt (rec.drop 3) 0 < 16) (hrole : s.role = 2)
    (hown : (s.digest (byteAt (rec.drop 3) 0)).own.find? (fun x => decide (x.1 = beAt (rec.drop 3) 4 4)) = some x)
    (hvalue : x.2 = beAt (rec.drop 3) 8 8) : Completes (.digest rec) s fun t => (t.digest (byteAt (rec.drop 3) 0)).matched = true := by
  have hserved : ¬((rec.drop 3).length ≠ 16 ∨ 16 ≤ byteAt (rec.drop 3) 0) := by omega
  refine ⟨s.takeDigest (rec.drop 3), rfl, ?_⟩
  simp only [State.takeDigest, if_neg hserved, hrole, hown, hvalue, ne_eq, not_true_eq_false, if_false]
  exact State.compareDigest_matches ..

/-! ### START and HANDOFF (R378, R388) -/

/-- A standby in SHADOW, in step from here on; what came before START is not admitted (R378). -/
def State.started (s : State) : State :=
  let s2 : State := if s.mode = .catchup then s.completeMode .shadow else s
  let before (e : MateEntry) : MateEntry := { e with admits := false }
  ({ s2 with pair := { s2.pair with phase := .inStep, positions := [], turned := false, entries := s2.pair.entries.map before } }).refreshIdentity

theorem State.started_shadow {s : State} (hmode : s.mode = .catchup ∨ s.mode = .shadow) : s.started.mode = .shadow := by
  have hentered : (if s.mode = .catchup then s.completeMode .shadow else s).mode = .shadow := by
    by_cases hcatchup : s.mode = .catchup
    · rw [if_pos hcatchup, State.completeMode_mode _ (by decide)]
    · rw [if_neg hcatchup]
      exact hmode.resolve_left hcatchup
  unfold State.started
  simp only [State.refreshIdentity_same]
  exact hentered

theorem State.refreshIdentity_stream (s : State) : s.refreshIdentity.pair.phase = s.pair.phase ∧
    s.refreshIdentity.pair.positions = s.pair.positions ∧ s.refreshIdentity.pair.turned = s.pair.turned := by
  obtain ⟨hphase, -, -, -, -, -, -, hpositions, -, hturned⟩ := Pair.beside_parts s.refreshIdentity_beside
  exact ⟨hphase, hpositions, hturned⟩

theorem State.started_pair (s : State) : s.started.pair.phase = .inStep ∧ s.started.pair.positions = [] ∧ s.started.pair.turned = false := by
  simp only [State.started, State.refreshIdentity_stream, and_self]

/-- BASE_SEQ and ERA of each context that a START names (R378). -/
def State.startContexts (s : State) (b : List Byte) : State :=
  (bodyEntries b.length (b.drop 4)).foldl (fun s e =>
    s.setPairCtx (entryCtx e) { baseSeq := fld e 23 0, era := fld e 48 45, count := 0, lost := [], foreign := [], done := fld e 23 0, doneEra := fld e 48 45 }) s

theorem State.startContexts_mode (s : State) (b : List Byte) : (s.startContexts b).mode = s.mode := by
  refine foldl_leaves (fun u : State => u.mode) ?_ _ _
  exact fun _ _ => rfl

theorem execStart_begins {rec : List Byte} {s : State} (hlen : 4 ≤ (rec.drop 3).length) (hentries : ((rec.drop 3).length - 4) % 8 = 0)
    (hlast : bitAt (byteAt (rec.drop 3) 0) 0 = true) (hmode : s.mode ∈ [Mode.catchup, .shadow]) : Completes (.start rec) s fun t =>
      t.mode = .shadow ∧ t.pair.phase = .inStep ∧ t.pair.positions = [] ∧ t.pair.turned = false := by
  have hstandby : s.mode = .catchup ∨ s.mode = .shadow := by simpa using hmode
  have hserved : ¬((rec.drop 3).length < 4 ∨ ((rec.drop 3).length - 4) % 8 ≠ 0) := by omega
  have hmodes : ¬(s.mode ≠ .catchup ∧ s.mode ≠ .shadow) := fun ⟨h1, h2⟩ => hstandby.elim h1 h2
  refine ⟨(s.startContexts (rec.drop 3)).started, ?_, State.started_shadow (s.startContexts_mode (rec.drop 3) ▸ hstandby),
    (s.startContexts (rec.drop 3)).started_pair⟩
  change Host.Outcome.next (s.takeStart (rec.drop 3)) = _
  unfold State.takeStart
  rw [if_neg hserved, if_neg hmodes]
  dsimp only
  rw [hlast, if_neg (by decide)]
  rfl

theorem execHandoff_turns {s : State} (hmode : s.mode = .shadow) (hstep : s.pair.phase = .inStep) : Completes .handoff s fun t =>
    t = s.turn 3 ∧ t.mode ∈ [Mode.proportional, .spring] ∧ t.pair.phase = .inStep :=
  ⟨s.turn 3, rfl, rfl, State.turn_mode hmode hstep 3, State.turn_inStep hmode hstep⟩

/-! ### COPY (R378) -/

theorem State.takeCopy_collects {s : State} {b : List Byte} (hlen : 8 ≤ b.length) (hmode : s.mode = .catchup) (hphase : s.pair.phase = .copying) :
    (copyRead (s.pair.copied ++ [(byteAt b 0, beAt b 4 4, b.drop 8)]) = none →
      (s.takeCopy b).pair = { s.pair with copied := s.pair.copied ++ [(byteAt b 0, beAt b 4 4, b.drop 8)] }) ∧
    ((copyRead (s.pair.copied ++ [(byteAt b 0, beAt b 4 4, b.drop 8)])).isSome = true →
      (s.takeCopy b).pair.phase = .trial ∧ (s.takeCopy b).pair.copied = []) := by
  have hserved : ¬b.length < 8 := by omega
  have hcopying : ¬(s.mode ≠ .catchup ∨ s.pair.phase ≠ .copying) := by simp [hmode, hphase]
  cases hread : copyRead (s.pair.copied ++ [(byteAt b 0, beAt b 4 4, b.drop 8)]) with
  | none =>
    simp only [State.takeCopy, if_neg hserved, if_neg hcopying, hread]
    exact ⟨fun _ => trivial, fun h => absurd h (by decide)⟩
  | some c =>
    simp only [State.takeCopy, if_neg hserved, if_neg hcopying, hread]
    exact ⟨fun h => absurd h (by simp), fun _ => by simp only [State.sendStatus_same, and_self]⟩

theorem execCopy_collects {rec : List Byte} {s : State} (hlen : 8 ≤ (rec.drop 3).length) (hmode : s.mode = .catchup)
    (hphase : s.pair.phase = .copying) : Completes (.copy rec) s fun t =>
      let parts := s.pair.copied ++ [(byteAt (rec.drop 3) 0, beAt (rec.drop 3) 4 4, (rec.drop 3).drop 8)]
      (copyRead parts = none → t.pair = { s.pair with copied := parts }) ∧
        ((copyRead parts).isSome = true → t.pair.phase = .trial ∧ t.pair.copied = []) :=
  ⟨s.takeCopy (rec.drop 3), rfl, State.takeCopy_collects hlen hmode hphase⟩

/-- Settles O26: each record by the lemma of its meaning. It rests on choices of the model: the form of a copy is opaque (log entry 51),
a turn happens inside one command (log entry 85), and the mate's host work and operations have a channel and an origin of their own (log
entry 105); when a staged change applies (log entry 56) and when digests are compared (log entry 92) are deduced. -/
theorem pairRecordsComplete : Obligations.PairRecordsComplete := by
  refine ⟨?identity, ?block, ?mark, ?object, ?learn, ?departure, ?fabric, ?copies, ?work, ?queue, ?wait, ?compare, ?start, ?handoff, ?copy⟩
  case identity => exact fun _ _ h1 h2 => execIdentity_identifies h1 h2
  case block => exact fun _ _ h1 h2 h3 h4 h5 h6 => execVerdictBlock_joins h1 h2 h3 h4 h5 h6
  case mark => exact fun _ _ _ h1 h2 h3 h4 => execEpochMark_commits h1 h2 h3 h4
  case object => exact fun _ _ _ h1 h2 h3 => execObject_applies h1 h2 h3
  case learn => exact fun _ _ _ h1 h2 h3 => execLearnRecord_stages h1 h2 h3
  case departure => exact fun _ _ h1 h2 => execDepartureMark_marks h1 h2
  case fabric => exact fun _ _ h1 h2 h3 h4 => execFabricVerdict_keeps_bits h1 h2 h3 h4
  case copies => exact fun _ _ h1 h2 h3 h4 h5 => execCopyVerdict_keeps_bits h1 h2 h3 h4 h5
  case work => exact fun _ _ h1 h2 h3 h4 => execHostWork_injects h1 h2 h3 h4
  case queue => exact fun _ _ h1 h2 => execQueueEnd_ends h1 h2
  case wait => exact fun _ _ h1 h2 h3 h4 h5 => execDigest_waits h1 h2 h3 h4 h5
  case compare => exact fun _ _ _ h1 h2 h3 h4 h5 => execDigest_matches h1 h2 h3 h4 h5
  case start => exact fun _ _ h1 h2 h3 h4 => execStart_begins h1 h2 h3 h4
  case handoff => exact fun _ h1 h2 => execHandoff_turns h1 h2
  case copy => exact fun _ _ h1 h2 h3 => execCopy_collects h1 h2 h3

end Sys2Proof.Machine
end

section
/-! Records and operations: what is read back of what was written out (R140, R359, R362). -/

namespace Sys2Proof

theorem byteAt_append {a b : List Byte} {k : Nat} (h : k < a.length) : byteAt (a ++ b) k = byteAt a k := by
  rw [byteAt, byteAt, List.getD_append _ _ _ _ h]

theorem byteAt_append_right {a b : List Byte} {n k : Nat} (h : a.length = n) : byteAt (a ++ b) (n + k) = byteAt b k := by
  subst h
  rw [byteAt, byteAt, List.getD_append_right _ _ _ _ (Nat.le_add_right ..), Nat.add_sub_cancel_left]

/-- A number of one byte is that byte. -/
theorem byteAt_natBe_one {n : Nat} (h : n < 256) (b : List Byte) : byteAt (natBe n 1 ++ b) 0 = n := by
  change (BitVec.ofNat 8 (n >>> 0)).toNat = n
  rw [BitVec.toNat_ofNat, Nat.shiftRight_zero, Nat.mod_eq_of_lt h]

/-- A field of a byte string that lies within it is a field of the number that the string spells (R165, R191). -/
theorem bitsAt_eq_div {bs : List Byte} {off w : Nat} (h : off + w ≤ 8 * bs.length) :
    bitsAt bs off w = beNat bs / 2 ^ (8 * bs.length - off - w) % 2 ^ w := by
  refine Nat.eq_of_testBit_eq fun i => ?_
  rw [bitsAt_testBit, Nat.testBit_mod_two_pow, Nat.testBit_div_two_pow]
  by_cases hi : i < w
  · rw [← beNat_testBit (by omega), show 8 * bs.length - 1 - (off + (w - 1 - i)) = i + (8 * bs.length - off - w) by omega]
  · simp [hi]

end Sys2Proof

namespace Sys2Proof.Machine

/-! ### Verdict blocks (R362) -/

/-- The 19 bits of an entry of a verdict block: tag, ADMIT, COLOUR (R362). -/
def entryBits (e : Nat × Bool × Nat) : Nat := e.1 * 8 + (if e.2.1 then 4 else 0) + e.2.2

/-- The entries of a block as one number, the first one highest. -/
def blockBits (es : List (Nat × Bool × Nat)) : Nat := es.foldl (fun a e => a * 2 ^ 19 + entryBits e) 0

theorem packEntries_eq (es : List (Nat × Bool × Nat)) : packEntries es =
    natBe (blockBits es * 2 ^ (8 * ((19 * es.length + 7) / 8) - 19 * es.length)) ((19 * es.length + 7) / 8) := by
  have hsum : (fun (a : Nat) (e : Nat × Bool × Nat) => a * 2 ^ 19 + e.1 * 8 + (if e.2.1 then 4 else 0) + e.2.2) =
      fun a e => a * 2 ^ 19 + entryBits e := by
    funext a e
    simp only [entryBits, Nat.add_assoc]
  rw [blockBits, ← hsum]
  rfl

theorem packEntries_length (es : List (Nat × Bool × Nat)) : (packEntries es).length = (19 * es.length + 7) / 8 := by
  rw [packEntries_eq, natBe_length]

/-- What comes after a number in a block stands below it. -/
theorem foldl_entryBits (es : List (Nat × Bool × Nat)) (a : Nat) :
    es.foldl (fun a e => a * 2 ^ 19 + entryBits e) a = a * 2 ^ (19 * es.length) + blockBits es := by
  induction es generalizing a with
  | nil => simp [blockBits]
  | cons e es ih =>
    rw [blockBits, List.foldl_cons, List.foldl_cons, ih, ih (0 * 2 ^ 19 + _), List.length_cons, Nat.mul_succ, Nat.add_comm (19 * es.length),
      Nat.pow_add]
    ring

theorem blockBits_cons (e : Nat × Bool × Nat) (es : List (Nat × Bool × Nat)) :
    blockBits (e :: es) = entryBits e * 2 ^ (19 * es.length) + blockBits es := by
  rw [blockBits, List.foldl_cons, foldl_entryBits, Nat.zero_mul, Nat.zero_add]

/-- An entry whose tag and COLOUR lie within their widths. -/
def EntryFits (e : Nat × Bool × Nat) : Prop := e.1 < 2 ^ 16 ∧ e.2.2 < 4

theorem entryBits_lt {e : Nat × Bool × Nat} (h : EntryFits e) : entryBits e < 2 ^ 19 := by
  obtain ⟨htag, hcolour⟩ := h
  rw [entryBits]
  split <;> omega

theorem blockBits_lt {es : List (Nat × Bool × Nat)} (h : ∀ e ∈ es, EntryFits e) : blockBits es < 2 ^ (19 * es.length) := by
  induction es with
  | nil => exact Nat.one_pos
  | cons e es ih =>
    have hrest := ih fun x hx => h x (List.mem_cons_of_mem _ hx)
    have he := entryBits_lt (h e (List.mem_cons_self ..))
    rw [blockBits_cons, List.length_cons, Nat.mul_succ, Nat.add_comm (19 * es.length), Nat.pow_add]
    nlinarith [Nat.two_pow_pos (19 * es.length)]

/-- The bits of each entry are read back at their place. -/
theorem blockBits_reads {es : List (Nat × Bool × Nat)} (h : ∀ e ∈ es, EntryFits e) {k : Nat} (hk : k < es.length) :
    blockBits es / 2 ^ (19 * (es.length - 1 - k)) % 2 ^ 19 = entryBits es[k] := by
  induction es generalizing k with
  | nil => exact absurd hk (Nat.not_lt_zero k)
  | cons e es ih =>
    have hfit : ∀ x ∈ es, EntryFits x := fun x hx => h x (List.mem_cons_of_mem _ hx)
    rw [blockBits_cons, List.length_cons]
    cases k with
    | zero =>
      rw [show es.length + 1 - 1 - 0 = es.length by omega, Nat.add_comm, Nat.add_mul_div_right _ _ (Nat.two_pow_pos _),
        Nat.div_eq_of_lt (blockBits_lt hfit), Nat.zero_add, Nat.mod_eq_of_lt (entryBits_lt (h e (List.mem_cons_self ..)))]
      rfl
    | succ k =>
      have hk' : k < es.length := Nat.lt_of_succ_lt_succ hk
      have hup : 2 ^ (19 * es.length) = 2 ^ (19 * k) * 2 ^ 19 * 2 ^ (19 * (es.length - 1 - k)) := by
        rw [← Nat.pow_add, ← Nat.pow_add]
        congr 1
        omega
      rw [show es.length + 1 - 1 - (k + 1) = es.length - 1 - k by omega, hup, ← Nat.mul_assoc, Nat.add_comm,
        Nat.add_mul_div_right _ _ (Nat.two_pow_pos _), ← Nat.mul_assoc, Nat.add_mul_mod_self_right]
      exact ih hfit hk'

/-- The number that the packed entries spell, without the zeros that fill the last byte. -/
theorem beNat_packEntries {es : List (Nat × Bool × Nat)} (h : ∀ e ∈ es, EntryFits e) :
    beNat (packEntries es) = blockBits es * 2 ^ (8 * (packEntries es).length - 19 * es.length) := by
  have hroom : blockBits es * 2 ^ (8 * ((19 * es.length + 7) / 8) - 19 * es.length) < 256 ^ ((19 * es.length + 7) / 8) := by
    rw [show 256 = 2 ^ 8 from rfl, ← Nat.pow_mul]
    calc _ < 2 ^ (19 * es.length) * 2 ^ (8 * ((19 * es.length + 7) / 8) - 19 * es.length) :=
          Nat.mul_lt_mul_of_pos_right (blockBits_lt h) (Nat.two_pow_pos _)
      _ = 2 ^ (8 * ((19 * es.length + 7) / 8)) := by
          rw [← Nat.pow_add]
          congr 1
          omega
  rw [packEntries_length, packEntries_eq, beNat_natBe, Nat.mod_eq_of_lt hroom]

/-- The bits of an entry among the packed ones. -/
theorem bitsAt_packEntries {es : List (Nat × Bool × Nat)} (h : ∀ e ∈ es, EntryFits e) {k : Nat} (hk : k < es.length) :
    bitsAt (packEntries es) (19 * k) 19 = entryBits es[k] := by
  have hlen := packEntries_length es
  rw [bitsAt_eq_div (by omega), beNat_packEntries h,
    show 8 * (packEntries es).length - 19 * k - 19 = 8 * (packEntries es).length - 19 * es.length + 19 * (es.length - 1 - k) by omega,
    Nat.pow_add, ← Nat.div_div_eq_div_mul, Nat.mul_div_cancel _ (Nat.two_pow_pos _), blockBits_reads h hk]

/-- Tag, ADMIT and COLOUR are read back from the bits of an entry (R362). -/
theorem entryBits_reads {e : Nat × Bool × Nat} (h : EntryFits e) :
    (entryBits e / 8, bitAt (entryBits e) 2, entryBits e % 4) = e := by
  obtain ⟨tag, admits, colour⟩ := e
  obtain ⟨-, hcolour⟩ := h
  dsimp only at hcolour
  rw [entryBits, bitAt, Nat.testBit_eq_decide_div_mod_eq]
  cases admits <;> simp <;> omega

/-- The entries of a verdict block are read back (R362). -/
theorem blockEntries_reads {es : List (Nat × Bool × Nat)} (hpos : 1 ≤ es.length) (hmax : es.length ≤ 32) (h : ∀ e ∈ es, EntryFits e)
    (source : Nat) : blockEntries (natBe (0x20 + es.length - 1) 1 ++ natBe source 1 ++ packEntries es) = es := by
  have hcount : byteAt (natBe (0x20 + es.length - 1) 1 ++ natBe source 1 ++ packEntries es) 0 % 32 + 1 = es.length := by
    rw [List.append_assoc, byteAt_natBe_one (by omega)]
    omega
  have hbody : (natBe (0x20 + es.length - 1) 1 ++ natBe source 1 ++ packEntries es).drop 2 = packEntries es := rfl
  simp only [blockEntries, hcount, hbody]
  refine List.ext_getElem (by simp) fun k _ hk => ?_
  rw [List.getElem_map, List.getElem_range, bitsAt_packEntries h hk, entryBits_reads (h _ (List.getElem_mem hk))]

/-! ### Typed records (R359) -/

theorem typedRecord_length (ty : Nat) (body : List Byte) : (typedRecord ty body).length = body.length + 3 := by
  simp only [typedRecord, List.length_append, natBe_length]
  omega

theorem typedRecord_type {ty : Nat} (h : ty < 256) (body rest : List Byte) : byteAt (typedRecord ty body ++ rest) 0 = ty := by
  rw [typedRecord, List.append_assoc, List.append_assoc, byteAt_natBe_one h]

/-- A typed record is as long as its LENGTH says (R359). -/
theorem recordLength_typedRecord {ty : Nat} {body : List Byte} (hlo : 0x40 ≤ ty) (hhi : ty < 0x60) (hlen : body.length + 3 < 2 ^ 16)
    (rest : List Byte) : recordLength (typedRecord ty body ++ rest) = some (typedRecord ty body).length := by
  have hlength : beAt (typedRecord ty body ++ rest) 1 2 = body.length + 3 := by
    rw [typedRecord, List.append_assoc, List.append_assoc, beAt, slice_between (natBe_length ..) (natBe_length ..), beNat_natBe]
    exact Nat.mod_eq_of_lt hlen
  have hwhole : ¬(typedRecord ty body ++ rest).length < 3 := by
    rw [List.length_append, typedRecord_length]
    omega
  simp only [recordLength, typedRecord_type (Nat.lt_trans hhi (by decide)), hlength, if_neg hwhole, typedRecord_length,
    if_neg (show ¬(0x20 ≤ ty ∧ ty < 0x40) by omega), if_pos (show 0x40 ≤ ty ∧ ty < 0x60 from ⟨hlo, hhi⟩),
    if_neg (show ¬body.length + 3 < 3 by omega)]

/-! ### Operations (R140) -/

/-- An operation in the layout of R140. -/
def OpReq.bytes (r : OpReq) : List Byte := opBytes r.opcode r.flags r.index r.sub r.ty r.data

/-- An operation whose fields lie within their widths (R140). -/
structure OpReq.Fits (r : OpReq) : Prop where
  opcode : r.opcode < 2 ^ 8
  flags : r.flags < 2 ^ 8
  index : r.index < 2 ^ 16
  sub : r.sub < 2 ^ 8
  ty : r.ty < 2 ^ 8
  data : r.data.length < 2 ^ 16

theorem OpReq.bytes_length (r : OpReq) : r.bytes.length = 8 + r.data.length := by
  simp only [OpReq.bytes, opBytes, List.length_append, natBe_length]

/-- The head of an operation and its data, as the parser takes them from a body (R140). -/
theorem OpReq.Fits.reads {r : OpReq} (h : r.Fits) (rest : List Byte) :
    byteAt (r.bytes ++ rest) 0 = r.opcode ∧ byteAt (r.bytes ++ rest) 1 = r.flags ∧ numAt true (r.bytes ++ rest) 2 2 = r.index ∧
      byteAt (r.bytes ++ rest) 4 = r.sub ∧ byteAt (r.bytes ++ rest) 5 = r.ty ∧ numAt true (r.bytes ++ rest) 6 2 = r.data.length ∧
      slice (r.bytes ++ rest) 8 r.data.length = r.data := by
  have hwhole : r.bytes ++ rest = natBe r.opcode 1 ++ (natBe r.flags 1 ++ (natBe r.index 2 ++ (natBe r.sub 1 ++ (natBe r.ty 1 ++
      (natBe r.data.length 2 ++ (r.data ++ rest)))))) := by
    simp only [OpReq.bytes, opBytes, List.append_assoc]
  have number (a : List Byte) {n k : Nat} (hn : n < 256 ^ k) (b : List Byte) : numAt true (a ++ (natBe n k ++ b)) a.length k = n := by
    rw [numAt, if_pos rfl, beAt, slice_between rfl (natBe_length ..), beNat_natBe, Nat.mod_eq_of_lt hn]
  have byte (a : List Byte) {n : Nat} (hn : n < 256) (b : List Byte) : byteAt (a ++ (natBe n 1 ++ b)) a.length = n :=
    (byteAt_append_right (k := 0) rfl).trans (byteAt_natBe_one hn b)
  obtain ⟨hop, hflags, hindex, hsub, hty, hdata⟩ := h
  rw [hwhole]
  refine ⟨byte [] hop _, byte (natBe r.opcode 1) hflags _, number (natBe r.opcode 1 ++ natBe r.flags 1) (k := 2) hindex _,
    byte (natBe r.opcode 1 ++ natBe r.flags 1 ++ natBe r.index 2) hsub _,
    byte (natBe r.opcode 1 ++ natBe r.flags 1 ++ natBe r.index 2 ++ natBe r.sub 1) hty _,
    number (natBe r.opcode 1 ++ natBe r.flags 1 ++ natBe r.index 2 ++ natBe r.sub 1 ++ natBe r.ty 1) (k := 2) hdata _,
    slice_between (a := natBe r.opcode 1 ++ natBe r.flags 1 ++ natBe r.index 2 ++ natBe r.sub 1 ++ natBe r.ty 1 ++ natBe r.data.length 2) rfl rfl⟩

/-- A list of operations written in the layout of R140 is parsed back to the same operations. -/
theorem parseOps_bytes {ops : List OpReq} (h : ∀ r ∈ ops, r.Fits) : parseOps true ops.length (ops.map OpReq.bytes).flatten = some ops := by
  induction ops with
  | nil => rfl
  | cons r ops ih =>
    obtain ⟨hop, hflags, hindex, hsub, hty, hlen, hdata⟩ := (h r (List.mem_cons_self ..)).reads (ops.map OpReq.bytes).flatten
    have hsome : (r.bytes ++ (ops.map OpReq.bytes).flatten).isEmpty = false := rfl
    have hwhole : ¬(r.bytes ++ (ops.map OpReq.bytes).flatten).length < 8 + r.data.length := by
      rw [List.length_append, r.bytes_length]
      omega
    have hrest : (r.bytes ++ (ops.map OpReq.bytes).flatten).drop (8 + r.data.length) = (ops.map OpReq.bytes).flatten :=
      List.drop_left' r.bytes_length
    rw [List.map_cons, List.flatten_cons, List.length_cons, parseOps]
    simp only [hsome, hlen, if_neg hwhole, hrest, ih fun x hx => h x (List.mem_cons_of_mem _ hx), hop, hflags, hindex, hsub, hty, hdata,
      Bool.false_eq_true, if_false, Option.map_some]

/-- Settles O60: the entries of a block are the digits of one number, a record is read by its head, and the parser takes operation by
operation from the front. -/
theorem recordsAndOperationsReadBack : Obligations.RecordsAndOperationsReadBack := by
  refine ⟨?block, ?record, ?operations⟩
  case block => exact fun source es hpos hmax hfit => blockEntries_reads hpos hmax hfit source
  case record =>
    exact fun ty body rest hlo hhi hlen => ⟨recordLength_typedRecord hlo hhi hlen rest, typedRecord_type (Nat.lt_trans hhi (by decide)) body rest,
      List.drop_left' rfl⟩
  case operations =>
    intro ops hfit
    refine parseOps_bytes fun r hr => ?_
    obtain ⟨hop, hflags, hindex, hsub, hty, hdata⟩ := hfit r hr
    exact ⟨hop, hflags, hindex, hsub, hty, hdata⟩

end Sys2Proof.Machine
end

section
/-! Counters wrap at their width and keep that they did (R121, R500, R501). -/

namespace Sys2Proof.Machine

/-- A count sets the WRAPPED bit of its counter where the sum leaves the counter's range, and no bit otherwise (R501). -/
theorem State.count_wrapped (s : State) (i j n : Nat) : (s.count i j n).stats.wrapped =
    if s.reg i j + n < counterSpan i j then s.stats.wrapped else mput s.stats.wrapped (okey i j) true := by
  rw [State.count]
  split <;> rfl

/-- Settles O52: a count is one write of the counter's register, and one of its WRAPPED bit where the sum leaves the range. -/
theorem countersWrapAtTheirWidth : Obligations.CountersWrapAtTheirWidth := by
  intro s i j n hs
  refine ⟨s.count_reg i j n hs.objs, fun i' j' hne => s.count_other n hne, ?own, ?others⟩
  case own =>
    rw [State.count_wrapped]
    split
    next hwithin => simp [Nat.not_le.mpr hwithin]
    next hpast => simp [mget_mput_same, Nat.le_of_not_lt hpast]
  case others =>
    intro k hk
    rw [State.count_wrapped]
    split
    next => exact hk
    next =>
      by_cases hkey : k = okey i j
      · rw [hkey, mget_mput_same]
      · rw [mget_mput_other hkey, hk]

end Sys2Proof.Machine
end

section
/-! Every step answers a next state: no command stops the block (R117, R151, R153). -/

namespace Sys2Proof.Machine

/-- Each of the commands has a meaning, and none of them answers a fault or a refusal. -/
theorem exec_next (c : Instr) (s : State) : ∃ t, exec c s = .next t := by
  cases c
  all_goals exact ⟨_, rfl⟩

/-- Settles O32: a step on an empty queue answers the same state, and one on a command answers what the command does. -/
theorem everyStepIsSafe : Obligations.EveryStepIsSafe := by
  intro s
  cases hq : s.pending with
  | nil => exact ⟨s, emptyQueueIdles s hq⟩
  | cons c rest =>
    obtain ⟨t, ht⟩ := exec_next c { s with pending := rest }
    exact ⟨t, (step_cons hq).trans ht⟩

end Sys2Proof.Machine
end

section
/-! POA messages that do not authenticate (R138, R143, R146). -/

namespace Sys2Proof.Machine

/-- A frame that its port receives is given to the message's own rule (R138, R139). -/
theorem State.Receives.takeFrame_eq {s : State} {p : Nat} {frame : List Byte} {m : PoaFrame} (h : s.Receives p frame m) {ty : Nat}
    (hty : m.msgType = ty) (f : PoaFrame → State) : s.takeFrame p frame ty f = f m := by
  obtain ⟨hport, hserves, hfcs, hparse⟩ := h
  simp [State.takeFrame, Nat.not_le.mpr hport, hserves, hfcs, hparse, hty]

/-- A frame that does not authenticate is counted as dropped and in AUTH_FAILURES, and changes nothing else (R143). -/
theorem State.dropAuth_counts {s : State} {p : Nat} (hp : p < 2) (hs : s.StoresRise) :
    OnlyIn [.wrapped, .registers 0x10, .registers 0x31] s (s.dropAuth p) ∧
      (s.dropAuth p).reg 0x1040 6 = (s.reg 0x1040 6 + 1) % counterSpan 0x1040 6 := by
  have hframe : On inS (partsMask [.wrapped, .registers 0x10, .registers 0x31]) s (s.dropAuth p) :=
    State.dropAuth_keeps (.of_land rfl) .start
  have hother : okey 0x1040 6 ≠ okey 0x3183 p := by
    unfold okey
    omega
  refine ⟨hframe.keeps.onlyIn, ?_⟩
  rw [State.dropAuth, State.dropMgmt, State.bump_count, State.bump_count, State.count_other _ 1 hother, State.count_reg _ _ _ _ hs.objs]

/-- Settles O56: a REQUEST or CLOSE that names no session whose key verifies it is dropped. -/
theorem unauthenticatedMessagesDoNothing : Obligations.UnauthenticatedMessagesDoNothing := by
  refine ⟨?request, ?close⟩
  case request =>
    intro p frame m s hs hm hty hnone
    refine ⟨s.dropAuth p, ?_, State.dropAuth_counts hm.port hs⟩
    have htake : s.takePoaRequest p m = s.dropAuth p := by rw [State.takePoaRequest, hnone]
    exact congrArg _ ((hm.takeFrame_eq hty _).trans htake)
  case close =>
    intro p frame m s hs hm hty hnone
    refine ⟨s.dropAuth p, ?_, State.dropAuth_counts hm.port hs⟩
    have htake : s.takeClose p m = s.dropAuth p := by rw [State.takeClose, hnone]
    exact congrArg _ ((hm.takeFrame_eq hty _).trans htake)

end Sys2Proof.Machine
end

section
/-! The frames of POA sessions, objects, tables, iterators and rule sets. -/

namespace Sys2Proof.Machine

/-- Settles O37: each command's meaning keeps every part outside its list. -/
theorem accessFrames : Obligations.AccessFrames := by
  refine ⟨?poaOpen, ?poaClose, ?seqGapTimeout, ?sessionIdleExpiry, ?read, ?blobSegmentTimeout, ?blobCopyExpiry, ?describe, ?next,
    ?batchIdleExpiry, ?emRegionCreate, ?lpmRegionCreate, ?learnServiceCommit, ?ageSweep, ?search, ?iterOpen, ?iterNext, ?iterClose,
    ?iterTimeout, ?flushRequest, ?flushScanDone, ?ruleSetCreate, ?readRule, ?readBlock⟩
  case poaOpen => exact fun _ _ _ _ => .of_next (execPoaOpen_keeps (.of_land rfl) .start)
  case poaClose => exact fun _ _ _ _ => .of_next (execPoaClose_keeps (.of_land rfl) .start)
  case seqGapTimeout => exact fun _ _ _ _ => .of_next (execSeqGapTimeout_keeps (.of_land rfl) .start)
  case sessionIdleExpiry => exact fun _ _ _ => .of_next (execSessionIdleExpiry_keeps (.of_land rfl) .start)
  case read => exact fun _ _ _ _ _ _ => .of_next (execRead_keeps (.of_land rfl) .start)
  case blobSegmentTimeout => exact fun _ _ _ _ _ => .of_next (execBlobSegmentTimeout_keeps (.of_land rfl) .start)
  case blobCopyExpiry => exact fun _ _ _ _ _ => .of_next (execBlobCopyExpiry_keeps (.of_land rfl) .start)
  case describe => exact fun _ _ _ _ _ => .of_next (execDescribe_keeps (.of_land rfl) .start)
  case next => exact fun _ _ _ _ _ => .of_next (execNext_keeps (.of_land rfl) .start)
  case batchIdleExpiry => exact fun _ _ _ => .of_next (execBatchIdleExpiry_keeps (.of_land rfl) .start)
  case emRegionCreate => exact fun _ _ _ _ => .of_next (execEmRegionCreate_keeps (.of_land rfl) .start)
  case lpmRegionCreate => exact fun _ _ _ _ => .of_next (execLpmRegionCreate_keeps (.of_land rfl) .start)
  case learnServiceCommit => exact fun _ _ => .of_next (execLearnServiceCommit_keeps (.of_land rfl) .start)
  case ageSweep => exact fun _ _ _ => .of_next (execAgeSweep_keeps (.of_land rfl) .start)
  case search => exact fun _ _ _ _ _ _ => .of_next (execSearch_keeps (.of_land rfl) .start)
  case iterOpen => exact fun _ _ _ _ => .of_next (execIterOpen_keeps (.of_land rfl) .start)
  case iterNext => exact fun _ _ _ _ _ _ => .of_next (execIterNext_keeps (.of_land rfl) .start)
  case iterClose => exact fun _ _ _ _ _ => .of_next (execIterClose_keeps (.of_land rfl) .start)
  case iterTimeout => exact fun _ _ _ => .of_next (execIterTimeout_keeps (.of_land rfl) .start)
  case flushRequest => exact fun _ _ _ _ => .of_next (execFlushRequest_keeps (.of_land rfl) .start)
  case flushScanDone => exact fun _ _ _ _ => .of_next (execFlushScanDone_keeps (.of_land rfl) .start)
  case ruleSetCreate => exact fun _ _ _ _ => .of_next (execRuleSetCreate_keeps (.of_land rfl) .start)
  case readRule => exact fun _ _ _ _ _ => .of_next (execReadRule_keeps (.of_land rfl) .start)
  case readBlock => exact fun _ _ _ _ _ => .of_next (execReadBlock_keeps (.of_land rfl) .start)

end Sys2Proof.Machine
end

section
/-! Writes that the checks of R152 refuse. -/

namespace Sys2Proof.Machine

/-- A write that a check refuses is answered with the status, and its object's rule does not run (R152). -/
theorem State.runWrite_of_refused {s : State} {o : Origin} {i j : Nat} {v : List Byte} (h : s.checkWrite o i j v ≠ .ok)
    (f : List Byte → State → Status × State) : s.runWrite o i j v f = s.endWrite o i j v (s.checkWrite o i j v) := by
  unfold State.runWrite
  split
  · exact absurd ‹_› h
  · rfl

/-- A command that is a write of an object by a rule of its own is refused where the checks of the write refuse it. -/
theorem refuses_of_runWrite {c : Instr} {o : Origin} {i j : Nat} {v : List Byte} {f : List Byte → State → Status × State}
    (he : ∀ s, exec c s = .next (s.runWrite o i j v f)) : Refuses c o i j v := by
  intro s hs
  refine ⟨_, he s, ?_⟩
  rw [State.runWrite_of_refused hs]
  exact State.endWrite_refuses hs s o i j v

/-- A RESET_REQUEST of COLD that its checks refuse resets nothing. -/
theorem resetRequestCold_refuses (o : Origin) : Refuses (.resetRequestCold o) o 0x1010 1 [2] := by
  intro s hs
  refine ⟨_, rfl, ?_⟩
  simp only [hs, false_and, if_false, State.runWrite_of_refused hs]
  exact State.endWrite_refuses hs s o 0x1010 1 [2]

/-- Settles O45: each command is one write by a rule of its own, which runs only once the checks have passed. -/
theorem refusedWritesChangeNothing : Obligations.RefusedWritesChangeNothing := by
  refine ⟨?modeRequest, ?resetRequestWarm, ?resetRequestCold, ?flushRequest, ?search, ?enable, ?disable, ?setLimits, ?queueQuery,
    ?mcastSet, ?schedSet, ?meterSet, ?hbmDelays, ?portMode, ?portSlice, ?portAdminEnable, ?portAdminDisable, ?ptpStepNs, ?ringEnable,
    ?ringDisable, ?channelSet, ?lockForce, ?clearEverything, ?snapshot, ?wrapQuery, ?stageOpen, ?warmNow, ?confirm, ?revert,
    ?patternStart, ?bistStart, ?healthClear, ?faultRequest, ?switchover⟩
  case modeRequest => exact fun _ _ => refuses_of_runWrite fun _ => rfl
  case resetRequestWarm => exact fun _ => refuses_of_runWrite fun _ => rfl
  case resetRequestCold => exact resetRequestCold_refuses
  case flushRequest => exact fun _ _ => refuses_of_runWrite fun _ => rfl
  case search => exact fun _ _ _ _ => refuses_of_runWrite fun _ => rfl
  case enable => exact fun _ _ => refuses_of_runWrite fun _ => rfl
  case disable => exact fun _ _ => refuses_of_runWrite fun _ => rfl
  case setLimits => exact fun _ _ _ => refuses_of_runWrite fun _ => rfl
  case queueQuery => exact fun _ _ => refuses_of_runWrite fun _ => rfl
  case mcastSet => exact fun _ _ => refuses_of_runWrite fun _ => rfl
  case schedSet => exact fun _ _ => refuses_of_runWrite fun _ => rfl
  case meterSet => exact fun _ _ => refuses_of_runWrite fun _ => rfl
  case hbmDelays => exact fun _ _ _ => refuses_of_runWrite fun _ => rfl
  case portMode => exact fun _ _ _ => refuses_of_runWrite fun _ => rfl
  case portSlice => exact fun _ _ _ => refuses_of_runWrite fun _ => rfl
  case portAdminEnable => exact fun _ _ => refuses_of_runWrite fun _ => rfl
  case portAdminDisable => exact fun _ _ => refuses_of_runWrite fun _ => rfl
  case ptpStepNs => exact fun _ _ => refuses_of_runWrite fun _ => rfl
  case ringEnable => exact fun _ _ => refuses_of_runWrite fun _ => rfl
  case ringDisable => exact fun _ _ => refuses_of_runWrite fun _ => rfl
  case channelSet => exact fun _ _ => refuses_of_runWrite fun _ => rfl
  case lockForce => exact fun _ _ _ => refuses_of_runWrite fun _ => rfl
  case clearEverything => exact fun _ => refuses_of_runWrite fun _ => rfl
  case snapshot => exact fun _ _ => refuses_of_runWrite fun _ => rfl
  case wrapQuery => exact fun _ _ => refuses_of_runWrite fun _ => rfl
  case stageOpen => exact fun _ _ => refuses_of_runWrite fun _ => rfl
  case warmNow => exact fun _ => refuses_of_runWrite fun _ => rfl
  case confirm => exact fun _ _ => refuses_of_runWrite fun _ => rfl
  case revert => exact fun _ _ => refuses_of_runWrite fun _ => rfl
  case patternStart => exact fun _ _ => refuses_of_runWrite fun _ => rfl
  case bistStart => exact fun _ _ => refuses_of_runWrite fun _ => rfl
  case healthClear => exact fun _ _ => refuses_of_runWrite fun _ => rfl
  case faultRequest => exact fun _ _ => refuses_of_runWrite fun _ => rfl
  case switchover => exact fun _ _ => refuses_of_runWrite fun _ => rfl

end Sys2Proof.Machine
end

section
/-! One bare operation in a quiet state that is answered at once and touches object access alone (R130 to R133). -/

namespace Sys2Proof.Machine

/-- A state with another access part differs from it in nothing else. -/
theorem onlyIn_access (s : State) (x : Serving) : OnlyIn [.access] s { s with acc := x } := by
  intro p hp
  cases p with
  | access => exact absurd (List.mem_singleton_self _) hp
  | registers => exact fun _ _ => ⟨rfl, rfl⟩
  | faults => exact ⟨rfl, rfl⟩
  | health => exact ⟨rfl, rfl⟩
  | _ => rfl

/-- A bare operation that a quiet state refuses changes nothing but what its requester sees: it is answered with the status. -/
theorem State.Quiet.runDirect_refuses {s : State} (hq : s.Quiet) {o : Origin} {r : OpReq} {st : Status} (hf : r.flags = 0)
    (hx : (s.taken o).serveOp o s.acc.nextJob r = (s.taken o).failOp r st) : OnlyIn [.access] s (s.runDirect o r) ∧
      ∃ rest, (s.runDirect o r).acc.answers = { origin := o, ans := bareAns r.opcode st r.index r.sub } :: rest := by
  obtain ⟨js, -, hrun⟩ := hq.runDirect_answers hf hx (Nat.zero_le _) rfl rfl hq.reset
  rw [hrun]
  exact ⟨onlyIn_access s _, _, rfl⟩

/-- A state in which the batch slots are other ones. -/
def State.withBatches (s : State) (bs : List (Nat × Batch)) : State := { s with acc := { s.acc with batches := bs } }

/-- An operation that is answered at once with at most four bytes, and touches the batch slots alone. -/
def TouchesBatches (s : State) (x : Served) : Prop := ∃ a bs, x = (some a, s.withBatches bs) ∧ a.data.length ≤ 4

theorem touchesBatches_failOp (s : State) (r : OpReq) (st : Status) : TouchesBatches s (s.failOp r st) :=
  ⟨_, s.acc.batches, rfl, Nat.zero_le _⟩

theorem numBytes_length (be : Bool) (n k : Nat) : (numBytes be n k).length = k := by
  cases be
  · exact natLe_length n k
  · exact natBe_length n k

/-- What does so in both branches. -/
theorem TouchesBatches.ite {s : State} {c : Prop} [Decidable c] {x y : Served} (hx : TouchesBatches s x) (hy : TouchesBatches s y) :
    TouchesBatches s (if c then x else y) := by
  split
  · exact hx
  · exact hy

theorem State.opBatchOpen_touches (s : State) (o : Origin) (r : OpReq) : TouchesBatches s (s.opBatchOpen o r) := by
  refine .ite (touchesBatches_failOp s r _) ?_
  split
  · exact touchesBatches_failOp s r _
  · exact ⟨dataAns 0x20 0 0 4 _, _, rfl, Nat.le_of_eq (numBytes_length ..)⟩

theorem State.opBatchWrite_touches (s : State) (o : Origin) (r : OpReq) : TouchesBatches s (s.opBatchWrite o r) :=
  .ite (touchesBatches_failOp s r _) ⟨dataAns 0x21 r.index r.sub 4 _, _, rfl, Nat.le_of_eq (numBytes_length ..)⟩

theorem State.opBatchAbort_touches (s : State) (o : Origin) (r : OpReq) : TouchesBatches s (s.opBatchAbort o r) :=
  .ite (touchesBatches_failOp s r _) (.ite (touchesBatches_failOp s r _) ⟨bareAns 0x23 .ok 0 0, _, rfl, Nat.zero_le _⟩)

/-- In a quiet state a bare operation that touches the batch slots alone changes nothing outside object access. -/
theorem State.Quiet.runDirect_touchesBatches {s : State} (hq : s.Quiet) {o : Origin} {r : OpReq} (hf : r.flags = 0)
    (hx : TouchesBatches (s.taken o) ((s.taken o).serveOp o s.acc.nextJob r)) : OnlyIn [.access] s (s.runDirect o r) := by
  obtain ⟨a, bs, hserve, hlen⟩ := hx
  obtain ⟨js, -, hrun⟩ := hq.runDirect_answers hf hserve (Nat.le_trans hlen (by decide)) rfl rfl hq.reset
  rw [hrun]
  exact onlyIn_access s _

/-- A BATCH_WRITE in a quiet state changes nothing outside object access, whatever it answers (R132). -/
theorem State.Quiet.batchWrite_onlyIn {s : State} (hq : s.Quiet) (o : Origin) (id i j ty : Nat) (v : List Byte) :
    OnlyIn [.access] s (s.runDirect o (batchReq o id i j ty v)) :=
  hq.runDirect_touchesBatches rfl (State.opBatchWrite_touches ..)

/-- Settles O44: each of the commands is one operation on a batch slot, answered at once. -/
theorem batchCommandsWaitForTheirCommit : Obligations.BatchCommandsWaitForTheirCommit := by
  intro c s t hq hc ht
  rcases hc with ⟨o, rfl⟩ | ⟨o, id, i, j, ty, v, rfl⟩ | ⟨o, id, rfl⟩ | ⟨o, id, flags, len, region, key, data, rfl⟩ |
    ⟨o, id, flags, len, region, key, rfl⟩ | ⟨o, id, set, pos, action, value, mask, rfl⟩ | ⟨o, id, set, pos, rfl⟩ |
    ⟨o, id, set, pos, action, rfl⟩
  all_goals cases ht
  case inl => exact hq.runDirect_touchesBatches rfl (State.opBatchOpen_touches ..)
  case inr.inr.inl => exact hq.runDirect_touchesBatches rfl (State.opBatchAbort_touches ..)
  all_goals exact hq.batchWrite_onlyIn _ _ _ _ _ _

end Sys2Proof.Machine
end

section
/-! Scheduler nodes that have children, and queues that are gone (R129, R289, R301). -/

namespace Sys2Proof.Machine

/-- A node that a node or an egress queue names as its parent draws BUSY (R301). -/
theorem State.destroyBusy_of_parent {s : State} {h : Nat} (hk : handleKind h = 5)
    (hc : (∃ e ∈ s.tm.nodes, e.2.parent = some (handleIndex h)) ∨
      (∃ e ∈ s.tm.queues, e.2.voq = false ∧ e.2.parentNode = handleIndex h)) : s.destroyBusy h = true := by
  simp only [State.destroyBusy, hk, Bool.or_eq_true, List.any_eq_true, Bool.and_eq_true, Bool.not_eq_true', decide_eq_true_eq]
  exact hc

/-- A DESTROY that passes its checks and draws BUSY changes nothing but what its requester sees (R129). -/
theorem State.Quiet.destroy_busy {s : State} (hq : s.Quiet) {o : Origin} {h : Nat} (hh : h < 2 ^ 32)
    (hc : s.checkPlain o (plainReq 0x11 0 0 12 (numBytes o.be h 4)) 12 4 (s.checkAnyHandle h) = .ok) (hb : s.destroyBusy h = true) :
    Completes (.destroy o h) s fun t => OnlyIn [.access] s t ∧
      ∃ rest, t.acc.answers = { origin := o, ans := bareAns 0x11 .busy 0 0 } :: rest := by
  have hnum : numAt o.be (numBytes o.be h 4) 0 4 = h := numAt_numBytes o.be hh
  have hcheck : (s.taken o).checkPlain o (plainReq 0x11 0 0 12 (numBytes o.be h 4)) 12 4 ((s.taken o).checkAnyHandle h) = .ok := hc
  have hbusy : (s.taken o).destroyBusy h = true := hb
  have hserve : (s.taken o).serveOp o s.acc.nextJob (plainReq 0x11 0 0 12 (numBytes o.be h 4)) =
      (s.taken o).failOp (plainReq 0x11 0 0 12 (numBytes o.be h 4)) .busy := by
    change (s.taken o).opDestroy o s.acc.nextJob (plainReq 0x11 0 0 12 (numBytes o.be h 4)) = _
    simp only [State.opDestroy, plainReq, hnum] at hcheck ⊢
    simp only [hcheck, hbusy, ne_eq, not_true_eq_false, if_false, if_true]
  exact ⟨_, rfl, hq.runDirect_refuses rfl hserve⟩

/-! ### A queue whose destruction is done (R289) -/

theorem State.setAttach_queuesRise {s : State} (h : rising s.tm.queues = true) (c : Child) (f : Attach → Attach) :
    rising (s.setAttach c f).tm.queues = true := by
  cases c with
  | queue i =>
    simp only [State.setAttach]
    split
    · exact rising_mput h
    · exact h
  | node i =>
    simp only [State.setAttach]
    split
    · exact h
    · exact h

/-- What leaves a round list leaves the queues in the order of their indices. -/
theorem State.leaveRound_queuesRise {s : State} (h : rising s.tm.queues = true) (n : Nat) (c : Child) :
    rising (State.leaveRound n s c).tm.queues = true := by
  induction n generalizing s c with
  | zero => exact h
  | succ n ih =>
    rw [State.leaveRound]
    split
    · exact h
    · dsimp only
      split
      · exact State.setAttach_queuesRise h c _
      · split
        · refine ih ?_ _
          exact State.setAttach_queuesRise h c _
        · exact State.setAttach_queuesRise h c _

/-- A queue that is removed is gone. -/
theorem State.removeQueue_gone {s : State} (h : rising s.tm.queues = true) (i : Nat) : mget (s.removeQueue i).tm.queues i = none :=
  mget_mdel_same (State.leaveRound_queuesRise h 4 (.queue i))

/-- Removing a queue leaves object access alone. -/
theorem State.removeQueue_acc (s : State) (i : Nat) : (s.removeQueue i).acc = s.acc :=
  On.acc_same (State.removeQueue_keeps (Covers.refl _) .start) rfl

theorem State.localDone_of_none {s : State} (h : s.acc.waiting = []) (p : Unanswered → Bool) : s.localDone p = s := by
  have hsame : { s with acc := { s.acc with waiting := [] } } = s := by rw [← h]
  simpa [State.localDone, h] using hsame

/-- Where object access is as in a quiet state, nothing may be answered and nothing may go on. -/
theorem State.Quiet.settle_eq {s u : State} (hq : s.Quiet) (hacc : u.acc = s.acc) : u.settle = u := by
  have hjobs : idleJobs u.acc.jobs := by
    rw [hacc]
    exact hq.jobs
  have hrequest : u.nextRequest = none := by simpa [State.nextRequest, hacc] using hq.request
  obtain ⟨n, hn⟩ := State.settle_of_none (s := u) (by rw [hacc, hq.waiting])
  rw [hn, State.settleLoop_idle _ hjobs hrequest]

/-- In a quiet state the end of a queue's destruction removes the queue and does nothing more (R289). -/
theorem State.Quiet.queueDestroyDone {s : State} (hq : s.Quiet) {i : Nat} {q : Queue} (hget : mget s.tm.queues i = some q)
    (hadmin : q.admin = .destroying) : exec (.queueDestroyDone i) s = .next (s.removeQueue i) := by
  have hacc := s.removeQueue_acc i
  change execQueueDestroyDone i s = _
  simp only [execQueueDestroyDone, hget, hadmin, ne_eq, not_true_eq_false, if_false]
  rw [State.localDone_of_none (by rw [hacc, hq.waiting]), hq.settle_eq hacc]

/-- Settles O50: a parent draws BUSY, and a queue in destruction is removed when that is done. -/
theorem nodesWithChildrenAreNotDestroyed : Obligations.NodesWithChildrenAreNotDestroyed := by
  refine ⟨?parent, ?queue⟩
  case parent => exact fun o h s hq hh hc hk hchild => hq.destroy_busy hh hc (State.destroyBusy_of_parent hk hchild)
  case queue =>
    exact fun i q s hq hrise hget hadmin => ⟨_, hq.queueDestroyDone hget hadmin, State.removeQueue_gone hrise i⟩

end Sys2Proof.Machine
end

section
/-! Frames of the management ports and object windows (R142 to R149). -/

namespace Sys2Proof.Machine

/-! ### OPEN (R142) -/

/-- An OPEN that verifies and whose nonce is new begins a session of its slot, port and schema, which has applied no request, and keeps
its ACCEPT (R142). -/
theorem State.acceptOpen_opens {s : State} {m : PoaFrame} {slot : Nat} {key : List Byte} (hst : s.acceptStatus m = .ok)
    (hnew : ∀ a ∈ s.acc.accepts, a.slot = slot → a.nonce = slice m.body 4 16 → a.since + 10000000000 ≤ s.now) (p : Nat) :
    ∃ id x, (s.acceptOpen p m slot key).session id = some x ∧ x.id = id ∧ x.slot = slot ∧ x.port = p ∧ x.schema = m.schema ∧ x.high = 0 ∧
      x.lastValid = s.now ∧ ∃ a rest, (s.acceptOpen p m slot key).acc.accepts = a :: rest ∧ a.session = id := by
  have hnone : ((s.acc.accepts.filter fun a => decide (s.now < a.since + 10000000000)).find?
      fun a => decide (a.slot = slot) && decide (a.nonce = slice m.body 4 16)) = none := by
    refine List.find?_eq_none.mpr fun a ha hmatch => ?_
    obtain ⟨hmem, hrecent⟩ := List.mem_filter.mp ha
    obtain ⟨hslot, hnonce⟩ := Bool.and_eq_true_iff.mp hmatch
    have hold := hnew a hmem (of_decide_eq_true hslot) (of_decide_eq_true hnonce)
    have hrecent := of_decide_eq_true hrecent
    omega
  unfold State.acceptOpen
  simp only [hnone, hst, ne_eq, not_true_eq_false, if_false]
  exact ⟨_, _, mget_mput_same, rfl, rfl, rfl, rfl, rfl, rfl, _, _, rfl, rfl⟩

theorem execPoaOpen_opens {p : Nat} {frame : List Byte} {m : PoaFrame} {slot : Nat} {key : List Byte} {s : State} (hm : s.Receives p frame m)
    (hty : m.msgType = 3) (hbody : m.body ≠ []) (hslot : byteAt m.body 0 = slot) (hkey : s.slotKey slot = some key)
    (hverifies : m.verifies key = true) (hrole : s.reg 0x1042 slot ≠ 0) (hst : s.acceptStatus m = .ok)
    (hnew : ∀ a ∈ s.acc.accepts, a.slot = slot → a.nonce = slice m.body 4 16 → a.since + 10000000000 ≤ s.now) :
    Completes (.poaOpen p frame) s fun t => ∃ id x, t.session id = some x ∧ x.id = id ∧ x.slot = slot ∧ x.port = p ∧
      x.schema = m.schema ∧ x.high = 0 ∧ x.lastValid = s.now ∧ ∃ a rest, t.acc.accepts = a :: rest ∧ a.session = id := by
  have htake : s.takeOpen p m = s.acceptOpen p m slot key := by
    simp only [State.takeOpen, if_neg hbody, hslot, hkey, hverifies, hrole, Bool.not_true, Bool.false_eq_true, or_self, if_false]
  exact ⟨_, congrArg Host.Outcome.next ((hm.takeFrame_eq hty _).trans htake), State.acceptOpen_opens hst hnew p⟩

/-! ### CLOSE and REQUEST (R143, R144, R146) -/

theorem execPoaClose_ends {p : Nat} {frame : List Byte} {m : PoaFrame} {x : Session} {s : State} (hm : s.Receives p frame m)
    (hty : m.msgType = 5) (hx : s.validSession m = some x) : Completes (.poaClose p frame) s fun t => t = s.endSession x.id := by
  have htake : s.takeClose p m = s.endSession x.id := by rw [State.takeClose, hx]
  exact ⟨_, congrArg Host.Outcome.next ((hm.takeFrame_eq hty _).trans htake), rfl⟩

theorem PoaFrame.seq_lt (m : PoaFrame) : m.seq < 2 ^ 32 := by
  have h := beNat_lt (slice m.header 8 4)
  rwa [slice_length] at h

/-- A request that is ahead of the last by at most 16, and is not held yet, is held (R146). -/
theorem State.takePoaRequest_holds {p : Nat} {m : PoaFrame} {x : Session} {s : State} (hx : s.validSession m = some x) (hahead : x.high < m.seq)
    (hnear : m.seq ≤ x.high + 16) (hnew : ∀ h ∈ x.held, h.seq ≠ m.seq) : s.takePoaRequest p m =
      ((s.setSession x).setSession { x with held := x.held ++
        [{ seq := m.seq, since := s.now, port := p, mac := m.mac, tag := m.tag, frame := m.header ++ m.body }] }).settle := by
  have hseq := m.seq_lt
  have hdiff : (m.seq + 2 ^ 32 - x.high) % 2 ^ 32 = m.seq - x.high := by omega
  have hfar : ¬(m.seq - x.high = 0 ∨ 2 ^ 32 - 63 ≤ m.seq - x.high) := by omega
  have hwithin : ¬16 < m.seq - x.high := by omega
  have hheld : (x.held.any fun h => decide (h.seq = m.seq)) = false := by simpa using hnew
  simp only [State.takePoaRequest, hx, hdiff, if_neg hfar, if_neg hwithin, hheld, Bool.false_eq_true, if_false]

theorem execPoaRequest_holds {p : Nat} {frame : List Byte} {m : PoaFrame} {x : Session} {s : State} (hm : s.Receives p frame m)
    (hty : m.msgType = 1) (hx : s.validSession m = some x) (hahead : x.high < m.seq) (hnear : m.seq ≤ x.high + 16)
    (hnew : ∀ h ∈ x.held, h.seq ≠ m.seq) : Completes (.poaRequest p frame) s fun t =>
      t = ((s.setSession x).setSession { x with held := x.held ++
        [{ seq := m.seq, since := s.now, port := p, mac := m.mac, tag := m.tag, frame := m.header ++ m.body }] }).settle :=
  ⟨_, congrArg Host.Outcome.next ((hm.takeFrame_eq hty _).trans (State.takePoaRequest_holds hx hahead hnear hnew)), rfl⟩

/-- A held request with a gap below it for 50 ms is dropped (R146). -/
theorem execSeqGapTimeout_drops {k seq : Nat} {x : Session} {h : HeldReq} {s : State} (hx : s.session k = some x) (hid : x.id = k)
    (hfind : (x.held.find? fun h => decide (h.seq = seq)) = some h) (hgap : x.high + 1 < seq) (hseq : seq < 2 ^ 32)
    (hmissing : ∀ y ∈ x.held, y.seq ≠ x.high + 1) : Completes (.seqGapTimeout k seq) s fun t =>
      t.session k = some { x with held := x.held.erase h } ∧ h.since + 50000000 ≤ t.now := by
  have hgapped : (!(List.range ((seq + 2 ^ 32 - x.high) % 2 ^ 32 - 1)).any fun n =>
      !x.held.any fun y => decide (y.seq = (x.high + 1 + n) % 2 ^ 32)) = false := by
    rw [Bool.not_eq_false', List.any_eq_true]
    refine ⟨0, List.mem_range.mpr (by omega), ?_⟩
    simpa [show (x.high + 1) % 4294967296 = x.high + 1 by omega] using hmissing
  refine ⟨((s.reach (h.since + 50000000)).setSession { x with held := x.held.erase h }).dropMgmt h.port, ?_, ?_, ?_⟩
  · change execSeqGapTimeout k seq s = _
    simp only [execSeqGapTimeout, hx, hfind, hgapped, Bool.false_eq_true, if_false]
  · subst hid
    have hacc : (((s.reach (h.since + 50000000)).setSession { x with held := x.held.erase h }).dropMgmt h.port).acc =
        ((s.reach (h.since + 50000000)).setSession { x with held := x.held.erase h }).acc := by simp [State.dropMgmt]
    rw [State.session, hacc]
    exact mget_mput_same
  · have hnow : (((s.reach (h.since + 50000000)).setSession { x with held := x.held.erase h }).dropMgmt h.port).now =
        max s.now (h.since + 50000000) := by simp [State.dropMgmt]; rfl
    rw [hnow]
    exact Nat.le_max_right ..

theorem execSessionIdleExpiry_ends {k : Nat} {x : Session} {s : State} (hx : s.session k = some x) :
    Completes (.sessionIdleExpiry k) s fun t =>
      t.acc.sessions = mdel s.acc.sessions k ∧ x.lastValid + s.reg 0x1040 4 * 1000000000 ≤ t.now := by
  refine ⟨(s.reach (x.lastValid + s.reg 0x1040 4 * 1000000000)).endSession k, ?_, rfl, Nat.le_max_right ..⟩
  change execSessionIdleExpiry k s = _
  rw [execSessionIdleExpiry, hx]

/-! ### Object windows (R149) -/

/-- GO with a SEQ that has not been answered, and a good header and body, makes the window busy and serves its operations (R149). -/
theorem State.winGo_serves {w : Nat} {ops : List OpReq} {s : State} (hw : w < 8) (hmode : s.mode ≠ .dormant) (hbusy : (s.window w).busy = false)
    (hanswered : ((s.window w).answered.all fun a => decide (a.1 ≠ (s.window w).seq)) = true)
    (hschema : (s.window w).schema = s.reg 0x1040 3) (hreserved : s.reg 0x1040 3 < 65536) (hlen : (s.window w).reqLength ≤ 4096)
    (hops : requestOps false (slice (s.window w).req 0 (s.window w).reqLength) = some ops) : s.winGo w =
      ((s.setWindow w { s.window w with busy := true }).newJob (.window w) (.window w (s.window w).seq) false 4096 ops).settle := by
  have hopen : ¬(8 ≤ w ∨ s.mode = .dormant) := by
    rintro (h | h)
    · omega
    · exact hmode h
  have hnew : ((s.window w).answered.filter fun a => decide (a.1 = (s.window w).seq)) = none := by
    cases ha : (s.window w).answered with
    | none => rfl
    | some a =>
      rw [ha] at hanswered
      simpa using hanswered
  have hversion : ¬(s.reg 0x1040 3 / 65536 = 0 ∧
      (s.reg 0x1040 3 / 256 ≠ s.reg 0x1040 3 / 256 ∨ s.reg 0x1040 3 % 256 < s.reg 0x1040 3 % 256)) := by
    omega
  have hform : ¬(s.reg 0x1040 3 / 65536 ≠ 0 ∨ 4096 < (s.window w).reqLength) := by omega
  unfold State.winGo
  simp only [if_neg hopen, hbusy, hnew, hschema, if_neg hversion, if_neg hform, hops, Bool.false_eq_true, if_false]

/-- Settles O9: each frame by its message's rule, each time by what it ends, and GO by the rule of windows. What may be served is served
inside the same command, and WIN_SCHEMA is checked as the schema of an OPEN is: choices of the model (log entries 50 and 69). -/
theorem managementFramesComplete : Obligations.ManagementFramesComplete := by
  refine ⟨?opens, ?closes, ?request, ?gap, ?idle, ?window⟩
  case opens => exact fun _ _ _ _ _ _ h1 h2 h3 h4 h5 h6 h7 h8 h9 => execPoaOpen_opens h1 h2 h3 h4 h5 h6 h7 h8 h9
  case closes => exact fun _ _ _ _ _ h1 h2 h3 => execPoaClose_ends h1 h2 h3
  case request => exact fun _ _ _ _ _ h1 h2 h3 h4 h5 h6 => execPoaRequest_holds h1 h2 h3 h4 h5 h6
  case gap => exact fun _ _ _ _ _ h1 h2 h3 h4 h5 h6 => execSeqGapTimeout_drops h1 h2 h3 h4 h5 h6
  case idle => exact fun _ _ _ h1 => execSessionIdleExpiry_ends h1
  case window => exact fun _ _ _ h1 h2 h3 h4 h5 h6 h7 h8 => ⟨_, congrArg Host.Outcome.next (State.winGo_serves h1 h2 h3 h4 h5 h6 h7 h8), rfl⟩

end Sys2Proof.Machine
end

section
/-! Objects are read, described and listed (R118, R141). -/

namespace Sys2Proof.Machine

/-- A READ that its checks pass gives the object's value (R141). -/
theorem execRead_gives {o : Origin} {i j : Nat} {d : ObjDef} {s : State} (hok : s.checkRead o false i j = .ok) (hd : dictRow i j = some d)
    (hserved : s.restarting i = false) : exec (.read o i j 0) s =
      .next (((s.valueOf o i j d).2).answer o (dataAns 0x01 i j d.ty.code (wireValue o.be d.ty (s.valueOf o i j d).1))) := by
  have hread : s.opRead o i j 0 0 =
      (dataAns 0x01 i j d.ty.code (wireValue o.be d.ty (s.valueOf o i j d).1), (s.valueOf o i j d).2) := by
    rw [State.opRead, hok, hd]
    simp [hserved]
  change execRead o i j 0 s = _
  rw [execRead, hread]

/-- The row of MODE (R72). -/
def modeRow : ObjDef := ⟨0x2000, 0x2000, 1, 1, .enum8, .ro, false, false, false, some (.num 0), .any⟩

theorem dictRow_mode : dictRow 0x2000 1 = some modeRow := by decide +kernel

/-- A READ of MODE gives its code, in the one byte that is the same on every path (R36). -/
theorem execRead_mode {o : Origin} {s : State} (hok : s.checkRead o false 0x2000 1 = .ok) (hserved : s.restarting 0x2000 = false) :
    exec (.read o 0x2000 1 0) s =
      .next (s.answer o (dataAns 0x01 0x2000 1 (typeOf 0x2000 1).code [BitVec.ofNat 8 s.mode.code])) := by
  have hvalue : s.valueOf o 0x2000 1 modeRow = ([BitVec.ofNat 8 s.mode.code], s) := rfl
  have hwire : wireValue o.be modeRow.ty [BitVec.ofNat 8 s.mode.code] = [BitVec.ofNat 8 s.mode.code] := by cases o <;> rfl
  rw [execRead_gives hok dictRow_mode hserved, hvalue, hwire, typeOf, dictRow_mode]
  rfl

/-- A DESCRIBE that its checks pass gives the object's row (R141). -/
theorem execDescribe_gives {o : Origin} {i j : Nat} {d : ObjDef} {s : State} (hok : s.checkDescribe o i j = .ok) (hd : dictRow i j = some d)
    (hserved : s.restarting i = false) :
    exec (.describe o i j) s = .next (s.answer o (dataAns 0x05 i j 10 (describeData o.be d i j))) := by
  have hdescribe : s.opDescribe o i j 0 0 = dataAns 0x05 i j 10 (describeData o.be d i j) := by
    rw [State.opDescribe, hok, hd]
    simp [hserved]
  exact congrArg (fun a => Host.Outcome.next (s.answer o a)) hdescribe

/-- NEXT names the first object that exists after its starting point (R141). -/
theorem execNext_names {o : Origin} {i j i' j' : Nat} {s : State} (hrole : s.roleOf o ≠ 0)
    (hnext : State.nextObject 65537 s i (j + 1) = some (i', j')) :
    exec (.next o i j) s = .next (s.answer o (bareAns 0x06 .ok i' j')) := by
  have hnamed : s.opNext o i j 0 0 = bareAns 0x06 .ok i' j' := by
    rw [State.opNext, if_neg hrole, if_neg (by simp), hnext]
  exact congrArg (fun a => Host.Outcome.next (s.answer o a)) hnamed

end Sys2Proof.Machine
end

section
/-! A WRITE of a value that a P object stores, and one of an epoch-versioned object (R120, R124, R132). -/

namespace Sys2Proof.Machine

/-! ### The times that a port holds a change of its link for (R441) -/

/-- LINK_DOWN_HOLD_US or LINK_UP_HOLD_MS: a register whose write has no rule but its value (R441). -/
def holdTime (i : Nat) : Prop := i = 0x3005 ∨ i = 0x3006

/-- Every row of the dictionary at these indices is a U32 that may be read and written, and is kept in flash. -/
theorem holdTime_row {i j : Nat} {d : ObjDef} (hi : holdTime i) (hd : dictRow i j = some d) :
    d.ty = .u32 ∧ d.access = .rw ∧ d.p = true := by
  have hall : (dictionary.all fun d => !decide (d.idxLo ≤ 0x3006 ∧ 0x3005 ≤ d.idxHi) ||
      (decide (d.ty = .u32) && decide (d.access = .rw) && d.p)) = true := by decide +kernel
  have hrow := List.find?_some hd
  have hgood := List.all_eq_true.mp hall d (List.mem_of_find?_eq_some hd)
  simp only [decide_eq_true_eq] at hrow
  have hnear : d.idxLo ≤ 0x3006 ∧ 0x3005 ≤ d.idxHi := by
    rcases hi with rfl | rfl <;> omega
  simpa [hnear, and_assoc] using hgood

theorem holdTime_unversioned {i : Nat} (hi : holdTime i) (j : Nat) : versioned i j = false := by
  rcases hi with rfl | rfl <;> simp [versioned]

/-- The rule of such a register stores the value. -/
theorem State.writeEffect_holdTime {i j : Nat} (hi : holdTime i) (hty : typeOf i j = .u32) (s : State) (o : Origin) (c : List Byte) :
    s.writeEffect o i j c = (.ok, s.setReg i j (beNat c)) := by
  have hstore (s : State) : s.storeValue i j c = s.setReg i j (beNat c) := by rw [State.storeValue, hty]
  have hplain : s.writeEffect o i j c = (.ok, s.storeValue i j c) := by
    rcases hi with rfl | rfl <;> rfl
  rw [hplain, hstore]

/-! ### A write that is applied (R120, R134, R137) -/

/-- A state in which other answers wait. -/
def State.withWaiting (s : State) (ws : List Unanswered) : State := { s with acc := { s.acc with waiting := ws } }

/-- An answer that needs a flash record waits. -/
theorem State.holdAnswer_flash (s : State) (job : Nat) (a : OpAns) (ticket : Option Nat) :
    ∃ ws, s.holdAnswer job a true ticket = (none, s.withWaiting ws) := ⟨_, rfl⟩

/-- A write of a P object that its rule applied waits for its flash record. What is noted of it and told the mate leaves every part but
the epochs, the pair and what left as it was (R120, R134, R137). -/
theorem State.endApplied_waits {s : State} {o : Origin} {job : Nat} {r : OpReq} {c : List Byte} {d : ObjDef}
    (hd : dictRow r.index r.sub = some d) (hp : d.p = true) (hrw : d.access = .rw) :
    ∃ u ws, On inS 0x20208 s u ∧ s.endApplied o job r c = (none, u.withWaiting ws) := by
  have hnoted : s.noteWrite o r.index r.sub .ok = s := by simp [State.noteWrite, hd, hrw]
  have hflash : (s.needsWait r.index r.sub).1 = true := by simp [State.needsWait, hd, hp, hrw]
  let told := ((s.writeTargets r.index r.sub c).foldl State.noteChange s).announce r.index r.sub c
  have htold : On (inFst inS) 0x20208 s told :=
    State.announce_keeps (.of_land rfl) (.foldl .start fun _ _ h => State.noteChange_keeps (.of_land rfl) h)
  obtain ⟨ws, hws⟩ := told.1.holdAnswer_flash job (bareAns r.opcode .ok r.index r.sub) told.2
  refine ⟨told.1, ws, On.fst htold, ?_⟩
  rw [State.endApplied, hnoted, hflash]
  exact hws

theorem canonical_length (be : Bool) (ty : ObjType) (v : List Byte) : (canonical be ty v).length = v.length := by
  unfold canonical
  split
  · rfl
  · rfl
  · rfl
  · split
    · rfl
    · exact List.length_reverse

/-- The value of a WRITE that its checks pass goes to its object's rule (R124, R152). -/
theorem State.opWrite_applied {s u : State} {o : Origin} {job i j : Nat} {v : List Byte} (hv : versioned i j = false)
    (hok : s.checkWrite o i j v = .ok) (hx : s.writeEffect o i j (canonical o.be (typeOf i j) v) = (.ok, u)) :
    s.opWrite o job (plainReq 0x02 i j (typeOf i j).code v) =
      u.endApplied o job (plainReq 0x02 i j (typeOf i j).code v) (canonical o.be (typeOf i j) v) := by
  have htarget : s.checkTargetFor false (s.roleOf o) i j v.length = .ok := by
    rw [← canonical_length o.be (typeOf i j) v]
    by_contra hbad
    exact hbad ((State.checkCanonical_of_target hbad).symm.trans hok)
  have hstatus : s.opStatus (s.roleOf o) i j (canonical o.be (typeOf i j) v) = .ok := by
    rw [State.opStatus, hv]
    exact hok
  simp only [State.opWrite, plainReq, htarget, hstatus, hv, hx, ne_eq, not_true_eq_false, if_false, Bool.false_eq_true]

/-- In a quiet state a WRITE of a register that its checks pass stores the value, whether or not its answer must wait (R124). -/
theorem State.Quiet.write_holdTime {s : State} (hq : s.Quiet) (hs : s.StoresRise) {o : Origin} {i j : Nat} {v : List Byte}
    (hi : holdTime i) (hok : s.checkWrite o i j v = .ok) :
    (s.runDirect o (plainReq 0x02 i j (typeOf i j).code v)).reg i j = beNat (canonical o.be (typeOf i j) v) := by
  obtain ⟨d, hd⟩ := State.dictRow_of_checkWrite hok
  obtain ⟨hty, hrw, hp⟩ := holdTime_row hi hd
  have htype : typeOf i j = .u32 := by rw [typeOf, hd]; exact hty
  let r := plainReq 0x02 i j (typeOf i j).code v
  obtain ⟨u, ws, hu, hwaits⟩ := State.endApplied_waits (s := (s.taken o).setReg i j (beNat (canonical o.be (typeOf i j) v))) (o := o)
    (job := s.acc.nextJob) (r := r) (c := canonical o.be (typeOf i j) v) hd hp hrw
  have hserve : (s.taken o).serveOp o s.acc.nextJob r = (none, u.withWaiting ws) :=
    (State.opWrite_applied (s := s.taken o) (holdTime_unversioned hi j) hok (State.writeEffect_holdTime hi htype _ o _)).trans hwaits
  have hacc : u.acc = (s.taken o).acc := hu.acc_same rfl
  have hjobs : (u.withWaiting ws).acc.jobs = (s.taken o).acc.jobs := by rw [State.withWaiting, hacc]
  have hsessions : (u.withWaiting ws).acc.sessions = s.acc.sessions := by
    rw [State.withWaiting, hacc]
    rfl
  have hpage : (0x20208 : Nat).testBit (32 + i / 256 % 256) = false := by rcases hi with rfl | rfl <;> rfl
  rw [hq.runDirect_waits rfl hserve hjobs hsessions]
  exact (hu.reg_same j hpage).trans (State.setReg_reg _ i j _ hs.objs)

/-- In a quiet state a WRITE of an epoch-versioned object that its checks pass is a batch of one, which waits for its commit (R124, R132). -/
theorem State.Quiet.write_versioned {s : State} (hq : s.Quiet) {o : Origin} {i j : Nat} {v : List Byte} (hv : versioned i j = true)
    (htarget : s.checkTargetFor false (s.roleOf o) i j v.length = .ok)
    (hstatus : s.opStatus (s.roleOf o) i j (canonical o.be (typeOf i j) v) = .ok) :
    (s.runDirect o (plainReq 0x02 i j (typeOf i j).code v)).epochs.queue = s.epochs.queue ++
      [.one { origin := o, index := i, sub := j, data := canonical o.be (typeOf i j) v } s.acc.nextJob] := by
  have htarget' : (s.taken o).checkTargetFor false ((s.taken o).roleOf o) i j v.length = .ok := htarget
  have hstatus' : (s.taken o).opStatus ((s.taken o).roleOf o) i j (canonical o.be (typeOf i j) v) = .ok := hstatus
  have hserve : (s.taken o).serveOp o s.acc.nextJob (plainReq 0x02 i j (typeOf i j).code v) =
      (none, (s.taken o).enqueueCommit (.one { origin := o, index := i, sub := j, data := canonical o.be (typeOf i j) v } s.acc.nextJob)) := by
    change (s.taken o).opWrite o s.acc.nextJob (plainReq 0x02 i j (typeOf i j).code v) = _
    simp only [State.opWrite, plainReq, htarget', hstatus', hv, ne_eq, not_true_eq_false, if_false, if_true]
  rw [hq.runDirect_waits rfl hserve rfl rfl]
  rfl

end Sys2Proof.Machine
end

section
/-! BLOBs in segments, the ends of what a requester holds, and channels that are destroyed (R120, R127, R129, R289). -/

namespace Sys2Proof.Machine

/-! ### READ_SEGMENT and WRITE_SEGMENT (R127) -/

/-- A number sent in the byte order of a path is read back from its place among other bytes (R3). -/
theorem numAt_between {a : List Byte} {off n k : Nat} (be : Bool) (ha : a.length = off) (h : n < 256 ^ k) (b : List Byte) :
    numAt be (a ++ (numBytes be n k ++ b)) off k = n := by
  have hslice : slice (a ++ (numBytes be n k ++ b)) off k = slice (numBytes be n k) 0 k := by
    rw [slice_between ha (numBytes_length be n k), slice_self (numBytes_length be n k)]
  calc numAt be (a ++ (numBytes be n k ++ b)) off k
    _ = numAt be (numBytes be n k) 0 k := by simp only [numAt, beAt, leAt, hslice]
    _ = n := numAt_numBytes be h

theorem numAt_append_left {n k : Nat} (be : Bool) (h : n < 256 ^ k) (b : List Byte) : numAt be (numBytes be n k ++ b) 0 k = n :=
  numAt_between (a := []) be rfl h b

theorem numAt_append_right {a : List Byte} {n k off : Nat} (be : Bool) (ha : a.length = off) (h : n < 256 ^ k) :
    numAt be (a ++ numBytes be n k) off k = n := by
  simpa using numAt_between be ha h []

/-- The BLOB as it stands is the requester's copy of it, in place of an older one (R127). -/
def State.copyBlob (s : State) (o : Origin) (i j : Nat) : State :=
  { s with acc := { s.acc with copies := { origin := o, index := i, sub := j, bytes := s.blobValue i j, last := s.now } ::
      (s.acc.copies.filter fun h => !h.isOf o i j) } }

/-- A READ_SEGMENT from the start of a BLOB copies it, and answers with its length and its first bytes (R127). -/
theorem State.opReadSegment_copies {s : State} {o : Origin} {i j count : Nat} (hok : s.checkRead o true i j = .ok)
    (hserved : s.restarting i = false) (hpos : 1 ≤ count) (hmax : count ≤ 1024) :
    s.opReadSegment o (plainReq 0x03 i j 10 (numBytes o.be 0 4 ++ numBytes o.be count 2)) =
      (some (dataAns 0x03 i j 10 (numBytes o.be (s.blobValue i j).length 4 ++
        slice (s.blobValue i j) 0 (Nat.min count ((s.blobValue i j).length - 0)))), s.copyBlob o i j) := by
  have hoff : numAt o.be (numBytes o.be 0 4 ++ numBytes o.be count 2) 0 4 = 0 := numAt_append_left o.be (by decide) _
  have hcount : numAt o.be (numBytes o.be 0 4 ++ numBytes o.be count 2) 4 2 = count :=
    numAt_append_right o.be (numBytes_length ..) (by omega)
  have hlen : (numBytes o.be 0 4 ++ numBytes o.be count 2).length = 6 := by
    rw [List.length_append, numBytes_length, numBytes_length]
  have hwithin : ¬(count = 0 ∨ 1024 < count ∨ (s.blobValue i j).length < 0) := by omega
  simp only [State.opReadSegment, plainReq, hok, hoff, hcount, hlen, ne_eq, not_true_eq_false, or_self, if_false, if_true, if_neg hwithin,
    hserved, Bool.false_eq_true]
  rfl

theorem State.Quiet.readSegment_copies {s : State} (hq : s.Quiet) {o : Origin} {i j count : Nat} (hok : s.checkRead o true i j = .ok)
    (hserved : s.restarting i = false) (hpos : 1 ≤ count) (hmax : count ≤ 1024) : Completes (.readSegment o i j 0 count) s fun t =>
      ∃ rest, t.acc.copies = { origin := o, index := i, sub := j, bytes := s.blobValue i j, last := s.now } :: rest := by
  have hserve : (s.taken o).serveOp o s.acc.nextJob (plainReq 0x03 i j 10 (numBytes o.be 0 4 ++ numBytes o.be count 2)) = _ :=
    State.opReadSegment_copies hok hserved hpos hmax
  have hroom (b : List Byte) : (numBytes o.be b.length 4 ++ slice b 0 (Nat.min count (b.length - 0))).length ≤ 65528 := by
    have hmin : Nat.min count (b.length - 0) ≤ count := Nat.min_le_left ..
    rw [List.length_append, numBytes_length, slice_length]
    omega
  obtain ⟨js, -, hrun⟩ := hq.runDirect_answers rfl hserve (hroom _) rfl rfl hq.reset
  exact ⟨_, congrArg Host.Outcome.next hrun, _, rfl⟩

/-- A value that the requester begins to write, in place of an older one (R127). -/
def State.beginPartial (s : State) (o : Origin) (i j : Nat) (bytes : List Byte) : State :=
  { s with acc := { s.acc with partials := { origin := o, index := i, sub := j, bytes := bytes, last := s.now } ::
      (s.acc.partials.filter fun h => !h.isOf o i j) } }

/-- A first segment without LAST that its BLOB has room for begins a value (R127). -/
theorem State.addSegment_begins {s : State} {o : Origin} {job i j : Nat} {bytes data : List Byte} (himage : i ≠ 0x4200)
    (hserved : s.restarting i = false) (hfits : ∀ d n, dictRow i j = some d → d.limits = .maxLen n → bytes.length ≤ n) :
    s.addSegment o job (plainReq 0x04 i j 10 data) 0 bytes = (some (bareAns 0x04 .ok i j), s.beginPartial o i j bytes) := by
  unfold State.addSegment
  simp only [plainReq, if_true, List.nil_append, hserved, himage, Bool.false_eq_true, false_and, or_self, if_false, Nat.zero_mod]
  split
  next hlong =>
    obtain ⟨d, hd, hpast⟩ := Option.any_eq_true .. |>.mp hlong
    split at hpast
    next n hn => exact absurd (hfits d n hd hn) (Nat.not_le.mpr (of_decide_eq_true hpast))
    next => cases hpast
  next => rfl

theorem State.opWriteSegment_begins {s : State} {o : Origin} {job i j : Nat} {bytes : List Byte}
    (hok : s.checkTargetFor true (s.roleOf o) i j (bytes.length + 4) = .ok) (himage : i ≠ 0x4200) (hstage : i ≠ 0xE010)
    (hserved : s.restarting i = false) (hmax : bytes.length ≤ 1024)
    (hfits : ∀ d n, dictRow i j = some d → d.limits = .maxLen n → bytes.length ≤ n) :
    s.opWriteSegment o job (plainReq 0x04 i j 10 (numBytes o.be 0 4 ++ bytes)) =
      (some (bareAns 0x04 .ok i j), s.beginPartial o i j bytes) := by
  have hoff : numAt o.be (numBytes o.be 0 4 ++ bytes) 0 4 = 0 := numAt_append_left o.be (by decide) _
  have hlen : (numBytes o.be 0 4 ++ bytes).length = bytes.length + 4 := by
    rw [List.length_append, numBytes_length, Nat.add_comm]
  have hseg : (numBytes o.be 0 4 ++ bytes).drop 4 = bytes := List.drop_left' (numBytes_length ..)
  have hform : ¬(10 ≠ 10 ∨ bytes.length + 4 < 4) := by omega
  have hwithin : ¬(1024 < bytes.length ∨ 1 < 0) := by omega
  have hadd := State.addSegment_begins (o := o) (job := job) (data := numBytes o.be 0 4 ++ bytes) himage hserved hfits
  simp only [State.opWriteSegment, plainReq, hlen, hok, hoff, hseg, if_neg hform, if_neg hwithin, hstage, false_and, if_false]
  exact hadd

theorem State.Quiet.writeSegment_begins {s : State} (hq : s.Quiet) {o : Origin} {i j : Nat} {bytes : List Byte}
    (hok : s.checkTargetFor true (s.roleOf o) i j (bytes.length + 4) = .ok) (himage : i ≠ 0x4200) (hstage : i ≠ 0xE010)
    (hserved : s.restarting i = false) (hmax : bytes.length ≤ 1024)
    (hfits : ∀ d n, dictRow i j = some d → d.limits = .maxLen n → bytes.length ≤ n) :
    Completes (.writeSegment o i j 0 0 bytes) s fun t =>
      ∃ rest, t.acc.partials = { origin := o, index := i, sub := j, bytes := bytes, last := s.now } :: rest := by
  have hserve : (s.taken o).serveOp o s.acc.nextJob (plainReq 0x04 i j 10 (numBytes o.be 0 4 ++ bytes)) = _ :=
    State.opWriteSegment_begins hok himage hstage hserved hmax hfits
  obtain ⟨js, -, hrun⟩ := hq.runDirect_answers rfl hserve (Nat.zero_le _) rfl rfl hq.reset
  exact ⟨_, congrArg Host.Outcome.next hrun, _, rfl⟩

/-! ### The ends of copies and of unfinished values (R127) -/

/-- What a requester held of an object is gone once it is left out. -/
theorem find?_left_out (l : List BlobHold) (o : Origin) (i j : Nat) : (l.filter fun h => !h.isOf o i j).find? (·.isOf o i j) = none :=
  List.find?_eq_none.mpr fun _ hh => by simpa using (List.mem_filter.mp hh).2

theorem execBlobSegmentTimeout_drops {o : Origin} {i j : Nat} {h : BlobHold} {s : State}
    (hh : s.acc.partials.find? (·.isOf o i j) = some h) : Completes (.blobSegmentTimeout o i j) s fun t =>
      t.acc.partials.find? (·.isOf o i j) = none ∧ h.last + 10000000000 ≤ t.now := by
  refine ⟨(s.reach (h.last + 10000000000)).dropPartial o i j, ?_, find?_left_out .., Nat.le_max_right ..⟩
  change execBlobSegmentTimeout o i j s = _
  rw [execBlobSegmentTimeout, hh]

theorem execBlobCopyExpiry_drops {o : Origin} {i j : Nat} {h : BlobHold} {s : State}
    (hh : s.acc.copies.find? (·.isOf o i j) = some h) : Completes (.blobCopyExpiry o i j) s fun t =>
      t.acc.copies.find? (·.isOf o i j) = none ∧ h.last + 10000000000 ≤ t.now := by
  let s1 := s.reach (h.last + 10000000000)
  refine ⟨{ s1 with acc := { s1.acc with copies := s1.acc.copies.filter fun x => !x.isOf o i j } }, ?_, find?_left_out .., Nat.le_max_right ..⟩
  change execBlobCopyExpiry o i j s = _
  rw [execBlobCopyExpiry, hh]

/-! ### Flash records (R120) -/

/-- The record of an object changes the flash and what is saved of the HBM, and leaves object access alone (R120). -/
theorem State.recordP_acc (s : State) (i j : Nat) : (s.recordP i j).acc = s.acc := by
  unfold State.recordP
  split
  · rfl
  · split <;> rfl

theorem State.Quiet.pObjectRecorded {s : State} (hq : s.Quiet) {i j : Nat} {d : ObjDef} (hd : dictRow i j = some d) (hp : d.p = true)
    (hro : d.access ≠ .ro) : exec (.pObjectRecorded i j) s = .next (s.recordP i j) := by
  have hacc := s.recordP_acc i j
  have hflash : (dictRow i j).any (fun d => d.p && decide (d.access ≠ .ro)) = true := by simp [hd, hp, hro]
  change execPObjectRecorded i j s = _
  simp only [execPObjectRecorded, hflash, Bool.not_true, Bool.false_eq_true, if_false]
  rw [State.localDone_of_none (by rw [hacc, hq.waiting]), hq.settle_eq hacc]

/-! ### DESTROY (R129) -/

/-- In a quiet state a DESTROY of a channel other than a queue that passes its checks tells the mate and removes the channel; beside
object access nothing else changes (R129, R137). -/
theorem State.Quiet.destroy_removes {s : State} (hq : s.Quiet) {o : Origin} {h : Nat} (hh : h < 2 ^ 32) (hk : handleKind h ≠ 1)
    (hc : s.checkPlain o (plainReq 0x11 0 0 12 (numBytes o.be h 4)) 12 4 (s.checkAnyHandle h) = .ok) (hb : s.destroyBusy h = false) :
    ∃ u x, On inS 0x20200 (s.taken o) u ∧
      s.runDirect o (plainReq 0x11 0 0 12 (numBytes o.be h 4)) = { u.removeChannel h with acc := x } := by
  obtain ⟨u, ticket, hu, hdestroy⟩ := State.opDestroy_removes (s := s.taken o) (job := s.acc.nextJob)
    (numAt_numBytes (k := 4) o.be hh) hc hb hk
  have hserve : (s.taken o).serveOp o s.acc.nextJob (plainReq 0x11 0 0 12 (numBytes o.be h 4))
      = (u.removeChannel h).holdAnswer s.acc.nextJob (bareAns 0x11 .ok 0 0) false ticket := hdestroy
  have hacc : (u.removeChannel h).acc = (s.taken o).acc := (u.removeChannel_acc h).trans (hu.acc_same rfl)
  have hjobs : (u.removeChannel h).acc.jobs = (s.taken o).acc.jobs := by rw [hacc]
  have hsessions : (u.removeChannel h).acc.sessions = s.acc.sessions := by rw [hacc]; rfl
  have hreset : (u.removeChannel h).acc.resetDue = 0 := by rw [hacc]; exact hq.reset
  rcases (u.removeChannel h).holdAnswer_cases s.acc.nextJob (bareAns 0x11 .ok 0 0) false ticket with hnow | ⟨w, hlater⟩
  · obtain ⟨js, -, hrun⟩ := hq.runDirect_answers rfl (hserve.trans hnow) (Nat.zero_le _) hjobs hsessions hreset
    exact ⟨u, _, hu, hrun⟩
  · exact ⟨u, _, hu, hq.runDirect_waits rfl (hserve.trans hlater) hjobs hsessions⟩

theorem State.removeChannel_meter {s : State} {h : Nat} (hk : handleKind h = 3) :
    s.removeChannel h = ({ s with meters := mdel s.meters (handleIndex h) }).nextGen 3 (handleIndex h) := by
  simp only [State.removeChannel, hk]

/-- A DESTROY of a meter takes it away, and the generation of its index goes up (R5, R129). -/
theorem State.Quiet.destroy_meter {s : State} (hq : s.Quiet) {o : Origin} {h : Nat} (hh : h < 2 ^ 32)
    (hc : s.checkPlain o (plainReq 0x11 0 0 12 (numBytes o.be h 4)) 12 4 (s.checkAnyHandle h) = .ok) (hk : handleKind h = 3)
    (hb : s.destroyBusy h = false) : Completes (.destroy o h) s fun t =>
      t.meters = mdel s.meters (handleIndex h) ∧ t.gens = (s.nextGen 3 (handleIndex h)).gens := by
  obtain ⟨u, x, hu, hrun⟩ := hq.destroy_removes hh (by omega) hc hb
  have hmeters : u.meters = s.meters := hu.meters_same rfl
  have hgens : u.gens = s.gens := hu.gens_same rfl
  refine ⟨_, congrArg Host.Outcome.next hrun, ?_, ?_⟩
  · rw [State.removeChannel_meter hk, ← hmeters]
    rfl
  · rw [State.removeChannel_meter hk]
    exact State.nextGen_gens_congr hgens 3 (handleIndex h)

/-- Settles O10: reads give what their object holds, writes go to its rule or wait for their commit, and each time and record ends what it
ends. It rests on choices of the model: a flash record is served in every mode (log entry 29), a value is dropped 10 s after it was begun
(log entry 61), and NEXT serves every mode (log entry 114). -/
theorem objectOperationsComplete : Obligations.ObjectOperationsComplete := by
  refine ⟨?read, ?mode, ?write, ?versioned, ?readSegment, ?writeSegment, ?segmentTimeout, ?copyExpiry, ?recorded, ?describe, ?next, ?destroy,
    ?destroyDone⟩
  case read => exact fun _ _ _ _ _ h1 h2 h3 => ⟨_, execRead_gives h1 h2 h3, rfl⟩
  case mode => exact fun _ _ h1 h2 => ⟨_, execRead_mode h1 h2, rfl⟩
  case write => exact fun _ _ _ _ _ hs hq hi hok => ⟨_, rfl, hq.write_holdTime hs (by simpa [holdTime] using hi) hok⟩
  case versioned => exact fun _ _ _ _ _ hq h1 h2 h3 => ⟨_, rfl, hq.write_versioned h1 h2 h3⟩
  case readSegment => exact fun _ _ _ _ _ hq h1 h2 h3 h4 => hq.readSegment_copies h1 h2 h3 h4
  case writeSegment => exact fun _ _ _ _ _ hq h1 h2 h3 h4 h5 h6 => hq.writeSegment_begins h1 h2 h3 h4 h5 h6
  case segmentTimeout => exact fun _ _ _ _ _ h1 => execBlobSegmentTimeout_drops h1
  case copyExpiry => exact fun _ _ _ _ _ h1 => execBlobCopyExpiry_drops h1
  case recorded => exact fun _ _ _ _ hq h1 h2 h3 => ⟨_, hq.pObjectRecorded h1 h2 h3, rfl⟩
  case describe => exact fun _ _ _ _ _ h1 h2 h3 => ⟨_, execDescribe_gives h1 h2 h3, rfl⟩
  case next => exact fun _ _ _ _ _ _ h1 h2 => ⟨_, execNext_names h1 h2, rfl⟩
  case destroy => exact fun _ _ _ hq h1 h2 h3 h4 => hq.destroy_meter h1 h2 h3 h4
  case destroyDone => exact fun _ _ _ hq h1 h2 => ⟨_, hq.queueDestroyDone h1 h2, rfl⟩

end Sys2Proof.Machine
end

section
/-! The status of a write does not depend on the requests that are under way: each effect of a write that is not epoch-versioned draws, in
the state in which a bare operation is served, the status that it draws before (R152). -/

namespace Sys2Proof.Machine

/-! ### Two results with one status -/

/-- Two results of an effect carry one status. -/
def SameStatus {α : Type} (x y : Status × α) : Prop := x.1 = y.1

/-- Two results of a query carry one status, and answers that begin with one byte. -/
def SameAnswer {α : Type} (x y : Status × List Byte × α) : Prop := x.1 = y.1 ∧ byteAt x.2.1 0 = byteAt y.2.1 0

theorem SameStatus.same {α : Type} {st : Status} {a b : α} : SameStatus (st, a) (st, b) := rfl

theorem SameStatus.ite {α : Type} {p : Prop} {hp hq : Decidable p} {x y z w : Status × α} (hyes : SameStatus x z) (hno : SameStatus y w) :
    SameStatus (@ite _ p hp x y) (@ite _ p hq z w) := by
  by_cases h : p
  · rwa [if_pos h, if_pos h]
  · rwa [if_neg h, if_neg h]

theorem SameAnswer.same {α : Type} {st : Status} {l : List Byte} {a b : α} : SameAnswer (st, l, a) (st, l, b) := ⟨rfl, rfl⟩

theorem SameAnswer.ite {α : Type} {p : Prop} {hp hq : Decidable p} {x y z w : Status × List Byte × α} (hyes : SameAnswer x z)
    (hno : SameAnswer y w) : SameAnswer (@ite _ p hp x y) (@ite _ p hq z w) := by
  by_cases h : p
  · rwa [if_pos h, if_pos h]
  · rwa [if_neg h, if_neg h]

/-- The status that a query draws follows from its own status and the first byte of its answer (log entry 13). -/
theorem SameAnswer.into {x y : Status × List Byte × State} {o : Origin} {i j : Nat} (h : SameAnswer x y) :
    SameStatus (State.answerInto o i j x) (State.answerInto o i j y) := by
  obtain ⟨hst, hfirst⟩ := h
  unfold State.answerInto
  rw [← hst]
  split
  · exact congrArg drawnBy hfirst
  · rfl

/-! ### What a served operation finds unchanged -/

section
variable (s : State) (from' o : Origin) (c : List Byte) (n : Nat)

@[simp] theorem State.taken_tm : (s.taken from').tm = s.tm := rfl
@[simp] theorem State.taken_tables : (s.taken from').tables = s.tables := rfl
@[simp] theorem State.taken_meters : (s.taken from').meters = s.meters := rfl
@[simp] theorem State.taken_fw : (s.taken from').fw = s.fw := rfl
@[simp] theorem State.taken_stats : (s.taken from').stats = s.stats := rfl
@[simp] theorem State.taken_mode : (s.taken from').mode = s.mode := rfl
@[simp] theorem State.taken_stageState : (s.taken from').stageState = s.stageState := rfl
@[simp] theorem State.taken_checkHandle (k h : Nat) : (s.taken from').checkHandle k h = s.checkHandle k h := rfl
@[simp] theorem State.taken_chan (k : Nat) : (s.taken from').chan k = s.chan k := rfl
@[simp] theorem State.taken_targetOf (h : Nat) : (s.taken from').targetOf h = s.targetOf h := rfl
@[simp] theorem State.taken_attach (ch : Child) : (s.taken from').attach ch = s.attach ch := rfl
@[simp] theorem State.taken_checkIter (id ri : Nat) : (s.taken from').checkIter id ri = s.checkIter id ri := rfl

/-! ### Commands of one object each -/

theorem resetRequestEffect_taken : SameStatus (resetRequestEffect c (s.taken from')) (resetRequestEffect c s) :=
  .ite (.ite .same .same) (.ite .same .same)

theorem ptpStepEffect_taken : SameStatus (ptpStepEffect c (s.taken from')) (ptpStepEffect c s) :=
  .same

theorem watchUsEffect_taken : SameStatus (watchUsEffect c (s.taken from')) (watchUsEffect c s) :=
  .same

theorem switchoverEffect_taken : SameStatus (switchoverEffect c (s.taken from')) (switchoverEffect c s) :=
  .ite .same (.ite .same (.ite .same .same))

theorem faultRequestEffect_taken : SameStatus (faultRequestEffect c (s.taken from')) (faultRequestEffect c s) :=
  .ite .same (.ite .same .same)

theorem integratorRestartEffect_taken : SameStatus (integratorRestartEffect c (s.taken from')) (integratorRestartEffect c s) :=
  .ite .same (.ite .same .same)

theorem snapshotEffect_taken : SameStatus (snapshotEffect c (s.taken from')) (snapshotEffect c s) :=
  .ite .same (.ite .same .same)

theorem ringResetEffect_taken : SameStatus (ringResetEffect c (s.taken from')) (ringResetEffect c s) :=
  .same

theorem patternStartEffect_taken : SameStatus (patternStartEffect o c (s.taken from')) (patternStartEffect o c s) :=
  .ite .same (.ite .same (.ite .same (.ite .same .same)))

theorem bistStartEffect_taken : SameStatus (bistStartEffect c (s.taken from')) (bistStartEffect c s) :=
  .ite .same (.ite .same .same)

theorem healthClearEffect_taken : SameStatus (healthClearEffect c (s.taken from')) (healthClearEffect c s) :=
  .ite .same .same

theorem activateEffect_taken : SameStatus (activateEffect c (s.taken from')) (activateEffect c s) :=
  .ite .same (.ite .same (.ite .same (.ite .same .same)))

theorem revertEffect_taken : SameStatus (revertEffect c (s.taken from')) (revertEffect c s) :=
  .ite .same .same

theorem rereadEffect_taken : SameStatus (rereadEffect n c (s.taken from')) (rereadEffect n c s) :=
  .ite .same .same

theorem portModeEffect_taken : SameStatus (portModeEffect n c (s.taken from')) (portModeEffect n c s) :=
  .ite .same (.ite .same (.ite .same .same))

theorem portSliceEffect_taken : SameStatus (portSliceEffect n c (s.taken from')) (portSliceEffect n c s) :=
  .ite .same .same

theorem portAdminEffect_taken : SameStatus (portAdminEffect n c (s.taken from')) (portAdminEffect n c s) :=
  .ite .same (.ite (.ite .same .same) .same)

theorem stampPopEffect_taken : SameStatus (stampPopEffect o n c (s.taken from')) (stampPopEffect o n c s) :=
  .ite .same .same

theorem hbmDelaysEffect_taken : SameStatus (hbmDelaysEffect n c (s.taken from')) (hbmDelaysEffect n c s) :=
  .ite .same .same

theorem watchQueueEffect_taken : SameStatus (watchQueueEffect n c (s.taken from')) (watchQueueEffect n c s) :=
  .same

theorem windowPortEffect_taken : SameStatus (windowPortEffect n c (s.taken from')) (windowPortEffect n c s) :=
  .ite .same (.ite .same .same)

theorem windowEnableEffect_taken : SameStatus (windowEnableEffect n c (s.taken from')) (windowEnableEffect n c s) :=
  .ite .same (.ite .same .same)

theorem lockForceEffect_taken : SameStatus (lockForceEffect n c (s.taken from')) (lockForceEffect n c s) :=
  .ite .same .same

theorem threadWeightEffect_taken : SameStatus (threadWeightEffect n c (s.taken from')) (threadWeightEffect n c s) :=
  .ite .same .same

theorem puntQueueEffect_taken (tm : Bool) : SameStatus (puntQueueEffect tm n c (s.taken from')) (puntQueueEffect tm n c s) :=
  .ite .same (.ite .same .same)

theorem integratorWindowEffect_taken : SameStatus (integratorWindowEffect n c (s.taken from')) (integratorWindowEffect n c s) :=
  .ite .same (.ite .same .same)

theorem patternStopEffect_taken : SameStatus (patternStopEffect c (s.taken from')) (patternStopEffect c s) := by
  unfold patternStopEffect
  split <;> exact .same

theorem confirmEffect_taken : SameStatus (confirmEffect c (s.taken from')) (confirmEffect c s) := by
  refine .ite .same ?_
  rw [State.taken_fw]
  split
  · exact .same
  · exact .ite .same .same

theorem stageOpenEffect_taken : SameStatus (stageOpenEffect c (s.taken from')) (stageOpenEffect c s) := by
  refine .ite .same (.ite .same ?_)
  rw [State.taken_stageState, State.taken_fw]
  split
  · exact .same
  · exact .same
  · exact .same
  · exact .ite .same (.ite .same .same)

theorem meterSetEffect_taken : SameStatus (meterSetEffect c (s.taken from')) (meterSetEffect c s) := by
  refine .ite .same (.ite .same (.ite .same ?_))
  rw [State.taken_meters]
  split <;> exact .same

theorem mcastSetEffect_taken : SameStatus (mcastSetEffect c (s.taken from')) (mcastSetEffect c s) := by
  have hfirst (hs : List Nat) : (hs.findSome? fun h =>
      if (s.taken from').checkHandle 1 h = .ok then none else some ((s.taken from').checkHandle 1 h)) =
        hs.findSome? fun h => if s.checkHandle 1 h = .ok then none else some (s.checkHandle 1 h) := rfl
  refine .ite .same ?_
  dsimp only
  rw [hfirst]
  split
  · exact .same
  · exact .ite .same (.ite .same .same)

theorem queueSetEffect_taken : SameStatus (queueSetEffect c (s.taken from')) (queueSetEffect c s) := by
  refine .ite .same (.ite .same (.ite .same ?_))
  simp only [State.taken_tm]
  split
  · exact .same
  · split
    · exact .ite .same .same
    · exact .ite .same .same
    · exact .ite .same (.ite .same (.ite .same .same))

theorem schedSetEffect_taken : SameStatus (schedSetEffect c (s.taken from')) (schedSetEffect c s) := by
  refine .ite .same ?_
  rw [State.taken_targetOf]
  split
  · exact .same
  · exact .ite .same .same

theorem channelSetEffect_taken : SameStatus (channelSetEffect c (s.taken from')) (channelSetEffect c s) := by
  refine .ite .same ?_
  simp only [State.taken_checkHandle, State.taken_chan]
  split
  · refine .ite .same ?_
    split <;> exact .same
  · exact .same

theorem ringEnableEffect_taken : SameStatus (ringEnableEffect c (s.taken from')) (ringEnableEffect c s) := by
  refine .ite .same ?_
  simp only [State.taken_checkHandle, State.taken_chan]
  split
  · split
    · exact .same
    · split
      case h_3 => exact .ite .same .same
      all_goals exact .same
  · exact .same

theorem flushEffect_taken : SameStatus (flushEffect c (s.taken from')) (flushEffect c s) := by
  refine .ite .same ?_
  rw [State.taken_checkHandle, State.taken_tables]
  split
  · exact .ite .same .same
  · exact .same
  · exact .same

theorem clearEffect_taken : SameStatus (clearEffect c (s.taken from')) (clearEffect c s) := by
  have hon (kind : Nat) (f g : Nat → State) : SameStatus
      (match (s.taken from').checkHandle kind (beAt c 4 4) with
        | .ok => if byteAt c 1 = 0 ∧ beAt c 2 2 = 0 then (.ok, f (handleIndex (beAt c 4 4))) else (.range, s.taken from')
        | st => (st, s.taken from'))
      (match s.checkHandle kind (beAt c 4 4) with
        | .ok => if byteAt c 1 = 0 ∧ beAt c 2 2 = 0 then (.ok, g (handleIndex (beAt c 4 4))) else (.range, s)
        | st => (st, s)) := by
    rw [State.taken_checkHandle]
    split
    · exact .ite .same .same
    · exact .same
  refine .ite .same ?_
  split
  case h_2 => exact .ite .same .same
  case h_4 => exact hon 4 _ _
  case h_5 => exact hon 1 _ _
  case h_6 => exact hon 2 _ _
  case h_9 => exact .same
  all_goals exact .ite .same .same

theorem modeRequestEffect_taken : SameStatus (modeRequestEffect c (s.taken from')) (modeRequestEffect c s) := by
  unfold modeRequestEffect
  simp only [State.taken_mode]
  split
  · exact .same
  · refine .ite .same (.ite .same ?_)
    split
    · exact .ite (.ite .same .same) .same
    · exact .ite (.ite .same .same) .same
    · exact .ite (.ite .same .same) .same
    · exact .ite .same .same
    · exact .ite .same .same
    · exact .ite .same .same
    · exact .ite .same .same
    · exact .ite .same .same
    · exact .ite .same .same
    · exact .ite .same (.ite .same (.ite .same .same))
    · exact .ite .same .same
    · exact .ite (.ite .same .same) .same
    · exact .ite (.ite .same .same) .same
    · exact .ite (.ite .same .same) .same
    · exact .ite (.ite .same .same) (.ite .same .same)
    · exact .same

/-! ### Queries -/

theorem State.taken_iterTake (r : Region) (it : Iteration) : ∀ (k : Nat) (es : List (List Byte)) (x : Iteration),
    (s.taken from').iterTake r it k es x = s.iterTake r it k es x
  | 0, _, _ => rfl
  | k + 1, es, x => by
    have hitems : (s.taken from').iterItems r it.region = s.iterItems r it.region := rfl
    simp only [State.iterTake, hitems, State.taken_iterTake r it k]
    rfl

theorem State.nextIter_taken (r : Region) (k m : Nat) :
    byteAt ((s.taken from').nextIter r k m).1 0 = byteAt (s.nextIter r k m).1 0 := by
  unfold State.nextIter
  rw [State.taken_tables]
  split
  · rfl
  · simp only [State.taken_iterTake]
    split <;> rfl

theorem State.openIter_taken (ri : Nat) : byteAt ((s.taken from').openIter ri).1 0 = byteAt (s.openIter ri).1 0 := by
  unfold State.openIter
  rw [State.taken_tables]
  dsimp only
  split <;> rfl

theorem State.readRule_taken (r : RuleSet) (set pos : Nat) :
    byteAt ((s.taken from').readRule r set pos).1 0 = byteAt (s.readRule r set pos).1 0 := by
  unfold State.readRule
  rw [State.taken_tables]
  split <;> rfl

theorem State.readBlock_taken (r : RuleSet) (set b : Nat) :
    byteAt ((s.taken from').readBlock r set b).1 0 = byteAt (s.readBlock r set b).1 0 := rfl

theorem mcastAnswer_taken : SameAnswer (mcastAnswer c (s.taken from')) (mcastAnswer c s) :=
  .ite .same .same

theorem histogramAnswer_taken : SameAnswer (histogramAnswer c (s.taken from')) (histogramAnswer c s) :=
  .ite .same .same

theorem wrapAnswer_taken : SameAnswer (wrapAnswer c (s.taken from')) (wrapAnswer c s) :=
  .ite .same (.ite .same (.ite .same (.ite .same .same)))

theorem traceAnswer_taken : SameAnswer (traceAnswer c (s.taken from')) (traceAnswer c s) :=
  .ite .same (.ite .same .same)

theorem queueAnswer_taken : SameAnswer (queueAnswer c (s.taken from')) (queueAnswer c s) := by
  refine .ite .same ?_
  rw [State.taken_checkHandle, State.taken_tm]
  split
  · split
    · exact .ite .same .same
    · exact .same
  · exact .same

theorem schedAnswer_taken : SameAnswer (schedAnswer c (s.taken from')) (schedAnswer c s) := by
  refine .ite .same ?_
  simp only [State.taken_targetOf, State.taken_attach]
  split
  · exact .same
  · split <;> exact .same

theorem meterAnswer_taken : SameAnswer (meterAnswer c (s.taken from')) (meterAnswer c s) := by
  refine .ite .same ?_
  rw [State.taken_checkHandle, State.taken_meters]
  split <;> exact .same

theorem channelAnswer_taken : SameAnswer (channelAnswer c (s.taken from')) (channelAnswer c s) := by
  refine .ite .same ?_
  rw [State.taken_checkHandle, State.taken_chan]
  split <;> exact .same

theorem snapshotAnswer_taken : SameAnswer (snapshotAnswer c (s.taken from')) (snapshotAnswer c s) := by
  refine .ite .same ?_
  rw [State.taken_stats]
  split
  · exact .same
  · exact .ite (.ite .same (.ite .same (.ite .same .same))) (.ite .same (.ite .same (.ite .same .same)))

theorem counterSetAnswer_taken : SameAnswer (counterSetAnswer c (s.taken from')) (counterSetAnswer c s) := by
  refine .ite .same ?_
  rw [State.taken_checkHandle]
  split
  · exact .ite .same .same
  · exact .same

theorem ruleAnswer_taken : SameAnswer (ruleAnswer c (s.taken from')) (ruleAnswer c s) := by
  refine .ite .same ?_
  rw [State.taken_checkHandle, State.taken_tables]
  split
  · exact .ite .same (.ite (.ite .same ⟨rfl, State.readRule_taken ..⟩) (.ite .same ⟨rfl, State.readBlock_taken ..⟩))
  · exact .same
  · exact .same

theorem tableAnswer_taken : SameAnswer (tableAnswer c (s.taken from')) (tableAnswer c s) := by
  refine .ite .same ?_
  simp only [State.taken_checkHandle, State.taken_tables, State.taken_checkIter]
  split
  · refine .ite .same ?_
    split
    · exact .same
    · exact ⟨rfl, State.openIter_taken ..⟩
    · split
      · exact .ite ⟨rfl, State.nextIter_taken ..⟩ .same
      · exact .same
  · exact .same
  · exact .same

/-! ### The effect of a write -/

/-- Two effects that a table of effects gives: both none, or of one status. -/
def SameEffect (x y : Option (Status × State)) : Prop := x.map Prod.fst = y.map Prod.fst

theorem SameEffect.some {x y : Status × State} (h : SameStatus x y) : SameEffect (some x) (some y) := congrArg Option.some h

theorem SameEffect.getD {x y : Option (Status × State)} {a b : Status × State} (h : SameEffect x y) (hno : SameStatus a b) :
    SameStatus (x.getD a) (y.getD b) := by
  cases x with
  | none =>
    cases y with
    | none => exact hno
    | some y => exact absurd h (by simp [SameEffect])
  | some x =>
    cases y with
    | none => exact absurd h (by simp [SameEffect])
    | some y => exact Option.some.inj h

theorem SameEffect.ite {p : Prop} {hp hq : Decidable p} {x y z w : Option (Status × State)} (hyes : SameEffect x z) (hno : SameEffect y w) :
    SameEffect (@ite _ p hp x y) (@ite _ p hq z w) := by
  by_cases h : p
  · rwa [if_pos h, if_pos h]
  · rwa [if_neg h, if_neg h]

theorem State.queryEffect_taken (i j : Nat) : SameEffect ((s.taken from').queryEffect o i j c) (s.queryEffect o i j c) := by
  unfold State.queryEffect
  split
  · exact .some (tableAnswer_taken ..).into
  · exact .some (ruleAnswer_taken ..).into
  · exact .some (queueAnswer_taken ..).into
  · exact .some (mcastAnswer_taken ..).into
  · exact .some (schedAnswer_taken ..).into
  · exact .some (meterAnswer_taken ..).into
  · exact .some (channelAnswer_taken ..).into
  · exact .some (snapshotAnswer_taken ..).into
  · exact .some (wrapAnswer_taken ..).into
  · exact .some (counterSetAnswer_taken ..).into
  · exact .some (traceAnswer_taken ..).into
  · exact .some (histogramAnswer_taken ..).into
  · rfl

theorem State.commandEffect_taken (i j : Nat) : SameEffect ((s.taken from').commandEffect o i j c) (s.commandEffect o i j c) := by
  unfold State.commandEffect
  split
  · exact .some (resetRequestEffect_taken ..)
  · exact .some (modeRequestEffect_taken ..)
  · exact .some (ptpStepEffect_taken ..)
  · exact .some (flushEffect_taken ..)
  · exact .some (queueSetEffect_taken ..)
  · exact .some (mcastSetEffect_taken ..)
  · exact .some (schedSetEffect_taken ..)
  · exact .some (meterSetEffect_taken ..)
  · exact .some (watchUsEffect_taken ..)
  · exact .some (switchoverEffect_taken ..)
  · exact .some (faultRequestEffect_taken ..)
  · exact .some (channelSetEffect_taken ..)
  · exact .some (ringEnableEffect_taken ..)
  · exact .some (integratorRestartEffect_taken ..)
  · exact .some (clearEffect_taken ..)
  · exact .some (snapshotEffect_taken ..)
  · exact .some (ringResetEffect_taken ..)
  · exact .some (patternStartEffect_taken ..)
  · exact .some (patternStopEffect_taken ..)
  · exact .some (bistStartEffect_taken ..)
  · exact .some (healthClearEffect_taken ..)
  · exact .some (stageOpenEffect_taken ..)
  · exact .some (activateEffect_taken ..)
  · exact .some (confirmEffect_taken ..)
  · exact .some (revertEffect_taken ..)
  · rfl

theorem State.rangeEffect_taken (i j : Nat) : SameEffect ((s.taken from').rangeEffect o i j c) (s.rangeEffect o i j c) :=
  .ite (.some (rereadEffect_taken ..)) <|
  .ite (.some (portModeEffect_taken ..)) <|
  .ite (.some (portSliceEffect_taken ..)) <|
  .ite (.some (portAdminEffect_taken ..)) <|
  .ite (.some (stampPopEffect_taken ..)) <|
  .ite (.some (hbmDelaysEffect_taken ..)) <|
  .ite (.some (watchQueueEffect_taken ..)) <|
  .ite (.some (windowPortEffect_taken ..)) <|
  .ite (.some (windowEnableEffect_taken ..)) <|
  .ite (.some (lockForceEffect_taken ..)) <|
  .ite (.some (threadWeightEffect_taken ..)) <|
  .ite (.some (threadWeightEffect_taken ..)) <|
  .ite (.some (puntQueueEffect_taken ..)) <|
  .ite (.some (puntQueueEffect_taken ..)) <|
  .ite (.some (integratorWindowEffect_taken ..)) <|
  rfl

theorem State.plainEffect_taken (i j : Nat) : SameStatus ((s.taken from').plainEffect i j c) (s.plainEffect i j c) := .ite .same .same

theorem State.writeEffect_getD (i j : Nat) : s.writeEffect o i j c =
    (s.queryEffect o i j c).getD ((s.commandEffect o i j c).getD ((s.rangeEffect o i j c).getD (s.plainEffect i j c))) := by
  unfold State.writeEffect
  cases s.queryEffect o i j c with
  | some r => rfl
  | none => cases s.commandEffect o i j c <;> rfl

/-- The status of a write does not depend on the request that is served (R152). -/
theorem State.writeEffect_taken (i j : Nat) : ((s.taken from').writeEffect o i j c).1 = (s.writeEffect o i j c).1 := by
  rw [State.writeEffect_getD, State.writeEffect_getD]
  exact (State.queryEffect_taken s from' o c i j).getD <| (State.commandEffect_taken s from' o c i j).getD <|
    (State.rangeEffect_taken s from' o c i j).getD (State.plainEffect_taken s from' c i j)

/-- The checks of a BATCH_WRITE do not depend on the request that is served (R152). -/
theorem State.checkAdd_taken (role id i j : Nat) : (s.taken from').checkAdd role o id i j c = s.checkAdd role o id i j c := by
  simp only [State.checkAdd, State.writeEffect_taken]
  rfl

end
end Sys2Proof.Machine
end

section
/-! Batches: their opening, their writes, their commit, and their end (R131 to R136). -/

namespace Sys2Proof.Machine

/-- The end of a bare operation leaves the batch slots alone. -/
theorem State.withAnswer_batch (s : State) (o : Origin) (a : OpAns) (js : List (Nat × Job)) (k : Nat) :
    (s.withAnswer o a js).batch k = s.batch k := rfl

/-- A batch as BATCH_OPEN makes it: its generation, and nothing in it (R132). -/
def State.openedBatch (s : State) (k : Nat) : Batch :=
  { s.batch k with isOpen := true, ops := [], openedAt := s.epochs.changes, lastOp := s.now, committing := false }

theorem State.opBatchOpen_lowest {s : State} {o : Origin} {k : Nat} (hc : s.checkPlain o (plainReq 0x20 0 0 0 []) 0 0 .ok = .ok) (hk : k < 64)
    (hfree : (s.batch k).isOpen = false) (hlow : ∀ n, n < k → (s.batch n).isOpen = true) : ∃ a, a.data.length ≤ 65528 ∧
      s.opBatchOpen o (plainReq 0x20 0 0 0 []) = (some a, s.setBatch k (s.openedBatch k)) := by
  have hfind : ((List.range 64).find? fun n => !(s.batch n).isOpen) = some k := by
    rw [List.find?_range_eq_some]
    exact ⟨by simp [hfree], List.mem_range.mpr hk, fun n hn => by simp [hlow n hn]⟩
  refine ⟨dataAns 0x20 0 0 4 (numBytes o.be ((s.setBatch k (s.openedBatch k)).batchId k) 4),
    Nat.le_trans (Nat.le_of_eq (numBytes_length ..)) (by decide), ?_⟩
  simp only [State.opBatchOpen, hc, hfind, ne_eq, not_true_eq_false, if_false]
  rfl

/-- BATCH_OPEN opens the lowest free slot, empty, under its present generation (R131, R132). -/
theorem State.Quiet.batchOpen_opens {s : State} (hq : s.Quiet) {o : Origin} {k : Nat}
    (hc : s.checkPlain o (plainReq 0x20 0 0 0 []) 0 0 .ok = .ok) (hk : k < 64) (hfree : (s.batch k).isOpen = false)
    (hlow : ∀ n, n < k → (s.batch n).isOpen = true) : Completes (.batchOpen o) s fun t =>
      (t.batch k).isOpen = true ∧ (t.batch k).ops = [] ∧ (t.batch k).lastOp = s.now ∧ (t.batch k).gen = (s.batch k).gen := by
  obtain ⟨a, hroom, hopen⟩ := State.opBatchOpen_lowest (s := s.taken o) hc hk hfree hlow
  have hserve : (s.taken o).serveOp o s.acc.nextJob (plainReq 0x20 0 0 0 []) = _ := hopen
  obtain ⟨js, -, hrun⟩ := hq.runDirect_answers rfl hserve hroom rfl rfl hq.reset
  refine ⟨_, congrArg Host.Outcome.next hrun, ?_⟩
  simp only [State.withAnswer_batch, State.setBatch_batch]
  exact ⟨rfl, rfl, rfl, rfl⟩

/-- A batch to which a write was added (R132, R135). -/
def State.addedBatch (s : State) (o : Origin) (k i j : Nat) (v : List Byte) : Batch :=
  { s.batch k with
    ops := (s.batch k).ops ++ [{ origin := o, index := i, sub := j, data := canonical o.be (typeOf i j) v }], lastOp := s.now }

theorem State.MayAdd.opBatchWrite_adds {s : State} {o : Origin} {id i j : Nat} {v : List Byte} (h : s.MayAdd o id i j v) :
    ∃ a, a.data.length ≤ 65528 ∧
      s.opBatchWrite o (batchReq o id i j (typeOf i j).code v) = (some a, s.setBatch (id % 64) (s.addedBatch o (id % 64) i j v)) := by
  obtain ⟨hident, htarget, ⟨hcatchup, hshadow⟩, hadd⟩ := h
  have hnum : numAt o.be (numBytes o.be id 4 ++ v) 0 4 = id := numAt_append_left o.be hident v
  have hvalue : (numBytes o.be id 4 ++ v).drop 4 = v := List.drop_left' (numBytes_length ..)
  have hlen : ¬(numBytes o.be id 4 ++ v).length < 4 := by
    rw [List.length_append, numBytes_length]
    omega
  have hcanonical : canonical o.be (typeOf i j) ((numBytes o.be id 4 ++ v).drop 4) = canonical o.be (typeOf i j) v := by rw [hvalue]
  have hcheck : (s.checkTargetFor false (s.roleOf o) i j ((numBytes o.be id 4 ++ v).drop 4).length) = .ok := by rw [hvalue, htarget]
  refine ⟨dataAns 0x21 i j 4 (numBytes o.be (s.batch (id % 64)).ops.length 4),
    Nat.le_trans (Nat.le_of_eq (numBytes_length ..)) (by decide), ?_⟩
  simp only [State.opBatchWrite, batchReq, plainReq, hnum, hcanonical, hcheck, hlen, hcatchup, hshadow, hadd, reduceCtorEq, decide_false,
    Bool.or_self, Bool.false_and, Bool.false_eq_true, ne_eq, not_true_eq_false, or_self, if_false]
  rfl

/-- A command that is a BATCH_WRITE of an object's type adds its write wherever the checks pass (R132). -/
theorem adds_of_batchReq {c : Instr} {o : Origin} {id i j : Nat} {v : List Byte}
    (he : ∀ s, exec c s = .next (s.runDirect o (batchReq o id i j (typeOf i j).code v))) : Adds c o id i j v := by
  intro s hq hadd
  obtain ⟨a, hroom, hadds⟩ := State.MayAdd.opBatchWrite_adds (s := s.taken o)
    ⟨hadd.ident, hadd.target, hadd.mode, (State.checkAdd_taken ..).trans hadd.add⟩
  have hserve : (s.taken o).serveOp o s.acc.nextJob (batchReq o id i j (typeOf i j).code v) = _ := hadds
  obtain ⟨js, -, hrun⟩ := hq.runDirect_answers rfl hserve hroom rfl rfl hq.reset
  refine ⟨_, (he s).trans (congrArg Host.Outcome.next hrun), ?_⟩
  simp only [State.withAnswer_batch, State.setBatch_batch]
  exact ⟨rfl, rfl⟩

/-- BATCH_COMMIT queues the batch, and is answered later (R132, R136). -/
theorem State.Quiet.batchCommit_queues {s : State} (hq : s.Quiet) {o : Origin} {id : Nat} (hid : id < 2 ^ 32)
    (hc : s.checkPlain o (plainReq 0x22 0 0 4 (numBytes o.be id 4)) 4 4 (s.checkBatch id) = .ok)
    (hfree : (s.batch (id % 64)).committing = false) : Completes (.batchCommit o id) s fun t =>
      (t.batch (id % 64)).committing = true ∧ t.epochs.queue = s.epochs.queue ++ [.batch (id % 64) s.acc.nextJob] := by
  have hnum : numAt o.be (numBytes o.be id 4) 0 4 = id := numAt_numBytes o.be hid
  have hc' : (s.taken o).checkPlain o (plainReq 0x22 0 0 4 (numBytes o.be id 4)) 4 4 ((s.taken o).checkBatch id) = .ok := hc
  have hfree' : ((s.taken o).batch (id % 64)).committing = false := hfree
  have hserve : (s.taken o).serveOp o s.acc.nextJob (plainReq 0x22 0 0 4 (numBytes o.be id 4)) =
      (none, ((s.taken o).setBatch (id % 64) { (s.taken o).batch (id % 64) with committing := true, lastOp := s.now }).enqueueCommit
        (.batch (id % 64) s.acc.nextJob)) := by
    change (s.taken o).opBatchCommit o s.acc.nextJob (plainReq 0x22 0 0 4 (numBytes o.be id 4)) = _
    simp only [State.opBatchCommit, plainReq, hnum] at hc' ⊢
    simp only [hc', hfree', ne_eq, not_true_eq_false, if_false, Bool.false_eq_true]
    rfl
  refine ⟨_, congrArg Host.Outcome.next (hq.runDirect_waits rfl hserve rfl rfl), ?_, rfl⟩
  exact congrArg Batch.committing (State.setBatch_batch ..)

theorem State.closeBatch_closed (s : State) (k : Nat) : ((s.closeBatch k).batch k).isOpen = false ∧ ((s.closeBatch k).batch k).ops = [] := by
  rw [State.closeBatch, State.setBatch_batch]
  exact ⟨rfl, rfl⟩

/-- BATCH_ABORT closes a batch that no commit holds (R132). -/
theorem State.Quiet.batchAbort_closes {s : State} (hq : s.Quiet) {o : Origin} {id : Nat} (hid : id < 2 ^ 32)
    (hc : s.checkPlain o (plainReq 0x23 0 0 4 (numBytes o.be id 4)) 4 4 (s.checkBatch id) = .ok)
    (hfree : (s.batch (id % 64)).committing = false) : Completes (.batchAbort o id) s fun t =>
      (t.batch (id % 64)).isOpen = false ∧ (t.batch (id % 64)).ops = [] := by
  have hnum : numAt o.be (numBytes o.be id 4) 0 4 = id := numAt_numBytes o.be hid
  have hc' : (s.taken o).checkPlain o (plainReq 0x23 0 0 4 (numBytes o.be id 4)) 4 4 ((s.taken o).checkBatch id) = .ok := hc
  have hfree' : ((s.taken o).batch (id % 64)).committing = false := hfree
  have hserve : (s.taken o).serveOp o s.acc.nextJob (plainReq 0x23 0 0 4 (numBytes o.be id 4)) =
      (some (bareAns 0x23 .ok 0 0), (s.taken o).closeBatch (id % 64)) := by
    change (s.taken o).opBatchAbort o (plainReq 0x23 0 0 4 (numBytes o.be id 4)) = _
    simp only [State.opBatchAbort, plainReq, hnum] at hc' ⊢
    simp only [hc', hfree', ne_eq, not_true_eq_false, if_false, Bool.false_eq_true]
  obtain ⟨js, -, hrun⟩ := hq.runDirect_answers rfl hserve (Nat.zero_le _) rfl rfl hq.reset
  exact ⟨_, congrArg Host.Outcome.next hrun, State.closeBatch_closed (s.taken o) (id % 64)⟩

/-- A batch that has been idle for its time is closed (R135). -/
theorem execBatchIdleExpiry_closes {k : Nat} {s : State} (hk : k < 64) (hopen : (s.batch k).isOpen = true)
    (hfree : (s.batch k).committing = false) : Completes (.batchIdleExpiry k) s fun t =>
      (t.batch k).isOpen = false ∧ (t.batch k).ops = [] ∧ (s.batch k).lastOp + s.reg 0x5C00 3 * 1000000000 ≤ t.now := by
  let closed := (s.reach ((s.batch k).lastOp + s.reg 0x5C00 3 * 1000000000)).closeBatch k
  have hbatch : (closed.bump 0x5C00 4).batch k = closed.batch k := by simp only [State.batch, State.bump_count, State.count_fields]
  have hnow : (closed.bump 0x5C00 4).now = closed.now := by simp only [State.bump_count, State.count_fields]
  refine ⟨closed.bump 0x5C00 4, ?_, ?_⟩
  · change execBatchIdleExpiry k s = _
    simp only [execBatchIdleExpiry, hopen, hfree, Nat.not_le.mpr hk, Bool.not_true, Bool.false_eq_true, or_self, if_false, closed]
  · obtain ⟨hclosed, hempty⟩ := State.closeBatch_closed (s.reach ((s.batch k).lastOp + s.reg 0x5C00 3 * 1000000000)) k
    rw [hbatch, hnow]
    exact ⟨hclosed, hempty, Nat.le_max_right ..⟩

/-! ### The steps of a commit (R177) -/

/-- Where the first commit has no failure and needs no move before it, its content goes to the mate and is staged (R177 steps 1 to 3). -/
theorem State.stageFirst_stages {s : State} {c : Committer} {rest : List Committer} (hfirst : s.epochs.queue = c :: rest)
    (hlayout : (s.noteDrain.settleTables.draftOf c).layout = none)
    (hok : lowestFailure (s.noteDrain.settleTables.draftOf c).failures = none) : ∃ program,
      s.stageFirst = (s.noteDrain.settleTables.sendCommit c (s.noteDrain.settleTables.draftOf c)).1.stageDraft program
        (s.noteDrain.settleTables.draftOf c) (s.noteDrain.settleTables.sendCommit c (s.noteDrain.settleTables.draftOf c)).2 := by
  refine ⟨(s.noteDrain.settleTables.commitOps c).any changesProgram, ?_⟩
  simp only [State.stageFirst, hfirst, hlayout, hok]

/-- The version that a draft is staged as (R177 steps 2 and 3). -/
def Draft.staging (d : Draft) (cur : Version) (program : Bool) (ticket : Option Nat) : Staging :=
  { version := d.v.inBank cur program, later := d.later, layout := false, program := program, ticket := ticket, counts := d.counts
    touched := d.touched }

/-- To stage a draft changes what is staged, and nothing else of the epochs. -/
theorem State.stageDraft_epochs (s : State) (program : Bool) (d : Draft) (ticket : Option Nat) :
    (s.stageDraft program d ticket).epochs = { s.epochs with staged := some (d.staging s.epochs.cur program ticket) } :=
  (State.wakeForProgram_keeps (Covers.refl _) .start).epochs_same rfl

theorem State.stageDraft_acc (s : State) (program : Bool) (d : Draft) (ticket : Option Nat) : (s.stageDraft program d ticket).acc = s.acc :=
  (State.stageDraft_keeps (Covers.refl _) .start).acc_same rfl

theorem State.sendCommit_beside (s : State) (c : Committer) (d : Draft) :
    (s.noteDrain.settleTables.sendCommit c d).1.acc = s.acc ∧ (s.noteDrain.settleTables.sendCommit c d).1.epochs = s.epochs := by
  have hsend := State.sendCommit_keeps (s := s.noteDrain.settleTables) (c := c) (d := d) (Covers.refl _) .start
  have hdrain : s.noteDrain.acc = s.acc ∧ s.noteDrain.epochs = s.epochs := ⟨rfl, rfl⟩
  exact ⟨(hsend.acc_same rfl).trans hdrain.1, (hsend.epochs_same rfl).trans hdrain.2⟩

/-- Once OLDER has drained, the first commit is staged where nothing of it fails (R177 steps 1 to 3). -/
theorem State.Quiet.epochDrainDone_stages {s : State} (hq : s.Quiet) {c : Committer} {rest : List Committer} (hmay : s.mayStage = true)
    (hfirst : s.epochs.queue = c :: rest) (hlayout : (s.noteDrain.settleTables.draftOf c).layout = none)
    (hok : lowestFailure (s.noteDrain.settleTables.draftOf c).failures = none) : Completes .epochDrainDone s fun t =>
      (∃ g, t.epochs.staged = some g ∧ g.layout = false) ∧ t.epochs.queue = c :: rest ∧ t.epochs.current = s.epochs.current := by
  obtain ⟨program, hstage⟩ := State.stageFirst_stages hfirst hlayout hok
  obtain ⟨hacc, hepochs⟩ := s.sendCommit_beside c (s.noteDrain.settleTables.draftOf c)
  have hdone : s.drainDone = s.stageFirst := by simp only [State.drainDone, hmay, if_true]
  refine ⟨s.stageFirst, ?_, ?_⟩
  · change execEpochDrainDone s = _
    rw [execEpochDrainDone, hdone, hq.settle_eq (by rw [hstage, State.stageDraft_acc, hacc])]
  · simp only [hstage, State.stageDraft_epochs, hepochs]
    exact ⟨⟨_, rfl, rfl⟩, hfirst, trivial⟩

/-- What a commit has changed is noted beside the epochs themselves (R134). -/
theorem State.noteChanges_epochs (ts : List Target) (s : State) :
    ∃ n l, (ts.foldl State.noteChange s).epochs = { s.epochs with changes := n, changed := l } := by
  induction ts generalizing s with
  | nil => exact ⟨_, _, rfl⟩
  | cons t ts ih =>
    obtain ⟨n, l, h⟩ := ih (s.noteChange t)
    exact ⟨n, l, h⟩

/-- An internal commit is counted, and its changes are noted; requests are left alone (R134, R234). -/
theorem State.noteCommit_internal (s : State) (ops : List OwnChange) (g : Staging) :
    (s.noteCommit (.internal ops) g).acc = s.acc ∧
      ∃ n l, (s.noteCommit (.internal ops) g).epochs = { s.epochs with changes := n, changed := l } := by
  have hcount : On inS 0x1000000000000000000000000100000 s (g.counts.foldl (fun s n => s.bump 0x5805 n) (s.bump 0x5805 6)) :=
    .foldl (State.bump_keeps (.of_land rfl) (.of_land rfl) .start) fun _ _ h => State.bump_keeps (.of_land rfl) (.of_land rfl) h
  have hnote : On inS 0x8 _ (s.noteCommit (.internal ops) g) :=
    .foldl .start fun _ _ h => State.noteChange_keeps (Covers.refl _) h
  obtain ⟨n, l, hepochs⟩ := State.noteChanges_epochs g.touched (g.counts.foldl (fun s n => s.bump 0x5805 n) (s.bump 0x5805 6))
  exact ⟨(hnote.acc_same rfl).trans (hcount.acc_same rfl), n, l, hepochs.trans (by rw [hcount.epochs_same rfl])⟩

theorem State.popCommit_internal {s : State} {ops : List OwnChange} {rest : List Committer} (hfirst : s.epochs.queue = .internal ops :: rest) :
    s.popCommit = { s with epochs := { s.epochs with queue := rest, waitingSince := s.now, staged := none } } := by
  simp only [State.popCommit, hfirst, List.tail_cons]

/-- The epochs after every lane has begun to stamp CURRENT + 1 (R177 step 4). -/
def State.advancedEpochs (s : State) (g : Staging) : Epochs :=
  { s.epochs with current := s.nextEpoch, cur := g.version, old := s.epochs.cur, staged := none, waitingSince := s.crossIters.now }

/-- The turn of the lanes, told to the mate, changes no request (R177 step 4). -/
theorem State.flip_beside (s : State) (g : Staging) : ((s.crossIters.flip g).sendMarkOf s.nextEpoch).acc = s.acc ∧
    ((s.crossIters.flip g).sendMarkOf s.nextEpoch).epochs = s.advancedEpochs g := by
  have hcross : On inS 0x1000000000000000000000000100010 s s.crossIters := State.crossIters_keeps (Covers.refl _) .start
  have hmark : On inS 0x20200 (s.crossIters.flip g) ((s.crossIters.flip g).sendMarkOf s.nextEpoch) :=
    State.sendMarkOf_keeps (Covers.refl _) .start
  have hacc : (s.crossIters.flip g).acc = s.crossIters.acc := rfl
  have hflip : (s.crossIters.flip g).epochs = s.advancedEpochs g := by
    simp only [State.flip, State.advancedEpochs, State.nextEpoch, hcross.epochs_same rfl]
  exact ⟨(hmark.acc_same rfl).trans (hacc.trans (hcross.acc_same rfl)), (hmark.epochs_same rfl).trans hflip⟩

/-- What is staged of an internal commit takes effect as CURRENT + 1, and the commit leaves the queue (R177 steps 4 and 5). -/
theorem State.finishStage_internal {s : State} {ops : List OwnChange} {rest : List Committer} {g : Staging}
    (hfirst : s.epochs.queue = .internal ops :: rest) (hlater : g.later = []) (hlayout : g.layout = false) :
    (s.finishStage (.internal ops) g).acc = s.acc ∧ (s.finishStage (.internal ops) g).epochs.current = s.nextEpoch ∧
      (s.finishStage (.internal ops) g).epochs.cur = g.version ∧ (s.finishStage (.internal ops) g).epochs.old = s.epochs.cur ∧
      (s.finishStage (.internal ops) g).epochs.staged = none ∧ (s.finishStage (.internal ops) g).epochs.queue = rest := by
  have hfinish : s.finishStage (.internal ops) g =
      (((s.crossIters.flip g).sendMarkOf s.nextEpoch).noteCommit (.internal ops) g).popCommit := by
    simp only [State.finishStage, hlater, State.applyLater, hlayout, Bool.false_eq_true, if_false, Committer.job]
  obtain ⟨hflipAcc, hflip⟩ := s.flip_beside g
  obtain ⟨hacc, n, l, hepochs⟩ := ((s.crossIters.flip g).sendMarkOf s.nextEpoch).noteCommit_internal ops g
  rw [hflipAcc] at hacc
  rw [hflip] at hepochs
  have hqueue : (((s.crossIters.flip g).sendMarkOf s.nextEpoch).noteCommit (.internal ops) g).epochs.queue = .internal ops :: rest := by
    rw [hepochs]
    exact hfirst
  rw [hfinish, State.popCommit_internal hqueue, hepochs]
  exact ⟨hacc, rfl, rfl, rfl, rfl, rfl⟩

/-- The lanes advance to what is staged of an internal commit (R177 step 4). -/
theorem State.Quiet.epochAdvance_advances {s : State} (hq : s.Quiet) {ops : List OwnChange} {rest : List Committer} {g : Staging}
    (hfirst : s.epochs.queue = .internal ops :: rest) (hstaged : s.epochs.staged = some g) (hprogram : g.program = false)
    (hlater : g.later = []) (hlayout : g.layout = false) (hticket : g.ticket = none) : Completes .epochAdvance s fun t =>
      t.epochs.current = (s.epochs.current + 1) % 65536 ∧ t.epochs.cur = g.version ∧ t.epochs.old = s.epochs.cur ∧
        t.epochs.staged = none ∧ t.epochs.queue = rest := by
  obtain ⟨hacc, hcurrent, hcur, hold, hgone, hqueue⟩ := State.finishStage_internal hfirst hlater hlayout
  have hadvance : s.advance = s.finishStage (.internal ops) g := by
    simp only [State.advance, hfirst, hstaged, hprogram, hticket, Bool.false_eq_true, false_and, if_false]
  have hcopy : On inS 0x20200 (s.finishStage (.internal ops) g) (s.finishStage (.internal ops) g).tryCopy :=
    State.tryCopy_keeps (Covers.refl _) .start
  refine ⟨(s.finishStage (.internal ops) g).tryCopy, ?_, ?_⟩
  · change execEpochAdvance s = _
    rw [execEpochAdvance, hadvance, hq.settle_eq ((hcopy.acc_same rfl).trans hacc)]
  · simp only [hcopy.epochs_same rfl]
    exact ⟨hcurrent, hcur, hold, hgone, hqueue⟩

/-- Settles O11: a batch lives in its slot from its opening to its commit or its end, and a commit goes through the steps of R177. -/
theorem batchOperationsComplete : Obligations.BatchOperationsComplete := by
  refine ⟨?open_, ?write, ?install, ?restore, ?insert, ?delete, ?rule, ?ruleDelete, ?ruleAction, ?commit, ?abort, ?idle, ?drain, ?advance⟩
  case open_ => exact fun o k s hq hc hk hfree hlow => hq.batchOpen_opens hc hk hfree hlow
  case commit => exact fun o id s hq hid hc hfree => hq.batchCommit_queues hid hc hfree
  case abort => exact fun o id s hq hid hc hfree => hq.batchAbort_closes hid hc hfree
  case idle => exact fun k s hk hopen hfree => execBatchIdleExpiry_closes hk hopen hfree
  case drain => exact fun c rest s hq hmay hfirst hlayout hok => hq.epochDrainDone_stages hmay hfirst hlayout hok
  case advance =>
    exact fun ops rest g s hq hfirst hstaged hprogram hlater hlayout hticket =>
      hq.epochAdvance_advances hfirst hstaged hprogram hlater hlayout hticket
  all_goals
    intros
    exact adds_of_batchReq fun _ => rfl

end Sys2Proof.Machine
end

section
/-! The times of the protected pair, the lanes of the mate link, and writes of registers without a row of their own (R117, R356 to R382,
R443 to R445). -/

namespace Sys2Proof.Machine

/-! ### What has waited long enough (R363, R365, R376) -/

/-- An entry that has waited is passed over as a leg miss (R365). -/
def State.passEntry (s : State) (e : MateEntry) : State :=
  let s1 := s.reach (e.since + s.reg 0x9000 0x0B * 1000)
  let extras := s1.pair.extras ++ (e.own.toList.map fun (f : OwnFrame) => (f.source, f.ordinal))
  ({ s1 with pair := { s1.pair with entries := s1.pair.entries.erase e, extras := extras } }).legMiss e.admits

theorem State.passEntry_now (s : State) (e : MateEntry) : (s.passEntry e).now = max s.now (e.since + s.reg 0x9000 0x0B * 1000) :=
  (State.legMiss_keeps (Covers.refl _) .start).now_same rfl

theorem State.passEntry_refused (s : State) {e : MateEntry} (he : e.admits = false) :
    (s.passEntry e).pair.entries = s.pair.entries.erase e := by
  simp only [State.passEntry, State.legMiss, he, Bool.false_eq_true, if_false, State.bump_count, State.count_fields]
  rfl

theorem State.applyEntries_nil {s : State} (h : s.pair.entries = []) (fuel : Nat) : State.applyEntries fuel s = s := by
  cases fuel with
  | zero => rfl
  | succ fuel => simp only [State.applyEntries, h]

/-- The k-th entry that has waited VERDICT_WAIT_US is passed over, and the entries after it apply (R365). -/
theorem execVerdictWaitExpiry_entry {s : State} {k : Nat} {e : MateEntry} (n : Nat) (hk : s.pair.entries[k]? = some e) :
    Completes (.verdictWaitExpiry 0 n k) s fun t =>
      e.since + s.reg 0x9000 0x0B * 1000 ≤ t.now ∧ (s.pair.entries = [e] → e.admits = false → t.pair.entries = []) := by
  let u := s.passEntry e
  refine ⟨State.applyEntries (u.pair.entries.length + 1) u, ?_, ?_, ?_⟩
  · change execVerdictWaitExpiry 0 n k s = _
    simp only [execVerdictWaitExpiry, hk]
    rfl
  · rw [(State.applyEntries_keeps (Covers.refl _) .start).now_same rfl, s.passEntry_now e]
    exact Nat.le_max_right ..
  · intro honly hrefused
    have hempty : u.pair.entries = [] := by rw [s.passEntry_refused hrefused, honly, List.erase_cons_head]
    rw [State.applyEntries_nil hempty]
    exact hempty

/-- The k-th frame that has waited is a leg extra (R365). -/
theorem execVerdictWaitExpiry_frame {s : State} {k : Nat} {f : OwnFrame} (n : Nat) (hk : s.pair.frames[k]? = some f) :
    exec (.verdictWaitExpiry 1 n k) s = .next ((s.reach (f.since + s.reg 0x9000 0x0B * 1000)).legExtra f) := by
  change execVerdictWaitExpiry 1 n k s = _
  simp only [execVerdictWaitExpiry, hk]

/-- The bit of a fabric packet that has waited is dropped (R376). -/
theorem execVerdictWaitExpiry_fabricBit {s : State} {k : Nat} {b : FabricBit} (n : Nat) (hk : s.pair.fabricBits[k]? = some b) :
    Completes (.verdictWaitExpiry 2 n k) s fun t =>
      t.pair.fabricBits = s.pair.fabricBits.erase b ∧ b.since + s.reg 0x9000 0x0B * 1000 ≤ t.now := by
  let u : State := s.reach (b.since + s.reg 0x9000 0x0B * 1000)
  let v : State := { u with pair := { u.pair with fabricBits := u.pair.fabricBits.erase b } }
  refine ⟨v.bump 0x9001 6, ?_, ?_⟩
  · change execVerdictWaitExpiry 2 n k s = _
    simp only [execVerdictWaitExpiry, hk]
    rfl
  · simp only [State.bump_count, State.count_fields]
    exact ⟨rfl, Nat.le_max_right ..⟩

/-- A packet that waits at Breakwater for a verdict of the stream is refused (R366). -/
theorem execVerdictWaitExpiry_waiting {s : State} {n k : Nat} {w : Waiting} (hk : (s.tmSlice n).waiting[k]? = some w) (hs : s.standby = true)
    (hnone : s.streamVerdict w = none) (hbound : w.copy.isSome = true ∨ w.fromFabric = true) :
    exec (.verdictWaitExpiry 3 n k) s = .next ((s.bump 0x9001 7).refuseShadow n w) := by
  have hmine : ¬(w.copy.isNone = true ∧ (!w.fromFabric) = true) := by
    rintro ⟨hno, hown⟩
    rcases hbound with hcopy | hfabric
    · rw [Option.isNone_iff_eq_none.mp hno] at hcopy
      exact absurd hcopy (by decide)
    · rw [hfabric] at hown
      exact absurd hown (by decide)
  change execVerdictWaitExpiry 3 n k s = _
  simp only [execVerdictWaitExpiry, hk, hs, hnone, hmine, Bool.not_true, Bool.false_eq_true, Option.isSome_none, or_self, if_false]

/-- A COPY_VERDICT that has waited is dropped (R376). -/
theorem execVerdictWaitExpiry_copyBit {s : State} {k : Nat} {c : CopyBits} (n : Nat) (hk : s.pair.copyBits[k]? = some c) :
    Completes (.verdictWaitExpiry 4 n k) s fun t =>
      t.pair.copyBits = s.pair.copyBits.erase c ∧ c.since + s.reg 0x9000 0x0B * 1000 ≤ t.now := by
  let u : State := s.reach (c.since + s.reg 0x9000 0x0B * 1000)
  refine ⟨{ u with pair := { u.pair with copyBits := u.pair.copyBits.erase c } }, ?_, rfl, Nat.le_max_right ..⟩
  change execVerdictWaitExpiry 4 n k s = _
  simp only [execVerdictWaitExpiry, hk]
  rfl

/-- The oldest open block of a source is flushed, and blocks that may close do (R363). -/
theorem execVerdictFlush_flushes {s : State} {source : Nat} {b : OpenBlock}
    (hfirst : s.pair.blocks.find? (fun b => decide (b.source = source) && !b.flushed) = some b) : Completes (.verdictFlush source) s fun t =>
      ∃ u : State, u.now = max s.now (b.first + s.reg 0x9000 0x0A) ∧
        u.pair.blocks = s.pair.blocks.map (fun x => if x = b then { x with flushed := true } else x) ∧ t = State.closeBlocks 161 u := by
  let s1 := s.reach (b.first + s.reg 0x9000 0x0A)
  let u : State := { s1 with pair := { s1.pair with
    blocks := s1.pair.blocks.map fun x => if x = b then { x with flushed := true } else x } }
  refine ⟨State.closeBlocks 161 u, ?_, u, rfl, rfl, rfl⟩
  change execVerdictFlush source s = _
  simp only [execVerdictFlush, hfirst]
  rfl

/-! ### Digests, marks, and verdicts of fabric packets (R375, R376, R382) -/

/-- A digest that the active closes goes to the mate, and the next begins empty (R382). -/
theorem State.closeDigest_active {s : State} (hrole : s.role = 1) (n : Nat) : ((s.closeDigest n).digest n).entries = 0 ∧
    ((s.closeDigest n).digest n).number = ((s.digest n).number + 1) % 2 ^ 32 ∧ (s.closeDigest n).now = s.now := by
  let d := s.digest n
  let u := s.setDigest n
    { Digest.reset with number := (d.number + 1) % 2 ^ 32, since := s.now, own := d.own, mate := d.mate, matched := d.matched }
  let rec_ := typedRecord 0x4A (natBe n 1 ++ [0] ++ natBe d.entries 2 ++ natBe d.number 4 ++ natBe d.value 8)
  have hclose : s.closeDigest n = (u.sendRecord rec_).1 := by simp only [State.closeDigest, hrole, if_true, u, d, rec_]
  obtain ⟨-, -, -, -, -, -, -, -, hdigests, -⟩ := Pair.beside_parts (u.sendRecord_beside rec_)
  have hdigest : (u.sendRecord rec_).1.digest n = u.digest n := by rw [State.digest, hdigests, State.digest]
  have hsend : On inS 0x20200 u (u.sendRecord rec_).1 := .fst (State.sendRecord_keeps (Covers.refl _) .start)
  rw [hclose, hdigest, s.setDigest_digest, hsend.now_same rfl]
  exact ⟨rfl, rfl, rfl⟩

/-- 1 ms after its first entry the digest of an active ends (R382). -/
theorem execDigestClose_closes {s : State} {n : Nat} (hn : n < 16) (hsome : (s.digest n).entries ≠ 0) (hpair : s.activeInPair = true) :
    Completes (.digestClose n) s fun t => (t.digest n).entries = 0 ∧ (t.digest n).number = ((s.digest n).number + 1) % 2 ^ 32 ∧
      (s.digest n).since + 1000000 ≤ t.now := by
  let u := s.reach ((s.digest n).since + 1000000)
  have hrole : u.role = 1 := by
    simp only [State.activeInPair, Bool.and_eq_true, decide_eq_true_eq] at hpair
    exact hpair.1
  obtain ⟨hentries, hnumber, hnow⟩ := State.closeDigest_active hrole n
  refine ⟨u.closeDigest n, ?_, hentries, hnumber, ?_⟩
  · change execDigestClose n s = _
    simp only [execDigestClose, hpair, hsome, Nat.not_le.mpr hn, Bool.not_true, Bool.false_eq_true, or_self, if_false, u]
  · rw [hnow]
    exact Nat.le_max_right ..

/-- Contexts whose DONE_SEQ has advanced are marked, and the interval begins anew (R375). -/
theorem execDepartureInterval_marks {s : State} (hmate : s.mateInShadow = true) : Completes .departureInterval s fun t =>
    t.pair.lastMark = t.now ∧ s.pair.lastMark + s.reg 0x9000 0x0D * 1000 ≤ t.now ∧ OnlyIn [.pair, .output, .time] s t := by
  let u := s.reach (s.pair.lastMark + s.reg 0x9000 0x0D * 1000)
  have hmarks (ks : List Nat) : On inS 0x20200 u (ks.foldl (fun s k => (s.sendMark k).1) u) :=
    .foldl .start fun _ _ h => .fst (State.sendMark_keeps (Covers.refl _) h)
  have hrun : ∃ (ks : List Nat) (turn : Nat), execDepartureInterval s = .next { ks.foldl (fun s k => (s.sendMark k).1) u with
      pair := { (ks.foldl (fun s k => (s.sendMark k).1) u).pair with
        lastMark := (ks.foldl (fun s k => (s.sendMark k).1) u).now, markTurn := turn } } := by
    simp only [execDepartureInterval, hmate, Bool.not_true, Bool.false_eq_true, if_false]
    exact ⟨_, _, rfl⟩
  obtain ⟨ks, turn, hrun⟩ := hrun
  refine ⟨_, hrun, rfl, ?_, .of_next (execDepartureInterval_keeps (.of_land rfl) .start) hrun⟩
  change _ ≤ (ks.foldl (fun s k => (s.sendMark k).1) u).now
  rw [(hmarks ks).now_same rfl]
  exact Nat.le_max_right ..

theorem State.sendFabricVerdict_beside (s : State) (x : OpenFabric) : (s.sendFabricVerdict x).pair.beside = s.pair.beside :=
  s.sendRecord_beside _

theorem Pair.beside_openFabric {p q : Pair} (h : p.beside = q.beside) : p.openFabric = q.openFabric := (congrArg Pair.openFabric h :)

/-- The open record of fabric verdicts of a unit and class goes out (R376). -/
theorem execFabricVerdictFlush_sends {s : State} {unit cls : Nat} {x : OpenFabric}
    (hopen : s.pair.openFabric.find? (fun x => decide (x.unit = unit) && decide (x.cls = cls)) = some x) :
    Completes (.fabricVerdictFlush unit cls) s fun t =>
      t.pair.openFabric = s.pair.openFabric.erase x ∧ x.since + s.reg 0x9000 0x0E * 1000 ≤ t.now := by
  let s1 := s.reach (x.since + s.reg 0x9000 0x0E * 1000)
  let u : State := { s1 with pair := { s1.pair with openFabric := s1.pair.openFabric.erase x } }
  have hsend : On inS 0x20200 u (u.sendFabricVerdict x) := .fst (State.sendRecord_keeps (Covers.refl _) .start)
  refine ⟨u.sendFabricVerdict x, ?_, Pair.beside_openFabric (u.sendFabricVerdict_beside x), ?_⟩
  · change execFabricVerdictFlush unit cls s = _
    simp only [execFabricVerdictFlush, hopen]
    rfl
  · rw [hsend.now_same rfl]
    exact Nat.le_max_right ..

/-! ### Lanes (R356, R357, R361) -/

/-- A lane with cells not acknowledged goes back at its timeout (R357). -/
theorem execMateReplayTimeout_goesBack {s : State} {k : Nat} (hk : k < 8) (hsome : (s.lane k).unacked ≠ []) :
    exec (.mateReplayTimeout k) s = .next ((s.reach ((s.lane k).lastAdvance + s.reg 0x3605 2)).goBackLane k) := by
  change execMateReplayTimeout k s = _
  simp only [execMateReplayTimeout, List.isEmpty_iff, hsome, Nat.not_le.mpr hk, or_self, if_false]

/-- A lane that has just failed: its cells not acknowledged wait for other lanes, ahead of new ones (R357). -/
def State.laneFailed (s : State) (k : Nat) : State :=
  let again := ((s.lane k).unacked ++ (s.lane k).resend).map fun c => { c with seq := none }
  let u := ((s.setReg 0x3600 k 6).bump 0x3604 k).setLane k { MateLane.reset with failedSince := s.now }
  { u with pair := { u.pair with waiting := again ++ u.pair.waiting } }

theorem State.failLane_eq {s : State} {k : Nat} (hk : k < 8) (hoff : s.reg 0x3600 k ≠ 0) (hfailed : s.reg 0x3600 k ≠ 6) :
    s.failLane k = ((s.laneFailed k).abortTestOn 2 k).pumpMate :=
  if_neg (by omega)

theorem State.laneFailed_reg {s : State} (hs : s.StoresRise) (k : Nat) : (s.laneFailed k).reg 0x3600 k = 6 := by
  have hother : okey 0x3600 k ≠ okey 0x3604 k := by
    unfold okey
    omega
  have hobjs : (s.laneFailed k).objs = ((s.setReg 0x3600 k 6).count 0x3604 k 1).objs := by
    simp only [State.laneFailed, State.setLane_fields, State.bump_count]
  calc (s.laneFailed k).reg 0x3600 k
    _ = ((s.setReg 0x3600 k 6).count 0x3604 k 1).reg 0x3600 k := by rw [State.reg, State.reg, hobjs]
    _ = (s.setReg 0x3600 k 6).reg 0x3600 k := State.count_other _ 1 hother
    _ = 6 := State.setReg_reg s 0x3600 k 6 hs.objs

/-- A lane in service that fails reads FAILED (R357). -/
theorem State.failLane_fails {s : State} (hs : s.StoresRise) {k : Nat} (hk : k < 8) (hoff : s.reg 0x3600 k ≠ 0) (hfailed : s.reg 0x3600 k ≠ 6) :
    (s.failLane k).reg 0x3600 k = 6 := by
  have hkeeps : On inS 0x1000000000000000000000000000000000000000600000000000000f3c200 (s.laneFailed k)
      ((s.laneFailed k).abortTestOn 2 k).pumpMate :=
    State.pumpMate_keeps (.of_land rfl) (State.abortTestOn_keeps (.of_land rfl) .start)
  rw [State.failLane_eq hk hoff hfailed, hkeeps.reg_same k rfl, State.laneFailed_reg hs k]

/-- The new MODE read changes no register of the mate lanes. -/
theorem State.modeRead_keeps (s : State) (m : Mode) : On inS 0x10002000000000000001000030000000001120d22 s (s.modeRead m) := by
  have hread : On inS 0x10002000000000000001000030000000001120d22 s
      (((s.setMs fun x => { x with mode := m, target := none }).setReg 0x2000 3 s.mode.code).bump 0x2000 4) :=
    State.bump_keeps (.of_land rfl) (.of_land rfl) <| State.setReg_keeps (.of_land rfl) <|
      State.setMs_keeps (.of_land rfl) (.inr (.of_land rfl)) .start
  exact .ite hread (State.wakeAll_keeps (.of_land rfl) hread)

/-- From CATCHUP, the entry into BRINGUP changes no register. -/
theorem State.onEnter_bringup_objs (s : State) : (s.onEnter .catchup .bringup).objs = s.objs := rfl

/-- Left alone, a standby in CATCHUP goes to BRINGUP, and keeps the registers of its mate lanes (R73, R385). -/
theorem State.standbyAlone_lanes (s : State) (k : Nat) : s.standbyAlone.reg 0x3600 k = s.reg 0x3600 k := by
  unfold State.standbyAlone
  dsimp only
  split
  case isFalse => rfl
  case isTrue hcatchup =>
    let u := (s.breakPair true).abortRequest
    have hu : On inS 0x2 (s.breakPair true) u := State.abortRequest_keeps (Covers.refl _) .start
    have hmode : u.mode = .catchup := by simp only [u, State.abortRequest_same, hcatchup]
    have henter : ((u.modeRead .bringup).onEnter u.mode .bringup).reg 0x3600 k = (u.modeRead .bringup).reg 0x3600 k := by
      rw [hmode, State.reg, State.onEnter_bringup_objs, State.reg]
    rw [State.autoMode, State.completeMode_eq _ (by decide),
      (State.refreshIdentity_keeps (Covers.refl _) .start).reg_same k rfl, henter, (u.modeRead_keeps .bringup).reg_same k rfl,
      hu.reg_same k rfl]
    rfl

/-- MATE_LANE_FAIL: the lane reads FAILED, whether or not the link is lost with it (R357). -/
theorem execMateLaneFail_fails {s : State} (hs : s.StoresRise) {k : Nat} (hk : k < 8) (hoff : s.reg 0x3600 k ≠ 0)
    (hfailed : s.reg 0x3600 k ≠ 6) : Completes (.mateLaneFail k) s fun t => t.reg 0x3600 k = 6 := by
  have hlane := State.failLane_fails hs hk hoff hfailed
  refine ⟨_, rfl, ?_⟩
  dsimp only
  split
  · exact hlane
  · exact (State.standbyAlone_lanes _ k).trans hlane

/-- 10 ms after its failure a lane trains again (R357). -/
theorem execMateLaneRetrain_trains {s : State} (hs : s.StoresRise) {k : Nat} (hk : k < 8) (hfailed : s.reg 0x3600 k = 6) :
    Completes (.mateLaneRetrain k) s fun t => t.reg 0x3600 k = 1 ∧ (s.lane k).failedSince + 10000000 ≤ t.now := by
  refine ⟨(s.reach ((s.lane k).failedSince + 10000000)).setReg 0x3600 k 1, ?_, State.setReg_reg _ _ _ _ hs.objs, ?_⟩
  · change execMateLaneRetrain k s = _
    simp only [execMateLaneRetrain, hfailed, Nat.not_le.mpr hk, ne_eq, not_true_eq_false, or_self, if_false]
  · simp only [State.setReg_fields]
    exact Nat.le_max_right ..

/-! A record that enters the stream leaves the IDENTITY last sent. -/

theorem State.sendNextRecord_sentIdentity (s : State) (k : Nat) : (s.sendNextRecord k).pair.sentIdentity = s.pair.sentIdentity := by
  unfold State.sendNextRecord
  dsimp only
  split
  · rfl
  split <;> rfl

theorem State.pumpMate_sentIdentity (s : State) : s.pumpMate.pair.sentIdentity = s.pair.sentIdentity := by
  unfold State.pumpMate
  refine foldl_leaves (fun u : State => u.pair.sentIdentity) (fun u k => ?_) _ _
  exact foldl_leaves (fun u : State => u.pair.sentIdentity) (fun v _ => v.sendNextRecord_sentIdentity k) _ _

theorem State.sendRecord_sentIdentity (s : State) (r : List Byte) : (s.sendRecord r).1.pair.sentIdentity = s.pair.sentIdentity := by
  unfold State.sendRecord
  dsimp only
  rw [State.pumpMate_sentIdentity]
  refine foldl_leaves (fun u : State => u.pair.sentIdentity) ?_ _ _
  exact fun _ _ => rfl

/-- The link is up while one of its lanes reads UP (R361). -/
theorem State.mateLinkUp_of_lane {s : State} {k : Nat} (hk : k < 8) (hup : s.reg 0x3600 k = 3) : s.mateLinkUp = true := by
  have hmem : k ∈ s.lanesUp := List.mem_filter.mpr ⟨List.mem_range.mpr hk, decide_eq_true hup⟩
  rw [State.mateLinkUp, Bool.not_eq_true', List.isEmpty_eq_false_iff]
  exact List.ne_nil_of_mem hmem

/-- A lane that reaches UP. -/
def State.laneUpAt (s : State) (k : Nat) : State := (s.setReg 0x3600 k 3).setLane k { s.lane k with lastAdvance := s.now }

/-- The first lane that is UP sends IDENTITY (R361). -/
def State.firstLaneUp (s : State) : State :=
  (({ s with pair := { s.pair with sentIdentity := s.identity } }).sendRecord (typedRecord 0x41 s.identity)).1

theorem State.firstLaneUp_identity (s : State) : s.firstLaneUp.pair.sentIdentity = s.identity := by
  rw [State.firstLaneUp, State.sendRecord_sentIdentity]

theorem State.firstLaneUp_keeps (s : State) : On inS 0x20200 s s.firstLaneUp := by
  refine .fst (State.sendRecord_keeps (Covers.refl _) ?_)
  exact On.mk (s := s) .start .k .k .k .k .k .k .k .k .k (.m (.of_land rfl) rfl) .k .k .k .k .k .k .k

theorem State.laneUpAt_reg {s : State} (hs : s.StoresRise) (k : Nat) : (s.laneUpAt k).reg 0x3600 k = 3 := by
  have hobjs : (s.laneUpAt k).objs = (s.setReg 0x3600 k 3).objs := by simp only [State.laneUpAt, State.setLane_fields]
  rw [State.reg, hobjs]
  exact s.setReg_reg 0x3600 k 3 hs.objs

/-- A lane in training reaches UP; where it is the first, IDENTITY goes out before any other record (R361). -/
theorem execMateLinkUp_rises {s : State} (hs : s.StoresRise) {k : Nat} (hk : k < 8) (hpair : s.pairEnabled = true) (hmode : s.mode ≠ .dormant)
    (hheld : s.reg 0x3601 k ≠ 0) (htraining : s.reg 0x3600 k ∈ [1, 2]) : Completes (.mateLinkUp k) s fun t =>
      t.reg 0x3600 k = 3 ∧ t.mateLinkUp = true ∧
        (s.mateLinkUp = false → t.pair.sentIdentity = ((s.setReg 0x3600 k 3).setLane k { s.lane k with lastAdvance := s.now }).identity) := by
  have hin : (decide (s.reg 0x3600 k = 1) || decide (s.reg 0x3600 k = 2)) = true := by simpa using htraining
  have hrun : execMateLinkUp k s = .next (if s.mateLinkUp then (s.laneUpAt k).pumpMate else (s.laneUpAt k).firstLaneUp) := by
    simp only [execMateLinkUp, hpair, hmode, hheld, hin, Nat.not_le.mpr hk, Bool.not_true, Bool.false_eq_true, or_self, if_false]
    rfl
  have hreg : (if s.mateLinkUp then (s.laneUpAt k).pumpMate else (s.laneUpAt k).firstLaneUp).reg 0x3600 k = 3 := by
    rw [← State.laneUpAt_reg hs k]
    split
    · exact (State.pumpMate_keeps (Covers.refl _) .start).reg_same k rfl
    · exact (State.firstLaneUp_keeps _).reg_same k rfl
  refine ⟨_, hrun, hreg, State.mateLinkUp_of_lane hk hreg, fun hfirst => ?_⟩
  simp only [hfirst, Bool.false_eq_true, if_false]
  exact State.firstLaneUp_identity _

/-- The payloads that a RECORDS cell completes join the record stream in order (R357, R359). -/
theorem execMateRecordsCell_feeds {s : State} {k : Nat} {cell : List Byte} (hkind : mateKind cell = 1) :
    exec (.mateRecordsCell k cell) s = .next ((s.recvMate k cell).2.foldl State.feedCell (s.recvMate k cell).1).settle := by
  change execMateRecordsCell k cell s = _
  simp only [execMateRecordsCell, hkind, ne_eq, not_true_eq_false, and_false, if_false]

/-- An IDLE cell on a lane that is UP delivers its acknowledgements (R356). -/
theorem execMateIdleCell_acknowledges {s : State} {k : Nat} {cell : List Byte} (hk : k < 8) (hup : s.laneUp k = true)
    (hgood : mateGood cell = true) (hkind : mateKind cell = 0) : exec (.mateIdleCell k cell) s = .next (s.takeMateAck k cell) := by
  have hrecv : s.recvMate k cell = (s.takeMateAck k cell, []) := by
    simp [State.recvMate, hup, hgood, hkind, hk]
  change execMateIdleCell k cell s = _
  simp only [execMateIdleCell, hkind, hrecv, ne_eq, not_true_eq_false, and_false, if_false]

/-- Settles O28: what has waited goes on, lanes fail, train and carry their cells, and registers take what is written. It rests on choices
of the model: what may be served is served inside the same command (log entry 50), a busy window's registers and buffer take writes (70),
and a BAR register with a row of its own takes none here (71); that IDENTITY goes out once for all lanes (110) is deduced. -/
theorem pairTimesAndLanesComplete : Obligations.PairTimesAndLanesComplete := by
  refine ⟨?flush, ?entry, ?frame, ?fabricBit, ?waiting, ?copyBit, ?digest, ?departure, ?fabric, ?replay, ?fail, ?retrain, ?linkUp, ?records,
    ?idle, ?object, ?bar⟩
  case flush => exact fun source b s hfirst => execVerdictFlush_flushes hfirst
  case entry => exact fun n k e s hk => execVerdictWaitExpiry_entry n hk
  case frame => exact fun n k f s hk => ⟨_, execVerdictWaitExpiry_frame n hk, rfl⟩
  case fabricBit => exact fun n k b s hk => execVerdictWaitExpiry_fabricBit n hk
  case waiting => exact fun n k w s hk hs hnone hbound => ⟨_, execVerdictWaitExpiry_waiting hk hs hnone hbound, rfl⟩
  case copyBit => exact fun n k c s hk => execVerdictWaitExpiry_copyBit n hk
  case digest => exact fun n s hn hsome hpair => execDigestClose_closes hn hsome hpair
  case departure => exact fun s hmate => execDepartureInterval_marks hmate
  case fabric => exact fun unit cls x s hopen => execFabricVerdictFlush_sends hopen
  case replay => exact fun k s hk hsome => ⟨_, execMateReplayTimeout_goesBack hk hsome, rfl⟩
  case fail => exact fun k s hs hk hoff hfailed => execMateLaneFail_fails hs hk hoff hfailed
  case retrain => exact fun k s hs hk hfailed => execMateLaneRetrain_trains hs hk hfailed
  case linkUp => exact fun k s hs hk hpair hmode hheld htraining => execMateLinkUp_rises hs hk hpair hmode hheld htraining
  case records => exact fun k cell s _ _ _ hkind => ⟨_, execMateRecordsCell_feeds hkind, rfl⟩
  case idle => exact fun k cell s hk hup hgood hkind => ⟨_, execMateIdleCell_acknowledges hk hup hgood hkind, rfl⟩
  case object =>
    intro o i p v s hs hq hi hok
    have hhold : holdTime i := by simpa [holdTime] using hi
    exact ⟨_, rfl, hq.write_holdTime hs hhold hok⟩
  case bar => exact fun bar off bytes s => ⟨_, rfl, rfl⟩

end Sys2Proof.Machine
end
